-- ==== Sys2Proof/Word.lean ====
section
/-! DEFINITION. The word types of the KRY-48C192. -/

namespace Sys2Proof

/-- One 32-bit register dword (R47). -/
abbrev Word := BitVec 32

/-- One byte of DRAM or SRAM. -/
abbrev Byte := BitVec 8

end Sys2Proof
end

