-- ==== Sys2Proof/Syntax.lean ====
section
/-! DEFINITION. The commands the block takes: `Instr`, one constructor per row of spec/opcode_table.json, and the
messages and findings they carry. A finding is what the hardware or the world shows at that moment (a check's outcome, a
converter's code, a frame's contents); the spec fixes what the part does with it. -/

namespace Sys2Proof

/-- A time of the Tally: seconds, nanoseconds and fraction in units of 2^-32 ns (R121). -/
structure Time where
  s : Nat
  ns : Nat
  fr : Nat
  deriving DecidableEq, Repr, Inhabited

/-- The outcome of a SECDED check of data as read (R388). -/
inductive Ecc
  | ok
  /-- a single-bit error -/
  | single
  /-- an uncorrectable error -/
  | double
  deriving DecidableEq, Repr, Inhabited

/-- The memories of PKG.ECC_LAST.MEM (R411). -/
inductive Mem
  | region (n : Fin 4) | hub | hearth | dram
  deriving DecidableEq, Repr

/-- The fault classes of R382. -/
inductive FaultClass
  | ce | uc | fatal
  deriving DecidableEq, Repr

/-- A Flue collector, or the Hearth at the top (R383). -/
inductive Coll
  | cluster (c : Fin 48) | region (n : Fin 4) | cd (d : Fin 2) | hb | ht | package | hearth
  deriving DecidableEq, Repr

/-- A Flue report: its class, source page and cause bit (R384), and the SG_LAST of a stall for Ash INFO (R402). -/
structure Report where
  cls : FaultClass
  page : Nat
  bit : Nat
  info : Word
  deriving DecidableEq, Repr

/-- An event on its way to the posting engine: class, source page and payload dwords (R439, R440). -/
structure Event where
  cls : Nat
  page : Nat
  payload : List Word
  deriving DecidableEq, Repr

/-- A cell, system or twin lane; the physical-layer rows act on each kind (R280, R458). -/
inductive LaneId
  | cell (c : Fin 48) | sys (n : Fin 8) | twin (n : Fin 4)
  deriving DecidableEq, Repr

/-- The domain whose guard fires (R105). -/
inductive StallSite
  | lanePath (c : Fin 48) | region (n : Fin 4) | die (d : Fin 2) | hub | hearth
  deriving DecidableEq, Repr

/-- An uplink MEAS message (R310). -/
structure Meas where
  bank : Bool
  vmask : BitVec 8
  range : BitVec 8
  ts : BitVec 44
  vals : Vector (BitVec 16) 8
  deriving DecidableEq, Repr

/-- One valid word of an uplink TRANS message (R312). -/
structure TransRep where
  leg : BitVec 3
  sw : Bool
  turnOn : Bool
  inc : Bool
  noplat : Bool
  seq : BitVec 4
  d10 : BitVec 16
  d90 : BitVec 16
  dplat : BitVec 16
  deriving DecidableEq, Repr

/-- The flag words W1 and W2 of a TRIP message (R323). -/
structure TripFlags where
  desat : BitVec 12
  uvlo : BitVec 12
  oc : BitVec 6
  boot : BitVec 6
  link : BitVec 8
  deriving DecidableEq, Repr

/-- An uplink TRIP message (R323). -/
structure Trip where
  id : BitVec 8
  kind : BitVec 4
  index : BitVec 4
  ts : BitVec 44
  latched : TripFlags
  active : TripFlags
  deriving DecidableEq, Repr

/-- STAT page 0 (R326). -/
structure Stat0 where
  mode : BitVec 2
  follow : BitVec 2
  bypClosed : Bool
  bypOpen : Bool
  pcOn : Bool
  conflict : Bool
  cack : BitVec 4
  cnak : Bool
  cfgOk : Bool
  fpkg : BitVec 10
  epoch : Word
  tcap : BitVec 8
  ths : BitVec 8
  tbrd : BitVec 8
  tsw : BitVec 8
  health : BitVec 16
  stSeq : BitVec 4
  stDone : Bool
  stRefused : Bool
  desatPass : BitVec 12
  vdsPass : BitVec 12
  deriving DecidableEq, Repr

/-- An uplink STAT message by page (R326). -/
inductive Stat
  | page0 (s : Stat0)
  | page1 (badfr seqgap ilk late ignored conflicts : BitVec 16)
  | page2 (ver legs : BitVec 4) (s2f : BitVec 16)
  | other (page : BitVec 4)
  deriving DecidableEq, Repr

/-- A TIMEECHO message (R316). -/
structure Echo where
  xid : BitVec 8
  t2 : BitVec 44
  t3 : BitVec 44
  deriving DecidableEq, Repr

/-- A disturbance of one section's arithmetic (R167): the MAC lane, the accumulation it meets, counted from 0 in the order of
R164 and R165, and the errors it adds to the accumulator and to the value converted from it. -/
structure Upset where
  lane : Fin 4
  step : Nat
  acc : Int
  conv : Int
  deriving DecidableEq, Repr

/-- What disturbs one executed section and its retry (R167, R168), and the worst SECDED outcome of each memory read (R170). -/
structure SectionFinding where
  first : List Upset
  retry : List Upset
  stateEcc : Ecc
  slotEcc : Ecc
  secEcc : Ecc
  deriving DecidableEq, Repr

/-- A PTP event message as the port sees it (R152): its transport, messageType, domainNumber and sequenceId. -/
structure PtpMsg where
  transport : Fin 3
  msgType : BitVec 4
  domain : BitVec 8
  seqId : BitVec 16
  deriving DecidableEq, Repr

/-- A system-lane packet without its checks (R460). -/
structure Pkt where
  type : BitVec 8
  coarse : Bool
  /-- KIND in [15:14], package or group in [9:0] -/
  dst : BitVec 16
  src : BitVec 10
  hops : BitVec 8
  seq : BitVec 8
  payload : List Word
  deriving DecidableEq, Repr

/-- What the receive checks of a system-lane packet show (R462, R464): a bad header stops it before forwarding, a bad
body after. -/
inductive PktCheck
  | good | badHeader | badBody
  /-- it ended with K30.7 -/
  | aborted
  deriving DecidableEq, Repr

/-- An ASL-T packet without its CRC (R415). -/
structure TwinPkt where
  type : BitVec 8
  rgn : Fin 4
  cyc : Word
  ofs : Word
  epoch : Word
  payload : List Word
  deriving DecidableEq, Repr

/-- The commands: one constructor per row of the table. -/
inductive Instr
  -- host accesses and pages (02)
  | registerWrite (addr : BitVec 25) (be : BitVec 4) (v : Word)
  | hostBar0Read (addr : BitVec 25) (wide : Bool)
  | hostBar2Write (off : BitVec 27) (data : List Byte)
  | hostBar2Read (off : BitVec 27) (len : BitVec 12) (ecc : Ecc)
  | hostBar4Read (off : BitVec 23) (len : BitVec 12) (ecc : Ecc)
  | hostBar4Write (off : BitVec 23)
  | injArm (page : BitVec 13) (chk : BitVec 4) (bit : BitVec 8)
  | pageLock (page : BitVec 13) (key : BitVec 16)
  -- region cycle (01, 05, 07)
  | cycT0NsRead (n : Fin 4)
  | cycEnSet (n : Fin 4)
  | cycEnClear (n : Fin 4)
  | boundary (n : Fin 4)
  | inputDeadline (n : Fin 4)
  | abacusSection (n : Fin 4) (f : SectionFinding)
  | outputDeadline (n : Fin 4) (ilk : List (Fin 192 × BitVec 2))
  | carrierPeriodStart (u : Fin 192)
  | edgeWordLate (u : Fin 192)
  | hdCommit (u : Fin 192)
  | sminRst (n : Fin 4)
  | hostSlotWrite (n : Fin 4) (slot : Fin 1024) (v : Word)
  | stateWordWrite (n : Fin 4) (x : Fin 2048) (v : Word)
  | fbSet (n : Fin 4) (q : Fin 64)
  -- configuration sets (02)
  | setcopy
  | setCopyDone
  | swapArm
  | swapDisarm
  | swapChecksComplete
  | swapDecision
  | crcPassComplete (upset : Bool)
  -- fabric (03)
  | stallGuardFire (site : StallSite) (ret : Bool) (chan : BitVec 16)
  | handshakeProtocolError (site : StallSite) (ret : Bool) (chan : BitVec 16)
  | dualRailCodeError (site : StallSite) (chan : BitVec 16)
  | bistFenceRaised (n : Fin 4)
  | damperFrameStart
  | damperGateOpen
  -- Tally, PLL, network time (04)
  | tallyTick (upset : List (Fin 110)) (ref : Bool)
  | tallyNowRead
  | incFracWrite (v : Word)
  | incNsCommit (v : BitVec 4)
  | tallyStep (adj : Bool)
  | nofsWrite (v : BitVec 24)
  | pllSettled
  | pllLockAcquired
  | lockedSet
  | lockedClear
  | pllSlip
  | holdoverRefclkEdge (upset : List (Fin 110))
  | gatesReopen
  | holdExpired
  | refLost
  | freqCheckWindow (count : BitVec 11)
  | captureEdge (k : Fin 32) (falling : Bool) (sub : Fin 40)
  | captureRead (k : Fin 32)
  | timedOutputDue (m : Fin 16)
  | timedOutputPulseEnd (m : Fin 16)
  | ptpRxTimestamp (p : Fin 2) (m : PtpMsg) (sub : Fin 40)
  | ptpTxTimestamp (p : Fin 2) (m : PtpMsg) (sub : Fin 40) (corr : BitVec 64)
  | rxKeyRead (p : Fin 2)
  | txKeyRead (p : Fin 2)
  -- clusters (08, 12)
  | cmdPrecharge (c : Fin 48)
  | cmdRun (c : Fin 48)
  | cmdStop (c : Fin 48)
  | cmdOff (c : Fin 48)
  | cmdTest (c : Fin 48)
  | cmdBypass (c : Fin 48)
  | cmdUnbypass (c : Fin 48)
  | cmdClear (c : Fin 48)
  | cmdLockout (c : Fin 48)
  | prechargeTimeout (c : Fin 48)
  | bypassTimeout (c : Fin 48)
  | censusMaskRepeat
  | censusMaskAged (n : Fin 4) (g : Fin 4)
  | adcPlanTrigger (n : Fin 4) (k : Fin 64)
  | stReqGo (c : Fin 48) (desat : BitVec 12) (vds : BitVec 12)
  | ceSelftestTimeout (c : Fin 48)
  -- cell lanes (09, 10)
  | downlinkSlot (c : Fin 48) (sub : Fin 40)
  | uplinkBadFrame (c : Fin 48)
  | idleFrameReceived (c : Fin 48) (syndrome : BitVec 16) (copy : Bool)
  | measReceived (c : Fin 48) (syndrome : BitVec 16) (copy : Bool) (m : Meas)
  | transReceived (c : Fin 48) (syndrome : BitVec 16) (copy : Bool) (reps : Vector (Option TransRep) 4)
  | tripReceived (c : Fin 48) (syndrome : BitVec 16) (copy : Bool) (t : Trip)
  | statReceived (c : Fin 48) (syndrome : BitVec 16) (copy : Bool) (s : Stat)
  | timeechoReceived (c : Fin 48) (syndrome : BitVec 16) (copy : Bool) (e : Echo) (sub : Fin 40)
  | pingStart (c : Fin 48)
  | exchangeLost (c : Fin 48)
  | skipGap (l : LaneId) (fill : BitVec 8)
  | commaAligned (l : LaneId)
  | cdrLockLost (l : LaneId)
  | codeViolation (l : LaneId) (since : Nat)
  | noFrameTimeout (c : Fin 48)
  | elasticBufferError (l : LaneId)
  | acquireTimeout (l : LaneId)
  | syncTimeout (c : Fin 48)
  | laneRetryTimeout (l : LaneId)
  | laneRetrain (c : Fin 48)
  | laneFomRst (c : Fin 48)
  | adaptStep (l : LaneId) (ctle : BitVec 4) (taps : Vector (BitVec 7) 3)
  | adaptFreeze (l : LaneId)
  | fomMeasure (l : LaneId) (mv : Rat)
  | cmdResend (c : Fin 48)
  | roleRepeat (c : Fin 48)
  -- analogue front end (11)
  | adcNcmd (a : Fin 16) (ch : Fin 4)
  | adcUcmd (a : Fin 16) (ch : Fin 4)
  | adcCal (a : Fin 16)
  | adcCalComplete (a : Fin 16) (gain ofs : BitVec 12) (atLimit : Bool)
  | adcConversionComplete (a : Fin 16) (volts : Rat)
  | adcConvTimeout (a : Fin 16)
  | adcDataRead (a : Fin 16)
  | wcCrossing (k : Fin 64) (volts : Rat)
  | wcSettled (k : Fin 64) (volts : Rat)
  | wcSelftestGo (k : Fin 64)
  | wcSelftestDone (k : Fin 64) (decH decL : Option (BitVec 16)) (hReturned : Bool) (volts : Rat)
  | emberTick (volts : Vector Rat 4)
  -- protection (12)
  | tripnTransition (p : Fin 8) (active : Bool)
  | chopfbTransition (p : Fin 8) (active : Bool)
  | chopTmaxOnExpiry (p : Fin 8)
  | chopTminOffExpiry (p : Fin 8)
  -- Flue and Hearth (13)
  | flueReportArrive (dst : Coll) (child : Fin 32) (r : Report)
  | fatalLine (r : Report)
  | hearthConditionQualify (e : Fin 32)
  | hearthRel (plea : Bool)
  | hearthPlea (level : BitVec 3) (rgmask : BitVec 4)
  | hearthCopyMismatch (diff : BitVec 32)
  | aliveToggle
  | supplyOutOfRange (rail : Fin 8)
  | scrubAccess (m : Mem) (word : BitVec 24) (ecc : Ecc)
  | haltGuardSample
  | haltGuardExpiry
  | sealedUpdateGo (img : BitVec 8)
  | sealedUpdateDone
  | freezeRequest
  | freezePoint
  | freezeRelease
  -- twin (14)
  | roleRxEdge (since : Nat)
  | roleRxTimeout
  | twinTake (force : Bool)
  | twinHandover
  | hoReqReceived (d : Time) (epoch : Word)
  | hoAckReceived (d : Time)
  | hoNakReceived (d : Time)
  | hoAnswerTimeout
  | handoverTime
  | helloReceived (pair : BitVec 16) (pkg : BitVec 10) (role : BitVec 2) (crc epoch : Word)
  | helloRepeat
  | twinLinkTimeout
  | copyReceived (n : Fin 4) (cyc ofs : Word) (data : List Word)
  | copyEndReceived (n : Fin 4) (cyc len digest crc : Word)
  | healthRepeat
  | healthReceived (h0 h1 h2 : Word)
  | twinReadyTimeout
  | twinConflictDetect
  -- event queues and recorder (15)
  | eventPost (e : Event) (mis : List (Fin 8))
  | ovfMove (q : Fin 8) (mis : Bool)
  | eqNext (q : Fin 8) (mis : Bool)
  | eqRelease (q : Fin 8) (mis : Bool)
  | eqMark (q : Fin 8) (mis : Bool)
  | eqRewind (q : Fin 8) (mis : Bool)
  | eqQreset (q : Fin 8)
  | eqPeakRst (q : Fin 8)
  | eqPost (q : Fin 8) (v : Word) (mis : Bool)
  | recorderFrameWrite
  | recEnable
  | recDisable
  | recStop
  | recRearm
  | recTrig
  | ashCopy
  -- system network (16)
  | slLinkReceived (l : Fin 12) (pkg : BitVec 10) (port : Fin 8)
  | slLinkRepeat (l : Fin 12)
  | slNolinkTimeout (l : Fin 12)
  | slRetrain (l : Fin 12)
  | slFomRst (l : Fin 12)
  | slPacketReceived (port : Fin 8) (p : Pkt) (chk : PktCheck) (sub : Fin 40)
  | slPacketTransmit (port : Fin 8) (sub : Fin 40)
  | sysTripSet (groups : BitVec 16)
  | sysTripClr (groups : BitVec 16)
  | sysTripRepeat
  | sysTripReceived
  | sysTripTimeout (g : Fin 16)
  | sysTreqStart
  | treqReceived
  | trespReceived
  | sysExchangeLost
  | swapGo
  | swapPacketReceived
  | planGo
  | planReceived
  | reportReceived
  | rptRst
  | maskReceived
  | pointReceived
  | raGo
  | rreqReceived
  | rrspReceived
  | raTimeout
  -- Kindling, Ember, thermal (17, 19)
  | porstNFall
  | porstNRise (strap : BitVec 2)
  | hearthSelfCheckDone (ok : Bool)
  | pcieLinkUp
  | dramTrained (ok : Bool)
  | bootImageRead (img : Option (List Byte))
  | kctlImgGo (img : BitVec 8)
  | imageLoad
  | kindlingComplete
  | pkgReset
  | dieReset (dies : BitVec 2)
  | regionReset (rgs : BitVec 4)
  | regionResetDone (n : Fin 4)
  | pciePerstFall
  | pciePerstRise
  | ecntRead
  | xtalStable
  | xtalFail
  | emberSleep
  | sleepDelayExpiry
  | emberAlarm
  | tempSample (t grad : Vector (BitVec 12) 14)
  | thermalOffEntry
  | thermalRestart
  | thermPeakRst
  -- self-test, key, counted store (18)
  | bistStart (rgs : BitVec 4)
  | bistAbort (rgs : BitVec 4)
  | bistComplete (n : Fin 4) (sig : BitVec 64) (sigOk : Bool) (bad : Option (BitVec 24))
  | standbyBistStart
  | umark (key : BitVec 16) (rgs : BitVec 4)
  | lbistHubStart
  | lbistHrtStart
  | lbistComplete (pass : Bool) (sig : BitVec 64)
  | keyProg
  | keyProgDone (ok : Bool)
  | zeroise
  | cstoreWrite (slot : Fin 16)
  | cstoreWriteDone (ok : Bool)
  -- rows after the Ember and timers
  | vembPowerOn
  | crystalResume
  | supplyReturn (rail : Fin 8)
  | hearthConditionCease (e : Fin 32)
  | healthAgeExpiry
  | kindlingPllTimeout
  | sensorReadingTimeout (t : Fin 14)
  | gpioRise (k : Fin 32)
  -- the TAP (18)
  | tapExtest
  | tapIdcode
  | tapSamplePreload
  | tapClamp
  | tapHighz
  | tapExtestPulse
  | tapExtestTrain
  | tapHalt
  | tapScanInt
  | tapLbistHub
  | tapLbistHrt
  | tapBypass
  deriving DecidableEq, Repr

end Sys2Proof
end

