-- ==== Sys2Proof/Decode.lean ====
section
/-! DEFINITION. The table gives no row any bits: a command reaches the block as a command, not as a word. -/

namespace Sys2Proof

/-- The command a word spells: none, since spec/opcode_table.json gives its rows no bits (log entry 10). -/
def decodeTableWord (_nbits _w : Nat) : Option Instr := none

end Sys2Proof
end

