-- ==== Sys2Proof/Config.lean ====
section
/-! DEFINITION. The free values: values the spec leaves open. Opaque, so no proof can see one; each is applied to
`Dev.freeCtr`, which the step advances, or to the operands it depends on. -/

namespace Sys2Proof

/-- A free dword: what a read of on-chip SRAM returns whose word the spec does not publish (R411), or the data of an
uncorrectable read (R49, R50). Log entry 9. -/
opaque Config.freeWord : Nat → BitVec 32

/-- A free byte of a BAR2 or BAR4 read that ends poisoned (R49, R50). Log entry 9. -/
opaque Config.freeByte : Nat → BitVec 8

/-- The code that an 8-bit signed field shows for a temperature that it cannot hold: TMAX, PEAK and TJ_DIE are signed
degrees, and readings go to 180 degrees (R500, R510). Log entry 9. -/
opaque Config.tempCode : Int → BitVec 8

/-- What a recorder descriptor records beyond the range of its kind, at a tick count, for its kind, region and index (R450). Log
entry 180. -/
opaque Config.recBeyond : Nat → Nat → Nat → Nat → BitVec 32

/-- The region number that a refusal for claims shows, for the resource in conflict: a resource of the package belongs to no
region (R72). Log entry 57. -/
opaque Config.claimRegion : Nat → BitVec 2

end Sys2Proof
end

