-- ==== Sys2Proof/Machine/Field.lean ====
section
/-! DEFINITION. Register fields: access codes (R6), valid values (R10), and reading and writing one field of a dword. -/

namespace Sys2Proof.Machine

/-- The access codes of R6. -/
inductive Acc
  | ro | rw | rws | live | w1c | wo | seal | cnt
  deriving DecidableEq, Repr

/-- Which values a field's description leaves defined (R10). -/
inductive Dom
  /-- every value of the width -/
  | any
  /-- from `lo` to `hi` -/
  | range (lo hi : Nat)
  /-- a signed value of the given width with magnitude at most `bound` -/
  | sgn (wid bound : Nat)
  /-- every nibble 0 to 7 or 0xF (ports of R463, R477, R478) -/
  | nib
  /-- a capture source of R151 -/
  | capSrc
  /-- a SWAP destination of R477: KIND 1 or 2 -/
  | dst
  deriving DecidableEq, Repr

/-- The nibbles of `v`, `n` of them, are ports 0 to 7 or 0xF. -/
def nibblesOk : Nat → Nat → Bool
  | 0, _ => true
  | n + 1, v => (v % 16 < 8 || v % 16 == 15) && nibblesOk n (v / 16)

/-- Two's complement reading of the low `wid` bits of `v`. -/
def toSigned (wid v : Nat) : Int :=
  let m := v % 2 ^ wid
  if m < 2 ^ (wid - 1) then (m : Int) else (m : Int) - (2 ^ wid : Nat)

/-- Two's complement code of `x` in `wid` bits. -/
def ofSigned (wid : Nat) (x : Int) : Nat := (x % (2 ^ wid : Nat)).toNat

/-- Does the description define value `v` (R10)? -/
def Dom.ok (d : Dom) (wid v : Nat) : Bool :=
  match d with
  | .any => true
  | .range lo hi => decide (lo ≤ v) && decide (v ≤ hi)
  | .sgn w b => decide ((toSigned w v).natAbs ≤ b)
  | .nib => nibblesOk (wid / 4) v
  | .capSrc => decide (v ≤ 0x20) || (decide (0x28 ≤ v) && decide (v ≤ 0x2F))
  | .dst => v / 0x4000 == 1 || v / 0x4000 == 2

/-- One field of a register table: where it lies in its page, its access code, its reset value, its array shape and
its defined values. -/
structure Field where
  off : Nat
  lo : Nat
  wid : Nat
  acc : Acc
  reset : Nat
  stride : Nat
  cnt : Nat
  dom : Dom
  deriving DecidableEq, Repr

/-- Offset of element `i` of the field in its page of 4 KB; element numbers count modulo the array's length. -/
def Field.at (f : Field) (i : Nat) : Nat := (f.off + i % f.cnt * f.stride) % 0x1000

/-- Largest value of the field. -/
def Field.max (f : Field) : Nat := 2 ^ f.wid - 1

/-- The bits of the field in its dword. -/
def Field.mask (f : Field) : Word := BitVec.ofNat 32 (f.max * 2 ^ f.lo)

/-- The value of the field in dword `d`. -/
def Field.get (f : Field) (d : Word) : Nat := d.toNat / 2 ^ f.lo % 2 ^ f.wid

/-- Dword `d` with the field set to `v`, truncated to the field's width. -/
def Field.set (f : Field) (d : Word) (v : Nat) : Word :=
  (d &&& ~~~f.mask) ||| BitVec.ofNat 32 (v % 2 ^ f.wid * 2 ^ f.lo)

/-- Which element of the field lies at page offset `o`, if one does. -/
def Field.index? (f : Field) (o : Nat) : Option Nat :=
  if f.cnt ≤ 1 then (if o = f.off then some 0 else none)
  else if f.off ≤ o ∧ (o - f.off) % f.stride = 0 ∧ (o - f.off) / f.stride < f.cnt then
    some ((o - f.off) / f.stride)
  else none

/-- The field displaced by `b` bytes: a collector block or lane block at its base. -/
def Field.shift (f : Field) (b : Nat) : Field := { f with off := f.off + b }

/-- Bit `i` of a natural number. -/
def bitOf (v i : Nat) : Bool := v / 2 ^ i % 2 == 1

/-- A Boolean as a bit. -/
def b2n (b : Bool) : Nat := if b then 1 else 0

end Sys2Proof.Machine
end

