-- ==== Sys2Proof/Machine/RegMapHearth.lean ====
section
/-! DEFINITION. Register fields of the pages HRT, HRT1, AD, WC, EMB, one definition per field of the spec's register tables: offset, lowest bit, width, access code, reset value, stride, count and valid values (R10). -/

namespace Sys2Proof.Machine

/-- R409. -/
def HRT_HSTAT_FCOND : Field := ⟨0x40, 24, 8, .ro, 0, 0x0, 1, .any⟩
/-- R409. -/
def HRT_HSTAT_RGHELD : Field := ⟨0x40, 20, 4, .ro, 0, 0x0, 1, .any⟩
/-- R409. -/
def HRT_HSTAT_TABLE_OK : Field := ⟨0x40, 11, 1, .ro, 0, 0x0, 1, .any⟩
/-- R409. -/
def HRT_HSTAT_DEEN : Field := ⟨0x40, 10, 1, .ro, 0, 0x0, 1, .any⟩
/-- R409. -/
def HRT_HSTAT_HG_RUN : Field := ⟨0x40, 9, 1, .ro, 0, 0x0, 1, .any⟩
/-- R409. -/
def HRT_HSTAT_ALIVE_RUN : Field := ⟨0x40, 8, 1, .ro, 0, 0x0, 1, .any⟩
/-- R409. -/
def HRT_HSTAT_SAFE_OUT : Field := ⟨0x40, 7, 1, .ro, 1, 0x0, 1, .any⟩
/-- R409. -/
def HRT_HSTAT_BCAST : Field := ⟨0x40, 6, 1, .ro, 0, 0x0, 1, .any⟩
/-- R409. -/
def HRT_HSTAT_LEVEL : Field := ⟨0x40, 0, 3, .ro, 0, 0x0, 1, .any⟩
/-- R409. -/
def HRT_PLEA_RGMASK : Field := ⟨0x44, 16, 4, .rw, 0, 0x0, 1, .any⟩
/-- R409. -/
def HRT_PLEA_LEVEL : Field := ⟨0x44, 0, 3, .rw, 0, 0x0, 1, .any⟩
/-- R409. -/
def HRT_REL_PLEA : Field := ⟨0x48, 1, 1, .wo, 0, 0x0, 1, .any⟩
/-- R409. -/
def HRT_REL_GO : Field := ⟨0x48, 0, 1, .wo, 0, 0x0, 1, .any⟩
/-- R409. -/
def HRT_ALIVE_CFG : Field := ⟨0x4C, 0, 16, .seal, 1000, 0x0, 1, .any⟩
/-- R409. -/
def HRT_HGUARD_AIN : Field := ⟨0x50, 26, 6, .seal, 0, 0x0, 1, .any⟩
/-- R409. -/
def HRT_HGUARD_TIME : Field := ⟨0x50, 16, 10, .seal, 50, 0x0, 1, .any⟩
/-- R409. -/
def HRT_HGUARD_VDEEN : Field := ⟨0x50, 0, 12, .seal, 0, 0x0, 1, .any⟩
/-- R409. -/
def HRT_PC_LIM_THI_S : Field := ⟨0x54, 8, 8, .seal, 70, 0x0, 1, .any⟩
/-- R409. -/
def HRT_PC_LIM_TLO_S : Field := ⟨0x54, 0, 8, .seal, 231, 0x0, 1, .any⟩
/-- R409. -/
def HRT_HPAT : Field := ⟨0x58, 0, 12, .seal, 0, 0x0, 1, .any⟩
/-- R409. -/
def HRT_SUPSTAT_SEEN : Field := ⟨0x5C, 8, 8, .w1c, 0, 0x0, 1, .any⟩
/-- R409. -/
def HRT_SUPSTAT_NOW : Field := ⟨0x5C, 0, 8, .ro, 0, 0x0, 1, .any⟩
/-- R409. -/
def HRT_ALERT_VEC : Field := ⟨0x60, 8, 6, .rw, 0, 0x0, 1, .any⟩
/-- R409. -/
def HRT_ALERT_EN : Field := ⟨0x60, 0, 1, .rw, 0, 0x0, 1, .any⟩
/-- R409. -/
def HRT_SUPD_CTL_IMG : Field := ⟨0x64, 16, 8, .rw, 0, 0x0, 1, .any⟩
/-- R409. -/
def HRT_SUPD_CTL_GO : Field := ⟨0x64, 0, 1, .wo, 0, 0x0, 1, .any⟩
/-- R409. -/
def HRT_SUPD_STAT_ERR_CAUSE : Field := ⟨0x68, 24, 8, .ro, 0, 0x0, 1, .any⟩
/-- R409. -/
def HRT_SUPD_STAT_DONE : Field := ⟨0x68, 2, 1, .w1c, 0, 0x0, 1, .any⟩
/-- R409. -/
def HRT_SUPD_STAT_ERR : Field := ⟨0x68, 1, 1, .w1c, 0, 0x0, 1, .any⟩
/-- R409. -/
def HRT_SUPD_STAT_BUSY : Field := ⟨0x68, 0, 1, .ro, 0, 0x0, 1, .any⟩
/-- R409. -/
def HRT_SUPD_COUNT : Field := ⟨0x6C, 0, 32, .cnt, 0, 0x0, 1, .any⟩
/-- R409. -/
def HRT_TABLE_CRC : Field := ⟨0x70, 0, 32, .ro, 0, 0x0, 1, .any⟩
/-- R409. -/
def HRT_ASH_SEQ : Field := ⟨0x74, 0, 32, .ro, 0, 0x0, 1, .any⟩
/-- R409. -/
def HRT_REACT_COUNT : Field := ⟨0x78, 0, 32, .cnt, 0, 0x0, 1, .any⟩
/-- R409. -/
def HRT_INJMISS_COUNT : Field := ⟨0x7C, 0, 32, .cnt, 0, 0x0, 1, .any⟩
/-- R409. -/
def HRT_HG_LAST_ORNG : Field := ⟨0x80, 13, 1, .ro, 0, 0x0, 1, .any⟩
/-- R409. -/
def HRT_HG_LAST_URNG : Field := ⟨0x80, 12, 1, .ro, 0, 0x0, 1, .any⟩
/-- R409. -/
def HRT_HG_LAST_CODE : Field := ⟨0x80, 0, 12, .ro, 0, 0x0, 1, .any⟩
def hrtFieldsPart0 : List Field := [HRT_HSTAT_FCOND, HRT_HSTAT_RGHELD, HRT_HSTAT_TABLE_OK, HRT_HSTAT_DEEN, HRT_HSTAT_HG_RUN, HRT_HSTAT_ALIVE_RUN, HRT_HSTAT_SAFE_OUT, HRT_HSTAT_BCAST, HRT_HSTAT_LEVEL, HRT_PLEA_RGMASK, HRT_PLEA_LEVEL, HRT_REL_PLEA]
def hrtFieldsPart1 : List Field := [HRT_REL_GO, HRT_ALIVE_CFG, HRT_HGUARD_AIN, HRT_HGUARD_TIME, HRT_HGUARD_VDEEN, HRT_PC_LIM_THI_S, HRT_PC_LIM_TLO_S, HRT_HPAT, HRT_SUPSTAT_SEEN, HRT_SUPSTAT_NOW, HRT_ALERT_VEC, HRT_ALERT_EN]
def hrtFieldsPart2 : List Field := [HRT_SUPD_CTL_IMG, HRT_SUPD_CTL_GO, HRT_SUPD_STAT_ERR_CAUSE, HRT_SUPD_STAT_DONE, HRT_SUPD_STAT_ERR, HRT_SUPD_STAT_BUSY, HRT_SUPD_COUNT, HRT_TABLE_CRC, HRT_ASH_SEQ, HRT_REACT_COUNT, HRT_INJMISS_COUNT, HRT_HG_LAST_ORNG]
def hrtFieldsPart3 : List Field := [HRT_HG_LAST_URNG, HRT_HG_LAST_CODE]
/-- Every field of the page HRT. -/
def hrtFields : List Field := hrtFieldsPart0 ++ hrtFieldsPart1 ++ hrtFieldsPart2 ++ hrtFieldsPart3
/-- R410. -/
def HRT1_RT_A_COND : Field := ⟨0x40, 24, 8, .seal, 0, 0x8, 32, .any⟩
/-- R410. -/
def HRT1_RT_A_IDX : Field := ⟨0x40, 16, 8, .seal, 0, 0x8, 32, .any⟩
/-- R410. -/
def HRT1_RT_A_RGMASK : Field := ⟨0x40, 8, 4, .seal, 0, 0x8, 32, .any⟩
/-- R410. -/
def HRT1_RT_A_LEVEL : Field := ⟨0x40, 0, 3, .seal, 0, 0x8, 32, .any⟩
/-- R410. -/
def HRT1_RT_B_CHOPMODE : Field := ⟨0x44, 24, 2, .seal, 0, 0x8, 32, .any⟩
/-- R410. -/
def HRT1_RT_B_CHOP : Field := ⟨0x44, 16, 8, .seal, 0, 0x8, 32, .any⟩
/-- R410. -/
def HRT1_RT_B_QUAL : Field := ⟨0x44, 0, 16, .seal, 0, 0x8, 32, .any⟩
/-- R410. -/
def HRT1_RT_ACT : Field := ⟨0x200, 0, 32, .ro, 0, 0x0, 1, .any⟩
/-- R410. -/
def HRT1_RT_HELD : Field := ⟨0x204, 0, 32, .ro, 0, 0x0, 1, .any⟩
def hrt1FieldsPart0 : List Field := [HRT1_RT_A_COND, HRT1_RT_A_IDX, HRT1_RT_A_RGMASK, HRT1_RT_A_LEVEL, HRT1_RT_B_CHOPMODE, HRT1_RT_B_CHOP, HRT1_RT_B_QUAL, HRT1_RT_ACT, HRT1_RT_HELD]
/-- Every field of the page HRT1. -/
def hrt1Fields : List Field := hrt1FieldsPart0
/-- R352. -/
def AD_NCMD_GO : Field := ⟨0x40, 2, 1, .wo, 0, 0x0, 1, .any⟩
/-- R352. -/
def AD_NCMD_CH : Field := ⟨0x40, 0, 2, .wo, 0, 0x0, 1, .any⟩
/-- R352. -/
def AD_UCMD_GO : Field := ⟨0x44, 2, 1, .wo, 0, 0x0, 1, .any⟩
/-- R352. -/
def AD_UCMD_CH : Field := ⟨0x44, 0, 2, .wo, 0, 0x0, 1, .any⟩
/-- R352. -/
def AD_ACTL : Field := ⟨0x48, 0, 1, .wo, 0, 0x0, 1, .any⟩
/-- R352. -/
def AD_ASTAT_NQ : Field := ⟨0x4C, 9, 3, .ro, 0, 0x0, 1, .any⟩
/-- R352. -/
def AD_ASTAT_UQ : Field := ⟨0x4C, 7, 2, .ro, 0, 0x0, 1, .any⟩
/-- R352. -/
def AD_ASTAT_BUSY : Field := ⟨0x4C, 6, 1, .ro, 0, 0x0, 1, .any⟩
/-- R352. -/
def AD_ASTAT_CAL_RUN : Field := ⟨0x4C, 5, 1, .ro, 0, 0x0, 1, .any⟩
/-- R352. -/
def AD_ASTAT_CAL_PEND : Field := ⟨0x4C, 4, 1, .ro, 0, 0x0, 1, .any⟩
/-- R352. -/
def AD_ASTAT_CAL_DONE : Field := ⟨0x4C, 3, 1, .w1c, 0, 0x0, 1, .any⟩
/-- R352. -/
def AD_ASTAT_UQ_FULL : Field := ⟨0x4C, 2, 1, .w1c, 0, 0x0, 1, .any⟩
/-- R352. -/
def AD_ASTAT_TRIG_OVR : Field := ⟨0x4C, 1, 1, .w1c, 0, 0x0, 1, .any⟩
/-- R352. -/
def AD_ASTAT_OVR : Field := ⟨0x4C, 0, 1, .w1c, 0, 0x0, 1, .any⟩
/-- R352. -/
def AD_DATA_FULL : Field := ⟨0x50, 31, 1, .ro, 0, 0x0, 1, .any⟩
/-- R352. -/
def AD_DATA_URG : Field := ⟨0x50, 30, 1, .ro, 0, 0x0, 1, .any⟩
/-- R352. -/
def AD_DATA_ORNG : Field := ⟨0x50, 29, 1, .ro, 0, 0x0, 1, .any⟩
/-- R352. -/
def AD_DATA_URNG : Field := ⟨0x50, 28, 1, .ro, 0, 0x0, 1, .any⟩
/-- R352. -/
def AD_DATA_CH : Field := ⟨0x50, 12, 2, .ro, 0, 0x0, 1, .any⟩
/-- R352. -/
def AD_DATA_CODE : Field := ⟨0x50, 0, 12, .ro, 0, 0x0, 1, .any⟩
/-- R352. -/
def AD_DATA_TS : Field := ⟨0x54, 0, 30, .ro, 0, 0x0, 1, .any⟩
/-- R352. -/
def AD_CAL_RES_GAIN : Field := ⟨0x58, 12, 12, .ro, 0, 0x0, 1, .any⟩
/-- R352. -/
def AD_CAL_RES_OFS : Field := ⟨0x58, 0, 12, .ro, 0, 0x0, 1, .any⟩
/-- R352. -/
def AD_CONV_COUNT : Field := ⟨0x5C, 0, 32, .cnt, 0, 0x0, 1, .any⟩
/-- R352. -/
def AD_ABORT_COUNT : Field := ⟨0x60, 0, 32, .cnt, 0, 0x0, 1, .any⟩
/-- R352. -/
def AD_TRIG_OVR_COUNT : Field := ⟨0x64, 0, 32, .cnt, 0, 0x0, 1, .any⟩
/-- R352. -/
def AD_OVR_COUNT : Field := ⟨0x68, 0, 32, .cnt, 0, 0x0, 1, .any⟩
/-- R352. -/
def AD_RANGE_COUNT : Field := ⟨0x6C, 0, 32, .cnt, 0, 0x0, 1, .any⟩
def adFieldsPart0 : List Field := [AD_NCMD_GO, AD_NCMD_CH, AD_UCMD_GO, AD_UCMD_CH, AD_ACTL, AD_ASTAT_NQ, AD_ASTAT_UQ, AD_ASTAT_BUSY, AD_ASTAT_CAL_RUN, AD_ASTAT_CAL_PEND, AD_ASTAT_CAL_DONE, AD_ASTAT_UQ_FULL]
def adFieldsPart1 : List Field := [AD_ASTAT_TRIG_OVR, AD_ASTAT_OVR, AD_DATA_FULL, AD_DATA_URG, AD_DATA_ORNG, AD_DATA_URNG, AD_DATA_CH, AD_DATA_CODE, AD_DATA_TS, AD_CAL_RES_GAIN, AD_CAL_RES_OFS, AD_CONV_COUNT]
def adFieldsPart2 : List Field := [AD_ABORT_COUNT, AD_TRIG_OVR_COUNT, AD_OVR_COUNT, AD_RANGE_COUNT]
/-- Every field of the page AD. -/
def adFields : List Field := adFieldsPart0 ++ adFieldsPart1 ++ adFieldsPart2
/-- R353. -/
def WC_THR_THI : Field := ⟨0x40, 16, 10, .rws, 1023, 0x0, 1, .any⟩
/-- R353. -/
def WC_THR_TLO : Field := ⟨0x40, 0, 10, .rws, 0, 0x0, 1, .any⟩
/-- R353. -/
def WC_WCFG_EN : Field := ⟨0x44, 31, 1, .rws, 0, 0x0, 1, .any⟩
/-- R353. -/
def WC_WCFG_HYST : Field := ⟨0x44, 24, 4, .rws, 0, 0x0, 1, .range 0 8⟩
/-- R353. -/
def WC_WCFG_LATCH : Field := ⟨0x44, 20, 1, .rws, 0, 0x0, 1, .any⟩
/-- R353. -/
def WC_WCFG_RGSEL : Field := ⟨0x44, 18, 2, .rws, 0, 0x0, 1, .any⟩
/-- R353. -/
def WC_WCFG_PU_H : Field := ⟨0x44, 17, 1, .rws, 0, 0x0, 1, .any⟩
/-- R353. -/
def WC_WCFG_PU_L : Field := ⟨0x44, 16, 1, .rws, 0, 0x0, 1, .any⟩
/-- R353. -/
def WC_WMODE : Field := ⟨0x48, 0, 2, .rw, 1, 0x0, 1, .any⟩
/-- R353. -/
def WC_WSTAT_UNDET_H : Field := ⟨0x4C, 7, 1, .ro, 0, 0x0, 1, .any⟩
/-- R353. -/
def WC_WSTAT_UNDET_L : Field := ⟨0x4C, 6, 1, .ro, 0, 0x0, 1, .any⟩
/-- R353. -/
def WC_WSTAT_H : Field := ⟨0x4C, 5, 1, .ro, 0, 0x0, 1, .any⟩
/-- R353. -/
def WC_WSTAT_L : Field := ⟨0x4C, 4, 1, .ro, 0, 0x0, 1, .any⟩
/-- R353. -/
def WC_WSTAT_SETTLING : Field := ⟨0x4C, 3, 1, .ro, 0, 0x0, 1, .any⟩
/-- R353. -/
def WC_WSTAT_LAT_H : Field := ⟨0x4C, 1, 1, .w1c, 0, 0x0, 1, .any⟩
/-- R353. -/
def WC_WSTAT_LAT_L : Field := ⟨0x4C, 0, 1, .w1c, 0, 0x0, 1, .any⟩
/-- R353. -/
def WC_ROUTE_CAP_EN : Field := ⟨0x50, 31, 1, .rws, 0, 0x0, 1, .any⟩
/-- R353. -/
def WC_ROUTE_CAP_EDGE : Field := ⟨0x50, 29, 2, .rws, 0, 0x0, 1, .range 0 2⟩
/-- R353. -/
def WC_ROUTE_CAP_CH : Field := ⟨0x50, 24, 5, .rws, 0, 0x0, 1, .any⟩
/-- R353. -/
def WC_ROUTE_IRQ_EN : Field := ⟨0x50, 23, 1, .rws, 0, 0x0, 1, .any⟩
/-- R353. -/
def WC_ROUTE_HRT : Field := ⟨0x50, 22, 1, .rws, 0, 0x0, 1, .any⟩
/-- R353. -/
def WC_ROUTE_VEC : Field := ⟨0x50, 16, 6, .rws, 0, 0x0, 1, .any⟩
/-- R353. -/
def WC_H_COUNT : Field := ⟨0x54, 0, 32, .cnt, 0, 0x0, 1, .any⟩
/-- R353. -/
def WC_L_COUNT : Field := ⟨0x58, 0, 32, .cnt, 0, 0x0, 1, .any⟩
/-- R379. -/
def WC_WST_CTL : Field := ⟨0x80, 0, 1, .wo, 0, 0x0, 1, .any⟩
/-- R379. -/
def WC_WST_STAT_REFUSED : Field := ⟨0x84, 6, 1, .w1c, 0, 0x0, 1, .any⟩
/-- R379. -/
def WC_WST_STAT_H_UNT : Field := ⟨0x84, 5, 1, .ro, 0, 0x0, 1, .any⟩
/-- R379. -/
def WC_WST_STAT_L_UNT : Field := ⟨0x84, 4, 1, .ro, 0, 0x0, 1, .any⟩
/-- R379. -/
def WC_WST_STAT_H_PASS : Field := ⟨0x84, 3, 1, .ro, 0, 0x0, 1, .any⟩
/-- R379. -/
def WC_WST_STAT_L_PASS : Field := ⟨0x84, 2, 1, .ro, 0, 0x0, 1, .any⟩
/-- R379. -/
def WC_WST_STAT_DONE : Field := ⟨0x84, 1, 1, .w1c, 0, 0x0, 1, .any⟩
/-- R379. -/
def WC_WST_STAT_RUN : Field := ⟨0x84, 0, 1, .ro, 0, 0x0, 1, .any⟩
/-- R379. -/
def WC_WST_DEC_DEC_H : Field := ⟨0x88, 16, 16, .ro, 0, 0x0, 1, .any⟩
/-- R379. -/
def WC_WST_DEC_DEC_L : Field := ⟨0x88, 0, 16, .ro, 0, 0x0, 1, .any⟩
/-- R379. -/
def WC_WST_COUNT : Field := ⟨0x8C, 0, 32, .cnt, 0, 0x0, 1, .any⟩
/-- R379. -/
def WC_WST_FAIL : Field := ⟨0x90, 0, 32, .cnt, 0, 0x0, 1, .any⟩
def wcFieldsPart0 : List Field := [WC_THR_THI, WC_THR_TLO, WC_WCFG_EN, WC_WCFG_HYST, WC_WCFG_LATCH, WC_WCFG_RGSEL, WC_WCFG_PU_H, WC_WCFG_PU_L, WC_WMODE, WC_WSTAT_UNDET_H, WC_WSTAT_UNDET_L, WC_WSTAT_H]
def wcFieldsPart1 : List Field := [WC_WSTAT_L, WC_WSTAT_SETTLING, WC_WSTAT_LAT_H, WC_WSTAT_LAT_L, WC_ROUTE_CAP_EN, WC_ROUTE_CAP_EDGE, WC_ROUTE_CAP_CH, WC_ROUTE_IRQ_EN, WC_ROUTE_HRT, WC_ROUTE_VEC, WC_H_COUNT, WC_L_COUNT]
def wcFieldsPart2 : List Field := [WC_WST_CTL, WC_WST_STAT_REFUSED, WC_WST_STAT_H_UNT, WC_WST_STAT_L_UNT, WC_WST_STAT_H_PASS, WC_WST_STAT_L_PASS, WC_WST_STAT_DONE, WC_WST_STAT_RUN, WC_WST_DEC_DEC_H, WC_WST_DEC_DEC_L, WC_WST_COUNT, WC_WST_FAIL]
/-- Every field of the page WC. -/
def wcFields : List Field := wcFieldsPart0 ++ wcFieldsPart1 ++ wcFieldsPart2
/-- R354. -/
def EMB_EC_CTL : Field := ⟨0x40, 0, 3, .rw, 0, 0x0, 1, .range 0 6⟩
/-- R354. -/
def EMB_EC_CFG_EN : Field := ⟨0x44, 31, 1, .rw, 0, 0x4, 4, .any⟩
/-- R354. -/
def EMB_EC_CFG_POL : Field := ⟨0x44, 30, 1, .rw, 0, 0x4, 4, .any⟩
/-- R354. -/
def EMB_EC_CFG_WAKE : Field := ⟨0x44, 29, 1, .rw, 0, 0x4, 4, .any⟩
/-- R354. -/
def EMB_EC_CFG_TAMPER : Field := ⟨0x44, 28, 1, .rw, 0, 0x4, 4, .any⟩
/-- R354. -/
def EMB_EC_CFG_QUAL : Field := ⟨0x44, 26, 2, .rw, 0, 0x4, 4, .any⟩
/-- R354. -/
def EMB_EC_CFG_PU : Field := ⟨0x44, 25, 1, .rw, 0, 0x4, 4, .any⟩
/-- R354. -/
def EMB_EC_CFG_THR : Field := ⟨0x44, 0, 8, .rw, 128, 0x4, 4, .any⟩
/-- R354. -/
def EMB_EC_STAT_UNDET : Field := ⟨0x54, 16, 4, .ro, 0, 0x0, 1, .any⟩
/-- R354. -/
def EMB_EC_STAT_LVL : Field := ⟨0x54, 12, 4, .ro, 0, 0x0, 1, .any⟩
/-- R354. -/
def EMB_EC_STAT_TAMP : Field := ⟨0x54, 4, 4, .w1c, 0, 0x0, 1, .any⟩
/-- R354. -/
def EMB_EC_STAT_EVT : Field := ⟨0x54, 0, 4, .w1c, 0, 0x0, 1, .any⟩
/-- R354. -/
def EMB_EC_CNT01_EC1 : Field := ⟨0x58, 16, 16, .cnt, 0, 0x0, 1, .any⟩
/-- R354. -/
def EMB_EC_CNT01_EC0 : Field := ⟨0x58, 0, 16, .cnt, 0, 0x0, 1, .any⟩
/-- R354. -/
def EMB_EC_CNT23_EC3 : Field := ⟨0x5C, 16, 16, .cnt, 0, 0x0, 1, .any⟩
/-- R354. -/
def EMB_EC_CNT23_EC2 : Field := ⟨0x5C, 0, 16, .cnt, 0, 0x0, 1, .any⟩
/-- R499. -/
def EMB_ECNT_LO : Field := ⟨0x60, 0, 32, .ro, 0, 0x0, 1, .any⟩
/-- R499. -/
def EMB_ECNT_HI : Field := ⟨0x64, 0, 16, .ro, 0, 0x0, 1, .any⟩
/-- R499. -/
def EMB_ALARM_LO : Field := ⟨0x68, 0, 32, .rw, 0, 0x0, 1, .any⟩
/-- R499. -/
def EMB_ALARM_HI_EN : Field := ⟨0x6C, 31, 1, .rw, 0, 0x0, 1, .any⟩
/-- R499. -/
def EMB_ALARM_HI_ALARM : Field := ⟨0x6C, 0, 16, .rw, 0, 0x0, 1, .any⟩
/-- R499. -/
def EMB_PWR_ON : Field := ⟨0x70, 31, 1, .ro, 1, 0x0, 1, .any⟩
/-- R499. -/
def EMB_PWR_SLEEP : Field := ⟨0x70, 30, 1, .wo, 0, 0x0, 1, .any⟩
/-- R499. -/
def EMB_PWR_SLEEP_DLY : Field := ⟨0x70, 0, 8, .rw, 10, 0x0, 1, .range 1 255⟩
/-- R499. -/
def EMB_WAKE_STAT_CANCELLED : Field := ⟨0x74, 31, 1, .w1c, 0, 0x0, 1, .any⟩
/-- R499. -/
def EMB_WAKE_STAT_EC : Field := ⟨0x74, 8, 4, .w1c, 0, 0x0, 1, .any⟩
/-- R499. -/
def EMB_WAKE_STAT_ALARM : Field := ⟨0x74, 4, 1, .w1c, 0, 0x0, 1, .any⟩
/-- R499. -/
def EMB_WAKE_T : Field := ⟨0x78, 0, 32, .ro, 0, 0x0, 1, .any⟩
/-- R499. -/
def EMB_KECNT : Field := ⟨0x7C, 0, 32, .ro, 0, 0x0, 1, .any⟩
/-- R499. -/
def EMB_ESTAT_XTAL_FAIL : Field := ⟨0x80, 2, 1, .w1c, 0, 0x0, 1, .any⟩
/-- R499. -/
def EMB_ESTAT_XTAL_RUN : Field := ⟨0x80, 1, 1, .ro, 0, 0x0, 1, .any⟩
/-- R499. -/
def EMB_ESTAT_RC : Field := ⟨0x80, 0, 1, .ro, 1, 0x0, 1, .any⟩
/-- R499. -/
def EMB_THOFF_COUNT : Field := ⟨0x84, 0, 32, .cnt, 0, 0x0, 1, .any⟩
/-- R499. -/
def EMB_WAKE_COUNT : Field := ⟨0x88, 0, 32, .cnt, 0, 0x0, 1, .any⟩
def embFieldsPart0 : List Field := [EMB_EC_CTL, EMB_EC_CFG_EN, EMB_EC_CFG_POL, EMB_EC_CFG_WAKE, EMB_EC_CFG_TAMPER, EMB_EC_CFG_QUAL, EMB_EC_CFG_PU, EMB_EC_CFG_THR, EMB_EC_STAT_UNDET, EMB_EC_STAT_LVL, EMB_EC_STAT_TAMP, EMB_EC_STAT_EVT]
def embFieldsPart1 : List Field := [EMB_EC_CNT01_EC1, EMB_EC_CNT01_EC0, EMB_EC_CNT23_EC3, EMB_EC_CNT23_EC2, EMB_ECNT_LO, EMB_ECNT_HI, EMB_ALARM_LO, EMB_ALARM_HI_EN, EMB_ALARM_HI_ALARM, EMB_PWR_ON, EMB_PWR_SLEEP, EMB_PWR_SLEEP_DLY]
def embFieldsPart2 : List Field := [EMB_WAKE_STAT_CANCELLED, EMB_WAKE_STAT_EC, EMB_WAKE_STAT_ALARM, EMB_WAKE_T, EMB_KECNT, EMB_ESTAT_XTAL_FAIL, EMB_ESTAT_XTAL_RUN, EMB_ESTAT_RC, EMB_THOFF_COUNT, EMB_WAKE_COUNT]
/-- Every field of the page EMB. -/
def embFields : List Field := embFieldsPart0 ++ embFieldsPart1 ++ embFieldsPart2

end Sys2Proof.Machine
end

