-- ==== Sys2Proof/Machine/RegMapHub.lean ====
section
/-! DEFINITION. Register fields of the pages TWIN, SYSN, SL, EQ, REC, THERM, BIST, CSTORE, SEC, one definition per field of the spec's register tables: offset, lowest bit, width, access code, reset value, stride, count and valid values (R10). -/

namespace Sys2Proof.Machine

/-- R436. -/
def TWIN_TCFG_AUTO : Field := ⟨0x40, 31, 1, .rw, 1, 0x0, 1, .any⟩
/-- R436. -/
def TWIN_TCFG_SBIST : Field := ⟨0x40, 30, 1, .rw, 1, 0x0, 1, .any⟩
/-- R436. -/
def TWIN_TCFG_RDY_MS : Field := ⟨0x40, 8, 8, .rw, 100, 0x0, 1, .range 1 255⟩
/-- R436. -/
def TWIN_TCMD_FORCE : Field := ⟨0x44, 2, 1, .wo, 0, 0x0, 1, .any⟩
/-- R436. -/
def TWIN_TCMD_HANDOVER : Field := ⟨0x44, 1, 1, .wo, 0, 0x0, 1, .any⟩
/-- R436. -/
def TWIN_TCMD_TAKE : Field := ⟨0x44, 0, 1, .wo, 0, 0x0, 1, .any⟩
/-- R436. -/
def TWIN_TSTAT_ROLE : Field := ⟨0x48, 30, 2, .ro, 0, 0x0, 1, .any⟩
/-- R436. -/
def TWIN_TSTAT_RRX : Field := ⟨0x48, 28, 2, .ro, 0, 0x0, 1, .any⟩
/-- R436. -/
def TWIN_TSTAT_LINK_UP : Field := ⟨0x48, 27, 1, .ro, 0, 0x0, 1, .any⟩
/-- R436. -/
def TWIN_TSTAT_HEALTH_OK : Field := ⟨0x48, 26, 1, .ro, 0, 0x0, 1, .any⟩
/-- R436. -/
def TWIN_TSTAT_HO_PEND : Field := ⟨0x48, 25, 1, .ro, 0, 0x0, 1, .any⟩
/-- R436. -/
def TWIN_TSTAT_ARMED : Field := ⟨0x48, 24, 1, .ro, 0, 0x0, 1, .any⟩
/-- R436. -/
def TWIN_TSTAT_READY : Field := ⟨0x48, 20, 4, .ro, 0, 0x0, 1, .any⟩
/-- R436. -/
def TWIN_TSTAT_TREADY : Field := ⟨0x48, 16, 4, .ro, 0, 0x0, 1, .any⟩
/-- R436. -/
def TWIN_TSTAT_REF_CAUSE : Field := ⟨0x48, 12, 4, .ro, 0, 0x0, 1, .any⟩
/-- R436. -/
def TWIN_TSTAT_LOST : Field := ⟨0x48, 8, 4, .ro, 0, 0x0, 1, .any⟩
/-- R436. -/
def TWIN_TSTAT_TOOK : Field := ⟨0x48, 7, 1, .w1c, 0, 0x0, 1, .any⟩
/-- R436. -/
def TWIN_TSTAT_HANDED : Field := ⟨0x48, 6, 1, .w1c, 0, 0x0, 1, .any⟩
/-- R436. -/
def TWIN_TSTAT_DEPOSED : Field := ⟨0x48, 5, 1, .w1c, 0, 0x0, 1, .any⟩
/-- R436. -/
def TWIN_TSTAT_CONFLICT : Field := ⟨0x48, 4, 1, .w1c, 0, 0x0, 1, .any⟩
/-- R436. -/
def TWIN_TSTAT_REFUSED : Field := ⟨0x48, 3, 1, .w1c, 0, 0x0, 1, .any⟩
/-- R436. -/
def TWIN_TSTAT_GAP : Field := ⟨0x48, 2, 1, .w1c, 0, 0x0, 1, .any⟩
/-- R436. -/
def TWIN_EPOCH : Field := ⟨0x4C, 0, 32, .ro, 0, 0x0, 1, .any⟩
/-- R436. -/
def TWIN_TEPOCH : Field := ⟨0x50, 0, 32, .ro, 0, 0x0, 1, .any⟩
/-- R436. -/
def TWIN_PEER_PAIR : Field := ⟨0x54, 16, 16, .ro, 0, 0x0, 1, .any⟩
/-- R436. -/
def TWIN_PEER_TPKG_VALID : Field := ⟨0x54, 10, 1, .ro, 0, 0x0, 1, .any⟩
/-- R436. -/
def TWIN_PEER_TPKG : Field := ⟨0x54, 0, 10, .ro, 0, 0x0, 1, .any⟩
/-- R436. -/
def TWIN_LOAD_NEXT : Field := ⟨0x58, 16, 16, .ro, 65535, 0x0, 1, .any⟩
/-- R436. -/
def TWIN_LOAD_NOW : Field := ⟨0x58, 0, 16, .ro, 0, 0x0, 1, .any⟩
/-- R436. -/
def TWIN_COPY_LAST : Field := ⟨0x5C, 0, 32, .ro, 0, 0x0, 1, .any⟩
/-- R436. -/
def TWIN_COPYB : Field := ⟨0x60, 0, 20, .ro, 0, 0x4, 4, .any⟩
/-- R436. -/
def TWIN_GAPINFO_CATCH : Field := ⟨0x70, 16, 8, .ro, 0, 0x0, 1, .any⟩
/-- R436. -/
def TWIN_GAPINFO_GAP : Field := ⟨0x70, 0, 16, .ro, 0, 0x0, 1, .any⟩
/-- R436. -/
def TWIN_HLTH0_READY : Field := ⟨0x74, 28, 4, .ro, 0, 0x0, 1, .any⟩
/-- R436. -/
def TWIN_HLTH0_BIST_PASS : Field := ⟨0x74, 24, 4, .ro, 0, 0x0, 1, .any⟩
/-- R436. -/
def TWIN_HLTH0_BIST_FAIL : Field := ⟨0x74, 20, 4, .ro, 0, 0x0, 1, .any⟩
/-- R436. -/
def TWIN_HLTH0_UNUSABLE : Field := ⟨0x74, 16, 4, .ro, 0, 0x0, 1, .any⟩
/-- R436. -/
def TWIN_HLTH0_FOM_MIN : Field := ⟨0x74, 8, 8, .ro, 0, 0x0, 1, .any⟩
/-- R436. -/
def TWIN_HLTH0_FOM_LANE : Field := ⟨0x74, 0, 6, .ro, 0, 0x0, 1, .any⟩
/-- R436. -/
def TWIN_HLTH1_TMAX : Field := ⟨0x78, 24, 8, .ro, 0, 0x0, 1, .any⟩
/-- R436. -/
def TWIN_HLTH1_DAMP : Field := ⟨0x78, 21, 3, .ro, 0, 0x0, 1, .any⟩
/-- R436. -/
def TWIN_HLTH1_HLEVEL : Field := ⟨0x78, 18, 3, .ro, 0, 0x0, 1, .any⟩
/-- R436. -/
def TWIN_HLTH1_UC : Field := ⟨0x78, 17, 1, .ro, 0, 0x0, 1, .any⟩
/-- R436. -/
def TWIN_HLTH1_CE : Field := ⟨0x78, 16, 1, .ro, 0, 0x0, 1, .any⟩
/-- R436. -/
def TWIN_HLTH1_LANES_UP : Field := ⟨0x78, 10, 6, .ro, 0, 0x0, 1, .any⟩
/-- R436. -/
def TWIN_HLTH2_RUN : Field := ⟨0x7C, 16, 16, .ro, 0, 0x0, 1, .any⟩
/-- R436. -/
def TWIN_HLTH2_MISS : Field := ⟨0x7C, 0, 16, .ro, 0, 0x0, 1, .any⟩
/-- R436. -/
def TWIN_HLTH_CRC : Field := ⟨0x80, 0, 32, .ro, 0, 0x0, 1, .any⟩
/-- R436. -/
def TWIN_HLTH_AGE : Field := ⟨0x84, 0, 16, .ro, 65535, 0x0, 1, .any⟩
/-- R436. -/
def TWIN_COPY_MISS : Field := ⟨0x88, 0, 32, .cnt, 0, 0x0, 1, .any⟩
/-- R436. -/
def TWIN_COPY_CNT : Field := ⟨0x8C, 0, 32, .cnt, 0, 0x0, 1, .any⟩
/-- R436. -/
def TWIN_ROLE_CHG : Field := ⟨0x90, 0, 32, .cnt, 0, 0x0, 1, .any⟩
/-- R436. -/
def TWIN_RC_T_NS : Field := ⟨0x94, 0, 30, .ro, 0, 0x0, 1, .any⟩
/-- R436. -/
def TWIN_RC_T_S : Field := ⟨0x98, 0, 32, .ro, 0, 0x0, 1, .any⟩
def twinFieldsPart0 : List Field := [TWIN_TCFG_AUTO, TWIN_TCFG_SBIST, TWIN_TCFG_RDY_MS, TWIN_TCMD_FORCE, TWIN_TCMD_HANDOVER, TWIN_TCMD_TAKE, TWIN_TSTAT_ROLE, TWIN_TSTAT_RRX, TWIN_TSTAT_LINK_UP, TWIN_TSTAT_HEALTH_OK, TWIN_TSTAT_HO_PEND, TWIN_TSTAT_ARMED]
def twinFieldsPart1 : List Field := [TWIN_TSTAT_READY, TWIN_TSTAT_TREADY, TWIN_TSTAT_REF_CAUSE, TWIN_TSTAT_LOST, TWIN_TSTAT_TOOK, TWIN_TSTAT_HANDED, TWIN_TSTAT_DEPOSED, TWIN_TSTAT_CONFLICT, TWIN_TSTAT_REFUSED, TWIN_TSTAT_GAP, TWIN_EPOCH, TWIN_TEPOCH]
def twinFieldsPart2 : List Field := [TWIN_PEER_PAIR, TWIN_PEER_TPKG_VALID, TWIN_PEER_TPKG, TWIN_LOAD_NEXT, TWIN_LOAD_NOW, TWIN_COPY_LAST, TWIN_COPYB, TWIN_GAPINFO_CATCH, TWIN_GAPINFO_GAP, TWIN_HLTH0_READY, TWIN_HLTH0_BIST_PASS, TWIN_HLTH0_BIST_FAIL]
def twinFieldsPart3 : List Field := [TWIN_HLTH0_UNUSABLE, TWIN_HLTH0_FOM_MIN, TWIN_HLTH0_FOM_LANE, TWIN_HLTH1_TMAX, TWIN_HLTH1_DAMP, TWIN_HLTH1_HLEVEL, TWIN_HLTH1_UC, TWIN_HLTH1_CE, TWIN_HLTH1_LANES_UP, TWIN_HLTH2_RUN, TWIN_HLTH2_MISS, TWIN_HLTH_CRC]
def twinFieldsPart4 : List Field := [TWIN_HLTH_AGE, TWIN_COPY_MISS, TWIN_COPY_CNT, TWIN_ROLE_CHG, TWIN_RC_T_NS, TWIN_RC_T_S]
/-- Every field of the page TWIN. -/
def twinFields : List Field := twinFieldsPart0 ++ twinFieldsPart1 ++ twinFieldsPart2 ++ twinFieldsPart3 ++ twinFieldsPart4
/-- R477. -/
def SYSN_NCFG_SWAP_EN : Field := ⟨0x40, 31, 1, .rws, 0, 0x0, 1, .any⟩
/-- R477. -/
def SYSN_NCFG_PLAN_EN : Field := ⟨0x40, 30, 1, .rws, 0, 0x0, 1, .any⟩
/-- R477. -/
def SYSN_NCFG_REM_EN : Field := ⟨0x40, 29, 1, .rws, 0, 0x0, 1, .any⟩
/-- R477. -/
def SYSN_NCFG_GM : Field := ⟨0x40, 28, 1, .rws, 0, 0x0, 1, .any⟩
/-- R477. -/
def SYSN_NCFG_FLOOD : Field := ⟨0x40, 16, 8, .rws, 0, 0x0, 1, .any⟩
/-- R477. -/
def SYSN_NCFG_PARENT2 : Field := ⟨0x40, 4, 4, .rws, 15, 0x0, 1, .nib⟩
/-- R477. -/
def SYSN_NCFG_PARENT : Field := ⟨0x40, 0, 4, .rws, 15, 0x0, 1, .nib⟩
/-- R477. -/
def SYSN_TT_CFG : Field := ⟨0x44, 0, 10, .rws, 100, 0x0, 1, .range 10 1000⟩
/-- R477. -/
def SYSN_TSTAT_UNC : Field := ⟨0x48, 31, 1, .ro, 0, 0x0, 1, .any⟩
/-- R477. -/
def SYSN_TSTAT_COARSE : Field := ⟨0x48, 30, 1, .ro, 0, 0x0, 1, .any⟩
/-- R477. -/
def SYSN_TSTAT_FRESH : Field := ⟨0x48, 29, 1, .w1c, 0, 0x0, 1, .any⟩
/-- R477. -/
def SYSN_TSTAT_PARENT_UP : Field := ⟨0x48, 28, 1, .ro, 0, 0x0, 1, .any⟩
/-- R477. -/
def SYSN_TSTAT_PORT : Field := ⟨0x48, 24, 4, .ro, 15, 0x0, 1, .any⟩
/-- R477. -/
def SYSN_TSTAT_STRATUM : Field := ⟨0x48, 16, 8, .ro, 255, 0x0, 1, .any⟩
/-- R477. -/
def SYSN_TSTAT_GMPKG : Field := ⟨0x48, 0, 10, .ro, 0, 0x0, 1, .any⟩
/-- R477. -/
def SYSN_TOFS : Field := ⟨0x4C, 0, 32, .ro, 0, 0x0, 1, .any⟩
/-- R477. -/
def SYSN_TMPD : Field := ⟨0x50, 0, 24, .ro, 0, 0x0, 1, .any⟩
/-- R477. -/
def SYSN_TT_T_NS : Field := ⟨0x54, 0, 30, .ro, 0, 0x0, 1, .any⟩
/-- R477. -/
def SYSN_TT_LOST : Field := ⟨0x58, 0, 32, .cnt, 0, 0x0, 1, .any⟩
/-- R477. -/
def SYSN_TT_REJ : Field := ⟨0x5C, 0, 32, .cnt, 0, 0x0, 1, .any⟩
/-- R477. -/
def SYSN_TRIPSRC_LEVEL : Field := ⟨0x60, 16, 3, .rws, 0, 0x0, 1, .range 0 4⟩
/-- R477. -/
def SYSN_TRIPSRC_GMASK : Field := ⟨0x60, 0, 16, .rws, 0, 0x0, 1, .any⟩
/-- R477. -/
def SYSN_TRIP_CMD_CLR : Field := ⟨0x64, 16, 16, .wo, 0, 0x0, 1, .any⟩
/-- R477. -/
def SYSN_TRIP_CMD_SET : Field := ⟨0x64, 0, 16, .wo, 0, 0x0, 1, .any⟩
/-- R477. -/
def SYSN_TRIP_STAT_TX : Field := ⟨0x68, 16, 16, .ro, 0, 0x0, 1, .any⟩
/-- R477. -/
def SYSN_TRIP_STAT_RX : Field := ⟨0x68, 0, 16, .ro, 0, 0x0, 1, .any⟩
/-- R477. -/
def SYSN_TRIP_MEMB : Field := ⟨0x6C, 0, 16, .rws, 0, 0x0, 1, .any⟩
/-- R477. -/
def SYSN_TRIP_COUNT : Field := ⟨0x70, 0, 32, .cnt, 0, 0x0, 1, .any⟩
/-- R477. -/
def SYSN_PLAN_TX : Field := ⟨0x74, 0, 32, .rw, 0, 0x0, 1, .any⟩
/-- R477. -/
def SYSN_PLAN_STAT_REFUSED : Field := ⟨0x78, 31, 1, .w1c, 0, 0x0, 1, .any⟩
/-- R477. -/
def SYSN_PLAN_STAT_APPLIED : Field := ⟨0x78, 30, 1, .w1c, 0, 0x0, 1, .any⟩
/-- R477. -/
def SYSN_PLAN_STAT_SRC : Field := ⟨0x78, 0, 10, .ro, 0, 0x0, 1, .any⟩
/-- R477. -/
def SYSN_PLAN_RX : Field := ⟨0x7C, 0, 32, .ro, 0, 0x0, 1, .any⟩
/-- R477. -/
def SYSN_SCMD_RPT_RST : Field := ⟨0x80, 3, 1, .wo, 0, 0x0, 1, .any⟩
/-- R477. -/
def SYSN_SCMD_RA_GO : Field := ⟨0x80, 2, 1, .wo, 0, 0x0, 1, .any⟩
/-- R477. -/
def SYSN_SCMD_SWAP_GO : Field := ⟨0x80, 1, 1, .wo, 0, 0x0, 1, .any⟩
/-- R477. -/
def SYSN_SCMD_PLAN_GO : Field := ⟨0x80, 0, 1, .wo, 0, 0x0, 1, .any⟩
/-- R477. -/
def SYSN_SWAP_DST : Field := ⟨0x84, 0, 16, .rw, 32768, 0x0, 1, .dst⟩
/-- R477. -/
def SYSN_RPT_OK : Field := ⟨0x88, 0, 32, .cnt, 0, 0x0, 1, .any⟩
/-- R477. -/
def SYSN_RPT_ERR : Field := ⟨0x8C, 0, 32, .cnt, 0, 0x0, 1, .any⟩
/-- R477. -/
def SYSN_RPT_LAST_CODE : Field := ⟨0x90, 24, 8, .ro, 0, 0x0, 1, .any⟩
/-- R477. -/
def SYSN_RPT_LAST_KIND : Field := ⟨0x90, 22, 2, .ro, 0, 0x0, 1, .any⟩
/-- R477. -/
def SYSN_RPT_LAST_PKG : Field := ⟨0x90, 0, 10, .ro, 0, 0x0, 1, .any⟩
/-- R477. -/
def SYSN_RA_PKG_WRITE : Field := ⟨0x94, 31, 1, .rw, 0, 0x0, 1, .any⟩
/-- R477. -/
def SYSN_RA_PKG_PKG : Field := ⟨0x94, 0, 10, .rw, 0, 0x0, 1, .any⟩
/-- R477. -/
def SYSN_RA_OFS : Field := ⟨0x98, 0, 25, .rw, 0, 0x0, 1, .any⟩
/-- R477. -/
def SYSN_RA_DATA : Field := ⟨0x9C, 0, 32, .rw, 0, 0x0, 1, .any⟩
/-- R477. -/
def SYSN_RA_STAT_BUSY : Field := ⟨0xA0, 31, 1, .ro, 0, 0x0, 1, .any⟩
/-- R477. -/
def SYSN_RA_STAT_DONE : Field := ⟨0xA0, 30, 1, .w1c, 0, 0x0, 1, .any⟩
/-- R477. -/
def SYSN_RA_STAT_STATUS : Field := ⟨0xA0, 0, 3, .ro, 0, 0x0, 1, .any⟩
/-- R477. -/
def SYSN_RA_DENY : Field := ⟨0xA4, 0, 32, .cnt, 0, 0x0, 1, .any⟩
/-- R477. -/
def SYSN_PKT_DROP_COUNT : Field := ⟨0xA8, 0, 32, .cnt, 0, 0x0, 1, .any⟩
/-- R477. -/
def SYSN_NOROUTE_COUNT : Field := ⟨0xAC, 0, 32, .cnt, 0, 0x0, 1, .any⟩
/-- R477. -/
def SYSN_HOPX_COUNT : Field := ⟨0xB0, 0, 32, .cnt, 0, 0x0, 1, .any⟩
/-- R477. -/
def SYSN_ROUTE : Field := ⟨0x400, 0, 32, .rws, 4294967295, 0x4, 128, .nib⟩
/-- R477. -/
def SYSN_MGRP : Field := ⟨0x600, 0, 32, .rws, 0, 0x4, 32, .any⟩
def sysnFieldsPart0 : List Field := [SYSN_NCFG_SWAP_EN, SYSN_NCFG_PLAN_EN, SYSN_NCFG_REM_EN, SYSN_NCFG_GM, SYSN_NCFG_FLOOD, SYSN_NCFG_PARENT2, SYSN_NCFG_PARENT, SYSN_TT_CFG, SYSN_TSTAT_UNC, SYSN_TSTAT_COARSE, SYSN_TSTAT_FRESH, SYSN_TSTAT_PARENT_UP]
def sysnFieldsPart1 : List Field := [SYSN_TSTAT_PORT, SYSN_TSTAT_STRATUM, SYSN_TSTAT_GMPKG, SYSN_TOFS, SYSN_TMPD, SYSN_TT_T_NS, SYSN_TT_LOST, SYSN_TT_REJ, SYSN_TRIPSRC_LEVEL, SYSN_TRIPSRC_GMASK, SYSN_TRIP_CMD_CLR, SYSN_TRIP_CMD_SET]
def sysnFieldsPart2 : List Field := [SYSN_TRIP_STAT_TX, SYSN_TRIP_STAT_RX, SYSN_TRIP_MEMB, SYSN_TRIP_COUNT, SYSN_PLAN_TX, SYSN_PLAN_STAT_REFUSED, SYSN_PLAN_STAT_APPLIED, SYSN_PLAN_STAT_SRC, SYSN_PLAN_RX, SYSN_SCMD_RPT_RST, SYSN_SCMD_RA_GO, SYSN_SCMD_SWAP_GO]
def sysnFieldsPart3 : List Field := [SYSN_SCMD_PLAN_GO, SYSN_SWAP_DST, SYSN_RPT_OK, SYSN_RPT_ERR, SYSN_RPT_LAST_CODE, SYSN_RPT_LAST_KIND, SYSN_RPT_LAST_PKG, SYSN_RA_PKG_WRITE, SYSN_RA_PKG_PKG, SYSN_RA_OFS, SYSN_RA_DATA, SYSN_RA_STAT_BUSY]
def sysnFieldsPart4 : List Field := [SYSN_RA_STAT_DONE, SYSN_RA_STAT_STATUS, SYSN_RA_DENY, SYSN_PKT_DROP_COUNT, SYSN_NOROUTE_COUNT, SYSN_HOPX_COUNT, SYSN_ROUTE, SYSN_MGRP]
/-- Every field of the page SYSN. -/
def sysnFields : List Field := sysnFieldsPart0 ++ sysnFieldsPart1 ++ sysnFieldsPart2 ++ sysnFieldsPart3 ++ sysnFieldsPart4
/-- R478. -/
def SL_SLCTL_EN : Field := ⟨0x100, 31, 1, .rws, 0, 0x40, 12, .any⟩
/-- R478. -/
def SL_SLCTL_TX_INV : Field := ⟨0x100, 30, 1, .rws, 0, 0x40, 12, .any⟩
/-- R478. -/
def SL_SLCTL_RX_INV : Field := ⟨0x100, 29, 1, .rws, 0, 0x40, 12, .any⟩
/-- R478. -/
def SL_SLCTL_AUTO_RT : Field := ⟨0x100, 28, 1, .rws, 1, 0x40, 12, .any⟩
/-- R478. -/
def SL_SLCTL_ADAPT_EN : Field := ⟨0x100, 27, 1, .rws, 1, 0x40, 12, .any⟩
/-- R478. -/
def SL_SLCTL_ALT : Field := ⟨0x100, 16, 4, .rws, 15, 0x40, 12, .nib⟩
/-- R478. -/
def SL_SLCTL_RETRY_US : Field := ⟨0x100, 0, 16, .rws, 1000, 0x40, 12, .range 10 65535⟩
/-- R478. -/
def SL_SLSTAT_STATE : Field := ⟨0x104, 29, 3, .ro, 0, 0x40, 12, .any⟩
/-- R478. -/
def SL_SLSTAT_CDR_LOCK : Field := ⟨0x104, 28, 1, .ro, 0, 0x40, 12, .any⟩
/-- R478. -/
def SL_SLSTAT_ALIGNED : Field := ⟨0x104, 27, 1, .ro, 0, 0x40, 12, .any⟩
/-- R478. -/
def SL_SLSTAT_ADAPT_FROZEN : Field := ⟨0x104, 26, 1, .ro, 0, 0x40, 12, .any⟩
/-- R478. -/
def SL_SLSTAT_DOWN_CAUSE : Field := ⟨0x104, 22, 4, .ro, 0, 0x40, 12, .any⟩
/-- R478. -/
def SL_SLSTAT_NBR_PKG : Field := ⟨0x104, 12, 10, .ro, 0, 0x40, 12, .any⟩
/-- R478. -/
def SL_SLSTAT_NBR_PORT : Field := ⟨0x104, 9, 3, .ro, 0, 0x40, 12, .any⟩
/-- R478. -/
def SL_SLSTAT_FOM : Field := ⟨0x104, 0, 8, .ro, 0, 0x40, 12, .any⟩
/-- R478. -/
def SL_SLCMD_FOM_RST : Field := ⟨0x108, 1, 1, .wo, 0, 0x40, 12, .any⟩
/-- R478. -/
def SL_SLCMD_RETRAIN : Field := ⟨0x108, 0, 1, .wo, 0, 0x40, 12, .any⟩
/-- R478. -/
def SL_SLFOM_FOM_MIN : Field := ⟨0x10C, 8, 8, .ro, 255, 0x40, 12, .any⟩
/-- R478. -/
def SL_SLFOM_ALARM : Field := ⟨0x10C, 0, 8, .rws, 64, 0x40, 12, .any⟩
/-- R478. -/
def SL_ASYM_PS : Field := ⟨0x110, 0, 32, .rws, 0, 0x40, 12, .sgn 32 1000000⟩
/-- R478. -/
def SL_EQ_CTLE : Field := ⟨0x114, 28, 4, .ro, 0, 0x40, 12, .any⟩
/-- R478. -/
def SL_EQ_DFE1 : Field := ⟨0x114, 21, 7, .ro, 0, 0x40, 12, .any⟩
/-- R478. -/
def SL_EQ_DFE2 : Field := ⟨0x114, 14, 7, .ro, 0, 0x40, 12, .any⟩
/-- R478. -/
def SL_EQ_DFE3 : Field := ⟨0x114, 7, 7, .ro, 0, 0x40, 12, .any⟩
/-- R478. -/
def SL_EQ_INIT_CTLE : Field := ⟨0x118, 28, 4, .rws, 8, 0x40, 12, .any⟩
/-- R478. -/
def SL_EQ_INIT_DFE1 : Field := ⟨0x118, 21, 7, .rws, 0, 0x40, 12, .any⟩
/-- R478. -/
def SL_EQ_INIT_DFE2 : Field := ⟨0x118, 14, 7, .rws, 0, 0x40, 12, .any⟩
/-- R478. -/
def SL_EQ_INIT_DFE3 : Field := ⟨0x118, 7, 7, .rws, 0, 0x40, 12, .any⟩
/-- R478. -/
def SL_BAD_COUNT : Field := ⟨0x11C, 0, 32, .cnt, 0, 0x40, 12, .any⟩
/-- R478. -/
def SL_CV_COUNT : Field := ⟨0x120, 0, 32, .cnt, 0, 0x40, 12, .any⟩
/-- R478. -/
def SL_DOWN_COUNT : Field := ⟨0x124, 0, 32, .cnt, 0, 0x40, 12, .any⟩
/-- R478. -/
def SL_TX_PKTS : Field := ⟨0x128, 0, 32, .cnt, 0, 0x40, 12, .any⟩
/-- R478. -/
def SL_RX_PKTS : Field := ⟨0x12C, 0, 32, .cnt, 0, 0x40, 12, .any⟩
def slFieldsPart0 : List Field := [SL_SLCTL_EN, SL_SLCTL_TX_INV, SL_SLCTL_RX_INV, SL_SLCTL_AUTO_RT, SL_SLCTL_ADAPT_EN, SL_SLCTL_ALT, SL_SLCTL_RETRY_US, SL_SLSTAT_STATE, SL_SLSTAT_CDR_LOCK, SL_SLSTAT_ALIGNED, SL_SLSTAT_ADAPT_FROZEN, SL_SLSTAT_DOWN_CAUSE]
def slFieldsPart1 : List Field := [SL_SLSTAT_NBR_PKG, SL_SLSTAT_NBR_PORT, SL_SLSTAT_FOM, SL_SLCMD_FOM_RST, SL_SLCMD_RETRAIN, SL_SLFOM_FOM_MIN, SL_SLFOM_ALARM, SL_ASYM_PS, SL_EQ_CTLE, SL_EQ_DFE1, SL_EQ_DFE2, SL_EQ_DFE3]
def slFieldsPart2 : List Field := [SL_EQ_INIT_CTLE, SL_EQ_INIT_DFE1, SL_EQ_INIT_DFE2, SL_EQ_INIT_DFE3, SL_BAD_COUNT, SL_CV_COUNT, SL_DOWN_COUNT, SL_TX_PKTS, SL_RX_PKTS]
/-- Every field of a system or twin lane block (R478). -/
def slFields : List Field := slFieldsPart0 ++ slFieldsPart1 ++ slFieldsPart2
/-- R449. -/
def EQ_QCFG_EN : Field := ⟨0x40, 31, 1, .rws, 0, 0x0, 1, .any⟩
/-- R449. -/
def EQ_QCFG_AUTOREL : Field := ⟨0x40, 30, 1, .rws, 1, 0x0, 1, .any⟩
/-- R449. -/
def EQ_QCFG_CLASSMASK : Field := ⟨0x40, 0, 16, .rws, 0, 0x0, 1, .any⟩
/-- R449. -/
def EQ_OVF_BASE : Field := ⟨0x44, 16, 16, .rws, 0, 0x0, 1, .any⟩
/-- R449. -/
def EQ_OVF_SIZE : Field := ⟨0x44, 0, 16, .rws, 0, 0x0, 1, .any⟩
/-- R449. -/
def EQ_WM : Field := ⟨0x48, 0, 24, .rw, 1536, 0x0, 1, .any⟩
/-- R449. -/
def EQ_QCTL_VEC : Field := ⟨0x4C, 8, 6, .rw, 0, 0x0, 1, .any⟩
/-- R449. -/
def EQ_QCTL_IRQ_WM : Field := ⟨0x4C, 1, 1, .rw, 0, 0x0, 1, .any⟩
/-- R449. -/
def EQ_QCTL_IRQ_NE : Field := ⟨0x4C, 0, 1, .rw, 0, 0x0, 1, .any⟩
/-- R449. -/
def EQ_QCMD_PEAK_RST : Field := ⟨0x50, 5, 1, .wo, 0, 0x0, 1, .any⟩
/-- R449. -/
def EQ_QCMD_QRESET : Field := ⟨0x50, 4, 1, .wo, 0, 0x0, 1, .any⟩
/-- R449. -/
def EQ_QCMD_REWIND : Field := ⟨0x50, 3, 1, .wo, 0, 0x0, 1, .any⟩
/-- R449. -/
def EQ_QCMD_MARK : Field := ⟨0x50, 2, 1, .wo, 0, 0x0, 1, .any⟩
/-- R449. -/
def EQ_QCMD_RELEASE : Field := ⟨0x50, 1, 1, .wo, 0, 0x0, 1, .any⟩
/-- R449. -/
def EQ_QCMD_NEXT : Field := ⟨0x50, 0, 1, .wo, 0, 0x0, 1, .any⟩
/-- R449. -/
def EQ_REL_TO : Field := ⟨0x54, 0, 32, .rw, 0, 0x0, 1, .any⟩
/-- R449. -/
def EQ_QSTAT_STOPPED : Field := ⟨0x58, 31, 1, .ro, 0, 0x0, 1, .any⟩
/-- R449. -/
def EQ_QSTAT_MARK_VALID : Field := ⟨0x58, 30, 1, .ro, 0, 0x0, 1, .any⟩
/-- R449. -/
def EQ_QSTAT_MARK_LOST : Field := ⟨0x58, 29, 1, .w1c, 0, 0x0, 1, .any⟩
/-- R449. -/
def EQ_QSTAT_REWIND_FAIL : Field := ⟨0x58, 28, 1, .w1c, 0, 0x0, 1, .any⟩
/-- R449. -/
def EQ_QSTAT_WM_X : Field := ⟨0x58, 27, 1, .w1c, 0, 0x0, 1, .any⟩
/-- R449. -/
def EQ_QSTAT_FULL : Field := ⟨0x58, 26, 1, .w1c, 0, 0x0, 1, .any⟩
/-- R449. -/
def EQ_QSTAT_EMPTY : Field := ⟨0x58, 25, 1, .ro, 1, 0x0, 1, .any⟩
/-- R449. -/
def EQ_QSTAT_LEVEL : Field := ⟨0x58, 0, 24, .ro, 0, 0x0, 1, .any⟩
/-- R449. -/
def EQ_WR : Field := ⟨0x5C, 0, 32, .ro, 0, 0x0, 1, .any⟩
/-- R449. -/
def EQ_RD : Field := ⟨0x60, 0, 32, .ro, 0, 0x0, 1, .any⟩
/-- R449. -/
def EQ_REL : Field := ⟨0x64, 0, 32, .ro, 0, 0x0, 1, .any⟩
/-- R449. -/
def EQ_MARK : Field := ⟨0x68, 0, 32, .ro, 0, 0x0, 1, .any⟩
/-- R449. -/
def EQ_PEAK : Field := ⟨0x6C, 0, 24, .ro, 0, 0x0, 1, .any⟩
/-- R449. -/
def EQ_LOST_COUNT : Field := ⟨0x70, 0, 32, .cnt, 0, 0x0, 1, .any⟩
/-- R449. -/
def EQ_POST_COUNT : Field := ⟨0x74, 0, 32, .cnt, 0, 0x0, 1, .any⟩
/-- R449. -/
def EQ_WM_COUNT : Field := ⟨0x78, 0, 32, .cnt, 0, 0x0, 1, .any⟩
/-- R449. -/
def EQ_QRESET_COUNT : Field := ⟨0x7C, 0, 32, .cnt, 0, 0x0, 1, .any⟩
/-- R449. -/
def EQ_POST : Field := ⟨0x80, 0, 32, .wo, 0, 0x0, 1, .any⟩
/-- R449. -/
def EQ_HEAD : Field := ⟨0x100, 0, 32, .ro, 0, 0x4, 8, .any⟩
def eqFieldsPart0 : List Field := [EQ_QCFG_EN, EQ_QCFG_AUTOREL, EQ_QCFG_CLASSMASK, EQ_OVF_BASE, EQ_OVF_SIZE, EQ_WM, EQ_QCTL_VEC, EQ_QCTL_IRQ_WM, EQ_QCTL_IRQ_NE, EQ_QCMD_PEAK_RST, EQ_QCMD_QRESET, EQ_QCMD_REWIND]
def eqFieldsPart1 : List Field := [EQ_QCMD_MARK, EQ_QCMD_RELEASE, EQ_QCMD_NEXT, EQ_REL_TO, EQ_QSTAT_STOPPED, EQ_QSTAT_MARK_VALID, EQ_QSTAT_MARK_LOST, EQ_QSTAT_REWIND_FAIL, EQ_QSTAT_WM_X, EQ_QSTAT_FULL, EQ_QSTAT_EMPTY, EQ_QSTAT_LEVEL]
def eqFieldsPart2 : List Field := [EQ_WR, EQ_RD, EQ_REL, EQ_MARK, EQ_PEAK, EQ_LOST_COUNT, EQ_POST_COUNT, EQ_WM_COUNT, EQ_QRESET_COUNT, EQ_POST, EQ_HEAD]
/-- Every field of the page EQ. -/
def eqFields : List Field := eqFieldsPart0 ++ eqFieldsPart1 ++ eqFieldsPart2
/-- R456. -/
def REC_RCFG_RGCLK : Field := ⟨0x40, 28, 2, .rws, 0, 0x0, 1, .any⟩
/-- R456. -/
def REC_RCFG_DEC_POST : Field := ⟨0x40, 4, 4, .rws, 0, 0x0, 1, .any⟩
/-- R456. -/
def REC_RCFG_DEC : Field := ⟨0x40, 0, 4, .rws, 0, 0x0, 1, .any⟩
/-- R456. -/
def REC_RPOST : Field := ⟨0x44, 0, 24, .rws, 4096, 0x0, 1, .any⟩
/-- R456. -/
def REC_RING_BASE : Field := ⟨0x48, 16, 16, .rws, 0, 0x0, 1, .any⟩
/-- R456. -/
def REC_RING_SIZE : Field := ⟨0x48, 0, 16, .rws, 0, 0x0, 1, .any⟩
/-- R456. -/
def REC_RCTL_EN : Field := ⟨0x4C, 31, 1, .rw, 0, 0x0, 1, .any⟩
/-- R456. -/
def REC_RCTL_STOP : Field := ⟨0x4C, 2, 1, .wo, 0, 0x0, 1, .any⟩
/-- R456. -/
def REC_RCTL_REARM : Field := ⟨0x4C, 1, 1, .wo, 0, 0x0, 1, .any⟩
/-- R456. -/
def REC_RCTL_TRIG : Field := ⟨0x4C, 0, 1, .wo, 0, 0x0, 1, .any⟩
/-- R456. -/
def REC_RSTAT_STATE : Field := ⟨0x50, 30, 2, .ro, 0, 0x0, 1, .any⟩
/-- R456. -/
def REC_RSTAT_FCAUSE : Field := ⟨0x50, 28, 2, .ro, 0, 0x0, 1, .any⟩
/-- R456. -/
def REC_RSTAT_TLINE : Field := ⟨0x50, 24, 4, .ro, 0, 0x0, 1, .any⟩
/-- R456. -/
def REC_RSTAT_TRG_HOST : Field := ⟨0x50, 23, 1, .ro, 0, 0x0, 1, .any⟩
/-- R456. -/
def REC_RSTAT_TRUNC : Field := ⟨0x50, 2, 1, .w1c, 0, 0x0, 1, .any⟩
/-- R456. -/
def REC_RSTAT_WRAPPED : Field := ⟨0x50, 1, 1, .ro, 0, 0x0, 1, .any⟩
/-- R456. -/
def REC_RSTAT_DROPPED : Field := ⟨0x50, 0, 1, .w1c, 0, 0x0, 1, .any⟩
/-- R456. -/
def REC_FSIZE : Field := ⟨0x54, 0, 15, .ro, 0, 0x0, 1, .any⟩
/-- R456. -/
def REC_WFRAME : Field := ⟨0x58, 0, 32, .ro, 0, 0x0, 1, .any⟩
/-- R456. -/
def REC_TFRAME : Field := ⟨0x5C, 0, 32, .ro, 0, 0x0, 1, .any⟩
/-- R456. -/
def REC_TRG_T_NS : Field := ⟨0x60, 0, 30, .ro, 0, 0x0, 1, .any⟩
/-- R456. -/
def REC_TRG_T_S : Field := ⟨0x64, 0, 32, .ro, 0, 0x0, 1, .any⟩
/-- R456. -/
def REC_DROP_COUNT : Field := ⟨0x68, 0, 32, .cnt, 0, 0x0, 1, .any⟩
/-- R456. -/
def REC_TRGLATE_COUNT : Field := ⟨0x6C, 0, 32, .cnt, 0, 0x0, 1, .any⟩
/-- R456. -/
def REC_IDX_SEQ : Field := ⟨0x70, 0, 32, .ro, 0, 0x0, 1, .any⟩
/-- R456. -/
def REC_ASH_COPY : Field := ⟨0x74, 0, 32, .ro, 0, 0x0, 1, .any⟩
/-- R456. -/
def REC_DESC_EN : Field := ⟨0x100, 31, 1, .rws, 0, 0x4, 32, .any⟩
/-- R456. -/
def REC_DESC_KIND : Field := ⟨0x100, 28, 3, .rws, 0, 0x4, 32, .range 0 5⟩
/-- R456. -/
def REC_DESC_RG : Field := ⟨0x100, 26, 2, .rws, 0, 0x4, 32, .any⟩
/-- R456. -/
def REC_DESC_W16 : Field := ⟨0x100, 25, 1, .rws, 0, 0x4, 32, .any⟩
/-- R456. -/
def REC_DESC_START : Field := ⟨0x100, 10, 11, .rws, 0, 0x4, 32, .any⟩
/-- R456. -/
def REC_DESC_COUNT : Field := ⟨0x100, 0, 10, .rws, 0, 0x4, 32, .any⟩
/-- R456. -/
def REC_TRG_CFG_EN : Field := ⟨0x200, 31, 1, .rws, 0, 0x4, 16, .any⟩
/-- R456. -/
def REC_TRG_CFG_SRC : Field := ⟨0x200, 24, 4, .rws, 0, 0x4, 16, .any⟩
/-- R456. -/
def REC_TRG_CFG_SEL : Field := ⟨0x200, 0, 16, .rws, 0, 0x4, 16, .any⟩
def recFieldsPart0 : List Field := [REC_RCFG_RGCLK, REC_RCFG_DEC_POST, REC_RCFG_DEC, REC_RPOST, REC_RING_BASE, REC_RING_SIZE, REC_RCTL_EN, REC_RCTL_STOP, REC_RCTL_REARM, REC_RCTL_TRIG, REC_RSTAT_STATE, REC_RSTAT_FCAUSE]
def recFieldsPart1 : List Field := [REC_RSTAT_TLINE, REC_RSTAT_TRG_HOST, REC_RSTAT_TRUNC, REC_RSTAT_WRAPPED, REC_RSTAT_DROPPED, REC_FSIZE, REC_WFRAME, REC_TFRAME, REC_TRG_T_NS, REC_TRG_T_S, REC_DROP_COUNT, REC_TRGLATE_COUNT]
def recFieldsPart2 : List Field := [REC_IDX_SEQ, REC_ASH_COPY, REC_DESC_EN, REC_DESC_KIND, REC_DESC_RG, REC_DESC_W16, REC_DESC_START, REC_DESC_COUNT, REC_TRG_CFG_EN, REC_TRG_CFG_SRC, REC_TRG_CFG_SEL]
/-- Every field of the page REC. -/
def recFields : List Field := recFieldsPart0 ++ recFieldsPart1 ++ recFieldsPart2
/-- R510. -/
def THERM_TCFG_DAMP_T : Field := ⟨0x40, 16, 8, .rw, 130, 0x0, 1, .range 100 140⟩
/-- R510. -/
def THERM_TCFG_DSTEP : Field := ⟨0x40, 8, 4, .rw, 2, 0x0, 1, .range 1 8⟩
/-- R510. -/
def THERM_TSTAT_FAST : Field := ⟨0x44, 31, 1, .ro, 0, 0x0, 1, .any⟩
/-- R510. -/
def THERM_TSTAT_WGATE : Field := ⟨0x44, 30, 1, .ro, 0, 0x0, 1, .any⟩
/-- R510. -/
def THERM_TSTAT_TLEVEL : Field := ⟨0x44, 26, 3, .ro, 0, 0x0, 1, .any⟩
/-- R510. -/
def THERM_TSTAT_TMAX : Field := ⟨0x44, 8, 8, .ro, 0, 0x0, 1, .any⟩
/-- R510. -/
def THERM_TSTAT_TMIN : Field := ⟨0x44, 0, 8, .ro, 0, 0x0, 1, .any⟩
/-- R510. -/
def THERM_SENS_SUSPECT : Field := ⟨0x48, 16, 14, .ro, 0, 0x0, 1, .any⟩
/-- R510. -/
def THERM_SENS_GOOD : Field := ⟨0x48, 0, 14, .ro, 16383, 0x0, 1, .any⟩
/-- R510. -/
def THERM_TS_DEV : Field := ⟨0x50, 16, 8, .ro, 0, 0x4, 14, .any⟩
/-- R510. -/
def THERM_TS_TEMP : Field := ⟨0x50, 0, 12, .ro, 0, 0x4, 14, .any⟩
/-- R510. -/
def THERM_TJ_DIE_HT : Field := ⟨0x88, 24, 8, .ro, 0, 0x0, 1, .any⟩
/-- R510. -/
def THERM_TJ_DIE_HB : Field := ⟨0x88, 16, 8, .ro, 0, 0x0, 1, .any⟩
/-- R510. -/
def THERM_TJ_DIE_CD1 : Field := ⟨0x88, 8, 8, .ro, 0, 0x0, 1, .any⟩
/-- R510. -/
def THERM_TJ_DIE_CD0 : Field := ⟨0x88, 0, 8, .ro, 0, 0x0, 1, .any⟩
/-- R510. -/
def THERM_PEAK : Field := ⟨0x8C, 0, 8, .ro, 128, 0x0, 1, .any⟩
/-- R510. -/
def THERM_TCMD : Field := ⟨0x90, 0, 1, .wo, 0, 0x0, 1, .any⟩
/-- R510. -/
def THERM_FAST_COUNT : Field := ⟨0x94, 0, 32, .cnt, 0, 0x0, 1, .any⟩
/-- R510. -/
def THERM_BAD_COUNT : Field := ⟨0x98, 0, 32, .cnt, 0, 0x0, 1, .any⟩
/-- R510. -/
def THERM_PAIRDEV_COUNT : Field := ⟨0x9C, 0, 32, .cnt, 0, 0x0, 1, .any⟩
def thermFieldsPart0 : List Field := [THERM_TCFG_DAMP_T, THERM_TCFG_DSTEP, THERM_TSTAT_FAST, THERM_TSTAT_WGATE, THERM_TSTAT_TLEVEL, THERM_TSTAT_TMAX, THERM_TSTAT_TMIN, THERM_SENS_SUSPECT, THERM_SENS_GOOD, THERM_TS_DEV, THERM_TS_TEMP, THERM_TJ_DIE_HT]
def thermFieldsPart1 : List Field := [THERM_TJ_DIE_HB, THERM_TJ_DIE_CD1, THERM_TJ_DIE_CD0, THERM_PEAK, THERM_TCMD, THERM_FAST_COUNT, THERM_BAD_COUNT, THERM_PAIRDEV_COUNT]
/-- Every field of the page THERM. -/
def thermFields : List Field := thermFieldsPart0 ++ thermFieldsPart1
/-- R535. -/
def BIST_BCTL_KEY : Field := ⟨0x40, 16, 16, .wo, 0, 0x0, 1, .any⟩
/-- R535. -/
def BIST_BCTL_HRT_LBIST : Field := ⟨0x40, 9, 1, .wo, 0, 0x0, 1, .any⟩
/-- R535. -/
def BIST_BCTL_HUB_LBIST : Field := ⟨0x40, 8, 1, .wo, 0, 0x0, 1, .any⟩
/-- R535. -/
def BIST_BCTL_ABORT : Field := ⟨0x40, 4, 4, .wo, 0, 0x0, 1, .any⟩
/-- R535. -/
def BIST_BCTL_GO : Field := ⟨0x40, 0, 4, .wo, 0, 0x0, 1, .any⟩
/-- R535. -/
def BIST_BSTAT_RUN : Field := ⟨0x44, 28, 4, .ro, 0, 0x0, 1, .any⟩
/-- R535. -/
def BIST_BSTAT_UNUSABLE : Field := ⟨0x44, 24, 4, .ro, 0, 0x0, 1, .any⟩
/-- R535. -/
def BIST_BSTAT_HUB_RUN : Field := ⟨0x44, 23, 1, .ro, 0, 0x0, 1, .any⟩
/-- R535. -/
def BIST_BSTAT_HRT_RUN : Field := ⟨0x44, 22, 1, .ro, 0, 0x0, 1, .any⟩
/-- R535. -/
def BIST_BSTAT_LEND : Field := ⟨0x44, 21, 1, .ro, 0, 0x0, 1, .any⟩
/-- R535. -/
def BIST_BSTAT_REFUSED : Field := ⟨0x44, 20, 1, .w1c, 0, 0x0, 1, .any⟩
/-- R535. -/
def BIST_BSTAT_REF_CAUSE : Field := ⟨0x44, 16, 4, .ro, 0, 0x0, 1, .any⟩
/-- R535. -/
def BIST_SB_CFG : Field := ⟨0x48, 0, 16, .rw, 100, 0x0, 1, .range 1 65535⟩
/-- R535. -/
def BIST_UMARK_KEY : Field := ⟨0x4C, 16, 16, .wo, 0, 0x0, 1, .any⟩
/-- R535. -/
def BIST_UMARK_RG : Field := ⟨0x4C, 0, 4, .wo, 0, 0x0, 1, .any⟩
/-- R535. -/
def BIST_RGRES_VERDICT : Field := ⟨0x50, 30, 2, .ro, 0, 0x10, 4, .any⟩
/-- R535. -/
def BIST_RGRES_MEMFAIL : Field := ⟨0x50, 29, 1, .ro, 0, 0x10, 4, .any⟩
/-- R535. -/
def BIST_RGRES_SIGFAIL : Field := ⟨0x50, 28, 1, .ro, 0, 0x10, 4, .any⟩
/-- R535. -/
def BIST_RGRES_MADDR : Field := ⟨0x50, 0, 24, .ro, 0, 0x10, 4, .any⟩
/-- R535. -/
def BIST_SIG_LO : Field := ⟨0x54, 0, 32, .ro, 0, 0x10, 4, .any⟩
/-- R535. -/
def BIST_SIG_HI : Field := ⟨0x58, 0, 32, .ro, 0, 0x10, 4, .any⟩
/-- R535. -/
def BIST_DONE_S : Field := ⟨0x5C, 0, 32, .ro, 0, 0x10, 4, .any⟩
/-- R535. -/
def BIST_LRES_HUB : Field := ⟨0x90, 30, 2, .ro, 0, 0x0, 1, .any⟩
/-- R535. -/
def BIST_LRES_HRT : Field := ⟨0x90, 28, 2, .ro, 0, 0x0, 1, .any⟩
/-- R535. -/
def BIST_HSIG_LO : Field := ⟨0x94, 0, 32, .ro, 0, 0x0, 1, .any⟩
/-- R535. -/
def BIST_HSIG_HI : Field := ⟨0x98, 0, 32, .ro, 0, 0x0, 1, .any⟩
/-- R535. -/
def BIST_TSIG_LO : Field := ⟨0x9C, 0, 32, .ro, 0, 0x0, 1, .any⟩
/-- R535. -/
def BIST_TSIG_HI : Field := ⟨0xA0, 0, 32, .ro, 0, 0x0, 1, .any⟩
/-- R535. -/
def BIST_RUN_COUNT : Field := ⟨0xA4, 0, 32, .cnt, 0, 0x0, 1, .any⟩
/-- R535. -/
def BIST_FAIL_COUNT : Field := ⟨0xA8, 0, 32, .cnt, 0, 0x0, 1, .any⟩
def bistFieldsPart0 : List Field := [BIST_BCTL_KEY, BIST_BCTL_HRT_LBIST, BIST_BCTL_HUB_LBIST, BIST_BCTL_ABORT, BIST_BCTL_GO, BIST_BSTAT_RUN, BIST_BSTAT_UNUSABLE, BIST_BSTAT_HUB_RUN, BIST_BSTAT_HRT_RUN, BIST_BSTAT_LEND, BIST_BSTAT_REFUSED, BIST_BSTAT_REF_CAUSE]
def bistFieldsPart1 : List Field := [BIST_SB_CFG, BIST_UMARK_KEY, BIST_UMARK_RG, BIST_RGRES_VERDICT, BIST_RGRES_MEMFAIL, BIST_RGRES_SIGFAIL, BIST_RGRES_MADDR, BIST_SIG_LO, BIST_SIG_HI, BIST_DONE_S, BIST_LRES_HUB, BIST_LRES_HRT]
def bistFieldsPart2 : List Field := [BIST_HSIG_LO, BIST_HSIG_HI, BIST_TSIG_LO, BIST_TSIG_HI, BIST_RUN_COUNT, BIST_FAIL_COUNT]
/-- Every field of the page BIST. -/
def bistFields : List Field := bistFieldsPart0 ++ bistFieldsPart1 ++ bistFieldsPart2
/-- R537. -/
def CSTORE_SLOT_LO : Field := ⟨0x40, 0, 32, .ro, 0, 0x8, 16, .any⟩
/-- R537. -/
def CSTORE_SLOT_HI : Field := ⟨0x44, 0, 32, .ro, 0, 0x8, 16, .any⟩
/-- R537. -/
def CSTORE_WCNT0 : Field := ⟨0xC0, 0, 32, .ro, 0, 0x0, 1, .any⟩
/-- R537. -/
def CSTORE_WCNT1 : Field := ⟨0xC4, 0, 32, .ro, 0, 0x0, 1, .any⟩
/-- R537. -/
def CSTORE_WCTL_GO : Field := ⟨0xD0, 4, 1, .wo, 0, 0x0, 1, .any⟩
/-- R537. -/
def CSTORE_WCTL_SLOT : Field := ⟨0xD0, 0, 4, .rw, 0, 0x0, 1, .any⟩
/-- R537. -/
def CSTORE_WDATA_LO : Field := ⟨0xD4, 0, 32, .rw, 0, 0x0, 1, .any⟩
/-- R537. -/
def CSTORE_WDATA_HI : Field := ⟨0xD8, 0, 32, .rw, 0, 0x0, 1, .any⟩
/-- R537. -/
def CSTORE_WSTAT_BUSY : Field := ⟨0xDC, 31, 1, .ro, 0, 0x0, 1, .any⟩
/-- R537. -/
def CSTORE_WSTAT_DONE : Field := ⟨0xDC, 30, 1, .w1c, 0, 0x0, 1, .any⟩
/-- R537. -/
def CSTORE_WSTAT_REFUSED : Field := ⟨0xDC, 29, 1, .w1c, 0, 0x0, 1, .any⟩
/-- R537. -/
def CSTORE_WSTAT_FAIL : Field := ⟨0xDC, 28, 1, .w1c, 0, 0x0, 1, .any⟩
/-- R537. -/
def CSTORE_WSTAT_REF_CAUSE : Field := ⟨0xDC, 24, 4, .ro, 0, 0x0, 1, .any⟩
/-- R537. -/
def CSTORE_WSTAT_LOG_N : Field := ⟨0xDC, 0, 8, .ro, 0, 0x0, 1, .any⟩
/-- R537. -/
def CSTORE_IDENT_ACT_PKG : Field := ⟨0xE0, 16, 10, .ro, 0, 0x0, 1, .any⟩
/-- R537. -/
def CSTORE_IDENT_ACT_PAIR : Field := ⟨0xE0, 0, 16, .ro, 0, 0x0, 1, .any⟩
/-- R537. -/
def CSTORE_CEIL_ACT_EN : Field := ⟨0xE4, 31, 1, .ro, 0, 0x0, 1, .any⟩
/-- R537. -/
def CSTORE_CEIL_ACT_VREADY_MAX : Field := ⟨0xE4, 0, 16, .ro, 0, 0x0, 1, .any⟩
/-- R537. -/
def CSTORE_LANES_ACT_LO : Field := ⟨0xE8, 0, 32, .ro, 4294967295, 0x0, 1, .any⟩
/-- R537. -/
def CSTORE_LANES_ACT_HI : Field := ⟨0xEC, 0, 16, .ro, 65535, 0x0, 1, .any⟩
def cstoreFieldsPart0 : List Field := [CSTORE_SLOT_LO, CSTORE_SLOT_HI, CSTORE_WCNT0, CSTORE_WCNT1, CSTORE_WCTL_GO, CSTORE_WCTL_SLOT, CSTORE_WDATA_LO, CSTORE_WDATA_HI, CSTORE_WSTAT_BUSY, CSTORE_WSTAT_DONE, CSTORE_WSTAT_REFUSED, CSTORE_WSTAT_FAIL]
def cstoreFieldsPart1 : List Field := [CSTORE_WSTAT_REF_CAUSE, CSTORE_WSTAT_LOG_N, CSTORE_IDENT_ACT_PKG, CSTORE_IDENT_ACT_PAIR, CSTORE_CEIL_ACT_EN, CSTORE_CEIL_ACT_VREADY_MAX, CSTORE_LANES_ACT_LO, CSTORE_LANES_ACT_HI]
/-- Every field of the page CSTORE. -/
def cstoreFields : List Field := cstoreFieldsPart0 ++ cstoreFieldsPart1
/-- R536. -/
def SEC_KEYSTAT_BLANK : Field := ⟨0x40, 31, 1, .ro, 0, 0x0, 1, .any⟩
/-- R536. -/
def SEC_KEYSTAT_OPEN : Field := ⟨0x40, 30, 1, .ro, 0, 0x0, 1, .any⟩
/-- R536. -/
def SEC_KEYSTAT_ZEROISED : Field := ⟨0x40, 29, 1, .ro, 0, 0x0, 1, .any⟩
/-- R536. -/
def SEC_KEYSTAT_ZCAUSE : Field := ⟨0x40, 26, 3, .ro, 0, 0x0, 1, .any⟩
/-- R536. -/
def SEC_KCV : Field := ⟨0x44, 0, 32, .ro, 0, 0x0, 1, .any⟩
/-- R536. -/
def SEC_SCTL_KEY : Field := ⟨0x48, 16, 16, .wo, 0, 0x0, 1, .any⟩
/-- R536. -/
def SEC_SCTL_PROG : Field := ⟨0x48, 1, 1, .wo, 0, 0x0, 1, .any⟩
/-- R536. -/
def SEC_SCTL_ZEROISE : Field := ⟨0x48, 0, 1, .wo, 0, 0x0, 1, .any⟩
/-- R536. -/
def SEC_KEYW : Field := ⟨0x50, 0, 32, .wo, 0, 0x4, 8, .any⟩
/-- R536. -/
def SEC_RGNT_EN : Field := ⟨0x80, 31, 1, .rw, 0, 0x8, 4, .any⟩
/-- R536. -/
def SEC_RGNT_PKG : Field := ⟨0x80, 0, 10, .rw, 0, 0x8, 4, .any⟩
/-- R536. -/
def SEC_RGNT_EXP : Field := ⟨0x84, 0, 32, .rw, 0, 0x8, 4, .any⟩
/-- R536. -/
def SEC_RA_SERVED : Field := ⟨0xA0, 0, 32, .cnt, 0, 0x0, 1, .any⟩
/-- R536. -/
def SEC_RA_NOGRANT : Field := ⟨0xA4, 0, 32, .cnt, 0, 0x0, 1, .any⟩
def secFieldsPart0 : List Field := [SEC_KEYSTAT_BLANK, SEC_KEYSTAT_OPEN, SEC_KEYSTAT_ZEROISED, SEC_KEYSTAT_ZCAUSE, SEC_KCV, SEC_SCTL_KEY, SEC_SCTL_PROG, SEC_SCTL_ZEROISE, SEC_KEYW, SEC_RGNT_EN, SEC_RGNT_PKG, SEC_RGNT_EXP]
def secFieldsPart1 : List Field := [SEC_RA_SERVED, SEC_RA_NOGRANT]
/-- Every field of the page SEC. -/
def secFields : List Field := secFieldsPart0 ++ secFieldsPart1

end Sys2Proof.Machine
end

