-- ==== Sys2Proof/Machine/RegMapPackage.lean ====
section
/-! DEFINITION. Register fields of the pages HDR, COL, PKG, TALLY, SPLL, HOST, CLAIM, ETH, one definition per field of the spec's register tables: offset, lowest bit, width, access code, reset value, stride, count and valid values (R10). -/

namespace Sys2Proof.Machine

/-- R56. -/
def HDR_PID_TYPE : Field := ⟨0x0, 16, 16, .ro, 0, 0x0, 1, .any⟩
/-- R56. -/
def HDR_PID_INST : Field := ⟨0x0, 8, 8, .ro, 0, 0x0, 1, .any⟩
/-- R56. -/
def HDR_PID_REV : Field := ⟨0x0, 0, 8, .ro, 1, 0x0, 1, .any⟩
/-- R58. -/
def HDR_CAPS_CLAIMS : Field := ⟨0x4, 5, 1, .ro, 0, 0x0, 1, .any⟩
/-- R58. -/
def HDR_CAPS_LIVE : Field := ⟨0x4, 4, 1, .ro, 0, 0x0, 1, .any⟩
/-- R58. -/
def HDR_CAPS_INJ : Field := ⟨0x4, 3, 1, .ro, 0, 0x0, 1, .any⟩
/-- R58. -/
def HDR_CAPS_REMOTE_OK : Field := ⟨0x4, 2, 1, .ro, 0, 0x0, 1, .any⟩
/-- R58. -/
def HDR_CAPS_SEALED : Field := ⟨0x4, 1, 1, .ro, 0, 0x0, 1, .any⟩
/-- R58. -/
def HDR_CAPS_SHADOW : Field := ⟨0x4, 0, 1, .ro, 0, 0x0, 1, .any⟩
/-- R59. -/
def HDR_CTL_VEC : Field := ⟨0x8, 8, 6, .rw, 0, 0x0, 1, .any⟩
/-- R59. -/
def HDR_CTL_IRQ_EN : Field := ⟨0x8, 0, 1, .rw, 0, 0x0, 1, .any⟩
/-- R60. -/
def HDR_STAT_SHADOW_DIRTY : Field := ⟨0xC, 7, 1, .ro, 0, 0x0, 1, .any⟩
/-- R60. -/
def HDR_STAT_UNUSABLE : Field := ⟨0xC, 6, 1, .ro, 0, 0x0, 1, .any⟩
/-- R60. -/
def HDR_STAT_RESETTING : Field := ⟨0xC, 5, 1, .ro, 0, 0x0, 1, .any⟩
/-- R60. -/
def HDR_STAT_BUSY : Field := ⟨0xC, 4, 1, .ro, 0, 0x0, 1, .any⟩
/-- R60. -/
def HDR_STAT_SHADOW_WR : Field := ⟨0xC, 3, 1, .w1c, 0, 0x0, 1, .any⟩
/-- R60. -/
def HDR_STAT_LOCK_WR : Field := ⟨0xC, 2, 1, .w1c, 0, 0x0, 1, .any⟩
/-- R60. -/
def HDR_STAT_CLAIM_DENIED : Field := ⟨0xC, 1, 1, .w1c, 0, 0x0, 1, .any⟩
/-- R60. -/
def HDR_STAT_BADVAL : Field := ⟨0xC, 0, 1, .w1c, 0, 0x0, 1, .any⟩
/-- R61. -/
def HDR_FLT_CAUSE : Field := ⟨0x10, 16, 16, .w1c, 0, 0x0, 1, .any⟩
/-- R61. -/
def HDR_FLT_FATAL : Field := ⟨0x10, 2, 1, .ro, 0, 0x0, 1, .any⟩
/-- R61. -/
def HDR_FLT_UC : Field := ⟨0x10, 1, 1, .w1c, 0, 0x0, 1, .any⟩
/-- R61. -/
def HDR_FLT_CE : Field := ⟨0x10, 0, 1, .w1c, 0, 0x0, 1, .any⟩
/-- R62. -/
def HDR_FLTMASK_UC_MASK : Field := ⟨0x14, 1, 1, .rw, 0, 0x0, 1, .any⟩
/-- R62. -/
def HDR_FLTMASK_CE_MASK : Field := ⟨0x14, 0, 1, .rw, 0, 0x0, 1, .any⟩
/-- R63. -/
def HDR_INJ_HIT : Field := ⟨0x18, 14, 1, .w1c, 0, 0x0, 1, .any⟩
/-- R63. -/
def HDR_INJ_ARMED : Field := ⟨0x18, 13, 1, .ro, 0, 0x0, 1, .any⟩
/-- R63. -/
def HDR_INJ_ARM : Field := ⟨0x18, 12, 1, .wo, 0, 0x0, 1, .any⟩
/-- R63. -/
def HDR_INJ_BIT : Field := ⟨0x18, 4, 8, .rw, 0, 0x0, 1, .any⟩
/-- R63. -/
def HDR_INJ_CHK : Field := ⟨0x18, 0, 4, .rw, 0, 0x0, 1, .any⟩
/-- R64. -/
def HDR_LOCK_KEY : Field := ⟨0x1C, 16, 16, .wo, 0, 0x0, 1, .any⟩
/-- R64. -/
def HDR_LOCK_LOCKED : Field := ⟨0x1C, 0, 1, .ro, 0, 0x0, 1, .any⟩
/-- R65. -/
def HDR_CLAIM_HELD : Field := ⟨0x20, 16, 8, .ro, 0, 0x0, 1, .any⟩
/-- R65. -/
def HDR_CLAIM_DENIED_RES : Field := ⟨0x20, 0, 16, .ro, 0, 0x0, 1, .any⟩
def hdrFieldsPart0 : List Field := [HDR_PID_TYPE, HDR_PID_INST, HDR_PID_REV, HDR_CAPS_CLAIMS, HDR_CAPS_LIVE, HDR_CAPS_INJ, HDR_CAPS_REMOTE_OK, HDR_CAPS_SEALED, HDR_CAPS_SHADOW, HDR_CTL_VEC, HDR_CTL_IRQ_EN, HDR_STAT_SHADOW_DIRTY]
def hdrFieldsPart1 : List Field := [HDR_STAT_UNUSABLE, HDR_STAT_RESETTING, HDR_STAT_BUSY, HDR_STAT_SHADOW_WR, HDR_STAT_LOCK_WR, HDR_STAT_CLAIM_DENIED, HDR_STAT_BADVAL, HDR_FLT_CAUSE, HDR_FLT_FATAL, HDR_FLT_UC, HDR_FLT_CE, HDR_FLTMASK_UC_MASK]
def hdrFieldsPart2 : List Field := [HDR_FLTMASK_CE_MASK, HDR_INJ_HIT, HDR_INJ_ARMED, HDR_INJ_ARM, HDR_INJ_BIT, HDR_INJ_CHK, HDR_LOCK_KEY, HDR_LOCK_LOCKED, HDR_CLAIM_HELD, HDR_CLAIM_DENIED_RES]
/-- Every field of the page header (R55 to R65). -/
def hdrFields : List Field := hdrFieldsPart0 ++ hdrFieldsPart1 ++ hdrFieldsPart2
/-- R387. -/
def COL_FSUM_FIRST : Field := ⟨0x0, 16, 8, .ro, 0, 0x0, 1, .any⟩
/-- R387. -/
def COL_FSUM_FATAL : Field := ⟨0x0, 2, 1, .ro, 0, 0x0, 1, .any⟩
/-- R387. -/
def COL_FSUM_UC : Field := ⟨0x0, 1, 1, .w1c, 0, 0x0, 1, .any⟩
/-- R387. -/
def COL_FSUM_CE : Field := ⟨0x0, 0, 1, .w1c, 0, 0x0, 1, .any⟩
/-- R387. -/
def COL_FMASK_UC_MASK : Field := ⟨0x4, 1, 1, .rw, 0, 0x0, 1, .any⟩
/-- R387. -/
def COL_FMASK_CE_MASK : Field := ⟨0x4, 0, 1, .rw, 0, 0x0, 1, .any⟩
/-- R387. -/
def COL_FSRC : Field := ⟨0x8, 0, 32, .w1c, 0, 0x0, 1, .any⟩
/-- R387. -/
def COL_CE_CNT : Field := ⟨0xC, 0, 32, .cnt, 0, 0x0, 1, .any⟩
/-- R387. -/
def COL_UC_CNT : Field := ⟨0x10, 0, 32, .cnt, 0, 0x0, 1, .any⟩
/-- R387. -/
def COL_FATAL_CNT : Field := ⟨0x14, 0, 32, .cnt, 0, 0x0, 1, .any⟩
def colFieldsPart0 : List Field := [COL_FSUM_FIRST, COL_FSUM_FATAL, COL_FSUM_UC, COL_FSUM_CE, COL_FMASK_UC_MASK, COL_FMASK_CE_MASK, COL_FSRC, COL_CE_CNT, COL_UC_CNT, COL_FATAL_CNT]
/-- Every field of a Flue collector (R387). -/
def colFields : List Field := colFieldsPart0
/-- R79. -/
def PKG_SWAP_TL : Field := ⟨0x40, 0, 32, .rw, 0, 0x0, 1, .any⟩
/-- R79. -/
def PKG_SWAP_TH : Field := ⟨0x44, 0, 16, .rw, 0, 0x0, 1, .any⟩
/-- R79. -/
def PKG_SWAP_TNS : Field := ⟨0x48, 0, 30, .rw, 0, 0x0, 1, .range 0 999999999⟩
/-- R79. -/
def PKG_SWAP_SETCOPY : Field := ⟨0x4C, 2, 1, .wo, 0, 0x0, 1, .any⟩
/-- R79. -/
def PKG_SWAP_DISARM : Field := ⟨0x4C, 1, 1, .wo, 0, 0x0, 1, .any⟩
/-- R79. -/
def PKG_SWAP_ARM : Field := ⟨0x4C, 0, 1, .wo, 0, 0x0, 1, .any⟩
/-- R79. -/
def PKG_SWAP_CRC : Field := ⟨0x54, 0, 32, .rw, 0, 0x0, 1, .any⟩
/-- R79. -/
def PKG_SWAP_CRC_CALC : Field := ⟨0x58, 0, 32, .ro, 0, 0x0, 1, .any⟩
/-- R79. -/
def PKG_ACTIVE_CRC : Field := ⟨0x5C, 0, 32, .ro, 0, 0x0, 1, .any⟩
/-- R79. -/
def PKG_SWAP_COUNT : Field := ⟨0x60, 0, 32, .cnt, 0, 0x0, 1, .any⟩
/-- R79. -/
def PKG_SWAP_REFUSED : Field := ⟨0x64, 0, 32, .cnt, 0, 0x0, 1, .any⟩
/-- R80. -/
def PKG_SWAP_STAT_ERR_INFO : Field := ⟨0x50, 24, 8, .ro, 0, 0x0, 1, .any⟩
/-- R80. -/
def PKG_SWAP_STAT_ERR_CAUSE : Field := ⟨0x50, 16, 8, .ro, 0, 0x0, 1, .any⟩
/-- R80. -/
def PKG_SWAP_STAT_RG_DONE : Field := ⟨0x50, 12, 4, .ro, 0, 0x0, 1, .any⟩
/-- R80. -/
def PKG_SWAP_STAT_ACTIVE_ID : Field := ⟨0x50, 8, 1, .ro, 0, 0x0, 1, .any⟩
/-- R80. -/
def PKG_SWAP_STAT_COPY_DONE : Field := ⟨0x50, 6, 1, .w1c, 0, 0x0, 1, .any⟩
/-- R80. -/
def PKG_SWAP_STAT_COPY_BUSY : Field := ⟨0x50, 5, 1, .ro, 0, 0x0, 1, .any⟩
/-- R80. -/
def PKG_SWAP_STAT_SWAP_ERR : Field := ⟨0x50, 4, 1, .w1c, 0, 0x0, 1, .any⟩
/-- R80. -/
def PKG_SWAP_STAT_DONE : Field := ⟨0x50, 3, 1, .w1c, 0, 0x0, 1, .any⟩
/-- R80. -/
def PKG_SWAP_STAT_PENDING : Field := ⟨0x50, 2, 1, .ro, 0, 0x0, 1, .any⟩
/-- R80. -/
def PKG_SWAP_STAT_CHECKING : Field := ⟨0x50, 1, 1, .ro, 0, 0x0, 1, .any⟩
/-- R80. -/
def PKG_SWAP_STAT_ARMED : Field := ⟨0x50, 0, 1, .ro, 0, 0x0, 1, .any⟩
/-- R106. -/
def PKG_SG_STAT : Field := ⟨0x80, 0, 7, .w1c, 0, 0x0, 1, .any⟩
/-- R106. -/
def PKG_SG_LAST_DOMAIN : Field := ⟨0x84, 28, 4, .ro, 0, 0x0, 1, .any⟩
/-- R106. -/
def PKG_SG_LAST_CLUSTER : Field := ⟨0x84, 22, 6, .ro, 63, 0x0, 1, .any⟩
/-- R106. -/
def PKG_SG_LAST_PHASE : Field := ⟨0x84, 21, 1, .ro, 0, 0x0, 1, .any⟩
/-- R106. -/
def PKG_SG_LAST_KIND : Field := ⟨0x84, 19, 2, .ro, 0, 0x0, 1, .any⟩
/-- R106. -/
def PKG_SG_LAST_CHAN : Field := ⟨0x84, 0, 16, .ro, 0, 0x0, 1, .any⟩
/-- R106. -/
def PKG_SG_COUNT : Field := ⟨0x88, 0, 32, .cnt, 0, 0x0, 1, .any⟩
/-- R116. -/
def PKG_FENCE_STAT : Field := ⟨0x90, 0, 8, .ro, 0, 0x0, 1, .any⟩
/-- R116. -/
def PKG_WDRN_COUNT : Field := ⟨0x94, 0, 32, .cnt, 0, 0x0, 1, .any⟩
/-- R116. -/
def PKG_DISC_COUNT : Field := ⟨0x98, 0, 32, .cnt, 0, 0x0, 1, .any⟩
/-- R116. -/
def PKG_BUSY_COUNT : Field := ⟨0x9C, 0, 32, .cnt, 0, 0x0, 1, .any⟩
/-- R120. -/
def PKG_DAMP_CTL : Field := ⟨0xA0, 0, 3, .rw, 0, 0x0, 1, .any⟩
/-- R120. -/
def PKG_DAMP_STAT_PEAK : Field := ⟨0xA4, 8, 4, .w1c, 0, 0x0, 1, .any⟩
/-- R120. -/
def PKG_DAMP_STAT_LEVEL : Field := ⟨0xA4, 0, 3, .ro, 0, 0x0, 1, .any⟩
/-- R120. -/
def PKG_DAMP_CLOSED : Field := ⟨0xA8, 0, 32, .cnt, 0, 0x0, 1, .any⟩
/-- R213. -/
def PKG_E0_S_LO : Field := ⟨0xC0, 0, 32, .rw, 0, 0x0, 1, .any⟩
/-- R213. -/
def PKG_E0_S_HI : Field := ⟨0xC4, 0, 16, .rw, 0, 0x0, 1, .any⟩
/-- R213. -/
def PKG_E0_NS : Field := ⟨0xC8, 0, 30, .rw, 0, 0x0, 1, .range 0 999999999⟩
/-- R240. -/
def PKG_FRZ_CTL : Field := ⟨0xB0, 0, 1, .rw, 0, 0x0, 1, .any⟩
/-- R240. -/
def PKG_FRZ_STAT_RESUMED : Field := ⟨0xB4, 2, 1, .w1c, 0, 0x0, 1, .any⟩
/-- R240. -/
def PKG_FRZ_STAT_JTAG : Field := ⟨0xB4, 1, 1, .ro, 0, 0x0, 1, .any⟩
/-- R240. -/
def PKG_FRZ_STAT_FROZEN : Field := ⟨0xB4, 0, 1, .ro, 0, 0x0, 1, .any⟩
/-- R240. -/
def PKG_FRZ_T_NS : Field := ⟨0xB8, 0, 30, .ro, 0, 0x0, 1, .any⟩
/-- R240. -/
def PKG_FRZ_T_S : Field := ⟨0xBC, 0, 32, .ro, 0, 0x0, 1, .any⟩
/-- R378. -/
def PKG_SUPMON_UV_EN : Field := ⟨0x100, 1, 1, .rws, 1, 0x0, 1, .any⟩
/-- R378. -/
def PKG_SUPMON_OV_EN : Field := ⟨0x100, 0, 1, .rws, 1, 0x0, 1, .any⟩
/-- R378. -/
def PKG_TRIPN_STAT : Field := ⟨0x104, 0, 8, .ro, 0, 0x0, 1, .any⟩
/-- R378. -/
def PKG_TRIPN_CFG_EN : Field := ⟨0x110, 31, 1, .rws, 0, 0x4, 8, .any⟩
/-- R378. -/
def PKG_TRIPN_CFG_FILT : Field := ⟨0x110, 0, 8, .rws, 8, 0x4, 8, .any⟩
/-- R378. -/
def PKG_CHOP_CFG_EN : Field := ⟨0x140, 31, 1, .rws, 0, 0x10, 8, .any⟩
/-- R378. -/
def PKG_CHOP_CFG_OPOL : Field := ⟨0x140, 30, 1, .rws, 0, 0x10, 8, .any⟩
/-- R378. -/
def PKG_CHOP_CFG_FBPOL : Field := ⟨0x140, 29, 1, .rws, 0, 0x10, 8, .any⟩
/-- R378. -/
def PKG_CHOP_CFG_WC : Field := ⟨0x140, 16, 6, .rws, 0, 0x10, 8, .any⟩
/-- R378. -/
def PKG_CHOP_CFG_FBFILT : Field := ⟨0x140, 0, 8, .rws, 8, 0x10, 8, .any⟩
/-- R378. -/
def PKG_CHOP_TIM_TMAX_ON : Field := ⟨0x144, 16, 16, .rws, 1000, 0x10, 8, .range 1 65535⟩
/-- R378. -/
def PKG_CHOP_TIM_TMIN_OFF : Field := ⟨0x144, 0, 16, .rws, 10, 0x10, 8, .range 1 65535⟩
/-- R378. -/
def PKG_CHOP_STAT_HRT_CTL : Field := ⟨0x148, 5, 1, .ro, 0, 0x10, 8, .any⟩
/-- R378. -/
def PKG_CHOP_STAT_FB_ACT : Field := ⟨0x148, 4, 1, .ro, 0, 0x10, 8, .any⟩
/-- R378. -/
def PKG_CHOP_STAT_FB_LAT : Field := ⟨0x148, 3, 1, .w1c, 0, 0x10, 8, .any⟩
/-- R378. -/
def PKG_CHOP_STAT_TMAX : Field := ⟨0x148, 2, 1, .w1c, 0, 0x10, 8, .any⟩
/-- R378. -/
def PKG_CHOP_STAT_HELD : Field := ⟨0x148, 1, 1, .ro, 0, 0x10, 8, .any⟩
/-- R378. -/
def PKG_CHOP_STAT_ON : Field := ⟨0x148, 0, 1, .ro, 0, 0x10, 8, .any⟩
/-- R378. -/
def PKG_CHOP_ONT : Field := ⟨0x14C, 0, 32, .cnt, 0, 0x10, 8, .any⟩
/-- R411. -/
def PKG_ECC_LAST_MEM : Field := ⟨0x280, 29, 3, .ro, 0, 0x0, 1, .any⟩
/-- R411. -/
def PKG_ECC_LAST_UE : Field := ⟨0x280, 28, 1, .ro, 0, 0x0, 1, .any⟩
/-- R411. -/
def PKG_ECC_LAST_WORD : Field := ⟨0x280, 0, 24, .ro, 0, 0x0, 1, .any⟩
/-- R411. -/
def PKG_ECC_CE_COUNT : Field := ⟨0x284, 0, 32, .cnt, 0, 0x0, 1, .any⟩
/-- R411. -/
def PKG_ECC_UE_COUNT : Field := ⟨0x288, 0, 32, .cnt, 0, 0x0, 1, .any⟩
/-- R493. -/
def PKG_RST_CTL_KEY : Field := ⟨0x2C0, 16, 16, .wo, 0, 0x0, 1, .any⟩
/-- R493. -/
def PKG_RST_CTL_PKG : Field := ⟨0x2C0, 8, 1, .wo, 0, 0x0, 1, .any⟩
/-- R493. -/
def PKG_RST_CTL_DIE : Field := ⟨0x2C0, 4, 2, .wo, 0, 0x0, 1, .any⟩
/-- R493. -/
def PKG_RST_CTL_RG : Field := ⟨0x2C0, 0, 4, .wo, 0, 0x0, 1, .any⟩
/-- R493. -/
def PKG_KSTAT_DONE : Field := ⟨0x2C4, 31, 1, .ro, 0, 0x0, 1, .any⟩
/-- R493. -/
def PKG_KSTAT_FAIL : Field := ⟨0x2C4, 30, 1, .ro, 0, 0x0, 1, .any⟩
/-- R493. -/
def PKG_KSTAT_FALLBACK : Field := ⟨0x2C4, 29, 1, .ro, 0, 0x0, 1, .any⟩
/-- R493. -/
def PKG_KSTAT_HOSTBOOT : Field := ⟨0x2C4, 28, 1, .ro, 0, 0x0, 1, .any⟩
/-- R493. -/
def PKG_KSTAT_STEP : Field := ⟨0x2C4, 24, 4, .ro, 1, 0x0, 1, .any⟩
/-- R493. -/
def PKG_KSTAT_FAIL_STEP : Field := ⟨0x2C4, 20, 4, .ro, 0, 0x0, 1, .any⟩
/-- R493. -/
def PKG_KSTAT_FAIL_CAUSE : Field := ⟨0x2C4, 16, 4, .ro, 0, 0x0, 1, .any⟩
/-- R493. -/
def PKG_KSTAT_CAUSE : Field := ⟨0x2C4, 12, 4, .ro, 1, 0x0, 1, .any⟩
/-- R493. -/
def PKG_KSTAT_LANES_LATE : Field := ⟨0x2C4, 11, 1, .w1c, 0, 0x0, 1, .any⟩
/-- R493. -/
def PKG_KCTL_IMG : Field := ⟨0x2C8, 16, 8, .rw, 0, 0x0, 1, .any⟩
/-- R493. -/
def PKG_KCTL_IMG_GO : Field := ⟨0x2C8, 0, 1, .wo, 0, 0x0, 1, .any⟩
def pkgFieldsPart0 : List Field := [PKG_SWAP_TL, PKG_SWAP_TH, PKG_SWAP_TNS, PKG_SWAP_SETCOPY, PKG_SWAP_DISARM, PKG_SWAP_ARM, PKG_SWAP_CRC, PKG_SWAP_CRC_CALC, PKG_ACTIVE_CRC, PKG_SWAP_COUNT, PKG_SWAP_REFUSED, PKG_SWAP_STAT_ERR_INFO]
def pkgFieldsPart1 : List Field := [PKG_SWAP_STAT_ERR_CAUSE, PKG_SWAP_STAT_RG_DONE, PKG_SWAP_STAT_ACTIVE_ID, PKG_SWAP_STAT_COPY_DONE, PKG_SWAP_STAT_COPY_BUSY, PKG_SWAP_STAT_SWAP_ERR, PKG_SWAP_STAT_DONE, PKG_SWAP_STAT_PENDING, PKG_SWAP_STAT_CHECKING, PKG_SWAP_STAT_ARMED, PKG_SG_STAT, PKG_SG_LAST_DOMAIN]
def pkgFieldsPart2 : List Field := [PKG_SG_LAST_CLUSTER, PKG_SG_LAST_PHASE, PKG_SG_LAST_KIND, PKG_SG_LAST_CHAN, PKG_SG_COUNT, PKG_FENCE_STAT, PKG_WDRN_COUNT, PKG_DISC_COUNT, PKG_BUSY_COUNT, PKG_DAMP_CTL, PKG_DAMP_STAT_PEAK, PKG_DAMP_STAT_LEVEL]
def pkgFieldsPart3 : List Field := [PKG_DAMP_CLOSED, PKG_E0_S_LO, PKG_E0_S_HI, PKG_E0_NS, PKG_FRZ_CTL, PKG_FRZ_STAT_RESUMED, PKG_FRZ_STAT_JTAG, PKG_FRZ_STAT_FROZEN, PKG_FRZ_T_NS, PKG_FRZ_T_S, PKG_SUPMON_UV_EN, PKG_SUPMON_OV_EN]
def pkgFieldsPart4 : List Field := [PKG_TRIPN_STAT, PKG_TRIPN_CFG_EN, PKG_TRIPN_CFG_FILT, PKG_CHOP_CFG_EN, PKG_CHOP_CFG_OPOL, PKG_CHOP_CFG_FBPOL, PKG_CHOP_CFG_WC, PKG_CHOP_CFG_FBFILT, PKG_CHOP_TIM_TMAX_ON, PKG_CHOP_TIM_TMIN_OFF, PKG_CHOP_STAT_HRT_CTL, PKG_CHOP_STAT_FB_ACT]
def pkgFieldsPart5 : List Field := [PKG_CHOP_STAT_FB_LAT, PKG_CHOP_STAT_TMAX, PKG_CHOP_STAT_HELD, PKG_CHOP_STAT_ON, PKG_CHOP_ONT, PKG_ECC_LAST_MEM, PKG_ECC_LAST_UE, PKG_ECC_LAST_WORD, PKG_ECC_CE_COUNT, PKG_ECC_UE_COUNT, PKG_RST_CTL_KEY, PKG_RST_CTL_PKG]
def pkgFieldsPart6 : List Field := [PKG_RST_CTL_DIE, PKG_RST_CTL_RG, PKG_KSTAT_DONE, PKG_KSTAT_FAIL, PKG_KSTAT_FALLBACK, PKG_KSTAT_HOSTBOOT, PKG_KSTAT_STEP, PKG_KSTAT_FAIL_STEP, PKG_KSTAT_FAIL_CAUSE, PKG_KSTAT_CAUSE, PKG_KSTAT_LANES_LATE, PKG_KCTL_IMG]
def pkgFieldsPart7 : List Field := [PKG_KCTL_IMG_GO]
/-- Every field of the page PKG. -/
def pkgFields : List Field := pkgFieldsPart0 ++ pkgFieldsPart1 ++ pkgFieldsPart2 ++ pkgFieldsPart3 ++ pkgFieldsPart4 ++ pkgFieldsPart5 ++ pkgFieldsPart6 ++ pkgFieldsPart7
/-- R132. -/
def TALLY_NOW_NS : Field := ⟨0x40, 0, 30, .ro, 0, 0x0, 1, .any⟩
/-- R132. -/
def TALLY_NOW_S_LO : Field := ⟨0x44, 0, 32, .ro, 0, 0x0, 1, .any⟩
/-- R132. -/
def TALLY_NOW_S_HI : Field := ⟨0x48, 0, 16, .ro, 0, 0x0, 1, .any⟩
/-- R132. -/
def TALLY_NOW_FR : Field := ⟨0x4C, 0, 16, .ro, 0, 0x0, 1, .any⟩
/-- R132. -/
def TALLY_INC_FRAC : Field := ⟨0x50, 0, 32, .rw, 2147483648, 0x0, 1, .any⟩
/-- R132. -/
def TALLY_INC_NS : Field := ⟨0x54, 0, 4, .rw, 2, 0x0, 1, .any⟩
/-- R132. -/
def TALLY_STEP_CTL_MODE : Field := ⟨0x58, 1, 1, .rw, 0, 0x0, 1, .any⟩
/-- R132. -/
def TALLY_STEP_CTL_GO : Field := ⟨0x58, 0, 1, .wo, 0, 0x0, 1, .any⟩
/-- R132. -/
def TALLY_STEP_S_LO : Field := ⟨0x5C, 0, 32, .rw, 0, 0x0, 1, .any⟩
/-- R132. -/
def TALLY_STEP_S_HI : Field := ⟨0x60, 0, 16, .rw, 0, 0x0, 1, .any⟩
/-- R132. -/
def TALLY_STEP_NS : Field := ⟨0x64, 0, 30, .rw, 0, 0x0, 1, .range 0 999999999⟩
/-- R132. -/
def TALLY_STEP_ADJ : Field := ⟨0x68, 0, 32, .rw, 0, 0x0, 1, .any⟩
/-- R132. -/
def TALLY_STEP_FR : Field := ⟨0x6C, 0, 16, .rw, 0, 0x0, 1, .any⟩
/-- R132. -/
def TALLY_STAT_STEP_SEQ : Field := ⟨0x70, 8, 4, .ro, 0, 0x0, 1, .any⟩
/-- R132. -/
def TALLY_STAT_CYC_CUT : Field := ⟨0x70, 4, 1, .w1c, 0, 0x0, 1, .any⟩
/-- R132. -/
def TALLY_STAT_STEP_REFUSED : Field := ⟨0x70, 3, 1, .w1c, 0, 0x0, 1, .any⟩
/-- R132. -/
def TALLY_STAT_UNC_WIDE : Field := ⟨0x70, 2, 1, .w1c, 0, 0x0, 1, .any⟩
/-- R132. -/
def TALLY_STAT_HOLDOVER : Field := ⟨0x70, 1, 1, .ro, 0, 0x0, 1, .any⟩
/-- R132. -/
def TALLY_STAT_TIME_SET : Field := ⟨0x70, 0, 1, .ro, 0, 0x0, 1, .any⟩
/-- R132. -/
def TALLY_STEP_COUNT : Field := ⟨0x74, 0, 32, .cnt, 0, 0x0, 1, .any⟩
/-- R151. -/
def TALLY_CAP_CTL_EN : Field := ⟨0x200, 15, 1, .rw, 0, 0x10, 32, .any⟩
/-- R151. -/
def TALLY_CAP_CTL_EDGE : Field := ⟨0x200, 13, 2, .rw, 0, 0x10, 32, .range 0 2⟩
/-- R151. -/
def TALLY_CAP_CTL_SRC : Field := ⟨0x200, 0, 8, .rw, 0, 0x10, 32, .capSrc⟩
/-- R151. -/
def TALLY_CAP_NS_FULL : Field := ⟨0x204, 31, 1, .ro, 0, 0x10, 32, .any⟩
/-- R151. -/
def TALLY_CAP_NS_NS : Field := ⟨0x204, 0, 30, .ro, 0, 0x10, 32, .any⟩
/-- R151. -/
def TALLY_CAP_S : Field := ⟨0x208, 0, 32, .ro, 0, 0x10, 32, .any⟩
/-- R151. -/
def TALLY_CAP_FR_OVR : Field := ⟨0x20C, 31, 1, .w1c, 0, 0x10, 32, .any⟩
/-- R151. -/
def TALLY_CAP_FR_COARSE : Field := ⟨0x20C, 30, 1, .ro, 0, 0x10, 32, .any⟩
/-- R151. -/
def TALLY_CAP_FR_EDGE : Field := ⟨0x20C, 29, 1, .ro, 0, 0x10, 32, .any⟩
/-- R151. -/
def TALLY_CAP_FR_STEP_SEQ : Field := ⟨0x20C, 25, 4, .ro, 0, 0x10, 32, .any⟩
/-- R151. -/
def TALLY_CAP_FR_FR : Field := ⟨0x20C, 0, 16, .ro, 0, 0x10, 32, .any⟩
/-- R151. -/
def TALLY_TO_CTL_EN : Field := ⟨0x400, 15, 1, .rw, 0, 0x20, 16, .any⟩
/-- R151. -/
def TALLY_TO_CTL_MODE : Field := ⟨0x400, 13, 2, .rw, 0, 0x20, 16, .any⟩
/-- R151. -/
def TALLY_TO_CTL_POL : Field := ⟨0x400, 12, 1, .rw, 0, 0x20, 16, .any⟩
/-- R151. -/
def TALLY_TO_CTL_PIN : Field := ⟨0x400, 0, 8, .rw, 0, 0x20, 16, .range 0 31⟩
/-- R151. -/
def TALLY_TO_S : Field := ⟨0x404, 0, 32, .rw, 0, 0x20, 16, .any⟩
/-- R151. -/
def TALLY_TO_NS : Field := ⟨0x408, 0, 30, .rw, 0, 0x20, 16, .range 0 999999999⟩
/-- R151. -/
def TALLY_TO_PER : Field := ⟨0x40C, 0, 32, .rw, 1000000000, 0x20, 16, .range 100 4294967295⟩
/-- R151. -/
def TALLY_TO_WID : Field := ⟨0x410, 0, 24, .rw, 1000, 0x20, 16, .any⟩
/-- R151. -/
def TALLY_TO_STAT_COARSE : Field := ⟨0x414, 2, 1, .w1c, 0, 0x20, 16, .any⟩
/-- R151. -/
def TALLY_TO_STAT_LATE : Field := ⟨0x414, 1, 1, .w1c, 0, 0x20, 16, .any⟩
/-- R151. -/
def TALLY_TO_STAT_FIRED : Field := ⟨0x414, 0, 1, .w1c, 0, 0x20, 16, .any⟩
def tallyFieldsPart0 : List Field := [TALLY_NOW_NS, TALLY_NOW_S_LO, TALLY_NOW_S_HI, TALLY_NOW_FR, TALLY_INC_FRAC, TALLY_INC_NS, TALLY_STEP_CTL_MODE, TALLY_STEP_CTL_GO, TALLY_STEP_S_LO, TALLY_STEP_S_HI, TALLY_STEP_NS, TALLY_STEP_ADJ]
def tallyFieldsPart1 : List Field := [TALLY_STEP_FR, TALLY_STAT_STEP_SEQ, TALLY_STAT_CYC_CUT, TALLY_STAT_STEP_REFUSED, TALLY_STAT_UNC_WIDE, TALLY_STAT_HOLDOVER, TALLY_STAT_TIME_SET, TALLY_STEP_COUNT, TALLY_CAP_CTL_EN, TALLY_CAP_CTL_EDGE, TALLY_CAP_CTL_SRC, TALLY_CAP_NS_FULL]
def tallyFieldsPart2 : List Field := [TALLY_CAP_NS_NS, TALLY_CAP_S, TALLY_CAP_FR_OVR, TALLY_CAP_FR_COARSE, TALLY_CAP_FR_EDGE, TALLY_CAP_FR_STEP_SEQ, TALLY_CAP_FR_FR, TALLY_TO_CTL_EN, TALLY_TO_CTL_MODE, TALLY_TO_CTL_POL, TALLY_TO_CTL_PIN, TALLY_TO_S]
def tallyFieldsPart3 : List Field := [TALLY_TO_NS, TALLY_TO_PER, TALLY_TO_WID, TALLY_TO_STAT_COARSE, TALLY_TO_STAT_LATE, TALLY_TO_STAT_FIRED]
/-- Every field of the page TALLY. -/
def tallyFields : List Field := tallyFieldsPart0 ++ tallyFieldsPart1 ++ tallyFieldsPart2 ++ tallyFieldsPart3
/-- R146. -/
def SPLL_NOFS : Field := ⟨0x40, 0, 24, .rw, 0, 0x0, 1, .sgn 24 53687⟩
/-- R146. -/
def SPLL_SETTLE : Field := ⟨0x44, 0, 16, .rw, 2500, 0x0, 1, .range 250 65535⟩
/-- R146. -/
def SPLL_HOLD_MAX : Field := ⟨0x48, 0, 10, .rw, 10, 0x0, 1, .range 1 1000⟩
/-- R146. -/
def SPLL_STAT_SLIP : Field := ⟨0x4C, 6, 1, .w1c, 0, 0x0, 1, .any⟩
/-- R146. -/
def SPLL_STAT_REF_OK : Field := ⟨0x4C, 5, 1, .ro, 0, 0x0, 1, .any⟩
/-- R146. -/
def SPLL_STAT_SLEWING : Field := ⟨0x4C, 4, 1, .ro, 0, 0x0, 1, .any⟩
/-- R146. -/
def SPLL_STAT_HOLDOVER : Field := ⟨0x4C, 3, 1, .ro, 0, 0x0, 1, .any⟩
/-- R146. -/
def SPLL_STAT_GATED : Field := ⟨0x4C, 2, 1, .ro, 0, 0x0, 1, .any⟩
/-- R146. -/
def SPLL_STAT_LOCKED : Field := ⟨0x4C, 1, 1, .ro, 0, 0x0, 1, .any⟩
/-- R146. -/
def SPLL_RELOCK_COUNT : Field := ⟨0x50, 0, 32, .cnt, 0, 0x0, 1, .any⟩
/-- R146. -/
def SPLL_HOLD_US : Field := ⟨0x54, 0, 32, .ro, 0, 0x0, 1, .any⟩
/-- R146. -/
def SPLL_XCHK : Field := ⟨0x58, 0, 11, .ro, 0, 0x0, 1, .any⟩
def spllFieldsPart0 : List Field := [SPLL_NOFS, SPLL_SETTLE, SPLL_HOLD_MAX, SPLL_STAT_SLIP, SPLL_STAT_REF_OK, SPLL_STAT_SLEWING, SPLL_STAT_HOLDOVER, SPLL_STAT_GATED, SPLL_STAT_LOCKED, SPLL_RELOCK_COUNT, SPLL_HOLD_US, SPLL_XCHK]
/-- Every field of the page SPLL. -/
def spllFields : List Field := spllFieldsPart0
/-- R51. -/
def HOST_ACC_ERR_PROTECTED : Field := ⟨0x40, 4, 1, .w1c, 0, 0x0, 1, .any⟩
/-- R51. -/
def HOST_ACC_ERR_POISONED : Field := ⟨0x40, 3, 1, .w1c, 0, 0x0, 1, .any⟩
/-- R51. -/
def HOST_ACC_ERR_BAR4_WR : Field := ⟨0x40, 2, 1, .w1c, 0, 0x0, 1, .any⟩
/-- R51. -/
def HOST_ACC_ERR_PARTIAL : Field := ⟨0x40, 1, 1, .w1c, 0, 0x0, 1, .any⟩
/-- R51. -/
def HOST_ACC_ERR_UNMAPPED : Field := ⟨0x40, 0, 1, .w1c, 0, 0x0, 1, .any⟩
/-- R52. -/
def HOST_ACC_ADDR_BAR : Field := ⟨0x44, 28, 2, .ro, 0, 0x0, 1, .any⟩
/-- R52. -/
def HOST_ACC_ADDR_OFFSET : Field := ⟨0x44, 0, 27, .ro, 0, 0x0, 1, .any⟩
/-- R115. -/
def HOST_FAB_ERR_BUSY : Field := ⟨0x48, 31, 1, .w1c, 0, 0x0, 1, .any⟩
/-- R115. -/
def HOST_FAB_ERR_WITHDRAWN : Field := ⟨0x48, 30, 1, .w1c, 0, 0x0, 1, .any⟩
/-- R115. -/
def HOST_FAB_ERR_WRITE : Field := ⟨0x48, 29, 1, .ro, 0, 0x0, 1, .any⟩
/-- R115. -/
def HOST_FAB_ERR_FENCE : Field := ⟨0x48, 25, 4, .ro, 0, 0x0, 1, .any⟩
/-- R115. -/
def HOST_FAB_ERR_OFFSET : Field := ⟨0x48, 0, 25, .ro, 0, 0x0, 1, .any⟩
/-- R448. -/
def HOST_EQ_PEND_ANY : Field := ⟨0x4C, 19, 1, .ro, 0, 0x0, 1, .any⟩
/-- R448. -/
def HOST_EQ_PEND_TOP : Field := ⟨0x4C, 16, 3, .ro, 0, 0x0, 1, .any⟩
/-- R448. -/
def HOST_EQ_PEND_NE : Field := ⟨0x4C, 0, 8, .ro, 0, 0x0, 1, .any⟩
def hostFieldsPart0 : List Field := [HOST_ACC_ERR_PROTECTED, HOST_ACC_ERR_POISONED, HOST_ACC_ERR_BAR4_WR, HOST_ACC_ERR_PARTIAL, HOST_ACC_ERR_UNMAPPED, HOST_ACC_ADDR_BAR, HOST_ACC_ADDR_OFFSET, HOST_FAB_ERR_BUSY, HOST_FAB_ERR_WITHDRAWN, HOST_FAB_ERR_WRITE, HOST_FAB_ERR_FENCE, HOST_FAB_ERR_OFFSET]
def hostFieldsPart1 : List Field := [HOST_EQ_PEND_ANY, HOST_EQ_PEND_TOP, HOST_EQ_PEND_NE]
/-- Every field of the page HOST. -/
def hostFields : List Field := hostFieldsPart0 ++ hostFieldsPart1
/-- R85. -/
def CLAIM_RES_SEL : Field := ⟨0x40, 0, 16, .rw, 4096, 0x0, 1, .any⟩
/-- R85. -/
def CLAIM_RES_OWNER_HELD : Field := ⟨0x44, 31, 1, .ro, 0, 0x0, 1, .any⟩
/-- R85. -/
def CLAIM_RES_OWNER_PAGE : Field := ⟨0x44, 11, 13, .ro, 0, 0x0, 1, .any⟩
/-- R85. -/
def CLAIM_RES_OWNER_REG : Field := ⟨0x44, 0, 11, .ro, 0, 0x0, 1, .any⟩
/-- R85. -/
def CLAIM_DENY_COUNT : Field := ⟨0x48, 0, 32, .cnt, 0, 0x0, 1, .any⟩
/-- R85. -/
def CLAIM_LAST_DENY_RES : Field := ⟨0x4C, 16, 16, .ro, 0, 0x0, 1, .any⟩
/-- R85. -/
def CLAIM_LAST_DENY_PAGE : Field := ⟨0x4C, 0, 13, .ro, 0, 0x0, 1, .any⟩
def claimFieldsPart0 : List Field := [CLAIM_RES_SEL, CLAIM_RES_OWNER_HELD, CLAIM_RES_OWNER_PAGE, CLAIM_RES_OWNER_REG, CLAIM_DENY_COUNT, CLAIM_LAST_DENY_RES, CLAIM_LAST_DENY_PAGE]
/-- Every field of the page CLAIM. -/
def claimFields : List Field := claimFieldsPart0
/-- R156. -/
def ETH_PTP_CTL_IPV6 : Field := ⟨0x400, 5, 1, .rw, 0, 0x0, 1, .any⟩
/-- R156. -/
def ETH_PTP_CTL_IPV4 : Field := ⟨0x400, 4, 1, .rw, 0, 0x0, 1, .any⟩
/-- R156. -/
def ETH_PTP_CTL_L2 : Field := ⟨0x400, 3, 1, .rw, 0, 0x0, 1, .any⟩
/-- R156. -/
def ETH_PTP_CTL_ONESTEP : Field := ⟨0x400, 2, 1, .rw, 0, 0x0, 1, .any⟩
/-- R156. -/
def ETH_PTP_CTL_EGR_EN : Field := ⟨0x400, 1, 1, .rw, 0, 0x0, 1, .any⟩
/-- R156. -/
def ETH_PTP_CTL_ING_EN : Field := ⟨0x400, 0, 1, .rw, 0, 0x0, 1, .any⟩
/-- R156. -/
def ETH_ING_ASYM : Field := ⟨0x404, 0, 32, .rw, 0, 0x0, 1, .any⟩
/-- R156. -/
def ETH_EGR_ASYM : Field := ⟨0x408, 0, 32, .rw, 0, 0x0, 1, .any⟩
/-- R156. -/
def ETH_TS_STAT_RX_LVL : Field := ⟨0x40C, 16, 5, .ro, 0, 0x0, 1, .any⟩
/-- R156. -/
def ETH_TS_STAT_TX_LVL : Field := ⟨0x40C, 8, 5, .ro, 0, 0x0, 1, .any⟩
/-- R156. -/
def ETH_TS_STAT_RX_OVF : Field := ⟨0x40C, 1, 1, .w1c, 0, 0x0, 1, .any⟩
/-- R156. -/
def ETH_TS_STAT_TX_OVF : Field := ⟨0x40C, 0, 1, .w1c, 0, 0x0, 1, .any⟩
/-- R156. -/
def ETH_RX_KEY_VALID : Field := ⟨0x410, 31, 1, .ro, 0, 0x0, 1, .any⟩
/-- R156. -/
def ETH_RX_KEY_MSGTYPE : Field := ⟨0x410, 24, 4, .ro, 0, 0x0, 1, .any⟩
/-- R156. -/
def ETH_RX_KEY_DOMAIN : Field := ⟨0x410, 16, 8, .ro, 0, 0x0, 1, .any⟩
/-- R156. -/
def ETH_RX_KEY_SEQID : Field := ⟨0x410, 0, 16, .ro, 0, 0x0, 1, .any⟩
/-- R156. -/
def ETH_RX_NS : Field := ⟨0x414, 0, 30, .ro, 0, 0x0, 1, .any⟩
/-- R156. -/
def ETH_RX_S : Field := ⟨0x418, 0, 32, .ro, 0, 0x0, 1, .any⟩
/-- R156. -/
def ETH_RX_FR_COARSE : Field := ⟨0x41C, 12, 1, .ro, 0, 0x0, 1, .any⟩
/-- R156. -/
def ETH_RX_FR_STEP_SEQ : Field := ⟨0x41C, 8, 4, .ro, 0, 0x0, 1, .any⟩
/-- R156. -/
def ETH_RX_FR_FR16 : Field := ⟨0x41C, 0, 4, .ro, 0, 0x0, 1, .any⟩
/-- R156. -/
def ETH_TX_KEY_VALID : Field := ⟨0x420, 31, 1, .ro, 0, 0x0, 1, .any⟩
/-- R156. -/
def ETH_TX_KEY_MSGTYPE : Field := ⟨0x420, 24, 4, .ro, 0, 0x0, 1, .any⟩
/-- R156. -/
def ETH_TX_KEY_DOMAIN : Field := ⟨0x420, 16, 8, .ro, 0, 0x0, 1, .any⟩
/-- R156. -/
def ETH_TX_KEY_SEQID : Field := ⟨0x420, 0, 16, .ro, 0, 0x0, 1, .any⟩
/-- R156. -/
def ETH_TX_NS : Field := ⟨0x424, 0, 30, .ro, 0, 0x0, 1, .any⟩
/-- R156. -/
def ETH_TX_S : Field := ⟨0x428, 0, 32, .ro, 0, 0x0, 1, .any⟩
/-- R156. -/
def ETH_TX_FR_COARSE : Field := ⟨0x42C, 12, 1, .ro, 0, 0x0, 1, .any⟩
/-- R156. -/
def ETH_TX_FR_STEP_SEQ : Field := ⟨0x42C, 8, 4, .ro, 0, 0x0, 1, .any⟩
/-- R156. -/
def ETH_TX_FR_FR16 : Field := ⟨0x42C, 0, 4, .ro, 0, 0x0, 1, .any⟩
def ethFieldsPart0 : List Field := [ETH_PTP_CTL_IPV6, ETH_PTP_CTL_IPV4, ETH_PTP_CTL_L2, ETH_PTP_CTL_ONESTEP, ETH_PTP_CTL_EGR_EN, ETH_PTP_CTL_ING_EN, ETH_ING_ASYM, ETH_EGR_ASYM, ETH_TS_STAT_RX_LVL, ETH_TS_STAT_TX_LVL, ETH_TS_STAT_RX_OVF, ETH_TS_STAT_TX_OVF]
def ethFieldsPart1 : List Field := [ETH_RX_KEY_VALID, ETH_RX_KEY_MSGTYPE, ETH_RX_KEY_DOMAIN, ETH_RX_KEY_SEQID, ETH_RX_NS, ETH_RX_S, ETH_RX_FR_COARSE, ETH_RX_FR_STEP_SEQ, ETH_RX_FR_FR16, ETH_TX_KEY_VALID, ETH_TX_KEY_MSGTYPE, ETH_TX_KEY_DOMAIN]
def ethFieldsPart2 : List Field := [ETH_TX_KEY_SEQID, ETH_TX_NS, ETH_TX_S, ETH_TX_FR_COARSE, ETH_TX_FR_STEP_SEQ, ETH_TX_FR_FR16]
/-- Every field of the page ETH. -/
def ethFields : List Field := ethFieldsPart0 ++ ethFieldsPart1 ++ ethFieldsPart2

end Sys2Proof.Machine
end

