-- ==== Sys2Proof/Machine/RegMapRegion.lean ====
section
/-! DEFINITION. Register fields of the pages RG, ABC, SP, CLU, CLANE, UNIT, one definition per field of the spec's register tables: offset, lowest bit, width, access code, reset value, stride, count and valid values (R10). -/

namespace Sys2Proof.Machine

/-- R35. -/
def RG_CYC_PERIOD : Field := ⟨0x40, 0, 19, .rws, 40000, 0x0, 1, .range 4000 400000⟩
/-- R36. -/
def RG_CYC_DL_T_OUT : Field := ⟨0x44, 16, 16, .rws, 720, 0x0, 1, .range 720 65535⟩
/-- R36. -/
def RG_CYC_DL_T_IN : Field := ⟨0x44, 0, 16, .rws, 640, 0x0, 1, .range 400 65535⟩
/-- R38. -/
def RG_CYC_OFS : Field := ⟨0x48, 0, 19, .rws, 0, 0x0, 1, .any⟩
/-- R39. -/
def RG_CYC_CTL : Field := ⟨0x4C, 0, 1, .rw, 0, 0x0, 1, .any⟩
/-- R40. -/
def RG_CYC_STAT_STRETCHED : Field := ⟨0x50, 4, 1, .w1c, 0, 0x0, 1, .any⟩
/-- R40. -/
def RG_CYC_STAT_EN_REFUSED : Field := ⟨0x50, 3, 1, .w1c, 0, 0x0, 1, .any⟩
/-- R40. -/
def RG_CYC_STAT_PHASE : Field := ⟨0x50, 0, 3, .ro, 0, 0x0, 1, .any⟩
/-- R41. -/
def RG_CYC_COUNT : Field := ⟨0x54, 0, 32, .ro, 0, 0x0, 1, .any⟩
/-- R42. -/
def RG_CYC_T0_NS : Field := ⟨0x58, 0, 30, .ro, 0, 0x0, 1, .any⟩
/-- R42. -/
def RG_CYC_T0_S : Field := ⟨0x5C, 0, 32, .ro, 0, 0x0, 1, .any⟩
/-- R266. -/
def RG_CGRP_EN : Field := ⟨0x60, 31, 1, .rws, 0, 0x4, 4, .any⟩
/-- R266. -/
def RG_CGRP_AGED : Field := ⟨0x60, 30, 1, .w1c, 0, 0x4, 4, .any⟩
/-- R266. -/
def RG_CGRP_SGID : Field := ⟨0x60, 0, 10, .rws, 0, 0x4, 4, .any⟩
/-- R266. -/
def RG_APLAN_EN : Field := ⟨0x100, 31, 1, .rws, 0, 0x4, 64, .any⟩
/-- R266. -/
def RG_APLAN_OFS : Field := ⟨0x100, 0, 20, .rws, 0, 0x4, 64, .any⟩
def rgFieldsPart0 : List Field := [RG_CYC_PERIOD, RG_CYC_DL_T_OUT, RG_CYC_DL_T_IN, RG_CYC_OFS, RG_CYC_CTL, RG_CYC_STAT_STRETCHED, RG_CYC_STAT_EN_REFUSED, RG_CYC_STAT_PHASE, RG_CYC_COUNT, RG_CYC_T0_NS, RG_CYC_T0_S, RG_CGRP_EN]
def rgFieldsPart1 : List Field := [RG_CGRP_AGED, RG_CGRP_SGID, RG_APLAN_EN, RG_APLAN_OFS]
/-- Every field of the page RG. -/
def rgFields : List Field := rgFieldsPart0 ++ rgFieldsPart1
/-- R182. -/
def ABC_PSLOT_EN : Field := ⟨0x400, 31, 1, .rws, 0, 0x4, 256, .any⟩
/-- R182. -/
def ABC_PSLOT_MAXAGE : Field := ⟨0x400, 28, 3, .rws, 0, 0x4, 256, .any⟩
/-- R182. -/
def ABC_PSLOT_POINT : Field := ⟨0x400, 0, 20, .rws, 0, 0x4, 256, .any⟩
/-- R189. -/
def ABC_PROG : Field := ⟨0x40, 0, 11, .rws, 0, 0x0, 1, .range 0 1024⟩
/-- R189. -/
def ABC_OVR_CTL : Field := ⟨0x44, 0, 4, .rws, 4, 0x0, 1, .range 1 15⟩
/-- R189. -/
def ABC_BOUND : Field := ⟨0x48, 0, 16, .ro, 0, 0x0, 1, .any⟩
/-- R189. -/
def ABC_BOUND_NEXT_VALID : Field := ⟨0x4C, 31, 1, .ro, 0, 0x0, 1, .any⟩
/-- R189. -/
def ABC_BOUND_NEXT_TICKS : Field := ⟨0x4C, 0, 16, .ro, 0, 0x0, 1, .any⟩
/-- R189. -/
def ABC_RSTAT_OVR_RUN : Field := ⟨0x50, 20, 4, .ro, 0, 0x0, 1, .any⟩
/-- R189. -/
def ABC_RSTAT_OVR_TRIP : Field := ⟨0x50, 3, 1, .w1c, 0, 0x0, 1, .any⟩
/-- R189. -/
def ABC_RSTAT_OVR : Field := ⟨0x50, 2, 1, .w1c, 0, 0x0, 1, .any⟩
/-- R189. -/
def ABC_RSTAT_RETRY : Field := ⟨0x50, 1, 1, .w1c, 0, 0x0, 1, .any⟩
/-- R189. -/
def ABC_RSTAT_DONE : Field := ⟨0x50, 0, 1, .ro, 0, 0x0, 1, .any⟩
/-- R189. -/
def ABC_SLACK_OVR : Field := ⟨0x54, 31, 1, .ro, 0, 0x0, 1, .any⟩
/-- R189. -/
def ABC_SLACK_TICKS : Field := ⟨0x54, 0, 19, .ro, 0, 0x0, 1, .any⟩
/-- R189. -/
def ABC_SLACK_MIN : Field := ⟨0x58, 0, 19, .ro, 524287, 0x0, 1, .any⟩
/-- R189. -/
def ABC_RECKON_T : Field := ⟨0x5C, 0, 19, .ro, 0, 0x0, 1, .any⟩
/-- R189. -/
def ABC_ACTL : Field := ⟨0x60, 0, 1, .wo, 0, 0x0, 1, .any⟩
/-- R189. -/
def ABC_OVR_COUNT : Field := ⟨0x64, 0, 32, .cnt, 0, 0x0, 1, .any⟩
/-- R189. -/
def ABC_STALE_COUNT : Field := ⟨0x68, 0, 32, .cnt, 0, 0x0, 1, .any⟩
/-- R189. -/
def ABC_LATE_COUNT : Field := ⟨0x6C, 0, 32, .cnt, 0, 0x0, 1, .any⟩
/-- R189. -/
def ABC_RES_COUNT : Field := ⟨0x70, 0, 32, .cnt, 0, 0x0, 1, .any⟩
/-- R189. -/
def ABC_SAT_COUNT : Field := ⟨0x74, 0, 32, .cnt, 0, 0x0, 1, .any⟩
/-- R189. -/
def ABC_DIVG_COUNT : Field := ⟨0x78, 0, 32, .cnt, 0, 0x0, 1, .any⟩
/-- R189. -/
def ABC_LAST_EV_KIND : Field := ⟨0x7C, 28, 4, .ro, 0, 0x0, 1, .any⟩
/-- R189. -/
def ABC_LAST_EV_LANE : Field := ⟨0x7C, 12, 2, .ro, 0, 0x0, 1, .any⟩
/-- R189. -/
def ABC_LAST_EV_SECTION : Field := ⟨0x7C, 0, 11, .ro, 0, 0x0, 1, .any⟩
/-- R189. -/
def ABC_DUP_COUNT : Field := ⟨0x80, 0, 32, .cnt, 0, 0x0, 1, .any⟩
def abcFieldsPart0 : List Field := [ABC_PSLOT_EN, ABC_PSLOT_MAXAGE, ABC_PSLOT_POINT, ABC_PROG, ABC_OVR_CTL, ABC_BOUND, ABC_BOUND_NEXT_VALID, ABC_BOUND_NEXT_TICKS, ABC_RSTAT_OVR_RUN, ABC_RSTAT_OVR_TRIP, ABC_RSTAT_OVR, ABC_RSTAT_RETRY]
def abcFieldsPart1 : List Field := [ABC_RSTAT_DONE, ABC_SLACK_OVR, ABC_SLACK_TICKS, ABC_SLACK_MIN, ABC_RECKON_T, ABC_ACTL, ABC_OVR_COUNT, ABC_STALE_COUNT, ABC_LATE_COUNT, ABC_RES_COUNT, ABC_SAT_COUNT, ABC_DIVG_COUNT]
def abcFieldsPart2 : List Field := [ABC_LAST_EV_KIND, ABC_LAST_EV_LANE, ABC_LAST_EV_SECTION, ABC_DUP_COUNT]
/-- Every field of the page ABC. -/
def abcFields : List Field := abcFieldsPart0 ++ abcFieldsPart1 ++ abcFieldsPart2
/-- R209. -/
def SP_CH_CFG_EN : Field := ⟨0x40, 31, 1, .rws, 0, 0x40, 16, .any⟩
/-- R209. -/
def SP_CH_CFG_FB_BYP : Field := ⟨0x40, 17, 1, .rws, 1, 0x40, 16, .any⟩
/-- R209. -/
def SP_CH_CFG_FB_REC : Field := ⟨0x40, 16, 1, .rws, 1, 0x40, 16, .any⟩
/-- R209. -/
def SP_CH_CFG_TJERK : Field := ⟨0x40, 8, 8, .rws, 0, 0x40, 16, .any⟩
/-- R209. -/
def SP_CH_CFG_TACC : Field := ⟨0x40, 0, 8, .rws, 0, 0x40, 16, .any⟩
/-- R209. -/
def SP_CH_VMAX : Field := ⟨0x44, 0, 31, .rws, 2097152, 0x40, 16, .range 1 2147483647⟩
/-- R209. -/
def SP_CH_STEPMAX : Field := ⟨0x48, 0, 31, .rws, 2147483647, 0x40, 16, .any⟩
/-- R209. -/
def SP_CH_LIMHI : Field := ⟨0x4C, 0, 32, .rws, 2147483647, 0x40, 16, .any⟩
/-- R209. -/
def SP_CH_LIMLO : Field := ⟨0x50, 0, 32, .rws, 2147483648, 0x40, 16, .any⟩
/-- R209. -/
def SP_CH_TGT : Field := ⟨0x54, 0, 32, .live, 0, 0x40, 16, .any⟩
/-- R209. -/
def SP_CH_CTL_PROF : Field := ⟨0x58, 1, 1, .live, 0, 0x40, 16, .any⟩
/-- R209. -/
def SP_CH_CTL_FB_SET : Field := ⟨0x58, 0, 1, .wo, 0, 0x40, 16, .any⟩
/-- R209. -/
def SP_CH_OUT : Field := ⟨0x5C, 0, 32, .ro, 0, 0x40, 16, .any⟩
/-- R209. -/
def SP_CH_STAT_STATE : Field := ⟨0x60, 30, 2, .ro, 0, 0x40, 16, .any⟩
/-- R209. -/
def SP_CH_STAT_FB : Field := ⟨0x60, 29, 1, .w1c, 0, 0x40, 16, .any⟩
/-- R209. -/
def SP_CH_STAT_TGT_CLAMP : Field := ⟨0x60, 28, 1, .w1c, 0, 0x40, 16, .any⟩
/-- R209. -/
def SP_CH_STAT_STEPPED : Field := ⟨0x60, 27, 1, .w1c, 0, 0x40, 16, .any⟩
/-- R209. -/
def SP_CH_STAT_REMAIN : Field := ⟨0x60, 0, 16, .ro, 0, 0x40, 16, .any⟩
/-- R209. -/
def SP_CH_PROF_COUNT : Field := ⟨0x64, 0, 32, .cnt, 0, 0x40, 16, .any⟩
/-- R210. -/
def SP_LP_LCFG_EN : Field := ⟨0x500, 31, 1, .rws, 0, 0x20, 16, .any⟩
/-- R210. -/
def SP_LP_LCFG_INIT : Field := ⟨0x500, 30, 1, .rws, 0, 0x20, 16, .any⟩
/-- R210. -/
def SP_LP_LCFG_SECTION : Field := ⟨0x500, 0, 11, .rws, 0, 0x20, 16, .any⟩
/-- R210. -/
def SP_LP_LMODE : Field := ⟨0x504, 0, 1, .live, 0, 0x20, 16, .any⟩
/-- R210. -/
def SP_LP_LMAN : Field := ⟨0x508, 0, 32, .live, 0, 0x20, 16, .any⟩
/-- R210. -/
def SP_LP_LMANRATE : Field := ⟨0x50C, 0, 31, .rws, 2147483647, 0x20, 16, .range 1 2147483647⟩
/-- R210. -/
def SP_LP_LSTAT_MODE : Field := ⟨0x510, 31, 1, .ro, 0, 0x20, 16, .any⟩
/-- R210. -/
def SP_LP_LSTAT_PRESET_SAT : Field := ⟨0x510, 3, 1, .w1c, 0, 0x20, 16, .any⟩
/-- R210. -/
def SP_LP_LSTAT_MAN_LOST : Field := ⟨0x510, 2, 1, .w1c, 0, 0x20, 16, .any⟩
/-- R210. -/
def SP_LP_LSTAT_TO_MAN : Field := ⟨0x510, 1, 1, .w1c, 0, 0x20, 16, .any⟩
/-- R210. -/
def SP_LP_LSTAT_TO_AUTO : Field := ⟨0x510, 0, 1, .w1c, 0, 0x20, 16, .any⟩
/-- R210. -/
def SP_LP_LOUT : Field := ⟨0x514, 0, 32, .ro, 0, 0x20, 16, .any⟩
/-- R210. -/
def SP_LP_XFER_COUNT : Field := ⟨0x518, 0, 32, .cnt, 0, 0x20, 16, .any⟩
def spFieldsPart0 : List Field := [SP_CH_CFG_EN, SP_CH_CFG_FB_BYP, SP_CH_CFG_FB_REC, SP_CH_CFG_TJERK, SP_CH_CFG_TACC, SP_CH_VMAX, SP_CH_STEPMAX, SP_CH_LIMHI, SP_CH_LIMLO, SP_CH_TGT, SP_CH_CTL_PROF, SP_CH_CTL_FB_SET]
def spFieldsPart1 : List Field := [SP_CH_OUT, SP_CH_STAT_STATE, SP_CH_STAT_FB, SP_CH_STAT_TGT_CLAMP, SP_CH_STAT_STEPPED, SP_CH_STAT_REMAIN, SP_CH_PROF_COUNT, SP_LP_LCFG_EN, SP_LP_LCFG_INIT, SP_LP_LCFG_SECTION, SP_LP_LMODE, SP_LP_LMAN]
def spFieldsPart2 : List Field := [SP_LP_LMANRATE, SP_LP_LSTAT_MODE, SP_LP_LSTAT_PRESET_SAT, SP_LP_LSTAT_MAN_LOST, SP_LP_LSTAT_TO_MAN, SP_LP_LSTAT_TO_AUTO, SP_LP_LOUT, SP_LP_XFER_COUNT]
/-- Every field of the page SP. -/
def spFields : List Field := spFieldsPart0 ++ spFieldsPart1 ++ spFieldsPart2
/-- R265. -/
def CLU_CFG_RECOV_CYC : Field := ⟨0x40, 16, 8, .rws, 16, 0x0, 1, .range 1 255⟩
/-- R265. -/
def CLU_CFG_PATH2 : Field := ⟨0x40, 8, 1, .rws, 0, 0x0, 1, .any⟩
/-- R265. -/
def CLU_CFG_TOPO : Field := ⟨0x40, 0, 4, .rws, 0, 0x0, 1, .range 0 3⟩
/-- R265. -/
def CLU_CMD : Field := ⟨0x44, 0, 4, .wo, 0, 0x0, 1, .any⟩
/-- R265. -/
def CLU_CSTAT_SAFE_ACT : Field := ⟨0x48, 31, 1, .ro, 0, 0x0, 1, .any⟩
/-- R265. -/
def CLU_CSTAT_RECOV : Field := ⟨0x48, 30, 1, .ro, 0, 0x0, 1, .any⟩
/-- R265. -/
def CLU_CSTAT_LANE_UP : Field := ⟨0x48, 29, 1, .ro, 0, 0x0, 1, .any⟩
/-- R265. -/
def CLU_CSTAT_BYPASSED : Field := ⟨0x48, 28, 1, .ro, 0, 0x0, 1, .any⟩
/-- R265. -/
def CLU_CSTAT_PATH2_DOWN : Field := ⟨0x48, 27, 1, .ro, 0, 0x0, 1, .any⟩
/-- R265. -/
def CLU_CSTAT_LOCK_CAUSE : Field := ⟨0x48, 20, 4, .ro, 0, 0x0, 1, .any⟩
/-- R265. -/
def CLU_CSTAT_REF_CAUSE : Field := ⟨0x48, 16, 4, .ro, 0, 0x0, 1, .any⟩
/-- R265. -/
def CLU_CSTAT_PEND_CMD : Field := ⟨0x48, 12, 4, .ro, 0, 0x0, 1, .any⟩
/-- R265. -/
def CLU_CSTAT_CMD_LOST : Field := ⟨0x48, 11, 1, .w1c, 0, 0x0, 1, .any⟩
/-- R265. -/
def CLU_CSTAT_REFUSED : Field := ⟨0x48, 10, 1, .w1c, 0, 0x0, 1, .any⟩
/-- R265. -/
def CLU_CSTAT_STATE : Field := ⟨0x48, 0, 3, .ro, 0, 0x0, 1, .any⟩
/-- R265. -/
def CLU_PC_CFG_VREADY : Field := ⟨0x4C, 16, 16, .rws, 32767, 0x0, 1, .any⟩
/-- R265. -/
def CLU_PC_CFG_TMAX : Field := ⟨0x4C, 8, 8, .rws, 100, 0x0, 1, .range 1 255⟩
/-- R265. -/
def CLU_PC_CFG_VSEL : Field := ⟨0x4C, 0, 3, .rws, 0, 0x0, 1, .any⟩
/-- R265. -/
def CLU_PC_TEMP_NOSENS : Field := ⟨0x50, 16, 1, .rws, 0, 0x0, 1, .any⟩
/-- R265. -/
def CLU_PC_TEMP_THI : Field := ⟨0x50, 8, 8, .rws, 70, 0x0, 1, .any⟩
/-- R265. -/
def CLU_PC_TEMP_TLO : Field := ⟨0x50, 0, 8, .rws, 231, 0x0, 1, .any⟩
/-- R265. -/
def CLU_PC_STAT_VLINK : Field := ⟨0x54, 16, 16, .ro, 0, 0x0, 1, .any⟩
/-- R265. -/
def CLU_PC_STAT_TCAP : Field := ⟨0x54, 0, 8, .ro, 0, 0x0, 1, .any⟩
/-- R265. -/
def CLU_BYP_CFG_AUTO : Field := ⟨0x58, 31, 1, .rws, 0, 0x0, 1, .any⟩
/-- R265. -/
def CLU_BYP_CFG_AMASK : Field := ⟨0x58, 16, 9, .rws, 0, 0x0, 1, .any⟩
/-- R265. -/
def CLU_BYP_CFG_TMAX : Field := ⟨0x58, 0, 8, .rws, 50, 0x0, 1, .range 1 255⟩
/-- R265. -/
def CLU_CENS_CEN : Field := ⟨0x5C, 31, 1, .rws, 0, 0x0, 1, .any⟩
/-- R265. -/
def CLU_CENS_CGRP : Field := ⟨0x5C, 24, 2, .rws, 0, 0x0, 1, .any⟩
/-- R265. -/
def CLU_CENS_SORD : Field := ⟨0x5C, 0, 7, .rws, 0, 0x0, 1, .any⟩
/-- R265. -/
def CLU_SPREAD_N : Field := ⟨0x60, 16, 8, .ro, 0, 0x0, 1, .any⟩
/-- R265. -/
def CLU_SPREAD_RANK : Field := ⟨0x60, 0, 7, .ro, 0, 0x0, 1, .any⟩
/-- R265. -/
def CLU_SPLAN_EN : Field := ⟨0x64, 31, 1, .rws, 0, 0x0, 1, .any⟩
/-- R265. -/
def CLU_SPLAN_TRACK : Field := ⟨0x64, 30, 1, .rws, 0, 0x0, 1, .any⟩
/-- R265. -/
def CLU_SPLAN_VMASK : Field := ⟨0x64, 20, 8, .rws, 0, 0x0, 1, .any⟩
/-- R265. -/
def CLU_SPLAN_OFS : Field := ⟨0x64, 0, 20, .rws, 0, 0x0, 1, .any⟩
/-- R265. -/
def CLU_S_NEXT : Field := ⟨0x68, 0, 30, .ro, 0, 0x0, 1, .any⟩
/-- R265. -/
def CLU_TRANS_COUNT : Field := ⟨0x6C, 0, 32, .cnt, 0, 0x0, 1, .any⟩
/-- R265. -/
def CLU_REFUSE_COUNT : Field := ⟨0x70, 0, 32, .cnt, 0, 0x0, 1, .any⟩
/-- R265. -/
def CLU_LOCK_COUNT : Field := ⟨0x74, 0, 32, .cnt, 0, 0x0, 1, .any⟩
/-- R265. -/
def CLU_ORPHAN_COUNT : Field := ⟨0x78, 0, 32, .cnt, 0, 0x0, 1, .any⟩
/-- R265. -/
def CLU_STATE_T_NS : Field := ⟨0x7C, 0, 30, .ro, 0, 0x0, 1, .any⟩
/-- R265. -/
def CLU_STATE_T_S : Field := ⟨0x80, 0, 32, .ro, 0, 0x0, 1, .any⟩
/-- R376. -/
def CLU_PCFG_TRIPN : Field := ⟨0xC0, 24, 8, .rws, 0, 0x0, 1, .any⟩
/-- R376. -/
def CLU_PCFG_CHFB : Field := ⟨0xC0, 16, 8, .rws, 0, 0x0, 1, .any⟩
/-- R376. -/
def CLU_PCFG_WA_EN : Field := ⟨0xC0, 15, 1, .rws, 0, 0x0, 1, .any⟩
/-- R376. -/
def CLU_PCFG_WA_OUT : Field := ⟨0xC0, 14, 1, .rws, 0, 0x0, 1, .any⟩
/-- R376. -/
def CLU_PCFG_WA : Field := ⟨0xC0, 8, 6, .rws, 0, 0x0, 1, .any⟩
/-- R376. -/
def CLU_PCFG_WB_EN : Field := ⟨0xC0, 7, 1, .rws, 0, 0x0, 1, .any⟩
/-- R376. -/
def CLU_PCFG_WB_OUT : Field := ⟨0xC0, 6, 1, .rws, 0, 0x0, 1, .any⟩
/-- R376. -/
def CLU_PCFG_WB : Field := ⟨0xC0, 0, 6, .rws, 0, 0x0, 1, .any⟩
/-- R376. -/
def CLU_SAFEPAT_FRUN : Field := ⟨0xC4, 31, 1, .rws, 0, 0x0, 1, .any⟩
/-- R376. -/
def CLU_SAFEPAT_PAT : Field := ⟨0xC4, 0, 12, .rws, 0, 0x0, 1, .any⟩
/-- R376. -/
def CLU_PSTAT_PMODE : Field := ⟨0xC8, 30, 2, .ro, 0, 0x0, 1, .any⟩
/-- R376. -/
def CLU_PSTAT_FLATCH : Field := ⟨0xC8, 29, 1, .w1c, 0, 0x0, 1, .any⟩
/-- R376. -/
def CLU_PSTAT_ULATCH : Field := ⟨0xC8, 28, 1, .ro, 0, 0x0, 1, .any⟩
/-- R376. -/
def CLU_PSTAT_SRC_ACT : Field := ⟨0xC8, 27, 1, .ro, 0, 0x0, 1, .any⟩
/-- R376. -/
def CLU_PSTAT_ST_FAIL : Field := ⟨0xC8, 26, 1, .w1c, 0, 0x0, 1, .any⟩
/-- R376. -/
def CLU_PSTAT_ST_BUSY : Field := ⟨0xC8, 25, 1, .ro, 0, 0x0, 1, .any⟩
/-- R376. -/
def CLU_PSTAT_FKIND : Field := ⟨0xC8, 20, 4, .ro, 0, 0x0, 1, .any⟩
/-- R376. -/
def CLU_PSTAT_FIDX : Field := ⟨0xC8, 16, 4, .ro, 0, 0x0, 1, .any⟩
/-- R376. -/
def CLU_CE_ACT0_DESAT : Field := ⟨0xCC, 12, 12, .ro, 0, 0x0, 1, .any⟩
/-- R376. -/
def CLU_CE_ACT0_UVLO : Field := ⟨0xCC, 0, 12, .ro, 0, 0x0, 1, .any⟩
/-- R376. -/
def CLU_CE_ACT1_OC : Field := ⟨0xD0, 6, 6, .ro, 0, 0x0, 1, .any⟩
/-- R376. -/
def CLU_CE_ACT1_BOOT : Field := ⟨0xD0, 0, 6, .ro, 0, 0x0, 1, .any⟩
/-- R376. -/
def CLU_TLAST_TRIP_ID : Field := ⟨0xD4, 24, 8, .ro, 0, 0x0, 1, .any⟩
/-- R376. -/
def CLU_TLAST_KIND : Field := ⟨0xD4, 20, 4, .ro, 0, 0x0, 1, .any⟩
/-- R376. -/
def CLU_TLAST_INDEX : Field := ⟨0xD4, 16, 4, .ro, 0, 0x0, 1, .any⟩
/-- R376. -/
def CLU_TLAST_NS : Field := ⟨0xD8, 0, 30, .ro, 0, 0x0, 1, .any⟩
/-- R376. -/
def CLU_ST_REQ_GO : Field := ⟨0xDC, 31, 1, .wo, 0, 0x0, 1, .any⟩
/-- R376. -/
def CLU_ST_REQ_DESAT : Field := ⟨0xDC, 12, 12, .rw, 0, 0x0, 1, .any⟩
/-- R376. -/
def CLU_ST_REQ_VDS : Field := ⟨0xDC, 0, 12, .rw, 0, 0x0, 1, .any⟩
/-- R376. -/
def CLU_TRIP_COUNT : Field := ⟨0xE0, 0, 32, .cnt, 0, 0x0, 1, .any⟩
/-- R376. -/
def CLU_FLATCH_COUNT : Field := ⟨0xE4, 0, 32, .cnt, 0, 0x0, 1, .any⟩
def cluFieldsPart0 : List Field := [CLU_CFG_RECOV_CYC, CLU_CFG_PATH2, CLU_CFG_TOPO, CLU_CMD, CLU_CSTAT_SAFE_ACT, CLU_CSTAT_RECOV, CLU_CSTAT_LANE_UP, CLU_CSTAT_BYPASSED, CLU_CSTAT_PATH2_DOWN, CLU_CSTAT_LOCK_CAUSE, CLU_CSTAT_REF_CAUSE, CLU_CSTAT_PEND_CMD]
def cluFieldsPart1 : List Field := [CLU_CSTAT_CMD_LOST, CLU_CSTAT_REFUSED, CLU_CSTAT_STATE, CLU_PC_CFG_VREADY, CLU_PC_CFG_TMAX, CLU_PC_CFG_VSEL, CLU_PC_TEMP_NOSENS, CLU_PC_TEMP_THI, CLU_PC_TEMP_TLO, CLU_PC_STAT_VLINK, CLU_PC_STAT_TCAP, CLU_BYP_CFG_AUTO]
def cluFieldsPart2 : List Field := [CLU_BYP_CFG_AMASK, CLU_BYP_CFG_TMAX, CLU_CENS_CEN, CLU_CENS_CGRP, CLU_CENS_SORD, CLU_SPREAD_N, CLU_SPREAD_RANK, CLU_SPLAN_EN, CLU_SPLAN_TRACK, CLU_SPLAN_VMASK, CLU_SPLAN_OFS, CLU_S_NEXT]
def cluFieldsPart3 : List Field := [CLU_TRANS_COUNT, CLU_REFUSE_COUNT, CLU_LOCK_COUNT, CLU_ORPHAN_COUNT, CLU_STATE_T_NS, CLU_STATE_T_S, CLU_PCFG_TRIPN, CLU_PCFG_CHFB, CLU_PCFG_WA_EN, CLU_PCFG_WA_OUT, CLU_PCFG_WA, CLU_PCFG_WB_EN]
def cluFieldsPart4 : List Field := [CLU_PCFG_WB_OUT, CLU_PCFG_WB, CLU_SAFEPAT_FRUN, CLU_SAFEPAT_PAT, CLU_PSTAT_PMODE, CLU_PSTAT_FLATCH, CLU_PSTAT_ULATCH, CLU_PSTAT_SRC_ACT, CLU_PSTAT_ST_FAIL, CLU_PSTAT_ST_BUSY, CLU_PSTAT_FKIND, CLU_PSTAT_FIDX]
def cluFieldsPart5 : List Field := [CLU_CE_ACT0_DESAT, CLU_CE_ACT0_UVLO, CLU_CE_ACT1_OC, CLU_CE_ACT1_BOOT, CLU_TLAST_TRIP_ID, CLU_TLAST_KIND, CLU_TLAST_INDEX, CLU_TLAST_NS, CLU_ST_REQ_GO, CLU_ST_REQ_DESAT, CLU_ST_REQ_VDS, CLU_TRIP_COUNT]
def cluFieldsPart6 : List Field := [CLU_FLATCH_COUNT]
/-- Every field of the page CLU. -/
def cluFields : List Field := cluFieldsPart0 ++ cluFieldsPart1 ++ cluFieldsPart2 ++ cluFieldsPart3 ++ cluFieldsPart4 ++ cluFieldsPart5 ++ cluFieldsPart6
/-- R294. -/
def CLANE_CTL_EN : Field := ⟨0x40, 31, 1, .rws, 0, 0x0, 1, .any⟩
/-- R294. -/
def CLANE_CTL_DUP : Field := ⟨0x40, 30, 1, .rws, 1, 0x0, 1, .any⟩
/-- R294. -/
def CLANE_CTL_TX_INV : Field := ⟨0x40, 29, 1, .rws, 0, 0x0, 1, .any⟩
/-- R294. -/
def CLANE_CTL_RX_INV : Field := ⟨0x40, 28, 1, .rws, 0, 0x0, 1, .any⟩
/-- R294. -/
def CLANE_CTL_AUTO_RT : Field := ⟨0x40, 27, 1, .rws, 1, 0x0, 1, .any⟩
/-- R294. -/
def CLANE_CTL_ADAPT_EN : Field := ⟨0x40, 26, 1, .rws, 1, 0x0, 1, .any⟩
/-- R294. -/
def CLANE_CTL_LOSS_FR : Field := ⟨0x40, 20, 3, .rws, 4, 0x0, 1, .range 1 5⟩
/-- R294. -/
def CLANE_CTL_RETRY_US : Field := ⟨0x40, 0, 16, .rws, 1000, 0x0, 1, .range 10 65535⟩
/-- R294. -/
def CLANE_CMD_FOM_RST : Field := ⟨0x44, 1, 1, .wo, 0, 0x0, 1, .any⟩
/-- R294. -/
def CLANE_CMD_RETRAIN : Field := ⟨0x44, 0, 1, .wo, 0, 0x0, 1, .any⟩
/-- R294. -/
def CLANE_LSTAT_STATE : Field := ⟨0x48, 29, 3, .ro, 0, 0x0, 1, .any⟩
/-- R294. -/
def CLANE_LSTAT_CDR_LOCK : Field := ⟨0x48, 28, 1, .ro, 0, 0x0, 1, .any⟩
/-- R294. -/
def CLANE_LSTAT_ALIGNED : Field := ⟨0x48, 27, 1, .ro, 0, 0x0, 1, .any⟩
/-- R294. -/
def CLANE_LSTAT_ADAPT_FROZEN : Field := ⟨0x48, 26, 1, .ro, 0, 0x0, 1, .any⟩
/-- R294. -/
def CLANE_LSTAT_COARSE : Field := ⟨0x48, 25, 1, .ro, 0, 0x0, 1, .any⟩
/-- R294. -/
def CLANE_LSTAT_RTT_JUMP : Field := ⟨0x48, 24, 1, .w1c, 0, 0x0, 1, .any⟩
/-- R294. -/
def CLANE_LSTAT_DOWN_CAUSE : Field := ⟨0x48, 20, 4, .ro, 0, 0x0, 1, .any⟩
/-- R294. -/
def CLANE_LSTAT_EB_FILL : Field := ⟨0x48, 8, 8, .ro, 0, 0x0, 1, .any⟩
/-- R294. -/
def CLANE_LSTAT_FOM : Field := ⟨0x48, 0, 8, .ro, 0, 0x0, 1, .any⟩
/-- R294. -/
def CLANE_FOM_CFG_FOM_MIN : Field := ⟨0x4C, 8, 8, .ro, 255, 0x0, 1, .any⟩
/-- R294. -/
def CLANE_FOM_CFG_ALARM : Field := ⟨0x4C, 0, 8, .rws, 64, 0x0, 1, .any⟩
/-- R294. -/
def CLANE_EQ_CTLE : Field := ⟨0x50, 28, 4, .ro, 0, 0x0, 1, .any⟩
/-- R294. -/
def CLANE_EQ_DFE1 : Field := ⟨0x50, 21, 7, .ro, 0, 0x0, 1, .any⟩
/-- R294. -/
def CLANE_EQ_DFE2 : Field := ⟨0x50, 14, 7, .ro, 0, 0x0, 1, .any⟩
/-- R294. -/
def CLANE_EQ_DFE3 : Field := ⟨0x50, 7, 7, .ro, 0, 0x0, 1, .any⟩
/-- R294. -/
def CLANE_EQ_INIT_CTLE : Field := ⟨0x54, 28, 4, .rws, 8, 0x0, 1, .any⟩
/-- R294. -/
def CLANE_EQ_INIT_DFE1 : Field := ⟨0x54, 21, 7, .rws, 0, 0x0, 1, .any⟩
/-- R294. -/
def CLANE_EQ_INIT_DFE2 : Field := ⟨0x54, 14, 7, .rws, 0, 0x0, 1, .any⟩
/-- R294. -/
def CLANE_EQ_INIT_DFE3 : Field := ⟨0x54, 7, 7, .rws, 0, 0x0, 1, .any⟩
/-- R294. -/
def CLANE_ASYM_PS : Field := ⟨0x58, 0, 32, .rws, 0, 0x0, 1, .sgn 32 1000000⟩
/-- R294. -/
def CLANE_TT_CTL_RSH : Field := ⟨0x5C, 24, 3, .rws, 2, 0x0, 1, .any⟩
/-- R294. -/
def CLANE_TT_CTL_TOL : Field := ⟨0x5C, 16, 8, .rws, 32, 0x0, 1, .range 1 255⟩
/-- R294. -/
def CLANE_TT_CTL_PER : Field := ⟨0x5C, 0, 10, .rws, 100, 0x0, 1, .range 10 1000⟩
/-- R294. -/
def CLANE_RTT : Field := ⟨0x60, 0, 24, .ro, 0, 0x0, 1, .any⟩
/-- R294. -/
def CLANE_DDOWN : Field := ⟨0x64, 0, 24, .ro, 0, 0x0, 1, .any⟩
/-- R294. -/
def CLANE_TURN : Field := ⟨0x68, 0, 24, .ro, 0, 0x0, 1, .any⟩
/-- R294. -/
def CLANE_TOFS_LO : Field := ⟨0x6C, 0, 32, .ro, 0, 0x0, 1, .any⟩
/-- R294. -/
def CLANE_TOFS_HI : Field := ⟨0x70, 0, 12, .ro, 0, 0x0, 1, .any⟩
/-- R294. -/
def CLANE_TRATE : Field := ⟨0x74, 0, 32, .ro, 0, 0x0, 1, .any⟩
/-- R294. -/
def CLANE_BAD_COUNT : Field := ⟨0x78, 0, 32, .cnt, 0, 0x0, 1, .any⟩
/-- R294. -/
def CLANE_CV_COUNT : Field := ⟨0x7C, 0, 32, .cnt, 0, 0x0, 1, .any⟩
/-- R294. -/
def CLANE_EB_COUNT : Field := ⟨0x80, 0, 32, .cnt, 0, 0x0, 1, .any⟩
/-- R294. -/
def CLANE_SKIP_INS : Field := ⟨0x84, 0, 32, .cnt, 0, 0x0, 1, .any⟩
/-- R294. -/
def CLANE_SKIP_DEL : Field := ⟨0x88, 0, 32, .cnt, 0, 0x0, 1, .any⟩
/-- R294. -/
def CLANE_DOWN_COUNT : Field := ⟨0x8C, 0, 32, .cnt, 0, 0x0, 1, .any⟩
/-- R294. -/
def CLANE_TT_LOST : Field := ⟨0x90, 0, 32, .cnt, 0, 0x0, 1, .any⟩
/-- R294. -/
def CLANE_TT_REJ : Field := ⟨0x94, 0, 32, .cnt, 0, 0x0, 1, .any⟩
/-- R294. -/
def CLANE_DOWN_T_NS : Field := ⟨0x98, 0, 30, .ro, 0, 0x0, 1, .any⟩
/-- R294. -/
def CLANE_DOWN_T_S : Field := ⟨0x9C, 0, 32, .ro, 0, 0x0, 1, .any⟩
/-- R333. -/
def CLANE_CE_CFG_LOSS_BYP : Field := ⟨0xA0, 31, 1, .rws, 0, 0x0, 1, .any⟩
/-- R333. -/
def CLANE_CE_CFG_LOSS_BYP_MS : Field := ⟨0xA0, 16, 8, .rws, 10, 0x0, 1, .range 1 255⟩
/-- R333. -/
def CLANE_CE_CFG_T_HOLD : Field := ⟨0xA0, 0, 7, .rws, 20, 0x0, 1, .range 1 100⟩
/-- R333. -/
def CLANE_CE_STAT_MODE : Field := ⟨0xA4, 30, 2, .ro, 0, 0x0, 1, .any⟩
/-- R333. -/
def CLANE_CE_STAT_FOLLOW : Field := ⟨0xA4, 28, 2, .ro, 0, 0x0, 1, .any⟩
/-- R333. -/
def CLANE_CE_STAT_FOLLOWS_US : Field := ⟨0xA4, 27, 1, .ro, 0, 0x0, 1, .any⟩
/-- R333. -/
def CLANE_CE_STAT_CONFLICT : Field := ⟨0xA4, 26, 1, .ro, 0, 0x0, 1, .any⟩
/-- R333. -/
def CLANE_CE_STAT_CFG_OK : Field := ⟨0xA4, 25, 1, .ro, 0, 0x0, 1, .any⟩
/-- R333. -/
def CLANE_CE_STAT_CNAK : Field := ⟨0xA4, 24, 1, .ro, 0, 0x0, 1, .any⟩
/-- R333. -/
def CLANE_CE_STAT_CACK : Field := ⟨0xA4, 20, 4, .ro, 0, 0x0, 1, .any⟩
/-- R333. -/
def CLANE_CE_STAT_CSEQ : Field := ⟨0xA4, 16, 4, .ro, 0, 0x0, 1, .any⟩
/-- R333. -/
def CLANE_CE_STAT_FPKG : Field := ⟨0xA4, 0, 10, .ro, 0, 0x0, 1, .any⟩
/-- R333. -/
def CLANE_CE_EPOCH : Field := ⟨0xA8, 0, 32, .ro, 0, 0x0, 1, .any⟩
/-- R333. -/
def CLANE_CE_TEMP_TCAP : Field := ⟨0xAC, 24, 8, .ro, 0, 0x0, 1, .any⟩
/-- R333. -/
def CLANE_CE_TEMP_THS : Field := ⟨0xAC, 16, 8, .ro, 0, 0x0, 1, .any⟩
/-- R333. -/
def CLANE_CE_TEMP_TBRD : Field := ⟨0xAC, 8, 8, .ro, 0, 0x0, 1, .any⟩
/-- R333. -/
def CLANE_CE_TEMP_TSW : Field := ⟨0xAC, 0, 8, .ro, 0, 0x0, 1, .any⟩
/-- R333. -/
def CLANE_CE_HEALTH : Field := ⟨0xB0, 16, 16, .ro, 0, 0x0, 1, .any⟩
/-- R333. -/
def CLANE_CE_ST_ST_SEQ : Field := ⟨0xB4, 28, 4, .ro, 0, 0x0, 1, .any⟩
/-- R333. -/
def CLANE_CE_ST_ST_DONE : Field := ⟨0xB4, 27, 1, .ro, 0, 0x0, 1, .any⟩
/-- R333. -/
def CLANE_CE_ST_ST_REFUSED : Field := ⟨0xB4, 26, 1, .ro, 0, 0x0, 1, .any⟩
/-- R333. -/
def CLANE_CE_ST_DESAT_PASS : Field := ⟨0xB4, 12, 12, .ro, 0, 0x0, 1, .any⟩
/-- R333. -/
def CLANE_CE_ST_VDS_PASS : Field := ⟨0xB4, 0, 12, .ro, 0, 0x0, 1, .any⟩
/-- R333. -/
def CLANE_CE_CNT0_BADFR : Field := ⟨0xB8, 16, 16, .ro, 0, 0x0, 1, .any⟩
/-- R333. -/
def CLANE_CE_CNT0_SEQGAP : Field := ⟨0xB8, 0, 16, .ro, 0, 0x0, 1, .any⟩
/-- R333. -/
def CLANE_CE_CNT1_ILK : Field := ⟨0xBC, 16, 16, .ro, 0, 0x0, 1, .any⟩
/-- R333. -/
def CLANE_CE_CNT1_LATE : Field := ⟨0xBC, 0, 16, .ro, 0, 0x0, 1, .any⟩
/-- R333. -/
def CLANE_CE_CNT2_IGNORED : Field := ⟨0xC0, 16, 16, .ro, 0, 0x0, 1, .any⟩
/-- R333. -/
def CLANE_CE_CNT2_CONFLICTS : Field := ⟨0xC0, 0, 16, .ro, 0, 0x0, 1, .any⟩
/-- R333. -/
def CLANE_CE_CAP_VER : Field := ⟨0xC4, 28, 4, .ro, 0, 0x0, 1, .any⟩
/-- R333. -/
def CLANE_CE_CAP_LEGS : Field := ⟨0xC4, 24, 4, .ro, 0, 0x0, 1, .any⟩
/-- R333. -/
def CLANE_CE_CAP_S2F : Field := ⟨0xC4, 0, 16, .ro, 0, 0x0, 1, .any⟩
/-- R333. -/
def CLANE_CMD_RETRY : Field := ⟨0xC8, 0, 32, .cnt, 0, 0x0, 1, .any⟩
def claneFieldsPart0 : List Field := [CLANE_CTL_EN, CLANE_CTL_DUP, CLANE_CTL_TX_INV, CLANE_CTL_RX_INV, CLANE_CTL_AUTO_RT, CLANE_CTL_ADAPT_EN, CLANE_CTL_LOSS_FR, CLANE_CTL_RETRY_US, CLANE_CMD_FOM_RST, CLANE_CMD_RETRAIN, CLANE_LSTAT_STATE, CLANE_LSTAT_CDR_LOCK]
def claneFieldsPart1 : List Field := [CLANE_LSTAT_ALIGNED, CLANE_LSTAT_ADAPT_FROZEN, CLANE_LSTAT_COARSE, CLANE_LSTAT_RTT_JUMP, CLANE_LSTAT_DOWN_CAUSE, CLANE_LSTAT_EB_FILL, CLANE_LSTAT_FOM, CLANE_FOM_CFG_FOM_MIN, CLANE_FOM_CFG_ALARM, CLANE_EQ_CTLE, CLANE_EQ_DFE1, CLANE_EQ_DFE2]
def claneFieldsPart2 : List Field := [CLANE_EQ_DFE3, CLANE_EQ_INIT_CTLE, CLANE_EQ_INIT_DFE1, CLANE_EQ_INIT_DFE2, CLANE_EQ_INIT_DFE3, CLANE_ASYM_PS, CLANE_TT_CTL_RSH, CLANE_TT_CTL_TOL, CLANE_TT_CTL_PER, CLANE_RTT, CLANE_DDOWN, CLANE_TURN]
def claneFieldsPart3 : List Field := [CLANE_TOFS_LO, CLANE_TOFS_HI, CLANE_TRATE, CLANE_BAD_COUNT, CLANE_CV_COUNT, CLANE_EB_COUNT, CLANE_SKIP_INS, CLANE_SKIP_DEL, CLANE_DOWN_COUNT, CLANE_TT_LOST, CLANE_TT_REJ, CLANE_DOWN_T_NS]
def claneFieldsPart4 : List Field := [CLANE_DOWN_T_S, CLANE_CE_CFG_LOSS_BYP, CLANE_CE_CFG_LOSS_BYP_MS, CLANE_CE_CFG_T_HOLD, CLANE_CE_STAT_MODE, CLANE_CE_STAT_FOLLOW, CLANE_CE_STAT_FOLLOWS_US, CLANE_CE_STAT_CONFLICT, CLANE_CE_STAT_CFG_OK, CLANE_CE_STAT_CNAK, CLANE_CE_STAT_CACK, CLANE_CE_STAT_CSEQ]
def claneFieldsPart5 : List Field := [CLANE_CE_STAT_FPKG, CLANE_CE_EPOCH, CLANE_CE_TEMP_TCAP, CLANE_CE_TEMP_THS, CLANE_CE_TEMP_TBRD, CLANE_CE_TEMP_TSW, CLANE_CE_HEALTH, CLANE_CE_ST_ST_SEQ, CLANE_CE_ST_ST_DONE, CLANE_CE_ST_ST_REFUSED, CLANE_CE_ST_DESAT_PASS, CLANE_CE_ST_VDS_PASS]
def claneFieldsPart6 : List Field := [CLANE_CE_CNT0_BADFR, CLANE_CE_CNT0_SEQGAP, CLANE_CE_CNT1_ILK, CLANE_CE_CNT1_LATE, CLANE_CE_CNT2_IGNORED, CLANE_CE_CNT2_CONFLICTS, CLANE_CE_CAP_VER, CLANE_CE_CAP_LEGS, CLANE_CE_CAP_S2F, CLANE_CMD_RETRY]
/-- Every field of the page CLANE. -/
def claneFields : List Field := claneFieldsPart0 ++ claneFieldsPart1 ++ claneFieldsPart2 ++ claneFieldsPart3 ++ claneFieldsPart4 ++ claneFieldsPart5 ++ claneFieldsPart6
/-- R243. -/
def UNIT_MODE_EN : Field := ⟨0x40, 31, 1, .rws, 0, 0x0, 1, .any⟩
/-- R243. -/
def UNIT_MODE_MODE : Field := ⟨0x40, 29, 2, .rws, 0, 0x0, 1, .range 0 2⟩
/-- R243. -/
def UNIT_MODE_SAW : Field := ⟨0x40, 28, 1, .rws, 0, 0x0, 1, .any⟩
/-- R243. -/
def UNIT_MODE_INV : Field := ⟨0x40, 27, 1, .rws, 0, 0x0, 1, .any⟩
/-- R243. -/
def UNIT_MODE_SRC : Field := ⟨0x40, 26, 1, .rws, 0, 0x0, 1, .any⟩
/-- R243. -/
def UNIT_MODE_PSRC : Field := ⟨0x40, 25, 1, .rws, 0, 0x0, 1, .any⟩
/-- R243. -/
def UNIT_MODE_SPREAD : Field := ⟨0x40, 24, 1, .rws, 0, 0x0, 1, .any⟩
/-- R243. -/
def UNIT_SLOTS_QEN : Field := ⟨0x44, 29, 1, .rws, 0, 0x0, 1, .any⟩
/-- R243. -/
def UNIT_SLOTS_MSLOT : Field := ⟨0x44, 18, 9, .rws, 0, 0x0, 1, .any⟩
/-- R243. -/
def UNIT_SLOTS_QSLOT : Field := ⟨0x44, 9, 9, .rws, 0, 0x0, 1, .any⟩
/-- R243. -/
def UNIT_SLOTS_PSLOT : Field := ⟨0x44, 0, 9, .rws, 0, 0x0, 1, .any⟩
/-- R243. -/
def UNIT_PER : Field := ⟨0x48, 0, 32, .rws, 800000, 0x0, 1, .range 32000 4294967295⟩
/-- R243. -/
def UNIT_PH_BASE : Field := ⟨0x4C, 0, 32, .rws, 0, 0x0, 1, .any⟩
/-- R243. -/
def UNIT_PH_SPAN : Field := ⟨0x50, 0, 32, .rws, 0, 0x0, 1, .any⟩
/-- R243. -/
def UNIT_PH_NOW : Field := ⟨0x54, 0, 32, .ro, 0, 0x0, 1, .any⟩
/-- R243. -/
def UNIT_DT_CTL_ADAPT : Field := ⟨0x58, 31, 1, .rws, 0, 0x0, 1, .any⟩
/-- R243. -/
def UNIT_DT_CTL_K : Field := ⟨0x58, 16, 8, .rws, 16, 0x0, 1, .range 1 255⟩
/-- R243. -/
def UNIT_DT_CTL_STEP : Field := ⟨0x58, 0, 16, .rws, 80, 0x0, 1, .range 1 65535⟩
/-- R243. -/
def UNIT_DT_LIM_DT_MAX : Field := ⟨0x5C, 16, 16, .rws, 16000, 0x0, 1, .any⟩
/-- R243. -/
def UNIT_DT_LIM_DT_MIN : Field := ⟨0x5C, 0, 16, .rws, 1600, 0x0, 1, .range 160 65535⟩
/-- R243. -/
def UNIT_DT_SAFE_MARGIN : Field := ⟨0x60, 16, 16, .rws, 800, 0x0, 1, .any⟩
/-- R243. -/
def UNIT_DT_SAFE_SAFE : Field := ⟨0x60, 0, 16, .rws, 12000, 0x0, 1, .any⟩
/-- R243. -/
def UNIT_DT_NOW_HL : Field := ⟨0x64, 16, 16, .ro, 0, 0x0, 1, .any⟩
/-- R243. -/
def UNIT_DT_NOW_LH : Field := ⟨0x64, 0, 16, .ro, 0, 0x0, 1, .any⟩
/-- R243. -/
def UNIT_DTR_LAST_HL : Field := ⟨0x68, 16, 16, .ro, 0, 0x0, 1, .any⟩
/-- R243. -/
def UNIT_DTR_LAST_LH : Field := ⟨0x68, 0, 16, .ro, 0, 0x0, 1, .any⟩
/-- R243. -/
def UNIT_MINP_STRETCH : Field := ⟨0x6C, 31, 1, .rws, 0, 0x0, 1, .any⟩
/-- R243. -/
def UNIT_MINP_T_MIN : Field := ⟨0x6C, 0, 16, .rws, 6400, 0x0, 1, .any⟩
/-- R243. -/
def UNIT_REFR_CTL_EN : Field := ⟨0x70, 31, 1, .rws, 0, 0x0, 1, .any⟩
/-- R243. -/
def UNIT_REFR_CTL_WINDOW : Field := ⟨0x70, 0, 8, .rws, 4, 0x0, 1, .range 1 255⟩
/-- R243. -/
def UNIT_REFR_T_T_REF : Field := ⟨0x74, 16, 16, .rws, 32000, 0x0, 1, .any⟩
/-- R243. -/
def UNIT_REFR_T_T_REF_MIN : Field := ⟨0x74, 0, 16, .rws, 32000, 0x0, 1, .any⟩
/-- R243. -/
def UNIT_PROF_ON_S_SLOPE : Field := ⟨0x78, 28, 3, .rws, 4, 0x0, 1, .any⟩
/-- R243. -/
def UNIT_PROF_ON_T_SLOPE : Field := ⟨0x78, 14, 14, .rws, 3200, 0x0, 1, .any⟩
/-- R243. -/
def UNIT_PROF_ON_T_PRE : Field := ⟨0x78, 0, 14, .rws, 800, 0x0, 1, .any⟩
/-- R243. -/
def UNIT_PROF_OFF_S_SLOPE : Field := ⟨0x7C, 28, 3, .rws, 4, 0x0, 1, .any⟩
/-- R243. -/
def UNIT_PROF_OFF_T_SLOPE : Field := ⟨0x7C, 14, 14, .rws, 3200, 0x0, 1, .any⟩
/-- R243. -/
def UNIT_PROF_OFF_T_PRE : Field := ⟨0x7C, 0, 14, .rws, 800, 0x0, 1, .any⟩
/-- R243. -/
def UNIT_PF_CTL_ON_EN : Field := ⟨0x80, 31, 1, .rws, 0, 0x0, 1, .any⟩
/-- R243. -/
def UNIT_PF_CTL_OFF_EN : Field := ⟨0x80, 30, 1, .rws, 0, 0x0, 1, .any⟩
/-- R243. -/
def UNIT_PF_CTL_STEP : Field := ⟨0x80, 0, 14, .rws, 16, 0x0, 1, .any⟩
/-- R243. -/
def UNIT_PF_LIM_ON_T_PRE_MAX : Field := ⟨0x84, 16, 14, .rws, 16383, 0x0, 1, .any⟩
/-- R243. -/
def UNIT_PF_LIM_ON_T_PRE_MIN : Field := ⟨0x84, 0, 14, .rws, 0, 0x0, 1, .any⟩
/-- R243. -/
def UNIT_PF_LIM_OFF_T_PRE_MAX : Field := ⟨0x88, 16, 14, .rws, 16383, 0x0, 1, .any⟩
/-- R243. -/
def UNIT_PF_LIM_OFF_T_PRE_MIN : Field := ⟨0x88, 0, 14, .rws, 0, 0x0, 1, .any⟩
/-- R243. -/
def UNIT_PF_TGT_OFF : Field := ⟨0x8C, 16, 16, .rws, 0, 0x0, 1, .any⟩
/-- R243. -/
def UNIT_PF_TGT_ON : Field := ⟨0x8C, 0, 16, .rws, 0, 0x0, 1, .any⟩
/-- R243. -/
def UNIT_PROF_NOW_OFF : Field := ⟨0x90, 16, 14, .ro, 0, 0x0, 1, .any⟩
/-- R243. -/
def UNIT_PROF_NOW_ON : Field := ⟨0x90, 0, 14, .ro, 0, 0x0, 1, .any⟩
/-- R243. -/
def UNIT_PLAT_LAST_OFF : Field := ⟨0x94, 16, 16, .ro, 0, 0x0, 1, .any⟩
/-- R243. -/
def UNIT_PLAT_LAST_ON : Field := ⟨0x94, 0, 16, .ro, 0, 0x0, 1, .any⟩
/-- R243. -/
def UNIT_HD_PER : Field := ⟨0x98, 0, 32, .rw, 800000, 0x0, 1, .any⟩
/-- R243. -/
def UNIT_HD_ON : Field := ⟨0x9C, 0, 32, .rw, 0, 0x0, 1, .any⟩
/-- R243. -/
def UNIT_HD_DUTY : Field := ⟨0xA0, 0, 32, .rw, 0, 0x0, 1, .any⟩
/-- R243. -/
def UNIT_HD_CTL_ATEN : Field := ⟨0xA4, 9, 1, .rw, 0, 0x0, 1, .any⟩
/-- R243. -/
def UNIT_HD_CTL_COMMIT : Field := ⟨0xA4, 8, 1, .wo, 0, 0x0, 1, .any⟩
/-- R243. -/
def UNIT_HD_CTL_AT : Field := ⟨0xA4, 0, 8, .rw, 0, 0x0, 1, .any⟩
/-- R243. -/
def UNIT_ESTAT_HD_PENDING : Field := ⟨0xA8, 31, 1, .ro, 0, 0x0, 1, .any⟩
/-- R243. -/
def UNIT_ESTAT_FROZEN : Field := ⟨0xA8, 30, 1, .ro, 0, 0x0, 1, .any⟩
/-- R243. -/
def UNIT_ESTAT_DTS_HL : Field := ⟨0xA8, 29, 1, .ro, 0, 0x0, 1, .any⟩
/-- R243. -/
def UNIT_ESTAT_DTS_LH : Field := ⟨0xA8, 28, 1, .ro, 0, 0x0, 1, .any⟩
/-- R243. -/
def UNIT_ESTAT_COMMIT_LOST : Field := ⟨0xA8, 8, 1, .w1c, 0, 0x0, 1, .any⟩
/-- R243. -/
def UNIT_ESTAT_PHASE_MOVED : Field := ⟨0xA8, 7, 1, .w1c, 0, 0x0, 1, .any⟩
/-- R243. -/
def UNIT_ESTAT_PER_CLAMP : Field := ⟨0xA8, 6, 1, .w1c, 0, 0x0, 1, .any⟩
/-- R243. -/
def UNIT_ESTAT_DUTY_CLAMP : Field := ⟨0xA8, 5, 1, .w1c, 0, 0x0, 1, .any⟩
/-- R243. -/
def UNIT_ESTAT_SLOT_CLAMP : Field := ⟨0xA8, 4, 1, .w1c, 0, 0x0, 1, .any⟩
/-- R243. -/
def UNIT_ESTAT_REFRESHED : Field := ⟨0xA8, 3, 1, .w1c, 0, 0x0, 1, .any⟩
/-- R243. -/
def UNIT_ESTAT_STRETCHED : Field := ⟨0xA8, 2, 1, .w1c, 0, 0x0, 1, .any⟩
/-- R243. -/
def UNIT_ESTAT_DROPPED : Field := ⟨0xA8, 1, 1, .w1c, 0, 0x0, 1, .any⟩
/-- R243. -/
def UNIT_ESTAT_ILK : Field := ⟨0xA8, 0, 1, .w1c, 0, 0x0, 1, .any⟩
/-- R243. -/
def UNIT_ILK_COUNT : Field := ⟨0xAC, 0, 32, .cnt, 0, 0x0, 1, .any⟩
/-- R243. -/
def UNIT_DROP_COUNT : Field := ⟨0xB0, 0, 32, .cnt, 0, 0x0, 1, .any⟩
/-- R243. -/
def UNIT_STRETCH_COUNT : Field := ⟨0xB4, 0, 32, .cnt, 0, 0x0, 1, .any⟩
/-- R243. -/
def UNIT_REFR_COUNT : Field := ⟨0xB8, 0, 32, .cnt, 0, 0x0, 1, .any⟩
/-- R243. -/
def UNIT_DTS_COUNT : Field := ⟨0xBC, 0, 32, .cnt, 0, 0x0, 1, .any⟩
/-- R243. -/
def UNIT_EDGE_COUNT : Field := ⟨0xC0, 0, 32, .cnt, 0, 0x0, 1, .any⟩
/-- R377. -/
def UNIT_TCFG_CBC_N : Field := ⟨0xD0, 16, 4, .rws, 3, 0x0, 1, .any⟩
/-- R377. -/
def UNIT_TCFG_CBC_WIN : Field := ⟨0xD0, 0, 16, .rws, 1000, 0x0, 1, .range 1 65535⟩
/-- R377. -/
def UNIT_TSTAT_LATCHED : Field := ⟨0xD4, 31, 1, .w1c, 0, 0x0, 1, .any⟩
/-- R377. -/
def UNIT_TSTAT_SRC_ACT : Field := ⟨0xD4, 30, 1, .ro, 0, 0x0, 1, .any⟩
/-- R377. -/
def UNIT_TSTAT_DT : Field := ⟨0xD4, 29, 1, .w1c, 0, 0x0, 1, .any⟩
/-- R377. -/
def UNIT_TSTAT_OFFST : Field := ⟨0xD4, 28, 1, .w1c, 0, 0x0, 1, .any⟩
/-- R377. -/
def UNIT_TSTAT_WIN_CNT : Field := ⟨0xD4, 16, 5, .ro, 0, 0x0, 1, .any⟩
/-- R377. -/
def UNIT_TRIP_COUNT : Field := ⟨0xD8, 0, 32, .cnt, 0, 0x0, 1, .any⟩
/-- R377. -/
def UNIT_LATCH_COUNT : Field := ⟨0xDC, 0, 32, .cnt, 0, 0x0, 1, .any⟩
/-- R377. -/
def UNIT_TRIP_T_NS : Field := ⟨0xE0, 0, 30, .ro, 0, 0x0, 1, .any⟩
def unitFieldsPart0 : List Field := [UNIT_MODE_EN, UNIT_MODE_MODE, UNIT_MODE_SAW, UNIT_MODE_INV, UNIT_MODE_SRC, UNIT_MODE_PSRC, UNIT_MODE_SPREAD, UNIT_SLOTS_QEN, UNIT_SLOTS_MSLOT, UNIT_SLOTS_QSLOT, UNIT_SLOTS_PSLOT, UNIT_PER]
def unitFieldsPart1 : List Field := [UNIT_PH_BASE, UNIT_PH_SPAN, UNIT_PH_NOW, UNIT_DT_CTL_ADAPT, UNIT_DT_CTL_K, UNIT_DT_CTL_STEP, UNIT_DT_LIM_DT_MAX, UNIT_DT_LIM_DT_MIN, UNIT_DT_SAFE_MARGIN, UNIT_DT_SAFE_SAFE, UNIT_DT_NOW_HL, UNIT_DT_NOW_LH]
def unitFieldsPart2 : List Field := [UNIT_DTR_LAST_HL, UNIT_DTR_LAST_LH, UNIT_MINP_STRETCH, UNIT_MINP_T_MIN, UNIT_REFR_CTL_EN, UNIT_REFR_CTL_WINDOW, UNIT_REFR_T_T_REF, UNIT_REFR_T_T_REF_MIN, UNIT_PROF_ON_S_SLOPE, UNIT_PROF_ON_T_SLOPE, UNIT_PROF_ON_T_PRE, UNIT_PROF_OFF_S_SLOPE]
def unitFieldsPart3 : List Field := [UNIT_PROF_OFF_T_SLOPE, UNIT_PROF_OFF_T_PRE, UNIT_PF_CTL_ON_EN, UNIT_PF_CTL_OFF_EN, UNIT_PF_CTL_STEP, UNIT_PF_LIM_ON_T_PRE_MAX, UNIT_PF_LIM_ON_T_PRE_MIN, UNIT_PF_LIM_OFF_T_PRE_MAX, UNIT_PF_LIM_OFF_T_PRE_MIN, UNIT_PF_TGT_OFF, UNIT_PF_TGT_ON, UNIT_PROF_NOW_OFF]
def unitFieldsPart4 : List Field := [UNIT_PROF_NOW_ON, UNIT_PLAT_LAST_OFF, UNIT_PLAT_LAST_ON, UNIT_HD_PER, UNIT_HD_ON, UNIT_HD_DUTY, UNIT_HD_CTL_ATEN, UNIT_HD_CTL_COMMIT, UNIT_HD_CTL_AT, UNIT_ESTAT_HD_PENDING, UNIT_ESTAT_FROZEN, UNIT_ESTAT_DTS_HL]
def unitFieldsPart5 : List Field := [UNIT_ESTAT_DTS_LH, UNIT_ESTAT_COMMIT_LOST, UNIT_ESTAT_PHASE_MOVED, UNIT_ESTAT_PER_CLAMP, UNIT_ESTAT_DUTY_CLAMP, UNIT_ESTAT_SLOT_CLAMP, UNIT_ESTAT_REFRESHED, UNIT_ESTAT_STRETCHED, UNIT_ESTAT_DROPPED, UNIT_ESTAT_ILK, UNIT_ILK_COUNT, UNIT_DROP_COUNT]
def unitFieldsPart6 : List Field := [UNIT_STRETCH_COUNT, UNIT_REFR_COUNT, UNIT_DTS_COUNT, UNIT_EDGE_COUNT, UNIT_TCFG_CBC_N, UNIT_TCFG_CBC_WIN, UNIT_TSTAT_LATCHED, UNIT_TSTAT_SRC_ACT, UNIT_TSTAT_DT, UNIT_TSTAT_OFFST, UNIT_TSTAT_WIN_CNT, UNIT_TRIP_COUNT]
def unitFieldsPart7 : List Field := [UNIT_LATCH_COUNT, UNIT_TRIP_T_NS]
/-- Every field of the page UNIT. -/
def unitFields : List Field := unitFieldsPart0 ++ unitFieldsPart1 ++ unitFieldsPart2 ++ unitFieldsPart3 ++ unitFieldsPart4 ++ unitFieldsPart5 ++ unitFieldsPart6 ++ unitFieldsPart7

end Sys2Proof.Machine
end

