-- ==== Sys2Proof/Machine/Pages.lean ====
section
/-! DEFINITION. The BAR0 map: pages and windows of R53 and R54, the page identities and capabilities of R56 to R58, and
the word every dword of BAR0 resets to. -/

namespace Sys2Proof.Machine

/-- The block types of R57. -/
inductive PageKind
  | pkg | tally | spll | host | twin | sysn | eq | recorder | eth | therm | bist | cstore | sec | claim
  | hrt | hrt1 | hrt2 | ad | wc | emb | rg | abc | sp | clu | clane | unit
  deriving DecidableEq, Repr

def pgPKG : Nat := 0x0000
def pgTALLY : Nat := 0x1000
def pgSPLL : Nat := 0x2000
def pgHOST : Nat := 0x3000
def pgTWIN : Nat := 0x4000
def pgSYSN : Nat := 0x5000
def pgEQ (q : Nat) : Nat := 0x6000 + q % 8 * 0x1000
def pgREC : Nat := 0xE000
def pgETH (p : Nat) : Nat := 0xF000 + p % 2 * 0x1000
def pgTHERM : Nat := 0x11000
def pgBIST : Nat := 0x12000
def pgCSTORE : Nat := 0x13000
def pgSEC : Nat := 0x14000
def pgCLAIM : Nat := 0x15000
def pgHRT : Nat := 0x100000
def pgHRT1 : Nat := 0x101000
def pgHRT2 : Nat := 0x102000
def pgAD (a : Nat) : Nat := 0x200000 + a % 16 * 0x1000
def pgWC (k : Nat) : Nat := 0x210000 + k % 64 * 0x1000
def pgEMB : Nat := 0x250000
/-- Base of region `n`'s window (R54). Instance numbers count modulo their range, here and in the pages. -/
def rgBase (n : Nat) : Nat := 0x1000000 + n % 4 * 0x400000
def pgRG (n : Nat) : Nat := rgBase n
def pgABC (n : Nat) : Nat := rgBase n + 0x1000
/-- SP page that holds channel `q` of region `n`. -/
def pgSP (n g : Nat) : Nat := rgBase n + 0x30000 + g % 4 * 0x1000
def pgCLU (c : Nat) : Nat := rgBase (c / 12) + 0x40000 + c % 12 * 0x1000
def pgCLANE (c : Nat) : Nat := rgBase (c / 12) + 0x50000 + c % 12 * 0x1000
def pgUNIT (u : Nat) : Nat := rgBase (u / 48) + 0x60000 + u % 48 * 0x1000

/-- Dword `j` of section `s` of region `n`, active window (R159). -/
def secAddr (n s j : Nat) : Nat := rgBase n + 0x10000 + 64 * (s % 1024) + 4 * (j % 16)
/-- State word `x` of region `n` (R180). -/
def stateWordAddr (n x : Nat) : Nat := rgBase n + 0x2000 + 4 * (x % 2048)
/-- Value of input slot `k` (R180). -/
def slotAddr (n k : Nat) : Nat := rgBase n + 0x4000 + 8 * (k % 1024)
/-- Status word of input slot `k` (R181). -/
def slotStatAddr (n k : Nat) : Nat := rgBase n + 0x4004 + 8 * (k % 1024)
/-- Late copy of input slot `k` (R180). -/
def lateAddr (n k : Nat) : Nat := rgBase n + 0x6000 + 4 * (k % 1024)
/-- Output slot `o` (R180). -/
def outSlotAddr (n o : Nat) : Nat := rgBase n + 0x7000 + 4 * (o % 512)
/-- Dword `h` (0 low, 1 high) of point-directory entry `l`, active window (R87). -/
def pdirAddr (l h : Nat) : Nat := 0x80000 + 8 * (l % 1024) + 4 * (h % 2)

/-- The page a BAR0 offset lies in and its instance number, if a page is implemented there (R53, R54, R56). -/
def pageOf (a : Nat) : Option (PageKind × Nat) :=
  let p := a / 0x1000
  if a < 0x1000000 then
    if p = 0 then some (.pkg, 0) else if p = 1 then some (.tally, 0) else if p = 2 then some (.spll, 0)
    else if p = 3 then some (.host, 0) else if p = 4 then some (.twin, 0) else if p = 5 then some (.sysn, 0)
    else if p < 0xE then some (.eq, p - 6) else if p = 0xE then some (.recorder, 0)
    else if p < 0x11 then some (.eth, p - 0xF) else if p = 0x11 then some (.therm, 0)
    else if p = 0x12 then some (.bist, 0) else if p = 0x13 then some (.cstore, 0)
    else if p = 0x14 then some (.sec, 0) else if p = 0x15 then some (.claim, 0)
    else if p < 0x100 then none
    else if p = 0x100 then some (.hrt, 0) else if p = 0x101 then some (.hrt1, 1)
    else if p = 0x102 then some (.hrt2, 2) else if p < 0x200 then none
    else if p < 0x210 then some (.ad, p - 0x200) else if p < 0x250 then some (.wc, p - 0x210)
    else if p = 0x250 then some (.emb, 0) else none
  else if a < 0x2000000 then
    let n := (a - 0x1000000) / 0x400000
    let r := (a - 0x1000000) % 0x400000 / 0x1000
    if r = 0 then some (.rg, n) else if r = 1 then some (.abc, n)
    else if 0x30 ≤ r ∧ r < 0x34 then some (.sp, 4 * n + (r - 0x30))
    else if 0x40 ≤ r ∧ r < 0x4C then some (.clu, 12 * n + (r - 0x40))
    else if 0x50 ≤ r ∧ r < 0x5C then some (.clane, 12 * n + (r - 0x50))
    else if 0x60 ≤ r ∧ r < 0x90 then some (.unit, 48 * n + (r - 0x60))
    else none
  else none

/-- The windows of BAR0 without a page header (R53, R54, R180). -/
inductive Window
  | pdirActive | pdirShadow
  | stateWord (n x : Nat) | slot (n k : Nat) | slotStat (n k : Nat) | late (n k : Nat) | outSlot (n o : Nat)
  | secActive (n : Nat) | secShadow (n : Nat)
  deriving DecidableEq, Repr

/-- The window a BAR0 offset lies in. -/
def windowOf (a : Nat) : Option Window :=
  if a < 0x1000000 then
    if 0x80000 ≤ a ∧ a < 0x82000 then some .pdirActive
    else if 0x82000 ≤ a ∧ a < 0x84000 then some .pdirShadow else none
  else if a < 0x2000000 then
    let n := (a - 0x1000000) / 0x400000
    let o := (a - 0x1000000) % 0x400000
    if 0x2000 ≤ o ∧ o < 0x4000 then some (.stateWord n ((o - 0x2000) / 4))
    else if 0x4000 ≤ o ∧ o < 0x6000 then
      (if o % 8 < 4 then some (.slot n ((o - 0x4000) / 8)) else some (.slotStat n ((o - 0x4000) / 8)))
    else if 0x6000 ≤ o ∧ o < 0x7000 then some (.late n ((o - 0x6000) / 4))
    else if 0x7000 ≤ o ∧ o < 0x7800 then some (.outSlot n ((o - 0x7000) / 4))
    else if 0x10000 ≤ o ∧ o < 0x20000 then some (.secActive n)
    else if 0x20000 ≤ o ∧ o < 0x30000 then some (.secShadow n)
    else none
  else none

/-- A collector's six registers at base `b` of its page (R387). -/
def colAt (b : Nat) : List Field := colFields.map fun f => f.shift b

/-- The block registers of each page kind; offsets below 0x040 are the header of R55. -/
def blockFields : PageKind → List Field
  | .pkg => pkgFields ++ colAt 0x200 ++ colAt 0x218 ++ colAt 0x230 ++ colAt 0x248 ++ colAt 0x260
  | .tally => tallyFields
  | .spll => spllFields
  | .host => hostFields
  | .twin => twinFields
  | .sysn => sysnFields ++ slFields
  | .eq => eqFields
  | .recorder => recFields
  | .eth => ethFields
  | .therm => thermFields
  | .bist => bistFields
  | .cstore => cstoreFields
  | .sec => secFields
  | .claim => claimFields
  | .hrt => hrtFields
  | .hrt1 => hrt1Fields
  | .hrt2 => []
  | .ad => adFields
  | .wc => wcFields
  | .emb => embFields
  | .rg => rgFields ++ colAt 0x200
  | .abc => abcFields
  | .sp => spFields
  | .clu => cluFields ++ colAt 0x100
  | .clane => claneFields
  | .unit => unitFields

/-- Block type code (R57). -/
def PageKind.code : PageKind → Nat
  | .pkg => 0x01 | .tally => 0x02 | .spll => 0x03 | .host => 0x04 | .twin => 0x05 | .sysn => 0x06 | .eq => 0x07
  | .recorder => 0x08 | .eth => 0x09 | .therm => 0x0A | .bist => 0x0B | .cstore => 0x0C | .sec => 0x0D | .claim => 0x0E
  | .hrt => 0x10 | .hrt1 => 0x10 | .hrt2 => 0x10 | .ad => 0x20 | .wc => 0x21 | .emb => 0x22 | .rg => 0x30
  | .abc => 0x31 | .sp => 0x32 | .clu => 0x33 | .clane => 0x34 | .unit => 0x35

/-- The page has RWS fields (CAPS.SHADOW). -/
def PageKind.hasShadow (k : PageKind) : Bool := (blockFields k).any fun f => f.acc == .rws

/-- The page has LIVE fields (CAPS.LIVE): only the SP pages (R208). -/
def PageKind.hasLive (k : PageKind) : Bool := (blockFields k).any fun f => f.acc == .live

/-- The page implements INJ (R126, R145, R169, R229, R293, R401, R435, R446, R477, R510). -/
def PageKind.hasInj : PageKind → Bool
  | .tally | .spll | .abc | .unit | .clane | .hrt | .twin | .eq | .sysn | .therm => true
  | _ => false

/-- The page's configuration is sealed (R409). -/
def PageKind.isSealed : PageKind → Bool
  | .hrt | .hrt1 | .hrt2 => true
  | _ => false

/-- The page has claimable features (R147, R150, R353, R456). -/
def PageKind.hasClaims : PageKind → Bool
  | .tally | .wc | .recorder => true
  | _ => false

/-- CAPS.REMOTE_OK (R528). -/
def PageKind.remoteOk : PageKind → Bool
  | .rg | .abc | .sp | .clu | .clane | .unit | .eq | .recorder => true
  | _ => false

/-- CAPS (R58). -/
def PageKind.caps (k : PageKind) : Nat :=
  b2n k.hasClaims * 32 + b2n k.hasLive * 16 + b2n k.hasInj * 8 + b2n k.remoteOk * 4 + b2n k.isSealed * 2 +
    b2n k.hasShadow

/-- The valid checkers and check bits of a page's INJ register (R126, R145, R169, R229, R293, R401, R435, R446,
R477, R510). -/
def injOk (k : PageKind) (chk bit : Nat) : Bool :=
  match k with
  | .tally => chk == 0 && decide (bit ≤ 109)
  | .spll => chk == 0 && bit == 0
  | .abc => (decide (chk ≤ 3) && decide (bit ≤ 2)) || (decide (4 ≤ chk ∧ chk ≤ 6) && decide (bit ≤ 6))
  | .unit => chk == 0 && decide (bit ≤ 1)
  | .clane => chk == 0 && decide (bit ≤ 15)
  | .hrt => (chk == 0 && decide (bit ≤ 31)) || (chk == 1 && decide (bit ≤ 7)) || (chk == 2 && decide (bit ≤ 6))
  | .twin | .eq => chk == 0 && decide (bit ≤ 31)
  | .sysn => decide (chk ≤ 7) && decide (bit ≤ 31)
  | .therm => chk == 0 && decide (bit ≤ 13)
  | _ => false

/-- The fields at offset `o` (below 0x800) of a page, with the element each one is. -/
def fieldsAt (k : PageKind) (o : Nat) : List (Field × Nat) :=
  (if o < 0x40 then hdrFields else blockFields k).filterMap fun f => (f.index? o).map fun i => (f, i)

/-- Does a field list hold a register at offset `o`? -/
def hasReg (k : PageKind) (o : Nat) : Bool := !(fieldsAt k o).isEmpty

/-- The union of the bits of the fields of one access code at an offset. -/
def maskAt (k : PageKind) (o : Nat) (acc : Acc) : Word :=
  (fieldsAt k o).foldl (fun m f => if f.1.acc = acc then m ||| f.1.mask else m) 0

/-- Reset values that a register table words instead of printing, or that differ by entry or page (R56, R58, R410). -/
def specialReset (k : PageKind) (inst o : Nat) : Option Word :=
  if o = 0x000 then some (BitVec.ofNat 32 (k.code * 0x10000 + inst % 256 * 0x100 + 1))
  else if o = 0x004 then some (BitVec.ofNat 32 k.caps)
  else if k = .hrt1 ∧ o = 0x40 then some 0x01000F03#32
  else if k = .hrt1 ∧ o = 0x44 then some 0x00000014#32
  else none

/-- What the dword at BAR0 offset `a` resets to: the values of the register tables; the windows read 0. -/
def resetWord (a : Nat) : Word :=
  match pageOf a with
  | none => 0
  | some (k, inst) =>
    let o := a % 0x1000
    match specialReset k inst o with
    | some d => d
    | none => (fieldsAt k o).foldl (fun d f => f.1.set d f.1.reset) 0

end Sys2Proof.Machine
end

