-- ==== Sys2Proof/Machine/State.lean ====
section
/-! DEFINITION. The state of the block: the Tally, everything else (`Dev`), and the queue of waiting commands. Registers
and data windows lie in sparse stores keyed by BAR0 offset; what the spec describes behind the registers stands in named
structures. Plain data throughout. -/

namespace Sys2Proof.Machine

/-- Why the machine stops with a fault: nothing in the spec stops the block, so no command ends in one. -/
inductive Fault
  /-- An operand names an object that does not exist. Raised by no meaning of this model; kept so that the type is
  inhabited. Safe: it could only stop the machine. -/
  | noSuchObject
  deriving DecidableEq, Repr

/-- Why a command is refused. -/
inductive Refusal
  /-- Raised by an arm of `exec` whose command has no meaning yet. Safe. -/
  | notModelled (mnemonic : String)
  deriving DecidableEq, Repr

/-- What has left the part (the model's own record; log entry 7). -/
inductive Out
  /-- a host read completion: dwords, and whether it is poisoned (R114) -/
  | hostRead (dwords : List Word) (poisoned : Bool)
  /-- a host read completion of a byte range (BAR2, BAR4) -/
  | hostBytes (bytes : List Byte) (poisoned : Bool)
  /-- an MSI-X interrupt -/
  | msix (vec : Nat)
  /-- a downlink frame: lane, TYPE byte, four payload words, CRC-16, whether its gap is a SKIP gap, and the 40 symbols at the
  lane's pins (R269) -/
  | frame (lane : Nat) (type : Nat) (words : List (BitVec 64)) (crc : Nat) (skip : Bool) (line : List (BitVec 10))
  /-- a packet on system lane 0 to 7, whether it ended with K30.7, and its symbols at the lane's pins (R458, R460) -/
  | packet (port : Nat) (p : Pkt) (aborted : Bool) (line : List (BitVec 10))
  /-- a packet on the twin lanes, and its CRC (R415) -/
  | twinPacket (p : TwinPkt) (crc : Word)
  /-- a one-step Sync (R154), its frame check sequence recomputed: port, key of R156, originTimestamp, correctionField, and whether
  its UDP checksum is set to 0 -/
  | ptpSync (port : Nat) (key : Nat) (s ns : Nat) (corr : BitVec 64) (udp0 : Bool)
  /-- an output pin's new level -/
  | pin (name : String) (index : Nat) (level : Bool)
  /-- every output pin takes its reset state (R481) -/
  | outputsReset
  /-- a data register the TAP shifts out -/
  | tap (dr : Word)
  deriving DecidableEq, Repr

/-- The system PLL behind its registers (R134 to R142). -/
structure Pll where
  /-- the settled NOFS -/
  settled : Int
  /-- the NOFS the PLL multiplies by -/
  inUse : Int
  /-- a NOFS change that waits for the gates to close (R135) -/
  target : Option Int
  /-- the lock detector's verdict (R136, R137) -/
  lockDet : Bool
  /-- ticks counted since the previous REFCLK edge (R140) -/
  sinceRef : Nat
  /-- REFCLK periods since a slip was last reported (R142) -/
  quiet : Nat
  /-- the output gates are closed (R140) -/
  closed : Bool
  deriving DecidableEq, Repr

/-- The package time base (R121, R125, R127): counters A and B, the increment in force and the staged fraction, the PLL,
and the ticks counted since reset, which no step moves. -/
structure Tally where
  a : Time
  b : Time
  incNs : Nat
  incFrac : Nat
  staged : Option Nat
  running : Bool
  pll : Pll
  elapsed : Nat
  deriving DecidableEq, Repr

/-- A value filed for an input slot (R25, R178). -/
structure Filed where
  slot : Nat
  val : Word
  range : Bool
  ts : Nat
  deriving DecidableEq, Repr

/-- One set-point channel behind its registers (R190 to R196): the sealed generator and its pending successor. -/
structure SpGen where
  rmp : Int
  h1 : List Int
  h2 : List Int
  out : Int
  tacc : Nat
  tjerk : Nat
  /-- consecutive advances made with the ramp already at the clamped target (R194) -/
  hold : Nat
  deriving DecidableEq, Repr, Inhabited

/-- An advance that waits for SEAL (R192): the generator, STATE and REMAIN after it, and what it flags. -/
structure SpAdv where
  gen : SpGen
  state : Nat
  remain : Nat
  clamp : Bool
  stepped : Bool
  started : Bool
  deriving DecidableEq, Repr, Inhabited

/-- One loop behind its registers (R198 to R205): its sealed mode, the mode a latched write of LMODE asks for, and whether
the host has written LMODE and LMAN since the last latch (R200, R201). -/
structure LoopSt where
  auto : Bool
  req : Option Bool
  modeW : Bool
  manW : Bool
  deriving DecidableEq, Repr, Inhabited

/-- One region behind its registers: the cycle (R23 to R43), the Abacus run (R164 to R186) and the slots in filing. -/
structure Region where
  run : Bool
  startPend : Bool
  stopPend : Bool
  /-- planned time of the next boundary, 1/16 ns -/
  nextB : Option Int
  /-- time of the current cycle's boundary, 1/16 ns -/
  t0 : Int
  /-- boundary of the cycle that the slots' status words describe (R181) -/
  tShown : Option Int
  /-- boundary of the latest cycle that sealed Abacus results, and the SEALs since CYC_EN was last set (R87, R89) -/
  sealT0 : Option Int
  seals : Nat
  /-- CYC_T0_S latched by a read of CYC_T0_NS -/
  t0Latch : Option Word
  /-- RECKON is in progress -/
  reckon : Bool
  pc : Nat
  results : List Word
  resErrs : Nat
  abandoned : Bool
  /-- ticks counted at the start of RECKON, at its end, and at the output deadline (R176) -/
  tStart : Nat
  tDone : Option Nat
  tEnd : Nat
  pendState : List (Nat × Word)
  pendOut : List (Nat × Word)
  /-- the cycle overran: its deadline has discarded its results -/
  overrun : Bool
  fillCur : List Filed
  fillNext : List Filed
  hostStage : List (Nat × Word)
  /-- newest source boundary time of each point slot that has one -/
  ptTime : List (Nat × Int)
  fbRec : Bool
  fbByp : Bool
  /-- channels whose FB_SET waits for the next boundary (R196) -/
  fbSet : List Nat
  sp : Vector SpGen 64
  spPend : List (Nat × SpAdv)
  lp : Vector LoopSt 64
  /-- transfers made in this cycle, whether a conversion of their preset saturated, and whether a host value of LMAN was latched
  with them (R200 to R202) -/
  lpPend : List (Nat × Bool × Bool)
  /-- spread-group masks applied in this region: group, package, 128-bit mask (R256, R257) -/
  masks : List (Nat × Nat × Nat)
  /-- the region performs standby operation (R420) -/
  standby : Bool
  /-- boundary at which it becomes active after a takeover (R427) -/
  takeAt : Option Int
  /-- boundary at which RELEASING begins after a handover (R430) -/
  releaseAt : Option Int
  /-- catch-up cycles still to run (R427) -/
  catchUp : Nat
  /-- cluster resumption of R429 is owed from the takeover boundary -/
  resume : Bool
  /-- input slots and SLACK as they stood at the region's latest SEAL, by BAR0 offset (R451) -/
  sealed : List (Nat × Word)
  /-- input slots of the last two cycles, newest first: slot, value, status (R420) -/
  slotHist : List (List (Nat × Word × Word))
  deriving DecidableEq, Repr, Inhabited

/-- One cluster behind its registers. -/
structure Cluster where
  /-- a forced safe request has acted; LOCKOUT is sealed at the next boundary (R248) -/
  safePend : Bool
  /-- what raised REGION (R249), a bit each: 0 region stall, 1 SRAM, 2 Abacus memory, 3 holdover expiry, 4 die stall -/
  rgSrc : Nat
  /-- cycles in RUN still to complete before RECOV clears (R250) -/
  recovLeft : Nat
  pcTimer : Bool
  /-- the pre-charge timer has expired at the instant of a boundary still to come (R252) -/
  pcExpired : Bool
  bypTimer : Bool
  /-- tick count at which a capacitor temperature was last reported -/
  tempAt : Option Nat
  /-- last TRIP_ID filed (R355, R357) -/
  tripId : Option Nat
  /-- an outstanding cell-end self-test: CSEQ once sent, and its masks (R373) -/
  st : Option (Option Nat × Nat × Nat)
  /-- sample instants planned: the boundary of the cycle, the instant, and the values named (R259, R260) -/
  plans : List (Int × Int × Nat)
  /-- CSEQ of the CLEAR of R429 once sent; units wait for its acknowledgement -/
  resume : Option (Option Nat)
  deriving DecidableEq, Repr, Inhabited

/-- The host-direct triple (R220). -/
structure Triple where
  per : Nat
  on : Nat
  duty : Nat
  deriving DecidableEq, Repr, Inhabited

/-- The period-level configuration of a unit's carrier (R214, R215): with SRC = 1 the committed triple and the parity of its
latches belong to it, so that every latch is a change. -/
structure CarCfg where
  mode : Nat
  saw : Bool
  inv : Bool
  src : Bool
  psrc : Bool
  per : Nat
  phi : Nat
  hd : Triple
  hdn : Bool
  deriving DecidableEq, Repr, Inhabited

/-- A carrier period (R214): its start and length in 1/16 ns, its configuration, whether it is a transition period (R215)
and whether its phase advances at the slot's rate (R216). -/
structure Span where
  ts : Rat
  len : Rat
  cfg : CarCfg
  trans : Bool
  slot : Bool
  deriving DecidableEq, Repr, Inhabited

/-- What the adapters give one carrier period (R226, R227, R236): dead times, their DT_SAFE flags, and T_PRE values. -/
structure DtVal where
  hl : Nat
  lh : Nat
  sHL : Bool
  sLH : Bool
  on : Nat
  off : Nat
  deriving DecidableEq, Repr, Inhabited

/-- One edge word decided by stages 1 to 7, not yet numbered (R230). -/
structure EdgeW where
  cancel : Bool
  leg : Nat
  /-- 0 OFF, 1 HIGH, 2 LOW -/
  st : Nat
  refr : Bool
  str : Bool
  dts : Bool
  /-- due time, 1/16 ns -/
  due : Int
  deriving DecidableEq, Repr, Inhabited

/-- One leg controller behind its registers (R211 to R239, R361). -/
structure LegUnit where
  /-- the period running at the start of the next edge interval; none before the carrier has started -/
  car : Option Span
  /-- a period-level change waiting for that period to end (R215) -/
  chg : Option CarCfg
  /-- the unit emits from the next edge interval -/
  emit : Bool
  /-- first edge interval not yet scheduled since emission started -/
  fresh : Bool
  /-- command in force at the start of the next interval (true: HIGH) and since when; none with the leg OFF -/
  cmd : Option (Bool × Rat)
  /-- a stretched interval runs on to this time (R222) -/
  minEnd : Option Rat
  /-- the rest of a dropped interval is still to pass (R222) -/
  dropping : Bool
  /-- an on edge whose off edge is sent and which falls into the next interval (R225) -/
  pendOn : Option EdgeW
  /-- refresh intervals that run on into the next interval (R223) -/
  refr : List (Rat × Rat)
  /-- periods counted in the refresh window, and its start -/
  refrN : Nat
  refrStart : Rat
  offHi : Option Rat
  offLo : Option Rat
  onHi : Bool
  onLo : Bool
  seq : Nat
  /-- edges emitted, newest first: due time and leg state after it, 0 OFF, 1 HIGH, 2 LOW -/
  hist : List (Int × Nat)
  /-- due times of words sent and not yet due (R232) -/
  sent : List Int
  /-- what the adapters give the period running at the next interval's start, and the period starts after it -/
  dt : DtVal
  dtq : List DtVal
  /-- newest unused reports of a high-side and a low-side turn-off: delay and incompleteness -/
  repHL : Option (Nat × Bool)
  repLH : Option (Nat × Bool)
  missHL : Nat
  missLH : Nat
  platOn : Option Nat
  platOff : Option Nat
  hdBuf : Option Triple
  hd : Triple
  hdn : Bool
  /-- profile words last sent to the cell end -/
  prof : Option Nat
  /-- the unit holds its leg where a freeze or a takeover has left it (R238, R429) -/
  frozen : Bool
  /-- tick count at which it was released (R239) -/
  resume : Option Nat
  trips : List Int
  /-- stage 6 has removed an on edge whose off edge is still to come (R228) -/
  skip : Bool
  deriving DecidableEq, Repr, Inhabited

/-- A leg controller after reset: the committed triple at its reset values (R220). -/
def LegUnit.reset : LegUnit := { (default : LegUnit) with hd := ⟨800000, 0, 0⟩ }

/-- A CMD message waiting on a lane (R319): operation and argument word. -/
structure CeCmd where
  op : Nat
  arg : BitVec 64
  deriving DecidableEq, Repr

/-- A timed downlink frame waiting on a lane (R275). -/
inductive Timed
  | edge (unit : Nat) (e : EdgeW)
  | prof (leg : Nat) (due : Int) (w1 : BitVec 64)
  | sample (mask0 mask1 : Nat) (due first : Int)
  deriving DecidableEq, Repr

/-- A time exchange in progress (R284, R292): its XID, t1 and the rate in force once the PING has left, whether the gates have
stayed open (R289), and ASYM_PS, TOL and RSH as they stood at its start. -/
structure Exch where
  xid : Nat
  t1 : Option Nat
  rate : Rat
  usable : Bool
  asym : Int
  tol : Nat
  rsh : Nat
  deriving DecidableEq, Repr

/-- One cell lane behind its registers. -/
structure Lane where
  slot : Nat
  good : Nat
  accepted : Nat
  xidNext : Nat
  /-- exchanges in progress, oldest first -/
  exch : List Exch
  /-- R, O, and the anchor t2 (R286) -/
  rate : Rat
  ofs : Int
  anchor : Nat
  prev : Option (Nat × Int)
  /-- last accepted RTT, 1/16 ns -/
  rtt : Option Rat
  badRun : Nat
  rttRun : Nat
  /-- XID of a TIMEOFS waiting to be sent -/
  timeOfs : Option Nat
  /-- holdover has passed: the next accepted exchange leaves R as it is (R289) -/
  holdRate : Bool
  /-- on the even lane of a pair, the time master (R291): 0 even while in UP, 1 odd from its next accepted exchange, 2 odd -/
  master : Nat
  /-- frames of class 4 in the order of their requests (R275): 0 CMD, 1 copy of the even lane's CMD, 2 TIMEOFS, 3 PING -/
  p4 : List Nat
  /-- slots to the next SAFE; none before the first (R318) -/
  safe : Option Nat
  /-- one SAFE owed to a cluster in OFF or BYPASS (R247), with its cause -/
  safeOnce : Option Nat
  hsafe : Option Nat
  role : Nat
  timed : List Timed
  copy : Option (Nat × List (BitVec 64))
  cmds : List CeCmd
  /-- the CMD sent and not yet acknowledged: CSEQ and sends (R321) -/
  cmdOut : Option (CeCmd × Nat × Nat)
  cseq : Nat
  /-- distances in symbols of the recent code violations, newest first -/
  cvs : List Nat
  /-- the previous slot carried a good first copy (R298 item 1, R327) -/
  predGood : Bool
  /-- frames of the even lane still to be copied on this odd lane (R21, R291): TYPE and words -/
  mirror : List (Nat × List (BitVec 64))
  /-- T_EFF of the package's latest ACTIVE claim, and consecutive STAT reports against it (R432) -/
  claimAt : Int
  against : Nat
  /-- the transmitter's running disparity is positive (R268) -/
  posDisp : Bool
  deriving DecidableEq, Repr, Inhabited

/-- A packet waiting at a system-lane output port (R464): priority, packet, whether its copy must end with K30.7. -/
structure OutPkt where
  prio : Nat
  pkt : Pkt
  bad : Bool
  deriving DecidableEq, Repr

/-- One system or twin lane behind its registers. -/
structure SysLane where
  cvs : List Nat
  /-- good LINK packets since SYNC (R459) -/
  links : Nat
  /-- outbound packets waiting, oldest first -/
  queue : List OutPkt
  deriving DecidableEq, Repr, Inhabited

/-- A packet delivered to this package and not yet acted on: arrival port (none: loopback), packet, arrival time of its SOF
in 1/16 ns and STEP_SEQ then (R462, R467). -/
structure NetIn where
  port : Option Nat
  pkt : Pkt
  at16 : Int
  deriving DecidableEq, Repr

/-- The members another package reported for a spread group (R257, R473), and whether it has aged. -/
structure MaskMsg where
  src : Nat
  sgid : Nat
  members : Nat
  active : Nat
  deriving DecidableEq, Repr

/-- The system network behind its registers. -/
structure NetSt where
  /-- next SEQ per TYPE (R460) -/
  seqs : List (Nat × Nat)
  /-- last SEQ of a TRIP forwarded, per originator (R463) -/
  tripSeen : List (Nat × Nat)
  inbox : List NetIn
  /-- groups the host asserts (R465) -/
  hostTrip : Nat
  /-- exchanges in progress, oldest first: port, SEQ, t1 once sent, STEP_SEQ and holdover then (R467) -/
  treq : List (Nat × Nat × Option Int × Nat × Bool)
  ttRun : Nat
  /-- exchanges started since the last accepted one (R469) -/
  ttAge : Nat
  /-- remote access outstanding: SEQ, and whether it writes (R475) -/
  ra : Option (Nat × Bool)
  /-- originator of the SWAP that armed the swap in progress (R471) -/
  swapFrom : Option Nat
  /-- MASK messages to apply, and those in force -/
  masks : List MaskMsg
  deriving DecidableEq, Repr, Inhabited

/-- A reaction the Hearth holds (R389 to R394): COND, IDX, entry (0xFF when fixed or PLEA), level, regions, and which fixed
reaction it is: 0 a table entry, 1 level 4, 2 configuration CRC, 3 halt guard, 4 PLEA. -/
structure Held where
  cond : Nat
  idx : Nat
  entry : Nat
  level : Nat
  mask : Nat
  kind : Nat
  deriving DecidableEq, Repr

/-- The Hearth behind its registers. -/
structure HearthSt where
  /-- held reactions, oldest first -/
  held : List Held
  /-- self-check passed since the package reset (R396) -/
  checked : Bool
  alive : Bool
  /-- HGUARD.TIME has passed since the freeze point (R398) -/
  guardPast : Bool
  /-- dies from which a UC report has reached the Hearth, a bit each (R391) -/
  ucSeen : Nat
  /-- handshakes whose guard has fired and which have not completed (R563): domain, and cluster of a lane path -/
  stalls : List (Nat × Option Nat)
  /-- a freeze has been requested for this freeze point, 1/16 ns (R237) -/
  frz : Option Int
  deriving DecidableEq, Repr, Inhabited

/-- A twin image on its way in or complete (R418): the words received by offset, the CYC they carry, and the verdict of
its COPY_END. -/
structure ImgIn where
  cyc : Nat
  words : List (Nat × Word)
  verdict : Option Bool
  deriving DecidableEq, Repr, Inhabited

/-- Twin state of one region (R418 to R421). -/
structure TwinRg where
  img : Option ImgIn
  /-- newest complete image committed or kept: CYC -/
  last : Nat
  resync : Bool
  missRun : Nat
  commitRun : Nat
  gatherRun : Nat
  /-- the image sealed at the last boundary has not been sent (R419) -/
  unsent : Bool
  /-- TGT, LMODE and LMAN as the last image set them, by BAR0 offset (R205) -/
  live : List (Nat × Word)
  deriving DecidableEq, Repr, Inhabited

/-- The twin behind its registers. -/
structure TwinSt where
  /-- level of ROLE_RX -/
  rxPin : Bool
  /-- edges each within 480 ticks of the one before -/
  rxEdges : Nat
  /-- a HELLO with the package's PAIR has been received since the lanes trained -/
  hello : Bool
  rg : Vector TwinRg 4
  /-- an answer to HO_REQ is awaited -/
  hoWait : Option Time
  /-- the agreed handover: D_HO and the new epoch -/
  ho : Option (Time × Nat)
  /-- the twin's READY has lacked an enabled region for RDY_MS (R424) -/
  notReady : Bool
  /-- which pair of regions the standby tests next (R519) -/
  bistTurn : Bool
  deriving DecidableEq, Repr, Inhabited

/-- A chopper channel behind its registers (R368 to R370). -/
structure ChopSt where
  /-- a TMIN_OFF hold runs -/
  minOff : Bool
  /-- level the Hearth drives while HRT_CTL is 1 -/
  hrtOn : Bool
  deriving DecidableEq, Repr, Inhabited

/-- Kindling, power and resets behind their registers (R479 to R509). -/
structure KinSt where
  /-- PORST_N is held low -/
  porst : Bool
  /-- PCIE_PERST_N is low -/
  perst : Bool
  /-- the PCI Express link is in L0 -/
  link : Bool
  strap : Nat
  dram : Bool
  /-- the image waits for IMG_GO (R484) -/
  waitImg : Bool
  /-- image-store block of the image to load -/
  img : Option Nat
  thermalOff : Bool
  /-- a shutdown reaction has set out for THERMAL_OFF (R506) -/
  shutdown : Bool
  /-- regions whose reset runs -/
  resets : Nat
  /-- dies whose reset runs -/
  dieResets : Nat
  /-- image-store block protected while a mark stands (R516) -/
  kept : Option Nat
  /-- VCORE or VDDQ has left its range: the DRAM contents do not outlive the next package reset (R438, R480) -/
  retLost : Bool
  deriving DecidableEq, Repr, Inhabited

/-- The Ember behind its registers (R348 to R350, R494 to R498). -/
structure EmberSt where
  ecnt : Nat
  /-- consecutive active decisions per comparator; 5 once they have made an event -/
  qual : Vector Nat 4
  /-- comparators sampled since EN became 1, a bit each -/
  seen : Nat
  /-- a sleep delay runs -/
  sleep : Bool
  /-- host writes that wait for the next tick (R350): BAR0 offset and value -/
  staged : List (Nat × Word)
  /-- region marks of R515, held in the Ember domain -/
  marks : Nat
  deriving DecidableEq, Repr, Inhabited

/-- The temperature sensors behind their registers (R500 to R508). -/
structure ThermSt where
  /-- consecutive samples in which the sensor deviates against every good neighbour -/
  dev : Vector Nat 14
  /-- consecutive samples at 145 degrees or more -/
  hot : Vector Nat 14
  /-- consecutive samples with every good sensor below 128 degrees -/
  cool : Nat
  /-- highest TMAX since the last PEAK_RST, in quarters of a degree (R510) -/
  peak : Option Int
  deriving DecidableEq, Repr, Inhabited

/-- The swap behind its registers (R71 to R78): D as ARM took it (none: the first tick after the checks complete). -/
structure SwapSt where
  d : Option Int
  deriving DecidableEq, Repr, Inhabited

/-- A write of the counted store that runs (R531, R532): slot, the value's halves, TIME_SET and the seconds at its start. -/
structure CellRun where
  slot : Nat
  lo : Word
  hi : Word
  timeSet : Bool
  s : Nat
  deriving DecidableEq, Repr

/-- Self-test, key and counted store behind their registers (R511 to R533). -/
structure SecSt where
  /-- the device key, byte 0 first, in OTP -/
  key : List Byte
  programmed : Bool
  verified : Bool
  progRun : Bool
  /-- the OTP key path is closed until the next VHRT power-on -/
  closed : Bool
  cellRun : Option CellRun
  /-- regions whose BIST start has been accepted and whose fence is still to be raised -/
  drain : Nat
  /-- instruction selected on the TAP (R525) -/
  ir : Nat
  deriving DecidableEq, Repr, Inhabited

/-- What asked for a conversion. -/
inductive AdcSrc
  | host
  /-- plan entry `k` of region `n`, for the cycle that starts at `b` (R261) -/
  | plan (n k : Nat) (b : Int)
  | hearth
  deriving DecidableEq, Repr

/-- A conversion request: channel, source, and whether it is urgent (R337, R338). -/
structure AdcReq where
  ch : Nat
  src : AdcSrc
  urgent : Bool
  deriving DecidableEq, Repr

/-- One ADC behind its registers (R337 to R341). -/
structure Adc where
  nq : List AdcReq
  uqHost : Option Nat
  uqHearth : Option Nat
  run : Option (AdcReq × Time)
  aborted : Option AdcReq
  dataTs : Nat
  deriving DecidableEq, Repr, Inhabited

/-- A Tally capture record (R149). -/
structure CapRec where
  s : Nat
  fr : Nat
  coarse : Bool
  falling : Bool
  seq : Nat
  deriving DecidableEq, Repr, Inhabited

/-- A timed output channel behind its registers (R150, R151): the TRAIN periods between its due time and the next pulse (none:
nothing further is due), and whether its pulse is on. -/
structure Tout where
  next : Option Nat
  on : Bool
  deriving DecidableEq, Repr, Inhabited

/-- A PTP timestamp entry (R155). -/
structure PtpTs where
  key : Nat
  t : Time
  coarse : Bool
  seq : Nat
  deriving DecidableEq, Repr

/-- A report on its way to a collector (R384, R385). -/
structure InFlight where
  dst : Coll
  child : Nat
  rep : Report
  deriving DecidableEq, Repr

/-- One event queue behind its positions (R442, R443): the packets at or after REL with their positions, the position
from which packets lie in the overflow partition, the drops since the last packet written, and whether a GAP packet is to
precede the next one (R443, R446). -/
structure EqQ where
  pkts : List (Nat × List Word)
  ovf : Nat
  lost : Nat
  gap : Bool
  deriving DecidableEq, Repr, Inhabited

/-- The recorder behind its registers (R450 to R454). -/
structure RecSt where
  /-- SEALs of the clocking region since the last frame -/
  seals : Nat
  /-- frames still to write in POST -/
  postLeft : Nat
  /-- the START entry of frame 0 is still to be written -/
  start : Bool
  /-- a gap precedes the next frame -/
  gap : Bool
  /-- frames dropped since the previous index entry -/
  drops : Nat
  /-- staged frames, oldest first: BAR2 offset and bytes -/
  staged : List (Nat × List Byte)
  /-- Ash records still to be copied: SEQ and the six dwords -/
  ash : List (Nat × List Word)
  deriving DecidableEq, Repr, Inhabited

/-- Everything of the part but the Tally and the queue. -/
structure Dev where
  regs : List (Nat × Word)
  shadow : List (Nat × Word)
  latched : List (Nat × Word)
  dram : List (Nat × Byte)
  sram : List (Nat × Byte)
  /-- words of hub SRAM (4) and DRAM (6) marked bad, by ECC_LAST.MEM and WORD (R388) -/
  bad : List (Nat × Nat)
  rgn : Vector Region 4
  clu : Vector Cluster 48
  unit : Vector LegUnit 192
  lane : Vector Lane 48
  sl : Vector SysLane 12
  adc : Vector Adc 16
  /-- voltage at each input AINk when a command last gave it, in volts (R334, R343) -/
  ain : Vector Rat 64
  cap : Vector (Option CapRec) 32
  tout : Vector Tout 16
  ethRx : Vector (List PtpTs) 2
  ethTx : Vector (List PtpTs) 2
  flue : List InFlight
  lines : List Report
  events : List Event
  eq : Vector EqQ 8
  recd : RecSt
  net : NetSt
  hearth : HearthSt
  twin : TwinSt
  chop : Vector ChopSt 8
  kin : KinSt
  ember : EmberSt
  therm : ThermSt
  sec : SecSt
  swap : SwapSt
  /-- the Damper's throttle gate is closed (R118), and the requests held before it, oldest first (R104) -/
  shut : Bool
  held : List Instr
  out : List Out
  freeCtr : Nat
  deriving DecidableEq, Repr

/-- `Dev` as a command sees it: with the Tally's time, the ticks counted and what a tick adds in units of 2^-32 ns, all read-only
to it. Never stored. -/
structure Work extends Dev where
  now : Time
  up : Nat
  inc : Nat

/-- The state of the block. -/
structure State where
  tally : Tally
  dev : Dev
  pending : List Instr
  deriving DecidableEq, Repr

/-- The Tally after reset: it stands at zero until Kindling step 4 starts it (R487). -/
def Tally.reset : Tally :=
  ⟨⟨0, 0, 0⟩, ⟨0, 0, 0⟩, 2, 0x80000000, none, false, ⟨0, 0, none, false, 0, 0, false⟩, 0⟩

/-- The device after reset: every register at the reset value of its table (`resetWord`) but FENCE_STAT, since the region
fences are up from step 1 of Kindling (R488, log entry 13); nothing filed, nothing in flight (log entries 1 to 4). -/
def Dev.reset : Dev where
  regs := [(0x90, 0xF)]
  shadow := []
  latched := []
  dram := []
  sram := []
  bad := []
  rgn := .replicate 4 default
  clu := .replicate 48 default
  unit := .replicate 192 .reset
  lane := .replicate 48 default
  sl := .replicate 12 default
  adc := .replicate 16 default
  ain := .replicate 64 0
  cap := .replicate 32 none
  tout := .replicate 16 default
  ethRx := .replicate 2 []
  ethTx := .replicate 2 []
  flue := []
  lines := []
  events := []
  eq := .replicate 8 default
  recd := default
  net := default
  hearth := default
  twin := default
  chop := .replicate 8 default
  kin := default
  ember := default
  therm := default
  sec := { (default : SecSt) with key := List.replicate 32 0, ir := 1 }
  swap := default
  shut := false
  held := []
  out := []
  freeCtr := 0

/-- The machine right after the rising edge of PORST_N, at step 1 of Kindling, with no command waiting (log entry 1). -/
def State.reset : State := ⟨Tally.reset, Dev.reset, []⟩

end Sys2Proof.Machine
end

