-- ==== Sys2Proof/Machine/Store.lean ====
section
/-! DEFINITION. Sparse stores in ONE canonical form: keys strictly rising, and no entry equal to what an unlisted key
reads as. Used for registers, DRAM and SRAM. -/

namespace Sys2Proof.Machine

/-- The value of key `a`: its entry, or the default `d a`. -/
def cellsGet {α : Type} (d : Nat → α) : List (Nat × α) → Nat → α
  | [], a => d a
  | (k, v) :: r, a => if a = k then v else cellsGet d r a

/-- `l`, which does not list key `a`, with `a` listed in its place. -/
def cellsAdd {α : Type} (a : Nat) (v : α) : List (Nat × α) → List (Nat × α)
  | [] => [(a, v)]
  | (k, u) :: r => if a < k then (a, v) :: (k, u) :: r else (k, u) :: cellsAdd a v r

/-- `l` without the entries whose key satisfies `p`: those keys read their default again. -/
def cellsDrop {α : Type} (p : Nat → Bool) (l : List (Nat × α)) : List (Nat × α) := l.filter fun e => !p e.1

/-- `l` with key `a` holding `v`, the canonical form kept: writing the default removes the entry. -/
def cellsPut {α : Type} [DecidableEq α] (d : Nat → α) (l : List (Nat × α)) (a : Nat) (v : α) : List (Nat × α) :=
  let r := cellsDrop (fun k => k == a) l
  if v = d a then r else cellsAdd a v r

/-- Every key of `l` lies above `b`. -/
def cellsAbove {α : Type} (b : Nat) (l : List (Nat × α)) : Bool := l.all fun e => decide (b < e.1)

/-- The canonical form. -/
def cellsWf {α : Type} [DecidableEq α] (d : Nat → α) : List (Nat × α) → Bool
  | [] => true
  | (k, v) :: r => decide (v ≠ d k) && cellsAbove k r && cellsWf d r

end Sys2Proof.Machine
end

