-- ==== Sys2Proof/Machine/Ops.lean ====
section
/-! DEFINITION. The named operations every meaning is written in: reading and writing register fields, counting,
raising a fault and its report, interrupts, events, and the outbox. -/

namespace Sys2Proof.Machine

/-! ### Time -/

/-- Network time in units of 1/16 ns, not wrapped (R123 before its modulus). -/
def t16 (t : Time) : Int := ((t.s * 1000000000 + t.ns) * 16 + t.fr / 2 ^ 28 : Nat)

/-- N16 (R123). -/
def n16 (t : Time) : Nat := (t16 t % (2 ^ 44 : Nat)).toNat

/-- N16 of an unwrapped time. -/
def n16Of (x : Int) : Nat := (x % (2 ^ 44 : Nat)).toNat

/-- The time at `x` sixteenths of a nanosecond, zero before the epoch. -/
def timeOf16 (x : Int) : Time :=
  let n := x.toNat
  ⟨n / 16 / 1000000000 % 2 ^ 48, n / 16 % 1000000000, n % 16 * 2 ^ 28⟩

/-- The unwrapped time nearest `near` whose N16 is `v`: times on the wire are 44 bits (R295). -/
def nearT16 (near : Int) (v : Nat) : Int := near + toSigned 44 (n16Of ((v : Int) - near))

/-- `t` with an increment of `d` units of 2^-32 ns added (R121). -/
def timeAdd (t : Time) (d : Nat) : Time :=
  let f := t.fr + d % 2 ^ 32
  let n := t.ns + d / 2 ^ 32 + f / 2 ^ 32
  ⟨(t.s + n / 1000000000) % 2 ^ 48, n % 1000000000, f % 2 ^ 32⟩

/-- The increment in units of 2^-32 ns (R121). -/
def Tally.inc (t : Tally) : Nat := t.incNs * 2 ^ 32 + t.incFrac

/-- The PLL multiplier in units of 2^-24 for an offset (R133). -/
def pllN (nofs : Int) : Nat := (2 ^ 28 + nofs).toNat

/-- HINC (R140): INC × N for the NOFS last written, F truncated to 32 bits. -/
def Tally.hinc (t : Tally) : Nat := t.inc * pllN (t.pll.target.getD t.pll.inUse) / 2 ^ 24

/-- What a tick adds: INC, or HINC while the gates are closed (R121, R140). -/
def Tally.step (t : Tally) : Nat := if t.pll.closed then t.hinc else t.inc

/-- One Tally tick in 1/16 ns at the nominal increment (2.5 ns). -/
def tick16 : Int := 40

/-! ### Fixed arrays -/

/-- Element `i`, or the default outside the array. -/
def vget {α : Type} [Inhabited α] {n : Nat} (v : Vector α n) (i : Nat) : α := v.toList.getD i default

/-- The array with element `i` changed by `f`; unchanged outside it. -/
def vmod {α : Type} [Inhabited α] {n : Nat} (v : Vector α n) (i : Nat) (f : α → α) : Vector α n :=
  v.setIfInBounds i (f (vget v i))

/-! ### Registers -/

/-- The dword at BAR0 offset `a`, active view. -/
def Work.word (w : Work) (a : Nat) : Word := cellsGet resetWord w.regs a

/-- Store a dword at BAR0 offset `a`, active view. -/
def Work.put (w : Work) (a : Nat) (d : Word) : Work := { w with regs := cellsPut resetWord w.regs a d }

/-- The shadow value kept for active offset `a` (R66, R67). -/
def Work.shWord (w : Work) (a : Nat) : Word := cellsGet resetWord w.shadow a

/-- Store a shadow value for active offset `a`. -/
def Work.shPut (w : Work) (a : Nat) (d : Word) : Work := { w with shadow := cellsPut resetWord w.shadow a d }

/-- Value of a field of page `pg`, element `i`. -/
def Work.rd (w : Work) (pg : Nat) (f : Field) (i : Nat := 0) : Nat := f.get (w.word (pg + f.at i))

/-- Set a field of page `pg`, element `i`. -/
def Work.wr (w : Work) (pg : Nat) (f : Field) (v : Nat) (i : Nat := 0) : Work :=
  w.put (pg + f.at i) (f.set (w.word (pg + f.at i)) v)

/-- A one-bit field, or any nonzero value. -/
def Work.on (w : Work) (pg : Nat) (f : Field) (i : Nat := 0) : Bool := w.rd pg f i != 0

/-- A signed field. -/
def Work.rdS (w : Work) (pg : Nat) (f : Field) (i : Nat := 0) : Int := toSigned f.wid (w.rd pg f i)

/-- Shadow value of an RWS field. -/
def Work.sh (w : Work) (pg : Nat) (f : Field) (i : Nat := 0) : Nat := f.get (w.shWord (pg + f.at i))

/-- The value of a LIVE field as last latched (R33). -/
def Work.live (w : Work) (pg : Nat) (f : Field) (i : Nat := 0) : Nat :=
  f.get (cellsGet resetWord w.latched (pg + f.at i))

/-- Count: a counter saturates at all ones (R7). -/
def Work.count (w : Work) (pg : Nat) (f : Field) (n : Nat := 1) (i : Nat := 0) : Work :=
  w.wr pg f (min (w.rd pg f i + n) f.max) i

/-- Set bit `b` of a flag field. -/
def Work.setBit (w : Work) (pg : Nat) (f : Field) (b : Nat) (i : Nat := 0) : Work :=
  if bitOf (w.rd pg f i) b then w else w.wr pg f (w.rd pg f i + 2 ^ b) i

/-- Clear bit `b` of a field. -/
def Work.clrBit (w : Work) (pg : Nat) (f : Field) (b : Nat) (i : Nat := 0) : Work :=
  if bitOf (w.rd pg f i) b then w.wr pg f (w.rd pg f i - 2 ^ b) i else w

/-- Write bit `b` of a field. -/
def Work.putBit (w : Work) (pg : Nat) (f : Field) (b : Nat) (v : Bool) (i : Nat := 0) : Work :=
  if v then w.setBit pg f b i else w.clrBit pg f b i

/-- Write a time's nanoseconds and low seconds into a pair of registers. -/
def Work.stamp (w : Work) (pg : Nat) (fns fs : Field) (t : Time) : Work := (w.wr pg fns t.ns).wr pg fs t.s

/-- Set STAT.BADVAL of a page (R10, R60). -/
def Work.badval (w : Work) (pg : Nat) : Work := w.wr pg HDR_STAT_BADVAL 1

/-- A host write to RW fields of a page (R64): ignored with LOCK_WR while the page is locked. -/
def Work.unlocked (w : Work) (pg : Nat) (f : Work → Work) : Work :=
  if w.on pg HDR_LOCK_LOCKED then w.wr pg HDR_STAT_LOCK_WR 1 else f w

/-- Apply `f` where `c` holds. -/
def Work.when (w : Work) (c : Bool) (f : Work → Work) : Work := if c then f w else w

/-- Apply `f` for each element of a list, in order. -/
def Work.each {α : Type} (w : Work) (l : List α) (f : Work → α → Work) : Work := l.foldl f w

/-! ### The outbox, interrupts, events -/

/-- Append to what has left the part. -/
def Work.emit (w : Work) (o : Out) : Work := { w with out := w.out ++ [o] }

/-- Raise MSI-X vector `v`. -/
def Work.msix (w : Work) (v : Nat) : Work := w.emit (.msix v)

/-- Replace the events in flight. -/
def Work.setEvents (w : Work) (l : List Event) : Work := { w with events := l }

/-- Replace the Flue reports in flight. -/
def Work.setFlue (w : Work) (l : List InFlight) : Work := { w with flue := l }

/-- Replace the FATAL lines in flight. -/
def Work.setLines (w : Work) (l : List Report) : Work := { w with lines := l }

/-- An event takes effect and sets out for the posting engine (R441). -/
def Work.event (w : Work) (cls pg : Nat) (payload : List Nat) : Work :=
  w.setEvents (w.events ++ [⟨cls, pg / 0x1000, payload.map (BitVec.ofNat 32)⟩])

/-! ### Faults and the Flue -/

/-- Class codes of the Ash record and the FLUE packet (R402, R440). -/
def classCode : FaultClass → Nat
  | .ce => 1 | .uc => 2 | .fatal => 3

/-- The page of a collector and its base offset there (R383). -/
def collAt : Coll → Nat
  | .cluster c => pgCLU c + 0x100
  | .region n => pgRG n + 0x200
  | .cd d => pgPKG + 0x200 + 0x18 * d
  | .hb => pgPKG + 0x230
  | .ht => pgPKG + 0x248
  | .package => pgPKG + 0x260
  | .hearth => pgHRT

/-- The next collector up and the child index there (R383); the package collector reports to the Hearth. -/
def collParent : Coll → Option (Coll × Nat)
  | .cluster c => some (.region ⟨c / 12, by omega⟩, c % 12)
  | .region n => some (.cd ⟨n / 2, by omega⟩, n % 2)
  | .cd d => some (.package, d)
  | .hb => some (.package, 2)
  | .ht => some (.package, 3)
  | .package => some (.hearth, 0)
  | .hearth => none

/-- Where the FLT of the page at offset `pg` reports: collector and child index (R383). SP and CLAIM-like pages with no
index of their own answer none. PKG FLT reports to the package collector, except the stalls and the other faults of a
die's infrastructure, which the raiser sends to the die (R105, R383). -/
def fltColl (pg : Nat) : Option (Coll × Nat) :=
  match pageOf pg with
  | some (.unit, u) => some (.cluster ⟨u / 4 % 48, by omega⟩, u % 4)
  | some (.clu, c) => some (.cluster ⟨c % 48, by omega⟩, 4)
  | some (.clane, c) => some (.cluster ⟨c % 48, by omega⟩, 5)
  | some (.rg, n) => some (.region ⟨n % 4, by omega⟩, 12)
  | some (.abc, n) => some (.region ⟨n % 4, by omega⟩, 13)
  | some (.tally, _) => some (.hb, 0)
  | some (.spll, _) => some (.hb, 1)
  | some (.host, _) => some (.hb, 2)
  | some (.twin, _) => some (.hb, 3)
  | some (.sysn, _) => some (.hb, 4)
  | some (.eq, q) => some (.hb, 5 + q)
  | some (.recorder, _) => some (.hb, 13)
  | some (.eth, p) => some (.hb, 14 + p)
  | some (.therm, _) => some (.hb, 16)
  | some (.bist, _) => some (.hb, 17)
  | some (.cstore, _) => some (.hb, 18)
  | some (.sec, _) => some (.hb, 19)
  | some (.claim, _) => some (.hb, 20)
  | some (.ad, _) => some (.hb, 21)
  | some (.wc, _) => some (.hb, 22)
  | some (.emb, _) => some (.hb, 23)
  | some (.hrt, _) => some (.ht, 0)
  | some (.hrt1, _) => some (.ht, 0)
  | some (.hrt2, _) => some (.ht, 0)
  | some (.pkg, _) => some (.package, 4)
  | some (.sp, _) => none
  | none => none

/-- SRCLVL of an Ash record or FLUE packet: 1 unit, 2 cluster, 3 region, 4 die, 5 package, 6 Hearth (R402). -/
def srcLevel (pageIdx : Nat) : Nat :=
  match pageOf (pageIdx * 0x1000) with
  | some (.unit, _) => 1
  | some (.clu, _) | some (.clane, _) => 2
  | some (.rg, _) | some (.abc, _) | some (.sp, _) => 3
  | some (.pkg, _) => 5
  | some (.hrt, _) | some (.hrt1, _) | some (.hrt2, _) => 6
  | _ => 4

/-- FLTMASK of the page masks the class (R62); FATAL has no mask. -/
def Work.fltMasked (w : Work) (pg : Nat) : FaultClass → Bool
  | .ce => w.on pg HDR_FLTMASK_CE_MASK
  | .uc => w.on pg HDR_FLTMASK_UC_MASK
  | .fatal => false

/-- The class flag of FLT. -/
def clsField : FaultClass → Field
  | .ce => HDR_FLT_CE | .uc => HDR_FLT_UC | .fatal => HDR_FLT_FATAL

/-- Raise a fault on page `pg`, reporting to collector `to`: the class flag and cause bit are set (R61), an unmasked new
fault raises the page's interrupt (R59), one report leaves for the collector unless the class is masked (R62, R383,
R384), and a FATAL also drives its line to the Hearth (R386). -/
def Work.fltTo (w : Work) (pg : Nat) (cls : FaultClass) (bit : Nat) (dst : Option (Coll × Nat)) (info : Word := 0) : Work :=
  let fresh := !w.on pg (clsField cls) || !bitOf (w.rd pg HDR_FLT_CAUSE) (bit - 16)
  let masked := w.fltMasked pg cls
  let rep : Report := ⟨cls, pg / 0x1000, bit, info⟩
  let w := (w.wr pg (clsField cls) 1).setBit pg HDR_FLT_CAUSE (bit - 16)
  let w := w.when (fresh && !masked && w.on pg HDR_CTL_IRQ_EN) fun w => w.msix (w.rd pg HDR_CTL_VEC)
  let w := match dst with
    | some (c, i) => if masked then w else w.setFlue (w.flue ++ [⟨c, i, rep⟩])
    | none => w
  if cls = .fatal then w.setLines (w.lines ++ [rep]) else w

/-- Raise a fault on the page that owns the checker (R383). -/
def Work.flt (w : Work) (pg : Nat) (cls : FaultClass) (bit : Nat) (info : Word := 0) : Work :=
  w.fltTo pg cls bit (fltColl pg) info

/-! ### Fault injection (R63, R399) -/

/-- An injection is armed for checker `chk` of the page. -/
def Work.armedFor (w : Work) (pg chk : Nat) : Bool := w.on pg HDR_INJ_ARMED && w.rd pg HDR_INJ_CHK == chk

/-- The injection is made at this check (R399): ARMED clears; the expected syndrome sets HIT, any other is counted in
INJMISS_COUNT and handled as real by the caller. -/
def Work.injDone (w : Work) (pg : Nat) (hit : Bool) : Work :=
  let w := w.wr pg HDR_INJ_ARMED 0
  if hit then w.wr pg HDR_INJ_HIT 1 else w.count pgHRT HRT_INJMISS_COUNT

/-- The SECDED outcome an injection turns `e` into, and the state after it: a clean word shows the expected syndrome, is
used as it is and sets HIT; a word with a real error shows two and is uncorrectable (R399, R400). -/
def Work.injEcc (w : Work) (pg chk : Nat) (e : Ecc) : Work × Ecc :=
  if w.armedFor pg chk then
    match e with
    | .ok => (w.injDone pg true, .ok)
    | .single | .double => (w.injDone pg false, .double)
  else (w, e)

/-! ### Objects -/

def Work.rg (w : Work) (n : Nat) : Region := vget w.rgn n
def Work.modRg (w : Work) (n : Nat) (f : Region → Region) : Work := { w with rgn := vmod w.rgn n f }
def Work.cl (w : Work) (c : Nat) : Cluster := vget w.clu c
def Work.modCl (w : Work) (c : Nat) (f : Cluster → Cluster) : Work := { w with clu := vmod w.clu c f }
def Work.un (w : Work) (u : Nat) : LegUnit := vget w.unit u
def Work.modUn (w : Work) (u : Nat) (f : LegUnit → LegUnit) : Work := { w with unit := vmod w.unit u f }
def Work.ln (w : Work) (c : Nat) : Lane := vget w.lane c
def Work.modLn (w : Work) (c : Nat) (f : Lane → Lane) : Work := { w with lane := vmod w.lane c f }
/-- Replace the lanes' state. -/
def Work.setLanes (w : Work) (l : Vector Lane 48) : Work := { w with lane := l }
def Work.modSl (w : Work) (l : Nat) (f : SysLane → SysLane) : Work := { w with sl := vmod w.sl l f }
def Work.sln (w : Work) (l : Nat) : SysLane := vget w.sl l
def Work.modAdc (w : Work) (a : Nat) (f : Adc → Adc) : Work := { w with adc := vmod w.adc a f }
def Work.ad (w : Work) (a : Nat) : Adc := vget w.adc a
def Work.setAin (w : Work) (k : Nat) (v : Rat) : Work := { w with ain := w.ain.setIfInBounds k v }
def Work.modNet (w : Work) (f : NetSt → NetSt) : Work := { w with net := f w.net }
def Work.modHearth (w : Work) (f : HearthSt → HearthSt) : Work := { w with hearth := f w.hearth }
def Work.modTwin (w : Work) (f : TwinSt → TwinSt) : Work := { w with twin := f w.twin }
def Work.twinRg (w : Work) (n : Nat) : TwinRg := vget w.twin.rg n
def Work.modTwinRg (w : Work) (n : Nat) (f : TwinRg → TwinRg) : Work := w.modTwin fun t => { t with rg := vmod t.rg n f }
def Work.modChop (w : Work) (n : Nat) (f : ChopSt → ChopSt) : Work := { w with chop := vmod w.chop n f }
def Work.chp (w : Work) (n : Nat) : ChopSt := vget w.chop n
def Work.modKin (w : Work) (f : KinSt → KinSt) : Work := { w with kin := f w.kin }
def Work.modEmber (w : Work) (f : EmberSt → EmberSt) : Work := { w with ember := f w.ember }
def Work.modTherm (w : Work) (f : ThermSt → ThermSt) : Work := { w with therm := f w.therm }
def Work.modSec (w : Work) (f : SecSt → SecSt) : Work := { w with sec := f w.sec }

def Work.modSwap (w : Work) (f : SwapSt → SwapSt) : Work := { w with swap := f w.swap }
def Work.modTout (w : Work) (m : Nat) (f : Tout → Tout) : Work := { w with tout := vmod w.tout m f }
def Work.setCap (w : Work) (k : Nat) (r : Option CapRec) : Work := { w with cap := w.cap.setIfInBounds k r }
def Work.modEthRx (w : Work) (p : Nat) (f : List PtpTs → List PtpTs) : Work := { w with ethRx := vmod w.ethRx p f }
def Work.modEthTx (w : Work) (p : Nat) (f : List PtpTs → List PtpTs) : Work := { w with ethTx := vmod w.ethTx p f }
def Work.modQ (w : Work) (q : Nat) (f : EqQ → EqQ) : Work := { w with eq := vmod w.eq q f }
def Work.modRec (w : Work) (f : RecSt → RecSt) : Work := { w with recd := f w.recd }

/-- The LIVE view of offset `a` takes its present value (R33). -/
def Work.latch (w : Work) (a : Nat) : Work := { w with latched := cellsPut resetWord w.latched a (w.word a) }

/-- The registers and window dwords at the offsets that satisfy `p` return to their reset values. -/
def Work.dropRegs (w : Work) (p : Nat → Bool) : Work := { w with regs := cellsDrop p w.regs }

/-- The same of the shadow set. -/
def Work.dropShadow (w : Work) (p : Nat → Bool) : Work := { w with shadow := cellsDrop p w.shadow }

/-- The same of the latched LIVE values. -/
def Work.dropLatched (w : Work) (p : Nat → Bool) : Work := { w with latched := cellsDrop p w.latched }

/-- `n` free values have been used. -/
def Work.useFree (w : Work) (n : Nat) : Work := { w with freeCtr := w.freeCtr + n }

/-- The twin role: 0 SOLO, 1 STANDBY, 2 ACTIVE (R412, R436). -/
def Work.role (w : Work) : Nat := w.rd pgTWIN TWIN_TSTAT_ROLE

/-- A fresh free dword. -/
def Work.freshWord (w : Work) : Work × Word := (w.useFree 1, Config.freeWord w.freeCtr)

/-- The numbers below `n`. -/
def upto (n : Nat) : List Nat := List.range n

/-- The clusters of region `n` (R5). -/
def clustersOf (n : Nat) : List Nat := (upto 12).map fun i => 12 * n + i

/-- The units of cluster `c` (R5). -/
def unitsOf (c : Nat) : List Nat := (upto 4).map fun i => 4 * c + i

/-! ### Bytes -/

/-- The four bytes of a dword, least significant first. -/
def wordBytes (d : Word) : List Byte := [d.extractLsb' 0 8, d.extractLsb' 8 8, d.extractLsb' 16 8, d.extractLsb' 24 8]

/-- The dwords of a byte string, least significant byte first; a short tail is filled with 0. -/
def bytesWords : List Byte → List Word
  | a :: b :: c :: d :: r => (d ++ c ++ b ++ a) :: bytesWords r
  | [] => []
  | [a] => [a.setWidth 32]
  | [a, b] => [(b ++ a).setWidth 32]
  | [a, b, c] => [(c ++ b ++ a).setWidth 32]

/-- What an unwritten byte of DRAM or SRAM reads as (log entry 4). -/
def byte0 (_ : Nat) : Byte := 0

/-- `n` bytes of DRAM from BAR2 offset `a` (R50). -/
def Work.dramBytes (w : Work) (a n : Nat) : List Byte := (upto n).map fun i => cellsGet byte0 w.dram (a + i)

/-- Bytes per word of the memory that ECC_LAST.MEM codes as `m` (R411). -/
def memStep (m : Nat) : Nat := if m = 6 then 8 else 4

/-- Word `k` of memory `m` is marked bad (R388). -/
def Work.markBad (w : Work) (m k : Nat) : Work :=
  { w with bad := if w.bad.contains (m, k) then w.bad else w.bad ++ [(m, k)] }

/-- A word of memory `m` marked bad lies among the `n` bytes from offset `a`. -/
def Work.badIn (w : Work) (m a n : Nat) : Bool :=
  w.bad.any fun e => e.1 == m && decide (e.2 * memStep m < a + n) && decide (a < (e.2 + 1) * memStep m)

/-- A word written whole is good again. -/
def badLeft (l : List (Nat × Nat)) (m a n : Nat) : List (Nat × Nat) :=
  l.filter fun e => !(e.1 == m && decide (a ≤ e.2 * memStep m) && decide ((e.2 + 1) * memStep m ≤ a + n))

/-- Store bytes in DRAM from BAR2 offset `a`. -/
def Work.dramPut (w : Work) (a : Nat) (bs : List Byte) : Work :=
  { w with dram := (bs.zipIdx a).foldl (fun m e => cellsPut byte0 m e.2 e.1) w.dram, bad := badLeft w.bad 6 a bs.length }

/-- The bytes of hub SRAM whose contents are published: the recorder's index and the Ash copies (R452, R453). -/
def published (off : Nat) : Bool := decide (0x740000 ≤ off) && decide (off < 0x74C000)

/-- BAR4 offset of the hub SRAM (R49). -/
def hubSram : Nat := 0x500000

/-- Store dwords in the published areas of hub SRAM from BAR4 offset `a` (R452, R453). -/
def Work.sramPut (w : Work) (a : Nat) (ds : List Word) : Work :=
  { w with sram := ((ds.flatMap wordBytes).zipIdx a).foldl (fun m e => cellsPut byte0 m e.2 e.1) w.sram,
           bad := badLeft w.bad 4 (a - hubSram) (4 * ds.length) }

/-! ### Running a device operation as a command -/

/-- The device as the command sees it. -/
def State.work (s : State) : Work := { s.dev with now := s.tally.a, up := s.tally.elapsed, inc := s.tally.step }

/-- A command that changes the device alone: the Tally and the queue stand. -/
def State.onDev (s : State) (f : Work → Work) : State := { s with dev := (f s.work).toDev }

/-- The outcome of a command that changes the device alone. -/
def nextDev (s : State) (f : Work → Work) : Host.Outcome State Fault Refusal := .next (s.onDev f)

end Sys2Proof.Machine
end

