-- ==== Sys2Proof/Machine/Fence.lean ====
section
/-! DEFINITION. What stands between a host access and its block: the fences (R107 to R116) and the Damper's throttle gate
(R104, R117, R118). -/

namespace Sys2Proof.Machine

/-! ### Fences (R107 to R116, R515, R521) -/

/-- Region `n` is fenced (R107). -/
def Work.rgFenced (w : Work) (n : Nat) : Bool := bitOf (w.rd pgPKG PKG_FENCE_STAT) n

/-- Region `n` runs BIST. -/
def Work.bistRun (w : Work) (n : Nat) : Bool := bitOf (w.rd pgBIST BIST_BSTAT_RUN) n

/-- Region `n` is marked UNUSABLE (R515): the mark lies in the Ember domain. -/
def Work.marked (w : Work) (n : Nat) : Bool := bitOf w.ember.marks n

/-- Offset `a` lies in a page header or its mirror (R55). -/
def inHeader (a : Nat) : Bool := (pageOf a).isSome && (decide (a % 0x1000 < 0x40) || (decide (0x800 ≤ a % 0x1000) && decide (a % 0x1000 < 0x840)))

/-- Kindling has not yet loaded the block of offset `a` (R488): from step 5 PKG, HOST and the Hearth pages are served; a
marked region's fence serves its headers (R515). -/
def Work.unkindled (w : Work) (a : Nat) : Bool :=
  let page := a / 0x1000 * 0x1000
  if w.on pgPKG PKG_KSTAT_DONE then false
  else if a < 0x1000000 then
    decide (w.rd pgPKG PKG_KSTAT_STEP < 10) && page != pgPKG && page != pgHOST && page != pgHRT && page != pgHRT1 && page != pgHRT2
  else decide (w.rd pgPKG PKG_KSTAT_STEP < 11) && !w.marked ((a - 0x1000000) / 0x400000)

/-- The fence of a block of BAR0 (R107): 0 to 3 the regions, 6 the hub. -/
def fenceOf (a : Nat) : Nat := if a < 0x1000000 then 6 else (a - 0x1000000) / 0x400000

/-- The fence that answers an access to BAR0 offset `a`, if one does: its identifier, and whether its status is BUSY (true)
or WITHDRAWN (R108, R110, R113, R488, R515, R520, R521); `write` says that the access is a write. -/
def Work.gate (w : Work) (a : Nat) (write : Bool) : Option (Nat × Bool) :=
  let page := a / 0x1000 * 0x1000
  let header := inHeader a && !write
  let bist := page == pgBIST
  if w.unkindled a then some (fenceOf a, false)
  else if w.on pgBIST BIST_BSTAT_LEND then
    if bist || (page == pgPKG && (inHeader a || a == pgPKG + PKG_KSTAT_DONE.off)) then none
    else some (if bitOf (w.rd pgPKG PKG_FENCE_STAT) 6 then 6 else 7, false)
  else if w.on pgBIST BIST_BSTAT_HUB_RUN then
    if bist || page == pgHOST || (page == pgPKG && inHeader a) || header then none else some (6, true)
  else if w.on pgBIST BIST_BSTAT_HRT_RUN && (page == pgHRT || page == pgHRT1 || page == pgHRT2) then
    if header then none else some (7, true)
  else if 0x1000000 ≤ a then
    let n := (a - 0x1000000) / 0x400000
    if w.rgFenced n && !header then some (n, !bitOf w.kin.resets n && (w.bistRun n || w.marked n)) else none
  else none

/-- A request completes BUSY or WITHDRAWN and is counted (R113, R116). -/
def Work.fenceCount (w : Work) (busy : Bool) : Work := w.count pgPKG (if busy then PKG_BUSY_COUNT else PKG_WDRN_COUNT)

/-- A host access ends with BUSY or WITHDRAWN at a fence (R113 to R115): counted, and the first since both flags were zero is
recorded. -/
def Work.fabErr (w : Work) (fence : Nat) (busy write : Bool) (off : Nat) : Work :=
  let w := w.fenceCount busy
  if w.on pgHOST HOST_FAB_ERR_BUSY || w.on pgHOST HOST_FAB_ERR_WITHDRAWN then w
  else
    let w := (w.wr pgHOST HOST_FAB_ERR_WRITE (b2n write)).wr pgHOST HOST_FAB_ERR_FENCE fence
    (w.wr pgHOST HOST_FAB_ERR_OFFSET off).wr pgHOST (if busy then HOST_FAB_ERR_BUSY else HOST_FAB_ERR_WITHDRAWN) 1

/-- A data transfer or a reply meets a raised fence: acknowledged, discarded and counted (R108, R111). -/
def Work.discard (w : Work) : Work := w.count pgPKG PKG_DISC_COUNT

/-! ### The throttle gate (R104, R117, R118) -/

/-- A throttled request that reaches the closed gate waits there (R104). -/
def Work.hold (w : Work) (c : Instr) : Work := { w with held := w.held ++ [c] }

/-- The gate closes or opens. -/
def Work.setShut (w : Work) (b : Bool) : Work := { w with shut := b }

/-- The requests at the gate are taken from it. -/
def Work.dropHeld (w : Work) : Work := { w with held := [] }

/-- The throttled step `f`, which the command `c` stands for: made now, or held until the gate opens. -/
def Work.throttle (w : Work) (c : Instr) (f : Work → Work) : Work := if w.shut then w.hold c else f w

/-- A host write at BAR0 offset `a` that the gate has let through: a fence drops it (R113), or it acts as `f`. -/
def Work.reach (w : Work) (a : Nat) (f : Work → Work) : Work :=
  match w.gate a true with
  | some (x, busy) => w.fabErr x busy true a
  | none => f w

/-- The host's write at BAR0 offset `a`, which the command `c` stands for: the gate holds it (R118), a fence drops it (R113), or
it acts as `f`. -/
def Work.hostAct (w : Work) (c : Instr) (a : Nat) (f : Work → Work) : Work := w.throttle c fun w => w.reach a f

/-- The host's read of one dword at BAR0 offset `a`: held, answered by a fence with a bus error (R114), or as `f` answers it. -/
def Work.hostGet (w : Work) (c : Instr) (a : Nat) (f : Work → Work) : Work :=
  w.throttle c fun w =>
    match w.gate a false with
    | some (x, busy) => (w.fabErr x busy false a).emit (.hostRead [0] true)
    | none => f w

/-- A throttled step that reaches beyond the device (the Tally, resets). -/
def State.throttle (s : State) (c : Instr) (f : State → State) : State := if s.work.shut then s.onDev fun w => w.hold c else f s

/-- A host write that reaches beyond the device. -/
def State.hostAct (s : State) (c : Instr) (a : Nat) (f : State → State) : State :=
  s.throttle c fun s =>
    match s.work.gate a true with
    | some (x, busy) => s.onDev fun w => w.fabErr x busy true a
    | none => f s

end Sys2Proof.Machine
end

