-- ==== Sys2Proof/Machine/Recorder.lean ====
section
/-! DEFINITION. The recorder (R450 to R457): descriptors, frames, index entries, states and triggers, and its commands. -/

namespace Sys2Proof.Machine

/-- A 32-bit value from a number. -/
def w32 (n : Nat) : Word := BitVec.ofNat 32 n

/-- The edge-scheduler states and trip counters of a UNIT page (R242, R377). -/
def sealedUnit : List Field :=
  [UNIT_PH_NOW, UNIT_DT_NOW_HL, UNIT_DT_NOW_LH, UNIT_PROF_NOW_ON, UNIT_PROF_NOW_OFF, UNIT_ESTAT_DTS_HL, UNIT_ESTAT_DTS_LH,
   UNIT_ESTAT_PHASE_MOVED, UNIT_ESTAT_PER_CLAMP, UNIT_ESTAT_DUTY_CLAMP, UNIT_ESTAT_SLOT_CLAMP, UNIT_ESTAT_REFRESHED,
   UNIT_ESTAT_STRETCHED, UNIT_ESTAT_DROPPED, UNIT_ESTAT_ILK, UNIT_ILK_COUNT, UNIT_DROP_COUNT, UNIT_STRETCH_COUNT,
   UNIT_REFR_COUNT, UNIT_DTS_COUNT, UNIT_EDGE_COUNT, UNIT_TSTAT_DT, UNIT_TSTAT_OFFST, UNIT_TSTAT_WIN_CNT, UNIT_TRIP_COUNT,
   UNIT_LATCH_COUNT, UNIT_TRIP_T_NS]

/-- The bits of BAR0 dword `a` that show edge-scheduler states and trip counters, which SEAL commits (R29): those of the
UNIT pages. -/
def sealedMask (a : Nat) : Word :=
  match pageOf a with
  | some (.unit, _) => sealedUnit.foldl (fun m f => if f.at 0 = a % 0x1000 then m ||| f.mask else m) 0
  | _ => 0

/-- What a SEAL of region `n` fixes of the dwords that change within a cycle: input slots, their status and SLACK (R451), and
the states that SEAL commits (R29). -/
def Work.sealView (w : Work) (n : Nat) : Work :=
  w.modRg n fun r => { r with sealed := w.regs.filter fun e =>
    (decide (slotAddr n 0 ≤ e.1) && decide (e.1 < slotAddr n 0 + 0x2000)) || e.1 == pgABC n + ABC_SLACK_TICKS.at 0 ||
    (decide (rgBase n ≤ e.1) && decide (e.1 < rgBase n + 0x400000) && sealedMask e.1 != 0) }

/-- Sources of a kind (R162, R177, R450). -/
def recRange (k : Nat) : Nat :=
  match k with
  | 0 | 1 => 1024 | 2 => 512 | 3 => 2048 | 4 => 64 | 5 => 1 | _ => 0

/-- Value `i` of source kind `k` in region `n`, as sealed at the region's latest SEAL (R450, R451). START + COUNT must lie within
the kind's range: beyond it the value is free (log entry 180). -/
def Work.recValue (w : Work) (k n i : Nat) : Word :=
  let kept (a : Nat) : Word := cellsGet resetWord (w.rg n).sealed a
  if recRange k ≤ i then Config.recBeyond w.up k n i
  else if k = 0 then kept (slotAddr n i)
  else if k = 1 then kept (slotStatAddr n i)
  else if k = 2 then w.word (outSlotAddr n i)
  else if k = 3 then w.word (stateWordAddr n i)
  else if k = 4 then BitVec.ofInt 32 (vget (w.rg n).sp i).out
  else kept (pgABC n + ABC_SLACK_TICKS.at 0)

/-- The bytes descriptor `d` records. -/
def Work.recDesc (w : Work) (d : Nat) : List (List Byte) :=
  if w.on pgREC REC_DESC_EN d then
    (upto (w.rd pgREC REC_DESC_COUNT d + 1)).map fun j =>
      let v := w.recValue (w.rd pgREC REC_DESC_KIND d) (w.rd pgREC REC_DESC_RG d) (w.rd pgREC REC_DESC_START d + j)
      if w.on pgREC REC_DESC_W16 d then (wordBytes v).drop 2 else wordBytes v
  else []

/-- The bytes of the values that fit in a frame, in order, and whether one did not. -/
def fitFrame : List (List Byte) → Nat → List Byte × Bool
  | [], _ => ([], false)
  | v :: r, room => if v.length ≤ room then let q := fitFrame r (room - v.length); (v ++ q.1, q.2) else ([], true)

/-- Size rounded up to a multiple of 8. -/
def up8 (n : Nat) : Nat := (n + 7) / 8 * 8

/-- One frame of the values in force, filled to a multiple of 8, and whether it was cut (R450). -/
def Work.recFrame (w : Work) : List Byte × Bool :=
  let q := fitFrame ((upto 32).flatMap w.recDesc) 16384
  (q.1 ++ List.replicate (up8 q.1.length - q.1.length) 0, q.2)

/-- Frames the ring holds (R452). -/
def Work.recK (w : Work) : Nat := w.rd pgREC REC_RING_SIZE * 65536 / w.rd pgREC REC_FSIZE

/-- The decimation exponent in force (R451). -/
def Work.recDec (w : Work) : Nat := if w.rd pgREC REC_RSTAT_STATE = 2 then w.rd pgREC REC_RCFG_DEC_POST else w.rd pgREC REC_RCFG_DEC

/-- Write an index entry of kind `k` for frame `i`, at boundary time `b` of the clocking region (R452). -/
def Work.recIndex (w : Work) (k i : Nat) (b : Int) : Work :=
  let n := w.rd pgREC REC_IDX_SEQ + 1
  let t := timeOf16 b
  let w := w.sramPut (0x740000 + 32 * ((n - 1) % 1024))
    [w32 n, w32 i, w.word (pgRG (w.rd pgREC REC_RCFG_RGCLK) + RG_CYC_COUNT.off), w32 t.ns, w32 t.s,
     w32 (k * 2 ^ 28 + w.recDec * 2 ^ 24 + min w.recd.drops 0xFFFFFF), w32 (w.rd pgREC REC_FSIZE), 0]
  (w.wr pgREC REC_IDX_SEQ n).modRec fun r => { r with drops := 0 }

/-- Time of the latest boundary of the clocking region. -/
def Work.recT0 (w : Work) : Int := (w.rg (w.rd pgREC REC_RCFG_RGCLK)).t0

/-- A change of recorder state posts a REC packet (R440, R454). -/
def Work.recState (w : Work) (st : Nat) : Work :=
  let old := w.rd pgREC REC_RSTAT_STATE
  let w := w.wr pgREC REC_RSTAT_STATE st
  w.when (old != st) fun w => w.event 8 pgREC [st + w.rd pgREC REC_RSTAT_FCAUSE * 16 + w.rd pgREC REC_RSTAT_TLINE * 256]

/-- Enter ARMED with frame numbering at 0 (R454). -/
def Work.recArm (w : Work) : Work :=
  let w := (w.modRec fun r => { r with seals := 0, start := true, gap := false, drops := 0 })
  let w := (w.wr pgREC REC_WFRAME 0).wr pgREC REC_RSTAT_WRAPPED 0
  let w := w.wr pgREC REC_FSIZE w.recFrame.1.length
  w.recState 1

/-- Freeze with cause `fc` from ARMED or POST (R454). -/
def Work.recFreeze (w : Work) (fc : Nat) : Work :=
  if w.rd pgREC REC_RSTAT_STATE = 1 ∨ w.rd pgREC REC_RSTAT_STATE = 2 then
    let w := w.recIndex 6 (w.rd pgREC REC_WFRAME - 1) w.recT0
    (w.wr pgREC REC_RSTAT_FCAUSE fc).recState 3
  else w

/-- A trigger by line `k`, or by the host (R454, R455, R457). -/
def Work.recTrigger (w : Work) (k : Nat) (host : Bool) : Work :=
  let st := w.rd pgREC REC_RSTAT_STATE
  if st = 1 then
    let w := (w.wr pgREC REC_RSTAT_TLINE (if host then 0 else k)).wr pgREC REC_RSTAT_TRG_HOST (b2n host)
    let w := (w.wr pgREC REC_TFRAME (w.rd pgREC REC_WFRAME)).stamp pgREC REC_TRG_T_NS REC_TRG_T_S w.now
    let decChange := w.rd pgREC REC_RCFG_DEC_POST != w.rd pgREC REC_RCFG_DEC
    let w := (w.modRec fun r => { r with postLeft := w.rd pgREC REC_RPOST, seals := 0 })
    let w := (w.recState 2).recIndex 4 (w.rd pgREC REC_WFRAME) w.recT0
    let w := w.when decChange fun w => w.recIndex 5 (w.rd pgREC REC_WFRAME) w.recT0
    w.when (w.recd.postLeft == 0) fun w => w.recFreeze 1
  else if st = 2 ∧ w.rd pgREC REC_TRG_T_NS = w.now.ns ∧ w.rd pgREC REC_TRG_T_S = w.now.s % 2 ^ 32 ∧
      w.recd.postLeft = w.rd pgREC REC_RPOST ∧ ¬ w.on pgREC REC_RSTAT_TRG_HOST ∧ ¬ host then
    w.wr pgREC REC_RSTAT_TLINE (min k (w.rd pgREC REC_RSTAT_TLINE))
  else if st = 2 ∨ st = 3 then w.count pgREC REC_TRGLATE_COUNT
  else w

/-- The enabled trigger lines of source `src` whose SEL satisfies `p` fire; the lowest is the trigger (R455, R457). -/
def Work.recSource (w : Work) (src : Nat) (p : Nat → Bool) : Work :=
  match (upto 16).find? fun k => w.on pgREC REC_TRG_CFG_EN k && w.rd pgREC REC_TRG_CFG_SRC k == src &&
      p (w.rd pgREC REC_TRG_CFG_SEL k) with
  | some k => w.recTrigger k false
  | none => w

/-- The staged bytes. -/
def Work.recStaged (w : Work) : Nat := (w.recd.staged.map fun f => f.2.length).sum

/-- Stage a frame at the clocking region's SEAL at boundary time `b`, or drop it (R451). -/
def Work.recCapture (w : Work) (b : Int) : Work :=
  let q := w.recFrame
  if w.recStaged + q.1.length > 208 * 1024 then
    let w := (w.modRec fun r => { r with gap := true, drops := r.drops + 1 })
    ((w.count pgREC REC_DROP_COUNT).wr pgREC REC_RSTAT_DROPPED 1).flt pgREC .ce 16
  else
    let i := w.rd pgREC REC_WFRAME
    let w := w.when q.2 fun w => w.wr pgREC REC_RSTAT_TRUNC 1
    let w := w.when w.recd.gap fun w => (w.recIndex 3 i b).modRec fun r => { r with gap := false }
    let w : Work := if w.recd.start then (w.recIndex 1 i b).modRec fun r => { r with start := false }
      else if i % 4096 = 0 then w.recIndex 2 i b else w
    let addr := w.rd pgREC REC_RING_BASE * 65536 + i % w.recK * w.rd pgREC REC_FSIZE
    let w := (w.modRec fun r => { r with staged := r.staged ++ [(addr, q.1)] })
    let w := w.wr pgREC REC_WFRAME (i + 1)
    let w := w.when (decide (w.recK < i + 1)) fun w => w.wr pgREC REC_RSTAT_WRAPPED 1
    if w.rd pgREC REC_RSTAT_STATE = 2 then
      let w := (w.modRec fun r => { r with postLeft := r.postLeft - 1 })
      w.when (w.recd.postLeft == 0) fun w => w.recFreeze 1
    else w

/-- What the recorder does at a SEAL of region `n` at boundary time `b` (R451). -/
def Work.recSeal (w : Work) (n : Nat) (b : Int) : Work :=
  let st := w.rd pgREC REC_RSTAT_STATE
  if w.rd pgREC REC_RCFG_RGCLK = n ∧ (st = 1 ∨ st = 2) then
    let c := w.recd.seals + 1
    if w.recd.start ∨ 2 ^ w.recDec ≤ c then (w.modRec fun r => { r with seals := 0 }).recCapture b
    else (w.modRec fun r => { r with seals := c })
  else w

/-- A fence of the clocking region leaves a gap (R457). -/
def Work.recFenced (w : Work) (n : Nat) : Work :=
  if w.rd pgREC REC_RCFG_RGCLK = n then (w.modRec fun r => { r with gap := true }) else w

/-- A swap that changes the recorder's configuration restarts it in ARMED (R457). -/
def Work.recRestart (w : Work) : Work := if w.on pgREC REC_RCTL_EN then w.recArm else w

/-! ### Commands -/

/-- RCTL.EN written 1 (R454): OFF to ARMED; with no ring the write is ignored with BADVAL (R456). -/
def Work.recEnable (w : Work) : Work :=
  if w.rd pgREC REC_RING_SIZE = 0 then w.badval pgREC
  else
    let w := w.wr pgREC REC_RCTL_EN 1
    if w.rd pgREC REC_RSTAT_STATE = 0 then w.recArm else w

/-- RCTL.EN written 0 (R454). -/
def Work.recDisable (w : Work) : Work :=
  let w := w.wr pgREC REC_RCTL_EN 0
  if w.rd pgREC REC_RSTAT_STATE = 0 then w else w.recState 0

/-- RCTL.REARM (R454). -/
def Work.recRearm (w : Work) : Work := if w.rd pgREC REC_RSTAT_STATE = 3 then w.recArm else w

/-- BAR0 offset of RCTL. -/
def rctlAddr : Nat := pgREC + REC_RCTL_EN.off

/-- RECORDER_FRAME_WRITE (R117, R451): the oldest staged frame reaches the DRAM ring. -/
def execRecorderFrameWrite (s : State) : Host.Outcome State Fault Refusal :=
  nextDev s fun w => w.throttle .recorderFrameWrite fun w =>
    match w.recd.staged with
    | [] => w
    | (a, bs) :: r => (w.dramPut a bs).modRec fun k => { k with staged := r }

/-- REC_ENABLE (R454). -/
def execRecEnable (s : State) : Host.Outcome State Fault Refusal := nextDev s fun w => w.hostAct .recEnable rctlAddr fun w => w.unlocked pgREC Work.recEnable

/-- REC_DISABLE (R454). -/
def execRecDisable (s : State) : Host.Outcome State Fault Refusal := nextDev s fun w => w.hostAct .recDisable rctlAddr fun w => w.unlocked pgREC Work.recDisable

/-- REC_STOP (R454). -/
def execRecStop (s : State) : Host.Outcome State Fault Refusal := nextDev s fun w => w.hostAct .recStop rctlAddr fun w => w.recFreeze 2

/-- REC_REARM (R454). -/
def execRecRearm (s : State) : Host.Outcome State Fault Refusal := nextDev s fun w => w.hostAct .recRearm rctlAddr Work.recRearm

/-- REC_TRIG (R455). -/
def execRecTrig (s : State) : Host.Outcome State Fault Refusal := nextDev s fun w => w.hostAct .recTrig rctlAddr fun w => w.recTrigger 0 true

/-- ASH_COPY (R453): the oldest Ash record not yet copied is copied into hub SRAM. -/
def execAshCopy (s : State) : Host.Outcome State Fault Refusal :=
  nextDev s fun w =>
    match w.recd.ash with
    | [] => w
    | (sq, ds) :: r =>
      let w := w.sramPut (0x748000 + 32 * ((sq - 1) % 512)) (ds ++ [0, 0])
      (w.wr pgREC REC_ASH_COPY sq).modRec fun k => { k with ash := r }

/-- GPIO_RISE (R455 source 0x5): an enabled line that selects the pin fires. -/
def execGpioRise (k : Fin 32) (s : State) : Host.Outcome State Fault Refusal :=
  nextDev s fun w => w.recSource 5 fun sel => sel % 32 == k.val

end Sys2Proof.Machine
end

