-- ==== Sys2Proof/Machine/Net.lean ====
section
/-! DEFINITION. The system network's packets (R460 to R466): routing, the output queues, deliveries to the package itself,
and the system trips a package asserts. -/

namespace Sys2Proof.Machine

/-- The package number in force (R86, R533). -/
def Work.pkgNo (w : Work) : Nat := w.rd pgCSTORE CSTORE_IDENT_ACT_PKG

/-- The pair identity in force (R412, R533). -/
def Work.pairNo (w : Work) : Nat := w.rd pgCSTORE CSTORE_IDENT_ACT_PAIR

/-- Transmit priority of a packet type; none for a type not listed (R461). -/
def pktPrio (t : Nat) : Option Nat :=
  match t with
  | 0x01 => some 3 | 0x02 => some 2 | 0x03 => some 2 | 0x10 => some 1 | 0x11 => some 3 | 0x12 => some 3
  | 0x13 => some 3 | 0x14 => some 3 | 0x20 => some 4 | 0x30 => some 5 | 0x31 => some 5 | _ => none

/-- System lane `p` is in UP. -/
def Work.slUp (w : Work) (p : Nat) : Bool := decide (p < 8) && w.rd pgSYSN SL_SLSTAT_STATE p == 3

/-- Queue a packet at output port `p`: up to 32 per class (R464). -/
def Work.slEnq (w : Work) (p : Nat) (k : Pkt) (bad : Bool) : Work :=
  match pktPrio k.type.toNat with
  | none => w
  | some prio =>
    if ((w.sln p).queue.filter fun q => q.prio == prio).length < 32 then
      w.modSl p fun s => { s with queue := s.queue ++ [⟨prio, k, bad⟩] }
    else (w.count pgSYSN SYSN_PKT_DROP_COUNT).flt pgSYSN .ce 22

/-- The package belongs to multicast group `g` (R477). -/
def Work.inGroup (w : Work) (g : Nat) : Bool := bitOf (w.rd pgSYSN SYSN_MGRP (g / 32)) (g % 32)

/-- The port a unicast packet to package `pkg` leaves by (R463). -/
def Work.routePort (w : Work) (pkg : Nat) : Option Nat :=
  let p := w.rd pgSYSN SYSN_ROUTE (pkg / 8) / 16 ^ (pkg % 8) % 16
  if p = 15 then none
  else if w.slUp p then some p
  else
    let alt := w.rd pgSYSN SL_SLCTL_ALT p
    if w.slUp alt then some alt else none

/-- A packet is delivered to this package; it waits until it is acted on. -/
def Work.deliver (w : Work) (port : Option Nat) (k : Pkt) (at16 : Int) : Work :=
  w.modNet fun n => { n with inbox := n.inbox ++ [⟨port, k, at16⟩] }

/-- Destination kind and number (R460). -/
def pktKind (k : Pkt) : Nat := k.dst.toNat / 2 ^ 14
def pktDest (k : Pkt) : Nat := k.dst.toNat % 1024

/-- A unicast packet of or through this package, without the answer of R463 item 2. -/
def Work.unicastRaw (w : Work) (k : Pkt) (bad : Bool) : Work × Bool :=
  if pktDest k = w.pkgNo then (w.when (!bad) fun w => w.deliver none k (t16 w.now), true)
  else match w.routePort (pktDest k) with
    | some p => (w.slEnq p k bad, true)
    | none => ((w.count pgSYSN SYSN_NOROUTE_COUNT).flt pgSYSN .ce 18, false)

/-- A packet this package originates: 12 hops, its own number, COARSE in holdover (R460). -/
def Work.mkPkt (w : Work) (type dst seq : Nat) (payload : List Word) : Pkt :=
  ⟨BitVec.ofNat 8 type, w.on pgTALLY TALLY_STAT_HOLDOVER, BitVec.ofNat 16 dst, BitVec.ofNat 10 w.pkgNo, 12, BitVec.ofNat 8 seq, payload⟩

/-- Unicast of a packet; an unroutable RREQ is answered UNREACH (R463 item 2, R475). -/
def Work.unicast (w : Work) (k : Pkt) (bad : Bool) : Work :=
  let q := w.unicastRaw k bad
  if !q.2 && k.type == 0x30 then (q.1.unicastRaw (q.1.mkPkt 0x31 k.src.toNat k.seq.toNat [5, 0]) false).1 else q.1

/-- The ports a multicast or flood packet leaves by: FLOOD, or every port for a TRIP, but the arrival port (R463). -/
def Work.floodPorts (w : Work) (k : Pkt) (arr : Option Nat) : List Nat :=
  (upto 8).filter fun p => w.slUp p && arr != some p && (k.type == 0x10 || bitOf (w.rd pgSYSN SYSN_NCFG_FLOOD) p)

/-- The last SEQ of a TRIP forwarded for its originator (R463 item 4). -/
def Work.tripNew (w : Work) (k : Pkt) : Bool := !(w.net.tripSeen.any fun e => e == (k.src.toNat, k.seq.toNat))
def Work.tripMark (w : Work) (k : Pkt) : Work :=
  w.modNet fun n => { n with tripSeen := n.tripSeen.filter (fun e => e.1 != k.src.toNat) ++ [(k.src.toNat, k.seq.toNat)] }

/-- The next SEQ of a packet type (R460). -/
def Work.nextSeq (w : Work) (type : Nat) : Work × Nat :=
  let s := ((w.net.seqs.find? fun e => e.1 == type).map Prod.snd).getD 0
  (w.modNet fun n => { n with seqs := n.seqs.filter (fun e => e.1 != type) ++ [(type, (s + 1) % 256)] }, s)

/-- Originate a packet (R460, R463): floods and multicasts go out on their ports and come back by loopback. -/
def Work.netSend (w : Work) (type dst : Nat) (payload : List Word) : Work :=
  let q := w.nextSeq type
  let w := q.1
  let k := w.mkPkt type dst q.2 payload
  if pktKind k = 0 then w.unicast k false
  else
    let w := w.when (type == 0x10) fun w => w.tripMark k
    let w := w.each (w.floodPorts k none) fun w p => w.slEnq p k false
    w.when (pktKind k == 2 || (pktKind k == 1 && w.inGroup (pktDest k))) fun w => w.deliver none k (t16 w.now)

/-! ### System trips this package asserts (R465) -/

/-- The groups asserted: by the host, or by a held reaction of TRIPSRC.LEVEL or higher. -/
def Work.tripWanted (w : Work) : Nat :=
  let lv := w.rd pgSYSN SYSN_TRIPSRC_LEVEL
  w.net.hostTrip ||| (if lv != 0 && w.hearth.held.any fun h => decide (lv ≤ h.level) then w.rd pgSYSN SYSN_TRIPSRC_GMASK else 0)

/-- Send a TRIP for the groups of `mask`. -/
def Work.tripSend (w : Work) (assert : Bool) (mask : Nat) : Work := w.netSend 0x10 0x8000 [w32 (b2n assert * 2 ^ 31 + mask)]

/-- TRIP_STAT.TX follows what is asserted; a new assertion and the end of the last one are sent at once. -/
def Work.tripShow (w : Work) : Work :=
  let old := w.rd pgSYSN SYSN_TRIP_STAT_TX
  let new := w.tripWanted
  if new = old then w
  else
    let w := w.wr pgSYSN SYSN_TRIP_STAT_TX new
    if new = 0 then w.tripSend false old
    else if new &&& old = new then w else w.tripSend true new

end Sys2Proof.Machine
end

