-- ==== Sys2Proof/Machine/Safe.lean ====
section
/-! DEFINITION. What every fault path needs of a cluster: its topology (R17 to R21), its state changes (R244 to R248), the
forced safe action, and the protection block (R355 to R364). -/

namespace Sys2Proof.Machine

/-! ### Topology -/

def Work.topo (w : Work) (c : Nat) : Nat := w.rd (pgCLU c) CLU_CFG_TOPO

/-- The cluster whose state machine serves `c`: the even one of a TRI6 pair (R20). -/
def Work.owner (w : Work) (c : Nat) : Nat := if w.topo c = 3 then c - c % 2 else c

/-- The clusters one state machine serves. -/
def Work.members (w : Work) (o : Nat) : List Nat := if w.topo o = 3 then [o, o + 1] else [o]

/-- The second path of a TRI6 pair is enabled (R258). -/
def Work.path2 (w : Work) (o : Nat) : Bool := w.topo o == 3 && w.on (pgCLU o) CLU_CFG_PATH2

/-- The lanes that serve the cluster (R21, R258). -/
def Work.lanesOf (w : Work) (o : Nat) : List Nat := if w.path2 o then [o, o + 1] else [o]

/-- The unit of cell-end leg `leg` (R18): none for a spare or absent leg. -/
def Work.legUnit (w : Work) (o leg : Nat) : Option Nat :=
  match w.topo o with
  | 1 => if leg < 4 then some (4 * o + leg) else none
  | 2 => if leg < 2 then some (4 * o + leg) else none
  | 3 => if leg < 4 then some (4 * o + leg) else if leg < 6 then some (4 * (o + 1) + (leg - 4)) else none
  | _ => none

/-- The legs of the cluster's cell with their units, in ascending order (R18). -/
def Work.legs (w : Work) (o : Nat) : List (Nat × Nat) :=
  (upto 6).filterMap fun l => (w.legUnit o l).map fun u => (l, u)

/-- The cluster and cell-end leg of unit `u` (R18): none for a spare unit (R19). -/
def Work.unitLeg (w : Work) (u : Nat) : Option (Nat × Nat) :=
  let o := w.owner (u / 4)
  ((w.legs o).find? fun p => p.2 == u).map fun p => (o, p.1)

/-- Cluster `c` lies in a region that performs standby operation (R420): with the STANDBY role, but for the regions still to
release after a handover (R430), and after a takeover until the region's first boundary as active (R427). -/
def Work.standsBy (w : Work) (c : Nat) : Bool := (w.rg (c / 12)).standby

/-! ### Cluster state -/

def Work.cstate (w : Work) (c : Nat) : Nat := w.rd (pgCLU c) CLU_CSTAT_STATE

def Work.laneState (w : Work) (c : Nat) : Nat := w.rd (pgCLANE c) CLANE_LSTAT_STATE

/-- The lane path of cluster `c` is stalled: its frame logic completes no good frame (R563). -/
def Work.pathStalled (w : Work) (c : Nat) : Bool := w.hearth.stalls.any fun x => x.2 == some c

/-- The cluster's lane is up (R246): either lane of a pair with its second path. A stalled lane path counts as a lost lane
(R105). -/
def Work.laneUp (w : Work) (o : Nat) : Bool := (w.lanesOf o).any fun l => w.laneState l == 3 && !w.pathStalled l

/-- A field of CSTAT shown identically in both pages of a pair (R20). -/
def Work.cstat (w : Work) (o : Nat) (f : Field) (v : Nat) : Work := w.each (w.members o) fun w c => w.wr (pgCLU c) f v

/-- States in which a cluster is in service: PRECHARGE, READY, RUN, TEST. -/
def inService (st : Nat) : Bool := st == 1 || st == 2 || st == 3 || st == 5

/-- Every cluster is in OFF or BYPASS (R404, R497, R522). -/
def Work.allIdle (w : Work) : Bool := (upto 48).all fun c => w.cstate c == 0 || w.cstate c == 4

/-- A unit stops emitting with its leg OFF from time `t`. -/
def LegUnit.stop (u : LegUnit) (t : Int) : LegUnit :=
  { u with emit := false, fresh := true, cmd := none, minEnd := none, dropping := false, pendOn := none, refr := [],
           onHi := false, onLo := false, skip := false,
           hist := if u.emit then (t, 0) :: u.hist.filter fun e => decide (e.1 ≤ t) else u.hist }

/-- The units of the cell stop at once: nothing emitted, no word still unsent leaves (R248). -/
def Work.stopUnits (w : Work) (o : Nat) : Work :=
  let t := t16 w.now
  let w := w.each (w.legs o) fun w p => w.modUn p.2 fun u => u.stop t
  w.modLn o fun l => { l with timed := l.timed.filter fun t => match t with
    | .sample .. => true
    | _ => false }

/-! ### Protection (R355 to R364) -/

/-- The protection mode that the state calls for (R358): 0 MONITOR, 1 CBC, 2 FORCE. -/
def Work.pmodeOf (w : Work) (o : Nat) : Nat :=
  let st := w.cstate o
  if st = 1 ∨ st = 2 ∨ st = 5 then 2
  else if st = 3 then (if w.on (pgCLU o) CLU_CSTAT_RECOV || w.on (pgCLU o) CLU_SAFEPAT_FRUN then 2 else 1)
  else 0

/-- Comparator selection A (`b` false) or B is active: in use, routed, and its output 1 (R355). -/
def Work.wcSel (w : Work) (o : Nat) (b : Bool) : Bool :=
  let pg := pgCLU o
  let en := if b then w.on pg CLU_PCFG_WB_EN else w.on pg CLU_PCFG_WA_EN
  let k := if b then w.rd pg CLU_PCFG_WB else w.rd pg CLU_PCFG_WA
  let low := if b then w.on pg CLU_PCFG_WB_OUT else w.on pg CLU_PCFG_WA_OUT
  en && w.on (pgWC k) WC_ROUTE_HRT && (if low then w.on (pgWC k) WC_WSTAT_L else w.on (pgWC k) WC_WSTAT_H)

/-- The sources of R355 active now that would latch in FORCE mode, as kind and index (R364). -/
def Work.activeSources (w : Work) (o : Nat) : List (Nat × Nat) :=
  let pg := pgCLU o
  let bits (f : Field) (kind n : Nat) := ((upto n).filter fun i => bitOf (w.rd pg f) i).map fun i => (kind, i)
  let uv := w.on pgPKG PKG_SUPMON_UV_EN
  bits CLU_CE_ACT0_DESAT 1 12 ++ bits CLU_CE_ACT1_OC 2 6 ++
  (if uv then bits CLU_CE_ACT0_UVLO 3 12 ++ bits CLU_CE_ACT1_BOOT 4 6 else []) ++
  ((upto 8).filter fun n => bitOf (w.rd pg CLU_PCFG_TRIPN) n && w.on pgPKG PKG_TRIPN_CFG_EN n &&
    bitOf (w.rd pgPKG PKG_TRIPN_STAT) n).map (fun n => (6, n)) ++
  ((upto 8).filter fun n => uv && bitOf (w.rd pg CLU_PCFG_CHFB) n && w.on pgPKG PKG_CHOP_STAT_FB_ACT n).map (fun n => (7, n)) ++
  (if w.wcSel o false then [(8, 0)] else []) ++ (if w.wcSel o true then [(9, 0)] else [])

/-- DESAT of a switch of the unit's leg, or OC of the leg, is active (R364). -/
def Work.unitSrc (w : Work) (u : Nat) : Bool :=
  match w.unitLeg u with
  | some (o, l) => bitOf (w.rd (pgCLU o) CLU_CE_ACT0_DESAT) (2 * l) || bitOf (w.rd (pgCLU o) CLU_CE_ACT0_DESAT) (2 * l + 1) ||
      bitOf (w.rd (pgCLU o) CLU_CE_ACT1_OC) l
  | none => false

/-- ULATCH: a unit of the cell is latched (R361). -/
def Work.ulatch (w : Work) (o : Nat) : Bool :=
  (w.legs o).any fun p => w.on (pgUNIT p.2) UNIT_TSTAT_LATCHED

/-- What an event calls for (R359): 0 record, 1 count in the unit, 2 latch. -/
def protEntry (mode : Nat) (uv : Bool) (kind : Nat) : Nat :=
  if mode = 0 then 0
  else if kind = 1 ∨ kind = 2 then (if mode = 1 then 1 else 2)
  else if kind = 3 ∨ kind = 4 then (if uv then 2 else 0)
  else 2

/-- The forced safe action (R248): units stop, SAFE is sent at once and repeated (R318). -/
def Work.safeAction (w : Work) (o cause : Nat) : Work :=
  let w := w.stopUnits o
  let w := w.each (w.lanesOf o) fun w l => w.modLn l fun k => { k with safe := some 0 }
  ((w.cstat o CLU_CSTAT_SAFE_ACT 1).cstat o CLU_CSTAT_LOCK_CAUSE cause).count (pgCLU o) CLU_LOCK_COUNT

/-- What has raised REGION for a cluster that is or will be in LOCKOUT (R249); other causes add nothing. -/
def Work.rgSource (w : Work) (o cause src : Nat) : Work :=
  if cause = 5 then w.modCl o fun k => { k with rgSrc := k.rgSrc ||| 2 ^ src } else w

/-- The forced safe request of R248; `src` numbers what raised REGION (R249). -/
def Work.forcedSafe (w : Work) (c cause : Nat) (src : Nat := 0) : Work :=
  let o := w.owner c
  let st := w.cstate o
  if w.standsBy o then w.count (pgCLU o) CLU_LOCK_COUNT
  else if st = 6 ∨ (w.cl o).safePend then w.rgSource o cause src
  else if st = 0 ∨ st = 4 then w.each (w.lanesOf o) fun w l => w.modLn l fun k => { k with safeOnce := some cause }
  else ((w.safeAction o cause).modCl o fun k => { k with safePend := true, rgSrc := 0 }).rgSource o cause src

/-- Forced safe requests to every cluster of region `n`, even clusters of pairs once. -/
def Work.forcedSafeRg (w : Work) (n cause : Nat) (src : Nat := 0) : Work :=
  w.each ((clustersOf n).filter fun c => w.owner c == c) fun w c => w.forcedSafe c cause src

/-- A latching event (R359). -/
def Work.protLatch (w : Work) (o kind idx tripId : Nat) : Work :=
  let pg := pgCLU o
  let fresh := !w.on pg CLU_PSTAT_FLATCH
  let w := w.when fresh fun w => (w.wr pg CLU_PSTAT_FKIND kind).wr pg CLU_PSTAT_FIDX idx
  let w := ((w.wr pg CLU_PSTAT_FLATCH 1).count pg CLU_FLATCH_COUNT).flt pg .uc 24
  let w := w.when fresh fun w =>
    (w.event 4 pg [w.rd pg CLU_PSTAT_FKIND * 2 ^ 20 + w.rd pg CLU_PSTAT_FIDX * 2 ^ 16 + tripId]).recSource 8
      fun sel => bitOf sel 6 || sel % 64 == o
  w.forcedSafe o 8

/-- Where detection time `ts` falls among the leg's emitted edges: in a dead time, or with the leg OFF (R362). `h` holds
the edges newest first. -/
def tripPlace (h : List (Int × Nat)) (ts : Int) : Bool × Bool :=
  let before := h.find? fun e => decide (e.1 ≤ ts)
  let after := (h.reverse).find? fun e => decide (ts < e.1)
  match before with
  | some (_, 0) => (match after with
    | some (_, s) => if s = 0 then (false, true) else (true, false)
    | none => (false, true))
  | some _ => (false, false)
  | none => (false, true)

/-- The edges that the unit has emitted or decided to emit, newest first: an on edge that completes a dead time may fall into
the next interval (R225). -/
def LegUnit.edges (k : LegUnit) : List (Int × Nat) :=
  match k.pendOn with
  | some e => (e.due, e.st) :: k.hist
  | none => k.hist

/-- Trips of the list within the window before the newest (R361). -/
def winCount (ts : List Int) (win : Nat) : Nat :=
  match ts with
  | [] => 0
  | t :: _ => (ts.filter fun x => decide (t - x ≤ (win * 16000 : Nat))).length

/-- WIN_CNT follows the list of trips and the window in force (R361). -/
def Work.winShow (w : Work) (u : Nat) : Work :=
  w.wr (pgUNIT u) UNIT_TSTAT_WIN_CNT (winCount (w.un u).trips (w.rd (pgUNIT u) UNIT_TCFG_CBC_WIN))

/-- A counted trip of unit `u` detected at `ts` (R361, R362). -/
def Work.countTrip (w : Work) (u o : Nat) (ts : Int) : Work :=
  let pg := pgUNIT u
  let place := tripPlace (w.un u).edges ts
  let w := ((w.count pg UNIT_TRIP_COUNT).wr pg UNIT_TRIP_T_NS (timeOf16 ts).ns).flt pg .ce 19
  let w := w.modUn u fun k => { k with trips := (ts :: k.trips).take 16 }
  let w := w.winShow u
  let n := w.rd pg UNIT_TSTAT_WIN_CNT
  let w := w.when place.1 fun w => w.wr pg UNIT_TSTAT_DT 1
  let w := w.when place.2 fun w => w.wr pg UNIT_TSTAT_OFFST 1
  if w.rd pg UNIT_TCFG_CBC_N + 1 ≤ n ∧ ¬ w.on pg UNIT_TSTAT_LATCHED then
    let w := ((w.wr pg UNIT_TSTAT_LATCHED 1).count pg UNIT_LATCH_COUNT).flt pg .uc 20
    (w.wr (pgCLU o) CLU_PSTAT_ULATCH 1).forcedSafe o 8
  else w

/-- A protection event (R355, R359): kind, index, TRIP_ID (0 for a local event) and time. `link` says that it came in a
TRIP with a LINK flag set, which is a latching trip outside MONITOR mode (R325, R359). -/
def Work.protEvent (w : Work) (o kind idx tripId : Nat) (ts : Int) (link : Bool := false) : Work :=
  let pg := pgCLU o
  let w := w.count pg CLU_TRIP_COUNT
  let w := ((w.wr pg CLU_TLAST_TRIP_ID tripId).wr pg CLU_TLAST_KIND kind).wr pg CLU_TLAST_INDEX idx
  let w := w.wr pg CLU_TLAST_NS (timeOf16 ts).ns
  let m := w.rd pg CLU_PSTAT_PMODE
  let entry := if w.standsBy o then 0 else protEntry m (w.on pgPKG PKG_SUPMON_UV_EN) (if link then 5 else kind)
  if entry = 2 then w.protLatch o kind idx tripId
  else if entry = 1 then
    match w.legUnit o (if kind = 1 then idx / 2 else idx) with
    | some u => w.countTrip u o ts
    | none => w.flt pg .ce 26
  else w.flt pg .ce 26

/-- The mode follows the state; sources that latch in a new CBC or FORCE mode are handled as events (R358, R360). -/
def Work.pmodeUpdate (w : Work) (o : Nat) : Work :=
  let pg := pgCLU o
  let m := w.pmodeOf o
  if w.rd pg CLU_PSTAT_PMODE = m then w
  else
    let w := w.wr pg CLU_PSTAT_PMODE m
    w.each ((w.activeSources o).filter fun k => protEntry m (w.on pgPKG PKG_SUPMON_UV_EN) k.1 == 2) fun w k =>
      w.protEvent o k.1 k.2 (if k.1 < 6 then (w.cl o).tripId.getD 0 else 0) (t16 w.now)

/-- Sources that have become active under a new selection count as events where their entry latches (R375). -/
def Work.protRescan (w : Work) (o : Nat) (before : List (Nat × Nat)) : Work :=
  let m := w.rd (pgCLU o) CLU_PSTAT_PMODE
  w.each ((w.activeSources o).filter fun k => !before.contains k && protEntry m (w.on pgPKG PKG_SUPMON_UV_EN) k.1 == 2)
    fun w k => w.protEvent o k.1 k.2 (if k.1 < 6 then (w.cl o).tripId.getD 0 else 0) (t16 w.now)

/-- A local source becomes active: an event in every cluster that selects it (R355). -/
def Work.localEvent (w : Work) (kind idx : Nat) (sel : Work → Nat → Bool) : Work :=
  w.each ((upto 48).filter fun c => w.owner c == c) fun w o =>
    w.when (sel w o) fun w => w.protEvent o kind idx 0 (t16 w.now)

/-! ### State changes -/

/-- A transition of the cluster that takes effect at boundary time `b` (R247). A request already acted on still makes the state
LOCKOUT at the next boundary (R248), unless the cluster has been bypassed (log entry 47). -/
def Work.setState (w : Work) (o st : Nat) (b : Int) : Work :=
  let pg := pgCLU o
  let old := w.cstate o
  let w := w.cstat o CLU_CSTAT_STATE st
  let w := (w.count pg CLU_TRANS_COUNT).stamp pg CLU_STATE_T_NS CLU_STATE_T_S (timeOf16 b)
  let w := w.event 2 pg [old * 2 ^ 24 + st * 2 ^ 16 + w.rd pg CLU_CSTAT_LOCK_CAUSE * 2 ^ 8]
  let w := w.when (old == 6) fun w =>
    ((w.cstat o CLU_CSTAT_SAFE_ACT 0).modCl o fun k => { k with rgSrc := 0 }).each (w.lanesOf o)
      fun w l => w.modLn l fun k => { k with safe := none }
  let w := w.when (st == 6) fun w => (w.cstat o CLU_CSTAT_RECOV 0).recSource 1 fun sel => bitOf sel 6 || sel % 64 == o
  let w := w.modCl o fun k => { k with
    pcTimer := st == 1, pcExpired := false, bypTimer := st == 4, safePend := k.safePend && st != 6 && st != 4 }
  w.pmodeUpdate o

/-- A lane of cluster `c` is lost from UP (R248, R258). -/
def Work.laneLost (w : Work) (c : Nat) : Work :=
  let o := w.owner c
  if w.path2 o then
    if w.laneUp o then (w.wr (pgCLU o) CLU_CSTAT_PATH2_DOWN 1).flt (pgCLU o) .ce 20
    else (w.flt (pgCLU o) .uc 17).forcedSafe o 2
  else if c = o then (w.flt (pgCLU o) .uc 17).forcedSafe o 2
  else w

end Sys2Proof.Machine
end

