-- ==== Sys2Proof/Machine/Hearth.lean ====
section
/-! DEFINITION. The Hearth and the Flue (R380 to R411): the chopper pins it shares with R368 to R370, reactions and their
release, Ash records, the collectors, and the commands of both. -/

namespace Sys2Proof.Machine

/-! ### Chopper outputs (R368 to R370) -/

/-- H of the channel's control comparator. -/
def Work.chopH (w : Work) (n : Nat) : Bool := w.on (pgWC (w.rd pgPKG PKG_CHOP_CFG_WC n)) WC_WSTAT_H

/-- Channel `n` is held off by its feedback, a TMIN_OFF hold, OV_EN = 0 or the standby role (R368, R378). -/
def Work.chopHeld (w : Work) (n : Nat) : Bool :=
  w.on pgPKG PKG_CHOP_STAT_FB_LAT n || (w.chp n).minOff || !w.on pgPKG PKG_SUPMON_OV_EN || w.role == 1

/-- Set the output of channel `n`; a change reaches the pin with its polarity. -/
def Work.chopSet (w : Work) (n : Nat) (on : Bool) : Work :=
  if w.on pgPKG PKG_CHOP_STAT_ON n = on then w
  else (w.wr pgPKG PKG_CHOP_STAT_ON (b2n on) n).emit (.pin "CHOP" n (on != w.on pgPKG PKG_CHOP_CFG_OPOL n))

/-- The state channel `n` takes up. With `retry` a hold has ended, or the Hearth has released the pin: the output is on
exactly if H is 1 now. Otherwise an output that nothing holds off stays as it is. -/
def Work.chopEval (w : Work) (n : Nat) (retry : Bool) : Work :=
  let w := w.wr pgPKG PKG_CHOP_STAT_HELD (b2n (w.chopHeld n)) n
  if w.on pgPKG PKG_CHOP_STAT_HRT_CTL n then w.chopSet n (w.chp n).hrtOn
  else if !w.on pgPKG PKG_CHOP_CFG_EN n || w.chopHeld n then w.chopSet n false
  else if retry then w.chopSet n (w.chopH n)
  else w

/-- Every channel takes up its state after a change that may end or begin a hold. -/
def Work.chopEvalAll (w : Work) : Work :=
  w.each (upto 8) fun w n => w.chopEval n (!w.on pgPKG PKG_CHOP_STAT_ON n)

/-! ### Ash records (R402) -/

/-- What one Ash record says. -/
structure AshRec where
  kind : Nat
  cause : Nat
  srclvl : Nat
  page : Nat
  cond : Nat
  idx : Nat
  entry : Nat
  info : Word
  deriving DecidableEq, Repr

/-- Write an Ash record, hand it to the recorder (R453) and post reaction starts and releases (R440). -/
def Work.ash (w : Work) (r : AshRec) : Work :=
  let old := w.rd pgHRT HRT_ASH_SEQ
  let sq := if old + 1 = 2 ^ 32 then 1 else old + 1
  let w3 := w32 (w.rd pgTALLY TALLY_STAT_STEP_SEQ % 16 * 2 ^ 28 + w.rd pgTALLY TALLY_STAT_HOLDOVER * 2 ^ 27 + r.kind * 2 ^ 24 +
    w.rd pgHRT HRT_HSTAT_LEVEL * 2 ^ 21 + r.cause * 2 ^ 16 + r.srclvl * 2 ^ 13 + r.page)
  let w4 := w32 (r.cond * 2 ^ 24 + r.idx * 2 ^ 16 + r.entry * 2 ^ 8)
  let ds := [w32 sq, w32 w.now.s, w32 w.now.ns, w3, w4, r.info]
  let base := pgHRT2 + 0x100 + 24 * ((sq - 1) % 64)
  let w := w.each (ds.zipIdx) fun w e => w.put (base + 4 * e.2) e.1
  let w := (w.wr pgHRT HRT_ASH_SEQ sq).modRec fun k => { k with ash := k.ash ++ [(sq, ds)] }
  w.when (r.kind == 4 || r.kind == 5) fun w => w.event 7 pgHRT [w3.toNat, w4.toNat, sq]

/-! ### Reactions -/

/-- Regions a held reaction covers (R389). -/
def Held.covers (h : Held) : Nat := if 3 ≤ h.level then 0xF else if h.level = 2 then h.mask else 0

/-- Entry `e` of the reaction table is qualified (R410). -/
def Work.rtAct (w : Work) (e : Nat) : Bool := bitOf (w.rd pgHRT1 HRT1_RT_ACT) e

/-- The effective reaction level (R392). -/
def Work.effLevel (w : Work) : Nat :=
  let h := w.hearth.held.foldl (fun m k => max m k.level) 0
  let t := (upto 32).foldl (fun m e => if w.rtAct e then max m (w.rd pgHRT1 HRT1_RT_A_LEVEL e) else m) 0
  let v := b2n (bitOf (w.rd pgHRT HRT_SUPSTAT_NOW) 7)
  max (max h t) (max v (w.rd pgHRT HRT_PLEA_LEVEL))

/-- Regions covered by held reactions. -/
def Work.rgHeld (w : Work) : Nat := w.hearth.held.foldl (fun m h => m ||| h.covers) 0

/-- CHOP pins the reaction table drives (R370, R410): off by a held entry of CHOPMODE 2, on by a qualified entry of
CHOPMODE 1. -/
def Work.chopHearth (w : Work) : Work :=
  w.each (upto 8) fun w n =>
    let names (e : Nat) := bitOf (w.rd pgHRT1 HRT1_RT_B_CHOP e) n
    let off := (upto 32).any fun e => names e && w.rd pgHRT1 HRT1_RT_B_CHOPMODE e == 2 && bitOf (w.rd pgHRT1 HRT1_RT_HELD) e
    let on := (upto 32).any fun e => names e && w.rd pgHRT1 HRT1_RT_B_CHOPMODE e == 1 && w.rtAct e
    let was := w.on pgPKG PKG_CHOP_STAT_HRT_CTL n
    let w := (w.wr pgPKG PKG_CHOP_STAT_HRT_CTL (b2n (off || on)) n).modChop n fun k => { k with hrtOn := on && !off }
    if off || on || was then w.chopEval n (was && !(off || on)) else w

/-- Drive ALIVE or SAFE_OUT_N to a level, if it is not there. -/
def Work.pinTo (w : Work) (name : String) (old new : Bool) : Work := if old = new then w else w.emit (.pin name 0 new)

/-- HSTAT, the held bits, SAFE_OUT_N, ALIVE, the broadcast and the chopper follow what the Hearth holds (R389 to R396). -/
def Work.hearthShow (w : Work) : Work :=
  let held := w.hearth.held
  let safeOut := !w.hearth.checked || held.any fun h => decide (3 ≤ h.level)
  let stop := held.any fun h => decide (4 ≤ h.level)
  let run := w.hearth.checked && w.on pgHRT HRT_HSTAT_TABLE_OK && !stop
  let w := w.pinTo "SAFE_OUT_N" (!w.on pgHRT HRT_HSTAT_SAFE_OUT) (!safeOut)
  let w := if run then w else (w.pinTo "ALIVE" w.hearth.alive false).modHearth fun k => { k with alive := false }
  let fc := match held with
    | [] => 0
    | h :: _ => if h.kind = 0 then h.cond else 0xFF
  let rg := w.rgHeld
  let bcast := rg != 0 && w.role != 1
  let w := (w.wr pgHRT HRT_HSTAT_SAFE_OUT (b2n safeOut)).wr pgHRT HRT_HSTAT_ALIVE_RUN (b2n run)
  let w := ((w.wr pgHRT HRT_HSTAT_FCOND fc).wr pgHRT HRT_HSTAT_RGHELD rg).wr pgHRT HRT_HSTAT_BCAST (b2n bcast)
  let w := w.wr pgHRT HRT_HSTAT_LEVEL w.effLevel
  let w := w.wr pgHRT1 HRT1_RT_HELD ((upto 32).foldl (fun m e => if held.any fun h => h.kind == 0 && h.entry == e then m + 2 ^ e else m) 0)
  let w := w.each (upto 48) fun w c =>
    let on := bcast && bitOf rg (c / 12)
    w.modLn c fun k => { k with hsafe := if on then some (k.hsafe.getD 0) else none }
  w.chopHearth.tripShow

/-- A reaction starts (R389, R392): it is counted and recorded, alerts from level 1, is held and forces its clusters safe
from level 2, and at level 4 sets HRT FLT.FATAL and freezes the recorder (R454). -/
def Work.react (w : Work) (h : Held) (srclvl page ashKind : Nat) : Work :=
  let old := w.rd pgHRT HRT_HSTAT_LEVEL
  let w := w.when (decide (2 ≤ h.level)) fun w => w.modHearth fun k => { k with held := k.held ++ [h] }
  let w := w.hearthShow.count pgHRT HRT_REACT_COUNT
  let w := w.ash ⟨ashKind, 0, srclvl, page, if ashKind = 4 then h.cond else 0, if ashKind = 4 then h.idx else 0, h.entry, 0⟩
  let w := w.when (decide (1 ≤ h.level) && w.on pgHRT HRT_ALERT_EN) fun w => w.msix (w.rd pgHRT HRT_ALERT_VEC)
  let w := w.each ((upto 4).filter fun n => bitOf h.covers n) fun w n => w.forcedSafeRg n 9
  let new := w.rd pgHRT HRT_HSTAT_LEVEL
  if 4 ≤ h.level then (w.wr pgHRT HDR_FLT_FATAL 1).recFreeze 3
  else if old < new then w.recSource 3 fun sel => decide (old < sel % 8) && decide (sel % 8 ≤ new)
  else w

/-- A fixed reaction (R390), unless one of its kind is held already. -/
def Work.reactFixed (w : Work) (kind level srclvl page : Nat) : Work :=
  if w.hearth.held.any fun h => h.kind == kind then w else w.react ⟨0, 0, 0xFF, level, 0xF, kind⟩ srclvl page 4

/-- The level 4 reaction to a FATAL of page `page` (R390). -/
def Work.reactFatal (w : Work) (page : Nat) : Work := w.reactFixed 1 4 (srcLevel page) page

/-- Where a fault that the Hearth's circuits find reports: its internal checks have an index of their own (R383, R401). -/
def hearthColl (pg bit : Nat) : Option (Coll × Nat) := if pg = pgHRT ∧ (bit = 17 ∨ bit = 21) then some (.ht, 1) else fltColl pg

/-- A FATAL that the Hearth itself finds on its own circuits (R390): flagged, reported, and reacted to at once. -/
def Work.hearthFatal (w : Work) (pg bit : Nat) : Work :=
  (w.fltTo pg .fatal bit (hearthColl pg bit)).reactFatal (pg / 0x1000)

/-- Every cluster is idle and a twin holds no reset: a level 4 reaction is held (R413). -/
def Work.stopped (w : Work) : Bool := w.hearth.held.any fun h => decide (4 ≤ h.level)

/-- The condition of a held reaction still holds, or its cause flag still stands; one at level 4 stands until a package reset
(R393). -/
def Work.heldStands (w : Work) (h : Held) : Bool :=
  if 4 ≤ h.level then true
  else match h.kind with
  | 0 => w.rtAct h.entry
  | 1 => true
  | 2 => bitOf (w.rd pgHRT HDR_FLT_CAUSE) 2
  | 3 => w.on pgPKG PKG_FRZ_STAT_FROZEN && !w.on pgHRT HRT_HSTAT_DEEN
  | _ => true

/-- REL (R393, R394): `plea` is its PLEA bit. -/
def Work.release (w : Work) (plea : Bool) : Work :=
  if plea ∧ w.rd pgHRT HRT_PLEA_LEVEL = 4 then w.badval pgHRT
  else
    let gone := w.hearth.held.filter fun h => if h.kind = 4 then plea else !w.heldStands h
    let pleaOnly := plea && !(w.hearth.held.any fun h => h.kind == 4) &&
      (w.on pgHRT HRT_PLEA_LEVEL || w.on pgHRT HRT_PLEA_RGMASK)
    let w := w.when plea fun w => (w.wr pgHRT HRT_PLEA_LEVEL 0).wr pgHRT HRT_PLEA_RGMASK 0
    let w := (w.modHearth fun k => { k with held := k.held.filter fun h => !gone.contains h }).hearthShow
    let w := w.each gone fun w h =>
      w.ash ⟨if h.kind = 4 then 6 else 5, 0, 0, pgHRT / 0x1000, if h.kind = 4 then 0 else h.cond, if h.kind = 4 then 0 else h.idx, h.entry, 0⟩
    let w := w.when pleaOnly fun w => w.ash ⟨6, 0, 0, pgHRT / 0x1000, 0, 0, 0xFF, 0⟩
    w.when (!w.hearth.held.isEmpty) fun w => w.badval pgHRT

/-- PLEA (R394). -/
def Work.plea (w : Work) (level mask : Nat) : Work :=
  let oldM := w.rd pgHRT HRT_PLEA_RGMASK
  if level ≤ 4 ∧ w.rd pgHRT HRT_PLEA_LEVEL ≤ level ∧ oldM &&& mask = oldM then
    let w := (w.wr pgHRT HRT_PLEA_LEVEL level).wr pgHRT HRT_PLEA_RGMASK mask
    let w := w.modHearth fun k => { k with held := k.held.filter fun h => h.kind != 4 }
    w.react ⟨0, 0, 0xFF, level, mask, 4⟩ 0 (pgHRT / 0x1000) 6
  else w.badval pgHRT

/-! ### The Flue -/

/-- The fence that covers a collector is raised (R107, R111): the region's, or the die's; the package collector is hub logic. -/
def Work.collFenced (w : Work) : Coll → Bool
  | .cluster c => bitOf (w.rd pgPKG PKG_FENCE_STAT) (c.val / 12)
  | .region n => bitOf (w.rd pgPKG PKG_FENCE_STAT) n.val
  | .cd d => bitOf (w.rd pgPKG PKG_FENCE_STAT) (4 + d.val)
  | .hb => bitOf (w.rd pgPKG PKG_FENCE_STAT) 6
  | .ht => bitOf (w.rd pgPKG PKG_FENCE_STAT) 7
  | .package => bitOf (w.rd pgPKG PKG_FENCE_STAT) 6
  | .hearth => false

/-- A report reaches the Hearth (R384, R386, R390, R391, R402); `die` is its child index at the package collector. -/
def Work.hearthReport (w : Work) (die : Nat) (r : Report) : Work :=
  let w := w.when (r.cls == .uc && decide (die < 4)) fun w => w.modHearth fun k => { k with ucSeen := k.ucSeen ||| 2 ^ die }
  let w := w.ash ⟨classCode r.cls, r.bit, srcLevel r.page, r.page, 0, 0, 0, r.info⟩
  if r.cls = .fatal then w.reactFatal r.page else w

/-- The die whose collector it is, by index of COND FLUE_UC (R391). -/
def collDie : Coll → Option Nat
  | .cd d => some d.val
  | .hb => some 2
  | .ht => some 3
  | _ => none

/-- FSUM.UC of a die's collector rises anew: UC reports that reached the Hearth before count no more (R391). -/
def Work.ucAnew (w : Work) (c : Coll) : Work :=
  match collDie c with
  | some d => w.modHearth fun k => { k with ucSeen := if bitOf k.ucSeen d then k.ucSeen - 2 ^ d else k.ucSeen }
  | none => w

/-- A report arrives at a collector (R384). -/
def Work.collect (w : Work) (c : Coll) (child : Nat) (r : Report) : Work :=
  let b := collAt c
  let none3 := !w.on b COL_FSUM_CE && !w.on b COL_FSUM_UC && !w.on b COL_FSUM_FATAL
  let w := w.when none3 fun w => w.wr b COL_FSUM_FIRST child
  let w := w.setBit b COL_FSRC child
  let w := match r.cls with
    | .ce => (w.wr b COL_FSUM_CE 1).count b COL_CE_CNT
    | .uc => ((w.when (!w.on b COL_FSUM_UC) fun w => w.ucAnew c).wr b COL_FSUM_UC 1).count b COL_UC_CNT
    | .fatal => (w.wr b COL_FSUM_FATAL 1).count b COL_FATAL_CNT
  let w := w.when (c == .package) fun w =>
    (w.setEvents (w.events ++ [⟨1, r.page, [w32 (classCode r.cls * 2 ^ 29 + r.bit * 2 ^ 24 + srcLevel r.page * 2 ^ 21)]⟩])).recSource 2
      fun sel => decide (sel % 4 ≤ classCode r.cls) && sel % 4 != 0
  let masked := match r.cls with
    | .ce => w.on b COL_FMASK_CE_MASK
    | .uc => w.on b COL_FMASK_UC_MASK
    | .fatal => false
  if masked then w
  else match collParent c with
    | some (.hearth, _) => w.setFlue (w.flue ++ [⟨.hearth, child, r⟩])
    | some (p, i) => w.setFlue (w.flue ++ [⟨p, i, r⟩])
    | none => w

/-! ### Commands -/

/-- FLUE_REPORT_ARRIVE (R384): a report on its way reaches its collector, or the Hearth; a fenced collector discards it
(R111, R386). -/
def execFlueReportArrive (dst : Coll) (child : Fin 32) (r : Report) (s : State) : Host.Outcome State Fault Refusal :=
  nextDev s fun w =>
    let m : InFlight := ⟨dst, child.val, r⟩
    if w.flue.contains m then
      let w := w.setFlue (w.flue.erase m)
      if w.collFenced dst then w.discard
      else if dst = .hearth then w.hearthReport child.val r
      else w.collect dst child.val r
    else w

/-- FATAL_LINE (R386): the line of a FATAL reaches the Hearth. -/
def execFatalLine (r : Report) (s : State) : Host.Outcome State Fault Refusal :=
  nextDev s fun w => if w.lines.contains r then (w.setLines (w.lines.erase r)).reactFatal r.page else w

/-- Entry `e`'s condition may hold, as far as the part's own state tells (R391); pins are the sender's. -/
def Work.condHolds (w : Work) (e : Nat) : Bool :=
  let i := w.rd pgHRT1 HRT1_RT_A_IDX e
  match w.rd pgHRT1 HRT1_RT_A_COND e with
  | 1 => true
  | 2 => true
  | 3 => w.on (pgWC i) WC_WCFG_EN && w.on (pgWC i) WC_ROUTE_HRT && w.on (pgWC i) WC_WSTAT_H
  | 4 => w.on (pgWC i) WC_WCFG_EN && w.on (pgWC i) WC_ROUTE_HRT && w.on (pgWC i) WC_WSTAT_L
  | 5 => bitOf (w.rd pgPKG PKG_SG_STAT) i
  | 6 => w.role != 0 && !w.on pgTWIN TWIN_TSTAT_HEALTH_OK
  | 7 => bitOf (w.rd pgSYSN SYSN_TRIP_STAT_RX) i
  | 8 => (upto 4).any fun d => (i == d || i == 0xFF) && bitOf w.hearth.ucSeen d &&
      w.on (collAt (if d = 0 then .cd 0 else if d = 1 then .cd 1 else if d = 2 then .hb else .ht)) COL_FSUM_UC
  | _ => false

/-- HEARTH_CONDITION_QUALIFY (R391, R392): entry `e`'s condition has held for QUAL periods. -/
def execHearthConditionQualify (e : Fin 32) (s : State) : Host.Outcome State Fault Refusal :=
  nextDev s fun w =>
    if w.condHolds e.val && !w.rtAct e.val then
      let w := w.setBit pgHRT1 HRT1_RT_ACT e.val
      let cond := w.rd pgHRT1 HRT1_RT_A_COND e.val
      if w.hearth.held.any fun h => h.kind == 0 && h.entry == e.val then w.hearthShow
      else
        let w := w.when (cond == 1) fun w => w.flt pgHRT .ce 20
        w.react ⟨cond, w.rd pgHRT1 HRT1_RT_A_IDX e.val, e.val, w.rd pgHRT1 HRT1_RT_A_LEVEL e.val,
          w.rd pgHRT1 HRT1_RT_A_RGMASK e.val, 0⟩ 6 (pgHRT / 0x1000) 4
    else w

/-- HEARTH_CONDITION_CEASE (R391, R392, R410): entry `e`'s condition stops holding. -/
def execHearthConditionCease (e : Fin 32) (s : State) : Host.Outcome State Fault Refusal :=
  nextDev s fun w => if w.rtAct e.val then (w.clrBit pgHRT1 HRT1_RT_ACT e.val).hearthShow else w

/-- HEARTH_REL (R393). -/
def execHearthRel (plea : Bool) (s : State) : Host.Outcome State Fault Refusal :=
  nextDev s fun w => w.hostAct (.hearthRel plea) (pgHRT + HRT_REL_GO.at 0) fun w => w.release plea

/-- HEARTH_PLEA (R394). -/
def execHearthPlea (level : BitVec 3) (rgmask : BitVec 4) (s : State) : Host.Outcome State Fault Refusal :=
  nextDev s fun w => w.hostAct (.hearthPlea level rgmask) (pgHRT + HRT_PLEA_LEVEL.at 0) fun w =>
    w.unlocked pgHRT fun w => w.plea level.toNat rgmask.toNat

/-- HEARTH_COPY_MISMATCH (R390, R401): a comparison of the two copies shows the difference `diff`. -/
def execHearthCopyMismatch (diff : BitVec 32) (s : State) : Host.Outcome State Fault Refusal :=
  nextDev s fun w =>
    if w.armedFor pgHRT 0 then
      if diff = 0 then w.injDone pgHRT true else (w.injDone pgHRT false).hearthFatal pgHRT 17
    else if diff = 0 then w else w.hearthFatal pgHRT 17

/-- ALIVE_TOGGLE (R396). -/
def execAliveToggle (s : State) : Host.Outcome State Fault Refusal :=
  nextDev s fun w =>
    if w.on pgHRT HRT_HSTAT_ALIVE_RUN then
      (w.modHearth fun k => { k with alive := !k.alive }).emit (.pin "ALIVE" 0 (!w.hearth.alive))
    else w

/-- SUPPLY_OUT_OF_RANGE (R390, R397, R401): rail 7, VEMB, reacts at level 1, every other at level 4. -/
def execSupplyOutOfRange (rail : Fin 8) (s : State) : Host.Outcome State Fault Refusal :=
  nextDev s fun w =>
    let w := w.when (w.armedFor pgHRT 1 && w.rd pgHRT HDR_INJ_BIT == rail.val) fun w => w.injDone pgHRT false
    if bitOf (w.rd pgHRT HRT_SUPSTAT_NOW) rail.val then w
    else
      let w := (w.setBit pgHRT HRT_SUPSTAT_NOW rail.val).setBit pgHRT HRT_SUPSTAT_SEEN rail.val
      if rail.val = 7 then (w.flt pgHRT .ce 16).react ⟨0, 0, 0xFF, 1, 0, 5⟩ 6 (pgHRT / 0x1000) 4
      else
        let w := w.when (rail.val == 0 || rail.val == 4) fun w => w.modKin fun k => { k with retLost := true }
        w.hearthFatal pgHRT 16

/-! ### Memory errors (R388) -/

/-- Record a memory error in PKG.ECC_LAST and its counter (R388, R411). -/
def Work.eccLast (w : Work) (mem word : Nat) (ue : Bool) : Work :=
  let w := ((w.wr pgPKG PKG_ECC_LAST_MEM mem).wr pgPKG PKG_ECC_LAST_UE (b2n ue)).wr pgPKG PKG_ECC_LAST_WORD word
  if ue then w.count pgPKG PKG_ECC_UE_COUNT else w.count pgPKG PKG_ECC_CE_COUNT

/-- The outcome of a read of memory `m` at word `word` (R388). -/
def Work.memErr (w : Work) (m : Mem) (word : Nat) (e : Ecc) : Work :=
  match e, m with
  | .ok, _ => w
  | .single, .region n => (w.eccLast n.val word false).flt (pgRG n.val) .ce 17
  | .double, .region n => ((w.eccLast n.val word true).flt (pgRG n.val) .uc 18).forcedSafeRg n.val 5 1
  | .single, .hub => (w.eccLast 4 word false).flt pgPKG .ce 19
  | .double, .hub => ((w.eccLast 4 word true).flt pgPKG .uc 20).markBad 4 word
  | .single, .hearth => (w.eccLast 5 word false).fltTo pgHRT .ce 21 (hearthColl pgHRT 21)
  | .double, .hearth => (w.eccLast 5 word true).hearthFatal pgHRT 17
  | .single, .dram => (w.eccLast 6 word false).flt pgPKG .ce 21
  | .double, .dram => ((w.eccLast 6 word true).flt pgPKG .uc 22).markBad 6 word

/-- What a read of `n` bytes from offset `a` of hub SRAM or DRAM finds: a word marked bad is reported on its next use (R388). -/
def Work.eccUse (w : Work) (m a n : Nat) (e : Ecc) : Ecc := if w.badIn m a n then .double else e

/-- A block reads `n` bytes of DRAM from offset `a`: each word marked bad there is reported (R388). -/
def Work.dramUse (w : Work) (a n : Nat) : Work :=
  w.each (w.bad.filter fun e => e.1 == 6 && decide (8 * e.2 < a + n) && decide (a < 8 * e.2 + 8)) fun w e => w.memErr .dram e.2 .double

/-- The check bits of what a package reset keeps are rewritten: a word marked bad reads 0 from then on, and is recorded (R438). -/
def Work.rewriteChecks (w : Work) : Work :=
  w.each w.bad fun w e =>
    if e.1 = 6 then (w.memErr .dram e.2 .double).dramPut (8 * e.2) (List.replicate 8 0)
    else (w.memErr .hub e.2 .double).sramPut (hubSram + 4 * e.2) [0]

/-- SCRUB_ACCESS (R388): the scrubber reads a word; of the Hearth SRAM it also makes an armed injection (R401). -/
def execScrubAccess (m : Mem) (word : BitVec 24) (ecc : Ecc) (s : State) : Host.Outcome State Fault Refusal :=
  nextDev s fun w =>
    let q := if m = .hearth then w.injEcc pgHRT 2 ecc else (w, ecc)
    q.1.memErr m word.toNat q.2

end Sys2Proof.Machine
end

