-- ==== Sys2Proof/Machine/Cluster.lean ====
section
/-! DEFINITION. The cluster state machine's commands and timers (R244 to R266) and the local protection inputs. -/

namespace Sys2Proof.Machine

/-- Ask for a class 4 frame, once (R275): 0 CMD, 2 TIMEOFS, 3 PING. -/
def Lane.ask (l : Lane) (k : Nat) : Lane := if l.p4.contains k then l else { l with p4 := l.p4 ++ [k] }

/-- The next waiting CMD asks for a slot once no CMD is outstanding (R321). -/
def Lane.nextCmd (l : Lane) : Lane := if l.cmdOut.isNone && !l.cmds.isEmpty then l.ask 0 else l

/-- Queue a CMD message on the cluster's lane (R319, R321). -/
def Work.sendCmd (w : Work) (o op : Nat) (arg : BitVec 64 := 0) : Work :=
  w.modLn o fun l => Lane.nextCmd { l with cmds := l.cmds ++ [⟨op, arg⟩] }

/-- CONFIG arguments of lane `c` of cluster `o` (R320). -/
def Work.configArg (w : Work) (o c : Nat) : BitVec 64 :=
  let pg := pgCLANE c
  BitVec.ofNat 64 (w.rd pg CLANE_CTL_DUP * 2 ^ 63 + w.rd pg CLANE_CE_CFG_LOSS_BYP * 2 ^ 62 +
    w.rd pg CLANE_CE_CFG_LOSS_BYP_MS * 2 ^ 40 + w.rd pg CLANE_CE_CFG_T_HOLD * 2 ^ 32 + w.rd (pgCLU o) CLU_SAFEPAT_PAT)

/-- CONFIG ahead of any other CMD that waits on the lane (R321). -/
def Work.sendConfig (w : Work) (o : Nat) : Work :=
  let arg := w.configArg o o
  w.modLn o fun l => Lane.nextCmd { l with cmds := ⟨7, arg⟩ :: l.cmds.filter fun k => k.op != 7 }

/-- The cluster's slot for value `v`, as value and status (R177). -/
def Work.measSlot (w : Work) (o v : Nat) : Word × Word :=
  let k := 8 * (o % 12) + v
  (w.word (slotAddr (o / 12) k), w.word (slotStatAddr (o / 12) k))

/-- Compare the link voltage with VREADY (R252): PC_STAT shows what was compared. -/
def Work.vlink (w : Work) (o : Nat) : Work × Bool :=
  let pg := pgCLU o
  let s := w.measSlot o (w.rd pg CLU_PC_CFG_VSEL)
  let m := s.1.toNat / 2 ^ 16
  (w.wr pg CLU_PC_STAT_VLINK m, !bitOf s.2.toNat 30 && decide (w.rdS pg CLU_PC_CFG_VREADY ≤ toSigned 16 m))

/-- The temperature gate (R251): none, or the refusal cause. 100 ms are 40,000,000 ticks. -/
def Work.tempGate (w : Work) (o : Nat) : Option Nat :=
  let pg := pgCLU o
  let lo := max (w.rdS pg CLU_PC_TEMP_TLO) (w.rdS pgHRT HRT_PC_LIM_TLO_S)
  let hi := min (w.rdS pg CLU_PC_TEMP_THI) (w.rdS pgHRT HRT_PC_LIM_THI_S)
  if hi < lo then some 2
  else match (w.cl o).tempAt with
  | none => some 3
  | some t =>
    if w.up - t > 40000000 then some 3
    else
      let v := w.rdS pg CLU_PC_STAT_TCAP
      if v = -128 then (if w.on pg CLU_PC_TEMP_NOSENS then none else some 2)
      else if lo ≤ v ∧ v ≤ hi then none else some 2

/-- The recorded lockout cause is active (R249): REGION while a bit that raised it is still set. -/
def Work.causeActive (w : Work) (o : Nat) : Bool :=
  let n := o / 12
  let cause (pg b : Nat) := bitOf (w.rd pg HDR_FLT_CAUSE) (b - 16)
  let raised (k : Nat) := bitOf (w.cl o).rgSrc k
  match w.rd (pgCLU o) CLU_CSTAT_LOCK_CAUSE with
  | 2 => !w.laneUp o
  | 3 => cause (pgCLU o) 16
  | 4 => w.on (pgABC n) ABC_RSTAT_OVR_TRIP
  | 5 => (raised 0 && cause (pgRG n) 16) || (raised 1 && cause (pgRG n) 18) || (raised 2 && cause (pgABC n) 18) ||
      (raised 3 && cause pgSPLL 17) || (raised 4 && cause pgPKG 16 && bitOf (w.rd pgPKG PKG_SG_STAT) (4 + n / 2))
  | 8 => w.on (pgCLU o) CLU_PSTAT_FLATCH || w.ulatch o
  | 9 => bitOf w.rgHeld n
  | _ => false

/-- A command is refused (R246). -/
def Work.refuse (w : Work) (o cause : Nat) : Work :=
  let pg := pgCLU o
  (((w.wr pg CLU_CSTAT_REFUSED 1).wr pg CLU_CSTAT_REF_CAUSE cause).count pg CLU_REFUSE_COUNT)

/-- The dead time of either direction while the adapter does not follow reports: DT_SAFE within the limits (R226). -/
def Work.dtLim (w : Work) (u : Nat) (v : Int) : Nat :=
  let hi := w.rd (pgUNIT u) UNIT_DT_LIM_DT_MAX
  (min (max v (min (w.rd (pgUNIT u) UNIT_DT_LIM_DT_MIN) hi : Nat)) hi).toNat

/-- The adapters when emission starts: DT_SAFE and the configured T_PRE (R227, R236). -/
def Work.dtStart (w : Work) (u : Nat) : DtVal :=
  let pg := pgUNIT u
  let safe := w.rd pg UNIT_DT_SAFE_SAFE
  let d := if w.on pg UNIT_DT_CTL_ADAPT then safe else w.dtLim u safe
  ⟨d, d, false, false, w.rd pg UNIT_PROF_ON_T_PRE, w.rd pg UNIT_PROF_OFF_T_PRE⟩

/-- DT_NOW, PROF_NOW and the DTS flags show a value of the adapters. -/
def Work.dtShow (w : Work) (u : Nat) (v : DtVal) : Work :=
  let pg := pgUNIT u
  let w := ((w.wr pg UNIT_DT_NOW_HL v.hl).wr pg UNIT_DT_NOW_LH v.lh).wr pg UNIT_ESTAT_DTS_HL (b2n v.sHL)
  ((w.wr pg UNIT_ESTAT_DTS_LH (b2n v.sLH)).wr pg UNIT_PROF_NOW_ON v.on).wr pg UNIT_PROF_NOW_OFF v.off

/-- A unit starts to emit from the next edge interval (R212). -/
def Work.startUnit (w : Work) (u : Nat) : Work :=
  let v := w.dtStart u
  (w.dtShow u v).modUn u fun k => { k with
    emit := true, fresh := true, cmd := none, minEnd := none, dropping := false, pendOn := none, refr := [], refrN := 0,
    onHi := false, onLo := false, skip := false, dt := v, dtq := [], repHL := none, repLH := none, missHL := 0, missLH := 0,
    platOn := none, platOff := none, prof := none }

/-- Leaving for BYPASS (R247, R254); the set-point channels fall back (R196). -/
def Work.toBypass (w : Work) (o : Nat) (b : Int) : Work :=
  ((w.setState o 4 b).sendCmd o 3).modRg (o / 12) fun r => { r with fbByp := true }

/-- A region that runs cycles, or starts them at this boundary, and is not fenced (R245, R246): with CYC_EN set, commands are
evaluated at a boundary alone. -/
def Work.regionRuns (w : Work) (n : Nat) : Bool := w.on (pgRG n) RG_CYC_CTL && !w.rgFenced n

/-- The commands that a state admits (R247). -/
def cmdAdmitted (st code : Nat) : Bool :=
  match st with
  | 0 => code == 1 || code == 5 || code == 6 || code == 9
  | 1 => code == 4 || code == 6 || code == 9
  | 2 => code == 2 || code == 5 || code == 4 || code == 6 || code == 9
  | 3 => code == 3 || code == 4 || code == 6 || code == 9
  | 4 => code == 7
  | 5 => code == 3 || code == 4 || code == 6 || code == 9
  | 6 => code == 8 || code == 6
  | _ => false

/-- The command would take a cluster out of OFF or BYPASS (R405). -/
def cmdLeavesIdle (st code : Nat) : Bool := (st == 0 || st == 4) && cmdAdmitted st code && !(st == 0 && code == 6)

/-- The refusal that a command meets, if one does (R245 to R252, R373, R405, R420, R534). -/
def Work.cmdRefusal (w : Work) (o code : Nat) : Option Nat :=
  let pg := pgCLU o
  let st := w.cstate o
  let run := code == 1 || code == 2 || code == 5
  if w.topo o = 0 then some 8
  else if w.role = 1 ∨ w.standsBy o then some 1
  else if cmdLeavesIdle st code && (w.on pgHRT HRT_SUPD_STAT_BUSY || w.on pgBIST BIST_BSTAT_HUB_RUN || w.on pgBIST BIST_BSTAT_HRT_RUN)
  then some 1
  else if run && !w.regionRuns (o / 12) then some 7
  else if w.rgFenced (o / 12) then some 7
  else if run && w.on pg CLU_PSTAT_ST_BUSY then some 1
  else if !cmdAdmitted st code then some 1
  else if (code == 6 || code == 7 || code == 2 || (st == 0 && (code == 1 || code == 5))) && !w.laneUp o then some 4
  else if code = 1 ∧ (w.tempGate o).isSome then w.tempGate o
  else if code = 3 ∧ st = 5 ∧ ¬ (w.vlink o).2 then some 6
  else if code = 8 ∧ w.causeActive o then some 5
  else none

/-- What an admitted command does (R247); the units follow at the next output deadline (R212, R253). -/
def Work.cmdAct (w : Work) (o code : Nat) (b : Int) : Work :=
  let st := w.cstate o
  match code with
  | 1 => (w.setState o 1 b).sendCmd o 1
  | 2 => w.setState o 3 b
  | 3 =>
    let w := if st = 5 then (w.vlink o).1 else w
    w.setState o 2 b
  | 4 =>
    let w := w.when (st == 1) fun w => w.sendCmd o 2
    w.setState o 0 b
  | 5 => w.setState o 5 b
  | 6 => w.toBypass o b
  | 7 => (w.setState o 0 b).sendCmd o 4
  | 8 =>
    let w := (w.cstat o CLU_CSTAT_RECOV 1).modCl o fun k => { k with recovLeft := w.rd (pgCLU o) CLU_CFG_RECOV_CYC }
    let q := w.vlink o
    ((q.1.setState o (if w.laneUp o && q.2 then 2 else 0) b).sendCmd o 6).modRg (o / 12) fun r => { r with fbRec := true }
  | _ => if (w.cl o).safePend then w.setState o 6 b else (w.safeAction o 1).setState o 6 b

/-- A command that met refusal `r`, if any: PC_STAT shows the link voltage that was compared (R252). -/
def Work.cmdEnd (w : Work) (o code : Nat) (b : Int) (r : Option Nat) : Work :=
  match r with
  | some cause => (if code = 3 ∧ w.cstate o = 5 ∧ cause = 6 then (w.vlink o).1 else w).refuse o cause
  | none => w.cmdAct o code b

/-- The evaluation of a command at boundary time `b` (R245 to R247). -/
def Work.evalCmd (w : Work) (o code : Nat) (b : Int) : Work :=
  let w := w.wr (pgCLU o) CLU_CSTAT_PEND_CMD 0
  w.cmdEnd o code b (w.cmdRefusal o code)

/-- A write of CLUcc.CMD.CODE (R245, R20): pending until the next boundary, or evaluated at once while CYC_EN = 0;
a standby region refuses it at once (R420). -/
def Work.clusterCmd (w : Work) (c code : Nat) : Work :=
  let pg := pgCLU c
  if w.owner c ≠ c then w.badval pg
  else
    let w := w.when (w.on pg CLU_CSTAT_PEND_CMD) fun w => w.wr pg CLU_CSTAT_CMD_LOST 1
    let w := w.wr pg CLU_CSTAT_PEND_CMD code
    if w.on (pgRG (c / 12)) RG_CYC_CTL && !w.standsBy c then w else w.evalCmd c code (t16 w.now)

/-- The pre-charge timer has expired (R247, R252). -/
def Work.pcTimeout (w : Work) (o : Nat) : Work :=
  ((w.modCl o fun k => { k with pcTimer := false, pcExpired := false }).flt (pgCLU o) .uc 18).forcedSafe o 7

/-- Pre-charge, the pending command and automatic bypass at step 4 of a boundary (R245, R247, R252). A timer that has expired at
this boundary counts after the voltage. -/
def Work.clusterStep4 (w : Work) (o : Nat) (b : Int) : Work :=
  let pg := pgCLU o
  let w :=
    if w.cstate o = 1 then
      let q := w.vlink o
      if q.2 then (q.1.setState o 2 b).sendCmd o 2 else q.1.when (w.cl o).pcExpired fun w => w.pcTimeout o
    else w
  let code := w.rd pg CLU_CSTAT_PEND_CMD
  let w := if code = 0 then w else w.evalCmd o code b
  let cause := w.rd pg CLU_CSTAT_LOCK_CAUSE
  if w.cstate o = 6 ∧ w.on pg CLU_BYP_CFG_AUTO ∧ 1 ≤ cause ∧ bitOf (w.rd pg CLU_BYP_CFG_AMASK) (cause - 1) ∧ w.laneUp o then
    w.toBypass o b
  else w

/-- RECOV at the end of a cycle (R250); `ok` says that the cycle completed and seals. -/
def Work.recovStep (w : Work) (o : Nat) (ok : Bool) : Work :=
  let pg := pgCLU o
  if w.on pg CLU_CSTAT_RECOV then
    if w.cstate o = 3 ∧ ok then
      let w := w.modCl o fun k => { k with recovLeft := k.recovLeft - 1 }
      if (w.cl o).recovLeft = 0 then (w.cstat o CLU_CSTAT_RECOV 0).pmodeUpdate o else w
    else w.modCl o fun k => { k with recovLeft := w.rd pg CLU_CFG_RECOV_CYC }
  else w

/-- A request already acted on makes the state LOCKOUT at step 1 of a boundary (R248). -/
def Work.lockStep (w : Work) (o : Nat) (b : Int) : Work := if (w.cl o).safePend then w.setState o 6 b else w

/-! ### Commands -/

/-- The host's write of CLUcc.CMD with code `code`, which the command `i` stands for. -/
def Work.hostCmd (w : Work) (i : Instr) (c : Fin 48) (code : Nat) : Work :=
  w.hostAct i (pgCLU c + CLU_CMD.at 0) fun w => w.clusterCmd c.val code

/-- CMD_PRECHARGE (R245, R247). -/
def execCmdPrecharge (c : Fin 48) (s : State) : Host.Outcome State Fault Refusal :=
  nextDev s fun w => w.hostCmd (.cmdPrecharge c) c 1
/-- CMD_RUN (R245, R247). -/
def execCmdRun (c : Fin 48) (s : State) : Host.Outcome State Fault Refusal :=
  nextDev s fun w => w.hostCmd (.cmdRun c) c 2
/-- CMD_STOP (R245, R247). -/
def execCmdStop (c : Fin 48) (s : State) : Host.Outcome State Fault Refusal :=
  nextDev s fun w => w.hostCmd (.cmdStop c) c 3
/-- CMD_OFF (R245, R247). -/
def execCmdOff (c : Fin 48) (s : State) : Host.Outcome State Fault Refusal :=
  nextDev s fun w => w.hostCmd (.cmdOff c) c 4
/-- CMD_TEST (R245, R247). -/
def execCmdTest (c : Fin 48) (s : State) : Host.Outcome State Fault Refusal :=
  nextDev s fun w => w.hostCmd (.cmdTest c) c 5
/-- CMD_BYPASS (R245, R247). -/
def execCmdBypass (c : Fin 48) (s : State) : Host.Outcome State Fault Refusal :=
  nextDev s fun w => w.hostCmd (.cmdBypass c) c 6
/-- CMD_UNBYPASS (R245, R247). -/
def execCmdUnbypass (c : Fin 48) (s : State) : Host.Outcome State Fault Refusal :=
  nextDev s fun w => w.hostCmd (.cmdUnbypass c) c 7
/-- CMD_CLEAR (R245, R247). -/
def execCmdClear (c : Fin 48) (s : State) : Host.Outcome State Fault Refusal :=
  nextDev s fun w => w.hostCmd (.cmdClear c) c 8
/-- CMD_LOCKOUT (R245, R247). -/
def execCmdLockout (c : Fin 48) (s : State) : Host.Outcome State Fault Refusal :=
  nextDev s fun w => w.hostCmd (.cmdLockout c) c 9

/-- A boundary of region `n` is due at this instant and has not been carried out. -/
def Work.boundaryDue (w : Work) (n : Nat) : Bool :=
  match (w.rg n).nextB with
  | some b => decide (b ≤ t16 w.now)
  | none => false

/-- PRECHARGE_TIMEOUT (R247, R252): the timer of a cluster in PRECHARGE expires; with a boundary at the same instant, that
boundary compares the voltage first. -/
def execPrechargeTimeout (c : Fin 48) (s : State) : Host.Outcome State Fault Refusal :=
  nextDev s fun w =>
    if (w.cl c.val).pcTimer ∧ w.cstate c.val = 1 then
      if w.boundaryDue (c.val / 12) then w.modCl c.val fun k => { k with pcExpired := true } else w.pcTimeout c.val
    else w

/-- BYPASS_TIMEOUT (R247, R254): no confirmation that the bypass element has closed. -/
def execBypassTimeout (c : Fin 48) (s : State) : Host.Outcome State Fault Refusal :=
  nextDev s fun w =>
    if (w.cl c.val).bypTimer ∧ w.cstate c.val = 4 ∧ ¬ w.on (pgCLU c.val) CLU_CSTAT_BYPASSED then
      (w.modCl c.val fun k => { k with bypTimer := false }).flt (pgCLU c.val) .uc 19
    else w

/-- A cell-end self-test ends (R373). -/
def Work.stEnd (w : Work) (o : Nat) (ok : Bool) : Work :=
  let pg := pgCLU o
  let w := (w.wr pg CLU_PSTAT_ST_BUSY 0).modCl o fun k => { k with st := none }
  if ok then w else (w.wr pg CLU_PSTAT_ST_FAIL 1).flt pg .uc 25

/-- ST_REQ.GO with the masks that stand in ST_REQ (R373). -/
def Work.stGo (w : Work) (c : Nat) : Work :=
  let pg := pgCLU c
  let o := w.owner c
  let desat := w.rd pg CLU_ST_REQ_DESAT
  let vds := w.rd pg CLU_ST_REQ_VDS
  if (w.cstate o = 0 ∨ w.cstate o = 2) ∧ w.laneUp o ∧ ¬ w.on (pgCLU o) CLU_PSTAT_ST_BUSY then
    ((w.wr (pgCLU o) CLU_PSTAT_ST_BUSY 1).sendCmd o 5 (BitVec.ofNat 64 (desat * 2 ^ 52 + vds * 2 ^ 40))).modCl o
      fun k => { k with st := some (none, desat, vds) }
  else w.badval pg

/-- A write of ST_REQ with GO: the masks are RW fields, which a locked page keeps (R64, R373). -/
def Work.stReq (w : Work) (c desat vds : Nat) : Work :=
  let pg := pgCLU c
  (w.unlocked pg fun w => (w.wr pg CLU_ST_REQ_DESAT desat).wr pg CLU_ST_REQ_VDS vds).stGo c

/-- ST_REQ_GO (R373). -/
def execStReqGo (c : Fin 48) (desat vds : BitVec 12) (s : State) : Host.Outcome State Fault Refusal :=
  nextDev s fun w => w.hostAct (.stReqGo c desat vds) (pgCLU c + CLU_ST_REQ_GO.at 0) fun w => w.stReq c.val desat.toNat vds.toNat

/-- CE_SELFTEST_TIMEOUT (R373): 2.0 ms after the first send of the SELFTEST. -/
def execCeSelftestTimeout (c : Fin 48) (s : State) : Host.Outcome State Fault Refusal :=
  nextDev s fun w =>
    match (w.cl c.val).st with
    | some (some _, _, _) => w.stEnd c.val false
    | _ => w

/-- TRIPN_TRANSITION (R365): the filtered input changes. -/
def execTripnTransition (p : Fin 8) (active : Bool) (s : State) : Host.Outcome State Fault Refusal :=
  nextDev s fun w =>
    if w.on pgPKG PKG_TRIPN_CFG_EN p.val ∧ bitOf (w.rd pgPKG PKG_TRIPN_STAT) p.val ≠ active then
      let w := w.putBit pgPKG PKG_TRIPN_STAT p.val active
      if active then w.localEvent 6 p.val fun w o => bitOf (w.rd (pgCLU o) CLU_PCFG_TRIPN) p.val else w
    else w

/-- CHOPFB_TRANSITION (R369): the filtered feedback changes. -/
def execChopfbTransition (p : Fin 8) (active : Bool) (s : State) : Host.Outcome State Fault Refusal :=
  nextDev s fun w =>
    if w.on pgPKG PKG_CHOP_STAT_FB_ACT p.val = active then w
    else
      let w := w.wr pgPKG PKG_CHOP_STAT_FB_ACT (b2n active) p.val
      if active then
        let w := (w.wr pgPKG PKG_CHOP_STAT_FB_LAT 1 p.val).chopEval p.val false
        let w := w.flt pgPKG .uc 17
        w.when (w.on pgPKG PKG_SUPMON_UV_EN) fun w =>
          w.localEvent 7 p.val fun w o => bitOf (w.rd (pgCLU o) CLU_PCFG_CHFB) p.val
      else w

/-- CHOP_TMAX_ON_EXPIRY (R368): the output has been on for TMAX_ON without a break. -/
def execChopTmaxOnExpiry (p : Fin 8) (s : State) : Host.Outcome State Fault Refusal :=
  nextDev s fun w =>
    if w.on pgPKG PKG_CHOP_STAT_ON p.val ∧ ¬ w.on pgPKG PKG_CHOP_STAT_HRT_CTL p.val then
      let w := (w.wr pgPKG PKG_CHOP_STAT_TMAX 1 p.val).modChop p.val fun k => { k with minOff := true }
      (w.chopEval p.val false).flt pgPKG .ce 18
    else w

/-- CHOP_TMIN_OFF_EXPIRY (R368): the hold ends, and the output is on at once if H is 1. -/
def execChopTminOffExpiry (p : Fin 8) (s : State) : Host.Outcome State Fault Refusal :=
  nextDev s fun w =>
    if (w.chp p.val).minOff then (w.modChop p.val fun k => { k with minOff := false }).chopEval p.val true else w

end Sys2Proof.Machine
end

