-- ==== Sys2Proof/Machine/Slots.lean ====
section
/-! DEFINITION. Filing values into input slots (R25, R100, R177, R178): values for the current cycle up to its input
deadline, for the next cycle, and late copies. -/

namespace Sys2Proof.Machine

/-- CYC_STAT.PHASE of region `n` (R40): 0 stopped, 1 GATHER, 2 RECKON, 3 SCHEDULE. -/
def Work.phase (w : Work) (n : Nat) : Nat := w.rd (pgRG n) RG_CYC_STAT_PHASE

/-- The region's period in 1/16 ns at the nominal increment. -/
def Work.period16 (w : Work) (n : Nat) : Int := tick16 * w.rd (pgRG n) RG_CYC_PERIOD

/-- A second value for one slot and cycle is discarded (R178). -/
def filedAdd (l : List Filed) (f : Filed) : List Filed × Bool :=
  if l.any fun g => g.slot == f.slot then (l, true) else (l ++ [f], false)

/-- A value that the input deadline has passed goes to the slot's late copy (R100, R178); `shown` says that the slot's
status word describes the value's cycle (R181). -/
def Work.fileLate (w : Work) (n k : Nat) (v : Word) (shown : Bool) : Work :=
  let w := (w.put (lateAddr n k) v).count (pgABC n) ABC_LATE_COUNT
  if shown then w.put (slotStatAddr n k) (w.word (slotStatAddr n k) ||| 0x20000000#32) else w

/-- File a value for the cycle of region `n` whose boundary lies at `b` (R25, R178). -/
def Work.fileSlot (w : Work) (n : Nat) (f : Filed) (b : Int) : Work :=
  let r := w.rg n
  let dup (w : Work) := w.count (pgABC n) ABC_DUP_COUNT
  if w.rgFenced n then w.discard
  else if r.run && r.t0 == b && w.phase n == 1 then
    let q := filedAdd r.fillCur f
    if q.2 then dup w else w.modRg n fun r => { r with fillCur := q.1 }
  else if r.nextB == some b then
    let q := filedAdd r.fillNext f
    if q.2 then dup w else w.modRg n fun r => { r with fillNext := q.1 }
  else w.fileLate n f.slot f.val (r.tShown == some b)

/-- The nearest integer, halves up (R219, R286). -/
def roundR (x : Rat) : Int := (x + 1 / 2).floor

/-- A sample plan that can still be sent in time at `t` (R260); other frames stand. -/
def Timed.inTime (t : Int) : Timed → Bool
  | .sample _ _ due _ => decide (32000 ≤ due - t)
  | _ => true

/-- The low 24 bits of the nanoseconds of a time, as slot status words carry them (R181). -/
def ts24 (x : Int) : Nat := (timeOf16 x).ns % 2 ^ 24

end Sys2Proof.Machine
end

