-- ==== Sys2Proof/Machine/Carrier.lean ====
section
/-! DEFINITION. The region's grid of boundaries (R23, R34) and the carriers (R213 to R216, R220). Times are network times
in 1/16 ns. -/

namespace Sys2Proof.Machine

/-! ### Boundaries -/

/-- The carrier epoch E0 (R213). -/
def Work.epoch0 (w : Work) : Int :=
  (((w.rd pgPKG PKG_E0_S_HI * 2 ^ 32 + w.rd pgPKG PKG_E0_S_LO) * 1000000000 + w.rd pgPKG PKG_E0_NS) * 16 : Nat)

/-- The first point at or after `t` of the grid with origin `g` and step `p`. -/
def gridFrom (g p t : Rat) : Rat := g - ((g - t) / p).floor * p

/-- The first boundary at or after `t` of the region's grid, by the active or the shadow period and offset (R23). -/
def Work.gridB (w : Work) (n : Nat) (shadow : Bool) (t : Int) : Int :=
  let f (x : Field) : Int := if shadow then w.sh (pgRG n) x else w.rd (pgRG n) x
  (gridFrom (w.epoch0 + tick16 * f RG_CYC_OFS : Int) (tick16 * f RG_CYC_PERIOD : Int) t).floor

/-- The region's shadow set changes its grid (R34). -/
def Work.gridMoves (w : Work) (n : Nat) : Bool :=
  w.sh (pgRG n) RG_CYC_PERIOD != w.rd (pgRG n) RG_CYC_PERIOD || w.sh (pgRG n) RG_CYC_OFS != w.rd (pgRG n) RG_CYC_OFS

/-- Region `n` has yet to exchange its sets for a swap decided, or armed for a decision at or before `b` (R71, R73). -/
def Work.swapAhead (w : Work) (n : Nat) (b : Int) : Bool :=
  (w.on pgPKG PKG_SWAP_STAT_PENDING && !bitOf (w.rd pgPKG PKG_SWAP_STAT_RG_DONE) n) ||
    (w.on pgPKG PKG_SWAP_STAT_ARMED && match w.swap.d with
      | some d => decide (d ≤ b)
      | none => false)

/-- The boundary after boundary `b`: one period later, or where the new grid of a swap at `b` begins (R34). -/
def Work.nextAfter (w : Work) (n : Nat) (b : Int) : Int :=
  if w.swapAhead n b && w.gridMoves n then w.gridB n true (b + tick16 * w.sh (pgRG n) RG_CYC_PERIOD) else b + w.period16 n

/-! ### Operands (R218 to R220) -/

/-- PSRC acts (R215). -/
def CarCfg.acts (c : CarCfg) : Bool := c.psrc && !c.src

/-- Output slot `o` as edge generation sees it at the output deadline: the results of this cycle's RECKON, or in an
overrun cycle the last sealed ones (R219, R31). -/
def Work.outVal (w : Work) (n o : Nat) : Int :=
  let r := w.rg n
  let sealed := w.word (outSlotAddr n o)
  let v := if r.overrun then sealed else match r.pendOut.find? fun e => e.1 == o with
    | some e => e.2
    | none => sealed
  v.toInt

/-- A Q1.31 number as a fraction. -/
def q31 (v : Int) : Rat := (v : Rat) / (2 ^ 31 : Nat)

/-- `v` as a fraction in which full scale is exactly 1 (R218). -/
def q31one (v : Int) : Rat := if v = 2 ^ 31 - 1 then 1 else q31 v

/-- The period that PSLOT delivers, and whether the factor was clamped and the period raised (R218). -/
def Work.slotPeriod (w : Work) (u : Nat) : Nat × Bool × Bool :=
  let pg := pgUNIT u
  let v := q31 (w.outVal (u / 48) (w.rd pg UNIT_SLOTS_PSLOT))
  let c := max (-1 / 2) (min (1 / 2) v)
  let p := (roundR (w.rd pg UNIT_PER * (1 + c))).toNat
  (max p 32000, decide (c ≠ v), decide (p < 32000))

/-- The HIGH window of a mode (R217): the phase at which it starts and its length, and whether a slot value was clamped. -/
def Work.window (w : Work) (u : Nat) (c : CarCfg) : Rat × Rat × Bool :=
  let pg := pgUNIT u
  let slot (f : Field) := w.outVal (u / 48) (w.rd pg f)
  let qen := w.on pg UNIT_SLOTS_QEN
  let m := slot UNIT_SLOTS_MSLOT
  let q := slot UNIT_SLOTS_QSLOT
  let hd := c.hd
  let z : Rat × Rat × Bool :=
    match c.mode with
    | 0 =>
      let d : Rat := if c.src then (hd.duty : Rat) / hd.per else if m = 2 ^ 31 - 1 then 1 else (q31 m + 1) / 2
      (if c.saw then 0 else -d / 2, d, false)
    | 1 => (if c.src then (hd.on : Rat) / hd.per else if qen then q31 q / 2 else 0, 1 / 2, false)
    | _ =>
      if c.src then ((hd.on : Rat) / hd.per, (hd.duty : Rat) / hd.per, false)
      else (q31 (max m 0), if qen then q31one (max q 0) else 1 / 2, decide (m < 0) || (qen && decide (q < 0)))
  if c.inv then (z.1 + z.2.1, 1 - z.2.1, z.2.2) else z

/-! ### Carrier periods -/

/-- φ for period `per` (R214). -/
def Work.phiOf (w : Work) (u per : Nat) : Nat :=
  let pg := pgUNIT u
  let o := pgCLU (w.owner (u / 4))
  let n := w.rd o CLU_SPREAD_N
  let base := w.rd pg UNIT_PH_BASE
  if w.on pg UNIT_MODE_SPREAD ∧ 0 < n then
    (base + w.rd o CLU_SPREAD_RANK * min (w.rd pg UNIT_PH_SPAN) per / n) % per
  else base % per

/-- The configuration now in force for the unit's carrier. -/
def Work.carCfg (w : Work) (u : Nat) : CarCfg :=
  let pg := pgUNIT u
  let src := w.on pg UNIT_MODE_SRC
  let k := w.un u
  let per := if src then k.hd.per else w.rd pg UNIT_PER
  ⟨w.rd pg UNIT_MODE_MODE, w.on pg UNIT_MODE_SAW, w.on pg UNIT_MODE_INV, src, w.on pg UNIT_MODE_PSRC, per, w.phiOf u per,
    if src then k.hd else default, src && k.hdn⟩

/-- No period-level change leads from `a` to `b`: with PSRC acting in both, only MODE, SAW and INV count (R215, R216). -/
def sameCfg (a b : CarCfg) : Bool :=
  if a.acts && b.acts then a.mode == b.mode && a.saw == b.saw && a.inv == b.inv else a == b

/-- The first grid start of the configuration at or after `t` (R214). -/
def CarCfg.start (c : CarCfg) (e0 : Int) (t : Rat) : Rat := gridFrom (e0 + c.phi : Int) c.per t

/-- A period's end. -/
def Span.stop (p : Span) : Rat := p.ts + p.len

/-- The period after `p`, with a change `chg` that waits for its end and the slot period `pk` (R215, R216); the change is
spent with it. -/
def Span.next (e0 : Int) (pk : Nat) (chg : Option CarCfg) (p : Span) : Span :=
  let t := p.stop
  match chg with
  | none => if p.cfg.acts then ⟨t, pk, p.cfg, false, true⟩ else ⟨t, p.cfg.per, p.cfg, false, false⟩
  | some c =>
    if c.acts && (p.cfg.acts || c == { p.cfg with psrc := true }) then ⟨t, pk, c, false, true⟩
    else ⟨t, c.start e0 (t + (c.per : Rat) / 2) - t, c, true, false⟩

/-- The periods from `p` through the first that starts at or after `lim`. -/
def spansFrom (e0 : Int) (pk : Nat) (lim : Rat) : Nat → Option CarCfg → Span → List Span
  | 0, _, p => [p]
  | fuel + 1, chg, p => if lim ≤ p.ts then [p] else p :: spansFrom e0 pk lim fuel none (p.next e0 pk chg)

/-- The period that runs at `t` on the configuration's grid (R214, R216). -/
def Work.gridSpan (w : Work) (u : Nat) (t : Int) : Span :=
  let c := w.carCfg u
  let e0 := w.epoch0
  let s := c.start e0 t
  let ts := if s = t then s else s - c.per
  if c.acts then
    let pk := (w.slotPeriod u).1
    ⟨t - (t - ts) / c.per * pk, pk, c, false, true⟩
  else ⟨ts, c.per, c, false, false⟩

/-- The period that runs at `b`, with the slot's new period in force from there (R216). -/
def Work.spanAt (w : Work) (u : Nat) (b : Int) : Span :=
  match (w.un u).car with
  | none => w.gridSpan u b
  | some p =>
    if p.slot then
      let pk := (w.slotPeriod u).1
      ⟨b - (b - p.ts) / p.len * pk, pk, p.cfg, p.trans, true⟩
    else p

/-- The change that waits at boundary `b1` (R215): a configuration other than the newest taken up. -/
def Work.changeAt (w : Work) (u : Nat) (p : Span) : Option CarCfg :=
  let chg := (w.un u).chg
  let c := w.carCfg u
  if sameCfg (chg.getD p.cfg) c then chg.map fun _ => c else some c

/-- The carrier's periods from the one that runs at `b1` through the first that starts 2.0 µs or more after `b2`. -/
def Work.spans (w : Work) (u : Nat) (b1 b2 : Int) : List Span :=
  let p := w.spanAt u b1
  spansFrom w.epoch0 (w.slotPeriod u).1 (b2 + 32000 : Int) 1100 (w.changeAt u p) p

/-- The carrier moves on to the edge interval that starts at `b2`: PHASE_MOVED, PER_CLAMP, SLOT_CLAMP and PH_NOW follow. -/
def Work.moveCarrier (w : Work) (u : Nat) (b1 b2 : Int) : Work :=
  let pg := pgUNIT u
  let p := w.spanAt u b1
  let chg := w.changeAt u p
  let l := w.spans u b1 b2
  let cur := ((l.takeWhile fun s => decide (s.ts ≤ (b2 : Rat))).getLast?).getD p
  let z := w.slotPeriod u
  let acts := l.any fun s => s.slot && decide (s.ts < (b2 : Rat))
  let w := w.when (acts && z.2.1) fun w => w.wr pg UNIT_ESTAT_SLOT_CLAMP 1
  let w := w.when (acts && z.2.2) fun w => w.wr pg UNIT_ESTAT_PER_CLAMP 1
  let w := w.when (l.any fun s => s.trans && decide ((b1 : Rat) ≤ s.ts) && decide (s.ts < (b2 : Rat))) fun w =>
    w.wr pg UNIT_ESTAT_PHASE_MOVED 1
  (w.wr pg UNIT_PH_NOW cur.cfg.phi).modUn u fun k => { k with car := some cur, chg := if cur = p then chg else none }

/-! ### Sample plans (R259, R260) -/

/-- The extremes x = 0 and x = ½ of a chain of periods. -/
def extremes (l : List Span) : List Rat :=
  l.flatMap fun s => [s.ts, s.ts + s.len / 2, s.stop]

/-- The sample instant of the cycle that starts at `b`, from the periods known (R259). -/
def Work.sampleAt (w : Work) (o : Nat) (b per : Int) (l : List Span) : Option Int :=
  let pg := pgCLU o
  let t := b + tick16 * toSigned 20 (w.rd pg CLU_SPLAN_OFS)
  if w.on pg CLU_SPLAN_TRACK then
    match (extremes l).filter fun e => decide (e ≤ (t : Rat)) && decide (((t - per : Int) : Rat) < e) with
    | [] => none
    | e :: r => some (roundR (r.foldl max e))
  else some t

/-- Insert by key, before larger keys. -/
def insertBy {α : Type} (k : α → Int) (x : α) : List α → List α
  | [] => [x]
  | y :: r => if k x < k y then x :: y :: r else y :: insertBy k x r

/-- Latest send time of a timed frame, by which those that wait are ordered (R275): 1.5 µs before an edge is due (R28, R232),
and so for the PROF before it and for a CANCEL (R237); 2.0 µs before a sample instant (R260). -/
def Timed.key : Timed → Int
  | .edge _ e => e.due - 24000
  | .prof _ due _ => due - 24000
  | .sample _ _ due _ => due - 32000

/-- Put a timed frame on the cluster's lane. -/
def Work.timed (w : Work) (o : Nat) (x : Timed) : Work :=
  w.modLn o fun l => { l with timed := insertBy Timed.key x (l.timed.filter (Timed.inTime (t16 w.now))) }

/-- Plan the sample instants of cluster `o` that lie from `lo` up to `hi`, for the cycles whose boundaries are `bs`; a
standby region plans and sends nothing. -/
def Work.planSamples (w : Work) (o : Nat) (bs : List Int) (per lo hi : Int) (l : List Span) : Work :=
  let n := o / 12
  let pg := pgCLU o
  let w := w.modCl o fun k => { k with plans := k.plans.filter fun p => decide ((w.rg n).t0 - per ≤ p.1) }
  if w.on pg CLU_SPLAN_EN ∧ w.topo o ≠ 0 then
    w.each bs fun w b =>
      match w.sampleAt o b per l with
      | some s =>
        if lo ≤ s ∧ s < hi then
          let m := w.rd pg CLU_SPLAN_VMASK
          let w := w.modCl o fun k => { k with plans := k.plans ++ [(b, s, m)] }
          w.when (!(w.rg n).standby) fun w =>
            w.timed o (.sample m (if w.topo o = 3 then m else 0) s (s - per - 32000))
        else w
      | none => w
  else w

/-- Sample plans made at an output deadline for the instants from 2.0 µs after `b1` up to 2.0 µs after `b2`. -/
def Work.planRegion (w : Work) (n : Nat) (b1 b2 : Int) : Work :=
  let per := w.period16 n
  w.each ((clustersOf n).filter fun c => w.owner c == c) fun w o =>
    w.planSamples o [b1, b2, b2 + per] per (b1 + 32000) (b2 + 32000) (w.spans (4 * o) b1 b2)

/-- The sample plans of region `n` are withdrawn: no cycle that they name will run. -/
def Work.dropPlans (w : Work) (n : Nat) : Work :=
  w.each (clustersOf n) fun w o =>
    (w.modCl o fun k => { k with plans := [] }).modLn o fun l => { l with timed := l.timed.filter fun x => match x with
      | .sample .. => false
      | _ => true }

/-- The region's carriers and plans start afresh before the boundary `b` (R214, R39, R131): plans reach to 2.0 µs after the
next boundary. -/
def Work.restartCarriers (w : Work) (n : Nat) (b : Int) : Work :=
  let per := w.period16 n
  let now := t16 w.now
  let w := w.each (upto 48) fun w i => w.modUn (48 * n + i) fun k => { k with car := none, chg := none }
  (w.dropPlans n).each ((clustersOf n).filter fun c => w.owner c == c) fun w o =>
    w.planSamples o [b, b + per, b + 2 * per] per (now + 32000) (b + per + 32000) (w.spans (4 * o) now (b + per))

/-! ### Starting and leaving cycles -/

/-- The advances of the set-point channels are discarded (R192): OUT shows the sealed outputs again. -/
def Work.spDrop (w : Work) (n : Nat) : Work :=
  let r := w.rg n
  let w := w.each r.spPend fun w e => w.wr (pgSP n (e.1 / 16)) SP_CH_OUT (ofSigned 32 (vget r.sp e.1).out) (e.1 % 16)
  w.modRg n fun r => { r with spPend := [] }

/-- The running cycle is left without sealing: nothing of it stands (R131, R192), and nothing is filed for a cycle to come (R25). -/
def Work.leaveCycle (w : Work) (n : Nat) : Work :=
  ((((w.spDrop n).wr (pgRG n) RG_CYC_STAT_PHASE 0).wr (pgABC n) ABC_RSTAT_DONE 0).dropPlans n).modRg n fun r => { r with
    run := false, startPend := false, stopPend := false, nextB := none, reckon := false, pc := 0, results := [], resErrs := 0,
    abandoned := false, tDone := none, pendState := [], pendOut := [], overrun := false, fillCur := [], fillNext := [], lpPend := [] }

/-- The region's next cycle starts at the first boundary of its grid at least 400 ticks from now (R39, R131). -/
def Work.awaitGrid (w : Work) (n : Nat) : Work :=
  let b := w.gridB n false (t16 w.now + 400 * tick16)
  (w.modRg n fun r => { r with startPend := true, nextB := some b }).restartCarriers n b

end Sys2Proof.Machine
end

