-- ==== Sys2Proof/Machine/Edges.lean ====
section
/-! DEFINITION. From modulation to edge words: the stages of R211 over one edge interval, and the adapters of dead time
and profile (R226, R227, R236). Times are network times in 1/16 ns. -/

namespace Sys2Proof.Machine

/-- A command interval between stages. -/
structure Ivl where
  s : Rat
  e : Rat
  /-- HIGH -/
  hi : Bool
  /-- it began before the edge interval and stands (R222) -/
  fixed : Bool
  str : Bool
  ref : Bool
  /-- a neighbour has shortened it: it may be dropped, never stretched -/
  clip : Bool
  /-- the rest of an interval already dropped and counted -/
  quiet : Bool
  deriving DecidableEq, Repr, Inhabited

/-- What shapes the intervals of a unit: MINP, the edge interval, the adapters' values by period start, and whether the leg
starts from OFF. -/
structure Shape where
  tmin : Nat
  stretch : Bool
  b1 : Rat
  b2 : Rat
  dts : List (Rat × DtVal)
  off : Bool

/-- The period start and the adapters' values at time `t`. -/
def Shape.at (p : Shape) (t : Rat) : Rat × DtVal :=
  ((p.dts.filter fun d => decide (d.1 ≤ t)).getLast?).getD (p.dts.headD default)

/-- The dead time before an interval of command `hi` that starts at `t`. -/
def Shape.dead (p : Shape) (hi : Bool) (t : Rat) : Rat := if hi then (p.at t).2.lh else (p.at t).2.hl

/-- The interval's switch on-time falls short of T_MIN; `first` says that it starts from OFF, without a dead time. -/
def Shape.need (p : Shape) (first : Bool) (i : Ivl) : Rat := p.tmin + if first then 0 else p.dead i.hi i.s

/-! ### Stage 1 -/

/-- The commands of one period by phase, for a HIGH window of length `len` from phase `w0` (R217). -/
def segments (w0 len : Rat) : List (Rat × Rat × Bool) :=
  if len ≤ 0 then [(0, 1, false)]
  else if 1 ≤ len then [(0, 1, true)]
  else
    let a := w0 - w0.floor
    if a + len ≤ 1 then [(0, a, false), (a, a + len, true), (a + len, 1, false)]
    else [(0, a + len - 1, true), (a + len - 1, a, false), (a, 1, true)]

/-- Join neighbours of one command, and leave out intervals of zero length (R217). -/
def joinIvls : List Ivl → List Ivl
  | [] => []
  | a :: r =>
    if a.e ≤ a.s then joinIvls r
    else match joinIvls r with
      | b :: t => if a.hi = b.hi then { a with e := b.e, str := a.str || b.str, ref := a.ref || b.ref } :: t else a :: b :: t
      | [] => [a]

/-- The ideal commands from `b1` to the end of the last period. -/
def Work.ideal (w : Work) (u : Nat) (b1 : Rat) (l : List Span) : List Ivl :=
  joinIvls (l.flatMap fun p =>
    let z := w.window u p.cfg
    (segments z.1 z.2.1).map fun g => ⟨max (p.ts + g.1 * p.len) b1, p.ts + g.2.1 * p.len, g.2.2, false, false, false, false, false⟩)

/-- The list from time `t` on, its head shortened. -/
def clipFrom (t : Rat) : List Ivl → List Ivl
  | [] => []
  | i :: r => if i.e ≤ t then clipFrom t r else if i.s < t then { i with s := t, clip := true } :: r else i :: r

/-- Stage 1 with what earlier cycles have left in force at `b1` (R219, R222). -/
def LegUnit.carry (k : LegUnit) (b1 : Rat) (l : List Ivl) : List Ivl :=
  match k.cmd with
  | none => l
  | some (c, since) =>
    match k.minEnd with
    | some m => joinIvls (⟨since, max m b1, c, true, true, false, false, false⟩ :: clipFrom m l)
    | none =>
      let l := match l with
        | i :: r => if k.dropping && i.hi != c then { i with clip := true, quiet := true } :: r else l
        | [] => []
      joinIvls (⟨since, b1, c, true, false, false, false, false⟩ :: l)

/-! ### Stages 2 to 4 -/

/-- The head of the rest starts at `t`, shortened. -/
def clipHead (t : Rat) : List Ivl → List Ivl
  | [] => []
  | i :: r => { i with s := t, clip := true } :: r

/-- The interval between `prev` and `next` is dropped: they join. -/
def joinOver (prev next : Ivl) : Ivl :=
  { prev with e := max prev.e next.e, str := prev.str || next.str, ref := prev.ref || next.ref }

/-- Stage 2 (R222) on the intervals that start before `b2`, earlier ones in `acc`, newest first: the intervals, the drops
and the stretches counted. -/
def stage2 (p : Shape) : Nat → List Ivl → List Ivl → Nat → Nat → List Ivl × Nat × Nat
  | 0, acc, l, d, t => (acc.reverse ++ l, d, t)
  | _, acc, [], d, t => (acc.reverse, d, t)
  | _, acc, [i], d, t => (acc.reverse ++ [i], d, t)
  | fuel + 1, acc, i :: j :: r, d, t =>
    let first := acc.isEmpty && p.off
    let need := p.need first i
    if p.b2 ≤ i.s then (acc.reverse ++ i :: j :: r, d, t)
    else if need ≤ i.e - i.s then stage2 p fuel (i :: acc) (j :: r) d t
    else if i.fixed then
      if p.stretch && !i.str then
        stage2 p fuel ({ i with e := i.s + need, str := true } :: acc) (clipHead (i.s + need) (j :: r)) d (t + 1)
      else stage2 p fuel (i :: acc) (j :: r) d t
    else if !p.stretch || i.clip || i.str then
      let d := if i.quiet then d else d + 1
      match acc with
      | [] => stage2 p fuel [] ({ j with s := i.s } :: r) d t
      | q :: a => stage2 p fuel (joinOver q j :: a) (if j.e < q.e then clipHead q.e r else r) d t
    else
      let g := (need - (i.e - i.s)) / 2
      let x := if i.s - g < p.b1 then { i with e := i.s + need, str := true } else { i with s := i.s - g, e := i.e + g, str := true }
      let rest := clipHead x.e (j :: r)
      match acc with
      | [] => stage2 p fuel [x] rest d (t + 1)
      | q :: a =>
        let q := { q with e := x.s }
        if !q.fixed && decide (q.e - q.s < p.need (a.isEmpty && p.off) q) then
          match a with
          | [] => stage2 p fuel [{ x with s := q.s }] rest (d + 1) (t + 1)
          | z :: a => stage2 p fuel ({ joinOver z x with str := true } :: a) rest (d + 1) (t + 1)
        else stage2 p fuel (x :: q :: a) rest d (t + 1)

/-- A refresh interval absorbs the LOW intervals it overlaps and clips the HIGH ones (R223). -/
def insertRefresh (l : List Ivl) (s e : Rat) : List Ivl :=
  let meets := l.filter fun i => !i.hi && decide (i.s < e) && decide (s < i.e)
  let s := meets.foldl (fun m i => min m i.s) s
  let e := meets.foldl (fun m i => max m i.e) e
  let fixed := meets.any fun i => i.fixed
  let before := (l.filter fun i => decide (i.s < s)).map fun i => if s < i.e then { i with e := s, clip := true } else i
  let after := (l.filter fun i => decide (e < i.e)).map fun i => if i.s < e then { i with s := e, clip := true, fixed := false } else i
  joinIvls (before ++ ⟨s, e, false, fixed, false, true, false, false⟩ :: after)

/-- Stage 4 (R224): HIGH intervals that stage 3 shortened are dropped where they fall short; with the drops counted. -/
def stage4 (p : Shape) : Nat → List Ivl → List Ivl → Nat → List Ivl × Nat
  | 0, acc, l, d => (acc.reverse ++ l, d)
  | _, acc, [], d => (acc.reverse, d)
  | _, acc, [i], d => (acc.reverse ++ [i], d)
  | fuel + 1, acc, i :: j :: r, d =>
    if i.hi && i.clip && !i.fixed && decide (i.s < p.b2) && decide (i.e - i.s < p.need (acc.isEmpty && p.off) i) then
      match acc with
      | [] => stage4 p fuel [] ({ j with s := i.s } :: r) (d + 1)
      | q :: a => stage4 p fuel (joinOver q j :: a) r (d + 1)
    else stage4 p fuel (i :: acc) (j :: r) d

/-! ### Stage 5 -/

/-- An edge before encoding: its exact time and the leg state after it. -/
structure Edge where
  t : Rat
  st : Nat
  refr : Bool
  str : Bool
  dts : Bool
  deriving DecidableEq, Repr, Inhabited

/-- The edges of the intervals (R225), `prev` before the first; an on edge that its own off edge overtakes does not
exist. -/
def stage5 (p : Shape) : Option Ivl → List Ivl → List Edge
  | _, [] => []
  | prev, i :: r =>
    let last := r.isEmpty
    let st := if i.hi then 1 else 2
    let here := match prev with
      | none => if i.fixed then [] else [⟨i.s, st, i.ref, i.str, false⟩]
      | some q =>
        let v := (p.at i.s).2
        let safe := if i.hi then v.sLH else v.sHL
        let on := i.s + p.dead i.hi i.s
        let off : Edge := ⟨i.s, 0, i.ref || q.ref, i.str || q.str, safe⟩
        if last || decide (on < i.e) then [off, ⟨on, st, i.ref, i.str, safe⟩] else [off]
    here ++ stage5 p (some i) r

/-- Low-side on-time of a leg between `lo` and `hi`, from its edges in order: time and state after each (R223). -/
def lowTime (lo hi : Rat) : Bool → Rat → List (Rat × Nat) → Rat
  | low, t, [] => if low then max 0 (hi - max t lo) else 0
  | low, t, (x, st) :: r => (if low then max 0 (min x hi - max t lo) else 0) + lowTime lo hi (st == 2) x r

/-! ### Stage 3 -/

/-- The periods that end a refresh window, with the window's start, among those counted; the count and the start carried
on (R223). -/
def windows (n : Nat) : List Span → Nat → Rat → List (Span × Rat) × Nat × Rat
  | [], c, st => ([], c, st)
  | p :: r, c, st =>
    let st := if c = 0 then p.ts else st
    if n ≤ c + 1 then
      let z := windows n r 0 st
      ((p, st) :: z.1, z.2)
    else windows n r (c + 1) st

/-- Where the refresh of a window lies (R223): start and end. -/
def Shape.refreshAt (p : Shape) (sp : Span) (tref : Nat) : Rat × Rat :=
  let len := tref + p.dead false sp.ts
  let s := if sp.cfg.mode = 0 ∧ ¬ sp.cfg.saw then sp.ts + sp.len / 2 - len / 2 else sp.stop - len
  (max s p.b1, max s p.b1 + len)

/-! ### Stage 6 -/

/-- Stage 6 (R228): the interlock's switch states, the edges it lets through, and its removals. The off edge of a removed on edge
goes with it, in the next edge interval too; `twin` is the due time of a pair of on edges removed together. -/
def stage6 (dtMin : Nat) : Option Rat → LegUnit → List Edge → Nat → LegUnit × List Edge × Nat
  | _, k, [], n => (k, [], n)
  | twin, k, e :: r, n =>
    if e.st = 0 then
      if k.skip then stage6 dtMin twin { k with skip := false } r n
      else
        let k := { k with offHi := if k.onHi then some e.t else k.offHi, offLo := if k.onLo then some e.t else k.offLo,
                          onHi := false, onLo := false }
        let z := stage6 dtMin twin k r n
        (z.1, e :: z.2.1, z.2.2)
    else
      let held (on : Bool) (off : Option Rat) := on || match off with
        | some t => decide (e.t < t + dtMin)
        | none => false
      let both := r.any fun x => x.t == e.t && x.st != 0 && x.st != e.st
      if both || twin == some e.t || (if e.st = 1 then held k.onLo k.offLo else held k.onHi k.offHi) then
        stage6 dtMin (if both then some e.t else twin) { k with skip := true } r (n + 1)
      else
        let z := stage6 dtMin twin { k with onHi := k.onHi || e.st == 1, onLo := k.onLo || e.st == 2, skip := false } r n
        (z.1, e :: z.2.1, z.2.2)

/-! ### Adapters -/

/-- One direction of the dead-time adapter (R226, R227): dead time, flag, misses, and entry into DT_SAFE. -/
def Work.adaptDt (w : Work) (u dt : Nat) (flag : Bool) (miss : Nat) (rep : Option (Nat × Bool)) : Nat × Bool × Nat × Bool :=
  let pg := pgUNIT u
  let safe := w.rd pg UNIT_DT_SAFE_SAFE
  let step : Int := w.rd pg UNIT_DT_CTL_STEP
  if !w.on pg UNIT_DT_CTL_ADAPT then (w.dtLim u safe, false, 0, false)
  else match rep with
    | some (tc, false) =>
      let e : Int := tc + w.rd pg UNIT_DT_SAFE_MARGIN - dt
      (w.dtLim u (dt + max (-step) (min step e)), false, 0, false)
    | _ =>
      if !flag && decide (w.rd pg UNIT_DT_CTL_K ≤ miss + 1) then (safe, true, miss + 1, true) else (dt, flag, miss + 1, false)

/-- One direction of profile-follow (R236). -/
def Work.adaptPre (w : Work) (u : Nat) (en tgt lo hi base : Field) (t : Nat) (plat : Option Nat) : Nat :=
  let pg := pgUNIT u
  let step : Int := w.rd pg UNIT_PF_CTL_STEP
  let top := w.rd pg hi
  if !w.on pg en then w.rd pg base
  else match plat with
    | some p =>
      let v : Int := t + max (-step) (min step ((p : Int) - w.rd pg tgt))
      (min (max v (min (w.rd pg lo) top : Nat)) top).toNat
    | none => t

/-- The adapters at a period start (R226, R227, R236). -/
def Work.adapt (w : Work) (u : Nat) : Work :=
  let pg := pgUNIT u
  let k := w.un u
  let v := (k.dtq.getLast?).getD k.dt
  let h := w.adaptDt u v.hl v.sHL k.missHL k.repHL
  let l := w.adaptDt u v.lh v.sLH k.missLH k.repLH
  let on := w.adaptPre u UNIT_PF_CTL_ON_EN UNIT_PF_TGT_ON UNIT_PF_LIM_ON_T_PRE_MIN UNIT_PF_LIM_ON_T_PRE_MAX UNIT_PROF_ON_T_PRE v.on k.platOn
  let off :=
    w.adaptPre u UNIT_PF_CTL_OFF_EN UNIT_PF_TGT_OFF UNIT_PF_LIM_OFF_T_PRE_MIN UNIT_PF_LIM_OFF_T_PRE_MAX UNIT_PROF_OFF_T_PRE v.off k.platOff
  let x : DtVal := ⟨h.1, l.1, h.2.1, l.2.1, on, off⟩
  let w := w.modUn u fun k => { k with dtq := k.dtq ++ [x], missHL := h.2.2.1, missLH := l.2.2.1, repHL := none, repLH := none,
                                       platOn := none, platOff := none }
  let enter (w : Work) := (w.count pg UNIT_DTS_COUNT).flt pg .ce 17
  ((w.dtShow u x).when h.2.2.2 enter).when l.2.2.2 enter

/-- A swap changes a configured T_PRE: adaptation starts again from it (R236). -/
def Work.restartPre (w : Work) (u on off : Nat) : Work :=
  let pg := pgUNIT u
  let f (v : DtVal) : DtVal :=
    { v with on := if on = w.rd pg UNIT_PROF_ON_T_PRE then v.on else w.rd pg UNIT_PROF_ON_T_PRE
             off := if off = w.rd pg UNIT_PROF_OFF_T_PRE then v.off else w.rd pg UNIT_PROF_OFF_T_PRE }
  w.modUn u fun k => { k with dt := f k.dt, dtq := k.dtq.map f }

/-! ### One unit's edge interval -/

/-- The unit's cell wants edges from it (R212). -/
def Work.wanted (w : Work) (u : Nat) : Bool :=
  match w.unitLeg u with
  | none => false
  | some (o, _) =>
    w.on (pgUNIT u) UNIT_MODE_EN && !(w.rg (u / 48)).standby && !(w.cl o).safePend &&
      (w.cstate o == 3 || (w.cstate o == 5 && w.on (pgUNIT u) UNIT_MODE_SRC))

/-- The adapters' values for each period: the one running at the interval's start keeps its own, each period start in the
interval takes the next. -/
def dtChain (b1 b2 : Rat) : DtVal → List DtVal → List Span → List (Rat × DtVal)
  | _, _, [] => []
  | v, q, p :: r =>
    if b1 ≤ p.ts ∧ p.ts < b2 then
      let v := q.headD v
      (p.ts, v) :: dtChain b1 b2 v q.tail r
    else (p.ts, v) :: dtChain b1 b2 v q r

/-- The second word of a PROF message (R306). -/
def Work.profWord (w : Work) (u : Nat) (v : DtVal) : Nat :=
  let pg := pgUNIT u
  w.rd pg UNIT_PROF_ON_S_SLOPE * 2 ^ 60 + w.rd pg UNIT_PROF_ON_T_SLOPE * 2 ^ 46 + v.on * 2 ^ 32 +
    w.rd pg UNIT_PROF_OFF_S_SLOPE * 2 ^ 28 + w.rd pg UNIT_PROF_OFF_T_SLOPE * 2 ^ 14 + v.off

/-- The edge is due at or after a freeze point that is to come (R237, R238). -/
def Work.afterFreeze (w : Work) (t : Rat) : Bool :=
  match w.hearth.frz with
  | some f => decide ((f : Rat) ≤ t)
  | none => false

/-- The PROF message that the leg's next edge word, due at `due`, needs, unless the cell end has it (R235, R302). -/
def Work.profTo (w : Work) (u o leg : Nat) (due : Int) (word : Nat) : Work :=
  w.when ((w.un u).prof != some word) fun w =>
    (w.timed o (.prof leg due (BitVec.ofNat 64 word))).modUn u fun k => { k with prof := some word }

/-- Edge words go to the lane, each behind the PROF message that it needs (R231, R235). -/
def Work.emitEdges (w : Work) (u o leg : Nat) (p : Shape) (l : List Edge) : Work :=
  w.each (l.filter fun e => !w.afterFreeze e.t) fun w e =>
    let k := w.un u
    let v := p.at e.t
    let word := match k.prof with
      | some x => if v.1 < p.b1 then x else w.profWord u v.2
      | none => w.profWord u v.2
    let due := roundR e.t
    ((w.profTo u o leg due word).timed o (.edge u ⟨false, leg, e.st, e.refr, e.str, e.dts, due⟩)).modUn u fun k => { k with hist := (due, e.st) :: k.hist }

/-- Older edges than the refresh window and 1 ms before `b` are forgotten, but for the last of them. -/
def trimHist (b : Int) (h : List (Int × Nat)) : List (Int × Nat) :=
  h.takeWhile (fun e => decide (b ≤ e.1)) ++ (h.dropWhile fun e => decide (b ≤ e.1)).take 1

/-- The comparison of the interlock's two copies (R229): `diff` names the switches, bit 0 high and bit 1 low, whose outputs
differ. An armed injection shows its own bit on equal copies; a real difference is an interlock fault that is masked
(DESIGN CHOICE, log entry 51). -/
def Work.ilkCompare (w : Work) (u diff : Nat) : Work :=
  let pg := pgUNIT u
  let w := w.when (w.armedFor pg 0) fun w => w.injDone pg (diff == 0)
  w.when (diff != 0) fun w => ((w.wr pg UNIT_ESTAT_ILK 1).count pg UNIT_ILK_COUNT).flt pg .ce 16

/-- Stages 1 to 7 of an emitting unit for the edge interval from `b1` to `b2`; `ilk` is what the interlock's comparison shows. -/
def Work.shapeUnit (w : Work) (u o leg : Nat) (b1 b2 : Int) (ilk : Nat) : Work :=
  let pg := pgUNIT u
  let k := w.un u
  let l := w.spans u b1 b2
  let inside := l.filter fun p => decide ((b1 : Rat) ≤ p.ts) && decide (p.ts < (b2 : Rat))
  let p : Shape := ⟨w.rd pg UNIT_MINP_T_MIN, w.on pg UNIT_MINP_STRETCH, b1, b2, dtChain b1 b2 k.dt k.dtq l, k.cmd.isNone⟩
  let raw := w.ideal u b1 l
  let base := k.carry b1 raw
  let fuel := 2 * base.length + 2
  let z := stage2 p fuel [] base 0 0
  let counted := if k.fresh then (l.take 1).filter (fun s => decide (s.ts < (b1 : Rat))) ++ inside else inside
  let ren := w.on pg UNIT_REFR_CTL_EN
  let wn := windows (w.rd pg UNIT_REFR_CTL_WINDOW) (if ren then counted else []) k.refrN k.refrStart
  let whole := (stage5 p none (stage2 { p with b2 := ((l.getLast?).map Span.stop).getD b2 } fuel [] base 0 0).1)
  let pend : List Edge := match k.pendOn with
    | some e => [⟨e.due, e.st, e.refr, e.str, e.dts⟩]
    | none => []
  let past := (k.hist.reverse.filter fun e => decide (e.1 < b1)).map fun e => ((e.1 : Rat), e.2)
  let planned := (pend ++ whole).map fun e => (e.t, e.st)
  let due := wn.1.filter fun x => decide (lowTime x.2 x.1.stop false x.2 (past ++ planned) < w.rd pg UNIT_REFR_T_T_REF_MIN)
  let fresh := due.map fun x => p.refreshAt x.1 (w.rd pg UNIT_REFR_T_T_REF)
  let refr := (if ren then k.refr.filter fun x => decide ((b1 : Rat) < x.2) else []) ++ fresh
  let ivls := (z.1.map fun i => { i with clip := false })
  let y := if refr.isEmpty then (ivls, 0) else
    let ins := refr.foldl (fun l x => insertRefresh l x.1 x.2) ivls
    stage4 p (ins.length + 2) [] ins 0
  let edges := (pend.filter fun e => match y.1 with
      | i :: _ :: _ => decide (e.t < i.e)
      | _ => true) ++ stage5 p none y.1
  let now := edges.filter fun e => decide (e.t < (b2 : Rat))
  let later := (edges.find? fun e => decide ((b2 : Rat) ≤ e.t)).filter fun e => e.st != 0
  let lim := min (w.rd pg UNIT_DT_LIM_DT_MIN) (w.rd pg UNIT_DT_LIM_DT_MAX)
  let x := stage6 lim none k now 0
  let last := (y.1.filter fun i => decide (i.s < (b2 : Rat))).getLast?
  let ideal := (raw.filter fun i => decide (i.s < (b2 : Rat))).getLast?
  let w := w.modUn u fun k => { k with
    onHi := x.1.onHi, onLo := x.1.onLo, offHi := x.1.offHi, offLo := x.1.offLo, skip := x.1.skip
    fresh := false
    cmd := last.map fun i => (i.hi, i.s)
    minEnd := match last with
      | some i => if i.str && decide ((b2 : Rat) < i.e) then some i.e else none
      | none => none
    dropping := match last, ideal with
      | some i, some j => i.hi != j.hi && !i.ref && !i.str
      | _, _ => false
    pendOn := later.map fun e => ⟨false, leg, e.st, e.refr, e.str, e.dts, roundR e.t⟩
    refr := refr.filter fun x => decide ((b2 : Rat) < x.2)
    refrN := if ren then wn.2.1 else 0
    refrStart := wn.2.2
    dt := ((p.dts.filter fun d => decide (d.1 < (b2 : Rat))).getLast?.map Prod.snd).getD k.dt
    dtq := k.dtq.drop inside.length
    hist := trimHist (min (b1 - 16000000) k.refrStart.floor) k.hist }
  let w := w.when (0 < z.2.1 + y.2) fun w => (w.wr pg UNIT_ESTAT_DROPPED 1).count pg UNIT_DROP_COUNT (z.2.1 + y.2)
  let w := w.when (0 < z.2.2) fun w => (w.wr pg UNIT_ESTAT_STRETCHED 1).count pg UNIT_STRETCH_COUNT z.2.2
  let w := w.when (0 < fresh.length) fun w => (w.wr pg UNIT_ESTAT_REFRESHED 1).count pg UNIT_REFR_COUNT fresh.length
  let w := w.when (0 < x.2.2) fun w => ((w.wr pg UNIT_ESTAT_ILK 1).count pg UNIT_ILK_COUNT x.2.2).flt pg .ce 16
  let w := w.when (l.any fun s => decide (s.ts < (b2 : Rat)) && (w.window u s.cfg).2.2) fun w => w.wr pg UNIT_ESTAT_SLOT_CLAMP 1
  let w := w.when (!now.isEmpty) fun w => w.ilkCompare u ilk
  w.emitEdges u o leg p x.2.1

/-- The carrier periods of the first edge interval: each start takes up what the adapters give without a report (R227). -/
def Work.adaptFirst (w : Work) (u : Nat) (b1 b2 : Int) : Work :=
  w.each ((w.spans u b1 b2).filter fun p => decide ((b1 : Rat) ≤ p.ts) && decide (p.ts < (b2 : Rat))) fun w _ => w.adapt u

/-- The edge stream ends with the leg OFF from boundary `b` (R253, R212); no word goes where nothing was scheduled from OFF. -/
def Work.endUnit (w : Work) (u : Nat) (b : Int) : Work :=
  let k := w.un u
  let w := match w.unitLeg u with
    | some (o, leg) => w.when (!k.fresh || k.cmd.isSome) fun w =>
      (w.profTo u o leg b (k.prof.getD (w.profWord u k.dt))).timed o (.edge u ⟨false, leg, 0, false, false, false, b⟩)
    | none => w
  w.modUn u fun k => k.stop b

/-- When the leg last left state `st`, from its edges newest first. -/
def lastLeft (st : Nat) : List (Int × Nat) → Option Rat
  | e :: x :: r => if x.2 = st ∧ e.2 ≠ st then some e.1 else lastLeft st (x :: r)
  | _ => none

/-- The state of the leg's last edge: 0 OFF, 1 HIGH, 2 LOW. -/
def LegUnit.legState (k : LegUnit) : Nat := (k.hist.head?.map Prod.snd).getD 0

/-- A released unit starts again from its frozen leg state once 0.5 µs have passed (R239); its interlock starts from the edges
that were carried out. -/
def Work.resumeUnit (w : Work) (u : Nat) : Work :=
  let k := w.un u
  match k.resume with
  | some t =>
    if t + 200 ≤ w.up then
      (w.wr (pgUNIT u) UNIT_ESTAT_FROZEN 0).modUn u fun k => { k with
        frozen := false, resume := none, fresh := true, minEnd := none, dropping := false, pendOn := none, refr := [], refrN := 0,
        dtq := [], missHL := 0, missLH := 0, skip := false, onHi := k.legState == 1, onLo := k.legState == 2,
        offHi := lastLeft 1 k.hist, offLo := lastLeft 2 k.hist,
        cmd := match k.hist with
          | (x, 1) :: _ => some (true, x)
          | (x, 2) :: _ => some (false, x)
          | _ => none }
    else w
  | none => w

/-- SCHEDULE of one unit for the edge interval from `b1` to `b2` (R211, R212). A stream that would end after a freeze point to come
holds its leg there, and ends on resuming (R238, R239). -/
def Work.scheduleUnit (w : Work) (u : Nat) (b1 b2 : Int) (ilk : Nat) : Work :=
  let w := if (w.un u).frozen then w.resumeUnit u else w
  let want := w.wanted u
  let w :=
    if (w.un u).frozen then w
    else if want then
      let w := if (w.un u).emit then w else w.startUnit u
      let w := w.when (w.un u).fresh fun w => w.adaptFirst u b1 b2
      match w.unitLeg u with
      | some (o, leg) => w.shapeUnit u o leg b1 b2 ilk
      | none => w
    else if (w.un u).emit ∧ ¬ w.afterFreeze b1 then w.endUnit u b1
    else w
  w.moveCarrier u b1 b2

/-- SCHEDULE of region `n` (R26 to R28): its sample plans and its 48 units; `ilk` is what their interlocks' comparisons show. -/
def Work.scheduleRegion (w : Work) (n : Nat) (b1 : Int) (ilk : List (Fin 192 × BitVec 2)) : Work :=
  let b2 := w.nextAfter n b1
  let diff (u : Nat) : Nat := ((ilk.find? fun e => e.1.val == u).map fun e => e.2.toNat).getD 0
  (w.planRegion n b1 b2).each (upto 48) fun w i => w.scheduleUnit (48 * n + i) b1 b2 (diff (48 * n + i))

/-! ### Host-direct triples (R220, R221) -/

/-- COMMIT (R221). -/
def Work.hdCommit (w : Work) (u : Nat) : Work :=
  let pg := pgUNIT u
  let w := w.when (w.on pg UNIT_ESTAT_HD_PENDING) fun w => w.wr pg UNIT_ESTAT_COMMIT_LOST 1
  (w.wr pg UNIT_ESTAT_HD_PENDING 1).modUn u fun k => { k with
    hdBuf := some ⟨w.rd pg UNIT_HD_PER, w.rd pg UNIT_HD_ON, w.rd pg UNIT_HD_DUTY⟩ }

/-- The latch at step 3 of a boundary, after CYC_COUNT has counted (R220, R221); with ATEN the boundary must be one that counts. -/
def Work.hdLatch (w : Work) (u : Nat) : Work :=
  let pg := pgUNIT u
  match (w.un u).hdBuf with
  | none => w
  | some t =>
    if w.on pg UNIT_HD_CTL_ATEN ∧ ¬ ((w.rg (u / 48)).run ∧ w.rd (pgRG (u / 48)) RG_CYC_COUNT % 256 = w.rd pg UNIT_HD_CTL_AT) then w
    else
      let per := max t.per 32000
      let x : Triple := ⟨per, min t.on (per - 1), min t.duty per⟩
      let w := w.when (t.per != per) fun w => w.wr pg UNIT_ESTAT_PER_CLAMP 1
      let w := w.when (x.on != t.on || x.duty != t.duty) fun w => w.wr pg UNIT_ESTAT_DUTY_CLAMP 1
      (w.wr pg UNIT_ESTAT_HD_PENDING 0).modUn u fun k => { k with hdBuf := none, hd := x, hdn := !k.hdn }

/-! ### Commands -/

/-- CARRIER_PERIOD_START (R226, R227, R236): the adapters decide for one coming period start of an emitting unit; frozen
units hold (R238). The starts of a unit's first edge interval are decided as the unit starts (log entry 52). -/
def execCarrierPeriodStart (u : Fin 192) (s : State) : Host.Outcome State Fault Refusal :=
  nextDev s fun w => if (w.un u.val).emit ∧ ¬ (w.un u.val).frozen then w.adapt u.val else w

/-- EDGE_WORD_LATE (R233): words of the unit that have not left 1.0 µs before they are due are not sent. -/
def execEdgeWordLate (u : Fin 192) (s : State) : Host.Outcome State Fault Refusal :=
  nextDev s fun w =>
    let o := w.owner (u.val / 4)
    let lim := t16 w.now + 16000
    let late (x : Timed) := match x with
      | .edge v e => v == u.val && !e.cancel && decide (e.due ≤ lim)
      | _ => false
    if (w.ln o).timed.any late then
      let w := w.modLn o fun l => { l with timed := l.timed.filter fun x => !late x }
      (w.flt (pgUNIT u.val) .uc 18).forcedSafe o 6
    else w

/-- HD_COMMIT (R221). -/
def execHdCommit (u : Fin 192) (s : State) : Host.Outcome State Fault Refusal :=
  nextDev s fun w => w.hostAct (.hdCommit u) (pgUNIT u + UNIT_HD_CTL_COMMIT.at 0) fun w => w.hdCommit u.val

end Sys2Proof.Machine
end

