-- ==== Sys2Proof/Machine/Crc.lean ====
section
/-! DEFINITION. The checksums the part computes: CRC-16 of the lanes (R271), CRC-32 of images and packets (R76), SHA-256 and
HMAC-SHA-256 of sealed records (R522, R526). -/

namespace Sys2Proof.Machine

/-- One bit of the CRC-16: polynomial 0x1021, no reflection. -/
def crc16Bit (c : Nat) : Nat := if 32768 ≤ c % 65536 then (c * 2 % 65536) ^^^ 0x1021 else c * 2 % 65536

/-- One byte of the CRC-16. -/
def crc16Byte (c : Nat) (b : Byte) : Nat := (List.range 8).foldl (fun c _ => crc16Bit c) (c ^^^ (b.toNat * 256))

/-- CRC-16 with the parameters of R271. -/
def crc16 (bs : List Byte) : Nat := bs.foldl crc16Byte 0xFFFF

/-- One bit of the reflected CRC-32. -/
def crc32Bit (c : Nat) : Nat := if c % 2 = 1 then (c / 2) ^^^ 0xEDB88320 else c / 2

/-- One byte of the CRC-32. -/
def crc32Byte (c : Nat) (b : Byte) : Nat := (List.range 8).foldl (fun c _ => crc32Bit c) (c ^^^ b.toNat)

/-- CRC-32 with the parameters of R76. -/
def crc32 (bs : List Byte) : Nat := bs.foldl crc32Byte 0xFFFFFFFF ^^^ 0xFFFFFFFF

/-! ### SHA-256 and HMAC -/

/-- The round constants of SHA-256. -/
def shaK : List Word := [
  0x428a2f98#32, 0x71374491#32, 0xb5c0fbcf#32, 0xe9b5dba5#32, 0x3956c25b#32, 0x59f111f1#32, 0x923f82a4#32, 0xab1c5ed5#32,
  0xd807aa98#32, 0x12835b01#32, 0x243185be#32, 0x550c7dc3#32, 0x72be5d74#32, 0x80deb1fe#32, 0x9bdc06a7#32, 0xc19bf174#32,
  0xe49b69c1#32, 0xefbe4786#32, 0x0fc19dc6#32, 0x240ca1cc#32, 0x2de92c6f#32, 0x4a7484aa#32, 0x5cb0a9dc#32, 0x76f988da#32,
  0x983e5152#32, 0xa831c66d#32, 0xb00327c8#32, 0xbf597fc7#32, 0xc6e00bf3#32, 0xd5a79147#32, 0x06ca6351#32, 0x14292967#32] ++ [
  0x27b70a85#32, 0x2e1b2138#32, 0x4d2c6dfc#32, 0x53380d13#32, 0x650a7354#32, 0x766a0abb#32, 0x81c2c92e#32, 0x92722c85#32,
  0xa2bfe8a1#32, 0xa81a664b#32, 0xc24b8b70#32, 0xc76c51a3#32, 0xd192e819#32, 0xd6990624#32, 0xf40e3585#32, 0x106aa070#32,
  0x19a4c116#32, 0x1e376c08#32, 0x2748774c#32, 0x34b0bcb5#32, 0x391c0cb3#32, 0x4ed8aa4a#32, 0x5b9cca4f#32, 0x682e6ff3#32,
  0x748f82ee#32, 0x78a5636f#32, 0x84c87814#32, 0x8cc70208#32, 0x90befffa#32, 0xa4506ceb#32, 0xbef9a3f7#32, 0xc67178f2#32]

/-- The initial hash of SHA-256. -/
def shaH0 : List Word := [0x6a09e667#32, 0xbb67ae85#32, 0x3c6ef372#32, 0xa54ff53a#32, 0x510e527f#32, 0x9b05688c#32,
  0x1f83d9ab#32, 0x5be0cd19#32]

/-- Four bytes as a word, most significant first. -/
def beWord (bs : List Byte) : Word := bs.foldl (fun d b => d <<< 8 ||| b.setWidth 32) 0

/-- A word as four bytes, most significant first. -/
def beBytes (d : Word) : List Byte := [d.extractLsb' 24 8, d.extractLsb' 16 8, d.extractLsb' 8 8, d.extractLsb' 0 8]

/-- Cut a list into pieces of `k`, `n` of them. -/
def chunks {α : Type} (k : Nat) : Nat → List α → List (List α)
  | 0, _ => []
  | n + 1, l => l.take k :: chunks k n (l.drop k)

/-- The message schedule of one block: `n` further words, from the last sixteen. -/
def shaSchedule : Nat → List Word → List Word
  | 0, ws => ws
  | n + 1, ws =>
    let g (i : Nat) : Word := ws.getD (ws.length - i) 0
    let s0 := (g 15).rotateRight 7 ^^^ (g 15).rotateRight 18 ^^^ (g 15 >>> 3)
    let s1 := (g 2).rotateRight 17 ^^^ (g 2).rotateRight 19 ^^^ (g 2 >>> 10)
    shaSchedule n (ws ++ [g 16 + s0 + g 7 + s1])

/-- One round of SHA-256. -/
def shaRound (v : List Word) (kw : Word × Word) : List Word :=
  match v with
  | [a, b, c, d, e, f, g, h] =>
    let t1 := h + (e.rotateRight 6 ^^^ e.rotateRight 11 ^^^ e.rotateRight 25) + ((e &&& f) ^^^ (~~~e &&& g)) + kw.1 + kw.2
    let t2 := (a.rotateRight 2 ^^^ a.rotateRight 13 ^^^ a.rotateRight 22) + ((a &&& b) ^^^ (a &&& c) ^^^ (b &&& c))
    [t1 + t2, a, b, c, d + t1, e, f, g]
  | _ => v

/-- One block of SHA-256. -/
def shaBlock (h : List Word) (blk : List Byte) : List Word :=
  let ws := shaSchedule 48 ((chunks 4 16 blk).map beWord)
  List.zipWith (fun a b => a + b) h ((shaK.zip ws).foldl shaRound h)

/-- SHA-256 of a byte string. -/
def sha256 (m : List Byte) : List Byte :=
  let n := m.length
  let pad := m ++ [0x80#8] ++ List.replicate ((119 - n % 64) % 64) 0#8 ++
    beBytes (BitVec.ofNat 32 (8 * n / 2 ^ 32)) ++ beBytes (BitVec.ofNat 32 (8 * n))
  ((chunks 64 (pad.length / 64) pad).foldl shaBlock shaH0).flatMap beBytes

/-- HMAC-SHA-256 with a key of at most 64 bytes. -/
def hmac (key m : List Byte) : List Byte :=
  let k := key ++ List.replicate (64 - key.length) 0#8
  sha256 (k.map (fun b => b ^^^ 0x5C#8) ++ sha256 (k.map (fun b => b ^^^ 0x36#8) ++ m))

end Sys2Proof.Machine
end

