-- ==== Sys2Proof/Machine/Symbols.lean ====
section
/-! DEFINITION. The line code of the lanes: 8b/10b with running disparity (R268), and the 40 symbols of a frame slot (R269).
The spec names the code; its code groups are the published ones (PRESUMED, log entry 53). -/

namespace Sys2Proof.Machine

/-- A symbol before coding: a data byte or a control symbol. -/
inductive Sym
  | d (b : Byte)
  | k (b : Byte)
  deriving DecidableEq, Repr

/-- K27.7, which opens a frame or packet, K29.7, which closes it, and K30.7, which closes an aborted packet (R269, R460). -/
def symSof : Sym := .k 0xFB#8
def symEof : Sym := .k 0xFD#8
def symAbort : Sym := .k 0xFE#8

/-- K28.5, the only comma (R268). -/
def symComma : Sym := .k 0xBC#8

/-- K28.0, the gap fill of a SKIP gap, and K28.3, that of a plain gap (R269). -/
def symSkip : Sym := .k 0x1C#8
def symPlain : Sym := .k 0x7C#8

/-- Ones among the low `n` bits. -/
def onesIn (n v : Nat) : Nat := ((List.range n).filter fun i => v.testBit i).length

/-- The six-bit groups of D.0 to D.31 at negative running disparity. -/
def code6 : List Nat := [0b100111, 0b011101, 0b101101, 0b110001, 0b110101, 0b101001, 0b011001, 0b111000,
  0b111001, 0b100101, 0b010101, 0b110100, 0b001101, 0b101100, 0b011100, 0b010111] ++
  [0b011011, 0b100011, 0b010011, 0b110010, 0b001011, 0b101010, 0b011010, 0b111010,
  0b110011, 0b100110, 0b010110, 0b110110, 0b001110, 0b101110, 0b011110, 0b101011]

/-- The four-bit groups of D.x.0 to D.x.7 at negative running disparity. -/
def code4 : List Nat := [0b1011, 0b1001, 0b0101, 0b1100, 0b1101, 0b1010, 0b0110, 0b1110]

/-- The ten bits of a control symbol at negative running disparity. -/
def codeK (b : Byte) : Nat :=
  match b.toNat with
  | 0xFB => 0b1101101000
  | 0xFD => 0b1011101000
  | 0xFE => 0b0111101000
  | 0xBC => 0b0011111010
  | 0x1C => 0b0011110100
  | _ => 0b0011110011

/-- A group of `n` bits and the disparity after it: an alternating group is inverted at positive disparity. -/
def group (n : Nat) (pos alt : Bool) (v : Nat) : Nat × Bool :=
  let x := if pos && alt then 2 ^ n - 1 - v else v
  (x, if onesIn n x * 2 = n then pos else !pos)

/-- The ten bits of a symbol, first bit sent most significant, at running disparity `pos` (true: positive), and the
disparity after it. -/
def encodeSym (pos : Bool) : Sym → BitVec 10 × Bool
  | .k b => let g := group 10 pos true (codeK b); (BitVec.ofNat 10 g.1, g.2)
  | .d b =>
    let x := b.toNat % 32
    let y := b.toNat / 32
    let six := code6.getD x 0
    let g := group 6 pos (x == 7 || onesIn 6 six != 3) six
    let a7 := y == 7 && (if g.2 then x == 11 || x == 13 || x == 14 else x == 17 || x == 18 || x == 20)
    let h := group 4 g.2 (y == 0 || y == 3 || y == 4 || y == 7) (if a7 then 0b0111 else code4.getD y 0)
    (BitVec.ofNat 10 (g.1 * 16 + h.1), h.2)

/-- A run of symbols, and the disparity after it. -/
def encodeSyms : Bool → List Sym → List (BitVec 10) × Bool
  | pos, [] => ([], pos)
  | pos, s :: r => let g := encodeSym pos s; let q := encodeSyms g.2 r; (g.1 :: q.1, q.2)

/-- The symbols at a pair of pins whose polarity `inv` says to be inverted. -/
def atPins (inv : Bool) (l : List (BitVec 10)) : List (BitVec 10) := if inv then l.map fun s => ~~~s else l

/-- The 40 symbols of a frame slot (R269): TYPE and payload bytes, CRC with its high byte first, and the gap. -/
def slotSyms (bytes : List Byte) (crc : Nat) (skip : Bool) : List Sym :=
  let fill := if skip then symSkip else symPlain
  symSof :: bytes.map Sym.d ++ [.d (BitVec.ofNat 8 (crc / 256)), .d (BitVec.ofNat 8 crc), symEof, symComma, fill, fill]

end Sys2Proof.Machine
end

