-- ==== Sys2Proof/Machine/Roles.lean ====
section
/-! DEFINITION. The twin role (R412 to R415, R432): epochs, the ROLE and HELLO messages that announce them, and stepping
down. -/

namespace Sys2Proof.Machine

def Work.epoch (w : Work) : Nat := w.rd pgTWIN TWIN_EPOCH

/-- Lanes in UP. -/
def Work.upLanes (w : Work) : List Nat := (upto 48).filter fun c => w.laneState c == 3

/-- ROLE goes in two consecutive slots of every lane in UP after a change of role or epoch (R301). -/
def Work.sendRole (w : Work) : Work := w.each w.upLanes fun w c => w.modLn c fun l => { l with role := 2 }

/-- An ASL-T packet of this package (R415). -/
def Work.twinPkt (w : Work) (type n cyc ofs : Nat) (payload : List Word) : TwinPkt :=
  ⟨BitVec.ofNat 8 type, ⟨n % 4, by omega⟩, w32 cyc, w32 ofs, w32 w.epoch, payload⟩

/-- The bytes of an ASL-T packet that its CRC covers (R415). -/
def twinBytes (p : TwinPkt) : List Byte :=
  let len := 4 * p.payload.length
  [p.type, BitVec.ofNat 8 (p.rgn.val * 64), BitVec.ofNat 8 (len / 256), BitVec.ofNat 8 len] ++
    ([p.cyc, p.ofs, p.epoch] ++ p.payload).flatMap beBytes

/-- Send an ASL-T packet while the twin lanes are trained, with its CRC. -/
def Work.twinSend (w : Work) (type n cyc ofs : Nat) (payload : List Word) : Work :=
  let p := w.twinPkt type n cyc ofs payload
  w.emit (.twinPacket p (w32 (crc32 (twinBytes p))))

/-- All four twin lanes are in UP (R414). -/
def Work.twinTrained (w : Work) : Bool := (upto 4).all fun i => w.rd pgSYSN SL_SLSTAT_STATE (8 + i) == 3

/-- HELLO (R414, R415): PAIR and PKG share the first dword, the role has the second. -/
def Work.hello (w : Work) : Work :=
  if w.twinTrained && w.pairNo != 0 then
    w.twinSend 1 0 0 0 [w32 (w.pairNo * 2 ^ 16 + w.pkgNo), w32 w.role, w.word (pgPKG + PKG_ACTIVE_CRC.off)]
  else w

/-- What the Hearth drives on ROLE_TX (R413): a level, or none for the square wave of an ACTIVE package whose ALIVE toggles. -/
def Work.roleTx (w : Work) : Option Bool :=
  if w.on pgPKG PKG_KSTAT_DONE && w.on pgHRT HRT_HSTAT_ALIVE_RUN then
    if w.role = 1 then some true else if w.role = 2 then none else some false
  else some false

/-- Set the role: ROLE_CHG counts, the change is an event and a trigger (R440, R455), and ROLE and HELLO announce it (R301,
R414). -/
def Work.setRole (w : Work) (r : Nat) : Work :=
  let old := w.role
  let w := (w.wr pgTWIN TWIN_TSTAT_ROLE r).count pgTWIN TWIN_ROLE_CHG
  let w := w.when (r != old) fun w => (w.event 6 pgTWIN [r * 2 ^ 30 + old * 2 ^ 28, w.epoch]).recSource 6 fun _ => true
  (w.sendRole.hello).hearthShow.chopEvalAll

/-- Set the epoch (R412, R426). -/
def Work.setEpoch (w : Work) (e : Nat) : Work := w.wr pgTWIN TWIN_EPOCH (e % 2 ^ 32)

/-- A package with a higher epoch, or one that the cell ends follow, deposes this one (R432): it becomes STANDBY, its
units stop, and it sends no SAFE frame. -/
def Work.stepDown (w : Work) : Work :=
  let w := w.each ((upto 48).filter fun c => w.owner c == c) fun w c => w.stopUnits c
  let w := w.each (upto 48) fun w c => w.modLn c fun l => { l with safeOnce := none, timed := [], copy := none, mirror := [] }
  let w := w.each (upto 4) fun w n =>
    (w.modRg n fun r => { r with standby := true, takeAt := none, releaseAt := none, reckon := false }).modTwinRg n
      fun t => { t with img := none, resync := true, missRun := 0, commitRun := 0, gatherRun := 0 }
  let w := ((w.setRole 1).wr pgTWIN TWIN_TSTAT_DEPOSED 1).flt pgTWIN .uc 21
  ((w.wr pgTWIN TWIN_TSTAT_HO_PEND 0).modTwin fun t => { t with ho := none, hoWait := none }).stamp pgTWIN TWIN_RC_T_NS TWIN_RC_T_S w.now

/-- CONFLICT (R432). -/
def Work.conflict (w : Work) : Work := (w.wr pgTWIN TWIN_TSTAT_CONFLICT 1).flt pgTWIN .ce 20

/-! ### Readiness and health (R421, R424) -/

/-- A mask of regions. -/
def rgMask (p : Nat → Bool) : Nat := ((upto 4).filter p).foldl (fun m n => m + 2 ^ n) 0

/-- READY (R421). -/
def Work.readyMask (w : Work) : Nat :=
  rgMask fun n => (w.rg n).standby && w.role == 1 && !bitOf (w.rd pgPKG PKG_FENCE_STAT) n && decide (2 ≤ (w.twinRg n).commitRun) &&
    decide (2 ≤ (w.twinRg n).gatherRun) && !bitOf w.rgHeld n && !bitOf w.ember.marks n

/-- Nothing of R424 stands against the twin's health. -/
def Work.healthGood (w : Work) : Bool :=
  let pg := pgTWIN
  w.role != 0 && w.on pg TWIN_TSTAT_LINK_UP && decide (w.rd pg TWIN_HLTH_AGE ≤ 2000) && !w.on pg TWIN_HLTH0_BIST_FAIL &&
  !w.on pg TWIN_HLTH0_UNUSABLE && decide (w.rd pg TWIN_HLTH1_HLEVEL < 2) && !w.on pg TWIN_HLTH1_UC &&
  w.rd pg TWIN_HLTH_CRC == w.rd pgPKG PKG_ACTIVE_CRC && !w.twin.notReady && w.on pg TWIN_TSTAT_RRX &&
  (w.role != 1 || !w.on pg TWIN_TSTAT_LOST)

/-- READY and HEALTH_OK follow (R421, R424): HEALTH_LOST is raised as health becomes lost. -/
def Work.twinShow (w : Work) : Work :=
  let w := w.wr pgTWIN TWIN_TSTAT_READY w.readyMask
  let good := w.healthGood
  let was := w.on pgTWIN TWIN_TSTAT_HEALTH_OK
  let w := w.wr pgTWIN TWIN_TSTAT_HEALTH_OK (b2n good)
  if was && !good && w.pairNo != 0 then w.flt pgTWIN .ce 19 else w

end Sys2Proof.Machine
end

