-- ==== Sys2Proof/Machine/Training.lean ====
section
/-! DEFINITION. The lane state machine of cell, system and twin lanes (R278 to R283, R459) and the commands of training,
adaptation and loss. -/

namespace Sys2Proof.Machine

/-! ### One view of the three kinds of lane -/

/-- The page and element of a lane's registers. -/
def lanePage : LaneId → Nat × Nat
  | .cell c => (pgCLANE c.val, 0)
  | .sys n => (pgSYSN, n.val)
  | .twin n => (pgSYSN, 8 + n.val)

/-- The lane's field: `fc` on a cell lane, `fs` on a system or twin lane. -/
def laneFld (l : LaneId) (fc fs : Field) : Field :=
  match l with
  | .cell _ => fc
  | _ => fs

def Work.lrd (w : Work) (l : LaneId) (fc fs : Field) : Nat := w.rd (lanePage l).1 (laneFld l fc fs) (lanePage l).2
def Work.lwr (w : Work) (l : LaneId) (fc fs : Field) (v : Nat) : Work := w.wr (lanePage l).1 (laneFld l fc fs) v (lanePage l).2
def Work.lcount (w : Work) (l : LaneId) (fc fs : Field) : Work := w.count (lanePage l).1 (laneFld l fc fs) 1 (lanePage l).2

/-- State code of R278. -/
def Work.lst (w : Work) (l : LaneId) : Nat := w.lrd l CLANE_LSTAT_STATE SL_SLSTAT_STATE

/-- The lane's region is fenced (R292): cell lanes only. -/
def Work.laneFenced (w : Work) : LaneId → Bool
  | .cell c => bitOf (w.rd pgPKG PKG_FENCE_STAT) (c.val / 12)
  | _ => false

/-! ### Entering states -/

/-- A change of state of a cell lane is an event (R440). -/
def Work.laneEvent (w : Work) (c old st : Nat) : Work :=
  w.when (old != st) fun w =>
    w.event 3 (pgCLANE c) [old * 2 ^ 24 + st * 2 ^ 16 + w.rd (pgCLANE c) CLANE_LSTAT_DOWN_CAUSE * 2 ^ 8]

/-- A lane enters a state (R280). -/
def Work.laneSet (w : Work) (l : LaneId) (st : Nat) : Work :=
  let old := w.lst l
  let w := w.lwr l CLANE_LSTAT_STATE SL_SLSTAT_STATE st
  match l with
  | .cell c => w.laneEvent c.val old st
  | .sys _ | .twin _ => w

/-- CSTAT.LANE_UP and PATH2_DOWN follow the lanes of a cluster (R246, R258). -/
def Work.laneShow (w : Work) (c : Nat) : Work :=
  let o := w.owner c
  let w := w.cstat o CLU_CSTAT_LANE_UP (b2n (w.laneUp o))
  if w.path2 o && (w.lanesOf o).all fun l => w.laneState l == 3 && !w.pathStalled l then w.wr (pgCLU o) CLU_CSTAT_PATH2_DOWN 0 else w

/-- The registers that STAT frames fill read their reset values until their page arrives (R332). -/
def Work.ceForget (w : Work) (c : Nat) : Work :=
  let pg := pgCLANE c
  let w := w.each [CLANE_CE_STAT_MODE, CLANE_CE_STAT_FOLLOW, CLANE_CE_STAT_FOLLOWS_US, CLANE_CE_STAT_CONFLICT, CLANE_CE_STAT_CFG_OK,
    CLANE_CE_STAT_CNAK, CLANE_CE_STAT_CACK, CLANE_CE_STAT_FPKG] fun w f => w.wr pg f 0
  w.each [CLANE_CE_EPOCH.off, CLANE_CE_TEMP_TCAP.off, CLANE_CE_HEALTH.off, CLANE_CE_ST_ST_SEQ.off, CLANE_CE_CNT0_BADFR.off,
    CLANE_CE_CNT1_ILK.off, CLANE_CE_CNT2_IGNORED.off, CLANE_CE_CAP_VER.off] fun w o => w.put (pg + o) 0

/-- The equaliser is loaded from EQ_INIT (R281). -/
def Work.eqLoad (w : Work) (l : LaneId) : Work :=
  (((w.lwr l CLANE_EQ_CTLE SL_EQ_CTLE (w.lrd l CLANE_EQ_INIT_CTLE SL_EQ_INIT_CTLE)).lwr l CLANE_EQ_DFE1 SL_EQ_DFE1
    (w.lrd l CLANE_EQ_INIT_DFE1 SL_EQ_INIT_DFE1)).lwr l CLANE_EQ_DFE2 SL_EQ_DFE2
    (w.lrd l CLANE_EQ_INIT_DFE2 SL_EQ_INIT_DFE2)).lwr l CLANE_EQ_DFE3 SL_EQ_DFE3 (w.lrd l CLANE_EQ_INIT_DFE3 SL_EQ_INIT_DFE3)

/-- The time transfer of a lane starts afresh (R280, R286, R316); the RTT last accepted stays the one that R285 compares with. -/
def Lane.fresh (l : Lane) : Lane :=
  { l with slot := 0, good := 0, accepted := 0, xidNext := 1, exch := [], rate := 0, ofs := 0, anchor := 0, prev := none,
           badRun := 0, rttRun := 0, timeOfs := none, holdRate := false, p4 := [], cvs := [], predGood := false,
           copy := none, mirror := [] }

/-- The second-path lane of a pair is enabled only with the path (R21); every other lane by CTL.EN alone. -/
def Work.cellEn (w : Work) (c : Nat) : Bool := w.on (pgCLANE c) CLANE_CTL_EN && (w.owner c == c || w.path2 (w.owner c))

/-- The even lane of a pair leaves UP: the odd one becomes the time master from its next accepted exchange (R291). -/
def Work.masterPass (w : Work) (c : Nat) : Work :=
  w.when (w.owner c == c && w.path2 c) fun w => w.modLn c fun k => { k with master := if k.master = 0 then 1 else k.master }

/-- Entry to ACQUIRE (R280); it ends a stall of the lane's path (R563). A lane that trains in holdover is COARSE from the
start (R289). -/
def Work.acquire (w : Work) (l : LaneId) : Work :=
  let was := w.lst l == 3
  let w := ((w.laneSet l 1).lwr l CLANE_LSTAT_ALIGNED SL_SLSTAT_ALIGNED 0).eqLoad l
  match l with
  | .cell c =>
    let w := w.modHearth fun h => { h with stalls := h.stalls.filter fun x => x.2 != some c.val }
    let hold := w.on pgTALLY TALLY_STAT_HOLDOVER
    let w := w.when was fun w => w.masterPass c.val
    let w := (w.modLn c.val fun k => { k.fresh.nextCmd with holdRate := hold }).ceForget c.val
    w.wr (pgCLANE c.val) CLANE_LSTAT_COARSE (b2n hold)
  | .sys _ | .twin _ => w.modSl (lanePage l).2 fun k => { k with cvs := [], links := 0 }

/-- The twin link leaves up (R414, R435): LINK_DOWN is raised and the link is to pair again. -/
def Work.linkDown (w : Work) : Work :=
  let was := w.on pgTWIN TWIN_TSTAT_LINK_UP
  let w := (w.wr pgTWIN TWIN_TSTAT_LINK_UP 0).modTwin fun t => { t with hello := false, hoWait := none }
  (if was then w.flt pgTWIN .uc 18 else w).twinShow

/-- DOWN, with the cause's code (R279, R280). -/
def Work.laneDown (w : Work) (l : LaneId) (cause : Nat) : Work :=
  let w := (w.lwr l CLANE_LSTAT_DOWN_CAUSE SL_SLSTAT_DOWN_CAUSE cause).laneSet l 4
  match l with
  | .cell c =>
    let w := w.laneShow c.val
    let w := w.modLn c.val fun k => { k with exch := [], timeOfs := none, role := 0, copy := none, mirror := [] }
    let w := w.masterPass c.val
    if cause = 5 then w
    else
      let w := (w.count (pgCLANE c.val) CLANE_DOWN_COUNT).stamp (pgCLANE c.val) CLANE_DOWN_T_NS CLANE_DOWN_T_S w.now
      (w.flt (pgCLANE c.val) .uc 16).laneLost c.val
  | .sys n =>
    let w := (w.count pgSYSN SL_DOWN_COUNT 1 n.val).modSl n.val fun k => { k with queue := [] }
    if cause = 5 then w else w.flt pgSYSN .uc 16
  | .twin n => (w.count pgSYSN SL_DOWN_COUNT 1 (8 + n.val)).linkDown

/-- A criterion of R279: from SYNC back to ACQUIRE, from UP to DOWN (R280); the lane of a fenced region stands still. -/
def Work.laneLoss (w : Work) (l : LaneId) (cause : Nat) : Work :=
  if w.laneFenced l then w else if w.lst l = 2 then w.acquire l else if w.lst l = 3 then w.laneDown l cause else w

/-- Entry to UP of a cell lane (R280, R301, R321). -/
def Work.cellUp (w : Work) (c : Nat) : Work :=
  let o := w.owner c
  let w := ((w.wr (pgCLANE c) CLANE_LSTAT_STATE 3).laneEvent c (w.laneState c) 3).laneShow c
  let w := w.modLn c fun k => { k with role := max k.role 1 }
  if w.role = 1 then w else w.sendConfig o

/-- The lane's enable becomes 1 or 0 (R280): called when a set comes into force. -/
def Work.laneEnable (w : Work) (l : LaneId) (en : Bool) : Work :=
  let st := w.lst l
  if en && st == 0 then
    match l with
    | .cell c => (w.modLn c.val fun k => { k with posDisp := false }).acquire l
    | .sys _ | .twin _ => w.acquire l
  else if !en && st != 0 then
    let w := (w.laneSet l 0).lwr l CLANE_LSTAT_ALIGNED SL_SLSTAT_ALIGNED 0
    let w := w.lwr l CLANE_LSTAT_CDR_LOCK SL_SLSTAT_CDR_LOCK 0
    match l with
    | .cell c => (w.when (st == 3) fun w => w.masterPass c.val).modLn c.val Lane.fresh |>.laneShow c.val
    | .sys n => w.modSl n.val fun k => { k with queue := [], links := 0, cvs := [] }
    | .twin n => (w.modSl (8 + n.val) fun k => { k with links := 0, cvs := [] }).linkDown
  else w

/-! ### Retraining and the figure of merit -/

/-- CLANEcc.CMD.RETRAIN (R280, R292). -/
def Work.cellRetrain (w : Work) (c : Fin 48) : Work :=
  let st := w.laneState c.val
  let cs := w.cstate (w.owner c.val)
  if st = 3 then
    if cs = 0 ∨ cs = 4 ∨ cs = 6 then w.laneDown (.cell c) 5 else w.badval (pgCLANE c.val)
  else if st = 4 then w.acquire (.cell c) else w

/-- SLCMD.RETRAIN (R459): accepted in every state in which the lane is enabled; from UP through DOWN with cause HOST. -/
def Work.slRetrain (w : Work) (l : Fin 12) : Work :=
  let id : LaneId := if h : l.val < 8 then .sys ⟨l.val, h⟩ else .twin ⟨l.val - 8, by omega⟩
  let st := w.lst id
  if st = 0 then w else if st = 3 then w.laneDown id 5 else w.acquire id

/-- FOM_RST (R283, R294, R478). -/
def Work.fomRst (w : Work) (l : LaneId) : Work := w.lwr l CLANE_FOM_CFG_FOM_MIN SL_SLFOM_FOM_MIN 0xFF

/-- The page fault for a low figure of merit. -/
def lowFomBit : LaneId → Nat
  | .cell _ => 18
  | _ => 21

/-! ### Commands -/

/-- COMMA_ALIGNED (R280): three gaps in a row with K28.5 at one alignment, clock recovery locked. -/
def execCommaAligned (l : LaneId) (s : State) : Host.Outcome State Fault Refusal :=
  nextDev s fun w =>
    if w.lst l = 1 ∧ ¬ w.laneFenced l then
      ((w.laneSet l 2).lwr l CLANE_LSTAT_ALIGNED SL_SLSTAT_ALIGNED 1).lwr l
        CLANE_LSTAT_CDR_LOCK SL_SLSTAT_CDR_LOCK 1
    else w

/-- CDR_LOCK_LOST (R279). -/
def execCdrLockLost (l : LaneId) (s : State) : Host.Outcome State Fault Refusal :=
  nextDev s fun w => (w.lwr l CLANE_LSTAT_CDR_LOCK SL_SLSTAT_CDR_LOCK 0).laneLoss l 1

/-- Distances from a violation to the recent ones before it, `since` symbols after the last. -/
def cvPush (l : List Nat) (since : Nat) : List Nat := (0 :: l.map fun d => d + since).filter fun d => decide (d < 40)

/-- CODE_VIOLATION (R279): counted; four within 40 consecutive symbols lose the lane. -/
def execCodeViolation (l : LaneId) (since : Nat) (s : State) : Host.Outcome State Fault Refusal :=
  nextDev s fun w =>
    let st := w.lst l
    if st = 0 then w
    else
      let w := w.lcount l CLANE_CV_COUNT SL_CV_COUNT
      let w := match l with
        | .cell c => w.modLn c.val fun k => { k with cvs := cvPush k.cvs since }
        | .sys _ | .twin _ => w.modSl (lanePage l).2 fun k => { k with cvs := cvPush k.cvs since }
      let n := match l with
        | .cell c => (w.ln c.val).cvs.length
        | .sys _ | .twin _ => (w.sln (lanePage l).2).cvs.length
      if 4 ≤ n then w.laneLoss l 2 else w

/-- NO_FRAME_TIMEOUT (R279). -/
def execNoFrameTimeout (c : Fin 48) (s : State) : Host.Outcome State Fault Refusal :=
  nextDev s fun w => w.laneLoss (.cell c) 3

/-- An elastic-buffer error (R274, R279): counted, and the lane is lost. -/
def Work.bufferError (w : Work) (l : LaneId) : Work :=
  let w := match l with
    | .cell c => w.count (pgCLANE c.val) CLANE_EB_COUNT
    | .sys _ | .twin _ => w
  w.laneLoss l 4

/-- ELASTIC_BUFFER_ERROR (R274, R279). -/
def execElasticBufferError (l : LaneId) (s : State) : Host.Outcome State Fault Refusal :=
  nextDev s fun w => if w.lst l = 0 then w else w.bufferError l

/-- ACQUIRE_TIMEOUT (R280): clock recovery restarts and the equaliser is reloaded. -/
def execAcquireTimeout (l : LaneId) (s : State) : Host.Outcome State Fault Refusal :=
  nextDev s fun w => if w.lst l = 1 then (w.lwr l CLANE_LSTAT_CDR_LOCK SL_SLSTAT_CDR_LOCK 0).eqLoad l else w

/-- SYNC_TIMEOUT (R280). -/
def execSyncTimeout (c : Fin 48) (s : State) : Host.Outcome State Fault Refusal :=
  nextDev s fun w => if w.laneState c.val = 2 then w.acquire (.cell c) else w

/-- LANE_RETRY_TIMEOUT (R280). -/
def execLaneRetryTimeout (l : LaneId) (s : State) : Host.Outcome State Fault Refusal :=
  nextDev s fun w => if w.lst l = 4 ∧ w.lrd l CLANE_CTL_AUTO_RT SL_SLCTL_AUTO_RT = 1 then w.acquire l else w

/-- LANE_RETRAIN (R280). -/
def execLaneRetrain (c : Fin 48) (s : State) : Host.Outcome State Fault Refusal :=
  nextDev s fun w => w.hostAct (.laneRetrain c) (pgCLANE c + CLANE_CMD_RETRAIN.at 0) fun w => w.cellRetrain c

/-- SL_RETRAIN (R459). -/
def execSlRetrain (l : Fin 12) (s : State) : Host.Outcome State Fault Refusal :=
  nextDev s fun w => w.hostAct (.slRetrain l) (pgSYSN + SL_SLCMD_RETRAIN.at l) fun w => w.slRetrain l

/-- LANE_FOM_RST (R283). -/
def execLaneFomRst (c : Fin 48) (s : State) : Host.Outcome State Fault Refusal :=
  nextDev s fun w => w.hostAct (.laneFomRst c) (pgCLANE c + CLANE_CMD_FOM_RST.at 0) fun w => w.fomRst (.cell c)

/-- SL_FOM_RST (R458, R478). -/
def execSlFomRst (l : Fin 12) (s : State) : Host.Outcome State Fault Refusal :=
  nextDev s fun w => w.hostAct (.slFomRst l) (pgSYSN + SL_SLCMD_FOM_RST.at l) fun w => w.wr pgSYSN SL_SLFOM_FOM_MIN 0xFF l.val

/-- At a received SKIP gap one K28.0 is deleted above +1 and inserted below -1; a fill beyond ±8 is an error (R274). -/
def Work.skipGap (w : Work) (c : Fin 48) (f : Int) : Work :=
  let pg := pgCLANE c.val
  if 8 < f ∨ f < -8 then w.bufferError (.cell c)
  else if 1 < f then (w.count pg CLANE_SKIP_DEL).wr pg CLANE_LSTAT_EB_FILL (ofSigned 8 (f - 1))
  else if f < -1 then (w.count pg CLANE_SKIP_INS).wr pg CLANE_LSTAT_EB_FILL (ofSigned 8 (f + 1))
  else w.wr pg CLANE_LSTAT_EB_FILL (ofSigned 8 f)

/-- SKIP_GAP (R274): `fill` is the buffer's fill at the gap. EB_FILL belongs to a cell lane; a system lane shows none. -/
def execSkipGap (l : LaneId) (fill : BitVec 8) (s : State) : Host.Outcome State Fault Refusal :=
  nextDev s fun w =>
    let f := toSigned 8 fill.toNat
    if w.lst l = 0 then w
    else match l with
      | .cell c => w.skipGap c f
      | .sys _ | .twin _ => if 8 < f ∨ f < -8 then w.bufferError l else w

/-- A step of adaptation: the new setting lies within `lim` of the old (R281). -/
def adaptOk (wid old new lim : Nat) (signed : Bool) : Bool :=
  let a : Int := if signed then toSigned wid old else old
  let b : Int := if signed then toSigned wid new else new
  decide ((a - b).natAbs ≤ lim)

/-- A data symbol has arrived: adaptation is not frozen (R282). -/
def Work.dataSymbol (w : Work) (l : LaneId) : Work :=
  if w.lst l = 0 then w else w.lwr l CLANE_LSTAT_ADAPT_FROZEN SL_SLSTAT_ADAPT_FROZEN 0

/-- The receiver moves its equaliser, within the limits of the state (R281). -/
def Work.adaptMove (w : Work) (l : LaneId) (ctle : BitVec 4) (taps : Vector (BitVec 7) 3) : Work :=
  let st := w.lst l
  let up := st == 3
  let ok := adaptOk 4 (w.lrd l CLANE_EQ_CTLE SL_EQ_CTLE) ctle.toNat (if up then 1 else 2) false &&
    adaptOk 7 (w.lrd l CLANE_EQ_DFE1 SL_EQ_DFE1) taps[0].toNat (if up then 1 else 4) true &&
    adaptOk 7 (w.lrd l CLANE_EQ_DFE2 SL_EQ_DFE2) taps[1].toNat (if up then 1 else 4) true &&
    adaptOk 7 (w.lrd l CLANE_EQ_DFE3 SL_EQ_DFE3) taps[2].toNat (if up then 1 else 4) true
  if 1 ≤ st ∧ st ≤ 3 ∧ w.lrd l CLANE_CTL_ADAPT_EN SL_SLCTL_ADAPT_EN = 1 ∧ ok then
    (((w.lwr l CLANE_EQ_CTLE SL_EQ_CTLE ctle.toNat).lwr l CLANE_EQ_DFE1 SL_EQ_DFE1 taps[0].toNat).lwr l
      CLANE_EQ_DFE2 SL_EQ_DFE2 taps[1].toNat).lwr l CLANE_EQ_DFE3 SL_EQ_DFE3 taps[2].toNat
  else w

/-- ADAPT_STEP (R281, R282): after data symbols; the Damper's gate holds the step back (R118). -/
def execAdaptStep (l : LaneId) (ctle : BitVec 4) (taps : Vector (BitVec 7) 3) (s : State) : Host.Outcome State Fault Refusal :=
  nextDev s fun w => (w.dataSymbol l).throttle (.adaptStep l ctle taps) fun w => w.adaptMove l ctle taps

/-- ADAPT_FREEZE (R282): an idle run has exceeded 256 symbols. -/
def execAdaptFreeze (l : LaneId) (s : State) : Host.Outcome State Fault Refusal :=
  nextDev s fun w => if w.lst l = 0 then w else w.lwr l CLANE_LSTAT_ADAPT_FROZEN SL_SLSTAT_ADAPT_FROZEN 1

/-- The figure of merit of an inner eye height of `mv` millivolts (R283). -/
def fomOf (mv : Rat) : Nat := min 255 (128 * mv / 200).floor.toNat

/-- FOM_MEASURE (R282, R283): `mv` is the inner eye height over the last 65,536 data symbols, in millivolts. -/
def execFomMeasure (l : LaneId) (mv : Rat) (s : State) : Host.Outcome State Fault Refusal :=
  nextDev s fun w =>
    if w.lst l = 0 then w
    else
      let f := fomOf mv
      let w := (w.dataSymbol l).lwr l CLANE_LSTAT_FOM SL_SLSTAT_FOM f
      let w := w.lwr l CLANE_FOM_CFG_FOM_MIN SL_SLFOM_FOM_MIN (min f (w.lrd l CLANE_FOM_CFG_FOM_MIN SL_SLFOM_FOM_MIN))
      if f < w.lrd l CLANE_FOM_CFG_ALARM SL_SLFOM_ALARM then w.flt (lanePage l).1 .ce (lowFomBit l) else w

end Sys2Proof.Machine
end

