-- ==== Sys2Proof/Machine/Lane.lean ====
section
/-! DEFINITION. The downlink slot of a cell lane (R269 to R277, R300 to R321) and time transfer (R284 to R291). -/

namespace Sys2Proof.Machine

/-- A message word. -/
abbrev Quad := BitVec 64

/-- A message word from a number. -/
def quad (n : Nat) : Quad := BitVec.ofNat 64 n

/-- The eight bytes of a word, most significant first (R295). -/
def quadBytes (q : Quad) : List Byte := (upto 8).map fun i => q.extractLsb' (56 - 8 * i) 8

/-- A frame leaves the lane, coded, its polarity inverted under TX_INV (R268 to R271). -/
def Work.sendFrame (w : Work) (c type : Nat) (ws : List Quad) (skip : Bool) : Work :=
  let bytes := BitVec.ofNat 8 type :: ws.flatMap quadBytes
  let crc := crc16 bytes
  let q := encodeSyms (w.ln c).posDisp (slotSyms bytes crc skip)
  let line := atPins (w.on (pgCLANE c) CLANE_CTL_TX_INV) q.1
  (w.modLn c fun l => { l with posDisp := q.2 }).emit (.frame c type ws crc skip line)

/-! ### Time transfer -/

/-- A 44-bit difference as a signed number (R286). -/
def diff44 (a b : Nat) : Int := toSigned 44 ((a + 2 ^ 44 - b % 2 ^ 44) % 2 ^ 44)

/-- Lane `c` takes part in time transfer with its own queue of exchanges: start one (R284, R316). It keeps the ASYM_PS, TOL and
RSH of its start (R292), and is of no use in holdover (R289). -/
def Work.startExch (w : Work) (c : Nat) : Work :=
  let pg := pgCLANE c
  let x (id : Nat) : Exch := ⟨id, none, 0, !w.on pgTALLY TALLY_STAT_HOLDOVER, w.rdS pg CLANE_ASYM_PS, w.rd pg CLANE_TT_CTL_TOL, w.rd pg CLANE_TT_CTL_RSH⟩
  w.modLn c fun l => Lane.ask { l with exch := l.exch ++ [x l.xidNext], xidNext := l.xidNext % 255 + 1 } 3

/-- The lane whose O, R and anchor the TIMEOFS of lane `c` carries (R291). While a pair has no master each lane carries its own
(DESIGN CHOICE, log entry 54): the even lane is none before it has come to UP, nor between its leaving UP and the next accepted
exchange of the odd one. -/
def Work.timeMaster (w : Work) (c : Nat) : Nat :=
  let o := w.owner c
  if !w.path2 o then c
  else if (w.ln o).master = 2 then o + 1
  else if (w.ln o).master = 0 ∧ w.laneState o = 3 then o
  else c

/-- Mastership of a pair after lane `c` has accepted an exchange (R291). -/
def Work.masterMove (w : Work) (c : Nat) : Work :=
  let o := w.owner c
  if !w.path2 o then w
  else if c = o then w.when (w.laneState o == 3 && decide (4 ≤ (w.ln o).accepted)) fun w => w.modLn o fun l => { l with master := 0 }
  else w.when ((w.ln o).master == 1) fun w => w.modLn o fun l => { l with master := 2 }

/-- Ask for a TIMEOFS on lane `c` for exchange `xid`, 0 for a re-anchoring (R286, R288): none before the second accepted
exchange and none in holdover (R289). -/
def Work.askTimeOfs (w : Work) (c xid : Nat) : Work :=
  if 2 ≤ (w.ln c).accepted ∧ ¬ w.on pgTALLY TALLY_STAT_HOLDOVER then
    w.modLn c fun l => Lane.ask { l with timeOfs := some xid } 2
  else w

/-- Four lost or rejected exchanges in a row (R285). -/
def Work.badExch (w : Work) (c : Nat) : Work :=
  let n := (w.ln c).badRun + 1
  let w := w.modLn c fun l => { l with badRun := n }
  if n = 4 then w.flt (pgCLANE c) .ce 19 else w

/-- The rate term after an accepted exchange (R286): `d2` and `dT` are the local and network differences since the last
one. -/
def rateNext (accepted rsh : Nat) (r : Rat) (dT d2 : Int) : Rat :=
  if accepted = 0 then 0
  else if d2 = 0 then r
  else
    let q : Rat := (dT : Rat) / d2 - 1
    if accepted = 1 then q else r + (q - r) / (2 ^ rsh : Nat)

/-- Exchange `x` is accepted (R286, R289). -/
def Work.acceptExch (w : Work) (c : Nat) (x : Exch) (rtt : Rat) (turn : Int) (e : Echo) : Work :=
  let pg := pgCLANE c
  let l := w.ln c
  let a := roundR ((x.asym * 16 : Int) / 1000)
  let d := roundR ((rtt + a) / 2)
  let t2 := e.t2.toNat
  let bigT2 := n16Of ((x.t1.getD 0 : Int) + d)
  let prevT2 := match l.prev with
    | some p => p.1
    | none => t2
  let prevBig := match l.prev with
    | some p => n16Of p.2
    | none => bigT2
  let r := if l.holdRate then l.rate
    else rateNext l.accepted x.rsh l.rate (diff44 bigT2 prevBig) (diff44 t2 prevT2)
  let w := w.when (!l.holdRate && w.on pg CLANE_LSTAT_COARSE) fun w => w.wr pg CLANE_LSTAT_COARSE 0
  let w := w.modLn c fun l => { l with rate := r, ofs := diff44 bigT2 t2, anchor := t2, prev := some (t2, bigT2), rtt := some rtt,
                                       accepted := l.accepted + 1, badRun := 0, rttRun := 0, holdRate := false }
  let w := ((w.wr pg CLANE_RTT (ofSigned 24 (roundR rtt))).wr pg CLANE_DDOWN (ofSigned 24 d)).wr pg CLANE_TURN (ofSigned 24 turn)
  (w.masterMove c).askTimeOfs c e.xid.toNat

/-- A TIMEECHO meets its exchange (R284, R285); `t4` is the arrival of its SOF. -/
def Work.echo (w : Work) (c : Nat) (e : Echo) (t4 : Nat) : Work :=
  let pg := pgCLANE c
  let l := w.ln c
  match l.exch.find? fun x => x.xid == e.xid.toNat && x.t1.isSome with
  | none => w
  | some x =>
    let w := w.modLn c fun l => { l with exch := l.exch.erase x }
    if !x.usable || w.on pgTALLY TALLY_STAT_HOLDOVER then w
    else
      let turn := diff44 e.t3.toNat e.t2.toNat
      let rtt : Rat := (diff44 t4 (x.t1.getD 0) : Rat) - turn * (1 + x.rate)
      let tol : Rat := x.tol
      let far := match l.rtt with
        | some q => decide (tol < rtt - q) || decide (tol < q - rtt)
        | none => false
      if 320000 < turn then ((w.count pg CLANE_TT_REJ).modLn c fun l => { l with rttRun := 0 }).badExch c
      else if far && decide (l.rttRun < 4) then
        ((w.count pg CLANE_TT_REJ).modLn c fun l => { l with rttRun := l.rttRun + 1 }).badExch c
      else
        let w := w.when far fun w => (w.wr pg CLANE_LSTAT_RTT_JUMP 1).flt pg .ce 20
        w.acceptExch c x rtt turn e

/-- Lanes whose cell ends keep network time: those in SYNC or UP (R288). -/
def Work.timedLanes (w : Work) : List Nat := (upto 48).filter fun c => w.laneState c == 2 || w.laneState c == 3

/-- TIMEOFS for a re-anchoring (R288): a lane whose first one is still to come sends none, or that one with the new values. -/
def Work.askReanchor (w : Work) (c : Nat) : Work := if w.laneState c = 3 then w.askTimeOfs c 0 else w

/-- The rate of network time changes by `q` at this tick (R288): R is scaled, O re-anchored, and TIMEOFS sent. -/
def Work.reanchorRate (w : Work) (q : Rat) : Work :=
  w.each w.timedLanes fun w c =>
    let w := w.modLn c fun l =>
      let da := roundR ((diff44 (n16Of (n16 w.now - l.ofs)) l.anchor : Rat) / (1 + l.rate))
      let moved := if l.accepted = 0 then l else
        { l with ofs := l.ofs + roundR (l.rate * da), anchor := n16Of (l.anchor + da) }
      { moved with rate := (1 + l.rate) * q - 1 }
    w.askReanchor c

/-- A Tally step of `d` sixteenths of a nanosecond (R288). -/
def Work.reanchorStep (w : Work) (d : Int) : Work :=
  w.each w.timedLanes fun w c =>
    (w.modLn c fun l => { l with ofs := l.ofs + d, prev := l.prev.map fun p => (p.1, p.2 + d) }).askReanchor c

/-- The gates close (R289): exchanges in progress are not used, and every enabled lane is COARSE. -/
def Work.lanesHoldover (w : Work) : Work :=
  w.each ((upto 48).filter fun c => w.laneState c != 0) fun w c =>
    (w.modLn c fun l => { l with exch := l.exch.map fun x => { x with usable := false }, holdRate := true, timeOfs := none,
                                 p4 := l.p4.filter fun k => k != 2 }).wr (pgCLANE c) CLANE_LSTAT_COARSE 1

/-! ### Downlink frames -/

/-- An edge word (R230). -/
def edgeQuad (e : EdgeW) (seq : Nat) : Quad :=
  quad (b2n e.cancel * 2 ^ 62 + e.leg * 2 ^ 59 + e.st * 2 ^ 57 + b2n e.refr * 2 ^ 56 + b2n e.str * 2 ^ 55 + b2n e.dts * 2 ^ 54 +
    seq % 16 * 2 ^ 48 + n16Of e.due)

/-- Words of a unit sent and not yet due at `t` (R232). -/
def Work.unsettled (w : Work) (u : Nat) (t : Int) : Nat := ((w.un u).sent.filter fun d => decide (t < d)).length

/-- An edge word may leave at time `t` (R232, R233): not earlier than 16.0 µs before its due time, nor later than 1.0 µs
before it, and within 64 words of its leg. A CANCEL word goes as soon as it can (R237). -/
def Work.edgeReady (w : Work) (t : Int) (u : Nat) (e : EdgeW) (more : Nat) : Bool :=
  (e.cancel || (decide (e.due - t ≤ 256000) && decide (16000 ≤ e.due - t))) && decide (w.unsettled u t + more < 64)

/-- A timed frame may leave at time `t`; a sample plan no later than 2.0 µs before its instant (R260). -/
def Work.timedReady (w : Work) (t : Int) : Timed → Bool
  | .edge u e => w.edgeReady t u e 0
  | .prof .. => true
  | .sample _ _ due first => decide (first ≤ t) && decide (32000 ≤ due - t)

/-- The edge words that share the first frame: as many of the next `n` as follow at once and may leave. -/
def Work.takeEdges (w : Work) (t : Int) : Nat → List (Nat × EdgeW) → List Timed → List (Nat × EdgeW) × List Timed
  | n + 1, acc, .edge u e :: r =>
    if w.edgeReady t u e (acc.filter fun p => p.1 == u).length then w.takeEdges t n (acc ++ [(u, e)]) r else (acc, .edge u e :: r)
  | _, acc, r => (acc, r)

/-- An edge word takes its sequence number as it is sent (R231, R232). -/
def Work.edgeSent (w : Work) (t : Int) (u : Nat) (e : EdgeW) : Work × Quad :=
  let q := edgeQuad e (w.un u).seq
  let w := w.modUn u fun k => { k with
    seq := (k.seq + 1) % 16
    sent := (if e.cancel then k.sent else e.due :: k.sent).filter fun d => decide (t < d) }
  (w.count (pgUNIT u) UNIT_EDGE_COUNT, q)

/-- The timed frame lane `o` sends next at time `t`, if any may leave (R275): TYPE and words. -/
def Work.timedFrame (w : Work) (o : Nat) (t : Int) : Option (Work × Nat × List Quad) :=
  let l := (w.ln o).timed
  let head := l.takeWhile fun x => !w.timedReady t x
  match l.dropWhile fun x => !w.timedReady t x with
  | [] => none
  | .edge u e :: r =>
    let q := w.takeEdges t 2 [(u, e)] r
    let z := q.1.foldl (fun (a : Work × List Quad) p => let s := a.1.edgeSent t p.1 p.2; (s.1, a.2 ++ [s.2])) (w, [])
    let words := z.2 ++ List.replicate (3 - z.2.length) (quad 0) ++ [quad (z.2.length * 2 ^ 62)]
    some (z.1.modLn o fun k => { k with timed := head ++ q.2 }, 1, words)
  | .prof leg due w1 :: r =>
    some (w.modLn o fun k => { k with timed := head ++ r }, 2, [quad (leg * 2 ^ 61 + n16Of due), w1, 0, 0])
  | .sample m0 m1 due _ :: r =>
    some (w.modLn o fun k => { k with timed := head ++ r }, 3, [quad (m0 * 2 ^ 56 + m1 * 2 ^ 48 + n16Of due), 0, 0, 0])

/-- SAFE (R317, R395): the Hearth's cause and pattern while a held reaction covers the cluster. -/
def Work.safeFrame (w : Work) (o : Nat) (once : Option Nat) : List Quad :=
  let h := bitOf w.rgHeld (o / 12)
  let cause := if h then 9 else once.getD (w.rd (pgCLU o) CLU_CSTAT_LOCK_CAUSE)
  let pat := if h then w.rd pgHRT HRT_HPAT else w.rd (pgCLU o) CLU_SAFEPAT_PAT
  [quad (cause * 2 ^ 60 + pat), 0, 0, 0]

/-- ROLE (R300, R301): a SOLO package's claim is in force as its SOF leaves. -/
def Work.roleFrame (w : Work) (c : Nat) (t : Int) : List Quad :=
  let active := w.role != 1
  let teff := if w.role = 0 then n16Of t else if active then n16Of (w.ln c).claimAt else 0
  [quad (w.epoch * 2 ^ 32 + b2n active * 2 ^ 31 + w.pkgNo), quad (w.pairNo * 2 ^ 48 + teff), 0, 0]

/-- The next CMD frame of cluster `o`'s lane: a resend, or the next CMD with the next CSEQ (R319, R321). -/
def Work.cmdFrame (w : Work) (o : Nat) : Option (Work × Nat × List Quad) :=
  let l := w.ln o
  let words (k : CeCmd) (s : Nat) : List Quad := [quad (k.op * 2 ^ 56 + s * 2 ^ 52), k.arg, 0, 0]
  let asked (l : Lane) : Lane := { l with p4 := l.p4.filter fun k => k != 0 }
  match l.cmdOut, l.cmds with
  | some (k, s, n), _ => some (w.modLn o fun l => asked { l with cmdOut := some (k, s, n + 1) }, 6, words k s)
  | none, k :: r =>
    let s := l.cseq % 15 + 1
    let w := w.modLn o fun l => asked { l with cmdOut := some (k, s, 1), cmds := r, cseq := s }
    let w := w.wr (pgCLANE o) CLANE_CE_STAT_CSEQ s
    let w := w.when (k.op == 5) fun w => w.modCl o fun q => { q with st := q.st.map fun x => (some s, x.2) }
    let w := w.when (k.op == 6) fun w => w.modCl o fun q => { q with resume := q.resume.map fun _ => some s }
    some (w, 6, words k s)
  | none, [] => none

/-- TIMEOFS of lane `c` (R314, R291); the first one since SYNC takes the lane to UP (R280). -/
def Work.timeOfsFrame (w : Work) (c : Nat) : Work × List Quad :=
  let pg := pgCLANE c
  let m := w.ln (w.timeMaster c)
  let r := ofSigned 32 (roundR (m.rate * (2 ^ 32 : Nat)))
  let o := ofSigned 44 m.ofs
  let words := [quad ((w.ln c).timeOfs.getD 0 * 2 ^ 56 + m.anchor % 2 ^ 44), quad o, quad (r * 2 ^ 32), 0]
  let w := ((w.wr pg CLANE_TOFS_LO o).wr pg CLANE_TOFS_HI (o / 2 ^ 32)).wr pg CLANE_TRATE r
  let w := w.modLn c fun l => { l with timeOfs := none, p4 := l.p4.filter fun k => k != 2 }
  (w.when (w.laneState c == 2) fun w => w.cellUp c, words)

/-- PING of lane `c` at time `t`: the oldest exchange not yet begun takes its t1 and the rate in force (R284, R292). -/
def Work.pingFrame (w : Work) (c : Nat) (t : Int) : Work × List Quad :=
  let l := w.ln c
  match l.exch.find? fun x => x.t1.isNone with
  | none => (w.modLn c fun l => { l with p4 := l.p4.filter fun k => k != 3 }, [0, 0, 0, 0])
  | some x =>
    let ex := l.exch.map fun y => if y = x then { y with t1 := some (n16Of t), rate := l.rate } else y
    let w := w.modLn c fun l => { l with
      exch := ex
      p4 := if ex.any fun y => y.t1.isNone then l.p4.filter (fun k => k != 3) ++ [3] else l.p4.filter fun k => k != 3 }
    (w, [quad (x.xid * 2 ^ 56), 0, 0, 0])

/-- The package commands the lane's cell end at time `t`: a SOLO package does, an ACTIVE one from the T_EFF of its claim
(R302, R429), and one that hands over until the region releases (R430). -/
def Work.drives (w : Work) (c : Nat) (t : Int) : Bool :=
  w.role == 0 || (w.role == 2 && decide ((w.ln c).claimAt ≤ t)) || (w.role == 1 && !w.standsBy c)

/-- The lane that leads a pair: the even one while it is in UP (R21, R258). -/
def Work.leadLane (w : Work) (o : Nat) : Nat := if w.path2 o && w.laneState o != 3 then o + 1 else o

/-- The other lane of a pair receives a copy of a frame (R21, R291). -/
def Work.mirrorTo (w : Work) (o c type : Nat) (ws : List Quad) : Work :=
  if w.path2 o then
    let other := if c = o then o + 1 else o
    w.when (w.laneState other == 3) fun w => w.modLn other fun l => { l with
      mirror := l.mirror ++ [(type, ws)]
      p4 := if type = 6 then l.p4 ++ [1] else l.p4 }
  else w

/-- The oldest frame waiting to be copied that `p` admits by TYPE, and the lane without it (R21). -/
def Lane.takeMirror (l : Lane) (p : Nat → Bool) : Option (Lane × Nat × List Quad) :=
  (l.mirror.find? fun e => p e.1).map fun e => ({ l with mirror := l.mirror.erase e }, e)

/-- A class 4 frame of lane `c` in the order of the requests (R275, R278). -/
def Work.class4 (w : Work) (c : Nat) (t : Int) : Option (Work × Nat × List Quad) :=
  let o := w.owner c
  let lead := w.leadLane o == c
  let up := w.laneState c == 3
  let cmdOk := up && lead && w.drives c t
  let queue := if lead && c != o && (w.ln o).p4.contains 0 then (w.ln c).p4 ++ [0] else (w.ln c).p4
  match queue.find? fun k => if k = 0 then cmdOk else if k = 1 then !w.standsBy c else true with
  | some 0 => (w.cmdFrame o).map fun q => (q.1.mirrorTo o c q.2.1 q.2.2, q.2)
  | some 1 => ((w.ln c).takeMirror fun t => t == 6).map fun q => (w.modLn c fun _ => { q.1 with p4 := q.1.p4.erase 1 }, q.2)
  | some 2 => let q := w.timeOfsFrame c; some (q.1, 4, q.2)
  | some _ => let q := w.pingFrame c t; some (q.1, 8, q.2)
  | none => none

/-- A timed frame of lane `c`: a second copy, a frame of the leading lane, or the copy of one (R275, R276). A standby region
sends none (R302), but while it is RELEASING what it computed before goes on (R430). -/
def Work.class3 (w : Work) (c : Nat) (t : Int) : Option (Work × Nat × List Quad) :=
  let o := w.owner c
  let l := w.ln c
  if w.standsBy c && (w.rg (c / 12)).releaseAt.isNone then none
  else match l.copy, l.takeMirror fun t => t != 6 with
  | some (ty, ws), _ => some (w.modLn c fun l => { l with copy := none }, ty, ws)
  | none, some q => some (w.modLn c fun _ => q.1, q.2)
  | none, none =>
    if w.leadLane o = c then
      (w.timedFrame o t).map fun q =>
        let w := q.1.mirrorTo o c q.2.1 q.2.2
        (w.when (w.on (pgCLANE c) CLANE_CTL_DUP && q.2.1 != 3) fun w =>
          (w.modLn c fun l => { l with copy := some (q.2.1 + 0x80, q.2.2) }).mirrorTo o c (q.2.1 + 0x80) q.2.2, q.2)
    else none

/-- Repeat counters of SAFE move on one slot: due at 0, every eighth slot (R318). -/
def slotTick (n : Option Nat) (sent : Bool) : Option Nat :=
  n.map fun k => if sent then 7 else k - 1

/-- The lane repeats SAFE for its cluster (R318): CSTAT.SAFE_ACT decides. -/
def Work.safeAct (w : Work) (c : Nat) : Bool := w.on (pgCLU (w.owner c)) CLU_CSTAT_SAFE_ACT && (w.lanesOf (w.owner c)).contains c

/-- The frame of lane `c` in the slot that starts at time `t` (R275, R278, R302). -/
def Work.slotFrame (w : Work) (c : Nat) (t : Int) : Work × Nat × List Quad :=
  let o := w.owner c
  let st := w.laneState c
  let l := w.ln c
  let idle : Work × Nat × List Quad := (w, 0, [0, 0, 0, 0])
  let act := w.safeAct c
  let safe := if act then some (l.safe.getD 0) else none
  let due := 2 ≤ st ∧ st ≤ 4 ∧ ¬ w.standsBy c ∧ (safe = some 0 ∨ l.hsafe = some 0 ∨ l.safeOnce.isSome)
  if due then
    let once := if !act && l.hsafe.isNone then l.safeOnce else none
    (w.modLn c fun l => { l with safe := slotTick safe true, hsafe := slotTick l.hsafe true, safeOnce := none }, 5,
      w.safeFrame o once)
  else
    let w := w.modLn c fun l => { l with safe := slotTick safe false, hsafe := slotTick l.hsafe false }
    if st = 3 ∧ l.role ≠ 0 then (w.modLn c fun l => { l with role := l.role - 1 }, 7, w.roleFrame c t)
    else
      match (if st = 3 then w.class3 c t else none) with
      | some q => q
      | none => match (if st = 2 ∨ st = 3 then w.class4 c t else none) with
        | some q => q
        | none => (w, idle.2)

/-! ### Commands -/

/-- DOWNLINK_SLOT (R273, R275): the slot that starts `sub` sixteenths of a nanosecond after this tick. Sample plans that
have missed their latest time are dropped (R260). -/
def execDownlinkSlot (c : Fin 48) (sub : Fin 40) (s : State) : Host.Outcome State Fault Refusal :=
  nextDev s fun w =>
    let c := c.val
    if w.laneState c = 0 ∨ w.rgFenced (c / 12) then w
    else
      let t := t16 w.now + sub.val
      let skip := (w.ln c).slot % 32 == 31
      let w := w.modLn c fun l => { l with slot := (l.slot + 1) % 32, timed := l.timed.filter (Timed.inTime t) }
      let q := w.slotFrame c t
      q.1.sendFrame c q.2.1 q.2.2 skip

/-- PING_START (R284). -/
def execPingStart (c : Fin 48) (s : State) : Host.Outcome State Fault Refusal :=
  nextDev s fun w => if w.laneState c.val = 2 ∨ w.laneState c.val = 3 then w.startExch c.val else w

/-- EXCHANGE_LOST (R285): 50 µs have passed since t1 of the oldest exchange. -/
def execExchangeLost (c : Fin 48) (s : State) : Host.Outcome State Fault Refusal :=
  nextDev s fun w =>
    match (w.ln c.val).exch.find? fun x => x.t1.isSome with
    | some x =>
      let w := w.modLn c.val fun l => { l with exch := l.exch.erase x }
      if x.usable then ((w.count (pgCLANE c.val) CLANE_TT_LOST).modLn c.val fun l => { l with rttRun := 0 }).badExch c.val else w
    | none => w

/-- ROLE_REPEAT (R301). -/
def execRoleRepeat (c : Fin 48) (s : State) : Host.Outcome State Fault Refusal :=
  nextDev s fun w => if w.laneState c.val = 3 then w.modLn c.val fun l => { l with role := max l.role 1 } else w

/-- The outstanding CMD is done with: the next one asks for a slot. -/
def Work.cmdDone (w : Work) (o : Nat) : Work :=
  w.modLn o fun l => Lane.nextCmd { l with cmdOut := none, p4 := l.p4.filter fun k => k != 0 }

/-- CMD_RESEND (R321): 100 µs after a send without acknowledgement; after eight sends the CMD is abandoned. -/
def execCmdResend (c : Fin 48) (s : State) : Host.Outcome State Fault Refusal :=
  nextDev s fun w =>
    let c := c.val
    match (w.ln c).cmdOut with
    | none => w
    | some (k, _, n) =>
      if n < 8 then w.modLn c fun l => l.ask 0
      else
        let w := ((w.count (pgCLANE c) CLANE_CMD_RETRY).flt (pgCLANE c) .ce 21).cmdDone c
        if k.op = 5 ∧ (w.cl c).st.isSome then w.stEnd c false else w

end Sys2Proof.Machine
end

