-- ==== Sys2Proof/Machine/Tally.lean ====
section
/-! DEFINITION. The Tally (R121 to R132), the system PLL and holdover (R133 to R146), captures and timed outputs (R147 to
R151), and Ethernet timestamps (R152 to R156). -/

namespace Sys2Proof.Machine

/-! ### The counter -/

/-- The Tally with other counter values. -/
def Tally.counters (t : Tally) (a b : Time) : Tally := { t with a := a, b := b }

/-- The Tally with another PLL state. -/
def Tally.setPll (t : Tally) (p : Pll) : Tally := { t with pll := p }

/-- The Tally with `n` more ticks' worth of time gone by, and `r` ticks counted since the last REFCLK edge; `ref` says that a
REFCLK edge has come, which ends another period without a slip (R142). -/
def Tally.elapse (t : Tally) (n r : Nat) (ref : Bool) : Tally :=
  { t with elapsed := t.elapsed + n, pll := { t.pll with sinceRef := r, quiet := t.pll.quiet + b2n ref } }

/-- The comparator's word: F in bits 0 to 31, NS in 32 to 61, S in 62 to 109 (R125). -/
def timeCode (t : Time) : Nat := t.fr + t.ns * 2 ^ 32 + t.s * 2 ^ 62

/-- The counter whose comparator word is `v`. -/
def timeOfCode (v : Nat) : Time := ⟨v / 2 ^ 62 % 2 ^ 48, v / 2 ^ 32 % 2 ^ 30, v % 2 ^ 32⟩

/-- Bits of counter B that an upset inverts. -/
def timeUpset (t : Time) (l : List (Fin 110)) : Time := timeOfCode (l.foldl (fun v k => v ^^^ 2 ^ k.val) (timeCode t))

/-- The comparison of the two counters (R125, R126); a standing mismatch is not raised again. -/
def Work.tallyCompare (w : Work) (d : Nat) : Work :=
  let armed := w.armedFor pgTALLY 0
  let w := w.when armed fun w => w.injDone pgTALLY (d == 0)
  if d = 0 ∨ bitOf (w.rd pgTALLY HDR_FLT_CAUSE) 0 then w else w.flt pgTALLY .fatal 16

/-- Ticks come from the PLL: the Tally runs and the gates are open (R121). -/
def Tally.ticking (t : Tally) : Bool := t.running && !t.pll.closed

/-- The state with another Tally. -/
def State.setTally (s : State) (t : Tally) : State := { s with tally := t }

/-- Both counters add `d`; an upset then inverts bits of counter B (R121, R125). -/
def Tally.advance (t : Tally) (d : Nat) (upset : List (Fin 110)) : Tally :=
  t.counters (timeAdd t.a d) (timeUpset (timeAdd t.b d) upset)

/-- A tick of the PLL (R121): both counters add the increment; with `ref` a REFCLK edge comes at its end. -/
def Tally.tick (t : Tally) (upset : List (Fin 110)) (ref : Bool) : Tally :=
  (t.advance t.inc upset).elapse 1 (if ref then 0 else t.pll.sinceRef + 1) ref

/-- The Tally becomes `t`, whose counters are compared (R125). -/
def State.compareTally (s : State) (t : Tally) : State :=
  (s.setTally t).onDev fun w => w.tallyCompare (timeCode t.a ^^^ timeCode t.b)

/-- TALLY_TICK (R121, R125): both counters add the increment and are compared. -/
def execTallyTick (upset : List (Fin 110)) (ref : Bool) (s : State) : Host.Outcome State Fault Refusal :=
  if s.tally.ticking then .next (s.compareTally (s.tally.tick upset ref)) else .next s

/-- A read of NOW_NS (R124). -/
def Work.readNow (w : Work) : Work × Word :=
  let t := w.now
  (((w.wr pgTALLY TALLY_NOW_S_LO t.s).wr pgTALLY TALLY_NOW_S_HI (t.s / 2 ^ 32)).wr pgTALLY TALLY_NOW_FR (t.fr / 2 ^ 16),
    BitVec.ofNat 32 t.ns)

/-- A read of one register as a command: the host receives the word. -/
def Work.answer (q : Work × Word) : Work := q.1.emit (.hostRead [q.2] false)

/-- TALLY_NOW_READ (R124). -/
def execTallyNowRead (s : State) : Host.Outcome State Fault Refusal :=
  nextDev s fun w => w.hostGet .tallyNowRead (pgTALLY + TALLY_NOW_NS.at 0) fun w => Work.answer w.readNow

/-! ### Rate correction -/

/-- A write of INC_FRAC stages a fraction (R127). -/
def State.incFrac (s : State) (v : Nat) : State :=
  if s.work.on pgTALLY HDR_LOCK_LOCKED then s.onDev fun w => w.unlocked pgTALLY id
  else (s.setTally { s.tally with staged := some v }).onDev fun w => w.wr pgTALLY TALLY_INC_FRAC v

/-- INC_FRAC_WRITE (R127). -/
def execIncFracWrite (v : Word) (s : State) : Host.Outcome State Fault Refusal :=
  .next (s.hostAct (.incFracWrite v) (pgTALLY + TALLY_INC_FRAC.at 0) fun s => s.incFrac v.toNat)

/-- The increments that a commit accepts: within 1,000 ppm (R127). -/
def incLegal (ns frac : Nat) : Bool := ns == 2 && decide (0x7F5C28F6 ≤ frac) && decide (frac ≤ 0x80A3D70A)

/-- A write of INC_NS commits the increment (R127, R288) or is refused. -/
def State.incCommit (s : State) (v : Nat) : State :=
  let t := s.tally
  let frac := t.staged.getD t.incFrac
  if s.work.on pgTALLY HDR_LOCK_LOCKED then s.onDev fun w => w.unlocked pgTALLY id
  else if incLegal v frac then
    let n := { t with incNs := v, incFrac := frac, staged := none }
    (s.setTally n).onDev fun w =>
      ((w.wr pgTALLY TALLY_INC_NS v).wr pgTALLY TALLY_INC_FRAC frac).reanchorRate ((n.inc : Rat) / t.inc)
  else (s.setTally { t with staged := none }).onDev fun w => (w.wr pgTALLY TALLY_INC_FRAC t.incFrac).badval pgTALLY

/-- INC_NS_COMMIT (R127). -/
def execIncNsCommit (v : BitVec 4) (s : State) : Host.Outcome State Fault Refusal :=
  .next (s.hostAct (.incNsCommit v) (pgTALLY + TALLY_INC_NS.at 0) fun s => s.incCommit v.toNat)

/-! ### Timed outputs (R150, R151) -/

/-- Channel `m` drives its pin to the active or inactive level. -/
def Work.toDrive (w : Work) (m : Nat) (active : Bool) : Work :=
  let level := active != w.on pgTALLY TALLY_TO_CTL_POL m
  w.emit (if m = 0 then .pin "SYNC_OUT" 0 level else .pin "GPIO" (w.rd pgTALLY TALLY_TO_CTL_PIN m) level)

/-- The due time of channel `m` and its next pulses (R150): S[47:32] comes from the current time; a TRAIN repeats every PER. -/
def Work.toDue (w : Work) (m k : Nat) : Int :=
  let s := w.now.s / 2 ^ 32 * 2 ^ 32 + w.rd pgTALLY TALLY_TO_S m
  ((s * 1000000000 + w.rd pgTALLY TALLY_TO_NS m + k * w.rd pgTALLY TALLY_TO_PER m) * 16 : Nat)

/-- The first pulse of a TRAIN after pulse `k` that is still to come. -/
def Work.toNext (w : Work) (m k : Nat) : Nat :=
  max (k + 1) (((t16 w.now - w.toDue m 0) / (w.rd pgTALLY TALLY_TO_PER m * 16 : Nat)).toNat + 1)

/-- Something is due on channel `m`, and its time has come. -/
def Work.toReached (w : Work) (m : Nat) : Bool :=
  w.on pgTALLY TALLY_TO_CTL_EN m && match (vget w.tout m).next with
    | some k => decide (w.toDue m k ≤ t16 w.now)
    | none => false

/-- A channel fires. -/
def Work.toFire (w : Work) (m : Nat) (late : Bool) : Work :=
  let w := w.wr pgTALLY TALLY_TO_STAT_FIRED 1 m
  let w := w.when late fun w => w.wr pgTALLY TALLY_TO_STAT_LATE 1 m
  let w := w.when (w.on pgSPLL SPLL_STAT_HOLDOVER) fun w => w.wr pgTALLY TALLY_TO_STAT_COARSE 1 m
  let mode := w.rd pgTALLY TALLY_TO_CTL_MODE m
  let w := w.modTout m fun k => ⟨if mode = 1 then k.next.map (w.toNext m) else none, mode == 0 || mode == 1⟩
  w.toDrive m (mode != 3)

/-- A channel is enabled (R150): less than 1 µs before its due time, or after it, it fires at once. -/
def Work.toEnable (w : Work) (m : Nat) : Work :=
  let w := w.modTout m fun k => { k with next := some 0 }
  if w.toDue m 0 - t16 w.now < 16000 then w.toFire m true else w

/-- A due time is written: a channel that still waits counts its pulses from it. -/
def Work.toMoved (w : Work) (m : Nat) : Work := w.modTout m fun k => { k with next := k.next.map fun _ => 0 }

/-- A channel's enable clears: nothing further is due; a pulse that is on runs to its end, and the pin stays as it is
(DESIGN CHOICE, log entry 49). -/
def Work.toDisable (w : Work) (m : Nat) : Work := w.modTout m fun k => { k with next := none }

/-- TIMED_OUTPUT_DUE (R150). -/
def execTimedOutputDue (m : Fin 16) (s : State) : Host.Outcome State Fault Refusal :=
  nextDev s fun w => if w.toReached m.val then w.toFire m.val false else w

/-- TIMED_OUTPUT_PULSE_END (R151). -/
def execTimedOutputPulseEnd (m : Fin 16) (s : State) : Host.Outcome State Fault Refusal :=
  nextDev s fun w =>
    if (vget w.tout m.val).on then (w.modTout m.val fun k => { k with on := false }).toDrive m.val false else w

/-! ### Steps -/

/-- The time that a step leads to from time `t` (R129), none below zero. -/
def Work.stepTarget (w : Work) (adj : Bool) (t : Time) : Option Time :=
  let fr : Nat := w.rd pgTALLY TALLY_STEP_FR * 2 ^ 16
  if adj then
    let x : Int := ((t.s * 1000000000 + t.ns) * 2 ^ 32 + t.fr : Nat) + w.rdS pgTALLY TALLY_STEP_ADJ * 2 ^ 32 + fr
    if x < 0 then none
    else
      let n := x.toNat
      some ⟨n / 2 ^ 32 / 1000000000 % 2 ^ 48, n / 2 ^ 32 % 1000000000, n % 2 ^ 32⟩
  else some ⟨w.rd pgTALLY TALLY_STEP_S_HI * 2 ^ 32 + w.rd pgTALLY TALLY_STEP_S_LO, w.rd pgTALLY TALLY_STEP_NS % 1000000000, fr⟩

/-- A step is refused (R130). -/
def Work.stepRefused (w : Work) : Bool :=
  ((upto 48).any fun c => w.cstate c == 3 || w.cstate c == 5) || w.on pgPKG PKG_SWAP_STAT_ARMED || w.on pgPKG PKG_SWAP_STAT_PENDING

/-- A step cuts the region's cycle (R131 item 2). -/
def Work.cutCycle (w : Work) (n : Nat) : Work :=
  let r := w.rg n
  if r.run then
    let w := (w.leaveCycle n).wr pgTALLY TALLY_STAT_CYC_CUT 1
    if r.stopPend then w else w.awaitGrid n
  else if r.startPend then w.awaitGrid n
  else w

/-- What an accepted step by `d` sixteenths does at its new time (R131, R288). -/
def Work.stepEffects (w : Work) (adj : Bool) (d : Int) : Work :=
  let w := (w.wr pgTALLY TALLY_STAT_STEP_SEQ (w.rd pgTALLY TALLY_STAT_STEP_SEQ + 1)).count pgTALLY TALLY_STEP_COUNT
  let w := w.when (!adj) fun w => w.wr pgTALLY TALLY_STAT_TIME_SET 1
  let w := w.each (upto 4) Work.cutCycle
  (w.each ((upto 16).filter w.toReached) fun w m => w.toFire m true).reanchorStep d

/-- A write of STEP_CTL.GO (R129 to R131): each counter takes the step, with the write itself and not at the tick after it
(DESIGN CHOICE, log entry 48). -/
def State.stepTally (s : State) (adj : Bool) : State :=
  let s := s.onDev fun w => w.unlocked pgTALLY fun w => w.wr pgTALLY TALLY_STEP_CTL_MODE (b2n adj)
  let w := s.work
  match w.stepTarget adj s.tally.a with
  | some t =>
    if w.stepRefused then s.onDev fun w => (w.wr pgTALLY TALLY_STAT_STEP_REFUSED 1).badval pgTALLY
    else (s.setTally (s.tally.counters t ((w.stepTarget adj s.tally.b).getD t))).onDev fun v => v.stepEffects adj (t16 t - t16 w.now)
  | none => s.onDev fun w => (w.wr pgTALLY TALLY_STAT_STEP_REFUSED 1).badval pgTALLY

/-- TALLY_STEP (R129 to R131). -/
def execTallyStep (adj : Bool) (s : State) : Host.Outcome State Fault Refusal :=
  .next (s.hostAct (.tallyStep adj) (pgTALLY + TALLY_STEP_CTL_GO.at 0) fun s => s.stepTally adj)

/-! ### The PLL and holdover -/

/-- The state with another PLL state. -/
def State.setPll (s : State) (p : Pll) : State := s.setTally (s.tally.setPll p)

/-- The output gates close (R140). -/
def State.closeGates (s : State) : State := s.setPll { s.tally.pll with closed := true }

/-- The lock detector's verdict changes: LOCKF is driven to VANA or to VSSA in the first half of each REFCLK period from now on
(R137). -/
def State.lockVerdict (s : State) (v : Bool) : State :=
  if s.tally.pll.lockDet = v then s
  else (s.setPll { s.tally.pll with lockDet := v }).onDev fun w => w.emit (.pin "LOCKF" 0 v)

/-- A write of NOFS (R133 to R135): followed within 10 ppm of the settled value, else the gates close first and a change being
followed is given up (SLEWING clears: DESIGN CHOICE, log entry 50). -/
def State.nofs (s : State) (v : Nat) : State :=
  let x := toSigned 24 v
  let p := s.tally.pll
  if s.work.on pgSPLL HDR_LOCK_LOCKED then s.onDev fun w => w.unlocked pgSPLL id
  else if 53687 < x.natAbs then s.onDev fun w => w.badval pgSPLL
  else
    let s := s.onDev fun w => w.wr pgSPLL SPLL_NOFS v
    if p.target.isNone && decide ((x - p.settled).natAbs ≤ 2684) then
      (s.setPll { p with inUse := x }).onDev fun w => w.wr pgSPLL SPLL_STAT_SLEWING 1
    else
      (((s.setPll { p with target := some x }).lockVerdict false).closeGates).onDev fun w => w.wr pgSPLL SPLL_STAT_SLEWING 0

/-- NOFS_WRITE (R134, R135). -/
def execNofsWrite (v : BitVec 24) (s : State) : Host.Outcome State Fault Refusal :=
  .next (s.hostAct (.nofsWrite v) (pgSPLL + SPLL_NOFS.at 0) fun s => s.nofs v.toNat)

/-- The PLL has settled on offset `x` (R134, R136): the lanes' rates follow where it is a new one (R288). -/
def State.pllSettle (s : State) (x : Int) : State :=
  let p := s.tally.pll
  (s.setPll { p with target := none, inUse := x, settled := x }).onDev fun w =>
    (w.wr pgSPLL SPLL_STAT_SLEWING 0).when (x != p.settled || w.on pgSPLL SPLL_STAT_SLEWING) fun w =>
      w.reanchorRate ((pllN x : Rat) / pllN p.settled)

/-- PLL_SETTLED (R134, R288). -/
def execPllSettled (s : State) : Host.Outcome State Fault Refusal :=
  if s.work.on pgSPLL SPLL_STAT_SLEWING ∧ ¬ s.tally.pll.closed then .next (s.pllSettle s.tally.pll.inUse) else .next s

/-- PLL_LOCK_ACQUIRED (R135, R136): the lock detector reports lock; a NOFS change that waited has been applied. -/
def execPllLockAcquired (s : State) : Host.Outcome State Fault Refusal :=
  let p := s.tally.pll
  .next (((s.lockVerdict true).pllSettle (p.target.getD p.inUse)).onDev fun w => w.wr pgSPLL SPLL_STAT_REF_OK 1)

/-- LOCKED_CLEAR (R138, R140). -/
def execLockedClear (s : State) : Host.Outcome State Fault Refusal :=
  .next (s.closeGates.onDev fun w => w.wr pgSPLL SPLL_STAT_LOCKED 0)

/-- PLL_SLIP (R139, R140, R142). -/
def execPllSlip (s : State) : Host.Outcome State Fault Refusal :=
  let s := (s.setPll { s.tally.pll with quiet := 0 }).lockVerdict false
  .next (s.closeGates.onDev fun w => w.wr pgSPLL SPLL_STAT_SLIP 1)

/-- What the first holdover edge does to the device (R140, R289). -/
def Work.enterHoldover (w : Work) : Work :=
  let w := ((w.wr pgSPLL SPLL_STAT_HOLDOVER 1).wr pgSPLL SPLL_STAT_GATED 1).wr pgSPLL SPLL_HOLD_US 0
  let w := (w.wr pgTALLY TALLY_STAT_UNC_WIDE 1).wr pgTALLY TALLY_STAT_HOLDOVER 1
  (w.flt pgSPLL .ce 16).lanesHoldover

/-- HOLDOVER_REFCLK_EDGE (R140, R125): HINC is added, the first time less the ticks counted since the previous edge, and the
counters are compared. -/
def execHoldoverRefclkEdge (upset : List (Fin 110)) (s : State) : Host.Outcome State Fault Refusal :=
  let t := s.tally
  if t.running ∧ t.pll.closed then
    let first := !s.work.on pgSPLL SPLL_STAT_HOLDOVER
    let d := if first then t.hinc - t.pll.sinceRef * t.inc else t.hinc
    .next ((s.compareTally ((t.advance d upset).elapse 16 0 true)).onDev fun w =>
      (w.when first Work.enterHoldover).wr pgSPLL SPLL_STAT_REF_OK 1)
  else .next s

/-- The gates may reopen (R142): LOCKED, no slip for SETTLE.CYCLES periods, and no NOFS change still to be applied. -/
def State.mayReopen (s : State) : Bool :=
  let p := s.tally.pll
  p.closed && p.lockDet && p.target.isNone && s.work.on pgSPLL SPLL_STAT_LOCKED && decide (s.work.rd pgSPLL SPLL_SETTLE ≤ p.quiet)

/-- GATES_REOPEN (R142). -/
def execGatesReopen (s : State) : Host.Outcome State Fault Refusal :=
  if s.mayReopen then
    .next ((s.setPll { s.tally.pll with closed := false, sinceRef := 0 }).onDev fun w =>
      let w := (w.wr pgSPLL SPLL_STAT_HOLDOVER 0).wr pgSPLL SPLL_STAT_GATED 0
      (w.wr pgTALLY TALLY_STAT_HOLDOVER 0).count pgSPLL SPLL_RELOCK_COUNT)
  else .next s

/-- Holdover has lasted too long (R143): clusters in PRECHARGE, RUN or TEST are forced safe; a cause that is set anew has not
raised REGION for the others (R249). -/
def Work.holdExpire (w : Work) : Work :=
  let fresh := !bitOf (w.rd pgSPLL HDR_FLT_CAUSE) 1
  (w.flt pgSPLL .uc 17).each ((upto 48).filter fun c => w.owner c == c) fun w c =>
    if w.cstate c == 1 || w.cstate c == 3 || w.cstate c == 5 then w.forcedSafe c 5 3
    else w.when (fresh && bitOf (w.cl c).rgSrc 3) fun w => w.modCl c fun k => { k with rgSrc := k.rgSrc - 8 }

/-- HOLD_EXPIRED (R143). -/
def execHoldExpired (s : State) : Host.Outcome State Fault Refusal :=
  if s.tally.pll.closed then nextDev s Work.holdExpire else .next s

/-- REF_LOST (R144). -/
def execRefLost (s : State) : Host.Outcome State Fault Refusal :=
  nextDev s fun w => (w.wr pgSPLL SPLL_STAT_REF_OK 0).flt pgSPLL .fatal 19

/-- FREQ_CHECK_WINDOW (R145): an armed injection inverts the verdict. -/
def execFreqCheckWindow (count : BitVec 11) (s : State) : Host.Outcome State Fault Refusal :=
  nextDev s fun w =>
    let bad := decide (count.toNat < 900) || decide (1100 < count.toNat)
    let w := w.wr pgSPLL SPLL_XCHK count.toNat
    let w := w.when (w.armedFor pgSPLL 0) fun w => w.injDone pgSPLL (!bad)
    if bad then w.flt pgSPLL .fatal 18 else w

/-! ### Captures (R147 to R149) -/

/-- Channel `k` records an edge, or drops it with OVR; `sub` is the part that SYNC_IN's interpolator adds, in 1/16 ns. Sources
of 2.5 ns resolution record no F[27:16] (R148, R151). -/
def Work.capture (w : Work) (k : Nat) (falling : Bool) (sub : Option Nat) : Work :=
  if w.on pgTALLY TALLY_CAP_NS_FULL k then w.wr pgTALLY TALLY_CAP_FR_OVR 1 k
  else
    let t := timeAdd w.now (sub.getD 0 * 2 ^ 28)
    let fr := if sub.isSome then t.fr / 2 ^ 16 else t.fr / 2 ^ 28 * 2 ^ 12
    let w := w.setCap k (some ⟨t.s, fr, w.on pgSPLL SPLL_STAT_HOLDOVER, falling, w.rd pgTALLY TALLY_STAT_STEP_SEQ⟩)
    (w.wr pgTALLY TALLY_CAP_NS_FULL 1 k).wr pgTALLY TALLY_CAP_NS_NS t.ns k

/-- CAPTURE_EDGE (R147 to R149): an edge of the channel's source; SYNC_IN alone is interpolated, and not in holdover. -/
def execCaptureEdge (k : Fin 32) (falling : Bool) (sub : Fin 40) (s : State) : Host.Outcome State Fault Refusal :=
  nextDev s fun w =>
    let e := w.rd pgTALLY TALLY_CAP_CTL_EDGE k.val
    if w.on pgTALLY TALLY_CAP_CTL_EN k.val ∧ (e = 2 ∨ e = b2n falling) then
      w.capture k.val falling (if w.rd pgTALLY TALLY_CAP_CTL_SRC k.val ≠ 0x20 then none
        else if w.on pgSPLL SPLL_STAT_HOLDOVER then some 0 else some sub.val)
    else w

/-- A read of CAPk_NS (R149): a record is latched into CAPk_S and CAPk_FR and released. -/
def Work.readCap (w : Work) (k : Nat) : Work × Word :=
  let v := w.word (pgTALLY + TALLY_CAP_NS_NS.at k)
  match w.cap.toList.getD k none with
  | some r =>
    let w := w.setCap k none
    let w := ((w.wr pgTALLY TALLY_CAP_NS_FULL 0 k).wr pgTALLY TALLY_CAP_S r.s k).wr pgTALLY TALLY_CAP_FR_COARSE (b2n r.coarse) k
    (((w.wr pgTALLY TALLY_CAP_FR_EDGE (b2n r.falling) k).wr pgTALLY TALLY_CAP_FR_STEP_SEQ r.seq k).wr pgTALLY TALLY_CAP_FR_FR r.fr k, v)
  | none => (w, v)

/-- CAPTURE_READ (R149). -/
def execCaptureRead (k : Fin 32) (s : State) : Host.Outcome State Fault Refusal :=
  nextDev s fun w => w.hostGet (.captureRead k) (pgTALLY + TALLY_CAP_NS_NS.at k) fun w => Work.answer (w.readCap k.val)

/-! ### Ethernet timestamps (R152 to R156) -/

/-- The message is a PTP event message of an enabled transport (R152). -/
def Work.ptpEvent (w : Work) (p : Nat) (m : PtpMsg) : Bool :=
  decide (m.msgType.toNat ≤ 3) && w.on (pgETH p) (match m.transport with
    | 0 => ETH_PTP_CTL_L2
    | 1 => ETH_PTP_CTL_IPV4
    | _ => ETH_PTP_CTL_IPV6)

/-- RX_KEY and TX_KEY of a message (R156). -/
def ptpKey (m : PtpMsg) : Nat := 2 ^ 31 + m.msgType.toNat * 2 ^ 24 + m.domain.toNat * 2 ^ 16 + m.seqId.toNat

/-- A timestamp of this tick, corrected (R153). -/
def Work.ptpStamp (w : Work) (m : PtpMsg) (x : Int) : PtpTs :=
  ⟨ptpKey m, timeOf16 x, w.on pgSPLL SPLL_STAT_HOLDOVER, w.rd pgTALLY TALLY_STAT_STEP_SEQ⟩

/-- PTP_RX_TIMESTAMP (R152, R153, R155). -/
def execPtpRxTimestamp (p : Fin 2) (m : PtpMsg) (sub : Fin 40) (s : State) : Host.Outcome State Fault Refusal :=
  nextDev s fun w =>
    let pg := pgETH p.val
    if w.on pg ETH_PTP_CTL_ING_EN ∧ w.ptpEvent p.val m then
      let l := vget w.ethRx p.val
      if 16 ≤ l.length then w.wr pg ETH_TS_STAT_RX_OVF 1
      else
        let e := w.ptpStamp m (t16 w.now + sub.val - w.rdS pg ETH_ING_ASYM)
        let w := w.modEthRx p.val fun l => l ++ [e]
        w.wr pg ETH_TS_STAT_RX_LVL (l.length + 1)
    else w

/-- What a one-step Sync carries (R154): its departure time in whole nanoseconds, and the rest added to correctionField. -/
def oneStep (p : Nat) (m : PtpMsg) (t : Time) (corr : BitVec 64) : Out :=
  .ptpSync p (ptpKey m) t.s t.ns (corr + BitVec.ofNat 64 (t.fr / 2 ^ 28 * 2 ^ 12)) (m.transport == 1)

/-- PTP_TX_TIMESTAMP (R152 to R155): a Sync that is sent in one step takes its time with it; any other timestamp is queued. `corr`
is the message's correctionField. -/
def execPtpTxTimestamp (p : Fin 2) (m : PtpMsg) (sub : Fin 40) (corr : BitVec 64) (s : State) :
    Host.Outcome State Fault Refusal :=
  nextDev s fun w =>
    let pg := pgETH p.val
    let e := w.ptpStamp m (t16 w.now + sub.val + w.rdS pg ETH_EGR_ASYM)
    if w.on pg ETH_PTP_CTL_ONESTEP ∧ m.msgType = 0 ∧ m.transport ≠ 2 then w.emit (oneStep p.val m e.t corr)
    else if w.on pg ETH_PTP_CTL_EGR_EN ∧ w.ptpEvent p.val m then
      let l := vget w.ethTx p.val
      if 16 ≤ l.length then w.wr pg ETH_TS_STAT_TX_OVF 1
      else
        let w := w.modEthTx p.val fun l => l ++ [e]
        w.wr pg ETH_TS_STAT_TX_LVL (l.length + 1)
    else w

/-- The registers of the timestamp queue block show an entry, or its key reads 0 (R155). -/
def Work.ptpShow (w : Work) (pg d : Nat) (e : Option PtpTs) : Work × Word :=
  match e with
  | none => (w.put (pg + (ETH_RX_KEY_VALID.shift d).at 0) 0, 0)
  | some e =>
    let k := BitVec.ofNat 32 e.key
    let w := (w.put (pg + (ETH_RX_KEY_VALID.shift d).at 0) k).wr pg (ETH_RX_NS.shift d) e.t.ns
    let w := (w.wr pg (ETH_RX_S.shift d) e.t.s).wr pg (ETH_RX_FR_COARSE.shift d) (b2n e.coarse)
    ((w.wr pg (ETH_RX_FR_STEP_SEQ.shift d) e.seq).wr pg (ETH_RX_FR_FR16.shift d) (e.t.fr / 2 ^ 28), k)

/-- A read of RX_KEY (R155). -/
def Work.readRxKey (w : Work) (p : Nat) : Work × Word :=
  let pg := pgETH p
  let l := vget w.ethRx p
  let w := w.modEthRx p fun l => l.tail
  (w.wr pg ETH_TS_STAT_RX_LVL (l.length - 1)).ptpShow pg 0 l.head?

/-- A read of TX_KEY (R155). -/
def Work.readTxKey (w : Work) (p : Nat) : Work × Word :=
  let pg := pgETH p
  let l := vget w.ethTx p
  let w := w.modEthTx p fun l => l.tail
  (w.wr pg ETH_TS_STAT_TX_LVL (l.length - 1)).ptpShow pg 0x10 l.head?

/-- RX_KEY_READ (R155). -/
def execRxKeyRead (p : Fin 2) (s : State) : Host.Outcome State Fault Refusal :=
  nextDev s fun w => w.hostGet (.rxKeyRead p) (pgETH p + ETH_RX_KEY_VALID.at 0) fun w => Work.answer (w.readRxKey p.val)

/-- TX_KEY_READ (R155). -/
def execTxKeyRead (p : Fin 2) (s : State) : Host.Outcome State Fault Refusal :=
  nextDev s fun w => w.hostGet (.txKeyRead p) (pgETH p + (ETH_RX_KEY_VALID.shift 0x10).at 0) fun w => Work.answer (w.readTxKey p.val)

end Sys2Proof.Machine
end

