-- ==== Sys2Proof/Machine/Analogue.lean ====
section
/-! DEFINITION. The ADCs (R334 to R342, R261), the window comparators with their self-test (R343 to R347, R371, R372), and
the halt guard that uses an ADC (R398). -/

namespace Sys2Proof.Machine

/-! ### The halt guard (R398) -/

/-- The guard reacts: HGUARD.TIME has passed and the stage is not de-energised. A reaction that starts flags HRT CAUSE[19]
(R390). -/
def Work.guardCheck (w : Work) : Work :=
  if w.hearth.guardPast && w.on pgPKG PKG_FRZ_STAT_FROZEN && !w.on pgHRT HRT_HSTAT_DEEN then
    (w.when (!w.hearth.held.any fun h => h.kind == 3) fun w => w.flt pgHRT .uc 19).reactFixed 3 2 6 (pgHRT / 0x1000)
  else w

/-- A result of the guard's conversion. -/
def Work.guardResult (w : Work) (code : Nat) (orng urng : Bool) : Work :=
  if w.on pgHRT HRT_HSTAT_HG_RUN then
    let w := ((w.wr pgHRT HRT_HG_LAST_CODE code).wr pgHRT HRT_HG_LAST_ORNG (b2n orng)).wr pgHRT HRT_HG_LAST_URNG (b2n urng)
    let safe := decide (code < w.rd pgHRT HRT_HGUARD_VDEEN) && !orng && !urng
    (w.wr pgHRT HRT_HSTAT_DEEN (b2n safe)).guardCheck
  else w

/-- HGUARD.TIME after the freeze point. -/
def Work.guardExpire (w : Work) : Work := (w.modHearth fun k => { k with guardPast := true }).guardCheck

/-! ### Converters -/

/-- ORNG of an input voltage at the hold instant (R336). -/
def adcOrng (v : Rat) : Bool := decide (2550 / 1000 < v)

/-- URNG (R336). -/
def adcUrng (v : Rat) : Bool := decide (v < -50 / 1000)

/-- The 12-bit code of an input voltage, REFP being 2.500 V (R335); outside the range the flags force it (R336). -/
def adcCode (v : Rat) : Nat := (min (max (v * 4096 / (25 / 10) + 1 / 2).floor 0) 4095).toNat

/-- ASTAT shows the queues and what runs. -/
def Work.adcShow (w : Work) (a : Nat) : Work :=
  let k := w.ad a
  let pg := pgAD a
  ((w.wr pg AD_ASTAT_NQ k.nq.length).wr pg AD_ASTAT_UQ (b2n k.uqHost.isSome + b2n k.uqHearth.isSome)).wr pg AD_ASTAT_BUSY (b2n k.run.isSome)

/-- A conversion starts now. -/
def Work.adcStart (w : Work) (a : Nat) (r : AdcReq) : Work := w.modAdc a fun k => { k with run := some (r, w.now) }

/-- A free ADC takes its next work (R337 to R339): the Hearth's request, the host's, an aborted conversion, a pending
calibration, the head of the normal queue. -/
def Work.adcNext (w : Work) (a : Nat) : Work :=
  let k := w.ad a
  let pg := pgAD a
  let w :=
    if k.run.isSome || w.on pg AD_ASTAT_CAL_RUN then w
    else match k.uqHearth, k.uqHost, k.aborted, k.nq with
      | some c, _, _, _ => (w.modAdc a fun k => { k with uqHearth := none }).adcStart a ⟨c, .hearth, true⟩
      | none, some c, _, _ => (w.modAdc a fun k => { k with uqHost := none }).adcStart a ⟨c, .host, true⟩
      | none, none, some r, _ => (w.modAdc a fun k => { k with aborted := none }).adcStart a r
      | none, none, none, q =>
        if w.on pg AD_ASTAT_CAL_PEND then (w.wr pg AD_ASTAT_CAL_PEND 0).wr pg AD_ASTAT_CAL_RUN 1
        else match q with
          | r :: q => (w.modAdc a fun k => { k with nq := q }).adcStart a r
          | [] => w
  w.adcShow a

/-- A normal trigger (R337). -/
def Work.adcNormal (w : Work) (a : Nat) (r : AdcReq) : Work :=
  let pg := pgAD a
  if 4 ≤ (w.ad a).nq.length then (w.wr pg AD_ASTAT_TRIG_OVR 1).count pg AD_TRIG_OVR_COUNT
  else (w.modAdc a fun k => { k with nq := k.nq ++ [r] }).adcNext a

/-- An urgent request has arrived: it aborts a running normal conversion or a calibration (R338, R339). -/
def Work.adcUrgent (w : Work) (a : Nat) : Work :=
  let pg := pgAD a
  let w := match (w.ad a).run with
    | some (r, _) =>
      if r.urgent then w
      else (w.modAdc a fun k => { k with run := none, aborted := some r }).count pg AD_ABORT_COUNT
    | none => w
  let w := w.when (w.on pg AD_ASTAT_CAL_RUN) fun w => (w.wr pg AD_ASTAT_CAL_RUN 0).wr pg AD_ASTAT_CAL_PEND 1
  w.adcNext a

/-- UCMD (R338). -/
def Work.adcUcmd (w : Work) (a ch : Nat) : Work :=
  if (w.ad a).uqHost.isSome then w.wr (pgAD a) AD_ASTAT_UQ_FULL 1
  else (w.modAdc a fun k => { k with uqHost := some ch }).adcUrgent a

/-- ACTL.CAL (R339). -/
def Work.adcCal (w : Work) (a : Nat) : Work :=
  let pg := pgAD a
  if w.on pg AD_ASTAT_CAL_PEND || w.on pg AD_ASTAT_CAL_RUN then w else (w.wr pg AD_ASTAT_CAL_PEND 1).adcNext a

/-- A result lands where its request says (R341, R342). -/
def Work.adcResult (w : Work) (a : Nat) (r : AdcReq) (t : Time) (code : Nat) (orng urng : Bool) : Work :=
  let pg := pgAD a
  match r.src with
  | .host =>
    let w := w.when (w.on pg AD_DATA_FULL) fun w => (w.wr pg AD_ASTAT_OVR 1).count pg AD_OVR_COUNT
    let w := ((w.wr pg AD_DATA_FULL 1).wr pg AD_DATA_URG (b2n r.urgent)).wr pg AD_DATA_ORNG (b2n orng)
    (((w.wr pg AD_DATA_URNG (b2n urng)).wr pg AD_DATA_CH r.ch).wr pg AD_DATA_CODE code).modAdc a fun k => { k with dataTs := t.ns }
  | .plan n k b => w.fileSlot n ⟨128 + k, w32 (code * 2 ^ 19), orng || urng, ts24 (t16 t)⟩ b
  | .hearth => w.guardResult code orng urng

/-- Requests of region `n` leave the queues as it is fenced (R351); a running conversion goes on. -/
def Work.adcDropRegion (w : Work) (n : Nat) : Work :=
  let mine (r : AdcReq) := match r.src with
    | .plan m _ _ => m == n
    | _ => false
  w.each (upto 16) fun w a => (w.modAdc a fun k => { k with
    nq := k.nq.filter fun r => !mine r, aborted := k.aborted.filter fun r => !mine r }).adcShow a

/-! ### Window comparators -/

/-- A transition of output H (`upper`) or L to 1 (R346, R347, R355, R368, R455). -/
def Work.wcRise (w : Work) (k : Nat) (upper : Bool) : Work :=
  let pg := pgWC k
  let lat := if upper then WC_WSTAT_LAT_H else WC_WSTAT_LAT_L
  let set := !w.on pg lat
  let w := (w.count pg (if upper then WC_H_COUNT else WC_L_COUNT)).wr pg lat 1
  let w := w.when (set && w.on pg WC_ROUTE_IRQ_EN) fun w => w.msix (w.rd pg WC_ROUTE_VEC)
  let w := w.when set fun w => w.recSource 4 fun sel => sel % 64 == k && bitOf sel 6 == !upper
  let e := w.rd pg WC_ROUTE_CAP_EDGE
  let w := w.when (w.on pg WC_ROUTE_CAP_EN && (e == 2 || e == b2n (!upper))) fun w => w.capture (w.rd pg WC_ROUTE_CAP_CH) (!upper) none
  let w := w.each ((upto 8).filter fun n => w.rd pgPKG PKG_CHOP_CFG_WC n == k) fun w n =>
    if upper then w.chopEval n true
    else if w.on pgPKG PKG_CHOP_STAT_HRT_CTL n then w
    else w.chopSet n false
  let sel (b : Bool) (w : Work) (o : Nat) : Bool :=
    let c := pgCLU o
    w.on c (if b then CLU_PCFG_WB_EN else CLU_PCFG_WA_EN) && w.rd c (if b then CLU_PCFG_WB else CLU_PCFG_WA) == k &&
      w.on c (if b then CLU_PCFG_WB_OUT else CLU_PCFG_WA_OUT) == !upper
  w.when (w.on pg WC_ROUTE_HRT) fun w => (w.localEvent 8 0 (sel false)).localEvent 9 0 (sel true)

/-- An output takes a value; only a change is a transition (R344). -/
def Work.wcOut (w : Work) (k : Nat) (upper v : Bool) : Work :=
  let pg := pgWC k
  let f := if upper then WC_WSTAT_H else WC_WSTAT_L
  if w.on pg f = v then w
  else
    let w := w.wr pg f (b2n v)
    if v then w.wcRise k upper else w

/-- A decision of one comparator: it is no longer undetermined. -/
def Work.wcDecide (w : Work) (k : Nat) (upper v : Bool) : Work :=
  (w.wr (pgWC k) (if upper then WC_WSTAT_UNDET_H else WC_WSTAT_UNDET_L) 0).wcOut k upper v

/-- The threshold of comparator H (`upper`) or L in volts, and half the width of its band (R343). -/
def Work.wcThreshold (w : Work) (k : Nat) (upper : Bool) : Rat × Rat :=
  let pg := pgWC k
  (((if upper then w.rd pg WC_THR_THI else w.rd pg WC_THR_TLO : Nat) : Rat) * (25 / 10) / 1024, (w.rd pg WC_WCFG_HYST : Rat) * (5 / 1000) / 2)

/-- What comparator H (`upper`) or L decides on an input of `v` volts: nothing inside its band (R343). -/
def Work.wcVerdict (w : Work) (k : Nat) (upper : Bool) (v : Rat) : Option Bool :=
  let t := w.wcThreshold k upper
  if t.1 + t.2 < v then some upper else if v < t.1 - t.2 then some (!upper) else none

/-- Both comparators decide on an input of `v` volts; inside its band an output keeps its value (R343). -/
def Work.wcInput (w : Work) (k : Nat) (v : Rat) : Work :=
  let one (w : Work) (upper : Bool) := match w.wcVerdict k upper v with
    | some b => w.wcDecide k upper b
    | none => w
  one (one w true) false

/-- An enabled comparator starts (R344): with its input inside the band it is undetermined and drives PU_H or PU_L, and
outside the band it decides. -/
def Work.wcStart (w : Work) (k : Nat) : Work :=
  let pg := pgWC k
  let one (w : Work) (upper : Bool) := match w.wcVerdict k upper (w.ain.toList.getD k 0) with
    | some b => w.wcDecide k upper b
    | none =>
      (w.wr pg (if upper then WC_WSTAT_UNDET_H else WC_WSTAT_UNDET_L) 1).wcOut k upper (w.on pg (if upper then WC_WCFG_PU_H else WC_WCFG_PU_L))
  if w.on pg WC_WCFG_EN then one (one w true) false else w

/-- A disabled comparator: both outputs read 0 (R345). -/
def Work.wcOff (w : Work) (k : Nat) : Work :=
  let pg := pgWC k
  (((w.wr pg WC_WSTAT_H 0).wr pg WC_WSTAT_L 0).wr pg WC_WSTAT_UNDET_H 0).wr pg WC_WSTAT_UNDET_L 0 |>.wr pg WC_WSTAT_SETTLING 0

/-- The boundary of region `n` clears the latch flags given to it; a flag whose output is 1 stays (R346). -/
def Work.wcBoundary (w : Work) (n : Nat) : Work :=
  w.each ((upto 64).filter fun k => w.on (pgWC k) WC_WCFG_LATCH && w.rd (pgWC k) WC_WCFG_RGSEL == n) fun w k =>
    let pg := pgWC k
    (w.wr pg WC_WSTAT_LAT_H (w.rd pg WC_WSTAT_H)).wr pg WC_WSTAT_LAT_L (w.rd pg WC_WSTAT_L)

/-- The decision time of a mode, in Tally ticks (R345). -/
def decisionTicks (mode : Nat) : Nat :=
  match mode with
  | 0 => 8
  | 1 => 60
  | 2 => 400
  | _ => 3200

/-- A level that a self-test cannot apply (R372): V_H above 2.5 V, or V_L below 0 V. -/
def Work.wcUntestable (w : Work) (k : Nat) (upper : Bool) : Bool :=
  let pg := pgWC k
  let band := 5120 * w.rd pg WC_WCFG_HYST + 51200
  if upper then decide (2500 * 2048 < 5000 * w.rd pg WC_THR_THI + band) else decide (5000 * w.rd pg WC_THR_TLO < band)

/-- A self-test is refused (R371). -/
def Work.wcTestRefused (w : Work) (k : Nat) : Bool :=
  let pg := pgWC k
  let sel (c : Nat) :=
    (w.on (pgCLU c) CLU_PCFG_WA_EN && w.rd (pgCLU c) CLU_PCFG_WA == k) || (w.on (pgCLU c) CLU_PCFG_WB_EN && w.rd (pgCLU c) CLU_PCFG_WB == k)
  !w.on pg WC_WCFG_EN || w.on pg WC_WST_STAT_RUN ||
    (w.on pg WC_ROUTE_HRT && (upto 48).any fun c => inService (w.cstate c) && sel (w.owner c)) ||
    (w.on pgPKG PKG_SUPMON_OV_EN && (upto 8).any fun n => w.on pgPKG PKG_CHOP_CFG_EN n && w.rd pgPKG PKG_CHOP_CFG_WC n == k)

/-- WST_CTL.GO (R371, R372). -/
def Work.wcTest (w : Work) (k : Nat) : Work :=
  if w.wcTestRefused k then w.wr (pgWC k) WC_WST_STAT_REFUSED 1 else w.wr (pgWC k) WC_WST_STAT_RUN 1

/-! ### Commands -/

/-- ADC_PLAN_TRIGGER (R261): boundary + OFS of an enabled entry; a negative offset belongs to the coming cycle. -/
def execAdcPlanTrigger (n : Fin 4) (k : Fin 64) (s : State) : Host.Outcome State Fault Refusal :=
  nextDev s fun w =>
    let n := n.val
    let r := w.rg n
    if w.on (pgRG n) RG_APLAN_EN k.val ∧ (r.run ∨ r.startPend) ∧ ¬ w.rgFenced n then
      let early := decide (toSigned 20 (w.rd (pgRG n) RG_APLAN_OFS k.val) < 0)
      w.adcNormal (k.val / 4) ⟨k.val % 4, .plan n k.val (if early then r.nextB.getD r.t0 else r.t0), false⟩
    else w

/-- ADC_NCMD (R337). -/
def execAdcNcmd (a : Fin 16) (ch : Fin 4) (s : State) : Host.Outcome State Fault Refusal :=
  nextDev s fun w => w.hostAct (.adcNcmd a ch) (pgAD a + AD_NCMD_GO.at 0) fun w => w.adcNormal a.val ⟨ch.val, .host, false⟩

/-- ADC_UCMD (R338). -/
def execAdcUcmd (a : Fin 16) (ch : Fin 4) (s : State) : Host.Outcome State Fault Refusal :=
  nextDev s fun w => w.hostAct (.adcUcmd a ch) (pgAD a + AD_UCMD_GO.at 0) fun w => w.adcUcmd a.val ch.val

/-- ADC_CAL (R339). -/
def execAdcCal (a : Fin 16) (s : State) : Host.Outcome State Fault Refusal :=
  nextDev s fun w => w.hostAct (.adcCal a) (pgAD a + AD_ACTL.at 0) fun w => w.adcCal a.val

/-- ADC_CAL_COMPLETE (R339). -/
def execAdcCalComplete (a : Fin 16) (gain ofs : BitVec 12) (atLimit : Bool) (s : State) : Host.Outcome State Fault Refusal :=
  nextDev s fun w =>
    let pg := pgAD a.val
    if w.on pg AD_ASTAT_CAL_RUN then
      let w := ((w.wr pg AD_CAL_RES_GAIN gain.toNat).wr pg AD_CAL_RES_OFS ofs.toNat).wr pg AD_ASTAT_CAL_DONE 1
      let w := w.wr pg AD_ASTAT_CAL_RUN 0
      (w.when atLimit fun w => w.flt pg .uc 16).adcNext a.val
    else w

/-- ADC_CONVERSION_COMPLETE (R335, R336): `volts` is the input voltage held at the end of acquisition. -/
def execAdcConversionComplete (a : Fin 16) (volts : Rat) (s : State) : Host.Outcome State Fault Refusal :=
  nextDev s fun w =>
    let a := a.val
    match (w.ad a).run with
    | some (r, t) =>
      let orng := adcOrng volts
      let urng := adcUrng volts
      let c := adcCode volts
      let w := (w.modAdc a fun k => { k with run := none }).count (pgAD a) AD_CONV_COUNT
      let w := w.when (orng || urng) fun w => w.count (pgAD a) AD_RANGE_COUNT
      (w.adcResult a r t c orng urng).adcNext a
    | none => w

/-- ADC_CONV_TIMEOUT (R340). -/
def execAdcConvTimeout (a : Fin 16) (s : State) : Host.Outcome State Fault Refusal :=
  nextDev s fun w =>
    if (w.ad a.val).run.isSome then
      ((w.modAdc a.val fun k => { k with run := none }).flt (pgAD a.val) .uc 17).adcNext a.val
    else w

/-- A read of DATA (R341). -/
def Work.readAdc (w : Work) (a : Nat) : Work × Word :=
  let pg := pgAD a
  let v := w.word (pg + AD_DATA_CODE.off)
  (w.when (w.on pg AD_DATA_FULL) fun w => (w.wr pg AD_DATA_TS (w.ad a).dataTs).wr pg AD_DATA_FULL 0, v)

/-- ADC_DATA_READ (R341). -/
def execAdcDataRead (a : Fin 16) (s : State) : Host.Outcome State Fault Refusal :=
  nextDev s fun w => w.hostGet (.adcDataRead a) (pgAD a + AD_DATA_CODE.at 0) fun w => Work.answer (w.readAdc a.val)

/-- WC_CROSSING (R343): the input stands at `volts`, and each comparator whose band it has left decides. Outputs hold while a
mode change settles and during a self-test (R345, R372). -/
def execWcCrossing (k : Fin 64) (volts : Rat) (s : State) : Host.Outcome State Fault Refusal :=
  nextDev s fun w =>
    let pg := pgWC k.val
    let w := w.setAin k volts
    if w.on pg WC_WCFG_EN ∧ ¬ w.on pg WC_WSTAT_SETTLING ∧ ¬ w.on pg WC_WST_STAT_RUN then w.wcInput k.val volts else w

/-- WC_SETTLED (R345): the outputs follow the input, which stands at `volts`, in the new mode. -/
def execWcSettled (k : Fin 64) (volts : Rat) (s : State) : Host.Outcome State Fault Refusal :=
  nextDev s fun w =>
    let pg := pgWC k.val
    let w := w.setAin k volts
    if w.on pg WC_WSTAT_SETTLING then
      let w := w.wr pg WC_WSTAT_SETTLING 0
      if w.on pg WC_WST_STAT_RUN then w else w.wcInput k.val volts
    else w

/-- WC_SELFTEST_GO (R371). -/
def execWcSelftestGo (k : Fin 64) (s : State) : Host.Outcome State Fault Refusal :=
  nextDev s fun w => w.hostAct (.wcSelftestGo k) (pgWC k + WC_WST_CTL.at 0) fun w => w.wcTest k.val

/-- WC_SELFTEST_DONE (R372, R379): the ticks measured for each output, whether H returned to 0, and the voltage of the input as
it is reconnected. -/
def execWcSelftestDone (k : Fin 64) (decH decL : Option (BitVec 16)) (hReturned : Bool) (volts : Rat) (s : State) :
    Host.Outcome State Fault Refusal :=
  nextDev s fun w =>
    let k := k.val
    let pg := pgWC k
    let w := w.setAin k volts
    if w.on pg WC_WST_STAT_RUN then
      let hu := w.wcUntestable k true
      let lu := w.wcUntestable k false
      let lim := 2 * decisionTicks (w.rd pg WC_WMODE)
      let fast (d : Option (BitVec 16)) := match d with
        | some t => decide (t.toNat ≤ lim)
        | none => false
      let hp := !hu && fast decH && (lu || hReturned)
      let lp := !lu && fast decL
      let dec (u : Bool) (d : Option (BitVec 16)) := if u then 0xFFFF else (d.map BitVec.toNat).getD 0xFFFF
      let w := ((w.wr pg WC_WST_STAT_H_UNT (b2n hu)).wr pg WC_WST_STAT_L_UNT (b2n lu)).wr pg WC_WST_STAT_H_PASS (b2n hp)
      let w := ((w.wr pg WC_WST_STAT_L_PASS (b2n lp)).wr pg WC_WST_STAT_DONE 1).wr pg WC_WST_STAT_RUN 0
      let w := ((w.wr pg WC_WST_DEC_DEC_H (dec hu decH)).wr pg WC_WST_DEC_DEC_L (dec lu decL)).count pg WC_WST_COUNT
      let w := w.when ((!hu && !hp) || (!lu && !lp)) fun w => (w.count pg WC_WST_FAIL).flt pg .uc 16
      w.wcInput k volts
    else w

/-- HALT_GUARD_SAMPLE (R398): the Hearth asks for an urgent conversion through its reserved entry. -/
def execHaltGuardSample (s : State) : Host.Outcome State Fault Refusal :=
  nextDev s fun w =>
    if w.on pgHRT HRT_HSTAT_HG_RUN then
      let i := w.rd pgHRT HRT_HGUARD_AIN
      (w.modAdc (i / 4) fun k => { k with uqHearth := some (i % 4) }).adcUrgent (i / 4)
    else w

/-- HALT_GUARD_EXPIRY (R398). -/
def execHaltGuardExpiry (s : State) : Host.Outcome State Fault Refusal :=
  nextDev s fun w => if w.on pgHRT HRT_HSTAT_HG_RUN ∧ ¬ w.hearth.guardPast then w.guardExpire else w

/-- SUPPLY_RETURN (R397, R401): the rail's verdict reads in range; with VANA (6) the comparators restart (R344). -/
def execSupplyReturn (rail : Fin 8) (s : State) : Host.Outcome State Fault Refusal :=
  nextDev s fun w =>
    let w := w.when (w.armedFor pgHRT 1 && w.rd pgHRT HDR_INJ_BIT == rail.val) fun w => w.injDone pgHRT true
    if bitOf (w.rd pgHRT HRT_SUPSTAT_NOW) rail.val then
      let w := (w.clrBit pgHRT HRT_SUPSTAT_NOW rail.val).hearthShow
      if rail.val = 6 then w.each (upto 64) Work.wcStart else w
    else w

end Sys2Proof.Machine
end

