-- ==== Sys2Proof/Machine/Abacus.lean ====
section
/-! DEFINITION. The Abacus (R157 to R188): section words, the arithmetic of each opcode, residue and SECDED findings, and
the command that completes one section. -/

namespace Sys2Proof.Machine

/-! ### Section words -/

/-- A section word, parsed (R159). -/
structure Sec where
  opc : Nat
  shift : Int
  sub : Nat
  aw : Nat
  limen : Bool
  tk : Bool
  ma : Bool
  pre : Bool
  state : Nat
  selA : Nat
  selB : Nat
  aux : Nat
  gA : Int
  gB : Int
  b0 : Int
  b1 : Int
  b2 : Int
  a1 : Int
  a2 : Int
  hi : Int
  lo : Int
  oen : Bool
  oslot : Nat
  deriving DecidableEq, Repr, Inhabited

/-- A dword as a signed integer. -/
def sgn (d : Word) : Int := d.toInt

/-- Parse the section whose dword `j` is `rd j` (R159). -/
def secOf (rd : Nat → Word) : Sec :=
  let c := (rd 0).toNat
  let d := (rd 12).toNat
  { opc := c / 2 ^ 28, shift := toSigned 4 (c / 2 ^ 24), sub := c / 2 ^ 22 % 4, aw := c / 2 ^ 20 % 4,
    limen := bitOf c 19, tk := bitOf c 18, ma := bitOf c 17, pre := bitOf c 16, state := c % 2048,
    selA := (rd 1).toNat, selB := (rd 3).toNat, aux := (rd 13).toNat, gA := sgn (rd 2), gB := sgn (rd 4),
    b0 := sgn (rd 5), b1 := sgn (rd 6), b2 := sgn (rd 7), a1 := sgn (rd 8), a2 := sgn (rd 9),
    hi := sgn (rd 10), lo := sgn (rd 11), oen := bitOf d 31, oslot := d % 512 }

/-- Section `s` of region `n`, active set. -/
def Work.sect (w : Work) (n s : Nat) : Sec := secOf fun j => w.word (secAddr n s j)

/-- Section `s` of region `n`, shadow set. -/
def Work.shSec (w : Work) (n s : Nat) : Sec := secOf fun j => w.shWord (secAddr n s j)

/-- State words the opcode uses of its own (R160). -/
def ownStates (opc : Nat) : Nat := if opc = 0 then 2 else if opc = 4 ∨ opc = 7 then 1 else 0

/-- State words the section uses, manual register included. -/
def Sec.states (c : Sec) : Nat := ownStates c.opc + b2n c.ma

/-- The manual register of an MA section (R160). -/
def Sec.manual (c : Sec) : Nat := c.state + ownStates c.opc

/-- Kind and index of a selector word (R162). -/
def selKind (v : Nat) : Nat := v / 2 ^ 28
def selIdx (v : Nat) : Nat := v % 2048

/-- A selector of section `s` is defined (R162). -/
def selOk (s v : Nat) : Bool :=
  match selKind v with
  | 0 => selIdx v == 0
  | 1 => decide (selIdx v < s)
  | 2 => decide (selIdx v < 1024)
  | 3 => decide (selIdx v < 1024)
  | 4 => decide (selIdx v < 64)
  | 5 => true
  | 6 => selIdx v == 0
  | _ => false

/-- Items 2 to 4 of R188 as far as one section word shows them: what R159 to R162 and R165 leave defined. -/
def Sec.defined (c : Sec) (s : Nat) : Bool :=
  decide (c.opc < 8) && decide (c.aw < 3) && (if c.opc = 6 then decide (c.sub < 3) else true) &&
  selOk s c.selA && selOk s c.selB && (if c.opc = 5 ∨ c.opc = 7 then selOk s c.aux else true) &&
  (if c.opc = 3 then decide (1 ≤ c.aux) && decide (c.aux < 2 ^ 31) else true) &&
  (if c.states = 0 then true else decide (c.state + c.states ≤ 2048))

/-! ### Conversion -/

/-- Limits of Q1.31. -/
def qMax : Int := 2 ^ 31 - 1
def qMin : Int := -(2 ^ 31)

/-- The conversion of R158 of an exact value with `k` fraction bits and output shift `sh`: the Q1.31 value, and 1 where it
saturates. -/
def conv (k : Nat) (sh acc : Int) : Int × Nat :=
  let e := ((k : Int) - 31 - sh).toNat
  let q := (acc + 2 ^ (e - 1)) / 2 ^ e
  if qMax < q then (qMax, 1) else if q < qMin then (qMin, 1) else (q, 0)

/-! ### Residue checks (R167) -/

/-- A product u × c × 2^k of an accumulation. -/
abbrev Term := Int × Int × Nat

/-- The accumulator after the products, with an error `e`. -/
def accSum (ts : List Term) (e : Int) : Int := ts.foldl (fun x t => x + t.1 * t.2.1 * 2 ^ t.2.2) e

/-- The residue accumulated beside it, from the residues of the operands alone. -/
def accRes (ts : List Term) : Int := ts.foldl (fun x t => (x + t.1 % 7 * (t.2.1 % 7) * (2 ^ t.2.2 % 7)) % 7) 0

/-- The errors that the disturbances add at accumulation `i`: to the accumulator, and to the converted value. -/
def upsetAt (ups : List Upset) (i : Nat) : Int × Int :=
  (ups.filter fun u => u.step == i).foldl (fun x u => (x.1 + u.acc, x.2 + u.conv)) (0, 0)

/-- A converted value: the value, its saturations, and whether every check of R167 agreed. -/
structure Cv where
  v : Int
  sat : Nat
  ok : Bool
  deriving DecidableEq, Repr

/-- Conversion `i` of a section (R158, R167 steps 2 to 4): of the accumulator `acc`, whose residue ought to be `res`. -/
def convChk (ups : List Upset) (i k : Nat) (sh acc res : Int) : Cv :=
  let e := upsetAt ups i
  let x := acc + e.1
  let y := conv k sh x
  let n := ((k : Int) - 31 - sh).toNat
  let rem := (x + 2 ^ (n - 1)) % 2 ^ n
  let whole := y.2 != 0 || ((y.1 + e.2) * 2 ^ n + rem - (x + 2 ^ (n - 1))) % 7 == 0
  ⟨y.1 + e.2, y.2, x % 7 == res % 7 && whole && (y.2 == 0 || e.2 == 0)⟩

/-- Conversion `i` of a sum of products. -/
def macConv (ups : List Upset) (i k : Nat) (sh : Int) (ts : List Term) : Cv := convChk ups i k sh (accSum ts 0) (accRes ts)

/-- The lane of the first check that disagrees. -/
def badLane (ups : List Upset) (oks : List Bool) : Option Nat :=
  (oks.findIdx? fun b => !b).map fun i => ((ups.find? fun u => u.step == i).map fun u => u.lane.val).getD 0

/-- Limits of the section, where it has them. -/
def Sec.clamp (c : Sec) (v : Int) : Int := if c.limen then min (max v c.lo) c.hi else v

/-- What one section leaves: its result, the state words it writes, its saturations, its divide guards, whether a preset
saturated, and the lane of a residue error. -/
structure SecRes where
  y : Int
  st : List (Nat × Int)
  sat : Nat
  dg : Nat
  psat : Bool
  bad : Option Nat
  deriving DecidableEq, Repr, Inhabited

/-! ### Opcodes (R164, R165) -/

/-- The input term x of R164. -/
def secIn (c : Sec) (a b : Int) (ups : List Upset) : Cv := macConv ups 0 59 0 [(c.gA, a, 0), (c.gB, b, 0)]

/-- BQ from states `s1` and `s2`, with the checks `pre` of a preset. -/
def secBq (c : Sec) (a b s1 s2 : Int) (ups : List Upset := []) (pre : List Bool := []) : SecRes :=
  let x := secIn c a b ups
  let w := macConv ups 1 59 c.shift [(c.b0, x.v, 0), (s1, 1, 28)]
  let y := c.clamp w.v
  let v := if c.aw = 2 then y else w.v
  let n1 := macConv ups 2 59 0 [(c.b1, x.v, 0), (-c.a1, v, 0), (s2, 1, 28)]
  let n2 := macConv ups 3 59 0 [(c.b2, x.v, 0), (-c.a2, v, 0)]
  let hold := c.aw == 1 && y != w.v
  ⟨y, [(c.state, if hold then s1 else n1.v), (c.state + 1, if hold then s2 else n2.v)], x.sat + w.sat + n1.sat + n2.sat, 0, false,
    badLane ups ([x.ok, w.ok, n1.ok, n2.ok] ++ pre)⟩

/-- The states of R202 that let a PRE section start at `m`: s1, s2, the conversions that saturate, and their checks. -/
def secPreset (c : Sec) (a b m : Int) (ups : List Upset := []) : Int × Int × Nat × List Bool :=
  let x := secIn c a b ups
  let s1 := macConv ups 4 59 0 [(m, 1, (28 - c.shift).toNat), (-c.b0, x.v, 0)]
  let s2 := macConv ups 5 59 0 [(c.b2, x.v, 0), (-c.a2, m, 0)]
  (s1.v, s2.v, s1.sat + s2.sat, [s1.ok, s2.ok])

/-- SUM. -/
def secSum (c : Sec) (a b : Int) (ups : List Upset := []) : SecRes :=
  let y := macConv ups 0 59 c.shift [(c.gA, a, 0), (c.gB, b, 0), (c.b0, 1, 31)]
  ⟨c.clamp y.v, [], y.sat, 0, false, badLane ups [y.ok]⟩

/-- MUL. -/
def secMul (c : Sec) (a b : Int) (ups : List Upset := []) : SecRes :=
  let p := macConv ups 0 59 0 [(c.gA, a, 0)]
  let q := macConv ups 1 59 0 [(c.gB, b, 0)]
  let y := macConv ups 2 62 c.shift [(p.v, q.v, 0)]
  ⟨c.clamp y.v, [], p.sat + q.sat + y.sat, 0, false, badLane ups [p.ok, q.ok, y.ok]⟩

/-- The quotient with 59 fraction bits, truncated towards zero and held below 4,096; whether it is held. -/
def divQuot (a b : Int) : Int × Bool :=
  let q := Int.tdiv (a * 2 ^ 59) b
  if 2 ^ 71 ≤ q then (2 ^ 71 - 1, true) else if q ≤ -(2 ^ 71) then (-(2 ^ 71 - 1), true) else (q, false)

/-- DIVR; accumulation 2 is the quotient, checked by a × 2^k = q × b_g + rem, or by the range comparator where it is held (R165,
R167 step 5). -/
def secDivr (c : Sec) (a b : Int) (ups : List Upset := []) : SecRes :=
  let p := macConv ups 0 59 0 [(c.gA, a, 0)]
  let q := macConv ups 1 59 0 [(c.gB, b, 0)]
  let g : Int := c.aux
  let guard := decide ((q.v.natAbs : Int) < g)
  let d := if guard then (if 0 ≤ q.v then g else -g) else q.v
  let z := divQuot p.v d
  let e := (upsetAt ups 2).1
  let zok := if z.2 then e == 0 else (p.v * 2 ^ 59 - ((z.1 + e) * d + Int.tmod (p.v * 2 ^ 59) d)) % 7 == 0
  let y := macConv ups 3 59 c.shift [(z.1 + e, 1, 0)]
  ⟨c.clamp y.v, [], p.sat + q.sat + y.sat, b2n guard, false, badLane ups [p.ok, q.ok, zok, y.ok]⟩

/-- LIM from state `p`. -/
def secLim (c : Sec) (a b p : Int) (ups : List Upset := []) : SecRes :=
  let x := secIn c a b ups
  let t := macConv ups 1 59 c.shift [(x.v, 1, 28)]
  let r : Int := c.b0.natAbs * 8
  let d := t.v - p
  let d := if c.b0 = 0 then d else min (max d (-r)) r
  let y := c.clamp (p + d)
  ⟨y, [(c.state, y)], x.sat + t.sat, 0, false, badLane ups [x.ok, t.ok]⟩

/-- SEL. -/
def secSel (c : Sec) (a b : Int) (cond : Bool) (ups : List Upset := []) : SecRes :=
  let y := macConv ups 0 59 c.shift [if cond then (c.gB, b, 0) else (c.gA, a, 0)]
  ⟨c.clamp y.v, [], y.sat, 0, false, badLane ups [y.ok]⟩

/-- MINMAX; the magnitude of SUB 2 takes the residue with the sign of its accumulator. -/
def secMinmax (c : Sec) (a b : Int) (ups : List Upset := []) : SecRes :=
  if c.sub = 2 then
    let ts : List Term := [(c.gA, a, 0), (c.gB, b, 0)]
    let x := accSum ts 0
    let y := convChk ups 0 59 c.shift (x.natAbs : Int) (if 0 ≤ x then accRes ts else -accRes ts)
    ⟨c.clamp y.v, [], y.sat, 0, false, badLane ups [y.ok]⟩
  else
    let p := macConv ups 0 59 0 [(c.gA, a, 0)]
    let q := macConv ups 1 59 0 [(c.gB, b, 0)]
    let y := macConv ups 2 59 c.shift [(if c.sub = 0 then min p.v q.v else max p.v q.v, 1, 28)]
    ⟨c.clamp y.v, [], p.sat + q.sat + y.sat, 0, false, badLane ups [p.ok, q.ok, y.ok]⟩

/-- HOLD from the held value `p`. -/
def secHold (c : Sec) (a b p : Int) (cond : Bool) (ups : List Upset := []) : SecRes :=
  if cond then
    let x := secIn c a b ups
    let t := macConv ups 1 59 c.shift [(x.v, 1, 28)]
    let y := c.clamp t.v
    ⟨y, [(c.state, y)], x.sat + t.sat, 0, false, badLane ups [x.ok, t.ok]⟩
  else ⟨c.clamp p, [(c.state, p)], 0, 0, false, none⟩

/-! ### Operands -/

/-- Value and status of input slot `k` for the cycle that runs: a catch-up cycle reads its retained slots (R427), in which
a slot not kept reads 0. -/
def Work.inSlot (w : Work) (n k : Nat) : Word × Word :=
  let r := w.rg n
  if r.catchUp = 0 then (w.word (slotAddr n k), w.word (slotStatAddr n k))
  else match (r.slotHist.getD (r.catchUp - 1) []).find? fun e => e.1 == k with
    | some e => e.2
    | none => (0, 0)

/-- The operand a selector names (R162), in a catch-up cycle a channel's copied output (R427); undefined selectors, which no
swap lets through, give `free`. -/
def Work.operand (w : Work) (n s sel : Nat) (free : Int) : Int :=
  if selOk s sel then
    match selKind sel with
    | 1 => sgn ((w.rg n).results.getD (selIdx sel) 0)
    | 2 => sgn (w.inSlot n (selIdx sel)).1
    | 3 => if bitOf (w.inSlot n (selIdx sel)).2.toNat 30 then qMax else 0
    | 4 =>
      if (w.rg n).catchUp = 0 then toSigned 32 (w.rd (pgSP n (selIdx sel / 16)) SP_CH_OUT (selIdx sel % 16))
      else if w.on (pgSP n (selIdx sel / 16)) SP_CH_CFG_EN (selIdx sel % 16) then (vget (w.rg n).sp (selIdx sel)).out
      else 0
    | 5 => sgn (w.word (stateWordAddr n (selIdx sel)))
    | 6 => 2 ^ 31
    | _ => 0
  else free

/-- The condition of SEL and HOLD (R163). -/
def Work.cond (w : Work) (n s : Nat) (c : Sec) : Bool := decide (2 ^ 30 ≤ w.operand n s c.aux 0)

/-! ### Loops (R198 to R203) -/

/-- A field of loop entry `m` of region `n`. -/
def Work.lpRd (w : Work) (n m : Nat) (f : Field) : Nat := w.rd (pgSP n (m / 16)) f (m % 16)

/-- Loop entry `m` is enabled. -/
def Work.lpOn (w : Work) (n m : Nat) : Bool := w.lpRd n m SP_LP_LCFG_EN == 1

/-- The enabled loop whose MA section is `s`. -/
def Work.loopOfMa (w : Work) (n s : Nat) : Option Nat :=
  (upto 64).find? fun m => w.lpOn n m && w.lpRd n m SP_LP_LCFG_SECTION == s

/-- The enabled loop whose PRE section is `s` (R203): a section that is an MA section itself belongs to its own loop. -/
def Work.loopOfPre (w : Work) (n s : Nat) : Option Nat :=
  if (w.sect n s).ma then w.loopOfMa n s
  else (upto 64).find? fun m => w.lpOn n m &&
    (let t := w.sect n (w.lpRd n m SP_LP_LCFG_SECTION)
     selKind t.selA == 1 && selIdx t.selA == s)

/-- Mode of loop `m` in the running cycle (true: AUTO), and whether this is the first cycle in it. -/
def Work.loopMode (w : Work) (n m : Nat) : Bool × Bool :=
  let r := w.rg n
  let auto := (vget r.lp m).auto
  if r.lpPend.any fun e => e.1 == m then (!auto, true) else (auto, false)

/-- The result of the MA section in MANUAL: the manual register after its step (R199, R201). -/
def Work.manualStep (w : Work) (n m : Nat) (c : Sec) (first : Bool) : Int :=
  if first then toSigned 32 (w.lpRd n m SP_LP_LOUT)
  else
    let mv := sgn (w.word (stateWordAddr n c.manual))
    let l := c.clamp (toSigned 32 (w.live (pgSP n (m / 16)) SP_LP_LMAN (m % 16)))
    let r : Int := w.lpRd n m SP_LP_LMANRATE
    mv + min (max (l - mv) (-r)) r

/-! ### One section -/

/-- What section `s` computes from the sealed states (R164, R165, R199, R202), its arithmetic disturbed by `ups`. -/
def Work.runSec (w : Work) (n s : Nat) (c : Sec) (ups : List Upset := []) : SecRes :=
  let stw (i : Nat) := sgn (w.word (stateWordAddr n i))
  let a := w.operand n s c.selA 0
  let b := w.operand n s c.selB 0
  let maLoop := if c.ma then w.loopOfMa n s else none
  let preLoop := if c.pre then w.loopOfPre n s else none
  let manual := match maLoop with
    | some m => if (w.loopMode n m).1 then none else some (w.manualStep n m c (w.loopMode n m).2)
    | none => none
  match manual with
  | some m' => ⟨m', (c.manual, m') :: (if c.opc = 4 ∨ c.opc = 7 then [(c.state, m')] else []), 0, 0, false, none⟩
  | none =>
    let preMode := match preLoop with
      | some m =>
        let q := w.loopMode n m
        let ms := (w.sect n (w.lpRd n m SP_LP_LCFG_SECTION)).manual
        some (q.1, if q.1 && q.2 then some (stw ms) else none)
      | none => none
    let first := match maLoop with
      | some m => (w.loopMode n m).2
      | none => false
    let p := if first then stw c.manual else stw c.state
    match c.opc with
    | 0 =>
      match preMode with
      | some (false, _) => let r := secBq c a b (stw c.state) (stw (c.state + 1)) ups; { r with st := [] }
      | some (true, some m) =>
        let q := secPreset c a b m ups
        let r := secBq c a b q.1 q.2.1 ups q.2.2.2
        { r with sat := r.sat + q.2.2.1, psat := q.2.2.1 != 0 }
      | _ => secBq c a b (stw c.state) (stw (c.state + 1)) ups
    | 1 => secSum c a b ups
    | 2 => secMul c a b ups
    | 3 => secDivr c a b ups
    | 4 => secLim c a b p ups
    | 5 => secSel c a b (w.cond n s c) ups
    | 6 => secMinmax c a b ups
    | _ => secHold c a b p (w.cond n s c) ups

/-- A section word the spec leaves undefined, which no swap lets through (R188): result and states are free values. -/
def Work.freeSec (w : Work) (c : Sec) : SecRes :=
  let f (i : Nat) : Int := sgn (Config.freeWord (w.freeCtr + i))
  ⟨f 0, (upto c.states).map fun i => ((c.state + i) % 2048, f (i + 1)), 0, 0, false, none⟩

/-- LAST_EV (R189). -/
def Work.lastEv (w : Work) (n kind lane s : Nat) : Work :=
  let pg := pgABC n
  ((w.wr pg ABC_LAST_EV_KIND kind).wr pg ABC_LAST_EV_LANE lane).wr pg ABC_LAST_EV_SECTION s

/-- SCHEDULE of a catch-up cycle for the edge interval that starts at `b`: nothing is sent (R427). -/
def Work.scheduleQuiet (w : Work) (n : Nat) (b : Int) : Work :=
  let lanes := w.lane
  let w := w.each (upto 48) fun w i => w.scheduleUnit (48 * n + i) b (b + w.period16 n) 0
  w.setLanes lanes

/-- RECKON has run through the program of the cycle. In a catch-up cycle its states are sealed, its SCHEDULE runs, and the
next program starts (R427). -/
def Work.reckonEnd (w : Work) (n : Nat) (ok : Bool) : Work :=
  let r := w.rg n
  if r.catchUp = 0 then
    let w := w.modRg n fun r => { r with reckon := false, abandoned := !ok, tDone := some w.up }
    if ok then w.wr (pgABC n) ABC_RSTAT_DONE 1 else w
  else
    let w : Work := if ok then
        let w := w.each r.pendState fun w e => w.put (stateWordAddr n e.1) e.2
        let w := w.each r.pendOut fun w e => w.put (outSlotAddr n e.1) e.2
        w.each ((upto 64).filter (w.lpOn n)) fun w m =>
          w.wr (pgSP n (m / 16)) SP_LP_LOUT (r.results.getD (w.lpRd n m SP_LP_LCFG_SECTION) 0).toNat (m % 16)
      else w
    let w := w.modRg n fun r => { r with catchUp := r.catchUp - 1, pc := 0, results := [], resErrs := 0, pendState := [], pendOut := [] }
    w.scheduleQuiet n (r.t0 - (r.catchUp - 1 : Nat) * w.period16 n)

/-- Start of RECKON; an empty program is complete at once (R188 item 1). -/
def Work.reckonStart (w : Work) (n : Nat) : Work :=
  let w := w.modRg n fun r => { r with
    reckon := true, pc := 0, results := [], resErrs := 0, abandoned := false, tStart := w.up, tDone := none, pendState := [], pendOut := [] }
  let w := w.wr (pgABC n) ABC_RSTAT_DONE 0
  if w.rd (pgABC n) ABC_PROG = 0 then w.each (upto ((w.rg n).catchUp + 1)) fun w _ => w.reckonEnd n true else w

/-- An armed injection into a residue checker is made on a section that shows the residue error `bad`, if it shows one (R168,
R169): only the expected syndrome sets HIT. -/
def Work.residueInj (w : Work) (n : Nat) (bad : Option Nat) : Work :=
  let pg := pgABC n
  w.when (w.on pg HDR_INJ_ARMED && decide (w.rd pg HDR_INJ_CHK ≤ 3)) fun w => w.injDone pg bad.isNone

/-- One memory read of the section: checker `chk`, outcome `e`; answers whether it was uncorrectable (R170). -/
def Work.secEcc (w : Work) (n s chk : Nat) (e : Ecc) : Work × Bool :=
  let q := w.injEcc (pgABC n) chk e
  if q.2 = .ok then (q.1, false)
  else
    let x := q.1.freshWord
    let w := x.1.memErr (.region ⟨n % 4, by omega⟩) (x.2.toNat % 2 ^ 24) q.2
    if q.2 = .double then (((w.flt (pgABC n) .uc 18).lastEv n 4 0 s).forcedSafeRg n 5 2, true) else (w, false)

/-- The section reads a state word (R162, R164, R165, R199). -/
def Sec.readsState (c : Sec) : Bool :=
  decide (0 < c.states) || selKind c.selA == 5 || selKind c.selB == 5 || ((c.opc == 5 || c.opc == 7) && selKind c.aux == 5)

/-- The section reads an input slot. -/
def Sec.readsSlot (c : Sec) : Bool :=
  let k (v : Nat) := selKind v == 2 || selKind v == 3
  k c.selA || k c.selB || ((c.opc == 5 || c.opc == 7) && k c.aux)

/-- The results of section `s` stand, pending until SEAL (R164 to R166). -/
def Work.secStore (w : Work) (n s : Nat) (c : Sec) (r : SecRes) : Work :=
  let pg := pgABC n
  let y := BitVec.ofInt 32 r.y
  let w := (w.count pg ABC_DIVG_COUNT r.dg).count pg ABC_SAT_COUNT r.sat
  let w := w.when (r.dg != 0) fun w => w.lastEv n 3 0 s
  let w := w.when (r.sat != 0) fun w => w.lastEv n 2 0 s
  let pre := if r.psat then w.loopOfPre n s else none
  let w := w.modRg n fun g => { g with
    results := g.results ++ [y]
    pendState := g.pendState ++ r.st.map fun e => (e.1, BitVec.ofInt 32 e.2)
    pendOut := if c.oen then g.pendOut ++ [(c.oslot, y)] else g.pendOut
    lpPend := g.lpPend.map fun e => if some e.1 = pre then (e.1, true, e.2.2) else e
    pc := s + 1 }
  if w.rd pg ABC_PROG ≤ s + 1 then w.reckonEnd n true else w

/-- A residue error of section `s` on MAC lane `lane` (R168, R189). -/
def Work.residueErr (w : Work) (n s lane : Nat) : Work := (w.count (pgABC n) ABC_RES_COUNT).lastEv n 1 lane s

/-- What section `s` computes, a section word that the spec leaves undefined giving free values. -/
def Work.secTry (w : Work) (n s : Nat) (c : Sec) (ups : List Upset) : SecRes :=
  if c.defined s then w.runSec n s c ups else w.freeSec c

/-- The free values that section `s` uses. -/
def Sec.frees (c : Sec) (s : Nat) : Nat := if c.defined s then 0 else 1 + c.states

/-- Section `s` is computed, and once more after a residue error (R167, R168): a retry that fails, or the second residue error of
the cycle, abandons RECKON. -/
def Work.secDo (w : Work) (n s : Nat) (c : Sec) (f : SectionFinding) : Work :=
  let pg := pgABC n
  let r := w.secTry n s c f.first
  let w := (w.residueInj n r.bad).useFree (c.frees s)
  match r.bad with
  | none => w.secStore n s c r
  | some lane =>
    let w := w.residueErr n s lane
    if 1 ≤ (w.rg n).resErrs then (w.flt pg .uc 16).reckonEnd n false
    else
      let again := w.secTry n s c f.retry
      let w := w.useFree (c.frees s)
      match again.bad with
      | some lane => ((w.lastEv n 1 lane s).flt pg .uc 16).reckonEnd n false
      | none => (((w.flt pg .ce 16).wr pg ABC_RSTAT_RETRY 1).modRg n fun r => { r with resErrs := r.resErrs + 1 }).secStore n s c again

/-- One section is completed (R167 to R172). -/
def Work.section (w : Work) (n : Nat) (f : SectionFinding) : Work :=
  let r := w.rg n
  let s := r.pc
  if !r.reckon || w.rgFenced n || decide (w.rd (pgABC n) ABC_PROG ≤ s) then w
  else
    let c := w.sect n s
    let q1 := w.secEcc n s 6 f.secEcc
    let q2 := if c.readsState then q1.1.secEcc n s 4 f.stateEcc else (q1.1, false)
    let q3 := if c.readsSlot then q2.1.secEcc n s 5 f.slotEcc else (q2.1, false)
    if q1.2 || q2.2 || q3.2 then q3.1.reckonEnd n false else q3.1.secDo n s c f

/-! ### Commands -/

/-- ABACUS_SECTION (R171). -/
def execAbacusSection (n : Fin 4) (f : SectionFinding) (s : State) : Host.Outcome State Fault Refusal :=
  nextDev s fun w => w.section n.val f

/-- SMIN_RST (R189). -/
def execSminRst (n : Fin 4) (s : State) : Host.Outcome State Fault Refusal :=
  nextDev s fun w => w.hostAct (.sminRst n) (pgABC n + ABC_ACTL.at 0) fun w => w.wr (pgABC n.val) ABC_SLACK_MIN 0x7FFFF

/-- A host write to an input slot (R179). -/
def Work.hostSlot (w : Work) (n k : Nat) (v : Word) : Work :=
  if k < 512 then w.badval (pgABC n)
  else w.modRg n fun r => { r with hostStage := r.hostStage.filter (fun e => e.1 != k) ++ [(k, v)] }

/-- HOST_SLOT_WRITE (R179). -/
def execHostSlotWrite (n : Fin 4) (slot : Fin 1024) (v : Word) (s : State) : Host.Outcome State Fault Refusal :=
  nextDev s fun w => w.hostAct (.hostSlotWrite n slot v) (slotAddr n slot) fun w => w.hostSlot n.val slot.val v

/-- A host write to a state word (R180). -/
def Work.hostState (w : Work) (n x : Nat) (v : Word) : Work :=
  if w.on (pgRG n) RG_CYC_CTL then w.badval (pgABC n) else w.put (stateWordAddr n x) v

/-- STATE_WORD_WRITE (R180). -/
def execStateWordWrite (n : Fin 4) (x : Fin 2048) (v : Word) (s : State) : Host.Outcome State Fault Refusal :=
  nextDev s fun w => w.hostAct (.stateWordWrite n x v) (stateWordAddr n x) fun w => w.hostState n.val x.val v

end Sys2Proof.Machine
end

