-- ==== Sys2Proof/Machine/Census.lean ====
section
/-! DEFINITION. Census groups and spread records (R255 to R257, R473). -/

namespace Sys2Proof.Machine

/-- The census group of cluster `o` and its spread group, where both are enabled (R255). -/
def Work.spreadOf (w : Work) (o : Nat) : Option Nat :=
  let g := w.rd (pgCLU o) CLU_CENS_CGRP
  if w.on (pgCLU o) CLU_CENS_CEN && w.on (pgRG (o / 12)) RG_CGRP_EN g then some (w.rd (pgRG (o / 12)) RG_CGRP_SGID g) else none

/-- The cells of this package in spread group `sg`: even clusters stand for their pairs. -/
def Work.spreadCells (w : Work) (sg : Nat) : List Nat :=
  (upto 48).filter fun c => w.owner c == c && w.topo c != 0 && w.spreadOf c == some sg

/-- Ordinals of a list of cells as a 128-bit mask. -/
def Work.ordMask (w : Work) (l : List Nat) : Nat := l.foldl (fun m c => m ||| 2 ^ w.rd (pgCLU c) CLU_CENS_SORD) 0

/-- Members and active members of this package in spread group `sg`. -/
def Work.spreadLocal (w : Work) (sg : Nat) : Nat × Nat :=
  let l := w.spreadCells sg
  (w.ordMask l, w.ordMask (l.filter fun c => w.cstate c == 3))

/-- The spread groups that this package's members belong to. -/
def Work.spreadGroups (w : Work) : List Nat :=
  ((upto 48).filterMap fun c => if w.owner c = c ∧ w.topo c ≠ 0 then w.spreadOf c else none).eraseDups

/-- Bits set among the lowest `n`. -/
def popBelow (m n : Nat) : Nat := ((upto n).filter fun i => bitOf m i).length

/-- The active mask of group `sg` as region `n` has it (R256, R257). -/
def Work.activeMask (w : Work) (n sg : Nat) : Nat :=
  (w.rg n).masks.foldl (fun m e => if e.1 = sg then m ||| e.2.2 else m) (w.spreadLocal sg).2

/-- The spread records of region `n` (R256). -/
def Work.spreadRegion (w : Work) (n : Nat) : Work :=
  w.each (clustersOf n) fun w c =>
    let pg := pgCLU c
    let o := w.owner c
    match w.spreadOf o with
    | some sg =>
      let m := w.activeMask n sg
      (w.wr pg CLU_SPREAD_N (popBelow m 128)).wr pg CLU_SPREAD_RANK (popBelow m (w.rd (pgCLU o) CLU_CENS_SORD))
    | none => (w.wr pg CLU_SPREAD_N 0).wr pg CLU_SPREAD_RANK 0

/-- The messages that have arrived take effect in region `n` (R257 item 3). -/
def Work.masksApply (w : Work) (n : Nat) : Work :=
  w.modRg n fun r => { r with masks := w.net.masks.map fun m => (m.sgid, m.src, m.active) }

/-- The 128 bits as four dwords, lowest first. -/
def maskWords (m : Nat) : List Word := (upto 4).map fun i => w32 (m / 2 ^ (32 * i))

/-- MASK for spread group `sg` (R461, R473). -/
def Work.maskSend (w : Work) (sg : Nat) : Work :=
  let m := w.spreadLocal sg
  w.netSend 0x13 0x8000 ([w32 sg] ++ maskWords m.1 ++ maskWords m.2)

/-- What the package would send for each of its spread groups. -/
def Work.spreadAll (w : Work) : List (Nat × Nat × Nat) := w.spreadGroups.map fun sg => (sg, w.spreadLocal sg)

/-- Step 4 of the boundary of region `n` at time `b` (R257 items 1 to 3): every region whose boundary falls on the same tick
recomputes its records, and a changed part of a mask is sent; `old` is what the package would have sent before. -/
def Work.censusBoundary (w : Work) (n : Nat) (b : Int) (old : List (Nat × Nat × Nat)) : Work :=
  let w := w.masksApply n
  let w := w.each ((upto 4).filter fun m => m == n || ((w.rg m).run && (w.rg m).t0 == b)) fun w m => w.spreadRegion m
  if w.role = 1 then w else w.each (w.spreadAll.filter fun e => !old.contains e) fun w e => w.maskSend e.1

/-- The census count of group `g` of region `n`: its active cells (R256). -/
def Work.censusCount (w : Work) (n g : Nat) : Nat :=
  ((clustersOf n).filter fun c => w.owner c == c && w.topo c != 0 && w.cstate c == 3 && w.on (pgCLU c) CLU_CENS_CEN &&
    w.rd (pgCLU c) CLU_CENS_CGRP == g).length

/-- CENSUS_MASK_REPEAT (R257 item 2): a standby leaves its members to the active twin. -/
def execCensusMaskRepeat (s : State) : Host.Outcome State Fault Refusal :=
  nextDev s fun w => if w.role = 1 then w else w.each w.spreadGroups fun w sg => w.maskSend sg

/-- CENSUS_MASK_AGED (R257 item 4): a package that serves the group has been silent for 5.0 ms. -/
def execCensusMaskAged (n g : Fin 4) (s : State) : Host.Outcome State Fault Refusal :=
  nextDev s fun w =>
    let pg := pgRG n.val
    if w.on pg RG_CGRP_EN g.val && w.net.masks.any fun m => m.sgid == w.rd pg RG_CGRP_SGID g.val then w.wr pg RG_CGRP_AGED 1 g.val
    else w

end Sys2Proof.Machine
end

