-- ==== Sys2Proof/Machine/Fabric.lean ====
section
/-! DEFINITION. The self-timed fabric (R90 to R120, R563): stalls, fences and the Damper. What the fabric takes to complete
is not modelled: every operation is done when its command is. -/

namespace Sys2Proof.Machine

/-! ### Stalls (R102 to R106, R563) -/

/-- The domain of a site, coded as in SG_STAT (R106); none for the Hearth. -/
def siteDomain : StallSite → Option Nat
  | .lanePath c => some (c.val / 12)
  | .region n => some n.val
  | .die d => some (4 + d.val)
  | .hub => some 6
  | .hearth => none

/-- The cluster of a lane-path stall. -/
def siteCluster : StallSite → Option Nat
  | .lanePath c => some c.val
  | _ => none

/-- A stall is detected (R105, R106): `kind` 0 TIMEOUT, 1 PROTOCOL, 2 CODE. Every kind sets its DOMAIN bit, and a CODE error,
which a receiver finds, shows phase 0 (DESIGN CHOICE, log entry 56). The stall of one lane of a pair with its second path is
masked as the loss of that lane is (R258). -/
def Work.stall (w : Work) (site : StallSite) (ret : Bool) (kind chan : Nat) : Work :=
  match siteDomain site with
  | none => w.hearthFatal pgHRT 17
  | some d =>
    let w := (w.setBit pgPKG PKG_SG_STAT d).count pgPKG PKG_SG_COUNT
    let w := ((w.wr pgPKG PKG_SG_LAST_DOMAIN d).wr pgPKG PKG_SG_LAST_CLUSTER ((siteCluster site).getD 0x3F)).wr pgPKG PKG_SG_LAST_PHASE (b2n ret)
    let w := (w.wr pgPKG PKG_SG_LAST_KIND kind).wr pgPKG PKG_SG_LAST_CHAN chan
    let w := w.when (kind == 0) fun w => w.modHearth fun h =>
      { h with stalls := if h.stalls.contains (d, siteCluster site) then h.stalls else h.stalls ++ [(d, siteCluster site)] }
    let info := w.word (pgPKG + PKG_SG_LAST_DOMAIN.off)
    match site with
    | .lanePath c =>
      let o := w.owner c.val
      let w := (w.flt (pgCLU c.val) .uc 16 info).laneShow c.val
      let other := w.path2 o && (w.lanesOf o).any fun l => l != c.val && w.laneState l == 3 && !w.pathStalled l
      if other then (w.wr (pgCLU o) CLU_CSTAT_PATH2_DOWN 1).flt (pgCLU o) .ce 20
      else if c.val != o && !w.path2 o then w
      else w.forcedSafe o 3
    | .region n => (w.flt (pgRG n.val) .uc 16 info).forcedSafeRg n.val 5 0
    | .die d => ((w.fltTo pgPKG .uc 16 (some (.cd d, 2)) info).forcedSafeRg (2 * d.val) 5 4).forcedSafeRg (2 * d.val + 1) 5 4
    | .hub => w.fltTo pgPKG .fatal 16 (some (.hb, 24)) info
    | .hearth => w

/-- The stalled handshakes that a reset ends (R563). -/
def Work.stallEnd (w : Work) (domains : List Nat) : Work :=
  w.modHearth fun h => { h with stalls := h.stalls.filter fun x => !domains.contains x.1 }

/-! ### Fences (R107 to R112) -/

/-- Raise or lower fence `f`. -/
def Work.fence (w : Work) (f : Nat) (up : Bool) : Work := w.putBit pgPKG PKG_FENCE_STAT f up

/-- The data that R184 names reads 0: state words, input slots with status words and late copies, output slots. -/
def Work.zeroSlots (w : Work) (n : Nat) : Work :=
  (w.dropRegs fun a => decide (rgBase n + 0x2000 ≤ a) && decide (a < rgBase n + 0x7800)).modRg n fun r =>
    { r with hostStage := [], ptTime := [], fillCur := [], fillNext := [], slotHist := [] }

/-- The region starts standby operation anew: it is resynchronising (R418, R421). -/
def Work.twinRestart (w : Work) (n : Nat) : Work :=
  w.modTwinRg n fun t => { t with img := none, resync := true, commitRun := 0, gatherRun := 0, unsent := false, live := [] }

/-- Region `n`'s fence rises (R107, R292, R351, R457): its cycle does not seal (R187), its lanes send nothing, and its ADC
triggers leave the queues. -/
def Work.fenceRegion (w : Work) (n : Nat) : Work :=
  let w := (((w.fence n true).leaveCycle n).adcDropRegion n).recFenced n
  let w := w.twinRestart n
  w.each (clustersOf n) fun w c => w.modLn c fun l => { l with timed := [], copy := none, mirror := [] }

/-- Region `n`'s fence falls and its enabled lanes enter ACQUIRE (R492, R517). -/
def Work.unfenceRegion (w : Work) (n : Nat) : Work :=
  let w := w.fence n false
  let w := w.each ((List.finRange 48).filter fun c => c.val / 12 == n) fun w c =>
    w.when (w.cellEn c.val) fun w => w.acquire (.cell c)
  w.each (clustersOf n) Work.laneShow

/-- A region that leaves BIST with CYC_EN = 1 runs again from its grid (R517). -/
def Work.rejoin (w : Work) (n : Nat) : Work :=
  let w := w.unfenceRegion n
  w.when (w.on (pgRG n) RG_CYC_CTL) fun w => w.awaitGrid n

/-! ### The Damper (R117 to R120) -/

/-- The level that is to apply (R119). -/
def Work.dampLevel (w : Work) : Nat := max (w.rd pgPKG PKG_DAMP_CTL) (w.rd pgTHERM THERM_TSTAT_TLEVEL)

/-- A frame of 1 µs starts (R118, R119): the level takes effect, the gate closes unless it is 0, and the counters of
microseconds move. -/
def Work.frame (w : Work) : Work :=
  let l := w.dampLevel
  let w := w.setShut (w.shut || l != 0)
  let w := (w.wr pgPKG PKG_DAMP_STAT_LEVEL l).wr pgPKG PKG_DAMP_STAT_PEAK (max l (w.rd pgPKG PKG_DAMP_STAT_PEAK))
  let w := w.when (l != 0) fun w => w.count pgPKG PKG_DAMP_CLOSED
  let w := w.when (w.on pgSPLL SPLL_STAT_HOLDOVER) fun w => w.count pgSPLL SPLL_HOLD_US
  let w := w.each ((upto 8).filter fun n => w.on pgPKG PKG_CHOP_STAT_ON n) fun w n => w.count pgPKG PKG_CHOP_ONT 1 n
  w.count pgTWIN TWIN_HLTH_AGE

/-! ### Commands -/

/-- STALL_GUARD_FIRE (R102, R105). -/
def execStallGuardFire (site : StallSite) (ret : Bool) (chan : BitVec 16) (s : State) : Host.Outcome State Fault Refusal :=
  nextDev s fun w => w.stall site ret 0 chan.toNat

/-- HANDSHAKE_PROTOCOL_ERROR (R103). -/
def execHandshakeProtocolError (site : StallSite) (ret : Bool) (chan : BitVec 16) (s : State) : Host.Outcome State Fault Refusal :=
  nextDev s fun w => w.stall site ret 1 chan.toNat

/-- DUAL_RAIL_CODE_ERROR (R103). -/
def execDualRailCodeError (site : StallSite) (chan : BitVec 16) (s : State) : Host.Outcome State Fault Refusal :=
  nextDev s fun w => w.stall site false 2 chan.toNat

/-- BIST_FENCE_RAISED (R110, R512): the accepted requests of region `n` have drained. -/
def execBistFenceRaised (n : Fin 4) (s : State) : Host.Outcome State Fault Refusal :=
  nextDev s fun w =>
    if bitOf w.sec.drain n.val then (w.fenceRegion n.val).modSec fun k => { k with drain := k.drain - 2 ^ n.val } else w

/-- DAMPER_FRAME_START (R118, R119). -/
def execDamperFrameStart (s : State) : Host.Outcome State Fault Refusal := nextDev s Work.frame

end Sys2Proof.Machine
end

