-- ==== Sys2Proof/Machine/SelfTest.lean ====
section
/-! DEFINITION. Self-test, the device key and the counted store (R511 to R537): region and logic BIST, zeroising, and
counted-store writes. -/

namespace Sys2Proof.Machine

/-! ### Region BIST (R511 to R519) -/

/-- A logic BIST runs or has ended (R511, R521). -/
def Work.lbistBusy (w : Work) : Bool :=
  w.on pgBIST BIST_BSTAT_HUB_RUN || w.on pgBIST BIST_BSTAT_HRT_RUN || w.on pgBIST BIST_BSTAT_LEND

/-- The refusal that a start of region `n` meets; `both` says that the same write starts the die's other region (R511). -/
def Work.bistRefusal (w : Work) (n : Nat) (both : Bool) : Option Nat :=
  let sib := if n % 2 = 0 then n + 1 else n - 1
  if both || w.bistRun sib then some 1
  else if w.role != 1 && (clustersOf n).any fun c => inService (w.cstate c) then some 2
  else if w.on pgPKG PKG_SWAP_STAT_ARMED || w.on pgPKG PKG_SWAP_STAT_PENDING then some 3
  else if bitOf w.kin.resets n || w.bistRun n then some 4
  else if w.lbistBusy then some 8
  else none

/-- A refused start (R511). -/
def Work.bistRefuse (w : Work) (cause : Nat) : Work := (w.wr pgBIST BIST_BSTAT_REFUSED 1).wr pgBIST BIST_BSTAT_REF_CAUSE cause

/-- An accepted start (R512): the fence rises once the region's requests have drained; a marked region is fenced already. -/
def Work.bistBegin (w : Work) (n : Nat) : Work :=
  (w.setBit pgBIST BIST_BSTAT_RUN n).modSec fun k => { k with drain := k.drain ||| 2 ^ n }

/-- Each start of one write is judged on its own, on the state before the write (R511). -/
def Work.bistGo (w : Work) (rgs : Nat) : Work :=
  let verdicts := ((upto 4).filter (bitOf rgs)).map fun n => (n, w.bistRefusal n (bitOf rgs (if n % 2 = 0 then n + 1 else n - 1)))
  w.each verdicts fun w v => match v.2 with
    | some c => w.bistRefuse c
    | none => w.bistBegin v.1

/-- The run of region `n` is over: RUN clears with verdict `v` (R514, R518). -/
def Work.bistVerdict (w : Work) (n v : Nat) : Work :=
  let w := (w.clrBit pgBIST BIST_BSTAT_RUN n).modSec fun k => { k with drain := if bitOf k.drain n then k.drain - 2 ^ n else k.drain }
  (w.wr pgBIST BIST_RGRES_VERDICT v n).wr pgBIST BIST_DONE_S w.now.s n

/-- A run of region `n` is aborted (R518); `zero` says that the data of R184 is written 0, as after a host abort or a
reset. -/
def Work.bistAbort (w : Work) (n : Nat) (zero : Bool) : Work :=
  if w.bistRun n then
    let fenced := !bitOf w.sec.drain n
    let w := w.bistVerdict n 3
    let w := w.when (fenced && zero) fun w => w.zeroSlots n
    w.when (fenced && !w.marked n) fun w => w.rejoin n
  else w

/-- The end of a run (R513, R514): the march leaves 0 in the data of R184. A marked region keeps its fence (R515). -/
def Work.bistDone (w : Work) (n : Nat) (sig : Nat) (sigOk : Bool) (bad : Option Nat) : Work :=
  let ok := sigOk && bad.isNone
  let w := (w.zeroSlots n).bistVerdict n (if ok then 1 else 2)
  let w := ((w.wr pgBIST BIST_RGRES_MEMFAIL (b2n bad.isSome) n).wr pgBIST BIST_RGRES_SIGFAIL (b2n (!sigOk)) n).wr pgBIST
    BIST_RGRES_MADDR (bad.getD 0) n
  let w := ((w.wr pgBIST BIST_SIG_LO sig n).wr pgBIST BIST_SIG_HI (sig / 2 ^ 32) n).count pgBIST BIST_RUN_COUNT
  if ok then (if w.marked n then w else w.rejoin n)
  else
    let w := (w.count pgBIST BIST_FAIL_COUNT).flt pgBIST .uc 16
    w.modEmber fun e => { e with marks := e.marks ||| 2 ^ n }

/-- UMARK (R515): the marks of named regions whose last verdict is PASS and which do not run are cleared. -/
def Work.umark (w : Work) (key rgs : Nat) : Work :=
  if key = 0x554D then
    let ok := (upto 4).filter fun n => bitOf rgs n && w.rd pgBIST BIST_RGRES_VERDICT n == 1 && !w.bistRun n && w.marked n
    let w := w.modEmber fun e => { e with marks := ok.foldl (fun m n => m - 2 ^ n) e.marks }
    w.when (w.ember.marks == 0) fun w => w.modKin fun k => { k with kept := none }
  else w.badval pgBIST

/-! ### The key (R522 to R525) -/

/-- The key path is open (R522, R524). -/
def Work.keyOpen (w : Work) : Bool := w.sec.programmed && w.sec.verified && !w.sec.closed

/-- Zeroising, with its ZCAUSE (R524). -/
def Work.zero (w : Work) (cause : Nat) : Work :=
  let w := w.each (upto 4) fun w g => ((w.wr pgSEC SEC_RGNT_EN 0 g).wr pgSEC SEC_RGNT_PKG 0 g).wr pgSEC SEC_RGNT_EXP 0 g
  ((w.wr pgSEC SEC_KEYSTAT_ZEROISED 1).wr pgSEC SEC_KEYSTAT_ZCAUSE cause).modSec fun k => { k with closed := true }

/-- KCV (R523). -/
def kcvOf (key : List Byte) : Word := beWord ((hmac key [0x4B, 0x43, 0x56, 0x31]).take 4)

/-- SCTL.PROG with its key (R522). -/
def Work.keyProg (w : Work) : Work :=
  if !w.sec.programmed && !w.sec.progRun && !w.sec.closed && w.on pgTHERM THERM_TSTAT_WGATE && w.allIdle then
    w.modSec fun k => { k with progRun := true }
  else w.badval pgSEC

/-- The programming ends (R522): `ok` says that the read-back verifies. -/
def Work.keyDone (w : Work) (ok : Bool) : Work :=
  if w.sec.progRun then
    let key := (upto 8).flatMap fun i => beBytes (w.word (pgSEC + SEC_KEYW.at i))
    let w := w.modSec fun k => { k with key := key, programmed := true, verified := ok, progRun := false }
    let w := w.each (upto 8) fun w i => w.wr pgSEC SEC_KEYW 0 i
    if ok then w.when w.keyOpen fun w => w.put (pgSEC + SEC_KCV.off) (kcvOf key)
    else w.flt pgSEC .uc 16
  else w

/-! ### Logic BIST (R520, R521) -/

/-- The refusal that a logic BIST start meets (R520). -/
def Work.lbistRefusal (w : Work) : Option Nat :=
  if !w.allIdle then some 2
  else if w.role = 2 then some 5
  else if (upto 4).any fun n => w.on (pgRG n) RG_CYC_CTL then some 7
  else if w.on pgBIST BIST_BSTAT_RUN || w.lbistBusy then some 8
  else none

/-- Logic BIST of the hub, or of the Hearth, starts: zeroise, level 4, then the fence (R520). -/
def Work.lbist (w : Work) (hub : Bool) : Work :=
  let w := (w.zero (if hub then 2 else 3)).reactFatal (pgBIST / 0x1000)
  (w.fence (if hub then 6 else 7) true).wr pgBIST (if hub then BIST_BSTAT_HUB_RUN else BIST_BSTAT_HRT_RUN) 1

/-- BCTL starts a logic BIST (R520). -/
def Work.lbistGo (w : Work) (hub : Bool) : Work :=
  match w.lbistRefusal with
  | some c => w.bistRefuse c
  | none => w.lbist hub

/-- A logic BIST ends (R520, R521). -/
def Work.lbistEnd (w : Work) (pass : Bool) (sig : Nat) : Work :=
  let v := if pass then 1 else 2
  let hub := w.on pgBIST BIST_BSTAT_HUB_RUN
  if hub || w.on pgBIST BIST_BSTAT_HRT_RUN then
    let w : Work := if hub then ((w.wr pgBIST BIST_LRES_HUB v).wr pgBIST BIST_HSIG_LO sig).wr pgBIST BIST_HSIG_HI (sig / 2 ^ 32)
      else ((w.wr pgBIST BIST_LRES_HRT v).wr pgBIST BIST_TSIG_LO sig).wr pgBIST BIST_TSIG_HI (sig / 2 ^ 32)
    let w := (w.wr pgBIST (if hub then BIST_BSTAT_HUB_RUN else BIST_BSTAT_HRT_RUN) 0).wr pgBIST BIST_BSTAT_LEND 1
    if pass then w else w.flt pgBIST .fatal 17
  else w

/-! ### The counted store (R530 to R533) -/

/-- Writes made to slot `s`, and the register that counts them. -/
def wcntField (s : Nat) : Field := { (if s < 8 then CSTORE_WCNT0 else CSTORE_WCNT1) with lo := 4 * (s % 8), wid := 4 }

/-- The bits that R530 requires to be 0 are 0. -/
def slotValueOk (s : Nat) (lo hi : Word) : Bool :=
  match s with
  | 0 => hi == 0 && decide (lo.toNat < 1024)
  | 1 | 3 => hi == 0 && decide (lo.toNat < 65536)
  | 2 => decide (hi.toNat < 65536)
  | _ => true

/-- The refusal that a write of slot `s` meets (R531). -/
def Work.cstoreRefusal (w : Work) (s : Nat) (lo hi : Word) : Option Nat :=
  if !w.on pgTHERM THERM_TSTAT_WGATE then some 1
  else if 8 ≤ w.rd pgCSTORE (wcntField s) then some 2
  else if w.sec.cellRun.isSome then some 3
  else if !slotValueOk s lo hi then some 4
  else none

/-- WCTL with GO (R531). -/
def Work.cstoreGo (w : Work) (s : Nat) : Work :=
  let lo := w.word (pgCSTORE + CSTORE_WDATA_LO.off)
  let hi := w.word (pgCSTORE + CSTORE_WDATA_HI.off)
  let w := w.wr pgCSTORE CSTORE_WCTL_SLOT s
  match w.cstoreRefusal s lo hi with
  | some c => (w.wr pgCSTORE CSTORE_WSTAT_REFUSED 1).wr pgCSTORE CSTORE_WSTAT_REF_CAUSE c
  | none =>
    (w.wr pgCSTORE CSTORE_WSTAT_BUSY 1).modSec fun k =>
      { k with cellRun := some ⟨s, lo, hi, w.on pgTALLY TALLY_STAT_TIME_SET, w.now.s⟩ }

/-- The write ends (R531, R532): `ok` says that the cell verifies. -/
def Work.cstoreDone (w : Work) (ok : Bool) : Work :=
  match w.sec.cellRun with
  | none => w
  | some r =>
    let n := w.rd pgCSTORE (wcntField r.slot)
    let e := w.rd pgCSTORE CSTORE_WSTAT_LOG_N
    let base := pgCSTORE + 0x200 + 12 * e
    let hash := beWord ((sha256 (BitVec.ofNat 8 r.slot :: beBytes r.hi ++ beBytes r.lo)).take 4)
    let w := w.put base (w32 (2 ^ 31 + b2n r.timeSet * 2 ^ 30 + b2n (!ok) * 2 ^ 29 + n * 2 ^ 26 + r.slot * 2 ^ 16 + r.s / 2 ^ 32))
    let w := ((w.put (base + 4) (w32 r.s)).put (base + 8) hash).wr pgCSTORE CSTORE_WSTAT_LOG_N (e + 1)
    let w := (w.wr pgCSTORE (wcntField r.slot) (n + 1)).modSec fun k => { k with cellRun := none }
    let w := (w.wr pgCSTORE CSTORE_WSTAT_BUSY 0).wr pgCSTORE CSTORE_WSTAT_DONE 1
    if ok then (w.put (pgCSTORE + CSTORE_SLOT_LO.at r.slot) r.lo).put (pgCSTORE + CSTORE_SLOT_HI.at r.slot) r.hi
    else (w.wr pgCSTORE CSTORE_WSTAT_FAIL 1).flt pgCSTORE .uc 16

/-! ### Commands -/

/-- BIST_START (R511, R512): bits of BCTL.GO. -/
def execBistStart (rgs : BitVec 4) (s : State) : Host.Outcome State Fault Refusal :=
  nextDev s fun w => w.hostAct (.bistStart rgs) (pgBIST + BIST_BCTL_GO.at 0) fun w => w.bistGo rgs.toNat

/-- BIST_ABORT (R518): bits of BCTL.ABORT. -/
def execBistAbort (rgs : BitVec 4) (s : State) : Host.Outcome State Fault Refusal :=
  nextDev s fun w => w.hostAct (.bistAbort rgs) (pgBIST + BIST_BCTL_ABORT.at 0) fun w =>
    w.each ((upto 4).filter (bitOf rgs.toNat)) fun w n => w.bistAbort n true

/-- BIST_COMPLETE (R513 to R517): the signature, whether it matches, and the first failing word. The Damper's gate holds the
run's last step back (R118). -/
def execBistComplete (n : Fin 4) (sig : BitVec 64) (sigOk : Bool) (bad : Option (BitVec 24)) (s : State) :
    Host.Outcome State Fault Refusal :=
  nextDev s fun w => w.throttle (.bistComplete n sig sigOk bad) fun w =>
    if w.bistRun n.val && !bitOf w.sec.drain n.val then w.bistDone n.val sig.toNat sigOk (bad.map BitVec.toNat) else w

/-- STANDBY_BIST_START (R422, R519): the next pair in turn, fenced and marked regions left out. -/
def execStandbyBistStart (s : State) : Host.Outcome State Fault Refusal :=
  nextDev s fun w =>
    if w.role = 1 ∧ w.on pgTWIN TWIN_TCFG_SBIST ∧ w.on pgTWIN TWIN_TSTAT_HEALTH_OK ∧ ¬ w.on pgBIST BIST_BSTAT_RUN then
      let pair := if w.twin.bistTurn then [1, 3] else [0, 2]
      let w := w.modTwin fun t => { t with bistTurn := !t.bistTurn }
      w.each (pair.filter fun n => !w.rgFenced n && !w.marked n && (w.bistRefusal n false).isNone) Work.bistBegin
    else w

/-- UMARK (R515). -/
def execUmark (key : BitVec 16) (rgs : BitVec 4) (s : State) : Host.Outcome State Fault Refusal :=
  nextDev s fun w => w.hostAct (.umark key rgs) (pgBIST + BIST_UMARK_KEY.at 0) fun w => w.umark key.toNat rgs.toNat

/-- LBIST_HUB_START (R520). -/
def execLbistHubStart (s : State) : Host.Outcome State Fault Refusal :=
  nextDev s fun w => w.hostAct .lbistHubStart (pgBIST + BIST_BCTL_GO.at 0) fun w => w.lbistGo true

/-- LBIST_HRT_START (R520). -/
def execLbistHrtStart (s : State) : Host.Outcome State Fault Refusal :=
  nextDev s fun w => w.hostAct .lbistHrtStart (pgBIST + BIST_BCTL_GO.at 0) fun w => w.lbistGo false

/-- LBIST_COMPLETE (R520, R521). -/
def execLbistComplete (pass : Bool) (sig : BitVec 64) (s : State) : Host.Outcome State Fault Refusal :=
  nextDev s fun w => w.throttle (.lbistComplete pass sig) fun w => w.lbistEnd pass sig.toNat

/-- BAR0 offset of SCTL. -/
def sctlAddr : Nat := pgSEC + SEC_SCTL_PROG.at 0

/-- KEY_PROG (R522). -/
def execKeyProg (s : State) : Host.Outcome State Fault Refusal := nextDev s fun w => w.hostAct .keyProg sctlAddr Work.keyProg

/-- KEY_PROG_DONE (R522, R523). -/
def execKeyProgDone (ok : Bool) (s : State) : Host.Outcome State Fault Refusal := nextDev s fun w => w.keyDone ok

/-- ZEROISE (R524): SCTL with its key. -/
def execZeroise (s : State) : Host.Outcome State Fault Refusal := nextDev s fun w => w.hostAct .zeroise sctlAddr fun w => w.zero 4

/-- CSTORE_WRITE (R531): WCTL with GO. -/
def execCstoreWrite (slot : Fin 16) (s : State) : Host.Outcome State Fault Refusal :=
  nextDev s fun w => w.hostAct (.cstoreWrite slot) (pgCSTORE + CSTORE_WCTL_GO.at 0) fun w => w.cstoreGo slot.val

/-- CSTORE_WRITE_DONE (R531, R532). -/
def execCstoreWriteDone (ok : Bool) (s : State) : Host.Outcome State Fault Refusal := nextDev s fun w => w.cstoreDone ok

end Sys2Proof.Machine
end

