-- ==== Sys2Proof/Machine/Halt.lean ====
section
/-! DEFINITION. The freeze (R237 to R239) and the TAP, which can ask for one (R524, R525). -/

namespace Sys2Proof.Machine

/-! ### The freeze -/

/-- A word of unit `u` that a CANCEL with TIME `f` voids, or that is not to leave any more (R237). -/
def Timed.voided (f : Int) : Timed → Bool
  | .edge _ e => !e.cancel && decide (f ≤ e.due)
  | .prof _ due _ => decide (f ≤ due)
  | .sample .. => false

/-- The legs whose PROF message `f` voids. -/
def Lane.voidedProfs (l : Lane) (f : Int) : List Nat := l.timed.filterMap fun x => match x with
  | .prof leg due _ => if f ≤ due then some leg else none
  | _ => none

/-- No word due at or after `f` leaves any more; a leg whose PROF is among them needs one again (R235). -/
def Work.voidAfter (w : Work) (f : Int) : Work :=
  let w := w.each (upto 48) fun w c => w.each ((w.ln c).voidedProfs f) fun w leg =>
    match w.legUnit c leg with
    | some u => w.modUn u fun k => { k with prof := none }
    | none => w
  let w := w.each (upto 48) fun w c => w.modLn c fun l => { l with timed := l.timed.filter fun x => !x.voided f }
  w.each (upto 192) fun w u => w.modUn u fun k => { k with hist := k.hist.filter fun e => decide (e.1 < f) }

/-- The freeze point of a request made now: the first Tally tick at or after 2.0 µs (R237). -/
def Work.freezeTime (w : Work) : Int := t16 (timeAdd w.now ((2000 * 2 ^ 32 + w.inc - 1) / w.inc * w.inc))

/-- A freeze request (R237): CANCEL words with the freeze point go to every emitting leg that the package commands. -/
def Work.freezeReq (w : Work) : Work :=
  if w.on pgPKG PKG_FRZ_STAT_FROZEN || w.hearth.frz.isSome then w
  else
    let f := w.freezeTime
    let w := (w.modHearth fun h => { h with frz := some f }).voidAfter f
    w.each (upto 192) fun w u =>
      match w.unitLeg u with
      | some (o, leg) => w.when ((w.un u).emit && !w.standsBy o) fun w => w.timed o (.edge u ⟨true, leg, 0, false, false, false, f⟩)
      | none => w

/-- The part resumes (R239): each unit in the first cycle whose SCHEDULE begins at least 0.5 µs later. -/
def Work.thaw (w : Work) : Work :=
  let w := (w.wr pgPKG PKG_FRZ_STAT_FROZEN 0).wr pgPKG PKG_FRZ_STAT_RESUMED 1
  let w := (w.wr pgHRT HRT_HSTAT_HG_RUN 0).modHearth fun h => { h with guardPast := false }
  w.each (upto 192) fun w u => w.modUn u fun k => { k with resume := if k.frozen then some w.up else none }

/-- Neither FREEZE nor the JTAG halt stands any more. -/
def Work.thawIfFree (w : Work) : Work :=
  if w.on pgPKG PKG_FRZ_STAT_FROZEN && !w.on pgPKG PKG_FRZ_CTL && !w.on pgPKG PKG_FRZ_STAT_JTAG then w.thaw else w

/-- The freeze point (R237, R238, R398): every leg holds, and the halt guard starts. -/
def Work.freezeAt (w : Work) (f : Int) : Work :=
  let w := (w.voidAfter f).modHearth fun h => { h with frz := none, guardPast := false }
  let w := (w.wr pgPKG PKG_FRZ_STAT_FROZEN 1).stamp pgPKG PKG_FRZ_T_NS PKG_FRZ_T_S (timeOf16 f)
  let w := w.each (upto 192) fun w u =>
    (w.wr (pgUNIT u) UNIT_ESTAT_FROZEN 1).modUn u fun k => { k with frozen := true, resume := none }
  let w := (w.wr pgHRT HRT_HSTAT_HG_RUN 1).wr pgHRT HRT_HSTAT_DEEN 0
  let w := if w.rd pgHRT HRT_HGUARD_TIME = 0 then w.guardExpire else w
  w.thawIfFree

/-! ### The TAP -/

/-- An instruction is selected (R525): leaving HALT releases the JTAG halt (R239). -/
def Work.tapSelect (w : Work) (ir : Nat) : Work :=
  let halt := w.sec.ir == 0x10 && ir != 0x10
  let w := w.modSec fun k => { k with ir := ir }
  if halt then (w.wr pgPKG PKG_FRZ_STAT_JTAG 0).thawIfFree else w

/-- An instruction under which the Hearth reacts at level 4 (R525). -/
def Work.tapStop (w : Work) (ir : Nat) : Work := (w.tapSelect ir).reactFatal (pgHRT / 0x1000)

/-! ### Commands -/

/-- FREEZE_REQUEST (R237): FRZ_CTL.FREEZE written 1. -/
def execFreezeRequest (s : State) : Host.Outcome State Fault Refusal :=
  nextDev s fun w => w.hostAct .freezeRequest (pgPKG + PKG_FRZ_CTL.at 0) fun w =>
    w.unlocked pgPKG fun w => (w.wr pgPKG PKG_FRZ_CTL 1).freezeReq

/-- FREEZE_POINT (R237, R238): the freeze point asked for. -/
def execFreezePoint (s : State) : Host.Outcome State Fault Refusal :=
  nextDev s fun w => match w.hearth.frz with
    | some f => w.freezeAt f
    | none => w

/-- FREEZE_RELEASE (R239): FRZ_CTL.FREEZE written 0. -/
def execFreezeRelease (s : State) : Host.Outcome State Fault Refusal :=
  nextDev s fun w => w.hostAct .freezeRelease (pgPKG + PKG_FRZ_CTL.at 0) fun w =>
    w.unlocked pgPKG fun w => (w.wr pgPKG PKG_FRZ_CTL 0).thawIfFree

/-- TAP_EXTEST (R525). -/
def execTapExtest (s : State) : Host.Outcome State Fault Refusal := nextDev s fun w => w.tapStop 0x00

/-- TAP_IDCODE (R525): the data register shifts out the identity. -/
def execTapIdcode (s : State) : Host.Outcome State Fault Refusal := nextDev s fun w => (w.tapSelect 0x01).emit (.tap 0x1C19274B#32)

/-- TAP_SAMPLE_PRELOAD (R525). -/
def execTapSamplePreload (s : State) : Host.Outcome State Fault Refusal := nextDev s fun w => w.tapSelect 0x02

/-- TAP_CLAMP (R525). -/
def execTapClamp (s : State) : Host.Outcome State Fault Refusal := nextDev s fun w => w.tapStop 0x04

/-- TAP_HIGHZ (R525). -/
def execTapHighz (s : State) : Host.Outcome State Fault Refusal := nextDev s fun w => w.tapStop 0x05

/-- TAP_EXTEST_PULSE (R525). -/
def execTapExtestPulse (s : State) : Host.Outcome State Fault Refusal := nextDev s fun w => w.tapStop 0x06

/-- TAP_EXTEST_TRAIN (R525). -/
def execTapExtestTrain (s : State) : Host.Outcome State Fault Refusal := nextDev s fun w => w.tapStop 0x07

/-- TAP_HALT (R237, R525): a freeze request. -/
def execTapHalt (s : State) : Host.Outcome State Fault Refusal :=
  nextDev s fun w => ((w.tapSelect 0x10).wr pgPKG PKG_FRZ_STAT_JTAG 1).freezeReq

/-- TAP_SCAN_INT (R524, R525): zeroise, level 4, then scan; R521 applies afterwards. -/
def execTapScanInt (s : State) : Host.Outcome State Fault Refusal :=
  nextDev s fun w => (((w.tapSelect 0x80).zero 1).reactFatal (pgHRT / 0x1000)).wr pgBIST BIST_BSTAT_LEND 1

/-- TAP_LBIST_HUB (R525): as R520, without its preconditions. -/
def execTapLbistHub (s : State) : Host.Outcome State Fault Refusal := nextDev s fun w => (w.tapSelect 0x81).lbist true

/-- TAP_LBIST_HRT (R525). -/
def execTapLbistHrt (s : State) : Host.Outcome State Fault Refusal := nextDev s fun w => (w.tapSelect 0x82).lbist false

/-- TAP_BYPASS (R525), and every code without an instruction. -/
def execTapBypass (s : State) : Host.Outcome State Fault Refusal := nextDev s fun w => w.tapSelect 0xFF

end Sys2Proof.Machine
end

