-- ==== Sys2Proof/Machine/Sealed.lean ====
section
/-! DEFINITION. Boot-image records (R485), sealed sections and the sealed update (R403 to R405, R526, R527). -/

namespace Sys2Proof.Machine

/-! ### Images in DRAM -/

/-- BAR2 offset of image-store block `k` (R50, R484). -/
def blockAt (k : Nat) : Nat := 0x7000000 + 0x10000 * k

/-- Dword at byte `o` of a byte string, least significant byte first. -/
def leAt (bs : List Byte) (o : Nat) : Nat := ((bytesWords ((bs.drop o).take 4)).headD 0).toNat

/-- The records of a body (R485): address and data of each dword, up to the first record that is not well formed, and
whether all were. -/
def recordsOf : Nat → List Word → List (Nat × Word) × Bool
  | _, [] => ([], true)
  | fuel + 1, a :: n :: r =>
    let k := n.toNat
    if a.toNat < 2 ^ 25 ∧ a.toNat % 4 = 0 ∧ 1 ≤ k ∧ k ≤ 65536 ∧ k ≤ r.length then
      let q := recordsOf fuel (r.drop k)
      (((r.take k).zipIdx.map fun e => (a.toNat + 4 * e.2, e.1)) ++ q.1, q.2)
    else ([], false)
  | _, _ => ([], false)

/-! ### Sealed sections (R526, R527) -/

/-- The dwords of the Hearth pages that hold SEAL fields, in ascending order (R409, R410). -/
def sealDwords : List Nat :=
  [pgHRT + 0x4C, pgHRT + 0x50, pgHRT + 0x54, pgHRT + 0x58] ++ (upto 64).map fun i => pgHRT1 + 0x40 + 4 * i

/-- The SEAL bits of the dword at `a`. -/
def sealMask (a : Nat) : Word :=
  match pageOf a with
  | some (k, _) => maskAt k (a % 0x1000) .seal
  | none => 0

/-- A section authenticates (R527); the key path is open. -/
def Work.sealAuth (w : Work) (bs : List Byte) : Bool :=
  let n := leAt bs 8
  let pkg := leAt bs 4 % 1024
  decide (leAt bs 0 = 0x5345414C ∧ leAt bs 4 / 2 ^ 16 = 1 ∧ n = bs.length ∧ n % 4 = 0 ∧ 48 ≤ n ∧ n ≤ 65536) &&
    (pkg == 0x3FF || pkg == w.pkgNo) && hmac w.sec.key (bs.take (n - 32)) == bs.drop (n - 32)

/-- The records of a section. -/
def sealRecords (bs : List Byte) : List (Nat × Word) × Bool :=
  let body := bytesWords ((bs.take (bs.length - 32)).drop 16)
  recordsOf body.length body

/-- FORMAT of R405: exactly one value for every SEAL field, and nothing else. -/
def sealFormat (q : List (Nat × Word) × Bool) : Bool :=
  q.2 && q.1.length == sealDwords.length && (sealDwords.all fun a => q.1.any fun e => e.1 == a) &&
    q.1.all fun e => e.2 &&& ~~~(sealMask e.1) == 0

/-- The IDX values that a condition takes (R391). -/
def condOk (cond idx : Nat) : Bool :=
  match cond with
  | 0 | 1 | 6 => idx == 0
  | 2 => decide (idx ≤ 7)
  | 3 | 4 => decide (idx ≤ 63)
  | 5 => decide (idx ≤ 6)
  | 7 => decide (idx ≤ 15)
  | 8 => decide (idx ≤ 3) || idx == 0xFF
  | _ => false

/-- RANGE of R405. -/
def sealRange (l : List (Nat × Word)) : Bool :=
  let at' (a : Nat) : Word := ((l.find? fun e => e.1 == a).map Prod.snd).getD 0
  let f (pg : Nat) (x : Field) (i : Nat := 0) : Nat := x.get (at' (pg + x.at i))
  let lo := toSigned 8 (f pgHRT HRT_PC_LIM_TLO_S)
  let hi := toSigned 8 (f pgHRT HRT_PC_LIM_THI_S)
  ((upto 32).all fun e => condOk (f pgHRT1 HRT1_RT_A_COND e) (f pgHRT1 HRT1_RT_A_IDX e) && decide (f pgHRT1 HRT1_RT_A_LEVEL e ≤ 4) &&
    f pgHRT1 HRT1_RT_B_CHOPMODE e != 3) &&
  decide (200 ≤ f pgHRT HRT_ALIVE_CFG ∧ f pgHRT HRT_ALIVE_CFG ≤ 10000 ∧ f pgHRT HRT_HGUARD_TIME ≤ 1000 ∧ -25 ≤ lo ∧ hi ≤ 70 ∧ lo ≤ hi) &&
  (upto 6).all fun i => f pgHRT HRT_HPAT / 4 ^ i % 4 != 3

/-- TABLE_CRC (R409). -/
def Work.tableCrc (w : Work) : Nat := crc32 (sealDwords.flatMap fun a => wordBytes (w.word a &&& sealMask a))

/-- The SEAL values take those of the records, and TABLE_CRC follows. -/
def Work.sealLoad (w : Work) (l : List (Nat × Word)) : Work :=
  let w := w.each (l.filter fun e => sealDwords.contains e.1) fun w e =>
    w.put e.1 ((w.word e.1 &&& ~~~(sealMask e.1)) ||| (e.2 &&& sealMask e.1))
  w.wr pgHRT HRT_TABLE_CRC w.tableCrc

/-! ### The sealed update (R404, R405) -/

/-- The sealed image of block `k`. -/
def Work.sealImage (w : Work) (k : Nat) : List Byte :=
  let n := leAt (w.dramBytes (blockAt k) 16) 8
  w.dramBytes (blockAt k) (min n 65536)

/-- The first check of R405 that fails. -/
def Work.supdFail (w : Work) (bs : List Byte) : Option Nat :=
  if !w.allIdle then some 1
  else if !w.keyOpen then some 2
  else if !w.sealAuth bs then some 3
  else if !sealFormat (sealRecords bs) then some 4
  else if !sealRange (sealRecords bs).1 then some 5
  else none

/-- SUPD_CTL with GO (R405). -/
def Work.supdGo (w : Work) (img : Nat) : Work :=
  if w.on pgHRT HRT_SUPD_STAT_BUSY then w.badval pgHRT
  else (w.unlocked pgHRT fun w => w.wr pgHRT HRT_SUPD_CTL_IMG img).wr pgHRT HRT_SUPD_STAT_BUSY 1

/-- The end of the update: refused with a cause, or the table takes the records of section `bs`. -/
def Work.supdVerdict (w : Work) (bs : List Byte) (r : Option Nat) : Work :=
  match r with
  | some c => (w.wr pgHRT HRT_SUPD_STAT_ERR 1).wr pgHRT HRT_SUPD_STAT_ERR_CAUSE c
  | none =>
    let entry (w : Work) (e : Nat) := (w.word (pgHRT1 + 0x40 + 8 * e), w.word (pgHRT1 + 0x44 + 8 * e))
    let old := (upto 32).map (entry w)
    let w := w.sealLoad (sealRecords bs).1
    let w := w.each ((upto 32).filter fun e => old.getD e (0, 0) != entry w e) fun w e => w.clrBit pgHRT1 HRT1_RT_ACT e
    let w := ((w.wr pgHRT HRT_SUPD_STAT_DONE 1).count pgHRT HRT_SUPD_COUNT).hearthShow
    w.ash ⟨7, 0, 0, pgHRT / 0x1000, 0, 0, 0, w.word (pgHRT + HRT_TABLE_CRC.off)⟩

/-- The update ends (R405): conditions of entries that change are judged anew, held reactions stand. -/
def Work.supdEnd (w : Work) : Work :=
  if w.on pgHRT HRT_SUPD_STAT_BUSY then
    let w := w.wr pgHRT HRT_SUPD_STAT_BUSY 0
    let k := w.rd pgHRT HRT_SUPD_CTL_IMG
    let bs := w.sealImage k
    let w := w.dramUse (blockAt k) bs.length
    w.supdVerdict bs (w.supdFail bs)
  else w

/-- SEALED_UPDATE_GO (R404, R405). -/
def execSealedUpdateGo (img : BitVec 8) (s : State) : Host.Outcome State Fault Refusal :=
  nextDev s fun w => w.hostAct (.sealedUpdateGo img) (pgHRT + HRT_SUPD_CTL_GO.at 0) fun w => w.supdGo img.toNat

/-- SEALED_UPDATE_DONE (R405). -/
def execSealedUpdateDone (s : State) : Host.Outcome State Fault Refusal := nextDev s Work.supdEnd

end Sys2Proof.Machine
end

