-- ==== Sys2Proof/Machine/SetPoints.lean ====
section
/-! DEFINITION. Set-point channels, fall-back and loop modes (R190 to R210). -/

namespace Sys2Proof.Machine

/-- A field of channel `q` of region `n`. -/
def Work.chRd (w : Work) (n q : Nat) (f : Field) : Nat := w.rd (pgSP n (q / 16)) f (q % 16)
def Work.chWr (w : Work) (n q : Nat) (f : Field) (v : Nat) : Work := w.wr (pgSP n (q / 16)) f v (q % 16)
/-- A LIVE field of channel `q` as last latched. -/
def Work.chLive (w : Work) (n q : Nat) (f : Field) : Nat := w.live (pgSP n (q / 16)) f (q % 16)
def Work.chOn (w : Work) (n q : Nat) : Bool := w.chRd n q SP_CH_CFG_EN == 1
/-- A field of loop entry `m`. -/
def Work.lpWr (w : Work) (n m : Nat) (f : Field) (v : Nat) : Work := w.wr (pgSP n (m / 16)) f v (m % 16)
def Work.modSp (w : Work) (n q : Nat) (f : SpGen → SpGen) : Work := w.modRg n fun r => { r with sp := vmod r.sp q f }
def Work.modLp (w : Work) (n m : Nat) (f : LoopSt → LoopSt) : Work := w.modRg n fun r => { r with lp := vmod r.lp m f }

/-! ### The generator (R193, R194) -/

/-- A generator at rest at `v`. -/
def SpGen.at (v : Int) (tacc tjerk : Nat) : SpGen :=
  ⟨v, List.replicate tacc v, List.replicate tjerk v, v, tacc, tjerk, tacc + tjerk - 2⟩

/-- The channel is at rest. -/
def SpGen.resting (g : SpGen) : Bool := g.rmp == g.out && g.h1.all (· == g.out) && g.h2.all (· == g.out)

/-- The mean of a history, halves up. -/
def meanUp (l : List Int) (n : Nat) : Int := (2 * l.sum + n) / (2 * n)

/-- The ramp moves towards `t` and both histories take it up. -/
def SpGen.ramp (g : SpGen) (t vmax : Int) : SpGen :=
  let rmp := g.rmp + min (max (t - g.rmp) (-vmax)) vmax
  let h1 := (rmp :: g.h1).take g.tacc
  let h2 := (meanUp h1 g.tacc :: g.h2).take g.tjerk
  ⟨rmp, h1, h2, meanUp h2 g.tjerk, g.tacc, g.tjerk, if g.rmp = t then min (g.hold + 1) (g.tacc + g.tjerk - 2) else 0⟩

/-- REMAIN (R194). -/
def SpGen.remain (g : SpGen) (t vmax : Int) : Nat :=
  if g.resting && g.out == t then 0
  else min ((((t - g.rmp).natAbs : Int) + vmax - 1) / vmax + (g.tacc + g.tjerk) - 2 - g.hold).toNat 0xFFFF

/-- One advance (R193): `fb` and `prof` as they stand, `step` STEPMAX, `tgt` the latched target. -/
def SpGen.advance (g : SpGen) (fb prof : Bool) (tgt lo hi vmax step : Int) : SpAdv :=
  let t := min (max tgt lo) hi
  let fin (x : SpGen) (stepped started : Bool) : SpAdv :=
    ⟨x, if x.resting then 1 else 2, x.remain t vmax, t != tgt, stepped, started⟩
  if g.resting then
    if t = g.out then fin g false false
    else if !fb && !prof && decide (((t - g.out).natAbs : Int) ≤ step) then fin (.at t g.tacc g.tjerk) true false
    else fin (g.ramp t vmax) false true
  else fin (g.ramp t vmax) false false

/-- Channel `q` advances from its sealed state. -/
def Work.spNext (w : Work) (n q : Nat) : SpAdv :=
  let s (f : Field) := toSigned 32 (w.chRd n q f)
  (vget (w.rg n).sp q).advance (w.chRd n q SP_CH_STAT_FB == 1) (w.chLive n q SP_CH_CTL_PROF == 1)
    (toSigned 32 (w.chLive n q SP_CH_TGT)) (s SP_CH_LIMLO) (s SP_CH_LIMHI) (w.chRd n q SP_CH_VMAX : Nat)
    (w.chRd n q SP_CH_STEPMAX : Nat)

/-- Every enabled channel of the region advances once (R191). -/
def Work.spAdvance (w : Work) (n : Nat) : Work :=
  w.each ((upto 64).filter (w.chOn n)) fun w q =>
    let a := w.spNext n q
    (w.modRg n fun r => { r with spPend := r.spPend ++ [(q, a)] }).chWr n q SP_CH_OUT (ofSigned 32 a.gen.out)

/-- The advances of a cycle that seals (R192). -/
def Work.spSeal (w : Work) (n : Nat) : Work :=
  let l := (w.rg n).spPend
  let w := w.each l fun w e =>
    let pg := pgSP n (e.1 / 16)
    let i := e.1 % 16
    let a := e.2
    let w := w.modSp n e.1 fun _ => a.gen
    let w := (w.wr pg SP_CH_STAT_STATE a.state i).wr pg SP_CH_STAT_REMAIN a.remain i
    let w := w.when a.clamp fun w => w.wr pg SP_CH_STAT_TGT_CLAMP 1 i
    let w := w.when a.stepped fun w => w.wr pg SP_CH_STAT_STEPPED 1 i
    w.when a.started fun w => w.count pg SP_CH_PROF_COUNT 1 i
  w.modRg n fun r => { r with spPend := [] }

/-- Channel `q` is put at rest at `v` with the active TACC and TJERK. -/
def Work.spRest (w : Work) (n q : Nat) (v : Int) : Work :=
  let w := w.modSp n q fun _ => .at v (w.chRd n q SP_CH_CFG_TACC + 1) (w.chRd n q SP_CH_CFG_TJERK + 1)
  ((w.chWr n q SP_CH_OUT (ofSigned 32 v)).chWr n q SP_CH_STAT_STATE 1).chWr n q SP_CH_STAT_REMAIN 0

/-- Channel `q` at rest at the value of R195 and R206, or off while EN is 0: its output is 0 (R191). -/
def Work.spInit (w : Work) (n q : Nat) : Work :=
  if w.chOn n q then
    w.spRest n q (min (max 0 (toSigned 32 (w.chRd n q SP_CH_LIMLO))) (toSigned 32 (w.chRd n q SP_CH_LIMHI)))
  else
    let w := w.modSp n q fun _ => .at 0 (w.chRd n q SP_CH_CFG_TACC + 1) (w.chRd n q SP_CH_CFG_TJERK + 1)
    ((w.chWr n q SP_CH_OUT 0).chWr n q SP_CH_STAT_STATE 0).chWr n q SP_CH_STAT_REMAIN 0

/-! ### Fall-back (R196) -/

/-- The fall-back events that take effect at this boundary. -/
def Work.spFallback (w : Work) (n : Nat) : Work :=
  let r := w.rg n
  let hit (q : Nat) := (r.fbRec && w.chRd n q SP_CH_CFG_FB_REC == 1) || (r.fbByp && w.chRd n q SP_CH_CFG_FB_BYP == 1) ||
    r.fbSet.contains q
  let w := w.each ((upto 64).filter fun q => w.chOn n q && hit q) fun w q => w.chWr n q SP_CH_STAT_FB 1
  w.modRg n fun r => { r with fbRec := false, fbByp := false, fbSet := [] }

/-! ### Loops (R198 to R203) -/

/-- The mode of loop `m` is that of LCFG.INIT; LSTAT.MODE of an entry not enabled reads 0 (R198). -/
def Work.lpInit (w : Work) (n m : Nat) : Work :=
  let auto := w.lpRd n m SP_LP_LCFG_INIT == 1
  let w := w.modLp n m fun l => { l with auto := auto, req := none }
  w.lpWr n m SP_LP_LSTAT_MODE (b2n (auto && w.lpOn n m))

/-- The cycle of a transfer to MANUAL seals (R201): LMAN takes the loop's output, unless the host has written it again since its
latch, and a host value latched with the transfer is lost. -/
def Work.lpToManual (w : Work) (n m : Nat) (lost : Bool) : Work :=
  let a := pgSP n (m / 16) + SP_LP_LMAN.at (m % 16)
  let kept := w.word a
  let w := (w.lpWr n m SP_LP_LMAN (w.lpRd n m SP_LP_LOUT)).latch a
  let w := w.when (vget (w.rg n).lp m).manW fun w => w.put a kept
  w.when lost fun w => w.lpWr n m SP_LP_LSTAT_MAN_LOST 1

/-- The requests latched at step 3 of a boundary (R200): a write of LMODE that differs from the mode stands as a request
until its cycle seals or a later write takes its place. -/
def Work.lpLatch (w : Work) (n : Nat) : Work :=
  let w := w.each ((upto 64).filter (w.lpOn n)) fun w m =>
    let l := vget (w.rg n).lp m
    let want := if l.modeW then some (w.live (pgSP n (m / 16)) SP_LP_LMODE (m % 16) == 1) else l.req
    let req := if want = some (!l.auto) then want else none
    let w := w.modLp n m fun k => { k with req := req }
    w.when req.isSome fun w => w.modRg n fun r => { r with lpPend := r.lpPend ++ [(m, false, l.auto && l.manW)] }
  w.each (upto 64) fun w m =>
    let l := vget (w.rg n).lp m
    if l.modeW || l.manW then w.modLp n m fun k => { k with modeW := false, manW := false } else w

/-- The transfers of a cycle that seals, and LOUT (R200, R202, R210). -/
def Work.lpSeal (w : Work) (n : Nat) : Work :=
  let r := w.rg n
  let w := w.each ((upto 64).filter fun m => w.lpOn n m && decide (w.lpRd n m SP_LP_LCFG_SECTION < r.results.length)) fun w m =>
    w.lpWr n m SP_LP_LOUT (r.results.getD (w.lpRd n m SP_LP_LCFG_SECTION) 0).toNat
  let w := w.each r.lpPend fun w e =>
    let m := e.1
    let auto := !(vget (w.rg n).lp m).auto
    let w := w.modLp n m fun k => { k with auto := auto, req := none }
    let w := w.lpWr n m (if auto then SP_LP_LSTAT_TO_AUTO else SP_LP_LSTAT_TO_MAN) 1
    let w := (w.lpWr n m SP_LP_LSTAT_MODE (b2n auto)).count (pgSP n (m / 16)) SP_LP_XFER_COUNT 1 (m % 16)
    let w := w.when (!auto) fun w => w.lpToManual n m e.2.2
    w.when e.2.1 fun w => w.lpWr n m SP_LP_LSTAT_PRESET_SAT 1
  w.modRg n fun r => { r with lpPend := [] }

/-- What a swap does to channel `q` and loop entry `q`, given EN, TACC, TJERK and the entry's EN before it (R195, R198): the
present output is the one OUT shows, on a standby region the copied one. -/
def Work.spSwap (w : Work) (n q : Nat) (en : Bool) (tacc tjerk : Nat) (lpEn : Bool) : Work :=
  let same := tacc == w.chRd n q SP_CH_CFG_TACC && tjerk == w.chRd n q SP_CH_CFG_TJERK
  let w := if w.chOn n q && en then (if same then w else w.spRest n q (toSigned 32 (w.chRd n q SP_CH_OUT))) else w.spInit n q
  if w.lpOn n q && lpEn then w
  else if w.lpOn n q then w.lpInit n q
  else w.lpWr n q SP_LP_LSTAT_MODE 0

/-! ### Commands -/

/-- A write of FB_SET waits for the region's next boundary (R196). -/
def Work.fbSet (w : Work) (n q : Nat) : Work := w.modRg n fun r => { r with fbSet := r.fbSet.filter (· != q) ++ [q] }

/-- FB_SET (R196). -/
def execFbSet (n : Fin 4) (q : Fin 64) (s : State) : Host.Outcome State Fault Refusal := 
  nextDev s fun w => w.hostAct (.fbSet n q) (pgSP n (q / 16) + SP_CH_CTL_FB_SET.at (q % 16)) fun w => w.fbSet n.val q.val

end Sys2Proof.Machine
end

