-- ==== Sys2Proof/Machine/Access.lean ====
section
/-! DEFINITION. Writing register fields (R6 to R10, R60 to R70): values a description leaves undefined, locks, resource
claims, and the shadow views and windows. -/

namespace Sys2Proof.Machine

/-! ### What SEAL commits, as it reads (R29) -/

/-- The dword at `a` of the UNIT page of unit `u` as it reads: while the region runs, edge-scheduler states and trip counters show
what its latest SEAL committed. -/
def Work.unitShown (w : Work) (u a : Nat) : Word :=
  let r := w.rg (u / 48)
  if r.run then (w.word a &&& ~~~(sealedMask a)) ||| (cellsGet resetWord r.sealed a &&& sealedMask a) else w.word a

/-- The bits `m` of the dword at `a` clear in what the latest SEAL of region `n` committed. -/
def Work.sealClear (w : Work) (n a : Nat) (m : Word) : Work :=
  w.modRg n fun r => { r with sealed := r.sealed.map fun e => if e.1 = a then (e.1, e.2 &&& ~~~(m &&& sealedMask a)) else e }

/-- The value of a field as it reads, where the state behind it moves on within a cycle (R29). -/
def Work.shown (w : Work) (k : PageKind) (inst pg : Nat) (f : Field) (i : Nat) : Nat :=
  if k = .unit then f.get (w.unitShown inst (pg + f.at i)) else w.rd pg f i

/-! ### Values (R10) -/

/-- A resource identifier that R84 defines. -/
def resDefined (v : Nat) : Bool :=
  let i := v % 4096
  match v / 4096 with
  | 1 | 2 => decide (i < 32)
  | 3 | 4 => decide (i < 16)
  | _ => false

/-- The lane-enable mask in force (R533). -/
def Work.laneAllowed (w : Work) (c : Nat) : Bool :=
  if c < 32 then bitOf (w.rd pgCSTORE CSTORE_LANES_ACT_LO) c else bitOf (w.rd pgCSTORE CSTORE_LANES_ACT_HI) (c - 32)

/-- Does the description of field `f`, element `i`, of the page define the value that the dword `x` gives it (R10, R36,
R63, R84, R151, R213, R366, R367, R455, R533)? -/
def Work.valueOk (w : Work) (k : PageKind) (inst : Nat) (f : Field) (i : Nat) (x : Word) : Bool :=
  let v := f.get x
  (f.dom.ok f.wid v || (f == TALLY_TO_CTL_PIN && i == 0)) &&
  (if f == HDR_INJ_CHK || f == HDR_INJ_BIT then injOk k (HDR_INJ_CHK.get x) (HDR_INJ_BIT.get x) else true) &&
  (match k with
  | .pkg =>
    if f == PKG_SUPMON_UV_EN || f == PKG_SUPMON_OV_EN then PKG_SUPMON_UV_EN.get x + PKG_SUPMON_OV_EN.get x != 0
    else if f == PKG_E0_S_LO || f == PKG_E0_S_HI || f == PKG_E0_NS then (upto 4).all fun n => !w.on (pgRG n) RG_CYC_CTL
    else true
  | .claim => if f == CLAIM_RES_SEL then resDefined v else true
  | .tally => if f == TALLY_TO_WID then decide (10 ≤ v ∧ v + 10 ≤ w.rd pgTALLY TALLY_TO_PER i) else true
  | .recorder => if f == REC_TRG_CFG_SRC then decide (1 ≤ v ∧ v ≤ 8) else true
  | .clu =>
    if f == CLU_SAFEPAT_PAT then (upto 6).all fun l => v / 4 ^ l % 4 != 3
    else if f == CLU_PC_CFG_VREADY then
      !w.on pgCSTORE CSTORE_CEIL_ACT_EN || decide (toSigned 16 v ≤ w.rdS pgCSTORE CSTORE_CEIL_ACT_VREADY_MAX)
    else true
  | .clane => if f == CLANE_CTL_EN then v == 0 || w.laneAllowed inst else true
  | _ => true)

/-- Dword `d` with field `f` taken from `x`. -/
def Field.merge (f : Field) (d x : Word) : Word := (d &&& ~~~f.mask) ||| (x &&& f.mask)

/-- Store field `f`, element `i`, of page `pg` from the dword `x` written, or ignore it with BADVAL (R10). DESIGN CHOICE
(log entry 12): R10 does not say whether an undefined value of one field drops the whole write; here that field alone keeps
its value, but CHK and BIT of INJ, which name one check between them, are judged together. -/
def Work.storeField (w : Work) (k : PageKind) (inst pg : Nat) (f : Field) (i : Nat) (x : Word) : Work :=
  if w.valueOk k inst f i x then w.put (pg + f.at i) (f.merge (w.word (pg + f.at i)) x) else w.badval pg

/-- Store every field of the list in turn. -/
def Work.storeFields (w : Work) (k : PageKind) (inst pg : Nat) (l : List (Field × Nat)) (x : Word) : Work :=
  w.each l fun w e => w.storeField k inst pg e.1 e.2 x

/-- The fields of one access code at an offset. -/
def accAt (k : PageKind) (o : Nat) (acc : Acc) : List (Field × Nat) := (fieldsAt k o).filter fun e => e.1.acc == acc

/-! ### Resource claims (R81 to R85) -/

/-- What a capture channel's enable names (R147). -/
def capNames (k src : Nat) : List Nat := (0x2000 + k) :: (if src < 0x20 then [0x1000 + src] else [])

/-- What a timed output's enable names (R150). -/
def toNames (m pin : Nat) : List Nat := (0x3000 + m) :: (if m = 0 then [] else [0x1000 + pin % 32])

/-- The claims of the enables of RW fields: resource, page index and register offset. -/
def Work.claimsRw (w : Work) : List (Nat × Nat × Nat) :=
  ((upto 32).filter fun k => w.on pgTALLY TALLY_CAP_CTL_EN k).flatMap (fun k =>
    (capNames k (w.rd pgTALLY TALLY_CAP_CTL_SRC k)).map fun r => (r, pgTALLY / 0x1000, TALLY_CAP_CTL_EN.at k)) ++
  ((upto 16).filter fun m => w.on pgTALLY TALLY_TO_CTL_EN m).flatMap fun m =>
    (toNames m (w.rd pgTALLY TALLY_TO_CTL_PIN m)).map fun r => (r, pgTALLY / 0x1000, TALLY_TO_CTL_EN.at m)

/-- The claims of the enables of RWS fields, whose dwords `g` reads (R353, R455). -/
def claimsRws (g : Nat → Word) : List (Nat × Nat × Nat) :=
  ((upto 64).filter fun k => WC_ROUTE_CAP_EN.get (g (pgWC k + WC_ROUTE_CAP_EN.off)) == 1).map (fun k =>
    (0x2000 + WC_ROUTE_CAP_CH.get (g (pgWC k + WC_ROUTE_CAP_EN.off)), pgWC k / 0x1000, WC_ROUTE_CAP_EN.off)) ++
  ((upto 16).filter fun k => REC_TRG_CFG_EN.get (g (pgREC + REC_TRG_CFG_EN.at k)) == 1).flatMap fun k =>
    let d := g (pgREC + REC_TRG_CFG_EN.at k)
    ((0x4000 + k) :: (if REC_TRG_CFG_SRC.get d = 5 then [0x1000 + REC_TRG_CFG_SEL.get d % 32] else [])).map fun r =>
      (r, pgREC / 0x1000, REC_TRG_CFG_EN.at k)

/-- Every claim held now. -/
def Work.claims (w : Work) : List (Nat × Nat × Nat) := w.claimsRw ++ claimsRws w.word

/-- The first of the resources that an enable other than the one at `reg` of page `pg` holds. -/
def Work.claimConflict (w : Work) (pg reg : Nat) (names : List Nat) : Option Nat :=
  names.find? fun r => w.claims.any fun e => e.1 == r && !(e.2.1 == pg / 0x1000 && e.2.2 == reg)

/-- A claim is refused (R81): the enable stays 0. -/
def Work.claimDenied (w : Work) (pg res : Nat) : Work :=
  let w := (w.wr pg HDR_STAT_CLAIM_DENIED 1).wr pg HDR_CLAIM_DENIED_RES res
  ((w.count pgCLAIM CLAIM_DENY_COUNT).wr pgCLAIM CLAIM_LAST_DENY_RES res).wr pgCLAIM CLAIM_LAST_DENY_PAGE (pg / 0x1000)

/-- A write of a resource selection while its feature is enabled is ignored and sets BADVAL (R83). -/
def Work.selWrite (w : Work) (f : Field) (i : Nat) (en : Bool) (x : Word) : Work :=
  if en then w.badval pgTALLY else w.storeField .tally 0 pgTALLY f i x

/-- A write of a TALLY enable that claims `names` of the state it meets. -/
def Work.enWrite (w : Work) (f : Field) (i : Nat) (x : Word) (names : Work → List Nat) (rise fall : Work → Work) : Work :=
  let new := f.get x == 1
  if w.on pgTALLY f i == new then w
  else if new then
    match w.claimConflict pgTALLY (f.at i) (names w) with
    | some r => w.claimDenied pgTALLY r
    | none => rise (w.wr pgTALLY f 1 i)
  else fall (w.wr pgTALLY f 0 i)

/-- A write of CAPk_CTL (R147, R151). -/
def Work.capWrite (w : Work) (k : Nat) (x : Word) : Work :=
  let w := (w.storeField .tally 0 pgTALLY TALLY_CAP_CTL_EDGE k x).selWrite TALLY_CAP_CTL_SRC k (w.on pgTALLY TALLY_CAP_CTL_EN k) x
  w.enWrite TALLY_CAP_CTL_EN k x (fun w => capNames k (w.rd pgTALLY TALLY_CAP_CTL_SRC k)) id id

/-- A write of TOm_CTL (R150, R151); channel 0 has no pin to select. -/
def Work.toWrite (w : Work) (m : Nat) (x : Word) : Work :=
  let en := w.on pgTALLY TALLY_TO_CTL_EN m
  let w := (w.storeField .tally 0 pgTALLY TALLY_TO_CTL_MODE m x).storeField .tally 0 pgTALLY TALLY_TO_CTL_POL m x
  let w := w.selWrite TALLY_TO_CTL_PIN m (en && m != 0) x
  w.enWrite TALLY_TO_CTL_EN m x (fun w => toNames m (w.rd pgTALLY TALLY_TO_CTL_PIN m)) (fun w => w.toEnable m) (fun w => w.toDisable m)

/-! ### Writes of RW, LIVE, W1C and CNT fields -/

/-- The RW fields of a register without behaviour of its own, and what a write of the others does (R237, R239, R345, R394,
R454, R524). CYC_CTL, INC_FRAC, INC_NS and NOFS are written elsewhere. -/
def Work.rwWrite (w : Work) (k : PageKind) (inst pg o : Nat) (x : Word) : Work :=
  let plain := w.storeFields k inst pg (accAt k o .rw) x
  match k with
  | .tally =>
    match TALLY_CAP_CTL_EN.index? o, TALLY_TO_CTL_EN.index? o, (TALLY_TO_S.index? o).or (TALLY_TO_NS.index? o) with
    | some c, _, _ => w.capWrite c x
    | _, some m, _ => w.toWrite m x
    | _, _, some m => plain.toMoved m
    | _, _, _ => plain
  | .recorder =>
    if o = REC_RCTL_EN.off then
      let new := REC_RCTL_EN.get x == 1
      if w.on pgREC REC_RCTL_EN = new then w else if new then w.recEnable else w.recDisable
    else plain
  | .pkg =>
    if o = PKG_FRZ_CTL.off then
      let old := w.on pgPKG PKG_FRZ_CTL
      if old = w.on pgPKG PKG_FRZ_CTL && old = (PKG_FRZ_CTL.get x == 1) then w
      else if PKG_FRZ_CTL.get x = 1 then plain.freezeReq else plain.thawIfFree
    else plain
  | .wc =>
    if o = WC_WMODE.off ∧ WC_WMODE.get x ≠ w.rd pg WC_WMODE then
      plain.when (w.on pg WC_WCFG_EN) fun w => w.wr pg WC_WSTAT_SETTLING 1
    else plain
  | .sec => if w.sec.closed && decide (0x80 ≤ o ∧ o < 0xA0) then w.badval pgSEC else plain
  | .hrt => if o = HRT_PLEA_LEVEL.off then w.plea (HRT_PLEA_LEVEL.get x) (HRT_PLEA_RGMASK.get x) else plain
  | _ => plain

/-- A write of LIVE fields (R33, R200, R201): stored now, latched at the region's next boundary. -/
def Work.liveWrite (w : Work) (k : PageKind) (inst pg o : Nat) (x : Word) : Work :=
  let w := w.storeFields k inst pg (accAt k o .live) x
  match k with
  | .sp =>
    let n := inst / 4
    let lp (q : Nat) (f : LoopSt → LoopSt) := w.modLp n (16 * (inst % 4) + q) f
    match SP_LP_LMODE.index? o, SP_LP_LMAN.index? o with
    | some q, _ => lp q fun l => { l with modeW := true }
    | _, some q => lp q fun l => { l with manW := true }
    | _, _ => w
  | _ => w

/-- A flag whose clear the state refuses: the bits of `m` that may be cleared (R106, R132, R189, R346, R349, R364, R369,
R397, R447, R496), and whether a refusal sets BADVAL (R197, R349, R364). -/
def Work.w1cAllowed (w : Work) (k : PageKind) (inst pg : Nat) (f : Field) (i m : Nat) : Nat × Bool :=
  let only (bad : Bool) (p : Nat → Bool) : Nat × Bool :=
    (((upto f.wid).filter fun b => bitOf m b && p b).foldl (fun a b => a + 2 ^ b) 0, bad)
  let gate (bad ok : Bool) : Nat × Bool := if ok then (m, bad) else (0, bad)
  match k with
  | .pkg =>
    if f == PKG_SG_STAT then only false fun d => !w.hearth.stalls.any fun s => s.1 == d
    else if f == PKG_CHOP_STAT_FB_LAT then gate false (!w.on pg PKG_CHOP_STAT_FB_ACT i)
    else (m, false)
  | .tally => if f == TALLY_STAT_UNC_WIDE then gate false (!w.on pgSPLL SPLL_STAT_HOLDOVER) else (m, false)
  | .abc => if f == ABC_RSTAT_OVR_TRIP then gate false (decide (w.rd pg ABC_RSTAT_OVR_RUN < w.rd pg ABC_OVR_CTL)) else (m, false)
  | .sp => if f == SP_CH_STAT_FB then gate true (w.rd pg SP_CH_STAT_STATE i != 2) else (m, false)
  | .clu => if f == CLU_PSTAT_FLATCH then gate true (w.activeSources (w.owner inst)).isEmpty else (m, false)
  | .unit => if f == UNIT_TSTAT_LATCHED then gate true (!w.unitSrc inst) else (m, false)
  | .hrt => if f == HRT_SUPSTAT_SEEN then only false fun b => !bitOf (w.rd pg HRT_SUPSTAT_NOW) b else (m, false)
  | .eq => if f == EQ_QSTAT_WM_X then gate false (decide (w.rd pg EQ_QSTAT_LEVEL < w.rd pg EQ_WM)) else (m, false)
  | .wc =>
    if f == WC_WSTAT_LAT_H then gate false (!w.on pg WC_WSTAT_H)
    else if f == WC_WSTAT_LAT_L then gate false (!w.on pg WC_WSTAT_L)
    else (m, false)
  | .emb =>
    if f == EMB_ESTAT_XTAL_FAIL then gate false (w.on pg EMB_ESTAT_XTAL_RUN)
    else if f == EMB_EC_STAT_TAMP then
      only true fun b => !bitOf w.ember.seen b || bitOf (w.rd pg EMB_EC_STAT_LVL) b == w.on pg EMB_EC_CFG_POL b
    else (m, false)
  | _ => (m, false)

/-- What an accepted clear does besides (R196, R364, R368, R496). -/
def Work.w1cAfter (w : Work) (k : PageKind) (inst : Nat) (f : Field) (i : Nat) : Work :=
  match k with
  | .abc => w.when (f == ABC_RSTAT_OVR_TRIP) fun w => w.modRg inst fun r => { r with fbRec := true }
  | .unit => w.when (f == UNIT_TSTAT_LATCHED) fun w =>
      ((w.modUn inst fun u => { u with trips := [] }).wr (pgUNIT inst) UNIT_TSTAT_WIN_CNT 0).sealClear (inst / 48)
        (pgUNIT inst + UNIT_TSTAT_WIN_CNT.off) UNIT_TSTAT_WIN_CNT.mask
  | .pkg => w.when (f == PKG_CHOP_STAT_FB_LAT) fun w => w.chopEval i true
  | .emb => w.when (f == EMB_ESTAT_XTAL_FAIL) fun w => w.wr pgEMB EMB_ESTAT_RC 0
  | _ => w

/-- A write of ones to a W1C field (R6, R120): bits that are refused stay, and other bits clear; a bit that does not show yet
(R29) is not what the write names, and stays. -/
def Work.w1cField (w : Work) (k : PageKind) (inst pg : Nat) (f : Field) (i : Nat) (x : Word) : Work :=
  let old := w.rd pg f i
  let m := f.get x
  if k = .pkg ∧ f = PKG_DAMP_STAT_PEAK then
    w.when (bitOf m 0) fun w => w.wr pgPKG PKG_DAMP_STAT_PEAK (w.rd pgPKG PKG_DAMP_STAT_LEVEL)
  else
    let q := w.w1cAllowed k inst pg f i m
    let new := (BitVec.ofNat f.wid old &&& ~~~(BitVec.ofNat f.wid (q.1 &&& w.shown k inst pg f i))).toNat
    let w := w.when (q.2 && q.1 != m && old != 0) fun w => w.badval pg
    let w := w.when (k == .unit) fun w => w.sealClear (inst / 48) (pg + f.at i) (x &&& f.mask)
    if new = old then w else (w.wr pg f new i).w1cAfter k inst f i

/-- The W1C and CNT fields of a register (R6). -/
def Work.clearWrite (w : Work) (k : PageKind) (inst pg o : Nat) (x : Word) : Work :=
  let w := w.each (accAt k o .w1c) fun w e => w.w1cField k inst pg e.1 e.2 x
  w.each (accAt k o .cnt) fun w e =>
    (w.wr pg e.1 0 e.2).when (k == .unit) fun w => w.sealClear (inst / 48) (pg + e.1.at e.2) e.1.mask

/-- A register with RW, RWS or LIVE fields, whose writes a lock refuses in both views; INJ counts as a whole (R64). -/
def lockable (k : PageKind) (o : Nat) : Bool :=
  o == 0x18 || !(accAt k o .rw).isEmpty || !(accAt k o .rws).isEmpty || !(accAt k o .live).isEmpty

/-- The page's lock refuses a write of the register at offset `o` (R64). -/
def Work.lockHolds (w : Work) (k : PageKind) (pg o : Nat) : Bool := w.on pg HDR_LOCK_LOCKED && lockable k o

/-- A write of the fields of a page's active view but its WO fields: RWS, SEAL and RO fields ignore it (R6, R66). -/
def Work.activeWrite (w : Work) (k : PageKind) (inst pg o : Nat) (x : Word) : Work :=
  if o = 0x18 ∧ ¬ k.hasInj then w
  else
    let locked := w.lockHolds k pg o
    let w : Work := if locked then w.wr pg HDR_STAT_LOCK_WR 1 else (w.rwWrite k inst pg o x).liveWrite k inst pg o x
    if locked ∧ o = 0x18 then w else w.clearWrite k inst pg o x

/-! ### Shadow views and windows (R66, R67, R70) -/

/-- The stored bits of dword `o` of a section word (R159): reserved bits read 0. -/
def sectionMask (o : Nat) : Word :=
  if o = 0x00 then 0xFFFF07FF#32 else if o = 0x04 ∨ o = 0x0C then 0xF00007FF#32 else if o = 0x30 then 0x800001FF#32
  else if o = 0x38 ∨ o = 0x3C then 0 else 0xFFFFFFFF#32

/-- The RWS bits of the dword at active offset `a` (R68, R87). -/
def rwsMask (a : Nat) : Word :=
  match windowOf a with
  | some (.secActive _) => sectionMask (a % 64)
  | some .pdirActive => if a % 8 = 0 then 0xFF0003FF#32 else 0xFC00FFE0#32
  | _ => match pageOf a with
    | some (k, _) => if 0x40 ≤ a % 0x1000 ∧ a % 0x1000 < 0x800 then maskAt k (a % 0x1000) .rws else 0
    | none => 0

/-- Where a shadow view or window offset's active twin lies, and the page that flags its refused writes (R66, R67, R70). -/
def shadowOf (a : Nat) : Option (Nat × Nat) :=
  match windowOf a with
  | some (.secShadow n) => some (a - 0x10000, pgABC n)
  | some .pdirShadow => some (a - 0x2000, pgPKG)
  | some _ => none
  | none => match pageOf a with
    | some _ => if 0x840 ≤ a % 0x1000 then some (a - 0x800, a / 0x1000 * 0x1000) else none
    | none => none

/-- Shadow writes are refused now (R70). -/
def Work.shadowFrozen (w : Work) : Bool :=
  w.on pgPKG PKG_SWAP_STAT_ARMED || w.on pgPKG PKG_SWAP_STAT_PENDING || w.on pgPKG PKG_SWAP_STAT_COPY_BUSY

/-- Store the RWS fields of the dword at active offset `a` with `put`, field by field; true if a field ignored its value
(R10). DESIGN CHOICE (log entry 45): a window has no page header and R72 checks its entries before a swap (R88, R188), so a
value that R87 or R159 calls undefined is stored in a shadow window and refuses the swap. -/
def Work.rwsStore (w : Work) (a : Nat) (x : Word) (put : Work → Nat → Word → Word → Work) : Work × Bool :=
  if (windowOf a).isSome then (put w a (rwsMask a) x, false)
  else match pageOf a with
    | none => (w, false)
    | some (k, inst) =>
      let pg := a / 0x1000 * 0x1000
      (accAt k (a % 0x1000) .rws).foldl (fun q e =>
        if q.1.valueOk k inst e.1 e.2 x then (put q.1 a e.1.mask x, q.2) else (q.1.badval pg, true)) (w, false)

/-- Set the bits of `m` at `a` in the shadow set. -/
def Work.shBits (w : Work) (a : Nat) (m x : Word) : Work := w.shPut a ((w.shWord a &&& ~~~m) ||| (x &&& m))

/-- Set the bits of `m` at `a` in both sets. -/
def Work.bothBits (w : Work) (a : Nat) (m x : Word) : Work := (w.put a ((w.word a &&& ~~~m) ||| (x &&& m))).shBits a m x

/-- A write of the shadow view or window whose active twin is `a` and whose flagging page is `pg`; true if it was ignored
under R64, R70 or R10. -/
def Work.shadowWrite (w : Work) (a pg : Nat) (x : Word) : Work × Bool :=
  if w.shadowFrozen then (w.wr pg HDR_STAT_SHADOW_WR 1, true)
  else if (windowOf a).isNone && w.on pg HDR_LOCK_LOCKED then
    if (match pageOf a with | some (k, _) => lockable k (a % 0x1000) | none => false) then (w.wr pg HDR_STAT_LOCK_WR 1, true) else (w, false)
  else
    let q := w.rwsStore a x Work.shBits
    (q.1.when ((windowOf a).isNone && rwsMask a != 0) (fun w => w.wr pg HDR_STAT_SHADOW_DIRTY 1), q.2)

/-- What the shadow view or window shows of the dword at active offset `a` (R66, R67). -/
def Work.shadowRead (w : Work) (a : Nat) : Word := w.shWord a &&& rwsMask a

end Sys2Proof.Machine
end

