-- ==== Sys2Proof/Machine/Ember.lean ====
section
/-! DEFINITION. The Ember (R348 to R350, R494 to R498): its clock and counter, the ember comparators, sleep and wake. -/

namespace Sys2Proof.Machine

/-! ### Sleep and wake (R497, R498) -/

/-- PWR.ON and WAKE_OUT take a level. -/
def Work.wakeOut (w : Work) (level : Bool) : Work :=
  if w.on pgEMB EMB_PWR_ON = level then w else (w.wr pgEMB EMB_PWR_ON (b2n level)).emit (.pin "WAKE_OUT" 0 level)

/-- PWR.SLEEP. -/
def Work.sleepStart (w : Work) : Work :=
  if w.allIdle then w.modEmber fun e => { e with sleep := true } else w.badval pgEMB

/-- Wake requests of the comparators in `ec` or of the alarm: they count while ON is 0, and within the sleep delay they
cancel the sleep. -/
def Work.wakeReq (w : Work) (ec : List Nat) (alarm : Bool) : Work :=
  let n := ec.length + b2n alarm
  if n = 0 || (w.on pgEMB EMB_PWR_ON && !w.ember.sleep) then w
  else
    let w := w.when w.ember.sleep fun w => (w.wr pgEMB EMB_WAKE_STAT_CANCELLED 1).modEmber fun e => { e with sleep := false }
    let w := (w.wr pgEMB EMB_WAKE_STAT_EC (ec.foldl (fun m k => m + 2 ^ k) 0)).wr pgEMB EMB_WAKE_STAT_ALARM (b2n alarm)
    ((w.wr pgEMB EMB_WAKE_T w.ember.ecnt).count pgEMB EMB_WAKE_COUNT n).wakeOut true

/-! ### The ember tick (R348 to R350) -/

/-- The staged host writes take effect (R350); a comparator whose EN rises starts anew. -/
def Work.emberWrites (w : Work) : Work :=
  let on (w : Work) (n : Nat) := w.on pgEMB EMB_EC_CFG_EN n
  let old := w
  let l := w.ember.staged
  let w := w.modEmber fun e => { e with staged := [] }
  let w := w.each l fun w e =>
    let w := w.activeWrite .emb 0 pgEMB (e.1 - pgEMB) e.2
    w.when (e.1 == pgEMB + EMB_PWR_SLEEP.off && EMB_PWR_SLEEP.get e.2 == 1) Work.sleepStart
  w.each ((upto 4).filter fun n => on w n && !on old n) fun w n => w.modEmber fun e =>
    { e with qual := e.qual.setIfInBounds n 0, seen := if bitOf e.seen n then e.seen - 2 ^ n else e.seen }

/-- What a sample of `v` volts shows comparator `n` against THR × 1.200 V / 256: above it, below it, or within ±5 mV (R348). -/
def Work.emberVerdict (w : Work) (n : Nat) (v : Rat) : Option Bool :=
  let t : Rat := (w.rd pgEMB EMB_EC_CFG_THR n : Rat) * (12 / 10) / 256
  if t + 5 / 1000 < v then some true else if v < t - 5 / 1000 then some false else none

/-- The decision of comparator `n` on a sample of `v` volts (R348). -/
def Work.emberDecide (w : Work) (n : Nat) (v : Rat) : Work :=
  let first := !bitOf w.ember.seen n
  let w := w.modEmber fun e => { e with seen := e.seen ||| 2 ^ n }
  match w.emberVerdict n v with
  | some b => (w.putBit pgEMB EMB_EC_STAT_LVL n b).clrBit pgEMB EMB_EC_STAT_UNDET n
  | none =>
    if first then (w.putBit pgEMB EMB_EC_STAT_LVL n (w.on pgEMB EMB_EC_CFG_PU n)).setBit pgEMB EMB_EC_STAT_UNDET n else w

/-- The event counter of comparator `n`. -/
def emberCount (n : Nat) : Field :=
  match n with
  | 0 => EMB_EC_CNT01_EC0 | 1 => EMB_EC_CNT01_EC1 | 2 => EMB_EC_CNT23_EC2 | _ => EMB_EC_CNT23_EC3

/-- Qualification of comparator `n` after its decision (R349); true if it makes an event. -/
def Work.emberQualify (w : Work) (n : Nat) : Work × Bool :=
  let active := bitOf (w.rd pgEMB EMB_EC_STAT_LVL) n != w.on pgEMB EMB_EC_CFG_POL n
  let q := vget w.ember.qual n
  let set (k : Nat) := w.modEmber fun e => { e with qual := e.qual.setIfInBounds n k }
  if !active then (set 0, false)
  else if q = 5 then (w, false)
  else if q + 1 ≤ w.rd pgEMB EMB_EC_CFG_QUAL n then (set (q + 1), false)
  else
    let w := ((set 5).setBit pgEMB EMB_EC_STAT_EVT n).count pgEMB (emberCount n)
    (w.when (w.on pgEMB EMB_EC_CFG_TAMPER n) fun w => w.setBit pgEMB EMB_EC_STAT_TAMP n, true)

/-- The periods of the Ember clock between two ticks (R348). -/
def Work.emberPeriod (w : Work) : Nat := 2 ^ (15 - w.rd pgEMB EMB_EC_CTL)

/-- An ember tick: ECNT comes to the tick, staged writes take effect, and the enabled comparators decide. -/
def Work.emberTick (w : Work) (volts : List Rat) : Work :=
  let p := w.emberPeriod
  let w := w.modEmber fun e => { e with ecnt := (e.ecnt / p + 1) * p % 2 ^ 48 }
  let w := w.emberWrites
  let r := (upto 4).foldl (fun (q : Work × List Nat) n =>
    if q.1.on pgEMB EMB_EC_CFG_EN n then
      let k := (q.1.emberDecide n (volts.getD n 0)).emberQualify n
      (k.1, if k.2 && k.1.on pgEMB EMB_EC_CFG_WAKE n then q.2 ++ [n] else q.2)
    else q) (w, [])
  r.1.wakeReq r.2 false

/-- ECNT reaches ALARM with the alarm enabled (R498). -/
def Work.emberAlarm (w : Work) : Work :=
  if w.on pgEMB EMB_ALARM_HI_EN then
    let t := w.rd pgEMB EMB_ALARM_HI_ALARM * 2 ^ 32 + w.rd pgEMB EMB_ALARM_LO
    (w.modEmber fun e => { e with ecnt := t }).wakeReq [] true
  else w

/-- VEMB power-on (R350, R494 to R497, R515): the Ember domain resets, its marks with it. -/
def Work.emberReset (w : Work) : Work :=
  let w := (w.dropRegs fun a => a / 0x1000 == pgEMB / 0x1000).modEmber fun _ => default
  (w.modKin fun k => { k with kept := none }).emit (.pin "WAKE_OUT" 0 true)

/-! ### Commands -/

/-- EMBER_TICK (R348 to R350): the voltages at ECIN[3:0]. -/
def execEmberTick (volts : Vector Rat 4) (s : State) : Host.Outcome State Fault Refusal := nextDev s fun w => w.emberTick volts.toList

/-- A read of ECNT_LO latches ECNT_HI (R495). -/
def Work.readEcnt (w : Work) : Work × Word :=
  (w.wr pgEMB EMB_ECNT_HI (w.ember.ecnt / 2 ^ 32), BitVec.ofNat 32 w.ember.ecnt)

/-- ECNT_READ (R495). -/
def execEcntRead (s : State) : Host.Outcome State Fault Refusal :=
  nextDev s fun w => w.hostGet .ecntRead (pgEMB + EMB_ECNT_LO.at 0) fun w => Work.answer w.readEcnt

/-- XTAL_STABLE (R496): the Ember moves to the crystal, unless a failure is still flagged. -/
def execXtalStable (s : State) : Host.Outcome State Fault Refusal :=
  nextDev s fun w =>
    (w.wr pgEMB EMB_ESTAT_XTAL_RUN 1).when (!w.on pgEMB EMB_ESTAT_XTAL_FAIL) fun w => w.wr pgEMB EMB_ESTAT_RC 0

/-- XTAL_FAIL (R496): no crystal edge for 4 ms. -/
def execXtalFail (s : State) : Host.Outcome State Fault Refusal :=
  nextDev s fun w => ((w.wr pgEMB EMB_ESTAT_XTAL_RUN 0).wr pgEMB EMB_ESTAT_XTAL_FAIL 1).wr pgEMB EMB_ESTAT_RC 1

/-- CRYSTAL_RESUME (R496): the crystal runs again; the Ember stays on its RC oscillator until XTAL_FAIL is cleared. -/
def execCrystalResume (s : State) : Host.Outcome State Fault Refusal := nextDev s fun w => w.wr pgEMB EMB_ESTAT_XTAL_RUN 1

/-- EMBER_SLEEP (R497): PWR.SLEEP takes effect. -/
def execEmberSleep (s : State) : Host.Outcome State Fault Refusal :=
  nextDev s fun w => w.hostAct .emberSleep (pgEMB + EMB_PWR_SLEEP.at 0) Work.sleepStart

/-- SLEEP_DELAY_EXPIRY (R497). -/
def execSleepDelayExpiry (s : State) : Host.Outcome State Fault Refusal :=
  nextDev s fun w => if w.ember.sleep then (w.modEmber fun e => { e with sleep := false }).wakeOut false else w

/-- EMBER_ALARM (R498). -/
def execEmberAlarm (s : State) : Host.Outcome State Fault Refusal := nextDev s Work.emberAlarm

/-- VEMB_POWER_ON (R350, R494 to R497). -/
def execVembPowerOn (s : State) : Host.Outcome State Fault Refusal := nextDev s Work.emberReset

end Sys2Proof.Machine
end

