-- ==== Sys2Proof/Machine/Queues.lean ====
section
/-! DEFINITION. The event queues (R437 to R449): packets, positions, posting, and the queue commands. -/

namespace Sys2Proof.Machine

def Work.q (w : Work) (q : Nat) : EqQ := vget w.eq q

/-- Position `a` less position `b`, modulo 2^32 (R442). -/
def posSub (a b : Nat) : Nat := (a + 2 ^ 32 - b % 2 ^ 32) % 2 ^ 32

def Work.qCap (w : Work) (q : Nat) : Nat := 2048 + 8192 * w.rd (pgEQ q) EQ_OVF_SIZE
def Work.qLevel (w : Work) (q : Nat) : Nat := posSub (w.rd (pgEQ q) EQ_WR) (w.rd (pgEQ q) EQ_REL)
def Work.qEmpty (w : Work) (q : Nat) : Bool := w.rd (pgEQ q) EQ_RD == w.rd (pgEQ q) EQ_WR
def Work.qStopped (w : Work) (q : Nat) : Bool := w.on (pgEQ q) EQ_QSTAT_STOPPED

/-- The head packet's dwords (R444): none while the queue is empty or stopped. -/
def Work.qHead (w : Work) (q : Nat) : List Word :=
  if w.qEmpty q || w.qStopped q then []
  else match (w.q q).pkts.find? fun p => p.1 == w.rd (pgEQ q) EQ_RD with
    | some p => p.2
    | none => []

/-- QSTAT.LEVEL and EMPTY follow the positions, a queue that becomes non-empty raises its interrupt (R449), and PEAK and the
watermark follow LEVEL (R447). -/
def Work.qShow (w : Work) (q : Nat) : Work :=
  let pg := pgEQ q
  let old := w.rd pg EQ_QSTAT_LEVEL
  let l := w.qLevel q
  let ne := w.on pg EQ_QSTAT_EMPTY && !w.qEmpty q
  let w := (w.wr pg EQ_QSTAT_LEVEL l).wr pg EQ_QSTAT_EMPTY (b2n (w.qEmpty q))
  let w := w.when (ne && w.on pg EQ_QCTL_IRQ_NE) fun w => w.msix (w.rd pg EQ_QCTL_VEC)
  let w := w.when (decide (w.rd pg EQ_PEAK < l)) fun w => w.wr pg EQ_PEAK l
  if old < w.rd pg EQ_WM ∧ w.rd pg EQ_WM ≤ l then
    let w := (w.wr pg EQ_QSTAT_WM_X 1).count pg EQ_WM_COUNT
    w.when (w.on pg EQ_QCTL_IRQ_WM) fun w => w.msix (w.rd pg EQ_QCTL_VEC)
  else w

/-- An event packet (R439): three header dwords and the payload, filled to whole units. -/
def Work.packet (w : Work) (e : Event) : List Word :=
  let units := (3 + e.payload.length + 1) / 2
  let d := [w32 ((units - 1) * 2 ^ 30 + w.rd pgTALLY TALLY_STAT_STEP_SEQ % 16 * 2 ^ 26 + e.cls % 256 * 2 ^ 16 + e.page % 2 ^ 13),
    w32 (w.rd pgTALLY TALLY_STAT_HOLDOVER * 2 ^ 31 + w.now.ns), w32 w.now.s] ++ e.payload
  d ++ List.replicate (2 * units - d.length) 0

/-- A queue's own GAP packet for `n` lost packets (R440, R443). -/
def Work.gapPacket (w : Work) (q n : Nat) : List Word := w.packet ⟨0x0F, pgEQ q / 0x1000, [w32 n]⟩

/-- Put a packet at WR: on-chip when the overflow is empty and the ring has room, otherwise at the tail of the overflow
partition, whose unit `p` lies 8 × (p mod its size) bytes into it (R443). -/
def Work.qAppend (w : Work) (q : Nat) (d : List Word) : Work :=
  let pg := pgEQ q
  let at' := w.rd pg EQ_WR
  let n := d.length / 2
  let onChip := (w.q q).ovf == at' && decide (w.qLevel q + n ≤ 2048)
  let newWr := (at' + n) % 2 ^ 32
  let w := w.modQ q fun e => { e with pkts := e.pkts ++ [(at', d)], ovf := if onChip then newWr else e.ovf }
  let sz := w.rd pg EQ_OVF_SIZE * 65536
  let w := w.when (!onChip && sz != 0) fun w =>
    (w.each (d.zipIdx) fun w e =>
      w.dramPut (w.rd pg EQ_OVF_BASE * 65536 + (8 * at' + 4 * e.2) % sz) (wordBytes e.1))
  ((w.wr pg EQ_WR newWr).count pg EQ_POST_COUNT)

/-- A comparison of a queue's position copies (R446): `mis` says that they differ. An armed injection shows its expected
syndrome on equal copies; any difference is a real mismatch and stops the queue. -/
def Work.qCheck (w : Work) (q : Nat) (mis : Bool) : Work :=
  let pg := pgEQ q
  let w := w.when (w.armedFor pg 0) fun w => w.injDone pg (!mis)
  w.when (mis && !w.qStopped q) fun w => (w.wr pg EQ_QSTAT_STOPPED 1).flt pg .uc 16

/-- A packet that finds no room, or a stopped queue, is dropped (R443, R446). -/
def Work.qDrop (w : Work) (q : Nat) : Work :=
  (w.modQ q fun e => { e with lost := e.lost + 1, gap := true }).count (pgEQ q) EQ_LOST_COUNT

/-- Write a packet into queue `q`, with the GAP packet its earlier drops or a QRESET call for; where the two do not fit together
the packet is dropped (R442, R443, R446; DEDUCED, log entry 46). -/
def Work.qWrite (w : Work) (q : Nat) (d : List Word) : Work :=
  let pg := pgEQ q
  if w.qStopped q then w.qDrop q
  else
    let gap := if (w.q q).gap then w.gapPacket q (w.q q).lost else []
    if w.qLevel q + (d.length + gap.length) / 2 ≤ w.qCap q then
      let w := w.when (w.q q).gap fun w => (w.qAppend q gap).modQ q fun e => { e with lost := 0, gap := false }
      (w.qAppend q d).qShow q
    else ((w.qDrop q).wr pg EQ_QSTAT_FULL 1).flt pg .ce 17

/-- QRESET (R446): the queue is emptied, its positions become 0, and a GAP packet will come first afterwards. -/
def Work.qReset (w : Work) (q : Nat) : Work :=
  let pg := pgEQ q
  let w := w.modQ q fun e => { e with pkts := [], ovf := 0, gap := true }
  let w := w.each [EQ_WR, EQ_RD, EQ_REL, EQ_MARK, EQ_QSTAT_MARK_VALID, EQ_QSTAT_STOPPED] fun w f => w.wr pg f 0
  (w.qShow q).count pg EQ_QRESET_COUNT

/-- REL moves to `p`: the packets before it are free, and a mark it passes is lost (R444, R445). -/
def Work.qReleaseTo (w : Work) (q p : Nat) : Work :=
  let pg := pgEQ q
  let old := w.rd pg EQ_REL
  let wr := w.rd pg EQ_WR
  let lost := w.on pg EQ_QSTAT_MARK_VALID && decide (posSub (w.rd pg EQ_MARK) old < posSub p old)
  let w := w.when lost fun w => w.wr pg EQ_QSTAT_MARK_LOST 1
  let w := w.modQ q fun e => { e with
    pkts := e.pkts.filter fun k => decide (posSub wr k.1 ≤ posSub wr p) && k.1 != wr
    ovf := if posSub wr p < posSub wr e.ovf then p else e.ovf }
  (w.wr pg EQ_REL p).qShow q

/-- NEXT (R444). -/
def Work.qNext (w : Work) (q : Nat) : Work :=
  let pg := pgEQ q
  match w.qHead q with
  | [] => w.badval pg
  | d =>
    let rd := (w.rd pg EQ_RD + d.length / 2) % 2 ^ 32
    let w := w.wr pg EQ_RD rd
    if w.on pg EQ_QCFG_AUTOREL then w.qReleaseTo q rd else w.qShow q

/-- RELEASE (R444): refused when REL_TO lies before REL or after RD. -/
def Work.qRelease (w : Work) (q : Nat) : Work :=
  let pg := pgEQ q
  let p := w.rd pg EQ_REL_TO
  let rel := w.rd pg EQ_REL
  if posSub p rel ≤ posSub (w.rd pg EQ_RD) rel then w.qReleaseTo q p else w.badval pg

/-- MARK (R444). -/
def Work.qMark (w : Work) (q : Nat) : Work :=
  let pg := pgEQ q
  ((w.wr pg EQ_MARK (w.rd pg EQ_RD)).wr pg EQ_QSTAT_MARK_VALID 1).wr pg EQ_QSTAT_MARK_LOST 0

/-- REWIND (R445). -/
def Work.qRewind (w : Work) (q : Nat) : Work :=
  let pg := pgEQ q
  if w.on pg EQ_QSTAT_MARK_VALID && !w.on pg EQ_QSTAT_MARK_LOST then (w.wr pg EQ_RD (w.rd pg EQ_MARK)).qShow q
  else w.wr pg EQ_QSTAT_REWIND_FAIL 1

/-- Queues that hold an unread packet (R448). -/
def Work.qPend (w : Work) : List Nat := (upto 8).filter fun q => !w.qEmpty q && !w.qStopped q

/-- HOST.EQ_PEND (R448). -/
def Work.eqPend (w : Work) : Word :=
  let l := w.qPend
  w32 ((l.map fun q => 2 ^ q).sum + l.headD 0 * 2 ^ 16 + b2n (!l.isEmpty) * 2 ^ 19)

/-! ### Commands -/

/-- A write of queue `q`'s command register, which the command `c` stands for. -/
def Work.qCmd (w : Work) (c : Instr) (q : Nat) (f : Work → Work) : Work := w.hostAct c (pgEQ q + EQ_QCMD_NEXT.at 0) f

/-- EVENT_POST (R441): an event that has taken effect reaches the posting engine, which writes it into every enabled queue
whose mask selects its class, lower queues first. -/
def execEventPost (e : Event) (mis : List (Fin 8)) (s : State) : Host.Outcome State Fault Refusal :=
  nextDev s fun w =>
    if w.events.contains e then
      let w := w.setEvents (w.events.erase e)
      (upto 8).foldl (fun w q =>
        if w.on (pgEQ q) EQ_QCFG_EN && bitOf (w.rd (pgEQ q) EQ_QCFG_CLASSMASK) e.cls && e.cls != 0 && decide (e.cls < 15)
        then (w.qCheck q (mis.any fun m => m.val == q)).qWrite q (w.packet e) else w) w
    else w

/-- OVF_MOVE (R443): the head packet of the overflow partition moves on-chip if the ring has room. -/
def execOvfMove (q : Fin 8) (mis : Bool) (s : State) : Host.Outcome State Fault Refusal :=
  nextDev s fun w =>
    let w := w.qCheck q mis
    if w.qStopped q then w
    else match (w.q q).pkts.find? fun p => p.1 == (w.q q).ovf with
      | some p =>
        let e := (p.1 + p.2.length / 2) % 2 ^ 32
        if posSub e (w.rd (pgEQ q) EQ_REL) ≤ 2048 then w.modQ q fun k => { k with ovf := e } else w
      | none => w

/-- EQ_NEXT (R444). -/
def execEqNext (q : Fin 8) (mis : Bool) (s : State) : Host.Outcome State Fault Refusal :=
  nextDev s fun w => w.qCmd (.eqNext q mis) q fun w => (w.qCheck q mis).qNext q

/-- EQ_RELEASE (R444). -/
def execEqRelease (q : Fin 8) (mis : Bool) (s : State) : Host.Outcome State Fault Refusal :=
  nextDev s fun w => w.qCmd (.eqRelease q mis) q fun w => (w.qCheck q mis).qRelease q

/-- EQ_MARK (R444). -/
def execEqMark (q : Fin 8) (mis : Bool) (s : State) : Host.Outcome State Fault Refusal :=
  nextDev s fun w => w.qCmd (.eqMark q mis) q fun w => (w.qCheck q mis).qMark q

/-- EQ_REWIND (R445). -/
def execEqRewind (q : Fin 8) (mis : Bool) (s : State) : Host.Outcome State Fault Refusal :=
  nextDev s fun w => w.qCmd (.eqRewind q mis) q fun w => (w.qCheck q mis).qRewind q

/-- EQ_QRESET (R446). -/
def execEqQreset (q : Fin 8) (s : State) : Host.Outcome State Fault Refusal :=
  nextDev s fun w => w.qCmd (.eqQreset q) q fun w => w.qReset q

/-- PEAK becomes LEVEL (R444). -/
def Work.qPeakRst (w : Work) (q : Nat) : Work := w.wr (pgEQ q) EQ_PEAK (w.qLevel q)

/-- EQ_PEAK_RST (R444, R446). -/
def execEqPeakRst (q : Fin 8) (s : State) : Host.Outcome State Fault Refusal :=
  nextDev s fun w => w.qCmd (.eqPeakRst q) q fun w => (w.qCheck q false).qPeakRst q

/-- A write of EQq.POST (R441): a HOST packet into that queue alone. -/
def Work.qPost (w : Work) (q : Nat) (v : Word) : Work :=
  if w.on (pgEQ q) EQ_QCFG_EN then w.qWrite q (w.packet ⟨0x0E, pgEQ q / 0x1000, [v]⟩) else w

/-- EQ_POST (R440, R441). -/
def execEqPost (q : Fin 8) (v : Word) (mis : Bool) (s : State) : Host.Outcome State Fault Refusal :=
  nextDev s fun w => w.hostAct (.eqPost q v mis) (pgEQ q + EQ_POST.at 0) fun w => (w.qCheck q mis).qPost q v

end Sys2Proof.Machine
end

