-- ==== Sys2Proof/Machine/Sets.lean ====
section
/-! DEFINITION. The configuration sets and the swap (R66 to R80, R516): the exchange and the copy of sets, the pre-swap
checks, the decision, and the configuration CRC. -/

namespace Sys2Proof.Machine

/-! ### The sets -/

/-- Offset `a` lies in region `n`'s window. -/
def inRegion (n a : Nat) : Bool := decide (rgBase n ≤ a) && decide (a < rgBase n + 0x400000)

/-- Offset `a` lies outside the region windows. -/
def inPackage (a : Nat) : Bool := decide (a < 0x1000000)

/-- Exchange the RWS bits of the dwords that satisfy `p` between the sets (R68). -/
def Work.exchange (w : Work) (p : Nat → Bool) : Work :=
  let keys := ((w.regs.map Prod.fst) ++ (w.shadow.map Prod.fst)).eraseDups.filter fun a => p a && rwsMask a != 0
  w.each keys fun w a =>
    let m := rwsMask a
    let r := w.word a
    let s := w.shWord a
    (w.put a ((r &&& ~~~m) ||| (s &&& m))).shPut a ((s &&& ~~~m) ||| (r &&& m))

/-- The shadow set as if it were active, for the checks of R72. -/
def Work.preview (w : Work) : Work := w.exchange fun _ => true

/-- Offset `a` lies in a page with RWS fields. -/
def shadowPage (a : Nat) : Bool :=
  match pageOf a with
  | some (k, _) => k.hasShadow
  | none => false

/-- SHADOW_DIRTY clears in the pages that satisfy `p` (R60). -/
def Work.cleanPages (w : Work) (p : Nat → Bool) : Work :=
  w.each ((w.regs.map Prod.fst).filter fun a => a % 0x1000 == 0xC && shadowPage a && p a) fun w a => w.wr (a - 0xC) HDR_STAT_SHADOW_DIRTY 0

/-- The set copy ends (R69). -/
def Work.copySets (w : Work) : Work :=
  let keys := ((w.regs.map Prod.fst) ++ (w.shadow.map Prod.fst)).eraseDups.filter fun a => rwsMask a != 0
  w.each keys fun w a => w.shPut a ((w.shWord a &&& ~~~(rwsMask a)) ||| (w.word a &&& rwsMask a))

/-! ### Images (R485, R516) -/

/-- The records of an image (R485). -/
def imgRecords (bs : List Byte) : List (Nat × Word) × Bool :=
  let stop := if leAt bs 0x18 = 0 then leAt bs 8 else leAt bs 0x14
  let body := bytesWords ((bs.take stop).drop 0x20)
  recordsOf body.length body

/-- The kept image of R516. -/
def Work.keptImage (w : Work) : List Byte :=
  match w.kin.kept with
  | some k => w.dramBytes (blockAt k) (min (leAt (w.dramBytes (blockAt k) 16) 8) 4194304)
  | none => []

/-- The shadow set with the share of each marked region taken from the kept image's records (R516). -/
def Work.withKept (w : Work) : Work :=
  let mine (a : Nat) : Bool := (upto 4).any fun n => w.marked n && inRegion n a
  if w.ember.marks = 0 then w
  else
    let w := w.dropShadow mine
    w.each (imgRecords w.keptImage).1 fun w e => match shadowOf e.1 with
      | some (a, _) => if mine a then (w.rwsStore a e.2 Work.shBits).1 else w
      | none => w

/-! ### The configuration CRC (R76) -/

/-- The pages of BAR0 in ascending order (R53, R54). -/
def pages : List Nat :=
  (upto 0x16).map (fun k => 0x1000 * k) ++ [pgHRT, pgHRT1, pgHRT2] ++ (upto 16).map pgAD ++ (upto 64).map pgWC ++ [pgEMB] ++
  (upto 4).flatMap fun n => [pgRG n, pgABC n] ++ (upto 4).map (pgSP n) ++ (clustersOf n).map pgCLU ++ (clustersOf n).map pgCLANE ++
    (upto 48).map fun i => pgUNIT (48 * n + i)

/-- The CRC of R76 of the set whose dwords `g` reads at their active offsets. -/
def setCrc (g : Nat → Word) : Nat :=
  let bytes (a : Nat) := wordBytes (g a &&& rwsMask a)
  let page (pg : Nat) := ((upto 0x1F0).map fun j => pg + 0x40 + 4 * j).filter fun a => rwsMask a != 0
  crc32 ((pages.flatMap page).flatMap bytes ++ ((upto 2048).map fun j => 0x80000 + 4 * j).flatMap bytes ++
    (upto 4).flatMap fun n => ((upto 16384).map fun j => rgBase n + 0x10000 + 4 * j).flatMap bytes)

/-- The CRC over the shadow set (R72, R516). -/
def Work.shadowCrc (w : Work) : Nat := setCrc w.withKept.shWord

/-- The CRC over the active set (R77, R516). -/
def Work.activeCrc (w : Work) : Nat :=
  let k := w.withKept
  setCrc fun a => if (upto 4).any fun n => w.marked n && inRegion n a then k.shWord a else w.word a

/-! ### Sizes and bounds -/

/-- B_R of the active program, in ticks (R173). -/
def Work.bound (w : Work) (n : Nat) : Nat := (16 * w.rd (pgABC n) ABC_PROG + 4) / 5

/-- PERIOD − T_IN − T_OUT in ticks. -/
def Work.reckonTicks (w : Work) (n : Nat) : Int :=
  (w.rd (pgRG n) RG_CYC_PERIOD : Int) - w.rd (pgRG n) RG_CYC_DL_T_IN - w.rd (pgRG n) RG_CYC_DL_T_OUT

/-- The sections of the active program. -/
def Work.program (w : Work) (n : Nat) : List (Nat × Sec) := (upto (w.rd (pgABC n) ABC_PROG)).map fun s => (s, w.sect n s)

/-- The state words of the TK sections (R183, R416). -/
def Work.tkWords (w : Work) (n : Nat) : List Nat :=
  (w.program n).flatMap fun e => if e.2.tk then (upto e.2.states).map fun j => e.2.state + j else []

/-- The units of cluster `c`'s page that an image covers (R416). -/
def Work.unitsKept (w : Work) (c : Nat) : List Nat :=
  (unitsOf c).filter fun u => (w.unitLeg u).isSome && w.on (pgUNIT u) UNIT_MODE_EN

/-- C_n: the image size of region `n` in bytes (R416, R204). -/
def Work.copyBytes (w : Work) (n : Nat) : Nat :=
  (if n = 0 then 128 else 0) + (if w.on (pgRG n) RG_CYC_CTL then 64 else 0) +
  ((clustersOf n).filter fun c => w.topo c != 0).length * 32 +
  ((clustersOf n).flatMap w.unitsKept).length * 80 + (w.tkWords n).length * 4 +
  ((upto 64).filter fun q => w.chOn n q).length * 12 + ((upto 64).filter fun m => w.lpOn n m).length * 4

/-- The bandwidth share of the twin copy, in per mille of 5.625 bytes a tick, rounded up (R417). -/
def Work.copyLoad (w : Work) : Nat :=
  let l := (upto 4).filter fun n => w.on (pgRG n) RG_CYC_CTL
  let q : Rat := (l.map fun n => (w.copyBytes n : Rat) / w.rd (pgRG n) RG_CYC_PERIOD).sum
  min (q * 1000 / (45 / 8)).ceil.toNat 0xFFFF

/-! ### The pre-swap checks (R72), made on the set that is to become active -/

/-- The loop rules of R203. -/
def Work.loopsOk (w : Work) (n : Nat) : Bool :=
  let l := w.program n
  let loops := (upto 64).filter (w.lpOn n)
  let mas := l.filter fun e => e.2.ma
  let fed (s : Nat) := mas.filter fun e => selKind e.2.selA == 1 && selIdx e.2.selA == s
  mas.all (fun e => (loops.filter fun m => w.lpRd n m SP_LP_LCFG_SECTION == e.1).length == 1) &&
  loops.all (fun m => (mas.any fun e => e.1 == w.lpRd n m SP_LP_LCFG_SECTION) && w.lpRd n m SP_LP_LMANRATE != 0) &&
  (l.filter fun e => e.2.pre).all fun e => e.2.ma || match fed e.1 with
    | [(_, m)] => !m.pre && m.gA == 2 ^ 28 && selKind m.selB == 0 && m.shift == 0 && ((m.opc == 1 && m.b0 == 0) || m.opc == 4)
    | _ => false

/-- Check 2: region `n`'s program is valid (R188). -/
def Work.programOk (w : Work) (n : Nat) : Bool :=
  let l := w.program n
  let words : List Nat := l.flatMap fun e => (upto e.2.states).map fun j => e.2.state + j
  let outs : List Nat := (l.filter fun e => e.2.oen).map fun e => e.2.oslot
  let own (c : Sec) : Bool := (c.opc == 6 || c.sub == 0) && (c.opc == 0 || (c.aw == 0 && !c.pre)) && (c.opc != 4 || c.limen) &&
    (c.opc == 3 || c.opc == 5 || c.opc == 7 || c.aux == 0) && (!c.limen || decide (c.lo ≤ c.hi))
  decide (w.rd (pgABC n) ABC_PROG ≤ 1024) && l.all (fun e => e.2.defined e.1 && own e.2) && decide words.Nodup && decide outs.Nodup &&
    w.loopsOk n && decide ((w.bound n : Int) ≤ w.reckonTicks n)

/-- Check 3: region `n`'s timing (R37, R259, R261). -/
def Work.timingOk (w : Work) (n : Nat) : Bool :=
  let per := w.rd (pgRG n) RG_CYC_PERIOD
  let tin : Int := w.rd (pgRG n) RG_CYC_DL_T_IN
  decide (400 ≤ w.reckonTicks n) && decide (w.rd (pgRG n) RG_CYC_OFS < per) &&
  ((clustersOf n).filter fun c => w.on (pgCLU c) CLU_SPLAN_EN).all (fun c =>
    let ofs := w.rdS (pgCLU c) CLU_SPLAN_OFS
    decide ((if w.on (pgCLU c) CLU_SPLAN_TRACK then 0 else 1 - (per : Int)) ≤ ofs ∧ ofs < tin)) &&
  ((upto 64).filter fun k => w.on (pgRG n) RG_APLAN_EN k).all fun k =>
    decide (1 - (per : Int) ≤ w.rdS (pgRG n) RG_APLAN_OFS k ∧ w.rdS (pgRG n) RG_APLAN_OFS k < tin)

/-- Check 4: the twin-copy budget (R417). -/
def Work.copyOk (w : Work) : Bool :=
  w.pairNo == 0 || (decide (w.copyLoad ≤ 1000) &&
    ((upto 4).filter fun n => w.on (pgRG n) RG_CYC_CTL).all fun n => decide (2 * (w.bound n : Int) + 120 ≤ w.reckonTicks n))

/-- Check 5: the first cluster whose topology breaks R22. -/
def Work.topologyBad (w : Work) : Option Nat :=
  (upto 48).find? fun c =>
    let en := w.on (pgCLANE c) CLANE_CTL_EN
    let tri := w.topo c == 3
    (tri != (w.topo (if c % 2 = 0 then c + 1 else c - 1) == 3)) || (en && !w.laneAllowed c) ||
      (if tri && c % 2 == 1 then en != w.on (pgCLU (c - 1)) CLU_CFG_PATH2 else w.topo c != 0 && !en)

/-- The DRAM partitions: page index, base and size in 64 KB units (R438, R452). -/
def Work.partitions (w : Work) : List (Nat × Nat × Nat) :=
  ((upto 8).map (fun q => (pgEQ q / 0x1000, w.rd (pgEQ q) EQ_OVF_BASE, w.rd (pgEQ q) EQ_OVF_SIZE)) ++
    [(pgREC / 0x1000, w.rd pgREC REC_RING_BASE, w.rd pgREC REC_RING_SIZE)]).filter fun p => p.2.2 != 0

/-- Check 6: the first partition that leaves the space or overlaps another. -/
def Work.dramBad (w : Work) : Option Nat :=
  let l := w.partitions
  (l.find? fun p => decide (0x700 < p.2.1 + p.2.2) || l.any fun r => r.1 != p.1 && decide (p.2.1 < r.2.1 + r.2.2) &&
    decide (r.2.1 < p.2.1 + p.2.2)).map Prod.fst

/-- The fields of a point-directory entry (R87). -/
def Work.pdir (w : Work) (l : Nat) : Nat × Nat × Nat × Nat × Nat × Nat :=
  let lo := (w.word (pdirAddr l 0)).toNat
  let hi := (w.word (pdirAddr l 1)).toNat
  (hi / 2 ^ 31, hi / 2 ^ 28 % 8, hi / 2 ^ 26 % 4, hi / 2 ^ 5 % 2048, lo / 2 ^ 24, lo % 1024)

/-- Check 7: the first entry that breaks R88. -/
def Work.pdirBad (w : Work) : Option Nat :=
  (upto 1024).find? fun l => match w.pdir l with
    | (en, kind, _, idx, _, _) => en == 1 && !(match kind with
      | 0 => decide (idx < 512)
      | 1 => true
      | 2 => decide (idx < 12)
      | 3 => decide (idx < 64)
      | _ => false)

/-- A region is under BIST or in reset and not marked (R72 check 10, R516). -/
def Work.regionBusy (w : Work) : Option Nat :=
  (upto 4).find? fun n => !w.marked n && (w.rgFenced n || w.bistRun n || bitOf w.kin.resets n)

/-- Checks 1 to 7 on the preview `v`: cause and detail of the first failure. -/
def Work.checksStatic (w v : Work) : Option (Nat × Nat) :=
  let rgs := upto 4
  if w.rd pgPKG PKG_SWAP_CRC_CALC != w.rd pgPKG PKG_SWAP_CRC then some (1, 0xFF)
  else match rgs.find? fun n => !v.programOk n with
  | some n => some (2, n)
  | none => match rgs.find? fun n => !v.timingOk n with
  | some n => some (3, n)
  | none => if !v.copyOk then some (4, 0xFF) else match v.topologyBad with
  | some c => some (5, c)
  | none => match v.dramBad with
  | some p => some (6, p % 256)
  | none => v.pdirBad.map fun l => (7, l % 256)

/-- The first resource that two enables claim (R81). -/
def Work.claimClash (w : Work) : Option Nat :=
  let l := w.claims.map Prod.fst
  l.find? fun r => decide (1 < l.count r)

/-- Checks 8 to 10 on the preview `v`. -/
def Work.checksLast (w v : Work) : Option (Nat × Nat) :=
  match (upto 48).find? fun c => w.cstate c != 0 &&
      (w.topo c != v.topo c || w.on (pgCLANE c) CLANE_CTL_EN != v.on (pgCLANE c) CLANE_CTL_EN) with
  | some c => some (8, c)
  | none =>
    match v.claimClash with
    | some r => some (9, (Config.claimRegion r).toNat)
    | none => w.regionBusy.map fun n => (10, n)

/-! ### Arming and refusing -/

/-- An event of class SWAP (R440). -/
def Work.swapEvent (w : Work) (done : Bool) : Work :=
  w.event 5 pgPKG [(if done then 0 else w.rd pgPKG PKG_SWAP_STAT_ERR_CAUSE) * 2 ^ 24 + w.rd pgPKG PKG_SWAP_STAT_RG_DONE * 2 ^ 12 + b2n done]

/-- Report to the originator of a SWAP packet (R471). -/
def Work.swapReport (w : Work) (code : Nat) (last : Bool) : Work :=
  match w.net.swapFrom with
  | some p => (w.netSend 0x14 p [w32 (code * 2 ^ 24 + 2 ^ 22 + w.pkgNo)]).when last fun w => w.modNet fun n => { n with swapFrom := none }
  | none => w

/-- The swap is refused (R72). -/
def Work.swapRefuse (w : Work) (cause info : Nat) : Work :=
  let w := w.each [PKG_SWAP_STAT_ARMED, PKG_SWAP_STAT_CHECKING] fun w f => w.wr pgPKG f 0
  let w := ((w.wr pgPKG PKG_SWAP_STAT_SWAP_ERR 1).wr pgPKG PKG_SWAP_STAT_ERR_CAUSE cause).wr pgPKG PKG_SWAP_STAT_ERR_INFO info
  ((w.count pgPKG PKG_SWAP_REFUSED).swapEvent false).swapReport cause true

/-- D as the swap registers hold it. -/
def Work.swapD (w : Work) : Int :=
  t16 ⟨w.rd pgPKG PKG_SWAP_TH * 2 ^ 32 + w.rd pgPKG PKG_SWAP_TL, w.rd pgPKG PKG_SWAP_TNS, 0⟩

/-- A swap may be armed (R78). -/
def Work.canArm (w : Work) : Bool := !w.on pgPKG PKG_SWAP_STAT_ARMED && !w.on pgPKG PKG_SWAP_STAT_PENDING

/-- ARM (R71, R78); BOUND_NEXT of an earlier ARM is no longer valid (R189). -/
def Work.swapArm (w : Work) : Work :=
  if w.canArm then
    let d := w.swapD
    let w := w.modSwap fun s => { s with d := if t16 w.now < d then some d else none }
    let w := w.each (upto 4) fun w n => w.wr (pgABC n) ABC_BOUND_NEXT_VALID 0
    ((w.wr pgPKG PKG_SWAP_STAT_RG_DONE 0).wr pgPKG PKG_SWAP_STAT_ARMED 1).wr pgPKG PKG_SWAP_STAT_CHECKING 1
  else w.badval pgPKG

/-- DISARM (R78). With nothing armed the spec states no effect: it is ignored and sets BADVAL as after D (DESIGN CHOICE, log
entry 58). -/
def Work.swapDisarm (w : Work) : Work :=
  if w.on pgPKG PKG_SWAP_STAT_ARMED then
    ((w.wr pgPKG PKG_SWAP_STAT_ARMED 0).wr pgPKG PKG_SWAP_STAT_CHECKING 0).modNet fun n => { n with swapFrom := none }
  else w.badval pgPKG

/-- SETCOPY (R69). -/
def Work.setcopy (w : Work) : Work :=
  if w.shadowFrozen then w.badval pgPKG else w.wr pgPKG PKG_SWAP_STAT_COPY_BUSY 1

/-- The set copy completes (R69). -/
def Work.setCopyEnd (w : Work) : Work :=
  if w.on pgPKG PKG_SWAP_STAT_COPY_BUSY then
    ((w.copySets.wr pgPKG PKG_SWAP_STAT_COPY_BUSY 0).wr pgPKG PKG_SWAP_STAT_COPY_DONE 1).cleanPages fun _ => true
  else w

/-- The outcome of the checks at their end (R71, R72): a refusal with its cause and item, or D and the report. -/
def Work.checksVerdict (w : Work) (r : Option (Nat × Nat)) : Work :=
  match r with
  | some (c, i) => w.swapRefuse c i
  | none => (w.modSwap fun s => { s with d := some (s.d.getD (t16 w.now + tick16)) }).swapReport 0 false

/-- The pre-swap checks complete (R71, R72, R173, R417). -/
def Work.checksEnd (w : Work) : Work :=
  if w.on pgPKG PKG_SWAP_STAT_CHECKING then
    let v := w.preview
    let w := (w.wr pgPKG PKG_SWAP_STAT_CHECKING 0).wr pgPKG PKG_SWAP_CRC_CALC w.shadowCrc
    let w := w.each (upto 4) fun w n => (w.wr (pgABC n) ABC_BOUND_NEXT_VALID 1).wr (pgABC n) ABC_BOUND_NEXT_TICKS (v.bound n)
    let w := w.wr pgTWIN TWIN_LOAD_NEXT v.copyLoad
    w.checksVerdict ((w.checksStatic v).or (w.checksLast v))
  else w

/-! ### The exchange -/

/-- The active sources of every cluster's cell, before an exchange (R375). -/
def Work.sourcesNow (w : Work) (cs : List Nat) : List (Nat × List (Nat × Nat)) :=
  (cs.filter fun c => w.owner c == c).map fun c => (c, w.activeSources c)

/-- The mode that the new set calls for, and the sources that it makes active (R358, R360, R375). -/
def Work.rescan (w : Work) (l : List (Nat × List (Nat × Nat))) : Work :=
  w.each (l.filter fun e => w.owner e.1 == e.1) fun w e =>
    if w.rd (pgCLU e.1) CLU_PSTAT_PMODE = w.pmodeOf e.1 then w.protRescan e.1 e.2 else w.pmodeUpdate e.1

/-- The lane a hub lane number names (R458). -/
def hubLane (l : Fin 12) : LaneId := if h : l.val < 8 then .sys ⟨l.val, h⟩ else .twin ⟨l.val - 8, by omega⟩

/-- The sets of every page and window outside the region windows are exchanged, and what follows from it in those pages
(R73, R280, R344, R368, R438, R446). -/
def Work.exchangePackage (w : Work) : Work :=
  let old := w
  let src := w.sourcesNow (upto 48)
  let w := (w.exchange inPackage).cleanPages inPackage
  let w := w.each (upto 64) fun w k =>
    if old.on (pgWC k) WC_WCFG_EN = w.on (pgWC k) WC_WCFG_EN then w
    else if w.on (pgWC k) WC_WCFG_EN then w.wcStart k else w.wcOff k
  let w := w.each (upto 8) fun w n =>
    w.when (w.on pgPKG PKG_CHOP_CFG_OPOL n != old.on pgPKG PKG_CHOP_CFG_OPOL n) fun w =>
      w.emit (.pin "CHOP" n (w.on pgPKG PKG_CHOP_STAT_ON n != w.on pgPKG PKG_CHOP_CFG_OPOL n))
  let w := w.chopEvalAll
  let w := w.each (upto 8) fun w q =>
    let cut := !w.on (pgEQ q) EQ_QCFG_EN || old.word (pgEQ q + EQ_OVF_BASE.off) != w.word (pgEQ q + EQ_OVF_BASE.off)
    w.when (old.on (pgEQ q) EQ_QCFG_EN && cut) fun w => w.qReset q
  let w := w.each (List.finRange 12) fun w l => w.laneEnable (hubLane l) (w.on pgSYSN SL_SLCTL_EN l.val)
  (w.rescan src).tripShow

/-- The recorder's ring, decimation or descriptors differ between the sets (R457). -/
def Work.recChanged (w : Work) : Bool :=
  ([REC_RCFG_DEC.off, REC_RING_BASE.off] ++ (upto 32).map REC_DESC_EN.at).any fun o => w.word (pgREC + o) != w.shWord (pgREC + o)

/-- The swap completes when the last region has exchanged (R73, R77). -/
def Work.swapFinish (w : Work) : Work :=
  if w.on pgPKG PKG_SWAP_STAT_PENDING ∧ w.rd pgPKG PKG_SWAP_STAT_RG_DONE = 0xF then
    (((w.wr pgPKG PKG_SWAP_STAT_PENDING 0).wr pgPKG PKG_SWAP_STAT_DONE 1).count pgPKG PKG_SWAP_COUNT).swapEvent true
  else w

/-- The enabled lanes of region `n` follow the set in force (R21, R280); those of a fenced region wait for its fence to fall. -/
def Work.lanesFollow (w : Work) (n : Nat) : Work :=
  if w.rgFenced n then w
  else w.each ((List.finRange 48).filter fun c => c.val / 12 == n) fun w c => (w.laneEnable (.cell c) (w.cellEn c.val)).laneShow c.val

/-- Region `n` exchanges its sets (R73, R195, R198, R236, R321, R361, R457). -/
def Work.exchangeRegion (w : Work) (n : Nat) : Work :=
  let old := w
  let src := w.sourcesNow (clustersOf n)
  let w := (w.exchange (inRegion n)).cleanPages (inRegion n)
  let w := w.lanesFollow n
  let w := w.each (upto 64) fun w q =>
    w.spSwap n q (old.chOn n q) (old.chRd n q SP_CH_CFG_TACC) (old.chRd n q SP_CH_CFG_TJERK) (old.lpOn n q)
  let w := w.each (upto 48) fun w i =>
    let u := 48 * n + i
    (w.restartPre u (old.rd (pgUNIT u) UNIT_PROF_ON_T_PRE) (old.rd (pgUNIT u) UNIT_PROF_OFF_T_PRE)).winShow u
  let w := w.each ((clustersOf n).filter fun c => w.owner c == c) fun w c =>
    w.when (w.role != 1 && w.laneUp c && w.configArg c c != old.configArg c c) fun w => w.sendConfig c
  let w := w.rescan src
  let w := w.when (w.rd pgREC REC_RCFG_RGCLK == n && w.recChanged) Work.recRestart
  (w.setBit pgPKG PKG_SWAP_STAT_RG_DONE n).swapFinish

/-- The swap is committed at D (R73, R516). -/
def Work.swapCommit (w : Work) : Work :=
  let w := (w.wr pgPKG PKG_SWAP_STAT_ARMED 0).wr pgPKG PKG_SWAP_STAT_PENDING 1
  let w := w.wr pgPKG PKG_SWAP_STAT_ACTIVE_ID (1 - w.rd pgPKG PKG_SWAP_STAT_ACTIVE_ID)
  let w := w.wr pgPKG PKG_ACTIVE_CRC (w.rd pgPKG PKG_SWAP_CRC)
  let w := w.swapReport 0x80 true
  let w := w.exchangePackage
  let w := w.each ((upto 4).filter w.marked) fun w n => w.setBit pgPKG PKG_SWAP_STAT_RG_DONE n
  let w := w.each ((upto 4).filter fun n => !w.marked n && !w.on (pgRG n) RG_CYC_CTL) Work.exchangeRegion
  w.swapFinish

/-- The decision at D (R72): refused with a cause and an item, or committed. -/
def Work.swapVerdict (w : Work) (r : Option (Nat × Nat)) : Work :=
  match r with
  | some (c, i) => w.swapRefuse c i
  | none => w.swapCommit

/-- D arrives (R71 to R73). -/
def Work.swapDecide (w : Work) : Work :=
  if w.on pgPKG PKG_SWAP_STAT_ARMED then
    if w.on pgPKG PKG_SWAP_STAT_CHECKING then w.swapRefuse 11 0xFF
    else w.swapVerdict (w.checksLast w.preview)
  else w

/-- A pass of the configuration CRC ends (R77, R390): `upset` says that the set has lost its value. The pass that D discards does
not end, and none runs while PENDING is 1. -/
def Work.crcPass (w : Work) (upset : Bool) : Work :=
  if !w.on pgPKG PKG_KSTAT_DONE || w.on pgPKG PKG_SWAP_STAT_PENDING then w
  else if upset || w.activeCrc != w.rd pgPKG PKG_ACTIVE_CRC then (w.flt pgHRT .uc 18).reactFixed 2 3 6 (pgHRT / 0x1000)
  else w

/-! ### Commands -/

/-- SETCOPY (R69). -/
def execSetcopy (s : State) : Host.Outcome State Fault Refusal :=
  nextDev s fun w => w.reach (pgPKG + PKG_SWAP_SETCOPY.at 0) Work.setcopy

/-- SET_COPY_DONE (R69). -/
def execSetCopyDone (s : State) : Host.Outcome State Fault Refusal := nextDev s Work.setCopyEnd

/-- SWAP_ARM (R71, R78). -/
def execSwapArm (s : State) : Host.Outcome State Fault Refusal :=
  nextDev s fun w => w.reach (pgPKG + PKG_SWAP_ARM.at 0) Work.swapArm

/-- SWAP_DISARM (R78). -/
def execSwapDisarm (s : State) : Host.Outcome State Fault Refusal :=
  nextDev s fun w => w.reach (pgPKG + PKG_SWAP_DISARM.at 0) Work.swapDisarm

/-- SWAP_CHECKS_COMPLETE (R72). -/
def execSwapChecksComplete (s : State) : Host.Outcome State Fault Refusal := nextDev s Work.checksEnd

/-- SWAP_DECISION (R71 to R73). -/
def execSwapDecision (s : State) : Host.Outcome State Fault Refusal := nextDev s Work.swapDecide

/-- CRC_PASS_COMPLETE (R77). -/
def execCrcPassComplete (upset : Bool) (s : State) : Host.Outcome State Fault Refusal := nextDev s fun w => w.crcPass upset

end Sys2Proof.Machine
end

