-- ==== Sys2Proof/Machine/Twin.lean ====
section
/-! DEFINITION. Twin packages (R412 to R436): the image of the twin-kept state, its copy and commit, readiness and health,
takeover, handover, and stepping down. -/

namespace Sys2Proof.Machine

/-! ### The image (R416)

The spec gives each object's bytes, not their layout: the layout here is the model's (DESIGN CHOICE). -/

/-- A dword of the image: how the active package reads it and how the standby takes it up. -/
structure Kept where
  get : Work → Word
  put : Work → Word → Work

/-- The bits `m` of the register dword at `a`. -/
def Kept.reg (a : Nat) (m : Word) : Kept := ⟨fun w => w.word a, fun w x => w.put a ((w.word a &&& ~~~m) ||| (x &&& m))⟩

/-- A register dword that the copy carries and the standby keeps its own of. -/
def Kept.shown (a : Nat) : Kept := Kept.reg a 0

/-- A dword with nothing in it. -/
def Kept.fill : Kept := ⟨fun _ => 0, fun w _ => w⟩

/-- A dword of unit `u`'s state. -/
def Kept.un (u : Nat) (get : LegUnit → Nat) (put : LegUnit → Nat → LegUnit) : Kept :=
  ⟨fun w => w32 (get (w.un u)), fun w x => w.modUn u fun k => put k x.toNat⟩

/-- A time before `ref` as an age of at most `lim`. -/
def ageOf (ref : Int) (t : Rat) (lim : Nat) : Nat := min (roundR ((ref : Rat) - t)).toNat lim

/-- Bits of a flag word. -/
def flagBits (l : List Bool) : Nat := (l.zipIdx.map fun e => if e.1 then 2 ^ e.2 else 0).sum

/-- The period given by its start's low 32 bits, as the copy carries it. -/
def near32 (ref : Int) (v : Nat) : Int := ref + toSigned 32 ((((v : Int) - ref) % (2 ^ 32 : Nat)).toNat)

/-- Unit `u`: triple, edge-scheduler flags, dead times, T_PRE values, trip counter, carrier, refresh count, command in force,
switch-off times, and trip times as ages in µs. `ref` is the start of the next edge interval to schedule. LATCH_COUNT counts
with each latch that is copied, since the 80 bytes leave no room for it. -/
def unitKeep (u : Nat) (ref : Int) : List Kept :=
  let pg := pgUNIT u
  let off (o : Option Rat) : Nat := match o with
    | some t => ageOf ref t 0xFFFF
    | none => 0xFFFF
  let offOf (v : Nat) : Option Rat := if v = 0xFFFF then none else some ((ref - v : Int) : Rat)
  [.un u (fun k => k.hd.per) fun k x => { k with hd := { k.hd with per := x } },
   .un u (fun k => k.hd.on) fun k x => { k with hd := { k.hd with on := x } },
   .un u (fun k => k.hd.duty) fun k x => { k with hd := { k.hd with duty := x } },
   ⟨fun (w : Work) =>
      let k := w.un u
      let p := k.pendOn
      w32 (flagBits [k.emit, k.fresh, k.cmd.isSome, (k.cmd.map Prod.fst).getD false, k.onHi, k.onLo, k.hdn, k.dt.sHL, k.dt.sLH,
          k.dropping, k.car.isSome, (k.car.map Span.trans).getD false, p.isSome, (p.map fun e => e.st == 1).getD false,
          w.on pg UNIT_TSTAT_LATCHED] + (min ((p.map fun e => e.due - ref).getD 0).toNat 0xFFFF) * 2 ^ 16),
    fun w x =>
      let b (i : Nat) := bitOf x.toNat i
      let leg := ((w.unitLeg u).map Prod.snd).getD 0
      let cfg := w.carCfg u
      let w := w.when (b 14 && !w.on pg UNIT_TSTAT_LATCHED) fun w => w.count pg UNIT_LATCH_COUNT
      (w.wr pg UNIT_TSTAT_LATCHED (b2n (b 14))).modUn u fun k => { k with
        emit := b 0, fresh := b 1, cmd := if b 2 then some (b 3, 0) else none, onHi := b 4, onLo := b 5, hdn := b 6
        dt := { k.dt with sHL := b 7, sLH := b 8 }, dropping := b 9
        car := if b 10 then some ⟨0, 1, cfg, b 11, cfg.acts⟩ else none
        chg := none, minEnd := none, refr := [], dtq := []
        pendOn := if b 12 then some ⟨false, leg, if b 13 then 1 else 2, false, false, false, ref + (x.toNat / 2 ^ 16 : Nat)⟩ else none }⟩,
   .un u (fun k => k.dt.hl * 2 ^ 16 + k.dt.lh) fun k x => { k with dt := { k.dt with hl := x / 2 ^ 16, lh := x % 2 ^ 16 } },
   .un u (fun k => k.dt.on * 2 ^ 16 + k.dt.off) fun k x => { k with dt := { k.dt with on := x / 2 ^ 16, off := x % 2 ^ 16 } },
   .reg (pg + UNIT_TRIP_COUNT.off) 0xFFFFFFFF#32,
   .un u (fun k => ((k.car.map fun p => (roundR p.ts % (2 ^ 32 : Nat)).toNat)).getD 0) fun k x =>
     { k with car := k.car.map fun p => { p with ts := (near32 ref x : Int) } },
   .un u (fun k => ((k.car.map fun p => (roundR p.len).toNat)).getD 0) fun k x =>
     { k with car := k.car.map fun p => { p with len := max x 1 } },
   .un u (fun k => min k.refrN 0xFFFF * 2 ^ 16 + ageOf ref k.refrStart (0xFFFF * 16000) / 16000) fun k x =>
     { k with refrN := x / 2 ^ 16, refrStart := (ref - (x % 2 ^ 16 * 16000 : Nat) : Int) },
   .un u (fun k => ((k.cmd.map fun c => ageOf ref c.2 (2 ^ 32 - 1))).getD 0) fun k x =>
     { k with cmd := k.cmd.map fun c => (c.1, ((ref - x : Int) : Rat)) },
   .un u (fun k => off k.offHi * 2 ^ 16 + off k.offLo) fun k x => { k with offHi := offOf (x / 2 ^ 16), offLo := offOf (x % 2 ^ 16) }] ++
  (upto 8).map fun i =>
    let age (k : LegUnit) (j : Nat) : Nat := ((k.trips[j]?).map fun t => ageOf ref t (0xFFFE * 16000) / 16000).getD 0xFFFF
    let trip (v : Nat) : List Int := if v = 0xFFFF then [] else [ref - (v * 16000 : Nat)]
    .un u (fun k => age k (2 * i) * 2 ^ 16 + age k (2 * i + 1)) fun k x =>
      { k with trips := (if i = 0 then [] else k.trips) ++ trip (x / 2 ^ 16) ++ trip (x % 2 ^ 16) }

/-- Cluster `c`: state, pending command and causes of CSTAT, protection latch, time of the state, RECOV count and last
TRIP_ID, lane CSEQ, and trip counts (R374). LANE_UP, BYPASSED and PATH2_DOWN are the package's own, and so are its refusals. -/
def cluKeep (c : Nat) : List Kept :=
  let pg := pgCLU c
  [.reg (pg + CLU_CSTAT_STATE.off) 0xC0F0F007#32, .reg (pg + CLU_PSTAT_FLATCH.off) 0xF0FF0000#32,
   .reg (pg + CLU_STATE_T_NS.off) 0xFFFFFFFF#32, .reg (pg + CLU_STATE_T_S.off) 0xFFFFFFFF#32,
   ⟨fun w =>
      let k := w.cl c
      w32 (b2n k.safePend * 2 ^ 31 + b2n k.bypTimer * 2 ^ 30 + b2n k.tripId.isSome * 2 ^ 28 + k.tripId.getD 0 % 256 * 2 ^ 20 +
        k.recovLeft % 2 ^ 20),
    fun w x => w.modCl c fun k => { k with
      safePend := bitOf x.toNat 31, bypTimer := bitOf x.toNat 30, pcTimer := w.cstate c == 1
      tripId := if bitOf x.toNat 28 then some (x.toNat / 2 ^ 20 % 256) else none, recovLeft := x.toNat % 2 ^ 20 }⟩,
   ⟨fun w => w32 (w.ln c).cseq, fun w x => (w.wr (pgCLANE c) CLANE_CE_STAT_CSEQ x.toNat).modLn c fun l => { l with cseq := x.toNat % 16 }⟩,
   .reg (pg + CLU_TRIP_COUNT.off) 0xFFFFFFFF#32, .reg (pg + CLU_FLATCH_COUNT.off) 0xFFFFFFFF#32]

/-- The active cells of census group `g` of region `n`, which the cluster states reproduce. -/
def Work.censusMask (w : Work) (n g : Nat) : Nat :=
  ((upto 12).filter fun i => w.rd (pgCLU (12 * n + i)) CLU_CENS_CGRP == g && w.cstate (12 * n + i) == 3).foldl (fun m i => m + 2 ^ i) 0

/-- Channel `q`: its output, its clamped target and its flags; the standby writes the target into TGT (R204, R205). -/
def chKeep (n q : Nat) : List Kept :=
  let pg := pgSP n (q / 16)
  let i := q % 16
  [.reg (pg + SP_CH_OUT.at i) 0xFFFFFFFF#32,
   ⟨fun w =>
      let s (f : Field) := toSigned 32 (w.chRd n q f)
      BitVec.ofInt 32 (min (max (toSigned 32 (w.chLive n q SP_CH_TGT)) (s SP_CH_LIMLO)) (s SP_CH_LIMHI)),
    fun w x => w.chWr n q SP_CH_TGT x.toNat⟩,
   .reg (pg + SP_CH_STAT_FB.at i) 0xFFFFFFFF#32]

/-- Loop entry `m`: its mode and flags; the standby writes the mode and the manual register into LMODE and LMAN (R205). -/
def lpKeep (n m : Nat) : List Kept :=
  let pg := pgSP n (m / 16)
  let i := m % 16
  [⟨fun w => w.word (pg + SP_LP_LSTAT_MODE.at i),
    fun w x =>
      let auto := bitOf x.toNat 31
      let w := (w.put (pg + SP_LP_LSTAT_MODE.at i) x).lpWr n m SP_LP_LMODE (b2n auto)
      let w := w.lpWr n m SP_LP_LMAN (w.word (stateWordAddr n (w.sect n (w.lpRd n m SP_LP_LCFG_SECTION)).manual)).toNat
      w.modLp n m fun l => { l with auto := auto, req := none, modeW := false, manW := false }⟩]

/-- The image of region `n` (R416): the package's own bytes count in region 0. `ref` as in `unitKeep`. -/
def Work.keeps (w : Work) (n : Nat) (ref : Int) : List Kept :=
  (if n = 0 then ((pgTWIN + TWIN_EPOCH.off) :: (upto 31).map fun i => pgPKG + 0x200 + 4 * i).map .shown else []) ++
  (if w.on (pgRG n) RG_CYC_CTL then
    [.reg (pgRG n + RG_CYC_COUNT.off) 0xFFFFFFFF#32, .reg (pgABC n + ABC_RSTAT_OVR_RUN.off) 0x00F00000#32] ++
    ((upto 6).map fun i => .shown (pgRG n + 0x200 + 4 * i)) ++
    ((upto 4).map fun g => ⟨fun w => w32 (w.censusMask n g), fun w _ => w⟩) ++ List.replicate 4 .fill else []) ++
  (((clustersOf n).filter fun c => w.topo c != 0).flatMap cluKeep) ++
  (((clustersOf n).flatMap w.unitsKept).flatMap fun u => unitKeep u ref) ++
  ((w.tkWords n).map fun x => .reg (stateWordAddr n x) 0xFFFFFFFF#32) ++
  (((upto 64).filter fun q => w.chOn n q).flatMap (chKeep n)) ++ (((upto 64).filter fun m => w.lpOn n m).flatMap (lpKeep n))

/-! ### Readiness and health (R421 to R424) -/

/-- Regions with CYC_EN = 1. -/
def Work.cycRegions (w : Work) : List Nat := (upto 4).filter fun n => w.on (pgRG n) RG_CYC_CTL

/-- Every region with CYC_EN = 1 is in the mask. -/
def Work.covers (w : Work) (mask : Nat) : Bool := w.cycRegions.all (bitOf mask)

/-- This package's own HEALTH fields (R423): READY holds the regions running as active on an active package. With no lane in
UP the spec states no least FOM: a free value. -/
def Work.ownHealth (w : Work) : Work × List Word :=
  let ready := if w.role = 1 then w.readyMask else rgMask fun n => (w.rg n).run && !(w.rg n).standby
  let verdict (v n : Nat) := w.rd pgBIST BIST_RGRES_VERDICT n == v
  let ups := w.upLanes
  let fom (c : Nat) := w.rd (pgCLANE c) CLANE_LSTAT_FOM
  let q := if ups.isEmpty then w.freshWord else (w, 0)
  let best := match ups with
    | [] => q.2.toNat % 2 ^ 14
    | c :: r => let m := r.foldl (fun m d => if fom d < fom m then d else m) c; fom m * 2 ^ 6 + m
  let run := (w.cycRegions.filter fun n => (w.rg n).run).map fun n => (w.twinRg n).commitRun
  let pk := collAt .package
  (q.1,
   [w32 (ready * 2 ^ 28 + rgMask (verdict 1) * 2 ^ 24 + rgMask (verdict 2) * 2 ^ 20 + rgMask w.marked * 2 ^ 16 +
      best / 2 ^ 6 * 2 ^ 8 + best % 2 ^ 6),
    w32 (w.rd pgTHERM THERM_TSTAT_TMAX * 2 ^ 24 + w.rd pgPKG PKG_DAMP_STAT_LEVEL * 2 ^ 21 + w.rd pgHRT HRT_HSTAT_LEVEL * 2 ^ 18 +
      w.rd pk COL_FSUM_UC * 2 ^ 17 + w.rd pk COL_FSUM_CE * 2 ^ 16 + ups.length * 2 ^ 10),
    w32 (min (run.foldl min 0xFFFF) (if run.isEmpty then 0 else 0xFFFF) * 2 ^ 16 + min (w.rd pgTWIN TWIN_COPY_MISS) 0xFFFF)])

/-! ### The copy (R418, R419) -/

/-- COPY_LAST of region `n`. -/
def Work.copyLast (w : Work) (n cyc : Nat) : Work :=
  let a := pgTWIN + TWIN_COPY_LAST.off
  let m : Word := 0xFF#32 <<< (8 * n)
  w.put a ((w.word a &&& ~~~m) ||| (w32 (cyc % 256) <<< (8 * n)))

/-- The active region sends the image it has just sealed at boundary `b`; the image of a boundary at which the link is not
up is abandoned at the next (R418, R419). -/
def Work.twinSeal (w : Work) (n : Nat) (b : Int) : Work :=
  let w := w.when (w.twinRg n).unsent fun w => (w.count pgTWIN TWIN_COPY_MISS).modTwinRg n fun t => { t with unsent := false, commitRun := 0 }
  if w.on pgTWIN TWIN_TSTAT_LINK_UP then
    let ws := (w.keeps n (w.nextAfter n b)).map fun k => k.get w
    let cyc := w.rd (pgRG n) RG_CYC_COUNT
    let parts := (upto ((ws.length + 255) / 256)).map fun i => (1024 * i, (ws.drop (256 * i)).take 256)
    let w := w.each parts fun w p => w.twinSend 2 n cyc p.1 p.2
    let w := w.twinSend 3 n cyc 0 [w32 (4 * ws.length), w32 (crc32 (ws.flatMap beBytes)), w.word (pgPKG + PKG_ACTIVE_CRC.off)]
    ((w.count pgTWIN TWIN_COPY_CNT).copyLast n cyc).modTwinRg n fun t => { t with commitRun := t.commitRun + 1 }
  else w.modTwinRg n fun t => { t with unsent := true }

/-- The registers that the standby writes from an image: the targets of the enabled channels, the modes and manual values of
the enabled loops (R205). -/
def Work.liveKept (w : Work) (n : Nat) : List Nat :=
  (((upto 64).filter fun q => w.chOn n q).map fun q => pgSP n (q / 16) + SP_CH_TGT.at (q % 16)) ++
    ((upto 64).filter fun m => w.lpOn n m).flatMap fun m =>
      [pgSP n (m / 16) + SP_LP_LMODE.at (m % 16), pgSP n (m / 16) + SP_LP_LMAN.at (m % 16)]

/-- The standby takes up an image, dword by dword; WIN_CNT follows the trips copied (R374). -/
def Work.takeImage (w : Work) (n : Nat) (ref : Int) (img : ImgIn) : Work :=
  let ks := w.keeps n ref
  let w := w.each ks.zipIdx fun w k => match img.words.find? fun e => e.1 == 4 * k.2 with
    | some e => k.1.put w e.2
    | none => w
  let w := w.each ((clustersOf n).flatMap w.unitsKept) Work.winShow
  w.modTwinRg n fun t => { t with live := (w.liveKept n).map fun a => (a, w.word a) }

/-- Step 1 of boundary `b` on a standby region: the image that has arrived is committed, or missed (R418, R419). -/
def Work.twinCommit (w : Work) (n : Nat) (b : Int) : Work :=
  let t := w.twinRg n
  let good := t.img.filter fun i => i.verdict == some true && (t.resync || i.cyc == (t.last + 1) % 2 ^ 32)
  match good with
  | some i =>
    let w := (w.takeImage n b i).modTwinRg n fun t => { t with
      img := none, last := i.cyc, resync := false, missRun := 0, commitRun := t.commitRun + 1 }
    ((w.count pgTWIN TWIN_COPY_CNT).copyLast n i.cyc).clrBit pgTWIN TWIN_TSTAT_LOST n
  | none =>
    let w := (w.count pgTWIN TWIN_COPY_MISS).flt pgTWIN .ce 16
    let w := w.modTwinRg n fun t => { t with img := none, resync := true, missRun := t.missRun + 1, commitRun := 0 }
    if (w.twinRg n).missRun = 4 then (w.setBit pgTWIN TWIN_TSTAT_LOST n).flt pgTWIN .uc 17 else w

/-! ### Takeover (R425 to R429) -/

/-- A TAKE or HANDOVER is refused. -/
def Work.twinRefuse (w : Work) (cause : Nat) : Work := (w.wr pgTWIN TWIN_TSTAT_REFUSED 1).wr pgTWIN TWIN_TSTAT_REF_CAUSE cause

/-- The new epoch (R426). -/
def Work.nextEpoch (w : Work) : Nat :=
  1 + (w.upLanes.map fun c => w.rd (pgCLANE c) CLANE_CE_EPOCH).foldl max (max w.epoch (w.rd pgTWIN TWIN_TEPOCH))

/-- Region `n` runs cycles, or is about to. -/
def Work.cycling (w : Work) (n : Nat) : Bool := ((w.rg n).run || (w.rg n).startPend) && !w.rgFenced n

/-- a_n: the region's first boundary at least 0.5 µs from now (R427, R430). -/
def Work.nextActive (w : Work) (n : Nat) : Int :=
  let b := w.gridB n false (t16 w.now + 8000)
  match (w.rg n).nextB with
  | some x => if (w.rg n).startPend then max x b else b
  | none => b

/-- What waits on a lane is of the package's earlier duty: a takeover leaves nothing of it but the SAFE frames that the copied
state calls for (R321). -/
def Lane.takenOver (l : Lane) : Lane :=
  { l with cmds := [], cmdOut := none, p4 := l.p4.filter fun k => decide (2 ≤ k), timed := [], copy := none, mirror := [],
           safeOnce := none, against := 0 }

/-- A takeover is decided (R425 to R427); `ho` holds the epoch of an agreed handover. A region that runs no cycles is active
from the decision, and its first boundary takes up the rest of R205. -/
def Work.takeover (w : Work) (ho : Option Nat) : Work :=
  let e := match ho with
    | some e => max e w.nextEpoch
    | none => w.nextEpoch
  let w := w.each ((upto 4).filter w.bistRun) fun w n => w.bistAbort n false
  let w := w.each (upto 4) fun w n =>
    let live := w.cycling n
    let a := w.nextActive n
    let w := w.each (clustersOf n) fun w c => w.modLn c fun l => { l.takenOver with
      claimAt := if live then a + w.period16 n else t16 w.now }
    w.modRg n fun r => if live then { r with takeAt := some a, releaseAt := none, resume := ho.isNone }
      else { r with standby := false, takeAt := some (t16 w.now), releaseAt := none, resume := false }
  let w := w.modTwin fun t => { t with hoWait := none, ho := none }
  let w := w.when ho.isNone fun w => w.wr pgTWIN TWIN_TSTAT_HO_PEND 0
  let w := (w.wr pgTWIN TWIN_TSTAT_ARMED 0).wr pgTWIN TWIN_TSTAT_TOOK 1
  let w := ((w.setEpoch e).setRole 2).stamp pgTWIN TWIN_RC_T_NS TWIN_RC_T_S w.now
  let w := w.each ((upto 48).filter fun c => w.owner c == c && w.laneUp c && (ho.isSome || !(inService (w.cstate c)))) fun w c =>
    w.sendConfig c
  w.twinShow

/-- c_max of region `n` (R427): at most 2 catch-up cycles. -/
def Work.catchMax (w : Work) (n : Nat) : Nat :=
  let fits (c : Nat) : Bool := decide (((c + 1) * w.bound n + 120 * c : Nat) ≤ w.reckonTicks n)
  if fits 2 then 2 else if fits 1 then 1 else 0

/-- HO_PEND clears once every region has changed role (R430). -/
def Work.hoShow (w : Work) : Work :=
  if w.on pgTWIN TWIN_TSTAT_HO_PEND && w.twin.ho.isNone && (upto 4).all fun n =>
    ((w.rg n).takeAt.isNone || !(w.rg n).standby) && (w.rg n).releaseAt.isNone
  then w.wr pgTWIN TWIN_TSTAT_HO_PEND 0 else w

/-- A standby region becomes active after the commit of step 1 (R427): the cycles that it has missed are caught up, or make a
gap; `swap` says that its sets exchange at this boundary. -/
def Work.closeGap (w : Work) (n : Nat) (swap : Bool) : Work :=
  let missing := 1 + (w.twinRg n).missRun
  let c := if swap then 0 else min missing (w.catchMax n)
  let gap := missing - c
  let g := w.rd pgTWIN TWIN_GAPINFO_GAP
  let k := w.rd pgTWIN TWIN_GAPINFO_CATCH
  let w := w.wr pgTWIN TWIN_GAPINFO_GAP (g - g / 16 ^ n % 16 * 16 ^ n + min gap 15 * 16 ^ n)
  let w := w.wr pgTWIN TWIN_GAPINFO_CATCH (k - k / 4 ^ n % 4 * 4 ^ n + c * 4 ^ n)
  let w := w.when (gap != 0) fun w => (w.wr pgTWIN TWIN_TSTAT_GAP 1).flt pgTWIN .ce 23
  let w := w.modRg n fun r => { r with standby := false, catchUp := c }
  w.wr (pgRG n) RG_CYC_COUNT ((w.rd (pgRG n) RG_CYC_COUNT + missing) % 2 ^ 32)

/-- Offset `a` lies in a set-point page of region `n`. -/
def inSp (n a : Nat) : Bool := (upto 4).any fun p => a / 0x1000 * 0x1000 == pgSP n p

/-- The first boundary of region `n` as part of the new active package (R427, R205, R196): TGT, LMODE and LMAN are those of the
last image, no loop changes mode, and the channels start at rest at their copied outputs, in fall-back. -/
def Work.activate (w : Work) (n : Nat) (swap : Bool) : Work :=
  let w := if (w.rg n).standby then w.closeGap n swap else w
  let w := w.each ((w.twinRg n).live.filter fun e => inSp n e.1) fun w e => w.put e.1 e.2
  let w := w.modRg n fun r => { r with
    takeAt := none, lp := r.lp.map fun l => { l with req := none, modeW := false, manW := false } }
  let w := w.modTwinRg n fun t => { t with img := none, missRun := 0, commitRun := 0, gatherRun := 0, unsent := false, live := [] }
  let w := w.each ((upto 64).filter (w.chOn n)) fun w q => (w.spRest n q (toSigned 32 (w.chRd n q SP_CH_OUT))).chWr n q SP_CH_STAT_FB 1
  let w := w.each (upto 48) fun w i => w.modUn (48 * n + i) fun k => { k with prof := none, sent := [] }
  w.hoShow

/-- The old active region reaches a_n at `b`: it runs one cycle as RELEASING and is a standby region from then on (R430). -/
def Work.releasing (w : Work) (n : Nat) (b : Int) : Work :=
  match (w.rg n).releaseAt with
  | none => w
  | some a =>
    if b < a then w
    else if (w.rg n).standby then
      let w := w.each ((clustersOf n).filter fun c => w.owner c == c) fun w c => w.stopUnits c
      ((w.modRg n fun r => { r with releaseAt := none }).modTwinRg n fun t => { t with
        img := none, resync := true, missRun := 0, commitRun := 0, gatherRun := 0, unsent := false }).hoShow
    else w.modRg n fun r => { r with standby := true, reckon := false, catchUp := 0 }

/-- Resumption of the region's clusters after a takeover other than a handover, at the output deadline of cycle a_n, for
T_EFF `te` (R429 items 1 and 2). -/
def Work.resumeClusters (w : Work) (n : Nat) (te : Int) : Work :=
  let w := w.each ((clustersOf n).filter fun c => w.owner c == c && inService (w.cstate c)) fun w o =>
    let w := w.each (w.legs o) fun w p =>
      let u := p.2
      let k := w.un u
      let w := if k.emit then
          let word := w.profWord u k.dt
          let w := w.timed o (.prof p.1 te (BitVec.ofNat 64 word))
          (w.timed o (.edge u ⟨false, p.1, 0, false, false, false, te⟩)).modUn u fun k => { k with
            prof := some word, hist := (te, 0) :: k.hist }
        else w
      w.modUn u fun k => { k with emit := false, frozen := true, resume := none, cmd := none, pendOn := none, onHi := false, onLo := false }
    let cfg := w.configArg o o
    let w := w.modLn o fun l => Lane.nextCmd { l with
      cmdOut := none, cmds := ⟨6, 0⟩ :: ⟨7, cfg⟩ :: l.cmds.filter fun k => k.op != 7 }
    w.modCl o fun k => { k with resume := some none }
  w.modRg n fun r => { r with resume := false }

/-! ### ROLE_RX (R413, R425, R432) -/

/-- An edge on ROLE_RX, `since` ticks after the one before. -/
def Work.rxEdge (w : Work) (since : Nat) : Work :=
  let w := w.modTwin fun t => { t with rxPin := !t.rxPin, rxEdges := if since ≤ 480 then min (t.rxEdges + 1) 3 else 0 }
  if w.twin.rxEdges = 3 ∧ w.rd pgTWIN TWIN_TSTAT_RRX ≠ 2 then
    let w := w.wr pgTWIN TWIN_TSTAT_RRX 2
    (w.wr pgTWIN TWIN_TSTAT_ARMED 1).twinShow
  else w

/-- 480 ticks have passed without an edge: RRX follows the pin, and its leaving ACTIVE may decide a takeover. -/
def Work.rxTimeout (w : Work) : Work :=
  let was := w.rd pgTWIN TWIN_TSTAT_RRX
  let w := (w.wr pgTWIN TWIN_TSTAT_RRX (b2n w.twin.rxPin)).modTwin fun t => { t with rxEdges := 0 }
  let w := w.twinShow
  if was = 2 ∧ w.role = 1 ∧ w.on pgTWIN TWIN_TSTAT_ARMED ∧ w.on pgTWIN TWIN_TCFG_AUTO then w.takeover none else w

/-- TCMD.TAKE (R425). -/
def Work.take (w : Work) (force : Bool) : Work :=
  if w.role = 0 then w.twinRefuse 5
  else if w.role ≠ 1 then w.twinRefuse 2
  else if w.rd pgTWIN TWIN_TSTAT_RRX = 2 ∧ ¬ force then w.twinRefuse 1
  else w.takeover none

/-! ### Handover (R430) -/

/-- The refusal that HANDOVER meets. -/
def Work.hoRefusal (w : Work) : Option Nat :=
  if w.role = 0 then some 5
  else if w.role ≠ 2 then some 2
  else if w.on pgTWIN TWIN_TSTAT_HO_PEND || w.twin.hoWait.isSome then some 6
  else if !w.on pgTWIN TWIN_TSTAT_LINK_UP then some 4
  else if !w.covers (w.rd pgTWIN TWIN_TSTAT_TREADY) then some 3
  else none

/-- D_HO as dwords: nanoseconds and low seconds. -/
def hoWords (t : Time) : List Word := [w32 t.ns, w32 t.s]

/-- TCMD.HANDOVER. -/
def Work.handover (w : Work) : Work :=
  match w.hoRefusal with
  | some c => w.twinRefuse c
  | none =>
    let d := timeOf16 (t16 w.now + 16000000)
    (w.twinSend 5 0 0 0 (hoWords d ++ [w32 w.nextEpoch])).modTwin fun t => { t with hoWait := some d }

/-- HO_REQ: a READY standby agrees, any other declines. -/
def Work.hoReq (w : Work) (d : Time) (e : Nat) : Work :=
  if !w.on pgTWIN TWIN_TSTAT_LINK_UP then w
  else if w.role = 1 && w.covers w.readyMask && w.twin.ho.isNone then
    ((w.twinSend 6 0 0 0 (hoWords d)).wr pgTWIN TWIN_TSTAT_HO_PEND 1).modTwin fun t => { t with ho := some (d, e) }
  else w.twinSend 7 0 0 0 (hoWords d)

/-- The handover is refused by the twin, or not answered (R430). -/
def Work.hoFail (w : Work) : Work :=
  if w.twin.hoWait.isSome then ((w.modTwin fun t => { t with hoWait := none }).twinRefuse 3).flt pgTWIN .ce 24 else w

/-- D_HO arrives (R430). -/
def Work.hoNow (w : Work) : Work :=
  match w.twin.ho with
  | none => w
  | some (_, e) =>
    if w.role = 1 then w.takeover (some e)
    else if w.role = 2 then
      let w := w.modTwin fun t => { t with ho := none }
      let w := w.each (upto 4) fun w n =>
        let live := w.cycling n
        let a := w.nextActive n
        w.modRg n fun r => if live then { r with releaseAt := some a } else { r with standby := true }
      (((w.wr pgTWIN TWIN_TSTAT_HANDED 1).setRole 1).hoShow).twinShow
    else w.modTwin fun t => { t with ho := none }

/-! ### The link (R414, R423) -/

/-- The regions of a standby are resynchronising from here (R418). -/
def Work.resyncAll (w : Work) : Work :=
  w.each ((upto 4).filter fun n => (w.rg n).standby) fun w n => w.modTwinRg n fun t => { t with resync := true }

/-- HELLO from the twin (R412, R414, R432). -/
def Work.helloIn (w : Work) (pair pkg role crc e : Nat) : Work :=
  if w.pairNo = 0 ∨ pair ≠ w.pairNo ∨ ¬ w.twinTrained then w
  else
    let w := ((w.wr pgTWIN TWIN_PEER_TPKG pkg).wr pgTWIN TWIN_PEER_TPKG_VALID 1).wr pgTWIN TWIN_TEPOCH e
    let w := w.wr pgTWIN TWIN_HLTH_CRC crc
    let w := if w.on pgTWIN TWIN_TSTAT_LINK_UP then w
      else (((w.wr pgTWIN TWIN_TSTAT_LINK_UP 1).modTwin fun t => { t with hello := true }).resyncAll).hello
    let w := if w.role = 2 ∧ role = 2 ∧ w.epoch < e then w.conflict.stepDown else w
    w.twinShow

/-- COPY (R418): the dwords of an image on its way into the region's pending state. -/
def Work.copyIn (w : Work) (n cyc ofs : Nat) (ds : List Word) : Work :=
  if !w.on pgTWIN TWIN_TSTAT_LINK_UP then w
  else if w.rgFenced n then w.discard
  else if !(w.rg n).standby then w
  else
    let ws := ds.zipIdx.map fun e => (ofs + 4 * e.2, e.1)
    w.modTwinRg n fun t => { t with img := some (match t.img with
      | some i => if i.cyc = cyc ∧ i.verdict.isNone then { i with words := i.words ++ ws } else ⟨cyc, ws, none⟩
      | none => ⟨cyc, ws, none⟩) }

/-- Every dword of an image of `len` bytes has arrived. -/
def imgWhole (i : ImgIn) (len : Nat) : Bool := (upto (len / 4)).all fun k => i.words.any fun e => e.1 == 4 * k

/-- The image's dwords in order. -/
def imgWords (i : ImgIn) (len : Nat) : List Word :=
  (upto (len / 4)).map fun k => ((i.words.find? fun e => e.1 == 4 * k).map Prod.snd).getD 0

/-- COPY_END (R418, R419, R435): the digest, the length and the configuration decide whether the image may be committed. -/
def Work.copyEnd (w : Work) (n cyc len digest crc : Nat) : Work :=
  if !w.on pgTWIN TWIN_TSTAT_LINK_UP then w
  else if w.rgFenced n then w.discard
  else if !(w.rg n).standby then w
  else
    let w := w.wr pgTWIN TWIN_HLTH_CRC crc
    let i : ImgIn := match (w.twinRg n).img with
      | some i => if i.cyc = cyc ∧ i.verdict.isNone then i else ⟨cyc, [], none⟩
      | none => ⟨cyc, [], none⟩
    let whole := len == w.copyBytes n && imgWhole i len
    let sound := crc32 ((imgWords i len).flatMap beBytes) == digest
    let w := w.when (w.armedFor pgTWIN 0) fun w => w.injDone pgTWIN sound
    let same := crc == w.rd pgPKG PKG_ACTIVE_CRC
    let w := w.when (!same) fun w => w.flt pgTWIN .ce 22
    (w.modTwinRg n fun t => { t with img := some { i with verdict := some (whole && sound && same) } }).twinShow

/-- HEALTH (R423). -/
def Work.healthIn (w : Work) (h0 h1 h2 : Word) : Work :=
  if !w.on pgTWIN TWIN_TSTAT_LINK_UP then w
  else
    let w := (w.put (pgTWIN + TWIN_HLTH0_READY.off) (h0 &&& 0xFFFFFF3F#32)).put (pgTWIN + TWIN_HLTH1_TMAX.off) (h1 &&& 0xFFFFFC00#32)
    let w := (w.put (pgTWIN + TWIN_HLTH2_RUN.off) h2).wr pgTWIN TWIN_HLTH_AGE 0
    let r := w.rd pgTWIN TWIN_HLTH0_READY
    let w := w.wr pgTWIN TWIN_TSTAT_TREADY r
    (w.modTwin fun t => { t with notReady := t.notReady && !w.covers r }).twinShow

/-! ### Commands -/

/-- ROLE_RX_EDGE (R413). -/
def execRoleRxEdge (since : Nat) (s : State) : Host.Outcome State Fault Refusal := nextDev s fun w => w.rxEdge since

/-- ROLE_RX_TIMEOUT (R413, R425). -/
def execRoleRxTimeout (s : State) : Host.Outcome State Fault Refusal := nextDev s Work.rxTimeout

/-- TWIN_TAKE (R425). -/
def execTwinTake (force : Bool) (s : State) : Host.Outcome State Fault Refusal :=
  nextDev s fun w => w.hostAct (.twinTake force) (pgTWIN + TWIN_TCMD_TAKE.at 0) fun w => w.take force

/-- TWIN_HANDOVER (R430). -/
def execTwinHandover (s : State) : Host.Outcome State Fault Refusal :=
  nextDev s fun w => w.hostAct .twinHandover (pgTWIN + TWIN_TCMD_HANDOVER.at 0) Work.handover

/-- HO_REQ_RECEIVED (R430). -/
def execHoReqReceived (d : Time) (epoch : Word) (s : State) : Host.Outcome State Fault Refusal :=
  nextDev s fun w => w.hoReq d epoch.toNat

/-- HO_ACK_RECEIVED (R430): the package sends the epoch of R426 with the request, and takes it as agreed. -/
def execHoAckReceived (d : Time) (s : State) : Host.Outcome State Fault Refusal :=
  nextDev s fun w =>
    match w.twin.hoWait with
    | some x =>
      if (hoWords x) = hoWords d then
        (w.wr pgTWIN TWIN_TSTAT_HO_PEND 1).modTwin fun t => { t with hoWait := none, ho := some (x, w.nextEpoch) }
      else w
    | none => w

/-- HO_NAK_RECEIVED (R430). -/
def execHoNakReceived (d : Time) (s : State) : Host.Outcome State Fault Refusal :=
  nextDev s fun w => if w.twin.hoWait.map hoWords = some (hoWords d) then w.hoFail else w

/-- HO_ANSWER_TIMEOUT (R430): 100 µs without an answer. -/
def execHoAnswerTimeout (s : State) : Host.Outcome State Fault Refusal := nextDev s Work.hoFail

/-- HANDOVER_TIME (R430). -/
def execHandoverTime (s : State) : Host.Outcome State Fault Refusal := nextDev s Work.hoNow

/-- HELLO_RECEIVED (R414). -/
def execHelloReceived (pair : BitVec 16) (pkg : BitVec 10) (role : BitVec 2) (crc epoch : Word) (s : State) :
    Host.Outcome State Fault Refusal :=
  nextDev s fun w => w.helloIn pair.toNat pkg.toNat role.toNat crc.toNat epoch.toNat

/-- HELLO_REPEAT (R414). -/
def execHelloRepeat (s : State) : Host.Outcome State Fault Refusal := nextDev s Work.hello

/-- TWIN_LINK_TIMEOUT (R414): no good packet for 100 µs. -/
def execTwinLinkTimeout (s : State) : Host.Outcome State Fault Refusal := nextDev s fun w => w.linkDown

/-- COPY_RECEIVED (R418). -/
def execCopyReceived (n : Fin 4) (cyc ofs : Word) (data : List Word) (s : State) : Host.Outcome State Fault Refusal :=
  nextDev s fun w => w.copyIn n.val cyc.toNat ofs.toNat data

/-- COPY_END_RECEIVED (R418). -/
def execCopyEndReceived (n : Fin 4) (cyc len digest crc : Word) (s : State) : Host.Outcome State Fault Refusal :=
  nextDev s fun w => w.copyEnd n.val cyc.toNat len.toNat digest.toNat crc.toNat

/-- HEALTH_REPEAT (R423). -/
def execHealthRepeat (s : State) : Host.Outcome State Fault Refusal :=
  nextDev s fun w =>
    if w.on pgTWIN TWIN_TSTAT_LINK_UP then let q := w.ownHealth; q.1.twinSend 4 0 0 0 q.2 else w

/-- HEALTH_RECEIVED (R423). -/
def execHealthReceived (h0 h1 h2 : Word) (s : State) : Host.Outcome State Fault Refusal := nextDev s fun w => w.healthIn h0 h1 h2

/-- TWIN_READY_TIMEOUT (R424): the twin's READY has lacked a region with CYC_EN = 1 for RDY_MS. -/
def execTwinReadyTimeout (s : State) : Host.Outcome State Fault Refusal :=
  nextDev s fun w =>
    if w.covers (w.rd pgTWIN TWIN_TSTAT_TREADY) then w else (w.modTwin fun t => { t with notReady := true }).twinShow

/-- HEALTH_AGE_EXPIRY (R424): HLTH_AGE exceeds 2,000 µs. -/
def execHealthAgeExpiry (s : State) : Host.Outcome State Fault Refusal :=
  nextDev s fun w => (w.wr pgTWIN TWIN_HLTH_AGE (max 2001 (w.rd pgTWIN TWIN_HLTH_AGE))).twinShow

/-- TWIN_CONFLICT_DETECT (R432): RRX has been ACTIVE for 10 µs on an ACTIVE package. -/
def execTwinConflictDetect (s : State) : Host.Outcome State Fault Refusal :=
  nextDev s fun w =>
    if w.role = 2 ∧ w.rd pgTWIN TWIN_TSTAT_RRX = 2 then
      let w := w.conflict
      (if w.epoch < w.rd pgTWIN TWIN_TEPOCH then w.stepDown else w).twinShow
    else w

end Sys2Proof.Machine
end

