-- ==== Sys2Proof/Machine/Region.lean ====
section
/-! DEFINITION. The region cycle (R23 to R43): starting and stopping cycles, the input deadline (R100, R177 to R181), the
output deadline (R26 to R31, R185, R186), and the boundary with its five steps (R32). -/

namespace Sys2Proof.Machine

/-! ### CYC_EN (R39) -/

/-- VALID of the region's slots clears (R181). -/
def Work.slotsUnfiled (w : Work) (n : Nat) : Work :=
  let stat (a : Nat) : Bool := decide (slotStatAddr n 0 ≤ a) && decide (a < lateAddr n 0) && a % 8 == 4
  w.each ((w.regs.map Prod.fst).filter stat) fun w a => w.put a (w.word a &&& 0x7FFFFFFF#32)

/-- CYC_EN written 1 (R39, R41): a pending stop is cancelled, and the region runs on with CYC_COUNT (DESIGN CHOICE, log entry 59);
or the first cycle awaits the grid. -/
def Work.cycSet (w : Work) (n : Nat) : Work :=
  let pg := pgRG n
  if w.on pg RG_CYC_CTL then w
  else
    let w := w.wr pg RG_CYC_CTL 1
    if (w.rg n).run then w.modRg n fun r => { r with stopPend := false }
    else
      let w := ((w.slotsUnfiled n).wr pg RG_CYC_COUNT 0).when (w.rg n).standby fun w => w.twinRestart n
      (w.modRg n fun r => { r with tShown := none, sealT0 := none, seals := 0 }).awaitGrid n

/-- CYC_EN written 0: refused while a cluster is in PRECHARGE, RUN or TEST; a running cycle stops after its SEAL. -/
def Work.cycClear (w : Work) (n : Nat) : Work :=
  let pg := pgRG n
  let busy (c : Nat) : Bool := w.cstate c == 1 || w.cstate c == 3 || w.cstate c == 5
  if !w.on pg RG_CYC_CTL then w
  else if (clustersOf n).any busy then w.wr pg RG_CYC_STAT_EN_REFUSED 1
  else
    let w := w.wr pg RG_CYC_CTL 0
    w.modRg n fun r => if r.run then { r with stopPend := true } else { r with startPend := false, nextB := none }

/-- CYC_EN as a host write sets it. -/
def Work.cycWrite (w : Work) (n v : Nat) : Work := if v % 2 = 1 then w.cycSet n else w.cycClear n

/-! ### The input deadline (R100, R177 to R181) -/

/-- Slots that R177 can expect of region `n` in the cycle that starts at `t0`. -/
def Work.expectedSlots (w : Work) (n : Nat) (t0 : Int) : List Nat :=
  let meas := (clustersOf n).flatMap fun c =>
    if w.topo c = 0 then []
    else match (w.cl (w.owner c)).plans.find? fun p => p.1 == t0 with
      | some (_, _, m) => ((upto 8).filter (bitOf m)).map fun v => 8 * (c % 12) + v
      | none => []
  meas ++ ((upto 64).filter fun k => w.on (pgRG n) RG_APLAN_EN k).map (fun k => 128 + k) ++
    ((upto 256).filter fun j => w.on (pgABC n) ABC_PSLOT_EN j).map fun j => 256 + j

/-- A slot that R177 lets go stale. -/
def canStale (k : Nat) : Bool := decide (k < 96) || (decide (128 ≤ k) && decide (k < 192)) || (decide (256 ≤ k) && decide (k < 512))

/-- An expected slot is stale: it has received nothing, or a point slot nothing recent enough (R178). -/
def Work.slotStale (w : Work) (n k : Nat) (t0 : Int) (got : Bool) : Bool :=
  if k < 256 then !got
  else
    let lim := t0 - (w.rd (pgABC n) ABC_PSLOT_MAXAGE (k - 256) + 1 : Nat) * w.period16 n
    match (w.rg n).ptTime.find? fun e => e.1 == k - 256 with
    | some (_, t) => decide (t < lim)
    | none => true

/-- Slot `k` takes up what has been filed for it, or goes stale (R178, R181). -/
def Work.slotTake (w : Work) (n k : Nat) (t0 : Int) (expected : Bool) : Work :=
  let old := (w.word (slotStatAddr n k)).toNat
  let f := (w.rg n).fillCur.find? fun g => g.slot == k
  let stale := expected && w.slotStale n k t0 f.isSome
  let w := w.when stale fun w => w.count (pgABC n) ABC_STALE_COUNT
  match f with
  | some g => (w.put (slotAddr n k) g.val).put (slotStatAddr n k)
      (w32 (2 ^ 31 + b2n stale * 2 ^ 30 + b2n g.range * 2 ^ 28 + g.ts % 2 ^ 24))
  | none =>
    let valid := bitOf old 31
    let age := if valid then min (old / 2 ^ 24 % 16 + 1) 15 else 0
    w.put (slotStatAddr n k) (w32 (b2n valid * 2 ^ 31 + b2n stale * 2 ^ 30 + b2n (bitOf old 28) * 2 ^ 28 + age * 2 ^ 24 + old % 2 ^ 24))

/-- A slot the part or the host writes, never stale. -/
def Work.slotFresh (w : Work) (n k : Nat) (v : Word) (ts : Nat) : Work :=
  (w.put (slotAddr n k) v).put (slotStatAddr n k) (w32 (2 ^ 31 + ts % 2 ^ 24))

/-- The status word of cluster `i` of region `n` (R262). -/
def Work.statusWord (w : Work) (n i : Nat) : Word :=
  let c := 12 * n + i
  let st := w.cstate c
  let stale := ((upto 8).filter fun v => bitOf (w.word (slotStatAddr n (8 * i + v))).toNat 30).foldl (fun m v => m + 2 ^ v) 0
  w32 (b2n (st == 3) * 2 ^ 30 + b2n (w.laneUp (w.owner c)) * 2 ^ 29 + w.rd (pgCLU c) CLU_CSTAT_BYPASSED * 2 ^ 28 + st * 2 ^ 24 +
    w.rd (pgCLU c) CLU_CSTAT_LOCK_CAUSE * 2 ^ 20 + stale * 2 ^ 8)

/-- The slots of the region as they stand: slot, value, status. -/
def Work.slotsNow (w : Work) (n : Nat) : List (Nat × Word × Word) :=
  let stat (a : Nat) : Bool := decide (slotStatAddr n 0 ≤ a) && decide (a < lateAddr n 0) && a % 8 == 4
  ((w.regs.map Prod.fst).filter stat).map fun a => ((a - slotStatAddr n 0) / 8, w.word (a - 4), w.word a)

/-- T_IN of the running cycle: the slots are taken up, the status, census and host slots written, and RECKON starts; a
standby region keeps the slots instead (R100, R177 to R179, R420). -/
def Work.inputTime (w : Work) (n : Nat) : Work :=
  let r := w.rg n
  if !r.run || w.phase n != 1 || w.rgFenced n then w
  else
    let t0 := r.t0
    let exp := w.expectedSlots n t0
    let held := (w.slotsNow n).map Prod.fst
    let ks := ((exp ++ r.fillCur.map Filed.slot ++ held).eraseDups).filter canStale
    let w := w.each ks fun w k => w.slotTake n k t0 (exp.contains k)
    let w := w.each (upto 12) fun w i => w.slotFresh n (96 + i) (w.statusWord n i) (ts24 t0)
    let w := w.each (upto 4) fun w g => w.slotFresh n (108 + g) (w32 (w.censusCount n g * 2 ^ 24)) (ts24 t0)
    let w := w.each (r.hostStage.filter fun e => decide (512 ≤ e.1 ∧ e.1 < 1024)) fun w e => w.slotFresh n e.1 e.2 (ts24 (t16 w.now))
    let w := (w.modRg n fun r => { r with fillCur := [], hostStage := [], tShown := some t0 }).wr (pgRG n) RG_CYC_STAT_PHASE 2
    if r.standby then
      let h := w.slotsNow n
      (w.modRg n fun r => { r with slotHist := (h :: r.slotHist).take 2 }).modTwinRg n fun t => { t with gatherRun := t.gatherRun + 1 }
    else w.reckonStart n

/-! ### The output deadline (R26 to R31, R185, R186) -/

/-- The cycle has not completed RECKON at its output deadline: an overrun (R185), and a trip whenever OVR_RUN reaches LIMIT
(R186). -/
def Work.overrun (w : Work) (n : Nat) : Work :=
  let pg := pgABC n
  let w := w.modRg n fun r => { r with overrun := true, reckon := false, catchUp := 0, pendState := [], pendOut := [], results := [] }
  let old := w.rd pg ABC_RSTAT_OVR_RUN
  let lim := w.rd pg ABC_OVR_CTL
  let run := min (old + 1) 15
  let w := ((w.wr pg ABC_RSTAT_OVR 1).count pg ABC_OVR_COUNT).wr pg ABC_RSTAT_OVR_RUN run
  let w := w.recSource 7 fun sel => sel % 4 == n
  if lim ≤ run ∧ (old < lim ∨ ¬ w.on pg ABC_RSTAT_OVR_TRIP) then
    ((w.wr pg ABC_RSTAT_OVR_TRIP 1).flt pg .uc 17).forcedSafeRg n 4
  else w

/-- T − T_OUT of the running cycle: SCHEDULE; a standby region keeps its plans and carriers (R26, R420). `ilk` names the units
whose interlock copies differ. -/
def Work.outputTime (w : Work) (n : Nat) (ilk : List (Fin 192 × BitVec 2)) : Work :=
  let r := w.rg n
  match r.nextB with
  | none => w
  | some b =>
    if !r.run || w.phase n != 2 || w.rgFenced n then w
    else
      let w := (w.modRg n fun r => { r with tEnd := w.up }).wr (pgRG n) RG_CYC_STAT_PHASE 3
      if r.standby then
        let b2 := w.nextAfter n b
        (w.planRegion n b b2).each (upto 48) fun w i => w.moveCarrier (48 * n + i) b b2
      else
        let w := if r.reckon || r.abandoned || r.tDone.isNone then w.overrun n else w
        let w := w.when r.resume fun w => w.resumeClusters n b
        w.scheduleRegion n b ilk

/-! ### Points (R87, R89, R474) -/

/-- The sealed value of a point of region `n`. -/
def Work.pointValue (w : Work) (n kind idx : Nat) : Word :=
  match kind with
  | 0 => w.word (outSlotAddr n idx)
  | 1 => w.word (stateWordAddr n idx)
  | 2 => w.word (slotAddr n (96 + idx % 12))
  | _ => BitVec.ofInt 32 (vget (w.rg n).sp (idx % 64)).out

/-- Boundary time of the cycle in which the value of a point of kind `kind` was sealed, if one has sealed it (R89): status words
are those of every cycle, the others those of the latest cycle that completed. -/
def Work.pointTime (w : Work) (n kind : Nat) : Option Int := if kind = 2 then some (w.rg n).t0 else (w.rg n).sealT0

/-- Four dwords for each point of a POINT packet. -/
def Work.pointWords (w : Work) (n l : Nat) : List Word :=
  let e := w.pdir l
  let t := timeOf16 ((w.pointTime n e.2.1).getD 0)
  [w32 (w.pkgNo * 1024 + l), w.pointValue n e.2.1 e.2.2.2.1, w32 t.ns, w32 t.s]

/-- The points that fall due at the region's SEAL, in packets of up to 32 of one group (R87, R89). The RATE + 1 cycles are counted
from CYC_EN's being set (DESIGN CHOICE, log entry 60). -/
def Work.publish (w : Work) (n : Nat) : Work :=
  let due := (upto 1024).filter fun l => match w.pdir l with
    | (en, kind, rg, _, rate, _) => en == 1 && rg == n && (w.rg n).seals % (rate + 1) == 0 && (w.pointTime n kind).isSome
  let group (l : Nat) := (w.pdir l).2.2.2.2.2
  let v := w
  w.each ((due.map group).eraseDups) fun w g =>
    let ls := due.filter fun l => group l == g
    w.each (chunks 32 ((ls.length + 31) / 32) ls) fun w p =>
      w.netSend 0x20 (0x4000 + g) (p.flatMap fun l => v.pointWords n l)

/-! ### The boundary (R32) -/

/-- The clusters of region `n` that owe LOCKOUT to a forced safe request take it (R248). -/
def Work.lockAll (w : Work) (n : Nat) (b : Int) : Work :=
  w.each ((clustersOf n).filter fun c => w.owner c == c) fun w c => w.lockStep c b

/-- The Abacus part of SEAL: states, output slots, set-points and loops of a cycle that completes; SLACK and RECKON_T (R29,
R176, R185, R192, R200). -/
def Work.sealAbacus (w : Work) (n : Nat) (ok : Bool) : Work :=
  let pg := pgABC n
  let r := w.rg n
  let w : Work := if ok then
      let w := w.each r.pendState fun w e => w.put (stateWordAddr n e.1) e.2
      let w := w.each r.pendOut fun w e => w.put (outSlotAddr n e.1) e.2
      ((w.spSeal n).lpSeal n).wr pg ABC_RSTAT_OVR_RUN 0
    else (w.spDrop n).modRg n fun r => { r with lpPend := [] }
  let slack := if ok then r.tEnd - r.tDone.getD r.tEnd else 0
  let w := (w.wr pg ABC_SLACK_TICKS slack).wr pg ABC_SLACK_OVR (b2n (!ok))
  (w.wr pg ABC_SLACK_MIN (min slack (w.rd pg ABC_SLACK_MIN))).wr pg ABC_RECKON_T (r.tDone.getD r.tEnd - r.tStart)

/-- Step 1 on an active region: SEAL, or the overrun handling of R31. Requests already acted on make LOCKOUT (R248). -/
def Work.sealActive (w : Work) (n : Nat) (b : Int) : Work :=
  let r := w.rg n
  let ok := w.phase n == 3 && !r.overrun && r.tDone.isSome
  let w := (w.sealAbacus n ok).modRg n fun r => { r with sealT0 := if ok then some r.t0 else r.sealT0, seals := r.seals + 1 }
  let w := (w.lockAll n b).each ((clustersOf n).filter fun c => w.owner c == c) fun w c => w.recovStep c ok
  let w := w.wr (pgRG n) RG_CYC_COUNT ((w.rd (pgRG n) RG_CYC_COUNT + 1) % 2 ^ 32)
  let w := ((w.sealView n).recSeal n b).publish n
  let sends := match r.releaseAt with
    | some a => decide (b < a)
    | none => w.role == 2
  w.when sends fun w => w.twinSeal n b

/-- Step 1, with the change of role that falls at this boundary (R418, R427, R430); LOCKOUT comes at the first boundary too
(R248). -/
def Work.boundaryStep1 (w : Work) (n : Nat) (b : Int) (swap : Bool) : Work :=
  let r := w.rg n
  let w : Work := if r.standby then (w.when r.run fun w => w.twinCommit n b).sealView n
    else if r.run then w.sealActive n b else w.sealView n
  let w := match (w.rg n).takeAt with
    | some a => w.when (decide (a ≤ b)) fun w => w.activate n swap
    | none => w
  (w.when (!(w.rg n).standby) fun w => w.lockAll n b).releasing n b

/-- The sets of region `n` exchange at boundary `b` (R73). -/
def Work.swapNow (w : Work) (n : Nat) (b : Int) : Bool :=
  w.on pgPKG PKG_SWAP_STAT_PENDING && !bitOf (w.rd pgPKG PKG_SWAP_STAT_RG_DONE) n && match w.swap.d with
    | some d => decide (d ≤ b)
    | none => true

/-- Step 3: the LIVE registers of the region's pages are latched (R33); set-point pages hold them all. -/
def Work.latchLive (w : Work) (n : Nat) : Work :=
  let here (a : Nat) : Bool := decide (pgSP n 0 ≤ a) && decide (a < pgSP n 0 + 0x4000)
  let keys := ((w.regs.map Prod.fst) ++ (w.latched.map Prod.fst)).eraseDups.filter here
  w.each keys Work.latch

/-- Step 3 of a boundary: LIVE values, loop requests, host-direct triples and window-comparator flags. -/
def Work.boundaryStep3 (w : Work) (n : Nat) : Work :=
  let w := (w.latchLive n).wcBoundary n
  if (w.rg n).standby then w else (w.lpLatch n).each (upto 48) fun w i => w.hdLatch (48 * n + i)

/-- Step 4 of a boundary: cluster commands and the census; `old` is what the package would have sent before the boundary. -/
def Work.boundaryStep4 (w : Work) (n : Nat) (b : Int) (old : List (Nat × Nat × Nat)) : Work :=
  let w := if (w.rg n).standby then w
    else w.each ((clustersOf n).filter fun c => w.owner c == c) fun w c => w.clusterStep4 c b
  w.censusBoundary n b old

/-- Step 5 of a boundary: the next cycle enters GATHER, and the channels advance (R32, R191); `nb` is the boundary after it. -/
def Work.boundaryStep5 (w : Work) (n : Nat) (b nb : Int) : Work :=
  let w := w.stamp (pgRG n) RG_CYC_T0_NS RG_CYC_T0_S (timeOf16 b)
  let w := ((w.wr (pgRG n) RG_CYC_STAT_PHASE 1).wr (pgABC n) ABC_RSTAT_DONE 0).modRg n fun r => { r with
    run := true, startPend := false, t0 := b, nextB := some nb, reckon := false, abandoned := false, overrun := false
    tDone := none, pc := 0, results := [], resErrs := 0, pendState := [], pendOut := [], fillCur := r.fillNext, fillNext := [] }
  if (w.rg n).standby then w else (w.spFallback n).spAdvance n

/-- The boundary of region `n` (R32). -/
def Work.boundary (w : Work) (n : Nat) : Work :=
  let r := w.rg n
  match r.nextB with
  | none => w
  | some b =>
    if !(r.run || r.startPend) || w.rgFenced n then w
    else
      let swap := w.swapNow n b
      let moves := swap && w.gridMoves n
      let nb := if moves then some (w.gridB n true (b + tick16 * w.sh (pgRG n) RG_CYC_PERIOD)) else none
      let old := w.spreadAll
      let w := w.boundaryStep1 n b swap
      let w := w.when swap fun w => w.exchangeRegion n
      let nb := match nb with
        | some x => x
        | none => b + w.period16 n
      let w := w.when (moves && !r.stopPend && decide (w.period16 n < nb - b)) fun w => w.wr (pgRG n) RG_CYC_STAT_STRETCHED 1
      let w := (w.boundaryStep3 n).boundaryStep4 n b old
      let w := if r.stopPend then w.leaveCycle n else w.boundaryStep5 n b nb
      w.when (w.role != 0) Work.twinShow

/-! ### Commands -/

/-- A read of CYC_T0_NS latches the seconds of the same boundary for the read of CYC_T0_S that follows (R43). -/
def Work.readT0 (w : Work) (n : Nat) : Work × Word :=
  (w.modRg n fun r => { r with t0Latch := some (w.word (pgRG n + RG_CYC_T0_S.off)) }, w.word (pgRG n + RG_CYC_T0_NS.off))

/-- CYC_T0_NS_READ (R43). -/
def execCycT0NsRead (n : Fin 4) (s : State) : Host.Outcome State Fault Refusal :=
  nextDev s fun w => w.hostGet (.cycT0NsRead n) (pgRG n + RG_CYC_T0_NS.at 0) fun w => Work.answer (w.readT0 n.val)

/-- CYC_EN_SET (R39). -/
def execCycEnSet (n : Fin 4) (s : State) : Host.Outcome State Fault Refusal :=
  nextDev s fun w => w.hostAct (.cycEnSet n) (pgRG n + RG_CYC_CTL.at 0) fun w => w.unlocked (pgRG n.val) fun w => w.cycSet n.val

/-- CYC_EN_CLEAR (R39). -/
def execCycEnClear (n : Fin 4) (s : State) : Host.Outcome State Fault Refusal :=
  nextDev s fun w => w.hostAct (.cycEnClear n) (pgRG n + RG_CYC_CTL.at 0) fun w => w.unlocked (pgRG n.val) fun w => w.cycClear n.val

/-- BOUNDARY (R32). -/
def execBoundary (n : Fin 4) (s : State) : Host.Outcome State Fault Refusal := nextDev s fun w => w.boundary n.val

/-- INPUT_DEADLINE (R100). -/
def execInputDeadline (n : Fin 4) (s : State) : Host.Outcome State Fault Refusal := nextDev s fun w => w.inputTime n.val

/-- OUTPUT_DEADLINE (R26, R229). -/
def execOutputDeadline (n : Fin 4) (ilk : List (Fin 192 × BitVec 2)) (s : State) : Host.Outcome State Fault Refusal :=
  nextDev s fun w => w.outputTime n.val ilk

end Sys2Proof.Machine
end

