-- ==== Sys2Proof/Machine/HostWrite.lean ====
section
/-! DEFINITION. A host write to one dword of BAR0, but for its WO fields and LOCK: the windows, the registers that other
operations own (CYC_CTL, INC_FRAC, INC_NS, NOFS), the Ember page's staging (R350), and the fields of every other
register. Boot-image records act through it (R485). -/

namespace Sys2Proof.Machine

/-- A write of a block register of the EMB page waits for the next ember tick (R350), unless the page is locked. -/
def Work.emberStage (w : Work) (a : Nat) (x : Word) : Work :=
  let w := w.when (w.lockHolds .emb pgEMB (a % 0x1000)) fun w => w.wr pgEMB HDR_STAT_LOCK_WR 1
  w.modEmber fun e => { e with staged := e.staged ++ [(a, x)] }

/-- A host write of `x` to the active dword at BAR0 offset `a`, its WO fields left out (R6, R179, R180, R350). -/
def State.hostStore (s : State) (a : Nat) (x : Word) : State :=
  let o := a % 0x1000
  match windowOf a with
  | some (.stateWord n i) => s.onDev fun w => w.hostState n i x
  | some (.slot n k) => s.onDev fun w => w.hostSlot n k x
  | some (.slotStat n _) | some (.late n _) => s.onDev fun w => w.badval (pgABC n)
  | some (.outSlot _ _) | some .pdirActive | some .pdirShadow | some (.secActive _) | some (.secShadow _) => s
  | none => match pageOf a with
    | none => s
    | some (k, i) =>
      let plain := s.onDev fun w => w.activeWrite k i (a / 0x1000 * 0x1000) o x
      match k with
      | .tally =>
        if o = TALLY_INC_FRAC.off then s.incFrac x.toNat
        else if o = TALLY_INC_NS.off then s.incCommit (TALLY_INC_NS.get x)
        else plain
      | .spll => if o = SPLL_NOFS.off then s.nofs (SPLL_NOFS.get x) else plain
      | .rg => if o = RG_CYC_CTL.off then s.onDev fun w => w.unlocked (pgRG i) fun w => w.cycWrite i (RG_CYC_CTL.get x) else plain
      | .emb => if 0x40 ≤ o then s.onDev fun w => w.emberStage a x else plain
      | _ => plain

end Sys2Proof.Machine
end

