-- ==== Sys2Proof/Machine/Thermal.lean ====
section
/-! DEFINITION. The temperature sensors (R500 to R505, R508, R510): cross-checks, bad sensors, the Damper's temperature
level, fast sampling, the write gate and the shutdown reading. -/

namespace Sys2Proof.Machine

/-! ### Sensors and dies (R500, R501) -/

/-- Sensors are numbered by die: CD0, CD1, hub, Hearth. -/
def dieSensors : Nat → List Nat
  | 0 => [0, 1, 2, 3] | 1 => [4, 5, 6, 7] | 2 => [8, 9, 10] | _ => [11, 12, 13]

/-- The die of a sensor. -/
def sensorDie (i : Nat) : Nat := if i < 4 then 0 else if i < 8 then 1 else if i < 11 then 2 else 3

/-- The neighbour after sensor `i` in its die, the first following the last. -/
def sensorNext (i : Nat) : Nat := if i = 3 then 0 else if i = 7 then 4 else if i = 10 then 8 else if i = 13 then 11 else i + 1

/-- The neighbour before sensor `i` in its die. -/
def sensorPrev (i : Nat) : Nat := if i = 0 then 3 else if i = 4 then 7 else if i = 8 then 10 else if i = 11 then 13 else i - 1

def Work.goodSensor (w : Work) (i : Nat) : Bool := bitOf (w.rd pgTHERM THERM_SENS_GOOD) i

/-- The good sensors among `l`. -/
def Work.goodOf (w : Work) (l : List Nat) : List Nat := l.filter w.goodSensor

/-- The latest reading of a sensor, in quarters of a degree. -/
def Work.temp (w : Work) (i : Nat) : Int := w.rdS pgTHERM THERM_TS_TEMP i

/-- The hottest latest reading of the good sensors among `l`. -/
def Work.hottest (w : Work) (l : List Nat) : Option Int := ((w.goodOf l).map w.temp).max?

/-- The code of a temperature in an 8-bit signed field of degrees; beyond the field, a free value. -/
def showTemp (q : Int) : Nat :=
  let c := q / 4
  if -128 ≤ c ∧ c ≤ 127 then ofSigned 8 c else (Config.tempCode c).toNat

/-- A sensor is marked bad (R501, R502). -/
def Work.sensorBad (w : Work) (i : Nat) : Work :=
  if w.goodSensor i then
    let w := ((w.clrBit pgTHERM THERM_SENS_GOOD i).count pgTHERM THERM_BAD_COUNT).flt pgTHERM .ce 16
    match (w.goodOf (dieSensors (sensorDie i))).length with
    | 0 => w.hearthFatal pgTHERM 18
    | 1 => w.flt pgTHERM .uc 17
    | _ => w
  else w

/-! ### The cross-check (R501, R510) -/

/-- Deviation of the pair of sensor `i` and the one after it, in quarters of a degree; `grad` is the gradient model's
difference for each such pair. -/
def Work.pairDev (w : Work) (grad : Nat → Int) (i : Nat) : Nat := (w.temp i - w.temp (sensorNext i) - grad i).natAbs

/-- The deviations of sensor `i` against its good neighbours. -/
def Work.devs (w : Work) (grad : Nat → Int) (i : Nat) : List Nat :=
  (if w.goodSensor (sensorNext i) then [w.pairDev grad i] else []) ++
    (if w.goodSensor (sensorPrev i) then [w.pairDev grad (sensorPrev i)] else [])

/-- Sensor `i` deviates by more than 12 degrees against every good neighbour. -/
def Work.deviates (w : Work) (grad : Nat → Int) (i : Nat) : Bool := !(w.devs grad i).isEmpty && (w.devs grad i).all fun d => decide (48 < d)

/-- The pair of `i` and the sensor after it deviates while each agrees with its other neighbour. -/
def Work.pairOnly (w : Work) (grad : Nat → Int) (i : Nat) : Bool :=
  let j := sensorNext i
  let agrees (k p : Nat) := w.goodSensor k && decide (w.pairDev grad p ≤ 48)
  w.goodSensor i && w.goodSensor j && decide (48 < w.pairDev grad i) && agrees (sensorPrev i) (sensorPrev i) &&
    agrees (sensorNext j) j

/-- An armed injection makes its sensor deviate against its neighbours in this sample (R399, R510): expected when the
sensor has shown no deviation of its own. -/
def Work.sensorInject (w : Work) (grad : Nat → Int) : Work :=
  let b := w.rd pgTHERM HDR_INJ_BIT
  let ds := w.devs grad b
  if w.armedFor pgTHERM 0 && w.goodSensor b && !ds.isEmpty then w.injDone pgTHERM (ds.all fun d => decide (d ≤ 48)) else w

/-- The cross-check of a sample: suspects, consecutive deviations, pair deviations, and sensors marked bad. -/
def Work.crossCheck (w : Work) (grad : Nat → Int) : Work :=
  let w := w.sensorInject grad
  let all := w.goodOf (upto 14)
  let dev := all.filter (w.deviates grad)
  let w := w.count pgTHERM THERM_PAIRDEV_COUNT ((all.filter (w.pairOnly grad)).length)
  let v := w
  let w := w.each all fun w i => w.wr pgTHERM THERM_TS_DEV (min (((v.devs grad i).max?.getD 0) / 4) 255) i
  let w := w.wr pgTHERM THERM_SENS_SUSPECT (dev.foldl (fun m i => m + 2 ^ i) 0)
  let w := w.modTherm fun t => { t with dev := Vector.ofFn fun i => if dev.contains i.val then vget t.dev i.val + 1 else 0 }
  w.each (dev.filter fun i => decide (4 ≤ vget w.therm.dev i)) Work.sensorBad

/-! ### What a sample sets (R503 to R505, R508) -/

/-- Readings that lie outside −60 to +180 degrees mark their sensors bad (R500). -/
def outOfSpan (q : Int) : Bool := decide (q < -240) || decide (720 < q)

/-- The Damper's temperature level after a sample (R504): `t` the hottest reading, `l` the present level. -/
def tempLevel (dampT step : Nat) (t : Int) (l : Nat) : Nat :=
  let up : Nat := if t < 4 * dampT then 0 else min 7 (1 + (t - 4 * dampT).toNat / (4 * step))
  let thr (k : Nat) : Int := 4 * (dampT + (k - 1) * step : Nat)
  if l ≤ up then up
  else (List.range (l - up)).foldl (fun k _ => if up < k ∧ t ≤ thr k - 8 then k - 1 else k) l

/-- TMAX, TMIN, PEAK and the dies' hottest readings. -/
def Work.tempShow (w : Work) : Work :=
  let w := match w.hottest (upto 14) with
    | some t =>
      let p := max t (w.therm.peak.getD t)
      let w := w.modTherm fun k => { k with peak := some p }
      (w.wr pgTHERM THERM_TSTAT_TMAX (showTemp t)).wr pgTHERM THERM_PEAK (showTemp p)
    | none => w
  let w := match ((w.goodOf (upto 14)).map w.temp).min? with
    | some t => w.wr pgTHERM THERM_TSTAT_TMIN (showTemp t)
    | none => w
  w.each [(0, THERM_TJ_DIE_CD0), (1, THERM_TJ_DIE_CD1), (2, THERM_TJ_DIE_HB), (3, THERM_TJ_DIE_HT)] fun w e =>
    match w.hottest (dieSensors e.1) with
    | some t => w.wr pgTHERM e.2 (showTemp t)
    | none => w

/-- Fast sampling (R503): 10 ms at 20 kHz below 128 degrees is 200 intervals between samples. -/
def Work.fastSample (w : Work) : Work :=
  let l := (w.goodOf (upto 14)).map w.temp
  let fast := w.on pgTHERM THERM_TSTAT_FAST
  if l.any fun t => decide (520 ≤ t) then
    let w := w.modTherm fun k => { k with cool := 0 }
    if fast then w else (w.wr pgTHERM THERM_TSTAT_FAST 1).count pgTHERM THERM_FAST_COUNT
  else if fast && l.all fun t => decide (t < 512) then
    if 200 ≤ w.therm.cool then (w.wr pgTHERM THERM_TSTAT_FAST 0).modTherm fun k => { k with cool := 0 }
    else w.modTherm fun k => { k with cool := k.cool + 1 }
  else w.modTherm fun k => { k with cool := 0 }

/-- A step of Kindling fails (R489). -/
def Work.kFail (w : Work) (step cause : Nat) : Work :=
  ((w.wr pgPKG PKG_KSTAT_FAIL 1).wr pgPKG PKG_KSTAT_FAIL_STEP step).wr pgPKG PKG_KSTAT_FAIL_CAUSE cause

/-- 145 degrees in two consecutive samples of a good sensor (R505, R507): a shutdown, which also ends Kindling. -/
def Work.shutdownCheck (w : Work) : Work :=
  let good := w.goodOf (upto 14)
  let w := w.modTherm fun k =>
    { k with hot := Vector.ofFn fun i => if good.contains i.val && decide (580 ≤ w.temp i.val) then min (vget k.hot i.val + 1) 2 else 0 }
  if !w.kin.shutdown && !w.kin.thermalOff && good.any fun i => decide (2 ≤ vget w.therm.hot i) then
    let w := w.when (!w.on pgPKG PKG_KSTAT_DONE) fun w => w.kFail (w.rd pgPKG PKG_KSTAT_STEP) 9
    (w.hearthFatal pgTHERM 19).modKin fun k => { k with shutdown := true }
  else w

/-- Every die has a good sensor and every good sensor reads 0 to 100 degrees (R508). -/
def Work.writeGate (w : Work) : Bool :=
  ((upto 4).all fun d => !(w.goodOf (dieSensors d)).isEmpty) && (w.goodOf (upto 14)).all fun i => decide (0 ≤ w.temp i ∧ w.temp i ≤ 400)

/-- A sample (R500 to R508). -/
def Work.tempSample (w : Work) (t grad : Nat → Int) : Work :=
  let w := w.each (upto 14) fun w i => w.wr pgTHERM THERM_TS_TEMP (ofSigned 12 (t i)) i
  let w := w.each ((w.goodOf (upto 14)).filter fun i => outOfSpan (t i)) Work.sensorBad
  let w := (w.crossCheck grad).tempShow.fastSample
  let w := match w.hottest (upto 14) with
    | some x => w.wr pgTHERM THERM_TSTAT_TLEVEL (tempLevel (w.rd pgTHERM THERM_TCFG_DAMP_T) (w.rd pgTHERM THERM_TCFG_DSTEP) x
        (w.rd pgTHERM THERM_TSTAT_TLEVEL))
    | none => w
  (w.wr pgTHERM THERM_TSTAT_WGATE (b2n w.writeGate)).shutdownCheck

/-- PEAK becomes TMAX (R510). -/
def Work.peakReset (w : Work) : Work :=
  let t := w.hottest (upto 14)
  (w.wr pgTHERM THERM_PEAK (w.rd pgTHERM THERM_TSTAT_TMAX)).modTherm fun k => { k with peak := t }

/-! ### Commands -/

/-- TEMP_SAMPLE (R500): readings in quarters of a degree, and the gradient model's difference for each sensor and the one
after it in its die. -/
def execTempSample (t grad : Vector (BitVec 12) 14) (s : State) : Host.Outcome State Fault Refusal :=
  nextDev s fun w => w.tempSample (fun i => (vget t i).toInt) fun i => (vget grad i).toInt

/-- SENSOR_READING_TIMEOUT (R500). -/
def execSensorReadingTimeout (t : Fin 14) (s : State) : Host.Outcome State Fault Refusal :=
  nextDev s fun w => w.sensorBad t.val

/-- THERM_PEAK_RST (R510). -/
def execThermPeakRst (s : State) : Host.Outcome State Fault Refusal :=
  nextDev s fun w => w.hostAct .thermPeakRst (pgTHERM + THERM_TCMD.at 0) Work.peakReset

end Sys2Proof.Machine
end

