-- ==== Sys2Proof/Machine/Kindling.lean ====
section
/-! DEFINITION. Resets and Kindling (R15, R16, R75, R108, R479 to R493, R506, R507, R509, R556): the reset scopes, the steps
of Kindling, the checks and the loading of a boot image, and THERMAL_OFF. -/

namespace Sys2Proof.Machine

/-! ### Region and die resets (R15, R16, R492) -/

/-- A reset of region `n` is refused (R15). -/
def Work.resetRefused (w : Work) (n : Nat) : Bool := w.role != 1 && (clustersOf n).any fun c => w.cstate c == 3

/-- The registers of region `n` take their reset values, the RWS fields of both sets kept (R75). -/
def Work.regionRegs (w : Work) (n : Nat) : Work :=
  let w := w.each ((w.regs.map Prod.fst).filter (inRegion n)) fun w a =>
    w.put a ((resetWord a &&& ~~~(rwsMask a)) ||| (w.word a &&& rwsMask a))
  w.dropLatched (inRegion n)

/-- A reset of region `n` starts (R107, R108, R263, R321, R492, R509): BIST is aborted, the fence rises at once, and
everything but the configuration sets returns to its reset state, clusters to OFF or BYPASS. A cluster that stays in BYPASS
keeps the report that its element is closed (R254), and a lane the T_EFF of its package's claim (R301). -/
def Work.regionResetStart (w : Work) (n : Nat) : Work :=
  let byp := ((clustersOf n).filter fun c => w.cstate c == 4).map fun c => (c, w.rd (pgCLU c) CLU_CSTAT_BYPASSED)
  let w := (w.bistAbort n true).fenceRegion n
  let w := (w.regionRegs n).zeroSlots n
  let w := w.modKin fun k => { k with resets := k.resets ||| 2 ^ n }
  let w := w.modRg n fun _ => { (default : Region) with standby := w.role == 1 }
  let w := w.each (clustersOf n) fun w c =>
    ((w.modCl c fun _ => default).modLn c fun l => { (default : Lane) with claimAt := l.claimAt }).each (unitsOf c) fun w u =>
      w.modUn u fun _ => .reset
  let w := w.each byp fun w e => (w.wr (pgCLU e.1) CLU_CSTAT_STATE 4).wr (pgCLU e.1) CLU_CSTAT_BYPASSED e.2
  let w := w.each (upto 64) fun w q => (w.spInit n q).lpInit n q
  ((w.fence n true).twinRestart n).hearthShow

/-- RST_CTL.RG (R15, R492): each reset is judged on its own. -/
def Work.regionReset (w : Work) (rgs : Nat) : Work :=
  let v := w
  w.each ((upto 4).filter fun n => bitOf rgs n && !bitOf w.kin.resets n) fun w n =>
    if v.resetRefused n then w.badval (pgRG n) else w.regionResetStart n

/-- RST_CTL.DIE (R16, R509): both regions of the die and the die's own circuits; region resets that run complete within it. -/
def Work.dieReset (w : Work) (dies : Nat) : Work :=
  let v := w
  w.each ((upto 2).filter fun d => bitOf dies d && !bitOf w.kin.dieResets d) fun w d =>
    if v.resetRefused (2 * d) || v.resetRefused (2 * d + 1) then w.badval pgPKG
    else
      let w := (w.regionResetStart (2 * d)).regionResetStart (2 * d + 1)
      let here (a : Nat) : Bool := decide (pgPKG + 0x200 + 0x18 * d ≤ a) && decide (a < pgPKG + 0x218 + 0x18 * d)
      let w := (w.dropRegs here).stallEnd [2 * d, 2 * d + 1, 4 + d]
      let w := w.modTherm fun t => { t with
        dev := Vector.ofFn fun i => if (dieSensors d).contains i.val then 0 else vget t.dev i.val
        hot := Vector.ofFn fun i => if (dieSensors d).contains i.val then 0 else vget t.hot i.val }
      (w.fence (4 + d) true).modKin fun k => { k with dieResets := k.dieResets ||| 2 ^ d }

/-- The reset of region `n` completes (R75, R107, R492, R563): a swap that is due there exchanges first. A marked region
keeps its fence (R515). -/
def Work.regionResetEnd (w : Work) (n : Nat) : Work :=
  if bitOf w.kin.resets n then
    let w := (w.modKin fun k => { k with resets := k.resets - 2 ^ n }).stallEnd [n]
    let due := w.on pgPKG PKG_SWAP_STAT_PENDING && !bitOf (w.rd pgPKG PKG_SWAP_STAT_RG_DONE) n
    let w := w.when (due && !w.marked n) fun w => w.exchangeRegion n
    let w := w.when (!w.marked n) fun w => w.unfenceRegion n
    let w := w.modRg n fun r => { r with fbRec := true }
    let d := n / 2
    let w := w.when (bitOf w.kin.dieResets d && !bitOf w.kin.resets (2 * d) && !bitOf w.kin.resets (2 * d + 1)) fun w =>
      (w.fence (4 + d) false).modKin fun k => { k with dieResets := k.dieResets - 2 ^ d }
    w.twinShow
  else w

/-! ### Package resets (R438, R490, R506) -/

/-- Registers that outlive a package reset: the Ember page, the counted store's OTP, what SEC holds of the OTP key and of
zeroising, the logic BIST results unless PORST_N resets the part, and, where `ash`, the Ash records (R350, R490, R521,
R524, R530, R532). -/
def keptRegs (porst ash : Bool) (a : Nat) : Bool :=
  let pg := a / 0x1000 * 0x1000
  let o := a % 0x1000
  pg == pgEMB ||
  (pg == pgCSTORE && (decide (0x40 ≤ o ∧ o < 0xC8) || decide (0x200 ≤ o ∧ o < 0x800) || o == CSTORE_WSTAT_LOG_N.off)) ||
  (pg == pgSEC && (o == SEC_KEYSTAT_ZEROISED.off || o == SEC_KCV.off)) ||
  (!porst && pg == pgBIST && decide (0x90 ≤ o ∧ o < 0xA4)) ||
  (ash && ((pg == pgHRT2 && decide (0x100 ≤ o)) || (pg == pgHRT && o == HRT_ASH_SEQ.off)))

/-- The device after a package reset of cause 1 PORST_N, 2 HOST or 3 THERMAL (R438, R490): the DRAM, the recorder's areas of
hub SRAM, the Ember, the OTP and the levels of the input pins stand. -/
def Work.pkgDev (w : Work) (cause : Nat) : Dev :=
  let keep := !w.kin.retLost
  let regs := cellsDrop (fun a => !keptRegs (cause == 1) (cause == 3) a) w.regs
  let logN (d : Word) : Word := d &&& CSTORE_WSTAT_LOG_N.mask
  { Dev.reset with
    regs := Dev.reset.regs.foldl (fun r e => cellsPut resetWord r e.1 e.2)
      (cellsPut resetWord regs (pgCSTORE + CSTORE_WSTAT_LOG_N.off) (logN (w.word (pgCSTORE + CSTORE_WSTAT_LOG_N.off))))
    dram := if keep then w.dram else []
    sram := if keep then w.sram else []
    bad := if keep then w.bad.filter fun e => e.1 == 6 || published (hubSram + 4 * e.2) else []
    twin := { Dev.reset.twin with rxPin := w.twin.rxPin }
    kin := { Dev.reset.kin with porst := w.kin.porst, perst := w.kin.perst, strap := w.kin.strap, kept := w.kin.kept }
    ember := w.ember
    sec := { Dev.reset.sec with key := w.sec.key, programmed := w.sec.programmed, verified := w.sec.verified, closed := w.sec.closed }
    out := w.out ++ [.outputsReset]
    freeCtr := w.freeCtr }

/-- Step 1 of Kindling (R495): KECNT takes ECNT. -/
def Work.kindle (w : Work) : Work := w.wr pgEMB EMB_KECNT w.ember.ecnt

/-- A package reset starts (R490): KSTAT names its cause. -/
def State.pkgReset (s : State) (cause step : Nat) : State :=
  ({ s with tally := Tally.reset, dev := s.work.pkgDev cause }).onDev fun w =>
    (w.wr pgPKG PKG_KSTAT_CAUSE cause).wr pgPKG PKG_KSTAT_STEP step

/-- The boot straps are sampled at a package reset (R482). -/
def Work.strapAt (w : Work) (strap : Nat) : Work := w.modKin fun k => { k with strap := strap }

/-- THERMAL_OFF (R506): the hub and the cell dies are held in package reset; the Hearth, the sensors and the Ember run on. -/
def State.thermalOff (s : State) : State :=
  let w := s.work
  let hearth (a : Nat) : Bool :=
    let pg := a / 0x1000 * 0x1000
    pg == pgHRT || pg == pgHRT1 || pg == pgHRT2 || pg == pgTHERM || a == pgPKG + PKG_KSTAT_DONE.off
  let d := w.pkgDev 3
  let regs := (w.regs.filter fun e => hearth e.1).foldl (fun r e => cellsPut resetWord r e.1 e.2) d.regs
  let d := { d with regs := regs, hearth := w.hearth, therm := w.therm, kin := { d.kin with thermalOff := true } }
  ({ s with tally := Tally.reset, dev := d }).onDev fun w => w.count pgEMB EMB_THOFF_COUNT

/-! ### Steps 1 to 6 (R487, R489) -/

def Work.kStep (w : Work) : Nat := w.rd pgPKG PKG_KSTAT_STEP

/-- Kindling runs: neither PORST_N nor THERMAL_OFF nor a shutdown holds it. -/
def Work.kindling (w : Work) : Bool := !w.kin.porst && !w.kin.thermalOff && !w.kin.shutdown && !w.on pgPKG PKG_KSTAT_DONE

/-- Steps 4 to 6, each as soon as what it waits for has come: LOCKED starts the Tally from 0, then the link, then the DRAM. -/
def State.kAdvance (s : State) : State :=
  let w := s.work
  if !w.kindling then s
  else
    let s : State := if w.kStep = 4 ∧ w.on pgSPLL SPLL_STAT_LOCKED then
        (s.setTally { Tally.reset with running := true, pll := { s.tally.pll with closed := false, sinceRef := 0 } }).onDev fun w =>
          w.wr pgPKG PKG_KSTAT_STEP 5
      else s
    let s : State := if s.work.kStep = 5 ∧ s.work.kin.link then s.onDev fun w => w.wr pgPKG PKG_KSTAT_STEP 6 else s
    if s.work.kStep = 6 ∧ s.work.kin.dram then s.onDev fun w => w.rewriteChecks.wr pgPKG PKG_KSTAT_STEP 7 else s

/-- The Hearth's self-check ends (R396, R487, R489). -/
def Work.selfCheck (w : Work) (ok : Bool) : Work :=
  if w.kindling && decide (w.kStep ≤ 3) && !w.on pgPKG PKG_KSTAT_FAIL then
    if ok then ((w.modHearth fun h => { h with checked := true }).wr pgPKG PKG_KSTAT_STEP 4).hearthShow
    else (w.wr pgPKG PKG_KSTAT_STEP 3).kFail 3 1
  else w

/-! ### Step 7: the boot image (R483 to R486) -/

/-- The image in image-store block `k`. -/
def Work.bootImage (w : Work) (k : Nat) : List Byte :=
  w.dramBytes (blockAt k) (min (leAt (w.dramBytes (blockAt k) 16) 8) 4194304)

/-- The first of checks 1 to 3 of R486 that the image fails. -/
def Work.imageFail (w : Work) (bs : List Byte) : Option Nat :=
  let n := leAt bs 8
  let part := (bs.drop (leAt bs 0x14)).take (leAt bs 0x18)
  if !(decide (leAt bs 0 = 0x4B525943 ∧ leAt bs 4 / 2 ^ 16 = 1 ∧ leAt bs 4 / 2 ^ 8 % 2 ^ 8 = 0xA1) &&
      decide (n % 4 = 0 ∧ 64 ≤ n ∧ n ≤ 4194304)) then some 4
  else if crc32 (bs.drop 0x20) != leAt bs 0xC then some 5
  else if leAt bs 0x18 != 0 && !(w.keyOpen && w.sealAuth part) then some 6
  else none

/-- The image in block `k` has passed: it is to be loaded. -/
def Work.imageAccept (w : Work) (k : Nat) (host : Bool) : Work :=
  ((w.wr pgPKG PKG_KSTAT_STEP 8).wr pgPKG PKG_KSTAT_HOSTBOOT (b2n host)).modKin fun q => { q with img := some k, waitImg := false }

/-- A read of the flash ends (R483, R489): the image goes to block 0 and is checked; after the primary the fallback is read. -/
def Work.flashRead (w : Work) (img : Option (List Byte)) : Work :=
  if w.kindling && w.kStep == 7 && w.kin.strap == 0 && !w.kin.waitImg then
    let wait (w : Work) (cause : Nat) : Work := (w.kFail 7 cause).modKin fun k => { k with waitImg := true }
    match img with
    | none => wait w 8
    | some bs =>
      let w := w.dramPut (blockAt 0) (bs.take 4194304)
      match w.imageFail (w.bootImage 0) with
      | none => w.imageAccept 0 false
      | some c => if w.on pgPKG PKG_KSTAT_FALLBACK then wait w c else w.wr pgPKG PKG_KSTAT_FALLBACK 1
  else w

/-- KCTL.IMG_GO (R484): taken at step 7 in HOST mode, or once both flash images have failed. -/
def Work.imgGo (w : Work) (k : Nat) : Work :=
  let w := w.unlocked pgPKG fun w => w.wr pgPKG PKG_KCTL_IMG k
  if w.kindling && w.kStep == 7 && (w.kin.strap != 0 || w.kin.waitImg) then
    let k := w.rd pgPKG PKG_KCTL_IMG
    let w := w.dramUse (blockAt k) (w.bootImage k).length
    match w.imageFail (w.bootImage k) with
    | none => w.imageAccept k true
    | some c => w.kFail 7 c
  else w.badval pgPKG

/-! ### Steps 8 to 10: loading (R485, R486, R516, R533) -/

/-- A slot of the counted store has been written: the log has an entry of it without FAIL (R530, R532). -/
def Work.slotWritten (w : Work) (k : Nat) : Bool :=
  (upto (w.rd pgCSTORE CSTORE_WSTAT_LOG_N)).any fun e =>
    let d := (w.word (pgCSTORE + 0x200 + 12 * e)).toNat
    d / 2 ^ 16 % 16 == k && !bitOf d 29

/-- Step 9 reads slots 0 to 3, whose values stay in force (R412, R533); a twinned package stands by. -/
def Work.slotsRead (w : Work) : Work :=
  let lo (k : Nat) := (w.word (pgCSTORE + CSTORE_SLOT_LO.at k)).toNat
  let w := (w.wr pgCSTORE CSTORE_IDENT_ACT_PKG (lo 0)).wr pgCSTORE CSTORE_IDENT_ACT_PAIR (lo 1)
  let w := w.when (w.slotWritten 2) fun w =>
    (w.wr pgCSTORE CSTORE_LANES_ACT_LO (lo 2)).wr pgCSTORE CSTORE_LANES_ACT_HI (w.word (pgCSTORE + CSTORE_SLOT_HI.at 2)).toNat
  let w := w.when (w.slotWritten 3) fun w => (w.wr pgCSTORE CSTORE_CEIL_ACT_EN 1).wr pgCSTORE CSTORE_CEIL_ACT_VREADY_MAX (lo 3)
  if w.pairNo = 0 then w.wr pgTWIN TWIN_EPOCH 1
  else
    let w := w.each (upto 4) fun w n => (w.modRg n fun r => { r with standby := true }).twinRestart n
    w.wr pgTWIN TWIN_TSTAT_ROLE 1

/-- One dword of a record is applied as a host write would act, but that a shadow view or window sets both values and that
LOCK, SEAL and WO fields are not written (R485). CYC_EN stays 0 (R487). -/
def State.applyRecord (s : State) (e : Nat × Word) : State :=
  match shadowOf e.1 with
  | some (a, _) => s.onDev fun w => (w.rwsStore a e.2 Work.bothBits).1
  | none =>
    let o := e.1 % 0x1000
    match pageOf e.1 with
    | some (k, _) =>
      if o = HDR_LOCK_KEY.off ∨ 0x800 ≤ o ∨ (k = .rg ∧ o = RG_CYC_CTL.off) then s
      else s.hostStore e.1 (e.2 &&& ~~~(maskAt k o .wo))
    | none => s.hostStore e.1 e.2

/-- Step 8: the sealed values (R403, R486). -/
def Work.loadSealed (w : Work) (bs : List Byte) : Work :=
  let part := (bs.drop (leAt bs 0x14)).take (leAt bs 0x18)
  let w := w.sealLoad (if leAt bs 0x18 = 0 then [] else (sealRecords part).1)
  (w.wr pgHRT HRT_HSTAT_TABLE_OK 1).hearthShow

/-- What the loaded package configuration starts: window comparators, choppers, hub lanes and trip groups (R280, R344, R368). -/
def Work.startPackage (w : Work) : Work :=
  let w := w.each ((upto 64).filter fun k => w.on (pgWC k) WC_WCFG_EN) Work.wcStart
  let w := w.chopEvalAll
  (w.each (List.finRange 12) fun w l => w.laneEnable (hubLane l) (w.on pgSYSN SL_SLCTL_EN l.val)).tripShow

/-- What the loaded configuration of region `n` starts (R193, R198, R487). -/
def Work.startRegion (w : Work) (n : Nat) : Work := (w.each (upto 64) fun w q => (w.spInit n q).lpInit n q).unfenceRegion n

/-- The loaded sets are discarded (R489). -/
def Work.discardSets (w : Work) : Work :=
  let w := w.each ((w.regs.map Prod.fst).filter fun a => rwsMask a != 0) fun w a =>
    w.put a ((resetWord a &&& rwsMask a) ||| (w.word a &&& ~~~(rwsMask a)))
  w.dropShadow fun _ => true

/-- Steps 8 to 10 with the image in block `k`. -/
def State.imageLoad (s : State) (k : Nat) : State :=
  let bs := s.work.bootImage k
  let recs := (imgRecords bs).1
  let s := s.onDev fun w => (w.loadSealed bs).slotsRead
  let s := (recs.filter fun e => decide (e.1 < 0x1000000)).foldl State.applyRecord s
  let s := s.onDev fun w => w.each (upto 4) fun w n => w.zeroSlots n
  let open' (a : Nat) : Bool := (upto 4).any fun n => inRegion n a && !s.work.marked n
  let s := (recs.filter fun e => open' e.1).foldl State.applyRecord s
  s.onDev fun w =>
    let w := w.modKin fun q => { q with img := none, kept := if w.ember.marks = 0 then none else some k }
    let c := leAt bs 0x10
    if w.activeCrc = c then
      let w := (w.cleanPages fun _ => true).wr pgPKG PKG_ACTIVE_CRC c
      let w := w.startPackage.each ((upto 4).filter fun n => !w.marked n) Work.startRegion
      w.wr pgPKG PKG_KSTAT_STEP 11
    else
      let w := (w.discardSets.kFail 10 7).wr pgPKG PKG_KSTAT_STEP 7
      w.modKin fun q => { q with waitImg := true }

/-- Step 12 (R487). -/
def Work.kindled (w : Work) : Work :=
  if w.kindling && w.kStep == 11 then
    let late := (upto 48).any fun c => !w.marked (c / 12) && w.on (pgCLANE c) CLANE_CTL_EN && w.laneState c != 3
    let w := (w.wr pgPKG PKG_KSTAT_STEP 12).wr pgPKG PKG_KSTAT_DONE 1
    w.when late fun w => w.wr pgPKG PKG_KSTAT_LANES_LATE 1
  else w

/-! ### Commands -/

/-- BAR0 offset of RST_CTL. -/
def rstAddr : Nat := pgPKG + PKG_RST_CTL_KEY.at 0

/-- REGION_RESET (R15, R492). -/
def execRegionReset (rgs : BitVec 4) (s : State) : Host.Outcome State Fault Refusal :=
  nextDev s fun w => w.hostAct (.regionReset rgs) rstAddr fun w => w.regionReset rgs.toNat

/-- DIE_RESET (R16). -/
def execDieReset (dies : BitVec 2) (s : State) : Host.Outcome State Fault Refusal :=
  nextDev s fun w => w.hostAct (.dieReset dies) rstAddr fun w => w.dieReset dies.toNat

/-- REGION_RESET_DONE (R492). -/
def execRegionResetDone (n : Fin 4) (s : State) : Host.Outcome State Fault Refusal := nextDev s fun w => w.regionResetEnd n.val

/-- PKG_RESET (R491): nothing reaches the part in THERMAL_OFF or under PORST_N. -/
def execPkgReset (s : State) : Host.Outcome State Fault Refusal :=
  if s.dev.kin.thermalOff || s.dev.kin.porst then .next s
  else .next (s.hostAct .pkgReset rstAddr fun s => (s.pkgReset 2 1).onDev Work.kindle)

/-- PORST_N_FALL (R481, R509). -/
def execPorstNFall (s : State) : Host.Outcome State Fault Refusal :=
  .next ((s.pkgReset 1 1).onDev fun w => w.modKin fun k => { k with porst := true })

/-- PORST_N_RISE (R482, R487). -/
def execPorstNRise (strap : BitVec 2) (s : State) : Host.Outcome State Fault Refusal :=
  if s.dev.kin.porst then
    nextDev s fun w => ((w.modKin fun k => { k with porst := false }).strapAt strap.toNat).kindle
  else .next s

/-- HEARTH_SELF_CHECK_DONE (R487, R489). -/
def execHearthSelfCheckDone (ok : Bool) (s : State) : Host.Outcome State Fault Refusal :=
  .next (s.onDev fun w => w.selfCheck ok).kAdvance

/-- LOCKED_SET (R138, R487, R489): a Kindling that waits for it goes on. -/
def execLockedSet (s : State) : Host.Outcome State Fault Refusal :=
  .next (s.onDev fun w => w.wr pgSPLL SPLL_STAT_LOCKED 1).kAdvance

/-- KINDLING_PLL_TIMEOUT (R489). -/
def execKindlingPllTimeout (s : State) : Host.Outcome State Fault Refusal :=
  nextDev s fun w => if w.kindling && w.kStep == 4 && !w.on pgSPLL SPLL_STAT_LOCKED then w.kFail 4 2 else w

/-- PCIE_LINK_UP (R487, R556): only with PCIE_PERST_N high. -/
def execPcieLinkUp (s : State) : Host.Outcome State Fault Refusal :=
  if s.dev.kin.perst || s.dev.kin.porst || s.dev.kin.thermalOff then .next s
  else .next (s.onDev fun w => w.modKin fun k => { k with link := true }).kAdvance

/-- DRAM_TRAINED (R438, R487, R489): a failure stops Kindling. -/
def execDramTrained (ok : Bool) (s : State) : Host.Outcome State Fault Refusal :=
  let w := s.work
  if w.kindling && decide (w.kStep ≤ 6) && !(w.on pgPKG PKG_KSTAT_FAIL && w.rd pgPKG PKG_KSTAT_FAIL_CAUSE == 3) then
    if ok then .next (s.onDev fun w => w.modKin fun k => { k with dram := true }).kAdvance
    else .next (s.onDev fun w => w.kFail 6 3)
  else .next s

/-- BOOT_IMAGE_READ (R483): the bytes at the flash address read, or none if the flash does not answer. -/
def execBootImageRead (img : Option (List Byte)) (s : State) : Host.Outcome State Fault Refusal :=
  nextDev s fun w => w.flashRead img

/-- KCTL_IMG_GO (R484). -/
def execKctlImgGo (img : BitVec 8) (s : State) : Host.Outcome State Fault Refusal :=
  nextDev s fun w => w.hostAct (.kctlImgGo img) (pgPKG + PKG_KCTL_IMG_GO.at 0) fun w => w.imgGo img.toNat

/-- IMAGE_LOAD (R485, R486). -/
def execImageLoad (s : State) : Host.Outcome State Fault Refusal :=
  match s.dev.kin.img with
  | some k => if s.work.kindling && s.work.kStep == 8 then .next (s.imageLoad k) else .next s
  | none => .next s

/-- KINDLING_COMPLETE (R487). -/
def execKindlingComplete (s : State) : Host.Outcome State Fault Refusal := nextDev s Work.kindled

/-- PCIE_PERST_FALL (R556): the HOST page resets with the endpoint. -/
def execPciePerstFall (s : State) : Host.Outcome State Fault Refusal :=
  nextDev s fun w => (w.dropRegs fun a => a / 0x1000 == pgHOST / 0x1000).modKin fun k => { k with perst := true, link := false }

/-- PCIE_PERST_RISE (R556): the link trains anew. -/
def execPciePerstRise (s : State) : Host.Outcome State Fault Refusal :=
  nextDev s fun w => w.modKin fun k => { k with perst := false }

/-- THERMAL_OFF_ENTRY (R506): 250 microseconds after a shutdown reaction. -/
def execThermalOffEntry (s : State) : Host.Outcome State Fault Refusal :=
  if s.dev.kin.shutdown then .next s.thermalOff else .next s

/-- THERMAL_RESTART (R507): every good sensor has stayed below 115 degrees for 1.0 s. -/
def execThermalRestart (s : State) : Host.Outcome State Fault Refusal :=
  let w := s.work
  if w.kin.thermalOff && (w.goodOf (upto 14)).all fun i => decide (w.temp i < 460) then .next ((s.pkgReset 3 2).onDev Work.kindle) else .next s

end Sys2Proof.Machine
end

