-- ==== Sys2Proof/Machine/SysNet.lean ====
section
/-! DEFINITION. The system network (R458 to R478): lanes, packets and forwarding, trips, network time, scheduled swaps and
plans, masks, points, and remote access. -/

namespace Sys2Proof.Machine

/-! ### Lanes (R459) -/

/-- A good LINK packet from the neighbour: the second since SYNC takes the lane to UP. -/
def Work.linkIn (w : Work) (l : Fin 12) (pkg port : Nat) : Work :=
  let i := l.val
  let st := w.rd pgSYSN SL_SLSTAT_STATE i
  if st = 2 ∨ st = 3 then
    let w := w.count pgSYSN SL_RX_PKTS 1 i
    let w := w.when (decide (i < 8)) fun w => (w.wr pgSYSN SL_SLSTAT_NBR_PKG pkg i).wr pgSYSN SL_SLSTAT_NBR_PORT port i
    let w := w.modSl i fun s => { s with links := min (s.links + 1) 2 }
    if st = 2 ∧ (w.sln i).links = 2 then
      let w := w.wr pgSYSN SL_SLSTAT_STATE 3 i
      if i < 8 then w else w.hello
    else w
  else w

/-- A LINK packet of this side: ASL-S on a system lane, ASL-T on a twin lane (R415, R459). -/
def Work.linkSend (w : Work) (i : Nat) : Work :=
  let st := w.rd pgSYSN SL_SLSTAT_STATE i
  if st = 2 ∨ st = 3 then
    if i < 8 then
      let q := w.nextSeq 1
      q.1.slEnq i (q.1.mkPkt 1 0xC000 q.2 [w32 (i * 2 ^ 28 + w.pkgNo)]) false
    else (w.twinSend 8 0 0 0 [w32 (i - 8)]).count pgSYSN SL_TX_PKTS 1 i
  else w

/-! ### Receiving and forwarding (R462 to R464) -/

/-- A received packet is discarded as bad (R462); an aborted one raises no fault. -/
def Work.badPkt (w : Work) (port : Nat) (fault : Bool) : Work :=
  let w := w.count pgSYSN SL_BAD_COUNT 1 port
  if fault then w.flt pgSYSN .ce 17 else w

/-- A length or type that no good packet has (R460, R461). -/
def pktOdd (k : Pkt) : Bool := (pktPrio k.type.toNat).isNone || decide (128 < k.payload.length)

/-- The ports on which a packet from port `arr` is passed on (R463); a unicast packet for another package leaves by one. -/
def Work.outPorts (w : Work) (k : Pkt) (arr : Nat) : List Nat :=
  if pktKind k = 0 then (if pktDest k = w.pkgNo then [] else (w.routePort (pktDest k)).toList)
  else if pktKind k = 3 then []
  else if k.type == 0x10 then (if w.tripNew k then w.floodPorts k (some arr) else [])
  else if bitOf (w.rd pgSYSN SYSN_NCFG_FLOOD) arr then w.floodPorts k (some arr) else []

/-- Pass a good packet on; one that would leave without hops is discarded (R463 item 5). -/
def Work.forward (w : Work) (k : Pkt) (arr : Nat) : Work :=
  let other := pktKind k == 0 && pktDest k != w.pkgNo
  let ports := w.outPorts k arr
  if !other && ports.isEmpty then w
  else if k.hops.toNat ≤ 1 then (w.count pgSYSN SYSN_HOPX_COUNT).flt pgSYSN .ce 19
  else
    let k := { k with hops := k.hops - 1 }
    if other then w.unicast k false
    else (w.when (k.type == 0x10) fun w => w.tripMark k).each ports fun w p => w.slEnq p k false

/-- A packet that fails after its header has been checked: a copy whose transmission has begun ends with K30.7 (R464). -/
def Work.forwardCut (w : Work) (k : Pkt) (arr : Nat) : Work :=
  if k.hops.toNat ≤ 1 then w
  else w.each ((w.outPorts k arr).filter fun p => (w.sln p).queue.isEmpty) fun w p => w.slEnq p { k with hops := k.hops - 1 } true

/-- A good packet at time `at16` on port `arr`: it is delivered and passed on (R463). -/
def Work.goodPkt (w : Work) (arr : Nat) (k : Pkt) (at16 : Int) : Work :=
  let w := w.count pgSYSN SL_RX_PKTS 1 arr
  let kind := pktKind k
  let onTree := k.type == 0x10 || bitOf (w.rd pgSYSN SYSN_NCFG_FLOOD) arr
  let mine := kind == 3 || (kind == 0 && pktDest k == w.pkgNo) ||
    (onTree && (kind == 2 || (kind == 1 && w.inGroup (pktDest k))))
  let w := w.when mine fun w => w.deliver (some arr) k at16
  w.forward k arr

/-- A packet arrives (R462 to R464); an armed injection is made at its CRC-32 check (R399, R477). -/
def Work.pktIn (w : Work) (port : Fin 8) (k : Pkt) (chk : PktCheck) (at16 : Int) : Work :=
  let p := port.val
  let st := w.rd pgSYSN SL_SLSTAT_STATE p
  if st ≠ 2 ∧ st ≠ 3 then w
  else match chk with
    | .badHeader => w.badPkt p true
    | .aborted => (w.badPkt p false).forwardCut k p
    | .badBody => ((w.when (w.armedFor pgSYSN p) fun w => w.injDone pgSYSN false).badPkt p true).forwardCut k p
    | .good =>
      let w := w.when (w.armedFor pgSYSN p) fun w => w.injDone pgSYSN true
      if pktOdd k then w.badPkt p true
      else if k.type == 1 then
        let d := (k.payload.headD 0).toNat
        w.linkIn ⟨p, by omega⟩ (d % 1024) (d / 2 ^ 28 % 8)
      else if st = 3 then w.goodPkt p k at16
      else w

/-! ### Transmission (R464) -/

/-- The packet a port sends next: the most urgent class first, the oldest within it. -/
def nextOut (l : List OutPkt) : Option OutPkt :=
  match (l.map OutPkt.prio).foldl (fun m p => match m with
      | none => some p
      | some q => some (min p q)) none with
  | some p => l.find? fun o => o.prio == p
  | none => none

/-- A 44-bit time in two dwords (R468). -/
def stampWords (x : Int) : List Word := [w32 (n16Of x / 2 ^ 32), w32 (n16Of x)]

/-- The packet as its SOF leaves at time `t`: a TRESP carries t3, a TREQ's t1 is taken (R467). -/
def Work.pktLeave (w : Work) (p : Nat) (k : Pkt) (t : Int) : Work × Pkt :=
  if k.type == 3 then (w, { k with payload := k.payload.take 3 ++ stampWords t })
  else if k.type == 2 then
    (w.modNet fun n => { n with treq := n.treq.map fun x =>
      if x.1 = p ∧ x.2.1 = k.seq.toNat ∧ x.2.2.1.isNone then (x.1, x.2.1, some t, x.2.2.2) else x }, k)
  else (w, k)

/-- The bytes of a packet between SOF and EOF (R460). -/
def pktBytes (k : Pkt) : List Byte :=
  let two (n : Nat) : List Byte := [BitVec.ofNat 8 (n / 256), BitVec.ofNat 8 n]
  let head := [k.type, if k.coarse then 0x80#8 else 0#8] ++ two (4 * k.payload.length) ++ two k.dst.toNat ++ two k.src.toNat ++ [k.hops, k.seq]
  let body := head ++ two (crc16 head) ++ k.payload.flatMap beBytes
  body ++ beBytes (w32 (crc32 body))

/-- The symbols of a packet at the pins of port `p` (R458, R460), an aborted one as far as this package holds it. How many SKIP
sets have gone before, and so the running disparity at its SOF, is a free value. -/
def Work.pktLine (w : Work) (p : Nat) (k : Pkt) (aborted : Bool) : Work × List (BitVec 10) :=
  let q := w.freshWord
  let syms := symSof :: (pktBytes k).map Sym.d ++ [if aborted then symAbort else symEof]
  (q.1, atPins (w.on pgSYSN SL_SLCTL_TX_INV p) (encodeSyms (bitOf q.2.toNat 0) syms).1)

/-- A port sends a packet whose SOF leaves at time `t`. -/
def Work.pktOut (w : Work) (p : Nat) (t : Int) : Work :=
  let st := w.rd pgSYSN SL_SLSTAT_STATE p
  if st = 2 ∨ st = 3 then
    match nextOut (w.sln p).queue with
    | some o =>
      let q := (w.modSl p fun s => { s with queue := s.queue.erase o }).pktLeave p o.pkt t
      let l := (q.1.count pgSYSN SL_TX_PKTS 1 p).pktLine p q.2 o.bad
      l.1.emit (.packet p q.2 o.bad l.2)
    | none => w
  else w

/-- The oldest delivered packet of a type, taken. -/
def Work.takeIn (w : Work) (type : Nat) : Option (NetIn × Work) :=
  (w.net.inbox.find? fun i => i.pkt.type.toNat == type).map fun i => (i, w.modNet fun n => { n with inbox := n.inbox.erase i })

/-- Act on the oldest delivered packet of a type; without one nothing happens. -/
def Work.withIn (w : Work) (type : Nat) (f : Work → NetIn → Work) : Work :=
  match w.takeIn type with
  | some (i, w) => f w i
  | none => w

/-- Dword `i` of a payload. -/
def pay (k : Pkt) (i : Nat) : Nat := (k.payload.getD i 0).toNat

/-! ### System trips (R465, R466) -/

/-- TRIP_CMD: the host sets and ends assertions. -/
def Work.tripCmd (w : Work) (set clr : Nat) : Work :=
  (w.modNet fun n => { n with hostTrip := (BitVec.ofNat 16 (n.hostTrip ||| set) &&& ~~~(BitVec.ofNat 16 clr)).toNat }).tripShow

/-- A TRIP at a receiver. -/
def Work.tripIn (w : Work) (i : NetIn) : Work :=
  let m := pay i.pkt 0 % 2 ^ 16 &&& w.rd pgSYSN SYSN_TRIP_MEMB
  if bitOf (pay i.pkt 0) 31 ∧ m ≠ 0 then
    (w.count pgSYSN SYSN_TRIP_COUNT).wr pgSYSN SYSN_TRIP_STAT_RX (w.rd pgSYSN SYSN_TRIP_STAT_RX ||| m)
  else w

/-! ### Network time (R467 to R470) -/

/-- The port of the next exchange. -/
def Work.parentPort (w : Work) : Option Nat :=
  let a := w.rd pgSYSN SYSN_NCFG_PARENT
  let b := w.rd pgSYSN SYSN_NCFG_PARENT2
  if w.slUp a then some a else if w.slUp b then some b else none

/-- An exchange is due (R467, R469). -/
def Work.treqStart (w : Work) : Work :=
  let pg := pgSYSN
  if w.on pg SYSN_NCFG_GM then w
  else
    let w := w.modNet fun n => { n with ttAge := min (n.ttAge + 1) 11 }
    let w := w.when (decide (10 < w.net.ttAge)) fun w => w.wr pg SYSN_TSTAT_STRATUM 0xFF
    match w.parentPort with
    | none =>
      let was := w.on pg SYSN_TSTAT_PARENT_UP
      let w := w.wr pg SYSN_TSTAT_PARENT_UP 0
      let named := w.rd pg SYSN_NCFG_PARENT != 15 || w.rd pg SYSN_NCFG_PARENT2 != 15
      if named && (was || !bitOf (w.rd pg HDR_FLT_CAUSE) 7) then w.flt pg .uc 23 else w
    | some p =>
      let q := (w.wr pg SYSN_TSTAT_PARENT_UP 1).nextSeq 2
      let w := q.1
      let x := (p, q.2, none, w.rd pgTALLY TALLY_STAT_STEP_SEQ, w.on pgTALLY TALLY_STAT_HOLDOVER)
      (w.modNet fun n => { n with treq := n.treq ++ [x] }).slEnq p (w.mkPkt 2 0xC000 q.2 []) false

/-- A neighbour's TREQ is answered on its port (R467, R468); t3 is filled in as the answer leaves. -/
def Work.treqIn (w : Work) (i : NetIn) : Work :=
  match i.port with
  | none => w
  | some p =>
    let pg := pgSYSN
    let gm := w.on pg SYSN_NCFG_GM
    let unc := w.on pgTALLY TALLY_STAT_UNC_WIDE || w.on pgTALLY TALLY_STAT_HOLDOVER || (!gm && w.on pg SYSN_TSTAT_UNC)
    let d0 := b2n unc * 2 ^ 31 + (if gm then 0 else w.rd pg SYSN_TSTAT_STRATUM) * 2 ^ 16 +
      (if gm then w.pkgNo else w.rd pg SYSN_TSTAT_GMPKG)
    w.slEnq p (w.mkPkt 3 0xC000 i.pkt.seq.toNat ([w32 d0] ++ stampWords i.at16 ++ [0, 0])) false

/-- An exchange has been lost or rejected: four in a row are a fault (R469). -/
def Work.ttBad (w : Work) : Work :=
  let w := w.modNet fun n => { n with ttRun := min (n.ttRun + 1) 4 }
  if w.net.ttRun = 4 then (w.flt pgSYSN .ce 20).modNet fun n => { n with ttRun := 0 } else w

/-- The difference of two 44-bit times, signed. -/
def stampDiff (a b : Nat) : Int := toSigned 44 (n16Of ((a : Int) - b))

/-- A TRESP (R469). -/
def Work.trespIn (w : Work) (i : NetIn) : Work :=
  let pg := pgSYSN
  match w.net.treq.find? fun x => some x.1 == i.port && x.2.1 == i.pkt.seq.toNat && x.2.2.1.isSome with
  | none => w
  | some x =>
    let w := w.modNet fun n => { n with treq := n.treq.erase x }
    let t1 := n16Of (x.2.2.1.getD 0)
    let t2 := pay i.pkt 1 % 4096 * 2 ^ 32 + pay i.pkt 2
    let t3 := pay i.pkt 3 % 4096 * 2 ^ 32 + pay i.pkt 4
    let t4 := n16Of i.at16
    let turn := stampDiff t3 t2
    if 320000 < turn ∨ turn < 0 ∨ w.rd pgTALLY TALLY_STAT_STEP_SEQ ≠ x.2.2.2.1 then (w.count pg SYSN_TT_REJ).ttBad
    else
      let d0 := pay i.pkt 0
      let a := roundR (w.rdS pg SL_ASYM_PS x.1 * 16 / 1000 : Rat)
      let fwd := stampDiff t2 t1
      let back := stampDiff t4 t3
      let w := (w.wr pg SYSN_TOFS (ofSigned 32 (roundR ((fwd - back - a : Int) / 2 : Rat)))).wr pg SYSN_TMPD
        (ofSigned 24 (roundR ((fwd + back : Int) / 2 : Rat)))
      let w := (w.wr pg SYSN_TSTAT_FRESH 1).wr pg SYSN_TSTAT_UNC (d0 / 2 ^ 31)
      let w := (w.wr pg SYSN_TSTAT_GMPKG (d0 % 1024)).wr pg SYSN_TSTAT_STRATUM (min (d0 / 2 ^ 16 % 256 + 1) 0xFF)
      let w := (w.wr pg SYSN_TSTAT_PORT x.1).wr pg SYSN_TSTAT_COARSE (b2n (x.2.2.2.2 || w.on pgTALLY TALLY_STAT_HOLDOVER))
      (w.wr pg SYSN_TT_T_NS (timeOf16 i.at16).ns).modNet fun n => { n with ttRun := 0, ttAge := 0 }

/-- The oldest exchange has had no answer for 50 µs (R469). -/
def Work.treqLost (w : Work) : Work :=
  match w.net.treq.find? fun x => x.2.2.1.isSome with
  | some x => ((w.modNet fun n => { n with treq := n.treq.erase x }).count pgSYSN SYSN_TT_LOST).ttBad
  | none => w

/-! ### Scheduled swaps and the phase plan (R471, R472) -/

/-- A REPORT to package `p`. -/
def Work.report (w : Work) (p code kind : Nat) : Work := w.netSend 0x14 p [w32 (code * 2 ^ 24 + kind * 2 ^ 22 + w.pkgNo)]

/-- SCMD.SWAP_GO. -/
def Work.swapSend (w : Work) : Work :=
  w.netSend 0x11 (w.rd pgSYSN SYSN_SWAP_DST) [w32 (w.rd pgPKG PKG_SWAP_TH), w32 (w.rd pgPKG PKG_SWAP_TL), w32 (w.rd pgPKG PKG_SWAP_TNS)]

/-- A SWAP at a receiver. -/
def Work.swapIn (w : Work) (i : NetIn) : Work :=
  let src := i.pkt.src.toNat
  let d : Time := ⟨pay i.pkt 0 % 2 ^ 16 * 2 ^ 32 + pay i.pkt 1, pay i.pkt 2 % 2 ^ 30, 0⟩
  if !w.on pgSYSN SYSN_NCFG_SWAP_EN then w.report src 0x82 1
  else if t16 d - i.at16 < 24000000 then w.report src 0x0B 1
  else if !w.canArm then w.report src 0x81 1
  else
    let w := ((w.wr pgPKG PKG_SWAP_TH (d.s / 2 ^ 32)).wr pgPKG PKG_SWAP_TL d.s).wr pgPKG PKG_SWAP_TNS d.ns
    (w.modNet fun n => { n with swapFrom := some src }).swapArm

/-- SCMD.PLAN_GO. -/
def Work.planSend (w : Work) : Work :=
  w.netSend 0x12 0x8000 [w32 (w.rd pgSYSN SYSN_PLAN_TX), w32 (w.rd pgPKG PKG_E0_S_HI), w32 (w.rd pgPKG PKG_E0_S_LO),
    w32 (w.rd pgPKG PKG_E0_NS)]

/-- A PLAN at a receiver. -/
def Work.planIn (w : Work) (i : NetIn) : Work :=
  let pg := pgSYSN
  let src := i.pkt.src.toNat
  let w := w.wr pg SYSN_PLAN_STAT_SRC src
  if !w.on pg SYSN_NCFG_PLAN_EN then w.report src 0x82 2
  else if w.cycRegions.isEmpty then
    let w := ((w.wr pgPKG PKG_E0_S_HI (pay i.pkt 1)).wr pgPKG PKG_E0_S_LO (pay i.pkt 2)).wr pgPKG PKG_E0_NS (pay i.pkt 3)
    ((w.wr pg SYSN_PLAN_STAT_APPLIED 1).wr pg SYSN_PLAN_RX (pay i.pkt 0)).report src 0 2
  else (w.wr pg SYSN_PLAN_STAT_REFUSED 1).report src 0x83 2

/-- A REPORT at the originator. -/
def Work.reportIn (w : Work) (i : NetIn) : Work :=
  let pg := pgSYSN
  let d := pay i.pkt 0
  let code := d / 2 ^ 24
  let w := if code = 0 ∨ code = 0x80 then w.count pg SYSN_RPT_OK else w.count pg SYSN_RPT_ERR
  ((w.wr pg SYSN_RPT_LAST_CODE code).wr pg SYSN_RPT_LAST_KIND (d / 2 ^ 22)).wr pg SYSN_RPT_LAST_PKG d

/-! ### Masks and points (R257, R473, R474) -/

/-- Four dwords, lowest first, as 128 bits. -/
def maskOf (k : Pkt) (i : Nat) : Nat := ((upto 4).map fun j => pay k (i + j) * 2 ^ (32 * j)).sum

/-- A MASK at a receiver: it waits for the next boundary of each region (R257 item 3). -/
def Work.maskIn (w : Work) (i : NetIn) : Work :=
  let sg := pay i.pkt 0 % 1024
  let src := i.pkt.src.toNat
  let used := (upto 4).any fun n => (upto 4).any fun g => w.on (pgRG n) RG_CGRP_EN g && w.rd (pgRG n) RG_CGRP_SGID g == sg
  if src = w.pkgNo ∨ ¬ used then w
  else
    let mem := maskOf i.pkt 1
    let act := maskOf i.pkt 5 &&& mem
    w.modNet fun n =>
      let old := (n.masks.find? fun m => m.src == src && m.sgid == sg).getD ⟨src, sg, 0, 0⟩
      let kept := (BitVec.ofNat 128 old.active &&& ~~~(BitVec.ofNat 128 mem)).toNat
      { n with masks := n.masks.filter (fun m => !(m.src == src && m.sgid == sg)) ++ [⟨src, sg, old.members ||| mem, kept ||| act⟩] }

/-- The time nearest now whose seconds end in `s`. -/
def Work.nearTime (w : Work) (ns s : Nat) : Int :=
  let sec : Int := (w.now.s : Int) + toSigned 32 ((((s : Int) - w.now.s) % (2 ^ 32 : Nat)).toNat)
  (sec * 1000000000 + ns) * 16

/-- A point's value reaches point slot `j` of region `n` (R178, R474): for the cycle whose input deadline is the next; one too old
for that is late for the cycle shown if it would have been recent enough there (R181). -/
def Work.pointFile (w : Work) (n j : Nat) (v : Word) (tb : Int) : Work :=
  let r := w.rg n
  let k := 256 + j
  let age : Int := (w.rd (pgABC n) ABC_PSLOT_MAXAGE j + 1 : Nat) * w.period16 n
  if w.rgFenced n then w.discard
  else
    let cur := r.run && w.phase n == 1
    let start := if cur then some r.t0 else r.nextB
    match start with
    | none => w
    | some b =>
      if tb < b - age then
        w.fileLate n k v (match r.tShown with
          | some x => decide (x - age ≤ tb)
          | none => false)
      else
        let q := filedAdd (if cur then r.fillCur else r.fillNext) ⟨k, v, false, ts24 tb⟩
        if q.2 then w.count (pgABC n) ABC_DUP_COUNT
        else w.modRg n fun r =>
          let pt := r.ptTime.filter (fun (e : Nat × Int) => e.1 != j) ++ [(j, tb)]
          if cur then { r with ptTime := pt, fillCur := q.1 } else { r with ptTime := pt, fillNext := q.1 }

/-- A POINT at a receiver: every point slot bound to one of its points takes the value. -/
def Work.pointIn (w : Work) (i : NetIn) : Work :=
  w.each (chunks 4 (i.pkt.payload.length / 4) i.pkt.payload) fun w e =>
    let pt := (e.getD 0 0).toNat % 2 ^ 20
    let tb := w.nearTime ((e.getD 2 0).toNat % 2 ^ 30) (e.getD 3 0).toNat
    w.each (upto 4) fun w n =>
      w.each ((upto 256).filter fun j => w.on (pgABC n) ABC_PSLOT_EN j && w.rd (pgABC n) ABC_PSLOT_POINT j == pt) fun w j =>
        w.pointFile n j (e.getD 1 0) tb

/-! ### Remote access (R475, R528, R529) -/

/-- SCMD.RA_GO. -/
def Work.raStart (w : Work) : Work :=
  let pg := pgSYSN
  if w.on pg SYSN_RA_STAT_BUSY then w.badval pg
  else
    let q := (w.nextSeq 0x30).2
    let wr := w.on pg SYSN_RA_PKG_WRITE
    let w := (w.wr pg SYSN_RA_STAT_BUSY 1).modNet fun n => { n with ra := some (q, wr) }
    w.netSend 0x30 (w.rd pg SYSN_RA_PKG_PKG) [w32 (b2n wr * 2 ^ 31 + w.rd pg SYSN_RA_OFS), w.word (pg + SYSN_RA_DATA.off)]

/-- A grant names package `p` and is valid (R529). -/
def Work.granted (w : Work) (p : Nat) : Bool :=
  (upto 4).any fun g => w.on pgSEC SEC_RGNT_EN g && w.rd pgSEC SEC_RGNT_PKG g == p && w.on pgTALLY TALLY_STAT_TIME_SET &&
    decide (w.now.s % 2 ^ 32 < w.rd pgSEC SEC_RGNT_EXP g)

/-- Offset `a` is one a remote access may reach (R475 item 1, R528). -/
def remoteReach (a : Nat) : Bool :=
  match windowOf a with
  | some (.secShadow _) | some .pdirShadow => true
  | some _ => false
  | none => match pageOf a with
    | some (k, _) => k.remoteOk && decide (0x840 ≤ a % 0x1000)
    | none => false

/-- What a remote access gets: the state after it, its STATUS and the data read. -/
def Work.remote (w : Work) (src a : Nat) (write : Bool) (d : Word) : Work × Nat × Word :=
  let grant := w.granted src
  if !(w.on pgSYSN SYSN_NCFG_REM_EN && remoteReach a && grant) then
    let w := w.count pgSYSN SYSN_RA_DENY
    (w.when (!grant) fun w => w.count pgSEC SEC_RA_NOGRANT, 3, 0)
  else match w.gate a write with
    | some (_, busy) => (w.fenceCount busy, if busy then 1 else 2, 0)
    | none =>
      let w := w.count pgSEC SEC_RA_SERVED
      match shadowOf a with
      | none => (w, 0, 0)
      | some (act, pg) =>
        if write then let q := w.shadowWrite act pg d; (q.1, if q.2 then 4 else 0, 0) else (w, 0, w.shadowRead act)

/-- An RREQ at its target. -/
def Work.rreqIn (w : Work) (i : NetIn) : Work :=
  let d := pay i.pkt 0
  let src := i.pkt.src.toNat
  let q := w.remote src (d % 2 ^ 25 / 4 * 4) (bitOf d 31) (i.pkt.payload.getD 1 0)
  q.1.unicast (q.1.mkPkt 0x31 src i.pkt.seq.toNat [w32 q.2.1, q.2.2]) false

/-- The remote access ends with a status. -/
def Work.raEnd (w : Work) (status : Nat) : Work :=
  let pg := pgSYSN
  (((w.wr pg SYSN_RA_STAT_BUSY 0).wr pg SYSN_RA_STAT_DONE 1).wr pg SYSN_RA_STAT_STATUS status).modNet fun n => { n with ra := none }

/-- An RRSP at the requester. -/
def Work.rrspIn (w : Work) (i : NetIn) : Work :=
  match w.net.ra with
  | some (s, wr) =>
    if s = i.pkt.seq.toNat then
      let w := w.when (!wr) fun w => w.wr pgSYSN SYSN_RA_DATA (pay i.pkt 1)
      w.raEnd (pay i.pkt 0 % 8)
    else w
  | none => w

/-! ### Commands -/

/-- SL_LINK_RECEIVED (R459). -/
def execSlLinkReceived (l : Fin 12) (pkg : BitVec 10) (port : Fin 8) (s : State) : Host.Outcome State Fault Refusal :=
  nextDev s fun w => w.linkIn l pkg.toNat port.val

/-- SL_LINK_REPEAT (R459). -/
def execSlLinkRepeat (l : Fin 12) (s : State) : Host.Outcome State Fault Refusal := nextDev s fun w => w.linkSend l.val

/-- SL_NOLINK_TIMEOUT (R459): no good LINK packet for 30 µs. -/
def execSlNolinkTimeout (l : Fin 12) (s : State) : Host.Outcome State Fault Refusal := nextDev s fun w => w.laneLoss (hubLane l) 3

/-- SL_PACKET_RECEIVED (R462 to R464): its SOF arrives `sub` sixteenths of a nanosecond after this tick. -/
def execSlPacketReceived (port : Fin 8) (p : Pkt) (chk : PktCheck) (sub : Fin 40) (s : State) : Host.Outcome State Fault Refusal :=
  nextDev s fun w => w.pktIn port p chk (t16 w.now + sub.val)

/-- SL_PACKET_TRANSMIT (R464, R467). -/
def execSlPacketTransmit (port : Fin 8) (sub : Fin 40) (s : State) : Host.Outcome State Fault Refusal :=
  nextDev s fun w => w.pktOut port.val (t16 w.now + sub.val)

/-- SYS_TRIP_SET (R465). -/
def execSysTripSet (groups : BitVec 16) (s : State) : Host.Outcome State Fault Refusal :=
  nextDev s fun w => w.hostAct (.sysTripSet groups) (pgSYSN + SYSN_TRIP_CMD_SET.at 0) fun w => w.tripCmd groups.toNat 0

/-- SYS_TRIP_CLR (R465). -/
def execSysTripClr (groups : BitVec 16) (s : State) : Host.Outcome State Fault Refusal :=
  nextDev s fun w => w.hostAct (.sysTripClr groups) (pgSYSN + SYSN_TRIP_CMD_CLR.at 0) fun w => w.tripCmd 0 groups.toNat

/-- SYS_TRIP_REPEAT (R465). -/
def execSysTripRepeat (s : State) : Host.Outcome State Fault Refusal :=
  nextDev s fun w => if w.on pgSYSN SYSN_TRIP_STAT_TX then w.tripSend true (w.rd pgSYSN SYSN_TRIP_STAT_TX) else w

/-- SYS_TRIP_RECEIVED (R466). -/
def execSysTripReceived (s : State) : Host.Outcome State Fault Refusal := nextDev s fun w => w.withIn 0x10 Work.tripIn

/-- SYS_TRIP_TIMEOUT (R466): the group's 1.0 ms timer ends. -/
def execSysTripTimeout (g : Fin 16) (s : State) : Host.Outcome State Fault Refusal :=
  nextDev s fun w => w.clrBit pgSYSN SYSN_TRIP_STAT_RX g.val

/-- SYS_TREQ_START (R467). -/
def execSysTreqStart (s : State) : Host.Outcome State Fault Refusal := nextDev s Work.treqStart

/-- TREQ_RECEIVED (R467). -/
def execTreqReceived (s : State) : Host.Outcome State Fault Refusal := nextDev s fun w => w.withIn 2 Work.treqIn

/-- TRESP_RECEIVED (R469). -/
def execTrespReceived (s : State) : Host.Outcome State Fault Refusal := nextDev s fun w => w.withIn 3 Work.trespIn

/-- SYS_EXCHANGE_LOST (R469). -/
def execSysExchangeLost (s : State) : Host.Outcome State Fault Refusal := nextDev s Work.treqLost

/-- SWAP_GO (R471). -/
def execSwapGo (s : State) : Host.Outcome State Fault Refusal :=
  nextDev s fun w => w.reach (pgSYSN + SYSN_SCMD_SWAP_GO.at 0) Work.swapSend

/-- SWAP_PACKET_RECEIVED (R471). -/
def execSwapPacketReceived (s : State) : Host.Outcome State Fault Refusal := nextDev s fun w => w.withIn 0x11 Work.swapIn

/-- PLAN_GO (R472). -/
def execPlanGo (s : State) : Host.Outcome State Fault Refusal :=
  nextDev s fun w => w.hostAct .planGo (pgSYSN + SYSN_SCMD_PLAN_GO.at 0) Work.planSend

/-- PLAN_RECEIVED (R472). -/
def execPlanReceived (s : State) : Host.Outcome State Fault Refusal := nextDev s fun w => w.withIn 0x12 Work.planIn

/-- REPORT_RECEIVED (R472). -/
def execReportReceived (s : State) : Host.Outcome State Fault Refusal := nextDev s fun w => w.withIn 0x14 Work.reportIn

/-- RPT_RST (R477). -/
def execRptRst (s : State) : Host.Outcome State Fault Refusal :=
  nextDev s fun w => w.hostAct .rptRst (pgSYSN + SYSN_SCMD_RPT_RST.at 0) fun w => w.put (pgSYSN + SYSN_RPT_LAST_CODE.off) 0

/-- MASK_RECEIVED (R257, R473). -/
def execMaskReceived (s : State) : Host.Outcome State Fault Refusal := nextDev s fun w => w.withIn 0x13 Work.maskIn

/-- POINT_RECEIVED (R474). -/
def execPointReceived (s : State) : Host.Outcome State Fault Refusal := nextDev s fun w => w.withIn 0x20 Work.pointIn

/-- RA_GO (R475). -/
def execRaGo (s : State) : Host.Outcome State Fault Refusal :=
  nextDev s fun w => w.hostAct .raGo (pgSYSN + SYSN_SCMD_RA_GO.at 0) Work.raStart

/-- RREQ_RECEIVED (R475). -/
def execRreqReceived (s : State) : Host.Outcome State Fault Refusal := nextDev s fun w => w.withIn 0x30 Work.rreqIn

/-- RRSP_RECEIVED (R475). -/
def execRrspReceived (s : State) : Host.Outcome State Fault Refusal := nextDev s fun w => w.withIn 0x31 Work.rrspIn

/-- RA_TIMEOUT (R475): no RRSP within 100 µs. -/
def execRaTimeout (s : State) : Host.Outcome State Fault Refusal := nextDev s fun w => if w.net.ra.isSome then w.raEnd 6 else w

end Sys2Proof.Machine
end

