-- ==== Sys2Proof/Machine/Host.lean ====
section
/-! DEFINITION. Host accesses (R47 to R52, R63, R64, R107 to R115): what a write of WO fields commands, what a read returns
and does, and the BAR2 and BAR4 windows. -/

namespace Sys2Proof.Machine

/-! ### Flags (R51, R52, R115) -/

/-- An access is flagged in HOST.ACC_ERR; the first since all flags were zero is recorded. -/
def Work.accErr (w : Work) (flag : Field) (bar off : Nat) : Work :=
  let clear := w.rd pgHOST { HOST_ACC_ERR_UNMAPPED with wid := 5 } == 0
  let w := w.when clear fun w => (w.wr pgHOST HOST_ACC_ADDR_BAR bar).wr pgHOST HOST_ACC_ADDR_OFFSET off
  w.wr pgHOST flag 1

/-- A BAR0 offset lies in an implemented page or window (R48). -/
def mapped (a : Nat) : Bool := (pageOf a).isSome || (windowOf a).isSome

/-! ### Commands of WO fields (R6) -/

/-- A write of INJ (R63, R64): ignored whole on a locked page; ARM arms unless an injection is armed. -/
def Work.injWrite (w : Work) (k : PageKind) (inst pg : Nat) (x : Word) : Work :=
  let locked := w.on pg HDR_LOCK_LOCKED
  let w := w.activeWrite k inst pg 0x18 x
  w.when (k.hasInj && !locked && HDR_INJ_ARM.get x == 1) fun w => w.wr pg HDR_INJ_ARMED 1

/-- A write of LOCK (R64); any other key is undefined. -/
def Work.lockWrite (w : Work) (pg : Nat) (x : Word) : Work :=
  if HDR_LOCK_KEY.get x = 0x4C4B then w.wr pg HDR_LOCK_LOCKED 1 else w.badval pg

/-- SWAP (R69, R71, R78); more than one command in a write is taken as undefined. -/
def Work.swapWrite (w : Work) (x : Word) : Work :=
  match x.toNat % 8 with
  | 0 => w
  | 1 => w.swapArm
  | 2 => w.swapDisarm
  | 4 => w.setcopy
  | _ => w.badval pgPKG

/-- BCTL (R511, R518, R520). -/
def Work.bctlWrite (w : Work) (x : Word) : Work :=
  let w := w.each ((upto 4).filter (bitOf (BIST_BCTL_ABORT.get x))) fun w n => w.bistAbort n true
  let w := w.when (BIST_BCTL_GO.get x != 0) fun w => w.bistGo (BIST_BCTL_GO.get x)
  let hub := BIST_BCTL_HUB_LBIST.get x == 1
  let hrt := BIST_BCTL_HRT_LBIST.get x == 1
  if !hub && !hrt then w
  else if (hub && hrt) || BIST_BCTL_KEY.get x != 0x4253 then w.badval pgBIST
  else w.lbistGo hub

/-- SCTL (R522, R524). -/
def Work.sctlWrite (w : Work) (x : Word) : Work :=
  let prog := SEC_SCTL_PROG.get x == 1
  let zero := SEC_SCTL_ZEROISE.get x == 1
  if prog && !zero && SEC_SCTL_KEY.get x == 0x4B50 then w.keyProg
  else if zero && !prog && SEC_SCTL_KEY.get x == 0x5A45 then w.zero 4
  else w.badval pgSEC

/-- QCMD (R444 to R447): the commands of one write in ascending bit order. -/
def Work.qcmdWrite (w : Work) (q : Nat) (x : Word) : Work :=
  let c (f : Field) := f.get x == 1
  let w := w.qCheck q false
  let w := (w.when (c EQ_QCMD_NEXT) fun w => w.qNext q).when (c EQ_QCMD_RELEASE) fun w => w.qRelease q
  let w := (w.when (c EQ_QCMD_MARK) fun w => w.qMark q).when (c EQ_QCMD_REWIND) fun w => w.qRewind q
  (w.when (c EQ_QCMD_QRESET) fun w => w.qReset q).when (c EQ_QCMD_PEAK_RST) fun w => w.qPeakRst q

/-- CLU CMD (R245): an undefined code is ignored (R10). -/
def Work.cmdWrite (w : Work) (c : Nat) (x : Word) : Work :=
  let code := CLU_CMD.get x
  if 1 ≤ code ∧ code ≤ 9 then w.clusterCmd c code else w.badval (pgCLU c)

/-- The WO fields of register `o` of a page, written with `x`, but RST_CTL and STEP_CTL. -/
def Work.woWrite (w : Work) (k : PageKind) (inst pg o : Nat) (x : Word) : Work :=
  let bit (f : Field) := f.get x == 1
  match k with
  | .pkg =>
    if o = PKG_SWAP_ARM.off then w.swapWrite x
    else w.when (o == PKG_KCTL_IMG_GO.off && bit PKG_KCTL_IMG_GO) fun w => w.imgGo (w.rd pgPKG PKG_KCTL_IMG)
  | .hrt =>
    if o = HRT_REL_GO.off then w.when (bit HRT_REL_GO) fun w => w.release (bit HRT_REL_PLEA)
    else w.when (o == HRT_SUPD_CTL_GO.off && bit HRT_SUPD_CTL_GO) fun w => w.supdGo (w.rd pgHRT HRT_SUPD_CTL_IMG)
  | .ad =>
    if o = AD_NCMD_GO.off then w.when (bit AD_NCMD_GO) fun w => w.adcNormal inst ⟨AD_NCMD_CH.get x, .host, false⟩
    else if o = AD_UCMD_GO.off then w.when (bit AD_UCMD_GO) fun w => w.adcUcmd inst (AD_UCMD_CH.get x)
    else w.when (o == AD_ACTL.off && bit AD_ACTL) fun w => w.adcCal inst
  | .wc => w.when (o == WC_WST_CTL.off && bit WC_WST_CTL) fun w => w.wcTest inst
  | .twin =>
    if o = TWIN_TCMD_TAKE.off then
      (w.when (bit TWIN_TCMD_TAKE) fun w => w.take (bit TWIN_TCMD_FORCE)).when (bit TWIN_TCMD_HANDOVER) Work.handover
    else w
  | .sysn =>
    if o = SYSN_TRIP_CMD_SET.off then w.tripCmd (SYSN_TRIP_CMD_SET.get x) (SYSN_TRIP_CMD_CLR.get x)
    else if o = SYSN_SCMD_PLAN_GO.off then
      let w := (w.when (bit SYSN_SCMD_PLAN_GO) Work.planSend).when (bit SYSN_SCMD_SWAP_GO) Work.swapSend
      (w.when (bit SYSN_SCMD_RA_GO) Work.raStart).when (bit SYSN_SCMD_RPT_RST) fun w => w.put (pgSYSN + SYSN_RPT_LAST_CODE.off) 0
    else w.each ((List.finRange 12).filter fun l => o == SL_SLCMD_RETRAIN.at l.val) fun w l =>
      (w.when (bit SL_SLCMD_RETRAIN) fun w => w.slRetrain l).when (bit SL_SLCMD_FOM_RST) fun w => w.wr pgSYSN SL_SLFOM_FOM_MIN 0xFF l.val
  | .eq => if o = EQ_QCMD_NEXT.off then w.qcmdWrite inst x else if o = EQ_POST.off then (w.qCheck inst false).qPost inst x else w
  | .recorder =>
    if o = REC_RCTL_TRIG.off then
      let w := (w.when (bit REC_RCTL_TRIG) fun w => w.recTrigger 0 true).when (bit REC_RCTL_REARM) Work.recRearm
      w.when (bit REC_RCTL_STOP) fun w => w.recFreeze 2
    else w
  | .therm => w.when (o == THERM_TCMD.off && bit THERM_TCMD) Work.peakReset
  | .bist => if o = BIST_BCTL_GO.off then w.bctlWrite x else if o = BIST_UMARK_KEY.off then w.umark (BIST_UMARK_KEY.get x) (BIST_UMARK_RG.get x) else w
  | .cstore => w.when (o == CSTORE_WCTL_GO.off && bit CSTORE_WCTL_GO) fun w => w.cstoreGo (w.rd pgCSTORE CSTORE_WCTL_SLOT)
  | .sec => if o = SEC_SCTL_KEY.off then w.sctlWrite x else if (SEC_KEYW.index? o).isSome then w.put (pg + o) x else w
  | .abc => w.when (o == ABC_ACTL.off && bit ABC_ACTL) fun w => w.wr pg ABC_SLACK_MIN 0x7FFFF
  | .sp => match SP_CH_CTL_FB_SET.index? o with
    | some i => w.when (bit SP_CH_CTL_FB_SET) fun w => w.fbSet (inst / 4) (16 * (inst % 4) + i)
    | none => w
  | .clu =>
    if o = CLU_CMD.off then w.cmdWrite inst x
    else w.when (o == CLU_ST_REQ_GO.off && bit CLU_ST_REQ_GO) fun w => w.stGo inst
  | .clane =>
    if o = CLANE_CMD_RETRAIN.off then
      w.each ((List.finRange 48).filter fun c => c.val == inst) fun w c =>
        (w.when (bit CLANE_CMD_RETRAIN) fun w => w.cellRetrain c).when (bit CLANE_CMD_FOM_RST) fun w => w.fomRst (.cell c)
    else w
  | .unit => w.when (o == UNIT_HD_CTL_COMMIT.off && bit UNIT_HD_CTL_COMMIT) fun w => w.hdCommit inst
  | .tally | .spll | .host | .eth | .claim | .hrt1 | .hrt2 | .emb | .rg => w

/-- RST_CTL (R491, R492): more than one of PKG, DIE and RG is undefined. -/
def State.rstWrite (s : State) (x : Word) : State :=
  let pkg := PKG_RST_CTL_PKG.get x
  let die := PKG_RST_CTL_DIE.get x
  let rg := PKG_RST_CTL_RG.get x
  if PKG_RST_CTL_KEY.get x != 0x5A3C || decide (1 < pkg + min die 1 + min rg 1) then s.onDev fun w => w.badval pgPKG
  else if pkg = 1 then (s.pkgReset 2 1).onDev Work.kindle
  else s.onDev fun w => (w.dieReset die).regionReset rg

/-! ### BAR0 (R47, R48, R55, R66, R67, R113, R114) -/

/-- A write of the block registers or the header of a page that reaches it: its stored fields, then its commands. -/
def State.pageWrite (s : State) (k : PageKind) (inst a : Nat) (x : Word) : State :=
  let pg := a / 0x1000 * 0x1000
  let o := a % 0x1000
  if o = HDR_LOCK_KEY.off then s.onDev fun w => w.lockWrite pg x
  else if o = HDR_INJ_ARM.off then s.onDev fun w => w.injWrite k inst pg x
  else
    let s := s.hostStore a x
    if k = .pkg ∧ o = PKG_RST_CTL_KEY.off then s.rstWrite x
    else if k = .tally ∧ o = TALLY_STEP_CTL_GO.off ∧ TALLY_STEP_CTL_GO.get x = 1 then s.stepTally (TALLY_STEP_CTL_MODE.get x == 1)
    else s.onDev fun w => w.woWrite k inst pg o x

/-- A host write of a whole dword at BAR0 offset `a`. -/
def State.hostWrite (s : State) (a : Nat) (x : Word) : State :=
  if !mapped a then s.onDev fun w => w.accErr HOST_ACC_ERR_UNMAPPED 0 a
  else match s.work.gate a true with
    | some (f, busy) => s.onDev fun w => w.fabErr f busy true a
    | none =>
      match shadowOf a with
      | some (act, pg) => s.onDev fun w => (w.shadowWrite act pg x).1
      | none => match pageOf a with
        | some (k, i) => if inHeader a && decide (0x800 ≤ a % 0x1000) then s else s.pageWrite k i a x
        | none => s.hostStore a x

/-- A host write of a dword with byte enables (R47). -/
def State.registerWrite (s : State) (a be : Nat) (x : Word) : State :=
  if be = 0xF then s.hostWrite a x
  else
    let s := s.onDev fun w => w.accErr HOST_ACC_ERR_PARTIAL 0 a
    if mapped a then s else s.onDev fun w => w.accErr HOST_ACC_ERR_UNMAPPED 0 a

/-! ### Reads -/

/-- STAT of a page as it reads (R60, R112, R515): the state of the block's fence overlays the stored flags. -/
def Work.readStat (w : Work) (a : Nat) : Word :=
  let pg := a / 0x1000 * 0x1000
  let v := w.word (pg + 0xC)
  let put (f : Field) (b : Bool) (v : Word) : Word := if b then f.set v 1 else v
  if 0x1000000 ≤ a then
    let n := (a - 0x1000000) / 0x400000
    put HDR_STAT_UNUSABLE (w.marked n) (put HDR_STAT_BUSY (w.bistRun n || w.marked n) (put HDR_STAT_RESETTING (bitOf w.kin.resets n) v))
  else if pg = pgHRT ∨ pg = pgHRT1 ∨ pg = pgHRT2 then put HDR_STAT_BUSY (w.on pgBIST BIST_BSTAT_HRT_RUN) v
  else put HDR_STAT_BUSY (w.on pgBIST BIST_BSTAT_HUB_RUN && pg != pgBIST && pg != pgHOST) v

/-- The next sample instant of a cluster (R260). -/
def Work.sampleNext (w : Work) (c : Nat) : Nat :=
  match ((w.cl (w.owner c)).plans.map fun p => p.2.1).filter fun t => decide (t16 w.now ≤ t) with
  | [] => 0
  | t :: l => (timeOf16 (l.foldl min t)).ns

/-- Registers whose value follows other state (R29, R65, R85, R173, R260, R361, R364, R417, R436, R444, R448, R469, R515, R522). -/
def Work.readDerived (w : Work) (k : PageKind) (inst pg o : Nat) : Word :=
  let v := w.word (pg + o)
  let c := w.owner inst
  match k with
  | .claim =>
    if o = CLAIM_RES_OWNER_HELD.off then
      match w.claims.find? fun e => e.1 == w.rd pgCLAIM CLAIM_RES_SEL with
      | some (_, p, r) => w32 (2 ^ 31 + p * 2 ^ 11 + r)
      | none => 0
    else v
  | .sec =>
    if o = SEC_KEYSTAT_BLANK.off then SEC_KEYSTAT_BLANK.set (SEC_KEYSTAT_OPEN.set v (b2n w.keyOpen)) (b2n !w.sec.programmed) else v
  | .bist => if o = BIST_BSTAT_UNUSABLE.off then BIST_BSTAT_UNUSABLE.set v w.ember.marks else v
  | .twin =>
    if o = TWIN_LOAD_NOW.off then TWIN_LOAD_NOW.set v w.copyLoad
    else if o = TWIN_PEER_PAIR.off then TWIN_PEER_PAIR.set v w.pairNo
    else match TWIN_COPYB.index? o with
      | some n => TWIN_COPYB.set v (w.copyBytes n)
      | none => v
  | .sysn => if o = SYSN_TSTAT_STRATUM.off ∧ w.on pgSYSN SYSN_NCFG_GM then SYSN_TSTAT_STRATUM.set v 0 else v
  | .eq => match EQ_HEAD.index? o with
    | some i => (w.qHead inst).getD i 0
    | none => v
  | .host => if o = HOST_EQ_PEND_ANY.off then w.eqPend else v
  | .abc => if o = ABC_BOUND.off then w32 (w.bound inst) else v
  | .clu =>
    if o = CLU_S_NEXT.off then w32 (w.sampleNext inst)
    else if o = CLU_PSTAT_ULATCH.off then
      CLU_PSTAT_ULATCH.set (CLU_PSTAT_SRC_ACT.set v (b2n !(w.activeSources c).isEmpty)) (b2n (w.ulatch c))
    else v
  | .unit =>
    let v := w.unitShown inst (pg + o)
    if o = UNIT_TSTAT_SRC_ACT.off then UNIT_TSTAT_SRC_ACT.set v (b2n (w.unitSrc inst)) else v
  | _ => v

/-- Registers that a read acts on (R43, R124, R149, R155, R341, R495). -/
def Work.readActs (w : Work) (k : PageKind) (inst o : Nat) : Option (Work × Word) :=
  match k with
  | .tally => if o = TALLY_NOW_NS.off then some w.readNow else (TALLY_CAP_NS_NS.index? o).map w.readCap
  | .eth => if o = ETH_RX_KEY_VALID.off then some (w.readRxKey inst) else if o = ETH_RX_KEY_VALID.off + 0x10 then some (w.readTxKey inst) else none
  | .ad => if o = AD_DATA_CODE.off then some (w.readAdc inst) else none
  | .emb => if o = EMB_ECNT_LO.off then some w.readEcnt else none
  | .rg =>
    if o = RG_CYC_T0_NS.off then some (w.readT0 inst)
    else if o = RG_CYC_T0_S.off then (w.rg inst).t0Latch.map fun s => (w.modRg inst fun r => { r with t0Latch := none }, s)
    else none
  | _ => none

/-- What a read of BAR0 offset `a` that its block serves returns, and the state after it. WO fields read 0 (R6). -/
def Work.readWord (w : Work) (a : Nat) : Work × Word :=
  match shadowOf a with
  | some (act, _) => (w, w.shadowRead act)
  | none => match pageOf a with
    | none => (w, w.word a)
    | some (k, inst) =>
      let pg := a / 0x1000 * 0x1000
      let o := if inHeader a then a % 0x800 else a % 0x1000
      if o = 0xC then (w, w.readStat a)
      else if o = 0x18 ∧ ¬ k.hasInj then (w, 0)
      else if o = HDR_CLAIM_HELD.off then
        (w, HDR_CLAIM_HELD.set (w.word (pg + o)) (w.claims.filter fun e => e.2.1 == a / 0x1000).length)
      else match w.readActs k inst o with
        | some q => q
        | none => (w, w.readDerived k inst pg o &&& ~~~(maskAt k o .wo))

/-- A host read of one dword or, `wide`, of two (R47, R48, R112 to R114). -/
def Work.bar0Read (w : Work) (a : Nat) (wide : Bool) : Work :=
  let as := if wide then [a / 8 * 8, a / 8 * 8 + 4] else [a]
  let zeros := as.map fun _ => (0 : Word)
  let first := as.headD a
  if !mapped first then (w.accErr HOST_ACC_ERR_UNMAPPED 0 first).emit (.hostRead zeros false)
  else match w.gate first false with
    | some (f, busy) => (w.fabErr f busy false first).emit (.hostRead zeros true)
    | none =>
      let r := as.foldl (fun (q : Work × List Word) a => let k := q.1.readWord a; (k.1, q.2 ++ [k.2])) (w, [])
      r.1.emit (.hostRead r.2 false)

/-! ### BAR2 and BAR4 (R49, R50, R437, R516, R520, R521) -/

/-- `n` free bytes. -/
def Work.freeBytes (w : Work) (n : Nat) : Work × List Byte :=
  (w.useFree n, (upto n).map fun i => Config.freeByte (w.freeCtr + i))

/-- The fence that answers an access to the DRAM, or to a memory of BAR4, if one does. -/
def Work.memGate (w : Work) (m : Mem) : Option (Nat × Bool) :=
  let f : Nat := match m with
    | .region n => n.val
    | .hearth => 7
    | .hub | .dram => 6
  let early := !w.on pgPKG PKG_KSTAT_DONE && m != .dram && decide (w.rd pgPKG PKG_KSTAT_STEP < 10)
  if early then some (f, false)
  else if w.on pgBIST BIST_BSTAT_LEND then some (if bitOf (w.rd pgPKG PKG_FENCE_STAT) 6 then 6 else 7, false)
  else if w.on pgBIST BIST_BSTAT_HUB_RUN then some (6, true)
  else match m with
    | .region n => if w.rgFenced n then some (n.val, !bitOf w.kin.resets n && (w.bistRun n || w.marked n)) else none
    | .hearth => if w.on pgBIST BIST_BSTAT_HRT_RUN then some (7, true) else none
    | .hub | .dram => none

/-- The BAR2 bytes that host writes must leave alone (R50, R437, R516): partitions of enabled owners, and the kept image. -/
def Work.protectedRanges (w : Work) : List (Nat × Nat) :=
  let own (p : Nat) : Bool := if p = pgREC / 0x1000 then w.on pgREC REC_RCTL_EN else w.on (p * 0x1000) EQ_QCFG_EN
  ((w.partitions.filter fun p => own p.1).map fun p => (p.2.1 * 0x10000, p.2.2 * 0x10000)) ++
    match w.kin.kept with
    | some k => [(blockAt k, max 0x10000 w.keptImage.length)]
    | none => []

/-- A BAR2 write of `bs` at `off`: stored whole or dropped whole. What FAB_ERR.OFFSET takes of a BAR2 access that meets the hub's
fence is a free value: R115 gives it for BAR0 and BAR4 only (DESIGN CHOICE, log entry 61). -/
def Work.bar2Write (w : Work) (off : Nat) (bs : List Byte) : Work :=
  let bs := bs.take (2 ^ 27 - off)
  match w.memGate .dram with
  | some (f, busy) =>
    let q := w.freshWord
    q.1.fabErr f busy true q.2.toNat
  | none =>
    if w.protectedRanges.any fun r => decide (off < r.1 + r.2) && decide (r.1 < off + bs.length) then w.accErr HOST_ACC_ERR_PROTECTED 1 off
    else w.dramPut off bs

/-- A BAR2 read; `ecc` is what the SECDED check of the words read shows. -/
def Work.bar2Read (w : Work) (off len : Nat) (ecc : Ecc) : Work :=
  let len := min len (2 ^ 27 - off)
  match w.memGate .dram with
  | some (f, busy) =>
    let q := w.freshWord
    (q.1.fabErr f busy false q.2.toNat).emit (.hostBytes (List.replicate len 0) true)
  | none =>
    let ecc := w.eccUse 6 off len ecc
    let w := w.memErr .dram (off / 8) ecc
    if ecc = .double then
      let q := (w.accErr HOST_ACC_ERR_POISONED 1 off).freeBytes len
      q.1.emit (.hostBytes q.2 true)
    else w.emit (.hostBytes (w.dramBytes off len) false)

/-- The memory a BAR4 offset lies in, and its base (R49). -/
def bar4Mem (off : Nat) : Mem × Nat :=
  if off < 0x500000 then (.region ⟨off / 0x140000 % 4, by omega⟩, off / 0x140000 * 0x140000)
  else if off < 0x780000 then (.hub, hubSram)
  else (.hearth, 0x780000)

/-- `len` bytes of BAR4: the published areas as stored, free bytes elsewhere (R411). -/
def Work.sramBytes (w : Work) (off len : Nat) : Work × List Byte :=
  (w.useFree len,
    (upto len).map fun i => if published (off + i) then cellsGet byte0 w.sram (off + i) else Config.freeByte (w.freeCtr + i))

/-- A BAR4 read. -/
def Work.bar4Read (w : Work) (off len : Nat) (ecc : Ecc) : Work :=
  let len := min len (2 ^ 23 - off)
  let m := bar4Mem off
  match w.memGate m.1 with
  | some (f, busy) => (w.fabErr f busy false off).emit (.hostBytes (List.replicate len 0) true)
  | none =>
    let ecc := if m.1 = .hub then w.eccUse 4 (off - m.2) len ecc else ecc
    let w := w.memErr m.1 ((off - m.2) / 4) ecc
    if ecc = .double then
      let q := (w.accErr HOST_ACC_ERR_POISONED 2 off).freeBytes len
      q.1.emit (.hostBytes q.2 true)
    else
      let q := w.sramBytes off len
      q.1.emit (.hostBytes q.2 false)

/-! ### Commands -/

/-- A write that gives a swap command: the gate never holds it (R117; DEDUCED, log entry 62). -/
def swapCommand (a : Nat) (x : Word) : Bool :=
  a == pgPKG + PKG_SWAP_ARM.off || (a == pgSYSN + SYSN_SCMD_SWAP_GO.off && SYSN_SCMD_SWAP_GO.get x == 1)

/-- REGISTER_WRITE (R6): a host write of a dword at an aligned BAR0 offset. -/
def execRegisterWrite (addr : BitVec 25) (be : BitVec 4) (v : Word) (s : State) : Host.Outcome State Fault Refusal :=
  let a := addr.toNat / 4 * 4
  if swapCommand a v then .next (s.registerWrite a be.toNat v)
  else .next (s.throttle (.registerWrite addr be v) fun s => s.registerWrite a be.toNat v)

/-- INJ_ARM (R63): a write of INJ with ARM = 1. -/
def execInjArm (page : BitVec 13) (chk : BitVec 4) (bit : BitVec 8) (s : State) : Host.Outcome State Fault Refusal :=
  .next (s.throttle (.injArm page chk bit) fun s =>
    s.hostWrite (page.toNat * 0x1000 + HDR_INJ_ARM.off) (w32 (0x1000 + bit.toNat * 16 + chk.toNat)))

/-- PAGE_LOCK (R64): a write of LOCK. -/
def execPageLock (page : BitVec 13) (key : BitVec 16) (s : State) : Host.Outcome State Fault Refusal :=
  .next (s.throttle (.pageLock page key) fun s => s.hostWrite (page.toNat * 0x1000 + HDR_LOCK_KEY.off) (w32 (key.toNat * 2 ^ 16)))

/-- HOST_BAR0_READ (R48). -/
def execHostBar0Read (addr : BitVec 25) (wide : Bool) (s : State) : Host.Outcome State Fault Refusal :=
  nextDev s fun w => w.throttle (.hostBar0Read addr wide) fun w => w.bar0Read (addr.toNat / 4 * 4) wide

/-- HOST_BAR2_WRITE (R50). -/
def execHostBar2Write (off : BitVec 27) (data : List Byte) (s : State) : Host.Outcome State Fault Refusal :=
  nextDev s fun w => w.throttle (.hostBar2Write off data) fun w => w.bar2Write off.toNat data

/-- HOST_BAR2_READ (R50). -/
def execHostBar2Read (off : BitVec 27) (len : BitVec 12) (ecc : Ecc) (s : State) : Host.Outcome State Fault Refusal :=
  nextDev s fun w => w.throttle (.hostBar2Read off len ecc) fun w => w.bar2Read off.toNat len.toNat ecc

/-- HOST_BAR4_READ (R49). -/
def execHostBar4Read (off : BitVec 23) (len : BitVec 12) (ecc : Ecc) (s : State) : Host.Outcome State Fault Refusal :=
  nextDev s fun w => w.throttle (.hostBar4Read off len ecc) fun w => w.bar4Read off.toNat len.toNat ecc

/-- HOST_BAR4_WRITE (R48). -/
def execHostBar4Write (off : BitVec 23) (s : State) : Host.Outcome State Fault Refusal :=
  nextDev s fun w => w.throttle (.hostBar4Write off) fun w => w.accErr HOST_ACC_ERR_BAR4_WR 2 off.toNat

end Sys2Proof.Machine
end

