-- ==== Sys2Proof/Machine/Damper.lean ====
section
/-! DEFINITION. The opening of the Damper's throttle gate (R104, R118): the requests held before it pass. -/

namespace Sys2Proof.Machine

/-- A request that the gate held, made now. Only the commands that the gate can hold (R117) wait there. -/
def execHeld (c : Instr) (s : State) : Host.Outcome State Fault Refusal :=
  match c with
  | .registerWrite addr be v => execRegisterWrite addr be v s
  | .hostBar2Write off data => execHostBar2Write off data s
  | .hostBar2Read off len ecc => execHostBar2Read off len ecc s
  | .hostBar4Read off len ecc => execHostBar4Read off len ecc s
  | .hostBar4Write off => execHostBar4Write off s
  | .injArm page chk bit => execInjArm page chk bit s
  | .pageLock page key => execPageLock page key s
  | .cycT0NsRead n => execCycT0NsRead n s
  | .cycEnSet n => execCycEnSet n s
  | .cycEnClear n => execCycEnClear n s
  | .hdCommit u => execHdCommit u s
  | .sminRst n => execSminRst n s
  | .hostSlotWrite n slot v => execHostSlotWrite n slot v s
  | .stateWordWrite n x v => execStateWordWrite n x v s
  | .fbSet n q => execFbSet n q s
  | .tallyNowRead => execTallyNowRead s
  | .incFracWrite v => execIncFracWrite v s
  | .incNsCommit v => execIncNsCommit v s
  | .tallyStep adj => execTallyStep adj s
  | .nofsWrite v => execNofsWrite v s
  | .captureRead k => execCaptureRead k s
  | .rxKeyRead p => execRxKeyRead p s
  | .txKeyRead p => execTxKeyRead p s
  | .cmdPrecharge c => execCmdPrecharge c s
  | .cmdRun c => execCmdRun c s
  | .cmdStop c => execCmdStop c s
  | .cmdOff c => execCmdOff c s
  | .cmdTest c => execCmdTest c s
  | .cmdBypass c => execCmdBypass c s
  | .cmdUnbypass c => execCmdUnbypass c s
  | .cmdClear c => execCmdClear c s
  | .cmdLockout c => execCmdLockout c s
  | .stReqGo c desat vds => execStReqGo c desat vds s
  | .laneRetrain c => execLaneRetrain c s
  | .laneFomRst c => execLaneFomRst c s
  | .adaptStep l ctle taps => execAdaptStep l ctle taps s
  | .adcNcmd a ch => execAdcNcmd a ch s
  | .adcUcmd a ch => execAdcUcmd a ch s
  | .adcCal a => execAdcCal a s
  | .adcDataRead a => execAdcDataRead a s
  | .wcSelftestGo k => execWcSelftestGo k s
  | .hearthRel plea => execHearthRel plea s
  | .hearthPlea level rgmask => execHearthPlea level rgmask s
  | .sealedUpdateGo img => execSealedUpdateGo img s
  | .freezeRequest => execFreezeRequest s
  | .freezeRelease => execFreezeRelease s
  | .twinTake force => execTwinTake force s
  | .twinHandover => execTwinHandover s
  | .eqNext q mis => execEqNext q mis s
  | .eqRelease q mis => execEqRelease q mis s
  | .eqMark q mis => execEqMark q mis s
  | .eqRewind q mis => execEqRewind q mis s
  | .eqQreset q => execEqQreset q s
  | .eqPeakRst q => execEqPeakRst q s
  | .eqPost q v mis => execEqPost q v mis s
  | .recorderFrameWrite => execRecorderFrameWrite s
  | .recEnable => execRecEnable s
  | .recDisable => execRecDisable s
  | .recStop => execRecStop s
  | .recRearm => execRecRearm s
  | .recTrig => execRecTrig s
  | .slRetrain l => execSlRetrain l s
  | .slFomRst l => execSlFomRst l s
  | .sysTripSet groups => execSysTripSet groups s
  | .sysTripClr groups => execSysTripClr groups s
  | .planGo => execPlanGo s
  | .rptRst => execRptRst s
  | .raGo => execRaGo s
  | .kctlImgGo img => execKctlImgGo img s
  | .pkgReset => execPkgReset s
  | .dieReset dies => execDieReset dies s
  | .regionReset rgs => execRegionReset rgs s
  | .ecntRead => execEcntRead s
  | .emberSleep => execEmberSleep s
  | .thermPeakRst => execThermPeakRst s
  | .bistStart rgs => execBistStart rgs s
  | .bistAbort rgs => execBistAbort rgs s
  | .bistComplete n sig sigOk bad => execBistComplete n sig sigOk bad s
  | .umark key rgs => execUmark key rgs s
  | .lbistHubStart => execLbistHubStart s
  | .lbistHrtStart => execLbistHrtStart s
  | .lbistComplete pass sig => execLbistComplete pass sig s
  | .keyProg => execKeyProg s
  | .zeroise => execZeroise s
  | .cstoreWrite slot => execCstoreWrite slot s
  | .hostBar0Read addr wide => execHostBar0Read addr wide s
  | _ => .next s

/-- The request `c` passes the gate. -/
def State.pass (s : State) (c : Instr) : State :=
  match execHeld c s with
  | .next t => t
  | _ => s

/-- The gate opens: the requests held before it pass, oldest first (R104, R118). -/
def State.gateOpen (s : State) : State :=
  s.work.held.foldl State.pass (s.onDev fun w => (w.setShut false).dropHeld)

/-- DAMPER_GATE_OPEN (R118). -/
def execDamperGateOpen (s : State) : Host.Outcome State Fault Refusal := .next s.gateOpen

end Sys2Proof.Machine
end

