-- ==== Sys2Proof/Machine/Uplink.lean ====
section
/-! DEFINITION. Uplink frames: the receive checks (R272, R293) and what each message does (R309 to R332, R355 to R357). -/

namespace Sys2Proof.Machine

/-- A frame is bad (R272): counted, flagged, and the run of good frames of SYNC is broken. -/
def Work.badFrame (w : Work) (c : Nat) : Work :=
  ((w.count (pgCLANE c) CLANE_BAD_COUNT).flt (pgCLANE c) .ce 17).modLn c fun l => { l with good := 0, predGood := false }

/-- A frame that passes every check (R272, R280): the eighth in a row in SYNC starts the first exchange. -/
def Work.goodFrame (w : Work) (c : Nat) (copy : Bool) : Work :=
  let w := w.modLn c fun l => { l with predGood := !copy, good := min (l.good + 1) 8 }
  if w.laneState c = 2 ∧ (w.ln c).good = 8 ∧ (w.ln c).accepted = 0 ∧ (w.ln c).exch.isEmpty ∧ (w.ln c).xidNext = 1 then w.startExch c else w

/-- The receiver of the lane checks frames: it is on, its region is not fenced (R292), and its frame logic is not stalled
(R563). -/
def Work.checksFrames (w : Work) (c : Nat) : Bool := w.laneState c != 0 && !w.rgFenced (c / 12) && !w.pathStalled c

/-- The lane uses its good frames: it is aligned (R280, R292). -/
def Work.hears (w : Work) (c : Nat) : Bool := (w.laneState c == 2 || w.laneState c == 3) && w.checksFrames c

/-- Data symbols reach the receiver of a lane whose region is not fenced (R282, R292). -/
def Work.frameSymbols (w : Work) (c : Fin 48) : Work := if w.rgFenced (c.val / 12) then w else w.dataSymbol (.cell c)

/-- A frame of the far end, whose CRC differs by `syn` (R272, R293, R399), and what `use` makes of a good one: a second copy
whose first copy was good is discarded (R298 item 1, R327). -/
def Work.receive (w : Work) (c : Fin 48) (syn : BitVec 16) (copy : Bool) (use : Work → Work) : Work :=
  let w := w.frameSymbols c
  if !w.checksFrames c.val then w
  else
    let w := w.when (w.hears c.val && w.armedFor (pgCLANE c.val) 0) fun w => w.injDone (pgCLANE c.val) (syn == 0)
    if syn ≠ 0 then w.badFrame c.val
    else if !w.hears c.val then w
    else
      let seen := copy && (w.ln c.val).predGood
      let w := w.goodFrame c.val copy
      if seen then w else use w

/-- The same of a message that hands data to the region's blocks: a raised fence discards it (R111). -/
def Work.receiveData (w : Work) (c : Fin 48) (syn : BitVec 16) (copy : Bool) (use : Work → Work) : Work :=
  if w.rgFenced (c.val / 12) then w.when (syn == 0) Work.discard else w.receive c syn copy use

/-! ### MEAS -/

/-- Values present in a mask. -/
def bits8 (v : Nat) : List Nat := (upto 8).filter fun i => bitOf v i

/-- A MEAS message (R310, R311, R258, R260). -/
def Work.meas (w : Work) (c : Nat) (m : Meas) : Work :=
  let o := w.owner c
  let pair := w.topo o == 3
  let vs := bits8 m.vmask.toNat
  let ts := nearT16 (t16 w.now) m.ts.toNat
  match (w.cl o).plans.find? fun p => decide (p.2.1 - ts ≤ 4000) && decide (ts - p.2.1 ≤ 4000) with
  | none => w.count (pgCLU o) CLU_ORPHAN_COUNT vs.length
  | some (b, _, mask) =>
    if m.bank && !pair then w.count (pgCLU o) CLU_ORPHAN_COUNT vs.length
    else
      let t := if m.bank then o + 1 else o
      w.each vs fun w v =>
        if bitOf mask v then
          w.fileSlot (t / 12) ⟨8 * (t % 12) + v, w32 ((m.vals.toList.getD v 0).toNat * 2 ^ 16), bitOf m.range.toNat v, ts24 ts⟩ b
        else w.count (pgCLU o) CLU_ORPHAN_COUNT

/-! ### TRANS -/

/-- One transition report (R312, R313): the newest of its kind for the unit of its leg, shown in DTR_LAST and PLAT_LAST
where it carries the delay. -/
def Work.transRep (w : Work) (c : Nat) (r : TransRep) : Work :=
  match w.legUnit (w.owner c) r.leg.toNat with
  | none => w
  | some u =>
    let pg := pgUNIT u
    let w :=
      if r.turnOn then w
      else
        let w := w.when (!r.inc) fun w => w.wr pg (if r.sw then UNIT_DTR_LAST_LH else UNIT_DTR_LAST_HL) r.d90.toNat
        w.modUn u fun k => if r.sw then { k with repLH := some (r.d90.toNat, r.inc) } else { k with repHL := some (r.d90.toNat, r.inc) }
    if r.noplat then w
    else
      let w := w.wr pg (if r.turnOn then UNIT_PLAT_LAST_ON else UNIT_PLAT_LAST_OFF) r.dplat.toNat
      w.modUn u fun k => if r.turnOn then { k with platOn := some r.dplat.toNat } else { k with platOff := some r.dplat.toNat }

/-! ### TRIP -/

/-- The part's copy of the active flags (R356). -/
def Work.tripFlags (w : Work) (o : Nat) (f : TripFlags) : Work :=
  let pg := pgCLU o
  (((w.wr pg CLU_CE_ACT0_DESAT f.desat.toNat).wr pg CLU_CE_ACT0_UVLO f.uvlo.toNat).wr pg CLU_CE_ACT1_OC f.oc.toNat).wr pg
    CLU_CE_ACT1_BOOT f.boot.toNat

/-- The flag that a TRIP names is set in W2 (R355); LINK needs none. -/
def tripNamed (t : Trip) : Bool :=
  let i := t.index.toNat
  match t.kind.toNat with
  | 0 => bitOf t.active.desat.toNat i
  | 1 => bitOf t.active.oc.toNat i
  | 2 => bitOf t.active.uvlo.toNat i
  | 3 => bitOf t.active.boot.toNat i
  | 4 => true
  | _ => false

/-- A good TRIP (R355 to R357, R325): every good one updates the active flags, one with a new TRIP_ID is filed, and one
whose named flag stands is an event. So is any with a LINK flag set, which R325 makes a latching trip (DEDUCED, log entry 55). -/
def Work.trip (w : Work) (c : Nat) (t : Trip) : Work :=
  let o := w.owner c
  let w := w.tripFlags o t.active
  if (w.cl o).tripId = some t.id.toNat then w
  else
    let w := w.modCl o fun k => { k with tripId := some t.id.toNat }
    if tripNamed t || t.latched.link != 0 then
      w.protEvent o (t.kind.toNat + 1) t.index.toNat t.id.toNat (nearT16 (t16 w.now) t.ts.toNat) (t.latched.link != 0)
    else w

/-! ### STAT -/

/-- The registers of STAT page 0 (R326, R333). -/
def Work.stat0Regs (w : Work) (c : Nat) (s : Stat0) : Work :=
  let pg := pgCLANE c
  let us := s.mode != 0 && s.fpkg.toNat == w.pkgNo
  let w := (((w.wr pg CLANE_CE_STAT_MODE s.mode.toNat).wr pg CLANE_CE_STAT_FOLLOW s.follow.toNat).wr pg CLANE_CE_STAT_FOLLOWS_US
    (b2n us)).wr pg CLANE_CE_STAT_CONFLICT (b2n s.conflict)
  let w := (((w.wr pg CLANE_CE_STAT_CFG_OK (b2n s.cfgOk)).wr pg CLANE_CE_STAT_CNAK (b2n s.cnak)).wr pg CLANE_CE_STAT_CACK
    s.cack.toNat).wr pg CLANE_CE_STAT_FPKG s.fpkg.toNat
  let w := (w.wr pg CLANE_CE_EPOCH s.epoch.toNat).wr pg CLANE_CE_TEMP_TCAP s.tcap.toNat
  let w := ((w.wr pg CLANE_CE_TEMP_THS s.ths.toNat).wr pg CLANE_CE_TEMP_TBRD s.tbrd.toNat).wr pg CLANE_CE_TEMP_TSW s.tsw.toNat
  let w := (w.wr pg CLANE_CE_HEALTH s.health.toNat).wr pg CLANE_CE_ST_ST_SEQ s.stSeq.toNat
  let w := (w.wr pg CLANE_CE_ST_ST_DONE (b2n s.stDone)).wr pg CLANE_CE_ST_ST_REFUSED (b2n s.stRefused)
  (w.wr pg CLANE_CE_ST_DESAT_PASS s.desatPass.toNat).wr pg CLANE_CE_ST_VDS_PASS s.vdsPass.toNat

/-- The acknowledgement of the outstanding CMD (R321, R429). -/
def Work.cmdAck (w : Work) (o : Nat) (cack : Nat) : Work :=
  let w := match (w.ln o).cmdOut with
    | some (_, s, _) => w.when (s == cack) fun w => w.cmdDone o
    | none => w
  if (w.cl o).resume = some (some cack) then
    let w := w.modCl o fun k => { k with resume := none }
    let w := w.each (w.legs o) fun w p => w.modUn p.2 fun u => { u with resume := some w.up }
    if w.cstate o = 1 then (w.sendCmd o 1).modCl o fun k => { k with pcTimer := true } else w
  else w

/-- The result of a cell-end self-test (R373): passed only when it has completed and both masks are covered. -/
def Work.stResult (w : Work) (o : Nat) (s : Stat0) : Work :=
  match (w.cl o).st with
  | some (some q, d, v) =>
    if s.stSeq.toNat = q ∧ (s.stDone ∨ s.stRefused) then
      w.stEnd o (s.stDone && !s.stRefused && s.desatPass.toNat &&& d == d && s.vdsPass.toNat &&& v == v)
    else w
  | _ => w

/-- Lanes in UP that serve a cluster with a topology (R432). -/
def Work.claimLanes (w : Work) : List Nat := w.upLanes.filter fun c => w.topo c != 0

/-- What a STAT page 0 tells the twin logic (R412, R432). -/
def Work.statRole (w : Work) (c : Nat) (s : Stat0) : Work :=
  let us := w.on (pgCLANE c) CLANE_CE_STAT_FOLLOWS_US
  if w.role = 0 then
    if w.laneState c = 3 ∧ ¬ us ∧ w.epoch ≤ s.epoch.toNat then (w.setEpoch (s.epoch.toNat + 1)).sendRole else w
  else if w.role = 2 ∧ (w.ln c).claimAt ≤ t16 w.now then
    let against := s.mode != 0 && !us && decide (w.epoch ≤ s.epoch.toNat)
    let w := w.modLn c fun l => { l with against := if against then min (l.against + 1) 2 else 0 }
    let ls := w.claimLanes
    let n := (ls.filter fun c => (w.ln c).against == 2).length
    if ls.length < 2 * n then w.stepDown else w
  else w

/-- A good STAT message (R326, R332). -/
def Work.stat (w : Work) (c : Nat) (s : Stat) : Work :=
  let pg := pgCLANE c
  let o := w.owner c
  match s with
  | .page0 p =>
    let w := w.stat0Regs c p
    let w := (w.wr (pgCLU o) CLU_PC_STAT_TCAP p.tcap.toNat).modCl o fun k => { k with
      tempAt := some w.up, tripId := if p.mode = 0 then none else k.tripId }
    let w := if p.bypClosed then w.cstat o CLU_CSTAT_BYPASSED 1 else if p.bypOpen then w.cstat o CLU_CSTAT_BYPASSED 0 else w
    ((w.cmdAck o p.cack.toNat).stResult o p).statRole c p
  | .page1 b g i l ig cf =>
    let w := (w.wr pg CLANE_CE_CNT0_BADFR b.toNat).wr pg CLANE_CE_CNT0_SEQGAP g.toNat
    let w := (w.wr pg CLANE_CE_CNT1_ILK i.toNat).wr pg CLANE_CE_CNT1_LATE l.toNat
    (w.wr pg CLANE_CE_CNT2_IGNORED ig.toNat).wr pg CLANE_CE_CNT2_CONFLICTS cf.toNat
  | .page2 v l f => ((w.wr pg CLANE_CE_CAP_VER v.toNat).wr pg CLANE_CE_CAP_LEGS l.toNat).wr pg CLANE_CE_CAP_S2F f.toNat
  | .other _ => w

/-! ### Commands -/

/-- UPLINK_BAD_FRAME (R272). -/
def execUplinkBadFrame (c : Fin 48) (s : State) : Host.Outcome State Fault Refusal :=
  nextDev s fun w =>
    let w := w.frameSymbols c
    if w.checksFrames c.val then w.badFrame c.val else w

/-- IDLE_FRAME_RECEIVED (R272). -/
def execIdleFrameReceived (c : Fin 48) (syndrome : BitVec 16) (copy : Bool) (s : State) : Host.Outcome State Fault Refusal :=
  nextDev s fun w => w.receive c syndrome copy id

/-- MEAS_RECEIVED (R311). -/
def execMeasReceived (c : Fin 48) (syndrome : BitVec 16) (copy : Bool) (m : Meas) (s : State) : Host.Outcome State Fault Refusal :=
  nextDev s fun w => w.receiveData c syndrome copy fun w => w.meas c.val m

/-- TRANS_RECEIVED (R313). -/
def execTransReceived (c : Fin 48) (syndrome : BitVec 16) (copy : Bool) (reps : Vector (Option TransRep) 4) (s : State) :
    Host.Outcome State Fault Refusal :=
  nextDev s fun w => w.receiveData c syndrome copy fun w =>
    w.each (reps.toList.filterMap id) fun w r => w.transRep c.val r

/-- TRIP_RECEIVED (R355). -/
def execTripReceived (c : Fin 48) (syndrome : BitVec 16) (copy : Bool) (t : Trip) (s : State) :
    Host.Outcome State Fault Refusal :=
  nextDev s fun w => w.receiveData c syndrome copy fun w => w.trip c.val t

/-- STAT_RECEIVED (R332). -/
def execStatReceived (c : Fin 48) (syndrome : BitVec 16) (copy : Bool) (t : Stat) (s : State) : Host.Outcome State Fault Refusal :=
  nextDev s fun w => w.receiveData c syndrome copy fun w => w.stat c.val t

/-- TIMEECHO_RECEIVED (R284 to R286): its SOF arrives `sub` sixteenths of a nanosecond after this tick. -/
def execTimeechoReceived (c : Fin 48) (syndrome : BitVec 16) (copy : Bool) (e : Echo) (sub : Fin 40) (s : State) :
    Host.Outcome State Fault Refusal :=
  nextDev s fun w => w.receiveData c syndrome copy fun w => w.echo c.val e (n16Of (t16 w.now + sub.val))

end Sys2Proof.Machine
end

