-- ==== Sys2Proof/Machine/Dispatch.lean ====
section
/-! DEFINITION. One arm per command: its meaning. -/

namespace Sys2Proof.Machine

/-- What a command does to everything but the queue. -/
def exec (i : Instr) (s : State) : Host.Outcome State Fault Refusal :=
  match i with
  | .registerWrite addr be v => Sys2Proof.Machine.execRegisterWrite addr be v s
  | .hostBar0Read addr wide => Sys2Proof.Machine.execHostBar0Read addr wide s
  | .hostBar2Write off data => Sys2Proof.Machine.execHostBar2Write off data s
  | .hostBar2Read off len ecc => Sys2Proof.Machine.execHostBar2Read off len ecc s
  | .hostBar4Read off len ecc => Sys2Proof.Machine.execHostBar4Read off len ecc s
  | .hostBar4Write off => Sys2Proof.Machine.execHostBar4Write off s
  | .injArm page chk bit => Sys2Proof.Machine.execInjArm page chk bit s
  | .pageLock page key => Sys2Proof.Machine.execPageLock page key s
  | .cycT0NsRead n => Sys2Proof.Machine.execCycT0NsRead n s
  | .cycEnSet n => Sys2Proof.Machine.execCycEnSet n s
  | .cycEnClear n => Sys2Proof.Machine.execCycEnClear n s
  | .boundary n => Sys2Proof.Machine.execBoundary n s
  | .inputDeadline n => Sys2Proof.Machine.execInputDeadline n s
  | .abacusSection n f => Sys2Proof.Machine.execAbacusSection n f s
  | .outputDeadline n ilk => Sys2Proof.Machine.execOutputDeadline n ilk s
  | .carrierPeriodStart u => Sys2Proof.Machine.execCarrierPeriodStart u s
  | .edgeWordLate u => Sys2Proof.Machine.execEdgeWordLate u s
  | .hdCommit u => Sys2Proof.Machine.execHdCommit u s
  | .sminRst n => Sys2Proof.Machine.execSminRst n s
  | .hostSlotWrite n slot v => Sys2Proof.Machine.execHostSlotWrite n slot v s
  | .stateWordWrite n x v => Sys2Proof.Machine.execStateWordWrite n x v s
  | .fbSet n q => Sys2Proof.Machine.execFbSet n q s
  | .setcopy => Sys2Proof.Machine.execSetcopy s
  | .setCopyDone => Sys2Proof.Machine.execSetCopyDone s
  | .swapArm => Sys2Proof.Machine.execSwapArm s
  | .swapDisarm => Sys2Proof.Machine.execSwapDisarm s
  | .swapChecksComplete => Sys2Proof.Machine.execSwapChecksComplete s
  | .swapDecision => Sys2Proof.Machine.execSwapDecision s
  | .crcPassComplete upset => Sys2Proof.Machine.execCrcPassComplete upset s
  | .stallGuardFire site ret chan => Sys2Proof.Machine.execStallGuardFire site ret chan s
  | .handshakeProtocolError site ret chan => Sys2Proof.Machine.execHandshakeProtocolError site ret chan s
  | .dualRailCodeError site chan => Sys2Proof.Machine.execDualRailCodeError site chan s
  | .bistFenceRaised n => Sys2Proof.Machine.execBistFenceRaised n s
  | .damperFrameStart => Sys2Proof.Machine.execDamperFrameStart s
  | .damperGateOpen => Sys2Proof.Machine.execDamperGateOpen s
  | .tallyTick upset ref => Sys2Proof.Machine.execTallyTick upset ref s
  | .tallyNowRead => Sys2Proof.Machine.execTallyNowRead s
  | .incFracWrite v => Sys2Proof.Machine.execIncFracWrite v s
  | .incNsCommit v => Sys2Proof.Machine.execIncNsCommit v s
  | .tallyStep adj => Sys2Proof.Machine.execTallyStep adj s
  | .nofsWrite v => Sys2Proof.Machine.execNofsWrite v s
  | .pllSettled => Sys2Proof.Machine.execPllSettled s
  | .pllLockAcquired => Sys2Proof.Machine.execPllLockAcquired s
  | .lockedSet => Sys2Proof.Machine.execLockedSet s
  | .lockedClear => Sys2Proof.Machine.execLockedClear s
  | .pllSlip => Sys2Proof.Machine.execPllSlip s
  | .holdoverRefclkEdge upset => Sys2Proof.Machine.execHoldoverRefclkEdge upset s
  | .gatesReopen => Sys2Proof.Machine.execGatesReopen s
  | .holdExpired => Sys2Proof.Machine.execHoldExpired s
  | .refLost => Sys2Proof.Machine.execRefLost s
  | .freqCheckWindow count => Sys2Proof.Machine.execFreqCheckWindow count s
  | .captureEdge k falling sub => Sys2Proof.Machine.execCaptureEdge k falling sub s
  | .captureRead k => Sys2Proof.Machine.execCaptureRead k s
  | .timedOutputDue m => Sys2Proof.Machine.execTimedOutputDue m s
  | .timedOutputPulseEnd m => Sys2Proof.Machine.execTimedOutputPulseEnd m s
  | .ptpRxTimestamp p m sub => Sys2Proof.Machine.execPtpRxTimestamp p m sub s
  | .ptpTxTimestamp p m sub corr => Sys2Proof.Machine.execPtpTxTimestamp p m sub corr s
  | .rxKeyRead p => Sys2Proof.Machine.execRxKeyRead p s
  | .txKeyRead p => Sys2Proof.Machine.execTxKeyRead p s
  | .cmdPrecharge c => Sys2Proof.Machine.execCmdPrecharge c s
  | .cmdRun c => Sys2Proof.Machine.execCmdRun c s
  | .cmdStop c => Sys2Proof.Machine.execCmdStop c s
  | .cmdOff c => Sys2Proof.Machine.execCmdOff c s
  | .cmdTest c => Sys2Proof.Machine.execCmdTest c s
  | .cmdBypass c => Sys2Proof.Machine.execCmdBypass c s
  | .cmdUnbypass c => Sys2Proof.Machine.execCmdUnbypass c s
  | .cmdClear c => Sys2Proof.Machine.execCmdClear c s
  | .cmdLockout c => Sys2Proof.Machine.execCmdLockout c s
  | .prechargeTimeout c => Sys2Proof.Machine.execPrechargeTimeout c s
  | .bypassTimeout c => Sys2Proof.Machine.execBypassTimeout c s
  | .censusMaskRepeat => Sys2Proof.Machine.execCensusMaskRepeat s
  | .censusMaskAged n g => Sys2Proof.Machine.execCensusMaskAged n g s
  | .adcPlanTrigger n k => Sys2Proof.Machine.execAdcPlanTrigger n k s
  | .stReqGo c desat vds => Sys2Proof.Machine.execStReqGo c desat vds s
  | .ceSelftestTimeout c => Sys2Proof.Machine.execCeSelftestTimeout c s
  | .downlinkSlot c sub => Sys2Proof.Machine.execDownlinkSlot c sub s
  | .uplinkBadFrame c => Sys2Proof.Machine.execUplinkBadFrame c s
  | .idleFrameReceived c syndrome copy => Sys2Proof.Machine.execIdleFrameReceived c syndrome copy s
  | .measReceived c syndrome copy m => Sys2Proof.Machine.execMeasReceived c syndrome copy m s
  | .transReceived c syndrome copy reps => Sys2Proof.Machine.execTransReceived c syndrome copy reps s
  | .tripReceived c syndrome copy t => Sys2Proof.Machine.execTripReceived c syndrome copy t s
  | .statReceived c syndrome copy p => Sys2Proof.Machine.execStatReceived c syndrome copy p s
  | .timeechoReceived c syndrome copy e sub => Sys2Proof.Machine.execTimeechoReceived c syndrome copy e sub s
  | .pingStart c => Sys2Proof.Machine.execPingStart c s
  | .exchangeLost c => Sys2Proof.Machine.execExchangeLost c s
  | .skipGap l fill => Sys2Proof.Machine.execSkipGap l fill s
  | .commaAligned l => Sys2Proof.Machine.execCommaAligned l s
  | .cdrLockLost l => Sys2Proof.Machine.execCdrLockLost l s
  | .codeViolation l since => Sys2Proof.Machine.execCodeViolation l since s
  | .noFrameTimeout c => Sys2Proof.Machine.execNoFrameTimeout c s
  | .elasticBufferError l => Sys2Proof.Machine.execElasticBufferError l s
  | .acquireTimeout l => Sys2Proof.Machine.execAcquireTimeout l s
  | .syncTimeout c => Sys2Proof.Machine.execSyncTimeout c s
  | .laneRetryTimeout l => Sys2Proof.Machine.execLaneRetryTimeout l s
  | .laneRetrain c => Sys2Proof.Machine.execLaneRetrain c s
  | .laneFomRst c => Sys2Proof.Machine.execLaneFomRst c s
  | .adaptStep l ctle taps => Sys2Proof.Machine.execAdaptStep l ctle taps s
  | .adaptFreeze l => Sys2Proof.Machine.execAdaptFreeze l s
  | .fomMeasure l mv => Sys2Proof.Machine.execFomMeasure l mv s
  | .cmdResend c => Sys2Proof.Machine.execCmdResend c s
  | .roleRepeat c => Sys2Proof.Machine.execRoleRepeat c s
  | .adcNcmd a ch => Sys2Proof.Machine.execAdcNcmd a ch s
  | .adcUcmd a ch => Sys2Proof.Machine.execAdcUcmd a ch s
  | .adcCal a => Sys2Proof.Machine.execAdcCal a s
  | .adcCalComplete a gain ofs atLimit => Sys2Proof.Machine.execAdcCalComplete a gain ofs atLimit s
  | .adcConversionComplete a volts => Sys2Proof.Machine.execAdcConversionComplete a volts s
  | .adcConvTimeout a => Sys2Proof.Machine.execAdcConvTimeout a s
  | .adcDataRead a => Sys2Proof.Machine.execAdcDataRead a s
  | .wcCrossing k volts => Sys2Proof.Machine.execWcCrossing k volts s
  | .wcSettled k volts => Sys2Proof.Machine.execWcSettled k volts s
  | .wcSelftestGo k => Sys2Proof.Machine.execWcSelftestGo k s
  | .wcSelftestDone k decH decL hReturned volts => Sys2Proof.Machine.execWcSelftestDone k decH decL hReturned volts s
  | .emberTick volts => Sys2Proof.Machine.execEmberTick volts s
  | .tripnTransition p active => Sys2Proof.Machine.execTripnTransition p active s
  | .chopfbTransition p active => Sys2Proof.Machine.execChopfbTransition p active s
  | .chopTmaxOnExpiry p => Sys2Proof.Machine.execChopTmaxOnExpiry p s
  | .chopTminOffExpiry p => Sys2Proof.Machine.execChopTminOffExpiry p s
  | .flueReportArrive dst child r => Sys2Proof.Machine.execFlueReportArrive dst child r s
  | .fatalLine r => Sys2Proof.Machine.execFatalLine r s
  | .hearthConditionQualify e => Sys2Proof.Machine.execHearthConditionQualify e s
  | .hearthRel plea => Sys2Proof.Machine.execHearthRel plea s
  | .hearthPlea level rgmask => Sys2Proof.Machine.execHearthPlea level rgmask s
  | .hearthCopyMismatch diff => Sys2Proof.Machine.execHearthCopyMismatch diff s
  | .aliveToggle => Sys2Proof.Machine.execAliveToggle s
  | .supplyOutOfRange rail => Sys2Proof.Machine.execSupplyOutOfRange rail s
  | .scrubAccess m word ecc => Sys2Proof.Machine.execScrubAccess m word ecc s
  | .haltGuardSample => Sys2Proof.Machine.execHaltGuardSample s
  | .haltGuardExpiry => Sys2Proof.Machine.execHaltGuardExpiry s
  | .sealedUpdateGo img => Sys2Proof.Machine.execSealedUpdateGo img s
  | .sealedUpdateDone => Sys2Proof.Machine.execSealedUpdateDone s
  | .freezeRequest => Sys2Proof.Machine.execFreezeRequest s
  | .freezePoint => Sys2Proof.Machine.execFreezePoint s
  | .freezeRelease => Sys2Proof.Machine.execFreezeRelease s
  | .roleRxEdge since => Sys2Proof.Machine.execRoleRxEdge since s
  | .roleRxTimeout => Sys2Proof.Machine.execRoleRxTimeout s
  | .twinTake force => Sys2Proof.Machine.execTwinTake force s
  | .twinHandover => Sys2Proof.Machine.execTwinHandover s
  | .hoReqReceived d epoch => Sys2Proof.Machine.execHoReqReceived d epoch s
  | .hoAckReceived d => Sys2Proof.Machine.execHoAckReceived d s
  | .hoNakReceived d => Sys2Proof.Machine.execHoNakReceived d s
  | .hoAnswerTimeout => Sys2Proof.Machine.execHoAnswerTimeout s
  | .handoverTime => Sys2Proof.Machine.execHandoverTime s
  | .helloReceived pair pkg role crc epoch => Sys2Proof.Machine.execHelloReceived pair pkg role crc epoch s
  | .helloRepeat => Sys2Proof.Machine.execHelloRepeat s
  | .twinLinkTimeout => Sys2Proof.Machine.execTwinLinkTimeout s
  | .copyReceived n cyc ofs data => Sys2Proof.Machine.execCopyReceived n cyc ofs data s
  | .copyEndReceived n cyc len digest crc => Sys2Proof.Machine.execCopyEndReceived n cyc len digest crc s
  | .healthRepeat => Sys2Proof.Machine.execHealthRepeat s
  | .healthReceived h0 h1 h2 => Sys2Proof.Machine.execHealthReceived h0 h1 h2 s
  | .twinReadyTimeout => Sys2Proof.Machine.execTwinReadyTimeout s
  | .twinConflictDetect => Sys2Proof.Machine.execTwinConflictDetect s
  | .eventPost e mis => Sys2Proof.Machine.execEventPost e mis s
  | .ovfMove q mis => Sys2Proof.Machine.execOvfMove q mis s
  | .eqNext q mis => Sys2Proof.Machine.execEqNext q mis s
  | .eqRelease q mis => Sys2Proof.Machine.execEqRelease q mis s
  | .eqMark q mis => Sys2Proof.Machine.execEqMark q mis s
  | .eqRewind q mis => Sys2Proof.Machine.execEqRewind q mis s
  | .eqQreset q => Sys2Proof.Machine.execEqQreset q s
  | .eqPeakRst q => Sys2Proof.Machine.execEqPeakRst q s
  | .eqPost q v mis => Sys2Proof.Machine.execEqPost q v mis s
  | .recorderFrameWrite => Sys2Proof.Machine.execRecorderFrameWrite s
  | .recEnable => Sys2Proof.Machine.execRecEnable s
  | .recDisable => Sys2Proof.Machine.execRecDisable s
  | .recStop => Sys2Proof.Machine.execRecStop s
  | .recRearm => Sys2Proof.Machine.execRecRearm s
  | .recTrig => Sys2Proof.Machine.execRecTrig s
  | .ashCopy => Sys2Proof.Machine.execAshCopy s
  | .slLinkReceived l pkg port => Sys2Proof.Machine.execSlLinkReceived l pkg port s
  | .slLinkRepeat l => Sys2Proof.Machine.execSlLinkRepeat l s
  | .slNolinkTimeout l => Sys2Proof.Machine.execSlNolinkTimeout l s
  | .slRetrain l => Sys2Proof.Machine.execSlRetrain l s
  | .slFomRst l => Sys2Proof.Machine.execSlFomRst l s
  | .slPacketReceived port p chk sub => Sys2Proof.Machine.execSlPacketReceived port p chk sub s
  | .slPacketTransmit port sub => Sys2Proof.Machine.execSlPacketTransmit port sub s
  | .sysTripSet groups => Sys2Proof.Machine.execSysTripSet groups s
  | .sysTripClr groups => Sys2Proof.Machine.execSysTripClr groups s
  | .sysTripRepeat => Sys2Proof.Machine.execSysTripRepeat s
  | .sysTripReceived => Sys2Proof.Machine.execSysTripReceived s
  | .sysTripTimeout g => Sys2Proof.Machine.execSysTripTimeout g s
  | .sysTreqStart => Sys2Proof.Machine.execSysTreqStart s
  | .treqReceived => Sys2Proof.Machine.execTreqReceived s
  | .trespReceived => Sys2Proof.Machine.execTrespReceived s
  | .sysExchangeLost => Sys2Proof.Machine.execSysExchangeLost s
  | .swapGo => Sys2Proof.Machine.execSwapGo s
  | .swapPacketReceived => Sys2Proof.Machine.execSwapPacketReceived s
  | .planGo => Sys2Proof.Machine.execPlanGo s
  | .planReceived => Sys2Proof.Machine.execPlanReceived s
  | .reportReceived => Sys2Proof.Machine.execReportReceived s
  | .rptRst => Sys2Proof.Machine.execRptRst s
  | .maskReceived => Sys2Proof.Machine.execMaskReceived s
  | .pointReceived => Sys2Proof.Machine.execPointReceived s
  | .raGo => Sys2Proof.Machine.execRaGo s
  | .rreqReceived => Sys2Proof.Machine.execRreqReceived s
  | .rrspReceived => Sys2Proof.Machine.execRrspReceived s
  | .raTimeout => Sys2Proof.Machine.execRaTimeout s
  | .porstNFall => Sys2Proof.Machine.execPorstNFall s
  | .porstNRise strap => Sys2Proof.Machine.execPorstNRise strap s
  | .hearthSelfCheckDone ok => Sys2Proof.Machine.execHearthSelfCheckDone ok s
  | .pcieLinkUp => Sys2Proof.Machine.execPcieLinkUp s
  | .dramTrained ok => Sys2Proof.Machine.execDramTrained ok s
  | .bootImageRead img => Sys2Proof.Machine.execBootImageRead img s
  | .kctlImgGo img => Sys2Proof.Machine.execKctlImgGo img s
  | .imageLoad => Sys2Proof.Machine.execImageLoad s
  | .kindlingComplete => Sys2Proof.Machine.execKindlingComplete s
  | .pkgReset => Sys2Proof.Machine.execPkgReset s
  | .dieReset dies => Sys2Proof.Machine.execDieReset dies s
  | .regionReset rgs => Sys2Proof.Machine.execRegionReset rgs s
  | .regionResetDone n => Sys2Proof.Machine.execRegionResetDone n s
  | .pciePerstFall => Sys2Proof.Machine.execPciePerstFall s
  | .pciePerstRise => Sys2Proof.Machine.execPciePerstRise s
  | .ecntRead => Sys2Proof.Machine.execEcntRead s
  | .xtalStable => Sys2Proof.Machine.execXtalStable s
  | .xtalFail => Sys2Proof.Machine.execXtalFail s
  | .emberSleep => Sys2Proof.Machine.execEmberSleep s
  | .sleepDelayExpiry => Sys2Proof.Machine.execSleepDelayExpiry s
  | .emberAlarm => Sys2Proof.Machine.execEmberAlarm s
  | .tempSample t grad => Sys2Proof.Machine.execTempSample t grad s
  | .thermalOffEntry => Sys2Proof.Machine.execThermalOffEntry s
  | .thermalRestart => Sys2Proof.Machine.execThermalRestart s
  | .thermPeakRst => Sys2Proof.Machine.execThermPeakRst s
  | .bistStart rgs => Sys2Proof.Machine.execBistStart rgs s
  | .bistAbort rgs => Sys2Proof.Machine.execBistAbort rgs s
  | .bistComplete n sig sigOk bad => Sys2Proof.Machine.execBistComplete n sig sigOk bad s
  | .standbyBistStart => Sys2Proof.Machine.execStandbyBistStart s
  | .umark key rgs => Sys2Proof.Machine.execUmark key rgs s
  | .lbistHubStart => Sys2Proof.Machine.execLbistHubStart s
  | .lbistHrtStart => Sys2Proof.Machine.execLbistHrtStart s
  | .lbistComplete pass sig => Sys2Proof.Machine.execLbistComplete pass sig s
  | .keyProg => Sys2Proof.Machine.execKeyProg s
  | .keyProgDone ok => Sys2Proof.Machine.execKeyProgDone ok s
  | .zeroise => Sys2Proof.Machine.execZeroise s
  | .cstoreWrite slot => Sys2Proof.Machine.execCstoreWrite slot s
  | .cstoreWriteDone ok => Sys2Proof.Machine.execCstoreWriteDone ok s
  | .vembPowerOn => Sys2Proof.Machine.execVembPowerOn s
  | .crystalResume => Sys2Proof.Machine.execCrystalResume s
  | .supplyReturn rail => Sys2Proof.Machine.execSupplyReturn rail s
  | .hearthConditionCease e => Sys2Proof.Machine.execHearthConditionCease e s
  | .healthAgeExpiry => Sys2Proof.Machine.execHealthAgeExpiry s
  | .kindlingPllTimeout => Sys2Proof.Machine.execKindlingPllTimeout s
  | .sensorReadingTimeout t => Sys2Proof.Machine.execSensorReadingTimeout t s
  | .gpioRise k => Sys2Proof.Machine.execGpioRise k s
  | .tapExtest => Sys2Proof.Machine.execTapExtest s
  | .tapIdcode => Sys2Proof.Machine.execTapIdcode s
  | .tapSamplePreload => Sys2Proof.Machine.execTapSamplePreload s
  | .tapClamp => Sys2Proof.Machine.execTapClamp s
  | .tapHighz => Sys2Proof.Machine.execTapHighz s
  | .tapExtestPulse => Sys2Proof.Machine.execTapExtestPulse s
  | .tapExtestTrain => Sys2Proof.Machine.execTapExtestTrain s
  | .tapHalt => Sys2Proof.Machine.execTapHalt s
  | .tapScanInt => Sys2Proof.Machine.execTapScanInt s
  | .tapLbistHub => Sys2Proof.Machine.execTapLbistHub s
  | .tapLbistHrt => Sys2Proof.Machine.execTapLbistHrt s
  | .tapBypass => Sys2Proof.Machine.execTapBypass s

end Sys2Proof.Machine
end

