-- ==== Sys2Proof/Safety.lean ====
section
/-! DEFINITION. The terms the claims use: what a command answers, the registers of a state, and what a command leaves as
it was. -/

namespace Sys2Proof.Machine

/-- Command `c` completes on `s`, and the state it answers satisfies `p`. -/
def Runs (c : Instr) (s : State) (p : State → Prop) : Prop := ∃ t, exec c s = .next t ∧ p t

/-- A predicate that every step keeps. -/
def StepKeeps (inv : State → Prop) : Prop := ∀ s t, inv s → step s = .next t → inv t

/-- The dword at BAR0 offset `a`, active view. -/
def State.word (s : State) (a : Nat) : Word := s.work.word a

/-- Value of a field of page `pg`, element `i`. -/
def State.rd (s : State) (pg : Nat) (f : Field) (i : Nat := 0) : Nat := s.work.rd pg f i

/-- A field that is not 0. -/
abbrev State.on (s : State) (pg : Nat) (f : Field) (i : Nat := 0) : Prop := s.rd pg f i ≠ 0

/-- Every dword outside `l` is as before. -/
def DwordsKept (l : List Nat) (s t : State) : Prop := ∀ a, a ∉ l → t.word a = s.word a

/-- The time base and the queue are as before. -/
def TimeKept (s t : State) : Prop := t.tally = s.tally ∧ t.pending = s.pending

/-- `o` is the newest thing to have left the part. -/
def LastOut (o : Out) (s t : State) : Prop := t.dev.out = s.dev.out ++ [o]

/-- A fault of a page is flagged: its class and its cause bit (R61). -/
abbrev State.flagged (s : State) (pg : Nat) (cls : FaultClass) (bit : Nat) : Prop :=
  s.rd pg (clsField cls) = 1 ∧ (s.rd pg HDR_FLT_CAUSE).testBit (bit - 16) = true

/-- No cluster in RUN or TEST, and no swap armed or pending: what a step of the Tally asks for (R130). -/
abbrev State.stepFree (s : State) : Prop :=
  (∀ c : Fin 48, s.rd (pgCLU c) CLU_CSTAT_STATE ≠ 3 ∧ s.rd (pgCLU c) CLU_CSTAT_STATE ≠ 5) ∧
  ¬ s.on pgPKG PKG_SWAP_STAT_ARMED ∧ ¬ s.on pgPKG PKG_SWAP_STAT_PENDING

/-- Exactly one report has left for collector `c`, as its child `i`. -/
def Reported (c : Coll) (i : Nat) (r : Report) (s t : State) : Prop := t.dev.flue = s.dev.flue ++ [⟨c, i, r⟩]

/-- The kinds of state of the device beside the registers, one for each part of `Dev`. -/
inductive Kind
  | shadow | latched | dram | sram | bad | rgn | clu | unit | lane | sl | adc | ain | cap | tout | ethRx | ethTx | flue
  | lines | events | eq | recd | net | hearth | twin | chop | kin | ember | therm | sec | swap | shut | held | out | freeCtr
  deriving DecidableEq, Repr

/-- Where a BAR0 offset lies: a page, by its block type, or a window or hole. -/
inductive Zone
  | page (k : PageKind)
  | window
  deriving DecidableEq, Repr

/-- The zone of a BAR0 offset (R53, R54). -/
def zoneOf (a : Nat) : Zone :=
  match pageOf a with
  | some (k, _) => .page k
  | none => .window

/-- A kind of state is the same in both. -/
def Kind.same (s t : Dev) : Kind → Prop
  | .shadow => t.shadow = s.shadow
  | .latched => t.latched = s.latched
  | .dram => t.dram = s.dram
  | .sram => t.sram = s.sram
  | .bad => t.bad = s.bad
  | .rgn => t.rgn = s.rgn
  | .clu => t.clu = s.clu
  | .unit => t.unit = s.unit
  | .lane => t.lane = s.lane
  | .sl => t.sl = s.sl
  | .adc => t.adc = s.adc
  | .ain => t.ain = s.ain
  | .cap => t.cap = s.cap
  | .tout => t.tout = s.tout
  | .ethRx => t.ethRx = s.ethRx
  | .ethTx => t.ethTx = s.ethTx
  | .flue => t.flue = s.flue
  | .lines => t.lines = s.lines
  | .events => t.events = s.events
  | .eq => t.eq = s.eq
  | .recd => t.recd = s.recd
  | .net => t.net = s.net
  | .hearth => t.hearth = s.hearth
  | .twin => t.twin = s.twin
  | .chop => t.chop = s.chop
  | .kin => t.kin = s.kin
  | .ember => t.ember = s.ember
  | .therm => t.therm = s.therm
  | .sec => t.sec = s.sec
  | .swap => t.swap = s.swap
  | .shut => t.shut = s.shut
  | .held => t.held = s.held
  | .out => t.out = s.out
  | .freeCtr => t.freeCtr = s.freeCtr

/-- Nothing has changed but the kinds of state `ks` and the dwords of `l`. -/
def Changes (ks : List Kind) (l : List Nat) (s t : State) : Prop :=
  TimeKept s t ∧ (∀ k, k ∉ ks → k.same s.dev t.dev) ∧ DwordsKept l s t

/-- Nothing has changed but the dwords of `l`. -/
def OnlyDwords (l : List Nat) (s t : State) : Prop := Changes [] l s t

/-- What a command may write: kinds of state, and zones of the registers. -/
structure Scope where
  kinds : List Kind
  zones : List Zone
  deriving DecidableEq, Repr

/-- From `s` to `t` nothing has changed outside the scope. -/
def Within (f : Scope) (s t : State) : Prop :=
  (∀ k, k ∉ f.kinds → k.same s.dev t.dev) ∧ ∀ a, zoneOf a ∉ f.zones → t.word a = s.word a

/-- A Tally time whose parts lie in their registers (R121). -/
abbrev TimeLegal (t : Time) : Prop := t.s < 2 ^ 48 ∧ t.ns < 1000000000 ∧ t.fr < 2 ^ 32

/-- A time in units of 2^-32 ns. -/
def units (t : Time) : Nat := (t.s * 1000000000 + t.ns) * 2 ^ 32 + t.fr

/-- The Tally's period in units of 2^-32 ns: 2^48 seconds. -/
def tallyPeriod : Nat := 2 ^ 48 * 1000000000 * 2 ^ 32

/-- Counter A lies in its registers and the increment in force within 1,000 ppm (R121, R127). -/
abbrev TallyLegal (s : State) : Prop := TimeLegal s.tally.a ∧ incLegal s.tally.incNs s.tally.incFrac = true

/-- All flags of HOST.ACC_ERR are clear (R51). -/
abbrev State.accClear (s : State) : Prop := (s.word (pgHOST + HOST_ACC_ERR_UNMAPPED.at 0)).toNat % 32 = 0

/-- An access is flagged in HOST.ACC_ERR; ACC_ADDR records it only if every flag was clear (R51, R52). -/
def AccFlagged (flag : Field) (bar off : Nat) (s t : State) : Prop :=
  t.rd pgHOST flag = 1 ∧
  (s.accClear → t.rd pgHOST HOST_ACC_ADDR_BAR = bar ∧ t.rd pgHOST HOST_ACC_ADDR_OFFSET = off) ∧
  (¬ s.accClear → t.word (pgHOST + HOST_ACC_ADDR_BAR.at 0) = s.word (pgHOST + HOST_ACC_ADDR_BAR.at 0))

/-- The dwords of HOST.ACC_ERR and ACC_ADDR. -/
def accDwords : List Nat := [pgHOST + HOST_ACC_ERR_UNMAPPED.at 0, pgHOST + HOST_ACC_ADDR_BAR.at 0]

/-- A byte of the DRAM (R50), and of the published hub SRAM (R49). -/
def State.dramByte (s : State) (a : Nat) : Byte := cellsGet byte0 s.dev.dram a
def State.sramByte (s : State) (a : Nat) : Byte := cellsGet byte0 s.dev.sram a

/-- The fence that answers an access to BAR0 offset `a` in place of its block, if one does (R107 to R115). -/
def State.fenceAt (s : State) (a : Nat) (write : Bool) : Option (Nat × Bool) := s.work.gate a write

/-- A host write, or a host read, at BAR0 offset `a` reaches its block: the Damper's gate is open (R118), and no fence answers in the
block's place. -/
abbrev State.reaches (s : State) (a : Nat) : Prop := s.dev.shut = false ∧ s.fenceAt a true = none
abbrev State.readable (s : State) (a : Nat) : Prop := s.dev.shut = false ∧ s.fenceAt a false = none

/-- The access to BAR0 that a host command makes where a page or window lies: its offset, and whether it is a write (R6, R47). -/
def hostAt : Instr → Option (Nat × Bool)
  | .registerWrite addr be _ => if be = 0xF ∧ mapped (addr.toNat / 4 * 4) then some (addr.toNat / 4 * 4, true) else none
  | .injArm page _ _ => if mapped (page.toNat * 0x1000 + 0x18) then some (page.toNat * 0x1000 + 0x18, true) else none
  | .pageLock page _ => if mapped (page.toNat * 0x1000 + 0x1C) then some (page.toNat * 0x1000 + 0x1C, true) else none
  | .hostBar0Read addr wide => if wide = false ∧ mapped (addr.toNat / 4 * 4) then some (addr.toNat / 4 * 4, false) else none
  | .cycT0NsRead n => some (pgRG n + RG_CYC_T0_NS.at 0, false)
  | .cycEnSet n => some (pgRG n + RG_CYC_CTL.at 0, true)
  | .cycEnClear n => some (pgRG n + RG_CYC_CTL.at 0, true)
  | .hdCommit u => some (pgUNIT u + UNIT_HD_CTL_COMMIT.at 0, true)
  | .sminRst n => some (pgABC n + ABC_ACTL.at 0, true)
  | .hostSlotWrite n slot _ => some (slotAddr n slot, true)
  | .stateWordWrite n x _ => some (stateWordAddr n x, true)
  | .fbSet n q => some (pgSP n (q / 16) + SP_CH_CTL_FB_SET.at (q % 16), true)
  | .setcopy => some (pgPKG + PKG_SWAP_SETCOPY.at 0, true)
  | .swapArm => some (pgPKG + PKG_SWAP_ARM.at 0, true)
  | .swapDisarm => some (pgPKG + PKG_SWAP_DISARM.at 0, true)
  | .tallyNowRead => some (pgTALLY + TALLY_NOW_NS.at 0, false)
  | .incFracWrite _ => some (pgTALLY + TALLY_INC_FRAC.at 0, true)
  | .incNsCommit _ => some (pgTALLY + TALLY_INC_NS.at 0, true)
  | .tallyStep _ => some (pgTALLY + TALLY_STEP_CTL_GO.at 0, true)
  | .nofsWrite _ => some (pgSPLL + SPLL_NOFS.at 0, true)
  | .captureRead k => some (pgTALLY + TALLY_CAP_NS_NS.at k, false)
  | .rxKeyRead p => some (pgETH p + ETH_RX_KEY_VALID.at 0, false)
  | .txKeyRead p => some (pgETH p + ETH_TX_KEY_VALID.at 0, false)
  | .cmdPrecharge c => some (pgCLU c + CLU_CMD.at 0, true)
  | .cmdRun c => some (pgCLU c + CLU_CMD.at 0, true)
  | .cmdStop c => some (pgCLU c + CLU_CMD.at 0, true)
  | .cmdOff c => some (pgCLU c + CLU_CMD.at 0, true)
  | .cmdTest c => some (pgCLU c + CLU_CMD.at 0, true)
  | .cmdBypass c => some (pgCLU c + CLU_CMD.at 0, true)
  | .cmdUnbypass c => some (pgCLU c + CLU_CMD.at 0, true)
  | .cmdClear c => some (pgCLU c + CLU_CMD.at 0, true)
  | .cmdLockout c => some (pgCLU c + CLU_CMD.at 0, true)
  | .stReqGo c _ _ => some (pgCLU c + CLU_ST_REQ_GO.at 0, true)
  | .laneRetrain c => some (pgCLANE c + CLANE_CMD_RETRAIN.at 0, true)
  | .laneFomRst c => some (pgCLANE c + CLANE_CMD_FOM_RST.at 0, true)
  | .adcNcmd a _ => some (pgAD a + AD_NCMD_GO.at 0, true)
  | .adcUcmd a _ => some (pgAD a + AD_UCMD_GO.at 0, true)
  | .adcCal a => some (pgAD a + AD_ACTL.at 0, true)
  | .adcDataRead a => some (pgAD a + AD_DATA_CODE.at 0, false)
  | .wcSelftestGo k => some (pgWC k + WC_WST_CTL.at 0, true)
  | .hearthRel _ => some (pgHRT + HRT_REL_GO.at 0, true)
  | .hearthPlea _ _ => some (pgHRT + HRT_PLEA_LEVEL.at 0, true)
  | .sealedUpdateGo _ => some (pgHRT + HRT_SUPD_CTL_GO.at 0, true)
  | .freezeRequest => some (pgPKG + PKG_FRZ_CTL.at 0, true)
  | .freezeRelease => some (pgPKG + PKG_FRZ_CTL.at 0, true)
  | .twinTake _ => some (pgTWIN + TWIN_TCMD_TAKE.at 0, true)
  | .twinHandover => some (pgTWIN + TWIN_TCMD_HANDOVER.at 0, true)
  | .eqNext q _ => some (pgEQ q + EQ_QCMD_NEXT.at 0, true)
  | .eqRelease q _ => some (pgEQ q + EQ_QCMD_NEXT.at 0, true)
  | .eqMark q _ => some (pgEQ q + EQ_QCMD_NEXT.at 0, true)
  | .eqRewind q _ => some (pgEQ q + EQ_QCMD_NEXT.at 0, true)
  | .eqQreset q => some (pgEQ q + EQ_QCMD_NEXT.at 0, true)
  | .eqPeakRst q => some (pgEQ q + EQ_QCMD_NEXT.at 0, true)
  | .eqPost q _ _ => some (pgEQ q + EQ_POST.at 0, true)
  | .recEnable => some (pgREC + REC_RCTL_EN.at 0, true)
  | .recDisable => some (pgREC + REC_RCTL_EN.at 0, true)
  | .recStop => some (pgREC + REC_RCTL_EN.at 0, true)
  | .recRearm => some (pgREC + REC_RCTL_EN.at 0, true)
  | .recTrig => some (pgREC + REC_RCTL_EN.at 0, true)
  | .slRetrain l => some (pgSYSN + SL_SLCMD_RETRAIN.at l, true)
  | .slFomRst l => some (pgSYSN + SL_SLCMD_FOM_RST.at l, true)
  | .sysTripSet _ => some (pgSYSN + SYSN_TRIP_CMD_SET.at 0, true)
  | .sysTripClr _ => some (pgSYSN + SYSN_TRIP_CMD_CLR.at 0, true)
  | .swapGo => some (pgSYSN + SYSN_SCMD_SWAP_GO.at 0, true)
  | .planGo => some (pgSYSN + SYSN_SCMD_PLAN_GO.at 0, true)
  | .rptRst => some (pgSYSN + SYSN_SCMD_RPT_RST.at 0, true)
  | .raGo => some (pgSYSN + SYSN_SCMD_RA_GO.at 0, true)
  | .kctlImgGo _ => some (pgPKG + PKG_KCTL_IMG_GO.at 0, true)
  | .pkgReset => some (pgPKG + PKG_RST_CTL_KEY.at 0, true)
  | .dieReset _ => some (pgPKG + PKG_RST_CTL_KEY.at 0, true)
  | .regionReset _ => some (pgPKG + PKG_RST_CTL_KEY.at 0, true)
  | .ecntRead => some (pgEMB + EMB_ECNT_LO.at 0, false)
  | .emberSleep => some (pgEMB + EMB_PWR_SLEEP.at 0, true)
  | .thermPeakRst => some (pgTHERM + THERM_TCMD.at 0, true)
  | .bistStart _ => some (pgBIST + BIST_BCTL_GO.at 0, true)
  | .bistAbort _ => some (pgBIST + BIST_BCTL_ABORT.at 0, true)
  | .umark _ _ => some (pgBIST + BIST_UMARK_KEY.at 0, true)
  | .lbistHubStart => some (pgBIST + BIST_BCTL_GO.at 0, true)
  | .lbistHrtStart => some (pgBIST + BIST_BCTL_GO.at 0, true)
  | .keyProg => some (pgSEC + SEC_SCTL_PROG.at 0, true)
  | .zeroise => some (pgSEC + SEC_SCTL_PROG.at 0, true)
  | .cstoreWrite _ => some (pgCSTORE + CSTORE_WCTL_GO.at 0, true)
  | _ => none

/-- A swap command, which the Damper's gate never holds (R117; log entry 62). -/
def isSwap : Instr → Bool
  | .setcopy | .swapArm | .swapDisarm | .swapGo => true
  | .registerWrite addr _ v => swapCommand (addr.toNat / 4 * 4) v
  | _ => false

/-- A fence has answered an access at BAR0 offset `off` in its block's place (R113 to R116): it is counted, FAB_ERR records the
first since both its flags were clear, and beside the kinds of state `ks` nothing else has changed. -/
def FenceAnswered (f : Nat) (busy write : Bool) (off : Nat) (ks : List Kind) (s t : State) : Prop :=
  let n := if busy then PKG_BUSY_COUNT else PKG_WDRN_COUNT
  t.rd pgPKG n = min (s.rd pgPKG n + 1) n.max ∧
  (¬ s.on pgHOST HOST_FAB_ERR_BUSY → ¬ s.on pgHOST HOST_FAB_ERR_WITHDRAWN →
    t.rd pgHOST HOST_FAB_ERR_OFFSET = off % 2 ^ 25 ∧ t.rd pgHOST HOST_FAB_ERR_WRITE = b2n write ∧ t.rd pgHOST HOST_FAB_ERR_FENCE = f % 16 ∧
    t.rd pgHOST (if busy then HOST_FAB_ERR_BUSY else HOST_FAB_ERR_WITHDRAWN) = 1) ∧
  (s.on pgHOST HOST_FAB_ERR_BUSY ∨ s.on pgHOST HOST_FAB_ERR_WITHDRAWN →
    t.word (pgHOST + HOST_FAB_ERR_BUSY.at 0) = s.word (pgHOST + HOST_FAB_ERR_BUSY.at 0)) ∧
  Changes ks [pgPKG + n.at 0, pgHOST + HOST_FAB_ERR_BUSY.at 0] s t

/-- The due time of pulse `j` of timed output `m`, in sixteenths of a nanosecond, with S[47:32] of the present time (R150). -/
def State.dueAt (s : State) (m j : Nat) : Int :=
  (((s.tally.a.s / 2 ^ 32 * 2 ^ 32 + s.rd pgTALLY TALLY_TO_S m) * 1000000000 + s.rd pgTALLY TALLY_TO_NS m +
    j * s.rd pgTALLY TALLY_TO_PER m) * 16 : Nat)

/-- Region `n` as it stands behind its registers. -/
def State.region (s : State) (n : Nat) : Region := s.work.rg n

/-- Region `n` runs cycles as the active region, unfenced, in phase `ph` of R40. -/
abbrev State.cycling (s : State) (n ph : Nat) : Prop :=
  (s.region n).run = true ∧ (s.region n).standby = false ∧ s.rd (pgRG n) RG_CYC_STAT_PHASE = ph ∧
  (s.rd pgPKG PKG_FENCE_STAT).testBit n = false

/-- The dwords of the input slots of region `n`: values and status words (R180, R181). -/
abbrev slotDword (n a : Nat) : Prop := slotAddr n 0 ≤ a ∧ a < lateAddr n 0

/-- Every dword whose offset does not satisfy `p` is as before. -/
def DwordsKeptBut (p : Nat → Prop) (s t : State) : Prop := ∀ a, ¬ p a → t.word a = s.word a
/-- Every kind of state outside `ks` is as before, with the time base and the queue. -/
def KindsKeptBut (ks : List Kind) (s t : State) : Prop := TimeKept s t ∧ ∀ k, k ∉ ks → k.same s.dev t.dev

/-- Cluster `o` runs its own state machine in the active region and is in service with no forced safe action under way. -/
abbrev State.serving (s : State) (o : Nat) : Prop :=
  s.work.owner o = o ∧ (s.region (o / 12)).standby = false ∧ inService (s.rd (pgCLU o) CLU_CSTAT_STATE) = true ∧
  (s.work.cl o).safePend = false

/-- The forced safe action of R248 has begun in cluster `o`: its units no longer emit, SAFE goes out in every slot, and the
cause is recorded and counted. -/
def ForcedSafe (o cause : Nat) (s t : State) : Prop :=
  t.rd (pgCLU o) CLU_CSTAT_SAFE_ACT = 1 ∧ t.rd (pgCLU o) CLU_CSTAT_LOCK_CAUSE = cause ∧
  t.rd (pgCLU o) CLU_LOCK_COUNT = min (s.rd (pgCLU o) CLU_LOCK_COUNT + 1) CLU_LOCK_COUNT.max ∧
  (t.work.cl o).safePend = true ∧ (∀ p ∈ s.work.legs o, (t.work.un p.2).emit = false) ∧
  (t.work.ln o).safe = some 0

/-- The Hearth has started reaction `h` (R389, R392): it is counted, its Ash record is written, from level 2 it is held, at
level 3 and above SAFE_OUT is asserted, and at level 4 ALIVE stops and HRT FLT.FATAL is set. -/
def Reacted (h : Held) (s t : State) : Prop :=
  t.dev.hearth.held = s.dev.hearth.held ++ (if 2 ≤ h.level then [h] else []) ∧
  t.rd pgHRT HRT_REACT_COUNT = min (s.rd pgHRT HRT_REACT_COUNT + 1) HRT_REACT_COUNT.max ∧
  t.rd pgHRT HRT_ASH_SEQ = (if s.rd pgHRT HRT_ASH_SEQ + 1 = 2 ^ 32 then 1 else s.rd pgHRT HRT_ASH_SEQ + 1) ∧
  (3 ≤ h.level → t.rd pgHRT HRT_HSTAT_SAFE_OUT = 1) ∧
  (4 ≤ h.level → t.rd pgHRT HRT_HSTAT_ALIVE_RUN = 0 ∧ t.rd pgHRT HDR_FLT_FATAL = 1)

/-- No reaction of a fixed kind is held. -/
abbrev State.notHeld (s : State) (kind : Nat) : Prop := ∀ h ∈ s.dev.hearth.held, h.kind ≠ kind

/-- The nine commands of cluster `c` with their codes (R245, R266). -/
def clusterCommands (c : Fin 48) : List (Instr × Nat) :=
  [(.cmdPrecharge c, 1), (.cmdRun c, 2), (.cmdStop c, 3), (.cmdOff c, 4), (.cmdTest c, 5), (.cmdBypass c, 6), (.cmdUnbypass c, 7),
   (.cmdClear c, 8), (.cmdLockout c, 9)]

/-- The transitions of R247 that need no more than the lane, as state, command and next state. -/
def plainTransitions : List (Nat × Nat × Nat) :=
  [(0, 5, 5), (0, 6, 4), (0, 9, 6), (1, 4, 0), (1, 6, 4), (1, 9, 6), (2, 2, 3), (2, 5, 5), (2, 4, 0), (2, 6, 4), (2, 9, 6),
   (3, 3, 2), (3, 4, 0), (3, 6, 4), (3, 9, 6), (5, 4, 0), (5, 6, 4), (5, 9, 6), (6, 6, 4), (4, 7, 0)]

/-- The cluster page shows a refusal with cause `r` and its state as before (R246). -/
def RefusedWith (c r : Nat) (s t : State) : Prop :=
  t.rd (pgCLU c) CLU_CSTAT_STATE = s.rd (pgCLU c) CLU_CSTAT_STATE ∧ t.rd (pgCLU c) CLU_CSTAT_REFUSED = 1 ∧
  t.rd (pgCLU c) CLU_CSTAT_REF_CAUSE = r ∧ t.rd (pgCLU c) CLU_CSTAT_PEND_CMD = 0 ∧
  t.rd (pgCLU c) CLU_REFUSE_COUNT = min (s.rd (pgCLU c) CLU_REFUSE_COUNT + 1) CLU_REFUSE_COUNT.max

/-- Nothing stands in the way of command `code` of cluster `c` but its state, its lane and its conditions: a topology, an active
region that is not fenced and, for PRECHARGE, RUN and TEST, runs cycles, and no self-test or update under way (R246, R373, R405,
R420). -/
abbrev State.unhindered (s : State) (c code : Nat) : Prop :=
  s.work.owner c = c ∧ s.rd (pgCLU c) CLU_CFG_TOPO ≠ 0 ∧ s.work.role ≠ 1 ∧ s.work.standsBy c = false ∧
  (s.rd pgPKG PKG_FENCE_STAT).testBit (c / 12) = false ∧
  (code ∈ [1, 2, 5] → s.on (pgRG (c / 12)) RG_CYC_CTL ∧ ¬ s.on (pgCLU c) CLU_PSTAT_ST_BUSY) ∧
  ¬ s.on pgHRT HRT_SUPD_STAT_BUSY ∧ ¬ s.on pgBIST BIST_BSTAT_HUB_RUN ∧ ¬ s.on pgBIST BIST_BSTAT_HRT_RUN

/-- And its lane is up. -/
abbrev State.commandable (s : State) (c code : Nat) : Prop := s.unhindered c code ∧ s.work.laneUp c = true

/-- A field of a lane of any kind: `fc` on a cell lane, `fs` on a system or twin lane. -/
def State.lrd (s : State) (l : LaneId) (fc fs : Field) : Nat := s.work.lrd l fc fs

/-- The state code of a lane (R278). -/
def State.lst (s : State) (l : LaneId) : Nat := s.work.lst l

/-- The dword of a lane's status register. -/
def laneStat (l : LaneId) : Nat := (lanePage l).1 + (laneFld l CLANE_LSTAT_STATE SL_SLSTAT_STATE).at (lanePage l).2

/-- The equaliser of a lane is loaded from EQ_INIT (R281). -/
def EqLoaded (l : LaneId) (s t : State) : Prop :=
  t.lrd l CLANE_EQ_CTLE SL_EQ_CTLE = s.lrd l CLANE_EQ_INIT_CTLE SL_EQ_INIT_CTLE ∧
  t.lrd l CLANE_EQ_DFE1 SL_EQ_DFE1 = s.lrd l CLANE_EQ_INIT_DFE1 SL_EQ_INIT_DFE1 ∧
  t.lrd l CLANE_EQ_DFE2 SL_EQ_DFE2 = s.lrd l CLANE_EQ_INIT_DFE2 SL_EQ_INIT_DFE2 ∧
  t.lrd l CLANE_EQ_DFE3 SL_EQ_DFE3 = s.lrd l CLANE_EQ_INIT_DFE3 SL_EQ_INIT_DFE3

/-- A change of state of a cell lane has been posted as an event of class 3, and one of another lane has not (R440). -/
def LaneEvent (l : LaneId) (old new : Nat) (s t : State) : Prop :=
  match l with
  | .cell c => t.dev.events = s.dev.events ++ [⟨3, pgCLANE c / 0x1000,
      [w32 (old * 2 ^ 24 + new * 2 ^ 16 + t.rd (pgCLANE c) CLANE_LSTAT_DOWN_CAUSE * 2 ^ 8)]⟩]
  | _ => t.dev.events = s.dev.events

/-- The lane has entered ACQUIRE: not aligned, its equaliser loaded, the time transfer of a cell lane afresh, and COARSE from the
start in holdover (R280, R281, R286, R289). -/
def LaneAcquires (l : LaneId) (s t : State) : Prop :=
  t.lst l = 1 ∧ t.lrd l CLANE_LSTAT_ALIGNED SL_SLSTAT_ALIGNED = 0 ∧ EqLoaded l s t ∧ TimeKept s t ∧
  ∀ c : Fin 48, l = .cell c →
    (t.work.ln c).exch = [] ∧ (t.work.ln c).accepted = 0 ∧ (t.work.ln c).ofs = 0 ∧ (t.work.ln c).rate = 0 ∧
    (s.on pgTALLY TALLY_STAT_HOLDOVER ↔ t.rd (pgCLANE c) CLANE_LSTAT_COARSE = 1)

/-- The fault of a lane's loss (R280, R435, R459): on a twin lane it is the link's, raised if the link was up. -/
def LossFlagged (l : LaneId) (s t : State) : Prop :=
  match l with
  | .cell c => t.flagged (pgCLANE c) .uc 16
  | .sys _ => t.flagged pgSYSN .uc 16
  | .twin _ => s.on pgTWIN TWIN_TSTAT_LINK_UP → t.flagged pgTWIN .uc 18

/-- The lane has gone DOWN from UP with a cause of R279: it is counted and raised. -/
def LaneGoesDown (l : LaneId) (cause : Nat) (s t : State) : Prop :=
  t.lst l = 4 ∧ t.lrd l CLANE_LSTAT_DOWN_CAUSE SL_SLSTAT_DOWN_CAUSE = cause ∧
  t.lrd l CLANE_DOWN_COUNT SL_DOWN_COUNT = min (s.lrd l CLANE_DOWN_COUNT SL_DOWN_COUNT + 1) CLANE_DOWN_COUNT.max ∧
  LossFlagged l s t ∧ TimeKept s t

/-- A criterion of R279 acts: in UP the lane is lost, in SYNC it acquires again (R280). -/
def LaneLosesBy (l : LaneId) (cause : Nat) (s t : State) : Prop :=
  (s.lst l = 3 → LaneGoesDown l cause s t) ∧ (s.lst l = 2 → LaneAcquires l s t)

/-- The next frame of lane `c` is of type `ty` with words `ws`, under its CRC, and it has left as the 40 symbols of its slot, coded
from the lane's running disparity, with the pair's polarity as TX_INV says (R268 to R271). -/
def FrameSent (c ty : Nat) (ws : List Quad) (s t : State) : Prop :=
  let bytes := BitVec.ofNat 8 ty :: ws.flatMap quadBytes
  let skip := (s.work.ln c).slot % 32 == 31
  let coded := encodeSyms (s.work.ln c).posDisp (slotSyms bytes (crc16 bytes) skip)
  LastOut (.frame c ty ws (crc16 bytes) skip (atPins (s.rd (pgCLANE c) CLANE_CTL_TX_INV != 0) coded.1)) s t ∧
  (t.work.ln c).slot = ((s.work.ln c).slot + 1) % 32 ∧ (t.work.ln c).posDisp = coded.2

/-- Lane `c` serves its own cluster alone, and its region is neither fenced nor standing by. -/
abbrev State.laneAlone (s : State) (c : Nat) : Prop :=
  s.work.owner c = c ∧ s.work.path2 c = false ∧ s.work.standsBy c = false ∧ (s.rd pgPKG PKG_FENCE_STAT).testBit (c / 12) = false

/-- Lane `c` checks frames: enabled, its region not fenced, its path not stalled, no injection armed at its CRC check (R272, R292,
R399, R563). -/
abbrev State.checking (s : State) (c : Nat) : Prop :=
  s.rd (pgCLANE c) CLANE_LSTAT_STATE ≠ 0 ∧ (s.rd pgPKG PKG_FENCE_STAT).testBit (c / 12) = false ∧
  s.work.pathStalled c = false ∧ ¬ s.on (pgCLANE c) HDR_INJ_ARMED

/-- And takes them in: it is aligned (R280). -/
abbrev State.hearing (s : State) (c : Nat) : Prop :=
  (s.rd (pgCLANE c) CLANE_LSTAT_STATE = 2 ∨ s.rd (pgCLANE c) CLANE_LSTAT_STATE = 3) ∧ s.checking c

/-- The messages that hand data to the blocks of a region, on lane `c` with CRC syndrome `y` (R309, R312, R322, R326, R316). -/
def dataMessages (c : Fin 48) (y : BitVec 16) (copy : Bool) (m : Meas) (r : Vector (Option TransRep) 4) (x : Trip) (st : Stat) (e : Echo)
    (sub : Fin 40) : List Instr :=
  [.measReceived c y copy m, .transReceived c y copy r, .tripReceived c y copy x, .statReceived c y copy st, .timeechoReceived c y copy e sub]

/-- Every dword of `keep` is as before, and every other one but those of `l` reads as at reset. -/
def ResetBut (keep : Nat → Bool) (l : List Nat) (s t : State) : Prop :=
  ∀ a, a ∉ l → t.word a = if keep a then s.word a else State.reset.word a

/-- A step of Kindling has failed (R489). -/
def State.failedAt (t : State) (step cause : Nat) : Prop :=
  t.rd pgPKG PKG_KSTAT_FAIL = 1 ∧ t.rd pgPKG PKG_KSTAT_FAIL_STEP = step ∧ t.rd pgPKG PKG_KSTAT_FAIL_CAUSE = cause

/-- Kindling runs and stands at a step, and nothing has failed (R487). -/
abbrev State.kindlingAt (s : State) (step : Nat) : Prop :=
  s.work.kindling = true ∧ s.rd pgPKG PKG_KSTAT_STEP = step ∧ ¬ s.on pgPKG PKG_KSTAT_FAIL

/-- The dword of KSTAT. -/
def kstat : Nat := pgPKG + PKG_KSTAT_DONE.at 0

/-- Epoch `e` is 1 plus the largest the package knows: its own, its twin's, and those its cell ends in UP report (R426). -/
def State.epochAfter (s : State) (e : Nat) : Prop :=
  (s.rd pgTWIN TWIN_EPOCH < e ∧ s.rd pgTWIN TWIN_TEPOCH < e ∧
    ∀ c : Fin 48, s.rd (pgCLANE c) CLANE_LSTAT_STATE = 3 → s.rd (pgCLANE c) CLANE_CE_EPOCH < e) ∧
  (e = s.rd pgTWIN TWIN_EPOCH + 1 ∨ e = s.rd pgTWIN TWIN_TEPOCH + 1 ∨
    ∃ c : Fin 48, s.rd (pgCLANE c) CLANE_LSTAT_STATE = 3 ∧ e = s.rd (pgCLANE c) CLANE_CE_EPOCH + 1)

/-- The package has decided a takeover (R425 to R427): it is ACTIVE with a new epoch, every lane in UP is owed its ROLE, and
each region that runs cycles and no self-test has its first boundary as active, at least 0.5 microseconds away, with T_EFF one
period later; the others are active at once, and their next boundary takes up the rest of R205. -/
def TookOver (s t : State) : Prop :=
  t.rd pgTWIN TWIN_TSTAT_ROLE = 2 ∧ t.rd pgTWIN TWIN_TSTAT_TOOK = 1 ∧ t.rd pgTWIN TWIN_TSTAT_ARMED = 0 ∧
  t.rd pgTWIN TWIN_RC_T_NS = s.tally.a.ns ∧
  (∀ c : Fin 48, s.rd (pgCLANE c) CLANE_LSTAT_STATE = 3 → (t.work.ln c).role = 2) ∧
  (∀ n : Fin 4, s.work.bistRun n = false →
    (s.work.cycling n = true → 0 < s.rd (pgRG n) RG_CYC_PERIOD → ∃ a : Int, (t.region n).takeAt = some a ∧ t16 s.tally.a + 8000 ≤ a ∧
      ∀ c : Fin 48, c.val / 12 = n → (t.work.ln c).claimAt = a + s.work.period16 n) ∧
    (s.work.cycling n = false → (t.region n).takeAt = some (t16 s.tally.a) ∧ (t.region n).standby = false)) ∧ TimeKept s t

/-- A TAKE or HANDOVER is refused with a cause (R425, R430). -/
def TwinRefused (cause : Nat) (s t : State) : Prop :=
  t.rd pgTWIN TWIN_TSTAT_REFUSED = 1 ∧ t.rd pgTWIN TWIN_TSTAT_REF_CAUSE = cause ∧ OnlyDwords [pgTWIN + TWIN_TSTAT_REFUSED.at 0] s t

/-- One ASL-T packet has left, of a type and region with a payload, under its CRC (R415). -/
def TwinSent (type n cyc ofs : Nat) (payload : List Word) (s t : State) : Prop :=
  let p := s.work.twinPkt type n cyc ofs payload
  LastOut (.twinPacket p (w32 (crc32 (twinBytes p)))) s t

/-- The package has stepped down (R432): STANDBY, DEPOSED with UC 21, no unit emits and no region acts. -/
def SteppedDown (s t : State) : Prop :=
  t.rd pgTWIN TWIN_TSTAT_ROLE = 1 ∧ t.rd pgTWIN TWIN_TSTAT_DEPOSED = 1 ∧ t.flagged pgTWIN .uc 21 ∧
  (∀ c : Fin 48, ∀ p ∈ s.work.legs c, s.work.owner c = c → (t.work.un p.2).emit = false) ∧
  (∀ n : Fin 4, (t.region n).standby = true) ∧ TimeKept s t

/-- Queue `q` behind its registers. -/
def State.queue (s : State) (q : Nat) : EqQ := s.work.q q

/-- Queue `q` is enabled and sound, owes no GAP packet, and has room on-chip for `n` more units with
nothing in its overflow (R442, R443). -/
abbrev State.queueTakes (s : State) (q n : Nat) : Prop :=
  s.on (pgEQ q) EQ_QCFG_EN ∧ ¬ s.on (pgEQ q) EQ_QSTAT_STOPPED ∧ ¬ s.on (pgEQ q) HDR_INJ_ARMED ∧ (s.queue q).gap = false ∧
  (s.queue q).ovf = s.rd (pgEQ q) EQ_WR ∧ s.work.qLevel q + n ≤ 2048

/-- Queue `q` has taken the packet `d`: it lies at the old WR, and WR has moved past it (R442). -/
def QueueTook (q : Nat) (d : List Word) (s t : State) : Prop :=
  (t.queue q).pkts = (s.queue q).pkts ++ [(s.rd (pgEQ q) EQ_WR, d)] ∧
  t.rd (pgEQ q) EQ_WR = (s.rd (pgEQ q) EQ_WR + d.length / 2) % 2 ^ 32 ∧ t.rd (pgEQ q) EQ_RD = s.rd (pgEQ q) EQ_RD ∧
  t.rd (pgEQ q) EQ_POST_COUNT = min (s.rd (pgEQ q) EQ_POST_COUNT + 1) EQ_POST_COUNT.max ∧
  t.rd (pgEQ q) EQ_QSTAT_LEVEL = t.work.qLevel q % 2 ^ EQ_QSTAT_LEVEL.wid

/-- The dwords of queue `q`'s positions, levels and counters. -/
def queueDwords (q : Nat) : List Nat :=
  [pgEQ q + EQ_QSTAT_LEVEL.at 0, pgEQ q + EQ_WR.at 0, pgEQ q + EQ_RD.at 0, pgEQ q + EQ_REL.at 0, pgEQ q + EQ_MARK.at 0,
   pgEQ q + EQ_PEAK.at 0, pgEQ q + EQ_POST_COUNT.at 0, pgEQ q + EQ_WM_COUNT.at 0, pgEQ q + EQ_LOST_COUNT.at 0,
   pgEQ q + EQ_QRESET_COUNT.at 0]

/-- The SEQ the next packet of a type carries (R460). -/
def State.seqOf (s : State) (type : Nat) : Nat := (s.work.nextSeq type).2

/-- The packets waiting at output port `p`, oldest first, and the packets delivered and not yet acted on. -/
def State.waiting (s : State) (p : Nat) : List OutPkt := (s.work.sln p).queue
def State.inbox (s : State) : List NetIn := s.dev.net.inbox

/-- The oldest delivered packet of a type. -/
def State.arrived (s : State) (type : Nat) : Option NetIn := s.inbox.find? fun i => i.pkt.type.toNat == type

/-- Port `p` has been given packet `k` of class `prio` to send: it waits behind the others, or is dropped with CE 22 where 32 of
its class wait already (R464). -/
def Queued (prio p : Nat) (k : Pkt) (s t : State) : Prop :=
  let full : Prop := 32 ≤ ((s.waiting p).filter fun o => o.prio == prio).length
  (¬ full → t.waiting p = s.waiting p ++ [⟨prio, k, false⟩]) ∧
  (full → t.waiting p = s.waiting p ∧ t.flagged pgSYSN .ce 22)

/-- Port `p` passes a flood or multicast packet on: it is in UP, the packet did not come by it, and it lies in FLOOD unless the
packet is a TRIP (R463). -/
abbrev State.leaves (s : State) (k : Pkt) (arr : Option Nat) (p : Nat) : Prop :=
  s.rd pgSYSN SL_SLSTAT_STATE p = 3 ∧ arr ≠ some p ∧ (k.type = 0x10 ∨ (s.rd pgSYSN SYSN_NCFG_FLOOD).testBit p = true)

/-- Packet `k` has been given to every port it leaves by, and to no other. -/
def Flooded (prio : Nat) (k : Pkt) (arr : Option Nat) (s t : State) : Prop :=
  ∀ p : Fin 8, (s.leaves k arr p → Queued prio p k s t) ∧ (¬ s.leaves k arr p → t.waiting p = s.waiting p)

/-- The port of a unicast packet: the one its route entry names where that is in UP, else that lane's ALT, else none (R463). -/
def State.route (s : State) (pkg : Nat) : Option Nat :=
  let p := s.rd pgSYSN SYSN_ROUTE (pkg / 8) / 16 ^ (pkg % 8) % 16
  let alt := s.rd pgSYSN SL_SLCTL_ALT p
  if p = 15 then none
  else if p < 8 ∧ s.rd pgSYSN SL_SLSTAT_STATE p = 3 then some p
  else if alt < 8 ∧ s.rd pgSYSN SL_SLSTAT_STATE alt = 3 then some alt
  else none

/-- A unicast packet for another package has been routed, or discarded with CE 18 (R463). -/
def Routed (prio : Nat) (k : Pkt) (s t : State) : Prop :=
  (∀ p, s.route (k.dst.toNat % 1024) = some p → Queued prio p k s t ∧ ∀ q : Fin 8, q.val ≠ p → t.waiting q = s.waiting q) ∧
  (s.route (k.dst.toNat % 1024) = none → t.flagged pgSYSN .ce 18 ∧ ∀ q : Fin 8, t.waiting q = s.waiting q)

/-- The packet of `type` to `dst` that this package originates next (R460). -/
def State.own (s : State) (type : Nat) (dst : BitVec 16) (payload : List Word) : Pkt :=
  ⟨BitVec.ofNat 8 type, s.rd pgTALLY TALLY_STAT_HOLDOVER != 0, dst, BitVec.ofNat 10 (s.rd pgCSTORE CSTORE_IDENT_ACT_PKG), 12,
   BitVec.ofNat 8 (s.seqOf type), payload⟩

/-- This package has sent such a packet with what `rest` the inbox held before: on its ports, and to itself by loopback where it
is the destination (R460, R463). -/
def Originated (rest : List NetIn) (prio type : Nat) (dst : BitVec 16) (payload : List Word) (s t : State) : Prop :=
  let k := s.own type dst payload
  let self : Prop := dst.toNat / 2 ^ 14 = 2 ∨
    (dst.toNat / 2 ^ 14 = 1 ∧ (s.rd pgSYSN SYSN_MGRP (dst.toNat % 1024 / 32)).testBit (dst.toNat % 32) = true) ∨
    (dst.toNat / 2 ^ 14 = 0 ∧ dst.toNat % 1024 = s.rd pgCSTORE CSTORE_IDENT_ACT_PKG)
  t.seqOf type = (s.seqOf type + 1) % 256 ∧
  (self → t.inbox = rest ++ [⟨none, k, t16 s.tally.a⟩]) ∧ (¬ self → t.inbox = rest) ∧
  (dst.toNat / 2 ^ 14 = 0 → ¬ self → Routed prio k s t) ∧ (1 ≤ dst.toNat / 2 ^ 14 → Flooded prio k none s t)

/-- The dwords a packet's sending may change: the fault flags and the counters of the SYSN page. -/
def sendDwords : List Nat := [pgSYSN + HDR_FLT_CAUSE.at 0, pgSYSN + SYSN_PKT_DROP_COUNT.at 0, pgSYSN + SYSN_NOROUTE_COUNT.at 0]

/-- The DRAM and the published hub SRAM are in their canonical form (R49, R50). -/
abbrev Memory.wf (s : State) : Prop := cellsWf byte0 s.dev.dram = true ∧ cellsWf byte0 s.dev.sram = true

/-- The kinds of state a Hearth reaction, the Hearth's display, a cluster's change of state, a forced safe action, the sending of
a packet and a fault report may write. -/
def reactKinds : List Kind := [.sram, .bad, .clu, .unit, .lane, .sl, .flue, .lines, .events, .recd, .net, .hearth, .chop, .out]
def showKinds : List Kind := [.lane, .sl, .flue, .lines, .net, .hearth, .chop, .out]
def clusterKinds : List Kind := [.sram, .bad, .clu, .unit, .lane, .flue, .lines, .events, .recd, .out]
def safeKinds : List Kind := [.clu, .unit, .lane, .flue, .lines, .out]
def sendKinds : List Kind := [.sl, .flue, .lines, .net, .out]
def reportKinds : List Kind := [.flue, .lines, .out]

/-- The pages a Hearth reaction may write, and those of a region. -/
def reactPages : List PageKind := [.clu, .hrt, .hrt1, .hrt2, .sysn, .recorder, .pkg]
def regionPages : List PageKind := [.rg, .abc, .sp, .clu, .unit, .clane]

/-- The scope of the kinds `ks` and pages `ps`; `scopeW` has the windows with them. -/
def scope (ks : List Kind) (ps : List PageKind) : Option Scope := some ⟨ks, ps.map .page⟩
def scopeW (ks : List Kind) (ps : List PageKind) : Option Scope := some ⟨ks, .window :: ps.map .page⟩

/-- What a command may write at most: kinds of state and pages. None stands for the commands that reach the whole device or its
time base: host writes, steps of the time base, and resets of the package. -/
def scopeOf : Instr → Option Scope
  | .registerWrite _ _ _ => none
  | .hostBar0Read _ _ => scope [.rgn, .cap, .ethRx, .ethTx, .held, .out] [.ad, .emb, .eth, .host, .pkg, .tally]
  | .hostBar2Write _ _ => scope [.dram, .bad, .held, .freeCtr] [.host, .pkg]
  | .hostBar2Read _ _ _ => scope (reactKinds ++ [.held, .freeCtr]) (reactPages ++ [.host, .rg])
  | .hostBar4Read _ _ _ => scope (reactKinds ++ [.held, .freeCtr]) (reactPages ++ [.host, .rg])
  | .hostBar4Write _ => scope [.held] [.host]
  | .injArm _ _ _ => none
  | .pageLock _ _ => none
  | .cycT0NsRead _ => scope [.rgn, .held, .out] [.host, .pkg]
  | .cycEnSet _ => scopeW [.rgn, .clu, .unit, .lane, .twin, .held] [.host, .pkg, .rg]
  | .cycEnClear _ => scope [.rgn, .held] [.host, .pkg, .rg]
  | .boundary _ => scopeW (clusterKinds ++ [.shadow, .latched, .rgn, .sl, .net, .hearth, .twin]) (regionPages ++ [.pkg, .recorder, .sysn, .twin, .wc])
  | .inputDeadline _ => scopeW (reportKinds ++ [.rgn, .unit, .lane, .twin]) [.abc, .hrt, .rg, .sp, .unit]
  | .abacusSection _ _ => scopeW (reactKinds ++ [.rgn, .freeCtr]) (reactPages ++ [.abc, .rg, .sp, .unit])
  | .outputDeadline _ _ => scope (clusterKinds ++ [.rgn]) [.abc, .clu, .hrt, .recorder, .rg, .unit]
  | .carrierPeriodStart _ => scope (reportKinds ++ [.unit]) [.unit]
  | .edgeWordLate _ => scope safeKinds [.clu, .unit]
  | .hdCommit _ => scope [.unit, .held] [.host, .pkg, .unit]
  | .sminRst _ => scope [.held] [.abc, .host, .pkg]
  | .hostSlotWrite _ _ _ => scope [.rgn, .held] [.abc, .host, .pkg]
  | .stateWordWrite _ _ _ => scopeW [.held] [.abc, .host, .pkg]
  | .fbSet _ _ => scope [.rgn, .held] [.host, .pkg]
  | .setcopy => scope [] [.host, .pkg]
  | .setCopyDone => scope [.shadow] (regionPages ++ [.eq, .pkg, .recorder, .sysn, .wc])
  | .swapArm => scope [.swap] [.abc, .host, .pkg]
  | .swapDisarm => scope [.net] [.host, .pkg]
  | .swapChecksComplete => scope (sendKinds ++ [.events, .swap]) [.abc, .pkg, .sysn, .twin]
  | .swapDecision => scopeW (clusterKinds ++ [.shadow, .rgn, .sl, .cap, .eq, .net, .hearth, .twin]) (regionPages ++ [.eq, .pkg, .recorder, .sysn, .tally, .twin, .wc])
  | .crcPassComplete _ => scope reactKinds reactPages
  | .stallGuardFire _ _ _ => scope reactKinds (reactPages ++ [.rg])
  | .handshakeProtocolError _ _ _ => scope reactKinds (reactPages ++ [.rg])
  | .dualRailCodeError _ _ => scope reactKinds (reactPages ++ [.rg])
  | .bistFenceRaised _ => scope [.rgn, .clu, .lane, .adc, .recd, .twin, .sec] [.abc, .ad, .pkg, .rg, .sp]
  | .damperFrameStart => scope [.shut] [.pkg, .spll, .twin]
  | .damperGateOpen => none
  | .tallyTick _ _ => none
  | .tallyNowRead => scope [.held, .out] [.host, .pkg, .tally]
  | .incFracWrite _ => none
  | .incNsCommit _ => none
  | .tallyStep _ => none
  | .nofsWrite _ => none
  | .pllSettled => none
  | .pllLockAcquired => none
  | .lockedSet => none
  | .lockedClear => none
  | .pllSlip => none
  | .holdoverRefclkEdge _ => none
  | .gatesReopen => none
  | .holdExpired => scope safeKinds [.clu, .spll]
  | .refLost => scope reportKinds [.spll]
  | .freqCheckWindow _ => scope reportKinds [.hrt, .spll]
  | .captureEdge _ _ _ => scope [.cap] [.tally]
  | .captureRead _ => scope [.cap, .held, .out] [.host, .pkg, .tally]
  | .timedOutputDue _ => scope [.tout, .out] [.tally]
  | .timedOutputPulseEnd _ => scope [.tout, .out] []
  | .ptpRxTimestamp _ _ _ => scope [.ethRx] [.eth]
  | .ptpTxTimestamp _ _ _ _ => scope [.ethTx, .out] [.eth]
  | .rxKeyRead _ => scope [.ethRx, .held, .out] [.eth, .host, .pkg]
  | .txKeyRead _ => scope [.ethTx, .held, .out] [.eth, .host, .pkg]
  | .cmdPrecharge _ => scope (clusterKinds ++ [.rgn, .held]) [.clu, .host, .pkg, .recorder, .unit]
  | .cmdRun _ => scope (clusterKinds ++ [.rgn, .held]) [.clu, .host, .pkg, .recorder, .unit]
  | .cmdStop _ => scope (clusterKinds ++ [.rgn, .held]) [.clu, .host, .pkg, .recorder, .unit]
  | .cmdOff _ => scope (clusterKinds ++ [.rgn, .held]) [.clu, .host, .pkg, .recorder, .unit]
  | .cmdTest _ => scope (clusterKinds ++ [.rgn, .held]) [.clu, .host, .pkg, .recorder, .unit]
  | .cmdBypass _ => scope (clusterKinds ++ [.rgn, .held]) [.clu, .host, .pkg, .recorder, .unit]
  | .cmdUnbypass _ => scope (clusterKinds ++ [.rgn, .held]) [.clu, .host, .pkg, .recorder, .unit]
  | .cmdClear _ => scope (clusterKinds ++ [.rgn, .held]) [.clu, .host, .pkg, .recorder, .unit]
  | .cmdLockout _ => scope (clusterKinds ++ [.rgn, .held]) [.clu, .host, .pkg, .recorder, .unit]
  | .prechargeTimeout _ => scope safeKinds [.clu]
  | .bypassTimeout _ => scope (reportKinds ++ [.clu]) [.clu]
  | .censusMaskRepeat => scope sendKinds [.sysn]
  | .censusMaskAged _ _ => scope [] [.rg]
  | .adcPlanTrigger _ _ => scope [.adc] [.ad]
  | .stReqGo _ _ _ => scope [.clu, .lane, .held] [.clu, .host, .pkg]
  | .ceSelftestTimeout _ => scope (reportKinds ++ [.clu]) [.clu]
  | .downlinkSlot _ _ => scope [.clu, .unit, .lane, .events, .out] [.clane, .clu, .unit]
  | .uplinkBadFrame _ => scope (reportKinds ++ [.lane]) [.clane, .sysn]
  | .idleFrameReceived _ _ _ => scope (reportKinds ++ [.lane]) [.clane, .hrt, .sysn]
  | .measReceived _ _ _ _ => scopeW (reportKinds ++ [.rgn, .lane]) [.abc, .clane, .clu, .hrt, .pkg, .sysn]
  | .transReceived _ _ _ _ => scope (reportKinds ++ [.unit, .lane]) [.clane, .hrt, .pkg, .sysn, .unit]
  | .tripReceived _ _ _ _ => scope clusterKinds [.clane, .clu, .hrt, .pkg, .recorder, .sysn, .unit]
  | .statReceived _ _ _ _ => scope (reactKinds ++ [.rgn, .twin]) [.clane, .clu, .hrt, .hrt1, .pkg, .recorder, .sysn, .twin]
  | .timeechoReceived _ _ _ _ _ => scope (reportKinds ++ [.lane]) [.clane, .hrt, .pkg, .sysn]
  | .pingStart _ => scope [.lane] []
  | .exchangeLost _ => scope (reportKinds ++ [.lane]) [.clane]
  | .skipGap _ _ => scope (safeKinds ++ [.sl, .events, .hearth, .twin]) [.clane, .clu, .sysn, .twin]
  | .commaAligned _ => scope [.events] [.clane, .sysn]
  | .cdrLockLost _ => scope (safeKinds ++ [.sl, .events, .hearth, .twin]) [.clane, .clu, .sysn, .twin]
  | .codeViolation _ _ => scope (safeKinds ++ [.sl, .events, .hearth, .twin]) [.clane, .clu, .sysn, .twin]
  | .noFrameTimeout _ => scope (safeKinds ++ [.sl, .events, .hearth, .twin]) [.clane, .clu, .sysn, .twin]
  | .elasticBufferError _ => scope (safeKinds ++ [.sl, .events, .hearth, .twin]) [.clane, .clu, .sysn, .twin]
  | .acquireTimeout _ => scope [] [.clane, .sysn]
  | .syncTimeout _ => scope [.lane, .sl, .events, .hearth] [.clane, .sysn]
  | .laneRetryTimeout _ => scope [.lane, .sl, .events, .hearth] [.clane, .sysn]
  | .laneRetrain _ => scope (safeKinds ++ [.sl, .events, .hearth, .twin, .held]) [.clane, .clu, .host, .pkg, .sysn, .twin]
  | .laneFomRst _ => scope [.held] [.clane, .host, .pkg, .sysn]
  | .adaptStep _ _ _ => scope [.held] [.clane, .sysn]
  | .adaptFreeze _ => scope [] [.clane, .sysn]
  | .fomMeasure _ _ => scope reportKinds [.clane, .sysn]
  | .cmdResend _ => scope (reportKinds ++ [.clu, .lane]) [.clane, .clu]
  | .roleRepeat _ => scope [.lane] []
  | .adcNcmd _ _ => scope [.adc, .held] [.ad, .host, .pkg]
  | .adcUcmd _ _ => scope [.adc, .held] [.ad, .host, .pkg]
  | .adcCal _ => scope [.adc, .held] [.ad, .host, .pkg]
  | .adcCalComplete _ _ _ _ => scope (reportKinds ++ [.adc]) [.ad]
  | .adcConversionComplete _ _ => scopeW (reactKinds ++ [.rgn, .adc]) (reactPages ++ [.abc, .ad])
  | .adcConvTimeout _ => scope (reportKinds ++ [.adc]) [.ad]
  | .adcDataRead _ => scope [.held, .out] [.ad, .host, .pkg]
  | .wcCrossing _ _ => scope (clusterKinds ++ [.ain, .cap]) [.clu, .pkg, .recorder, .tally, .unit, .wc]
  | .wcSettled _ _ => scope (clusterKinds ++ [.ain, .cap]) [.clu, .pkg, .recorder, .tally, .unit, .wc]
  | .wcSelftestGo _ => scope [.held] [.host, .pkg, .wc]
  | .wcSelftestDone _ _ _ _ _ => scope (clusterKinds ++ [.ain, .cap]) [.clu, .pkg, .recorder, .tally, .unit, .wc]
  | .emberTick _ => scope (reactKinds ++ [.rgn, .tout, .ember]) (reactPages ++ [.claim, .emb, .sec, .tally, .unit])
  | .tripnTransition _ _ => scope clusterKinds [.clu, .pkg, .recorder, .unit]
  | .chopfbTransition _ _ => scope clusterKinds [.clu, .pkg, .recorder, .unit]
  | .chopTmaxOnExpiry _ => scope (reportKinds ++ [.chop]) [.pkg]
  | .chopTminOffExpiry _ => scope [.chop, .out] [.pkg]
  | .flueReportArrive _ _ _ => scope reactKinds (reactPages ++ [.rg])
  | .fatalLine _ => scope reactKinds reactPages
  | .hearthConditionQualify _ => scope reactKinds reactPages
  | .hearthRel _ => scope (showKinds ++ [.events, .recd, .held]) [.host, .hrt, .hrt1, .hrt2, .pkg, .sysn]
  | .hearthPlea _ _ => scope (reactKinds ++ [.held]) (reactPages ++ [.host])
  | .hearthCopyMismatch _ => scope reactKinds reactPages
  | .aliveToggle => scope [.hearth, .out] []
  | .supplyOutOfRange _ => scope (reactKinds ++ [.kin]) reactPages
  | .scrubAccess _ _ _ => scope reactKinds (reactPages ++ [.rg])
  | .haltGuardSample => scope [.adc] [.ad]
  | .haltGuardExpiry => scope reactKinds reactPages
  | .sealedUpdateGo _ => scope [.held] [.host, .hrt, .pkg]
  | .sealedUpdateDone => scope reactKinds (reactPages ++ [.rg])
  | .freezeRequest => scope [.unit, .lane, .hearth, .held] [.host, .pkg]
  | .freezePoint => scope reactKinds (reactPages ++ [.unit])
  | .freezeRelease => scope [.unit, .hearth, .held] [.host, .hrt, .pkg]
  | .roleRxEdge _ => scope (reportKinds ++ [.twin]) [.twin]
  | .roleRxTimeout => scopeW (reactKinds ++ [.rgn, .twin, .sec]) [.bist, .clane, .clu, .hrt, .hrt1, .pkg, .recorder, .sysn, .twin]
  | .twinTake _ => scopeW (reactKinds ++ [.rgn, .twin, .sec, .held]) [.bist, .clane, .clu, .host, .hrt, .hrt1, .pkg, .recorder, .sysn, .twin]
  | .twinHandover => scope [.twin, .held, .out] [.host, .pkg, .twin]
  | .hoReqReceived _ _ => scope [.twin, .out] [.twin]
  | .hoAckReceived _ => scope [.twin] [.twin]
  | .hoNakReceived _ => scope (reportKinds ++ [.twin]) [.twin]
  | .hoAnswerTimeout => scope (reportKinds ++ [.twin]) [.twin]
  | .handoverTime => scopeW (reactKinds ++ [.rgn, .twin, .sec]) [.bist, .clane, .clu, .hrt, .hrt1, .pkg, .recorder, .sysn, .twin]
  | .helloReceived _ _ _ _ _ => scope (showKinds ++ [.sram, .bad, .rgn, .unit, .events, .recd, .twin]) [.hrt, .hrt1, .pkg, .recorder, .sysn, .twin]
  | .helloRepeat => scope [.out] []
  | .twinLinkTimeout => scope (reportKinds ++ [.twin]) [.twin]
  | .copyReceived _ _ _ _ => scope [.twin] [.pkg]
  | .copyEndReceived _ _ _ _ _ => scope (reportKinds ++ [.twin]) [.hrt, .pkg, .twin]
  | .healthRepeat => scope [.out, .freeCtr] []
  | .healthReceived _ _ _ => scope (reportKinds ++ [.twin]) [.twin]
  | .twinReadyTimeout => scope (reportKinds ++ [.twin]) [.twin]
  | .twinConflictDetect => scope (showKinds ++ [.sram, .bad, .rgn, .unit, .events, .recd, .twin]) [.hrt, .hrt1, .pkg, .recorder, .sysn, .twin]
  | .eventPost _ _ => scope (reportKinds ++ [.dram, .bad, .events, .eq]) [.eq, .hrt]
  | .ovfMove _ _ => scope (reportKinds ++ [.eq]) [.eq, .hrt]
  | .eqNext _ _ => scope (reportKinds ++ [.eq, .held]) [.eq, .host, .hrt, .pkg]
  | .eqRelease _ _ => scope (reportKinds ++ [.eq, .held]) [.eq, .host, .hrt, .pkg]
  | .eqMark _ _ => scope (reportKinds ++ [.held]) [.eq, .host, .hrt, .pkg]
  | .eqRewind _ _ => scope (reportKinds ++ [.held]) [.eq, .host, .hrt, .pkg]
  | .eqQreset _ => scope [.eq, .held, .out] [.eq, .host, .pkg]
  | .eqPeakRst _ => scope (reportKinds ++ [.held]) [.eq, .host, .hrt, .pkg]
  | .eqPost _ _ _ => scope (reportKinds ++ [.dram, .bad, .eq, .held]) [.eq, .host, .hrt, .pkg]
  | .recorderFrameWrite => scope [.dram, .bad, .recd, .held] []
  | .recEnable => scope [.events, .recd, .held] [.host, .pkg, .recorder]
  | .recDisable => scope [.events, .held] [.host, .pkg, .recorder]
  | .recStop => scope [.sram, .bad, .events, .recd, .held] [.host, .pkg, .recorder]
  | .recRearm => scope [.events, .recd, .held] [.host, .pkg, .recorder]
  | .recTrig => scope [.sram, .bad, .events, .recd, .held] [.host, .pkg, .recorder]
  | .ashCopy => scope [.sram, .bad, .recd] [.recorder]
  | .slLinkReceived _ _ _ => scope [.sl, .out] [.sysn]
  | .slLinkRepeat _ => scope sendKinds [.sysn]
  | .slNolinkTimeout _ => scope (safeKinds ++ [.sl, .events, .hearth, .twin]) [.clane, .clu, .sysn, .twin]
  | .slRetrain _ => scope (safeKinds ++ [.sl, .events, .hearth, .twin, .held]) [.clane, .clu, .host, .pkg, .sysn, .twin]
  | .slFomRst _ => scope [.held] [.host, .pkg, .sysn]
  | .slPacketReceived _ _ _ _ => scope sendKinds [.hrt, .sysn]
  | .slPacketTransmit _ _ => scope [.sl, .net, .out, .freeCtr] [.sysn]
  | .sysTripSet _ => scope (sendKinds ++ [.held]) [.host, .pkg, .sysn]
  | .sysTripClr _ => scope (sendKinds ++ [.held]) [.host, .pkg, .sysn]
  | .sysTripRepeat => scope sendKinds [.sysn]
  | .sysTripReceived => scope [.net] [.sysn]
  | .sysTripTimeout _ => scope [] [.sysn]
  | .sysTreqStart => scope sendKinds [.sysn]
  | .treqReceived => scope sendKinds [.sysn]
  | .trespReceived => scope (reportKinds ++ [.net]) [.sysn]
  | .sysExchangeLost => scope (reportKinds ++ [.net]) [.sysn]
  | .swapGo => scope sendKinds [.host, .pkg, .sysn]
  | .swapPacketReceived => scope (sendKinds ++ [.swap]) [.abc, .pkg, .sysn]
  | .planGo => scope (sendKinds ++ [.held]) [.host, .pkg, .sysn]
  | .planReceived => scope sendKinds [.pkg, .sysn]
  | .reportReceived => scope [.net] [.sysn]
  | .rptRst => scope [.held] [.host, .pkg, .sysn]
  | .maskReceived => scope [.net] []
  | .pointReceived => scopeW [.rgn, .net] [.abc, .pkg]
  | .raGo => scope (sendKinds ++ [.held]) [.host, .pkg, .sysn]
  | .rreqReceived => scope (sendKinds ++ [.shadow]) (regionPages ++ [.eq, .pkg, .recorder, .sec, .sysn, .wc])
  | .rrspReceived => scope [.net] [.sysn]
  | .raTimeout => scope [.net] [.sysn]
  | .porstNFall => none
  | .porstNRise _ => scope [.kin] [.emb]
  | .hearthSelfCheckDone _ => none
  | .pcieLinkUp => none
  | .dramTrained _ => none
  | .bootImageRead _ => scope [.dram, .bad, .kin] [.pkg]
  | .kctlImgGo _ => scope (reactKinds ++ [.kin, .held]) (reactPages ++ [.host, .rg])
  | .imageLoad => none
  | .kindlingComplete => scope [] [.pkg]
  | .pkgReset => none
  | .dieReset _ => scopeW (showKinds ++ [.latched, .rgn, .clu, .unit, .adc, .events, .recd, .twin, .kin, .therm, .sec, .held]) (regionPages ++ [.ad, .bist, .host, .hrt, .hrt1, .pkg, .sysn])
  | .regionReset _ => scopeW (showKinds ++ [.latched, .rgn, .clu, .unit, .adc, .events, .recd, .twin, .kin, .sec, .held]) (regionPages ++ [.ad, .bist, .host, .hrt, .hrt1, .pkg, .sysn])
  | .regionResetDone _ => scopeW (clusterKinds ++ [.shadow, .rgn, .sl, .hearth, .twin, .kin]) (regionPages ++ [.pkg, .recorder, .sysn, .twin])
  | .pciePerstFall => scope [.kin] [.host]
  | .pciePerstRise => scope [.kin] []
  | .ecntRead => scope [.held, .out] [.emb, .host, .pkg]
  | .xtalStable => scope [] [.emb]
  | .xtalFail => scope [] [.emb]
  | .emberSleep => scope [.ember, .held] [.emb, .host, .pkg]
  | .sleepDelayExpiry => scope [.ember, .out] [.emb]
  | .emberAlarm => scope [.ember, .out] [.emb]
  | .tempSample _ _ => scope (reactKinds ++ [.kin, .therm]) (reactPages ++ [.therm])
  | .thermalOffEntry => none
  | .thermalRestart => none
  | .thermPeakRst => scope [.therm, .held] [.host, .pkg, .therm]
  | .bistStart _ => scope [.sec, .held] [.bist, .host, .pkg]
  | .bistAbort _ => scopeW [.rgn, .clu, .unit, .lane, .sl, .events, .hearth, .sec, .held] [.bist, .clane, .clu, .host, .pkg, .sysn]
  | .bistComplete _ _ _ _ => scopeW (safeKinds ++ [.rgn, .sl, .events, .hearth, .ember, .sec, .held]) [.bist, .clane, .clu, .pkg, .sysn]
  | .standbyBistStart => scope [.twin, .sec] [.bist]
  | .umark _ _ => scope [.kin, .ember, .held] [.bist, .host, .pkg]
  | .lbistHubStart => scope (reactKinds ++ [.sec, .held]) (reactPages ++ [.bist, .host, .sec])
  | .lbistHrtStart => scope (reactKinds ++ [.sec, .held]) (reactPages ++ [.bist, .host, .sec])
  | .lbistComplete _ _ => scope (reportKinds ++ [.held]) [.bist]
  | .keyProg => scope [.sec, .held] [.host, .pkg, .sec]
  | .keyProgDone _ => scope (reportKinds ++ [.sec]) [.sec]
  | .zeroise => scope [.sec, .held] [.host, .pkg, .sec]
  | .cstoreWrite _ => scope [.sec, .held] [.cstore, .host, .pkg]
  | .cstoreWriteDone _ => scope (reportKinds ++ [.sec]) [.cstore]
  | .vembPowerOn => scope [.kin, .ember, .out] [.emb]
  | .crystalResume => scope [] [.emb]
  | .supplyReturn _ => scope (reactKinds ++ [.cap]) [.clu, .hrt, .hrt1, .pkg, .recorder, .sysn, .tally, .unit, .wc]
  | .hearthConditionCease _ => scope showKinds [.hrt, .hrt1, .pkg, .sysn]
  | .healthAgeExpiry => scope reportKinds [.twin]
  | .kindlingPllTimeout => scope [] [.pkg]
  | .sensorReadingTimeout _ => scope reactKinds (reactPages ++ [.therm])
  | .gpioRise _ => scope [.sram, .bad, .events, .recd] [.recorder]
  | .tapExtest => scope (reactKinds ++ [.sec]) reactPages
  | .tapIdcode => scope [.unit, .hearth, .sec, .out] [.hrt, .pkg]
  | .tapSamplePreload => scope [.unit, .hearth, .sec] [.hrt, .pkg]
  | .tapClamp => scope (reactKinds ++ [.sec]) reactPages
  | .tapHighz => scope (reactKinds ++ [.sec]) reactPages
  | .tapExtestPulse => scope (reactKinds ++ [.sec]) reactPages
  | .tapExtestTrain => scope (reactKinds ++ [.sec]) reactPages
  | .tapHalt => scope [.unit, .lane, .hearth, .sec] [.hrt, .pkg]
  | .tapScanInt => scope (reactKinds ++ [.sec]) (reactPages ++ [.bist, .sec])
  | .tapLbistHub => scope (reactKinds ++ [.sec]) (reactPages ++ [.bist, .sec])
  | .tapLbistHrt => scope (reactKinds ++ [.sec]) (reactPages ++ [.bist, .sec])
  | .tapBypass => scope [.unit, .hearth, .sec] [.hrt, .pkg]

end Sys2Proof.Machine
end

