-- ==== Sys2Proof/Certificates/Slice0/Obligations.lean ====
section
/-! DEFINITION. The statements for the provers. -/

open Sys2Proof Sys2Proof.Machine

/-! ### The machine as a whole -/

/-- The model's own rule (log entry 6 and log entry 10): a step takes the command at the front of the queue and answers what
it does to the state with the queue's rest; on an empty queue the block idles. -/
def Obligations.StepTakesFrontCommand : Prop :=
  (∀ (c : Instr) (s : State), step { s with pending := c :: s.pending } = exec c s) ∧
  (∀ s : State, s.pending = [] → step s = .next s)

/-- What a command leaves as it was: every command of a scope completes in every state, and changes neither the time base
nor the queue, nor a kind of state or a register outside that scope. -/
def Obligations.CommandsStayInScope : Prop :=
  ∀ (c : Instr) (s : State) (f : Scope), scopeOf c = some f → Runs c s fun t => TimeKept s t ∧ Within f s t

/-- R121, R127: no step takes counter A out of its registers, or the increment out of 1,000 ppm. -/
def Obligations.TallyStaysLegal : Prop := StepKeeps TallyLegal

/-- No step takes the DRAM or the hub SRAM out of its canonical form: addresses strictly rising, and no byte listed that
reads as an unlisted one does (log entry 4). -/
def Obligations.MemoryStaysCanonical : Prop := StepKeeps Memory.wf

/-- The invariants hold at reset. -/
def Obligations.InvariantsHoldAtReset : Prop := TallyLegal State.reset ∧ Memory.wf State.reset

/-- What reset leaves, where the tables of the register rules state it: the Tally at 0 with the nominal increment, no cycle,
no swap, every cluster in OFF with no topology, every lane DISABLED, the queues empty, and nothing on its way out. -/
def Obligations.ResetLeavesTheStatedValues : Prop :=
  let s := State.reset
  s.tally.a = ⟨0, 0, 0⟩ ∧ s.tally.b = ⟨0, 0, 0⟩ ∧ s.tally.incNs = 2 ∧ s.tally.incFrac = 0x80000000 ∧ s.pending = [] ∧
  s.rd pgPKG PKG_KSTAT_DONE = 0 ∧ s.rd pgPKG PKG_KSTAT_STEP = 1 ∧ s.rd pgPKG PKG_KSTAT_FAIL = 0 ∧ s.rd pgPKG PKG_SWAP_STAT_ARMED = 0 ∧
  s.rd pgPKG PKG_SWAP_STAT_ACTIVE_ID = 0 ∧ s.rd pgPKG PKG_FRZ_STAT_FROZEN = 0 ∧ s.rd pgTALLY TALLY_STAT_TIME_SET = 0 ∧
  s.rd pgSPLL SPLL_STAT_LOCKED = 0 ∧
  (∀ n : Fin 4, s.rd (pgRG n) RG_CYC_CTL = 0 ∧ s.rd (pgRG n) RG_CYC_STAT_PHASE = 0 ∧ (s.region n).run = false) ∧
  (∀ c : Fin 48, s.rd (pgCLU c) CLU_CSTAT_STATE = 0 ∧ s.rd (pgCLU c) CLU_CFG_TOPO = 0 ∧ s.rd (pgCLANE c) CLANE_LSTAT_STATE = 0) ∧
  (∀ i : Fin 12, s.rd pgSYSN SL_SLSTAT_STATE i = 0) ∧ s.rd pgSYSN SYSN_TSTAT_STRATUM = 0xFF ∧ s.rd pgSYSN SYSN_SWAP_DST = 0x8000 ∧
  (∀ q : Fin 8, s.rd (pgEQ q) EQ_WR = 0 ∧ s.rd (pgEQ q) EQ_RD = 0 ∧ (s.queue q).pkts = []) ∧
  s.rd pgTWIN TWIN_TSTAT_ROLE = 0 ∧ s.rd pgBIST BIST_BSTAT_RUN = 0 ∧ s.rd pgBIST BIST_SB_CFG = 100 ∧
  (∀ g : Fin 4, s.rd pgSEC SEC_RGNT_EN g = 0) ∧ s.dev.hearth.held = [] ∧ s.dev.flue = [] ∧ s.dev.lines = [] ∧ s.dev.events = []

/-! ### The Tally and the system PLL (R121 to R156) -/

/-- R121: a tick adds INC to the Tally, with the carries of R121; both counters take it, so counters that agree go on
agreeing, and then nothing else of the part changes. With the Tally stopped or the gates closed there is no tick. -/
def Obligations.TickAddsIncrement : Prop :=
  ∀ (s : State) (ref : Bool),
    (s.tally.ticking = true → TimeLegal s.tally.a → ∀ upset, Runs (.tallyTick upset ref) s fun t =>
      TimeLegal t.tally.a ∧ units t.tally.a = (units s.tally.a + s.tally.inc) % tallyPeriod ∧
      t.tally.incNs = s.tally.incNs ∧ t.tally.incFrac = s.tally.incFrac ∧ t.tally.staged = s.tally.staged ∧
      t.tally.elapsed = s.tally.elapsed + 1 ∧ t.pending = s.pending) ∧
    (s.tally.ticking = true → TimeLegal s.tally.a → s.tally.b = s.tally.a → ¬ s.on pgTALLY HDR_INJ_ARMED →
      Runs (.tallyTick [] ref) s fun t => t.tally.b = t.tally.a ∧ t.dev = s.dev) ∧
    (s.tally.ticking = false → ∀ upset, Runs (.tallyTick upset ref) s fun t => t = s)

/-- R124: a read of NOW_NS answers NS and latches S_LO, S_HI and FR of the same tick; nothing else changes. A read of one of the
three answers what is latched there and changes nothing. -/
def Obligations.NowReadLatches : Prop :=
  ∀ s : State,
    (TimeLegal s.tally.a → s.readable (pgTALLY + TALLY_NOW_NS.at 0) → Runs .tallyNowRead s fun t =>
      LastOut (.hostRead [BitVec.ofNat 32 s.tally.a.ns] false) s t ∧
      t.rd pgTALLY TALLY_NOW_S_LO + t.rd pgTALLY TALLY_NOW_S_HI * 2 ^ 32 = s.tally.a.s ∧
      t.rd pgTALLY TALLY_NOW_FR = s.tally.a.fr / 2 ^ 16 ∧
      Changes [.out] [pgTALLY + TALLY_NOW_S_LO.at 0, pgTALLY + TALLY_NOW_S_HI.at 0, pgTALLY + TALLY_NOW_FR.at 0] s t) ∧
    (∀ f ∈ [TALLY_NOW_S_LO, TALLY_NOW_S_HI, TALLY_NOW_FR], s.readable (pgTALLY + f.at 0) →
      Runs (.hostBar0Read (BitVec.ofNat 25 (pgTALLY + f.at 0)) false) s fun t =>
        LastOut (.hostRead [s.word (pgTALLY + f.at 0)] false) s t ∧ Changes [.out] [] s t)

/-- R127, and R64 of a locked page: INC_FRAC stages a fraction and changes nothing else; INC_NS commits a legal increment, which
both counters add from then on, and discards the staged fraction with BADVAL when the increment is not legal. INC_FRAC reads as
the staged fraction, and after a commit, refused or not, as the fraction in force. -/
def Obligations.IncrementStagedThenCommitted : Prop :=
  ∀ s : State,
    (s.readable (pgTALLY + TALLY_INC_FRAC.at 0) →
      Runs (.hostBar0Read (BitVec.ofNat 25 (pgTALLY + TALLY_INC_FRAC.at 0)) false) s fun t =>
        LastOut (.hostRead [s.word (pgTALLY + TALLY_INC_FRAC.at 0)] false) s t ∧ Changes [.out] [] s t) ∧
    (¬ s.on pgTALLY HDR_LOCK_LOCKED → s.reaches (pgTALLY + TALLY_INC_FRAC.at 0) → ∀ v : Word, Runs (.incFracWrite v) s fun t =>
      t.tally = { s.tally with staged := some v.toNat } ∧ t.word (pgTALLY + TALLY_INC_FRAC.at 0) = v ∧
      t.dev = { s.dev with regs := t.dev.regs } ∧ t.pending = s.pending ∧ DwordsKept [pgTALLY + TALLY_INC_FRAC.at 0] s t) ∧
    (¬ s.on pgTALLY HDR_LOCK_LOCKED → s.reaches (pgTALLY + TALLY_INC_NS.at 0) → s.tally.incFrac < 2 ^ 32 →
      (∀ v : BitVec 4, v = 2 → 0x7F5C28F6 ≤ s.tally.staged.getD s.tally.incFrac →
        s.tally.staged.getD s.tally.incFrac ≤ 0x80A3D70A → Runs (.incNsCommit v) s fun t =>
          t.tally = { s.tally with incNs := 2, incFrac := s.tally.staged.getD s.tally.incFrac, staged := none } ∧
          t.rd pgTALLY TALLY_INC_NS = 2 ∧ t.rd pgTALLY TALLY_INC_FRAC = s.tally.staged.getD s.tally.incFrac ∧
          (∀ k : Kind, k ≠ .lane → k.same s.dev t.dev) ∧ t.pending = s.pending ∧
          DwordsKept [pgTALLY + TALLY_INC_NS.at 0, pgTALLY + TALLY_INC_FRAC.at 0] s t) ∧
      (∀ v : BitVec 4, incLegal v.toNat (s.tally.staged.getD s.tally.incFrac) = false → Runs (.incNsCommit v) s fun t =>
        t.tally = { s.tally with staged := none } ∧ t.rd pgTALLY TALLY_INC_FRAC = s.tally.incFrac ∧
        t.rd pgTALLY HDR_STAT_BADVAL = 1 ∧ t.dev = { s.dev with regs := t.dev.regs } ∧ t.pending = s.pending ∧
        DwordsKept [pgTALLY + HDR_STAT_BADVAL.at 0, pgTALLY + TALLY_INC_FRAC.at 0] s t)) ∧
    (s.on pgTALLY HDR_LOCK_LOCKED →
      (s.reaches (pgTALLY + TALLY_INC_FRAC.at 0) → ∀ v : Word, Runs (.incFracWrite v) s fun t =>
        t.rd pgTALLY HDR_STAT_LOCK_WR = 1 ∧ OnlyDwords [pgTALLY + HDR_STAT_LOCK_WR.at 0] s t) ∧
      (s.reaches (pgTALLY + TALLY_INC_NS.at 0) → ∀ v : BitVec 4, Runs (.incNsCommit v) s fun t =>
        t.rd pgTALLY HDR_STAT_LOCK_WR = 1 ∧ OnlyDwords [pgTALLY + HDR_STAT_LOCK_WR.at 0] s t))

/-- R129 to R131: with no cluster in RUN or TEST and no swap armed or pending, a SET step makes both counters the time of
the STEP registers, and an ADJ step that does not lead below zero adds its offset to each; STEP_SEQ and STEP_COUNT count it. A
step is otherwise refused: nothing changes but STEP_REFUSED, BADVAL and the MODE written. The step acts with the write itself (the
model's choice, log entry 48). -/
def Obligations.StepSetsTimeOrIsRefused : Prop :=
  ∀ s : State, ¬ s.on pgTALLY HDR_LOCK_LOCKED → s.reaches (pgTALLY + TALLY_STEP_CTL_GO.at 0) →
    let ofs : Int := s.work.rdS pgTALLY TALLY_STEP_ADJ * 2 ^ 32 + (s.rd pgTALLY TALLY_STEP_FR * 2 ^ 16 : Nat)
    let counted (t : State) : Prop := t.rd pgTALLY TALLY_STAT_STEP_SEQ = (s.rd pgTALLY TALLY_STAT_STEP_SEQ + 1) % 16 ∧
      t.rd pgTALLY TALLY_STEP_COUNT = min (s.rd pgTALLY TALLY_STEP_COUNT + 1) TALLY_STEP_COUNT.max
    let refused (t : State) : Prop := t.rd pgTALLY TALLY_STAT_STEP_REFUSED = 1 ∧ t.rd pgTALLY HDR_STAT_BADVAL = 1 ∧
      OnlyDwords [pgTALLY + HDR_STAT_BADVAL.at 0, pgTALLY + TALLY_STEP_CTL_MODE.at 0, pgTALLY + TALLY_STAT_STEP_REFUSED.at 0] s t
    (s.stepFree → s.rd pgTALLY TALLY_STEP_NS < 1000000000 → Runs (.tallyStep false) s fun t =>
      t.tally.a.s = s.rd pgTALLY TALLY_STEP_S_HI * 2 ^ 32 + s.rd pgTALLY TALLY_STEP_S_LO ∧
      t.tally.a.ns = s.rd pgTALLY TALLY_STEP_NS ∧ t.tally.a.fr = s.rd pgTALLY TALLY_STEP_FR * 2 ^ 16 ∧
      t.tally.b = t.tally.a ∧ t.tally.incNs = s.tally.incNs ∧ t.tally.incFrac = s.tally.incFrac ∧
      t.rd pgTALLY TALLY_STAT_TIME_SET = 1 ∧ counted t ∧ t.pending = s.pending) ∧
    (s.stepFree → 0 ≤ (units s.tally.a : Int) + ofs → 0 ≤ (units s.tally.b : Int) + ofs → Runs (.tallyStep true) s fun t =>
      (units t.tally.a : Int) = ((units s.tally.a : Int) + ofs) % (tallyPeriod : Int) ∧
      (units t.tally.b : Int) = ((units s.tally.b : Int) + ofs) % (tallyPeriod : Int) ∧
      t.tally.incNs = s.tally.incNs ∧ t.tally.incFrac = s.tally.incFrac ∧ counted t ∧ t.pending = s.pending) ∧
    (¬ s.stepFree ∨ (units s.tally.a : Int) + ofs < 0 → Runs (.tallyStep true) s refused) ∧
    (¬ s.stepFree → Runs (.tallyStep false) s refused)

/-- R133 to R137: a NOFS write within 2,684 steps of the settled value is followed with the gates open; a larger one closes
the gates first and waits; a magnitude above 53,687 is refused (R10). The PLL settles on the value in use, and a relock
takes the value that waited. LOCKF is driven as the lock detector reports. R138 to R142: LOCKED clearing and a slip close the
gates; the first REFCLK edge after that enters holdover, adds HINC less the ticks counted since the previous edge, and reports the
slip as CE; a later edge adds HINC; the gates reopen with lock, LOCKED, SETTLE periods without a slip and no change waiting, and
counting goes on from the holdover value with UNC_WIDE left set. -/
def Obligations.PllFollowsAndHoldsOver : Prop :=
  (∀ s : State,
      (¬ s.on pgSPLL HDR_LOCK_LOCKED → s.reaches (pgSPLL + SPLL_NOFS.at 0) → ∀ v : BitVec 24,
        ((toSigned 24 v.toNat).natAbs ≤ 53687 → s.tally.pll.closed = false → s.tally.pll.target = none →
          Runs (.nofsWrite v) s fun t =>
            t.rd pgSPLL SPLL_NOFS = v.toNat ∧ t.tally.a = s.tally.a ∧ t.tally.pll.settled = s.tally.pll.settled ∧
            ((toSigned 24 v.toNat - s.tally.pll.settled).natAbs ≤ 2684 →
              t.tally.pll.inUse = toSigned 24 v.toNat ∧ t.tally.pll.closed = false ∧ t.rd pgSPLL SPLL_STAT_SLEWING = 1) ∧
            (2684 < (toSigned 24 v.toNat - s.tally.pll.settled).natAbs →
              t.tally.pll.target = some (toSigned 24 v.toNat) ∧ t.tally.pll.closed = true ∧ t.tally.pll.lockDet = false ∧
              t.tally.pll.inUse = s.tally.pll.inUse ∧
              (s.tally.pll.lockDet = true → LastOut (.pin "LOCKF" 0 false) s t)) ∧
            DwordsKept [pgSPLL + SPLL_NOFS.at 0, pgSPLL + SPLL_STAT_SLEWING.at 0] s t ∧ t.pending = s.pending) ∧
        (53687 < (toSigned 24 v.toNat).natAbs → Runs (.nofsWrite v) s fun t =>
          t.rd pgSPLL HDR_STAT_BADVAL = 1 ∧ OnlyDwords [pgSPLL + HDR_STAT_BADVAL.at 0] s t)) ∧
      (s.on pgSPLL SPLL_STAT_SLEWING → s.tally.pll.closed = false → Runs .pllSettled s fun t =>
        t.tally = { s.tally with pll := { s.tally.pll with target := none, settled := s.tally.pll.inUse } } ∧
        t.rd pgSPLL SPLL_STAT_SLEWING = 0 ∧ DwordsKept [pgSPLL + SPLL_STAT_SLEWING.at 0] s t ∧ t.pending = s.pending) ∧
      Runs .pllLockAcquired s fun t =>
        t.tally.pll.lockDet = true ∧ t.tally.pll.settled = s.tally.pll.target.getD s.tally.pll.inUse ∧
        t.tally.pll.inUse = s.tally.pll.target.getD s.tally.pll.inUse ∧ t.tally.pll.target = none ∧
        (s.tally.pll.lockDet = false → LastOut (.pin "LOCKF" 0 true) s t) ∧
        t.tally.a = s.tally.a ∧ t.rd pgSPLL SPLL_STAT_REF_OK = 1 ∧ t.rd pgSPLL SPLL_STAT_SLEWING = 0 ∧
        DwordsKept [pgSPLL + SPLL_STAT_REF_OK.at 0] s t ∧ t.pending = s.pending) ∧
  (∀ s : State,
      Runs .lockedClear s (fun t => t.tally = { s.tally with pll := { s.tally.pll with closed := true } } ∧
        t.rd pgSPLL SPLL_STAT_LOCKED = 0 ∧ t.pending = s.pending ∧ DwordsKept [pgSPLL + SPLL_STAT_LOCKED.at 0] s t) ∧
      Runs .pllSlip s (fun t =>
        t.tally = { s.tally with pll := { s.tally.pll with closed := true, lockDet := false, quiet := 0 } } ∧
        t.rd pgSPLL SPLL_STAT_SLIP = 1 ∧ (s.tally.pll.lockDet = true → LastOut (.pin "LOCKF" 0 false) s t) ∧
        t.pending = s.pending ∧ DwordsKept [pgSPLL + SPLL_STAT_SLIP.at 0] s t) ∧
      (s.tally.running = true → s.tally.pll.closed = true → TimeLegal s.tally.a → ¬ s.on pgSPLL SPLL_STAT_HOLDOVER → ∀ upset,
        Runs (.holdoverRefclkEdge upset) s fun t =>
          units t.tally.a = (units s.tally.a + (s.tally.hinc - s.tally.pll.sinceRef * s.tally.inc)) % tallyPeriod ∧
          t.tally.pll.sinceRef = 0 ∧ t.rd pgSPLL SPLL_STAT_HOLDOVER = 1 ∧ t.rd pgSPLL SPLL_STAT_GATED = 1 ∧
          t.rd pgTALLY TALLY_STAT_UNC_WIDE = 1 ∧ t.flagged pgSPLL .ce 16 ∧ t.pending = s.pending) ∧
      (s.tally.running = true → s.tally.pll.closed = true → TimeLegal s.tally.a → s.on pgSPLL SPLL_STAT_HOLDOVER →
        s.tally.b = s.tally.a → ¬ s.on pgTALLY HDR_INJ_ARMED → Runs (.holdoverRefclkEdge []) s fun t =>
          units t.tally.a = (units s.tally.a + s.tally.hinc) % tallyPeriod ∧ t.tally.b = t.tally.a ∧
          t.tally.pll.sinceRef = 0 ∧ (∀ k : Kind, k.same s.dev t.dev) ∧ DwordsKept [pgSPLL + SPLL_STAT_REF_OK.at 0] s t ∧
          t.pending = s.pending) ∧
      (s.tally.pll.closed = true → s.tally.pll.lockDet = true → s.on pgSPLL SPLL_STAT_LOCKED → s.tally.pll.target = none →
        s.rd pgSPLL SPLL_SETTLE ≤ s.tally.pll.quiet → Runs .gatesReopen s fun t =>
          t.tally.pll.closed = false ∧ t.tally.a = s.tally.a ∧ t.rd pgSPLL SPLL_STAT_HOLDOVER = 0 ∧
          t.rd pgSPLL SPLL_STAT_GATED = 0 ∧ t.rd pgTALLY TALLY_STAT_HOLDOVER = 0 ∧
          t.rd pgTALLY TALLY_STAT_UNC_WIDE = s.rd pgTALLY TALLY_STAT_UNC_WIDE ∧
          t.rd pgSPLL SPLL_RELOCK_COUNT = min (s.rd pgSPLL SPLL_RELOCK_COUNT + 1) SPLL_RELOCK_COUNT.max ∧
          (∀ k : Kind, k.same s.dev t.dev) ∧
          DwordsKept [pgSPLL + SPLL_STAT_HOLDOVER.at 0, pgSPLL + SPLL_RELOCK_COUNT.at 0, pgTALLY + TALLY_STAT_HOLDOVER.at 0] s t ∧
          t.pending = s.pending) ∧
      (¬ s.on pgSPLL SPLL_STAT_LOCKED ∨ s.tally.pll.quiet < s.rd pgSPLL SPLL_SETTLE ∨ s.tally.pll.target ≠ none →
        Runs .gatesReopen s fun t => t = s))

/-- R125: when an upset inverts one of counter B's 110 bits, the comparison of that tick sets TALLY FLT.FATAL and CAUSE[16]
and drives its FATAL line; counter A counts on, and no register but FLT changes. R138: LOCKED is set, and after Kindling nothing
else changes. R143 to R145: expiry of HOLD_MAX, a lost reference and a frequency count outside 900 to 1,100 raise their faults and
are reported to collector HB as child 1, and the expiry takes a serving cluster in PRECHARGE, RUN or TEST to the forced safe action
with cause 5; a count within bounds is shown and nothing else, but that an armed injection hits. -/
def Obligations.ClockFaultsRaised : Prop :=
  (∀ (s : State) (k : Fin 110) (ref : Bool), s.tally.ticking = true → TimeLegal s.tally.a → s.tally.b = s.tally.a →
      ¬ s.on pgTALLY HDR_INJ_ARMED → (s.rd pgTALLY HDR_FLT_CAUSE).testBit 0 = false →
      Runs (.tallyTick [k] ref) s fun t =>
        t.flagged pgTALLY .fatal 16 ∧ t.dev.lines = s.dev.lines ++ [⟨.fatal, 1, 16, 0⟩] ∧
        units t.tally.a = (units s.tally.a + s.tally.inc) % tallyPeriod ∧ t.tally.b ≠ t.tally.a ∧
        DwordsKept [pgTALLY + HDR_FLT_CAUSE.at 0] s t ∧ t.pending = s.pending) ∧
  (∀ s : State,
      Runs .lockedSet s (fun t => t.rd pgSPLL SPLL_STAT_LOCKED = 1 ∧
        (s.on pgPKG PKG_KSTAT_DONE → OnlyDwords [pgSPLL + SPLL_STAT_LOCKED.at 0] s t)) ∧
      (s.tally.pll.closed = true → Runs .holdExpired s fun t =>
        t.flagged pgSPLL .uc 17 ∧ (∀ o : Fin 48, s.serving o →
          s.rd (pgCLU o) CLU_CSTAT_STATE = 1 ∨ s.rd (pgCLU o) CLU_CSTAT_STATE = 3 ∨ s.rd (pgCLU o) CLU_CSTAT_STATE = 5 →
            ForcedSafe o 5 s t) ∧ TimeKept s t) ∧
      (s.tally.pll.closed = true → (∀ c : Fin 48, s.rd (pgCLU c) CLU_CSTAT_STATE ≠ 1 ∧ s.rd (pgCLU c) CLU_CSTAT_STATE ≠ 3 ∧
        s.rd (pgCLU c) CLU_CSTAT_STATE ≠ 5) → ¬ s.on pgSPLL HDR_FLTMASK_UC_MASK → Runs .holdExpired s fun t =>
        t.flagged pgSPLL .uc 17 ∧ Reported .hb 1 ⟨.uc, 2, 17, 0⟩ s t ∧
        Changes [.clu, .flue, .out] [pgSPLL + HDR_FLT_CAUSE.at 0] s t) ∧
      Runs .refLost s (fun t => t.flagged pgSPLL .fatal 19 ∧ t.rd pgSPLL SPLL_STAT_REF_OK = 0 ∧
        t.dev.lines = s.dev.lines ++ [⟨.fatal, 2, 19, 0⟩] ∧ Reported .hb 1 ⟨.fatal, 2, 19, 0⟩ s t ∧
        Changes [.flue, .lines, .out] [pgSPLL + HDR_FLT_CAUSE.at 0, pgSPLL + SPLL_STAT_REF_OK.at 0] s t) ∧
      (∀ n : BitVec 11, 900 ≤ n.toNat → n.toNat ≤ 1100 → Runs (.freqCheckWindow n) s fun t =>
        t.rd pgSPLL SPLL_XCHK = n.toNat ∧
        (¬ s.on pgSPLL HDR_INJ_ARMED → OnlyDwords [pgSPLL + SPLL_XCHK.at 0] s t) ∧
        (s.on pgSPLL HDR_INJ_ARMED → s.rd pgSPLL HDR_INJ_CHK = 0 → t.rd pgSPLL HDR_INJ_ARMED = 0 ∧ t.rd pgSPLL HDR_INJ_HIT = 1 ∧
          OnlyDwords [pgSPLL + SPLL_XCHK.at 0, pgSPLL + HDR_INJ_ARMED.at 0] s t)) ∧
      (∀ n : BitVec 11, n.toNat < 900 ∨ 1100 < n.toNat → Runs (.freqCheckWindow n) s fun t =>
        t.rd pgSPLL SPLL_XCHK = n.toNat ∧ t.flagged pgSPLL .fatal 18 ∧
        t.dev.lines = s.dev.lines ++ [⟨.fatal, 2, 18, 0⟩] ∧ Reported .hb 1 ⟨.fatal, 2, 18, 0⟩ s t ∧
        (¬ s.on pgSPLL HDR_INJ_ARMED → Changes [.flue, .lines, .out] [pgSPLL + HDR_FLT_CAUSE.at 0, pgSPLL + SPLL_XCHK.at 0] s t)))

/-- R147 to R149: an edge that an enabled channel takes records the Tally's time, SYNC_IN alone with the interpolated part outside
holdover and with F[27:16]; while a record waits the edge is dropped with OVR. A read of CAPk_NS answers the record, latches the
rest of it and releases the channel. R150, R151: a timed output whose due time has come, with S[47:32] as it is now, sets FIRED,
drives its pin as its mode says and, in a pulse mode, stays on until the pulse ends; the end drives the pin to the inactive level;
in TRAIN mode the next pulse due is one still to come; before the due time nothing happens. R152 to R156: the timestamp of an event
message of an enabled transport joins its port's queue, ingress with the asymmetry taken off and egress with it added, up to 16
entries and then with the overflow flag; a one-step Sync leaves with whole nanoseconds, the rest added to its correctionField; a
read of a key answers and removes the oldest entry, and shows it. -/
def Obligations.TimesCapturedAndDriven : Prop :=
  (∀ (s : State) (k : Fin 32) (falling : Bool) (sub : Fin 40), TimeLegal s.tally.a →
      (s.on pgTALLY TALLY_CAP_CTL_EN k → s.rd pgTALLY TALLY_CAP_CTL_EDGE k = 2 ∨ s.rd pgTALLY TALLY_CAP_CTL_EDGE k = b2n falling →
        (¬ s.on pgTALLY TALLY_CAP_NS_FULL k → Runs (.captureEdge k falling sub) s fun t =>
          let sync := s.rd pgTALLY TALLY_CAP_CTL_SRC k == 0x20
          let x := timeAdd s.tally.a (if sync ∧ s.rd pgSPLL SPLL_STAT_HOLDOVER = 0 then sub.val * 2 ^ 28 else 0)
          t.rd pgTALLY TALLY_CAP_NS_FULL k = 1 ∧ t.rd pgTALLY TALLY_CAP_NS_NS k = x.ns ∧
          t.dev.cap = s.dev.cap.setIfInBounds k (some ⟨x.s, if sync then x.fr / 2 ^ 16 else x.fr / 2 ^ 28 * 2 ^ 12,
            s.rd pgSPLL SPLL_STAT_HOLDOVER != 0, falling, s.rd pgTALLY TALLY_STAT_STEP_SEQ⟩) ∧
          Changes [.cap] [pgTALLY + TALLY_CAP_NS_NS.at k] s t) ∧
        (s.on pgTALLY TALLY_CAP_NS_FULL k → Runs (.captureEdge k falling sub) s fun t =>
          t.rd pgTALLY TALLY_CAP_FR_OVR k = 1 ∧ OnlyDwords [pgTALLY + TALLY_CAP_FR_OVR.at k] s t)) ∧
      (s.readable (pgTALLY + TALLY_CAP_NS_NS.at k) → ∀ r, s.dev.cap[k] = some r → Runs (.captureRead k) s fun t =>
        LastOut (.hostRead [s.word (pgTALLY + TALLY_CAP_NS_NS.at k)] false) s t ∧
        t.rd pgTALLY TALLY_CAP_NS_FULL k = 0 ∧ t.rd pgTALLY TALLY_CAP_S k = r.s % 2 ^ 32 ∧
        t.rd pgTALLY TALLY_CAP_FR_FR k = r.fr % 2 ^ 16 ∧ t.rd pgTALLY TALLY_CAP_FR_COARSE k = b2n r.coarse ∧
        t.rd pgTALLY TALLY_CAP_FR_EDGE k = b2n r.falling ∧ t.rd pgTALLY TALLY_CAP_FR_STEP_SEQ k = r.seq % 16 ∧
        t.dev.cap = s.dev.cap.setIfInBounds k none ∧
        Changes [.cap, .out] [pgTALLY + TALLY_CAP_NS_NS.at k, pgTALLY + TALLY_CAP_S.at k, pgTALLY + TALLY_CAP_FR_FR.at k] s t)) ∧
  (∀ (s : State) (m : Fin 16),
      let mode := s.rd pgTALLY TALLY_TO_CTL_MODE m
      let drives (active : Bool) (t : State) : Prop :=
        LastOut (if m = 0 then .pin "SYNC_OUT" 0 (active != (s.rd pgTALLY TALLY_TO_CTL_POL m != 0))
          else .pin "GPIO" (s.rd pgTALLY TALLY_TO_CTL_PIN m) (active != (s.rd pgTALLY TALLY_TO_CTL_POL m != 0))) s t
      (∀ j, s.on pgTALLY TALLY_TO_CTL_EN m → (vget s.dev.tout m).next = some j →
        (s.dueAt m j ≤ t16 s.tally.a → Runs (.timedOutputDue m) s fun t =>
          t.rd pgTALLY TALLY_TO_STAT_FIRED m = 1 ∧ (vget t.dev.tout m).on = decide (mode ≤ 1) ∧ drives (mode != 3) t ∧
          t.rd pgTALLY TALLY_TO_STAT_COARSE m = (if s.rd pgSPLL SPLL_STAT_HOLDOVER = 0 then s.rd pgTALLY TALLY_TO_STAT_COARSE m else 1) ∧
          (mode ≠ 1 → (vget t.dev.tout m).next = none) ∧
          (mode = 1 → s.on pgTALLY TALLY_TO_PER m →
            ∃ i, (vget t.dev.tout m).next = some i ∧ j < i ∧ t16 s.tally.a < s.dueAt m i) ∧
          Changes [.tout, .out] [pgTALLY + TALLY_TO_STAT_FIRED.at m] s t) ∧
        (t16 s.tally.a < s.dueAt m j → Runs (.timedOutputDue m) s fun t => t = s)) ∧
      ((vget s.dev.tout m).on = true → Runs (.timedOutputPulseEnd m) s fun t =>
        (vget t.dev.tout m).on = false ∧ (vget t.dev.tout m).next = (vget s.dev.tout m).next ∧ drives false t ∧
        Changes [.tout, .out] [] s t)) ∧
  (∀ (s : State) (p : Fin 2) (m : PtpMsg) (sub : Fin 40),
      let entry (x : Int) : PtpTs := ⟨ptpKey m, timeOf16 x, s.rd pgSPLL SPLL_STAT_HOLDOVER != 0, s.rd pgTALLY TALLY_STAT_STEP_SEQ⟩
      let rx := entry (t16 s.tally.a + sub.val - s.work.rdS (pgETH p) ETH_ING_ASYM)
      let tx := entry (t16 s.tally.a + sub.val + s.work.rdS (pgETH p) ETH_EGR_ASYM)
      (s.on (pgETH p) ETH_PTP_CTL_ING_EN → s.work.ptpEvent p m = true →
        ((vget s.dev.ethRx p).length < 16 → Runs (.ptpRxTimestamp p m sub) s fun t =>
          vget t.dev.ethRx p = vget s.dev.ethRx p ++ [rx] ∧
          t.rd (pgETH p) ETH_TS_STAT_RX_LVL = (vget s.dev.ethRx p).length + 1 ∧
          Changes [.ethRx] [pgETH p + ETH_TS_STAT_RX_LVL.at 0] s t) ∧
        (16 ≤ (vget s.dev.ethRx p).length → Runs (.ptpRxTimestamp p m sub) s fun t =>
          t.rd (pgETH p) ETH_TS_STAT_RX_OVF = 1 ∧ OnlyDwords [pgETH p + ETH_TS_STAT_RX_OVF.at 0] s t)) ∧
      (∀ corr : BitVec 64,
        (s.on (pgETH p) ETH_PTP_CTL_ONESTEP → m.msgType = 0 → m.transport ≠ 2 → Runs (.ptpTxTimestamp p m sub corr) s fun t =>
          LastOut (.ptpSync p (ptpKey m) tx.t.s tx.t.ns (corr + BitVec.ofNat 64 (tx.t.fr / 2 ^ 28 * 2 ^ 12)) (m.transport == 1)) s t ∧
          Changes [.out] [] s t) ∧
        (¬ s.on (pgETH p) ETH_PTP_CTL_ONESTEP ∨ m.msgType ≠ 0 ∨ m.transport = 2 → s.on (pgETH p) ETH_PTP_CTL_EGR_EN →
          s.work.ptpEvent p m = true →
          ((vget s.dev.ethTx p).length < 16 → Runs (.ptpTxTimestamp p m sub corr) s fun t =>
            vget t.dev.ethTx p = vget s.dev.ethTx p ++ [tx] ∧
            t.rd (pgETH p) ETH_TS_STAT_TX_LVL = (vget s.dev.ethTx p).length + 1 ∧
            Changes [.ethTx] [pgETH p + ETH_TS_STAT_TX_LVL.at 0] s t) ∧
          (16 ≤ (vget s.dev.ethTx p).length → Runs (.ptpTxTimestamp p m sub corr) s fun t =>
            t.rd (pgETH p) ETH_TS_STAT_TX_OVF = 1 ∧ OnlyDwords [pgETH p + ETH_TS_STAT_TX_OVF.at 0] s t))) ∧
      (s.readable (pgETH p + ETH_RX_KEY_VALID.at 0) →
        (∀ e l, vget s.dev.ethRx p = e :: l → e.t.ns < 1000000000 → l.length < 16 → Runs (.rxKeyRead p) s fun t =>
          LastOut (.hostRead [BitVec.ofNat 32 e.key] false) s t ∧ vget t.dev.ethRx p = l ∧
          t.rd (pgETH p) ETH_RX_NS = e.t.ns ∧ t.rd (pgETH p) ETH_RX_S = e.t.s % 2 ^ 32 ∧
          t.rd (pgETH p) ETH_RX_FR_COARSE = b2n e.coarse ∧ t.rd (pgETH p) ETH_RX_FR_STEP_SEQ = e.seq % 16 ∧
          t.rd (pgETH p) ETH_TS_STAT_RX_LVL = l.length ∧
          Changes [.ethRx, .out] [pgETH p + ETH_TS_STAT_RX_LVL.at 0, pgETH p + ETH_RX_KEY_VALID.at 0, pgETH p + ETH_RX_NS.at 0,
            pgETH p + ETH_RX_S.at 0, pgETH p + ETH_RX_FR_FR16.at 0] s t) ∧
        (vget s.dev.ethRx p = [] → Runs (.rxKeyRead p) s fun t =>
          LastOut (.hostRead [0] false) s t ∧ vget t.dev.ethRx p = [] ∧
          Changes [.ethRx, .out] [pgETH p + ETH_TS_STAT_RX_LVL.at 0, pgETH p + ETH_RX_KEY_VALID.at 0] s t)) ∧
      (s.readable (pgETH p + ETH_TX_KEY_VALID.at 0) →
        (∀ e l, vget s.dev.ethTx p = e :: l → l.length < 16 → Runs (.txKeyRead p) s fun t =>
          LastOut (.hostRead [BitVec.ofNat 32 e.key] false) s t ∧ vget t.dev.ethTx p = l ∧
          t.rd (pgETH p) ETH_TS_STAT_TX_LVL = l.length) ∧
        (vget s.dev.ethTx p = [] → Runs (.txKeyRead p) s fun t => LastOut (.hostRead [0] false) s t ∧ vget t.dev.ethTx p = [])))

/-! ### Host accesses (R6, R47 to R70) -/

/-- R47, R48, R52: an access to BAR0 outside every page and window reads 0 with a successful completion, and a write there
is dropped; a BAR4 write and a write with partial byte enables are dropped. Each sets its flag of HOST.ACC_ERR, ACC_ADDR
records the first since all flags were zero, and nothing else changes. -/
def Obligations.StrayAccessesFlagged : Prop :=
  ∀ s : State, s.dev.shut = false →
    (∀ (addr : BitVec 25) (wide : Bool), ¬ mapped (if wide then addr.toNat / 8 * 8 else addr.toNat / 4 * 4) →
      Runs (.hostBar0Read addr wide) s fun t =>
        LastOut (.hostRead (if wide then [0, 0] else [0]) false) s t ∧
        AccFlagged HOST_ACC_ERR_UNMAPPED 0 (if wide then addr.toNat / 8 * 8 else addr.toNat / 4 * 4) s t ∧
        Changes [.out] accDwords s t) ∧
    (∀ (addr : BitVec 25) (v : Word), ¬ mapped (addr.toNat / 4 * 4) → Runs (.registerWrite addr 0xF v) s fun t =>
      AccFlagged HOST_ACC_ERR_UNMAPPED 0 (addr.toNat / 4 * 4) s t ∧ OnlyDwords accDwords s t) ∧
    (∀ (addr : BitVec 25) (be : BitVec 4) (v : Word), be ≠ 0xF → Runs (.registerWrite addr be v) s fun t =>
      AccFlagged HOST_ACC_ERR_PARTIAL 0 (addr.toNat / 4 * 4) s t ∧
      (¬ mapped (addr.toNat / 4 * 4) → t.rd pgHOST HOST_ACC_ERR_UNMAPPED = 1) ∧ OnlyDwords accDwords s t) ∧
    (∀ off : BitVec 23, Runs (.hostBar4Write off) s fun t =>
      AccFlagged HOST_ACC_ERR_BAR4_WR 2 off.toNat s t ∧ OnlyDwords accDwords s t)

/-- R55, R60 to R62, R64: what a host write of a header register does, on every page. CTL and FLTMASK take their fields
unless the page is locked, when STAT.LOCK_WR is set in place of it; STAT and FLT clear the W1C flags written 1, lock or not;
PID, CAPS and the mirror ignore a write. R63, R64: INJ_ARM selects the checker and its bit and arms the injection, on a page
that implements INJ and is not locked; a locked page ignores it with LOCK_WR, and a page without INJ ignores it. A checker or bit
that the block does not list keeps the old selection with BADVAL (R10), and the injection is armed with it (the model's choice, log
entry 12). PAGE_LOCK with 0x4C4B locks the page until a reset; another KEY is undefined and is ignored with BADVAL (R10). -/
def Obligations.HeaderWritesByAccessCode : Prop :=
  (∀ (s : State) (addr : BitVec 25) (v : Word) (k : PageKind) (i : Nat), pageOf addr.toNat = some (k, i) →
      s.reaches (addr.toNat / 4 * 4) →
      let pg := addr.toNat / 0x1000 * 0x1000
      let o := addr.toNat % 0x1000
      (o = 0x008 → ¬ s.on pg HDR_LOCK_LOCKED → Runs (.registerWrite addr 0xF v) s fun t =>
        t.rd pg HDR_CTL_VEC = HDR_CTL_VEC.get v ∧ t.rd pg HDR_CTL_IRQ_EN = HDR_CTL_IRQ_EN.get v ∧ OnlyDwords [pg + o] s t) ∧
      (o = 0x014 → ¬ s.on pg HDR_LOCK_LOCKED → Runs (.registerWrite addr 0xF v) s fun t =>
        t.rd pg HDR_FLTMASK_UC_MASK = HDR_FLTMASK_UC_MASK.get v ∧ t.rd pg HDR_FLTMASK_CE_MASK = HDR_FLTMASK_CE_MASK.get v ∧
        OnlyDwords [pg + o] s t) ∧
      (o = 0x008 ∨ o = 0x014 → s.on pg HDR_LOCK_LOCKED → Runs (.registerWrite addr 0xF v) s fun t =>
        t.rd pg HDR_STAT_LOCK_WR = 1 ∧ OnlyDwords [pg + HDR_STAT_LOCK_WR.at 0] s t) ∧
      (o = 0x00C ∨ o = 0x010 → Runs (.registerWrite addr 0xF v) s fun t =>
        t.word (pg + o) = s.word (pg + o) &&& ~~~(v &&& if o = 0x00C then 0xF else 0xFFFF0003) ∧ OnlyDwords [pg + o] s t) ∧
      (o = 0x000 ∨ o = 0x004 ∨ 0x800 ≤ o ∧ o < 0x840 → Runs (.registerWrite addr 0xF v) s fun t => OnlyDwords [] s t)) ∧
  (∀ (s : State) (page : BitVec 13) (k : PageKind) (i : Nat), pageOf (page.toNat * 0x1000) = some (k, i) →
      let pg := page.toNat * 0x1000
      (s.reaches (pg + 0x18) → ∀ (chk : BitVec 4) (bit : BitVec 8),
        (k.hasInj → injOk k chk.toNat bit.toNat → ¬ s.on pg HDR_LOCK_LOCKED → Runs (.injArm page chk bit) s fun t =>
          t.rd pg HDR_INJ_ARMED = 1 ∧ t.rd pg HDR_INJ_CHK = chk.toNat ∧ t.rd pg HDR_INJ_BIT = bit.toNat ∧
          t.rd pg HDR_INJ_HIT = s.rd pg HDR_INJ_HIT ∧ OnlyDwords [pg + HDR_INJ_ARMED.at 0] s t) ∧
        (k.hasInj → ¬ injOk k chk.toNat bit.toNat → ¬ s.on pg HDR_LOCK_LOCKED → Runs (.injArm page chk bit) s fun t =>
          t.rd pg HDR_INJ_ARMED = 1 ∧ t.rd pg HDR_INJ_CHK = s.rd pg HDR_INJ_CHK ∧ t.rd pg HDR_INJ_BIT = s.rd pg HDR_INJ_BIT ∧
          t.rd pg HDR_STAT_BADVAL = 1 ∧ OnlyDwords [pg + HDR_INJ_ARMED.at 0, pg + HDR_STAT_BADVAL.at 0] s t) ∧
        (k.hasInj → s.on pg HDR_LOCK_LOCKED → Runs (.injArm page chk bit) s fun t =>
          t.rd pg HDR_STAT_LOCK_WR = 1 ∧ OnlyDwords [pg + HDR_STAT_LOCK_WR.at 0] s t) ∧
        (¬ k.hasInj → Runs (.injArm page chk bit) s fun t => OnlyDwords [] s t)) ∧
      (s.reaches (pg + 0x1C) → ∀ key : BitVec 16,
        (key = 0x4C4B → Runs (.pageLock page key) s fun t =>
          t.rd pg HDR_LOCK_LOCKED = 1 ∧ OnlyDwords [pg + HDR_LOCK_LOCKED.at 0] s t) ∧
        (key ≠ 0x4C4B → Runs (.pageLock page key) s fun t =>
          t.rd pg HDR_STAT_BADVAL = 1 ∧ OnlyDwords [pg + HDR_STAT_BADVAL.at 0] s t)))

/-- R66, R67, R70: a host write of a shadow view or shadow window stores the RWS bits of the shadow set and sets
SHADOW_DIRTY of the page; the active set stands. A field that its description calls undefined keeps its value with BADVAL (R10); a
locked page ignores the write with LOCK_WR (R64). While a swap is armed or pending or a set copy runs, it is ignored with
SHADOW_WR. The active view and the active windows ignore a write of RWS bits. R6, R7: a host write of any value to a register of
counters clears each of them, locked or not, and changes nothing else, also in what a UNIT page shows of its sealed cycle (R29);
every page but the Ember's, whose writes wait for the next ember tick (R350). -/
def Obligations.ShadowAndCounterWrites : Prop :=
  (∀ (s : State) (addr : BitVec 25) (v : Word) (act pg : Nat), addr.toNat % 4 = 0 → s.reaches addr.toNat →
      shadowOf addr.toNat = some (act, pg) →
      (¬ s.on pgPKG PKG_SWAP_STAT_ARMED → ¬ s.on pgPKG PKG_SWAP_STAT_PENDING → ¬ s.on pgPKG PKG_SWAP_STAT_COPY_BUSY →
        ((windowOf act).isSome → Runs (.registerWrite addr 0xF v) s fun t =>
          t.work.shWord act = (s.work.shWord act &&& ~~~rwsMask act) ||| (v &&& rwsMask act) ∧
          (∀ b, b ≠ act → t.work.shWord b = s.work.shWord b) ∧ Changes [.shadow] [] s t) ∧
        (∀ k i, windowOf act = none → pageOf act = some (k, i) → ¬ s.on pg HDR_LOCK_LOCKED →
          Runs (.registerWrite addr 0xF v) s fun t =>
            (∀ e ∈ accAt k (act % 0x1000) .rws, e.1.get (t.work.shWord act) =
              if s.work.valueOk k i e.1 e.2 v then e.1.get v else e.1.get (s.work.shWord act)) ∧
            ((∃ e ∈ accAt k (act % 0x1000) .rws, ¬ s.work.valueOk k i e.1 e.2 v) → t.rd pg HDR_STAT_BADVAL = 1) ∧
            ((∀ e ∈ accAt k (act % 0x1000) .rws, s.work.valueOk k i e.1 e.2 v) → t.rd pg HDR_STAT_BADVAL = s.rd pg HDR_STAT_BADVAL) ∧
            t.work.shWord act &&& ~~~rwsMask act = s.work.shWord act &&& ~~~rwsMask act ∧
            (∀ b, b ≠ act → t.work.shWord b = s.work.shWord b) ∧
            (rwsMask act ≠ 0 → t.rd pg HDR_STAT_SHADOW_DIRTY = 1) ∧ Changes [.shadow] [pg + HDR_STAT_SHADOW_DIRTY.at 0] s t) ∧
        (∀ k i, windowOf act = none → pageOf act = some (k, i) → s.on pg HDR_LOCK_LOCKED →
          accAt k (act % 0x1000) .rws ≠ [] → Runs (.registerWrite addr 0xF v) s fun t =>
            t.rd pg HDR_STAT_LOCK_WR = 1 ∧ OnlyDwords [pg + HDR_STAT_LOCK_WR.at 0] s t)) ∧
      (s.on pgPKG PKG_SWAP_STAT_ARMED ∨ s.on pgPKG PKG_SWAP_STAT_PENDING ∨ s.on pgPKG PKG_SWAP_STAT_COPY_BUSY →
        Runs (.registerWrite addr 0xF v) s fun t =>
          t.rd pg HDR_STAT_SHADOW_WR = 1 ∧ OnlyDwords [pg + HDR_STAT_SHADOW_WR.at 0] s t)) ∧
  (∀ (s : State) (addr : BitVec 25) (v : Word), addr.toNat % 4 = 0 → s.reaches addr.toNat →
      (∀ n i, windowOf addr.toNat = some (.secActive n) ∨ windowOf addr.toNat = some (.outSlot n i) ∨
        windowOf addr.toNat = some .pdirActive → Runs (.registerWrite addr 0xF v) s fun t => OnlyDwords [] s t) ∧
      (∀ k i, pageOf addr.toNat = some (k, i) → k ≠ .emb → 0x40 ≤ addr.toNat % 0x1000 → addr.toNat % 0x1000 < 0x800 →
        let pg := addr.toNat / 0x1000 * 0x1000
        (accAt k (addr.toNat % 0x1000) .rws ≠ [] → (∀ e ∈ fieldsAt k (addr.toNat % 0x1000), e.1.acc = .rws) →
          ¬ s.on pg HDR_LOCK_LOCKED → Runs (.registerWrite addr 0xF v) s fun t => OnlyDwords [] s t) ∧
        (accAt k (addr.toNat % 0x1000) .cnt ≠ [] → Runs (.registerWrite addr 0xF v) s fun t =>
          (∀ e ∈ accAt k (addr.toNat % 0x1000) .cnt, t.rd pg e.1 e.2 = 0 ∧ t.work.shown k i pg e.1 e.2 = 0) ∧
          Changes (if k = .unit then [.rgn] else []) [addr.toNat] s t)))

/-- R6, R47, R49, R66: a BAR0 read of the package page, of a shadow view and of a window answers the stored dwords without
WO fields, one or two of them, and changes nothing; the STAT of a region's page shows the region's reset, its BIST and its
UNUSABLE mark (R60, R112, R515); an access that a fence answers reads zeros with a bus error and is counted (R113 to R115). -/
def Obligations.Bar0ReadAnswers : Prop :=
  ∀ (s : State) (addr : BitVec 25), s.dev.shut = false →
    (pageOf addr.toNat = some (.pkg, 0) → s.fenceAt (addr.toNat / 4 * 4) false = none → 0x40 ≤ addr.toNat → addr.toNat < 0x800 →
      Runs (.hostBar0Read addr false) s fun t =>
        LastOut (.hostRead [s.word (addr.toNat / 4 * 4) &&& ~~~maskAt .pkg (addr.toNat / 4 * 4) .wo] false) s t ∧ Changes [.out] [] s t) ∧
    (∀ act pg, shadowOf (addr.toNat / 4 * 4) = some (act, pg) → s.fenceAt (addr.toNat / 4 * 4) false = none →
      Runs (.hostBar0Read addr false) s fun t =>
        LastOut (.hostRead [s.work.shWord act &&& rwsMask act] false) s t ∧ Changes [.out] [] s t) ∧
    ((windowOf addr.toNat).isSome → shadowOf (addr.toNat / 8 * 8) = none → s.fenceAt (addr.toNat / 8 * 8) false = none →
      Runs (.hostBar0Read addr true) s fun t =>
        LastOut (.hostRead [s.word (addr.toNat / 8 * 8), s.word (addr.toNat / 8 * 8 + 4)] false) s t ∧ Changes [.out] [] s t) ∧
    (∀ n : Fin 4, (pageOf addr.toNat).isSome → 0x1000000 + n * 0x400000 ≤ addr.toNat → addr.toNat < 0x1400000 + n * 0x400000 →
      addr.toNat % 0x800 = 0xC → s.fenceAt addr.toNat false = none → Runs (.hostBar0Read addr false) s fun t => ∃ v : Word,
        LastOut (.hostRead [v] false) s t ∧ Changes [.out] [] s t ∧ v &&& 0xF = s.word (addr.toNat / 0x1000 * 0x1000 + 0xC) &&& 0xF ∧
        (s.dev.kin.resets.testBit n = true → v.getLsbD 5 = true) ∧
        (s.dev.ember.marks.testBit n = true → v.getLsbD 6 = true) ∧
        (s.dev.ember.marks.testBit n = true ∨ (s.rd pgBIST BIST_BSTAT_RUN).testBit n = true → v.getLsbD 4 = true)) ∧
    (∀ f busy, s.fenceAt (addr.toNat / 4 * 4) false = some (f, busy) → mapped (addr.toNat / 4 * 4) →
      Runs (.hostBar0Read addr false) s fun t =>
        LastOut (.hostRead [0] true) s t ∧ FenceAnswered f busy false (addr.toNat / 4 * 4) [.out] s t)

/-- R50, R51: a BAR2 write stores its bytes and leaves every other byte, unless it meets a protected range, when all of it
is dropped with ACC_ERR.PROTECTED; a BAR2 read answers the stored bytes, or, on an uncorrectable error or a word marked bad
(R388), a poisoned completion with ACC_ERR.POISONED. R49: a BAR4 read answers as many bytes as asked for: those of the published
areas of hub SRAM as stored, free values elsewhere, where the spec states no contents (log entry 9); an uncorrectable error poisons
it likewise. A memory that a fence answers for is not written, and reads poisoned zeros (R113, R114). -/
def Obligations.DataWindowsStoreAndAnswer : Prop :=
  (∀ s : State, s.dev.shut = false →
      (s.work.memGate .dram = none →
        (∀ (off : BitVec 27) (data : List Byte), off.toNat + data.length ≤ 2 ^ 27 →
          ((∀ r ∈ s.work.protectedRanges, r.1 + r.2 ≤ off.toNat ∨ off.toNat + data.length ≤ r.1) → Runs (.hostBar2Write off data) s fun t =>
            (∀ i b, data[i]? = some b → t.dramByte (off.toNat + i) = b) ∧
            (∀ a, a < off.toNat ∨ off.toNat + data.length ≤ a → t.dramByte a = s.dramByte a) ∧ Changes [.dram, .bad] [] s t) ∧
          (∀ r ∈ s.work.protectedRanges, off.toNat < r.1 + r.2 → r.1 < off.toNat + data.length → Runs (.hostBar2Write off data) s fun t =>
            AccFlagged HOST_ACC_ERR_PROTECTED 1 off.toNat s t ∧ OnlyDwords accDwords s t)) ∧
        (∀ (off : BitVec 27) (len : BitVec 12) (ecc : Ecc), off.toNat + len.toNat ≤ 2 ^ 27 →
          (s.work.badIn 6 off.toNat len.toNat = false → ecc = .ok → Runs (.hostBar2Read off len ecc) s fun t =>
            LastOut (.hostBytes ((List.range len.toNat).map fun i => s.dramByte (off.toNat + i)) false) s t ∧ Changes [.out] [] s t) ∧
          (s.work.badIn 6 off.toNat len.toNat = false → ecc = .single → Runs (.hostBar2Read off len ecc) s fun t =>
            t.dev.out.getLast? = some (.hostBytes ((List.range len.toNat).map fun i => s.dramByte (off.toNat + i)) false) ∧
            t.flagged pgPKG .ce 21 ∧ t.dev.dram = s.dev.dram ∧ TimeKept s t) ∧
          (ecc = .double ∨ s.work.badIn 6 off.toNat len.toNat = true → Runs (.hostBar2Read off len ecc) s fun t =>
            AccFlagged HOST_ACC_ERR_POISONED 1 off.toNat s t ∧ t.flagged pgPKG .uc 22 ∧ t.dev.dram = s.dev.dram ∧ TimeKept s t ∧
            (match t.dev.out.getLast? with | some (.hostBytes bs true) => bs.length = len.toNat | _ => False)))) ∧
      (∀ f busy, s.work.memGate .dram = some (f, busy) → ∀ (off : BitVec 27) (data : List Byte) (len : BitVec 12) (ecc : Ecc),
        let n := if busy then PKG_BUSY_COUNT else PKG_WDRN_COUNT
        (Runs (.hostBar2Write off data) s fun t => t.rd pgPKG n = min (s.rd pgPKG n + 1) n.max ∧
          Changes [.freeCtr] [pgPKG + n.at 0, pgHOST + HOST_FAB_ERR_BUSY.at 0] s t) ∧
        (off.toNat + len.toNat ≤ 2 ^ 27 → Runs (.hostBar2Read off len ecc) s fun t =>
          LastOut (.hostBytes (List.replicate len.toNat 0) true) s t ∧ t.rd pgPKG n = min (s.rd pgPKG n + 1) n.max ∧
          Changes [.freeCtr, .out] [pgPKG + n.at 0, pgHOST + HOST_FAB_ERR_BUSY.at 0] s t))) ∧
  (∀ (s : State) (off : BitVec 23) (len : BitVec 12), s.dev.shut = false → off.toNat + len.toNat ≤ 2 ^ 23 →
      (s.work.memGate (bar4Mem off.toNat).1 = none →
        ((bar4Mem off.toNat).1 = .hub → s.work.badIn 4 (off.toNat - 0x500000) len.toNat = false) →
        Runs (.hostBar4Read off len .ok) s fun t =>
          (match t.dev.out.getLast? with
            | some (.hostBytes bs false) => bs.length = len.toNat ∧
                ∀ i b, bs[i]? = some b → published (off.toNat + i) → b = s.sramByte (off.toNat + i)
            | _ => False) ∧
          Changes [.out, .freeCtr] [] s t) ∧
      (s.work.memGate (bar4Mem off.toNat).1 = none → Runs (.hostBar4Read off len .double) s fun t =>
        t.rd pgHOST HOST_ACC_ERR_POISONED = 1 ∧ TimeKept s t ∧
        (match t.dev.out.getLast? with | some (.hostBytes bs true) => bs.length = len.toNat | _ => False)) ∧
      (∀ f busy ecc, s.work.memGate (bar4Mem off.toNat).1 = some (f, busy) → Runs (.hostBar4Read off len ecc) s fun t =>
        LastOut (.hostBytes (List.replicate len.toNat 0) true) s t))

/-! ### The region cycle, the Abacus and the edges (R23 to R45, R157 to R240) -/

/-- R39: setting CYC_EN of a region that does not cycle clears CYC_COUNT and the slots' VALID and awaits the first boundary
of the grid at least 400 ticks away; while a stop is pending it cancels the stop and no more. Clearing is refused while a
cluster is in PRECHARGE, RUN or TEST, and otherwise stops the cycles after the running one, or at once before the first. Writing
the value that stands changes nothing; a locked page ignores either with LOCK_WR (R64). R43: a read of CYC_T0_NS answers it and
latches the seconds of the same boundary, which the next read of CYC_T0_S answers. -/
def Obligations.CycleStartsAndStops : Prop :=
  (∀ (s : State) (n : Fin 4), s.reaches (pgRG n + RG_CYC_CTL.at 0) →
      (¬ s.on (pgRG n) HDR_LOCK_LOCKED →
        (¬ s.on (pgRG n) RG_CYC_CTL → (s.region n).run = false → Runs (.cycEnSet n) s fun t =>
          t.rd (pgRG n) RG_CYC_CTL = 1 ∧ t.rd (pgRG n) RG_CYC_COUNT = 0 ∧ (t.region n).startPend = true ∧
          (t.region n).nextB = some (s.work.gridB n false (t16 s.tally.a + 400 * tick16)) ∧
          (∀ k : Fin 1024, (t.word (slotStatAddr n k)).toNat.testBit 31 = false ∧ t.word (slotAddr n k) = s.word (slotAddr n k)) ∧
          DwordsKeptBut (fun a => slotDword n a ∨ a = pgRG n + RG_CYC_CTL.at 0 ∨ a = pgRG n + RG_CYC_COUNT.at 0) s t ∧
          KindsKeptBut [.rgn, .unit, .clu, .lane, .twin] s t) ∧
        (¬ s.on (pgRG n) RG_CYC_CTL → (s.region n).run = true → Runs (.cycEnSet n) s fun t =>
          t.rd (pgRG n) RG_CYC_CTL = 1 ∧ t.region n = { s.region n with stopPend := false } ∧
          Changes [.rgn] [pgRG n + RG_CYC_CTL.at 0] s t) ∧
        (s.on (pgRG n) RG_CYC_CTL → Runs (.cycEnSet n) s fun t => t = s) ∧
        (¬ s.on (pgRG n) RG_CYC_CTL → Runs (.cycEnClear n) s fun t => t = s) ∧
        (s.on (pgRG n) RG_CYC_CTL → (∃ i : Fin 12, s.rd (pgCLU (12 * n + i)) CLU_CSTAT_STATE = 1 ∨
            s.rd (pgCLU (12 * n + i)) CLU_CSTAT_STATE = 3 ∨ s.rd (pgCLU (12 * n + i)) CLU_CSTAT_STATE = 5) → Runs (.cycEnClear n) s fun t =>
          t.rd (pgRG n) RG_CYC_STAT_EN_REFUSED = 1 ∧ OnlyDwords [pgRG n + RG_CYC_STAT_EN_REFUSED.at 0] s t) ∧
        (s.on (pgRG n) RG_CYC_CTL → (∀ i : Fin 12, s.rd (pgCLU (12 * n + i)) CLU_CSTAT_STATE ≠ 1 ∧
            s.rd (pgCLU (12 * n + i)) CLU_CSTAT_STATE ≠ 3 ∧ s.rd (pgCLU (12 * n + i)) CLU_CSTAT_STATE ≠ 5) → Runs (.cycEnClear n) s fun t =>
          t.rd (pgRG n) RG_CYC_CTL = 0 ∧
          ((s.region n).run = true → t.region n = { s.region n with stopPend := true }) ∧
          ((s.region n).run = false → t.region n = { s.region n with startPend := false, nextB := none }) ∧
          Changes [.rgn] [pgRG n + RG_CYC_CTL.at 0] s t)) ∧
      (s.on (pgRG n) HDR_LOCK_LOCKED → ∀ c ∈ [Instr.cycEnSet n, .cycEnClear n], Runs c s fun t =>
        t.rd (pgRG n) HDR_STAT_LOCK_WR = 1 ∧ OnlyDwords [pgRG n + HDR_STAT_LOCK_WR.at 0] s t)) ∧
  (∀ (s : State) (n : Fin 4),
      (s.readable (pgRG n + RG_CYC_T0_NS.at 0) → Runs (.cycT0NsRead n) s fun t =>
        LastOut (.hostRead [s.word (pgRG n + RG_CYC_T0_NS.at 0)] false) s t ∧
        t.region n = { s.region n with t0Latch := some (s.word (pgRG n + RG_CYC_T0_S.at 0)) } ∧ Changes [.rgn, .out] [] s t) ∧
      (s.readable (pgRG n + RG_CYC_T0_S.at 0) → Runs (.hostBar0Read (BitVec.ofNat 25 (pgRG n + RG_CYC_T0_S.at 0)) false) s fun t =>
        LastOut (.hostRead [(s.region n).t0Latch.getD (s.word (pgRG n + RG_CYC_T0_S.at 0))] false) s t ∧
        (t.region n).t0Latch = none ∧ Changes [.rgn, .out] [] s t))

/-- R29 to R32, R43, R185: at the boundary of a cycling region with no swap, stop or change of role due, the next cycle
enters GATHER with T0 this boundary and its own boundary one period later, and CYC_COUNT counts. A cycle that has completed
seals: each state word and output slot takes its last pending value, and the others stand. A cycle that has not completed
leaves them all. -/
def Obligations.BoundarySealsAndAdvances : Prop :=
  ∀ (s : State) (n : Fin 4) (b : Int), (s.region n).nextB = some b → (s.region n).run = true → (s.region n).standby = false →
    (s.rd pgPKG PKG_FENCE_STAT).testBit n = false → (s.region n).stopPend = false → (s.region n).takeAt = none →
    (s.region n).releaseAt = none → s.work.swapNow n b = false →
    Runs (.boundary n) s fun t =>
      t.rd (pgRG n) RG_CYC_STAT_PHASE = 1 ∧ (t.region n).t0 = b ∧ (t.region n).nextB = some (b + s.work.period16 n) ∧
      t.rd (pgRG n) RG_CYC_T0_NS = (timeOf16 b).ns ∧ t.rd (pgRG n) RG_CYC_T0_S = (timeOf16 b).s % 2 ^ 32 ∧
      t.rd (pgRG n) RG_CYC_COUNT = (s.rd (pgRG n) RG_CYC_COUNT + 1) % 2 ^ 32 ∧
      (t.region n).fillCur = (s.region n).fillNext ∧ (t.region n).fillNext = [] ∧ t.rd (pgABC n) ABC_RSTAT_DONE = 0 ∧
      (s.rd (pgRG n) RG_CYC_STAT_PHASE = 3 → (s.region n).overrun = false → (s.region n).tDone.isSome →
        (∀ x : Fin 2048, t.word (stateWordAddr n x) =
          ((((s.region n).pendState.filter fun e => e.1 % 2048 == x.val).getLast?).map Prod.snd).getD (s.word (stateWordAddr n x))) ∧
        (∀ o : Fin 512, t.word (outSlotAddr n o) =
          ((((s.region n).pendOut.filter fun e => e.1 % 512 == o.val).getLast?).map Prod.snd).getD (s.word (outSlotAddr n o))) ∧
        t.rd (pgABC n) ABC_RSTAT_OVR_RUN = 0 ∧ t.rd (pgABC n) ABC_SLACK_OVR = 0) ∧
      (s.rd (pgRG n) RG_CYC_STAT_PHASE ≠ 3 ∨ (s.region n).overrun = true ∨ (s.region n).tDone = none →
        (∀ x : Fin 2048, t.word (stateWordAddr n x) = s.word (stateWordAddr n x)) ∧
        (∀ o : Fin 512, t.word (outSlotAddr n o) = s.word (outSlotAddr n o)) ∧ t.rd (pgABC n) ABC_SLACK_OVR = 1) ∧
      TimeKept s t

/-- R100, R177 to R179, R181, R262: at the input deadline of a cycle in GATHER the slots that have received a value take it,
with VALID set and AGE 0; an expected slot that has received none keeps its value and shows STALE; a host slot takes its newest
staged value; slots 96 to 107 take the clusters' states. The cycle enters RECKON, which starts at section 0, or has completed at
once where the program is empty; and no dword but the slots, PHASE, DONE and STALE_COUNT of the region changes. -/
def Obligations.InputDeadlineFilesSlots : Prop :=
  ∀ (s : State) (n : Fin 4), s.cycling n 1 → (s.region n).catchUp = 0 → Runs (.inputDeadline n) s fun t =>
    t.cycling n 2 ∧ (t.region n).pc = 0 ∧ (t.region n).results = [] ∧ (t.region n).fillCur = [] ∧ (t.region n).hostStage = [] ∧
    (s.rd (pgABC n) ABC_PROG ≠ 0 → (t.region n).reckon = true ∧ t.rd (pgABC n) ABC_RSTAT_DONE = 0) ∧
    (s.rd (pgABC n) ABC_PROG = 0 → (t.region n).reckon = false ∧ (t.region n).tDone = some s.tally.elapsed ∧
      t.rd (pgABC n) ABC_RSTAT_DONE = 1) ∧
    (∀ (k : Fin 1024) (f : Filed), canStale k → (s.region n).fillCur.find? (fun g => g.slot == k.val) = some f →
      t.word (slotAddr n k) = f.val ∧ (t.word (slotStatAddr n k)).toNat.testBit 31 = true ∧
      (t.word (slotStatAddr n k)).toNat / 2 ^ 24 % 16 = 0) ∧
    (∀ k : Fin 256, canStale k → k.val ∈ s.work.expectedSlots n (s.region n).t0 →
      (s.region n).fillCur.find? (fun g => g.slot == k.val) = none →
      t.word (slotAddr n k) = s.word (slotAddr n k) ∧ (t.word (slotStatAddr n k)).toNat.testBit 30 = true) ∧
    (∀ (k : Fin 1024) (e : Nat × Word), 512 ≤ k.val → ((s.region n).hostStage.filter fun e => e.1 == k.val).getLast? = some e →
      t.word (slotAddr n k) = e.2 ∧ (t.word (slotStatAddr n k)).toNat.testBit 31 = true) ∧
    (∀ i : Fin 12, (t.word (slotAddr n (96 + i))).toNat / 2 ^ 24 % 16 = s.rd (pgCLU (12 * n + i)) CLU_CSTAT_STATE) ∧
    DwordsKeptBut (fun a => slotDword n a ∨ a = pgRG n + RG_CYC_STAT_PHASE.at 0 ∨ a = pgABC n + ABC_RSTAT_DONE.at 0 ∨
      a = pgABC n + ABC_STALE_COUNT.at 0) s t ∧ KindsKeptBut [.rgn] s t

/-- R158, R164, R165: what the sections compute, in exact terms, without limits. A conversion rounds to the nearest multiple of
2^-31, halves up, and saturates at the ends of Q1.31; SUM, MUL, DIVR, SEL and MINMAX convert their exact value once more after the
output shift; BQ filters with its two states; DIVR divides by its guard in place of a divisor below it; LIM moves its state towards
the converted input by no more than its rate; HOLD keeps its state while its condition is false. R164 to R166, R171, R189: a section
whose word is defined and whose arithmetic and reads nothing disturbs adds its result to those of the cycle, its state words and its
enabled output to the pending ones, and its saturations and divide guards to their counters; the next section follows, and the last
of the program completes RECKON with DONE. Nothing else changes. -/
def Obligations.SectionsCompute : Prop :=
  (let q (k : Nat) (x : Int) : Int := max (-(2 ^ 31)) (min (2 ^ 31 - 1) (roundR ((x : Rat) / (2 ^ k : Nat))))
    ∀ (c : Sec) (a b p r : Int) (cond : Bool), -8 ≤ c.shift → c.shift ≤ 7 → c.limen = false → -(2 ^ 31) ≤ p → p < 2 ^ 31 →
      let e := (28 - c.shift).toNat
      let x := q 28 (c.gA * a + c.gB * b)
      (secSum c a b).y = q e (c.gA * a + c.gB * b + c.b0 * 2 ^ 31) ∧
      (secMul c a b).y = q (e + 3) (q 28 (c.gA * a) * q 28 (c.gB * b)) ∧
      (let u := q 28 (c.gA * a)
       let v := q 28 (c.gB * b)
       let d : Int := if (v.natAbs : Int) < c.aux then (if 0 ≤ v then c.aux else -(c.aux : Int)) else v
       (secDivr c a b).y = q e (max (-(2 ^ 71 - 1)) (min (2 ^ 71 - 1) (Int.tdiv (u * 2 ^ 59) d))) ∧
       (secDivr c a b).dg = if (v.natAbs : Int) < c.aux then 1 else 0) ∧
      (let y := q e (c.b0 * x + p * 2 ^ 28)
       (secBq c a b p r).y = y ∧
       (secBq c a b p r).st = [(c.state, q 28 (c.b1 * x - c.a1 * y + r * 2 ^ 28)), (c.state + 1, q 28 (c.b2 * x - c.a2 * y))]) ∧
      (secSel c a b cond).y = q e (if cond then c.gB * b else c.gA * a) ∧
      (c.sub = 0 → (secMinmax c a b).y = q e (min (q 28 (c.gA * a)) (q 28 (c.gB * b)) * 2 ^ 28)) ∧
      (c.sub = 1 → (secMinmax c a b).y = q e (max (q 28 (c.gA * a)) (q 28 (c.gB * b)) * 2 ^ 28)) ∧
      (c.sub = 2 → (secMinmax c a b).y = q e ((c.gA * a + c.gB * b).natAbs : Int)) ∧
      (let t := q e (x * 2 ^ 28)
       (c.b0 = 0 → (secLim c a b p).y = t) ∧
       (c.b0 ≠ 0 → ((secLim c a b p).y - p).natAbs = min (t - p).natAbs (c.b0.natAbs * 8) ∧ ((secLim c a b p).y - p) * (t - p) ≥ 0) ∧
       (secLim c a b p).st = [(c.state, (secLim c a b p).y)] ∧
       (cond = true → (secHold c a b p cond).y = t ∧ (secHold c a b p cond).st = [(c.state, t)])) ∧
      (cond = false → (secHold c a b p cond).y = p ∧ (secHold c a b p cond).st = [(c.state, p)])) ∧
  (∀ (s : State) (n : Fin 4), (s.region n).reckon = true → (s.rd pgPKG PKG_FENCE_STAT).testBit n = false →
      (s.region n).pc < s.rd (pgABC n) ABC_PROG → ¬ s.on (pgABC n) HDR_INJ_ARMED → (s.region n).catchUp = 0 →
      let pc := (s.region n).pc
      let c := s.work.sect n pc
      let r := s.work.runSec n pc c
      c.defined pc = true → Runs (.abacusSection n ⟨[], [], .ok, .ok, .ok⟩) s fun t =>
        (t.region n).results = (s.region n).results ++ [BitVec.ofInt 32 r.y] ∧
        (t.region n).pendState = (s.region n).pendState ++ r.st.map (fun e => (e.1, BitVec.ofInt 32 e.2)) ∧
        (t.region n).pendOut = (if c.oen then (s.region n).pendOut ++ [(c.oslot, BitVec.ofInt 32 r.y)] else (s.region n).pendOut) ∧
        (t.region n).pc = pc + 1 ∧
        t.rd (pgABC n) ABC_SAT_COUNT = min (s.rd (pgABC n) ABC_SAT_COUNT + r.sat) ABC_SAT_COUNT.max ∧
        t.rd (pgABC n) ABC_DIVG_COUNT = min (s.rd (pgABC n) ABC_DIVG_COUNT + r.dg) ABC_DIVG_COUNT.max ∧
        (pc + 1 < s.rd (pgABC n) ABC_PROG → (t.region n).reckon = true ∧ t.rd (pgABC n) ABC_RSTAT_DONE = s.rd (pgABC n) ABC_RSTAT_DONE) ∧
        (s.rd (pgABC n) ABC_PROG ≤ pc + 1 → (t.region n).reckon = false ∧ (t.region n).tDone = some s.tally.elapsed ∧
          t.rd (pgABC n) ABC_RSTAT_DONE = 1) ∧
        Changes [.rgn] [pgABC n + ABC_SAT_COUNT.at 0, pgABC n + ABC_DIVG_COUNT.at 0, pgABC n + ABC_LAST_EV_KIND.at 0,
          pgABC n + ABC_RSTAT_DONE.at 0] s t)

/-- R167: an error that is no multiple of 7 in the accumulator of a SUM section shows, on the lane it has met. R168, R170, R189: a
first residue error whose retry is good raises ABC CE 16 with RETRY and counts, and the section completes with the retry's result;
when the retry fails too, or the cycle has had a residue error before, RECKON is abandoned with ABC UC 16. R169: an injection armed
for a residue checker sets HIT on a section without an error, whose result is used; R400: beside a real error it is counted in
INJMISS_COUNT and the error handled as above. -/
def Obligations.ResidueErrorsRetried : Prop :=
  (∀ (c : Sec) (a b : Int) (u : Upset), u.step = 0 → u.acc % 7 ≠ 0 → (secSum c a b [u]).bad = some u.lane.val) ∧
  (∀ (s : State) (n : Fin 4), (s.region n).reckon = true → (s.rd pgPKG PKG_FENCE_STAT).testBit n = false →
    (s.region n).pc < s.rd (pgABC n) ABC_PROG → (s.region n).catchUp = 0 → ∀ ups again : List Upset,
    let pc := (s.region n).pc
    let c := s.work.sect n pc
    c.defined pc = true →
    (¬ s.on (pgABC n) HDR_INJ_ARMED → ∀ lane, (s.work.runSec n pc c ups).bad = some lane →
      ((s.region n).resErrs = 0 → (s.work.runSec n pc c again).bad = none → Runs (.abacusSection n ⟨ups, again, .ok, .ok, .ok⟩) s fun t =>
        t.flagged (pgABC n) .ce 16 ∧ t.rd (pgABC n) ABC_RSTAT_RETRY = 1 ∧ (t.region n).pc = pc + 1 ∧ (t.region n).resErrs = 1 ∧
        t.rd (pgABC n) ABC_RES_COUNT = min (s.rd (pgABC n) ABC_RES_COUNT + 1) ABC_RES_COUNT.max ∧
        (t.region n).results = (s.region n).results ++ [BitVec.ofInt 32 (s.work.runSec n pc c again).y] ∧ TimeKept s t) ∧
      (∀ l, (s.region n).resErrs = 0 ∧ (s.work.runSec n pc c again).bad = some l ∨ (s.region n).resErrs ≠ 0 ∧ l = lane →
        Runs (.abacusSection n ⟨ups, again, .ok, .ok, .ok⟩) s fun t =>
          t.flagged (pgABC n) .uc 16 ∧ (t.region n).reckon = false ∧ (t.region n).abandoned = true ∧
          t.rd (pgABC n) ABC_LAST_EV_KIND = 1 ∧ t.rd (pgABC n) ABC_LAST_EV_LANE = l % 4 ∧
          t.rd (pgABC n) ABC_LAST_EV_SECTION = pc % 2048 ∧ (t.region n).results = (s.region n).results ∧
          t.rd (pgABC n) ABC_RES_COUNT = min (s.rd (pgABC n) ABC_RES_COUNT + 1) ABC_RES_COUNT.max ∧
          Changes [.rgn, .flue, .out] [pgABC n + HDR_FLT_CAUSE.at 0, pgABC n + ABC_RES_COUNT.at 0, pgABC n + ABC_LAST_EV_KIND.at 0] s t)) ∧
    (s.on (pgABC n) HDR_INJ_ARMED → s.rd (pgABC n) HDR_INJ_CHK ≤ 3 →
      ((s.work.runSec n pc c ups).bad = none → Runs (.abacusSection n ⟨ups, again, .ok, .ok, .ok⟩) s fun t =>
        t.rd (pgABC n) HDR_INJ_HIT = 1 ∧ t.rd (pgABC n) HDR_INJ_ARMED = 0 ∧ (t.region n).pc = pc + 1 ∧
        (t.region n).results = (s.region n).results ++ [BitVec.ofInt 32 (s.work.runSec n pc c ups).y] ∧
        t.rd (pgABC n) ABC_RES_COUNT = s.rd (pgABC n) ABC_RES_COUNT ∧ TimeKept s t) ∧
      (∀ lane, (s.work.runSec n pc c ups).bad = some lane → Runs (.abacusSection n ⟨ups, again, .ok, .ok, .ok⟩) s fun t =>
        t.rd (pgABC n) HDR_INJ_HIT = s.rd (pgABC n) HDR_INJ_HIT ∧ t.rd (pgABC n) HDR_INJ_ARMED = 0 ∧
        t.rd pgHRT HRT_INJMISS_COUNT = min (s.rd pgHRT HRT_INJMISS_COUNT + 1) HRT_INJMISS_COUNT.max ∧
        t.rd (pgABC n) ABC_RES_COUNT = min (s.rd (pgABC n) ABC_RES_COUNT + 1) ABC_RES_COUNT.max ∧ TimeKept s t)))

/-- R26, R31, R185, R186: at the output deadline of a cycle that has completed RECKON the cycle enters SCHEDULE and counts
no overrun; of one that has not, the overrun is flagged and counted, the pending results are discarded, and the run of
overruns trips the region when it reaches OVR_CTL, whether or not OVR_TRIP still stands, and with each further overrun while it is
clear: OVR_TRIP and ABC UC 17. -/
def Obligations.OutputDeadlineSchedulesOrOverruns : Prop :=
  ∀ (s : State) (n : Fin 4) (ilk : List (Fin 192 × BitVec 2)), s.cycling n 2 → (s.region n).nextB.isSome →
    ((s.region n).reckon = false → (s.region n).abandoned = false → (s.region n).tDone.isSome → (s.region n).overrun = false →
      Runs (.outputDeadline n ilk) s fun t =>
        t.cycling n 3 ∧ (t.region n).overrun = false ∧ (t.region n).pendState = (s.region n).pendState ∧
        (t.region n).pendOut = (s.region n).pendOut ∧ t.rd (pgABC n) ABC_OVR_COUNT = s.rd (pgABC n) ABC_OVR_COUNT ∧ TimeKept s t) ∧
    ((s.region n).reckon = true ∨ (s.region n).abandoned = true ∨ (s.region n).tDone = none → Runs (.outputDeadline n ilk) s fun t =>
        let run := min (s.rd (pgABC n) ABC_RSTAT_OVR_RUN + 1) 15
        t.cycling n 3 ∧ (t.region n).overrun = true ∧ (t.region n).pendState = [] ∧ (t.region n).pendOut = [] ∧
        t.rd (pgABC n) ABC_RSTAT_OVR = 1 ∧ t.rd (pgABC n) ABC_OVR_COUNT = min (s.rd (pgABC n) ABC_OVR_COUNT + 1) ABC_OVR_COUNT.max ∧
        t.rd (pgABC n) ABC_RSTAT_OVR_RUN = run ∧
        (s.rd (pgABC n) ABC_OVR_CTL ≤ run → s.rd (pgABC n) ABC_RSTAT_OVR_RUN < s.rd (pgABC n) ABC_OVR_CTL ∨ ¬ s.on (pgABC n) ABC_RSTAT_OVR_TRIP →
          t.rd (pgABC n) ABC_RSTAT_OVR_TRIP = 1 ∧ t.flagged (pgABC n) .uc 17) ∧
        (∀ x : Fin 2048, t.word (stateWordAddr n x) = s.word (stateWordAddr n x)) ∧ TimeKept s t)

/-- R179, R180, R189, R196: a state word takes a host write while the region does not cycle; a host slot's value waits for
the next input deadline, the newest for a slot; a slot the host does not own, and a state word of a cycling region, ignore
the write with BADVAL; SMIN_RST puts SLACK_MIN at its largest value; FB_SET waits for the next boundary. R221: COMMIT
buffers the triple of the HD registers and sets HD_PENDING; a commit that replaces a buffered one sets COMMIT_LOST. -/
def Obligations.HostWritesToAbacus : Prop :=
  (∀ (s : State) (n : Fin 4),
      (∀ (x : Fin 2048) (v : Word), s.reaches (stateWordAddr n x) →
        (¬ s.on (pgRG n) RG_CYC_CTL → Runs (.stateWordWrite n x v) s fun t =>
          t.word (stateWordAddr n x) = v ∧ OnlyDwords [stateWordAddr n x] s t) ∧
        (s.on (pgRG n) RG_CYC_CTL → Runs (.stateWordWrite n x v) s fun t =>
          t.rd (pgABC n) HDR_STAT_BADVAL = 1 ∧ OnlyDwords [pgABC n + HDR_STAT_BADVAL.at 0] s t)) ∧
      (∀ (k : Fin 1024) (v : Word), s.reaches (slotAddr n k) →
        (512 ≤ k.val → Runs (.hostSlotWrite n k v) s fun t =>
          ((t.region n).hostStage.filter fun e => e.1 == k.val) = [(k.val, v)] ∧
          ((t.region n).hostStage.filter fun e => e.1 != k.val) = ((s.region n).hostStage.filter fun e => e.1 != k.val) ∧
          Changes [.rgn] [] s t) ∧
        (k.val < 512 → Runs (.hostSlotWrite n k v) s fun t =>
          t.rd (pgABC n) HDR_STAT_BADVAL = 1 ∧ OnlyDwords [pgABC n + HDR_STAT_BADVAL.at 0] s t)) ∧
      (s.reaches (pgABC n + ABC_ACTL.at 0) → Runs (.sminRst n) s fun t =>
        t.rd (pgABC n) ABC_SLACK_MIN = 0x7FFFF ∧ OnlyDwords [pgABC n + ABC_SLACK_MIN.at 0] s t) ∧
      (∀ q : Fin 64, s.reaches (pgSP n (q / 16) + SP_CH_CTL_FB_SET.at (q % 16)) → Runs (.fbSet n q) s fun t =>
        q.val ∈ (t.region n).fbSet ∧ (∀ p, p ≠ q.val → (p ∈ (t.region n).fbSet ↔ p ∈ (s.region n).fbSet)) ∧ Changes [.rgn] [] s t)) ∧
  (∀ (s : State) (u : Fin 192), s.reaches (pgUNIT u + UNIT_HD_CTL_COMMIT.at 0) → Runs (.hdCommit u) s fun t =>
      t.rd (pgUNIT u) UNIT_ESTAT_HD_PENDING = 1 ∧
      (t.work.un u).hdBuf = some ⟨s.rd (pgUNIT u) UNIT_HD_PER, s.rd (pgUNIT u) UNIT_HD_ON, s.rd (pgUNIT u) UNIT_HD_DUTY⟩ ∧
      (t.work.un u).hd = (s.work.un u).hd ∧
      (s.on (pgUNIT u) UNIT_ESTAT_HD_PENDING → t.rd (pgUNIT u) UNIT_ESTAT_COMMIT_LOST = 1) ∧
      (¬ s.on (pgUNIT u) UNIT_ESTAT_HD_PENDING → t.rd (pgUNIT u) UNIT_ESTAT_COMMIT_LOST = s.rd (pgUNIT u) UNIT_ESTAT_COMMIT_LOST) ∧
      Changes [.unit] [pgUNIT u + UNIT_ESTAT_HD_PENDING.at 0] s t)

/-- R233, R248: a word of the unit that has not left its lane 1.0 µs before it is due is not sent: no late word of the unit
stays, UNIT UC 18 is raised, and the serving cluster takes the forced safe action with cause 6. With no such word nothing happens.
R226, R227: at a carrier period start of an emitting unit that is not frozen, each direction's dead time follows a complete report
of the measured turn-off delay by at most STEP towards the delay plus MARGIN, within the limits; without adaptation it is SAFE
within the limits; and without a complete report the misses count, until K of them put SAFE in force with its DTS flag and UNIT
CE 17. -/
def Obligations.EdgesGuarded : Prop :=
  (∀ (s : State) (u : Fin 192) (e : EdgeW), s.serving (s.work.owner (u / 4)) →
      .edge u e ∈ (s.work.ln (s.work.owner (u / 4))).timed → e.cancel = false → e.due ≤ t16 s.tally.a + 16000 →
      Runs (.edgeWordLate u) s fun t =>
        t.flagged (pgUNIT u) .uc 18 ∧ ForcedSafe (s.work.owner (u / 4)) 6 s t ∧
        (∀ x : EdgeW, .edge u x ∉ (t.work.ln (s.work.owner (u / 4))).timed) ∧ TimeKept s t) ∧
  (∀ (s : State) (u : Fin 192),
      (∀ e : EdgeW, .edge u e ∈ (s.work.ln (s.work.owner (u / 4))).timed → e.cancel = true ∨ t16 s.tally.a + 16000 < e.due) →
      Runs (.edgeWordLate u) s fun t => t = s) ∧
  (∀ (s : State) (u : Fin 192), (s.work.un u).emit = true → (s.work.un u).frozen = false →
      let pg := pgUNIT u
      let k := s.work.un u
      let v := (k.dtq.getLast?).getD k.dt
      let hi := s.rd pg UNIT_DT_LIM_DT_MAX
      let lo := min (s.rd pg UNIT_DT_LIM_DT_MIN) hi
      let lim (x : Int) : Nat := (min (max x lo) hi).toNat
      let step : Int := s.rd pg UNIT_DT_CTL_STEP
      let follow (dt tc : Nat) : Nat := lim (dt + max (-step) (min step (tc + s.rd pg UNIT_DT_SAFE_MARGIN - dt)))
      Runs (.carrierPeriodStart u) s fun t =>
        (t.work.un u).dtq.length = k.dtq.length + 1 ∧ (t.work.un u).repHL = none ∧ (t.work.un u).repLH = none ∧
        (¬ s.on pg UNIT_DT_CTL_ADAPT →
          t.rd pg UNIT_DT_NOW_HL = lim (s.rd pg UNIT_DT_SAFE_SAFE) ∧ t.rd pg UNIT_DT_NOW_LH = lim (s.rd pg UNIT_DT_SAFE_SAFE) ∧
          t.rd pg UNIT_ESTAT_DTS_HL = 0 ∧ t.rd pg UNIT_ESTAT_DTS_LH = 0) ∧
        (s.on pg UNIT_DT_CTL_ADAPT →
          (∀ tc, k.repHL = some (tc, false) → t.rd pg UNIT_DT_NOW_HL = follow v.hl tc ∧ t.rd pg UNIT_ESTAT_DTS_HL = 0 ∧
            (t.work.un u).missHL = 0) ∧
          (∀ tc, k.repLH = some (tc, false) → t.rd pg UNIT_DT_NOW_LH = follow v.lh tc ∧ t.rd pg UNIT_ESTAT_DTS_LH = 0 ∧
            (t.work.un u).missLH = 0) ∧
          (k.repHL = none → (t.work.un u).missHL = k.missHL + 1) ∧ (k.repLH = none → (t.work.un u).missLH = k.missLH + 1) ∧
          (k.repHL = none → v.sHL = false → s.rd pg UNIT_DT_CTL_K ≤ k.missHL + 1 →
            t.rd pg UNIT_DT_NOW_HL = s.rd pg UNIT_DT_SAFE_SAFE ∧ t.rd pg UNIT_ESTAT_DTS_HL = 1 ∧ t.flagged pg .ce 17) ∧
          (k.repLH = none → v.sLH = false → s.rd pg UNIT_DT_CTL_K ≤ k.missLH + 1 →
            t.rd pg UNIT_DT_NOW_LH = s.rd pg UNIT_DT_SAFE_SAFE ∧ t.rd pg UNIT_ESTAT_DTS_LH = 1 ∧ t.flagged pg .ce 17)) ∧
        Changes [.unit, .flue, .out] [pg + UNIT_DT_NOW_HL.at 0, pg + UNIT_ESTAT_DTS_HL.at 0, pg + UNIT_PROF_NOW_ON.at 0,
          pg + UNIT_DTS_COUNT.at 0, pg + HDR_FLT_CAUSE.at 0] s t)

/-! ### Configuration sets and the swap (R66 to R80) -/

/-- R69: SETCOPY starts a set copy unless a swap is armed or pending or a copy runs, when it is ignored with BADVAL. When
the copy completes, the shadow set holds the active set, COPY_DONE is set, COPY_BUSY and every SHADOW_DIRTY are clear, and
the active set stands. R77, R390: a configuration CRC pass after Kindling and with no swap pending that shows another CRC
than ACTIVE_CRC, or an upset, raises HRT UC 18 and the fixed reaction of level 3; a pass that agrees changes nothing, and before
Kindling's end or while a swap is pending none is compared. -/
def Obligations.SetsCopiedAndChecked : Prop :=
  (∀ s : State, s.fenceAt (pgPKG + PKG_SWAP_SETCOPY.at 0) true = none →
      (¬ s.on pgPKG PKG_SWAP_STAT_ARMED → ¬ s.on pgPKG PKG_SWAP_STAT_PENDING → ¬ s.on pgPKG PKG_SWAP_STAT_COPY_BUSY →
        Runs .setcopy s fun t => t.rd pgPKG PKG_SWAP_STAT_COPY_BUSY = 1 ∧ OnlyDwords [pgPKG + PKG_SWAP_STAT_COPY_BUSY.at 0] s t) ∧
      (s.on pgPKG PKG_SWAP_STAT_ARMED ∨ s.on pgPKG PKG_SWAP_STAT_PENDING ∨ s.on pgPKG PKG_SWAP_STAT_COPY_BUSY →
        Runs .setcopy s fun t => t.rd pgPKG HDR_STAT_BADVAL = 1 ∧ OnlyDwords [pgPKG + HDR_STAT_BADVAL.at 0] s t)) ∧
  (∀ s : State, s.on pgPKG PKG_SWAP_STAT_COPY_BUSY → Runs .setCopyDone s fun t =>
      (∀ a, t.work.shWord a &&& rwsMask a = s.word a &&& rwsMask a) ∧
      t.rd pgPKG PKG_SWAP_STAT_COPY_DONE = 1 ∧ t.rd pgPKG PKG_SWAP_STAT_COPY_BUSY = 0 ∧
      (∀ p, shadowPage (p * 0x1000) → t.rd (p * 0x1000) HDR_STAT_SHADOW_DIRTY = 0) ∧ KindsKeptBut [.shadow] s t ∧
      DwordsKeptBut (fun a => a % 0x1000 = 0xC ∨ a = pgPKG + PKG_SWAP_STAT_COPY_BUSY.at 0) s t) ∧
  (∀ (s : State) (upset : Bool),
      (s.on pgPKG PKG_KSTAT_DONE → ¬ s.on pgPKG PKG_SWAP_STAT_PENDING →
        (s.work.activeCrc = s.rd pgPKG PKG_ACTIVE_CRC → Runs (.crcPassComplete false) s fun t => t = s) ∧
        (upset = true ∨ s.work.activeCrc ≠ s.rd pgPKG PKG_ACTIVE_CRC → s.notHeld 2 →
          Runs (.crcPassComplete upset) s fun t => t.flagged pgHRT .uc 18 ∧ Reacted ⟨0, 0, 0xFF, 3, 0xF, 2⟩ s t ∧ TimeKept s t)) ∧
      (¬ s.on pgPKG PKG_KSTAT_DONE ∨ s.on pgPKG PKG_SWAP_STAT_PENDING → Runs (.crcPassComplete upset) s fun t => t = s))

/-- R71, R78, R189: ARM arms a swap at D, starts its checks and makes BOUND_NEXT invalid; a D not yet to come is left to the end
of the checks. ARM while ARMED or PENDING is ignored with BADVAL; DISARM abandons an armed swap, and with nothing armed is ignored
with BADVAL (the model's choice, log entry 58). R71, R72, R76: when the checks end, SWAP_CRC_CALC shows the CRC of the shadow set. A
CRC other than SWAP_CRC refuses the swap with cause 0x01: ARMED and CHECKING clear, SWAP_ERR is set, SWAP_REFUSED counts and a SWAP
event leaves. With every check passed the swap stays armed, for D or the next tick. The sets stand either way. R71 to R74, R87: at D
a swap whose checks have not ended is refused with cause 0x0B; one whose last checks pass is committed: ACTIVE_ID toggles,
ACTIVE_CRC takes SWAP_CRC, the point directory's sets are exchanged, and so are the sections of every region that does not cycle;
PENDING stays set while a region that cycles has still to exchange. -/
def Obligations.SwapArmedCheckedAndDecided : Prop :=
  (∀ s : State, s.fenceAt (pgPKG + PKG_SWAP_ARM.at 0) true = none →
      (¬ s.on pgPKG PKG_SWAP_STAT_ARMED → ¬ s.on pgPKG PKG_SWAP_STAT_PENDING → Runs .swapArm s fun t =>
        t.rd pgPKG PKG_SWAP_STAT_ARMED = 1 ∧ t.rd pgPKG PKG_SWAP_STAT_CHECKING = 1 ∧ t.rd pgPKG PKG_SWAP_STAT_RG_DONE = 0 ∧
        (t16 s.tally.a < s.work.swapD → t.dev.swap.d = some s.work.swapD) ∧ (s.work.swapD ≤ t16 s.tally.a → t.dev.swap.d = none) ∧
        (∀ n : Fin 4, t.rd (pgABC n) ABC_BOUND_NEXT_VALID = 0) ∧
        Changes [.swap] ((pgPKG + PKG_SWAP_STAT_ARMED.at 0) :: (List.range 4).map fun n => pgABC n + ABC_BOUND_NEXT_VALID.at 0) s t) ∧
      (s.on pgPKG PKG_SWAP_STAT_ARMED ∨ s.on pgPKG PKG_SWAP_STAT_PENDING → Runs .swapArm s fun t =>
        t.rd pgPKG HDR_STAT_BADVAL = 1 ∧ OnlyDwords [pgPKG + HDR_STAT_BADVAL.at 0] s t) ∧
      (s.on pgPKG PKG_SWAP_STAT_ARMED → Runs .swapDisarm s fun t =>
        t.rd pgPKG PKG_SWAP_STAT_ARMED = 0 ∧ t.rd pgPKG PKG_SWAP_STAT_CHECKING = 0 ∧
        Changes [.net] [pgPKG + PKG_SWAP_STAT_ARMED.at 0] s t) ∧
      (¬ s.on pgPKG PKG_SWAP_STAT_ARMED → Runs .swapDisarm s fun t =>
        t.rd pgPKG HDR_STAT_BADVAL = 1 ∧ OnlyDwords [pgPKG + HDR_STAT_BADVAL.at 0] s t)) ∧
  (∀ s : State, s.on pgPKG PKG_SWAP_STAT_CHECKING → s.dev.net.swapFrom = none →
      let v := s.work.preview
      let w := s.work.wr pgPKG PKG_SWAP_CRC_CALC s.work.shadowCrc
      (s.work.shadowCrc ≠ s.rd pgPKG PKG_SWAP_CRC → Runs .swapChecksComplete s fun t =>
        t.rd pgPKG PKG_SWAP_CRC_CALC = s.work.shadowCrc ∧ t.rd pgPKG PKG_SWAP_STAT_SWAP_ERR = 1 ∧
        t.rd pgPKG PKG_SWAP_STAT_ERR_CAUSE = 1 ∧ t.rd pgPKG PKG_SWAP_STAT_ERR_INFO = 0xFF ∧
        t.rd pgPKG PKG_SWAP_STAT_ARMED = 0 ∧ t.rd pgPKG PKG_SWAP_STAT_CHECKING = 0 ∧
        t.rd pgPKG PKG_SWAP_REFUSED = min (s.rd pgPKG PKG_SWAP_REFUSED + 1) PKG_SWAP_REFUSED.max ∧
        t.dev.events.length = s.dev.events.length + 1 ∧ KindsKeptBut [.events] s t) ∧
      (w.checksStatic v = none → w.checksLast v = none → s.on pgPKG PKG_SWAP_STAT_ARMED → Runs .swapChecksComplete s fun t =>
        t.rd pgPKG PKG_SWAP_CRC_CALC = s.work.shadowCrc ∧ t.rd pgPKG PKG_SWAP_STAT_ARMED = 1 ∧
        t.rd pgPKG PKG_SWAP_STAT_CHECKING = 0 ∧ t.dev.swap.d = some (s.dev.swap.d.getD (t16 s.tally.a + tick16)) ∧
        KindsKeptBut [.swap] s t)) ∧
  (∀ s : State, s.on pgPKG PKG_SWAP_STAT_ARMED → s.dev.net.swapFrom = none →
      (s.on pgPKG PKG_SWAP_STAT_CHECKING → Runs .swapDecision s fun t =>
        t.rd pgPKG PKG_SWAP_STAT_SWAP_ERR = 1 ∧ t.rd pgPKG PKG_SWAP_STAT_ERR_CAUSE = 0x0B ∧ t.rd pgPKG PKG_SWAP_STAT_ARMED = 0 ∧
        t.rd pgPKG PKG_SWAP_REFUSED = min (s.rd pgPKG PKG_SWAP_REFUSED + 1) PKG_SWAP_REFUSED.max ∧
        Changes [.events] [pgPKG + PKG_SWAP_STAT_ARMED.at 0, pgPKG + PKG_SWAP_REFUSED.at 0] s t) ∧
      (¬ s.on pgPKG PKG_SWAP_STAT_CHECKING → s.work.checksLast s.work.preview = none → Runs .swapDecision s fun t =>
        t.rd pgPKG PKG_SWAP_STAT_ACTIVE_ID = 1 - s.rd pgPKG PKG_SWAP_STAT_ACTIVE_ID ∧
        t.rd pgPKG PKG_ACTIVE_CRC = s.rd pgPKG PKG_SWAP_CRC ∧ t.rd pgPKG PKG_SWAP_STAT_ARMED = 0 ∧
        (∀ (l : Fin 1024) (h : Fin 2), t.word (pdirAddr l h) &&& rwsMask (pdirAddr l h) = s.work.shWord (pdirAddr l h) &&& rwsMask (pdirAddr l h) ∧
          t.work.shWord (pdirAddr l h) &&& rwsMask (pdirAddr l h) = s.word (pdirAddr l h) &&& rwsMask (pdirAddr l h)) ∧
        (s.rd pgPKG PKG_SWAP_STAT_RG_DONE = 0 → ∀ n : Fin 4, ¬ s.work.marked n → ∀ (k : Fin 1024) (j : Fin 16),
          (s.on (pgRG n) RG_CYC_CTL → t.word (secAddr n k j) = s.word (secAddr n k j)) ∧
          (¬ s.on (pgRG n) RG_CYC_CTL → t.word (secAddr n k j) &&& rwsMask (secAddr n k j) = s.work.shWord (secAddr n k j) &&& rwsMask (secAddr n k j))) ∧
        (s.rd pgPKG PKG_SWAP_STAT_RG_DONE = 0 → (∃ n : Fin 4, s.on (pgRG n) RG_CYC_CTL ∧ ¬ s.work.marked n) →
          t.rd pgPKG PKG_SWAP_STAT_PENDING = 1) ∧
        ((∀ n : Fin 4, ¬ s.on (pgRG n) RG_CYC_CTL) → s.rd pgPKG PKG_SWAP_STAT_PENDING = 0 → t.rd pgPKG PKG_SWAP_STAT_PENDING = 0 ∧ t.rd pgPKG PKG_SWAP_STAT_DONE = 1 ∧
          t.rd pgPKG PKG_SWAP_STAT_RG_DONE = 0xF) ∧ TimeKept s t))

/-! ### The fabric, the Flue, the Hearth and the freeze (R90 to R120, R237 to R239, R380 to R411) -/

/-- R102, R103, R105, R106: a stall of kind TIMEOUT, PROTOCOL or CODE sets its domain's bit of SG_STAT, counts, and records
domain, phase, kind and channel (the bit of every kind, and phase 0 of a CODE error, are the model's choice, log entry 56); it raises
the fault of its row of R105, and the clusters it covers take the forced safe action; the stall of one lane of a pair whose other
lane is up is masked as PATH2_DOWN with CE 20 (R258). A stall of the Hearth starts the fixed reaction of level 4. R107, R110, R187,
R512: once the requests of a region that is to be tested have drained, its fence rises and its cycle is left unsealed. R113 to R116: a
fence answers a host access in its block's place, BUSY or WITHDRAWN. R104, R117 to R120: a Damper frame takes the higher of DAMP_CTL
and the thermal level, keeps the peak, counts, and closes the gate above level 0; the closed gate holds every host access but a swap
command, and its opening lets what it held pass, oldest first. -/
def Obligations.StallsAndFences : Prop :=
  (∀ (s : State) (site : StallSite) (ret : Bool) (chan : BitVec 16),
      ∀ p ∈ [(Instr.stallGuardFire site ret chan, 0), (.handshakeProtocolError site ret chan, 1)] ++
        (if ret then [] else [(.dualRailCodeError site chan, 2)]),
      let c := p.1
      let kind : Nat := p.2
      let shown (d : Nat) (t : State) : Prop := (t.rd pgPKG PKG_SG_STAT).testBit d = true ∧
        t.rd pgPKG PKG_SG_COUNT = min (s.rd pgPKG PKG_SG_COUNT + 1) PKG_SG_COUNT.max ∧ t.rd pgPKG PKG_SG_LAST_DOMAIN = d ∧
        t.rd pgPKG PKG_SG_LAST_PHASE = b2n ret ∧ t.rd pgPKG PKG_SG_LAST_KIND = kind ∧ t.rd pgPKG PKG_SG_LAST_CHAN = chan.toNat ∧ TimeKept s t
      (∀ k : Fin 48, site = .lanePath k → s.serving k → s.work.path2 k = false → Runs c s fun t =>
        shown (k / 12) t ∧ t.rd pgPKG PKG_SG_LAST_CLUSTER = k.val ∧ t.flagged (pgCLU k) .uc 16 ∧ ForcedSafe k 3 s t) ∧
      (∀ k l : Fin 48, site = .lanePath k → s.work.path2 (s.work.owner k) = true → l ≠ k → s.work.owner l = s.work.owner k →
        s.rd (pgCLANE l) CLANE_LSTAT_STATE = 3 → s.work.pathStalled l = false → Runs c s fun t =>
        shown (k / 12) t ∧ t.rd pgPKG PKG_SG_LAST_CLUSTER = k.val ∧ t.flagged (pgCLU k) .uc 16 ∧
        t.rd (pgCLU (s.work.owner k)) CLU_CSTAT_PATH2_DOWN = 1 ∧ t.flagged (pgCLU (s.work.owner k)) .ce 20 ∧
        ∀ o : Fin 48, (t.work.cl o).safePend = (s.work.cl o).safePend) ∧
      (∀ n : Fin 4, site = .region n → Runs c s fun t =>
        shown n t ∧ t.rd pgPKG PKG_SG_LAST_CLUSTER = 0x3F ∧ t.flagged (pgRG n) .uc 16 ∧
        ∀ k : Fin 48, k.val / 12 = n → s.serving k → (t.work.cl k).safePend = true ∧ t.rd (pgCLU k) CLU_CSTAT_LOCK_CAUSE = 5) ∧
      (∀ d : Fin 2, site = .die d → Runs c s fun t =>
        shown (4 + d) t ∧ t.flagged pgPKG .uc 16 ∧
        ∀ k : Fin 48, k.val / 24 = d → s.serving k → (t.work.cl k).safePend = true ∧ t.rd (pgCLU k) CLU_CSTAT_LOCK_CAUSE = 5) ∧
      (site = .hub → Runs c s fun t =>
        shown 6 t ∧ t.flagged pgPKG .fatal 16 ∧ t.dev.lines.length = s.dev.lines.length + 1) ∧
      (site = .hearth → s.notHeld 1 → Runs c s fun t =>
        t.flagged pgHRT .fatal 17 ∧ Reacted ⟨0, 0, 0xFF, 4, 0xF, 1⟩ s t ∧ TimeKept s t)) ∧
  (∀ s : State,
      (∀ n : Fin 4, s.dev.sec.drain.testBit n = true → Runs (.bistFenceRaised n) s fun t =>
        (t.rd pgPKG PKG_FENCE_STAT).testBit n = true ∧ t.dev.sec.drain.testBit n = false ∧ t.rd (pgRG n) RG_CYC_STAT_PHASE = 0 ∧
        (t.region n).run = false ∧ (t.region n).pendState = [] ∧ (∀ x : Fin 2048, t.word (stateWordAddr n x) = s.word (stateWordAddr n x)) ∧
        (∀ i : Fin 12, (t.work.ln (12 * n + i)).timed = []) ∧ TimeKept s t) ∧
      (∀ n : Fin 4, s.dev.sec.drain.testBit n = false → Runs (.bistFenceRaised n) s fun t => t = s) ∧
      (Runs .damperFrameStart s fun t =>
        let l := max (s.rd pgPKG PKG_DAMP_CTL) (s.rd pgTHERM THERM_TSTAT_TLEVEL)
        (l < 8 → t.rd pgPKG PKG_DAMP_STAT_LEVEL = l ∧ t.rd pgPKG PKG_DAMP_STAT_PEAK = max l (s.rd pgPKG PKG_DAMP_STAT_PEAK)) ∧
        t.dev.shut = (s.dev.shut || l != 0) ∧
        t.rd pgPKG PKG_DAMP_CLOSED = min (s.rd pgPKG PKG_DAMP_CLOSED + if l = 0 then 0 else 1) PKG_DAMP_CLOSED.max ∧
        t.rd pgSPLL SPLL_HOLD_US = min (s.rd pgSPLL SPLL_HOLD_US + s.rd pgSPLL SPLL_STAT_HOLDOVER) SPLL_HOLD_US.max ∧
        t.rd pgTWIN TWIN_HLTH_AGE = min (s.rd pgTWIN TWIN_HLTH_AGE + 1) TWIN_HLTH_AGE.max ∧
        (∀ i : Fin 8, t.rd pgPKG PKG_CHOP_ONT i = min (s.rd pgPKG PKG_CHOP_ONT i + if s.on pgPKG PKG_CHOP_STAT_ON i then 1 else 0) PKG_CHOP_ONT.max) ∧
        Changes [.shut] ([pgPKG + PKG_DAMP_STAT_LEVEL.at 0, pgPKG + PKG_DAMP_CLOSED.at 0, pgSPLL + SPLL_HOLD_US.at 0, pgTWIN + TWIN_HLTH_AGE.at 0] ++
          (List.range 8).map fun i => pgPKG + PKG_CHOP_ONT.at i) s t) ∧
      Runs .damperGateOpen s (fun t => t = s.dev.held.foldl State.pass { s with dev := { s.dev with shut := false, held := [] } }) ∧
      (∀ c a wr, hostAt c = some (a, wr) → (c = .pkgReset → s.dev.kin.thermalOff = false ∧ s.dev.kin.porst = false) →
        (isSwap c = false → s.dev.shut = true → Runs c s fun t => t.dev.held = s.dev.held ++ [c] ∧ Changes [.held] [] s t) ∧
        (isSwap c = false → exec c s = .next (s.pass c)) ∧
        (∀ f busy, isSwap c = true ∨ s.dev.shut = false → s.fenceAt a wr = some (f, busy) → Runs c s fun t =>
          FenceAnswered f busy wr a (if wr then [] else [.out]) s t ∧ (wr = false → LastOut (.hostRead [0] true) s t))))

/-- R384, R111: a report on its way is counted by its collector, sets its child's bit and its class flag, and goes on to the
next collector unless the class is masked there; a fenced collector discards it, counted. The package collector also posts a FAULT
event (R440) and hands the report to the Hearth. R386, R390, R402: a FATAL line and a FATAL report that reach the Hearth start the
fixed reaction of level 4, which is held once; every report that reaches it writes an Ash record with its class, cause and source. -/
def Obligations.FlueCarriesReports : Prop :=
  (∀ (s : State) (c : Coll) (child : Fin 32) (r : Report), ⟨c, child.val, r⟩ ∈ s.dev.flue → c ≠ .hearth →
      let b := collAt c
      let flag (k : FaultClass) := match k with | .ce => COL_FSUM_CE | .uc => COL_FSUM_UC | .fatal => COL_FSUM_FATAL
      let cnt (k : FaultClass) := match k with | .ce => COL_CE_CNT | .uc => COL_UC_CNT | .fatal => COL_FATAL_CNT
      let masked : Bool := match r.cls with
        | .ce => s.work.on b COL_FMASK_CE_MASK | .uc => s.work.on b COL_FMASK_UC_MASK | .fatal => false
      let counted (t : State) : Prop := t.rd b (flag r.cls) = 1 ∧ t.rd b (cnt r.cls) = min (s.rd b (cnt r.cls) + 1) (cnt r.cls).max ∧
        (t.rd b COL_FSRC).testBit child = true ∧
        (s.rd b COL_FSUM_CE = 0 → s.rd b COL_FSUM_UC = 0 → s.rd b COL_FSUM_FATAL = 0 → t.rd b COL_FSUM_FIRST = child.val)
      (s.work.collFenced c = false → c ≠ .package → Runs (.flueReportArrive c child r) s fun t => counted t ∧
        t.dev.flue = s.dev.flue.erase ⟨c, child.val, r⟩ ++ (if masked then [] else
          match collParent c with | some (p, i) => [⟨p, i, r⟩] | none => []) ∧
        Changes [.flue, .hearth] [b + COL_FSUM_CE.at 0, b + COL_FSRC.at 0, b + (cnt r.cls).at 0] s t) ∧
      (s.work.collFenced c = false → c = .package → Runs (.flueReportArrive c child r) s fun t => counted t ∧ TimeKept s t ∧
        t.dev.flue = s.dev.flue.erase ⟨c, child.val, r⟩ ++ (if masked then [] else [⟨.hearth, child.val, r⟩]) ∧
        ∃ l, t.dev.events = s.dev.events ++
          ⟨1, r.page, [w32 (classCode r.cls * 2 ^ 29 + r.bit * 2 ^ 24 + srcLevel r.page * 2 ^ 21)]⟩ :: l) ∧
      (s.work.collFenced c = true → Runs (.flueReportArrive c child r) s fun t =>
        t.rd pgPKG PKG_DISC_COUNT = min (s.rd pgPKG PKG_DISC_COUNT + 1) PKG_DISC_COUNT.max ∧
        t.dev.flue = s.dev.flue.erase ⟨c, child.val, r⟩ ∧ Changes [.flue] [pgPKG + PKG_DISC_COUNT.at 0] s t)) ∧
  (∀ (s : State) (r : Report),
      (r ∈ s.dev.lines → s.notHeld 1 → Runs (.fatalLine r) s fun t =>
        Reacted ⟨0, 0, 0xFF, 4, 0xF, 1⟩ s t ∧ t.dev.lines = s.dev.lines.erase r ∧ TimeKept s t) ∧
      (r ∈ s.dev.lines → ¬ s.notHeld 1 → Runs (.fatalLine r) s fun t =>
        t.dev.lines = s.dev.lines.erase r ∧ Changes [.lines] [] s t) ∧
      (∀ child : Fin 32, ⟨.hearth, child.val, r⟩ ∈ s.dev.flue → s.rd pgHRT HRT_ASH_SEQ + 1 < 2 ^ 32 →
        let a := pgHRT2 + 0x100 + 24 * (s.rd pgHRT HRT_ASH_SEQ % 64)
        let recorded (t : State) : Prop := (t.word a).toNat = s.rd pgHRT HRT_ASH_SEQ + 1 ∧ t.word (a + 8) = w32 s.tally.a.ns ∧
          (t.word (a + 12)).toNat / 2 ^ 24 % 8 = classCode r.cls ∧ (t.word (a + 12)).toNat / 2 ^ 16 % 32 = r.bit % 32 ∧
          (t.word (a + 12)).toNat % 2 ^ 13 = r.page % 2 ^ 13 ∧ t.word (a + 20) = r.info
        (r.cls ≠ .fatal → Runs (.flueReportArrive .hearth child r) s fun t => recorded t ∧
          t.rd pgHRT HRT_ASH_SEQ = s.rd pgHRT HRT_ASH_SEQ + 1 ∧ t.dev.hearth.held = s.dev.hearth.held ∧ TimeKept s t) ∧
        (r.cls = .fatal → s.notHeld 1 → Runs (.flueReportArrive .hearth child r) s fun t => recorded t ∧
          t.dev.hearth.held = s.dev.hearth.held ++ [⟨0, 0, 0xFF, 4, 0xF, 1⟩] ∧ t.rd pgHRT HDR_FLT_FATAL = 1 ∧
          t.rd pgHRT HRT_HSTAT_SAFE_OUT = 1 ∧ t.rd pgHRT HRT_HSTAT_ALIVE_RUN = 0 ∧ TimeKept s t)))

/-- R389 to R394, R410: a table entry whose condition qualifies becomes active and starts its reaction, and the clusters of
the regions it covers take the forced safe action with cause 9; when the condition ceases the entry is no longer active, and
what is held stays; REL releases what no longer stands, keeps every reaction of level 4, and with its PLEA bit releases PLEA below
level 4; PLEA of a level and mask not below those in force starts its reaction, and another is ignored with BADVAL. R390, R396, R397,
R401: a difference between the Hearth's copies and a rail other than VEMB out of range start the fixed reaction of level 4 with HRT
FATAL 17 and 16; VEMB one of level 1 with CE 16; equal copies change nothing, or make an armed injection. The rail's verdict reads
out of range until it returns. ALIVE toggles while it runs. -/
def Obligations.HearthReactsAndChecks : Prop :=
  (∀ s : State,
      (∀ e : Fin 32, s.work.condHolds e = true → s.work.rtAct e = false → (∀ h ∈ s.dev.hearth.held, h.kind = 0 → h.entry ≠ e.val) →
        let h : Held := ⟨s.rd pgHRT1 HRT1_RT_A_COND e, s.rd pgHRT1 HRT1_RT_A_IDX e, e.val, s.rd pgHRT1 HRT1_RT_A_LEVEL e,
          s.rd pgHRT1 HRT1_RT_A_RGMASK e, 0⟩
        Runs (.hearthConditionQualify e) s fun t =>
          Reacted h s t ∧ (t.rd pgHRT1 HRT1_RT_ACT).testBit e = true ∧
          (∀ c : Fin 48, h.covers.testBit (c / 12) = true → s.serving c →
            (t.work.cl c).safePend = true ∧ t.rd (pgCLU c) CLU_CSTAT_LOCK_CAUSE = 9) ∧ TimeKept s t) ∧
      (∀ e : Fin 32, s.work.rtAct e = true → Runs (.hearthConditionCease e) s fun t =>
        (t.rd pgHRT1 HRT1_RT_ACT).testBit e = false ∧ t.dev.hearth.held = s.dev.hearth.held ∧ TimeKept s t) ∧
      (s.reaches (pgHRT + HRT_REL_GO.at 0) →
        (∀ plea, (plea = true → s.rd pgHRT HRT_PLEA_LEVEL ≠ 4) → Runs (.hearthRel plea) s fun t =>
          (plea = true → t.rd pgHRT HRT_PLEA_LEVEL = 0 ∧ t.rd pgHRT HRT_PLEA_RGMASK = 0) ∧
          (plea = false → t.rd pgHRT HRT_PLEA_LEVEL = s.rd pgHRT HRT_PLEA_LEVEL ∧ t.rd pgHRT HRT_PLEA_RGMASK = s.rd pgHRT HRT_PLEA_RGMASK) ∧
          (∀ h, h ∈ t.dev.hearth.held ↔ h ∈ s.dev.hearth.held ∧ if h.kind = 4 then plea = false else s.work.heldStands h = true) ∧
          (∀ h ∈ s.dev.hearth.held, 4 ≤ h.level → h.kind ≠ 4 → h ∈ t.dev.hearth.held) ∧
          (t.dev.hearth.held ≠ [] → t.rd pgHRT HDR_STAT_BADVAL = 1) ∧ TimeKept s t) ∧
        (s.rd pgHRT HRT_PLEA_LEVEL = 4 → Runs (.hearthRel true) s fun t =>
          t.rd pgHRT HDR_STAT_BADVAL = 1 ∧ OnlyDwords [pgHRT + HDR_STAT_BADVAL.at 0] s t)) ∧
      (s.reaches (pgHRT + HRT_PLEA_LEVEL.at 0) → ∀ (level : BitVec 3) (mask : BitVec 4),
        (¬ s.on pgHRT HDR_LOCK_LOCKED → s.notHeld 4 → level.toNat ≤ 4 → s.rd pgHRT HRT_PLEA_LEVEL ≤ level.toNat →
          s.rd pgHRT HRT_PLEA_RGMASK &&& mask.toNat = s.rd pgHRT HRT_PLEA_RGMASK → Runs (.hearthPlea level mask) s fun t =>
            t.rd pgHRT HRT_PLEA_LEVEL = level.toNat ∧ t.rd pgHRT HRT_PLEA_RGMASK = mask.toNat ∧
            Reacted ⟨0, 0, 0xFF, level.toNat, mask.toNat, 4⟩ s t ∧ TimeKept s t) ∧
        (¬ s.on pgHRT HDR_LOCK_LOCKED → 4 < level.toNat ∨ level.toNat < s.rd pgHRT HRT_PLEA_LEVEL ∨
          s.rd pgHRT HRT_PLEA_RGMASK &&& mask.toNat ≠ s.rd pgHRT HRT_PLEA_RGMASK → Runs (.hearthPlea level mask) s fun t =>
            t.rd pgHRT HDR_STAT_BADVAL = 1 ∧ OnlyDwords [pgHRT + HDR_STAT_BADVAL.at 0] s t) ∧
        (s.on pgHRT HDR_LOCK_LOCKED → Runs (.hearthPlea level mask) s fun t =>
            t.rd pgHRT HDR_STAT_LOCK_WR = 1 ∧ OnlyDwords [pgHRT + HDR_STAT_LOCK_WR.at 0] s t))) ∧
  (∀ s : State,
      (s.on pgHRT HDR_INJ_ARMED → s.rd pgHRT HDR_INJ_CHK = 0 → Runs (.hearthCopyMismatch 0) s fun t =>
        t.rd pgHRT HDR_INJ_HIT = 1 ∧ t.rd pgHRT HDR_INJ_ARMED = 0 ∧ OnlyDwords [pgHRT + HDR_INJ_ARMED.at 0] s t) ∧
      (s.on pgHRT HRT_HSTAT_ALIVE_RUN → Runs .aliveToggle s fun t =>
        t.dev.hearth.alive = !s.dev.hearth.alive ∧ LastOut (.pin "ALIVE" 0 (!s.dev.hearth.alive)) s t ∧ Changes [.hearth, .out] [] s t) ∧
      (¬ s.on pgHRT HRT_HSTAT_ALIVE_RUN → Runs .aliveToggle s fun t => t = s)) ∧
  (∀ s : State, ¬ s.on pgHRT HDR_INJ_ARMED →
      (∀ diff : BitVec 32, diff ≠ 0 → s.notHeld 1 → Runs (.hearthCopyMismatch diff) s fun t =>
        t.flagged pgHRT .fatal 17 ∧ Reacted ⟨0, 0, 0xFF, 4, 0xF, 1⟩ s t ∧ TimeKept s t) ∧
      Runs (.hearthCopyMismatch 0) s (fun t => t = s) ∧
      (∀ rail : Fin 8, rail ≠ 7 → (s.rd pgHRT HRT_SUPSTAT_NOW).testBit rail = false → s.notHeld 1 → Runs (.supplyOutOfRange rail) s fun t =>
        (t.rd pgHRT HRT_SUPSTAT_NOW).testBit rail = true ∧ (t.rd pgHRT HRT_SUPSTAT_SEEN).testBit rail = true ∧
        t.flagged pgHRT .fatal 16 ∧ Reacted ⟨0, 0, 0xFF, 4, 0xF, 1⟩ s t ∧ TimeKept s t) ∧
      ((s.rd pgHRT HRT_SUPSTAT_NOW).testBit 7 = false → Runs (.supplyOutOfRange 7) s fun t =>
        (t.rd pgHRT HRT_SUPSTAT_NOW).testBit 7 = true ∧ t.flagged pgHRT .ce 16 ∧ Reacted ⟨0, 0, 0xFF, 1, 0, 5⟩ s t ∧ TimeKept s t) ∧
      (∀ rail : Fin 8, (s.rd pgHRT HRT_SUPSTAT_NOW).testBit rail = true → Runs (.supplyReturn rail) s fun t =>
        (t.rd pgHRT HRT_SUPSTAT_NOW).testBit rail = false ∧ t.rd pgHRT HRT_SUPSTAT_SEEN = s.rd pgHRT HRT_SUPSTAT_SEEN ∧
        t.dev.hearth.held = s.dev.hearth.held ∧ TimeKept s t))

/-- R388, R411: a corrected error of a scrubbed word raises a CE, an uncorrectable one a UC, on the page of its memory, and
ECC_LAST records it and its counter counts; an uncorrectable one marks a word of hub SRAM or DRAM bad, and of a region's SRAM puts its
serving clusters into the forced safe action; of the Hearth SRAM it starts the fixed reaction of level 4 (R390). A clean word changes
nothing. -/
def Obligations.MemoryErrorsRecorded : Prop :=
  ∀ (s : State) (word : BitVec 24),
    (∀ m : Mem, m ≠ .hearth →
      let pg := match m with | .region n => pgRG n | _ => pgPKG
      let code := match m with | .region n => n.val | .hub => 4 | .hearth => 5 | .dram => 6
      let ce := match m with | .region _ => 17 | .hub => 19 | _ => 21
      let uc := match m with | .region _ => 18 | .hub => 20 | _ => 22
      let recorded (ue : Nat) (cnt : Field) (t : State) : Prop :=
        t.rd pgPKG PKG_ECC_LAST_MEM = code ∧ t.rd pgPKG PKG_ECC_LAST_UE = ue ∧ t.rd pgPKG PKG_ECC_LAST_WORD = word.toNat ∧
        t.rd pgPKG cnt = min (s.rd pgPKG cnt + 1) cnt.max
      Runs (.scrubAccess m word .ok) s (fun t => t = s) ∧
      Runs (.scrubAccess m word .single) s (fun t => t.flagged pg .ce ce ∧ recorded 0 PKG_ECC_CE_COUNT t ∧
        Changes [.flue, .out] [pg + HDR_FLT_CAUSE.at 0, pgPKG + PKG_ECC_LAST_MEM.at 0, pgPKG + PKG_ECC_CE_COUNT.at 0] s t) ∧
      Runs (.scrubAccess m word .double) s (fun t => t.flagged pg .uc uc ∧ recorded 1 PKG_ECC_UE_COUNT t ∧
        (∀ n, m = .region n → (∀ k : Fin 48, k.val / 12 = n.val → s.serving k →
          (t.work.cl k).safePend = true ∧ t.rd (pgCLU k) CLU_CSTAT_LOCK_CAUSE = 5) ∧ TimeKept s t) ∧
        ((∀ n, m ≠ .region n) → (code, word.toNat) ∈ t.dev.bad ∧
          Changes [.flue, .out, .bad] [pg + HDR_FLT_CAUSE.at 0, pgPKG + PKG_ECC_LAST_MEM.at 0, pgPKG + PKG_ECC_UE_COUNT.at 0] s t))) ∧
    (¬ s.on pgHRT HDR_INJ_ARMED →
      Runs (.scrubAccess .hearth word .ok) s (fun t => t = s) ∧
      Runs (.scrubAccess .hearth word .single) s (fun t => t.flagged pgHRT .ce 21 ∧ t.rd pgPKG PKG_ECC_LAST_MEM = 5 ∧
        t.rd pgPKG PKG_ECC_CE_COUNT = min (s.rd pgPKG PKG_ECC_CE_COUNT + 1) PKG_ECC_CE_COUNT.max ∧
        Changes [.flue, .out] [pgHRT + HDR_FLT_CAUSE.at 0, pgPKG + PKG_ECC_LAST_MEM.at 0, pgPKG + PKG_ECC_CE_COUNT.at 0] s t) ∧
      (s.notHeld 1 → Runs (.scrubAccess .hearth word .double) s fun t => t.flagged pgHRT .fatal 17 ∧
        t.rd pgPKG PKG_ECC_UE_COUNT = min (s.rd pgPKG PKG_ECC_UE_COUNT + 1) PKG_ECC_UE_COUNT.max ∧
        Reacted ⟨0, 0, 0xFF, 4, 0xF, 1⟩ s t ∧ TimeKept s t))

/-- R237 to R239, R398: a freeze request sets the freeze point, the first Tally tick 2.0 µs or more ahead, and voids every word due
at or after it; at the freeze point FROZEN is set, its time is shown, every unit holds and the halt guard runs; without a JTAG halt a
release clears FROZEN, sets RESUMED, stops the guard and lets every held unit resume; under one it leaves the part frozen. At its
expiry the guard reacts at level 2 for all regions with HRT UC 19 (R390) unless the stage is de-energised. -/
def Obligations.FreezeHoldsAndReleases : Prop :=
  ∀ s : State,
    (¬ s.on pgPKG HDR_LOCK_LOCKED → s.reaches (pgPKG + PKG_FRZ_CTL.at 0) →
      (¬ s.on pgPKG PKG_FRZ_STAT_FROZEN → s.dev.hearth.frz = none → 0 < s.tally.inc → Runs .freezeRequest s fun t =>
        t.rd pgPKG PKG_FRZ_CTL = 1 ∧ (∃ (f : Int) (k : Nat), t.dev.hearth.frz = some f ∧ f = t16 (timeAdd s.tally.a (k * s.tally.inc)) ∧
          2000 * 2 ^ 32 ≤ k * s.tally.inc ∧ k * s.tally.inc < 2000 * 2 ^ 32 + s.tally.inc ∧
          ∀ (c : Fin 48) (x : Timed), x ∈ (t.work.ln c).timed → x.voided f = false) ∧
        Changes [.hearth, .lane, .unit] [pgPKG + PKG_FRZ_CTL.at 0] s t) ∧
      (s.on pgPKG PKG_FRZ_STAT_FROZEN ∨ s.dev.hearth.frz ≠ none → Runs .freezeRequest s fun t =>
        t.rd pgPKG PKG_FRZ_CTL = 1 ∧ OnlyDwords [pgPKG + PKG_FRZ_CTL.at 0] s t) ∧
      (s.on pgPKG PKG_FRZ_STAT_FROZEN → ¬ s.on pgPKG PKG_FRZ_STAT_JTAG → Runs .freezeRelease s fun t =>
        t.rd pgPKG PKG_FRZ_CTL = 0 ∧ t.rd pgPKG PKG_FRZ_STAT_FROZEN = 0 ∧ t.rd pgPKG PKG_FRZ_STAT_RESUMED = 1 ∧
        t.rd pgHRT HRT_HSTAT_HG_RUN = 0 ∧
        (∀ u : Fin 192, (t.work.un u).resume = if (s.work.un u).frozen then some s.tally.elapsed else none) ∧
        Changes [.hearth, .unit] [pgPKG + PKG_FRZ_CTL.at 0, pgPKG + PKG_FRZ_STAT_FROZEN.at 0, pgHRT + HRT_HSTAT_HG_RUN.at 0] s t) ∧
      (s.on pgPKG PKG_FRZ_STAT_JTAG ∨ ¬ s.on pgPKG PKG_FRZ_STAT_FROZEN → Runs .freezeRelease s fun t =>
        t.rd pgPKG PKG_FRZ_CTL = 0 ∧ OnlyDwords [pgPKG + PKG_FRZ_CTL.at 0] s t)) ∧
    (∀ f, s.dev.hearth.frz = some f → (s.on pgPKG PKG_FRZ_CTL ∨ s.on pgPKG PKG_FRZ_STAT_JTAG) → s.rd pgHRT HRT_HGUARD_TIME ≠ 0 →
      Runs .freezePoint s fun t =>
        t.rd pgPKG PKG_FRZ_STAT_FROZEN = 1 ∧ t.dev.hearth.frz = none ∧ t.rd pgPKG PKG_FRZ_T_NS = (timeOf16 f).ns ∧
        t.rd pgPKG PKG_FRZ_T_S = (timeOf16 f).s % 2 ^ 32 ∧ t.rd pgHRT HRT_HSTAT_HG_RUN = 1 ∧
        (∀ u : Fin 192, (t.work.un u).frozen = true ∧ t.rd (pgUNIT u) UNIT_ESTAT_FROZEN = 1) ∧
        KindsKeptBut [.hearth, .lane, .unit] s t) ∧
    (s.dev.hearth.frz = none → Runs .freezePoint s fun t => t = s) ∧
    (s.on pgHRT HRT_HSTAT_HG_RUN → s.dev.hearth.guardPast = false → s.on pgPKG PKG_FRZ_STAT_FROZEN → ¬ s.on pgHRT HRT_HSTAT_DEEN →
      s.notHeld 3 → Runs .haltGuardExpiry s fun t => t.flagged pgHRT .uc 19 ∧
        t.dev.hearth.guardPast = true ∧ Reacted ⟨0, 0, 0xFF, 2, 0xF, 3⟩ s t ∧ TimeKept s t) ∧
    (s.on pgHRT HRT_HSTAT_HG_RUN → s.dev.hearth.guardPast = false → s.on pgHRT HRT_HSTAT_DEEN → Runs .haltGuardExpiry s fun t =>
        t.dev.hearth.guardPast = true ∧ Changes [.hearth] [] s t) ∧
    (s.on pgHRT HRT_HSTAT_HG_RUN → (s.work.ad (s.rd pgHRT HRT_HGUARD_AIN / 4)).run = none →
      ¬ s.on (pgAD (s.rd pgHRT HRT_HGUARD_AIN / 4)) AD_ASTAT_CAL_RUN → Runs .haltGuardSample s fun t =>
        (t.work.ad (s.rd pgHRT HRT_HGUARD_AIN / 4)).run = some (⟨s.rd pgHRT HRT_HGUARD_AIN % 4, .hearth, true⟩, s.tally.a) ∧
        Changes [.adc] [pgAD (s.rd pgHRT HRT_HGUARD_AIN / 4) + AD_ASTAT_BUSY.at 0] s t)

/-- R404, R405, R409, R526, R527: SUPD_CTL starts a sealed update of an image block, ignored with BADVAL while one runs; on a locked
page IMG keeps its value with LOCK_WR (R64). At its end the first failing check gives ERR_CAUSE and the table stands; an image that
passes gives every SEAL field its value, TABLE_CRC follows, SUPD_COUNT counts and an Ash record is written; the words of the image
marked bad are reported on this use (R388). With no update under way nothing ends. -/
def Obligations.SealedUpdateChecked : Prop :=
  ∀ s : State,
    (s.reaches (pgHRT + HRT_SUPD_CTL_GO.at 0) → ∀ img : BitVec 8,
      (¬ s.on pgHRT HRT_SUPD_STAT_BUSY → ¬ s.on pgHRT HDR_LOCK_LOCKED → Runs (.sealedUpdateGo img) s fun t =>
        t.rd pgHRT HRT_SUPD_CTL_IMG = img.toNat ∧ t.rd pgHRT HRT_SUPD_STAT_BUSY = 1 ∧
        OnlyDwords [pgHRT + HRT_SUPD_CTL_IMG.at 0, pgHRT + HRT_SUPD_STAT_BUSY.at 0] s t) ∧
      (¬ s.on pgHRT HRT_SUPD_STAT_BUSY → s.on pgHRT HDR_LOCK_LOCKED → Runs (.sealedUpdateGo img) s fun t =>
        t.rd pgHRT HDR_STAT_LOCK_WR = 1 ∧ t.rd pgHRT HRT_SUPD_STAT_BUSY = 1 ∧
        OnlyDwords [pgHRT + HDR_STAT_LOCK_WR.at 0, pgHRT + HRT_SUPD_STAT_BUSY.at 0] s t) ∧
      (s.on pgHRT HRT_SUPD_STAT_BUSY → Runs (.sealedUpdateGo img) s fun t =>
        t.rd pgHRT HDR_STAT_BADVAL = 1 ∧ OnlyDwords [pgHRT + HDR_STAT_BADVAL.at 0] s t)) ∧
    (let img := s.work.sealImage (s.rd pgHRT HRT_SUPD_CTL_IMG)
     let sound : Prop := ∀ e ∈ s.dev.bad, e.1 ≠ 6
     (s.on pgHRT HRT_SUPD_STAT_BUSY → ∀ cause, cause < 16 → s.work.supdFail img = some cause → Runs .sealedUpdateDone s fun t =>
        t.rd pgHRT HRT_SUPD_STAT_BUSY = 0 ∧ t.rd pgHRT HRT_SUPD_STAT_ERR = 1 ∧ t.rd pgHRT HRT_SUPD_STAT_ERR_CAUSE = cause ∧
        (∀ a, sealMask a ≠ 0 → t.word a = s.word a) ∧ (sound → OnlyDwords [pgHRT + HRT_SUPD_STAT_BUSY.at 0] s t)) ∧
     (s.on pgHRT HRT_SUPD_STAT_BUSY → s.work.supdFail img = none → Runs .sealedUpdateDone s fun t =>
        t.rd pgHRT HRT_SUPD_STAT_BUSY = 0 ∧ t.rd pgHRT HRT_SUPD_STAT_DONE = 1 ∧
        t.rd pgHRT HRT_SUPD_COUNT = min (s.rd pgHRT HRT_SUPD_COUNT + 1) HRT_SUPD_COUNT.max ∧
        (∀ e ∈ (sealRecords img).1, t.word e.1 &&& sealMask e.1 = e.2) ∧
        t.rd pgHRT HRT_TABLE_CRC = t.work.tableCrc ∧ t.dev.hearth.held = s.dev.hearth.held ∧
        t.rd pgHRT HRT_ASH_SEQ = (if s.rd pgHRT HRT_ASH_SEQ + 1 = 2 ^ 32 then 1 else s.rd pgHRT HRT_ASH_SEQ + 1) ∧ TimeKept s t) ∧
     (∀ e ∈ s.dev.bad, e.1 = 6 → blockAt (s.rd pgHRT HRT_SUPD_CTL_IMG) < 8 * e.2 + 8 →
       8 * e.2 < blockAt (s.rd pgHRT HRT_SUPD_CTL_IMG) + img.length → s.on pgHRT HRT_SUPD_STAT_BUSY → Runs .sealedUpdateDone s fun t =>
        t.flagged pgPKG .uc 22 ∧ TimeKept s t) ∧
     (¬ s.on pgHRT HRT_SUPD_STAT_BUSY → Runs .sealedUpdateDone s fun t => t = s))

/-! ### ADCs, comparators and protection (R320 to R375) -/

/-- R337 to R339, R261: a normal trigger runs at once on an idle converter, waits behind others up to four, and beyond is lost,
flagged and counted. An urgent request runs at once on an idle converter, and waits behind a running urgent conversion; it aborts a
running normal conversion, which waits to restart, and a running calibration, which is pending again; one urgent host request waits
at most. A calibration runs when nothing else does, and waits for a running conversion. An enabled plan entry of a region that runs
cycles or is about to triggers its converter for the cycle of its boundary, a negative offset for the coming one; no other entry
does. R335, R336: a conversion's code is V × 4,096 / 2.500 V rounded to the nearest and held to 12 bits, ORNG stands above 2.550 V and
URNG below -0.050 V. R341, R342, R398: a completed conversion counts; a host conversion lands in DATA, and a result not yet read is
overwritten with OVR; the halt guard's lands in HG_LAST, and DEEN says whether it lies below VDEEN and in range. A read of DATA
answers it and releases it with its time. R339, R340: a conversion that does not end raises AD UC 17; a calibration shows its result,
and one at its limit raises AD UC 16. -/
def Obligations.AdcConverts : Prop :=
  (∀ (s : State) (a : Fin 16),
      let k := s.work.ad a
      let pg := pgAD a
      let waitless : Prop := k.uqHearth = none ∧ k.uqHost = none ∧ k.aborted = none ∧ k.nq = [] ∧ ¬ s.on pg AD_ASTAT_CAL_PEND
      let idle : Prop := k.run = none ∧ waitless ∧ ¬ s.on pg AD_ASTAT_CAL_RUN
      (∀ ch : Fin 4, s.reaches (pg + AD_NCMD_GO.at 0) →
        (idle → Runs (.adcNcmd a ch) s fun t =>
          (t.work.ad a).run = some (⟨ch, .host, false⟩, s.tally.a) ∧ (t.work.ad a).nq = [] ∧ t.rd pg AD_ASTAT_BUSY = 1 ∧
          Changes [.adc] [pg + AD_ASTAT_BUSY.at 0] s t) ∧
        (k.run.isSome ∨ s.on pg AD_ASTAT_CAL_RUN → k.nq.length < 4 → Runs (.adcNcmd a ch) s fun t =>
          (t.work.ad a).run = k.run ∧ (t.work.ad a).nq = k.nq ++ [⟨ch, .host, false⟩] ∧ t.rd pg AD_ASTAT_NQ = k.nq.length + 1 ∧
          Changes [.adc] [pg + AD_ASTAT_BUSY.at 0] s t) ∧
        (4 ≤ k.nq.length → Runs (.adcNcmd a ch) s fun t =>
          t.rd pg AD_ASTAT_TRIG_OVR = 1 ∧ t.rd pg AD_TRIG_OVR_COUNT = min (s.rd pg AD_TRIG_OVR_COUNT + 1) AD_TRIG_OVR_COUNT.max ∧
          OnlyDwords [pg + AD_ASTAT_BUSY.at 0, pg + AD_TRIG_OVR_COUNT.at 0] s t)) ∧
      (∀ ch : Fin 4, s.reaches (pg + AD_UCMD_GO.at 0) →
        (idle → Runs (.adcUcmd a ch) s fun t =>
          (t.work.ad a).run = some (⟨ch, .host, true⟩, s.tally.a) ∧ t.rd pg AD_ASTAT_BUSY = 1 ∧ Changes [.adc] [pg + AD_ASTAT_BUSY.at 0] s t) ∧
        (∀ (r : AdcReq) (x : Time), k.run = some (r, x) → k.uqHost = none → ¬ s.on pg AD_ASTAT_CAL_RUN →
          (r.urgent = false → k.uqHearth = none → Runs (.adcUcmd a ch) s fun t =>
            (t.work.ad a).run = some (⟨ch, .host, true⟩, s.tally.a) ∧ (t.work.ad a).aborted = some r ∧
            t.rd pg AD_ABORT_COUNT = min (s.rd pg AD_ABORT_COUNT + 1) AD_ABORT_COUNT.max ∧
            Changes [.adc] [pg + AD_ASTAT_BUSY.at 0, pg + AD_ABORT_COUNT.at 0] s t) ∧
          (r.urgent = true → Runs (.adcUcmd a ch) s fun t =>
            (t.work.ad a).run = k.run ∧ (t.work.ad a).uqHost = some ch.val ∧ Changes [.adc] [pg + AD_ASTAT_BUSY.at 0] s t)) ∧
        (s.on pg AD_ASTAT_CAL_RUN → k.run = none → k.uqHost = none → k.uqHearth = none → Runs (.adcUcmd a ch) s fun t =>
          (t.work.ad a).run = some (⟨ch, .host, true⟩, s.tally.a) ∧ t.rd pg AD_ASTAT_CAL_RUN = 0 ∧ t.rd pg AD_ASTAT_CAL_PEND = 1 ∧
          Changes [.adc] [pg + AD_ASTAT_BUSY.at 0] s t) ∧
        (k.uqHost.isSome → Runs (.adcUcmd a ch) s fun t => t.rd pg AD_ASTAT_UQ_FULL = 1 ∧ OnlyDwords [pg + AD_ASTAT_BUSY.at 0] s t)) ∧
      (s.reaches (pg + AD_ACTL.at 0) →
        (idle → Runs (.adcCal a) s fun t =>
          t.rd pg AD_ASTAT_CAL_RUN = 1 ∧ t.rd pg AD_ASTAT_CAL_PEND = 0 ∧ Changes [.adc] [pg + AD_ASTAT_BUSY.at 0] s t) ∧
        (k.run.isSome → ¬ s.on pg AD_ASTAT_CAL_PEND → ¬ s.on pg AD_ASTAT_CAL_RUN → Runs (.adcCal a) s fun t =>
          t.rd pg AD_ASTAT_CAL_PEND = 1 ∧ t.rd pg AD_ASTAT_CAL_RUN = 0 ∧ (t.work.ad a).run = k.run ∧
          Changes [.adc] [pg + AD_ASTAT_BUSY.at 0] s t) ∧
        (s.on pg AD_ASTAT_CAL_PEND ∨ s.on pg AD_ASTAT_CAL_RUN → Runs (.adcCal a) s fun t => t = s)) ∧
      (∀ (n : Fin 4) (e : Fin 64), e.val / 4 = a →
        let r := s.region n
        let b := if toSigned 20 (s.rd (pgRG n) RG_APLAN_OFS e) < 0 then r.nextB.getD r.t0 else r.t0
        let q : AdcReq := ⟨e % 4, .plan n e b, false⟩
        (s.on (pgRG n) RG_APLAN_EN e → r.run = true ∨ r.startPend = true → (s.rd pgPKG PKG_FENCE_STAT).testBit n = false →
          (idle → Runs (.adcPlanTrigger n e) s fun t =>
            (t.work.ad a).run = some (q, s.tally.a) ∧ Changes [.adc] [pg + AD_ASTAT_BUSY.at 0] s t) ∧
          (k.run.isSome ∨ s.on pg AD_ASTAT_CAL_RUN → k.nq.length < 4 → Runs (.adcPlanTrigger n e) s fun t =>
            (t.work.ad a).nq = k.nq ++ [q] ∧ Changes [.adc] [pg + AD_ASTAT_BUSY.at 0] s t) ∧
          (4 ≤ k.nq.length → Runs (.adcPlanTrigger n e) s fun t =>
            t.rd pg AD_ASTAT_TRIG_OVR = 1 ∧ OnlyDwords [pg + AD_ASTAT_BUSY.at 0, pg + AD_TRIG_OVR_COUNT.at 0] s t)) ∧
        (¬ s.on (pgRG n) RG_APLAN_EN e ∨ (r.run = false ∧ r.startPend = false) ∨ (s.rd pgPKG PKG_FENCE_STAT).testBit n = true →
          Runs (.adcPlanTrigger n e) s fun t => t = s))) ∧
  (∀ (s : State) (a : Fin 16),
      let k := s.work.ad a
      let pg := pgAD a
      let waitless : Prop := k.uqHearth = none ∧ k.uqHost = none ∧ k.aborted = none ∧ k.nq = [] ∧ ¬ s.on pg AD_ASTAT_CAL_PEND
      (∀ (r : AdcReq) (x : Time) (v : Rat), k.run = some (r, x) →
        let orng := decide (2550 / 1000 < v)
        let urng := decide (v < -50 / 1000)
        let code := (min (max (v * 4096 / (25 / 10) + 1 / 2).floor 0) 4095).toNat
        let flags (t : State) : Prop :=
          t.rd pg AD_CONV_COUNT = min (s.rd pg AD_CONV_COUNT + 1) AD_CONV_COUNT.max ∧
          (orng || urng → t.rd pg AD_RANGE_COUNT = min (s.rd pg AD_RANGE_COUNT + 1) AD_RANGE_COUNT.max) ∧
          (waitless → (t.work.ad a).run = none ∧ t.rd pg AD_ASTAT_BUSY = 0)
        let conv := [pg + AD_CONV_COUNT.at 0, pg + AD_RANGE_COUNT.at 0, pg + AD_ASTAT_BUSY.at 0]
        (r.src = .host → r.ch < 4 → Runs (.adcConversionComplete a v) s fun t =>
          t.rd pg AD_DATA_FULL = 1 ∧ t.rd pg AD_DATA_CODE = code ∧ t.rd pg AD_DATA_CH = r.ch ∧ t.rd pg AD_DATA_URG = b2n r.urgent ∧
          t.rd pg AD_DATA_ORNG = b2n orng ∧ t.rd pg AD_DATA_URNG = b2n urng ∧ (t.work.ad a).dataTs = x.ns ∧ flags t ∧
          (s.on pg AD_DATA_FULL → t.rd pg AD_ASTAT_OVR = 1 ∧ t.rd pg AD_OVR_COUNT = min (s.rd pg AD_OVR_COUNT + 1) AD_OVR_COUNT.max) ∧
          Changes [.adc] (conv ++ [pg + AD_DATA_FULL.at 0, pg + AD_OVR_COUNT.at 0]) s t) ∧
        (r.src = .hearth → s.on pgHRT HRT_HSTAT_HG_RUN → s.work.hearth.guardPast = false → Runs (.adcConversionComplete a v) s fun t =>
          t.rd pgHRT HRT_HG_LAST_CODE = code ∧ t.rd pgHRT HRT_HG_LAST_ORNG = b2n orng ∧ t.rd pgHRT HRT_HG_LAST_URNG = b2n urng ∧
          t.rd pgHRT HRT_HSTAT_DEEN = b2n (decide (code < s.rd pgHRT HRT_HGUARD_VDEEN) && !orng && !urng) ∧ flags t ∧
          Changes [.adc] (conv ++ [pgHRT + HRT_HG_LAST_CODE.at 0, pgHRT + HRT_HSTAT_DEEN.at 0]) s t)) ∧
      (s.readable (pg + AD_DATA_CODE.at 0) →
        (s.on pg AD_DATA_FULL → Runs (.adcDataRead a) s fun t =>
          LastOut (.hostRead [s.word (pg + AD_DATA_FULL.at 0)] false) s t ∧ t.rd pg AD_DATA_FULL = 0 ∧
          t.rd pg AD_DATA_TS = k.dataTs % 2 ^ AD_DATA_TS.wid ∧ Changes [.out] [pg + AD_DATA_FULL.at 0, pg + AD_DATA_TS.at 0] s t) ∧
        (¬ s.on pg AD_DATA_FULL → Runs (.adcDataRead a) s fun t =>
          LastOut (.hostRead [s.word (pg + AD_DATA_FULL.at 0)] false) s t ∧ Changes [.out] [] s t)) ∧
      (k.run.isSome → Runs (.adcConvTimeout a) s fun t =>
        t.flagged pg .uc 17 ∧ (waitless → (t.work.ad a).run = none ∧ t.rd pg AD_ASTAT_BUSY = 0) ∧
        Changes [.adc, .flue, .out] [pg + HDR_FLT_CAUSE.at 0, pg + AD_ASTAT_BUSY.at 0] s t) ∧
      (s.on pg AD_ASTAT_CAL_RUN → ¬ s.on pg AD_ASTAT_CAL_PEND → ∀ (gain ofs : BitVec 12) (atLimit : Bool),
        Runs (.adcCalComplete a gain ofs atLimit) s fun t =>
          t.rd pg AD_CAL_RES_GAIN = gain.toNat ∧ t.rd pg AD_CAL_RES_OFS = ofs.toNat ∧ t.rd pg AD_ASTAT_CAL_DONE = 1 ∧
          t.rd pg AD_ASTAT_CAL_RUN = 0 ∧
          (atLimit = true → t.flagged pg .uc 16 ∧
            Changes [.adc, .flue, .out] [pg + AD_CAL_RES_GAIN.at 0, pg + AD_ASTAT_CAL_RUN.at 0, pg + HDR_FLT_CAUSE.at 0] s t) ∧
          (atLimit = false → Changes [.adc] [pg + AD_CAL_RES_GAIN.at 0, pg + AD_ASTAT_CAL_RUN.at 0] s t)))

/-- R343: comparator H of window comparator k reads 1 once its input stands above THI × 2.5 V / 1,024 by more than half the band of
HYST × 5 mV, and 0 once it stands below by as much; comparator L reads 1 below TLO and 0 above; inside its band an output keeps its
value. R345, R372: while a mode change settles, while a self-test runs and with the comparator disabled an input changes nothing; at
the end of a mode change the outputs follow the input. R346: a rise of an output sets its latch flag and counts. R371: a self-test
that nothing forbids runs, and another is refused. R372, R379: at its end each output that could be tested passes if it has decided
within twice the decision time, H only if it has also returned to 0 where L is tested; DEC shows the ticks, an output that cannot be
tested shows UNT and 0xFFFF, the test counts, and a failure counts too and raises WC UC 16. -/
def Obligations.ComparatorsDecide : Prop :=
  (∀ (s : State) (k : Fin 64) (v : Rat),
      let pg := pgWC k
      let band : Rat := (s.rd pg WC_WCFG_HYST : Rat) * (5 / 1000) / 2
      let hi : Rat := (s.rd pg WC_THR_THI : Rat) * (25 / 10) / 1024
      let lo : Rat := (s.rd pg WC_THR_TLO : Rat) * (25 / 10) / 1024
      let h := if hi + band < v then 1 else if v < hi - band then 0 else s.rd pg WC_WSTAT_H
      let l := if v < lo - band then 1 else if lo + band < v then 0 else s.rd pg WC_WSTAT_L
      let decided (t : State) : Prop :=
        t.rd pg WC_WSTAT_H = h ∧ t.rd pg WC_WSTAT_L = l ∧
        (hi + band < v ∨ v < hi - band → t.rd pg WC_WSTAT_UNDET_H = 0) ∧ (v < lo - band ∨ lo + band < v → t.rd pg WC_WSTAT_UNDET_L = 0) ∧
        (h = 1 → s.rd pg WC_WSTAT_H = 0 → t.rd pg WC_WSTAT_LAT_H = 1 ∧ t.rd pg WC_H_COUNT = min (s.rd pg WC_H_COUNT + 1) WC_H_COUNT.max) ∧
        (l = 1 → s.rd pg WC_WSTAT_L = 0 → t.rd pg WC_WSTAT_LAT_L = 1 ∧ t.rd pg WC_L_COUNT = min (s.rd pg WC_L_COUNT + 1) WC_L_COUNT.max) ∧
        (h ≤ s.rd pg WC_WSTAT_H → l ≤ s.rd pg WC_WSTAT_L → Changes [.ain] [pg + WC_WSTAT_H.at 0] s t) ∧
        t.dev.ain = s.dev.ain.setIfInBounds k v ∧ TimeKept s t
      let unmoved (c : Instr) : Prop := Runs c s fun t => t.dev.ain = s.dev.ain.setIfInBounds k v ∧ Changes [.ain] [] s t
      (s.on pg WC_WCFG_EN → ¬ s.on pg WC_WSTAT_SETTLING → ¬ s.on pg WC_WST_STAT_RUN → Runs (.wcCrossing k v) s decided) ∧
      (¬ s.on pg WC_WCFG_EN ∨ s.on pg WC_WSTAT_SETTLING ∨ s.on pg WC_WST_STAT_RUN → unmoved (.wcCrossing k v)) ∧
      (s.on pg WC_WSTAT_SETTLING → ¬ s.on pg WC_WST_STAT_RUN → Runs (.wcSettled k v) s fun t => t.rd pg WC_WSTAT_SETTLING = 0 ∧ decided t) ∧
      (s.on pg WC_WSTAT_SETTLING → s.on pg WC_WST_STAT_RUN → Runs (.wcSettled k v) s fun t =>
        t.rd pg WC_WSTAT_SETTLING = 0 ∧ Changes [.ain] [pg + WC_WSTAT_SETTLING.at 0] s t) ∧
      (¬ s.on pg WC_WSTAT_SETTLING → unmoved (.wcSettled k v))) ∧
  (∀ (s : State) (k : Fin 64),
      let pg := pgWC k
      (s.reaches (pg + WC_WST_CTL.at 0) →
        (s.work.wcTestRefused k = false → Runs (.wcSelftestGo k) s fun t => t.rd pg WC_WST_STAT_RUN = 1 ∧ OnlyDwords [pg + WC_WST_STAT_RUN.at 0] s t) ∧
        (s.work.wcTestRefused k = true → Runs (.wcSelftestGo k) s fun t =>
          t.rd pg WC_WST_STAT_REFUSED = 1 ∧ t.rd pg WC_WST_STAT_RUN = s.rd pg WC_WST_STAT_RUN ∧ OnlyDwords [pg + WC_WST_STAT_RUN.at 0] s t)) ∧
      (s.on pg WC_WST_STAT_RUN → ∀ (dh dl : Option (BitVec 16)) (ret : Bool) (v : Rat), Runs (.wcSelftestDone k dh dl ret v) s fun t =>
        let lim := 2 * decisionTicks (s.rd pg WC_WMODE)
        let ticks (d : Option (BitVec 16)) := (d.map BitVec.toNat).getD 0xFFFF
        let fast (d : Option (BitVec 16)) := d.isSome && decide (ticks d ≤ lim)
        let hu := s.work.wcUntestable k true
        let lu := s.work.wcUntestable k false
        let hp := !hu && fast dh && (lu || ret)
        let lp := !lu && fast dl
        let fail := (!hu && !hp) || (!lu && !lp)
        t.rd pg WC_WST_STAT_RUN = 0 ∧ t.rd pg WC_WST_STAT_DONE = 1 ∧
        t.rd pg WC_WST_STAT_H_PASS = b2n hp ∧ t.rd pg WC_WST_STAT_L_PASS = b2n lp ∧
        t.rd pg WC_WST_STAT_H_UNT = b2n hu ∧ t.rd pg WC_WST_STAT_L_UNT = b2n lu ∧
        t.rd pg WC_WST_DEC_DEC_H = (if hu then 0xFFFF else ticks dh) ∧ t.rd pg WC_WST_DEC_DEC_L = (if lu then 0xFFFF else ticks dl) ∧
        t.rd pg WC_WST_COUNT = min (s.rd pg WC_WST_COUNT + 1) WC_WST_COUNT.max ∧
        (fail = true → t.flagged pg .uc 16 ∧ t.rd pg WC_WST_FAIL = min (s.rd pg WC_WST_FAIL + 1) WC_WST_FAIL.max) ∧
        (s.work.wcVerdict k true v = none → s.work.wcVerdict k false v = none →
          Changes [.ain, .flue, .out] [pg + WC_WST_STAT_RUN.at 0, pg + WC_WST_DEC_DEC_H.at 0, pg + WC_WST_COUNT.at 0, pg + WC_WST_FAIL.at 0,
            pg + HDR_FLT_CAUSE.at 0] s t)))

/-- R365: an enabled TRIPN pin's change shows in its bit, and an active one is an event in every cluster that selects it. R369: an
active chopper feedback latches FB_LAT, holds the output off and raises PKG UC 17, and with UV_EN is an event in every cluster that
selects the channel. R368: TMAX_ON flags TMAX, turns the output off and
begins the TMIN_OFF hold with PKG CE 18; the end of the hold turns the output on exactly if H is 1. R358, R359: the event of a TRIPN
pin in a mode other than MONITOR latches FLATCH and raises CLU UC 24. -/
def Obligations.TripnAndChoppers : Prop :=
  ∀ (s : State) (p : Fin 8),
    (s.on pgPKG PKG_TRIPN_CFG_EN p → (s.rd pgPKG PKG_TRIPN_STAT).testBit p = true → Runs (.tripnTransition p false) s fun t =>
      (t.rd pgPKG PKG_TRIPN_STAT).testBit p = false ∧ OnlyDwords [pgPKG + PKG_TRIPN_STAT.at 0] s t) ∧
    (s.on pgPKG PKG_TRIPN_CFG_EN p → (s.rd pgPKG PKG_TRIPN_STAT).testBit p = false → Runs (.tripnTransition p true) s fun t =>
      (t.rd pgPKG PKG_TRIPN_STAT).testBit p = true ∧ TimeKept s t ∧
      ∀ c : Fin 48, s.work.owner c = c → s.work.standsBy c = false → (s.rd (pgCLU c) CLU_PCFG_TRIPN).testBit p = true →
        t.rd (pgCLU c) CLU_TLAST_KIND = 6 ∧ t.rd (pgCLU c) CLU_TLAST_INDEX = p.val ∧
        t.rd (pgCLU c) CLU_TRIP_COUNT = min (s.rd (pgCLU c) CLU_TRIP_COUNT + 1) CLU_TRIP_COUNT.max ∧
        (s.rd (pgCLU c) CLU_PSTAT_PMODE ≠ 0 → t.rd (pgCLU c) CLU_PSTAT_FLATCH = 1 ∧ t.flagged (pgCLU c) .uc 24)) ∧
    (¬ s.on pgPKG PKG_TRIPN_CFG_EN p → ∀ b : Bool, Runs (.tripnTransition p b) s fun t => t = s) ∧
    (¬ s.on pgPKG PKG_CHOP_STAT_FB_ACT p → ¬ s.on pgPKG PKG_CHOP_STAT_HRT_CTL p → Runs (.chopfbTransition p true) s fun t =>
      t.rd pgPKG PKG_CHOP_STAT_FB_ACT p = 1 ∧ t.rd pgPKG PKG_CHOP_STAT_FB_LAT p = 1 ∧ t.rd pgPKG PKG_CHOP_STAT_ON p = 0 ∧
      t.rd pgPKG PKG_CHOP_STAT_HELD p = 1 ∧ t.flagged pgPKG .uc 17 ∧ TimeKept s t ∧
      ∀ c : Fin 48, s.on pgPKG PKG_SUPMON_UV_EN → s.work.owner c = c → (s.rd (pgCLU c) CLU_PCFG_CHFB).testBit p = true →
        t.rd (pgCLU c) CLU_TLAST_KIND = 7 ∧ t.rd (pgCLU c) CLU_TLAST_INDEX = p.val ∧
        t.rd (pgCLU c) CLU_TRIP_COUNT = min (s.rd (pgCLU c) CLU_TRIP_COUNT + 1) CLU_TRIP_COUNT.max) ∧
    (s.on pgPKG PKG_CHOP_STAT_FB_ACT p → Runs (.chopfbTransition p false) s fun t =>
      t.rd pgPKG PKG_CHOP_STAT_FB_ACT p = 0 ∧ t.rd pgPKG PKG_CHOP_STAT_FB_LAT p = s.rd pgPKG PKG_CHOP_STAT_FB_LAT p ∧
      OnlyDwords [pgPKG + PKG_CHOP_STAT_FB_ACT.at p] s t) ∧
    (s.on pgPKG PKG_CHOP_STAT_ON p → ¬ s.on pgPKG PKG_CHOP_STAT_HRT_CTL p → Runs (.chopTmaxOnExpiry p) s fun t =>
      t.rd pgPKG PKG_CHOP_STAT_TMAX p = 1 ∧ t.rd pgPKG PKG_CHOP_STAT_ON p = 0 ∧ (t.work.chp p).minOff = true ∧ t.flagged pgPKG .ce 18 ∧
      Changes [.chop, .flue, .out] [pgPKG + PKG_CHOP_STAT_ON.at p, pgPKG + HDR_FLT_CAUSE.at 0] s t) ∧
    ((s.work.chp p).minOff = true → s.on pgPKG PKG_CHOP_CFG_EN p → s.on pgPKG PKG_SUPMON_OV_EN → ¬ s.on pgPKG PKG_CHOP_STAT_FB_LAT p →
      s.rd pgTWIN TWIN_TSTAT_ROLE ≠ 1 → ¬ s.on pgPKG PKG_CHOP_STAT_HRT_CTL p → Runs (.chopTminOffExpiry p) s fun t =>
        (t.work.chp p).minOff = false ∧ t.rd pgPKG PKG_CHOP_STAT_HELD p = 0 ∧
        t.rd pgPKG PKG_CHOP_STAT_ON p = s.rd (pgWC (s.rd pgPKG PKG_CHOP_CFG_WC p)) WC_WSTAT_H ∧
        Changes [.chop, .out] [pgPKG + PKG_CHOP_STAT_ON.at p] s t)

/-! ### Clusters and cell lanes (R245 to R292) -/

/-- R245, R20: a command of a cluster is held as pending, and one that replaces another sets CMD_LOST; while CYC_EN is 0, and in a
standby region, it is evaluated at once; while CYC_EN is 0 PRECHARGE, RUN and TEST are then refused with REGION, and in a standby
region every command with ILLEGAL (R420); a command to the odd cluster of a TRI6 pair is ignored with BADVAL. R246, R247, R250 to
R252: a command evaluated for a cluster in state 0 to 6 that nothing else stands in the way of makes the transition the table gives
it, counts it and stamps it; PRECHARGE asks for the temperature gate, STOP from TEST for the link voltage, CLEAR for a cause no
longer active, which then gives READY or OFF by the link voltage, with RECOV set; RUN, UNBYPASS and BYPASS, and PRECHARGE and TEST
from OFF, ask for the lane and are otherwise refused with LANE; a command that the table does not list for the state is refused with
ILLEGAL, and every command with TOPO while the topology is UNUSED. -/
def Obligations.ClusterCommandsTakenOrRefused : Prop :=
  (∀ (s : State) (c : Fin 48), s.reaches (pgCLU c + CLU_CMD.at 0) → ∀ x ∈ clusterCommands c,
      let pg := pgCLU c
      let cyc := s.on (pgRG (c / 12)) RG_CYC_CTL
      (s.work.owner c = c → cyc → s.work.standsBy c = false → Runs x.1 s fun t =>
        t.rd pg CLU_CSTAT_PEND_CMD = x.2 ∧ t.rd pg CLU_CSTAT_STATE = s.rd pg CLU_CSTAT_STATE ∧
        (s.on pg CLU_CSTAT_PEND_CMD → t.rd pg CLU_CSTAT_CMD_LOST = 1) ∧
        (¬ s.on pg CLU_CSTAT_PEND_CMD → t.rd pg CLU_CSTAT_CMD_LOST = s.rd pg CLU_CSTAT_CMD_LOST) ∧
        OnlyDwords [pg + CLU_CSTAT_STATE.at 0] s t) ∧
      (s.work.owner c = c → ¬ cyc ∨ s.work.standsBy c = true → ¬ s.on pg CLU_CSTAT_PEND_CMD → Runs x.1 s fun t =>
        t = s.onDev fun w => (w.wr pg CLU_CSTAT_PEND_CMD x.2).evalCmd c x.2 (t16 w.now)) ∧
      (s.work.owner c = c → ¬ cyc → s.rd pg CLU_CFG_TOPO ≠ 0 → s.work.role ≠ 1 → s.work.standsBy c = false →
        ¬ s.on pgHRT HRT_SUPD_STAT_BUSY → ¬ s.on pgBIST BIST_BSTAT_HUB_RUN → ¬ s.on pgBIST BIST_BSTAT_HRT_RUN → x.2 ∈ [1, 2, 5] →
        Runs x.1 s fun t => RefusedWith c 7 s t ∧ OnlyDwords [pg + CLU_CSTAT_STATE.at 0, pg + CLU_REFUSE_COUNT.at 0] s t) ∧
      (s.work.owner c = c → s.rd pg CLU_CFG_TOPO ≠ 0 → s.work.standsBy c = true → Runs x.1 s fun t =>
        RefusedWith c 1 s t ∧ OnlyDwords [pg + CLU_CSTAT_STATE.at 0, pg + CLU_REFUSE_COUNT.at 0] s t) ∧
      (s.work.owner c ≠ c → Runs x.1 s fun t =>
        t.rd pg HDR_STAT_BADVAL = 1 ∧ OnlyDwords [pg + HDR_STAT_BADVAL.at 0] s t)) ∧
  (∀ (s : State) (c : Fin 48) (b : Int), s.work.owner c = c →
      let pg := pgCLU c
      let st := s.rd pg CLU_CSTAT_STATE
      let t (code : Nat) : State := s.onDev fun w => w.evalCmd c code b
      let moved (code st' : Nat) : Prop :=
        (t code).rd pg CLU_CSTAT_STATE = st' ∧ (t code).rd pg CLU_CSTAT_PEND_CMD = 0 ∧
        (t code).rd pg CLU_TRANS_COUNT = min (s.rd pg CLU_TRANS_COUNT + 1) CLU_TRANS_COUNT.max ∧
        (t code).rd pg CLU_STATE_T_NS = (timeOf16 b).ns ∧ ((t code).work.cl c).pcTimer = (st' == 1) ∧ ((t code).work.cl c).bypTimer = (st' == 4)
      (s.rd pg CLU_CFG_TOPO = 0 → ∀ code : Fin 10, 1 ≤ code.val → RefusedWith c 8 s (t code)) ∧
      (∀ x ∈ plainTransitions, s.commandable c x.2.1 → st = x.1 → moved x.2.1 x.2.2) ∧
      (s.commandable c 1 → st = 0 → s.work.tempGate c = none → moved 1 1) ∧
      (s.commandable c 1 → st = 0 → ∀ r, s.work.tempGate c = some r → RefusedWith c r s (t 1)) ∧
      (s.commandable c 3 → st = 5 → (s.work.vlink c).2 = true → moved 3 2) ∧
      (s.commandable c 3 → st = 5 → (s.work.vlink c).2 = false → RefusedWith c 6 s (t 3)) ∧
      (s.unhindered c 8 → st = 6 → s.work.causeActive c = true → RefusedWith c 5 s (t 8)) ∧
      (s.unhindered c 8 → st = 6 → s.work.causeActive c = false →
        moved 8 (if s.work.laneUp c && (s.work.vlink c).2 then 2 else 0) ∧ (t 8).rd pg CLU_CSTAT_RECOV = 1) ∧
      (s.work.laneUp c = false → ∀ x ∈ [(0, 1), (0, 5), (0, 6), (1, 6), (2, 2), (2, 6), (3, 6), (4, 7), (5, 6), (6, 6)],
        s.unhindered c x.2 → st = x.1 → RefusedWith c 4 s (t x.2)) ∧
      (st ≤ 6 → ∀ code : Fin 10, 1 ≤ code.val → s.unhindered c code →
        (∀ x ∈ plainTransitions, (x.1, x.2.1) ≠ (st, code.val)) → (st, code.val) ∉ [(0, 1), (5, 3), (6, 8)] →
        RefusedWith c 1 s (t code)))

/-- R252, R263: the pre-charge timer raises CLU UC 18 and the forced safe action with cause 7; with a boundary of the region at the
same instant that boundary compares the link voltage first: reached, the cluster is READY, and not reached, the timer has its
effect. R254: the bypass timer without confirmation raises UC 19 alone. R257: the MASK of every spread group goes out again, but not
from a standby package, and a group from whose other packages nothing has come for 5.0 ms is marked AGED. R373: a cell-end self-test
is taken in OFF or READY with the lane up and none under way, and refused with BADVAL otherwise; its masks stand in ST_REQ, which a
locked page keeps (R64); 2.0 ms after its send it ends with ST_FAIL and UC 25. -/
def Obligations.ClusterTimersAndTests : Prop :=
  ∀ (s : State) (c : Fin 48),
    let pg := pgCLU c
    let o := s.work.owner c
    (s.serving c → (s.work.cl c).pcTimer = true → s.rd pg CLU_CSTAT_STATE = 1 →
      (s.work.boundaryDue (c / 12) = false → Runs (.prechargeTimeout c) s fun t => t.flagged pg .uc 18 ∧ ForcedSafe c 7 s t ∧ TimeKept s t) ∧
      (s.work.boundaryDue (c / 12) = true → Runs (.prechargeTimeout c) s fun t =>
        (t.work.cl c).pcExpired = true ∧ t.rd pg CLU_CSTAT_STATE = 1 ∧ Changes [.clu] [] s t)) ∧
    ((s.work.cl c).pcTimer = false ∨ s.rd pg CLU_CSTAT_STATE ≠ 1 → Runs (.prechargeTimeout c) s fun t => t = s) ∧
    (∀ b : Int, s.serving c → s.rd pg CLU_CSTAT_STATE = 1 → ¬ s.on pg CLU_CSTAT_PEND_CMD → (s.work.cl c).pcExpired = true →
      let t := s.onDev fun w => w.clusterStep4 c b
      ((s.work.vlink c).2 = true → t.rd pg CLU_CSTAT_STATE = 2) ∧
      ((s.work.vlink c).2 = false → t.flagged pg .uc 18 ∧ ForcedSafe c 7 s t)) ∧
    ((s.work.cl c).bypTimer = true → s.rd pg CLU_CSTAT_STATE = 4 → ¬ s.on pg CLU_CSTAT_BYPASSED → Runs (.bypassTimeout c) s fun t =>
      t.flagged pg .uc 19 ∧ t.rd pg CLU_CSTAT_STATE = 4 ∧ Changes [.clu, .flue, .out] [pg + HDR_FLT_CAUSE.at 0] s t) ∧
    (∀ n g : Fin 4, s.on (pgRG n) RG_CGRP_EN g → (∃ m ∈ s.dev.net.masks, m.sgid = s.rd (pgRG n) RG_CGRP_SGID g) →
      Runs (.censusMaskAged n g) s fun t => t.rd (pgRG n) RG_CGRP_AGED g = 1 ∧ OnlyDwords [pgRG n + RG_CGRP_AGED.at g] s t) ∧
    (s.work.role ≠ 1 → Runs .censusMaskRepeat s fun t =>
      t = s.onDev (fun w => w.each w.spreadGroups fun w sg => w.maskSend sg) ∧
      Changes [.net, .sl, .flue, .out] [pgSYSN + SYSN_PKT_DROP_COUNT.at 0, pgSYSN + HDR_FLT_CAUSE.at 0] s t) ∧
    (s.work.role = 1 → Runs .censusMaskRepeat s fun t => t = s) ∧
    (∀ desat vds : BitVec 12, s.reaches (pg + CLU_ST_REQ_GO.at 0) →
      let locked := s.on pg HDR_LOCK_LOCKED
      let masks (t : State) : Prop :=
        (¬ locked → t.rd pg CLU_ST_REQ_DESAT = desat.toNat ∧ t.rd pg CLU_ST_REQ_VDS = vds.toNat) ∧
        (locked → t.rd pg CLU_ST_REQ_DESAT = s.rd pg CLU_ST_REQ_DESAT ∧ t.rd pg CLU_ST_REQ_VDS = s.rd pg CLU_ST_REQ_VDS ∧
          t.rd pg HDR_STAT_LOCK_WR = 1)
      let ok : Prop := (s.rd (pgCLU o) CLU_CSTAT_STATE = 0 ∨ s.rd (pgCLU o) CLU_CSTAT_STATE = 2) ∧ s.work.laneUp o = true ∧
        ¬ s.on (pgCLU o) CLU_PSTAT_ST_BUSY
      (ok → Runs (.stReqGo c desat vds) s fun t =>
        masks t ∧ t.rd (pgCLU o) CLU_PSTAT_ST_BUSY = 1 ∧
        (t.work.cl o).st = some (none, t.rd pg CLU_ST_REQ_DESAT, t.rd pg CLU_ST_REQ_VDS) ∧
        (t.work.ln o).cmds.length = (s.work.ln o).cmds.length + 1 ∧ ((t.work.ln o).cmds.getLast?.map (·.op)) = some 5 ∧
        Changes [.clu, .lane] [pg + CLU_ST_REQ_DESAT.at 0, pgCLU o + CLU_PSTAT_ST_BUSY.at 0, pg + HDR_STAT_LOCK_WR.at 0] s t) ∧
      (¬ ok → Runs (.stReqGo c desat vds) s fun t =>
        masks t ∧ t.rd pg HDR_STAT_BADVAL = 1 ∧ OnlyDwords [pg + CLU_ST_REQ_DESAT.at 0, pg + HDR_STAT_BADVAL.at 0] s t)) ∧
    (∀ cseq desat vds : Nat, (s.work.cl c).st = some (some cseq, desat, vds) → Runs (.ceSelftestTimeout c) s fun t =>
      t.rd pg CLU_PSTAT_ST_BUSY = 0 ∧ t.rd pg CLU_PSTAT_ST_FAIL = 1 ∧ (t.work.cl c).st = none ∧ t.flagged pg .uc 25 ∧
      Changes [.clu, .flue, .out] [pg + CLU_PSTAT_ST_BUSY.at 0, pg + HDR_FLT_CAUSE.at 0] s t)

/-- R279 to R281, R458, R459: a comma takes an enabled lane from ACQUIRE to SYNC; each of the criteria of loss takes it from
UP to DOWN with its cause, counted and raised, and from SYNC back to ACQUIRE; a system lane without LINK is lost as cause 3; fewer
than four code violations in 40 symbols are counted and no more. The timers of ACQUIRE, SYNC and DOWN start training again, that of
DOWN only with AUTO_RT. RETRAIN starts it from DOWN, takes a lane in UP to DOWN as cause HOST while its cluster is in OFF, BYPASS or
LOCKOUT, and is otherwise ignored with BADVAL; on a system or twin lane it is accepted in every enabled state. R248: a lane lost
while a cluster in service hangs on it alone forces the cluster safe with cause 2. R292: a lane of a fenced region is not lost. -/
def Obligations.LanesTrainAndFall : Prop :=
  (∀ (s : State) (l : LaneId), s.work.laneFenced l = false →
    let near (since : Nat) : Prop := 3 ≤ ((match l with | .cell c => (s.work.ln c).cvs | _ => (s.work.sln (lanePage l).2).cvs).filter
        fun d => decide (d + since < 40)).length
    (s.lst l = 1 → Runs (.commaAligned l) s fun t =>
      t.lst l = 2 ∧ t.lrd l CLANE_LSTAT_ALIGNED SL_SLSTAT_ALIGNED = 1 ∧ t.lrd l CLANE_LSTAT_CDR_LOCK SL_SLSTAT_CDR_LOCK = 1 ∧
      LaneEvent l 1 2 s t ∧ Changes [.events] [laneStat l] s t) ∧
    (s.lst l = 2 ∨ s.lst l = 3 → Runs (.cdrLockLost l) s fun t => LaneLosesBy l 1 s t) ∧
    (s.lst l = 2 ∨ s.lst l = 3 → Runs (.elasticBufferError l) s fun t => LaneLosesBy l 4 s t) ∧
    (∀ since : Nat, (s.lst l = 2 ∨ s.lst l = 3) → near since → Runs (.codeViolation l since) s fun t => LaneLosesBy l 2 s t) ∧
    (∀ since : Nat, s.lst l ≠ 0 → ¬ near since → Runs (.codeViolation l since) s fun t =>
      t.lst l = s.lst l ∧ t.lrd l CLANE_CV_COUNT SL_CV_COUNT = min (s.lrd l CLANE_CV_COUNT SL_CV_COUNT + 1) CLANE_CV_COUNT.max ∧
      Changes [.lane, .sl] [(lanePage l).1 + (laneFld l CLANE_CV_COUNT SL_CV_COUNT).at (lanePage l).2] s t) ∧
    (s.lst l = 1 → Runs (.acquireTimeout l) s fun t =>
      t.lst l = 1 ∧ EqLoaded l s t ∧ t.lrd l CLANE_LSTAT_CDR_LOCK SL_SLSTAT_CDR_LOCK = 0 ∧
      OnlyDwords [laneStat l, (lanePage l).1 + (laneFld l CLANE_EQ_CTLE SL_EQ_CTLE).at (lanePage l).2] s t) ∧
    (s.lst l = 4 → s.lrd l CLANE_CTL_AUTO_RT SL_SLCTL_AUTO_RT = 1 → Runs (.laneRetryTimeout l) s fun t => LaneAcquires l s t) ∧
    (s.lrd l CLANE_CTL_AUTO_RT SL_SLCTL_AUTO_RT = 0 → Runs (.laneRetryTimeout l) s fun t => t = s) ∧
    (∀ c : Fin 48, l = .cell c →
      (s.lst l = 2 ∨ s.lst l = 3 → Runs (.noFrameTimeout c) s fun t => LaneLosesBy l 3 s t) ∧
      (s.lst l = 2 → Runs (.syncTimeout c) s fun t => LaneAcquires l s t) ∧
      (s.lst l = 3 → s.serving c → s.laneAlone c → Runs (.noFrameTimeout c) s fun t => ForcedSafe c 2 s t ∧ t.flagged (pgCLU c) .uc 17) ∧
      (s.reaches (pgCLANE c + CLANE_CMD_RETRAIN.at 0) →
        let cs := s.rd (pgCLU (s.work.owner c)) CLU_CSTAT_STATE
        (s.lst l = 4 → Runs (.laneRetrain c) s fun t => LaneAcquires l s t) ∧
        (s.lst l = 3 → cs ∈ [0, 4, 6] → Runs (.laneRetrain c) s fun t =>
          t.lst l = 4 ∧ t.rd (pgCLANE c) CLANE_LSTAT_DOWN_CAUSE = 5 ∧ t.rd (pgCLANE c) CLANE_DOWN_COUNT = s.rd (pgCLANE c) CLANE_DOWN_COUNT ∧
          TimeKept s t) ∧
        (s.lst l = 3 → cs ∉ [0, 4, 6] → Runs (.laneRetrain c) s fun t =>
          t.rd (pgCLANE c) HDR_STAT_BADVAL = 1 ∧ OnlyDwords [pgCLANE c + HDR_STAT_BADVAL.at 0] s t) ∧
        (s.lst l ≤ 2 → Runs (.laneRetrain c) s fun t => t = s))) ∧
    (∀ n : Fin 12, lanePage l = (pgSYSN, n.val) →
      (s.reaches (pgSYSN + SL_SLCMD_RETRAIN.at n) →
        (s.lst l = 1 ∨ s.lst l = 2 ∨ s.lst l = 4 → Runs (.slRetrain n) s fun t => LaneAcquires l s t) ∧
        (s.lst l = 3 → Runs (.slRetrain n) s fun t =>
          t.lst l = 4 ∧ t.lrd l CLANE_LSTAT_DOWN_CAUSE SL_SLSTAT_DOWN_CAUSE = 5 ∧ TimeKept s t) ∧
        (s.lst l = 0 → Runs (.slRetrain n) s fun t => t = s)) ∧
      (s.lst l = 2 ∨ s.lst l = 3 → Runs (.slNolinkTimeout n) s fun t => LaneLosesBy l 3 s t))) ∧
  (∀ (s : State) (c : Fin 48), (s.rd pgPKG PKG_FENCE_STAT).testBit (c / 12) = true → Runs (.noFrameTimeout c) s fun t => t = s)

/-- R274: a SKIP gap above or below centre deletes or inserts a symbol and counts it, EB_FILL shows the fill as of the last gap, and a
fill beyond 8 symbols is an elastic-buffer error. R281, R282: a step of adaptation within its limits is taken, in SYNC and ACQUIRE by
2 codes and 4 LSB, in UP by 1, and one beyond them is not; the Damper's closed gate holds it back; a freeze shows, and a data symbol
ends it. R283: an eye height of H mV has the figure of merit min(255, 128 H / 200) rounded down, which shows with its least value and
raises its fault below the alarm; FOM_RST sets the least value to 0xFF. R272, R280: a good IDLE frame extends the run of good ones,
and the eighth in SYNC starts the first exchange; a bad frame on any enabled lane counts, raises CLANE CE 17 and breaks the run. -/
def Obligations.LaneQualityFollows : Prop :=
  ∀ (s : State) (l : LaneId),
    let fld (fc fs : Field) : Nat := (lanePage l).1 + (laneFld l fc fs).at (lanePage l).2
    (∀ fill : BitVec 8, s.lst l ≠ 0 →
      let f := fill.toInt
      (∀ c : Fin 48, l = .cell c → -8 ≤ f → f ≤ 8 → Runs (.skipGap l fill) s fun t =>
        (1 < f → t.rd (pgCLANE c) CLANE_SKIP_DEL = min (s.rd (pgCLANE c) CLANE_SKIP_DEL + 1) CLANE_SKIP_DEL.max ∧
          toSigned 8 (t.rd (pgCLANE c) CLANE_LSTAT_EB_FILL) = f - 1) ∧
        (f < -1 → t.rd (pgCLANE c) CLANE_SKIP_INS = min (s.rd (pgCLANE c) CLANE_SKIP_INS + 1) CLANE_SKIP_INS.max ∧
          toSigned 8 (t.rd (pgCLANE c) CLANE_LSTAT_EB_FILL) = f + 1) ∧
        (-1 ≤ f → f ≤ 1 → toSigned 8 (t.rd (pgCLANE c) CLANE_LSTAT_EB_FILL) = f ∧ OnlyDwords [laneStat l] s t) ∧
        OnlyDwords [laneStat l, pgCLANE c + CLANE_SKIP_DEL.at 0, pgCLANE c + CLANE_SKIP_INS.at 0] s t) ∧
      ((∀ c, l ≠ .cell c) → -8 ≤ f → f ≤ 8 → Runs (.skipGap l fill) s fun t => t = s) ∧
      (8 < f ∨ f < -8 → s.work.laneFenced l = false → Runs (.skipGap l fill) s fun t =>
        LaneLosesBy l 4 s t ∧
        ∀ c : Fin 48, l = .cell c → t.rd (pgCLANE c) CLANE_EB_COUNT = min (s.rd (pgCLANE c) CLANE_EB_COUNT + 1) CLANE_EB_COUNT.max)) ∧
    (∀ (ctle : BitVec 4) (taps : Vector (BitVec 7) 3), 1 ≤ s.lst l → s.lst l ≤ 3 → s.lrd l CLANE_CTL_ADAPT_EN SL_SLCTL_ADAPT_EN = 1 →
      let tap (j : Fin 3) : Nat := (taps.get j).toNat
      let moved (old new : Int) (slow : Nat) : Prop := (old - new).natAbs ≤ (if s.lst l = 3 then 1 else slow)
      let ok : Prop := moved (s.lrd l CLANE_EQ_CTLE SL_EQ_CTLE) ctle.toNat 2 ∧
        moved (toSigned 7 (s.lrd l CLANE_EQ_DFE1 SL_EQ_DFE1)) (toSigned 7 (tap 0)) 4 ∧
        moved (toSigned 7 (s.lrd l CLANE_EQ_DFE2 SL_EQ_DFE2)) (toSigned 7 (tap 1)) 4 ∧
        moved (toSigned 7 (s.lrd l CLANE_EQ_DFE3 SL_EQ_DFE3)) (toSigned 7 (tap 2)) 4
      (s.dev.shut = false → ok → Runs (.adaptStep l ctle taps) s fun t =>
        t.lrd l CLANE_EQ_CTLE SL_EQ_CTLE = ctle.toNat ∧ t.lrd l CLANE_EQ_DFE1 SL_EQ_DFE1 = tap 0 ∧
        t.lrd l CLANE_EQ_DFE2 SL_EQ_DFE2 = tap 1 ∧ t.lrd l CLANE_EQ_DFE3 SL_EQ_DFE3 = tap 2 ∧
        t.lrd l CLANE_LSTAT_ADAPT_FROZEN SL_SLSTAT_ADAPT_FROZEN = 0 ∧ OnlyDwords [laneStat l, fld CLANE_EQ_CTLE SL_EQ_CTLE] s t) ∧
      (s.dev.shut = false → ¬ ok → Runs (.adaptStep l ctle taps) s fun t =>
        t.lrd l CLANE_LSTAT_ADAPT_FROZEN SL_SLSTAT_ADAPT_FROZEN = 0 ∧ OnlyDwords [laneStat l] s t) ∧
      (s.dev.shut = true → Runs (.adaptStep l ctle taps) s fun t =>
        t.lrd l CLANE_LSTAT_ADAPT_FROZEN SL_SLSTAT_ADAPT_FROZEN = 0 ∧ t.dev.held = s.dev.held ++ [.adaptStep l ctle taps] ∧
        Changes [.held] [laneStat l] s t)) ∧
    (s.lst l ≠ 0 → Runs (.adaptFreeze l) s fun t =>
      t.lrd l CLANE_LSTAT_ADAPT_FROZEN SL_SLSTAT_ADAPT_FROZEN = 1 ∧ OnlyDwords [laneStat l] s t) ∧
    (s.lst l ≠ 0 → ∀ mv : Rat, Runs (.fomMeasure l mv) s fun t =>
      let fom := min 255 (128 * mv / 200).floor.toNat
      t.lrd l CLANE_LSTAT_FOM SL_SLSTAT_FOM = fom ∧ t.lrd l CLANE_LSTAT_ADAPT_FROZEN SL_SLSTAT_ADAPT_FROZEN = 0 ∧
      t.lrd l CLANE_FOM_CFG_FOM_MIN SL_SLFOM_FOM_MIN = min fom (s.lrd l CLANE_FOM_CFG_FOM_MIN SL_SLFOM_FOM_MIN) ∧
      (fom < s.lrd l CLANE_FOM_CFG_ALARM SL_SLFOM_ALARM → t.flagged (lanePage l).1 .ce (lowFomBit l) ∧
        Changes [.flue, .out] [laneStat l, fld CLANE_FOM_CFG_FOM_MIN SL_SLFOM_FOM_MIN, (lanePage l).1 + HDR_FLT_CAUSE.at 0] s t) ∧
      (s.lrd l CLANE_FOM_CFG_ALARM SL_SLFOM_ALARM ≤ fom → OnlyDwords [laneStat l, fld CLANE_FOM_CFG_FOM_MIN SL_SLFOM_FOM_MIN] s t)) ∧
    (s.lst l = 0 → (∀ mv : Rat, Runs (.fomMeasure l mv) s fun t => t = s) ∧ Runs (.adaptFreeze l) s fun t => t = s) ∧
    (∀ c : Fin 48, s.reaches (pgCLANE c + CLANE_CMD_FOM_RST.at 0) → Runs (.laneFomRst c) s fun t =>
      t.rd (pgCLANE c) CLANE_FOM_CFG_FOM_MIN = 0xFF ∧ OnlyDwords [pgCLANE c + CLANE_FOM_CFG_FOM_MIN.at 0] s t) ∧
    (∀ n : Fin 12, s.reaches (pgSYSN + SL_SLCMD_FOM_RST.at n) → Runs (.slFomRst n) s fun t =>
      t.rd pgSYSN SL_SLFOM_FOM_MIN n = 0xFF ∧ OnlyDwords [pgSYSN + SL_SLFOM_FOM_MIN.at n] s t) ∧
    (∀ (c : Fin 48) (copy : Bool), s.hearing c →
      let k := s.work.ln c
      let first : Prop := s.rd (pgCLANE c) CLANE_LSTAT_STATE = 2 ∧ 7 ≤ k.good ∧ k.accepted = 0 ∧ k.exch = [] ∧ k.xidNext = 1
      Runs (.idleFrameReceived c 0 copy) s fun t =>
        t.rd (pgCLANE c) CLANE_LSTAT_ADAPT_FROZEN = 0 ∧ (t.work.ln c).good = min (k.good + 1) 8 ∧ (t.work.ln c).predGood = !copy ∧
        (first → (t.work.ln c).exch.map (·.xid) = [1] ∧ 3 ∈ (t.work.ln c).p4) ∧ (¬ first → (t.work.ln c).exch = k.exch) ∧
        Changes [.lane] [laneStat (.cell c)] s t) ∧
    (∀ (c : Fin 48) (copy : Bool), s.checking c → ∀ y : BitVec 16, y ≠ 0 →
      ∀ x ∈ [Instr.uplinkBadFrame c, Instr.idleFrameReceived c y copy], Runs x s fun t =>
        t.rd (pgCLANE c) CLANE_BAD_COUNT = min (s.rd (pgCLANE c) CLANE_BAD_COUNT + 1) CLANE_BAD_COUNT.max ∧
        t.flagged (pgCLANE c) .ce 17 ∧ (t.work.ln c).good = 0 ∧ (t.work.ln c).predGood = false ∧
        Changes [.lane, .flue, .out] [laneStat (.cell c), pgCLANE c + CLANE_BAD_COUNT.at 0, pgCLANE c + HDR_FLT_CAUSE.at 0] s t)

/-- R269 to R278, R300, R301, R317 to R321, R230, R316: in each slot of a lane that serves its cluster alone the frame of the first
class that has something to send leaves. A SAFE that is due, in SYNC, UP and DOWN, carries the lockout's cause and pattern, or the
Hearth's while it holds the region (R395), and SAFE to a cluster in OFF or BYPASS goes once; in UP then a ROLE owed; the second copy
of a frame under DUP (R276); an EDGE frame from 16.0 to 1.0 us before its word is due, with the word's sequence number; a CMD, TIMEOFS
or PING asked for, the first TIMEOFS taking the lane from SYNC to UP; and IDLE when nothing waits. A DISABLED lane and the lane of a
fenced region send nothing. R301: ROLE_REPEAT owes a ROLE. R321: a CMD not acknowledged asks again until its eighth send, after which
it is abandoned with CLANE CE 21, a self-test then ending with ST_FAIL (R373). -/
def Obligations.DownlinkFramesLeave : Prop :=
  (∀ (s : State) (c : Fin 48) (sub : Fin 40), s.rd (pgCLANE c) CLANE_LSTAT_STATE = 0 ∨ (s.rd pgPKG PKG_FENCE_STAT).testBit (c / 12) = true →
    Runs (.downlinkSlot c sub) s fun t => t = s) ∧
  (∀ (s : State) (c : Fin 48) (sub : Fin 40), s.laneAlone c →
    let l := s.work.ln c
    let st := s.rd (pgCLANE c) CLANE_LSTAT_STATE
    let at16 : Int := t16 s.tally.a + sub.val
    let acting := s.on (pgCLU c) CLU_CSTAT_SAFE_ACT
    let held := s.work.rgHeld.testBit (c / 12)
    let noSafe : Prop := ¬ (acting ∧ l.safe.getD 0 = 0) ∧ l.hsafe ≠ some 0 ∧ l.safeOnce = none
    let calm : Prop := st = 3 ∧ noSafe ∧ l.role = 0 ∧ l.copy = none ∧ l.mirror = []
    let pat := s.rd (pgCLU c) CLU_SAFEPAT_PAT
    (2 ≤ st → st ≤ 4 → acting → l.safe.getD 0 = 0 → held = false → Runs (.downlinkSlot c sub) s fun t =>
      FrameSent c 5 [quad (s.rd (pgCLU c) CLU_CSTAT_LOCK_CAUSE * 2 ^ 60 + pat), 0, 0, 0] s t ∧
      (t.work.ln c).safe = some 7 ∧ Changes [.out, .lane] [] s t) ∧
    (2 ≤ st → st ≤ 4 → l.hsafe = some 0 → held = true → Runs (.downlinkSlot c sub) s fun t =>
      FrameSent c 5 [quad (9 * 2 ^ 60 + s.rd pgHRT HRT_HPAT), 0, 0, 0] s t ∧ (t.work.ln c).hsafe = some 7 ∧ Changes [.out, .lane] [] s t) ∧
    (∀ k : Nat, 2 ≤ st → st ≤ 4 → ¬ acting → l.hsafe = none → l.safeOnce = some k → held = false → Runs (.downlinkSlot c sub) s fun t =>
      FrameSent c 5 [quad (k * 2 ^ 60 + pat), 0, 0, 0] s t ∧ (t.work.ln c).safeOnce = none ∧ Changes [.out, .lane] [] s t) ∧
    (st = 3 → noSafe → l.role ≠ 0 → Runs (.downlinkSlot c sub) s fun t =>
      let r := s.work.role
      let teff := if r = 0 then n16Of at16 else if r = 1 then 0 else n16Of l.claimAt
      FrameSent c 7 [quad (s.work.epoch * 2 ^ 32 + b2n (r != 1) * 2 ^ 31 + s.work.pkgNo), quad (s.work.pairNo * 2 ^ 48 + teff), 0, 0] s t ∧
      (t.work.ln c).role = l.role - 1 ∧ Changes [.out, .lane] [] s t) ∧
    (∀ (ty : Nat) (ws : List Quad), st = 3 → noSafe → l.role = 0 → l.copy = some (ty, ws) → Runs (.downlinkSlot c sub) s fun t =>
      FrameSent c ty ws s t ∧ (t.work.ln c).copy = none ∧ Changes [.out, .lane] [] s t) ∧
    (∀ (u : Fin 192) (e : EdgeW), calm → l.timed = [.edge u e] → e.cancel = false →
      e.due - at16 ≤ 256000 → 16000 ≤ e.due - at16 → s.work.unsettled u at16 < 64 → Runs (.downlinkSlot c sub) s fun t =>
        let ws := [edgeQuad e (s.work.un u).seq, 0, 0, quad (2 ^ 62)]
        FrameSent c 1 ws s t ∧ (t.work.ln c).timed = [] ∧
        (s.on (pgCLANE c) CLANE_CTL_DUP → (t.work.ln c).copy = some (0x81, ws)) ∧ (¬ s.on (pgCLANE c) CLANE_CTL_DUP → (t.work.ln c).copy = none) ∧
        (t.work.un u).seq = ((s.work.un u).seq + 1) % 16 ∧
        t.rd (pgUNIT u) UNIT_EDGE_COUNT = min (s.rd (pgUNIT u) UNIT_EDGE_COUNT + 1) UNIT_EDGE_COUNT.max ∧
        Changes [.out, .lane, .unit] [pgUNIT u + UNIT_EDGE_COUNT.at 0] s t) ∧
    (∀ (k : CeCmd) (r : List CeCmd), calm → l.timed = [] → l.p4 = [0] → l.cmdOut = none → l.cmds = k :: r → s.work.drives c at16 = true →
      Runs (.downlinkSlot c sub) s fun t =>
        FrameSent c 6 [quad (k.op * 2 ^ 56 + (l.cseq % 15 + 1) * 2 ^ 52), k.arg, 0, 0] s t ∧
        (t.work.ln c).cmdOut = some (k, l.cseq % 15 + 1, 1) ∧ (t.work.ln c).cmds = r ∧ (t.work.ln c).p4 = [] ∧
        t.rd (pgCLANE c) CLANE_CE_STAT_CSEQ = l.cseq % 15 + 1 ∧
        (k.op = 5 → (t.work.cl c).st = (s.work.cl c).st.map fun x => (some (l.cseq % 15 + 1), x.2)) ∧
        (k.op ≠ 5 → k.op ≠ 6 → (t.work.cl c) = s.work.cl c) ∧ Changes [.out, .lane, .clu] [pgCLANE c + CLANE_CE_STAT_CSEQ.at 0] s t) ∧
    (∀ x : Exch, (st = 2 ∨ calm) → noSafe → l.timed = [] → l.p4 = [3] → l.exch = [x] → x.t1 = none → Runs (.downlinkSlot c sub) s fun t =>
      FrameSent c 8 [quad (x.xid * 2 ^ 56), 0, 0, 0] s t ∧ (t.work.ln c).p4 = [] ∧
      (t.work.ln c).exch = [{ x with t1 := some (n16Of at16), rate := l.rate }] ∧ Changes [.out, .lane] [] s t) ∧
    (∀ xid : Nat, (st = 2 ∨ calm) → noSafe → l.timed = [] → l.p4 = [2] → l.timeOfs = some xid → Runs (.downlinkSlot c sub) s fun t =>
      let r := ofSigned 32 (roundR (l.rate * (2 ^ 32 : Nat)))
      FrameSent c 4 [quad (xid * 2 ^ 56 + l.anchor % 2 ^ 44), quad (ofSigned 44 l.ofs), quad (r * 2 ^ 32), 0] s t ∧
      t.rd (pgCLANE c) CLANE_TOFS_LO = ofSigned 44 l.ofs % 2 ^ 32 ∧ t.rd (pgCLANE c) CLANE_TRATE = r ∧ (t.work.ln c).timeOfs = none ∧
      t.rd (pgCLANE c) CLANE_LSTAT_STATE = 3 ∧ (st = 2 → (t.work.ln c).role = max l.role 1 ∧ (s.work.pathStalled c = false → t.rd (pgCLU c) CLU_CSTAT_LANE_UP = 1)) ∧
      TimeKept s t) ∧
    (calm ∧ l.timed = [] ∧ l.p4 = [] ∨ st = 1 ∨ (st = 2 ∧ noSafe ∧ l.p4 = []) ∨ (st = 4 ∧ noSafe) → Runs (.downlinkSlot c sub) s fun t =>
      FrameSent c 0 [0, 0, 0, 0] s t ∧ Changes [.out, .lane] [] s t) ∧
    (st = 3 → Runs (.roleRepeat c) s fun t => (t.work.ln c).role = max l.role 1 ∧ Changes [.lane] [] s t) ∧
    (∀ (k : CeCmd) (q n : Nat), l.cmdOut = some (k, q, n) →
      (n < 8 → Runs (.cmdResend c) s fun t => 0 ∈ (t.work.ln c).p4 ∧ (t.work.ln c).cmdOut = l.cmdOut ∧ Changes [.lane] [] s t) ∧
      (8 ≤ n → Runs (.cmdResend c) s fun t =>
        (t.work.ln c).cmdOut = none ∧ t.rd (pgCLANE c) CLANE_CMD_RETRY = min (s.rd (pgCLANE c) CLANE_CMD_RETRY + 1) CLANE_CMD_RETRY.max ∧
        t.flagged (pgCLANE c) .ce 21 ∧
        (k.op = 5 → (s.work.cl c).st.isSome →
          t.rd (pgCLU c) CLU_PSTAT_ST_BUSY = 0 ∧ t.rd (pgCLU c) CLU_PSTAT_ST_FAIL = 1 ∧ t.flagged (pgCLU c) .uc 25 ∧ TimeKept s t) ∧
        (k.op ≠ 5 → Changes [.lane, .flue, .out] [pgCLANE c + CLANE_CMD_RETRY.at 0, pgCLANE c + HDR_FLT_CAUSE.at 0] s t))))

/-- R309 to R333, R355 to R357: a good MEAS for a planned instant files each value the plan names, bank 1 of a TRI6 pair for its odd
cluster, and counts the others as orphans. A TRANS report becomes the newest of its kind of its unit and shows what it carries. A
TRIP shows its active flags and is filed once per TRIP_ID; one whose named flag stands, or with a LINK flag (the model's reading of
R325, log entry 55), is an event, which in FORCE mode latches, and with a LINK flag in every mode but MONITOR. A STAT page shows in
the CE registers; page 0 brings the capacitor temperature and the bypass element's state, acknowledges the CMD it names, and moves
the EPOCH of a SOLO package that the cell end does not follow (R412). R298, R327: a second copy whose first copy was good is
discarded. R111: a raised fence discards every such message, counted. R272: one with a bad CRC is a bad frame. -/
def Obligations.UplinkMessagesAct : Prop :=
  (∀ (s : State) (c : Fin 48) (copy : Bool), s.hearing c → s.rd (pgCLANE c) CLANE_LSTAT_STATE = 3 → s.laneAlone c →
    ¬ (copy = true ∧ (s.work.ln c).predGood = true) →
    let pg := pgCLU c
    let pair := s.rd pg CLU_CFG_TOPO = 3
    (∀ m : Meas, (∀ p ∈ (s.work.cl c).plans, 4000 < (p.2.1 - nearT16 (t16 s.tally.a) m.ts.toNat).natAbs) ∨ (m.bank = true ∧ ¬ pair) →
      Runs (.measReceived c 0 copy m) s fun t =>
        t.rd pg CLU_ORPHAN_COUNT = min (s.rd pg CLU_ORPHAN_COUNT + (bits8 m.vmask.toNat).length) CLU_ORPHAN_COUNT.max ∧
        Changes [.lane] [laneStat (.cell c), pg + CLU_ORPHAN_COUNT.at 0] s t) ∧
    (∀ (m : Meas) (b ts : Int) (v : Fin 8) (mask : Nat), (s.work.cl c).plans = [(b, ts, mask)] → nearT16 (t16 s.tally.a) m.ts.toNat = ts →
      (m.bank = true → pair) → m.vmask.toNat = 2 ^ v.val →
      let r := s.region (c / 12)
      let slot := 8 * ((if m.bank then c.val + 1 else c.val) % 12) + v.val
      (mask.testBit v = true → r.nextB = some b → r.t0 ≠ b → (∀ f ∈ r.fillNext, f.slot ≠ slot) → Runs (.measReceived c 0 copy m) s fun t =>
        (t.region (c / 12)).fillNext = r.fillNext ++ [⟨slot, w32 (m.vals[v].toNat * 2 ^ 16), m.range.getLsbD v, ts24 ts⟩] ∧
        Changes [.lane, .rgn] [laneStat (.cell c)] s t) ∧
      (mask.testBit v = false → Runs (.measReceived c 0 copy m) s fun t =>
        t.rd pg CLU_ORPHAN_COUNT = min (s.rd pg CLU_ORPHAN_COUNT + 1) CLU_ORPHAN_COUNT.max ∧
        Changes [.lane] [laneStat (.cell c), pg + CLU_ORPHAN_COUNT.at 0] s t)) ∧
    (∀ (r : TransRep) (u : Nat), s.work.legUnit c r.leg.toNat = some u → Runs (.transReceived c 0 copy #v[some r, none, none, none]) s fun t =>
      let k := s.work.un u
      let k' := t.work.un u
      (r.turnOn = false → r.sw = false → k'.repHL = some (r.d90.toNat, r.inc) ∧ k'.repLH = k.repLH ∧
        (r.inc = false → t.rd (pgUNIT u) UNIT_DTR_LAST_HL = r.d90.toNat)) ∧
      (r.turnOn = false → r.sw = true → k'.repLH = some (r.d90.toNat, r.inc) ∧ k'.repHL = k.repHL ∧
        (r.inc = false → t.rd (pgUNIT u) UNIT_DTR_LAST_LH = r.d90.toNat)) ∧
      (r.turnOn = true ∨ r.inc = true → t.rd (pgUNIT u) UNIT_DTR_LAST_HL = s.rd (pgUNIT u) UNIT_DTR_LAST_HL ∧
        t.rd (pgUNIT u) UNIT_DTR_LAST_LH = s.rd (pgUNIT u) UNIT_DTR_LAST_LH) ∧
      (r.turnOn = true → k'.repHL = k.repHL ∧ k'.repLH = k.repLH) ∧
      (r.noplat = false → r.turnOn = true → k'.platOn = some r.dplat.toNat ∧ t.rd (pgUNIT u) UNIT_PLAT_LAST_ON = r.dplat.toNat) ∧
      (r.noplat = false → r.turnOn = false → k'.platOff = some r.dplat.toNat ∧ t.rd (pgUNIT u) UNIT_PLAT_LAST_OFF = r.dplat.toNat) ∧
      (r.noplat = true → k'.platOn = k.platOn ∧ k'.platOff = k.platOff) ∧
      Changes [.lane, .unit] [laneStat (.cell c), pgUNIT u + UNIT_DTR_LAST_HL.at 0, pgUNIT u + UNIT_PLAT_LAST_ON.at 0] s t) ∧
    (∀ x : Trip, Runs (.tripReceived c 0 copy x) s fun t =>
      let link : Prop := x.latched.link ≠ 0
      t.rd pg CLU_CE_ACT0_DESAT = x.active.desat.toNat ∧ t.rd pg CLU_CE_ACT0_UVLO = x.active.uvlo.toNat ∧
      t.rd pg CLU_CE_ACT1_OC = x.active.oc.toNat ∧ t.rd pg CLU_CE_ACT1_BOOT = x.active.boot.toNat ∧
      (t.work.cl c).tripId = some x.id.toNat ∧
      ((s.work.cl c).tripId = some x.id.toNat ∨ (tripNamed x = false ∧ ¬ link) → t.rd pg CLU_TRIP_COUNT = s.rd pg CLU_TRIP_COUNT) ∧
      ((s.work.cl c).tripId ≠ some x.id.toNat → tripNamed x = true ∨ link →
        t.rd pg CLU_TRIP_COUNT = min (s.rd pg CLU_TRIP_COUNT + 1) CLU_TRIP_COUNT.max ∧
        t.rd pg CLU_TLAST_KIND = (x.kind.toNat + 1) % 16 ∧ t.rd pg CLU_TLAST_INDEX = x.index.toNat ∧ t.rd pg CLU_TLAST_TRIP_ID = x.id.toNat ∧
        (s.rd pg CLU_PSTAT_PMODE = 2 → x.kind = 0 ∨ x.kind = 1 → t.rd pg CLU_PSTAT_FLATCH = 1 ∧ t.flagged pg .uc 24) ∧
        (s.rd pg CLU_PSTAT_PMODE ≠ 0 → link → t.rd pg CLU_PSTAT_FLATCH = 1 ∧ t.flagged pg .uc 24)) ∧ TimeKept s t) ∧
    (∀ x : Stat0, Runs (.statReceived c 0 copy (.page0 x)) s fun t =>
      let us : Prop := x.mode ≠ 0 ∧ x.fpkg.toNat = s.work.pkgNo
      t.rd (pgCLANE c) CLANE_CE_STAT_MODE = x.mode.toNat ∧ t.rd (pgCLANE c) CLANE_CE_STAT_CACK = x.cack.toNat ∧
      t.rd (pgCLANE c) CLANE_CE_STAT_FPKG = x.fpkg.toNat ∧ t.rd (pgCLANE c) CLANE_CE_EPOCH = x.epoch.toNat ∧
      (t.rd (pgCLANE c) CLANE_CE_STAT_FOLLOWS_US = 1 ↔ us) ∧
      t.rd (pgCLANE c) CLANE_CE_TEMP_TCAP = x.tcap.toNat ∧ t.rd (pgCLANE c) CLANE_CE_HEALTH = x.health.toNat ∧
      t.rd pg CLU_PC_STAT_TCAP = x.tcap.toNat ∧ (t.work.cl c).tempAt = some s.work.up ∧
      (x.bypClosed = true → t.rd pg CLU_CSTAT_BYPASSED = 1) ∧ (x.bypClosed = false → x.bypOpen = true → t.rd pg CLU_CSTAT_BYPASSED = 0) ∧
      (∀ (k : CeCmd) (n : Nat), (s.work.ln c).cmdOut = some (k, x.cack.toNat, n) → (t.work.ln c).cmdOut = none) ∧
      (s.work.role = 0 → ¬ us → s.work.epoch ≤ x.epoch.toNat → t.work.epoch = (x.epoch.toNat + 1) % 2 ^ 32 ∧ (t.work.ln c).role = 2) ∧
      (s.work.role = 0 → us ∨ x.epoch.toNat < s.work.epoch → t.work.epoch = s.work.epoch) ∧ TimeKept s t) ∧
    (∀ b g i l ig cf : BitVec 16, Runs (.statReceived c 0 copy (.page1 b g i l ig cf)) s fun t =>
      t.rd (pgCLANE c) CLANE_CE_CNT0_BADFR = b.toNat ∧ t.rd (pgCLANE c) CLANE_CE_CNT0_SEQGAP = g.toNat ∧
      t.rd (pgCLANE c) CLANE_CE_CNT1_ILK = i.toNat ∧ t.rd (pgCLANE c) CLANE_CE_CNT1_LATE = l.toNat ∧
      t.rd (pgCLANE c) CLANE_CE_CNT2_IGNORED = ig.toNat ∧ t.rd (pgCLANE c) CLANE_CE_CNT2_CONFLICTS = cf.toNat ∧
      Changes [.lane] [laneStat (.cell c), pgCLANE c + CLANE_CE_CNT0_BADFR.at 0, pgCLANE c + CLANE_CE_CNT1_ILK.at 0,
        pgCLANE c + CLANE_CE_CNT2_IGNORED.at 0] s t) ∧
    (∀ (v l : BitVec 4) (f : BitVec 16), Runs (.statReceived c 0 copy (.page2 v l f)) s fun t =>
      t.rd (pgCLANE c) CLANE_CE_CAP_VER = v.toNat ∧ t.rd (pgCLANE c) CLANE_CE_CAP_LEGS = l.toNat ∧
      t.rd (pgCLANE c) CLANE_CE_CAP_S2F = f.toNat ∧ Changes [.lane] [laneStat (.cell c), pgCLANE c + CLANE_CE_CAP_VER.at 0] s t) ∧
    (∀ p : BitVec 4, Runs (.statReceived c 0 copy (.other p)) s fun t => Changes [.lane] [laneStat (.cell c)] s t)) ∧
  (∀ (s : State) (c : Fin 48) (copy : Bool) (y : BitVec 16) (m : Meas) (r : Vector (Option TransRep) 4) (x : Trip) (st : Stat) (e : Echo)
      (sub : Fin 40), ∀ i ∈ dataMessages c y copy m r x st e sub,
    ((s.rd pgPKG PKG_FENCE_STAT).testBit (c / 12) = true →
      (y = 0 → Runs i s fun t => t.rd pgPKG PKG_DISC_COUNT = min (s.rd pgPKG PKG_DISC_COUNT + 1) PKG_DISC_COUNT.max ∧
        OnlyDwords [pgPKG + PKG_DISC_COUNT.at 0] s t) ∧
      (y ≠ 0 → Runs i s fun t => t = s)) ∧
    (s.hearing c → s.rd (pgCLANE c) CLANE_LSTAT_STATE = 3 → y = 0 → copy = true → (s.work.ln c).predGood = true → Runs i s fun t =>
      (t.work.ln c).predGood = false ∧ Changes [.lane] [laneStat (.cell c)] s t) ∧
    (s.checking c → y ≠ 0 → Runs i s fun t =>
      t.rd (pgCLANE c) CLANE_BAD_COUNT = min (s.rd (pgCLANE c) CLANE_BAD_COUNT + 1) CLANE_BAD_COUNT.max ∧ t.flagged (pgCLANE c) .ce 17 ∧
      Changes [.lane, .flue, .out] [laneStat (.cell c), pgCLANE c + CLANE_BAD_COUNT.at 0, pgCLANE c + HDR_FLT_CAUSE.at 0] s t))

/-- R284: an exchange starts with the next XID and keeps the ASYM_PS, TOL and RSH of its start (R292). R285: one without answer, with
a turnaround above 20 us, or whose round trip differs from the last accepted one by more than TOL, is counted, and the fourth in a
row raises CLANE CE 19; the fifth in a row that only its round trip would reject is accepted with RTT_JUMP and CE 20. R286: an
accepted one gives the round trip, the one-way delay and the turnaround, and anchors the cell end's time: O is T2 - t2 with
T2 = t1 + D; R is 0 after the first, (T2 - T2prev)/(t2 - t2prev) - 1 after the second, and moves by a part 2^-RSH of the difference
after every later one; from the second on a TIMEOFS is asked for. R289: an exchange begun before or in holdover is not used, and the
first accepted one after it leaves R. -/
def Obligations.TimeExchangesGiveOffset : Prop :=
  ∀ (s : State) (c : Fin 48),
    let pg := pgCLANE c
    let l := s.work.ln c
    let failed (t : State) : Prop :=
      (t.work.ln c).exch = [] ∧ (t.work.ln c).badRun = l.badRun + 1 ∧ (l.badRun = 3 → t.flagged pg .ce 19) ∧ (t.work.ln c).ofs = l.ofs
    (s.rd pg CLANE_LSTAT_STATE = 2 ∨ s.rd pg CLANE_LSTAT_STATE = 3 → Runs (.pingStart c) s fun t =>
      (∃ x : Exch, (t.work.ln c).exch = l.exch ++ [x] ∧ x.xid = l.xidNext ∧ x.t1 = none ∧ (x.usable = true ↔ ¬ s.on pgTALLY TALLY_STAT_HOLDOVER) ∧
        x.asym = toSigned 32 (s.rd pg CLANE_ASYM_PS) ∧ x.tol = s.rd pg CLANE_TT_CTL_TOL ∧ x.rsh = s.rd pg CLANE_TT_CTL_RSH) ∧
      (t.work.ln c).xidNext = l.xidNext % 255 + 1 ∧ 3 ∈ (t.work.ln c).p4 ∧ Changes [.lane] [] s t) ∧
    (∀ x : Exch, l.exch = [x] → x.t1.isSome →
      (x.usable = true → Runs (.exchangeLost c) s fun t =>
        failed t ∧ t.rd pg CLANE_TT_LOST = min (s.rd pg CLANE_TT_LOST + 1) CLANE_TT_LOST.max ∧
        Changes [.lane, .flue, .out] [pg + CLANE_TT_LOST.at 0, pg + HDR_FLT_CAUSE.at 0] s t) ∧
      (x.usable = false → Runs (.exchangeLost c) s fun t => (t.work.ln c).exch = [] ∧ Changes [.lane] [] s t) ∧
      (∀ (copy : Bool) (e : Echo) (sub : Fin 40), s.hearing c → s.rd pg CLANE_LSTAT_STATE = 3 → s.laneAlone c →
        ¬ (copy = true ∧ l.predGood = true) → e.xid.toNat = x.xid →
        let turn := diff44 e.t3.toNat e.t2.toNat
        let rtt : Rat := (diff44 (n16Of (t16 s.tally.a + sub.val)) (x.t1.getD 0) : Rat) - turn * (1 + x.rate)
        let d := roundR ((rtt + roundR ((x.asym * 16 : Int) / 1000)) / 2)
        let big := n16Of ((x.t1.getD 0 : Int) + d)
        let far : Prop := ∃ q : Rat, l.rtt = some q ∧ ((x.tol : Rat) < rtt - q ∨ (x.tol : Rat) < q - rtt)
        let unused := x.usable = false ∨ s.on pgTALLY TALLY_STAT_HOLDOVER
        let rejected (t : State) : Prop := failed t ∧ t.rd pg CLANE_TT_REJ = min (s.rd pg CLANE_TT_REJ + 1) CLANE_TT_REJ.max ∧
          Changes [.lane, .flue, .out] [laneStat (.cell c), pg + CLANE_TT_REJ.at 0, pg + HDR_FLT_CAUSE.at 0] s t
        (unused → Runs (.timeechoReceived c 0 copy e sub) s fun t => (t.work.ln c).exch = [] ∧ Changes [.lane] [laneStat (.cell c)] s t) ∧
        (¬ unused → 320000 < turn → Runs (.timeechoReceived c 0 copy e sub) s rejected) ∧
        (¬ unused → turn ≤ 320000 → far → l.rttRun < 4 → Runs (.timeechoReceived c 0 copy e sub) s fun t =>
          rejected t ∧ (t.work.ln c).rttRun = l.rttRun + 1) ∧
        (¬ unused → turn ≤ 320000 → ¬ far ∨ 4 ≤ l.rttRun → Runs (.timeechoReceived c 0 copy e sub) s fun t =>
          let k := t.work.ln c
          k.exch = [] ∧ k.accepted = l.accepted + 1 ∧ k.anchor = e.t2.toNat ∧ k.ofs = diff44 big e.t2.toNat ∧ k.rtt = some rtt ∧ k.badRun = 0 ∧
          (l.holdRate = true → k.rate = l.rate) ∧
          (l.holdRate = false → l.accepted = 0 → k.rate = 0) ∧
          (l.holdRate = false → ∀ (p2 : Nat) (pBig : Int), l.prev = some (p2, pBig) → diff44 e.t2.toNat p2 ≠ 0 →
            let q : Rat := (diff44 big (n16Of pBig) : Rat) / diff44 e.t2.toNat p2 - 1
            (l.accepted = 1 → k.rate = q) ∧ (2 ≤ l.accepted → k.rate = l.rate + (q - l.rate) / (2 ^ x.rsh : Nat))) ∧
          (1 ≤ l.accepted → k.timeOfs = some x.xid ∧ 2 ∈ k.p4) ∧ (l.accepted = 0 → k.timeOfs = l.timeOfs) ∧
          (far → t.rd pg CLANE_LSTAT_RTT_JUMP = 1 ∧ t.flagged pg .ce 20) ∧
          t.rd pg CLANE_RTT = ofSigned 24 (roundR rtt) ∧ t.rd pg CLANE_DDOWN = ofSigned 24 d ∧ t.rd pg CLANE_TURN = ofSigned 24 turn ∧
          Changes [.lane, .flue, .out] [laneStat (.cell c), pg + CLANE_RTT.at 0, pg + CLANE_DDOWN.at 0, pg + CLANE_TURN.at 0,
            pg + HDR_FLT_CAUSE.at 0] s t)))

/-! ### Ember, Kindling, resets and temperature (R347 to R350, R479 to R510) -/

/-- R348, R349, R350, R498: at an ember tick ECNT comes to the tick and the staged writes take effect (shown for a write of ALARM_LO
that stands alone). With none staged each enabled comparator decides on its sample: above its threshold by more than 5 mV it is high,
below by more than 5 mV low, and between them it keeps its level, or takes PU with UNDET at its first sample. The QUAL + 1st active
decision in a row makes one event: EVT, its count, TAMP where it guards a tamper, and a wake where it may wake, which sets ON and
drives WAKE_OUT, or cancels a sleep in its delay; a decision that is not active starts its count anew. R495 to R498: SLEEP is taken
with every cluster in OFF or BYPASS and refused with BADVAL otherwise; at the end of its delay WAKE_OUT falls and ON is 0; ECNT
reaching an enabled ALARM wakes; the crystal's states show; ECNT is read with its upper part latched; VEMB power-on resets the Ember
domain alone and drives WAKE_OUT high. -/
def Obligations.EmberCountsSleepsAndWakes : Prop :=
  let wakeRegs : List Nat := [pgEMB + EMB_WAKE_STAT_EC.at 0, pgEMB + EMB_WAKE_T.at 0, pgEMB + EMB_WAKE_COUNT.at 0, pgEMB + EMB_PWR_ON.at 0]
  (∀ (s : State) (v : Vector Rat 4), Runs (.emberTick v) s fun t =>
      let e := s.dev.ember
      let p := 2 ^ (15 - s.rd pgEMB EMB_EC_CTL)
      t.dev.ember.ecnt = (e.ecnt / p + 1) * p % 2 ^ 48 ∧ t.dev.ember.staged = [] ∧ TimeKept s t ∧
      (∀ x : Word, e.staged = [(pgEMB + EMB_ALARM_LO.at 0, x)] → ¬ s.on pgEMB HDR_LOCK_LOCKED → t.word (pgEMB + EMB_ALARM_LO.at 0) = x) ∧
      (e.staged = [] →
        Changes [.ember, .out] ([pgEMB + EMB_EC_STAT_LVL.at 0, pgEMB + EMB_EC_CNT01_EC0.at 0, pgEMB + EMB_EC_CNT23_EC2.at 0] ++ wakeRegs) s t ∧
        ∀ n : Fin 4,
          let lvl (u : State) : Bool := (u.rd pgEMB EMB_EC_STAT_LVL).testBit n
          let undet (u : State) : Bool := (u.rd pgEMB EMB_EC_STAT_UNDET).testBit n
          let cnt (u : State) : Nat := u.rd pgEMB (emberCount n)
          let thr : Rat := (s.rd pgEMB EMB_EC_CFG_THR n : Rat) * (12 / 10) / 256
          let pol : Bool := s.rd pgEMB EMB_EC_CFG_POL n == 1
          let q := e.qual[n]
          let q' := t.dev.ember.qual[n]
          (¬ s.on pgEMB EMB_EC_CFG_EN n → lvl t = lvl s ∧ cnt t = cnt s ∧ q' = q) ∧
          (s.on pgEMB EMB_EC_CFG_EN n →
            (thr + 5 / 1000 < v[n] → lvl t = true ∧ undet t = false) ∧ (v[n] < thr - 5 / 1000 → lvl t = false ∧ undet t = false) ∧
            (thr - 5 / 1000 ≤ v[n] → v[n] ≤ thr + 5 / 1000 →
              (e.seen.testBit n = true → lvl t = lvl s ∧ undet t = undet s) ∧
              (e.seen.testBit n = false → lvl t = (s.rd pgEMB EMB_EC_CFG_PU n == 1) ∧ undet t = true)) ∧
            (lvl t = pol → q' = 0 ∧ cnt t = cnt s) ∧
            (lvl t ≠ pol → q = 5 → q' = 5 ∧ cnt t = cnt s) ∧
            (lvl t ≠ pol → q ≠ 5 → q < s.rd pgEMB EMB_EC_CFG_QUAL n → q' = q + 1 ∧ cnt t = cnt s) ∧
            (lvl t ≠ pol → q ≠ 5 → s.rd pgEMB EMB_EC_CFG_QUAL n ≤ q →
              q' = 5 ∧ (t.rd pgEMB EMB_EC_STAT_EVT).testBit n = true ∧ cnt t = min (cnt s + 1) (emberCount n).max ∧
              (s.on pgEMB EMB_EC_CFG_TAMPER n → (t.rd pgEMB EMB_EC_STAT_TAMP).testBit n = true) ∧
              (s.on pgEMB EMB_EC_CFG_WAKE n → ¬ s.on pgEMB EMB_PWR_ON ∨ e.sleep = true →
                t.rd pgEMB EMB_PWR_ON = 1 ∧ t.dev.ember.sleep = false ∧ (t.rd pgEMB EMB_WAKE_STAT_EC).testBit n = true ∧
                t.rd pgEMB EMB_WAKE_T = t.dev.ember.ecnt % 2 ^ 32 ∧
                (e.sleep = true → t.rd pgEMB EMB_WAKE_STAT_CANCELLED = 1) ∧
                (¬ s.on pgEMB EMB_PWR_ON → LastOut (.pin "WAKE_OUT" 0 true) s t)))))) ∧
  (∀ s : State,
      (s.reaches (pgEMB + EMB_PWR_SLEEP.at 0) →
        (s.work.allIdle = true → Runs .emberSleep s fun t => t.dev.ember.sleep = true ∧ t.rd pgEMB EMB_PWR_ON = s.rd pgEMB EMB_PWR_ON ∧
          Changes [.ember] [] s t) ∧
        (s.work.allIdle = false → Runs .emberSleep s fun t => t.rd pgEMB HDR_STAT_BADVAL = 1 ∧ OnlyDwords [pgEMB + HDR_STAT_BADVAL.at 0] s t)) ∧
      (s.dev.ember.sleep = true → s.on pgEMB EMB_PWR_ON → Runs .sleepDelayExpiry s fun t =>
        t.rd pgEMB EMB_PWR_ON = 0 ∧ t.dev.ember.sleep = false ∧ LastOut (.pin "WAKE_OUT" 0 false) s t ∧
        Changes [.ember, .out] [pgEMB + EMB_PWR_ON.at 0] s t) ∧
      (s.dev.ember.sleep = false → Runs .sleepDelayExpiry s fun t => t = s) ∧
      (s.on pgEMB EMB_ALARM_HI_EN → Runs .emberAlarm s fun t =>
        t.dev.ember.ecnt = s.rd pgEMB EMB_ALARM_HI_ALARM * 2 ^ 32 + s.rd pgEMB EMB_ALARM_LO ∧
        (¬ s.on pgEMB EMB_PWR_ON ∨ s.dev.ember.sleep = true →
          t.rd pgEMB EMB_PWR_ON = 1 ∧ t.rd pgEMB EMB_WAKE_STAT_ALARM = 1 ∧ t.rd pgEMB EMB_WAKE_STAT_EC = 0 ∧
          t.rd pgEMB EMB_WAKE_T = s.rd pgEMB EMB_ALARM_LO ∧ t.dev.ember.sleep = false ∧
          t.rd pgEMB EMB_WAKE_COUNT = min (s.rd pgEMB EMB_WAKE_COUNT + 1) EMB_WAKE_COUNT.max ∧
          (s.dev.ember.sleep = true → t.rd pgEMB EMB_WAKE_STAT_CANCELLED = 1) ∧
          (¬ s.on pgEMB EMB_PWR_ON → LastOut (.pin "WAKE_OUT" 0 true) s t) ∧ Changes [.ember, .out] wakeRegs s t) ∧
        (s.on pgEMB EMB_PWR_ON → s.dev.ember.sleep = false → Changes [.ember] [] s t)) ∧
      (¬ s.on pgEMB EMB_ALARM_HI_EN → Runs .emberAlarm s fun t => t = s) ∧
      Runs .xtalFail s (fun t => t.rd pgEMB EMB_ESTAT_XTAL_RUN = 0 ∧ t.rd pgEMB EMB_ESTAT_XTAL_FAIL = 1 ∧ t.rd pgEMB EMB_ESTAT_RC = 1 ∧
        OnlyDwords [pgEMB + EMB_ESTAT_RC.at 0] s t) ∧
      Runs .crystalResume s (fun t => t.rd pgEMB EMB_ESTAT_XTAL_RUN = 1 ∧ t.rd pgEMB EMB_ESTAT_RC = s.rd pgEMB EMB_ESTAT_RC ∧
        OnlyDwords [pgEMB + EMB_ESTAT_RC.at 0] s t) ∧
      Runs .xtalStable s (fun t => t.rd pgEMB EMB_ESTAT_XTAL_RUN = 1 ∧
        t.rd pgEMB EMB_ESTAT_RC = (if s.on pgEMB EMB_ESTAT_XTAL_FAIL then s.rd pgEMB EMB_ESTAT_RC else 0) ∧
        OnlyDwords [pgEMB + EMB_ESTAT_RC.at 0] s t) ∧
      (s.readable (pgEMB + EMB_ECNT_LO.at 0) → Runs .ecntRead s fun t =>
        LastOut (.hostRead [BitVec.ofNat 32 s.dev.ember.ecnt] false) s t ∧
        t.rd pgEMB EMB_ECNT_HI = s.dev.ember.ecnt / 2 ^ 32 % 2 ^ EMB_ECNT_HI.wid ∧ Changes [.out] [pgEMB + EMB_ECNT_HI.at 0] s t) ∧
      Runs .vembPowerOn s (fun t => t.dev.ember = default ∧ t.dev.kin.kept = none ∧ LastOut (.pin "WAKE_OUT" 0 true) s t ∧
        ResetBut (fun a => a / 0x1000 != pgEMB / 0x1000) [] s t ∧ KindsKeptBut [.ember, .kin, .out] s t))

/-- R487, R489, R483, R484, R486: each event that Kindling waits for takes it to its next step, or, where the next ones have come
already, to the first whose event has not; step 4 starts the Tally from 0; a failed self-check, no lock, a failed training and a bad
or missing image are shown with their step and cause. IMG_GO of a locked page stores no IMG and takes the one that stands, and where
Kindling waits for no image sets BADVAL. An image that passes its checks is loaded to step 11, or its sets are discarded with cause
7; KINDLING_COMPLETE ends it with DONE. R438: as Kindling leaves step 6 a DRAM word that was marked bad is reported and reads 0. -/
def Obligations.KindlingStepsFollow : Prop :=
  ∀ s : State,
    let on4 : Nat := if s.dev.kin.link then (if s.dev.kin.dram then 7 else 6) else 5
    let locked := s.on pgSPLL SPLL_STAT_LOCKED
    (∀ ok : Bool, s.work.kindling = true → s.rd pgPKG PKG_KSTAT_STEP ≤ 3 → ¬ s.on pgPKG PKG_KSTAT_FAIL → Runs (.hearthSelfCheckDone ok) s fun t =>
      (ok = true → t.dev.hearth.checked = true ∧ ¬ t.on pgPKG PKG_KSTAT_FAIL ∧
        (¬ locked → t.rd pgPKG PKG_KSTAT_STEP = 4 ∧ t.tally = s.tally) ∧
        (locked → t.rd pgPKG PKG_KSTAT_STEP = on4 ∧ t.tally.running = true ∧ t.tally.a = ⟨0, 0, 0⟩)) ∧
      (ok = false → t.failedAt 3 1 ∧ OnlyDwords [kstat] s t)) ∧
    (s.kindlingAt 4 → Runs .lockedSet s fun t => t.rd pgSPLL SPLL_STAT_LOCKED = 1 ∧ t.tally.running = true ∧ t.tally.a = ⟨0, 0, 0⟩ ∧
      t.rd pgPKG PKG_KSTAT_STEP = on4 ∧
      (s.dev.bad = [] → DwordsKept [kstat, pgSPLL + SPLL_STAT_LOCKED.at 0] s t ∧ ∀ k : Kind, k.same s.dev t.dev)) ∧
    (s.work.kindling = false → Runs .lockedSet s fun t => t.rd pgSPLL SPLL_STAT_LOCKED = 1 ∧ OnlyDwords [pgSPLL + SPLL_STAT_LOCKED.at 0] s t) ∧
    (s.kindlingAt 4 → ¬ locked → Runs .kindlingPllTimeout s fun t => t.failedAt 4 2 ∧ OnlyDwords [kstat] s t) ∧
    (s.kindlingAt 5 → s.dev.kin.perst = false → Runs .pcieLinkUp s fun t => t.dev.kin.link = true ∧
      t.rd pgPKG PKG_KSTAT_STEP = (if s.dev.kin.dram then 7 else 6) ∧ (s.dev.bad = [] → Changes [.kin] [kstat] s t)) ∧
    (s.dev.kin.perst = true → Runs .pcieLinkUp s fun t => t = s) ∧
    (s.kindlingAt 6 → Runs (.dramTrained true) s (fun t => t.dev.kin.dram = true ∧ t.rd pgPKG PKG_KSTAT_STEP = 7 ∧
        (s.dev.bad = [] → Changes [.kin] [kstat] s t) ∧
        (∀ x : Nat, s.dev.bad = [(6, x)] → t.flagged pgPKG .uc 22 ∧ t.dev.bad = [] ∧ ∀ i, i < 8 → t.dramByte (8 * x + i) = 0)) ∧
      Runs (.dramTrained false) s (fun t => t.failedAt 6 3 ∧ t.rd pgPKG PKG_KSTAT_STEP = 6 ∧ OnlyDwords [kstat] s t)) ∧
    (s.kindlingAt 7 → s.dev.kin.strap = 0 → s.dev.kin.waitImg = false →
      Runs (.bootImageRead none) s (fun t => t.failedAt 7 8 ∧ t.dev.kin.waitImg = true ∧ Changes [.kin] [kstat] s t) ∧
      ∀ bs : List Byte, Runs (.bootImageRead (some bs)) s fun t =>
        (t.work.imageFail (t.work.bootImage 0) = none → t.rd pgPKG PKG_KSTAT_STEP = 8 ∧ t.dev.kin.img = some 0) ∧
        (∀ c, t.work.imageFail (t.work.bootImage 0) = some c →
          (¬ s.on pgPKG PKG_KSTAT_FALLBACK → t.rd pgPKG PKG_KSTAT_FALLBACK = 1 ∧ t.rd pgPKG PKG_KSTAT_STEP = 7 ∧ ¬ t.on pgPKG PKG_KSTAT_FAIL) ∧
          (s.on pgPKG PKG_KSTAT_FALLBACK → t.failedAt 7 c ∧ t.dev.kin.waitImg = true)) ∧
        Changes [.kin, .dram, .bad] [kstat] s t) ∧
    (∀ img : BitVec 8, s.reaches (pgPKG + PKG_KCTL_IMG_GO.at 0) →
      let waits : Prop := s.work.kindling = true ∧ s.rd pgPKG PKG_KSTAT_STEP = 7 ∧ (s.dev.kin.strap ≠ 0 ∨ s.dev.kin.waitImg = true)
      let k := if s.rd pgPKG HDR_LOCK_LOCKED = 0 then img.toNat else s.rd pgPKG PKG_KCTL_IMG
      let regs : List Nat := [kstat, pgPKG + PKG_KCTL_IMG.at 0, pgPKG + HDR_STAT_BADVAL.at 0]
      Runs (.kctlImgGo img) s fun t =>
        t.rd pgPKG PKG_KCTL_IMG = k ∧ (s.on pgPKG HDR_LOCK_LOCKED → t.rd pgPKG HDR_STAT_LOCK_WR = 1) ∧
        (waits → (s.work.imageFail (s.work.bootImage k) = none →
            t.rd pgPKG PKG_KSTAT_STEP = 8 ∧ t.rd pgPKG PKG_KSTAT_HOSTBOOT = 1 ∧ t.dev.kin.img = some k ∧ t.dev.kin.waitImg = false) ∧
          (∀ c, s.work.imageFail (s.work.bootImage k) = some c → t.failedAt 7 c ∧ t.rd pgPKG PKG_KSTAT_STEP = 7) ∧
          ((∀ e ∈ s.dev.bad, e.1 ≠ 6) → Changes [.kin] regs s t)) ∧
        (¬ waits → t.rd pgPKG HDR_STAT_BADVAL = 1 ∧ t.rd pgPKG PKG_KSTAT_STEP = s.rd pgPKG PKG_KSTAT_STEP ∧ OnlyDwords regs s t)) ∧
    (∀ k, s.kindlingAt 8 → s.dev.kin.img = some k → Runs .imageLoad s fun t =>
      t.dev.kin.img = none ∧
      ((t.rd pgPKG PKG_KSTAT_STEP = 11 ∧ t.rd pgPKG PKG_ACTIVE_CRC = leAt (s.work.bootImage k) 0x10) ∨
       (t.rd pgPKG PKG_KSTAT_STEP = 7 ∧ t.failedAt 10 7 ∧ t.dev.kin.waitImg = true))) ∧
    (s.kindlingAt 11 → Runs .kindlingComplete s fun t =>
      t.rd pgPKG PKG_KSTAT_DONE = 1 ∧ t.rd pgPKG PKG_KSTAT_STEP = 12 ∧
      (t.on pgPKG PKG_KSTAT_LANES_LATE ↔ s.on pgPKG PKG_KSTAT_LANES_LATE ∨
        ∃ c : Fin 48, s.dev.ember.marks.testBit (c / 12) = false ∧ s.on (pgCLANE c) CLANE_CTL_EN ∧ s.rd (pgCLANE c) CLANE_LSTAT_STATE ≠ 3) ∧
      OnlyDwords [kstat] s t)

/-- R15, R16, R75, R107, R108, R350, R438, R490 to R492, R506, R507, R556: a package reset returns every register but the kept ones
to its reset value, stops the Tally, names its cause, and keeps the DRAM unless its supply was lost. A region reset is refused with
BADVAL while a cluster of the region runs, and otherwise raises the fence, keeps both configuration sets, and leaves the clusters in
OFF or BYPASS, with the report that a bypass is closed; its end lowers the fence, and the lanes in use start training. A die reset
does so for both regions and the die, and is refused while one of them runs. THERMAL_OFF resets the package but the Hearth and the
sensors; PCIE_PERST_N resets the HOST page. -/
def Obligations.ResetsReturnToReset : Prop :=
  ∀ s : State,
    let stored (t : State) : Prop :=
      (s.dev.kin.retLost = false → t.dev.dram = s.dev.dram ∧ t.dev.sram = s.dev.sram) ∧
      (s.dev.kin.retLost = true → t.dev.dram = [] ∧ t.dev.sram = []) ∧ t.dev.ember = s.dev.ember ∧ t.dev.held = [] ∧
      t.rd pgCSTORE CSTORE_WSTAT_LOG_N = s.rd pgCSTORE CSTORE_WSTAT_LOG_N
    let running (n : Nat) : Prop := s.work.role ≠ 1 ∧ ∃ c : Fin 48, c.val / 12 = n ∧ s.rd (pgCLU c) CLU_CSTAT_STATE = 3
    Runs .porstNFall s (fun t => t.tally = Tally.reset ∧ t.dev.kin.porst = true ∧ t.rd pgPKG PKG_KSTAT_CAUSE = 1 ∧ t.rd pgPKG PKG_KSTAT_STEP = 1 ∧
      LastOut .outputsReset s t ∧ stored t ∧ ResetBut (keptRegs true false) [kstat, pgCSTORE + CSTORE_WSTAT_LOG_N.at 0] s t ∧
      t.pending = s.pending) ∧
    (∀ strap : BitVec 2, s.dev.kin.porst = true → Runs (.porstNRise strap) s fun t => t.dev.kin.porst = false ∧ t.dev.kin.strap = strap.toNat ∧
      t.rd pgEMB EMB_KECNT = s.dev.ember.ecnt % 2 ^ 32 ∧ Changes [.kin] [pgEMB + EMB_KECNT.at 0] s t) ∧
    (s.dev.kin.thermalOff = false → s.dev.kin.porst = false → s.reaches rstAddr → Runs .pkgReset s fun t => t.tally = Tally.reset ∧
      t.rd pgPKG PKG_KSTAT_CAUSE = 2 ∧ t.rd pgPKG PKG_KSTAT_STEP = 1 ∧ t.rd pgEMB EMB_KECNT = s.dev.ember.ecnt % 2 ^ 32 ∧
      LastOut .outputsReset s t ∧ stored t ∧
      ResetBut (keptRegs false false) [kstat, pgCSTORE + CSTORE_WSTAT_LOG_N.at 0, pgEMB + EMB_KECNT.at 0] s t ∧ t.pending = s.pending) ∧
    (s.dev.kin.thermalOff = true ∨ s.dev.kin.porst = true → Runs .pkgReset s fun t => t = s) ∧
    (s.dev.kin.shutdown = true → Runs .thermalOffEntry s fun t => t.tally = Tally.reset ∧ t.dev.kin.thermalOff = true ∧
      t.dev.hearth = s.dev.hearth ∧ t.dev.therm = s.dev.therm ∧ LastOut .outputsReset s t ∧
      t.rd pgEMB EMB_THOFF_COUNT = min (s.rd pgEMB EMB_THOFF_COUNT + 1) EMB_THOFF_COUNT.max) ∧
    (s.dev.kin.thermalOff = true → (∀ i : Fin 14, s.work.goodSensor i = true → s.work.temp i < 460) → Runs .thermalRestart s fun t =>
      t.dev.kin.thermalOff = false ∧ t.rd pgPKG PKG_KSTAT_CAUSE = 3 ∧ stored t ∧
      ResetBut (keptRegs false true) [kstat, pgCSTORE + CSTORE_WSTAT_LOG_N.at 0, pgEMB + EMB_KECNT.at 0] s t) ∧
    (s.reaches rstAddr →
      (∀ n : Fin 4, s.dev.kin.resets.testBit n = false →
        (running n → Runs (.regionReset (1 <<< n.val)) s fun t =>
          t.rd (pgRG n) HDR_STAT_BADVAL = 1 ∧ OnlyDwords [pgRG n + HDR_STAT_BADVAL.at 0] s t) ∧
        (¬ running n → Runs (.regionReset (1 <<< n.val)) s fun t =>
          (t.rd pgPKG PKG_FENCE_STAT).testBit n = true ∧ t.dev.kin.resets.testBit n = true ∧ t.rd (pgRG n) RG_CYC_CTL = 0 ∧
          (t.region n).run = false ∧
          (∀ c : Fin 48, c.val / 12 = n →
            (s.rd (pgCLU c) CLU_CSTAT_STATE = 4 → t.rd (pgCLU c) CLU_CSTAT_STATE = 4 ∧
              t.rd (pgCLU c) CLU_CSTAT_BYPASSED = s.rd (pgCLU c) CLU_CSTAT_BYPASSED) ∧
            (s.rd (pgCLU c) CLU_CSTAT_STATE ≠ 4 → t.rd (pgCLU c) CLU_CSTAT_STATE = 0)) ∧
          (∀ a, inRegion n a = true → t.word a &&& rwsMask a = s.word a &&& rwsMask a) ∧ t.dev.shadow = s.dev.shadow ∧ TimeKept s t)) ∧
      (∀ d : Fin 2, s.dev.kin.resets = 0 → s.dev.kin.dieResets = 0 →
        let refused : Prop := running (2 * d.val) ∨ running (2 * d.val + 1)
        (refused → Runs (.dieReset (1 <<< d.val)) s fun t => t.rd pgPKG HDR_STAT_BADVAL = 1 ∧ OnlyDwords [pgPKG + HDR_STAT_BADVAL.at 0] s t) ∧
        (¬ refused → Runs (.dieReset (1 <<< d.val)) s fun t =>
          t.dev.kin.dieResets = 2 ^ d.val ∧ t.dev.kin.resets = 3 * 4 ^ d.val ∧
          (∀ f ∈ [2 * d.val, 2 * d.val + 1, 4 + d.val], (t.rd pgPKG PKG_FENCE_STAT).testBit f = true) ∧
          t.dev.shadow = s.dev.shadow ∧ TimeKept s t))) ∧
    (∀ n : Fin 4, s.dev.kin.resets = 2 ^ n.val → s.dev.kin.dieResets = 0 → s.dev.ember.marks.testBit n = false → ¬ s.on pgPKG PKG_SWAP_STAT_PENDING →
      Runs (.regionResetDone n) s fun t => (t.rd pgPKG PKG_FENCE_STAT).testBit n = false ∧ t.dev.kin.resets = 0 ∧
        (∀ c : Fin 48, c.val / 12 = n → s.work.cellEn c = true → t.rd (pgCLANE c) CLANE_LSTAT_STATE = 1)) ∧
    Runs .pciePerstFall s (fun t => t.dev.kin.perst = true ∧ t.dev.kin.link = false ∧ ResetBut (fun a => a / 0x1000 != pgHOST / 0x1000) [] s t ∧
      KindsKeptBut [.kin] s t) ∧
    Runs .pciePerstRise s (fun t => t.dev.kin.perst = false ∧ Changes [.kin] [] s t)

/-- R500 to R510: a sample shows every reading; a reading outside -60 to +180 degrees marks its sensor bad, and so does the fourth
sample in a row in which a sensor alone lies more than 12 degrees off its neighbours; WGATE is 1 exactly if each die has a good
sensor and every good one reads 0 to 100 degrees. With equal readings in span it sets TMAX, TMIN, the peak and the Damper's level of
R504; 130 degrees turn fast sampling on, counted, and 10 ms below 128 turn it off; 145 degrees in two samples in a row raise THERM
FATAL 19 and a level 4 reaction. A sensor without a reading is marked bad, counted and raised, UC 17 with one left on its die and
FATAL 18 with none. PEAK_RST sets the peak to TMAX. -/
def Obligations.TemperaturesActed : Prop :=
  ∀ s : State,
    (∀ x g : Vector (BitVec 12) 14, Runs (.tempSample x g) s fun t =>
      (∀ i : Fin 14, t.work.temp i = x[i].toInt ∧
        (s.work.goodSensor i = true → x[i].toInt < -240 ∨ 720 < x[i].toInt → t.work.goodSensor i = false)) ∧
      (t.rd pgTHERM THERM_TSTAT_WGATE = 1 ↔ (∀ d : Fin 4, ∃ i ∈ dieSensors d, t.work.goodSensor i = true) ∧
        ∀ i : Fin 14, t.work.goodSensor i = true → 0 ≤ x[i].toInt ∧ x[i].toInt ≤ 400) ∧ TimeKept s t) ∧
    (¬ s.on pgTHERM HDR_INJ_ARMED → s.rd pgTHERM THERM_SENS_GOOD = 0x3FFF →
      (∀ (x : Vector (BitVec 12) 14) (i : Fin 14) (b : Int), (∀ j : Fin 14, j ≠ i → x[j].toInt = b) → -240 ≤ b → b ≤ 720 →
        -240 ≤ x[i].toInt → x[i].toInt ≤ 720 → 48 < (x[i].toInt - b).natAbs → Runs (.tempSample x (Vector.replicate 14 0)) s fun t =>
          t.rd pgTHERM THERM_SENS_SUSPECT = 2 ^ i.val ∧ t.dev.therm.dev[i] = s.dev.therm.dev[i] + 1 ∧
          (s.dev.therm.dev[i] < 3 → t.rd pgTHERM THERM_SENS_GOOD = 0x3FFF) ∧
          (3 ≤ s.dev.therm.dev[i] → t.rd pgTHERM THERM_SENS_GOOD = 0x3FFF - 2 ^ i.val ∧ t.flagged pgTHERM .ce 16)) ∧
      (∀ x : BitVec 12, -240 ≤ x.toInt → x.toInt ≤ 720 → Runs (.tempSample (Vector.replicate 14 x) (Vector.replicate 14 0)) s fun t =>
        let q := x.toInt
        let fast := s.on pgTHERM THERM_TSTAT_FAST
        let d := s.rd pgTHERM THERM_TCFG_DAMP_T
        let l := s.rd pgTHERM THERM_TSTAT_TLEVEL
        (∀ i : Fin 14, t.rd pgTHERM THERM_TS_DEV i = 0) ∧ t.rd pgTHERM THERM_SENS_GOOD = 0x3FFF ∧
        (q < 512 → t.rd pgTHERM THERM_TSTAT_TMAX = ofSigned 8 (q / 4) ∧ t.rd pgTHERM THERM_TSTAT_TMIN = ofSigned 8 (q / 4)) ∧
        t.dev.therm.peak = some (max q (s.dev.therm.peak.getD q)) ∧
        (l ≤ 1 → 4 * d ≤ q → 0 < s.rd pgTHERM THERM_TCFG_DSTEP →
          t.rd pgTHERM THERM_TSTAT_TLEVEL = min 7 (1 + (q - 4 * d).toNat / (4 * s.rd pgTHERM THERM_TCFG_DSTEP))) ∧
        (l ≤ 1 → q < 4 * d → t.rd pgTHERM THERM_TSTAT_TLEVEL = if q ≤ 4 * d - 8 then 0 else l) ∧
        (520 ≤ q → t.rd pgTHERM THERM_TSTAT_FAST = 1 ∧
          t.rd pgTHERM THERM_FAST_COUNT = if s.rd pgTHERM THERM_TSTAT_FAST = 0 then min (s.rd pgTHERM THERM_FAST_COUNT + 1) THERM_FAST_COUNT.max
            else s.rd pgTHERM THERM_FAST_COUNT) ∧
        (q < 520 → ¬ fast → t.rd pgTHERM THERM_TSTAT_FAST = 0) ∧
        (q < 512 → fast → (t.rd pgTHERM THERM_TSTAT_FAST = 0 ↔ 200 ≤ s.dev.therm.cool)) ∧
        (q < 580 → t.dev.kin = s.dev.kin) ∧
        (580 ≤ q → (∃ i : Fin 14, 1 ≤ s.dev.therm.hot[i]) → s.dev.kin.shutdown = false → s.dev.kin.thermalOff = false →
          t.dev.kin.shutdown = true ∧ t.flagged pgTHERM .fatal 19 ∧ (s.notHeld 1 → ∃ h ∈ t.dev.hearth.held, h.kind = 1 ∧ h.level = 4) ∧
          (¬ s.on pgPKG PKG_KSTAT_DONE → t.failedAt (s.rd pgPKG PKG_KSTAT_STEP) 9)) ∧ TimeKept s t)) ∧
    (∀ i : Fin 14, (s.work.goodSensor i = true → Runs (.sensorReadingTimeout i) s fun t =>
        t.work.goodSensor i = false ∧ t.rd pgTHERM THERM_BAD_COUNT = min (s.rd pgTHERM THERM_BAD_COUNT + 1) THERM_BAD_COUNT.max ∧
        t.flagged pgTHERM .ce 16 ∧ ((t.work.goodOf (dieSensors (sensorDie i))).length = 1 → t.flagged pgTHERM .uc 17) ∧
        (t.work.goodOf (dieSensors (sensorDie i)) = [] → t.flagged pgTHERM .fatal 18) ∧ TimeKept s t) ∧
      (s.work.goodSensor i = false → Runs (.sensorReadingTimeout i) s fun t => t = s)) ∧
    (s.reaches (pgTHERM + THERM_TCMD.at 0) → Runs .thermPeakRst s fun t =>
      t.rd pgTHERM THERM_PEAK = s.rd pgTHERM THERM_TSTAT_TMAX ∧ t.dev.therm.peak = s.work.hottest (upto 14) ∧
      Changes [.therm] [pgTHERM + THERM_PEAK.at 0] s t)

/-! ### Twin packages (R412 to R435) -/

/-- R413, R425 to R427: three edges of ROLE_RX within 480 ticks of each other show RRX ACTIVE and set ARMED; 480 ticks without
one leave RRX with the pin, and an armed automatic standby takes over. TAKE takes over on a standby whose RRX is not ACTIVE, or with
FORCE, and is refused with its cause otherwise. R430, R431: HANDOVER is refused with its cause, or sends HO_REQ with D_HO 1.0 ms away
and the new epoch; a ready standby answers HO_ACK and both set HO_PEND, any other answers HO_NAK, and without the link no message
acts; a NAK or no answer refuses it with CE 24; at D_HO the standby takes over and the active package becomes STANDBY, its regions
releasing from their next boundaries. -/
def Obligations.TakeoverAndHandover : Prop :=
  (∀ s : State,
      (∀ since : Nat, Runs (.roleRxEdge since) s fun t =>
        t.dev.twin.rxPin = !s.dev.twin.rxPin ∧ t.dev.twin.rxEdges = (if since ≤ 480 then min (s.dev.twin.rxEdges + 1) 3 else 0) ∧
        (since ≤ 480 → 2 ≤ s.dev.twin.rxEdges → t.rd pgTWIN TWIN_TSTAT_RRX = 2 ∧
          (s.rd pgTWIN TWIN_TSTAT_RRX ≠ 2 → t.rd pgTWIN TWIN_TSTAT_ARMED = 1)) ∧
        (480 < since ∨ s.dev.twin.rxEdges < 2 → t.rd pgTWIN TWIN_TSTAT_RRX = s.rd pgTWIN TWIN_TSTAT_RRX ∧ Changes [.twin] [] s t)) ∧
      (let act : Prop := s.rd pgTWIN TWIN_TSTAT_RRX = 2 ∧ s.work.role = 1 ∧ s.on pgTWIN TWIN_TSTAT_ARMED ∧ s.on pgTWIN TWIN_TCFG_AUTO
       (act → s.work.nextEpoch < 2 ^ 32 → Runs .roleRxTimeout s fun t => t.rd pgTWIN TWIN_TSTAT_RRX = b2n s.dev.twin.rxPin ∧ TookOver s t ∧
         s.epochAfter (t.rd pgTWIN TWIN_EPOCH)) ∧
       (¬ act → Runs .roleRxTimeout s fun t => t.rd pgTWIN TWIN_TSTAT_RRX = b2n s.dev.twin.rxPin ∧ t.dev.twin.rxEdges = 0 ∧
         t.rd pgTWIN TWIN_TSTAT_ROLE = s.rd pgTWIN TWIN_TSTAT_ROLE)) ∧
      (∀ force : Bool, s.reaches (pgTWIN + TWIN_TCMD_TAKE.at 0) →
        (s.work.role = 0 → Runs (.twinTake force) s (TwinRefused 5 s)) ∧
        (s.work.role = 2 → Runs (.twinTake force) s (TwinRefused 2 s)) ∧
        (s.work.role = 1 → s.rd pgTWIN TWIN_TSTAT_RRX = 2 → force = false → Runs (.twinTake force) s (TwinRefused 1 s)) ∧
        (s.work.role = 1 → s.rd pgTWIN TWIN_TSTAT_RRX ≠ 2 ∨ force = true → s.work.nextEpoch < 2 ^ 32 → Runs (.twinTake force) s fun t =>
          TookOver s t ∧ s.epochAfter (t.rd pgTWIN TWIN_EPOCH)))) ∧
  (∀ s : State,
      let linkUp := s.on pgTWIN TWIN_TSTAT_LINK_UP
      (s.reaches (pgTWIN + TWIN_TCMD_HANDOVER.at 0) →
        (∀ c, s.work.hoRefusal = some c → Runs .twinHandover s (TwinRefused c s)) ∧
        (s.work.hoRefusal = none → Runs .twinHandover s fun t =>
          t.dev.twin.hoWait = some (timeOf16 (t16 s.tally.a + 16000000)) ∧
          TwinSent 5 0 0 0 (hoWords (timeOf16 (t16 s.tally.a + 16000000)) ++ [w32 s.work.nextEpoch]) s t ∧ Changes [.twin, .out] [] s t)) ∧
      (∀ (d : Time) (e : Word),
        let agrees : Prop := s.work.role = 1 ∧ s.work.covers s.work.readyMask = true ∧ s.dev.twin.ho = none
        (linkUp → agrees → Runs (.hoReqReceived d e) s fun t => TwinSent 6 0 0 0 (hoWords d) s t ∧ t.rd pgTWIN TWIN_TSTAT_HO_PEND = 1 ∧
          t.dev.twin.ho = some (d, e.toNat) ∧ Changes [.twin, .out] [pgTWIN + TWIN_TSTAT_HO_PEND.at 0] s t) ∧
        (linkUp → ¬ agrees → Runs (.hoReqReceived d e) s fun t => TwinSent 7 0 0 0 (hoWords d) s t ∧ Changes [.out] [] s t) ∧
        (¬ linkUp → Runs (.hoReqReceived d e) s fun t => t = s)) ∧
      (∀ d : Time, s.dev.twin.hoWait = some d →
        (Runs (.hoAckReceived d) s fun t => t.rd pgTWIN TWIN_TSTAT_HO_PEND = 1 ∧ t.dev.twin.hoWait = none ∧
          t.dev.twin.ho = some (d, s.work.nextEpoch) ∧ Changes [.twin] [pgTWIN + TWIN_TSTAT_HO_PEND.at 0] s t) ∧
        (∀ x ∈ [Instr.hoNakReceived d, Instr.hoAnswerTimeout], Runs x s fun t =>
          t.rd pgTWIN TWIN_TSTAT_REFUSED = 1 ∧ t.rd pgTWIN TWIN_TSTAT_REF_CAUSE = 3 ∧ t.dev.twin.hoWait = none ∧ t.flagged pgTWIN .ce 24 ∧
          Changes [.twin, .flue, .out] [pgTWIN + TWIN_TSTAT_REFUSED.at 0, pgTWIN + HDR_FLT_CAUSE.at 0] s t)) ∧
      (s.dev.twin.hoWait = none → ∀ d : Time, ∀ x ∈ [Instr.hoAckReceived d, Instr.hoNakReceived d, Instr.hoAnswerTimeout], Runs x s fun t => t = s) ∧
      (∀ (d : Time) (e : Nat), s.dev.twin.ho = some (d, e) →
        (s.work.role = 1 → max e s.work.nextEpoch < 2 ^ 32 → Runs .handoverTime s fun t => TookOver s t ∧
          t.rd pgTWIN TWIN_EPOCH = max e s.work.nextEpoch) ∧
        (s.work.role = 2 → Runs .handoverTime s fun t => t.rd pgTWIN TWIN_TSTAT_ROLE = 1 ∧ t.rd pgTWIN TWIN_TSTAT_HANDED = 1 ∧
          t.dev.twin.ho = none ∧ t.rd pgTWIN TWIN_EPOCH = s.rd pgTWIN TWIN_EPOCH ∧
          ∀ n : Fin 4, (s.work.cycling n = true → ∃ a : Int, (t.region n).releaseAt = some a ∧
              (0 < s.rd (pgRG n) RG_CYC_PERIOD → t16 s.tally.a + 8000 ≤ a)) ∧
            (s.work.cycling n = false → (t.region n).standby = true))))

/-- R414, R418, R419, R423, R424, R432, R111: a HELLO with the package's PAIR over trained lanes shows the twin and brings the link
up, and any other does nothing; without a good packet it goes down with UC 18; HELLO and HEALTH go out again, HEALTH with the regions
that run here and the marks; HEALTH shows in HLTH0 to HLTH2 with age 0; an age beyond 2,000 us or a twin too long not ready ends
HEALTH_OK; an ACTIVE package that sees its twin ACTIVE sets CONFLICT and steps down before a higher epoch. A COPY joins its region's
image, or starts one, and COPY_END lets it be committed only if whole, sound and of the same configuration, with CE 22 if not the
last; a fenced region's are discarded and counted, and neither acts without the link or on an active region. -/
def Obligations.TwinLinkCarries : Prop :=
  ∀ s : State,
    let linkUp := s.on pgTWIN TWIN_TSTAT_LINK_UP
    let hello : List Word := [w32 (s.work.pairNo * 2 ^ 16 + s.work.pkgNo), w32 s.work.role, s.word (pgPKG + PKG_ACTIVE_CRC.at 0)]
    (∀ (pair : BitVec 16) (pkg : BitVec 10) (role : BitVec 2) (crc epoch : Word),
      let ours : Prop := s.work.pairNo ≠ 0 ∧ pair.toNat = s.work.pairNo ∧ s.work.twinTrained = true
      (ours → s.work.role = 1 → Runs (.helloReceived pair pkg role crc epoch) s fun t =>
        t.rd pgTWIN TWIN_TSTAT_LINK_UP = 1 ∧ t.rd pgTWIN TWIN_PEER_TPKG = pkg.toNat ∧ t.rd pgTWIN TWIN_PEER_TPKG_VALID = 1 ∧
        t.rd pgTWIN TWIN_TEPOCH = epoch.toNat ∧ t.rd pgTWIN TWIN_HLTH_CRC = crc.toNat ∧ (linkUp ∨ TwinSent 1 0 0 0 hello s t) ∧ TimeKept s t) ∧
      (ours → s.work.role = 2 → role = 2 → s.rd pgTWIN TWIN_EPOCH < epoch.toNat → Runs (.helloReceived pair pkg role crc epoch) s fun t =>
        SteppedDown s t ∧ t.rd pgTWIN TWIN_TSTAT_CONFLICT = 1 ∧ t.flagged pgTWIN .ce 20) ∧
      (¬ ours → Runs (.helloReceived pair pkg role crc epoch) s fun t => t = s)) ∧
    (s.work.pairNo ≠ 0 → s.work.twinTrained = true → Runs .helloRepeat s fun t => TwinSent 1 0 0 0 hello s t ∧ Changes [.out] [] s t) ∧
    (linkUp → Runs .twinLinkTimeout s fun t => t.rd pgTWIN TWIN_TSTAT_LINK_UP = 0 ∧ t.flagged pgTWIN .uc 18 ∧
      t.rd pgTWIN TWIN_TSTAT_HEALTH_OK = 0 ∧ t.dev.twin.hoWait = none ∧ TimeKept s t) ∧
    (linkUp →
      (Runs .healthRepeat s fun t => ∃ h0 h1 h2 : Word, TwinSent 4 0 0 0 [h0, h1, h2] s t ∧ Changes [.out, .freeCtr] [] s t ∧
        ∀ n : Fin 4, (s.work.role ≠ 1 → (h0.toNat.testBit (28 + n) = true ↔ (s.region n).run = true ∧ (s.region n).standby = false)) ∧
          h0.toNat.testBit (16 + n) = s.dev.ember.marks.testBit n) ∧
      ∀ h0 h1 h2 : Word, Runs (.healthReceived h0 h1 h2) s fun t =>
        t.word (pgTWIN + TWIN_HLTH0_READY.at 0) = h0 &&& 0xFFFFFF3F#32 ∧ t.word (pgTWIN + TWIN_HLTH1_TMAX.at 0) = h1 &&& 0xFFFFFC00#32 ∧
        t.word (pgTWIN + TWIN_HLTH2_RUN.at 0) = h2 ∧ t.rd pgTWIN TWIN_HLTH_AGE = 0 ∧ t.rd pgTWIN TWIN_TSTAT_TREADY = h0.toNat / 2 ^ 28 ∧
        TimeKept s t) ∧
    (¬ linkUp → Runs .healthRepeat s (fun t => t = s) ∧ ∀ h0 h1 h2 : Word, Runs (.healthReceived h0 h1 h2) s fun t => t = s) ∧
    (Runs .healthAgeExpiry s fun t => 2000 < t.rd pgTWIN TWIN_HLTH_AGE ∧ t.rd pgTWIN TWIN_TSTAT_HEALTH_OK = 0 ∧
      (s.on pgTWIN TWIN_TSTAT_HEALTH_OK → s.work.pairNo ≠ 0 → t.flagged pgTWIN .ce 19)) ∧
    (s.work.covers (s.rd pgTWIN TWIN_TSTAT_TREADY) = false → Runs .twinReadyTimeout s fun t =>
      t.dev.twin.notReady = true ∧ t.rd pgTWIN TWIN_TSTAT_HEALTH_OK = 0) ∧
    (s.work.role = 2 → s.rd pgTWIN TWIN_TSTAT_RRX = 2 → Runs .twinConflictDetect s fun t =>
      t.rd pgTWIN TWIN_TSTAT_CONFLICT = 1 ∧ t.flagged pgTWIN .ce 20 ∧
      (s.rd pgTWIN TWIN_EPOCH < s.rd pgTWIN TWIN_TEPOCH → SteppedDown s t) ∧
      (s.rd pgTWIN TWIN_TEPOCH ≤ s.rd pgTWIN TWIN_EPOCH → t.rd pgTWIN TWIN_TSTAT_ROLE = 2)) ∧
    (∀ (n : Fin 4) (cyc ofs : Word) (data : List Word) (len digest crc : Word),
      let copies : List Instr := [.copyReceived n cyc ofs data, .copyEndReceived n cyc len digest crc]
      let fenced : Prop := (s.rd pgPKG PKG_FENCE_STAT).testBit n = true
      let old := s.dev.twin.rg[n].img
      let joins (i : ImgIn) : Prop := i.cyc = cyc.toNat ∧ i.verdict = none
      let is (i : ImgIn) : Prop := (old = some i ∧ joins i) ∨ (i = ⟨cyc.toNat, [], none⟩ ∧ ∀ j, old = some j → ¬ joins j)
      (¬ linkUp ∨ ((s.region n).standby = false ∧ ¬ fenced) → ∀ x ∈ copies, Runs x s fun t => t = s) ∧
      (linkUp → fenced → ∀ x ∈ copies, Runs x s fun t =>
        t.rd pgPKG PKG_DISC_COUNT = min (s.rd pgPKG PKG_DISC_COUNT + 1) PKG_DISC_COUNT.max ∧ OnlyDwords [pgPKG + PKG_DISC_COUNT.at 0] s t) ∧
      (∀ i : ImgIn, linkUp → (s.region n).standby = true → ¬ fenced → is i →
        (Runs (.copyReceived n cyc ofs data) s fun t =>
          t.dev.twin.rg[n].img = some ⟨i.cyc, i.words ++ data.zipIdx.map (fun e => (ofs.toNat + 4 * e.2, e.1)), none⟩ ∧ Changes [.twin] [] s t) ∧
        (¬ s.on pgTWIN HDR_INJ_ARMED → Runs (.copyEndReceived n cyc len digest crc) s fun t =>
          t.dev.twin.rg[n].img = some ⟨i.cyc, i.words, some (len.toNat == s.work.copyBytes n && imgWhole i len.toNat &&
            (crc32 ((imgWords i len.toNat).flatMap beBytes) == digest.toNat) && (crc.toNat == s.rd pgPKG PKG_ACTIVE_CRC))⟩ ∧
          t.rd pgTWIN TWIN_HLTH_CRC = crc.toNat ∧ (crc.toNat ≠ s.rd pgPKG PKG_ACTIVE_CRC → t.flagged pgTWIN .ce 22) ∧ TimeKept s t)))

/-! ### Event queues and the recorder (R437 to R457) -/

/-- R439 to R443, R446: an event that reaches the posting engine leaves the events in flight, and a queue that selects its class takes
its packet at WR, on-chip or at the tail of its overflow, after the GAP packet that earlier losses call for; a queue that does not
select it is as it was, and one whose position copies differ stops with UC 16. A write of POST puts a HOST packet into its queue
alone; a packet without room, or for a stopped queue, is dropped and counted, and want of room sets FULL and raises EQ CE 17. R443
to R447: NEXT moves RD past the head packet, and REL with it where AUTOREL is set, and on an empty or stopped queue is refused with
BADVAL; RELEASE moves REL to a REL_TO between REL and RD and is refused otherwise, and loses a mark it passes; MARK saves RD and
REWIND returns to it or fails; a command whose comparison fails stops the queue; QRESET empties a queue, stopped or not, and calls
for a GAP packet; PEAK_RST sets PEAK to LEVEL; the head of the overflow moves on-chip exactly where the ring has room. -/
def Obligations.EventQueuesServe : Prop :=
  (∀ (s : State) (q : Fin 8),
      let pg := pgEQ q
      let selects (e : Event) : Prop := s.on pg EQ_QCFG_EN ∧ (s.rd pg EQ_QCFG_CLASSMASK).testBit e.cls = true ∧ 1 ≤ e.cls ∧ e.cls < 15
      let k := s.queue q
      let wr := s.rd pg EQ_WR
      let lost (t : State) : Prop := t.rd pg EQ_LOST_COUNT = min (s.rd pg EQ_LOST_COUNT + 1) EQ_LOST_COUNT.max ∧ (t.queue q).pkts = k.pkts ∧
        (t.queue q).lost = k.lost + 1 ∧ (t.queue q).gap = true
      (∀ e : Event, e ∉ s.dev.events → ∀ mis, Runs (.eventPost e mis) s fun t => t = s) ∧
      (∀ (e : Event) (mis : List (Fin 8)), e ∈ s.dev.events → Runs (.eventPost e mis) s fun t =>
        t.dev.events = s.dev.events.erase e ∧ TimeKept s t ∧
        (q ∉ mis → selects e → s.queueTakes q ((s.work.packet e).length / 2) → QueueTook q (s.work.packet e) s t) ∧
        (q ∈ mis → selects e → ¬ s.on pg EQ_QSTAT_STOPPED → ¬ s.on pg HDR_INJ_ARMED →
          t.rd pg EQ_QSTAT_STOPPED = 1 ∧ t.flagged pg .uc 16 ∧ lost t) ∧
        (¬ selects e → t.queue q = k ∧ t.rd pg EQ_WR = wr ∧ t.rd pg EQ_LOST_COUNT = s.rd pg EQ_LOST_COUNT)) ∧
      (∀ v : Word, s.reaches (pg + EQ_POST.at 0) →
        let d := s.work.packet ⟨14, pg / 0x1000, [v]⟩
        (s.queueTakes q 2 → Runs (.eqPost q v false) s fun t => QueueTook q d s t ∧ Changes [.eq, .out] (queueDwords q) s t) ∧
        (¬ s.on pg EQ_QCFG_EN → ¬ s.on pg HDR_INJ_ARMED → Runs (.eqPost q v false) s fun t => t = s) ∧
        (s.on pg EQ_QCFG_EN → s.on pg EQ_QSTAT_STOPPED → ¬ s.on pg HDR_INJ_ARMED → Runs (.eqPost q v false) s fun t =>
          lost t ∧ Changes [.eq] [pg + EQ_LOST_COUNT.at 0] s t) ∧
        (s.on pg EQ_QCFG_EN → ¬ s.on pg EQ_QSTAT_STOPPED → ¬ s.on pg HDR_INJ_ARMED →
          (k.gap = false → s.work.qLevel q + 2 ≤ s.work.qCap q → ¬ (k.ovf = wr ∧ s.work.qLevel q + 2 ≤ 2048) → Runs (.eqPost q v false) s fun t =>
            QueueTook q d s t ∧ (t.queue q).ovf = k.ovf ∧ Changes [.eq, .out, .dram, .bad] (queueDwords q) s t) ∧
          (k.gap = true → k.ovf = wr → s.work.qLevel q + 4 ≤ 2048 → Runs (.eqPost q v false) s fun t =>
            (t.queue q).pkts = k.pkts ++ [(wr, s.work.gapPacket q k.lost), ((wr + 2) % 2 ^ 32, d)] ∧ (t.queue q).gap = false ∧
            (t.queue q).lost = 0 ∧ t.rd pg EQ_WR = (wr + 4) % 2 ^ 32 ∧ Changes [.eq, .out] (queueDwords q) s t) ∧
          (s.work.qCap q < s.work.qLevel q + (if k.gap then 4 else 2) → Runs (.eqPost q v false) s fun t =>
            lost t ∧ t.rd pg EQ_QSTAT_FULL = 1 ∧ t.flagged pg .ce 17 ∧
            Changes [.eq, .flue, .out] [pg + EQ_LOST_COUNT.at 0, pg + EQ_QSTAT_FULL.at 0, pg + HDR_FLT_CAUSE.at 0] s t)) ∧
        (¬ s.on pg EQ_QSTAT_STOPPED → ¬ s.on pg HDR_INJ_ARMED → Runs (.eqPost q v true) s fun t =>
          t.rd pg EQ_QSTAT_STOPPED = 1 ∧ t.flagged pg .uc 16 ∧ (t.queue q).pkts = k.pkts))) ∧
  (∀ (s : State) (q : Fin 8), s.reaches (pgEQ q + EQ_QCMD_NEXT.at 0) → ¬ s.on (pgEQ q) HDR_INJ_ARMED →
      let pg := pgEQ q
      let rel := s.rd pg EQ_REL
      let stopped := s.on pg EQ_QSTAT_STOPPED
      let refused (t : State) : Prop := t.rd pg HDR_STAT_BADVAL = 1 ∧ OnlyDwords [pg + HDR_STAT_BADVAL.at 0] s t
      (¬ stopped → ∀ d : List Word, s.work.qHead q = d → d ≠ [] → Runs (.eqNext q false) s fun t =>
        t.rd pg EQ_RD = (s.rd pg EQ_RD + d.length / 2) % 2 ^ 32 ∧ t.rd pg EQ_WR = s.rd pg EQ_WR ∧
        t.rd pg EQ_REL = (if s.on pg EQ_QCFG_AUTOREL then t.rd pg EQ_RD else rel) ∧ Changes [.eq, .out] (queueDwords q) s t) ∧
      (stopped ∨ s.rd pg EQ_RD = s.rd pg EQ_WR → Runs (.eqNext q false) s refused) ∧
      (posSub (s.rd pg EQ_REL_TO) rel ≤ posSub (s.rd pg EQ_RD) rel → Runs (.eqRelease q false) s fun t =>
        t.rd pg EQ_REL = s.rd pg EQ_REL_TO ∧ t.rd pg EQ_RD = s.rd pg EQ_RD ∧ t.rd pg EQ_QSTAT_LEVEL = t.work.qLevel q % 2 ^ EQ_QSTAT_LEVEL.wid ∧
        (s.on pg EQ_QSTAT_MARK_VALID → posSub (s.rd pg EQ_MARK) rel < posSub (s.rd pg EQ_REL_TO) rel → t.rd pg EQ_QSTAT_MARK_LOST = 1) ∧
        Changes [.eq, .out] (queueDwords q) s t) ∧
      (posSub (s.rd pg EQ_RD) rel < posSub (s.rd pg EQ_REL_TO) rel → Runs (.eqRelease q false) s refused) ∧
      Runs (.eqMark q false) s (fun t => t.rd pg EQ_MARK = s.rd pg EQ_RD ∧ t.rd pg EQ_QSTAT_MARK_VALID = 1 ∧ t.rd pg EQ_QSTAT_MARK_LOST = 0 ∧
        OnlyDwords [pg + EQ_MARK.at 0, pg + EQ_QSTAT_LEVEL.at 0] s t) ∧
      (let good : Prop := s.on pg EQ_QSTAT_MARK_VALID ∧ ¬ s.on pg EQ_QSTAT_MARK_LOST
       (good → Runs (.eqRewind q false) s fun t => t.rd pg EQ_RD = s.rd pg EQ_MARK ∧ t.rd pg EQ_REL = rel ∧ Changes [.out] (queueDwords q) s t) ∧
       (¬ good → Runs (.eqRewind q false) s fun t => t.rd pg EQ_QSTAT_REWIND_FAIL = 1 ∧ t.rd pg EQ_RD = s.rd pg EQ_RD ∧
         OnlyDwords [pg + EQ_QSTAT_LEVEL.at 0] s t)) ∧
      (¬ stopped → ∀ x ∈ [Instr.eqNext q true, .eqRelease q true, .eqMark q true, .eqRewind q true], Runs x s fun t =>
        t.rd pg EQ_QSTAT_STOPPED = 1 ∧ t.flagged pg .uc 16 ∧ TimeKept s t) ∧
      Runs (.eqQreset q) s (fun t => (∀ f ∈ [EQ_WR, EQ_RD, EQ_REL, EQ_MARK, EQ_QSTAT_MARK_VALID, EQ_QSTAT_STOPPED, EQ_QSTAT_LEVEL], t.rd pg f = 0) ∧
        t.rd pg EQ_QSTAT_EMPTY = 1 ∧ (t.queue q).pkts = [] ∧ (t.queue q).gap = true ∧
        t.rd pg EQ_QRESET_COUNT = min (s.rd pg EQ_QRESET_COUNT + 1) EQ_QRESET_COUNT.max ∧ Changes [.eq, .out] (queueDwords q) s t) ∧
      Runs (.eqPeakRst q) s (fun t => t.rd pg EQ_PEAK = s.work.qLevel q % 2 ^ EQ_PEAK.wid ∧ OnlyDwords [pg + EQ_PEAK.at 0] s t)) ∧
  (∀ (s : State) (q : Fin 8), ¬ s.on (pgEQ q) HDR_INJ_ARMED → ¬ s.on (pgEQ q) EQ_QSTAT_STOPPED →
      (∀ (p : Nat) (d : List Word) (r : List (Nat × List Word)), (s.queue q).pkts = (p, d) :: r → (s.queue q).ovf = p →
        let e := (p + d.length / 2) % 2 ^ 32
        (posSub e (s.rd (pgEQ q) EQ_REL) ≤ 2048 → Runs (.ovfMove q false) s fun t =>
          (t.queue q).ovf = e ∧ (t.queue q).pkts = (s.queue q).pkts ∧ Changes [.eq] [] s t) ∧
        (2048 < posSub e (s.rd (pgEQ q) EQ_REL) → Runs (.ovfMove q false) s fun t => t = s)) ∧
      ((∀ p ∈ (s.queue q).pkts, p.1 ≠ (s.queue q).ovf) → Runs (.ovfMove q false) s fun t => t = s))

/-- R451 to R457: EN written 1 with a ring arms the recorder from OFF with frame numbering at 0, and without a ring is ignored with
BADVAL; EN written 0 turns it off; both are ignored with LOCK_WR on a locked page. STOP freezes it with a FREEZE entry; REARM arms a
frozen one again; a trigger, the host's or that of the lowest line that selects a rising pin, takes it from ARMED to POST with a
TRIGGER entry, the frame and the time, or on to FROZEN where RPOST is 0, and later ones only count; the oldest staged frame reaches
the DRAM, unless the Damper's gate holds it, and the oldest Ash record its copy in hub SRAM. Each change of state is an event of
class 8. -/
def Obligations.RecorderFollowsStates : Prop :=
  ∀ s : State,
    let st := s.rd pgREC REC_RSTAT_STATE
    let stat := pgREC + REC_RSTAT_STATE.at 0
    let armed (t : State) : Prop := t.rd pgREC REC_RSTAT_STATE = 1 ∧ t.rd pgREC REC_WFRAME = 0 ∧ t.rd pgREC REC_RSTAT_WRAPPED = 0 ∧
      t.dev.recd.start = true ∧ t.rd pgREC REC_FSIZE = s.work.recFrame.1.length ∧ (∃ e, e.cls = 8 ∧ t.dev.events = s.dev.events ++ [e]) ∧
      Changes [.recd, .events] [stat, pgREC + REC_WFRAME.at 0, pgREC + REC_FSIZE.at 0, pgREC + REC_RCTL_EN.at 0] s t
    let frozen (cause : Nat) (t : State) : Prop := t.rd pgREC REC_RSTAT_STATE = 3 ∧ t.rd pgREC REC_RSTAT_FCAUSE = cause ∧
      t.rd pgREC REC_IDX_SEQ = (s.rd pgREC REC_IDX_SEQ + 1) % 2 ^ 32 ∧ (∃ e, e.cls = 8 ∧ t.dev.events = s.dev.events ++ [e]) ∧
      Changes [.recd, .events, .sram, .bad] [stat, pgREC + REC_IDX_SEQ.at 0] s t
    let triggered (host : Bool) (line : Nat) (t : State) : Prop :=
      let ends := s.rd pgREC REC_RPOST = 0
      let more := (if s.rd pgREC REC_RCFG_DEC_POST = s.rd pgREC REC_RCFG_DEC then 0 else 1) + if ends then 1 else 0
      t.rd pgREC REC_RSTAT_STATE = (if ends then 3 else 2) ∧ (ends → t.rd pgREC REC_RSTAT_FCAUSE = 1) ∧
      t.rd pgREC REC_RSTAT_TRG_HOST = b2n host ∧ t.rd pgREC REC_RSTAT_TLINE = line ∧
      t.rd pgREC REC_TFRAME = s.rd pgREC REC_WFRAME ∧ t.rd pgREC REC_TRG_T_NS = s.tally.a.ns % 2 ^ REC_TRG_T_NS.wid ∧
      t.rd pgREC REC_IDX_SEQ = (s.rd pgREC REC_IDX_SEQ + 1 + more) % 2 ^ 32 ∧ t.dev.recd.postLeft = s.rd pgREC REC_RPOST ∧
      (∃ l : List Event, t.dev.events = s.dev.events ++ l ∧ l ≠ [] ∧ ∀ e ∈ l, e.cls = 8) ∧
      Changes [.recd, .events, .sram, .bad] [stat, pgREC + REC_TFRAME.at 0, pgREC + REC_TRG_T_NS.at 0, pgREC + REC_TRG_T_S.at 0,
        pgREC + REC_IDX_SEQ.at 0] s t
    (s.reaches rctlAddr →
      (¬ s.on pgREC HDR_LOCK_LOCKED →
        (s.rd pgREC REC_RING_SIZE ≠ 0 → st = 0 → Runs .recEnable s fun t => t.rd pgREC REC_RCTL_EN = 1 ∧ armed t) ∧
        (s.rd pgREC REC_RING_SIZE ≠ 0 → st ≠ 0 → Runs .recEnable s fun t => t.rd pgREC REC_RCTL_EN = 1 ∧ OnlyDwords [rctlAddr] s t) ∧
        (s.rd pgREC REC_RING_SIZE = 0 → Runs .recEnable s fun t => t.rd pgREC HDR_STAT_BADVAL = 1 ∧ OnlyDwords [pgREC + HDR_STAT_BADVAL.at 0] s t) ∧
        (st ≠ 0 → Runs .recDisable s fun t => t.rd pgREC REC_RCTL_EN = 0 ∧ t.rd pgREC REC_RSTAT_STATE = 0 ∧
          (∃ e, e.cls = 8 ∧ t.dev.events = s.dev.events ++ [e]) ∧ Changes [.events] [rctlAddr, stat] s t) ∧
        (st = 0 → Runs .recDisable s fun t => t.rd pgREC REC_RCTL_EN = 0 ∧ OnlyDwords [rctlAddr] s t)) ∧
      (s.on pgREC HDR_LOCK_LOCKED → ∀ x ∈ [Instr.recEnable, .recDisable], Runs x s fun t =>
        t.rd pgREC HDR_STAT_LOCK_WR = 1 ∧ OnlyDwords [pgREC + HDR_STAT_LOCK_WR.at 0] s t) ∧
      (st = 1 ∨ st = 2 → Runs .recStop s (frozen 2)) ∧ (st = 0 ∨ st = 3 → Runs .recStop s fun t => t = s) ∧
      (st = 3 → Runs .recRearm s armed) ∧ (st ≠ 3 → Runs .recRearm s fun t => t = s) ∧
      (st = 1 → Runs .recTrig s (triggered true 0)) ∧
      (st = 2 ∨ st = 3 → Runs .recTrig s fun t => t.rd pgREC REC_TRGLATE_COUNT = min (s.rd pgREC REC_TRGLATE_COUNT + 1) REC_TRGLATE_COUNT.max ∧
        OnlyDwords [pgREC + REC_TRGLATE_COUNT.at 0] s t) ∧
      (st = 0 → Runs .recTrig s fun t => t = s)) ∧
    (∀ k : Fin 32,
      let fires (l : Fin 16) : Prop := s.on pgREC REC_TRG_CFG_EN l ∧ s.rd pgREC REC_TRG_CFG_SRC l = 5 ∧ s.rd pgREC REC_TRG_CFG_SEL l % 32 = k
      (∀ l : Fin 16, fires l → (∀ j : Fin 16, j < l → ¬ fires j) → st = 1 → Runs (.gpioRise k) s (triggered false l)) ∧
      ((∀ l : Fin 16, ¬ fires l) → Runs (.gpioRise k) s fun t => t = s)) ∧
    (∀ (a : Nat) (bs : List Byte) (r : List (Nat × List Byte)), s.dev.recd.staged = (a, bs) :: r →
      (s.dev.shut = false → Runs .recorderFrameWrite s fun t =>
        t.dev.recd.staged = r ∧ (∀ i, i < bs.length → t.dramByte (a + i) = bs.getD i 0) ∧
        (∀ x, x < a ∨ a + bs.length ≤ x → t.dramByte x = s.dramByte x) ∧ Changes [.recd, .dram, .bad] [] s t) ∧
      (s.dev.shut = true → Runs .recorderFrameWrite s fun t => t.dev.held = s.dev.held ++ [.recorderFrameWrite] ∧ Changes [.held] [] s t)) ∧
    (s.dev.recd.staged = [] → s.dev.shut = false → Runs .recorderFrameWrite s fun t => t = s) ∧
    (∀ (sq : Nat) (ds : List Word) (r : List (Nat × List Word)), s.dev.recd.ash = (sq, ds) :: r → ds.length = 6 → Runs .ashCopy s fun t =>
      t.dev.recd.ash = r ∧ t.rd pgREC REC_ASH_COPY = sq % 2 ^ 32 ∧
      (∀ x, x < 0x748000 + 32 * ((sq - 1) % 512) ∨ 0x748020 + 32 * ((sq - 1) % 512) ≤ x → t.sramByte x = s.sramByte x) ∧
      (∀ i, i < 24 → t.sramByte (0x748000 + 32 * ((sq - 1) % 512) + i) = (ds.flatMap wordBytes).getD i 0) ∧
      Changes [.recd, .sram, .bad] [pgREC + REC_ASH_COPY.at 0] s t) ∧
    (s.dev.recd.ash = [] → Runs .ashCopy s fun t => t = s)

/-! ### The system network (R458 to R478) -/

/-- R459: a LINK packet in SYNC or UP shows the neighbour, and the second since SYNC takes the lane to UP; in other states it does
nothing. A lane in SYNC or UP sends its own LINK again. R460 to R464: a packet whose checks fail, or of no known type or too long,
counts in BAD_COUNT and raises CE 17 unless it was aborted. A good one is delivered where this package is its destination; a per-hop
packet goes no further, a unicast for another package is routed, a flood or multicast that came by the tree, or a new TRIP, goes on
by its ports, with HOPS one less, and not at all when HOPS would reach 0, with CE 19. A lane in SYNC takes LINK alone, and one that is
not trained nothing. A port sends its most urgent packet, the oldest of its class first, as its symbols, a TRESP with t3 and a TREQ
noted with t1. A command for a delivered packet does nothing where none of its type has been delivered. -/
def Obligations.NetworkPacketsPass : Prop :=
  (∀ (s : State) (l : Fin 12),
      let st := s.rd pgSYSN SL_SLSTAT_STATE l
      let trained : Prop := st = 2 ∨ st = 3
      (∀ (pkg : BitVec 10) (port : Fin 8),
        (trained → Runs (.slLinkReceived l pkg port) s fun t =>
          t.rd pgSYSN SL_RX_PKTS l = min (s.rd pgSYSN SL_RX_PKTS l + 1) SL_RX_PKTS.max ∧
          t.rd pgSYSN SL_SLSTAT_STATE l = (if st = 2 ∧ 1 ≤ (s.work.sln l).links then 3 else st) ∧
          (t.work.sln l).links = min ((s.work.sln l).links + 1) 2 ∧
          (l.val < 8 → t.rd pgSYSN SL_SLSTAT_NBR_PKG l = pkg.toNat ∧ t.rd pgSYSN SL_SLSTAT_NBR_PORT l = port ∧
            Changes [.sl] [pgSYSN + SL_SLSTAT_STATE.at l, pgSYSN + SL_RX_PKTS.at l] s t)) ∧
        (trained → 8 ≤ l.val → Runs (.slLinkReceived l pkg port) s (Changes [.sl, .out] [pgSYSN + SL_SLSTAT_STATE.at l, pgSYSN + SL_RX_PKTS.at l] s)) ∧
        (¬ trained → Runs (.slLinkReceived l pkg port) s fun t => t = s)) ∧
      (trained → l.val < 8 → Runs (.slLinkRepeat l) s fun t =>
        Queued 3 l (s.own 1 0xC000 [w32 (l.val * 2 ^ 28 + s.rd pgCSTORE CSTORE_IDENT_ACT_PKG)]) s t ∧
        t.seqOf 1 = (s.seqOf 1 + 1) % 256 ∧ Changes [.net, .sl, .flue, .out] sendDwords s t) ∧
      (trained → 8 ≤ l.val → Runs (.slLinkRepeat l) s fun t =>
        TwinSent 8 0 0 0 [w32 (l.val - 8)] s t ∧ Changes [.out] [pgSYSN + SL_TX_PKTS.at l] s t) ∧
      (¬ trained → Runs (.slLinkRepeat l) s fun t => t = s)) ∧
  (∀ s : State, ∀ x ∈ [(0x10, Instr.sysTripReceived), (2, .treqReceived), (3, .trespReceived), (0x11, .swapPacketReceived), (0x12, .planReceived),
      (0x14, .reportReceived), (0x13, .maskReceived), (0x20, .pointReceived), (0x30, .rreqReceived), (0x31, .rrspReceived)],
    s.arrived x.1 = none → Runs x.2 s fun t => t = s) ∧
  (∀ (s : State) (p : Fin 8) (k : Pkt) (sub : Fin 40),
      let st := s.rd pgSYSN SL_SLSTAT_STATE p
      let odd : Prop := pktPrio k.type.toNat = none ∨ 128 < k.payload.length
      (st ≠ 2 → st ≠ 3 → ∀ bad, Runs (.slPacketReceived p k bad sub) s fun t => t = s) ∧
      (st = 2 ∨ st = 3 → ¬ s.on pgSYSN HDR_INJ_ARMED →
        (odd → Runs (.slPacketReceived p k .good sub) s fun t =>
          t.rd pgSYSN SL_BAD_COUNT p = min (s.rd pgSYSN SL_BAD_COUNT p + 1) SL_BAD_COUNT.max ∧ t.flagged pgSYSN .ce 17 ∧
          Changes [.flue, .out] [pgSYSN + SL_BAD_COUNT.at p, pgSYSN + HDR_FLT_CAUSE.at 0] s t) ∧
        (¬ odd → k.type = 1 → exec (.slPacketReceived p k .good sub) s =
          exec (.slLinkReceived (p.castLE (by decide)) (BitVec.ofNat 10 (pay k 0)) (Fin.ofNat 8 (pay k 0 / 2 ^ 28))) s) ∧
        (¬ odd → k.type ≠ 1 → st = 2 → Runs (.slPacketReceived p k .good sub) s fun t => t = s))) ∧
  (∀ (s : State) (p : Fin 8), s.rd pgSYSN SL_SLSTAT_STATE p = 3 → ¬ s.on pgSYSN HDR_INJ_ARMED →
      (∀ (k : Pkt) (sub : Fin 40) (bad : PktCheck), bad ≠ .good → Runs (.slPacketReceived p k bad sub) s fun t =>
        t.rd pgSYSN SL_BAD_COUNT p = min (s.rd pgSYSN SL_BAD_COUNT p + 1) SL_BAD_COUNT.max ∧ t.inbox = s.inbox ∧
        (bad ≠ .aborted → t.flagged pgSYSN .ce 17) ∧ (bad = .badHeader → ∀ q : Fin 8, t.waiting q = s.waiting q)) ∧
      (∀ (k : Pkt) (sub : Fin 40) (prio : Nat), pktPrio k.type.toNat = some prio → k.type ≠ 1 → k.payload.length ≤ 128 →
        let kind := k.dst.toNat / 2 ^ 14
        let dest := k.dst.toNat % 1024
        let tree : Prop := k.type = 0x10 ∨ (s.rd pgSYSN SYSN_NCFG_FLOOD).testBit p = true
        let mine : Prop := kind = 3 ∨ (kind = 0 ∧ dest = s.rd pgCSTORE CSTORE_IDENT_ACT_PKG) ∨ (tree ∧ kind = 2) ∨
          (tree ∧ kind = 1 ∧ (s.rd pgSYSN SYSN_MGRP (dest / 32)).testBit (dest % 32) = true)
        let on : Pkt := { k with hops := k.hops - 1 }
        let lost : Prop := kind = 0 ∧ ¬ mine ∧ k.type = 0x30 ∧ s.route dest = none
        let seen : Prop := k.type = 0x10 ∧ (k.src.toNat, k.seq.toNat) ∈ s.dev.net.tripSeen
        let still (t : State) : Prop := ∀ q : Fin 8, t.waiting q = s.waiting q
        Runs (.slPacketReceived p k .good sub) s fun t =>
          t.rd pgSYSN SL_RX_PKTS p = min (s.rd pgSYSN SL_RX_PKTS p + 1) SL_RX_PKTS.max ∧
          (¬ lost → mine → t.inbox = s.inbox ++ [⟨some p.val, k, t16 s.tally.a + sub.val⟩]) ∧
          (¬ lost → ¬ mine → t.inbox = s.inbox) ∧
          (kind = 3 ∨ (kind = 0 ∧ mine) ∨ (1 ≤ kind ∧ (¬ tree ∨ seen)) → still t) ∧
          (kind = 0 → ¬ mine → ¬ lost → 2 ≤ k.hops.toNat → Routed prio on s t) ∧
          (lost → 2 ≤ k.hops.toNat → t.flagged pgSYSN .ce 18 ∧ ∀ q, s.route k.src.toNat = some q →
            k.src.toNat ≠ s.rd pgCSTORE CSTORE_IDENT_ACT_PKG → Queued 5 q ⟨0x31, s.rd pgTALLY TALLY_STAT_HOLDOVER != 0, k.src.setWidth 16,
              BitVec.ofNat 10 (s.rd pgCSTORE CSTORE_IDENT_ACT_PKG), 12, k.seq, [5, 0]⟩ s t) ∧
          (kind = 1 ∨ kind = 2 → tree → ¬ seen → 2 ≤ k.hops.toNat → Flooded prio on (some p.val) s t) ∧
          (kind = 0 → ¬ mine → k.hops.toNat ≤ 1 → still t ∧ t.flagged pgSYSN .ce 19) ∧
          (kind = 1 ∨ kind = 2 → k.hops.toNat ≤ 1 → still t) ∧ KindsKeptBut [.net, .sl, .flue, .out] s t)) ∧
  (∀ (s : State) (p : Fin 8) (sub : Fin 40),
      let st := s.rd pgSYSN SL_SLSTAT_STATE p
      let at16 : Int := t16 s.tally.a + sub.val
      let sentAs (k : Pkt) (cut : Bool) (t : State) : Prop := ∃ neg : Bool, LastOut (.packet p k cut (atPins (s.rd pgSYSN SL_SLCTL_TX_INV p != 0)
        (encodeSyms neg (symSof :: (pktBytes k).map Sym.d ++ [if cut then symAbort else symEof])).1)) s t
      (∀ (pre suf : List OutPkt) (o : OutPkt), st = 2 ∨ st = 3 → s.waiting p = pre ++ o :: suf → (∀ x ∈ pre, o.prio < x.prio) →
        (∀ x ∈ suf, o.prio ≤ x.prio) → Runs (.slPacketTransmit p sub) s fun t =>
          t.waiting p = pre ++ suf ∧ t.rd pgSYSN SL_TX_PKTS p = min (s.rd pgSYSN SL_TX_PKTS p + 1) SL_TX_PKTS.max ∧
          (o.pkt.type ≠ 3 → sentAs o.pkt o.bad t) ∧
          (o.pkt.type = 3 → sentAs { o.pkt with payload := o.pkt.payload.take 3 ++ stampWords at16 } o.bad t) ∧
          (o.pkt.type = 2 → ∀ x ∈ s.dev.net.treq, x.1 = p.val → x.2.1 = o.pkt.seq.toNat → x.2.2.1 = none →
            (x.1, x.2.1, some at16, x.2.2.2) ∈ t.dev.net.treq) ∧ (o.pkt.type ≠ 2 → t.dev.net = s.dev.net) ∧
          Changes [.net, .sl, .out, .freeCtr] [pgSYSN + SL_TX_PKTS.at p] s t) ∧
      ((st ≠ 2 ∧ st ≠ 3) ∨ s.waiting p = [] → Runs (.slPacketTransmit p sub) s fun t => t = s))

/-- R465, R466: TRIP_CMD sets and ends the host's assertions; TRIP_STAT.TX shows them with those of held reactions; a new
group is sent at once in a TRIP with every group asserted, and the end of the last one in a TRIP with ASSERT 0. The TRIP is
repeated while a group is asserted. A TRIP with ASSERT 1 trips the groups of its mask that TRIP_MEMB names; one with ASSERT
0 ends nothing; a group's timer ends its trip. -/
def Obligations.TripsSpread : Prop :=
  ∀ s : State,
    let lv := s.rd pgSYSN SYSN_TRIPSRC_LEVEL
    let held : Bool := lv != 0 && s.dev.hearth.held.any fun h => decide (lv ≤ h.level)
    let tx := s.rd pgSYSN SYSN_TRIP_STAT_TX
    let sent (a : Bool) (m : Nat) (t : State) : Prop := Originated s.inbox 1 0x10 0x8000 [w32 (b2n a * 2 ^ 31 + m)] s t
    let shows (host : Nat) (t : State) : Prop :=
      let new := host ||| (if held then s.rd pgSYSN SYSN_TRIPSRC_GMASK else 0)
      t.dev.net.hostTrip = host ∧ t.rd pgSYSN SYSN_TRIP_STAT_TX = new ∧
      (new ≠ 0 → new &&& tx ≠ new → sent true new t) ∧ (new = 0 → tx ≠ 0 → sent false tx t) ∧
      (new &&& tx = new → (new = 0 → tx = 0) → t.inbox = s.inbox ∧ ∀ p : Fin 8, t.waiting p = s.waiting p) ∧
      Changes [.net, .sl, .flue, .out] ((pgSYSN + SYSN_TRIP_STAT_TX.at 0) :: sendDwords) s t
    (∀ g : BitVec 16, s.reaches (pgSYSN + SYSN_TRIP_CMD_SET.at 0) → Runs (.sysTripSet g) s (shows (BitVec.ofNat 16 s.dev.net.hostTrip ||| g).toNat)) ∧
    (∀ g : BitVec 16, s.reaches (pgSYSN + SYSN_TRIP_CMD_CLR.at 0) → Runs (.sysTripClr g) s (shows (BitVec.ofNat 16 s.dev.net.hostTrip &&& ~~~g).toNat)) ∧
    (tx ≠ 0 → Runs .sysTripRepeat s fun t => sent true tx t ∧ Changes [.net, .sl, .flue, .out] sendDwords s t) ∧
    (tx = 0 → Runs .sysTripRepeat s fun t => t = s) ∧
    (∀ i : NetIn, s.arrived 0x10 = some i →
      let d := i.pkt.payload.headD 0
      let m := d.toNat % 2 ^ 16 &&& s.rd pgSYSN SYSN_TRIP_MEMB
      (d.msb = true → m ≠ 0 → Runs .sysTripReceived s fun t =>
        t.rd pgSYSN SYSN_TRIP_STAT_RX = (s.rd pgSYSN SYSN_TRIP_STAT_RX ||| m) ∧ t.inbox = s.inbox.erase i ∧
        t.rd pgSYSN SYSN_TRIP_COUNT = min (s.rd pgSYSN SYSN_TRIP_COUNT + 1) SYSN_TRIP_COUNT.max ∧
        Changes [.net] [pgSYSN + SYSN_TRIP_STAT_TX.at 0, pgSYSN + SYSN_TRIP_COUNT.at 0] s t) ∧
      (d.msb = false ∨ m = 0 → Runs .sysTripReceived s fun t => t.inbox = s.inbox.erase i ∧ Changes [.net] [] s t)) ∧
    (∀ g : Fin 16, Runs (.sysTripTimeout g) s fun t =>
      (∀ j : Fin 16, (t.rd pgSYSN SYSN_TRIP_STAT_RX).testBit j = ((s.rd pgSYSN SYSN_TRIP_STAT_RX).testBit j && j != g)) ∧
      OnlyDwords [pgSYSN + SYSN_TRIP_STAT_TX.at 0] s t)

/-- R467 to R469: an exchange sends a TREQ on PARENT, or on PARENT2 where PARENT is not in UP, and with neither the fault
PARENT_LOST, UC 23, as the parent is lost; a TREQ is answered on its port with UNC, STRATUM, GMPKG and t2. An answer of a
turn of 20 us or less, with no step since, sets TOFS, TMPD and TSTAT; any other is rejected; a lost or rejected exchange
counts, and the fourth in a row is CE 20. -/
def Obligations.NetworkTimeExchanged : Prop :=
  ∀ s : State,
    let a := s.rd pgSYSN SYSN_NCFG_PARENT
    let b := s.rd pgSYSN SYSN_NCFG_PARENT2
    let up (p : Nat) : Prop := p < 8 ∧ s.rd pgSYSN SL_SLSTAT_STATE p = 3
    let failed (t : State) : Prop := (3 ≤ s.dev.net.ttRun → t.flagged pgSYSN .ce 20 ∧ t.dev.net.ttRun = 0) ∧
      (s.dev.net.ttRun < 3 → t.dev.net.ttRun = s.dev.net.ttRun + 1)
    (s.on pgSYSN SYSN_NCFG_GM → Runs .sysTreqStart s fun t => t = s) ∧
    (¬ s.on pgSYSN SYSN_NCFG_GM → ∀ p, (up a ∧ p = a) ∨ (¬ up a ∧ up b ∧ p = b) → Runs .sysTreqStart s fun t =>
      t.rd pgSYSN SYSN_TSTAT_PARENT_UP = 1 ∧ Queued 2 p (s.own 2 0xC000 []) s t ∧ t.dev.net.ttAge = min (s.dev.net.ttAge + 1) 11 ∧
      t.dev.net.treq = s.dev.net.treq ++ [(p, s.seqOf 2, none, s.rd pgTALLY TALLY_STAT_STEP_SEQ, s.rd pgTALLY TALLY_STAT_HOLDOVER != 0)] ∧
      t.rd pgSYSN SYSN_TSTAT_STRATUM = (if 10 ≤ s.dev.net.ttAge then 0xFF else s.rd pgSYSN SYSN_TSTAT_STRATUM) ∧
      Changes [.net, .sl, .flue, .out] ((pgSYSN + SYSN_TSTAT_STRATUM.at 0) :: sendDwords) s t) ∧
    (¬ s.on pgSYSN SYSN_NCFG_GM → ¬ up a → ¬ up b → Runs .sysTreqStart s fun t =>
      let known : Prop := ¬ s.on pgSYSN SYSN_TSTAT_PARENT_UP ∧ (s.rd pgSYSN HDR_FLT_CAUSE).testBit 7 = true
      t.rd pgSYSN SYSN_TSTAT_PARENT_UP = 0 ∧ (a ≠ 15 ∨ b ≠ 15 → ¬ known → t.flagged pgSYSN .uc 23) ∧
      ((a = 15 ∧ b = 15) ∨ known → t.word (pgSYSN + HDR_FLT_CAUSE.at 0) = s.word (pgSYSN + HDR_FLT_CAUSE.at 0)) ∧
      t.rd pgSYSN SYSN_TSTAT_STRATUM = (if 10 ≤ s.dev.net.ttAge then 0xFF else s.rd pgSYSN SYSN_TSTAT_STRATUM) ∧
      Changes [.net, .flue, .out] [pgSYSN + SYSN_TSTAT_STRATUM.at 0, pgSYSN + HDR_FLT_CAUSE.at 0] s t) ∧
    (∀ i : NetIn, s.arrived 2 = some i → ∀ p, i.port = some p → p < 8 → Runs .treqReceived s fun t =>
      let gm : Bool := s.rd pgSYSN SYSN_NCFG_GM != 0
      let unc : Bool := s.rd pgTALLY TALLY_STAT_UNC_WIDE != 0 || s.rd pgTALLY TALLY_STAT_HOLDOVER != 0 ||
        (!gm && s.rd pgSYSN SYSN_TSTAT_UNC != 0)
      let d := w32 (b2n unc * 2 ^ 31 + (if gm then 0 else s.rd pgSYSN SYSN_TSTAT_STRATUM) * 2 ^ 16 +
        (if gm then s.rd pgCSTORE CSTORE_IDENT_ACT_PKG else s.rd pgSYSN SYSN_TSTAT_GMPKG))
      t.inbox = s.inbox.erase i ∧ Changes [.net, .sl, .flue, .out] sendDwords s t ∧ Queued 2 p ⟨3, s.rd pgTALLY TALLY_STAT_HOLDOVER != 0, 0xC000,
        BitVec.ofNat 10 (s.rd pgCSTORE CSTORE_IDENT_ACT_PKG), 12, i.pkt.seq, [d] ++ stampWords i.at16 ++ [0, 0]⟩ s t) ∧
    (∀ i : NetIn, s.arrived 2 = some i → i.port = none → Runs .treqReceived s fun t => t.inbox = s.inbox.erase i ∧ Changes [.net] [] s t) ∧
    (∀ i : NetIn, s.arrived 3 = some i →
      (s.dev.net.treq.find? fun x => some x.1 == i.port && x.2.1 == i.pkt.seq.toNat && x.2.2.1.isSome) = none →
      Runs .trespReceived s fun t => t.inbox = s.inbox.erase i ∧ t.dev.net.treq = s.dev.net.treq ∧ Changes [.net] [] s t) ∧
    (∀ i : NetIn, s.arrived 3 = some i → ∀ x, (s.dev.net.treq.find? fun x => some x.1 == i.port && x.2.1 == i.pkt.seq.toNat && x.2.2.1.isSome) = some x →
      let t1 := n16Of (x.2.2.1.getD 0)
      let t2 := pay i.pkt 1 % 4096 * 2 ^ 32 + pay i.pkt 2
      let t3 := pay i.pkt 3 % 4096 * 2 ^ 32 + pay i.pkt 4
      let t4 := n16Of i.at16
      let asym := roundR (s.work.rdS pgSYSN SL_ASYM_PS x.1 * 16 / 1000 : Rat)
      let taken : Prop := 0 ≤ stampDiff t3 t2 ∧ stampDiff t3 t2 ≤ 320000 ∧ s.rd pgTALLY TALLY_STAT_STEP_SEQ = x.2.2.2.1
      (taken → Runs .trespReceived s fun t =>
        t.rd pgSYSN SYSN_TOFS = ofSigned 32 (roundR ((stampDiff t2 t1 - stampDiff t4 t3 - asym : Int) / 2 : Rat)) ∧
        t.rd pgSYSN SYSN_TMPD = ofSigned 24 (roundR ((stampDiff t2 t1 + stampDiff t4 t3 : Int) / 2 : Rat)) ∧
        t.rd pgSYSN SYSN_TSTAT_FRESH = 1 ∧ t.rd pgSYSN SYSN_TSTAT_UNC = pay i.pkt 0 / 2 ^ 31 ∧ t.rd pgSYSN SYSN_TSTAT_GMPKG = pay i.pkt 0 % 1024 ∧
        t.rd pgSYSN SYSN_TSTAT_STRATUM = min (pay i.pkt 0 / 2 ^ 16 % 256 + 1) 0xFF ∧ t.dev.net.treq = s.dev.net.treq.erase x ∧
        t.dev.net.ttRun = 0 ∧ t.dev.net.ttAge = 0 ∧ t.inbox = s.inbox.erase i ∧
        Changes [.net] [pgSYSN + SYSN_TSTAT_FRESH.at 0, pgSYSN + SYSN_TOFS.at 0, pgSYSN + SYSN_TMPD.at 0, pgSYSN + SYSN_TT_T_NS.at 0] s t) ∧
      (¬ taken → Runs .trespReceived s fun t => t.rd pgSYSN SYSN_TT_REJ = min (s.rd pgSYSN SYSN_TT_REJ + 1) SYSN_TT_REJ.max ∧ failed t ∧
        t.dev.net.treq = s.dev.net.treq.erase x ∧ Changes [.net, .flue, .out] [pgSYSN + SYSN_TT_REJ.at 0, pgSYSN + HDR_FLT_CAUSE.at 0] s t)) ∧
    (∀ x, s.dev.net.treq.find? (fun x => x.2.2.1.isSome) = some x → Runs .sysExchangeLost s fun t =>
      t.rd pgSYSN SYSN_TT_LOST = min (s.rd pgSYSN SYSN_TT_LOST + 1) SYSN_TT_LOST.max ∧ failed t ∧ t.dev.net.treq = s.dev.net.treq.erase x ∧
      Changes [.net, .flue, .out] [pgSYSN + SYSN_TT_LOST.at 0, pgSYSN + HDR_FLT_CAUSE.at 0] s t) ∧
    ((∀ x ∈ s.dev.net.treq, x.2.2.1 = none) → Runs .sysExchangeLost s fun t => t = s)

/-- R471, R472: SWAP_GO and PLAN_GO send D and E0. A SWAP is refused with 0x82 without SWAP_EN, 0x0B where D is less than
1.5 ms away and 0x81 while a swap is armed or pending, and otherwise writes D and arms; a PLAN is refused with 0x82 without
PLAN_EN and with 0x83 while a region has CYC_EN 1, and otherwise writes E0. A REPORT counts and is recorded; RPT_RST clears
RPT_LAST. R178, R257, R473, R474: a MASK of an SGID the regions use replaces the bits of its originator's members and leaves
the other originators' as they were; one's own, or of an SGID not used, is ignored. A POINT files its value into every point
slot bound to it, for the cycle before its input deadline, and touches no region without such a slot. -/
def Obligations.SwapsPlansMasksAndPoints : Prop :=
  (∀ s : State,
      let dst := BitVec.ofNat 16 (s.rd pgSYSN SYSN_SWAP_DST)
      (s.fenceAt (pgSYSN + SYSN_SCMD_SWAP_GO.at 0) true = none → Runs .swapGo s fun t => Originated s.inbox 3 0x11 dst
        [w32 (s.rd pgPKG PKG_SWAP_TH), w32 (s.rd pgPKG PKG_SWAP_TL), w32 (s.rd pgPKG PKG_SWAP_TNS)] s t ∧
        Changes [.net, .sl, .flue, .out] sendDwords s t) ∧
      (s.reaches (pgSYSN + SYSN_SCMD_PLAN_GO.at 0) → Runs .planGo s fun t => Originated s.inbox 3 0x12 0x8000
        [w32 (s.rd pgSYSN SYSN_PLAN_TX), w32 (s.rd pgPKG PKG_E0_S_HI), w32 (s.rd pgPKG PKG_E0_S_LO), w32 (s.rd pgPKG PKG_E0_NS)] s t ∧
        Changes [.net, .sl, .flue, .out] sendDwords s t) ∧
      (∀ i : NetIn, s.arrived 0x11 = some i →
        let d : Time := ⟨pay i.pkt 0 % 2 ^ 16 * 2 ^ 32 + pay i.pkt 1, pay i.pkt 2 % 2 ^ 30, 0⟩
        let far : Prop := i.at16 + 24000000 ≤ t16 d
        let free : Prop := ¬ s.on pgPKG PKG_SWAP_STAT_ARMED ∧ ¬ s.on pgPKG PKG_SWAP_STAT_PENDING
        let reports (code : Nat) (t : State) : Prop := Originated (s.inbox.erase i) 3 0x14 (i.pkt.src.setWidth 16)
          [w32 (code * 2 ^ 24 + 2 ^ 22 + s.rd pgCSTORE CSTORE_IDENT_ACT_PKG)] s t ∧ Changes [.net, .sl, .flue, .out] sendDwords s t
        (¬ s.on pgSYSN SYSN_NCFG_SWAP_EN → Runs .swapPacketReceived s (reports 0x82)) ∧
        (s.on pgSYSN SYSN_NCFG_SWAP_EN → ¬ far → Runs .swapPacketReceived s (reports 0x0B)) ∧
        (s.on pgSYSN SYSN_NCFG_SWAP_EN → far → ¬ free → Runs .swapPacketReceived s (reports 0x81)) ∧
        (s.on pgSYSN SYSN_NCFG_SWAP_EN → far → free → Runs .swapPacketReceived s fun t =>
          t.rd pgPKG PKG_SWAP_TH = d.s / 2 ^ 32 ∧ t.rd pgPKG PKG_SWAP_TL = d.s % 2 ^ 32 ∧ t.rd pgPKG PKG_SWAP_TNS = d.ns ∧
          t.dev.net.swapFrom = some i.pkt.src.toNat ∧ t.rd pgPKG PKG_SWAP_STAT_ARMED = 1 ∧ t.rd pgPKG PKG_SWAP_STAT_CHECKING = 1 ∧
          t.inbox = s.inbox.erase i ∧ Changes [.net, .swap]
            ([pgPKG + PKG_SWAP_TH.at 0, pgPKG + PKG_SWAP_TL.at 0, pgPKG + PKG_SWAP_TNS.at 0, pgPKG + PKG_SWAP_STAT_ARMED.at 0] ++
              (List.range 4).map fun n => pgABC n + ABC_BOUND_NEXT_VALID.at 0) s t)) ∧
      (∀ i : NetIn, s.arrived 0x12 = some i →
        let stopped : Prop := ∀ n : Fin 4, ¬ s.on (pgRG n) RG_CYC_CTL
        let answers (code : Nat) (l : List Nat) (t : State) : Prop := t.rd pgSYSN SYSN_PLAN_STAT_SRC = i.pkt.src.toNat ∧
          Originated (s.inbox.erase i) 3 0x14 (i.pkt.src.setWidth 16)
            [w32 (code * 2 ^ 24 + 2 ^ 23 + s.rd pgCSTORE CSTORE_IDENT_ACT_PKG)] s t ∧
          Changes [.net, .sl, .flue, .out] ((pgSYSN + SYSN_PLAN_STAT_SRC.at 0) :: l ++ sendDwords) s t
        (¬ s.on pgSYSN SYSN_NCFG_PLAN_EN → Runs .planReceived s (answers 0x82 [])) ∧
        (s.on pgSYSN SYSN_NCFG_PLAN_EN → ¬ stopped → Runs .planReceived s fun t =>
          t.rd pgSYSN SYSN_PLAN_STAT_REFUSED = 1 ∧ answers 0x83 [] t) ∧
        (s.on pgSYSN SYSN_NCFG_PLAN_EN → stopped → Runs .planReceived s fun t =>
          t.rd pgSYSN SYSN_PLAN_STAT_APPLIED = 1 ∧ t.rd pgSYSN SYSN_PLAN_RX = pay i.pkt 0 ∧ t.rd pgPKG PKG_E0_S_HI = pay i.pkt 1 % 2 ^ 16 ∧
          t.rd pgPKG PKG_E0_S_LO = pay i.pkt 2 ∧ t.rd pgPKG PKG_E0_NS = pay i.pkt 3 % 2 ^ 30 ∧
          answers 0 [pgSYSN + SYSN_PLAN_RX.at 0, pgPKG + PKG_E0_S_HI.at 0, pgPKG + PKG_E0_S_LO.at 0, pgPKG + PKG_E0_NS.at 0] t)) ∧
      (∀ i : NetIn, s.arrived 0x14 = some i → Runs .reportReceived s fun t =>
        let code := pay i.pkt 0 / 2 ^ 24
        let f := if code = 0 ∨ code = 0x80 then SYSN_RPT_OK else SYSN_RPT_ERR
        t.rd pgSYSN SYSN_RPT_LAST_CODE = code ∧ t.rd pgSYSN SYSN_RPT_LAST_KIND = pay i.pkt 0 / 2 ^ 22 % 4 ∧
        t.rd pgSYSN SYSN_RPT_LAST_PKG = pay i.pkt 0 % 1024 ∧ t.rd pgSYSN f = min (s.rd pgSYSN f + 1) f.max ∧ t.inbox = s.inbox.erase i ∧
        Changes [.net] [pgSYSN + SYSN_RPT_LAST_CODE.at 0, pgSYSN + f.at 0] s t) ∧
      (s.reaches (pgSYSN + SYSN_SCMD_RPT_RST.at 0) → Runs .rptRst s fun t => t.word (pgSYSN + SYSN_RPT_LAST_CODE.at 0) = 0 ∧ OnlyDwords [pgSYSN + SYSN_RPT_LAST_CODE.at 0] s t)) ∧
  (∀ s : State,
      (∀ i : NetIn, s.arrived 0x13 = some i →
        let sg := pay i.pkt 0 % 1024
        let src := i.pkt.src.toNat
        let used : Prop := ∃ (n : Fin 4) (g : Fin 4), s.on (pgRG n) RG_CGRP_EN g ∧ s.rd (pgRG n) RG_CGRP_SGID g = sg
        let ignored : Prop := src = s.rd pgCSTORE CSTORE_IDENT_ACT_PKG ∨ ¬ used
        (ignored → Runs .maskReceived s fun t => t.inbox = s.inbox.erase i ∧ t.dev.net.masks = s.dev.net.masks ∧ Changes [.net] [] s t) ∧
        (¬ ignored → Runs .maskReceived s fun t =>
          let old := (s.dev.net.masks.find? fun m => m.src == src && m.sgid == sg).getD ⟨src, sg, 0, 0⟩
          (∃ m ∈ t.dev.net.masks, m.src = src ∧ m.sgid = sg ∧ ∀ j : Fin 128,
            let inMask := (pay i.pkt (1 + j.val / 32)).testBit (j % 32)
            m.members.testBit j = (old.members.testBit j || inMask) ∧
            m.active.testBit j = (if inMask then (pay i.pkt (5 + j.val / 32)).testBit (j % 32) else old.active.testBit j)) ∧
          (∀ m : MaskMsg, ¬ (m.src = src ∧ m.sgid = sg) → (m ∈ t.dev.net.masks ↔ m ∈ s.dev.net.masks)) ∧
          t.inbox = s.inbox.erase i ∧ Changes [.net] [] s t)) ∧
      (∀ (i : NetIn) (p v ns sec : Word), s.arrived 0x20 = some i → i.pkt.payload = [p, v, ns, sec] → Runs .pointReceived s fun t =>
        let bound (n : Fin 4) (j : Fin 256) : Prop := s.on (pgABC n) ABC_PSLOT_EN j ∧ s.rd (pgABC n) ABC_PSLOT_POINT j = p.toNat % 2 ^ 20
        let tb := s.work.nearTime (ns.toNat % 2 ^ 30) sec.toNat
        let age (n : Fin 4) (j : Fin 256) : Int := (s.rd (pgABC n) ABC_PSLOT_MAXAGE j + 1 : Nat) * s.work.period16 n
        t.inbox = s.inbox.erase i ∧ KindsKeptBut [.net, .rgn] s t ∧
        (∀ n : Fin 4, (∀ j, ¬ bound n j) ∨ (s.rd pgPKG PKG_FENCE_STAT).testBit n = true → t.region n = s.region n) ∧
        ((∃ (n : Fin 4) (j : Fin 256), bound n j ∧ (s.rd pgPKG PKG_FENCE_STAT).testBit n = true) →
          min (s.rd pgPKG PKG_DISC_COUNT + 1) PKG_DISC_COUNT.max ≤ t.rd pgPKG PKG_DISC_COUNT) ∧
        (∀ (n : Fin 4) (j : Fin 256) (ph : Nat) (b : Int), bound n j → s.cycling n ph → ph ≠ 1 → (s.region n).nextB = some b →
          (∀ f ∈ (s.region n).fillNext, f.slot ≠ 256 + j.val) → b - age n j ≤ tb →
          ⟨256 + j.val, v, false, ts24 tb⟩ ∈ (t.region n).fillNext) ∧
        (∀ (n : Fin 4) (j : Fin 256), bound n j → s.cycling n 1 →
          (∀ f ∈ (s.region n).fillCur, f.slot ≠ 256 + j.val) →
          (s.region n).t0 - age n j ≤ tb →
          ⟨256 + j.val, v, false, ts24 tb⟩ ∈ (t.region n).fillCur)))

/-- R475: RA_GO sends an RREQ and sets BUSY, and is ignored with BADVAL while one is outstanding. The target answers DENIED
and counts it unless REM_EN, the offset and a valid grant allow it; it answers BUSY or WITHDRAWN for a fence; else it reads
or writes the shadow set. The RRSP of the outstanding SEQ ends the access with its status and data; 100 us without it end it
with status 6. -/
def Obligations.RemoteAccessServed : Prop :=
  ∀ s : State,
    let wr := s.rd pgSYSN SYSN_RA_PKG_WRITE != 0
    let own := s.rd pgCSTORE CSTORE_IDENT_ACT_PKG
    let peer := s.rd pgSYSN SYSN_RA_PKG_PKG
    let answer (dst : Nat) (seq : Byte) (status : Nat) (x : Word) : Pkt :=
      ⟨0x31, s.rd pgTALLY TALLY_STAT_HOLDOVER != 0, BitVec.ofNat 16 dst, BitVec.ofNat 10 own, 12, seq, [w32 status, x]⟩
    (s.reaches (pgSYSN + SYSN_SCMD_RA_GO.at 0) → s.on pgSYSN SYSN_RA_STAT_BUSY → Runs .raGo s fun t =>
      t.rd pgSYSN HDR_STAT_BADVAL = 1 ∧ OnlyDwords [pgSYSN + HDR_STAT_BADVAL.at 0] s t) ∧
    (s.reaches (pgSYSN + SYSN_SCMD_RA_GO.at 0) → ¬ s.on pgSYSN SYSN_RA_STAT_BUSY → peer ≠ own → s.route peer = none → Runs .raGo s fun t =>
      t.rd pgSYSN SYSN_RA_STAT_BUSY = 1 ∧ t.dev.net.ra = some (s.seqOf 0x30, wr) ∧ t.flagged pgSYSN .ce 18 ∧
      t.inbox = s.inbox ++ [⟨none, answer own (BitVec.ofNat 8 (s.seqOf 0x30)) 5 0, t16 s.tally.a⟩]) ∧
    (s.reaches (pgSYSN + SYSN_SCMD_RA_GO.at 0) → ¬ s.on pgSYSN SYSN_RA_STAT_BUSY → peer = own ∨ s.route peer ≠ none → Runs .raGo s fun t =>
      t.rd pgSYSN SYSN_RA_STAT_BUSY = 1 ∧ t.dev.net.ra = some (s.seqOf 0x30, wr) ∧
      Originated s.inbox 5 0x30 (BitVec.ofNat 16 (s.rd pgSYSN SYSN_RA_PKG_PKG))
        [w32 (b2n wr * 2 ^ 31 + s.rd pgSYSN SYSN_RA_OFS), s.word (pgSYSN + SYSN_RA_DATA.at 0)] s t ∧
      Changes [.net, .sl, .flue, .out] ((pgSYSN + SYSN_RA_STAT_BUSY.at 0) :: sendDwords) s t) ∧
    (∀ i : NetIn, s.arrived 0x30 = some i →
      let d := pay i.pkt 0
      let a := d % 2 ^ 25 / 4 * 4
      let v := i.pkt.payload.getD 1 0
      let granted : Prop := s.on pgTALLY TALLY_STAT_TIME_SET ∧ ∃ g : Fin 4, s.on pgSEC SEC_RGNT_EN g ∧
        s.rd pgSEC SEC_RGNT_PKG g = i.pkt.src.toNat ∧ s.tally.a.s % 2 ^ 32 < s.rd pgSEC SEC_RGNT_EXP g
      let allowed : Prop := s.on pgSYSN SYSN_NCFG_REM_EN ∧ remoteReach a = true ∧ granted
      let answers (status : Nat) (x : Word) (t : State) : Prop :=
        let k := answer i.pkt.src.toNat i.pkt.seq status x
        (i.pkt.src.toNat = own → t.inbox = s.inbox.erase i ++ [⟨none, k, t16 s.tally.a⟩]) ∧
        (i.pkt.src.toNat ≠ own → t.inbox = s.inbox.erase i ∧ ∀ p, s.route i.pkt.src.toNat = some p → Queued 5 p k s t)
      (¬ allowed → Runs .rreqReceived s fun t => answers 3 0 t ∧
        t.rd pgSYSN SYSN_RA_DENY = min (s.rd pgSYSN SYSN_RA_DENY + 1) SYSN_RA_DENY.max ∧
        (¬ granted → t.rd pgSEC SEC_RA_NOGRANT = min (s.rd pgSEC SEC_RA_NOGRANT + 1) SEC_RA_NOGRANT.max) ∧
        Changes [.net, .sl, .flue, .out] ((pgSYSN + SYSN_RA_DENY.at 0) :: (pgSEC + SEC_RA_NOGRANT.at 0) :: sendDwords) s t) ∧
      (allowed → ∀ n b, s.fenceAt a (d.testBit 31) = some (n, b) → Runs .rreqReceived s fun t =>
        let f := if b then PKG_BUSY_COUNT else PKG_WDRN_COUNT
        answers (if b then 1 else 2) 0 t ∧ t.rd pgPKG f = min (s.rd pgPKG f + 1) f.max ∧
        Changes [.net, .sl, .flue, .out] ((pgPKG + f.at 0) :: sendDwords) s t) ∧
      (allowed → d.testBit 31 = false → s.fenceAt a false = none → ∀ x, shadowOf a = some x → Runs .rreqReceived s fun t =>
        answers 0 (s.work.shadowRead x.1) t ∧
        Changes [.net, .sl, .flue, .out] ((pgSEC + SEC_RA_SERVED.at 0) :: sendDwords) s t) ∧
      (allowed → d.testBit 31 = true → s.fenceAt a true = none → ∀ x, shadowOf a = some x → Runs .rreqReceived s fun t =>
        let q := (s.work.count pgSEC SEC_RA_SERVED).shadowWrite x.1 x.2 v
        answers (if q.2 then 4 else 0) 0 t ∧ (∀ b, t.work.shadowRead b = q.1.shadowRead b) ∧ KindsKeptBut [.net, .sl, .flue, .out, .shadow] s t)) ∧
    (∀ i : NetIn, s.arrived 0x31 = some i → s.dev.net.ra = none → Runs .rrspReceived s fun t => t.inbox = s.inbox.erase i ∧ Changes [.net] [] s t) ∧
    (∀ (i : NetIn) (seq : Nat) (w : Bool), s.arrived 0x31 = some i → s.dev.net.ra = some (seq, w) →
      (i.pkt.seq.toNat ≠ seq → Runs .rrspReceived s fun t => t.inbox = s.inbox.erase i ∧ t.dev.net.ra = some (seq, w) ∧ Changes [.net] [] s t) ∧
      (i.pkt.seq.toNat = seq → Runs .rrspReceived s fun t => t.rd pgSYSN SYSN_RA_STAT_BUSY = 0 ∧ t.rd pgSYSN SYSN_RA_STAT_DONE = 1 ∧
        t.rd pgSYSN SYSN_RA_STAT_STATUS = pay i.pkt 0 % 8 ∧ t.rd pgSYSN SYSN_RA_DATA = (if w then s.rd pgSYSN SYSN_RA_DATA else pay i.pkt 1) ∧
        t.dev.net.ra = none ∧ Changes [.net] [pgSYSN + SYSN_RA_STAT_BUSY.at 0, pgSYSN + SYSN_RA_DATA.at 0] s t)) ∧
    (∀ x, s.dev.net.ra = some x → Runs .raTimeout s fun t => t.rd pgSYSN SYSN_RA_STAT_BUSY = 0 ∧ t.rd pgSYSN SYSN_RA_STAT_DONE = 1 ∧
      t.rd pgSYSN SYSN_RA_STAT_STATUS = 6 ∧ t.dev.net.ra = none ∧ Changes [.net] [pgSYSN + SYSN_RA_STAT_BUSY.at 0] s t) ∧
    (s.dev.net.ra = none → Runs .raTimeout s fun t => t = s)

/-! ### Self-test, the TAP, the device key and the counted store (R511 to R533) -/

/-- R511 to R515, R518, R519: a start is judged on its own and refused with its cause, or sets RUN and drains its region; an
abort ends a run with verdict ABORT; a run that passes lets the fence fall, one that fails marks its region and raises UC
16, and both leave zeros in the data of R184 and the cluster states as they were. Standby BIST starts the next pair. UMARK
with its key clears the marks of passed regions that do not run. -/
def Obligations.RegionBistRuns : Prop :=
  ∀ s : State,
    let run (t : State) (n : Nat) : Bool := (t.rd pgBIST BIST_BSTAT_RUN).testBit n
    let logic : Prop := s.on pgBIST BIST_BSTAT_HUB_RUN ∨ s.on pgBIST BIST_BSTAT_HRT_RUN ∨ s.on pgBIST BIST_BSTAT_LEND
    let zeroed (n : Nat) (t : State) : Prop := ∀ i : Fin 5632, t.word (rgBase n + 0x2000 + 4 * i) = 0
    (s.reaches (pgBIST + BIST_BCTL_GO.at 0) → ∀ (rgs : BitVec 4) (n : Fin 4),
      let sib := if n.val % 2 = 0 then n.val + 1 else n.val - 1
      let die : Prop := rgs.getLsbD sib = true ∨ run s sib = true
      let busy : Prop := s.work.role ≠ 1 ∧ ∃ c : Fin 48, c.val / 12 = n ∧ s.rd (pgCLU c) CLU_CSTAT_STATE ∈ [1, 2, 3, 5]
      let swap : Prop := s.on pgPKG PKG_SWAP_STAT_ARMED ∨ s.on pgPKG PKG_SWAP_STAT_PENDING
      let fenced : Prop := s.dev.kin.resets.testBit n = true ∨ run s n = true
      let refused (c : Nat) : Prop := Runs (.bistStart rgs) s fun t =>
        run t n = run s n ∧ t.rd pgBIST BIST_BSTAT_REFUSED = 1 ∧ t.dev.sec.drain.testBit n = s.dev.sec.drain.testBit n ∧
        ((∀ m : Fin 4, rgs.getLsbD m = true → m = n) → t.rd pgBIST BIST_BSTAT_REF_CAUSE = c) ∧
        Changes [.sec] [pgBIST + BIST_BSTAT_RUN.at 0] s t
      (rgs.getLsbD n = false → Runs (.bistStart rgs) s fun t => run t n = run s n) ∧
      (rgs.getLsbD n = true → ¬ die → ¬ busy → ¬ swap → ¬ fenced → ¬ logic → Runs (.bistStart rgs) s fun t =>
        run t n = true ∧ t.dev.sec.drain.testBit n = true ∧ Changes [.sec] [pgBIST + BIST_BSTAT_RUN.at 0] s t) ∧
      (rgs.getLsbD n = true → die → refused 1) ∧ (rgs.getLsbD n = true → ¬ die → busy → refused 2) ∧
      (rgs.getLsbD n = true → ¬ die → ¬ busy → swap → refused 3) ∧
      (rgs.getLsbD n = true → ¬ die → ¬ busy → ¬ swap → fenced → refused 4) ∧
      (rgs.getLsbD n = true → ¬ die → ¬ busy → ¬ swap → ¬ fenced → logic → refused 8)) ∧
    (s.reaches (pgBIST + BIST_BCTL_ABORT.at 0) → ∀ (rgs : BitVec 4) (n : Fin 4),
      (rgs.getLsbD n = true → run s n = true → Runs (.bistAbort rgs) s fun t => run t n = false ∧ t.rd pgBIST BIST_RGRES_VERDICT n = 3 ∧
        t.dev.ember.marks = s.dev.ember.marks ∧ (s.dev.sec.drain.testBit n = false → zeroed n t ∧
          (s.dev.ember.marks.testBit n = false → (t.rd pgPKG PKG_FENCE_STAT).testBit n = false))) ∧
      (rgs.getLsbD n = false ∨ run s n = false → Runs (.bistAbort rgs) s fun t => run t n = run s n ∧
        t.rd pgBIST BIST_RGRES_VERDICT n = s.rd pgBIST BIST_RGRES_VERDICT n)) ∧
    (∀ (n : Fin 4) (sig : BitVec 64) (ok : Bool) (bad : Option (BitVec 24)),
      (s.dev.shut = true → Runs (.bistComplete n sig ok bad) s fun t => t.dev.held = s.dev.held ++ [.bistComplete n sig ok bad] ∧
        Changes [.held] [] s t) ∧
      (s.dev.shut = false → run s n = false ∨ s.dev.sec.drain.testBit n = true → Runs (.bistComplete n sig ok bad) s fun t => t = s)) ∧
    (∀ (n : Fin 4) (sig : BitVec 64) (ok : Bool) (bad : Option (BitVec 24)), s.dev.shut = false → run s n = true → s.dev.sec.drain.testBit n = false →
      let pass : Prop := ok = true ∧ bad = none
      Runs (.bistComplete n sig ok bad) s fun t =>
        run t n = false ∧ zeroed n t ∧ t.rd pgBIST BIST_SIG_LO n = sig.toNat % 2 ^ 32 ∧ t.rd pgBIST BIST_SIG_HI n = sig.toNat / 2 ^ 32 ∧
        t.rd pgBIST BIST_RUN_COUNT = min (s.rd pgBIST BIST_RUN_COUNT + 1) BIST_RUN_COUNT.max ∧
        (∀ c : Fin 48, t.rd (pgCLU c) CLU_CSTAT_STATE = s.rd (pgCLU c) CLU_CSTAT_STATE) ∧
        (pass → t.rd pgBIST BIST_RGRES_VERDICT n = 1 ∧ t.dev.ember.marks = s.dev.ember.marks ∧
          (t.rd pgPKG PKG_FENCE_STAT).testBit n = ((s.rd pgPKG PKG_FENCE_STAT).testBit n && s.dev.ember.marks.testBit n)) ∧
        (¬ pass → t.rd pgBIST BIST_RGRES_VERDICT n = 2 ∧ t.flagged pgBIST .uc 16 ∧ t.dev.ember.marks.testBit n = true ∧
          t.rd pgBIST BIST_FAIL_COUNT = min (s.rd pgBIST BIST_FAIL_COUNT + 1) BIST_FAIL_COUNT.max ∧
          t.rd pgPKG PKG_FENCE_STAT = s.rd pgPKG PKG_FENCE_STAT ∧ t.rd pgBIST BIST_RGRES_MEMFAIL n = b2n bad.isSome ∧
          t.rd pgBIST BIST_RGRES_SIGFAIL n = b2n (!ok) ∧ (∀ x, bad = some x → t.rd pgBIST BIST_RGRES_MADDR n = x.toNat)) ∧ TimeKept s t) ∧
    (let go : Prop := s.work.role = 1 ∧ s.on pgTWIN TWIN_TCFG_SBIST ∧ s.on pgTWIN TWIN_TSTAT_HEALTH_OK ∧ ¬ s.on pgBIST BIST_BSTAT_RUN
     (go → Runs .standbyBistStart s fun t => t.dev.twin.bistTurn = !s.dev.twin.bistTurn ∧
       (∀ n : Fin 4, (decide (n.val % 2 = 1) = s.dev.twin.bistTurn → (s.rd pgPKG PKG_FENCE_STAT).testBit n = false →
         s.dev.ember.marks.testBit n = false → ¬ s.on pgPKG PKG_SWAP_STAT_ARMED → ¬ s.on pgPKG PKG_SWAP_STAT_PENDING →
         s.dev.kin.resets.testBit n = false → ¬ logic → run t n = true ∧ t.dev.sec.drain.testBit n = true) ∧
         (decide (n.val % 2 = 1) ≠ s.dev.twin.bistTurn → run t n = false)) ∧ Changes [.sec, .twin] [pgBIST + BIST_BSTAT_RUN.at 0] s t) ∧
     (¬ go → Runs .standbyBistStart s fun t => t = s)) ∧
    (s.reaches (pgBIST + BIST_UMARK_KEY.at 0) → ∀ rgs : BitVec 4, Runs (.umark 0x554D rgs) s fun t => (∀ n : Fin 4, t.dev.ember.marks.testBit n =
      (s.dev.ember.marks.testBit n && !(rgs.getLsbD n && s.rd pgBIST BIST_RGRES_VERDICT n == 1 && !run s n))) ∧
      Changes [.ember, .kin] [] s t) ∧
    (s.reaches (pgBIST + BIST_UMARK_KEY.at 0) → ∀ (key : BitVec 16) (rgs : BitVec 4), key ≠ 0x554D → Runs (.umark key rgs) s fun t => t.rd pgBIST HDR_STAT_BADVAL = 1 ∧
      OnlyDwords [pgBIST + HDR_STAT_BADVAL.at 0] s t)

/-- R520, R521: a start of logic BIST is refused with its cause, or zeroises the key, reacts at level 4, raises fence 6 or 7
and sets its RUN bit; its end writes the verdict and signature and sets LEND, with FATAL 17 on a failure. R525: an
instruction of the TAP is selected, and EXTEST, CLAMP, HIGHZ and the EXTEST trains react at level 4; HALT asks for a freeze,
and its deselection releases it; SCAN_INT and the LBISTs zeroise; IDCODE shifts out the identity. -/
def Obligations.LogicBistAndTap : Prop :=
  ∀ s : State,
    let idle : Prop := ∀ c : Fin 48, s.rd (pgCLU c) CLU_CSTAT_STATE = 0 ∨ s.rd (pgCLU c) CLU_CSTAT_STATE = 4
    let cyc : Prop := ∃ n : Fin 4, s.on (pgRG n) RG_CYC_CTL
    let busy : Prop := s.on pgBIST BIST_BSTAT_RUN ∨ s.on pgBIST BIST_BSTAT_HUB_RUN ∨ s.on pgBIST BIST_BSTAT_HRT_RUN ∨ s.on pgBIST BIST_BSTAT_LEND
    let atFour (t : State) : Prop := (∃ h, h ∈ t.dev.hearth.held ∧ h.kind = 1) ∧ (s.notHeld 1 → Reacted ⟨0, 0, 0xFF, 4, 0xF, 1⟩ s t)
    let zeroed (cause : Nat) (t : State) : Prop := t.dev.sec.closed = true ∧ t.rd pgSEC SEC_KEYSTAT_ZEROISED = 1 ∧
      t.rd pgSEC SEC_KEYSTAT_ZCAUSE = cause ∧
      ∀ g : Fin 4, t.rd pgSEC SEC_RGNT_EN g = 0 ∧ t.rd pgSEC SEC_RGNT_PKG g = 0 ∧ t.rd pgSEC SEC_RGNT_EXP g = 0
    let tests (hub : Bool) (t : State) : Prop := zeroed (if hub then 2 else 3) t ∧ atFour t ∧
      (t.rd pgPKG PKG_FENCE_STAT).testBit (if hub then 6 else 7) = true ∧
      t.rd pgBIST (if hub then BIST_BSTAT_HUB_RUN else BIST_BSTAT_HRT_RUN) = 1 ∧ TimeKept s t
    (s.reaches (pgBIST + BIST_BCTL_GO.at 0) → ∀ p ∈ [(Instr.lbistHubStart, true), (.lbistHrtStart, false)],
      let refused (c : Nat) : Prop := Runs p.1 s fun t => t.rd pgBIST BIST_BSTAT_REFUSED = 1 ∧ t.rd pgBIST BIST_BSTAT_REF_CAUSE = c ∧
        OnlyDwords [pgBIST + BIST_BSTAT_RUN.at 0] s t
      (¬ idle → refused 2) ∧ (idle → s.work.role = 2 → refused 5) ∧ (idle → s.work.role ≠ 2 → cyc → refused 7) ∧
      (idle → s.work.role ≠ 2 → ¬ cyc → busy → refused 8) ∧
      (idle → s.work.role ≠ 2 → ¬ cyc → ¬ busy → Runs p.1 s (tests p.2))) ∧
    (∀ (pass : Bool) (sig : BitVec 64),
      let done (run res lo hi : Field) : Prop := Runs (.lbistComplete pass sig) s fun t =>
        t.rd pgBIST run = 0 ∧ t.rd pgBIST BIST_BSTAT_LEND = 1 ∧ t.rd pgBIST res = (if pass then 1 else 2) ∧
        t.rd pgBIST lo = sig.toNat % 2 ^ 32 ∧ t.rd pgBIST hi = sig.toNat / 2 ^ 32 ∧ (pass = false → t.flagged pgBIST .fatal 17) ∧
        (pass = true → OnlyDwords [pgBIST + run.at 0, pgBIST + res.at 0, pgBIST + lo.at 0, pgBIST + hi.at 0] s t) ∧
        Changes reportKinds [pgBIST + run.at 0, pgBIST + res.at 0, pgBIST + lo.at 0, pgBIST + hi.at 0, pgBIST + HDR_FLT_CAUSE.at 0] s t
      (s.dev.shut = true → Runs (.lbistComplete pass sig) s fun t => t.dev.held = s.dev.held ++ [.lbistComplete pass sig] ∧ Changes [.held] [] s t) ∧
      (s.dev.shut = false → s.on pgBIST BIST_BSTAT_HUB_RUN → done BIST_BSTAT_HUB_RUN BIST_LRES_HUB BIST_HSIG_LO BIST_HSIG_HI) ∧
      (s.dev.shut = false → ¬ s.on pgBIST BIST_BSTAT_HUB_RUN → s.on pgBIST BIST_BSTAT_HRT_RUN →
        done BIST_BSTAT_HRT_RUN BIST_LRES_HRT BIST_TSIG_LO BIST_TSIG_HI) ∧
      (s.dev.shut = false → ¬ s.on pgBIST BIST_BSTAT_HUB_RUN → ¬ s.on pgBIST BIST_BSTAT_HRT_RUN → Runs (.lbistComplete pass sig) s fun t => t = s)) ∧
    (∀ p ∈ [(Instr.tapExtest, 0x00), (.tapClamp, 0x04), (.tapHighz, 0x05), (.tapExtestPulse, 0x06), (.tapExtestTrain, 0x07)],
      Runs p.1 s fun t => t.dev.sec.ir = p.2 ∧ atFour t ∧ TimeKept s t) ∧
    (∀ p ∈ [(Instr.tapIdcode, 0x01), (.tapSamplePreload, 0x02), (.tapBypass, 0xFF)], Runs p.1 s fun t =>
      t.dev.sec.ir = p.2 ∧ (p.1 = .tapIdcode → t.dev.out.getLast? = some (.tap 0x1C19274B)) ∧
      (s.dev.sec.ir ≠ 0x10 → Changes [.sec, .out] [] s t) ∧
      (s.dev.sec.ir = 0x10 → t.rd pgPKG PKG_FRZ_STAT_JTAG = 0 ∧
        (s.on pgPKG PKG_FRZ_STAT_FROZEN → ¬ s.on pgPKG PKG_FRZ_CTL → t.rd pgPKG PKG_FRZ_STAT_FROZEN = 0 ∧ t.rd pgPKG PKG_FRZ_STAT_RESUMED = 1))) ∧
    (Runs .tapHalt s fun t => t.dev.sec.ir = 0x10 ∧ t.rd pgPKG PKG_FRZ_STAT_JTAG = 1 ∧
      (¬ s.on pgPKG PKG_FRZ_STAT_FROZEN → s.dev.hearth.frz = none → 0 < s.tally.inc → ∃ k : Nat,
        t.dev.hearth.frz = some (t16 (timeAdd s.tally.a (k * s.tally.inc))) ∧ 2000 * 2 ^ 32 ≤ k * s.tally.inc ∧
        k * s.tally.inc < 2000 * 2 ^ 32 + s.tally.inc) ∧
      (s.on pgPKG PKG_FRZ_STAT_FROZEN ∨ s.dev.hearth.frz ≠ none → Changes [.sec] [pgPKG + PKG_FRZ_STAT_JTAG.at 0] s t)) ∧
    (Runs .tapScanInt s fun t => t.dev.sec.ir = 0x80 ∧ zeroed 1 t ∧ atFour t ∧ t.rd pgBIST BIST_BSTAT_LEND = 1 ∧ TimeKept s t) ∧
    (Runs .tapLbistHub s fun t => t.dev.sec.ir = 0x81 ∧ tests true t) ∧
    Runs .tapLbistHrt s fun t => t.dev.sec.ir = 0x82 ∧ tests false t

/-- R522 to R524, R530 to R532: the key is programmed only while blank, with the write gate open and every cluster idle,
else BADVAL; its end takes KEYW, clears it, and writes KCV or raises UC 16. ZEROISE closes the key path and clears the
grants. A counted-store write is refused with its cause or starts; its end logs it, counts it, and writes the slot or raises
UC 16. -/
def Obligations.KeyAndCountedStore : Prop :=
  ∀ s : State,
    let idle : Prop := ∀ c : Fin 48, s.rd (pgCLU c) CLU_CSTAT_STATE = 0 ∨ s.rd (pgCLU c) CLU_CSTAT_STATE = 4
    let accepts : Prop := s.dev.sec.programmed = false ∧ s.dev.sec.progRun = false ∧ s.dev.sec.closed = false ∧
      s.on pgTHERM THERM_TSTAT_WGATE ∧ idle
    (s.reaches sctlAddr → accepts → Runs .keyProg s fun t => t.dev.sec.progRun = true ∧ Changes [.sec] [] s t) ∧
    (s.reaches sctlAddr → ¬ accepts → Runs .keyProg s fun t => t.rd pgSEC HDR_STAT_BADVAL = 1 ∧ OnlyDwords [pgSEC + HDR_STAT_BADVAL.at 0] s t) ∧
    (∀ ok : Bool, s.dev.sec.progRun = true → Runs (.keyProgDone ok) s fun t =>
      let key := (List.range 8).flatMap fun i => beBytes (s.word (pgSEC + SEC_KEYW.at i))
      t.dev.sec.programmed = true ∧ t.dev.sec.verified = ok ∧ t.dev.sec.key = key ∧ t.dev.sec.progRun = false ∧
      (∀ i : Fin 8, t.rd pgSEC SEC_KEYW i = 0) ∧
      (ok = true → s.dev.sec.closed = false → t.rd pgSEC SEC_KCV = (beWord ((hmac key [0x4B, 0x43, 0x56, 0x31]).take 4)).toNat) ∧
      (ok = false → t.flagged pgSEC .uc 16) ∧
      Changes [.sec, .flue, .out] ((pgSEC + SEC_KCV.at 0) :: (pgSEC + HDR_FLT_CAUSE.at 0) :: (List.range 8).map fun i => pgSEC + SEC_KEYW.at i) s t) ∧
    (∀ ok : Bool, s.dev.sec.progRun = false → Runs (.keyProgDone ok) s fun t => t = s) ∧
    (s.reaches sctlAddr → Runs .zeroise s fun t => t.dev.sec.closed = true ∧ t.rd pgSEC SEC_KEYSTAT_ZEROISED = 1 ∧ t.rd pgSEC SEC_KEYSTAT_ZCAUSE = 4 ∧
      (∀ g : Fin 4, t.rd pgSEC SEC_RGNT_EN g = 0 ∧ t.rd pgSEC SEC_RGNT_PKG g = 0 ∧ t.rd pgSEC SEC_RGNT_EXP g = 0) ∧
      Changes [.sec] ((pgSEC + SEC_KEYSTAT_ZEROISED.at 0) :: (List.range 4).flatMap fun g => [pgSEC + SEC_RGNT_EN.at g, pgSEC + SEC_RGNT_EXP.at g]) s t) ∧
    (∀ slot : Fin 16,
      let lo := s.word (pgCSTORE + CSTORE_WDATA_LO.at 0)
      let hi := s.word (pgCSTORE + CSTORE_WDATA_HI.at 0)
      let wcnt : Field := { (if slot.val < 8 then CSTORE_WCNT0 else CSTORE_WCNT1) with lo := 4 * (slot.val % 8), wid := 4 }
      let n := s.rd pgCSTORE wcnt
      let fits : Prop := (slot.val = 0 → hi = 0 ∧ lo.toNat < 1024) ∧ (slot.val = 1 ∨ slot.val = 3 → hi = 0 ∧ lo.toNat < 65536) ∧
        (slot.val = 2 → hi.toNat < 65536)
      let gate : Prop := s.on pgTHERM THERM_TSTAT_WGATE
      let refused (c : Nat) : Prop := Runs (.cstoreWrite slot) s fun t => t.rd pgCSTORE CSTORE_WSTAT_REFUSED = 1 ∧
        t.rd pgCSTORE CSTORE_WSTAT_REF_CAUSE = c ∧ OnlyDwords [pgCSTORE + CSTORE_WCTL_SLOT.at 0, pgCSTORE + CSTORE_WSTAT_REFUSED.at 0] s t
      let here : Prop := s.reaches (pgCSTORE + CSTORE_WCTL_GO.at 0)
      (here → ¬ gate → refused 1) ∧ (here → gate → 8 ≤ n → refused 2) ∧ (here → gate → n < 8 → s.dev.sec.cellRun ≠ none → refused 3) ∧
      (here → gate → n < 8 → s.dev.sec.cellRun = none → ¬ fits → refused 4) ∧
      (here → gate → n < 8 → s.dev.sec.cellRun = none → fits → Runs (.cstoreWrite slot) s fun t => t.rd pgCSTORE CSTORE_WSTAT_BUSY = 1 ∧
        t.dev.sec.cellRun = some ⟨slot, lo, hi, s.rd pgTALLY TALLY_STAT_TIME_SET != 0, s.tally.a.s⟩ ∧
        Changes [.sec] [pgCSTORE + CSTORE_WCTL_SLOT.at 0, pgCSTORE + CSTORE_WSTAT_REFUSED.at 0] s t) ∧
      (∀ (ok : Bool) (r : CellRun), s.dev.sec.cellRun = some r → r.slot = slot.val → n < 8 → Runs (.cstoreWriteDone ok) s fun t =>
        let e := pgCSTORE + 0x200 + 12 * s.rd pgCSTORE CSTORE_WSTAT_LOG_N
        t.rd pgCSTORE wcnt = n + 1 ∧ t.rd pgCSTORE CSTORE_WSTAT_BUSY = 0 ∧ t.rd pgCSTORE CSTORE_WSTAT_DONE = 1 ∧ t.dev.sec.cellRun = none ∧
        t.rd pgCSTORE CSTORE_WSTAT_LOG_N = (s.rd pgCSTORE CSTORE_WSTAT_LOG_N + 1) % 256 ∧
        t.word e = w32 (2 ^ 31 + b2n r.timeSet * 2 ^ 30 + b2n (!ok) * 2 ^ 29 + n * 2 ^ 26 + slot.val * 2 ^ 16 + r.s / 2 ^ 32) ∧
        t.word (e + 4) = w32 r.s ∧
        t.word (e + 8) = beWord ((sha256 (BitVec.ofNat 8 slot :: beBytes r.hi ++ beBytes r.lo)).take 4) ∧
        (ok = true → t.word (pgCSTORE + CSTORE_SLOT_LO.at slot) = r.lo ∧ t.word (pgCSTORE + CSTORE_SLOT_HI.at slot) = r.hi) ∧
        (ok = false → t.rd pgCSTORE CSTORE_SLOT_LO slot = s.rd pgCSTORE CSTORE_SLOT_LO slot ∧
          t.rd pgCSTORE CSTORE_SLOT_HI slot = s.rd pgCSTORE CSTORE_SLOT_HI slot ∧ t.rd pgCSTORE CSTORE_WSTAT_FAIL = 1 ∧ t.flagged pgCSTORE .uc 16) ∧
        Changes [.sec, .flue, .out] [pgCSTORE + CSTORE_WSTAT_LOG_N.at 0, pgCSTORE + wcnt.at 0, pgCSTORE + HDR_FLT_CAUSE.at 0, e, e + 4, e + 8,
          pgCSTORE + CSTORE_SLOT_LO.at slot, pgCSTORE + CSTORE_SLOT_HI.at slot] s t)) ∧
    (s.dev.sec.cellRun = none → ∀ ok : Bool, Runs (.cstoreWriteDone ok) s fun t => t = s)
end

