-- ==== Sys2Proof/Laws/Field.lean ====
section
/-! SUPPORT. Reading a field back after a write: the same field, and a field whose bits lie elsewhere in the dword. -/

namespace Sys2Proof.Machine

/-- Bit `k` of a field's value. -/
theorem Field.testBit_get (f : Field) (d : Word) (k : Nat) :
    (f.get d).testBit k = (decide (k < f.wid) && d.getLsbD (f.lo + k)) := by
  simp [Field.get, Nat.testBit_mod_two_pow, Nat.testBit_div_two_pow, BitVec.getLsbD, Nat.add_comm]

/-- Bit `j` of a field's mask. -/
theorem Field.getLsbD_mask (f : Field) (j : Nat) :
    f.mask.getLsbD j = (decide (j < 32) && (decide (f.lo ≤ j) && decide (j - f.lo < f.wid))) := by
  rw [Field.mask, Field.max, BitVec.getLsbD_ofNat, Nat.testBit_mul_two_pow, Nat.testBit_two_pow_sub_one]

/-- Bit `j` of a dword after a write of field `f`. -/
theorem Field.getLsbD_set (f : Field) (d : Word) (v j : Nat) :
    (f.set d v).getLsbD j = (decide (j < 32) &&
      (if f.lo ≤ j ∧ j - f.lo < f.wid then v.testBit (j - f.lo) else d.getLsbD j)) := by
  rw [Field.set, BitVec.getLsbD_or, BitVec.getLsbD_and, BitVec.getLsbD_not, Field.getLsbD_mask, BitVec.getLsbD_ofNat,
    Nat.testBit_mul_two_pow, Nat.testBit_mod_two_pow]
  by_cases hj : j < 32
  · by_cases h1 : f.lo ≤ j <;> by_cases h2 : j - f.lo < f.wid <;> simp [hj, h1, h2]
  · simp [hj]

/-- A field reads what was written to it. -/
theorem Field.get_set (f : Field) (d : Word) (v : Nat) (h : f.lo + f.wid ≤ 32) : f.get (f.set d v) = v % 2 ^ f.wid := by
  apply Nat.eq_of_testBit_eq
  intro k
  rw [Field.testBit_get, Field.getLsbD_set, Nat.testBit_mod_two_pow]
  by_cases hk : k < f.wid
  · have : f.lo + k < 32 := by omega
    simp [hk, this]
  · simp [hk]

/-- A field's value is not changed by a write to other bits of its dword. -/
theorem Field.get_set_disj (f g : Field) (d : Word) (v : Nat) (h : f.lo + f.wid ≤ g.lo ∨ g.lo + g.wid ≤ f.lo) :
    g.get (f.set d v) = g.get d := by
  apply Nat.eq_of_testBit_eq
  intro k
  rw [Field.testBit_get, Field.testBit_get, Field.getLsbD_set]
  by_cases hk : k < g.wid
  · by_cases h32 : g.lo + k < 32
    · have : ¬ (f.lo ≤ g.lo + k ∧ g.lo + k - f.lo < f.wid) := by omega
      simp [this, h32]
    · simp [hk, h32, BitVec.getLsbD_of_ge d (g.lo + k) (by omega)]
  · simp [hk]

/-- A field's value is less than two to its width. -/
theorem Field.get_lt (f : Field) (d : Word) : f.get d < 2 ^ f.wid := Nat.mod_lt _ (Nat.two_pow_pos _)

end Sys2Proof.Machine
end

