-- ==== Sys2Proof/Laws/Store.lean ====
section
/-! SUPPORT. The sparse stores: what a key reads after each operation, and that each operation keeps the canonical form. -/

namespace Sys2Proof.Machine

variable {α : Type}

theorem cellsGet_drop (d : Nat → α) (p : Nat → Bool) (l : List (Nat × α)) (b : Nat) :
    cellsGet d (cellsDrop p l) b = if p b then d b else cellsGet d l b := by
  induction l with
  | nil => simp [cellsDrop, cellsGet]
  | cons e r ih =>
    obtain ⟨k, v⟩ := e
    have ih' : cellsGet d (List.filter (fun e => !p e.1) r) b = if p b then d b else cellsGet d r b := ih
    by_cases hk : p k <;> by_cases hb : b = k <;> simp_all [cellsDrop, cellsGet]

theorem cellsGet_add (d : Nat → α) (a : Nat) (v : α) (l : List (Nat × α)) (b : Nat)
    (h : ∀ e ∈ l, e.1 ≠ a) : cellsGet d (cellsAdd a v l) b = if b = a then v else cellsGet d l b := by
  induction l with
  | nil => simp [cellsAdd, cellsGet]
  | cons e r ih =>
    obtain ⟨k, u⟩ := e
    have hk : k ≠ a := h (k, u) (by simp)
    have ih' := ih fun e he => h e (by simp [he])
    by_cases hlt : a < k
    · simp [cellsAdd, cellsGet, hlt]
    · by_cases hbk : b = k
      · subst hbk; simp [cellsAdd, cellsGet, hlt, hk]
      · simp [cellsAdd, cellsGet, hlt, hbk, ih']

theorem cellsDrop_ne (a : Nat) (l : List (Nat × α)) : ∀ e ∈ cellsDrop (fun k => k == a) l, e.1 ≠ a := by
  intro e he
  simp only [cellsDrop, List.mem_filter, Bool.not_eq_true', beq_eq_false_iff_ne] at he
  exact he.2

/-- Read after write, for every key. -/
theorem cellsGet_put [DecidableEq α] (d : Nat → α) (l : List (Nat × α)) (a : Nat) (v : α) (b : Nat) :
    cellsGet d (cellsPut d l a v) b = if b = a then v else cellsGet d l b := by
  by_cases hv : v = d a
  · by_cases hb : b = a <;> simp [cellsPut, hv, cellsGet_drop, hb]
  · rw [cellsPut]
    simp only [hv, if_false]
    rw [cellsGet_add d a v _ b (cellsDrop_ne a l), cellsGet_drop]
    by_cases hb : b = a <;> simp [hb]

theorem cellsGet_put_same [DecidableEq α] (d : Nat → α) (l : List (Nat × α)) (a : Nat) (v : α) :
    cellsGet d (cellsPut d l a v) a = v := by simp [cellsGet_put]

theorem cellsGet_put_ne [DecidableEq α] (d : Nat → α) (l : List (Nat × α)) (a b : Nat) (v : α) (h : b ≠ a) :
    cellsGet d (cellsPut d l a v) b = cellsGet d l b := by simp [cellsGet_put, h]

theorem cellsAbove_mono {b c : Nat} (h : c ≤ b) (l : List (Nat × α)) (hl : cellsAbove b l = true) :
    cellsAbove c l = true := by
  simp only [cellsAbove, List.all_eq_true, decide_eq_true_eq] at *
  intro e he
  have := hl e he
  omega

theorem cellsAbove_drop (p : Nat → Bool) (b : Nat) (l : List (Nat × α)) (hl : cellsAbove b l = true) :
    cellsAbove b (cellsDrop p l) = true := by
  simp only [cellsAbove, cellsDrop, List.all_eq_true, decide_eq_true_eq, List.mem_filter] at *
  exact fun e he => hl e he.1

theorem cellsAbove_add (b a : Nat) (v : α) (l : List (Nat × α)) (h : b < a) (hl : cellsAbove b l = true) :
    cellsAbove b (cellsAdd a v l) = true := by
  induction l with
  | nil => simp [cellsAdd, cellsAbove, h]
  | cons e r ih =>
    obtain ⟨k, u⟩ := e
    simp only [cellsAbove, List.all_cons, Bool.and_eq_true, decide_eq_true_eq] at hl ih
    by_cases hlt : a < k
    · simp only [cellsAdd, hlt, if_true, cellsAbove, List.all_cons, Bool.and_eq_true, decide_eq_true_eq]
      exact ⟨h, hl.1, hl.2⟩
    · simp only [cellsAdd, hlt, if_false, cellsAbove, List.all_cons, Bool.and_eq_true, decide_eq_true_eq]
      exact ⟨hl.1, ih hl.2⟩

theorem cellsWf_drop [DecidableEq α] (d : Nat → α) (p : Nat → Bool) (l : List (Nat × α)) (hl : cellsWf d l = true) :
    cellsWf d (cellsDrop p l) = true := by
  induction l with
  | nil => rfl
  | cons e r ih =>
    obtain ⟨k, u⟩ := e
    simp only [cellsWf, Bool.and_eq_true] at hl
    have h2 := cellsAbove_drop p k r hl.1.2
    have ih' := ih hl.2
    simp only [cellsDrop] at h2 ih' ⊢
    by_cases hk : p k
    · simpa [hk] using ih'
    · simp only [Bool.not_eq_true] at hk
      simp only [List.filter_cons, hk, Bool.not_false, if_true, cellsWf, Bool.and_eq_true]
      exact ⟨⟨hl.1.1, h2⟩, ih'⟩

theorem cellsWf_add [DecidableEq α] (d : Nat → α) (a : Nat) (v : α) (l : List (Nat × α)) (hv : v ≠ d a)
    (ha : ∀ e ∈ l, e.1 ≠ a) (hl : cellsWf d l = true) : cellsWf d (cellsAdd a v l) = true := by
  induction l with
  | nil => simp [cellsAdd, cellsWf, cellsAbove, hv]
  | cons e r ih =>
    obtain ⟨k, u⟩ := e
    have hne : k ≠ a := ha (k, u) (by simp)
    have hl' := hl
    simp only [cellsWf, Bool.and_eq_true] at hl'
    by_cases hlt : a < k
    · have hab : cellsAbove a ((k, u) :: r) = true := by
        have := cellsAbove_mono (Nat.le_of_lt hlt) r hl'.1.2
        simp only [cellsAbove, List.all_cons, Bool.and_eq_true, decide_eq_true_eq] at this ⊢
        exact ⟨hlt, this⟩
      have hstep : cellsAdd a v ((k, u) :: r) = (a, v) :: (k, u) :: r := by simp [cellsAdd, hlt]
      rw [hstep, cellsWf]
      simp only [Bool.and_eq_true, decide_eq_true_eq]
      exact ⟨⟨hv, hab⟩, hl⟩
    · have hstep : cellsAdd a v ((k, u) :: r) = (k, u) :: cellsAdd a v r := by simp [cellsAdd, hlt]
      rw [hstep, cellsWf]
      simp only [Bool.and_eq_true]
      exact ⟨⟨hl'.1.1, cellsAbove_add k a v r (by omega) hl'.1.2⟩, ih (fun e he => ha e (by simp [he])) hl'.2⟩

/-- A write keeps the canonical form. -/
theorem cellsWf_put [DecidableEq α] (d : Nat → α) (l : List (Nat × α)) (a : Nat) (v : α) (hl : cellsWf d l = true) :
    cellsWf d (cellsPut d l a v) = true := by
  have hd := cellsWf_drop d (fun k => k == a) l hl
  by_cases hv : v = d a
  · simpa [cellsPut, hv] using hd
  · rw [cellsPut]
    simp only [hv, if_false]
    exact cellsWf_add d a v _ hv (cellsDrop_ne a l) hd

end Sys2Proof.Machine
end

