-- ==== Sys2Proof/Laws/Memory.lean ====
section
/-! SUPPORT. The DRAM and the hub SRAM: what a byte reads after a store, and that a store keeps the canonical form. -/

namespace Sys2Proof.Machine

/-- A run of byte writes from offset `a`. -/
theorem cells_run_wf (bs : List Byte) (a : Nat) (m : List (Nat × Byte)) (h : cellsWf byte0 m = true) :
    cellsWf byte0 ((bs.zipIdx a).foldl (fun m e => cellsPut byte0 m e.2 e.1) m) = true := by
  induction bs generalizing a m with
  | nil => simpa using h
  | cons b r ih => simpa using ih (a + 1) _ (cellsWf_put byte0 m a b h)

/-- A byte after a run of byte writes from offset `a`. -/
theorem cells_run_get (bs : List Byte) (a x : Nat) (m : List (Nat × Byte)) :
    cellsGet byte0 ((bs.zipIdx a).foldl (fun m e => cellsPut byte0 m e.2 e.1) m) x =
      if a ≤ x ∧ x < a + bs.length then bs.getD (x - a) 0 else cellsGet byte0 m x := by
  induction bs generalizing a m with
  | nil => simp
  | cons b r ih =>
    simp only [List.zipIdx_cons, List.foldl_cons, ih, cellsGet_put, List.length_cons]
    by_cases h1 : x = a
    · subst h1; simp
    · by_cases h2 : a + 1 ≤ x ∧ x < a + 1 + r.length
      · have h3 : a ≤ x ∧ x < a + (r.length + 1) := by omega
        have h4 : x - a = (x - (a + 1)) + 1 := by omega
        rw [if_pos h2, if_pos h3, h4, List.getD_cons_succ]
      · have h3 : ¬ (a ≤ x ∧ x < a + (r.length + 1)) := by omega
        rw [if_neg h2, if_neg h1, if_neg h3]

theorem dramPut_wf (w : Work) (a : Nat) (bs : List Byte) (h : cellsWf byte0 w.dram = true) :
    cellsWf byte0 (w.dramPut a bs).dram = true := cells_run_wf bs a _ h

theorem sramPut_wf (w : Work) (a : Nat) (ds : List Word) (h : cellsWf byte0 w.sram = true) :
    cellsWf byte0 (w.sramPut a ds).sram = true := cells_run_wf _ a _ h

theorem dramPut_byte (w : Work) (a : Nat) (bs : List Byte) (x : Nat) :
    cellsGet byte0 (w.dramPut a bs).dram x =
      if a ≤ x ∧ x < a + bs.length then bs.getD (x - a) 0 else cellsGet byte0 w.dram x := cells_run_get bs a x _

theorem sramPut_byte (w : Work) (a : Nat) (ds : List Word) (x : Nat) :
    cellsGet byte0 (w.sramPut a ds).sram x =
      if a ≤ x ∧ x < a + (ds.flatMap wordBytes).length then (ds.flatMap wordBytes).getD (x - a) 0
      else cellsGet byte0 w.sram x := cells_run_get _ a x _

theorem reset_memory_wf : cellsWf byte0 State.reset.dev.dram = true ∧ cellsWf byte0 State.reset.dev.sram = true :=
  ⟨rfl, rfl⟩

end Sys2Proof.Machine
end

