-- ==== Sys2Proof/Laws/State.lean ====
section
/-! SUPPORT. One lemma per field per update of `Work`: which fields an update leaves as they were, and the new value of
the field it changes. -/

namespace Sys2Proof.Machine

@[simp] theorem put_regs (w : Work) (a : Nat) (d : Word) : (w.put a d).regs = cellsPut resetWord w.regs a d := rfl
@[simp] theorem put_shadow (w : Work) (a : Nat) (d : Word) : (w.put a d).shadow = w.shadow := rfl
@[simp] theorem put_latched (w : Work) (a : Nat) (d : Word) : (w.put a d).latched = w.latched := rfl
@[simp] theorem put_dram (w : Work) (a : Nat) (d : Word) : (w.put a d).dram = w.dram := rfl
@[simp] theorem put_sram (w : Work) (a : Nat) (d : Word) : (w.put a d).sram = w.sram := rfl
@[simp] theorem put_bad (w : Work) (a : Nat) (d : Word) : (w.put a d).bad = w.bad := rfl
@[simp] theorem put_rgn (w : Work) (a : Nat) (d : Word) : (w.put a d).rgn = w.rgn := rfl
@[simp] theorem put_clu (w : Work) (a : Nat) (d : Word) : (w.put a d).clu = w.clu := rfl
@[simp] theorem put_unit (w : Work) (a : Nat) (d : Word) : (w.put a d).unit = w.unit := rfl
@[simp] theorem put_lane (w : Work) (a : Nat) (d : Word) : (w.put a d).lane = w.lane := rfl
@[simp] theorem put_sl (w : Work) (a : Nat) (d : Word) : (w.put a d).sl = w.sl := rfl
@[simp] theorem put_adc (w : Work) (a : Nat) (d : Word) : (w.put a d).adc = w.adc := rfl
@[simp] theorem put_ain (w : Work) (a : Nat) (d : Word) : (w.put a d).ain = w.ain := rfl
@[simp] theorem put_cap (w : Work) (a : Nat) (d : Word) : (w.put a d).cap = w.cap := rfl
@[simp] theorem put_tout (w : Work) (a : Nat) (d : Word) : (w.put a d).tout = w.tout := rfl
@[simp] theorem put_ethRx (w : Work) (a : Nat) (d : Word) : (w.put a d).ethRx = w.ethRx := rfl
@[simp] theorem put_ethTx (w : Work) (a : Nat) (d : Word) : (w.put a d).ethTx = w.ethTx := rfl
@[simp] theorem put_flue (w : Work) (a : Nat) (d : Word) : (w.put a d).flue = w.flue := rfl
@[simp] theorem put_lines (w : Work) (a : Nat) (d : Word) : (w.put a d).lines = w.lines := rfl
@[simp] theorem put_events (w : Work) (a : Nat) (d : Word) : (w.put a d).events = w.events := rfl
@[simp] theorem put_eq (w : Work) (a : Nat) (d : Word) : (w.put a d).eq = w.eq := rfl
@[simp] theorem put_recd (w : Work) (a : Nat) (d : Word) : (w.put a d).recd = w.recd := rfl
@[simp] theorem put_net (w : Work) (a : Nat) (d : Word) : (w.put a d).net = w.net := rfl
@[simp] theorem put_hearth (w : Work) (a : Nat) (d : Word) : (w.put a d).hearth = w.hearth := rfl
@[simp] theorem put_twin (w : Work) (a : Nat) (d : Word) : (w.put a d).twin = w.twin := rfl
@[simp] theorem put_chop (w : Work) (a : Nat) (d : Word) : (w.put a d).chop = w.chop := rfl
@[simp] theorem put_kin (w : Work) (a : Nat) (d : Word) : (w.put a d).kin = w.kin := rfl
@[simp] theorem put_ember (w : Work) (a : Nat) (d : Word) : (w.put a d).ember = w.ember := rfl
@[simp] theorem put_therm (w : Work) (a : Nat) (d : Word) : (w.put a d).therm = w.therm := rfl
@[simp] theorem put_sec (w : Work) (a : Nat) (d : Word) : (w.put a d).sec = w.sec := rfl
@[simp] theorem put_swap (w : Work) (a : Nat) (d : Word) : (w.put a d).swap = w.swap := rfl
@[simp] theorem put_shut (w : Work) (a : Nat) (d : Word) : (w.put a d).shut = w.shut := rfl
@[simp] theorem put_held (w : Work) (a : Nat) (d : Word) : (w.put a d).held = w.held := rfl
@[simp] theorem put_out (w : Work) (a : Nat) (d : Word) : (w.put a d).out = w.out := rfl
@[simp] theorem put_freeCtr (w : Work) (a : Nat) (d : Word) : (w.put a d).freeCtr = w.freeCtr := rfl
@[simp] theorem put_now (w : Work) (a : Nat) (d : Word) : (w.put a d).now = w.now := rfl
@[simp] theorem put_up (w : Work) (a : Nat) (d : Word) : (w.put a d).up = w.up := rfl
@[simp] theorem put_inc (w : Work) (a : Nat) (d : Word) : (w.put a d).inc = w.inc := rfl

@[simp] theorem wr_shadow (w : Work) (pg : Nat) (f : Field) (v i : Nat) : (w.wr pg f v i).shadow = w.shadow := rfl
@[simp] theorem wr_latched (w : Work) (pg : Nat) (f : Field) (v i : Nat) : (w.wr pg f v i).latched = w.latched := rfl
@[simp] theorem wr_dram (w : Work) (pg : Nat) (f : Field) (v i : Nat) : (w.wr pg f v i).dram = w.dram := rfl
@[simp] theorem wr_sram (w : Work) (pg : Nat) (f : Field) (v i : Nat) : (w.wr pg f v i).sram = w.sram := rfl
@[simp] theorem wr_bad (w : Work) (pg : Nat) (f : Field) (v i : Nat) : (w.wr pg f v i).bad = w.bad := rfl
@[simp] theorem wr_rgn (w : Work) (pg : Nat) (f : Field) (v i : Nat) : (w.wr pg f v i).rgn = w.rgn := rfl
@[simp] theorem wr_clu (w : Work) (pg : Nat) (f : Field) (v i : Nat) : (w.wr pg f v i).clu = w.clu := rfl
@[simp] theorem wr_unit (w : Work) (pg : Nat) (f : Field) (v i : Nat) : (w.wr pg f v i).unit = w.unit := rfl
@[simp] theorem wr_lane (w : Work) (pg : Nat) (f : Field) (v i : Nat) : (w.wr pg f v i).lane = w.lane := rfl
@[simp] theorem wr_sl (w : Work) (pg : Nat) (f : Field) (v i : Nat) : (w.wr pg f v i).sl = w.sl := rfl
@[simp] theorem wr_adc (w : Work) (pg : Nat) (f : Field) (v i : Nat) : (w.wr pg f v i).adc = w.adc := rfl
@[simp] theorem wr_ain (w : Work) (pg : Nat) (f : Field) (v i : Nat) : (w.wr pg f v i).ain = w.ain := rfl
@[simp] theorem wr_cap (w : Work) (pg : Nat) (f : Field) (v i : Nat) : (w.wr pg f v i).cap = w.cap := rfl
@[simp] theorem wr_tout (w : Work) (pg : Nat) (f : Field) (v i : Nat) : (w.wr pg f v i).tout = w.tout := rfl
@[simp] theorem wr_ethRx (w : Work) (pg : Nat) (f : Field) (v i : Nat) : (w.wr pg f v i).ethRx = w.ethRx := rfl
@[simp] theorem wr_ethTx (w : Work) (pg : Nat) (f : Field) (v i : Nat) : (w.wr pg f v i).ethTx = w.ethTx := rfl
@[simp] theorem wr_flue (w : Work) (pg : Nat) (f : Field) (v i : Nat) : (w.wr pg f v i).flue = w.flue := rfl
@[simp] theorem wr_lines (w : Work) (pg : Nat) (f : Field) (v i : Nat) : (w.wr pg f v i).lines = w.lines := rfl
@[simp] theorem wr_events (w : Work) (pg : Nat) (f : Field) (v i : Nat) : (w.wr pg f v i).events = w.events := rfl
@[simp] theorem wr_eq (w : Work) (pg : Nat) (f : Field) (v i : Nat) : (w.wr pg f v i).eq = w.eq := rfl
@[simp] theorem wr_recd (w : Work) (pg : Nat) (f : Field) (v i : Nat) : (w.wr pg f v i).recd = w.recd := rfl
@[simp] theorem wr_net (w : Work) (pg : Nat) (f : Field) (v i : Nat) : (w.wr pg f v i).net = w.net := rfl
@[simp] theorem wr_hearth (w : Work) (pg : Nat) (f : Field) (v i : Nat) : (w.wr pg f v i).hearth = w.hearth := rfl
@[simp] theorem wr_twin (w : Work) (pg : Nat) (f : Field) (v i : Nat) : (w.wr pg f v i).twin = w.twin := rfl
@[simp] theorem wr_chop (w : Work) (pg : Nat) (f : Field) (v i : Nat) : (w.wr pg f v i).chop = w.chop := rfl
@[simp] theorem wr_kin (w : Work) (pg : Nat) (f : Field) (v i : Nat) : (w.wr pg f v i).kin = w.kin := rfl
@[simp] theorem wr_ember (w : Work) (pg : Nat) (f : Field) (v i : Nat) : (w.wr pg f v i).ember = w.ember := rfl
@[simp] theorem wr_therm (w : Work) (pg : Nat) (f : Field) (v i : Nat) : (w.wr pg f v i).therm = w.therm := rfl
@[simp] theorem wr_sec (w : Work) (pg : Nat) (f : Field) (v i : Nat) : (w.wr pg f v i).sec = w.sec := rfl
@[simp] theorem wr_swap (w : Work) (pg : Nat) (f : Field) (v i : Nat) : (w.wr pg f v i).swap = w.swap := rfl
@[simp] theorem wr_shut (w : Work) (pg : Nat) (f : Field) (v i : Nat) : (w.wr pg f v i).shut = w.shut := rfl
@[simp] theorem wr_held (w : Work) (pg : Nat) (f : Field) (v i : Nat) : (w.wr pg f v i).held = w.held := rfl
@[simp] theorem wr_out (w : Work) (pg : Nat) (f : Field) (v i : Nat) : (w.wr pg f v i).out = w.out := rfl
@[simp] theorem wr_freeCtr (w : Work) (pg : Nat) (f : Field) (v i : Nat) : (w.wr pg f v i).freeCtr = w.freeCtr := rfl
@[simp] theorem wr_now (w : Work) (pg : Nat) (f : Field) (v i : Nat) : (w.wr pg f v i).now = w.now := rfl
@[simp] theorem wr_up (w : Work) (pg : Nat) (f : Field) (v i : Nat) : (w.wr pg f v i).up = w.up := rfl
@[simp] theorem wr_inc (w : Work) (pg : Nat) (f : Field) (v i : Nat) : (w.wr pg f v i).inc = w.inc := rfl

@[simp] theorem shPut_regs (w : Work) (a : Nat) (d : Word) : (w.shPut a d).regs = w.regs := rfl
@[simp] theorem shPut_shadow (w : Work) (a : Nat) (d : Word) : (w.shPut a d).shadow = cellsPut resetWord w.shadow a d := rfl
@[simp] theorem shPut_latched (w : Work) (a : Nat) (d : Word) : (w.shPut a d).latched = w.latched := rfl
@[simp] theorem shPut_dram (w : Work) (a : Nat) (d : Word) : (w.shPut a d).dram = w.dram := rfl
@[simp] theorem shPut_sram (w : Work) (a : Nat) (d : Word) : (w.shPut a d).sram = w.sram := rfl
@[simp] theorem shPut_bad (w : Work) (a : Nat) (d : Word) : (w.shPut a d).bad = w.bad := rfl
@[simp] theorem shPut_rgn (w : Work) (a : Nat) (d : Word) : (w.shPut a d).rgn = w.rgn := rfl
@[simp] theorem shPut_clu (w : Work) (a : Nat) (d : Word) : (w.shPut a d).clu = w.clu := rfl
@[simp] theorem shPut_unit (w : Work) (a : Nat) (d : Word) : (w.shPut a d).unit = w.unit := rfl
@[simp] theorem shPut_lane (w : Work) (a : Nat) (d : Word) : (w.shPut a d).lane = w.lane := rfl
@[simp] theorem shPut_sl (w : Work) (a : Nat) (d : Word) : (w.shPut a d).sl = w.sl := rfl
@[simp] theorem shPut_adc (w : Work) (a : Nat) (d : Word) : (w.shPut a d).adc = w.adc := rfl
@[simp] theorem shPut_ain (w : Work) (a : Nat) (d : Word) : (w.shPut a d).ain = w.ain := rfl
@[simp] theorem shPut_cap (w : Work) (a : Nat) (d : Word) : (w.shPut a d).cap = w.cap := rfl
@[simp] theorem shPut_tout (w : Work) (a : Nat) (d : Word) : (w.shPut a d).tout = w.tout := rfl
@[simp] theorem shPut_ethRx (w : Work) (a : Nat) (d : Word) : (w.shPut a d).ethRx = w.ethRx := rfl
@[simp] theorem shPut_ethTx (w : Work) (a : Nat) (d : Word) : (w.shPut a d).ethTx = w.ethTx := rfl
@[simp] theorem shPut_flue (w : Work) (a : Nat) (d : Word) : (w.shPut a d).flue = w.flue := rfl
@[simp] theorem shPut_lines (w : Work) (a : Nat) (d : Word) : (w.shPut a d).lines = w.lines := rfl
@[simp] theorem shPut_events (w : Work) (a : Nat) (d : Word) : (w.shPut a d).events = w.events := rfl
@[simp] theorem shPut_eq (w : Work) (a : Nat) (d : Word) : (w.shPut a d).eq = w.eq := rfl
@[simp] theorem shPut_recd (w : Work) (a : Nat) (d : Word) : (w.shPut a d).recd = w.recd := rfl
@[simp] theorem shPut_net (w : Work) (a : Nat) (d : Word) : (w.shPut a d).net = w.net := rfl
@[simp] theorem shPut_hearth (w : Work) (a : Nat) (d : Word) : (w.shPut a d).hearth = w.hearth := rfl
@[simp] theorem shPut_twin (w : Work) (a : Nat) (d : Word) : (w.shPut a d).twin = w.twin := rfl
@[simp] theorem shPut_chop (w : Work) (a : Nat) (d : Word) : (w.shPut a d).chop = w.chop := rfl
@[simp] theorem shPut_kin (w : Work) (a : Nat) (d : Word) : (w.shPut a d).kin = w.kin := rfl
@[simp] theorem shPut_ember (w : Work) (a : Nat) (d : Word) : (w.shPut a d).ember = w.ember := rfl
@[simp] theorem shPut_therm (w : Work) (a : Nat) (d : Word) : (w.shPut a d).therm = w.therm := rfl
@[simp] theorem shPut_sec (w : Work) (a : Nat) (d : Word) : (w.shPut a d).sec = w.sec := rfl
@[simp] theorem shPut_swap (w : Work) (a : Nat) (d : Word) : (w.shPut a d).swap = w.swap := rfl
@[simp] theorem shPut_shut (w : Work) (a : Nat) (d : Word) : (w.shPut a d).shut = w.shut := rfl
@[simp] theorem shPut_held (w : Work) (a : Nat) (d : Word) : (w.shPut a d).held = w.held := rfl
@[simp] theorem shPut_out (w : Work) (a : Nat) (d : Word) : (w.shPut a d).out = w.out := rfl
@[simp] theorem shPut_freeCtr (w : Work) (a : Nat) (d : Word) : (w.shPut a d).freeCtr = w.freeCtr := rfl
@[simp] theorem shPut_now (w : Work) (a : Nat) (d : Word) : (w.shPut a d).now = w.now := rfl
@[simp] theorem shPut_up (w : Work) (a : Nat) (d : Word) : (w.shPut a d).up = w.up := rfl
@[simp] theorem shPut_inc (w : Work) (a : Nat) (d : Word) : (w.shPut a d).inc = w.inc := rfl

@[simp] theorem emit_regs (w : Work) (o : Out) : (w.emit o).regs = w.regs := rfl
@[simp] theorem emit_shadow (w : Work) (o : Out) : (w.emit o).shadow = w.shadow := rfl
@[simp] theorem emit_latched (w : Work) (o : Out) : (w.emit o).latched = w.latched := rfl
@[simp] theorem emit_dram (w : Work) (o : Out) : (w.emit o).dram = w.dram := rfl
@[simp] theorem emit_sram (w : Work) (o : Out) : (w.emit o).sram = w.sram := rfl
@[simp] theorem emit_bad (w : Work) (o : Out) : (w.emit o).bad = w.bad := rfl
@[simp] theorem emit_rgn (w : Work) (o : Out) : (w.emit o).rgn = w.rgn := rfl
@[simp] theorem emit_clu (w : Work) (o : Out) : (w.emit o).clu = w.clu := rfl
@[simp] theorem emit_unit (w : Work) (o : Out) : (w.emit o).unit = w.unit := rfl
@[simp] theorem emit_lane (w : Work) (o : Out) : (w.emit o).lane = w.lane := rfl
@[simp] theorem emit_sl (w : Work) (o : Out) : (w.emit o).sl = w.sl := rfl
@[simp] theorem emit_adc (w : Work) (o : Out) : (w.emit o).adc = w.adc := rfl
@[simp] theorem emit_ain (w : Work) (o : Out) : (w.emit o).ain = w.ain := rfl
@[simp] theorem emit_cap (w : Work) (o : Out) : (w.emit o).cap = w.cap := rfl
@[simp] theorem emit_tout (w : Work) (o : Out) : (w.emit o).tout = w.tout := rfl
@[simp] theorem emit_ethRx (w : Work) (o : Out) : (w.emit o).ethRx = w.ethRx := rfl
@[simp] theorem emit_ethTx (w : Work) (o : Out) : (w.emit o).ethTx = w.ethTx := rfl
@[simp] theorem emit_flue (w : Work) (o : Out) : (w.emit o).flue = w.flue := rfl
@[simp] theorem emit_lines (w : Work) (o : Out) : (w.emit o).lines = w.lines := rfl
@[simp] theorem emit_events (w : Work) (o : Out) : (w.emit o).events = w.events := rfl
@[simp] theorem emit_eq (w : Work) (o : Out) : (w.emit o).eq = w.eq := rfl
@[simp] theorem emit_recd (w : Work) (o : Out) : (w.emit o).recd = w.recd := rfl
@[simp] theorem emit_net (w : Work) (o : Out) : (w.emit o).net = w.net := rfl
@[simp] theorem emit_hearth (w : Work) (o : Out) : (w.emit o).hearth = w.hearth := rfl
@[simp] theorem emit_twin (w : Work) (o : Out) : (w.emit o).twin = w.twin := rfl
@[simp] theorem emit_chop (w : Work) (o : Out) : (w.emit o).chop = w.chop := rfl
@[simp] theorem emit_kin (w : Work) (o : Out) : (w.emit o).kin = w.kin := rfl
@[simp] theorem emit_ember (w : Work) (o : Out) : (w.emit o).ember = w.ember := rfl
@[simp] theorem emit_therm (w : Work) (o : Out) : (w.emit o).therm = w.therm := rfl
@[simp] theorem emit_sec (w : Work) (o : Out) : (w.emit o).sec = w.sec := rfl
@[simp] theorem emit_swap (w : Work) (o : Out) : (w.emit o).swap = w.swap := rfl
@[simp] theorem emit_shut (w : Work) (o : Out) : (w.emit o).shut = w.shut := rfl
@[simp] theorem emit_held (w : Work) (o : Out) : (w.emit o).held = w.held := rfl
@[simp] theorem emit_out (w : Work) (o : Out) : (w.emit o).out = w.out ++ [o] := rfl
@[simp] theorem emit_freeCtr (w : Work) (o : Out) : (w.emit o).freeCtr = w.freeCtr := rfl
@[simp] theorem emit_now (w : Work) (o : Out) : (w.emit o).now = w.now := rfl
@[simp] theorem emit_up (w : Work) (o : Out) : (w.emit o).up = w.up := rfl
@[simp] theorem emit_inc (w : Work) (o : Out) : (w.emit o).inc = w.inc := rfl

@[simp] theorem msix_regs (w : Work) (v : Nat) : (w.msix v).regs = w.regs := rfl
@[simp] theorem msix_shadow (w : Work) (v : Nat) : (w.msix v).shadow = w.shadow := rfl
@[simp] theorem msix_latched (w : Work) (v : Nat) : (w.msix v).latched = w.latched := rfl
@[simp] theorem msix_dram (w : Work) (v : Nat) : (w.msix v).dram = w.dram := rfl
@[simp] theorem msix_sram (w : Work) (v : Nat) : (w.msix v).sram = w.sram := rfl
@[simp] theorem msix_bad (w : Work) (v : Nat) : (w.msix v).bad = w.bad := rfl
@[simp] theorem msix_rgn (w : Work) (v : Nat) : (w.msix v).rgn = w.rgn := rfl
@[simp] theorem msix_clu (w : Work) (v : Nat) : (w.msix v).clu = w.clu := rfl
@[simp] theorem msix_unit (w : Work) (v : Nat) : (w.msix v).unit = w.unit := rfl
@[simp] theorem msix_lane (w : Work) (v : Nat) : (w.msix v).lane = w.lane := rfl
@[simp] theorem msix_sl (w : Work) (v : Nat) : (w.msix v).sl = w.sl := rfl
@[simp] theorem msix_adc (w : Work) (v : Nat) : (w.msix v).adc = w.adc := rfl
@[simp] theorem msix_ain (w : Work) (v : Nat) : (w.msix v).ain = w.ain := rfl
@[simp] theorem msix_cap (w : Work) (v : Nat) : (w.msix v).cap = w.cap := rfl
@[simp] theorem msix_tout (w : Work) (v : Nat) : (w.msix v).tout = w.tout := rfl
@[simp] theorem msix_ethRx (w : Work) (v : Nat) : (w.msix v).ethRx = w.ethRx := rfl
@[simp] theorem msix_ethTx (w : Work) (v : Nat) : (w.msix v).ethTx = w.ethTx := rfl
@[simp] theorem msix_flue (w : Work) (v : Nat) : (w.msix v).flue = w.flue := rfl
@[simp] theorem msix_lines (w : Work) (v : Nat) : (w.msix v).lines = w.lines := rfl
@[simp] theorem msix_events (w : Work) (v : Nat) : (w.msix v).events = w.events := rfl
@[simp] theorem msix_eq (w : Work) (v : Nat) : (w.msix v).eq = w.eq := rfl
@[simp] theorem msix_recd (w : Work) (v : Nat) : (w.msix v).recd = w.recd := rfl
@[simp] theorem msix_net (w : Work) (v : Nat) : (w.msix v).net = w.net := rfl
@[simp] theorem msix_hearth (w : Work) (v : Nat) : (w.msix v).hearth = w.hearth := rfl
@[simp] theorem msix_twin (w : Work) (v : Nat) : (w.msix v).twin = w.twin := rfl
@[simp] theorem msix_chop (w : Work) (v : Nat) : (w.msix v).chop = w.chop := rfl
@[simp] theorem msix_kin (w : Work) (v : Nat) : (w.msix v).kin = w.kin := rfl
@[simp] theorem msix_ember (w : Work) (v : Nat) : (w.msix v).ember = w.ember := rfl
@[simp] theorem msix_therm (w : Work) (v : Nat) : (w.msix v).therm = w.therm := rfl
@[simp] theorem msix_sec (w : Work) (v : Nat) : (w.msix v).sec = w.sec := rfl
@[simp] theorem msix_swap (w : Work) (v : Nat) : (w.msix v).swap = w.swap := rfl
@[simp] theorem msix_shut (w : Work) (v : Nat) : (w.msix v).shut = w.shut := rfl
@[simp] theorem msix_held (w : Work) (v : Nat) : (w.msix v).held = w.held := rfl
@[simp] theorem msix_out (w : Work) (v : Nat) : (w.msix v).out = w.out ++ [.msix v] := rfl
@[simp] theorem msix_freeCtr (w : Work) (v : Nat) : (w.msix v).freeCtr = w.freeCtr := rfl
@[simp] theorem msix_now (w : Work) (v : Nat) : (w.msix v).now = w.now := rfl
@[simp] theorem msix_up (w : Work) (v : Nat) : (w.msix v).up = w.up := rfl
@[simp] theorem msix_inc (w : Work) (v : Nat) : (w.msix v).inc = w.inc := rfl

@[simp] theorem setEvents_regs (w : Work) (l : List Event) : (w.setEvents l).regs = w.regs := rfl
@[simp] theorem setEvents_shadow (w : Work) (l : List Event) : (w.setEvents l).shadow = w.shadow := rfl
@[simp] theorem setEvents_latched (w : Work) (l : List Event) : (w.setEvents l).latched = w.latched := rfl
@[simp] theorem setEvents_dram (w : Work) (l : List Event) : (w.setEvents l).dram = w.dram := rfl
@[simp] theorem setEvents_sram (w : Work) (l : List Event) : (w.setEvents l).sram = w.sram := rfl
@[simp] theorem setEvents_bad (w : Work) (l : List Event) : (w.setEvents l).bad = w.bad := rfl
@[simp] theorem setEvents_rgn (w : Work) (l : List Event) : (w.setEvents l).rgn = w.rgn := rfl
@[simp] theorem setEvents_clu (w : Work) (l : List Event) : (w.setEvents l).clu = w.clu := rfl
@[simp] theorem setEvents_unit (w : Work) (l : List Event) : (w.setEvents l).unit = w.unit := rfl
@[simp] theorem setEvents_lane (w : Work) (l : List Event) : (w.setEvents l).lane = w.lane := rfl
@[simp] theorem setEvents_sl (w : Work) (l : List Event) : (w.setEvents l).sl = w.sl := rfl
@[simp] theorem setEvents_adc (w : Work) (l : List Event) : (w.setEvents l).adc = w.adc := rfl
@[simp] theorem setEvents_ain (w : Work) (l : List Event) : (w.setEvents l).ain = w.ain := rfl
@[simp] theorem setEvents_cap (w : Work) (l : List Event) : (w.setEvents l).cap = w.cap := rfl
@[simp] theorem setEvents_tout (w : Work) (l : List Event) : (w.setEvents l).tout = w.tout := rfl
@[simp] theorem setEvents_ethRx (w : Work) (l : List Event) : (w.setEvents l).ethRx = w.ethRx := rfl
@[simp] theorem setEvents_ethTx (w : Work) (l : List Event) : (w.setEvents l).ethTx = w.ethTx := rfl
@[simp] theorem setEvents_flue (w : Work) (l : List Event) : (w.setEvents l).flue = w.flue := rfl
@[simp] theorem setEvents_lines (w : Work) (l : List Event) : (w.setEvents l).lines = w.lines := rfl
@[simp] theorem setEvents_events (w : Work) (l : List Event) : (w.setEvents l).events = l := rfl
@[simp] theorem setEvents_eq (w : Work) (l : List Event) : (w.setEvents l).eq = w.eq := rfl
@[simp] theorem setEvents_recd (w : Work) (l : List Event) : (w.setEvents l).recd = w.recd := rfl
@[simp] theorem setEvents_net (w : Work) (l : List Event) : (w.setEvents l).net = w.net := rfl
@[simp] theorem setEvents_hearth (w : Work) (l : List Event) : (w.setEvents l).hearth = w.hearth := rfl
@[simp] theorem setEvents_twin (w : Work) (l : List Event) : (w.setEvents l).twin = w.twin := rfl
@[simp] theorem setEvents_chop (w : Work) (l : List Event) : (w.setEvents l).chop = w.chop := rfl
@[simp] theorem setEvents_kin (w : Work) (l : List Event) : (w.setEvents l).kin = w.kin := rfl
@[simp] theorem setEvents_ember (w : Work) (l : List Event) : (w.setEvents l).ember = w.ember := rfl
@[simp] theorem setEvents_therm (w : Work) (l : List Event) : (w.setEvents l).therm = w.therm := rfl
@[simp] theorem setEvents_sec (w : Work) (l : List Event) : (w.setEvents l).sec = w.sec := rfl
@[simp] theorem setEvents_swap (w : Work) (l : List Event) : (w.setEvents l).swap = w.swap := rfl
@[simp] theorem setEvents_shut (w : Work) (l : List Event) : (w.setEvents l).shut = w.shut := rfl
@[simp] theorem setEvents_held (w : Work) (l : List Event) : (w.setEvents l).held = w.held := rfl
@[simp] theorem setEvents_out (w : Work) (l : List Event) : (w.setEvents l).out = w.out := rfl
@[simp] theorem setEvents_freeCtr (w : Work) (l : List Event) : (w.setEvents l).freeCtr = w.freeCtr := rfl
@[simp] theorem setEvents_now (w : Work) (l : List Event) : (w.setEvents l).now = w.now := rfl
@[simp] theorem setEvents_up (w : Work) (l : List Event) : (w.setEvents l).up = w.up := rfl
@[simp] theorem setEvents_inc (w : Work) (l : List Event) : (w.setEvents l).inc = w.inc := rfl

@[simp] theorem event_regs (w : Work) (cls pg : Nat) (p : List Nat) : (w.event cls pg p).regs = w.regs := rfl
@[simp] theorem event_shadow (w : Work) (cls pg : Nat) (p : List Nat) : (w.event cls pg p).shadow = w.shadow := rfl
@[simp] theorem event_latched (w : Work) (cls pg : Nat) (p : List Nat) : (w.event cls pg p).latched = w.latched := rfl
@[simp] theorem event_dram (w : Work) (cls pg : Nat) (p : List Nat) : (w.event cls pg p).dram = w.dram := rfl
@[simp] theorem event_sram (w : Work) (cls pg : Nat) (p : List Nat) : (w.event cls pg p).sram = w.sram := rfl
@[simp] theorem event_bad (w : Work) (cls pg : Nat) (p : List Nat) : (w.event cls pg p).bad = w.bad := rfl
@[simp] theorem event_rgn (w : Work) (cls pg : Nat) (p : List Nat) : (w.event cls pg p).rgn = w.rgn := rfl
@[simp] theorem event_clu (w : Work) (cls pg : Nat) (p : List Nat) : (w.event cls pg p).clu = w.clu := rfl
@[simp] theorem event_unit (w : Work) (cls pg : Nat) (p : List Nat) : (w.event cls pg p).unit = w.unit := rfl
@[simp] theorem event_lane (w : Work) (cls pg : Nat) (p : List Nat) : (w.event cls pg p).lane = w.lane := rfl
@[simp] theorem event_sl (w : Work) (cls pg : Nat) (p : List Nat) : (w.event cls pg p).sl = w.sl := rfl
@[simp] theorem event_adc (w : Work) (cls pg : Nat) (p : List Nat) : (w.event cls pg p).adc = w.adc := rfl
@[simp] theorem event_ain (w : Work) (cls pg : Nat) (p : List Nat) : (w.event cls pg p).ain = w.ain := rfl
@[simp] theorem event_cap (w : Work) (cls pg : Nat) (p : List Nat) : (w.event cls pg p).cap = w.cap := rfl
@[simp] theorem event_tout (w : Work) (cls pg : Nat) (p : List Nat) : (w.event cls pg p).tout = w.tout := rfl
@[simp] theorem event_ethRx (w : Work) (cls pg : Nat) (p : List Nat) : (w.event cls pg p).ethRx = w.ethRx := rfl
@[simp] theorem event_ethTx (w : Work) (cls pg : Nat) (p : List Nat) : (w.event cls pg p).ethTx = w.ethTx := rfl
@[simp] theorem event_flue (w : Work) (cls pg : Nat) (p : List Nat) : (w.event cls pg p).flue = w.flue := rfl
@[simp] theorem event_lines (w : Work) (cls pg : Nat) (p : List Nat) : (w.event cls pg p).lines = w.lines := rfl
@[simp] theorem event_events (w : Work) (cls pg : Nat) (p : List Nat) : (w.event cls pg p).events = w.events ++ [⟨cls, pg / 0x1000, p.map (BitVec.ofNat 32)⟩] := rfl
@[simp] theorem event_eq (w : Work) (cls pg : Nat) (p : List Nat) : (w.event cls pg p).eq = w.eq := rfl
@[simp] theorem event_recd (w : Work) (cls pg : Nat) (p : List Nat) : (w.event cls pg p).recd = w.recd := rfl
@[simp] theorem event_net (w : Work) (cls pg : Nat) (p : List Nat) : (w.event cls pg p).net = w.net := rfl
@[simp] theorem event_hearth (w : Work) (cls pg : Nat) (p : List Nat) : (w.event cls pg p).hearth = w.hearth := rfl
@[simp] theorem event_twin (w : Work) (cls pg : Nat) (p : List Nat) : (w.event cls pg p).twin = w.twin := rfl
@[simp] theorem event_chop (w : Work) (cls pg : Nat) (p : List Nat) : (w.event cls pg p).chop = w.chop := rfl
@[simp] theorem event_kin (w : Work) (cls pg : Nat) (p : List Nat) : (w.event cls pg p).kin = w.kin := rfl
@[simp] theorem event_ember (w : Work) (cls pg : Nat) (p : List Nat) : (w.event cls pg p).ember = w.ember := rfl
@[simp] theorem event_therm (w : Work) (cls pg : Nat) (p : List Nat) : (w.event cls pg p).therm = w.therm := rfl
@[simp] theorem event_sec (w : Work) (cls pg : Nat) (p : List Nat) : (w.event cls pg p).sec = w.sec := rfl
@[simp] theorem event_swap (w : Work) (cls pg : Nat) (p : List Nat) : (w.event cls pg p).swap = w.swap := rfl
@[simp] theorem event_shut (w : Work) (cls pg : Nat) (p : List Nat) : (w.event cls pg p).shut = w.shut := rfl
@[simp] theorem event_held (w : Work) (cls pg : Nat) (p : List Nat) : (w.event cls pg p).held = w.held := rfl
@[simp] theorem event_out (w : Work) (cls pg : Nat) (p : List Nat) : (w.event cls pg p).out = w.out := rfl
@[simp] theorem event_freeCtr (w : Work) (cls pg : Nat) (p : List Nat) : (w.event cls pg p).freeCtr = w.freeCtr := rfl
@[simp] theorem event_now (w : Work) (cls pg : Nat) (p : List Nat) : (w.event cls pg p).now = w.now := rfl
@[simp] theorem event_up (w : Work) (cls pg : Nat) (p : List Nat) : (w.event cls pg p).up = w.up := rfl
@[simp] theorem event_inc (w : Work) (cls pg : Nat) (p : List Nat) : (w.event cls pg p).inc = w.inc := rfl

@[simp] theorem setFlue_regs (w : Work) (l : List InFlight) : (w.setFlue l).regs = w.regs := rfl
@[simp] theorem setFlue_shadow (w : Work) (l : List InFlight) : (w.setFlue l).shadow = w.shadow := rfl
@[simp] theorem setFlue_latched (w : Work) (l : List InFlight) : (w.setFlue l).latched = w.latched := rfl
@[simp] theorem setFlue_dram (w : Work) (l : List InFlight) : (w.setFlue l).dram = w.dram := rfl
@[simp] theorem setFlue_sram (w : Work) (l : List InFlight) : (w.setFlue l).sram = w.sram := rfl
@[simp] theorem setFlue_bad (w : Work) (l : List InFlight) : (w.setFlue l).bad = w.bad := rfl
@[simp] theorem setFlue_rgn (w : Work) (l : List InFlight) : (w.setFlue l).rgn = w.rgn := rfl
@[simp] theorem setFlue_clu (w : Work) (l : List InFlight) : (w.setFlue l).clu = w.clu := rfl
@[simp] theorem setFlue_unit (w : Work) (l : List InFlight) : (w.setFlue l).unit = w.unit := rfl
@[simp] theorem setFlue_lane (w : Work) (l : List InFlight) : (w.setFlue l).lane = w.lane := rfl
@[simp] theorem setFlue_sl (w : Work) (l : List InFlight) : (w.setFlue l).sl = w.sl := rfl
@[simp] theorem setFlue_adc (w : Work) (l : List InFlight) : (w.setFlue l).adc = w.adc := rfl
@[simp] theorem setFlue_ain (w : Work) (l : List InFlight) : (w.setFlue l).ain = w.ain := rfl
@[simp] theorem setFlue_cap (w : Work) (l : List InFlight) : (w.setFlue l).cap = w.cap := rfl
@[simp] theorem setFlue_tout (w : Work) (l : List InFlight) : (w.setFlue l).tout = w.tout := rfl
@[simp] theorem setFlue_ethRx (w : Work) (l : List InFlight) : (w.setFlue l).ethRx = w.ethRx := rfl
@[simp] theorem setFlue_ethTx (w : Work) (l : List InFlight) : (w.setFlue l).ethTx = w.ethTx := rfl
@[simp] theorem setFlue_flue (w : Work) (l : List InFlight) : (w.setFlue l).flue = l := rfl
@[simp] theorem setFlue_lines (w : Work) (l : List InFlight) : (w.setFlue l).lines = w.lines := rfl
@[simp] theorem setFlue_events (w : Work) (l : List InFlight) : (w.setFlue l).events = w.events := rfl
@[simp] theorem setFlue_eq (w : Work) (l : List InFlight) : (w.setFlue l).eq = w.eq := rfl
@[simp] theorem setFlue_recd (w : Work) (l : List InFlight) : (w.setFlue l).recd = w.recd := rfl
@[simp] theorem setFlue_net (w : Work) (l : List InFlight) : (w.setFlue l).net = w.net := rfl
@[simp] theorem setFlue_hearth (w : Work) (l : List InFlight) : (w.setFlue l).hearth = w.hearth := rfl
@[simp] theorem setFlue_twin (w : Work) (l : List InFlight) : (w.setFlue l).twin = w.twin := rfl
@[simp] theorem setFlue_chop (w : Work) (l : List InFlight) : (w.setFlue l).chop = w.chop := rfl
@[simp] theorem setFlue_kin (w : Work) (l : List InFlight) : (w.setFlue l).kin = w.kin := rfl
@[simp] theorem setFlue_ember (w : Work) (l : List InFlight) : (w.setFlue l).ember = w.ember := rfl
@[simp] theorem setFlue_therm (w : Work) (l : List InFlight) : (w.setFlue l).therm = w.therm := rfl
@[simp] theorem setFlue_sec (w : Work) (l : List InFlight) : (w.setFlue l).sec = w.sec := rfl
@[simp] theorem setFlue_swap (w : Work) (l : List InFlight) : (w.setFlue l).swap = w.swap := rfl
@[simp] theorem setFlue_shut (w : Work) (l : List InFlight) : (w.setFlue l).shut = w.shut := rfl
@[simp] theorem setFlue_held (w : Work) (l : List InFlight) : (w.setFlue l).held = w.held := rfl
@[simp] theorem setFlue_out (w : Work) (l : List InFlight) : (w.setFlue l).out = w.out := rfl
@[simp] theorem setFlue_freeCtr (w : Work) (l : List InFlight) : (w.setFlue l).freeCtr = w.freeCtr := rfl
@[simp] theorem setFlue_now (w : Work) (l : List InFlight) : (w.setFlue l).now = w.now := rfl
@[simp] theorem setFlue_up (w : Work) (l : List InFlight) : (w.setFlue l).up = w.up := rfl
@[simp] theorem setFlue_inc (w : Work) (l : List InFlight) : (w.setFlue l).inc = w.inc := rfl

@[simp] theorem setLines_regs (w : Work) (l : List Report) : (w.setLines l).regs = w.regs := rfl
@[simp] theorem setLines_shadow (w : Work) (l : List Report) : (w.setLines l).shadow = w.shadow := rfl
@[simp] theorem setLines_latched (w : Work) (l : List Report) : (w.setLines l).latched = w.latched := rfl
@[simp] theorem setLines_dram (w : Work) (l : List Report) : (w.setLines l).dram = w.dram := rfl
@[simp] theorem setLines_sram (w : Work) (l : List Report) : (w.setLines l).sram = w.sram := rfl
@[simp] theorem setLines_bad (w : Work) (l : List Report) : (w.setLines l).bad = w.bad := rfl
@[simp] theorem setLines_rgn (w : Work) (l : List Report) : (w.setLines l).rgn = w.rgn := rfl
@[simp] theorem setLines_clu (w : Work) (l : List Report) : (w.setLines l).clu = w.clu := rfl
@[simp] theorem setLines_unit (w : Work) (l : List Report) : (w.setLines l).unit = w.unit := rfl
@[simp] theorem setLines_lane (w : Work) (l : List Report) : (w.setLines l).lane = w.lane := rfl
@[simp] theorem setLines_sl (w : Work) (l : List Report) : (w.setLines l).sl = w.sl := rfl
@[simp] theorem setLines_adc (w : Work) (l : List Report) : (w.setLines l).adc = w.adc := rfl
@[simp] theorem setLines_ain (w : Work) (l : List Report) : (w.setLines l).ain = w.ain := rfl
@[simp] theorem setLines_cap (w : Work) (l : List Report) : (w.setLines l).cap = w.cap := rfl
@[simp] theorem setLines_tout (w : Work) (l : List Report) : (w.setLines l).tout = w.tout := rfl
@[simp] theorem setLines_ethRx (w : Work) (l : List Report) : (w.setLines l).ethRx = w.ethRx := rfl
@[simp] theorem setLines_ethTx (w : Work) (l : List Report) : (w.setLines l).ethTx = w.ethTx := rfl
@[simp] theorem setLines_flue (w : Work) (l : List Report) : (w.setLines l).flue = w.flue := rfl
@[simp] theorem setLines_lines (w : Work) (l : List Report) : (w.setLines l).lines = l := rfl
@[simp] theorem setLines_events (w : Work) (l : List Report) : (w.setLines l).events = w.events := rfl
@[simp] theorem setLines_eq (w : Work) (l : List Report) : (w.setLines l).eq = w.eq := rfl
@[simp] theorem setLines_recd (w : Work) (l : List Report) : (w.setLines l).recd = w.recd := rfl
@[simp] theorem setLines_net (w : Work) (l : List Report) : (w.setLines l).net = w.net := rfl
@[simp] theorem setLines_hearth (w : Work) (l : List Report) : (w.setLines l).hearth = w.hearth := rfl
@[simp] theorem setLines_twin (w : Work) (l : List Report) : (w.setLines l).twin = w.twin := rfl
@[simp] theorem setLines_chop (w : Work) (l : List Report) : (w.setLines l).chop = w.chop := rfl
@[simp] theorem setLines_kin (w : Work) (l : List Report) : (w.setLines l).kin = w.kin := rfl
@[simp] theorem setLines_ember (w : Work) (l : List Report) : (w.setLines l).ember = w.ember := rfl
@[simp] theorem setLines_therm (w : Work) (l : List Report) : (w.setLines l).therm = w.therm := rfl
@[simp] theorem setLines_sec (w : Work) (l : List Report) : (w.setLines l).sec = w.sec := rfl
@[simp] theorem setLines_swap (w : Work) (l : List Report) : (w.setLines l).swap = w.swap := rfl
@[simp] theorem setLines_shut (w : Work) (l : List Report) : (w.setLines l).shut = w.shut := rfl
@[simp] theorem setLines_held (w : Work) (l : List Report) : (w.setLines l).held = w.held := rfl
@[simp] theorem setLines_out (w : Work) (l : List Report) : (w.setLines l).out = w.out := rfl
@[simp] theorem setLines_freeCtr (w : Work) (l : List Report) : (w.setLines l).freeCtr = w.freeCtr := rfl
@[simp] theorem setLines_now (w : Work) (l : List Report) : (w.setLines l).now = w.now := rfl
@[simp] theorem setLines_up (w : Work) (l : List Report) : (w.setLines l).up = w.up := rfl
@[simp] theorem setLines_inc (w : Work) (l : List Report) : (w.setLines l).inc = w.inc := rfl

@[simp] theorem modRg_regs (w : Work) (n : Nat) (f : Region → Region) : (w.modRg n f).regs = w.regs := rfl
@[simp] theorem modRg_shadow (w : Work) (n : Nat) (f : Region → Region) : (w.modRg n f).shadow = w.shadow := rfl
@[simp] theorem modRg_latched (w : Work) (n : Nat) (f : Region → Region) : (w.modRg n f).latched = w.latched := rfl
@[simp] theorem modRg_dram (w : Work) (n : Nat) (f : Region → Region) : (w.modRg n f).dram = w.dram := rfl
@[simp] theorem modRg_sram (w : Work) (n : Nat) (f : Region → Region) : (w.modRg n f).sram = w.sram := rfl
@[simp] theorem modRg_bad (w : Work) (n : Nat) (f : Region → Region) : (w.modRg n f).bad = w.bad := rfl
@[simp] theorem modRg_rgn (w : Work) (n : Nat) (f : Region → Region) : (w.modRg n f).rgn = vmod w.rgn n f := rfl
@[simp] theorem modRg_clu (w : Work) (n : Nat) (f : Region → Region) : (w.modRg n f).clu = w.clu := rfl
@[simp] theorem modRg_unit (w : Work) (n : Nat) (f : Region → Region) : (w.modRg n f).unit = w.unit := rfl
@[simp] theorem modRg_lane (w : Work) (n : Nat) (f : Region → Region) : (w.modRg n f).lane = w.lane := rfl
@[simp] theorem modRg_sl (w : Work) (n : Nat) (f : Region → Region) : (w.modRg n f).sl = w.sl := rfl
@[simp] theorem modRg_adc (w : Work) (n : Nat) (f : Region → Region) : (w.modRg n f).adc = w.adc := rfl
@[simp] theorem modRg_ain (w : Work) (n : Nat) (f : Region → Region) : (w.modRg n f).ain = w.ain := rfl
@[simp] theorem modRg_cap (w : Work) (n : Nat) (f : Region → Region) : (w.modRg n f).cap = w.cap := rfl
@[simp] theorem modRg_tout (w : Work) (n : Nat) (f : Region → Region) : (w.modRg n f).tout = w.tout := rfl
@[simp] theorem modRg_ethRx (w : Work) (n : Nat) (f : Region → Region) : (w.modRg n f).ethRx = w.ethRx := rfl
@[simp] theorem modRg_ethTx (w : Work) (n : Nat) (f : Region → Region) : (w.modRg n f).ethTx = w.ethTx := rfl
@[simp] theorem modRg_flue (w : Work) (n : Nat) (f : Region → Region) : (w.modRg n f).flue = w.flue := rfl
@[simp] theorem modRg_lines (w : Work) (n : Nat) (f : Region → Region) : (w.modRg n f).lines = w.lines := rfl
@[simp] theorem modRg_events (w : Work) (n : Nat) (f : Region → Region) : (w.modRg n f).events = w.events := rfl
@[simp] theorem modRg_eq (w : Work) (n : Nat) (f : Region → Region) : (w.modRg n f).eq = w.eq := rfl
@[simp] theorem modRg_recd (w : Work) (n : Nat) (f : Region → Region) : (w.modRg n f).recd = w.recd := rfl
@[simp] theorem modRg_net (w : Work) (n : Nat) (f : Region → Region) : (w.modRg n f).net = w.net := rfl
@[simp] theorem modRg_hearth (w : Work) (n : Nat) (f : Region → Region) : (w.modRg n f).hearth = w.hearth := rfl
@[simp] theorem modRg_twin (w : Work) (n : Nat) (f : Region → Region) : (w.modRg n f).twin = w.twin := rfl
@[simp] theorem modRg_chop (w : Work) (n : Nat) (f : Region → Region) : (w.modRg n f).chop = w.chop := rfl
@[simp] theorem modRg_kin (w : Work) (n : Nat) (f : Region → Region) : (w.modRg n f).kin = w.kin := rfl
@[simp] theorem modRg_ember (w : Work) (n : Nat) (f : Region → Region) : (w.modRg n f).ember = w.ember := rfl
@[simp] theorem modRg_therm (w : Work) (n : Nat) (f : Region → Region) : (w.modRg n f).therm = w.therm := rfl
@[simp] theorem modRg_sec (w : Work) (n : Nat) (f : Region → Region) : (w.modRg n f).sec = w.sec := rfl
@[simp] theorem modRg_swap (w : Work) (n : Nat) (f : Region → Region) : (w.modRg n f).swap = w.swap := rfl
@[simp] theorem modRg_shut (w : Work) (n : Nat) (f : Region → Region) : (w.modRg n f).shut = w.shut := rfl
@[simp] theorem modRg_held (w : Work) (n : Nat) (f : Region → Region) : (w.modRg n f).held = w.held := rfl
@[simp] theorem modRg_out (w : Work) (n : Nat) (f : Region → Region) : (w.modRg n f).out = w.out := rfl
@[simp] theorem modRg_freeCtr (w : Work) (n : Nat) (f : Region → Region) : (w.modRg n f).freeCtr = w.freeCtr := rfl
@[simp] theorem modRg_now (w : Work) (n : Nat) (f : Region → Region) : (w.modRg n f).now = w.now := rfl
@[simp] theorem modRg_up (w : Work) (n : Nat) (f : Region → Region) : (w.modRg n f).up = w.up := rfl
@[simp] theorem modRg_inc (w : Work) (n : Nat) (f : Region → Region) : (w.modRg n f).inc = w.inc := rfl

@[simp] theorem modCl_regs (w : Work) (c : Nat) (f : Cluster → Cluster) : (w.modCl c f).regs = w.regs := rfl
@[simp] theorem modCl_shadow (w : Work) (c : Nat) (f : Cluster → Cluster) : (w.modCl c f).shadow = w.shadow := rfl
@[simp] theorem modCl_latched (w : Work) (c : Nat) (f : Cluster → Cluster) : (w.modCl c f).latched = w.latched := rfl
@[simp] theorem modCl_dram (w : Work) (c : Nat) (f : Cluster → Cluster) : (w.modCl c f).dram = w.dram := rfl
@[simp] theorem modCl_sram (w : Work) (c : Nat) (f : Cluster → Cluster) : (w.modCl c f).sram = w.sram := rfl
@[simp] theorem modCl_bad (w : Work) (c : Nat) (f : Cluster → Cluster) : (w.modCl c f).bad = w.bad := rfl
@[simp] theorem modCl_rgn (w : Work) (c : Nat) (f : Cluster → Cluster) : (w.modCl c f).rgn = w.rgn := rfl
@[simp] theorem modCl_clu (w : Work) (c : Nat) (f : Cluster → Cluster) : (w.modCl c f).clu = vmod w.clu c f := rfl
@[simp] theorem modCl_unit (w : Work) (c : Nat) (f : Cluster → Cluster) : (w.modCl c f).unit = w.unit := rfl
@[simp] theorem modCl_lane (w : Work) (c : Nat) (f : Cluster → Cluster) : (w.modCl c f).lane = w.lane := rfl
@[simp] theorem modCl_sl (w : Work) (c : Nat) (f : Cluster → Cluster) : (w.modCl c f).sl = w.sl := rfl
@[simp] theorem modCl_adc (w : Work) (c : Nat) (f : Cluster → Cluster) : (w.modCl c f).adc = w.adc := rfl
@[simp] theorem modCl_ain (w : Work) (c : Nat) (f : Cluster → Cluster) : (w.modCl c f).ain = w.ain := rfl
@[simp] theorem modCl_cap (w : Work) (c : Nat) (f : Cluster → Cluster) : (w.modCl c f).cap = w.cap := rfl
@[simp] theorem modCl_tout (w : Work) (c : Nat) (f : Cluster → Cluster) : (w.modCl c f).tout = w.tout := rfl
@[simp] theorem modCl_ethRx (w : Work) (c : Nat) (f : Cluster → Cluster) : (w.modCl c f).ethRx = w.ethRx := rfl
@[simp] theorem modCl_ethTx (w : Work) (c : Nat) (f : Cluster → Cluster) : (w.modCl c f).ethTx = w.ethTx := rfl
@[simp] theorem modCl_flue (w : Work) (c : Nat) (f : Cluster → Cluster) : (w.modCl c f).flue = w.flue := rfl
@[simp] theorem modCl_lines (w : Work) (c : Nat) (f : Cluster → Cluster) : (w.modCl c f).lines = w.lines := rfl
@[simp] theorem modCl_events (w : Work) (c : Nat) (f : Cluster → Cluster) : (w.modCl c f).events = w.events := rfl
@[simp] theorem modCl_eq (w : Work) (c : Nat) (f : Cluster → Cluster) : (w.modCl c f).eq = w.eq := rfl
@[simp] theorem modCl_recd (w : Work) (c : Nat) (f : Cluster → Cluster) : (w.modCl c f).recd = w.recd := rfl
@[simp] theorem modCl_net (w : Work) (c : Nat) (f : Cluster → Cluster) : (w.modCl c f).net = w.net := rfl
@[simp] theorem modCl_hearth (w : Work) (c : Nat) (f : Cluster → Cluster) : (w.modCl c f).hearth = w.hearth := rfl
@[simp] theorem modCl_twin (w : Work) (c : Nat) (f : Cluster → Cluster) : (w.modCl c f).twin = w.twin := rfl
@[simp] theorem modCl_chop (w : Work) (c : Nat) (f : Cluster → Cluster) : (w.modCl c f).chop = w.chop := rfl
@[simp] theorem modCl_kin (w : Work) (c : Nat) (f : Cluster → Cluster) : (w.modCl c f).kin = w.kin := rfl
@[simp] theorem modCl_ember (w : Work) (c : Nat) (f : Cluster → Cluster) : (w.modCl c f).ember = w.ember := rfl
@[simp] theorem modCl_therm (w : Work) (c : Nat) (f : Cluster → Cluster) : (w.modCl c f).therm = w.therm := rfl
@[simp] theorem modCl_sec (w : Work) (c : Nat) (f : Cluster → Cluster) : (w.modCl c f).sec = w.sec := rfl
@[simp] theorem modCl_swap (w : Work) (c : Nat) (f : Cluster → Cluster) : (w.modCl c f).swap = w.swap := rfl
@[simp] theorem modCl_shut (w : Work) (c : Nat) (f : Cluster → Cluster) : (w.modCl c f).shut = w.shut := rfl
@[simp] theorem modCl_held (w : Work) (c : Nat) (f : Cluster → Cluster) : (w.modCl c f).held = w.held := rfl
@[simp] theorem modCl_out (w : Work) (c : Nat) (f : Cluster → Cluster) : (w.modCl c f).out = w.out := rfl
@[simp] theorem modCl_freeCtr (w : Work) (c : Nat) (f : Cluster → Cluster) : (w.modCl c f).freeCtr = w.freeCtr := rfl
@[simp] theorem modCl_now (w : Work) (c : Nat) (f : Cluster → Cluster) : (w.modCl c f).now = w.now := rfl
@[simp] theorem modCl_up (w : Work) (c : Nat) (f : Cluster → Cluster) : (w.modCl c f).up = w.up := rfl
@[simp] theorem modCl_inc (w : Work) (c : Nat) (f : Cluster → Cluster) : (w.modCl c f).inc = w.inc := rfl

@[simp] theorem modUn_regs (w : Work) (u : Nat) (f : LegUnit → LegUnit) : (w.modUn u f).regs = w.regs := rfl
@[simp] theorem modUn_shadow (w : Work) (u : Nat) (f : LegUnit → LegUnit) : (w.modUn u f).shadow = w.shadow := rfl
@[simp] theorem modUn_latched (w : Work) (u : Nat) (f : LegUnit → LegUnit) : (w.modUn u f).latched = w.latched := rfl
@[simp] theorem modUn_dram (w : Work) (u : Nat) (f : LegUnit → LegUnit) : (w.modUn u f).dram = w.dram := rfl
@[simp] theorem modUn_sram (w : Work) (u : Nat) (f : LegUnit → LegUnit) : (w.modUn u f).sram = w.sram := rfl
@[simp] theorem modUn_bad (w : Work) (u : Nat) (f : LegUnit → LegUnit) : (w.modUn u f).bad = w.bad := rfl
@[simp] theorem modUn_rgn (w : Work) (u : Nat) (f : LegUnit → LegUnit) : (w.modUn u f).rgn = w.rgn := rfl
@[simp] theorem modUn_clu (w : Work) (u : Nat) (f : LegUnit → LegUnit) : (w.modUn u f).clu = w.clu := rfl
@[simp] theorem modUn_unit (w : Work) (u : Nat) (f : LegUnit → LegUnit) : (w.modUn u f).unit = vmod w.unit u f := rfl
@[simp] theorem modUn_lane (w : Work) (u : Nat) (f : LegUnit → LegUnit) : (w.modUn u f).lane = w.lane := rfl
@[simp] theorem modUn_sl (w : Work) (u : Nat) (f : LegUnit → LegUnit) : (w.modUn u f).sl = w.sl := rfl
@[simp] theorem modUn_adc (w : Work) (u : Nat) (f : LegUnit → LegUnit) : (w.modUn u f).adc = w.adc := rfl
@[simp] theorem modUn_ain (w : Work) (u : Nat) (f : LegUnit → LegUnit) : (w.modUn u f).ain = w.ain := rfl
@[simp] theorem modUn_cap (w : Work) (u : Nat) (f : LegUnit → LegUnit) : (w.modUn u f).cap = w.cap := rfl
@[simp] theorem modUn_tout (w : Work) (u : Nat) (f : LegUnit → LegUnit) : (w.modUn u f).tout = w.tout := rfl
@[simp] theorem modUn_ethRx (w : Work) (u : Nat) (f : LegUnit → LegUnit) : (w.modUn u f).ethRx = w.ethRx := rfl
@[simp] theorem modUn_ethTx (w : Work) (u : Nat) (f : LegUnit → LegUnit) : (w.modUn u f).ethTx = w.ethTx := rfl
@[simp] theorem modUn_flue (w : Work) (u : Nat) (f : LegUnit → LegUnit) : (w.modUn u f).flue = w.flue := rfl
@[simp] theorem modUn_lines (w : Work) (u : Nat) (f : LegUnit → LegUnit) : (w.modUn u f).lines = w.lines := rfl
@[simp] theorem modUn_events (w : Work) (u : Nat) (f : LegUnit → LegUnit) : (w.modUn u f).events = w.events := rfl
@[simp] theorem modUn_eq (w : Work) (u : Nat) (f : LegUnit → LegUnit) : (w.modUn u f).eq = w.eq := rfl
@[simp] theorem modUn_recd (w : Work) (u : Nat) (f : LegUnit → LegUnit) : (w.modUn u f).recd = w.recd := rfl
@[simp] theorem modUn_net (w : Work) (u : Nat) (f : LegUnit → LegUnit) : (w.modUn u f).net = w.net := rfl
@[simp] theorem modUn_hearth (w : Work) (u : Nat) (f : LegUnit → LegUnit) : (w.modUn u f).hearth = w.hearth := rfl
@[simp] theorem modUn_twin (w : Work) (u : Nat) (f : LegUnit → LegUnit) : (w.modUn u f).twin = w.twin := rfl
@[simp] theorem modUn_chop (w : Work) (u : Nat) (f : LegUnit → LegUnit) : (w.modUn u f).chop = w.chop := rfl
@[simp] theorem modUn_kin (w : Work) (u : Nat) (f : LegUnit → LegUnit) : (w.modUn u f).kin = w.kin := rfl
@[simp] theorem modUn_ember (w : Work) (u : Nat) (f : LegUnit → LegUnit) : (w.modUn u f).ember = w.ember := rfl
@[simp] theorem modUn_therm (w : Work) (u : Nat) (f : LegUnit → LegUnit) : (w.modUn u f).therm = w.therm := rfl
@[simp] theorem modUn_sec (w : Work) (u : Nat) (f : LegUnit → LegUnit) : (w.modUn u f).sec = w.sec := rfl
@[simp] theorem modUn_swap (w : Work) (u : Nat) (f : LegUnit → LegUnit) : (w.modUn u f).swap = w.swap := rfl
@[simp] theorem modUn_shut (w : Work) (u : Nat) (f : LegUnit → LegUnit) : (w.modUn u f).shut = w.shut := rfl
@[simp] theorem modUn_held (w : Work) (u : Nat) (f : LegUnit → LegUnit) : (w.modUn u f).held = w.held := rfl
@[simp] theorem modUn_out (w : Work) (u : Nat) (f : LegUnit → LegUnit) : (w.modUn u f).out = w.out := rfl
@[simp] theorem modUn_freeCtr (w : Work) (u : Nat) (f : LegUnit → LegUnit) : (w.modUn u f).freeCtr = w.freeCtr := rfl
@[simp] theorem modUn_now (w : Work) (u : Nat) (f : LegUnit → LegUnit) : (w.modUn u f).now = w.now := rfl
@[simp] theorem modUn_up (w : Work) (u : Nat) (f : LegUnit → LegUnit) : (w.modUn u f).up = w.up := rfl
@[simp] theorem modUn_inc (w : Work) (u : Nat) (f : LegUnit → LegUnit) : (w.modUn u f).inc = w.inc := rfl

@[simp] theorem modLn_regs (w : Work) (c : Nat) (f : Lane → Lane) : (w.modLn c f).regs = w.regs := rfl
@[simp] theorem modLn_shadow (w : Work) (c : Nat) (f : Lane → Lane) : (w.modLn c f).shadow = w.shadow := rfl
@[simp] theorem modLn_latched (w : Work) (c : Nat) (f : Lane → Lane) : (w.modLn c f).latched = w.latched := rfl
@[simp] theorem modLn_dram (w : Work) (c : Nat) (f : Lane → Lane) : (w.modLn c f).dram = w.dram := rfl
@[simp] theorem modLn_sram (w : Work) (c : Nat) (f : Lane → Lane) : (w.modLn c f).sram = w.sram := rfl
@[simp] theorem modLn_bad (w : Work) (c : Nat) (f : Lane → Lane) : (w.modLn c f).bad = w.bad := rfl
@[simp] theorem modLn_rgn (w : Work) (c : Nat) (f : Lane → Lane) : (w.modLn c f).rgn = w.rgn := rfl
@[simp] theorem modLn_clu (w : Work) (c : Nat) (f : Lane → Lane) : (w.modLn c f).clu = w.clu := rfl
@[simp] theorem modLn_unit (w : Work) (c : Nat) (f : Lane → Lane) : (w.modLn c f).unit = w.unit := rfl
@[simp] theorem modLn_lane (w : Work) (c : Nat) (f : Lane → Lane) : (w.modLn c f).lane = vmod w.lane c f := rfl
@[simp] theorem modLn_sl (w : Work) (c : Nat) (f : Lane → Lane) : (w.modLn c f).sl = w.sl := rfl
@[simp] theorem modLn_adc (w : Work) (c : Nat) (f : Lane → Lane) : (w.modLn c f).adc = w.adc := rfl
@[simp] theorem modLn_ain (w : Work) (c : Nat) (f : Lane → Lane) : (w.modLn c f).ain = w.ain := rfl
@[simp] theorem modLn_cap (w : Work) (c : Nat) (f : Lane → Lane) : (w.modLn c f).cap = w.cap := rfl
@[simp] theorem modLn_tout (w : Work) (c : Nat) (f : Lane → Lane) : (w.modLn c f).tout = w.tout := rfl
@[simp] theorem modLn_ethRx (w : Work) (c : Nat) (f : Lane → Lane) : (w.modLn c f).ethRx = w.ethRx := rfl
@[simp] theorem modLn_ethTx (w : Work) (c : Nat) (f : Lane → Lane) : (w.modLn c f).ethTx = w.ethTx := rfl
@[simp] theorem modLn_flue (w : Work) (c : Nat) (f : Lane → Lane) : (w.modLn c f).flue = w.flue := rfl
@[simp] theorem modLn_lines (w : Work) (c : Nat) (f : Lane → Lane) : (w.modLn c f).lines = w.lines := rfl
@[simp] theorem modLn_events (w : Work) (c : Nat) (f : Lane → Lane) : (w.modLn c f).events = w.events := rfl
@[simp] theorem modLn_eq (w : Work) (c : Nat) (f : Lane → Lane) : (w.modLn c f).eq = w.eq := rfl
@[simp] theorem modLn_recd (w : Work) (c : Nat) (f : Lane → Lane) : (w.modLn c f).recd = w.recd := rfl
@[simp] theorem modLn_net (w : Work) (c : Nat) (f : Lane → Lane) : (w.modLn c f).net = w.net := rfl
@[simp] theorem modLn_hearth (w : Work) (c : Nat) (f : Lane → Lane) : (w.modLn c f).hearth = w.hearth := rfl
@[simp] theorem modLn_twin (w : Work) (c : Nat) (f : Lane → Lane) : (w.modLn c f).twin = w.twin := rfl
@[simp] theorem modLn_chop (w : Work) (c : Nat) (f : Lane → Lane) : (w.modLn c f).chop = w.chop := rfl
@[simp] theorem modLn_kin (w : Work) (c : Nat) (f : Lane → Lane) : (w.modLn c f).kin = w.kin := rfl
@[simp] theorem modLn_ember (w : Work) (c : Nat) (f : Lane → Lane) : (w.modLn c f).ember = w.ember := rfl
@[simp] theorem modLn_therm (w : Work) (c : Nat) (f : Lane → Lane) : (w.modLn c f).therm = w.therm := rfl
@[simp] theorem modLn_sec (w : Work) (c : Nat) (f : Lane → Lane) : (w.modLn c f).sec = w.sec := rfl
@[simp] theorem modLn_swap (w : Work) (c : Nat) (f : Lane → Lane) : (w.modLn c f).swap = w.swap := rfl
@[simp] theorem modLn_shut (w : Work) (c : Nat) (f : Lane → Lane) : (w.modLn c f).shut = w.shut := rfl
@[simp] theorem modLn_held (w : Work) (c : Nat) (f : Lane → Lane) : (w.modLn c f).held = w.held := rfl
@[simp] theorem modLn_out (w : Work) (c : Nat) (f : Lane → Lane) : (w.modLn c f).out = w.out := rfl
@[simp] theorem modLn_freeCtr (w : Work) (c : Nat) (f : Lane → Lane) : (w.modLn c f).freeCtr = w.freeCtr := rfl
@[simp] theorem modLn_now (w : Work) (c : Nat) (f : Lane → Lane) : (w.modLn c f).now = w.now := rfl
@[simp] theorem modLn_up (w : Work) (c : Nat) (f : Lane → Lane) : (w.modLn c f).up = w.up := rfl
@[simp] theorem modLn_inc (w : Work) (c : Nat) (f : Lane → Lane) : (w.modLn c f).inc = w.inc := rfl

@[simp] theorem setLanes_regs (w : Work) (l : Vector Lane 48) : (w.setLanes l).regs = w.regs := rfl
@[simp] theorem setLanes_shadow (w : Work) (l : Vector Lane 48) : (w.setLanes l).shadow = w.shadow := rfl
@[simp] theorem setLanes_latched (w : Work) (l : Vector Lane 48) : (w.setLanes l).latched = w.latched := rfl
@[simp] theorem setLanes_dram (w : Work) (l : Vector Lane 48) : (w.setLanes l).dram = w.dram := rfl
@[simp] theorem setLanes_sram (w : Work) (l : Vector Lane 48) : (w.setLanes l).sram = w.sram := rfl
@[simp] theorem setLanes_bad (w : Work) (l : Vector Lane 48) : (w.setLanes l).bad = w.bad := rfl
@[simp] theorem setLanes_rgn (w : Work) (l : Vector Lane 48) : (w.setLanes l).rgn = w.rgn := rfl
@[simp] theorem setLanes_clu (w : Work) (l : Vector Lane 48) : (w.setLanes l).clu = w.clu := rfl
@[simp] theorem setLanes_unit (w : Work) (l : Vector Lane 48) : (w.setLanes l).unit = w.unit := rfl
@[simp] theorem setLanes_lane (w : Work) (l : Vector Lane 48) : (w.setLanes l).lane = l := rfl
@[simp] theorem setLanes_sl (w : Work) (l : Vector Lane 48) : (w.setLanes l).sl = w.sl := rfl
@[simp] theorem setLanes_adc (w : Work) (l : Vector Lane 48) : (w.setLanes l).adc = w.adc := rfl
@[simp] theorem setLanes_ain (w : Work) (l : Vector Lane 48) : (w.setLanes l).ain = w.ain := rfl
@[simp] theorem setLanes_cap (w : Work) (l : Vector Lane 48) : (w.setLanes l).cap = w.cap := rfl
@[simp] theorem setLanes_tout (w : Work) (l : Vector Lane 48) : (w.setLanes l).tout = w.tout := rfl
@[simp] theorem setLanes_ethRx (w : Work) (l : Vector Lane 48) : (w.setLanes l).ethRx = w.ethRx := rfl
@[simp] theorem setLanes_ethTx (w : Work) (l : Vector Lane 48) : (w.setLanes l).ethTx = w.ethTx := rfl
@[simp] theorem setLanes_flue (w : Work) (l : Vector Lane 48) : (w.setLanes l).flue = w.flue := rfl
@[simp] theorem setLanes_lines (w : Work) (l : Vector Lane 48) : (w.setLanes l).lines = w.lines := rfl
@[simp] theorem setLanes_events (w : Work) (l : Vector Lane 48) : (w.setLanes l).events = w.events := rfl
@[simp] theorem setLanes_eq (w : Work) (l : Vector Lane 48) : (w.setLanes l).eq = w.eq := rfl
@[simp] theorem setLanes_recd (w : Work) (l : Vector Lane 48) : (w.setLanes l).recd = w.recd := rfl
@[simp] theorem setLanes_net (w : Work) (l : Vector Lane 48) : (w.setLanes l).net = w.net := rfl
@[simp] theorem setLanes_hearth (w : Work) (l : Vector Lane 48) : (w.setLanes l).hearth = w.hearth := rfl
@[simp] theorem setLanes_twin (w : Work) (l : Vector Lane 48) : (w.setLanes l).twin = w.twin := rfl
@[simp] theorem setLanes_chop (w : Work) (l : Vector Lane 48) : (w.setLanes l).chop = w.chop := rfl
@[simp] theorem setLanes_kin (w : Work) (l : Vector Lane 48) : (w.setLanes l).kin = w.kin := rfl
@[simp] theorem setLanes_ember (w : Work) (l : Vector Lane 48) : (w.setLanes l).ember = w.ember := rfl
@[simp] theorem setLanes_therm (w : Work) (l : Vector Lane 48) : (w.setLanes l).therm = w.therm := rfl
@[simp] theorem setLanes_sec (w : Work) (l : Vector Lane 48) : (w.setLanes l).sec = w.sec := rfl
@[simp] theorem setLanes_swap (w : Work) (l : Vector Lane 48) : (w.setLanes l).swap = w.swap := rfl
@[simp] theorem setLanes_shut (w : Work) (l : Vector Lane 48) : (w.setLanes l).shut = w.shut := rfl
@[simp] theorem setLanes_held (w : Work) (l : Vector Lane 48) : (w.setLanes l).held = w.held := rfl
@[simp] theorem setLanes_out (w : Work) (l : Vector Lane 48) : (w.setLanes l).out = w.out := rfl
@[simp] theorem setLanes_freeCtr (w : Work) (l : Vector Lane 48) : (w.setLanes l).freeCtr = w.freeCtr := rfl
@[simp] theorem setLanes_now (w : Work) (l : Vector Lane 48) : (w.setLanes l).now = w.now := rfl
@[simp] theorem setLanes_up (w : Work) (l : Vector Lane 48) : (w.setLanes l).up = w.up := rfl
@[simp] theorem setLanes_inc (w : Work) (l : Vector Lane 48) : (w.setLanes l).inc = w.inc := rfl

@[simp] theorem modSl_regs (w : Work) (l : Nat) (f : SysLane → SysLane) : (w.modSl l f).regs = w.regs := rfl
@[simp] theorem modSl_shadow (w : Work) (l : Nat) (f : SysLane → SysLane) : (w.modSl l f).shadow = w.shadow := rfl
@[simp] theorem modSl_latched (w : Work) (l : Nat) (f : SysLane → SysLane) : (w.modSl l f).latched = w.latched := rfl
@[simp] theorem modSl_dram (w : Work) (l : Nat) (f : SysLane → SysLane) : (w.modSl l f).dram = w.dram := rfl
@[simp] theorem modSl_sram (w : Work) (l : Nat) (f : SysLane → SysLane) : (w.modSl l f).sram = w.sram := rfl
@[simp] theorem modSl_bad (w : Work) (l : Nat) (f : SysLane → SysLane) : (w.modSl l f).bad = w.bad := rfl
@[simp] theorem modSl_rgn (w : Work) (l : Nat) (f : SysLane → SysLane) : (w.modSl l f).rgn = w.rgn := rfl
@[simp] theorem modSl_clu (w : Work) (l : Nat) (f : SysLane → SysLane) : (w.modSl l f).clu = w.clu := rfl
@[simp] theorem modSl_unit (w : Work) (l : Nat) (f : SysLane → SysLane) : (w.modSl l f).unit = w.unit := rfl
@[simp] theorem modSl_lane (w : Work) (l : Nat) (f : SysLane → SysLane) : (w.modSl l f).lane = w.lane := rfl
@[simp] theorem modSl_sl (w : Work) (l : Nat) (f : SysLane → SysLane) : (w.modSl l f).sl = vmod w.sl l f := rfl
@[simp] theorem modSl_adc (w : Work) (l : Nat) (f : SysLane → SysLane) : (w.modSl l f).adc = w.adc := rfl
@[simp] theorem modSl_ain (w : Work) (l : Nat) (f : SysLane → SysLane) : (w.modSl l f).ain = w.ain := rfl
@[simp] theorem modSl_cap (w : Work) (l : Nat) (f : SysLane → SysLane) : (w.modSl l f).cap = w.cap := rfl
@[simp] theorem modSl_tout (w : Work) (l : Nat) (f : SysLane → SysLane) : (w.modSl l f).tout = w.tout := rfl
@[simp] theorem modSl_ethRx (w : Work) (l : Nat) (f : SysLane → SysLane) : (w.modSl l f).ethRx = w.ethRx := rfl
@[simp] theorem modSl_ethTx (w : Work) (l : Nat) (f : SysLane → SysLane) : (w.modSl l f).ethTx = w.ethTx := rfl
@[simp] theorem modSl_flue (w : Work) (l : Nat) (f : SysLane → SysLane) : (w.modSl l f).flue = w.flue := rfl
@[simp] theorem modSl_lines (w : Work) (l : Nat) (f : SysLane → SysLane) : (w.modSl l f).lines = w.lines := rfl
@[simp] theorem modSl_events (w : Work) (l : Nat) (f : SysLane → SysLane) : (w.modSl l f).events = w.events := rfl
@[simp] theorem modSl_eq (w : Work) (l : Nat) (f : SysLane → SysLane) : (w.modSl l f).eq = w.eq := rfl
@[simp] theorem modSl_recd (w : Work) (l : Nat) (f : SysLane → SysLane) : (w.modSl l f).recd = w.recd := rfl
@[simp] theorem modSl_net (w : Work) (l : Nat) (f : SysLane → SysLane) : (w.modSl l f).net = w.net := rfl
@[simp] theorem modSl_hearth (w : Work) (l : Nat) (f : SysLane → SysLane) : (w.modSl l f).hearth = w.hearth := rfl
@[simp] theorem modSl_twin (w : Work) (l : Nat) (f : SysLane → SysLane) : (w.modSl l f).twin = w.twin := rfl
@[simp] theorem modSl_chop (w : Work) (l : Nat) (f : SysLane → SysLane) : (w.modSl l f).chop = w.chop := rfl
@[simp] theorem modSl_kin (w : Work) (l : Nat) (f : SysLane → SysLane) : (w.modSl l f).kin = w.kin := rfl
@[simp] theorem modSl_ember (w : Work) (l : Nat) (f : SysLane → SysLane) : (w.modSl l f).ember = w.ember := rfl
@[simp] theorem modSl_therm (w : Work) (l : Nat) (f : SysLane → SysLane) : (w.modSl l f).therm = w.therm := rfl
@[simp] theorem modSl_sec (w : Work) (l : Nat) (f : SysLane → SysLane) : (w.modSl l f).sec = w.sec := rfl
@[simp] theorem modSl_swap (w : Work) (l : Nat) (f : SysLane → SysLane) : (w.modSl l f).swap = w.swap := rfl
@[simp] theorem modSl_shut (w : Work) (l : Nat) (f : SysLane → SysLane) : (w.modSl l f).shut = w.shut := rfl
@[simp] theorem modSl_held (w : Work) (l : Nat) (f : SysLane → SysLane) : (w.modSl l f).held = w.held := rfl
@[simp] theorem modSl_out (w : Work) (l : Nat) (f : SysLane → SysLane) : (w.modSl l f).out = w.out := rfl
@[simp] theorem modSl_freeCtr (w : Work) (l : Nat) (f : SysLane → SysLane) : (w.modSl l f).freeCtr = w.freeCtr := rfl
@[simp] theorem modSl_now (w : Work) (l : Nat) (f : SysLane → SysLane) : (w.modSl l f).now = w.now := rfl
@[simp] theorem modSl_up (w : Work) (l : Nat) (f : SysLane → SysLane) : (w.modSl l f).up = w.up := rfl
@[simp] theorem modSl_inc (w : Work) (l : Nat) (f : SysLane → SysLane) : (w.modSl l f).inc = w.inc := rfl

@[simp] theorem modAdc_regs (w : Work) (a : Nat) (f : Adc → Adc) : (w.modAdc a f).regs = w.regs := rfl
@[simp] theorem modAdc_shadow (w : Work) (a : Nat) (f : Adc → Adc) : (w.modAdc a f).shadow = w.shadow := rfl
@[simp] theorem modAdc_latched (w : Work) (a : Nat) (f : Adc → Adc) : (w.modAdc a f).latched = w.latched := rfl
@[simp] theorem modAdc_dram (w : Work) (a : Nat) (f : Adc → Adc) : (w.modAdc a f).dram = w.dram := rfl
@[simp] theorem modAdc_sram (w : Work) (a : Nat) (f : Adc → Adc) : (w.modAdc a f).sram = w.sram := rfl
@[simp] theorem modAdc_bad (w : Work) (a : Nat) (f : Adc → Adc) : (w.modAdc a f).bad = w.bad := rfl
@[simp] theorem modAdc_rgn (w : Work) (a : Nat) (f : Adc → Adc) : (w.modAdc a f).rgn = w.rgn := rfl
@[simp] theorem modAdc_clu (w : Work) (a : Nat) (f : Adc → Adc) : (w.modAdc a f).clu = w.clu := rfl
@[simp] theorem modAdc_unit (w : Work) (a : Nat) (f : Adc → Adc) : (w.modAdc a f).unit = w.unit := rfl
@[simp] theorem modAdc_lane (w : Work) (a : Nat) (f : Adc → Adc) : (w.modAdc a f).lane = w.lane := rfl
@[simp] theorem modAdc_sl (w : Work) (a : Nat) (f : Adc → Adc) : (w.modAdc a f).sl = w.sl := rfl
@[simp] theorem modAdc_adc (w : Work) (a : Nat) (f : Adc → Adc) : (w.modAdc a f).adc = vmod w.adc a f := rfl
@[simp] theorem modAdc_ain (w : Work) (a : Nat) (f : Adc → Adc) : (w.modAdc a f).ain = w.ain := rfl
@[simp] theorem modAdc_cap (w : Work) (a : Nat) (f : Adc → Adc) : (w.modAdc a f).cap = w.cap := rfl
@[simp] theorem modAdc_tout (w : Work) (a : Nat) (f : Adc → Adc) : (w.modAdc a f).tout = w.tout := rfl
@[simp] theorem modAdc_ethRx (w : Work) (a : Nat) (f : Adc → Adc) : (w.modAdc a f).ethRx = w.ethRx := rfl
@[simp] theorem modAdc_ethTx (w : Work) (a : Nat) (f : Adc → Adc) : (w.modAdc a f).ethTx = w.ethTx := rfl
@[simp] theorem modAdc_flue (w : Work) (a : Nat) (f : Adc → Adc) : (w.modAdc a f).flue = w.flue := rfl
@[simp] theorem modAdc_lines (w : Work) (a : Nat) (f : Adc → Adc) : (w.modAdc a f).lines = w.lines := rfl
@[simp] theorem modAdc_events (w : Work) (a : Nat) (f : Adc → Adc) : (w.modAdc a f).events = w.events := rfl
@[simp] theorem modAdc_eq (w : Work) (a : Nat) (f : Adc → Adc) : (w.modAdc a f).eq = w.eq := rfl
@[simp] theorem modAdc_recd (w : Work) (a : Nat) (f : Adc → Adc) : (w.modAdc a f).recd = w.recd := rfl
@[simp] theorem modAdc_net (w : Work) (a : Nat) (f : Adc → Adc) : (w.modAdc a f).net = w.net := rfl
@[simp] theorem modAdc_hearth (w : Work) (a : Nat) (f : Adc → Adc) : (w.modAdc a f).hearth = w.hearth := rfl
@[simp] theorem modAdc_twin (w : Work) (a : Nat) (f : Adc → Adc) : (w.modAdc a f).twin = w.twin := rfl
@[simp] theorem modAdc_chop (w : Work) (a : Nat) (f : Adc → Adc) : (w.modAdc a f).chop = w.chop := rfl
@[simp] theorem modAdc_kin (w : Work) (a : Nat) (f : Adc → Adc) : (w.modAdc a f).kin = w.kin := rfl
@[simp] theorem modAdc_ember (w : Work) (a : Nat) (f : Adc → Adc) : (w.modAdc a f).ember = w.ember := rfl
@[simp] theorem modAdc_therm (w : Work) (a : Nat) (f : Adc → Adc) : (w.modAdc a f).therm = w.therm := rfl
@[simp] theorem modAdc_sec (w : Work) (a : Nat) (f : Adc → Adc) : (w.modAdc a f).sec = w.sec := rfl
@[simp] theorem modAdc_swap (w : Work) (a : Nat) (f : Adc → Adc) : (w.modAdc a f).swap = w.swap := rfl
@[simp] theorem modAdc_shut (w : Work) (a : Nat) (f : Adc → Adc) : (w.modAdc a f).shut = w.shut := rfl
@[simp] theorem modAdc_held (w : Work) (a : Nat) (f : Adc → Adc) : (w.modAdc a f).held = w.held := rfl
@[simp] theorem modAdc_out (w : Work) (a : Nat) (f : Adc → Adc) : (w.modAdc a f).out = w.out := rfl
@[simp] theorem modAdc_freeCtr (w : Work) (a : Nat) (f : Adc → Adc) : (w.modAdc a f).freeCtr = w.freeCtr := rfl
@[simp] theorem modAdc_now (w : Work) (a : Nat) (f : Adc → Adc) : (w.modAdc a f).now = w.now := rfl
@[simp] theorem modAdc_up (w : Work) (a : Nat) (f : Adc → Adc) : (w.modAdc a f).up = w.up := rfl
@[simp] theorem modAdc_inc (w : Work) (a : Nat) (f : Adc → Adc) : (w.modAdc a f).inc = w.inc := rfl

@[simp] theorem setAin_regs (w : Work) (k : Nat) (v : Rat) : (w.setAin k v).regs = w.regs := rfl
@[simp] theorem setAin_shadow (w : Work) (k : Nat) (v : Rat) : (w.setAin k v).shadow = w.shadow := rfl
@[simp] theorem setAin_latched (w : Work) (k : Nat) (v : Rat) : (w.setAin k v).latched = w.latched := rfl
@[simp] theorem setAin_dram (w : Work) (k : Nat) (v : Rat) : (w.setAin k v).dram = w.dram := rfl
@[simp] theorem setAin_sram (w : Work) (k : Nat) (v : Rat) : (w.setAin k v).sram = w.sram := rfl
@[simp] theorem setAin_bad (w : Work) (k : Nat) (v : Rat) : (w.setAin k v).bad = w.bad := rfl
@[simp] theorem setAin_rgn (w : Work) (k : Nat) (v : Rat) : (w.setAin k v).rgn = w.rgn := rfl
@[simp] theorem setAin_clu (w : Work) (k : Nat) (v : Rat) : (w.setAin k v).clu = w.clu := rfl
@[simp] theorem setAin_unit (w : Work) (k : Nat) (v : Rat) : (w.setAin k v).unit = w.unit := rfl
@[simp] theorem setAin_lane (w : Work) (k : Nat) (v : Rat) : (w.setAin k v).lane = w.lane := rfl
@[simp] theorem setAin_sl (w : Work) (k : Nat) (v : Rat) : (w.setAin k v).sl = w.sl := rfl
@[simp] theorem setAin_adc (w : Work) (k : Nat) (v : Rat) : (w.setAin k v).adc = w.adc := rfl
@[simp] theorem setAin_ain (w : Work) (k : Nat) (v : Rat) : (w.setAin k v).ain = w.ain.setIfInBounds k v := rfl
@[simp] theorem setAin_cap (w : Work) (k : Nat) (v : Rat) : (w.setAin k v).cap = w.cap := rfl
@[simp] theorem setAin_tout (w : Work) (k : Nat) (v : Rat) : (w.setAin k v).tout = w.tout := rfl
@[simp] theorem setAin_ethRx (w : Work) (k : Nat) (v : Rat) : (w.setAin k v).ethRx = w.ethRx := rfl
@[simp] theorem setAin_ethTx (w : Work) (k : Nat) (v : Rat) : (w.setAin k v).ethTx = w.ethTx := rfl
@[simp] theorem setAin_flue (w : Work) (k : Nat) (v : Rat) : (w.setAin k v).flue = w.flue := rfl
@[simp] theorem setAin_lines (w : Work) (k : Nat) (v : Rat) : (w.setAin k v).lines = w.lines := rfl
@[simp] theorem setAin_events (w : Work) (k : Nat) (v : Rat) : (w.setAin k v).events = w.events := rfl
@[simp] theorem setAin_eq (w : Work) (k : Nat) (v : Rat) : (w.setAin k v).eq = w.eq := rfl
@[simp] theorem setAin_recd (w : Work) (k : Nat) (v : Rat) : (w.setAin k v).recd = w.recd := rfl
@[simp] theorem setAin_net (w : Work) (k : Nat) (v : Rat) : (w.setAin k v).net = w.net := rfl
@[simp] theorem setAin_hearth (w : Work) (k : Nat) (v : Rat) : (w.setAin k v).hearth = w.hearth := rfl
@[simp] theorem setAin_twin (w : Work) (k : Nat) (v : Rat) : (w.setAin k v).twin = w.twin := rfl
@[simp] theorem setAin_chop (w : Work) (k : Nat) (v : Rat) : (w.setAin k v).chop = w.chop := rfl
@[simp] theorem setAin_kin (w : Work) (k : Nat) (v : Rat) : (w.setAin k v).kin = w.kin := rfl
@[simp] theorem setAin_ember (w : Work) (k : Nat) (v : Rat) : (w.setAin k v).ember = w.ember := rfl
@[simp] theorem setAin_therm (w : Work) (k : Nat) (v : Rat) : (w.setAin k v).therm = w.therm := rfl
@[simp] theorem setAin_sec (w : Work) (k : Nat) (v : Rat) : (w.setAin k v).sec = w.sec := rfl
@[simp] theorem setAin_swap (w : Work) (k : Nat) (v : Rat) : (w.setAin k v).swap = w.swap := rfl
@[simp] theorem setAin_shut (w : Work) (k : Nat) (v : Rat) : (w.setAin k v).shut = w.shut := rfl
@[simp] theorem setAin_held (w : Work) (k : Nat) (v : Rat) : (w.setAin k v).held = w.held := rfl
@[simp] theorem setAin_out (w : Work) (k : Nat) (v : Rat) : (w.setAin k v).out = w.out := rfl
@[simp] theorem setAin_freeCtr (w : Work) (k : Nat) (v : Rat) : (w.setAin k v).freeCtr = w.freeCtr := rfl
@[simp] theorem setAin_now (w : Work) (k : Nat) (v : Rat) : (w.setAin k v).now = w.now := rfl
@[simp] theorem setAin_up (w : Work) (k : Nat) (v : Rat) : (w.setAin k v).up = w.up := rfl
@[simp] theorem setAin_inc (w : Work) (k : Nat) (v : Rat) : (w.setAin k v).inc = w.inc := rfl

@[simp] theorem modNet_regs (w : Work) (f : NetSt → NetSt) : (w.modNet f).regs = w.regs := rfl
@[simp] theorem modNet_shadow (w : Work) (f : NetSt → NetSt) : (w.modNet f).shadow = w.shadow := rfl
@[simp] theorem modNet_latched (w : Work) (f : NetSt → NetSt) : (w.modNet f).latched = w.latched := rfl
@[simp] theorem modNet_dram (w : Work) (f : NetSt → NetSt) : (w.modNet f).dram = w.dram := rfl
@[simp] theorem modNet_sram (w : Work) (f : NetSt → NetSt) : (w.modNet f).sram = w.sram := rfl
@[simp] theorem modNet_bad (w : Work) (f : NetSt → NetSt) : (w.modNet f).bad = w.bad := rfl
@[simp] theorem modNet_rgn (w : Work) (f : NetSt → NetSt) : (w.modNet f).rgn = w.rgn := rfl
@[simp] theorem modNet_clu (w : Work) (f : NetSt → NetSt) : (w.modNet f).clu = w.clu := rfl
@[simp] theorem modNet_unit (w : Work) (f : NetSt → NetSt) : (w.modNet f).unit = w.unit := rfl
@[simp] theorem modNet_lane (w : Work) (f : NetSt → NetSt) : (w.modNet f).lane = w.lane := rfl
@[simp] theorem modNet_sl (w : Work) (f : NetSt → NetSt) : (w.modNet f).sl = w.sl := rfl
@[simp] theorem modNet_adc (w : Work) (f : NetSt → NetSt) : (w.modNet f).adc = w.adc := rfl
@[simp] theorem modNet_ain (w : Work) (f : NetSt → NetSt) : (w.modNet f).ain = w.ain := rfl
@[simp] theorem modNet_cap (w : Work) (f : NetSt → NetSt) : (w.modNet f).cap = w.cap := rfl
@[simp] theorem modNet_tout (w : Work) (f : NetSt → NetSt) : (w.modNet f).tout = w.tout := rfl
@[simp] theorem modNet_ethRx (w : Work) (f : NetSt → NetSt) : (w.modNet f).ethRx = w.ethRx := rfl
@[simp] theorem modNet_ethTx (w : Work) (f : NetSt → NetSt) : (w.modNet f).ethTx = w.ethTx := rfl
@[simp] theorem modNet_flue (w : Work) (f : NetSt → NetSt) : (w.modNet f).flue = w.flue := rfl
@[simp] theorem modNet_lines (w : Work) (f : NetSt → NetSt) : (w.modNet f).lines = w.lines := rfl
@[simp] theorem modNet_events (w : Work) (f : NetSt → NetSt) : (w.modNet f).events = w.events := rfl
@[simp] theorem modNet_eq (w : Work) (f : NetSt → NetSt) : (w.modNet f).eq = w.eq := rfl
@[simp] theorem modNet_recd (w : Work) (f : NetSt → NetSt) : (w.modNet f).recd = w.recd := rfl
@[simp] theorem modNet_net (w : Work) (f : NetSt → NetSt) : (w.modNet f).net = f w.net := rfl
@[simp] theorem modNet_hearth (w : Work) (f : NetSt → NetSt) : (w.modNet f).hearth = w.hearth := rfl
@[simp] theorem modNet_twin (w : Work) (f : NetSt → NetSt) : (w.modNet f).twin = w.twin := rfl
@[simp] theorem modNet_chop (w : Work) (f : NetSt → NetSt) : (w.modNet f).chop = w.chop := rfl
@[simp] theorem modNet_kin (w : Work) (f : NetSt → NetSt) : (w.modNet f).kin = w.kin := rfl
@[simp] theorem modNet_ember (w : Work) (f : NetSt → NetSt) : (w.modNet f).ember = w.ember := rfl
@[simp] theorem modNet_therm (w : Work) (f : NetSt → NetSt) : (w.modNet f).therm = w.therm := rfl
@[simp] theorem modNet_sec (w : Work) (f : NetSt → NetSt) : (w.modNet f).sec = w.sec := rfl
@[simp] theorem modNet_swap (w : Work) (f : NetSt → NetSt) : (w.modNet f).swap = w.swap := rfl
@[simp] theorem modNet_shut (w : Work) (f : NetSt → NetSt) : (w.modNet f).shut = w.shut := rfl
@[simp] theorem modNet_held (w : Work) (f : NetSt → NetSt) : (w.modNet f).held = w.held := rfl
@[simp] theorem modNet_out (w : Work) (f : NetSt → NetSt) : (w.modNet f).out = w.out := rfl
@[simp] theorem modNet_freeCtr (w : Work) (f : NetSt → NetSt) : (w.modNet f).freeCtr = w.freeCtr := rfl
@[simp] theorem modNet_now (w : Work) (f : NetSt → NetSt) : (w.modNet f).now = w.now := rfl
@[simp] theorem modNet_up (w : Work) (f : NetSt → NetSt) : (w.modNet f).up = w.up := rfl
@[simp] theorem modNet_inc (w : Work) (f : NetSt → NetSt) : (w.modNet f).inc = w.inc := rfl

@[simp] theorem modHearth_regs (w : Work) (f : HearthSt → HearthSt) : (w.modHearth f).regs = w.regs := rfl
@[simp] theorem modHearth_shadow (w : Work) (f : HearthSt → HearthSt) : (w.modHearth f).shadow = w.shadow := rfl
@[simp] theorem modHearth_latched (w : Work) (f : HearthSt → HearthSt) : (w.modHearth f).latched = w.latched := rfl
@[simp] theorem modHearth_dram (w : Work) (f : HearthSt → HearthSt) : (w.modHearth f).dram = w.dram := rfl
@[simp] theorem modHearth_sram (w : Work) (f : HearthSt → HearthSt) : (w.modHearth f).sram = w.sram := rfl
@[simp] theorem modHearth_bad (w : Work) (f : HearthSt → HearthSt) : (w.modHearth f).bad = w.bad := rfl
@[simp] theorem modHearth_rgn (w : Work) (f : HearthSt → HearthSt) : (w.modHearth f).rgn = w.rgn := rfl
@[simp] theorem modHearth_clu (w : Work) (f : HearthSt → HearthSt) : (w.modHearth f).clu = w.clu := rfl
@[simp] theorem modHearth_unit (w : Work) (f : HearthSt → HearthSt) : (w.modHearth f).unit = w.unit := rfl
@[simp] theorem modHearth_lane (w : Work) (f : HearthSt → HearthSt) : (w.modHearth f).lane = w.lane := rfl
@[simp] theorem modHearth_sl (w : Work) (f : HearthSt → HearthSt) : (w.modHearth f).sl = w.sl := rfl
@[simp] theorem modHearth_adc (w : Work) (f : HearthSt → HearthSt) : (w.modHearth f).adc = w.adc := rfl
@[simp] theorem modHearth_ain (w : Work) (f : HearthSt → HearthSt) : (w.modHearth f).ain = w.ain := rfl
@[simp] theorem modHearth_cap (w : Work) (f : HearthSt → HearthSt) : (w.modHearth f).cap = w.cap := rfl
@[simp] theorem modHearth_tout (w : Work) (f : HearthSt → HearthSt) : (w.modHearth f).tout = w.tout := rfl
@[simp] theorem modHearth_ethRx (w : Work) (f : HearthSt → HearthSt) : (w.modHearth f).ethRx = w.ethRx := rfl
@[simp] theorem modHearth_ethTx (w : Work) (f : HearthSt → HearthSt) : (w.modHearth f).ethTx = w.ethTx := rfl
@[simp] theorem modHearth_flue (w : Work) (f : HearthSt → HearthSt) : (w.modHearth f).flue = w.flue := rfl
@[simp] theorem modHearth_lines (w : Work) (f : HearthSt → HearthSt) : (w.modHearth f).lines = w.lines := rfl
@[simp] theorem modHearth_events (w : Work) (f : HearthSt → HearthSt) : (w.modHearth f).events = w.events := rfl
@[simp] theorem modHearth_eq (w : Work) (f : HearthSt → HearthSt) : (w.modHearth f).eq = w.eq := rfl
@[simp] theorem modHearth_recd (w : Work) (f : HearthSt → HearthSt) : (w.modHearth f).recd = w.recd := rfl
@[simp] theorem modHearth_net (w : Work) (f : HearthSt → HearthSt) : (w.modHearth f).net = w.net := rfl
@[simp] theorem modHearth_hearth (w : Work) (f : HearthSt → HearthSt) : (w.modHearth f).hearth = f w.hearth := rfl
@[simp] theorem modHearth_twin (w : Work) (f : HearthSt → HearthSt) : (w.modHearth f).twin = w.twin := rfl
@[simp] theorem modHearth_chop (w : Work) (f : HearthSt → HearthSt) : (w.modHearth f).chop = w.chop := rfl
@[simp] theorem modHearth_kin (w : Work) (f : HearthSt → HearthSt) : (w.modHearth f).kin = w.kin := rfl
@[simp] theorem modHearth_ember (w : Work) (f : HearthSt → HearthSt) : (w.modHearth f).ember = w.ember := rfl
@[simp] theorem modHearth_therm (w : Work) (f : HearthSt → HearthSt) : (w.modHearth f).therm = w.therm := rfl
@[simp] theorem modHearth_sec (w : Work) (f : HearthSt → HearthSt) : (w.modHearth f).sec = w.sec := rfl
@[simp] theorem modHearth_swap (w : Work) (f : HearthSt → HearthSt) : (w.modHearth f).swap = w.swap := rfl
@[simp] theorem modHearth_shut (w : Work) (f : HearthSt → HearthSt) : (w.modHearth f).shut = w.shut := rfl
@[simp] theorem modHearth_held (w : Work) (f : HearthSt → HearthSt) : (w.modHearth f).held = w.held := rfl
@[simp] theorem modHearth_out (w : Work) (f : HearthSt → HearthSt) : (w.modHearth f).out = w.out := rfl
@[simp] theorem modHearth_freeCtr (w : Work) (f : HearthSt → HearthSt) : (w.modHearth f).freeCtr = w.freeCtr := rfl
@[simp] theorem modHearth_now (w : Work) (f : HearthSt → HearthSt) : (w.modHearth f).now = w.now := rfl
@[simp] theorem modHearth_up (w : Work) (f : HearthSt → HearthSt) : (w.modHearth f).up = w.up := rfl
@[simp] theorem modHearth_inc (w : Work) (f : HearthSt → HearthSt) : (w.modHearth f).inc = w.inc := rfl

@[simp] theorem modTwin_regs (w : Work) (f : TwinSt → TwinSt) : (w.modTwin f).regs = w.regs := rfl
@[simp] theorem modTwin_shadow (w : Work) (f : TwinSt → TwinSt) : (w.modTwin f).shadow = w.shadow := rfl
@[simp] theorem modTwin_latched (w : Work) (f : TwinSt → TwinSt) : (w.modTwin f).latched = w.latched := rfl
@[simp] theorem modTwin_dram (w : Work) (f : TwinSt → TwinSt) : (w.modTwin f).dram = w.dram := rfl
@[simp] theorem modTwin_sram (w : Work) (f : TwinSt → TwinSt) : (w.modTwin f).sram = w.sram := rfl
@[simp] theorem modTwin_bad (w : Work) (f : TwinSt → TwinSt) : (w.modTwin f).bad = w.bad := rfl
@[simp] theorem modTwin_rgn (w : Work) (f : TwinSt → TwinSt) : (w.modTwin f).rgn = w.rgn := rfl
@[simp] theorem modTwin_clu (w : Work) (f : TwinSt → TwinSt) : (w.modTwin f).clu = w.clu := rfl
@[simp] theorem modTwin_unit (w : Work) (f : TwinSt → TwinSt) : (w.modTwin f).unit = w.unit := rfl
@[simp] theorem modTwin_lane (w : Work) (f : TwinSt → TwinSt) : (w.modTwin f).lane = w.lane := rfl
@[simp] theorem modTwin_sl (w : Work) (f : TwinSt → TwinSt) : (w.modTwin f).sl = w.sl := rfl
@[simp] theorem modTwin_adc (w : Work) (f : TwinSt → TwinSt) : (w.modTwin f).adc = w.adc := rfl
@[simp] theorem modTwin_ain (w : Work) (f : TwinSt → TwinSt) : (w.modTwin f).ain = w.ain := rfl
@[simp] theorem modTwin_cap (w : Work) (f : TwinSt → TwinSt) : (w.modTwin f).cap = w.cap := rfl
@[simp] theorem modTwin_tout (w : Work) (f : TwinSt → TwinSt) : (w.modTwin f).tout = w.tout := rfl
@[simp] theorem modTwin_ethRx (w : Work) (f : TwinSt → TwinSt) : (w.modTwin f).ethRx = w.ethRx := rfl
@[simp] theorem modTwin_ethTx (w : Work) (f : TwinSt → TwinSt) : (w.modTwin f).ethTx = w.ethTx := rfl
@[simp] theorem modTwin_flue (w : Work) (f : TwinSt → TwinSt) : (w.modTwin f).flue = w.flue := rfl
@[simp] theorem modTwin_lines (w : Work) (f : TwinSt → TwinSt) : (w.modTwin f).lines = w.lines := rfl
@[simp] theorem modTwin_events (w : Work) (f : TwinSt → TwinSt) : (w.modTwin f).events = w.events := rfl
@[simp] theorem modTwin_eq (w : Work) (f : TwinSt → TwinSt) : (w.modTwin f).eq = w.eq := rfl
@[simp] theorem modTwin_recd (w : Work) (f : TwinSt → TwinSt) : (w.modTwin f).recd = w.recd := rfl
@[simp] theorem modTwin_net (w : Work) (f : TwinSt → TwinSt) : (w.modTwin f).net = w.net := rfl
@[simp] theorem modTwin_hearth (w : Work) (f : TwinSt → TwinSt) : (w.modTwin f).hearth = w.hearth := rfl
@[simp] theorem modTwin_twin (w : Work) (f : TwinSt → TwinSt) : (w.modTwin f).twin = f w.twin := rfl
@[simp] theorem modTwin_chop (w : Work) (f : TwinSt → TwinSt) : (w.modTwin f).chop = w.chop := rfl
@[simp] theorem modTwin_kin (w : Work) (f : TwinSt → TwinSt) : (w.modTwin f).kin = w.kin := rfl
@[simp] theorem modTwin_ember (w : Work) (f : TwinSt → TwinSt) : (w.modTwin f).ember = w.ember := rfl
@[simp] theorem modTwin_therm (w : Work) (f : TwinSt → TwinSt) : (w.modTwin f).therm = w.therm := rfl
@[simp] theorem modTwin_sec (w : Work) (f : TwinSt → TwinSt) : (w.modTwin f).sec = w.sec := rfl
@[simp] theorem modTwin_swap (w : Work) (f : TwinSt → TwinSt) : (w.modTwin f).swap = w.swap := rfl
@[simp] theorem modTwin_shut (w : Work) (f : TwinSt → TwinSt) : (w.modTwin f).shut = w.shut := rfl
@[simp] theorem modTwin_held (w : Work) (f : TwinSt → TwinSt) : (w.modTwin f).held = w.held := rfl
@[simp] theorem modTwin_out (w : Work) (f : TwinSt → TwinSt) : (w.modTwin f).out = w.out := rfl
@[simp] theorem modTwin_freeCtr (w : Work) (f : TwinSt → TwinSt) : (w.modTwin f).freeCtr = w.freeCtr := rfl
@[simp] theorem modTwin_now (w : Work) (f : TwinSt → TwinSt) : (w.modTwin f).now = w.now := rfl
@[simp] theorem modTwin_up (w : Work) (f : TwinSt → TwinSt) : (w.modTwin f).up = w.up := rfl
@[simp] theorem modTwin_inc (w : Work) (f : TwinSt → TwinSt) : (w.modTwin f).inc = w.inc := rfl

@[simp] theorem modTwinRg_regs (w : Work) (n : Nat) (f : TwinRg → TwinRg) : (w.modTwinRg n f).regs = w.regs := rfl
@[simp] theorem modTwinRg_shadow (w : Work) (n : Nat) (f : TwinRg → TwinRg) : (w.modTwinRg n f).shadow = w.shadow := rfl
@[simp] theorem modTwinRg_latched (w : Work) (n : Nat) (f : TwinRg → TwinRg) : (w.modTwinRg n f).latched = w.latched := rfl
@[simp] theorem modTwinRg_dram (w : Work) (n : Nat) (f : TwinRg → TwinRg) : (w.modTwinRg n f).dram = w.dram := rfl
@[simp] theorem modTwinRg_sram (w : Work) (n : Nat) (f : TwinRg → TwinRg) : (w.modTwinRg n f).sram = w.sram := rfl
@[simp] theorem modTwinRg_bad (w : Work) (n : Nat) (f : TwinRg → TwinRg) : (w.modTwinRg n f).bad = w.bad := rfl
@[simp] theorem modTwinRg_rgn (w : Work) (n : Nat) (f : TwinRg → TwinRg) : (w.modTwinRg n f).rgn = w.rgn := rfl
@[simp] theorem modTwinRg_clu (w : Work) (n : Nat) (f : TwinRg → TwinRg) : (w.modTwinRg n f).clu = w.clu := rfl
@[simp] theorem modTwinRg_unit (w : Work) (n : Nat) (f : TwinRg → TwinRg) : (w.modTwinRg n f).unit = w.unit := rfl
@[simp] theorem modTwinRg_lane (w : Work) (n : Nat) (f : TwinRg → TwinRg) : (w.modTwinRg n f).lane = w.lane := rfl
@[simp] theorem modTwinRg_sl (w : Work) (n : Nat) (f : TwinRg → TwinRg) : (w.modTwinRg n f).sl = w.sl := rfl
@[simp] theorem modTwinRg_adc (w : Work) (n : Nat) (f : TwinRg → TwinRg) : (w.modTwinRg n f).adc = w.adc := rfl
@[simp] theorem modTwinRg_ain (w : Work) (n : Nat) (f : TwinRg → TwinRg) : (w.modTwinRg n f).ain = w.ain := rfl
@[simp] theorem modTwinRg_cap (w : Work) (n : Nat) (f : TwinRg → TwinRg) : (w.modTwinRg n f).cap = w.cap := rfl
@[simp] theorem modTwinRg_tout (w : Work) (n : Nat) (f : TwinRg → TwinRg) : (w.modTwinRg n f).tout = w.tout := rfl
@[simp] theorem modTwinRg_ethRx (w : Work) (n : Nat) (f : TwinRg → TwinRg) : (w.modTwinRg n f).ethRx = w.ethRx := rfl
@[simp] theorem modTwinRg_ethTx (w : Work) (n : Nat) (f : TwinRg → TwinRg) : (w.modTwinRg n f).ethTx = w.ethTx := rfl
@[simp] theorem modTwinRg_flue (w : Work) (n : Nat) (f : TwinRg → TwinRg) : (w.modTwinRg n f).flue = w.flue := rfl
@[simp] theorem modTwinRg_lines (w : Work) (n : Nat) (f : TwinRg → TwinRg) : (w.modTwinRg n f).lines = w.lines := rfl
@[simp] theorem modTwinRg_events (w : Work) (n : Nat) (f : TwinRg → TwinRg) : (w.modTwinRg n f).events = w.events := rfl
@[simp] theorem modTwinRg_eq (w : Work) (n : Nat) (f : TwinRg → TwinRg) : (w.modTwinRg n f).eq = w.eq := rfl
@[simp] theorem modTwinRg_recd (w : Work) (n : Nat) (f : TwinRg → TwinRg) : (w.modTwinRg n f).recd = w.recd := rfl
@[simp] theorem modTwinRg_net (w : Work) (n : Nat) (f : TwinRg → TwinRg) : (w.modTwinRg n f).net = w.net := rfl
@[simp] theorem modTwinRg_hearth (w : Work) (n : Nat) (f : TwinRg → TwinRg) : (w.modTwinRg n f).hearth = w.hearth := rfl
@[simp] theorem modTwinRg_chop (w : Work) (n : Nat) (f : TwinRg → TwinRg) : (w.modTwinRg n f).chop = w.chop := rfl
@[simp] theorem modTwinRg_kin (w : Work) (n : Nat) (f : TwinRg → TwinRg) : (w.modTwinRg n f).kin = w.kin := rfl
@[simp] theorem modTwinRg_ember (w : Work) (n : Nat) (f : TwinRg → TwinRg) : (w.modTwinRg n f).ember = w.ember := rfl
@[simp] theorem modTwinRg_therm (w : Work) (n : Nat) (f : TwinRg → TwinRg) : (w.modTwinRg n f).therm = w.therm := rfl
@[simp] theorem modTwinRg_sec (w : Work) (n : Nat) (f : TwinRg → TwinRg) : (w.modTwinRg n f).sec = w.sec := rfl
@[simp] theorem modTwinRg_swap (w : Work) (n : Nat) (f : TwinRg → TwinRg) : (w.modTwinRg n f).swap = w.swap := rfl
@[simp] theorem modTwinRg_shut (w : Work) (n : Nat) (f : TwinRg → TwinRg) : (w.modTwinRg n f).shut = w.shut := rfl
@[simp] theorem modTwinRg_held (w : Work) (n : Nat) (f : TwinRg → TwinRg) : (w.modTwinRg n f).held = w.held := rfl
@[simp] theorem modTwinRg_out (w : Work) (n : Nat) (f : TwinRg → TwinRg) : (w.modTwinRg n f).out = w.out := rfl
@[simp] theorem modTwinRg_freeCtr (w : Work) (n : Nat) (f : TwinRg → TwinRg) : (w.modTwinRg n f).freeCtr = w.freeCtr := rfl
@[simp] theorem modTwinRg_now (w : Work) (n : Nat) (f : TwinRg → TwinRg) : (w.modTwinRg n f).now = w.now := rfl
@[simp] theorem modTwinRg_up (w : Work) (n : Nat) (f : TwinRg → TwinRg) : (w.modTwinRg n f).up = w.up := rfl
@[simp] theorem modTwinRg_inc (w : Work) (n : Nat) (f : TwinRg → TwinRg) : (w.modTwinRg n f).inc = w.inc := rfl

@[simp] theorem modChop_regs (w : Work) (n : Nat) (f : ChopSt → ChopSt) : (w.modChop n f).regs = w.regs := rfl
@[simp] theorem modChop_shadow (w : Work) (n : Nat) (f : ChopSt → ChopSt) : (w.modChop n f).shadow = w.shadow := rfl
@[simp] theorem modChop_latched (w : Work) (n : Nat) (f : ChopSt → ChopSt) : (w.modChop n f).latched = w.latched := rfl
@[simp] theorem modChop_dram (w : Work) (n : Nat) (f : ChopSt → ChopSt) : (w.modChop n f).dram = w.dram := rfl
@[simp] theorem modChop_sram (w : Work) (n : Nat) (f : ChopSt → ChopSt) : (w.modChop n f).sram = w.sram := rfl
@[simp] theorem modChop_bad (w : Work) (n : Nat) (f : ChopSt → ChopSt) : (w.modChop n f).bad = w.bad := rfl
@[simp] theorem modChop_rgn (w : Work) (n : Nat) (f : ChopSt → ChopSt) : (w.modChop n f).rgn = w.rgn := rfl
@[simp] theorem modChop_clu (w : Work) (n : Nat) (f : ChopSt → ChopSt) : (w.modChop n f).clu = w.clu := rfl
@[simp] theorem modChop_unit (w : Work) (n : Nat) (f : ChopSt → ChopSt) : (w.modChop n f).unit = w.unit := rfl
@[simp] theorem modChop_lane (w : Work) (n : Nat) (f : ChopSt → ChopSt) : (w.modChop n f).lane = w.lane := rfl
@[simp] theorem modChop_sl (w : Work) (n : Nat) (f : ChopSt → ChopSt) : (w.modChop n f).sl = w.sl := rfl
@[simp] theorem modChop_adc (w : Work) (n : Nat) (f : ChopSt → ChopSt) : (w.modChop n f).adc = w.adc := rfl
@[simp] theorem modChop_ain (w : Work) (n : Nat) (f : ChopSt → ChopSt) : (w.modChop n f).ain = w.ain := rfl
@[simp] theorem modChop_cap (w : Work) (n : Nat) (f : ChopSt → ChopSt) : (w.modChop n f).cap = w.cap := rfl
@[simp] theorem modChop_tout (w : Work) (n : Nat) (f : ChopSt → ChopSt) : (w.modChop n f).tout = w.tout := rfl
@[simp] theorem modChop_ethRx (w : Work) (n : Nat) (f : ChopSt → ChopSt) : (w.modChop n f).ethRx = w.ethRx := rfl
@[simp] theorem modChop_ethTx (w : Work) (n : Nat) (f : ChopSt → ChopSt) : (w.modChop n f).ethTx = w.ethTx := rfl
@[simp] theorem modChop_flue (w : Work) (n : Nat) (f : ChopSt → ChopSt) : (w.modChop n f).flue = w.flue := rfl
@[simp] theorem modChop_lines (w : Work) (n : Nat) (f : ChopSt → ChopSt) : (w.modChop n f).lines = w.lines := rfl
@[simp] theorem modChop_events (w : Work) (n : Nat) (f : ChopSt → ChopSt) : (w.modChop n f).events = w.events := rfl
@[simp] theorem modChop_eq (w : Work) (n : Nat) (f : ChopSt → ChopSt) : (w.modChop n f).eq = w.eq := rfl
@[simp] theorem modChop_recd (w : Work) (n : Nat) (f : ChopSt → ChopSt) : (w.modChop n f).recd = w.recd := rfl
@[simp] theorem modChop_net (w : Work) (n : Nat) (f : ChopSt → ChopSt) : (w.modChop n f).net = w.net := rfl
@[simp] theorem modChop_hearth (w : Work) (n : Nat) (f : ChopSt → ChopSt) : (w.modChop n f).hearth = w.hearth := rfl
@[simp] theorem modChop_twin (w : Work) (n : Nat) (f : ChopSt → ChopSt) : (w.modChop n f).twin = w.twin := rfl
@[simp] theorem modChop_chop (w : Work) (n : Nat) (f : ChopSt → ChopSt) : (w.modChop n f).chop = vmod w.chop n f := rfl
@[simp] theorem modChop_kin (w : Work) (n : Nat) (f : ChopSt → ChopSt) : (w.modChop n f).kin = w.kin := rfl
@[simp] theorem modChop_ember (w : Work) (n : Nat) (f : ChopSt → ChopSt) : (w.modChop n f).ember = w.ember := rfl
@[simp] theorem modChop_therm (w : Work) (n : Nat) (f : ChopSt → ChopSt) : (w.modChop n f).therm = w.therm := rfl
@[simp] theorem modChop_sec (w : Work) (n : Nat) (f : ChopSt → ChopSt) : (w.modChop n f).sec = w.sec := rfl
@[simp] theorem modChop_swap (w : Work) (n : Nat) (f : ChopSt → ChopSt) : (w.modChop n f).swap = w.swap := rfl
@[simp] theorem modChop_shut (w : Work) (n : Nat) (f : ChopSt → ChopSt) : (w.modChop n f).shut = w.shut := rfl
@[simp] theorem modChop_held (w : Work) (n : Nat) (f : ChopSt → ChopSt) : (w.modChop n f).held = w.held := rfl
@[simp] theorem modChop_out (w : Work) (n : Nat) (f : ChopSt → ChopSt) : (w.modChop n f).out = w.out := rfl
@[simp] theorem modChop_freeCtr (w : Work) (n : Nat) (f : ChopSt → ChopSt) : (w.modChop n f).freeCtr = w.freeCtr := rfl
@[simp] theorem modChop_now (w : Work) (n : Nat) (f : ChopSt → ChopSt) : (w.modChop n f).now = w.now := rfl
@[simp] theorem modChop_up (w : Work) (n : Nat) (f : ChopSt → ChopSt) : (w.modChop n f).up = w.up := rfl
@[simp] theorem modChop_inc (w : Work) (n : Nat) (f : ChopSt → ChopSt) : (w.modChop n f).inc = w.inc := rfl

@[simp] theorem modKin_regs (w : Work) (f : KinSt → KinSt) : (w.modKin f).regs = w.regs := rfl
@[simp] theorem modKin_shadow (w : Work) (f : KinSt → KinSt) : (w.modKin f).shadow = w.shadow := rfl
@[simp] theorem modKin_latched (w : Work) (f : KinSt → KinSt) : (w.modKin f).latched = w.latched := rfl
@[simp] theorem modKin_dram (w : Work) (f : KinSt → KinSt) : (w.modKin f).dram = w.dram := rfl
@[simp] theorem modKin_sram (w : Work) (f : KinSt → KinSt) : (w.modKin f).sram = w.sram := rfl
@[simp] theorem modKin_bad (w : Work) (f : KinSt → KinSt) : (w.modKin f).bad = w.bad := rfl
@[simp] theorem modKin_rgn (w : Work) (f : KinSt → KinSt) : (w.modKin f).rgn = w.rgn := rfl
@[simp] theorem modKin_clu (w : Work) (f : KinSt → KinSt) : (w.modKin f).clu = w.clu := rfl
@[simp] theorem modKin_unit (w : Work) (f : KinSt → KinSt) : (w.modKin f).unit = w.unit := rfl
@[simp] theorem modKin_lane (w : Work) (f : KinSt → KinSt) : (w.modKin f).lane = w.lane := rfl
@[simp] theorem modKin_sl (w : Work) (f : KinSt → KinSt) : (w.modKin f).sl = w.sl := rfl
@[simp] theorem modKin_adc (w : Work) (f : KinSt → KinSt) : (w.modKin f).adc = w.adc := rfl
@[simp] theorem modKin_ain (w : Work) (f : KinSt → KinSt) : (w.modKin f).ain = w.ain := rfl
@[simp] theorem modKin_cap (w : Work) (f : KinSt → KinSt) : (w.modKin f).cap = w.cap := rfl
@[simp] theorem modKin_tout (w : Work) (f : KinSt → KinSt) : (w.modKin f).tout = w.tout := rfl
@[simp] theorem modKin_ethRx (w : Work) (f : KinSt → KinSt) : (w.modKin f).ethRx = w.ethRx := rfl
@[simp] theorem modKin_ethTx (w : Work) (f : KinSt → KinSt) : (w.modKin f).ethTx = w.ethTx := rfl
@[simp] theorem modKin_flue (w : Work) (f : KinSt → KinSt) : (w.modKin f).flue = w.flue := rfl
@[simp] theorem modKin_lines (w : Work) (f : KinSt → KinSt) : (w.modKin f).lines = w.lines := rfl
@[simp] theorem modKin_events (w : Work) (f : KinSt → KinSt) : (w.modKin f).events = w.events := rfl
@[simp] theorem modKin_eq (w : Work) (f : KinSt → KinSt) : (w.modKin f).eq = w.eq := rfl
@[simp] theorem modKin_recd (w : Work) (f : KinSt → KinSt) : (w.modKin f).recd = w.recd := rfl
@[simp] theorem modKin_net (w : Work) (f : KinSt → KinSt) : (w.modKin f).net = w.net := rfl
@[simp] theorem modKin_hearth (w : Work) (f : KinSt → KinSt) : (w.modKin f).hearth = w.hearth := rfl
@[simp] theorem modKin_twin (w : Work) (f : KinSt → KinSt) : (w.modKin f).twin = w.twin := rfl
@[simp] theorem modKin_chop (w : Work) (f : KinSt → KinSt) : (w.modKin f).chop = w.chop := rfl
@[simp] theorem modKin_kin (w : Work) (f : KinSt → KinSt) : (w.modKin f).kin = f w.kin := rfl
@[simp] theorem modKin_ember (w : Work) (f : KinSt → KinSt) : (w.modKin f).ember = w.ember := rfl
@[simp] theorem modKin_therm (w : Work) (f : KinSt → KinSt) : (w.modKin f).therm = w.therm := rfl
@[simp] theorem modKin_sec (w : Work) (f : KinSt → KinSt) : (w.modKin f).sec = w.sec := rfl
@[simp] theorem modKin_swap (w : Work) (f : KinSt → KinSt) : (w.modKin f).swap = w.swap := rfl
@[simp] theorem modKin_shut (w : Work) (f : KinSt → KinSt) : (w.modKin f).shut = w.shut := rfl
@[simp] theorem modKin_held (w : Work) (f : KinSt → KinSt) : (w.modKin f).held = w.held := rfl
@[simp] theorem modKin_out (w : Work) (f : KinSt → KinSt) : (w.modKin f).out = w.out := rfl
@[simp] theorem modKin_freeCtr (w : Work) (f : KinSt → KinSt) : (w.modKin f).freeCtr = w.freeCtr := rfl
@[simp] theorem modKin_now (w : Work) (f : KinSt → KinSt) : (w.modKin f).now = w.now := rfl
@[simp] theorem modKin_up (w : Work) (f : KinSt → KinSt) : (w.modKin f).up = w.up := rfl
@[simp] theorem modKin_inc (w : Work) (f : KinSt → KinSt) : (w.modKin f).inc = w.inc := rfl

@[simp] theorem modEmber_regs (w : Work) (f : EmberSt → EmberSt) : (w.modEmber f).regs = w.regs := rfl
@[simp] theorem modEmber_shadow (w : Work) (f : EmberSt → EmberSt) : (w.modEmber f).shadow = w.shadow := rfl
@[simp] theorem modEmber_latched (w : Work) (f : EmberSt → EmberSt) : (w.modEmber f).latched = w.latched := rfl
@[simp] theorem modEmber_dram (w : Work) (f : EmberSt → EmberSt) : (w.modEmber f).dram = w.dram := rfl
@[simp] theorem modEmber_sram (w : Work) (f : EmberSt → EmberSt) : (w.modEmber f).sram = w.sram := rfl
@[simp] theorem modEmber_bad (w : Work) (f : EmberSt → EmberSt) : (w.modEmber f).bad = w.bad := rfl
@[simp] theorem modEmber_rgn (w : Work) (f : EmberSt → EmberSt) : (w.modEmber f).rgn = w.rgn := rfl
@[simp] theorem modEmber_clu (w : Work) (f : EmberSt → EmberSt) : (w.modEmber f).clu = w.clu := rfl
@[simp] theorem modEmber_unit (w : Work) (f : EmberSt → EmberSt) : (w.modEmber f).unit = w.unit := rfl
@[simp] theorem modEmber_lane (w : Work) (f : EmberSt → EmberSt) : (w.modEmber f).lane = w.lane := rfl
@[simp] theorem modEmber_sl (w : Work) (f : EmberSt → EmberSt) : (w.modEmber f).sl = w.sl := rfl
@[simp] theorem modEmber_adc (w : Work) (f : EmberSt → EmberSt) : (w.modEmber f).adc = w.adc := rfl
@[simp] theorem modEmber_ain (w : Work) (f : EmberSt → EmberSt) : (w.modEmber f).ain = w.ain := rfl
@[simp] theorem modEmber_cap (w : Work) (f : EmberSt → EmberSt) : (w.modEmber f).cap = w.cap := rfl
@[simp] theorem modEmber_tout (w : Work) (f : EmberSt → EmberSt) : (w.modEmber f).tout = w.tout := rfl
@[simp] theorem modEmber_ethRx (w : Work) (f : EmberSt → EmberSt) : (w.modEmber f).ethRx = w.ethRx := rfl
@[simp] theorem modEmber_ethTx (w : Work) (f : EmberSt → EmberSt) : (w.modEmber f).ethTx = w.ethTx := rfl
@[simp] theorem modEmber_flue (w : Work) (f : EmberSt → EmberSt) : (w.modEmber f).flue = w.flue := rfl
@[simp] theorem modEmber_lines (w : Work) (f : EmberSt → EmberSt) : (w.modEmber f).lines = w.lines := rfl
@[simp] theorem modEmber_events (w : Work) (f : EmberSt → EmberSt) : (w.modEmber f).events = w.events := rfl
@[simp] theorem modEmber_eq (w : Work) (f : EmberSt → EmberSt) : (w.modEmber f).eq = w.eq := rfl
@[simp] theorem modEmber_recd (w : Work) (f : EmberSt → EmberSt) : (w.modEmber f).recd = w.recd := rfl
@[simp] theorem modEmber_net (w : Work) (f : EmberSt → EmberSt) : (w.modEmber f).net = w.net := rfl
@[simp] theorem modEmber_hearth (w : Work) (f : EmberSt → EmberSt) : (w.modEmber f).hearth = w.hearth := rfl
@[simp] theorem modEmber_twin (w : Work) (f : EmberSt → EmberSt) : (w.modEmber f).twin = w.twin := rfl
@[simp] theorem modEmber_chop (w : Work) (f : EmberSt → EmberSt) : (w.modEmber f).chop = w.chop := rfl
@[simp] theorem modEmber_kin (w : Work) (f : EmberSt → EmberSt) : (w.modEmber f).kin = w.kin := rfl
@[simp] theorem modEmber_ember (w : Work) (f : EmberSt → EmberSt) : (w.modEmber f).ember = f w.ember := rfl
@[simp] theorem modEmber_therm (w : Work) (f : EmberSt → EmberSt) : (w.modEmber f).therm = w.therm := rfl
@[simp] theorem modEmber_sec (w : Work) (f : EmberSt → EmberSt) : (w.modEmber f).sec = w.sec := rfl
@[simp] theorem modEmber_swap (w : Work) (f : EmberSt → EmberSt) : (w.modEmber f).swap = w.swap := rfl
@[simp] theorem modEmber_shut (w : Work) (f : EmberSt → EmberSt) : (w.modEmber f).shut = w.shut := rfl
@[simp] theorem modEmber_held (w : Work) (f : EmberSt → EmberSt) : (w.modEmber f).held = w.held := rfl
@[simp] theorem modEmber_out (w : Work) (f : EmberSt → EmberSt) : (w.modEmber f).out = w.out := rfl
@[simp] theorem modEmber_freeCtr (w : Work) (f : EmberSt → EmberSt) : (w.modEmber f).freeCtr = w.freeCtr := rfl
@[simp] theorem modEmber_now (w : Work) (f : EmberSt → EmberSt) : (w.modEmber f).now = w.now := rfl
@[simp] theorem modEmber_up (w : Work) (f : EmberSt → EmberSt) : (w.modEmber f).up = w.up := rfl
@[simp] theorem modEmber_inc (w : Work) (f : EmberSt → EmberSt) : (w.modEmber f).inc = w.inc := rfl

@[simp] theorem modTherm_regs (w : Work) (f : ThermSt → ThermSt) : (w.modTherm f).regs = w.regs := rfl
@[simp] theorem modTherm_shadow (w : Work) (f : ThermSt → ThermSt) : (w.modTherm f).shadow = w.shadow := rfl
@[simp] theorem modTherm_latched (w : Work) (f : ThermSt → ThermSt) : (w.modTherm f).latched = w.latched := rfl
@[simp] theorem modTherm_dram (w : Work) (f : ThermSt → ThermSt) : (w.modTherm f).dram = w.dram := rfl
@[simp] theorem modTherm_sram (w : Work) (f : ThermSt → ThermSt) : (w.modTherm f).sram = w.sram := rfl
@[simp] theorem modTherm_bad (w : Work) (f : ThermSt → ThermSt) : (w.modTherm f).bad = w.bad := rfl
@[simp] theorem modTherm_rgn (w : Work) (f : ThermSt → ThermSt) : (w.modTherm f).rgn = w.rgn := rfl
@[simp] theorem modTherm_clu (w : Work) (f : ThermSt → ThermSt) : (w.modTherm f).clu = w.clu := rfl
@[simp] theorem modTherm_unit (w : Work) (f : ThermSt → ThermSt) : (w.modTherm f).unit = w.unit := rfl
@[simp] theorem modTherm_lane (w : Work) (f : ThermSt → ThermSt) : (w.modTherm f).lane = w.lane := rfl
@[simp] theorem modTherm_sl (w : Work) (f : ThermSt → ThermSt) : (w.modTherm f).sl = w.sl := rfl
@[simp] theorem modTherm_adc (w : Work) (f : ThermSt → ThermSt) : (w.modTherm f).adc = w.adc := rfl
@[simp] theorem modTherm_ain (w : Work) (f : ThermSt → ThermSt) : (w.modTherm f).ain = w.ain := rfl
@[simp] theorem modTherm_cap (w : Work) (f : ThermSt → ThermSt) : (w.modTherm f).cap = w.cap := rfl
@[simp] theorem modTherm_tout (w : Work) (f : ThermSt → ThermSt) : (w.modTherm f).tout = w.tout := rfl
@[simp] theorem modTherm_ethRx (w : Work) (f : ThermSt → ThermSt) : (w.modTherm f).ethRx = w.ethRx := rfl
@[simp] theorem modTherm_ethTx (w : Work) (f : ThermSt → ThermSt) : (w.modTherm f).ethTx = w.ethTx := rfl
@[simp] theorem modTherm_flue (w : Work) (f : ThermSt → ThermSt) : (w.modTherm f).flue = w.flue := rfl
@[simp] theorem modTherm_lines (w : Work) (f : ThermSt → ThermSt) : (w.modTherm f).lines = w.lines := rfl
@[simp] theorem modTherm_events (w : Work) (f : ThermSt → ThermSt) : (w.modTherm f).events = w.events := rfl
@[simp] theorem modTherm_eq (w : Work) (f : ThermSt → ThermSt) : (w.modTherm f).eq = w.eq := rfl
@[simp] theorem modTherm_recd (w : Work) (f : ThermSt → ThermSt) : (w.modTherm f).recd = w.recd := rfl
@[simp] theorem modTherm_net (w : Work) (f : ThermSt → ThermSt) : (w.modTherm f).net = w.net := rfl
@[simp] theorem modTherm_hearth (w : Work) (f : ThermSt → ThermSt) : (w.modTherm f).hearth = w.hearth := rfl
@[simp] theorem modTherm_twin (w : Work) (f : ThermSt → ThermSt) : (w.modTherm f).twin = w.twin := rfl
@[simp] theorem modTherm_chop (w : Work) (f : ThermSt → ThermSt) : (w.modTherm f).chop = w.chop := rfl
@[simp] theorem modTherm_kin (w : Work) (f : ThermSt → ThermSt) : (w.modTherm f).kin = w.kin := rfl
@[simp] theorem modTherm_ember (w : Work) (f : ThermSt → ThermSt) : (w.modTherm f).ember = w.ember := rfl
@[simp] theorem modTherm_therm (w : Work) (f : ThermSt → ThermSt) : (w.modTherm f).therm = f w.therm := rfl
@[simp] theorem modTherm_sec (w : Work) (f : ThermSt → ThermSt) : (w.modTherm f).sec = w.sec := rfl
@[simp] theorem modTherm_swap (w : Work) (f : ThermSt → ThermSt) : (w.modTherm f).swap = w.swap := rfl
@[simp] theorem modTherm_shut (w : Work) (f : ThermSt → ThermSt) : (w.modTherm f).shut = w.shut := rfl
@[simp] theorem modTherm_held (w : Work) (f : ThermSt → ThermSt) : (w.modTherm f).held = w.held := rfl
@[simp] theorem modTherm_out (w : Work) (f : ThermSt → ThermSt) : (w.modTherm f).out = w.out := rfl
@[simp] theorem modTherm_freeCtr (w : Work) (f : ThermSt → ThermSt) : (w.modTherm f).freeCtr = w.freeCtr := rfl
@[simp] theorem modTherm_now (w : Work) (f : ThermSt → ThermSt) : (w.modTherm f).now = w.now := rfl
@[simp] theorem modTherm_up (w : Work) (f : ThermSt → ThermSt) : (w.modTherm f).up = w.up := rfl
@[simp] theorem modTherm_inc (w : Work) (f : ThermSt → ThermSt) : (w.modTherm f).inc = w.inc := rfl

@[simp] theorem modSec_regs (w : Work) (f : SecSt → SecSt) : (w.modSec f).regs = w.regs := rfl
@[simp] theorem modSec_shadow (w : Work) (f : SecSt → SecSt) : (w.modSec f).shadow = w.shadow := rfl
@[simp] theorem modSec_latched (w : Work) (f : SecSt → SecSt) : (w.modSec f).latched = w.latched := rfl
@[simp] theorem modSec_dram (w : Work) (f : SecSt → SecSt) : (w.modSec f).dram = w.dram := rfl
@[simp] theorem modSec_sram (w : Work) (f : SecSt → SecSt) : (w.modSec f).sram = w.sram := rfl
@[simp] theorem modSec_bad (w : Work) (f : SecSt → SecSt) : (w.modSec f).bad = w.bad := rfl
@[simp] theorem modSec_rgn (w : Work) (f : SecSt → SecSt) : (w.modSec f).rgn = w.rgn := rfl
@[simp] theorem modSec_clu (w : Work) (f : SecSt → SecSt) : (w.modSec f).clu = w.clu := rfl
@[simp] theorem modSec_unit (w : Work) (f : SecSt → SecSt) : (w.modSec f).unit = w.unit := rfl
@[simp] theorem modSec_lane (w : Work) (f : SecSt → SecSt) : (w.modSec f).lane = w.lane := rfl
@[simp] theorem modSec_sl (w : Work) (f : SecSt → SecSt) : (w.modSec f).sl = w.sl := rfl
@[simp] theorem modSec_adc (w : Work) (f : SecSt → SecSt) : (w.modSec f).adc = w.adc := rfl
@[simp] theorem modSec_ain (w : Work) (f : SecSt → SecSt) : (w.modSec f).ain = w.ain := rfl
@[simp] theorem modSec_cap (w : Work) (f : SecSt → SecSt) : (w.modSec f).cap = w.cap := rfl
@[simp] theorem modSec_tout (w : Work) (f : SecSt → SecSt) : (w.modSec f).tout = w.tout := rfl
@[simp] theorem modSec_ethRx (w : Work) (f : SecSt → SecSt) : (w.modSec f).ethRx = w.ethRx := rfl
@[simp] theorem modSec_ethTx (w : Work) (f : SecSt → SecSt) : (w.modSec f).ethTx = w.ethTx := rfl
@[simp] theorem modSec_flue (w : Work) (f : SecSt → SecSt) : (w.modSec f).flue = w.flue := rfl
@[simp] theorem modSec_lines (w : Work) (f : SecSt → SecSt) : (w.modSec f).lines = w.lines := rfl
@[simp] theorem modSec_events (w : Work) (f : SecSt → SecSt) : (w.modSec f).events = w.events := rfl
@[simp] theorem modSec_eq (w : Work) (f : SecSt → SecSt) : (w.modSec f).eq = w.eq := rfl
@[simp] theorem modSec_recd (w : Work) (f : SecSt → SecSt) : (w.modSec f).recd = w.recd := rfl
@[simp] theorem modSec_net (w : Work) (f : SecSt → SecSt) : (w.modSec f).net = w.net := rfl
@[simp] theorem modSec_hearth (w : Work) (f : SecSt → SecSt) : (w.modSec f).hearth = w.hearth := rfl
@[simp] theorem modSec_twin (w : Work) (f : SecSt → SecSt) : (w.modSec f).twin = w.twin := rfl
@[simp] theorem modSec_chop (w : Work) (f : SecSt → SecSt) : (w.modSec f).chop = w.chop := rfl
@[simp] theorem modSec_kin (w : Work) (f : SecSt → SecSt) : (w.modSec f).kin = w.kin := rfl
@[simp] theorem modSec_ember (w : Work) (f : SecSt → SecSt) : (w.modSec f).ember = w.ember := rfl
@[simp] theorem modSec_therm (w : Work) (f : SecSt → SecSt) : (w.modSec f).therm = w.therm := rfl
@[simp] theorem modSec_sec (w : Work) (f : SecSt → SecSt) : (w.modSec f).sec = f w.sec := rfl
@[simp] theorem modSec_swap (w : Work) (f : SecSt → SecSt) : (w.modSec f).swap = w.swap := rfl
@[simp] theorem modSec_shut (w : Work) (f : SecSt → SecSt) : (w.modSec f).shut = w.shut := rfl
@[simp] theorem modSec_held (w : Work) (f : SecSt → SecSt) : (w.modSec f).held = w.held := rfl
@[simp] theorem modSec_out (w : Work) (f : SecSt → SecSt) : (w.modSec f).out = w.out := rfl
@[simp] theorem modSec_freeCtr (w : Work) (f : SecSt → SecSt) : (w.modSec f).freeCtr = w.freeCtr := rfl
@[simp] theorem modSec_now (w : Work) (f : SecSt → SecSt) : (w.modSec f).now = w.now := rfl
@[simp] theorem modSec_up (w : Work) (f : SecSt → SecSt) : (w.modSec f).up = w.up := rfl
@[simp] theorem modSec_inc (w : Work) (f : SecSt → SecSt) : (w.modSec f).inc = w.inc := rfl

@[simp] theorem modSwap_regs (w : Work) (f : SwapSt → SwapSt) : (w.modSwap f).regs = w.regs := rfl
@[simp] theorem modSwap_shadow (w : Work) (f : SwapSt → SwapSt) : (w.modSwap f).shadow = w.shadow := rfl
@[simp] theorem modSwap_latched (w : Work) (f : SwapSt → SwapSt) : (w.modSwap f).latched = w.latched := rfl
@[simp] theorem modSwap_dram (w : Work) (f : SwapSt → SwapSt) : (w.modSwap f).dram = w.dram := rfl
@[simp] theorem modSwap_sram (w : Work) (f : SwapSt → SwapSt) : (w.modSwap f).sram = w.sram := rfl
@[simp] theorem modSwap_bad (w : Work) (f : SwapSt → SwapSt) : (w.modSwap f).bad = w.bad := rfl
@[simp] theorem modSwap_rgn (w : Work) (f : SwapSt → SwapSt) : (w.modSwap f).rgn = w.rgn := rfl
@[simp] theorem modSwap_clu (w : Work) (f : SwapSt → SwapSt) : (w.modSwap f).clu = w.clu := rfl
@[simp] theorem modSwap_unit (w : Work) (f : SwapSt → SwapSt) : (w.modSwap f).unit = w.unit := rfl
@[simp] theorem modSwap_lane (w : Work) (f : SwapSt → SwapSt) : (w.modSwap f).lane = w.lane := rfl
@[simp] theorem modSwap_sl (w : Work) (f : SwapSt → SwapSt) : (w.modSwap f).sl = w.sl := rfl
@[simp] theorem modSwap_adc (w : Work) (f : SwapSt → SwapSt) : (w.modSwap f).adc = w.adc := rfl
@[simp] theorem modSwap_ain (w : Work) (f : SwapSt → SwapSt) : (w.modSwap f).ain = w.ain := rfl
@[simp] theorem modSwap_cap (w : Work) (f : SwapSt → SwapSt) : (w.modSwap f).cap = w.cap := rfl
@[simp] theorem modSwap_tout (w : Work) (f : SwapSt → SwapSt) : (w.modSwap f).tout = w.tout := rfl
@[simp] theorem modSwap_ethRx (w : Work) (f : SwapSt → SwapSt) : (w.modSwap f).ethRx = w.ethRx := rfl
@[simp] theorem modSwap_ethTx (w : Work) (f : SwapSt → SwapSt) : (w.modSwap f).ethTx = w.ethTx := rfl
@[simp] theorem modSwap_flue (w : Work) (f : SwapSt → SwapSt) : (w.modSwap f).flue = w.flue := rfl
@[simp] theorem modSwap_lines (w : Work) (f : SwapSt → SwapSt) : (w.modSwap f).lines = w.lines := rfl
@[simp] theorem modSwap_events (w : Work) (f : SwapSt → SwapSt) : (w.modSwap f).events = w.events := rfl
@[simp] theorem modSwap_eq (w : Work) (f : SwapSt → SwapSt) : (w.modSwap f).eq = w.eq := rfl
@[simp] theorem modSwap_recd (w : Work) (f : SwapSt → SwapSt) : (w.modSwap f).recd = w.recd := rfl
@[simp] theorem modSwap_net (w : Work) (f : SwapSt → SwapSt) : (w.modSwap f).net = w.net := rfl
@[simp] theorem modSwap_hearth (w : Work) (f : SwapSt → SwapSt) : (w.modSwap f).hearth = w.hearth := rfl
@[simp] theorem modSwap_twin (w : Work) (f : SwapSt → SwapSt) : (w.modSwap f).twin = w.twin := rfl
@[simp] theorem modSwap_chop (w : Work) (f : SwapSt → SwapSt) : (w.modSwap f).chop = w.chop := rfl
@[simp] theorem modSwap_kin (w : Work) (f : SwapSt → SwapSt) : (w.modSwap f).kin = w.kin := rfl
@[simp] theorem modSwap_ember (w : Work) (f : SwapSt → SwapSt) : (w.modSwap f).ember = w.ember := rfl
@[simp] theorem modSwap_therm (w : Work) (f : SwapSt → SwapSt) : (w.modSwap f).therm = w.therm := rfl
@[simp] theorem modSwap_sec (w : Work) (f : SwapSt → SwapSt) : (w.modSwap f).sec = w.sec := rfl
@[simp] theorem modSwap_swap (w : Work) (f : SwapSt → SwapSt) : (w.modSwap f).swap = f w.swap := rfl
@[simp] theorem modSwap_shut (w : Work) (f : SwapSt → SwapSt) : (w.modSwap f).shut = w.shut := rfl
@[simp] theorem modSwap_held (w : Work) (f : SwapSt → SwapSt) : (w.modSwap f).held = w.held := rfl
@[simp] theorem modSwap_out (w : Work) (f : SwapSt → SwapSt) : (w.modSwap f).out = w.out := rfl
@[simp] theorem modSwap_freeCtr (w : Work) (f : SwapSt → SwapSt) : (w.modSwap f).freeCtr = w.freeCtr := rfl
@[simp] theorem modSwap_now (w : Work) (f : SwapSt → SwapSt) : (w.modSwap f).now = w.now := rfl
@[simp] theorem modSwap_up (w : Work) (f : SwapSt → SwapSt) : (w.modSwap f).up = w.up := rfl
@[simp] theorem modSwap_inc (w : Work) (f : SwapSt → SwapSt) : (w.modSwap f).inc = w.inc := rfl

@[simp] theorem modTout_regs (w : Work) (m : Nat) (f : Tout → Tout) : (w.modTout m f).regs = w.regs := rfl
@[simp] theorem modTout_shadow (w : Work) (m : Nat) (f : Tout → Tout) : (w.modTout m f).shadow = w.shadow := rfl
@[simp] theorem modTout_latched (w : Work) (m : Nat) (f : Tout → Tout) : (w.modTout m f).latched = w.latched := rfl
@[simp] theorem modTout_dram (w : Work) (m : Nat) (f : Tout → Tout) : (w.modTout m f).dram = w.dram := rfl
@[simp] theorem modTout_sram (w : Work) (m : Nat) (f : Tout → Tout) : (w.modTout m f).sram = w.sram := rfl
@[simp] theorem modTout_bad (w : Work) (m : Nat) (f : Tout → Tout) : (w.modTout m f).bad = w.bad := rfl
@[simp] theorem modTout_rgn (w : Work) (m : Nat) (f : Tout → Tout) : (w.modTout m f).rgn = w.rgn := rfl
@[simp] theorem modTout_clu (w : Work) (m : Nat) (f : Tout → Tout) : (w.modTout m f).clu = w.clu := rfl
@[simp] theorem modTout_unit (w : Work) (m : Nat) (f : Tout → Tout) : (w.modTout m f).unit = w.unit := rfl
@[simp] theorem modTout_lane (w : Work) (m : Nat) (f : Tout → Tout) : (w.modTout m f).lane = w.lane := rfl
@[simp] theorem modTout_sl (w : Work) (m : Nat) (f : Tout → Tout) : (w.modTout m f).sl = w.sl := rfl
@[simp] theorem modTout_adc (w : Work) (m : Nat) (f : Tout → Tout) : (w.modTout m f).adc = w.adc := rfl
@[simp] theorem modTout_ain (w : Work) (m : Nat) (f : Tout → Tout) : (w.modTout m f).ain = w.ain := rfl
@[simp] theorem modTout_cap (w : Work) (m : Nat) (f : Tout → Tout) : (w.modTout m f).cap = w.cap := rfl
@[simp] theorem modTout_tout (w : Work) (m : Nat) (f : Tout → Tout) : (w.modTout m f).tout = vmod w.tout m f := rfl
@[simp] theorem modTout_ethRx (w : Work) (m : Nat) (f : Tout → Tout) : (w.modTout m f).ethRx = w.ethRx := rfl
@[simp] theorem modTout_ethTx (w : Work) (m : Nat) (f : Tout → Tout) : (w.modTout m f).ethTx = w.ethTx := rfl
@[simp] theorem modTout_flue (w : Work) (m : Nat) (f : Tout → Tout) : (w.modTout m f).flue = w.flue := rfl
@[simp] theorem modTout_lines (w : Work) (m : Nat) (f : Tout → Tout) : (w.modTout m f).lines = w.lines := rfl
@[simp] theorem modTout_events (w : Work) (m : Nat) (f : Tout → Tout) : (w.modTout m f).events = w.events := rfl
@[simp] theorem modTout_eq (w : Work) (m : Nat) (f : Tout → Tout) : (w.modTout m f).eq = w.eq := rfl
@[simp] theorem modTout_recd (w : Work) (m : Nat) (f : Tout → Tout) : (w.modTout m f).recd = w.recd := rfl
@[simp] theorem modTout_net (w : Work) (m : Nat) (f : Tout → Tout) : (w.modTout m f).net = w.net := rfl
@[simp] theorem modTout_hearth (w : Work) (m : Nat) (f : Tout → Tout) : (w.modTout m f).hearth = w.hearth := rfl
@[simp] theorem modTout_twin (w : Work) (m : Nat) (f : Tout → Tout) : (w.modTout m f).twin = w.twin := rfl
@[simp] theorem modTout_chop (w : Work) (m : Nat) (f : Tout → Tout) : (w.modTout m f).chop = w.chop := rfl
@[simp] theorem modTout_kin (w : Work) (m : Nat) (f : Tout → Tout) : (w.modTout m f).kin = w.kin := rfl
@[simp] theorem modTout_ember (w : Work) (m : Nat) (f : Tout → Tout) : (w.modTout m f).ember = w.ember := rfl
@[simp] theorem modTout_therm (w : Work) (m : Nat) (f : Tout → Tout) : (w.modTout m f).therm = w.therm := rfl
@[simp] theorem modTout_sec (w : Work) (m : Nat) (f : Tout → Tout) : (w.modTout m f).sec = w.sec := rfl
@[simp] theorem modTout_swap (w : Work) (m : Nat) (f : Tout → Tout) : (w.modTout m f).swap = w.swap := rfl
@[simp] theorem modTout_shut (w : Work) (m : Nat) (f : Tout → Tout) : (w.modTout m f).shut = w.shut := rfl
@[simp] theorem modTout_held (w : Work) (m : Nat) (f : Tout → Tout) : (w.modTout m f).held = w.held := rfl
@[simp] theorem modTout_out (w : Work) (m : Nat) (f : Tout → Tout) : (w.modTout m f).out = w.out := rfl
@[simp] theorem modTout_freeCtr (w : Work) (m : Nat) (f : Tout → Tout) : (w.modTout m f).freeCtr = w.freeCtr := rfl
@[simp] theorem modTout_now (w : Work) (m : Nat) (f : Tout → Tout) : (w.modTout m f).now = w.now := rfl
@[simp] theorem modTout_up (w : Work) (m : Nat) (f : Tout → Tout) : (w.modTout m f).up = w.up := rfl
@[simp] theorem modTout_inc (w : Work) (m : Nat) (f : Tout → Tout) : (w.modTout m f).inc = w.inc := rfl

@[simp] theorem setCap_regs (w : Work) (k : Nat) (r : Option CapRec) : (w.setCap k r).regs = w.regs := rfl
@[simp] theorem setCap_shadow (w : Work) (k : Nat) (r : Option CapRec) : (w.setCap k r).shadow = w.shadow := rfl
@[simp] theorem setCap_latched (w : Work) (k : Nat) (r : Option CapRec) : (w.setCap k r).latched = w.latched := rfl
@[simp] theorem setCap_dram (w : Work) (k : Nat) (r : Option CapRec) : (w.setCap k r).dram = w.dram := rfl
@[simp] theorem setCap_sram (w : Work) (k : Nat) (r : Option CapRec) : (w.setCap k r).sram = w.sram := rfl
@[simp] theorem setCap_bad (w : Work) (k : Nat) (r : Option CapRec) : (w.setCap k r).bad = w.bad := rfl
@[simp] theorem setCap_rgn (w : Work) (k : Nat) (r : Option CapRec) : (w.setCap k r).rgn = w.rgn := rfl
@[simp] theorem setCap_clu (w : Work) (k : Nat) (r : Option CapRec) : (w.setCap k r).clu = w.clu := rfl
@[simp] theorem setCap_unit (w : Work) (k : Nat) (r : Option CapRec) : (w.setCap k r).unit = w.unit := rfl
@[simp] theorem setCap_lane (w : Work) (k : Nat) (r : Option CapRec) : (w.setCap k r).lane = w.lane := rfl
@[simp] theorem setCap_sl (w : Work) (k : Nat) (r : Option CapRec) : (w.setCap k r).sl = w.sl := rfl
@[simp] theorem setCap_adc (w : Work) (k : Nat) (r : Option CapRec) : (w.setCap k r).adc = w.adc := rfl
@[simp] theorem setCap_ain (w : Work) (k : Nat) (r : Option CapRec) : (w.setCap k r).ain = w.ain := rfl
@[simp] theorem setCap_cap (w : Work) (k : Nat) (r : Option CapRec) : (w.setCap k r).cap = w.cap.setIfInBounds k r := rfl
@[simp] theorem setCap_tout (w : Work) (k : Nat) (r : Option CapRec) : (w.setCap k r).tout = w.tout := rfl
@[simp] theorem setCap_ethRx (w : Work) (k : Nat) (r : Option CapRec) : (w.setCap k r).ethRx = w.ethRx := rfl
@[simp] theorem setCap_ethTx (w : Work) (k : Nat) (r : Option CapRec) : (w.setCap k r).ethTx = w.ethTx := rfl
@[simp] theorem setCap_flue (w : Work) (k : Nat) (r : Option CapRec) : (w.setCap k r).flue = w.flue := rfl
@[simp] theorem setCap_lines (w : Work) (k : Nat) (r : Option CapRec) : (w.setCap k r).lines = w.lines := rfl
@[simp] theorem setCap_events (w : Work) (k : Nat) (r : Option CapRec) : (w.setCap k r).events = w.events := rfl
@[simp] theorem setCap_eq (w : Work) (k : Nat) (r : Option CapRec) : (w.setCap k r).eq = w.eq := rfl
@[simp] theorem setCap_recd (w : Work) (k : Nat) (r : Option CapRec) : (w.setCap k r).recd = w.recd := rfl
@[simp] theorem setCap_net (w : Work) (k : Nat) (r : Option CapRec) : (w.setCap k r).net = w.net := rfl
@[simp] theorem setCap_hearth (w : Work) (k : Nat) (r : Option CapRec) : (w.setCap k r).hearth = w.hearth := rfl
@[simp] theorem setCap_twin (w : Work) (k : Nat) (r : Option CapRec) : (w.setCap k r).twin = w.twin := rfl
@[simp] theorem setCap_chop (w : Work) (k : Nat) (r : Option CapRec) : (w.setCap k r).chop = w.chop := rfl
@[simp] theorem setCap_kin (w : Work) (k : Nat) (r : Option CapRec) : (w.setCap k r).kin = w.kin := rfl
@[simp] theorem setCap_ember (w : Work) (k : Nat) (r : Option CapRec) : (w.setCap k r).ember = w.ember := rfl
@[simp] theorem setCap_therm (w : Work) (k : Nat) (r : Option CapRec) : (w.setCap k r).therm = w.therm := rfl
@[simp] theorem setCap_sec (w : Work) (k : Nat) (r : Option CapRec) : (w.setCap k r).sec = w.sec := rfl
@[simp] theorem setCap_swap (w : Work) (k : Nat) (r : Option CapRec) : (w.setCap k r).swap = w.swap := rfl
@[simp] theorem setCap_shut (w : Work) (k : Nat) (r : Option CapRec) : (w.setCap k r).shut = w.shut := rfl
@[simp] theorem setCap_held (w : Work) (k : Nat) (r : Option CapRec) : (w.setCap k r).held = w.held := rfl
@[simp] theorem setCap_out (w : Work) (k : Nat) (r : Option CapRec) : (w.setCap k r).out = w.out := rfl
@[simp] theorem setCap_freeCtr (w : Work) (k : Nat) (r : Option CapRec) : (w.setCap k r).freeCtr = w.freeCtr := rfl
@[simp] theorem setCap_now (w : Work) (k : Nat) (r : Option CapRec) : (w.setCap k r).now = w.now := rfl
@[simp] theorem setCap_up (w : Work) (k : Nat) (r : Option CapRec) : (w.setCap k r).up = w.up := rfl
@[simp] theorem setCap_inc (w : Work) (k : Nat) (r : Option CapRec) : (w.setCap k r).inc = w.inc := rfl

@[simp] theorem modEthRx_regs (w : Work) (p : Nat) (f : List PtpTs → List PtpTs) : (w.modEthRx p f).regs = w.regs := rfl
@[simp] theorem modEthRx_shadow (w : Work) (p : Nat) (f : List PtpTs → List PtpTs) : (w.modEthRx p f).shadow = w.shadow := rfl
@[simp] theorem modEthRx_latched (w : Work) (p : Nat) (f : List PtpTs → List PtpTs) : (w.modEthRx p f).latched = w.latched := rfl
@[simp] theorem modEthRx_dram (w : Work) (p : Nat) (f : List PtpTs → List PtpTs) : (w.modEthRx p f).dram = w.dram := rfl
@[simp] theorem modEthRx_sram (w : Work) (p : Nat) (f : List PtpTs → List PtpTs) : (w.modEthRx p f).sram = w.sram := rfl
@[simp] theorem modEthRx_bad (w : Work) (p : Nat) (f : List PtpTs → List PtpTs) : (w.modEthRx p f).bad = w.bad := rfl
@[simp] theorem modEthRx_rgn (w : Work) (p : Nat) (f : List PtpTs → List PtpTs) : (w.modEthRx p f).rgn = w.rgn := rfl
@[simp] theorem modEthRx_clu (w : Work) (p : Nat) (f : List PtpTs → List PtpTs) : (w.modEthRx p f).clu = w.clu := rfl
@[simp] theorem modEthRx_unit (w : Work) (p : Nat) (f : List PtpTs → List PtpTs) : (w.modEthRx p f).unit = w.unit := rfl
@[simp] theorem modEthRx_lane (w : Work) (p : Nat) (f : List PtpTs → List PtpTs) : (w.modEthRx p f).lane = w.lane := rfl
@[simp] theorem modEthRx_sl (w : Work) (p : Nat) (f : List PtpTs → List PtpTs) : (w.modEthRx p f).sl = w.sl := rfl
@[simp] theorem modEthRx_adc (w : Work) (p : Nat) (f : List PtpTs → List PtpTs) : (w.modEthRx p f).adc = w.adc := rfl
@[simp] theorem modEthRx_ain (w : Work) (p : Nat) (f : List PtpTs → List PtpTs) : (w.modEthRx p f).ain = w.ain := rfl
@[simp] theorem modEthRx_cap (w : Work) (p : Nat) (f : List PtpTs → List PtpTs) : (w.modEthRx p f).cap = w.cap := rfl
@[simp] theorem modEthRx_tout (w : Work) (p : Nat) (f : List PtpTs → List PtpTs) : (w.modEthRx p f).tout = w.tout := rfl
@[simp] theorem modEthRx_ethRx (w : Work) (p : Nat) (f : List PtpTs → List PtpTs) : (w.modEthRx p f).ethRx = vmod w.ethRx p f := rfl
@[simp] theorem modEthRx_ethTx (w : Work) (p : Nat) (f : List PtpTs → List PtpTs) : (w.modEthRx p f).ethTx = w.ethTx := rfl
@[simp] theorem modEthRx_flue (w : Work) (p : Nat) (f : List PtpTs → List PtpTs) : (w.modEthRx p f).flue = w.flue := rfl
@[simp] theorem modEthRx_lines (w : Work) (p : Nat) (f : List PtpTs → List PtpTs) : (w.modEthRx p f).lines = w.lines := rfl
@[simp] theorem modEthRx_events (w : Work) (p : Nat) (f : List PtpTs → List PtpTs) : (w.modEthRx p f).events = w.events := rfl
@[simp] theorem modEthRx_eq (w : Work) (p : Nat) (f : List PtpTs → List PtpTs) : (w.modEthRx p f).eq = w.eq := rfl
@[simp] theorem modEthRx_recd (w : Work) (p : Nat) (f : List PtpTs → List PtpTs) : (w.modEthRx p f).recd = w.recd := rfl
@[simp] theorem modEthRx_net (w : Work) (p : Nat) (f : List PtpTs → List PtpTs) : (w.modEthRx p f).net = w.net := rfl
@[simp] theorem modEthRx_hearth (w : Work) (p : Nat) (f : List PtpTs → List PtpTs) : (w.modEthRx p f).hearth = w.hearth := rfl
@[simp] theorem modEthRx_twin (w : Work) (p : Nat) (f : List PtpTs → List PtpTs) : (w.modEthRx p f).twin = w.twin := rfl
@[simp] theorem modEthRx_chop (w : Work) (p : Nat) (f : List PtpTs → List PtpTs) : (w.modEthRx p f).chop = w.chop := rfl
@[simp] theorem modEthRx_kin (w : Work) (p : Nat) (f : List PtpTs → List PtpTs) : (w.modEthRx p f).kin = w.kin := rfl
@[simp] theorem modEthRx_ember (w : Work) (p : Nat) (f : List PtpTs → List PtpTs) : (w.modEthRx p f).ember = w.ember := rfl
@[simp] theorem modEthRx_therm (w : Work) (p : Nat) (f : List PtpTs → List PtpTs) : (w.modEthRx p f).therm = w.therm := rfl
@[simp] theorem modEthRx_sec (w : Work) (p : Nat) (f : List PtpTs → List PtpTs) : (w.modEthRx p f).sec = w.sec := rfl
@[simp] theorem modEthRx_swap (w : Work) (p : Nat) (f : List PtpTs → List PtpTs) : (w.modEthRx p f).swap = w.swap := rfl
@[simp] theorem modEthRx_shut (w : Work) (p : Nat) (f : List PtpTs → List PtpTs) : (w.modEthRx p f).shut = w.shut := rfl
@[simp] theorem modEthRx_held (w : Work) (p : Nat) (f : List PtpTs → List PtpTs) : (w.modEthRx p f).held = w.held := rfl
@[simp] theorem modEthRx_out (w : Work) (p : Nat) (f : List PtpTs → List PtpTs) : (w.modEthRx p f).out = w.out := rfl
@[simp] theorem modEthRx_freeCtr (w : Work) (p : Nat) (f : List PtpTs → List PtpTs) : (w.modEthRx p f).freeCtr = w.freeCtr := rfl
@[simp] theorem modEthRx_now (w : Work) (p : Nat) (f : List PtpTs → List PtpTs) : (w.modEthRx p f).now = w.now := rfl
@[simp] theorem modEthRx_up (w : Work) (p : Nat) (f : List PtpTs → List PtpTs) : (w.modEthRx p f).up = w.up := rfl
@[simp] theorem modEthRx_inc (w : Work) (p : Nat) (f : List PtpTs → List PtpTs) : (w.modEthRx p f).inc = w.inc := rfl

@[simp] theorem modEthTx_regs (w : Work) (p : Nat) (f : List PtpTs → List PtpTs) : (w.modEthTx p f).regs = w.regs := rfl
@[simp] theorem modEthTx_shadow (w : Work) (p : Nat) (f : List PtpTs → List PtpTs) : (w.modEthTx p f).shadow = w.shadow := rfl
@[simp] theorem modEthTx_latched (w : Work) (p : Nat) (f : List PtpTs → List PtpTs) : (w.modEthTx p f).latched = w.latched := rfl
@[simp] theorem modEthTx_dram (w : Work) (p : Nat) (f : List PtpTs → List PtpTs) : (w.modEthTx p f).dram = w.dram := rfl
@[simp] theorem modEthTx_sram (w : Work) (p : Nat) (f : List PtpTs → List PtpTs) : (w.modEthTx p f).sram = w.sram := rfl
@[simp] theorem modEthTx_bad (w : Work) (p : Nat) (f : List PtpTs → List PtpTs) : (w.modEthTx p f).bad = w.bad := rfl
@[simp] theorem modEthTx_rgn (w : Work) (p : Nat) (f : List PtpTs → List PtpTs) : (w.modEthTx p f).rgn = w.rgn := rfl
@[simp] theorem modEthTx_clu (w : Work) (p : Nat) (f : List PtpTs → List PtpTs) : (w.modEthTx p f).clu = w.clu := rfl
@[simp] theorem modEthTx_unit (w : Work) (p : Nat) (f : List PtpTs → List PtpTs) : (w.modEthTx p f).unit = w.unit := rfl
@[simp] theorem modEthTx_lane (w : Work) (p : Nat) (f : List PtpTs → List PtpTs) : (w.modEthTx p f).lane = w.lane := rfl
@[simp] theorem modEthTx_sl (w : Work) (p : Nat) (f : List PtpTs → List PtpTs) : (w.modEthTx p f).sl = w.sl := rfl
@[simp] theorem modEthTx_adc (w : Work) (p : Nat) (f : List PtpTs → List PtpTs) : (w.modEthTx p f).adc = w.adc := rfl
@[simp] theorem modEthTx_ain (w : Work) (p : Nat) (f : List PtpTs → List PtpTs) : (w.modEthTx p f).ain = w.ain := rfl
@[simp] theorem modEthTx_cap (w : Work) (p : Nat) (f : List PtpTs → List PtpTs) : (w.modEthTx p f).cap = w.cap := rfl
@[simp] theorem modEthTx_tout (w : Work) (p : Nat) (f : List PtpTs → List PtpTs) : (w.modEthTx p f).tout = w.tout := rfl
@[simp] theorem modEthTx_ethRx (w : Work) (p : Nat) (f : List PtpTs → List PtpTs) : (w.modEthTx p f).ethRx = w.ethRx := rfl
@[simp] theorem modEthTx_ethTx (w : Work) (p : Nat) (f : List PtpTs → List PtpTs) : (w.modEthTx p f).ethTx = vmod w.ethTx p f := rfl
@[simp] theorem modEthTx_flue (w : Work) (p : Nat) (f : List PtpTs → List PtpTs) : (w.modEthTx p f).flue = w.flue := rfl
@[simp] theorem modEthTx_lines (w : Work) (p : Nat) (f : List PtpTs → List PtpTs) : (w.modEthTx p f).lines = w.lines := rfl
@[simp] theorem modEthTx_events (w : Work) (p : Nat) (f : List PtpTs → List PtpTs) : (w.modEthTx p f).events = w.events := rfl
@[simp] theorem modEthTx_eq (w : Work) (p : Nat) (f : List PtpTs → List PtpTs) : (w.modEthTx p f).eq = w.eq := rfl
@[simp] theorem modEthTx_recd (w : Work) (p : Nat) (f : List PtpTs → List PtpTs) : (w.modEthTx p f).recd = w.recd := rfl
@[simp] theorem modEthTx_net (w : Work) (p : Nat) (f : List PtpTs → List PtpTs) : (w.modEthTx p f).net = w.net := rfl
@[simp] theorem modEthTx_hearth (w : Work) (p : Nat) (f : List PtpTs → List PtpTs) : (w.modEthTx p f).hearth = w.hearth := rfl
@[simp] theorem modEthTx_twin (w : Work) (p : Nat) (f : List PtpTs → List PtpTs) : (w.modEthTx p f).twin = w.twin := rfl
@[simp] theorem modEthTx_chop (w : Work) (p : Nat) (f : List PtpTs → List PtpTs) : (w.modEthTx p f).chop = w.chop := rfl
@[simp] theorem modEthTx_kin (w : Work) (p : Nat) (f : List PtpTs → List PtpTs) : (w.modEthTx p f).kin = w.kin := rfl
@[simp] theorem modEthTx_ember (w : Work) (p : Nat) (f : List PtpTs → List PtpTs) : (w.modEthTx p f).ember = w.ember := rfl
@[simp] theorem modEthTx_therm (w : Work) (p : Nat) (f : List PtpTs → List PtpTs) : (w.modEthTx p f).therm = w.therm := rfl
@[simp] theorem modEthTx_sec (w : Work) (p : Nat) (f : List PtpTs → List PtpTs) : (w.modEthTx p f).sec = w.sec := rfl
@[simp] theorem modEthTx_swap (w : Work) (p : Nat) (f : List PtpTs → List PtpTs) : (w.modEthTx p f).swap = w.swap := rfl
@[simp] theorem modEthTx_shut (w : Work) (p : Nat) (f : List PtpTs → List PtpTs) : (w.modEthTx p f).shut = w.shut := rfl
@[simp] theorem modEthTx_held (w : Work) (p : Nat) (f : List PtpTs → List PtpTs) : (w.modEthTx p f).held = w.held := rfl
@[simp] theorem modEthTx_out (w : Work) (p : Nat) (f : List PtpTs → List PtpTs) : (w.modEthTx p f).out = w.out := rfl
@[simp] theorem modEthTx_freeCtr (w : Work) (p : Nat) (f : List PtpTs → List PtpTs) : (w.modEthTx p f).freeCtr = w.freeCtr := rfl
@[simp] theorem modEthTx_now (w : Work) (p : Nat) (f : List PtpTs → List PtpTs) : (w.modEthTx p f).now = w.now := rfl
@[simp] theorem modEthTx_up (w : Work) (p : Nat) (f : List PtpTs → List PtpTs) : (w.modEthTx p f).up = w.up := rfl
@[simp] theorem modEthTx_inc (w : Work) (p : Nat) (f : List PtpTs → List PtpTs) : (w.modEthTx p f).inc = w.inc := rfl

@[simp] theorem modQ_regs (w : Work) (q : Nat) (f : EqQ → EqQ) : (w.modQ q f).regs = w.regs := rfl
@[simp] theorem modQ_shadow (w : Work) (q : Nat) (f : EqQ → EqQ) : (w.modQ q f).shadow = w.shadow := rfl
@[simp] theorem modQ_latched (w : Work) (q : Nat) (f : EqQ → EqQ) : (w.modQ q f).latched = w.latched := rfl
@[simp] theorem modQ_dram (w : Work) (q : Nat) (f : EqQ → EqQ) : (w.modQ q f).dram = w.dram := rfl
@[simp] theorem modQ_sram (w : Work) (q : Nat) (f : EqQ → EqQ) : (w.modQ q f).sram = w.sram := rfl
@[simp] theorem modQ_bad (w : Work) (q : Nat) (f : EqQ → EqQ) : (w.modQ q f).bad = w.bad := rfl
@[simp] theorem modQ_rgn (w : Work) (q : Nat) (f : EqQ → EqQ) : (w.modQ q f).rgn = w.rgn := rfl
@[simp] theorem modQ_clu (w : Work) (q : Nat) (f : EqQ → EqQ) : (w.modQ q f).clu = w.clu := rfl
@[simp] theorem modQ_unit (w : Work) (q : Nat) (f : EqQ → EqQ) : (w.modQ q f).unit = w.unit := rfl
@[simp] theorem modQ_lane (w : Work) (q : Nat) (f : EqQ → EqQ) : (w.modQ q f).lane = w.lane := rfl
@[simp] theorem modQ_sl (w : Work) (q : Nat) (f : EqQ → EqQ) : (w.modQ q f).sl = w.sl := rfl
@[simp] theorem modQ_adc (w : Work) (q : Nat) (f : EqQ → EqQ) : (w.modQ q f).adc = w.adc := rfl
@[simp] theorem modQ_ain (w : Work) (q : Nat) (f : EqQ → EqQ) : (w.modQ q f).ain = w.ain := rfl
@[simp] theorem modQ_cap (w : Work) (q : Nat) (f : EqQ → EqQ) : (w.modQ q f).cap = w.cap := rfl
@[simp] theorem modQ_tout (w : Work) (q : Nat) (f : EqQ → EqQ) : (w.modQ q f).tout = w.tout := rfl
@[simp] theorem modQ_ethRx (w : Work) (q : Nat) (f : EqQ → EqQ) : (w.modQ q f).ethRx = w.ethRx := rfl
@[simp] theorem modQ_ethTx (w : Work) (q : Nat) (f : EqQ → EqQ) : (w.modQ q f).ethTx = w.ethTx := rfl
@[simp] theorem modQ_flue (w : Work) (q : Nat) (f : EqQ → EqQ) : (w.modQ q f).flue = w.flue := rfl
@[simp] theorem modQ_lines (w : Work) (q : Nat) (f : EqQ → EqQ) : (w.modQ q f).lines = w.lines := rfl
@[simp] theorem modQ_events (w : Work) (q : Nat) (f : EqQ → EqQ) : (w.modQ q f).events = w.events := rfl
@[simp] theorem modQ_eq (w : Work) (q : Nat) (f : EqQ → EqQ) : (w.modQ q f).eq = vmod w.eq q f := rfl
@[simp] theorem modQ_recd (w : Work) (q : Nat) (f : EqQ → EqQ) : (w.modQ q f).recd = w.recd := rfl
@[simp] theorem modQ_net (w : Work) (q : Nat) (f : EqQ → EqQ) : (w.modQ q f).net = w.net := rfl
@[simp] theorem modQ_hearth (w : Work) (q : Nat) (f : EqQ → EqQ) : (w.modQ q f).hearth = w.hearth := rfl
@[simp] theorem modQ_twin (w : Work) (q : Nat) (f : EqQ → EqQ) : (w.modQ q f).twin = w.twin := rfl
@[simp] theorem modQ_chop (w : Work) (q : Nat) (f : EqQ → EqQ) : (w.modQ q f).chop = w.chop := rfl
@[simp] theorem modQ_kin (w : Work) (q : Nat) (f : EqQ → EqQ) : (w.modQ q f).kin = w.kin := rfl
@[simp] theorem modQ_ember (w : Work) (q : Nat) (f : EqQ → EqQ) : (w.modQ q f).ember = w.ember := rfl
@[simp] theorem modQ_therm (w : Work) (q : Nat) (f : EqQ → EqQ) : (w.modQ q f).therm = w.therm := rfl
@[simp] theorem modQ_sec (w : Work) (q : Nat) (f : EqQ → EqQ) : (w.modQ q f).sec = w.sec := rfl
@[simp] theorem modQ_swap (w : Work) (q : Nat) (f : EqQ → EqQ) : (w.modQ q f).swap = w.swap := rfl
@[simp] theorem modQ_shut (w : Work) (q : Nat) (f : EqQ → EqQ) : (w.modQ q f).shut = w.shut := rfl
@[simp] theorem modQ_held (w : Work) (q : Nat) (f : EqQ → EqQ) : (w.modQ q f).held = w.held := rfl
@[simp] theorem modQ_out (w : Work) (q : Nat) (f : EqQ → EqQ) : (w.modQ q f).out = w.out := rfl
@[simp] theorem modQ_freeCtr (w : Work) (q : Nat) (f : EqQ → EqQ) : (w.modQ q f).freeCtr = w.freeCtr := rfl
@[simp] theorem modQ_now (w : Work) (q : Nat) (f : EqQ → EqQ) : (w.modQ q f).now = w.now := rfl
@[simp] theorem modQ_up (w : Work) (q : Nat) (f : EqQ → EqQ) : (w.modQ q f).up = w.up := rfl
@[simp] theorem modQ_inc (w : Work) (q : Nat) (f : EqQ → EqQ) : (w.modQ q f).inc = w.inc := rfl

@[simp] theorem modRec_regs (w : Work) (f : RecSt → RecSt) : (w.modRec f).regs = w.regs := rfl
@[simp] theorem modRec_shadow (w : Work) (f : RecSt → RecSt) : (w.modRec f).shadow = w.shadow := rfl
@[simp] theorem modRec_latched (w : Work) (f : RecSt → RecSt) : (w.modRec f).latched = w.latched := rfl
@[simp] theorem modRec_dram (w : Work) (f : RecSt → RecSt) : (w.modRec f).dram = w.dram := rfl
@[simp] theorem modRec_sram (w : Work) (f : RecSt → RecSt) : (w.modRec f).sram = w.sram := rfl
@[simp] theorem modRec_bad (w : Work) (f : RecSt → RecSt) : (w.modRec f).bad = w.bad := rfl
@[simp] theorem modRec_rgn (w : Work) (f : RecSt → RecSt) : (w.modRec f).rgn = w.rgn := rfl
@[simp] theorem modRec_clu (w : Work) (f : RecSt → RecSt) : (w.modRec f).clu = w.clu := rfl
@[simp] theorem modRec_unit (w : Work) (f : RecSt → RecSt) : (w.modRec f).unit = w.unit := rfl
@[simp] theorem modRec_lane (w : Work) (f : RecSt → RecSt) : (w.modRec f).lane = w.lane := rfl
@[simp] theorem modRec_sl (w : Work) (f : RecSt → RecSt) : (w.modRec f).sl = w.sl := rfl
@[simp] theorem modRec_adc (w : Work) (f : RecSt → RecSt) : (w.modRec f).adc = w.adc := rfl
@[simp] theorem modRec_ain (w : Work) (f : RecSt → RecSt) : (w.modRec f).ain = w.ain := rfl
@[simp] theorem modRec_cap (w : Work) (f : RecSt → RecSt) : (w.modRec f).cap = w.cap := rfl
@[simp] theorem modRec_tout (w : Work) (f : RecSt → RecSt) : (w.modRec f).tout = w.tout := rfl
@[simp] theorem modRec_ethRx (w : Work) (f : RecSt → RecSt) : (w.modRec f).ethRx = w.ethRx := rfl
@[simp] theorem modRec_ethTx (w : Work) (f : RecSt → RecSt) : (w.modRec f).ethTx = w.ethTx := rfl
@[simp] theorem modRec_flue (w : Work) (f : RecSt → RecSt) : (w.modRec f).flue = w.flue := rfl
@[simp] theorem modRec_lines (w : Work) (f : RecSt → RecSt) : (w.modRec f).lines = w.lines := rfl
@[simp] theorem modRec_events (w : Work) (f : RecSt → RecSt) : (w.modRec f).events = w.events := rfl
@[simp] theorem modRec_eq (w : Work) (f : RecSt → RecSt) : (w.modRec f).eq = w.eq := rfl
@[simp] theorem modRec_recd (w : Work) (f : RecSt → RecSt) : (w.modRec f).recd = f w.recd := rfl
@[simp] theorem modRec_net (w : Work) (f : RecSt → RecSt) : (w.modRec f).net = w.net := rfl
@[simp] theorem modRec_hearth (w : Work) (f : RecSt → RecSt) : (w.modRec f).hearth = w.hearth := rfl
@[simp] theorem modRec_twin (w : Work) (f : RecSt → RecSt) : (w.modRec f).twin = w.twin := rfl
@[simp] theorem modRec_chop (w : Work) (f : RecSt → RecSt) : (w.modRec f).chop = w.chop := rfl
@[simp] theorem modRec_kin (w : Work) (f : RecSt → RecSt) : (w.modRec f).kin = w.kin := rfl
@[simp] theorem modRec_ember (w : Work) (f : RecSt → RecSt) : (w.modRec f).ember = w.ember := rfl
@[simp] theorem modRec_therm (w : Work) (f : RecSt → RecSt) : (w.modRec f).therm = w.therm := rfl
@[simp] theorem modRec_sec (w : Work) (f : RecSt → RecSt) : (w.modRec f).sec = w.sec := rfl
@[simp] theorem modRec_swap (w : Work) (f : RecSt → RecSt) : (w.modRec f).swap = w.swap := rfl
@[simp] theorem modRec_shut (w : Work) (f : RecSt → RecSt) : (w.modRec f).shut = w.shut := rfl
@[simp] theorem modRec_held (w : Work) (f : RecSt → RecSt) : (w.modRec f).held = w.held := rfl
@[simp] theorem modRec_out (w : Work) (f : RecSt → RecSt) : (w.modRec f).out = w.out := rfl
@[simp] theorem modRec_freeCtr (w : Work) (f : RecSt → RecSt) : (w.modRec f).freeCtr = w.freeCtr := rfl
@[simp] theorem modRec_now (w : Work) (f : RecSt → RecSt) : (w.modRec f).now = w.now := rfl
@[simp] theorem modRec_up (w : Work) (f : RecSt → RecSt) : (w.modRec f).up = w.up := rfl
@[simp] theorem modRec_inc (w : Work) (f : RecSt → RecSt) : (w.modRec f).inc = w.inc := rfl

@[simp] theorem latch_regs (w : Work) (a : Nat) : (w.latch a).regs = w.regs := rfl
@[simp] theorem latch_shadow (w : Work) (a : Nat) : (w.latch a).shadow = w.shadow := rfl
@[simp] theorem latch_latched (w : Work) (a : Nat) : (w.latch a).latched = cellsPut resetWord w.latched a (w.word a) := rfl
@[simp] theorem latch_dram (w : Work) (a : Nat) : (w.latch a).dram = w.dram := rfl
@[simp] theorem latch_sram (w : Work) (a : Nat) : (w.latch a).sram = w.sram := rfl
@[simp] theorem latch_bad (w : Work) (a : Nat) : (w.latch a).bad = w.bad := rfl
@[simp] theorem latch_rgn (w : Work) (a : Nat) : (w.latch a).rgn = w.rgn := rfl
@[simp] theorem latch_clu (w : Work) (a : Nat) : (w.latch a).clu = w.clu := rfl
@[simp] theorem latch_unit (w : Work) (a : Nat) : (w.latch a).unit = w.unit := rfl
@[simp] theorem latch_lane (w : Work) (a : Nat) : (w.latch a).lane = w.lane := rfl
@[simp] theorem latch_sl (w : Work) (a : Nat) : (w.latch a).sl = w.sl := rfl
@[simp] theorem latch_adc (w : Work) (a : Nat) : (w.latch a).adc = w.adc := rfl
@[simp] theorem latch_ain (w : Work) (a : Nat) : (w.latch a).ain = w.ain := rfl
@[simp] theorem latch_cap (w : Work) (a : Nat) : (w.latch a).cap = w.cap := rfl
@[simp] theorem latch_tout (w : Work) (a : Nat) : (w.latch a).tout = w.tout := rfl
@[simp] theorem latch_ethRx (w : Work) (a : Nat) : (w.latch a).ethRx = w.ethRx := rfl
@[simp] theorem latch_ethTx (w : Work) (a : Nat) : (w.latch a).ethTx = w.ethTx := rfl
@[simp] theorem latch_flue (w : Work) (a : Nat) : (w.latch a).flue = w.flue := rfl
@[simp] theorem latch_lines (w : Work) (a : Nat) : (w.latch a).lines = w.lines := rfl
@[simp] theorem latch_events (w : Work) (a : Nat) : (w.latch a).events = w.events := rfl
@[simp] theorem latch_eq (w : Work) (a : Nat) : (w.latch a).eq = w.eq := rfl
@[simp] theorem latch_recd (w : Work) (a : Nat) : (w.latch a).recd = w.recd := rfl
@[simp] theorem latch_net (w : Work) (a : Nat) : (w.latch a).net = w.net := rfl
@[simp] theorem latch_hearth (w : Work) (a : Nat) : (w.latch a).hearth = w.hearth := rfl
@[simp] theorem latch_twin (w : Work) (a : Nat) : (w.latch a).twin = w.twin := rfl
@[simp] theorem latch_chop (w : Work) (a : Nat) : (w.latch a).chop = w.chop := rfl
@[simp] theorem latch_kin (w : Work) (a : Nat) : (w.latch a).kin = w.kin := rfl
@[simp] theorem latch_ember (w : Work) (a : Nat) : (w.latch a).ember = w.ember := rfl
@[simp] theorem latch_therm (w : Work) (a : Nat) : (w.latch a).therm = w.therm := rfl
@[simp] theorem latch_sec (w : Work) (a : Nat) : (w.latch a).sec = w.sec := rfl
@[simp] theorem latch_swap (w : Work) (a : Nat) : (w.latch a).swap = w.swap := rfl
@[simp] theorem latch_shut (w : Work) (a : Nat) : (w.latch a).shut = w.shut := rfl
@[simp] theorem latch_held (w : Work) (a : Nat) : (w.latch a).held = w.held := rfl
@[simp] theorem latch_out (w : Work) (a : Nat) : (w.latch a).out = w.out := rfl
@[simp] theorem latch_freeCtr (w : Work) (a : Nat) : (w.latch a).freeCtr = w.freeCtr := rfl
@[simp] theorem latch_now (w : Work) (a : Nat) : (w.latch a).now = w.now := rfl
@[simp] theorem latch_up (w : Work) (a : Nat) : (w.latch a).up = w.up := rfl
@[simp] theorem latch_inc (w : Work) (a : Nat) : (w.latch a).inc = w.inc := rfl

@[simp] theorem dropRegs_regs (w : Work) (p : Nat → Bool) : (w.dropRegs p).regs = cellsDrop p w.regs := rfl
@[simp] theorem dropRegs_shadow (w : Work) (p : Nat → Bool) : (w.dropRegs p).shadow = w.shadow := rfl
@[simp] theorem dropRegs_latched (w : Work) (p : Nat → Bool) : (w.dropRegs p).latched = w.latched := rfl
@[simp] theorem dropRegs_dram (w : Work) (p : Nat → Bool) : (w.dropRegs p).dram = w.dram := rfl
@[simp] theorem dropRegs_sram (w : Work) (p : Nat → Bool) : (w.dropRegs p).sram = w.sram := rfl
@[simp] theorem dropRegs_bad (w : Work) (p : Nat → Bool) : (w.dropRegs p).bad = w.bad := rfl
@[simp] theorem dropRegs_rgn (w : Work) (p : Nat → Bool) : (w.dropRegs p).rgn = w.rgn := rfl
@[simp] theorem dropRegs_clu (w : Work) (p : Nat → Bool) : (w.dropRegs p).clu = w.clu := rfl
@[simp] theorem dropRegs_unit (w : Work) (p : Nat → Bool) : (w.dropRegs p).unit = w.unit := rfl
@[simp] theorem dropRegs_lane (w : Work) (p : Nat → Bool) : (w.dropRegs p).lane = w.lane := rfl
@[simp] theorem dropRegs_sl (w : Work) (p : Nat → Bool) : (w.dropRegs p).sl = w.sl := rfl
@[simp] theorem dropRegs_adc (w : Work) (p : Nat → Bool) : (w.dropRegs p).adc = w.adc := rfl
@[simp] theorem dropRegs_ain (w : Work) (p : Nat → Bool) : (w.dropRegs p).ain = w.ain := rfl
@[simp] theorem dropRegs_cap (w : Work) (p : Nat → Bool) : (w.dropRegs p).cap = w.cap := rfl
@[simp] theorem dropRegs_tout (w : Work) (p : Nat → Bool) : (w.dropRegs p).tout = w.tout := rfl
@[simp] theorem dropRegs_ethRx (w : Work) (p : Nat → Bool) : (w.dropRegs p).ethRx = w.ethRx := rfl
@[simp] theorem dropRegs_ethTx (w : Work) (p : Nat → Bool) : (w.dropRegs p).ethTx = w.ethTx := rfl
@[simp] theorem dropRegs_flue (w : Work) (p : Nat → Bool) : (w.dropRegs p).flue = w.flue := rfl
@[simp] theorem dropRegs_lines (w : Work) (p : Nat → Bool) : (w.dropRegs p).lines = w.lines := rfl
@[simp] theorem dropRegs_events (w : Work) (p : Nat → Bool) : (w.dropRegs p).events = w.events := rfl
@[simp] theorem dropRegs_eq (w : Work) (p : Nat → Bool) : (w.dropRegs p).eq = w.eq := rfl
@[simp] theorem dropRegs_recd (w : Work) (p : Nat → Bool) : (w.dropRegs p).recd = w.recd := rfl
@[simp] theorem dropRegs_net (w : Work) (p : Nat → Bool) : (w.dropRegs p).net = w.net := rfl
@[simp] theorem dropRegs_hearth (w : Work) (p : Nat → Bool) : (w.dropRegs p).hearth = w.hearth := rfl
@[simp] theorem dropRegs_twin (w : Work) (p : Nat → Bool) : (w.dropRegs p).twin = w.twin := rfl
@[simp] theorem dropRegs_chop (w : Work) (p : Nat → Bool) : (w.dropRegs p).chop = w.chop := rfl
@[simp] theorem dropRegs_kin (w : Work) (p : Nat → Bool) : (w.dropRegs p).kin = w.kin := rfl
@[simp] theorem dropRegs_ember (w : Work) (p : Nat → Bool) : (w.dropRegs p).ember = w.ember := rfl
@[simp] theorem dropRegs_therm (w : Work) (p : Nat → Bool) : (w.dropRegs p).therm = w.therm := rfl
@[simp] theorem dropRegs_sec (w : Work) (p : Nat → Bool) : (w.dropRegs p).sec = w.sec := rfl
@[simp] theorem dropRegs_swap (w : Work) (p : Nat → Bool) : (w.dropRegs p).swap = w.swap := rfl
@[simp] theorem dropRegs_shut (w : Work) (p : Nat → Bool) : (w.dropRegs p).shut = w.shut := rfl
@[simp] theorem dropRegs_held (w : Work) (p : Nat → Bool) : (w.dropRegs p).held = w.held := rfl
@[simp] theorem dropRegs_out (w : Work) (p : Nat → Bool) : (w.dropRegs p).out = w.out := rfl
@[simp] theorem dropRegs_freeCtr (w : Work) (p : Nat → Bool) : (w.dropRegs p).freeCtr = w.freeCtr := rfl
@[simp] theorem dropRegs_now (w : Work) (p : Nat → Bool) : (w.dropRegs p).now = w.now := rfl
@[simp] theorem dropRegs_up (w : Work) (p : Nat → Bool) : (w.dropRegs p).up = w.up := rfl
@[simp] theorem dropRegs_inc (w : Work) (p : Nat → Bool) : (w.dropRegs p).inc = w.inc := rfl

@[simp] theorem dropShadow_regs (w : Work) (p : Nat → Bool) : (w.dropShadow p).regs = w.regs := rfl
@[simp] theorem dropShadow_shadow (w : Work) (p : Nat → Bool) : (w.dropShadow p).shadow = cellsDrop p w.shadow := rfl
@[simp] theorem dropShadow_latched (w : Work) (p : Nat → Bool) : (w.dropShadow p).latched = w.latched := rfl
@[simp] theorem dropShadow_dram (w : Work) (p : Nat → Bool) : (w.dropShadow p).dram = w.dram := rfl
@[simp] theorem dropShadow_sram (w : Work) (p : Nat → Bool) : (w.dropShadow p).sram = w.sram := rfl
@[simp] theorem dropShadow_bad (w : Work) (p : Nat → Bool) : (w.dropShadow p).bad = w.bad := rfl
@[simp] theorem dropShadow_rgn (w : Work) (p : Nat → Bool) : (w.dropShadow p).rgn = w.rgn := rfl
@[simp] theorem dropShadow_clu (w : Work) (p : Nat → Bool) : (w.dropShadow p).clu = w.clu := rfl
@[simp] theorem dropShadow_unit (w : Work) (p : Nat → Bool) : (w.dropShadow p).unit = w.unit := rfl
@[simp] theorem dropShadow_lane (w : Work) (p : Nat → Bool) : (w.dropShadow p).lane = w.lane := rfl
@[simp] theorem dropShadow_sl (w : Work) (p : Nat → Bool) : (w.dropShadow p).sl = w.sl := rfl
@[simp] theorem dropShadow_adc (w : Work) (p : Nat → Bool) : (w.dropShadow p).adc = w.adc := rfl
@[simp] theorem dropShadow_ain (w : Work) (p : Nat → Bool) : (w.dropShadow p).ain = w.ain := rfl
@[simp] theorem dropShadow_cap (w : Work) (p : Nat → Bool) : (w.dropShadow p).cap = w.cap := rfl
@[simp] theorem dropShadow_tout (w : Work) (p : Nat → Bool) : (w.dropShadow p).tout = w.tout := rfl
@[simp] theorem dropShadow_ethRx (w : Work) (p : Nat → Bool) : (w.dropShadow p).ethRx = w.ethRx := rfl
@[simp] theorem dropShadow_ethTx (w : Work) (p : Nat → Bool) : (w.dropShadow p).ethTx = w.ethTx := rfl
@[simp] theorem dropShadow_flue (w : Work) (p : Nat → Bool) : (w.dropShadow p).flue = w.flue := rfl
@[simp] theorem dropShadow_lines (w : Work) (p : Nat → Bool) : (w.dropShadow p).lines = w.lines := rfl
@[simp] theorem dropShadow_events (w : Work) (p : Nat → Bool) : (w.dropShadow p).events = w.events := rfl
@[simp] theorem dropShadow_eq (w : Work) (p : Nat → Bool) : (w.dropShadow p).eq = w.eq := rfl
@[simp] theorem dropShadow_recd (w : Work) (p : Nat → Bool) : (w.dropShadow p).recd = w.recd := rfl
@[simp] theorem dropShadow_net (w : Work) (p : Nat → Bool) : (w.dropShadow p).net = w.net := rfl
@[simp] theorem dropShadow_hearth (w : Work) (p : Nat → Bool) : (w.dropShadow p).hearth = w.hearth := rfl
@[simp] theorem dropShadow_twin (w : Work) (p : Nat → Bool) : (w.dropShadow p).twin = w.twin := rfl
@[simp] theorem dropShadow_chop (w : Work) (p : Nat → Bool) : (w.dropShadow p).chop = w.chop := rfl
@[simp] theorem dropShadow_kin (w : Work) (p : Nat → Bool) : (w.dropShadow p).kin = w.kin := rfl
@[simp] theorem dropShadow_ember (w : Work) (p : Nat → Bool) : (w.dropShadow p).ember = w.ember := rfl
@[simp] theorem dropShadow_therm (w : Work) (p : Nat → Bool) : (w.dropShadow p).therm = w.therm := rfl
@[simp] theorem dropShadow_sec (w : Work) (p : Nat → Bool) : (w.dropShadow p).sec = w.sec := rfl
@[simp] theorem dropShadow_swap (w : Work) (p : Nat → Bool) : (w.dropShadow p).swap = w.swap := rfl
@[simp] theorem dropShadow_shut (w : Work) (p : Nat → Bool) : (w.dropShadow p).shut = w.shut := rfl
@[simp] theorem dropShadow_held (w : Work) (p : Nat → Bool) : (w.dropShadow p).held = w.held := rfl
@[simp] theorem dropShadow_out (w : Work) (p : Nat → Bool) : (w.dropShadow p).out = w.out := rfl
@[simp] theorem dropShadow_freeCtr (w : Work) (p : Nat → Bool) : (w.dropShadow p).freeCtr = w.freeCtr := rfl
@[simp] theorem dropShadow_now (w : Work) (p : Nat → Bool) : (w.dropShadow p).now = w.now := rfl
@[simp] theorem dropShadow_up (w : Work) (p : Nat → Bool) : (w.dropShadow p).up = w.up := rfl
@[simp] theorem dropShadow_inc (w : Work) (p : Nat → Bool) : (w.dropShadow p).inc = w.inc := rfl

@[simp] theorem dropLatched_regs (w : Work) (p : Nat → Bool) : (w.dropLatched p).regs = w.regs := rfl
@[simp] theorem dropLatched_shadow (w : Work) (p : Nat → Bool) : (w.dropLatched p).shadow = w.shadow := rfl
@[simp] theorem dropLatched_latched (w : Work) (p : Nat → Bool) : (w.dropLatched p).latched = cellsDrop p w.latched := rfl
@[simp] theorem dropLatched_dram (w : Work) (p : Nat → Bool) : (w.dropLatched p).dram = w.dram := rfl
@[simp] theorem dropLatched_sram (w : Work) (p : Nat → Bool) : (w.dropLatched p).sram = w.sram := rfl
@[simp] theorem dropLatched_bad (w : Work) (p : Nat → Bool) : (w.dropLatched p).bad = w.bad := rfl
@[simp] theorem dropLatched_rgn (w : Work) (p : Nat → Bool) : (w.dropLatched p).rgn = w.rgn := rfl
@[simp] theorem dropLatched_clu (w : Work) (p : Nat → Bool) : (w.dropLatched p).clu = w.clu := rfl
@[simp] theorem dropLatched_unit (w : Work) (p : Nat → Bool) : (w.dropLatched p).unit = w.unit := rfl
@[simp] theorem dropLatched_lane (w : Work) (p : Nat → Bool) : (w.dropLatched p).lane = w.lane := rfl
@[simp] theorem dropLatched_sl (w : Work) (p : Nat → Bool) : (w.dropLatched p).sl = w.sl := rfl
@[simp] theorem dropLatched_adc (w : Work) (p : Nat → Bool) : (w.dropLatched p).adc = w.adc := rfl
@[simp] theorem dropLatched_ain (w : Work) (p : Nat → Bool) : (w.dropLatched p).ain = w.ain := rfl
@[simp] theorem dropLatched_cap (w : Work) (p : Nat → Bool) : (w.dropLatched p).cap = w.cap := rfl
@[simp] theorem dropLatched_tout (w : Work) (p : Nat → Bool) : (w.dropLatched p).tout = w.tout := rfl
@[simp] theorem dropLatched_ethRx (w : Work) (p : Nat → Bool) : (w.dropLatched p).ethRx = w.ethRx := rfl
@[simp] theorem dropLatched_ethTx (w : Work) (p : Nat → Bool) : (w.dropLatched p).ethTx = w.ethTx := rfl
@[simp] theorem dropLatched_flue (w : Work) (p : Nat → Bool) : (w.dropLatched p).flue = w.flue := rfl
@[simp] theorem dropLatched_lines (w : Work) (p : Nat → Bool) : (w.dropLatched p).lines = w.lines := rfl
@[simp] theorem dropLatched_events (w : Work) (p : Nat → Bool) : (w.dropLatched p).events = w.events := rfl
@[simp] theorem dropLatched_eq (w : Work) (p : Nat → Bool) : (w.dropLatched p).eq = w.eq := rfl
@[simp] theorem dropLatched_recd (w : Work) (p : Nat → Bool) : (w.dropLatched p).recd = w.recd := rfl
@[simp] theorem dropLatched_net (w : Work) (p : Nat → Bool) : (w.dropLatched p).net = w.net := rfl
@[simp] theorem dropLatched_hearth (w : Work) (p : Nat → Bool) : (w.dropLatched p).hearth = w.hearth := rfl
@[simp] theorem dropLatched_twin (w : Work) (p : Nat → Bool) : (w.dropLatched p).twin = w.twin := rfl
@[simp] theorem dropLatched_chop (w : Work) (p : Nat → Bool) : (w.dropLatched p).chop = w.chop := rfl
@[simp] theorem dropLatched_kin (w : Work) (p : Nat → Bool) : (w.dropLatched p).kin = w.kin := rfl
@[simp] theorem dropLatched_ember (w : Work) (p : Nat → Bool) : (w.dropLatched p).ember = w.ember := rfl
@[simp] theorem dropLatched_therm (w : Work) (p : Nat → Bool) : (w.dropLatched p).therm = w.therm := rfl
@[simp] theorem dropLatched_sec (w : Work) (p : Nat → Bool) : (w.dropLatched p).sec = w.sec := rfl
@[simp] theorem dropLatched_swap (w : Work) (p : Nat → Bool) : (w.dropLatched p).swap = w.swap := rfl
@[simp] theorem dropLatched_shut (w : Work) (p : Nat → Bool) : (w.dropLatched p).shut = w.shut := rfl
@[simp] theorem dropLatched_held (w : Work) (p : Nat → Bool) : (w.dropLatched p).held = w.held := rfl
@[simp] theorem dropLatched_out (w : Work) (p : Nat → Bool) : (w.dropLatched p).out = w.out := rfl
@[simp] theorem dropLatched_freeCtr (w : Work) (p : Nat → Bool) : (w.dropLatched p).freeCtr = w.freeCtr := rfl
@[simp] theorem dropLatched_now (w : Work) (p : Nat → Bool) : (w.dropLatched p).now = w.now := rfl
@[simp] theorem dropLatched_up (w : Work) (p : Nat → Bool) : (w.dropLatched p).up = w.up := rfl
@[simp] theorem dropLatched_inc (w : Work) (p : Nat → Bool) : (w.dropLatched p).inc = w.inc := rfl

@[simp] theorem useFree_regs (w : Work) (n : Nat) : (w.useFree n).regs = w.regs := rfl
@[simp] theorem useFree_shadow (w : Work) (n : Nat) : (w.useFree n).shadow = w.shadow := rfl
@[simp] theorem useFree_latched (w : Work) (n : Nat) : (w.useFree n).latched = w.latched := rfl
@[simp] theorem useFree_dram (w : Work) (n : Nat) : (w.useFree n).dram = w.dram := rfl
@[simp] theorem useFree_sram (w : Work) (n : Nat) : (w.useFree n).sram = w.sram := rfl
@[simp] theorem useFree_bad (w : Work) (n : Nat) : (w.useFree n).bad = w.bad := rfl
@[simp] theorem useFree_rgn (w : Work) (n : Nat) : (w.useFree n).rgn = w.rgn := rfl
@[simp] theorem useFree_clu (w : Work) (n : Nat) : (w.useFree n).clu = w.clu := rfl
@[simp] theorem useFree_unit (w : Work) (n : Nat) : (w.useFree n).unit = w.unit := rfl
@[simp] theorem useFree_lane (w : Work) (n : Nat) : (w.useFree n).lane = w.lane := rfl
@[simp] theorem useFree_sl (w : Work) (n : Nat) : (w.useFree n).sl = w.sl := rfl
@[simp] theorem useFree_adc (w : Work) (n : Nat) : (w.useFree n).adc = w.adc := rfl
@[simp] theorem useFree_ain (w : Work) (n : Nat) : (w.useFree n).ain = w.ain := rfl
@[simp] theorem useFree_cap (w : Work) (n : Nat) : (w.useFree n).cap = w.cap := rfl
@[simp] theorem useFree_tout (w : Work) (n : Nat) : (w.useFree n).tout = w.tout := rfl
@[simp] theorem useFree_ethRx (w : Work) (n : Nat) : (w.useFree n).ethRx = w.ethRx := rfl
@[simp] theorem useFree_ethTx (w : Work) (n : Nat) : (w.useFree n).ethTx = w.ethTx := rfl
@[simp] theorem useFree_flue (w : Work) (n : Nat) : (w.useFree n).flue = w.flue := rfl
@[simp] theorem useFree_lines (w : Work) (n : Nat) : (w.useFree n).lines = w.lines := rfl
@[simp] theorem useFree_events (w : Work) (n : Nat) : (w.useFree n).events = w.events := rfl
@[simp] theorem useFree_eq (w : Work) (n : Nat) : (w.useFree n).eq = w.eq := rfl
@[simp] theorem useFree_recd (w : Work) (n : Nat) : (w.useFree n).recd = w.recd := rfl
@[simp] theorem useFree_net (w : Work) (n : Nat) : (w.useFree n).net = w.net := rfl
@[simp] theorem useFree_hearth (w : Work) (n : Nat) : (w.useFree n).hearth = w.hearth := rfl
@[simp] theorem useFree_twin (w : Work) (n : Nat) : (w.useFree n).twin = w.twin := rfl
@[simp] theorem useFree_chop (w : Work) (n : Nat) : (w.useFree n).chop = w.chop := rfl
@[simp] theorem useFree_kin (w : Work) (n : Nat) : (w.useFree n).kin = w.kin := rfl
@[simp] theorem useFree_ember (w : Work) (n : Nat) : (w.useFree n).ember = w.ember := rfl
@[simp] theorem useFree_therm (w : Work) (n : Nat) : (w.useFree n).therm = w.therm := rfl
@[simp] theorem useFree_sec (w : Work) (n : Nat) : (w.useFree n).sec = w.sec := rfl
@[simp] theorem useFree_swap (w : Work) (n : Nat) : (w.useFree n).swap = w.swap := rfl
@[simp] theorem useFree_shut (w : Work) (n : Nat) : (w.useFree n).shut = w.shut := rfl
@[simp] theorem useFree_held (w : Work) (n : Nat) : (w.useFree n).held = w.held := rfl
@[simp] theorem useFree_out (w : Work) (n : Nat) : (w.useFree n).out = w.out := rfl
@[simp] theorem useFree_freeCtr (w : Work) (n : Nat) : (w.useFree n).freeCtr = w.freeCtr + n := rfl
@[simp] theorem useFree_now (w : Work) (n : Nat) : (w.useFree n).now = w.now := rfl
@[simp] theorem useFree_up (w : Work) (n : Nat) : (w.useFree n).up = w.up := rfl
@[simp] theorem useFree_inc (w : Work) (n : Nat) : (w.useFree n).inc = w.inc := rfl

@[simp] theorem markBad_regs (w : Work) (m k : Nat) : (w.markBad m k).regs = w.regs := rfl
@[simp] theorem markBad_shadow (w : Work) (m k : Nat) : (w.markBad m k).shadow = w.shadow := rfl
@[simp] theorem markBad_latched (w : Work) (m k : Nat) : (w.markBad m k).latched = w.latched := rfl
@[simp] theorem markBad_dram (w : Work) (m k : Nat) : (w.markBad m k).dram = w.dram := rfl
@[simp] theorem markBad_sram (w : Work) (m k : Nat) : (w.markBad m k).sram = w.sram := rfl
@[simp] theorem markBad_bad (w : Work) (m k : Nat) : (w.markBad m k).bad = if w.bad.contains (m, k) then w.bad else w.bad ++ [(m, k)] := rfl
@[simp] theorem markBad_rgn (w : Work) (m k : Nat) : (w.markBad m k).rgn = w.rgn := rfl
@[simp] theorem markBad_clu (w : Work) (m k : Nat) : (w.markBad m k).clu = w.clu := rfl
@[simp] theorem markBad_unit (w : Work) (m k : Nat) : (w.markBad m k).unit = w.unit := rfl
@[simp] theorem markBad_lane (w : Work) (m k : Nat) : (w.markBad m k).lane = w.lane := rfl
@[simp] theorem markBad_sl (w : Work) (m k : Nat) : (w.markBad m k).sl = w.sl := rfl
@[simp] theorem markBad_adc (w : Work) (m k : Nat) : (w.markBad m k).adc = w.adc := rfl
@[simp] theorem markBad_ain (w : Work) (m k : Nat) : (w.markBad m k).ain = w.ain := rfl
@[simp] theorem markBad_cap (w : Work) (m k : Nat) : (w.markBad m k).cap = w.cap := rfl
@[simp] theorem markBad_tout (w : Work) (m k : Nat) : (w.markBad m k).tout = w.tout := rfl
@[simp] theorem markBad_ethRx (w : Work) (m k : Nat) : (w.markBad m k).ethRx = w.ethRx := rfl
@[simp] theorem markBad_ethTx (w : Work) (m k : Nat) : (w.markBad m k).ethTx = w.ethTx := rfl
@[simp] theorem markBad_flue (w : Work) (m k : Nat) : (w.markBad m k).flue = w.flue := rfl
@[simp] theorem markBad_lines (w : Work) (m k : Nat) : (w.markBad m k).lines = w.lines := rfl
@[simp] theorem markBad_events (w : Work) (m k : Nat) : (w.markBad m k).events = w.events := rfl
@[simp] theorem markBad_eq (w : Work) (m k : Nat) : (w.markBad m k).eq = w.eq := rfl
@[simp] theorem markBad_recd (w : Work) (m k : Nat) : (w.markBad m k).recd = w.recd := rfl
@[simp] theorem markBad_net (w : Work) (m k : Nat) : (w.markBad m k).net = w.net := rfl
@[simp] theorem markBad_hearth (w : Work) (m k : Nat) : (w.markBad m k).hearth = w.hearth := rfl
@[simp] theorem markBad_twin (w : Work) (m k : Nat) : (w.markBad m k).twin = w.twin := rfl
@[simp] theorem markBad_chop (w : Work) (m k : Nat) : (w.markBad m k).chop = w.chop := rfl
@[simp] theorem markBad_kin (w : Work) (m k : Nat) : (w.markBad m k).kin = w.kin := rfl
@[simp] theorem markBad_ember (w : Work) (m k : Nat) : (w.markBad m k).ember = w.ember := rfl
@[simp] theorem markBad_therm (w : Work) (m k : Nat) : (w.markBad m k).therm = w.therm := rfl
@[simp] theorem markBad_sec (w : Work) (m k : Nat) : (w.markBad m k).sec = w.sec := rfl
@[simp] theorem markBad_swap (w : Work) (m k : Nat) : (w.markBad m k).swap = w.swap := rfl
@[simp] theorem markBad_shut (w : Work) (m k : Nat) : (w.markBad m k).shut = w.shut := rfl
@[simp] theorem markBad_held (w : Work) (m k : Nat) : (w.markBad m k).held = w.held := rfl
@[simp] theorem markBad_out (w : Work) (m k : Nat) : (w.markBad m k).out = w.out := rfl
@[simp] theorem markBad_freeCtr (w : Work) (m k : Nat) : (w.markBad m k).freeCtr = w.freeCtr := rfl
@[simp] theorem markBad_now (w : Work) (m k : Nat) : (w.markBad m k).now = w.now := rfl
@[simp] theorem markBad_up (w : Work) (m k : Nat) : (w.markBad m k).up = w.up := rfl
@[simp] theorem markBad_inc (w : Work) (m k : Nat) : (w.markBad m k).inc = w.inc := rfl

@[simp] theorem dramPut_regs (w : Work) (a : Nat) (bs : List Byte) : (w.dramPut a bs).regs = w.regs := rfl
@[simp] theorem dramPut_shadow (w : Work) (a : Nat) (bs : List Byte) : (w.dramPut a bs).shadow = w.shadow := rfl
@[simp] theorem dramPut_latched (w : Work) (a : Nat) (bs : List Byte) : (w.dramPut a bs).latched = w.latched := rfl
@[simp] theorem dramPut_dram (w : Work) (a : Nat) (bs : List Byte) : (w.dramPut a bs).dram = (bs.zipIdx a).foldl (fun m e => cellsPut byte0 m e.2 e.1) w.dram := rfl
@[simp] theorem dramPut_sram (w : Work) (a : Nat) (bs : List Byte) : (w.dramPut a bs).sram = w.sram := rfl
@[simp] theorem dramPut_bad (w : Work) (a : Nat) (bs : List Byte) : (w.dramPut a bs).bad = badLeft w.bad 6 a bs.length := rfl
@[simp] theorem dramPut_rgn (w : Work) (a : Nat) (bs : List Byte) : (w.dramPut a bs).rgn = w.rgn := rfl
@[simp] theorem dramPut_clu (w : Work) (a : Nat) (bs : List Byte) : (w.dramPut a bs).clu = w.clu := rfl
@[simp] theorem dramPut_unit (w : Work) (a : Nat) (bs : List Byte) : (w.dramPut a bs).unit = w.unit := rfl
@[simp] theorem dramPut_lane (w : Work) (a : Nat) (bs : List Byte) : (w.dramPut a bs).lane = w.lane := rfl
@[simp] theorem dramPut_sl (w : Work) (a : Nat) (bs : List Byte) : (w.dramPut a bs).sl = w.sl := rfl
@[simp] theorem dramPut_adc (w : Work) (a : Nat) (bs : List Byte) : (w.dramPut a bs).adc = w.adc := rfl
@[simp] theorem dramPut_ain (w : Work) (a : Nat) (bs : List Byte) : (w.dramPut a bs).ain = w.ain := rfl
@[simp] theorem dramPut_cap (w : Work) (a : Nat) (bs : List Byte) : (w.dramPut a bs).cap = w.cap := rfl
@[simp] theorem dramPut_tout (w : Work) (a : Nat) (bs : List Byte) : (w.dramPut a bs).tout = w.tout := rfl
@[simp] theorem dramPut_ethRx (w : Work) (a : Nat) (bs : List Byte) : (w.dramPut a bs).ethRx = w.ethRx := rfl
@[simp] theorem dramPut_ethTx (w : Work) (a : Nat) (bs : List Byte) : (w.dramPut a bs).ethTx = w.ethTx := rfl
@[simp] theorem dramPut_flue (w : Work) (a : Nat) (bs : List Byte) : (w.dramPut a bs).flue = w.flue := rfl
@[simp] theorem dramPut_lines (w : Work) (a : Nat) (bs : List Byte) : (w.dramPut a bs).lines = w.lines := rfl
@[simp] theorem dramPut_events (w : Work) (a : Nat) (bs : List Byte) : (w.dramPut a bs).events = w.events := rfl
@[simp] theorem dramPut_eq (w : Work) (a : Nat) (bs : List Byte) : (w.dramPut a bs).eq = w.eq := rfl
@[simp] theorem dramPut_recd (w : Work) (a : Nat) (bs : List Byte) : (w.dramPut a bs).recd = w.recd := rfl
@[simp] theorem dramPut_net (w : Work) (a : Nat) (bs : List Byte) : (w.dramPut a bs).net = w.net := rfl
@[simp] theorem dramPut_hearth (w : Work) (a : Nat) (bs : List Byte) : (w.dramPut a bs).hearth = w.hearth := rfl
@[simp] theorem dramPut_twin (w : Work) (a : Nat) (bs : List Byte) : (w.dramPut a bs).twin = w.twin := rfl
@[simp] theorem dramPut_chop (w : Work) (a : Nat) (bs : List Byte) : (w.dramPut a bs).chop = w.chop := rfl
@[simp] theorem dramPut_kin (w : Work) (a : Nat) (bs : List Byte) : (w.dramPut a bs).kin = w.kin := rfl
@[simp] theorem dramPut_ember (w : Work) (a : Nat) (bs : List Byte) : (w.dramPut a bs).ember = w.ember := rfl
@[simp] theorem dramPut_therm (w : Work) (a : Nat) (bs : List Byte) : (w.dramPut a bs).therm = w.therm := rfl
@[simp] theorem dramPut_sec (w : Work) (a : Nat) (bs : List Byte) : (w.dramPut a bs).sec = w.sec := rfl
@[simp] theorem dramPut_swap (w : Work) (a : Nat) (bs : List Byte) : (w.dramPut a bs).swap = w.swap := rfl
@[simp] theorem dramPut_shut (w : Work) (a : Nat) (bs : List Byte) : (w.dramPut a bs).shut = w.shut := rfl
@[simp] theorem dramPut_held (w : Work) (a : Nat) (bs : List Byte) : (w.dramPut a bs).held = w.held := rfl
@[simp] theorem dramPut_out (w : Work) (a : Nat) (bs : List Byte) : (w.dramPut a bs).out = w.out := rfl
@[simp] theorem dramPut_freeCtr (w : Work) (a : Nat) (bs : List Byte) : (w.dramPut a bs).freeCtr = w.freeCtr := rfl
@[simp] theorem dramPut_now (w : Work) (a : Nat) (bs : List Byte) : (w.dramPut a bs).now = w.now := rfl
@[simp] theorem dramPut_up (w : Work) (a : Nat) (bs : List Byte) : (w.dramPut a bs).up = w.up := rfl
@[simp] theorem dramPut_inc (w : Work) (a : Nat) (bs : List Byte) : (w.dramPut a bs).inc = w.inc := rfl

@[simp] theorem sramPut_regs (w : Work) (a : Nat) (ds : List Word) : (w.sramPut a ds).regs = w.regs := rfl
@[simp] theorem sramPut_shadow (w : Work) (a : Nat) (ds : List Word) : (w.sramPut a ds).shadow = w.shadow := rfl
@[simp] theorem sramPut_latched (w : Work) (a : Nat) (ds : List Word) : (w.sramPut a ds).latched = w.latched := rfl
@[simp] theorem sramPut_dram (w : Work) (a : Nat) (ds : List Word) : (w.sramPut a ds).dram = w.dram := rfl
@[simp] theorem sramPut_sram (w : Work) (a : Nat) (ds : List Word) : (w.sramPut a ds).sram = ((ds.flatMap wordBytes).zipIdx a).foldl (fun m e => cellsPut byte0 m e.2 e.1) w.sram := rfl
@[simp] theorem sramPut_bad (w : Work) (a : Nat) (ds : List Word) : (w.sramPut a ds).bad = badLeft w.bad 4 (a - hubSram) (4 * ds.length) := rfl
@[simp] theorem sramPut_rgn (w : Work) (a : Nat) (ds : List Word) : (w.sramPut a ds).rgn = w.rgn := rfl
@[simp] theorem sramPut_clu (w : Work) (a : Nat) (ds : List Word) : (w.sramPut a ds).clu = w.clu := rfl
@[simp] theorem sramPut_unit (w : Work) (a : Nat) (ds : List Word) : (w.sramPut a ds).unit = w.unit := rfl
@[simp] theorem sramPut_lane (w : Work) (a : Nat) (ds : List Word) : (w.sramPut a ds).lane = w.lane := rfl
@[simp] theorem sramPut_sl (w : Work) (a : Nat) (ds : List Word) : (w.sramPut a ds).sl = w.sl := rfl
@[simp] theorem sramPut_adc (w : Work) (a : Nat) (ds : List Word) : (w.sramPut a ds).adc = w.adc := rfl
@[simp] theorem sramPut_ain (w : Work) (a : Nat) (ds : List Word) : (w.sramPut a ds).ain = w.ain := rfl
@[simp] theorem sramPut_cap (w : Work) (a : Nat) (ds : List Word) : (w.sramPut a ds).cap = w.cap := rfl
@[simp] theorem sramPut_tout (w : Work) (a : Nat) (ds : List Word) : (w.sramPut a ds).tout = w.tout := rfl
@[simp] theorem sramPut_ethRx (w : Work) (a : Nat) (ds : List Word) : (w.sramPut a ds).ethRx = w.ethRx := rfl
@[simp] theorem sramPut_ethTx (w : Work) (a : Nat) (ds : List Word) : (w.sramPut a ds).ethTx = w.ethTx := rfl
@[simp] theorem sramPut_flue (w : Work) (a : Nat) (ds : List Word) : (w.sramPut a ds).flue = w.flue := rfl
@[simp] theorem sramPut_lines (w : Work) (a : Nat) (ds : List Word) : (w.sramPut a ds).lines = w.lines := rfl
@[simp] theorem sramPut_events (w : Work) (a : Nat) (ds : List Word) : (w.sramPut a ds).events = w.events := rfl
@[simp] theorem sramPut_eq (w : Work) (a : Nat) (ds : List Word) : (w.sramPut a ds).eq = w.eq := rfl
@[simp] theorem sramPut_recd (w : Work) (a : Nat) (ds : List Word) : (w.sramPut a ds).recd = w.recd := rfl
@[simp] theorem sramPut_net (w : Work) (a : Nat) (ds : List Word) : (w.sramPut a ds).net = w.net := rfl
@[simp] theorem sramPut_hearth (w : Work) (a : Nat) (ds : List Word) : (w.sramPut a ds).hearth = w.hearth := rfl
@[simp] theorem sramPut_twin (w : Work) (a : Nat) (ds : List Word) : (w.sramPut a ds).twin = w.twin := rfl
@[simp] theorem sramPut_chop (w : Work) (a : Nat) (ds : List Word) : (w.sramPut a ds).chop = w.chop := rfl
@[simp] theorem sramPut_kin (w : Work) (a : Nat) (ds : List Word) : (w.sramPut a ds).kin = w.kin := rfl
@[simp] theorem sramPut_ember (w : Work) (a : Nat) (ds : List Word) : (w.sramPut a ds).ember = w.ember := rfl
@[simp] theorem sramPut_therm (w : Work) (a : Nat) (ds : List Word) : (w.sramPut a ds).therm = w.therm := rfl
@[simp] theorem sramPut_sec (w : Work) (a : Nat) (ds : List Word) : (w.sramPut a ds).sec = w.sec := rfl
@[simp] theorem sramPut_swap (w : Work) (a : Nat) (ds : List Word) : (w.sramPut a ds).swap = w.swap := rfl
@[simp] theorem sramPut_shut (w : Work) (a : Nat) (ds : List Word) : (w.sramPut a ds).shut = w.shut := rfl
@[simp] theorem sramPut_held (w : Work) (a : Nat) (ds : List Word) : (w.sramPut a ds).held = w.held := rfl
@[simp] theorem sramPut_out (w : Work) (a : Nat) (ds : List Word) : (w.sramPut a ds).out = w.out := rfl
@[simp] theorem sramPut_freeCtr (w : Work) (a : Nat) (ds : List Word) : (w.sramPut a ds).freeCtr = w.freeCtr := rfl
@[simp] theorem sramPut_now (w : Work) (a : Nat) (ds : List Word) : (w.sramPut a ds).now = w.now := rfl
@[simp] theorem sramPut_up (w : Work) (a : Nat) (ds : List Word) : (w.sramPut a ds).up = w.up := rfl
@[simp] theorem sramPut_inc (w : Work) (a : Nat) (ds : List Word) : (w.sramPut a ds).inc = w.inc := rfl

@[simp] theorem hold_regs (w : Work) (c : Instr) : (w.hold c).regs = w.regs := rfl
@[simp] theorem hold_shadow (w : Work) (c : Instr) : (w.hold c).shadow = w.shadow := rfl
@[simp] theorem hold_latched (w : Work) (c : Instr) : (w.hold c).latched = w.latched := rfl
@[simp] theorem hold_dram (w : Work) (c : Instr) : (w.hold c).dram = w.dram := rfl
@[simp] theorem hold_sram (w : Work) (c : Instr) : (w.hold c).sram = w.sram := rfl
@[simp] theorem hold_bad (w : Work) (c : Instr) : (w.hold c).bad = w.bad := rfl
@[simp] theorem hold_rgn (w : Work) (c : Instr) : (w.hold c).rgn = w.rgn := rfl
@[simp] theorem hold_clu (w : Work) (c : Instr) : (w.hold c).clu = w.clu := rfl
@[simp] theorem hold_unit (w : Work) (c : Instr) : (w.hold c).unit = w.unit := rfl
@[simp] theorem hold_lane (w : Work) (c : Instr) : (w.hold c).lane = w.lane := rfl
@[simp] theorem hold_sl (w : Work) (c : Instr) : (w.hold c).sl = w.sl := rfl
@[simp] theorem hold_adc (w : Work) (c : Instr) : (w.hold c).adc = w.adc := rfl
@[simp] theorem hold_ain (w : Work) (c : Instr) : (w.hold c).ain = w.ain := rfl
@[simp] theorem hold_cap (w : Work) (c : Instr) : (w.hold c).cap = w.cap := rfl
@[simp] theorem hold_tout (w : Work) (c : Instr) : (w.hold c).tout = w.tout := rfl
@[simp] theorem hold_ethRx (w : Work) (c : Instr) : (w.hold c).ethRx = w.ethRx := rfl
@[simp] theorem hold_ethTx (w : Work) (c : Instr) : (w.hold c).ethTx = w.ethTx := rfl
@[simp] theorem hold_flue (w : Work) (c : Instr) : (w.hold c).flue = w.flue := rfl
@[simp] theorem hold_lines (w : Work) (c : Instr) : (w.hold c).lines = w.lines := rfl
@[simp] theorem hold_events (w : Work) (c : Instr) : (w.hold c).events = w.events := rfl
@[simp] theorem hold_eq (w : Work) (c : Instr) : (w.hold c).eq = w.eq := rfl
@[simp] theorem hold_recd (w : Work) (c : Instr) : (w.hold c).recd = w.recd := rfl
@[simp] theorem hold_net (w : Work) (c : Instr) : (w.hold c).net = w.net := rfl
@[simp] theorem hold_hearth (w : Work) (c : Instr) : (w.hold c).hearth = w.hearth := rfl
@[simp] theorem hold_twin (w : Work) (c : Instr) : (w.hold c).twin = w.twin := rfl
@[simp] theorem hold_chop (w : Work) (c : Instr) : (w.hold c).chop = w.chop := rfl
@[simp] theorem hold_kin (w : Work) (c : Instr) : (w.hold c).kin = w.kin := rfl
@[simp] theorem hold_ember (w : Work) (c : Instr) : (w.hold c).ember = w.ember := rfl
@[simp] theorem hold_therm (w : Work) (c : Instr) : (w.hold c).therm = w.therm := rfl
@[simp] theorem hold_sec (w : Work) (c : Instr) : (w.hold c).sec = w.sec := rfl
@[simp] theorem hold_swap (w : Work) (c : Instr) : (w.hold c).swap = w.swap := rfl
@[simp] theorem hold_shut (w : Work) (c : Instr) : (w.hold c).shut = w.shut := rfl
@[simp] theorem hold_held (w : Work) (c : Instr) : (w.hold c).held = w.held ++ [c] := rfl
@[simp] theorem hold_out (w : Work) (c : Instr) : (w.hold c).out = w.out := rfl
@[simp] theorem hold_freeCtr (w : Work) (c : Instr) : (w.hold c).freeCtr = w.freeCtr := rfl
@[simp] theorem hold_now (w : Work) (c : Instr) : (w.hold c).now = w.now := rfl
@[simp] theorem hold_up (w : Work) (c : Instr) : (w.hold c).up = w.up := rfl
@[simp] theorem hold_inc (w : Work) (c : Instr) : (w.hold c).inc = w.inc := rfl

@[simp] theorem setShut_regs (w : Work) (b : Bool) : (w.setShut b).regs = w.regs := rfl
@[simp] theorem setShut_shadow (w : Work) (b : Bool) : (w.setShut b).shadow = w.shadow := rfl
@[simp] theorem setShut_latched (w : Work) (b : Bool) : (w.setShut b).latched = w.latched := rfl
@[simp] theorem setShut_dram (w : Work) (b : Bool) : (w.setShut b).dram = w.dram := rfl
@[simp] theorem setShut_sram (w : Work) (b : Bool) : (w.setShut b).sram = w.sram := rfl
@[simp] theorem setShut_bad (w : Work) (b : Bool) : (w.setShut b).bad = w.bad := rfl
@[simp] theorem setShut_rgn (w : Work) (b : Bool) : (w.setShut b).rgn = w.rgn := rfl
@[simp] theorem setShut_clu (w : Work) (b : Bool) : (w.setShut b).clu = w.clu := rfl
@[simp] theorem setShut_unit (w : Work) (b : Bool) : (w.setShut b).unit = w.unit := rfl
@[simp] theorem setShut_lane (w : Work) (b : Bool) : (w.setShut b).lane = w.lane := rfl
@[simp] theorem setShut_sl (w : Work) (b : Bool) : (w.setShut b).sl = w.sl := rfl
@[simp] theorem setShut_adc (w : Work) (b : Bool) : (w.setShut b).adc = w.adc := rfl
@[simp] theorem setShut_ain (w : Work) (b : Bool) : (w.setShut b).ain = w.ain := rfl
@[simp] theorem setShut_cap (w : Work) (b : Bool) : (w.setShut b).cap = w.cap := rfl
@[simp] theorem setShut_tout (w : Work) (b : Bool) : (w.setShut b).tout = w.tout := rfl
@[simp] theorem setShut_ethRx (w : Work) (b : Bool) : (w.setShut b).ethRx = w.ethRx := rfl
@[simp] theorem setShut_ethTx (w : Work) (b : Bool) : (w.setShut b).ethTx = w.ethTx := rfl
@[simp] theorem setShut_flue (w : Work) (b : Bool) : (w.setShut b).flue = w.flue := rfl
@[simp] theorem setShut_lines (w : Work) (b : Bool) : (w.setShut b).lines = w.lines := rfl
@[simp] theorem setShut_events (w : Work) (b : Bool) : (w.setShut b).events = w.events := rfl
@[simp] theorem setShut_eq (w : Work) (b : Bool) : (w.setShut b).eq = w.eq := rfl
@[simp] theorem setShut_recd (w : Work) (b : Bool) : (w.setShut b).recd = w.recd := rfl
@[simp] theorem setShut_net (w : Work) (b : Bool) : (w.setShut b).net = w.net := rfl
@[simp] theorem setShut_hearth (w : Work) (b : Bool) : (w.setShut b).hearth = w.hearth := rfl
@[simp] theorem setShut_twin (w : Work) (b : Bool) : (w.setShut b).twin = w.twin := rfl
@[simp] theorem setShut_chop (w : Work) (b : Bool) : (w.setShut b).chop = w.chop := rfl
@[simp] theorem setShut_kin (w : Work) (b : Bool) : (w.setShut b).kin = w.kin := rfl
@[simp] theorem setShut_ember (w : Work) (b : Bool) : (w.setShut b).ember = w.ember := rfl
@[simp] theorem setShut_therm (w : Work) (b : Bool) : (w.setShut b).therm = w.therm := rfl
@[simp] theorem setShut_sec (w : Work) (b : Bool) : (w.setShut b).sec = w.sec := rfl
@[simp] theorem setShut_swap (w : Work) (b : Bool) : (w.setShut b).swap = w.swap := rfl
@[simp] theorem setShut_shut (w : Work) (b : Bool) : (w.setShut b).shut = b := rfl
@[simp] theorem setShut_held (w : Work) (b : Bool) : (w.setShut b).held = w.held := rfl
@[simp] theorem setShut_out (w : Work) (b : Bool) : (w.setShut b).out = w.out := rfl
@[simp] theorem setShut_freeCtr (w : Work) (b : Bool) : (w.setShut b).freeCtr = w.freeCtr := rfl
@[simp] theorem setShut_now (w : Work) (b : Bool) : (w.setShut b).now = w.now := rfl
@[simp] theorem setShut_up (w : Work) (b : Bool) : (w.setShut b).up = w.up := rfl
@[simp] theorem setShut_inc (w : Work) (b : Bool) : (w.setShut b).inc = w.inc := rfl

@[simp] theorem dropHeld_regs (w : Work) : w.dropHeld.regs = w.regs := rfl
@[simp] theorem dropHeld_shadow (w : Work) : w.dropHeld.shadow = w.shadow := rfl
@[simp] theorem dropHeld_latched (w : Work) : w.dropHeld.latched = w.latched := rfl
@[simp] theorem dropHeld_dram (w : Work) : w.dropHeld.dram = w.dram := rfl
@[simp] theorem dropHeld_sram (w : Work) : w.dropHeld.sram = w.sram := rfl
@[simp] theorem dropHeld_bad (w : Work) : w.dropHeld.bad = w.bad := rfl
@[simp] theorem dropHeld_rgn (w : Work) : w.dropHeld.rgn = w.rgn := rfl
@[simp] theorem dropHeld_clu (w : Work) : w.dropHeld.clu = w.clu := rfl
@[simp] theorem dropHeld_unit (w : Work) : w.dropHeld.unit = w.unit := rfl
@[simp] theorem dropHeld_lane (w : Work) : w.dropHeld.lane = w.lane := rfl
@[simp] theorem dropHeld_sl (w : Work) : w.dropHeld.sl = w.sl := rfl
@[simp] theorem dropHeld_adc (w : Work) : w.dropHeld.adc = w.adc := rfl
@[simp] theorem dropHeld_ain (w : Work) : w.dropHeld.ain = w.ain := rfl
@[simp] theorem dropHeld_cap (w : Work) : w.dropHeld.cap = w.cap := rfl
@[simp] theorem dropHeld_tout (w : Work) : w.dropHeld.tout = w.tout := rfl
@[simp] theorem dropHeld_ethRx (w : Work) : w.dropHeld.ethRx = w.ethRx := rfl
@[simp] theorem dropHeld_ethTx (w : Work) : w.dropHeld.ethTx = w.ethTx := rfl
@[simp] theorem dropHeld_flue (w : Work) : w.dropHeld.flue = w.flue := rfl
@[simp] theorem dropHeld_lines (w : Work) : w.dropHeld.lines = w.lines := rfl
@[simp] theorem dropHeld_events (w : Work) : w.dropHeld.events = w.events := rfl
@[simp] theorem dropHeld_eq (w : Work) : w.dropHeld.eq = w.eq := rfl
@[simp] theorem dropHeld_recd (w : Work) : w.dropHeld.recd = w.recd := rfl
@[simp] theorem dropHeld_net (w : Work) : w.dropHeld.net = w.net := rfl
@[simp] theorem dropHeld_hearth (w : Work) : w.dropHeld.hearth = w.hearth := rfl
@[simp] theorem dropHeld_twin (w : Work) : w.dropHeld.twin = w.twin := rfl
@[simp] theorem dropHeld_chop (w : Work) : w.dropHeld.chop = w.chop := rfl
@[simp] theorem dropHeld_kin (w : Work) : w.dropHeld.kin = w.kin := rfl
@[simp] theorem dropHeld_ember (w : Work) : w.dropHeld.ember = w.ember := rfl
@[simp] theorem dropHeld_therm (w : Work) : w.dropHeld.therm = w.therm := rfl
@[simp] theorem dropHeld_sec (w : Work) : w.dropHeld.sec = w.sec := rfl
@[simp] theorem dropHeld_swap (w : Work) : w.dropHeld.swap = w.swap := rfl
@[simp] theorem dropHeld_shut (w : Work) : w.dropHeld.shut = w.shut := rfl
@[simp] theorem dropHeld_held (w : Work) : w.dropHeld.held = [] := rfl
@[simp] theorem dropHeld_out (w : Work) : w.dropHeld.out = w.out := rfl
@[simp] theorem dropHeld_freeCtr (w : Work) : w.dropHeld.freeCtr = w.freeCtr := rfl
@[simp] theorem dropHeld_now (w : Work) : w.dropHeld.now = w.now := rfl
@[simp] theorem dropHeld_up (w : Work) : w.dropHeld.up = w.up := rfl
@[simp] theorem dropHeld_inc (w : Work) : w.dropHeld.inc = w.inc := rfl

@[simp] theorem work_regs (s : State) : s.work.regs = s.dev.regs := rfl
@[simp] theorem work_shadow (s : State) : s.work.shadow = s.dev.shadow := rfl
@[simp] theorem work_latched (s : State) : s.work.latched = s.dev.latched := rfl
@[simp] theorem work_dram (s : State) : s.work.dram = s.dev.dram := rfl
@[simp] theorem work_sram (s : State) : s.work.sram = s.dev.sram := rfl
@[simp] theorem work_bad (s : State) : s.work.bad = s.dev.bad := rfl
@[simp] theorem work_rgn (s : State) : s.work.rgn = s.dev.rgn := rfl
@[simp] theorem work_clu (s : State) : s.work.clu = s.dev.clu := rfl
@[simp] theorem work_unit (s : State) : s.work.unit = s.dev.unit := rfl
@[simp] theorem work_lane (s : State) : s.work.lane = s.dev.lane := rfl
@[simp] theorem work_sl (s : State) : s.work.sl = s.dev.sl := rfl
@[simp] theorem work_adc (s : State) : s.work.adc = s.dev.adc := rfl
@[simp] theorem work_ain (s : State) : s.work.ain = s.dev.ain := rfl
@[simp] theorem work_cap (s : State) : s.work.cap = s.dev.cap := rfl
@[simp] theorem work_tout (s : State) : s.work.tout = s.dev.tout := rfl
@[simp] theorem work_ethRx (s : State) : s.work.ethRx = s.dev.ethRx := rfl
@[simp] theorem work_ethTx (s : State) : s.work.ethTx = s.dev.ethTx := rfl
@[simp] theorem work_flue (s : State) : s.work.flue = s.dev.flue := rfl
@[simp] theorem work_lines (s : State) : s.work.lines = s.dev.lines := rfl
@[simp] theorem work_events (s : State) : s.work.events = s.dev.events := rfl
@[simp] theorem work_eq (s : State) : s.work.eq = s.dev.eq := rfl
@[simp] theorem work_recd (s : State) : s.work.recd = s.dev.recd := rfl
@[simp] theorem work_net (s : State) : s.work.net = s.dev.net := rfl
@[simp] theorem work_hearth (s : State) : s.work.hearth = s.dev.hearth := rfl
@[simp] theorem work_twin (s : State) : s.work.twin = s.dev.twin := rfl
@[simp] theorem work_chop (s : State) : s.work.chop = s.dev.chop := rfl
@[simp] theorem work_kin (s : State) : s.work.kin = s.dev.kin := rfl
@[simp] theorem work_ember (s : State) : s.work.ember = s.dev.ember := rfl
@[simp] theorem work_therm (s : State) : s.work.therm = s.dev.therm := rfl
@[simp] theorem work_sec (s : State) : s.work.sec = s.dev.sec := rfl
@[simp] theorem work_swap (s : State) : s.work.swap = s.dev.swap := rfl
@[simp] theorem work_shut (s : State) : s.work.shut = s.dev.shut := rfl
@[simp] theorem work_held (s : State) : s.work.held = s.dev.held := rfl
@[simp] theorem work_out (s : State) : s.work.out = s.dev.out := rfl
@[simp] theorem work_freeCtr (s : State) : s.work.freeCtr = s.dev.freeCtr := rfl
@[simp] theorem work_now (s : State) : s.work.now = s.tally.a := rfl
@[simp] theorem work_up (s : State) : s.work.up = s.tally.elapsed := rfl
@[simp] theorem work_inc (s : State) : s.work.inc = s.tally.step := rfl
@[simp] theorem onDev_tally (s : State) (f : Work → Work) : (s.onDev f).tally = s.tally := rfl
@[simp] theorem onDev_pending (s : State) (f : Work → Work) : (s.onDev f).pending = s.pending := rfl
@[simp] theorem onDev_dev (s : State) (f : Work → Work) : (s.onDev f).dev = (f s.work).toDev := rfl

end Sys2Proof.Machine
end

