-- ==== Sys2Proof/Laws/Ops.lean ====
section
/-! SUPPORT. What each shared operation of Machine/Ops.lean does to a register: writes, counters, flags, faults, and the
operations that leave every register as it was. -/

namespace Sys2Proof.Machine

/-! ### Operations that write no register -/

@[simp] theorem word_shPut (w : Work) (a : Nat) (d : Word) (x : Nat) : (w.shPut a d).word x = w.word x := rfl
@[simp] theorem rd_shPut (w : Work) (a : Nat) (d : Word) (pg : Nat) (f : Field) (i : Nat) : (w.shPut a d).rd pg f i = w.rd pg f i := rfl
@[simp] theorem on_shPut (w : Work) (a : Nat) (d : Word) (pg : Nat) (f : Field) (i : Nat) : (w.shPut a d).on pg f i = w.on pg f i := rfl
@[simp] theorem word_emit (w : Work) (o : Out) (x : Nat) : (w.emit o).word x = w.word x := rfl
@[simp] theorem rd_emit (w : Work) (o : Out) (pg : Nat) (f : Field) (i : Nat) : (w.emit o).rd pg f i = w.rd pg f i := rfl
@[simp] theorem on_emit (w : Work) (o : Out) (pg : Nat) (f : Field) (i : Nat) : (w.emit o).on pg f i = w.on pg f i := rfl
@[simp] theorem word_msix (w : Work) (v : Nat) (x : Nat) : (w.msix v).word x = w.word x := rfl
@[simp] theorem rd_msix (w : Work) (v : Nat) (pg : Nat) (f : Field) (i : Nat) : (w.msix v).rd pg f i = w.rd pg f i := rfl
@[simp] theorem on_msix (w : Work) (v : Nat) (pg : Nat) (f : Field) (i : Nat) : (w.msix v).on pg f i = w.on pg f i := rfl
@[simp] theorem word_setEvents (w : Work) (l : List Event) (x : Nat) : (w.setEvents l).word x = w.word x := rfl
@[simp] theorem rd_setEvents (w : Work) (l : List Event) (pg : Nat) (f : Field) (i : Nat) : (w.setEvents l).rd pg f i = w.rd pg f i := rfl
@[simp] theorem on_setEvents (w : Work) (l : List Event) (pg : Nat) (f : Field) (i : Nat) : (w.setEvents l).on pg f i = w.on pg f i := rfl
@[simp] theorem word_event (w : Work) (cls p : Nat) (l : List Nat) (x : Nat) : (w.event cls p l).word x = w.word x := rfl
@[simp] theorem rd_event (w : Work) (cls p : Nat) (l : List Nat) (pg : Nat) (f : Field) (i : Nat) : (w.event cls p l).rd pg f i = w.rd pg f i := rfl
@[simp] theorem on_event (w : Work) (cls p : Nat) (l : List Nat) (pg : Nat) (f : Field) (i : Nat) : (w.event cls p l).on pg f i = w.on pg f i := rfl
@[simp] theorem word_setFlue (w : Work) (l : List InFlight) (x : Nat) : (w.setFlue l).word x = w.word x := rfl
@[simp] theorem rd_setFlue (w : Work) (l : List InFlight) (pg : Nat) (f : Field) (i : Nat) : (w.setFlue l).rd pg f i = w.rd pg f i := rfl
@[simp] theorem on_setFlue (w : Work) (l : List InFlight) (pg : Nat) (f : Field) (i : Nat) : (w.setFlue l).on pg f i = w.on pg f i := rfl
@[simp] theorem word_setLines (w : Work) (l : List Report) (x : Nat) : (w.setLines l).word x = w.word x := rfl
@[simp] theorem rd_setLines (w : Work) (l : List Report) (pg : Nat) (f : Field) (i : Nat) : (w.setLines l).rd pg f i = w.rd pg f i := rfl
@[simp] theorem on_setLines (w : Work) (l : List Report) (pg : Nat) (f : Field) (i : Nat) : (w.setLines l).on pg f i = w.on pg f i := rfl
@[simp] theorem word_modRg (w : Work) (n : Nat) (h : Region → Region) (x : Nat) : (w.modRg n h).word x = w.word x := rfl
@[simp] theorem rd_modRg (w : Work) (n : Nat) (h : Region → Region) (pg : Nat) (f : Field) (i : Nat) : (w.modRg n h).rd pg f i = w.rd pg f i := rfl
@[simp] theorem on_modRg (w : Work) (n : Nat) (h : Region → Region) (pg : Nat) (f : Field) (i : Nat) : (w.modRg n h).on pg f i = w.on pg f i := rfl
@[simp] theorem word_modCl (w : Work) (n : Nat) (h : Cluster → Cluster) (x : Nat) : (w.modCl n h).word x = w.word x := rfl
@[simp] theorem rd_modCl (w : Work) (n : Nat) (h : Cluster → Cluster) (pg : Nat) (f : Field) (i : Nat) : (w.modCl n h).rd pg f i = w.rd pg f i := rfl
@[simp] theorem on_modCl (w : Work) (n : Nat) (h : Cluster → Cluster) (pg : Nat) (f : Field) (i : Nat) : (w.modCl n h).on pg f i = w.on pg f i := rfl
@[simp] theorem word_modUn (w : Work) (n : Nat) (h : LegUnit → LegUnit) (x : Nat) : (w.modUn n h).word x = w.word x := rfl
@[simp] theorem rd_modUn (w : Work) (n : Nat) (h : LegUnit → LegUnit) (pg : Nat) (f : Field) (i : Nat) : (w.modUn n h).rd pg f i = w.rd pg f i := rfl
@[simp] theorem on_modUn (w : Work) (n : Nat) (h : LegUnit → LegUnit) (pg : Nat) (f : Field) (i : Nat) : (w.modUn n h).on pg f i = w.on pg f i := rfl
@[simp] theorem word_modLn (w : Work) (n : Nat) (h : Lane → Lane) (x : Nat) : (w.modLn n h).word x = w.word x := rfl
@[simp] theorem rd_modLn (w : Work) (n : Nat) (h : Lane → Lane) (pg : Nat) (f : Field) (i : Nat) : (w.modLn n h).rd pg f i = w.rd pg f i := rfl
@[simp] theorem on_modLn (w : Work) (n : Nat) (h : Lane → Lane) (pg : Nat) (f : Field) (i : Nat) : (w.modLn n h).on pg f i = w.on pg f i := rfl
@[simp] theorem word_modSl (w : Work) (n : Nat) (h : SysLane → SysLane) (x : Nat) : (w.modSl n h).word x = w.word x := rfl
@[simp] theorem rd_modSl (w : Work) (n : Nat) (h : SysLane → SysLane) (pg : Nat) (f : Field) (i : Nat) : (w.modSl n h).rd pg f i = w.rd pg f i := rfl
@[simp] theorem on_modSl (w : Work) (n : Nat) (h : SysLane → SysLane) (pg : Nat) (f : Field) (i : Nat) : (w.modSl n h).on pg f i = w.on pg f i := rfl
@[simp] theorem word_modAdc (w : Work) (n : Nat) (h : Adc → Adc) (x : Nat) : (w.modAdc n h).word x = w.word x := rfl
@[simp] theorem rd_modAdc (w : Work) (n : Nat) (h : Adc → Adc) (pg : Nat) (f : Field) (i : Nat) : (w.modAdc n h).rd pg f i = w.rd pg f i := rfl
@[simp] theorem on_modAdc (w : Work) (n : Nat) (h : Adc → Adc) (pg : Nat) (f : Field) (i : Nat) : (w.modAdc n h).on pg f i = w.on pg f i := rfl
@[simp] theorem word_modNet (w : Work) (h : NetSt → NetSt) (x : Nat) : (w.modNet h).word x = w.word x := rfl
@[simp] theorem rd_modNet (w : Work) (h : NetSt → NetSt) (pg : Nat) (f : Field) (i : Nat) : (w.modNet h).rd pg f i = w.rd pg f i := rfl
@[simp] theorem on_modNet (w : Work) (h : NetSt → NetSt) (pg : Nat) (f : Field) (i : Nat) : (w.modNet h).on pg f i = w.on pg f i := rfl
@[simp] theorem word_modHearth (w : Work) (h : HearthSt → HearthSt) (x : Nat) : (w.modHearth h).word x = w.word x := rfl
@[simp] theorem rd_modHearth (w : Work) (h : HearthSt → HearthSt) (pg : Nat) (f : Field) (i : Nat) : (w.modHearth h).rd pg f i = w.rd pg f i := rfl
@[simp] theorem on_modHearth (w : Work) (h : HearthSt → HearthSt) (pg : Nat) (f : Field) (i : Nat) : (w.modHearth h).on pg f i = w.on pg f i := rfl
@[simp] theorem word_modTwin (w : Work) (h : TwinSt → TwinSt) (x : Nat) : (w.modTwin h).word x = w.word x := rfl
@[simp] theorem rd_modTwin (w : Work) (h : TwinSt → TwinSt) (pg : Nat) (f : Field) (i : Nat) : (w.modTwin h).rd pg f i = w.rd pg f i := rfl
@[simp] theorem on_modTwin (w : Work) (h : TwinSt → TwinSt) (pg : Nat) (f : Field) (i : Nat) : (w.modTwin h).on pg f i = w.on pg f i := rfl
@[simp] theorem word_modTwinRg (w : Work) (n : Nat) (h : TwinRg → TwinRg) (x : Nat) : (w.modTwinRg n h).word x = w.word x := rfl
@[simp] theorem rd_modTwinRg (w : Work) (n : Nat) (h : TwinRg → TwinRg) (pg : Nat) (f : Field) (i : Nat) : (w.modTwinRg n h).rd pg f i = w.rd pg f i := rfl
@[simp] theorem on_modTwinRg (w : Work) (n : Nat) (h : TwinRg → TwinRg) (pg : Nat) (f : Field) (i : Nat) : (w.modTwinRg n h).on pg f i = w.on pg f i := rfl
@[simp] theorem word_modChop (w : Work) (n : Nat) (h : ChopSt → ChopSt) (x : Nat) : (w.modChop n h).word x = w.word x := rfl
@[simp] theorem rd_modChop (w : Work) (n : Nat) (h : ChopSt → ChopSt) (pg : Nat) (f : Field) (i : Nat) : (w.modChop n h).rd pg f i = w.rd pg f i := rfl
@[simp] theorem on_modChop (w : Work) (n : Nat) (h : ChopSt → ChopSt) (pg : Nat) (f : Field) (i : Nat) : (w.modChop n h).on pg f i = w.on pg f i := rfl
@[simp] theorem word_modKin (w : Work) (h : KinSt → KinSt) (x : Nat) : (w.modKin h).word x = w.word x := rfl
@[simp] theorem rd_modKin (w : Work) (h : KinSt → KinSt) (pg : Nat) (f : Field) (i : Nat) : (w.modKin h).rd pg f i = w.rd pg f i := rfl
@[simp] theorem on_modKin (w : Work) (h : KinSt → KinSt) (pg : Nat) (f : Field) (i : Nat) : (w.modKin h).on pg f i = w.on pg f i := rfl
@[simp] theorem word_modEmber (w : Work) (h : EmberSt → EmberSt) (x : Nat) : (w.modEmber h).word x = w.word x := rfl
@[simp] theorem rd_modEmber (w : Work) (h : EmberSt → EmberSt) (pg : Nat) (f : Field) (i : Nat) : (w.modEmber h).rd pg f i = w.rd pg f i := rfl
@[simp] theorem on_modEmber (w : Work) (h : EmberSt → EmberSt) (pg : Nat) (f : Field) (i : Nat) : (w.modEmber h).on pg f i = w.on pg f i := rfl
@[simp] theorem word_modTherm (w : Work) (h : ThermSt → ThermSt) (x : Nat) : (w.modTherm h).word x = w.word x := rfl
@[simp] theorem rd_modTherm (w : Work) (h : ThermSt → ThermSt) (pg : Nat) (f : Field) (i : Nat) : (w.modTherm h).rd pg f i = w.rd pg f i := rfl
@[simp] theorem on_modTherm (w : Work) (h : ThermSt → ThermSt) (pg : Nat) (f : Field) (i : Nat) : (w.modTherm h).on pg f i = w.on pg f i := rfl
@[simp] theorem word_modSec (w : Work) (h : SecSt → SecSt) (x : Nat) : (w.modSec h).word x = w.word x := rfl
@[simp] theorem rd_modSec (w : Work) (h : SecSt → SecSt) (pg : Nat) (f : Field) (i : Nat) : (w.modSec h).rd pg f i = w.rd pg f i := rfl
@[simp] theorem on_modSec (w : Work) (h : SecSt → SecSt) (pg : Nat) (f : Field) (i : Nat) : (w.modSec h).on pg f i = w.on pg f i := rfl
@[simp] theorem word_modSwap (w : Work) (h : SwapSt → SwapSt) (x : Nat) : (w.modSwap h).word x = w.word x := rfl
@[simp] theorem rd_modSwap (w : Work) (h : SwapSt → SwapSt) (pg : Nat) (f : Field) (i : Nat) : (w.modSwap h).rd pg f i = w.rd pg f i := rfl
@[simp] theorem on_modSwap (w : Work) (h : SwapSt → SwapSt) (pg : Nat) (f : Field) (i : Nat) : (w.modSwap h).on pg f i = w.on pg f i := rfl
@[simp] theorem word_dramPut (w : Work) (a : Nat) (bs : List Byte) (x : Nat) : (w.dramPut a bs).word x = w.word x := rfl
@[simp] theorem rd_dramPut (w : Work) (a : Nat) (bs : List Byte) (pg : Nat) (f : Field) (i : Nat) : (w.dramPut a bs).rd pg f i = w.rd pg f i := rfl
@[simp] theorem on_dramPut (w : Work) (a : Nat) (bs : List Byte) (pg : Nat) (f : Field) (i : Nat) : (w.dramPut a bs).on pg f i = w.on pg f i := rfl
@[simp] theorem word_sramPut (w : Work) (a : Nat) (ds : List Word) (x : Nat) : (w.sramPut a ds).word x = w.word x := rfl
@[simp] theorem rd_sramPut (w : Work) (a : Nat) (ds : List Word) (pg : Nat) (f : Field) (i : Nat) : (w.sramPut a ds).rd pg f i = w.rd pg f i := rfl
@[simp] theorem on_sramPut (w : Work) (a : Nat) (ds : List Word) (pg : Nat) (f : Field) (i : Nat) : (w.sramPut a ds).on pg f i = w.on pg f i := rfl

@[simp] theorem word_onDev (s : State) (f : Work → Work) (a : Nat) : (s.onDev f).work.word a = (f s.work).word a := rfl
@[simp] theorem rd_onDev (s : State) (f : Work → Work) (pg : Nat) (g : Field) (i : Nat) :
    (s.onDev f).work.rd pg g i = (f s.work).rd pg g i := rfl
@[simp] theorem on_onDev (s : State) (f : Work → Work) (pg : Nat) (g : Field) (i : Nat) :
    (s.onDev f).work.on pg g i = (f s.work).on pg g i := rfl
@[simp] theorem rdS_onDev (s : State) (f : Work → Work) (pg : Nat) (g : Field) (i : Nat) :
    (s.onDev f).work.rdS pg g i = (f s.work).rdS pg g i := rfl

/-! ### Register writes -/

/-- A dword after a register write. -/
theorem word_put (w : Work) (a : Nat) (d : Word) (b : Nat) : (w.put a d).word b = if b = a then d else w.word b :=
  cellsGet_put resetWord w.regs a d b

@[simp] theorem word_put_same (w : Work) (a : Nat) (d : Word) : (w.put a d).word a = d := by simp [word_put]

theorem word_put_ne (w : Work) (a : Nat) (d : Word) (b : Nat) (h : b ≠ a) : (w.put a d).word b = w.word b := by
  simp [word_put, h]

/-- A dword that a field write does not lie in. -/
theorem word_wr_ne (w : Work) (pg : Nat) (f : Field) (v i b : Nat) (h : b ≠ pg + f.at i) :
    (w.wr pg f v i).word b = w.word b := word_put_ne _ _ _ _ h

/-- A field reads what was written to it. -/
theorem rd_wr_same (w : Work) (pg : Nat) (f : Field) (v i : Nat) (h : f.lo + f.wid ≤ 32) :
    (w.wr pg f v i).rd pg f i = v % 2 ^ f.wid := by
  simp only [Work.rd, Work.wr, word_put_same]
  exact f.get_set _ v h

/-- A field of another dword. -/
theorem rd_wr_ne (w : Work) (pg : Nat) (f : Field) (v i qg : Nat) (g : Field) (j : Nat)
    (h : qg + g.at j ≠ pg + f.at i) : (w.wr pg f v i).rd qg g j = w.rd qg g j := by
  simp only [Work.rd, word_wr_ne w pg f v i _ h]

/-- A field at other bits, whichever dword it lies in. -/
theorem rd_wr_disj (w : Work) (pg : Nat) (f : Field) (v i qg : Nat) (g : Field) (j : Nat)
    (h : f.lo + f.wid ≤ g.lo ∨ g.lo + g.wid ≤ f.lo) : (w.wr pg f v i).rd qg g j = w.rd qg g j := by
  by_cases ha : qg + g.at j = pg + f.at i
  · simp only [Work.rd, Work.wr, ha, word_put_same]
    exact Field.get_set_disj f g _ v h
  · exact rd_wr_ne w pg f v i qg g j ha

/-- A field is smaller than two to its width. -/
theorem rd_lt (w : Work) (pg : Nat) (f : Field) (i : Nat) : w.rd pg f i < 2 ^ f.wid := f.get_lt _

theorem on_iff (w : Work) (pg : Nat) (f : Field) (i : Nat) : w.on pg f i = true ↔ w.rd pg f i ≠ 0 := by
  simp [Work.on]

/-- A counter after a count: one more, or all ones (R7). -/
theorem rd_count (w : Work) (pg : Nat) (f : Field) (n i : Nat) (h : f.lo + f.wid ≤ 32) :
    (w.count pg f n i).rd pg f i = min (w.rd pg f i + n) f.max := by
  rw [Work.count, rd_wr_same _ _ _ _ _ h]
  apply Nat.mod_eq_of_lt
  have := Nat.two_pow_pos f.wid
  simp only [Field.max]
  omega

theorem word_count_ne (w : Work) (pg : Nat) (f : Field) (n i b : Nat) (h : b ≠ pg + f.at i) :
    (w.count pg f n i).word b = w.word b := word_wr_ne _ _ _ _ _ _ h

/-! ### Bits of flag fields -/

theorem bitOf_eq (v b : Nat) : bitOf v b = v.testBit b := by
  rw [bitOf, Nat.testBit_eq_decide_div_mod_eq]
  rfl

theorem add_two_pow_eq_or (v b : Nat) (h : v.testBit b = false) : v + 2 ^ b = v ||| 2 ^ b := by
  have hv : v < 2 ^ (v + b) := Nat.lt_of_lt_of_le Nat.lt_two_pow_self (Nat.pow_le_pow_right (by decide) (by omega))
  have hb : 2 ^ b ≤ 2 ^ (v + b) := Nat.pow_le_pow_right (by decide) (by omega)
  have hs : 2 ^ (v + b + 1) = 2 ^ (v + b) + 2 ^ (v + b) := by rw [Nat.pow_succ]; omega
  have hand : (BitVec.ofNat (v + b + 1) v) &&& (BitVec.ofNat (v + b + 1) (2 ^ b)) = 0 := by
    apply BitVec.eq_of_getLsbD_eq
    intro k _
    rw [BitVec.getLsbD_and, BitVec.getLsbD_ofNat, BitVec.getLsbD_ofNat]
    by_cases hk : k = b
    · subst hk; simp [h]
    · simp [Nat.testBit_two_pow_of_ne (Ne.symm hk)]
  have hadd := congrArg BitVec.toNat (BitVec.add_eq_or_of_and_eq_zero _ _ hand)
  rw [BitVec.toNat_add, BitVec.toNat_or, BitVec.toNat_ofNat, BitVec.toNat_ofNat, Nat.mod_eq_of_lt (a := v) (by omega),
    Nat.mod_eq_of_lt (a := 2 ^ b) (by omega), Nat.mod_eq_of_lt (by omega)] at hadd
  exact hadd

theorem sub_two_pow_testBit (v b k : Nat) (h : v.testBit b = true) :
    (v - 2 ^ b).testBit k = (v.testBit k && decide (k ≠ b)) := by
  have hx : v ^^^ 2 ^ b = v - 2 ^ b := by
    have h0 : (v ^^^ 2 ^ b).testBit b = false := by simp [h]
    have h1 := add_two_pow_eq_or _ b h0
    have h2 : (v ^^^ 2 ^ b) ||| 2 ^ b = v := by
      apply Nat.eq_of_testBit_eq
      intro j
      by_cases hj : j = b
      · subst hj; simp [h]
      · simp [Nat.testBit_two_pow_of_ne (Ne.symm hj)]
    omega
  rw [← hx]
  by_cases hk : k = b
  · subst hk; simp [h]
  · simp [Nat.testBit_two_pow_of_ne (Ne.symm hk), hk]

/-- A flag field after one of its bits is set: that bit reads 1, the others as before. -/
theorem testBit_setBit (w : Work) (pg : Nat) (f : Field) (b i k : Nat) (h : f.lo + f.wid ≤ 32) (hb : b < f.wid) :
    ((w.setBit pg f b i).rd pg f i).testBit k = ((w.rd pg f i).testBit k || decide (k = b)) := by
  unfold Work.setBit
  by_cases hv : (w.rd pg f i).testBit b
  · simp only [bitOf_eq, hv, if_true]
    by_cases hk : k = b
    · subst hk; simp [hv]
    · simp [hk]
  · simp only [Bool.not_eq_true] at hv
    simp only [bitOf_eq, hv, Bool.false_eq_true, if_false]
    rw [rd_wr_same _ _ _ _ _ h, Nat.testBit_mod_two_pow, add_two_pow_eq_or _ _ hv, Nat.testBit_or]
    by_cases hk : k = b
    · subst hk; simp [hb]
    · have hlt := rd_lt w pg f i
      by_cases hkw : k < f.wid
      · simp [hkw, Nat.testBit_two_pow_of_ne (Ne.symm hk), hk]
      · have : (w.rd pg f i).testBit k = false :=
          Nat.testBit_lt_two_pow (Nat.lt_of_lt_of_le hlt (Nat.pow_le_pow_right (by decide) (by omega)))
        simp [hkw, hk, this]

/-- A flag field after one of its bits is cleared. -/
theorem testBit_clrBit (w : Work) (pg : Nat) (f : Field) (b i k : Nat) (h : f.lo + f.wid ≤ 32) :
    ((w.clrBit pg f b i).rd pg f i).testBit k = ((w.rd pg f i).testBit k && decide (k ≠ b)) := by
  unfold Work.clrBit
  by_cases hv : (w.rd pg f i).testBit b
  · simp only [bitOf_eq, hv, if_true]
    have hlt := rd_lt w pg f i
    rw [rd_wr_same _ _ _ _ _ h, Nat.mod_eq_of_lt (Nat.lt_of_le_of_lt (Nat.sub_le _ _) hlt), sub_two_pow_testBit _ _ _ hv]
  · simp only [Bool.not_eq_true] at hv
    simp only [bitOf_eq, hv, Bool.false_eq_true, if_false]
    by_cases hk : k = b
    · subst hk; simp [hv]
    · simp [hk]

theorem word_setBit_ne (w : Work) (pg : Nat) (f : Field) (b i a : Nat) (h : a ≠ pg + f.at i) :
    (w.setBit pg f b i).word a = w.word a := by
  unfold Work.setBit
  split
  · rfl
  · exact word_wr_ne _ _ _ _ _ _ h

theorem word_clrBit_ne (w : Work) (pg : Nat) (f : Field) (b i a : Nat) (h : a ≠ pg + f.at i) :
    (w.clrBit pg f b i).word a = w.word a := by
  unfold Work.clrBit
  split
  · exact word_wr_ne _ _ _ _ _ _ h
  · rfl

theorem word_putBit_ne (w : Work) (pg : Nat) (f : Field) (b : Nat) (v : Bool) (i a : Nat) (h : a ≠ pg + f.at i) :
    (w.putBit pg f b v i).word a = w.word a := by
  unfold Work.putBit
  split
  · exact word_setBit_ne _ _ _ _ _ _ h
  · exact word_clrBit_ne _ _ _ _ _ _ h

/-! ### Raising a fault -/

/-- A fault writes no register but the FLT of its page (R61). -/
theorem word_fltTo_ne (w : Work) (pg : Nat) (cls : FaultClass) (bit : Nat) (dst : Option (Coll × Nat)) (info : Word)
    (a : Nat) (h : a ≠ pg + 0x010) : (w.fltTo pg cls bit dst info).word a = w.word a := by
  have h1 : a ≠ pg + (clsField cls).at 0 := by cases cls <;> exact h
  have h2 : a ≠ pg + HDR_FLT_CAUSE.at 0 := h
  have h3 : (((w.wr pg (clsField cls) 1).setBit pg HDR_FLT_CAUSE (bit - 16))).word a = w.word a := by
    rw [word_setBit_ne _ _ _ _ _ _ h2, word_wr_ne _ _ _ _ _ _ h1]
  unfold Work.fltTo
  dsimp only
  split <;> (try split) <;> (try split) <;> unfold Work.when <;> split <;> simp [h3]

end Sys2Proof.Machine
end

