-- ==== Sys2Proof/Laws/Zone.lean ====
section
/-! SUPPORT. The zone of every page and window, and of every field's address. -/

namespace Sys2Proof.Machine



theorem zoneOf_add (pg x : Nat) (hp : pg % 0x1000 = 0) (hx : x < 0x1000) : zoneOf (pg + x) = zoneOf pg := by
  have h1 : (pg + x) / 0x1000 = pg / 0x1000 := by omega
  have h2 : (pg + x < 0x1000000) = (pg < 0x1000000) := by simp only [eq_iff_iff]; omega
  have h3 : (pg + x < 0x2000000) = (pg < 0x2000000) := by simp only [eq_iff_iff]; omega
  by_cases hb : pg < 0x1000000
  · simp only [zoneOf, pageOf, h1, h2]
    simp [hb]
  · have h4 : (pg + x - 0x1000000) / 0x400000 = (pg - 0x1000000) / 0x400000 := by omega
    have h5 : (pg + x - 0x1000000) % 0x400000 / 0x1000 = (pg - 0x1000000) % 0x400000 / 0x1000 := by omega
    simp only [zoneOf, pageOf, h1, h2, h3, h4, h5]

theorem Field.at_lt (f : Field) (i : Nat) : f.at i < 0x1000 := Nat.mod_lt _ (by decide)

@[simp] theorem zoneOf_field (pg : Nat) (f : Field) (i : Nat) (hp : pg % 0x1000 = 0) :
    zoneOf (pg + f.at i) = zoneOf pg := zoneOf_add pg _ hp (f.at_lt i)

@[simp] theorem mod_pgPKG : pgPKG % 0x1000 = 0 := by decide
@[simp] theorem zone_pgPKG : zoneOf pgPKG = .page .pkg := by decide
@[simp] theorem mod_pgTALLY : pgTALLY % 0x1000 = 0 := by decide
@[simp] theorem zone_pgTALLY : zoneOf pgTALLY = .page .tally := by decide
@[simp] theorem mod_pgSPLL : pgSPLL % 0x1000 = 0 := by decide
@[simp] theorem zone_pgSPLL : zoneOf pgSPLL = .page .spll := by decide
@[simp] theorem mod_pgHOST : pgHOST % 0x1000 = 0 := by decide
@[simp] theorem zone_pgHOST : zoneOf pgHOST = .page .host := by decide
@[simp] theorem mod_pgTWIN : pgTWIN % 0x1000 = 0 := by decide
@[simp] theorem zone_pgTWIN : zoneOf pgTWIN = .page .twin := by decide
@[simp] theorem mod_pgSYSN : pgSYSN % 0x1000 = 0 := by decide
@[simp] theorem zone_pgSYSN : zoneOf pgSYSN = .page .sysn := by decide
@[simp] theorem mod_pgREC : pgREC % 0x1000 = 0 := by decide
@[simp] theorem zone_pgREC : zoneOf pgREC = .page .recorder := by decide
@[simp] theorem mod_pgTHERM : pgTHERM % 0x1000 = 0 := by decide
@[simp] theorem zone_pgTHERM : zoneOf pgTHERM = .page .therm := by decide
@[simp] theorem mod_pgBIST : pgBIST % 0x1000 = 0 := by decide
@[simp] theorem zone_pgBIST : zoneOf pgBIST = .page .bist := by decide
@[simp] theorem mod_pgCSTORE : pgCSTORE % 0x1000 = 0 := by decide
@[simp] theorem zone_pgCSTORE : zoneOf pgCSTORE = .page .cstore := by decide
@[simp] theorem mod_pgSEC : pgSEC % 0x1000 = 0 := by decide
@[simp] theorem zone_pgSEC : zoneOf pgSEC = .page .sec := by decide
@[simp] theorem mod_pgCLAIM : pgCLAIM % 0x1000 = 0 := by decide
@[simp] theorem zone_pgCLAIM : zoneOf pgCLAIM = .page .claim := by decide
@[simp] theorem mod_pgHRT : pgHRT % 0x1000 = 0 := by decide
@[simp] theorem zone_pgHRT : zoneOf pgHRT = .page .hrt := by decide
@[simp] theorem mod_pgHRT1 : pgHRT1 % 0x1000 = 0 := by decide
@[simp] theorem zone_pgHRT1 : zoneOf pgHRT1 = .page .hrt1 := by decide
@[simp] theorem mod_pgHRT2 : pgHRT2 % 0x1000 = 0 := by decide
@[simp] theorem zone_pgHRT2 : zoneOf pgHRT2 = .page .hrt2 := by decide
@[simp] theorem mod_pgEMB : pgEMB % 0x1000 = 0 := by decide
@[simp] theorem zone_pgEMB : zoneOf pgEMB = .page .emb := by decide
@[simp] theorem mod_pgEQ (q : Nat) : pgEQ q % 0x1000 = 0 := by simp only [pgEQ]; omega
@[simp] theorem mod_pgETH (p : Nat) : pgETH p % 0x1000 = 0 := by simp only [pgETH]; omega
@[simp] theorem mod_pgAD (a : Nat) : pgAD a % 0x1000 = 0 := by simp only [pgAD]; omega
@[simp] theorem mod_pgWC (k : Nat) : pgWC k % 0x1000 = 0 := by simp only [pgWC]; omega
@[simp] theorem mod_rgBase (n : Nat) : rgBase n % 0x1000 = 0 := by simp only [rgBase, rgBase]; omega
@[simp] theorem mod_pgRG (n : Nat) : pgRG n % 0x1000 = 0 := by simp only [pgRG, rgBase]; omega
@[simp] theorem mod_pgABC (n : Nat) : pgABC n % 0x1000 = 0 := by simp only [pgABC, rgBase]; omega
@[simp] theorem mod_pgCLU (c : Nat) : pgCLU c % 0x1000 = 0 := by simp only [pgCLU, rgBase]; omega
@[simp] theorem mod_pgCLANE (c : Nat) : pgCLANE c % 0x1000 = 0 := by simp only [pgCLANE, rgBase]; omega
@[simp] theorem mod_pgUNIT (u : Nat) : pgUNIT u % 0x1000 = 0 := by simp only [pgUNIT, rgBase]; omega
@[simp] theorem mod_pgSP (n g : Nat) : pgSP n g % 0x1000 = 0 := by simp only [pgSP, rgBase]; omega

theorem zoneOf_table (lo n step : Nat) (k : PageKind) (h : ∀ i : Fin n, zoneOf (lo + i.val * step) = .page k) (hn : 0 < n)
    (i : Nat) : zoneOf (lo + i % n * step) = .page k := h ⟨i % n, Nat.mod_lt _ hn⟩

@[simp] theorem zone_pgEQ (q : Nat) : zoneOf (pgEQ q) = .page .eq := zoneOf_table 0x6000 8 0x1000 .eq (by decide) (by decide) q
@[simp] theorem zone_pgETH (p : Nat) : zoneOf (pgETH p) = .page .eth := zoneOf_table 0xF000 2 0x1000 .eth (by decide) (by decide) p
@[simp] theorem zone_pgAD (a : Nat) : zoneOf (pgAD a) = .page .ad := zoneOf_table 0x200000 16 0x1000 .ad (by decide) (by decide) a
@[simp] theorem zone_pgWC (k : Nat) : zoneOf (pgWC k) = .page .wc := zoneOf_table 0x210000 64 0x1000 .wc (by decide) (by decide) k

/-- A page of a region lies in the zone that its place in the region's window gives. -/
theorem zoneOf_region (n r : Nat) (hr : r < 0x400) :
    zoneOf (rgBase n + r * 0x1000) =
      (if r = 0 then .page .rg else if r = 1 then .page .abc else if 0x30 ≤ r ∧ r < 0x34 then .page .sp
       else if 0x40 ≤ r ∧ r < 0x4C then .page .clu else if 0x50 ≤ r ∧ r < 0x5C then .page .clane
       else if 0x60 ≤ r ∧ r < 0x90 then .page .unit else .window) := by
  have h1 : ¬ rgBase n + r * 0x1000 < 0x1000000 := by simp only [rgBase]; omega
  have h2 : rgBase n + r * 0x1000 < 0x2000000 := by simp only [rgBase]; omega
  have h3 : (rgBase n + r * 0x1000 - 0x1000000) % 0x400000 / 0x1000 = r := by simp only [rgBase]; omega
  rw [zoneOf, pageOf, if_neg h1, if_pos h2]
  generalize (rgBase n + r * 0x1000 - 0x1000000) / 0x400000 = m at *
  rw [h3]
  dsimp only
  split_ifs <;> rfl

@[simp] theorem zone_rgBase (n : Nat) : zoneOf (rgBase n) = .page .rg := by
  have h := zoneOf_region n 0 (by decide)
  rwa [Nat.zero_mul, Nat.add_zero, if_pos rfl] at h
@[simp] theorem zone_pgRG (n : Nat) : zoneOf (pgRG n) = .page .rg := zone_rgBase n
@[simp] theorem zone_pgABC (n : Nat) : zoneOf (pgABC n) = .page .abc := by
  have h := zoneOf_region n 1 (by decide)
  rwa [Nat.one_mul, if_neg (by decide), if_pos rfl] at h
@[simp] theorem zone_pgSP (n g : Nat) : zoneOf (pgSP n g) = .page .sp := by
  have h : pgSP n g = rgBase n + (0x30 + g % 4) * 0x1000 := by simp only [pgSP]; omega
  rw [h, zoneOf_region _ _ (by omega)]
  split_ifs <;> first | rfl | omega
@[simp] theorem zone_pgCLU (c : Nat) : zoneOf (pgCLU c) = .page .clu := by
  have h : pgCLU c = rgBase (c / 12) + (0x40 + c % 12) * 0x1000 := by simp only [pgCLU]; omega
  rw [h, zoneOf_region _ _ (by omega)]
  split_ifs <;> first | rfl | omega
@[simp] theorem zone_pgCLANE (c : Nat) : zoneOf (pgCLANE c) = .page .clane := by
  have h : pgCLANE c = rgBase (c / 12) + (0x50 + c % 12) * 0x1000 := by simp only [pgCLANE]; omega
  rw [h, zoneOf_region _ _ (by omega)]
  split_ifs <;> first | rfl | omega
@[simp] theorem zone_pgUNIT (u : Nat) : zoneOf (pgUNIT u) = .page .unit := by
  have h : pgUNIT u = rgBase (u / 48) + (0x60 + u % 48) * 0x1000 := by simp only [pgUNIT]; omega
  rw [h, zoneOf_region _ _ (by omega)]
  split_ifs <;> first | rfl | omega

/-! ### Windows -/

theorem zoneOf_window (n x : Nat) (h : 0x2000 ≤ x ∧ x < 0x30000) : zoneOf (rgBase n + x) = .window := by
  have e : rgBase n + x = rgBase n + x / 0x1000 * 0x1000 + x % 0x1000 := by omega
  rw [e, zoneOf_add _ _ (by simp only [rgBase]; omega) (by omega), zoneOf_region _ _ (by omega)]
  split_ifs <;> first | rfl | omega

@[simp] theorem zone_secAddr (n s j : Nat) : zoneOf (secAddr n s j) = .window := by
  rw [secAddr, Nat.add_assoc, Nat.add_assoc]; exact zoneOf_window n _ (by omega)
@[simp] theorem zone_stateWordAddr (n x : Nat) : zoneOf (stateWordAddr n x) = .window := by
  rw [stateWordAddr, Nat.add_assoc]; exact zoneOf_window n _ (by omega)
@[simp] theorem zone_slotAddr (n x : Nat) : zoneOf (slotAddr n x) = .window := by
  rw [slotAddr, Nat.add_assoc]; exact zoneOf_window n _ (by omega)
@[simp] theorem zone_slotStatAddr (n x : Nat) : zoneOf (slotStatAddr n x) = .window := by
  rw [slotStatAddr, Nat.add_assoc]; exact zoneOf_window n _ (by omega)
@[simp] theorem zone_lateAddr (n x : Nat) : zoneOf (lateAddr n x) = .window := by
  rw [lateAddr, Nat.add_assoc]; exact zoneOf_window n _ (by omega)
@[simp] theorem zone_outSlotAddr (n x : Nat) : zoneOf (outSlotAddr n x) = .window := by
  rw [outSlotAddr, Nat.add_assoc]; exact zoneOf_window n _ (by omega)

end Sys2Proof.Machine
end

