-- ==== Sys2Proof/Laws/View.lean ====
section
/-! SUPPORT. The view of the device with some kinds of state and some zones of the registers left out: an operation that
writes only those leaves the view as it was. -/

namespace Sys2Proof.Machine

/-- What is left of the device when the kinds `K` and the zones `Z` are left out. -/
structure View where
  word : Nat → Word
  now : Time
  up : Nat
  inc : Nat
  shadow : Option (List (Nat × Word))
  latched : Option (List (Nat × Word))
  dram : Option (List (Nat × Byte))
  sram : Option (List (Nat × Byte))
  bad : Option (List (Nat × Nat))
  rgn : Option (Vector Region 4)
  clu : Option (Vector Cluster 48)
  unit : Option (Vector LegUnit 192)
  lane : Option (Vector Lane 48)
  sl : Option (Vector SysLane 12)
  adc : Option (Vector Adc 16)
  ain : Option (Vector Rat 64)
  cap : Option (Vector (Option CapRec) 32)
  tout : Option (Vector Tout 16)
  ethRx : Option (Vector (List PtpTs) 2)
  ethTx : Option (Vector (List PtpTs) 2)
  flue : Option (List InFlight)
  lines : Option (List Report)
  events : Option (List Event)
  eq : Option (Vector EqQ 8)
  recd : Option (RecSt)
  net : Option (NetSt)
  hearth : Option (HearthSt)
  twin : Option (TwinSt)
  chop : Option (Vector ChopSt 8)
  kin : Option (KinSt)
  ember : Option (EmberSt)
  therm : Option (ThermSt)
  sec : Option (SecSt)
  swap : Option (SwapSt)
  shut : Option Bool
  held : Option (List Instr)
  out : Option (List Out)
  freeCtr : Option (Nat)

/-- `x` unless it is left out. -/
def keep {α : Type} (b : Bool) (x : α) : Option α := if b then none else some x

def view (K : Kind → Bool) (Z : Zone → Bool) (w : Work) : View where
  word a := if Z (zoneOf a) then 0 else w.word a
  now := w.now
  up := w.up
  inc := w.inc
  shadow := keep (K .shadow) w.shadow
  latched := keep (K .latched) w.latched
  dram := keep (K .dram) w.dram
  sram := keep (K .sram) w.sram
  bad := keep (K .bad) w.bad
  rgn := keep (K .rgn) w.rgn
  clu := keep (K .clu) w.clu
  unit := keep (K .unit) w.unit
  lane := keep (K .lane) w.lane
  sl := keep (K .sl) w.sl
  adc := keep (K .adc) w.adc
  ain := keep (K .ain) w.ain
  cap := keep (K .cap) w.cap
  tout := keep (K .tout) w.tout
  ethRx := keep (K .ethRx) w.ethRx
  ethTx := keep (K .ethTx) w.ethTx
  flue := keep (K .flue) w.flue
  lines := keep (K .lines) w.lines
  events := keep (K .events) w.events
  eq := keep (K .eq) w.eq
  recd := keep (K .recd) w.recd
  net := keep (K .net) w.net
  hearth := keep (K .hearth) w.hearth
  twin := keep (K .twin) w.twin
  chop := keep (K .chop) w.chop
  kin := keep (K .kin) w.kin
  ember := keep (K .ember) w.ember
  therm := keep (K .therm) w.therm
  sec := keep (K .sec) w.sec
  swap := keep (K .swap) w.swap
  shut := keep (K .shut) w.shut
  held := keep (K .held) w.held
  out := keep (K .out) w.out
  freeCtr := keep (K .freeCtr) w.freeCtr

variable {K : Kind → Bool} {Z : Zone → Bool}

theorem keep_true {α : Type} {b : Bool} (h : b = true) (x y : α) : keep b x = keep b y := by simp [keep, h]

theorem view_regs {w v : Work} (h : v = { w with regs := v.regs }) (hw : ∀ a, Z (zoneOf a) = false → v.word a = w.word a) :
    view K Z v = view K Z w := by
  rw [h] at hw ⊢
  simp only [view, View.mk.injEq, and_self, and_true]
  funext a
  by_cases hz : Z (zoneOf a) = true
  · simp [hz]
  · simp only [Bool.not_eq_true] at hz
    simp only [hz]
    exact congrArg _ (hw a hz)

theorem view_put (w : Work) (a : Nat) (d : Word) (h : Z (zoneOf a) = true) : view K Z (w.put a d) = view K Z w := by
  apply view_regs rfl
  intro b hb
  apply word_put_ne
  rintro rfl
  simp [h] at hb

theorem view_shPut (w : Work) (a : Nat) (d : Word) (h : K .shadow = true) : view K Z (w.shPut a d) = view K Z w := by
  simp only [view, keep_true h (w.shPut a d).shadow w.shadow]
  rfl
theorem view_emit (w : Work) (o : Out) (h : K .out = true) : view K Z (w.emit o) = view K Z w := by
  simp only [view, keep_true h (w.emit o).out w.out]
  rfl
theorem view_setEvents (w : Work) (l : List Event) (h : K .events = true) : view K Z (w.setEvents l) = view K Z w := by
  simp only [view, keep_true h (w.setEvents l).events w.events]
  rfl
theorem view_setFlue (w : Work) (l : List InFlight) (h : K .flue = true) : view K Z (w.setFlue l) = view K Z w := by
  simp only [view, keep_true h (w.setFlue l).flue w.flue]
  rfl
theorem view_setLines (w : Work) (l : List Report) (h : K .lines = true) : view K Z (w.setLines l) = view K Z w := by
  simp only [view, keep_true h (w.setLines l).lines w.lines]
  rfl
theorem view_modRg (w : Work) (n : Nat) (f : Region → Region) (h : K .rgn = true) : view K Z (w.modRg n f) = view K Z w := by
  simp only [view, keep_true h (w.modRg n f).rgn w.rgn]
  rfl
theorem view_modCl (w : Work) (n : Nat) (f : Cluster → Cluster) (h : K .clu = true) : view K Z (w.modCl n f) = view K Z w := by
  simp only [view, keep_true h (w.modCl n f).clu w.clu]
  rfl
theorem view_modUn (w : Work) (n : Nat) (f : LegUnit → LegUnit) (h : K .unit = true) : view K Z (w.modUn n f) = view K Z w := by
  simp only [view, keep_true h (w.modUn n f).unit w.unit]
  rfl
theorem view_modLn (w : Work) (n : Nat) (f : Lane → Lane) (h : K .lane = true) : view K Z (w.modLn n f) = view K Z w := by
  simp only [view, keep_true h (w.modLn n f).lane w.lane]
  rfl
theorem view_setLanes (w : Work) (l : Vector Lane 48) (h : K .lane = true) : view K Z (w.setLanes l) = view K Z w := by
  simp only [view, keep_true h (w.setLanes l).lane w.lane]
  rfl
theorem view_modSl (w : Work) (n : Nat) (f : SysLane → SysLane) (h : K .sl = true) : view K Z (w.modSl n f) = view K Z w := by
  simp only [view, keep_true h (w.modSl n f).sl w.sl]
  rfl
theorem view_modAdc (w : Work) (n : Nat) (f : Adc → Adc) (h : K .adc = true) : view K Z (w.modAdc n f) = view K Z w := by
  simp only [view, keep_true h (w.modAdc n f).adc w.adc]
  rfl
theorem view_modNet (w : Work) (f : NetSt → NetSt) (h : K .net = true) : view K Z (w.modNet f) = view K Z w := by
  simp only [view, keep_true h (w.modNet f).net w.net]
  rfl
theorem view_modHearth (w : Work) (f : HearthSt → HearthSt) (h : K .hearth = true) : view K Z (w.modHearth f) = view K Z w := by
  simp only [view, keep_true h (w.modHearth f).hearth w.hearth]
  rfl
theorem view_modTwin (w : Work) (f : TwinSt → TwinSt) (h : K .twin = true) : view K Z (w.modTwin f) = view K Z w := by
  simp only [view, keep_true h (w.modTwin f).twin w.twin]
  rfl
theorem view_modTwinRg (w : Work) (n : Nat) (f : TwinRg → TwinRg) (h : K .twin = true) : view K Z (w.modTwinRg n f) = view K Z w := by
  simp only [view, keep_true h (w.modTwinRg n f).twin w.twin]
  rfl
theorem view_modChop (w : Work) (n : Nat) (f : ChopSt → ChopSt) (h : K .chop = true) : view K Z (w.modChop n f) = view K Z w := by
  simp only [view, keep_true h (w.modChop n f).chop w.chop]
  rfl
theorem view_modKin (w : Work) (f : KinSt → KinSt) (h : K .kin = true) : view K Z (w.modKin f) = view K Z w := by
  simp only [view, keep_true h (w.modKin f).kin w.kin]
  rfl
theorem view_modEmber (w : Work) (f : EmberSt → EmberSt) (h : K .ember = true) : view K Z (w.modEmber f) = view K Z w := by
  simp only [view, keep_true h (w.modEmber f).ember w.ember]
  rfl
theorem view_modTherm (w : Work) (f : ThermSt → ThermSt) (h : K .therm = true) : view K Z (w.modTherm f) = view K Z w := by
  simp only [view, keep_true h (w.modTherm f).therm w.therm]
  rfl
theorem view_modSec (w : Work) (f : SecSt → SecSt) (h : K .sec = true) : view K Z (w.modSec f) = view K Z w := by
  simp only [view, keep_true h (w.modSec f).sec w.sec]
  rfl
theorem view_modSwap (w : Work) (f : SwapSt → SwapSt) (h : K .swap = true) : view K Z (w.modSwap f) = view K Z w := by
  simp only [view, keep_true h (w.modSwap f).swap w.swap]
  rfl
theorem view_modTout (w : Work) (n : Nat) (f : Tout → Tout) (h : K .tout = true) : view K Z (w.modTout n f) = view K Z w := by
  simp only [view, keep_true h (w.modTout n f).tout w.tout]
  rfl
theorem view_setCap (w : Work) (n : Nat) (r : Option CapRec) (h : K .cap = true) : view K Z (w.setCap n r) = view K Z w := by
  simp only [view, keep_true h (w.setCap n r).cap w.cap]
  rfl
theorem view_modEthRx (w : Work) (n : Nat) (f : List PtpTs → List PtpTs) (h : K .ethRx = true) : view K Z (w.modEthRx n f) = view K Z w := by
  simp only [view, keep_true h (w.modEthRx n f).ethRx w.ethRx]
  rfl
theorem view_modEthTx (w : Work) (n : Nat) (f : List PtpTs → List PtpTs) (h : K .ethTx = true) : view K Z (w.modEthTx n f) = view K Z w := by
  simp only [view, keep_true h (w.modEthTx n f).ethTx w.ethTx]
  rfl
theorem view_modQ (w : Work) (n : Nat) (f : EqQ → EqQ) (h : K .eq = true) : view K Z (w.modQ n f) = view K Z w := by
  simp only [view, keep_true h (w.modQ n f).eq w.eq]
  rfl
theorem view_modRec (w : Work) (f : RecSt → RecSt) (h : K .recd = true) : view K Z (w.modRec f) = view K Z w := by
  simp only [view, keep_true h (w.modRec f).recd w.recd]
  rfl
theorem view_latch (w : Work) (a : Nat) (h : K .latched = true) : view K Z (w.latch a) = view K Z w := by
  simp only [view, keep_true h (w.latch a).latched w.latched]
  rfl
theorem view_dropShadow (w : Work) (p : Nat → Bool) (h : K .shadow = true) : view K Z (w.dropShadow p) = view K Z w := by
  simp only [view, keep_true h (w.dropShadow p).shadow w.shadow]
  rfl
theorem view_dropLatched (w : Work) (p : Nat → Bool) (h : K .latched = true) : view K Z (w.dropLatched p) = view K Z w := by
  simp only [view, keep_true h (w.dropLatched p).latched w.latched]
  rfl
theorem view_useFree (w : Work) (n : Nat) (h : K .freeCtr = true) : view K Z (w.useFree n) = view K Z w := by
  simp only [view, keep_true h (w.useFree n).freeCtr w.freeCtr]
  rfl
theorem view_dramPut (w : Work) (a : Nat) (bs : List Byte) (h : K .dram = true) (hb : K .bad = true) :
    view K Z (w.dramPut a bs) = view K Z w := by
  simp only [view, keep_true h (w.dramPut a bs).dram w.dram, keep_true hb (w.dramPut a bs).bad w.bad]
  rfl
theorem view_sramPut (w : Work) (a : Nat) (ds : List Word) (h : K .sram = true) (hb : K .bad = true) :
    view K Z (w.sramPut a ds) = view K Z w := by
  simp only [view, keep_true h (w.sramPut a ds).sram w.sram, keep_true hb (w.sramPut a ds).bad w.bad]
  rfl
theorem view_setAin (w : Work) (k : Nat) (v : Rat) (h : K .ain = true) : view K Z (w.setAin k v) = view K Z w := by
  simp only [view, keep_true h (w.setAin k v).ain w.ain]
  rfl
theorem view_markBad (w : Work) (m k : Nat) (h : K .bad = true) : view K Z (w.markBad m k) = view K Z w := by
  simp only [view, keep_true h (w.markBad m k).bad w.bad]
  rfl
theorem view_hold (w : Work) (c : Instr) (h : K .held = true) : view K Z (w.hold c) = view K Z w := by
  simp only [view, keep_true h (w.hold c).held w.held]
  rfl
theorem view_setShut (w : Work) (b : Bool) (h : K .shut = true) : view K Z (w.setShut b) = view K Z w := by
  simp only [view, keep_true h (w.setShut b).shut w.shut]
  rfl
theorem view_dropHeld (w : Work) (h : K .held = true) : view K Z (w.dropHeld) = view K Z w := by
  simp only [view, keep_true h (w.dropHeld).held w.held]
  rfl

/-! ### The operations of Machine/Ops.lean -/

theorem view_wr (w : Work) (pg : Nat) (f : Field) (v i : Nat) (hp : pg % 0x1000 = 0) (hz : Z (zoneOf pg) = true) :
    view K Z (w.wr pg f v i) = view K Z w := view_put _ _ _ (by rw [zoneOf_field _ _ _ hp]; exact hz)

theorem view_count (w : Work) (pg : Nat) (f : Field) (n i : Nat) (hp : pg % 0x1000 = 0)
    (hz : Z (zoneOf pg) = true) : view K Z (w.count pg f n i) = view K Z w := view_wr _ _ _ _ _ hp hz

theorem view_setBit (w : Work) (pg : Nat) (f : Field) (b i : Nat) (hp : pg % 0x1000 = 0)
    (hz : Z (zoneOf pg) = true) : view K Z (w.setBit pg f b i) = view K Z w := by
  unfold Work.setBit
  split
  · rfl
  · exact view_wr _ _ _ _ _ hp hz

theorem view_clrBit (w : Work) (pg : Nat) (f : Field) (b i : Nat) (hp : pg % 0x1000 = 0)
    (hz : Z (zoneOf pg) = true) : view K Z (w.clrBit pg f b i) = view K Z w := by
  unfold Work.clrBit
  split
  · exact view_wr _ _ _ _ _ hp hz
  · rfl

theorem view_putBit (w : Work) (pg : Nat) (f : Field) (b : Nat) (v : Bool) (i : Nat) (hp : pg % 0x1000 = 0)
    (hz : Z (zoneOf pg) = true) : view K Z (w.putBit pg f b v i) = view K Z w := by
  unfold Work.putBit
  split
  · exact view_setBit _ _ _ _ _ hp hz
  · exact view_clrBit _ _ _ _ _ hp hz

theorem view_stamp (w : Work) (pg : Nat) (f g : Field) (t : Time) (hp : pg % 0x1000 = 0)
    (hz : Z (zoneOf pg) = true) : view K Z (w.stamp pg f g t) = view K Z w := by
  rw [Work.stamp, view_wr _ _ _ _ _ hp hz, view_wr _ _ _ _ _ hp hz]

theorem view_badval (w : Work) (pg : Nat) (hp : pg % 0x1000 = 0) (hz : Z (zoneOf pg) = true) :
    view K Z (w.badval pg) = view K Z w := view_wr _ _ _ _ _ hp hz

theorem view_unlocked (w : Work) (pg : Nat) (f : Work → Work) (hp : pg % 0x1000 = 0) (hz : Z (zoneOf pg) = true)
    (hf : ∀ v, view K Z (f v) = view K Z v) : view K Z (w.unlocked pg f) = view K Z w := by
  unfold Work.unlocked
  split
  · exact view_wr _ _ _ _ _ hp hz
  · exact hf w

/-- A write at an offset of the page. -/
theorem view_put_page (w : Work) (pg x : Nat) (d : Word) (hx : x < 0x1000) (hp : pg % 0x1000 = 0)
    (hz : Z (zoneOf pg) = true) : view K Z (w.put (pg + x) d) = view K Z w :=
  view_put _ _ _ (by rw [zoneOf_add _ _ hp hx]; exact hz)

theorem view_when (w : Work) (c : Bool) (f : Work → Work) (hf : ∀ v, view K Z (f v) = view K Z v) :
    view K Z (w.when c f) = view K Z w := by
  unfold Work.when
  split
  · exact hf w
  · rfl

theorem view_each_mem {α : Type} (w : Work) (l : List α) (f : Work → α → Work)
    (hf : ∀ v a, a ∈ l → view K Z (f v a) = view K Z v) : view K Z (w.each l f) = view K Z w := by
  unfold Work.each
  induction l generalizing w with
  | nil => rfl
  | cons a l ih =>
    rw [List.foldl_cons, ih _ fun v b hb => hf v b (List.mem_cons_of_mem _ hb), hf _ _ List.mem_cons_self]

theorem view_each {α : Type} (w : Work) (l : List α) (f : Work → α → Work)
    (hf : ∀ v a, view K Z (f v a) = view K Z v) : view K Z (w.each l f) = view K Z w := by
  unfold Work.each
  induction l generalizing w with
  | nil => rfl
  | cons a l ih => rw [List.foldl_cons, ih, hf]

theorem view_foldl {α : Type} (w : Work) (l : List α) (f : Work → α → Work)
    (hf : ∀ v a, view K Z (f v a) = view K Z v) : view K Z (l.foldl f w) = view K Z w := view_each w l f hf

/-- The same of a fold that carries another value beside the device. -/
theorem view_foldl_pair {α β : Type} (x : Work × β) (l : List α) (f : Work × β → α → Work × β)
    (hf : ∀ x a, view K Z (f x a).1 = view K Z x.1) : view K Z (l.foldl f x).1 = view K Z x.1 := by
  induction l generalizing x with
  | nil => rfl
  | cons a l ih => rw [List.foldl_cons, ih, hf]

theorem view_ite (c : Prop) [Decidable c] (a b : Work) :
    view K Z (if c then a else b) = if c then view K Z a else view K Z b := by split <;> rfl

theorem view_msix (w : Work) (v : Nat) (h : K .out = true) : view K Z (w.msix v) = view K Z w := view_emit _ _ h

theorem view_event (w : Work) (cls pg : Nat) (l : List Nat) (h : K .events = true) :
    view K Z (w.event cls pg l) = view K Z w := view_setEvents _ _ h

theorem view_dropRegs (w : Work) (p : Nat → Bool) (h : ∀ a, p a = true → Z (zoneOf a) = true) :
    view K Z (w.dropRegs p) = view K Z w := by
  apply view_regs rfl
  intro a ha
  rw [Work.word, Work.dropRegs, cellsGet_drop]
  split
  · rename_i hp
    simp [h a hp] at ha
  · rfl

theorem view_freshWord (w : Work) (h : K .freeCtr = true) : view K Z w.freshWord.1 = view K Z w := view_useFree _ _ h

theorem view_fltTo (w : Work) (pg : Nat) (cls : FaultClass) (bit : Nat) (dst : Option (Coll × Nat)) (info : Word)
    (hp : pg % 0x1000 = 0) (hz : Z (zoneOf pg) = true) (h1 : K .out = true) (h2 : K .flue = true) (h3 : K .lines = true) :
    view K Z (w.fltTo pg cls bit dst info) = view K Z w := by
  unfold Work.fltTo
  dsimp only
  repeat' split
  all_goals simp only [↓view_setLines, ↓view_setFlue, ↓view_msix, ↓view_when, ↓view_setBit, ↓view_wr, hp, hz, h1, h2, h3, implies_true]

theorem view_flt (w : Work) (pg : Nat) (cls : FaultClass) (bit : Nat) (info : Word)
    (hp : pg % 0x1000 = 0) (hz : Z (zoneOf pg) = true) (h1 : K .out = true) (h2 : K .flue = true) (h3 : K .lines = true) :
    view K Z (w.flt pg cls bit info) = view K Z w := view_fltTo _ _ _ _ _ _ hp hz h1 h2 h3

theorem view_injDone (w : Work) (pg : Nat) (hit : Bool) (hp : pg % 0x1000 = 0) (hz : Z (zoneOf pg) = true)
    (hh : Z (.page .hrt) = true) : view K Z (w.injDone pg hit) = view K Z w := by
  unfold Work.injDone
  split <;> simp only [↓view_wr, ↓view_count, mod_pgHRT, zone_pgHRT, hp, hz, hh]

theorem view_injEcc (w : Work) (pg chk : Nat) (e : Ecc) (hp : pg % 0x1000 = 0) (hz : Z (zoneOf pg) = true)
    (hh : Z (.page .hrt) = true) : view K Z (w.injEcc pg chk e).1 = view K Z w := by
  unfold Work.injEcc
  split
  · cases e <;> simp only [↓view_injDone, hp, hz, hh]
  · rfl

/-! ### What an equal view says -/

theorem word_of_view {w v : Work} (h : view K Z v = view K Z w) (a : Nat) (ha : Z (zoneOf a) = false) :
    v.word a = w.word a := by
  have := congrFun (congrArg View.word h) a
  simpa [view, ha] using this

theorem rd_of_view {w v : Work} (h : view K Z v = view K Z w) (pg : Nat) (f : Field) (i : Nat)
    (hp : pg % 0x1000 = 0) (ha : Z (zoneOf pg) = false) : v.rd pg f i = w.rd pg f i := by
  rw [Work.rd, Work.rd, word_of_view h _ (by rw [zoneOf_field _ _ _ hp]; exact ha)]

end Sys2Proof.Machine
end

