-- ==== Sys2Proof/Laws/Regs.lean ====
section
/-! SUPPORT. What a command answers, read through its work on the device: registers of the state, faults, and the parts
of the device that an equal view keeps. -/

namespace Sys2Proof.Machine

/-! ### The state through its device -/

@[simp] theorem State.word_onDev (s : State) (f : Work → Work) (a : Nat) : (s.onDev f).word a = (f s.work).word a := rfl
@[simp] theorem State.rd_onDev (s : State) (f : Work → Work) (pg : Nat) (g : Field) (i : Nat) :
    (s.onDev f).rd pg g i = (f s.work).rd pg g i := rfl
@[simp] theorem State.tally_onDev (s : State) (f : Work → Work) : (s.onDev f).tally = s.tally := rfl
@[simp] theorem State.pending_onDev (s : State) (f : Work → Work) : (s.onDev f).pending = s.pending := rfl
@[simp] theorem State.dev_onDev (s : State) (f : Work → Work) : (s.onDev f).dev = (f s.work).toDev := rfl
@[simp] theorem State.dev_setTally (s : State) (t : Tally) : (s.setTally t).dev = s.dev := rfl
@[simp] theorem State.tally_setTally (s : State) (t : Tally) : (s.setTally t).tally = t := rfl
@[simp] theorem State.pending_setTally (s : State) (t : Tally) : (s.setTally t).pending = s.pending := rfl
@[simp] theorem State.rd_setTally (s : State) (t : Tally) (pg : Nat) (g : Field) (i : Nat) : (s.setTally t).rd pg g i = s.rd pg g i := rfl
@[simp] theorem State.word_setTally (s : State) (t : Tally) (a : Nat) : (s.setTally t).word a = s.word a := rfl
@[simp] theorem State.work_dev (s : State) : s.work.toDev = s.dev := rfl
@[simp] theorem State.work_now (s : State) : s.work.now = s.tally.a := rfl
theorem State.rd_work (s : State) (pg : Nat) (g : Field) (i : Nat) : s.work.rd pg g i = s.rd pg g i := rfl
theorem State.word_work (s : State) (a : Nat) : s.work.word a = s.word a := rfl
theorem State.on_work (s : State) (pg : Nat) (g : Field) (i : Nat) : (s.work.on pg g i = true) = s.on pg g i := by
  simp only [State.on, Work.on, bne_iff_ne, State.rd_work]
theorem State.not_on_work (s : State) (pg : Nat) (g : Field) (i : Nat) : (s.work.on pg g i = false) = ¬ s.on pg g i := by
  rw [← State.on_work, Bool.not_eq_true]

/-- A command that changes the device alone completes. -/
theorem runs_dev {c : Instr} {s : State} {f : Work → Work} {p : State → Prop} (h : exec c s = nextDev s f)
    (hp : p (s.onDev f)) : Runs c s p := ⟨_, h, hp⟩

/-- A command completes in the state it answers. -/
theorem runs_of {c : Instr} {s t : State} {p : State → Prop} (h : exec c s = .next t) (hp : p t) : Runs c s p := ⟨t, h, hp⟩

/-! ### Dwords that stay -/

theorem rd_congr {w v : Work} {pg : Nat} {f : Field} {i : Nat} (h : w.word (pg + f.at i) = v.word (pg + f.at i)) :
    w.rd pg f i = v.rd pg f i := by rw [Work.rd, Work.rd, h]

/-! ### Faults -/

/-- A raised fault shows its class flag. -/
theorem rd_flt_class (w : Work) (pg : Nat) (cls : FaultClass) (bit : Nat) (info : Word) :
    (w.flt pg cls bit info).rd pg (clsField cls) = 1 := by
  have hl : (clsField cls).lo + (clsField cls).wid ≤ 16 := by cases cls <;> decide
  have h1 : ((w.wr pg (clsField cls) 1).setBit pg HDR_FLT_CAUSE (bit - 16)).rd pg (clsField cls) = 1 := by
    unfold Work.setBit
    split
    · rw [rd_wr_same _ _ _ _ _ (by omega)]; cases cls <;> rfl
    · rw [rd_wr_disj _ _ _ _ _ _ _ _ (.inr (by rw [show HDR_FLT_CAUSE.lo = 16 from rfl]; exact hl)), rd_wr_same _ _ _ _ _ (by omega)]
      cases cls <;> rfl
  unfold Work.flt Work.fltTo
  dsimp only
  split <;> (try split) <;> (try split) <;> unfold Work.when <;> split <;> simp [h1]

/-- A raised fault shows its cause bit; the others stay. -/
theorem cause_flt (w : Work) (pg : Nat) (cls : FaultClass) (bit : Nat) (info : Word) (k : Nat) (hb : bit < 32) (hb2 : 16 ≤ bit) :
    ((w.flt pg cls bit info).rd pg HDR_FLT_CAUSE).testBit k = ((w.rd pg HDR_FLT_CAUSE).testBit k || decide (k = bit - 16)) := by
  have h1 : (((w.wr pg (clsField cls) 1).setBit pg HDR_FLT_CAUSE (bit - 16)).rd pg HDR_FLT_CAUSE).testBit k =
      ((w.rd pg HDR_FLT_CAUSE).testBit k || decide (k = bit - 16)) := by
    rw [testBit_setBit _ _ _ _ _ _ (by decide) (by rw [show HDR_FLT_CAUSE.wid = 16 from rfl]; omega),
      rd_wr_disj _ _ _ _ _ _ _ _ (.inl (by cases cls <;> decide))]
  unfold Work.flt Work.fltTo
  dsimp only
  split <;> (try split) <;> (try split) <;> unfold Work.when <;> split <;> simp [h1]

/-- A fault writes no dword but the FLT of its page. -/
theorem word_flt_ne (w : Work) (pg : Nat) (cls : FaultClass) (bit : Nat) (info : Word) (a : Nat) (h : a ≠ pg + 0x010) :
    (w.flt pg cls bit info).word a = w.word a := word_fltTo_ne _ _ _ _ _ _ _ h

theorem rd_flt_ne (w : Work) (pg : Nat) (cls : FaultClass) (bit : Nat) (info : Word) (qg : Nat) (f : Field) (i : Nat)
    (h : qg + f.at i ≠ pg + 0x010) : (w.flt pg cls bit info).rd qg f i = w.rd qg f i :=
  rd_congr (word_flt_ne _ _ _ _ _ _ h)

/-- An unmasked fault sends one report to its collector. -/
theorem flue_flt (w : Work) (pg : Nat) (cls : FaultClass) (bit : Nat) (info : Word) (c : Coll) (i : Nat)
    (hc : fltColl pg = some (c, i)) (hm : w.fltMasked pg cls = false) :
    (w.flt pg cls bit info).flue = w.flue ++ [⟨c, i, ⟨cls, pg / 0x1000, bit, info⟩⟩] := by
  unfold Work.flt Work.fltTo
  have hv : ((w.wr pg (clsField cls) 1).setBit pg HDR_FLT_CAUSE (bit - 16)).flue = w.flue := by
    unfold Work.setBit; split <;> rfl
  generalize ((w.wr pg (clsField cls) 1).setBit pg HDR_FLT_CAUSE (bit - 16)) = v at hv ⊢
  simp only [hc, hm, Bool.false_eq_true, if_false]
  rw [← hv]
  unfold Work.when
  split <;> split <;> rfl

/-- A FATAL drives its line to the Hearth; nothing else does. -/
theorem lines_flt (w : Work) (pg : Nat) (cls : FaultClass) (bit : Nat) (info : Word) :
    (w.flt pg cls bit info).lines = w.lines ++ (if cls = .fatal then [⟨cls, pg / 0x1000, bit, info⟩] else []) := by
  unfold Work.flt Work.fltTo
  have hv : ((w.wr pg (clsField cls) 1).setBit pg HDR_FLT_CAUSE (bit - 16)).lines = w.lines := by
    unfold Work.setBit; split <;> rfl
  generalize ((w.wr pg (clsField cls) 1).setBit pg HDR_FLT_CAUSE (bit - 16)) = v at hv ⊢
  rw [← hv]
  dsimp only
  unfold Work.when
  (repeat' split) <;> first | rfl | exact (List.append_nil _).symm

/-! ### Dwords outside a list -/

/-- Every dword outside `l` is the same in both. -/
def Work.Keeps (l : List Nat) (w v : Work) : Prop := ∀ a, a ∉ l → v.word a = w.word a

theorem DwordsKept_of_keeps {l : List Nat} {s : State} {f : Work → Work} (h : s.work.Keeps l (f s.work)) :
    DwordsKept l s (s.onDev f) := h

variable {l : List Nat} {w v : Work}

theorem ne_of_not_mem {a b : Nat} (hb : b ∉ l) (hm : a ∈ l) : b ≠ a := by
  rintro rfl
  exact hb hm

theorem keeps_refl : w.Keeps l w := fun _ _ => rfl
theorem keeps_put {a : Nat} {d : Word} (h : w.Keeps l v) (hm : a ∈ l) : w.Keeps l (v.put a d) := fun b hb => by
  rw [word_put_ne _ _ _ _ (ne_of_not_mem hb hm), h b hb]
theorem keeps_wr {pg : Nat} {f : Field} {x i : Nat} (h : w.Keeps l v) (hm : pg + f.at i ∈ l) : w.Keeps l (v.wr pg f x i) :=
  keeps_put h hm
theorem keeps_count {pg : Nat} {f : Field} {n i : Nat} (h : w.Keeps l v) (hm : pg + f.at i ∈ l) : w.Keeps l (v.count pg f n i) :=
  keeps_put h hm
theorem keeps_badval {pg : Nat} (h : w.Keeps l v) (hm : pg + HDR_STAT_BADVAL.at 0 ∈ l) : w.Keeps l (v.badval pg) := keeps_put h hm
theorem keeps_setBit {pg : Nat} {f : Field} {b i : Nat} (h : w.Keeps l v) (hm : pg + f.at i ∈ l) :
    w.Keeps l (v.setBit pg f b i) := fun a ha => by
  rw [word_setBit_ne _ _ _ _ _ _ (ne_of_not_mem ha hm), h a ha]
theorem keeps_clrBit {pg : Nat} {f : Field} {b i : Nat} (h : w.Keeps l v) (hm : pg + f.at i ∈ l) :
    w.Keeps l (v.clrBit pg f b i) := fun a ha => by
  rw [word_clrBit_ne _ _ _ _ _ _ (ne_of_not_mem ha hm), h a ha]
theorem keeps_fltTo {pg : Nat} {cls : FaultClass} {bit : Nat} {dst : Option (Coll × Nat)} {info : Word} (h : w.Keeps l v)
    (hm : pg + 0x010 ∈ l) : w.Keeps l (v.fltTo pg cls bit dst info) := fun a ha => by
  rw [word_fltTo_ne _ _ _ _ _ _ _ (ne_of_not_mem ha hm), h a ha]
theorem keeps_flt {pg : Nat} {cls : FaultClass} {bit : Nat} {info : Word} (h : w.Keeps l v)
    (hm : pg + 0x010 ∈ l) : w.Keeps l (v.flt pg cls bit info) := keeps_fltTo h hm
/-- An operation that writes no register. -/
theorem keeps_of_word {u : Work} (h : w.Keeps l v) (e : u.word = v.word) : w.Keeps l u := fun a ha => by
  rw [congrFun e a, h a ha]
theorem keeps_when {c : Bool} {g : Work → Work} (h : w.Keeps l v) (hg : w.Keeps l (g v)) : w.Keeps l (v.when c g) := by
  unfold Work.when
  split
  · exact hg
  · exact h
theorem keeps_trans {u : Work} (h : w.Keeps l v) (g : v.Keeps l u) : w.Keeps l u := fun a ha => (g a ha).trans (h a ha)
theorem keeps_each {α : Type} {xs : List α} {g : Work → α → Work} (h : w.Keeps l v) (hg : ∀ (u : Work) (x : α), x ∈ xs → u.Keeps l (g u x)) :
    w.Keeps l (v.each xs g) := by
  refine keeps_trans h ?_
  unfold Work.each
  clear h
  induction xs generalizing v with
  | nil => exact keeps_refl
  | cons x xs ih => exact keeps_trans (hg v x List.mem_cons_self) (ih (fun u y hy => hg u y (List.mem_cons_of_mem _ hy)))

/-! ### Kinds and zones that a view keeps -/

variable {K : Kind → Bool} {Z : Zone → Bool}

theorem keep_false {α : Type} {b : Bool} {x y : α} (h : keep b x = keep b y) (hb : b = false) : x = y := by
  simpa [keep, hb] using h

/-- A kind that the view keeps is the same. -/
theorem same_of_view {w v : Work} (h : view K Z v = view K Z w) (k : Kind) (hk : K k = false) : k.same w.toDev v.toDev := by
  cases k
  · exact keep_false (congrArg View.shadow h) hk
  · exact keep_false (congrArg View.latched h) hk
  · exact keep_false (congrArg View.dram h) hk
  · exact keep_false (congrArg View.sram h) hk
  · exact keep_false (congrArg View.bad h) hk
  · exact keep_false (congrArg View.rgn h) hk
  · exact keep_false (congrArg View.clu h) hk
  · exact keep_false (congrArg View.unit h) hk
  · exact keep_false (congrArg View.lane h) hk
  · exact keep_false (congrArg View.sl h) hk
  · exact keep_false (congrArg View.adc h) hk
  · exact keep_false (congrArg View.ain h) hk
  · exact keep_false (congrArg View.cap h) hk
  · exact keep_false (congrArg View.tout h) hk
  · exact keep_false (congrArg View.ethRx h) hk
  · exact keep_false (congrArg View.ethTx h) hk
  · exact keep_false (congrArg View.flue h) hk
  · exact keep_false (congrArg View.lines h) hk
  · exact keep_false (congrArg View.events h) hk
  · exact keep_false (congrArg View.eq h) hk
  · exact keep_false (congrArg View.recd h) hk
  · exact keep_false (congrArg View.net h) hk
  · exact keep_false (congrArg View.hearth h) hk
  · exact keep_false (congrArg View.twin h) hk
  · exact keep_false (congrArg View.chop h) hk
  · exact keep_false (congrArg View.kin h) hk
  · exact keep_false (congrArg View.ember h) hk
  · exact keep_false (congrArg View.therm h) hk
  · exact keep_false (congrArg View.sec h) hk
  · exact keep_false (congrArg View.swap h) hk
  · exact keep_false (congrArg View.shut h) hk
  · exact keep_false (congrArg View.held h) hk
  · exact keep_false (congrArg View.out h) hk
  · exact keep_false (congrArg View.freeCtr h) hk

/-- The kinds and zones of a scope, as the view takes them. -/
theorem within_of_view (f : Scope) (s : State) (g : Work → Work)
    (h : ∀ w, view (fun k => decide (k ∈ f.kinds)) (fun z => decide (z ∈ f.zones)) (g w) =
      view (fun k => decide (k ∈ f.kinds)) (fun z => decide (z ∈ f.zones)) w) : Within f s (s.onDev g) := by
  constructor
  · intro k hk
    exact same_of_view (h s.work) k (by simpa using hk)
  · intro a ha
    exact word_of_view (h s.work) a (by simpa using ha)

end Sys2Proof.Machine
end

