-- ==== Sys2Proof/Laws/Tally.lean ====
section
/-! SUPPORT. The Tally: what a tick, an advance and an upset do to the counters. -/

namespace Sys2Proof.Machine

@[simp] theorem counters_a (t : Tally) (x y : Time) : (t.counters x y).a = x := rfl
@[simp] theorem counters_b (t : Tally) (x y : Time) : (t.counters x y).b = y := rfl
@[simp] theorem counters_incNs (t : Tally) (x y : Time) : (t.counters x y).incNs = t.incNs := rfl
@[simp] theorem counters_incFrac (t : Tally) (x y : Time) : (t.counters x y).incFrac = t.incFrac := rfl
@[simp] theorem counters_staged (t : Tally) (x y : Time) : (t.counters x y).staged = t.staged := rfl
@[simp] theorem counters_running (t : Tally) (x y : Time) : (t.counters x y).running = t.running := rfl
@[simp] theorem counters_pll (t : Tally) (x y : Time) : (t.counters x y).pll = t.pll := rfl
@[simp] theorem counters_elapsed (t : Tally) (x y : Time) : (t.counters x y).elapsed = t.elapsed := rfl
@[simp] theorem elapse_a (t : Tally) (n r : Nat) (k : Bool) : (t.elapse n r k).a = t.a := rfl
@[simp] theorem elapse_b (t : Tally) (n r : Nat) (k : Bool) : (t.elapse n r k).b = t.b := rfl
@[simp] theorem elapse_incNs (t : Tally) (n r : Nat) (k : Bool) : (t.elapse n r k).incNs = t.incNs := rfl
@[simp] theorem elapse_incFrac (t : Tally) (n r : Nat) (k : Bool) : (t.elapse n r k).incFrac = t.incFrac := rfl
@[simp] theorem elapse_staged (t : Tally) (n r : Nat) (k : Bool) : (t.elapse n r k).staged = t.staged := rfl
@[simp] theorem elapse_running (t : Tally) (n r : Nat) (k : Bool) : (t.elapse n r k).running = t.running := rfl
@[simp] theorem elapse_settled (t : Tally) (n r : Nat) (k : Bool) : (t.elapse n r k).pll.settled = t.pll.settled := rfl
@[simp] theorem elapse_inUse (t : Tally) (n r : Nat) (k : Bool) : (t.elapse n r k).pll.inUse = t.pll.inUse := rfl
@[simp] theorem elapse_target (t : Tally) (n r : Nat) (k : Bool) : (t.elapse n r k).pll.target = t.pll.target := rfl
@[simp] theorem elapse_lockDet (t : Tally) (n r : Nat) (k : Bool) : (t.elapse n r k).pll.lockDet = t.pll.lockDet := rfl
@[simp] theorem elapse_closed (t : Tally) (n r : Nat) (k : Bool) : (t.elapse n r k).pll.closed = t.pll.closed := rfl
@[simp] theorem elapse_sinceRef (t : Tally) (n r : Nat) (k : Bool) : (t.elapse n r k).pll.sinceRef = r := rfl
@[simp] theorem elapse_elapsed (t : Tally) (n r : Nat) (k : Bool) : (t.elapse n r k).elapsed = t.elapsed + n := rfl

/-- A tick and an advance change nothing of the Tally but the counters, the count of ticks and the PLL's. -/
@[simp] theorem advance_a (t : Tally) (d : Nat) (u : List (Fin 110)) : (t.advance d u).a = timeAdd t.a d := by rw [Tally.advance, counters_a]
@[simp] theorem advance_b (t : Tally) (d : Nat) (u : List (Fin 110)) : (t.advance d u).b = timeUpset (timeAdd t.b d) u := by rw [Tally.advance, counters_b]
@[simp] theorem advance_incNs (t : Tally) (d : Nat) (u : List (Fin 110)) : (t.advance d u).incNs = t.incNs := by rw [Tally.advance, counters_incNs]
@[simp] theorem advance_incFrac (t : Tally) (d : Nat) (u : List (Fin 110)) : (t.advance d u).incFrac = t.incFrac := by rw [Tally.advance, counters_incFrac]
@[simp] theorem advance_staged (t : Tally) (d : Nat) (u : List (Fin 110)) : (t.advance d u).staged = t.staged := by rw [Tally.advance, counters_staged]
@[simp] theorem advance_running (t : Tally) (d : Nat) (u : List (Fin 110)) : (t.advance d u).running = t.running := by rw [Tally.advance, counters_running]
@[simp] theorem advance_pll (t : Tally) (d : Nat) (u : List (Fin 110)) : (t.advance d u).pll = t.pll := by rw [Tally.advance, counters_pll]
@[simp] theorem advance_elapsed (t : Tally) (d : Nat) (u : List (Fin 110)) : (t.advance d u).elapsed = t.elapsed := by rw [Tally.advance, counters_elapsed]
@[simp] theorem tick_a (t : Tally) (u : List (Fin 110)) (k : Bool) : (t.tick u k).a = timeAdd t.a t.inc := by
  rw [Tally.tick, elapse_a, advance_a]
@[simp] theorem tick_b (t : Tally) (u : List (Fin 110)) (k : Bool) : (t.tick u k).b = timeUpset (timeAdd t.b t.inc) u := by
  rw [Tally.tick, elapse_b, advance_b]
@[simp] theorem tick_incNs (t : Tally) (u : List (Fin 110)) (k : Bool) : (t.tick u k).incNs = t.incNs := by
  rw [Tally.tick, elapse_incNs, advance_incNs]
@[simp] theorem tick_incFrac (t : Tally) (u : List (Fin 110)) (k : Bool) : (t.tick u k).incFrac = t.incFrac := by
  rw [Tally.tick, elapse_incFrac, advance_incFrac]
@[simp] theorem tick_staged (t : Tally) (u : List (Fin 110)) (k : Bool) : (t.tick u k).staged = t.staged := by
  rw [Tally.tick, elapse_staged, advance_staged]
@[simp] theorem tick_running (t : Tally) (u : List (Fin 110)) (k : Bool) : (t.tick u k).running = t.running := by
  rw [Tally.tick, elapse_running, advance_running]
@[simp] theorem tick_closed (t : Tally) (u : List (Fin 110)) (k : Bool) : (t.tick u k).pll.closed = t.pll.closed := by
  rw [Tally.tick, elapse_closed, advance_pll]
@[simp] theorem tick_settled (t : Tally) (u : List (Fin 110)) (k : Bool) : (t.tick u k).pll.settled = t.pll.settled := by
  rw [Tally.tick, elapse_settled, advance_pll]
@[simp] theorem tick_inUse (t : Tally) (u : List (Fin 110)) (k : Bool) : (t.tick u k).pll.inUse = t.pll.inUse := by
  rw [Tally.tick, elapse_inUse, advance_pll]
@[simp] theorem tick_target (t : Tally) (u : List (Fin 110)) (k : Bool) : (t.tick u k).pll.target = t.pll.target := by
  rw [Tally.tick, elapse_target, advance_pll]
@[simp] theorem tick_lockDet (t : Tally) (u : List (Fin 110)) (k : Bool) : (t.tick u k).pll.lockDet = t.pll.lockDet := by
  rw [Tally.tick, elapse_lockDet, advance_pll]

/-- Adding an increment keeps the parts in their registers, and adds it to the whole (R121). -/
theorem timeAdd_legal (t : Time) (d : Nat) : TimeLegal (timeAdd t d) := by
  unfold timeAdd TimeLegal; dsimp only; omega

theorem timeAdd_units (t : Time) (d : Nat) : units (timeAdd t d) = (units t + d) % tallyPeriod := by
  unfold timeAdd units tallyPeriod; dsimp only; omega

/-- The comparator word holds the whole time. -/
theorem timeOfCode_timeCode (t : Time) (h : TimeLegal t) : timeOfCode (timeCode t) = t := by
  obtain ⟨h1, h2, h3⟩ := h
  have e1 : ∀ s n f : Nat, s < 2 ^ 48 → n < 1000000000 → f < 2 ^ 32 →
      (f + n * 2 ^ 32 + s * 2 ^ 62) / 2 ^ 62 % 2 ^ 48 = s := by intros; omega
  have e2 : ∀ s n f : Nat, n < 1000000000 → f < 2 ^ 32 → (f + n * 2 ^ 32 + s * 2 ^ 62) / 2 ^ 32 % 2 ^ 30 = n := by
    intros; omega
  have e3 : ∀ s n f : Nat, f < 2 ^ 32 → (f + n * 2 ^ 32 + s * 2 ^ 62) % 2 ^ 32 = f := by intros; omega
  unfold timeOfCode timeCode
  rw [e1 _ _ _ h1 h2 h3, e2 _ _ _ h2 h3, e3 _ _ _ h3]

theorem timeUpset_nil (t : Time) (h : TimeLegal t) : timeUpset t [] = t := by
  unfold timeUpset
  rw [List.foldl_nil]
  exact timeOfCode_timeCode t h

end Sys2Proof.Machine
end

