-- ==== Sys2Proof/Laws/ViewFence.lean ====
section
/-! SUPPORT. What each operation of Machine/Fence.lean can write: the view without those kinds and zones is as it was. -/

set_option linter.unusedSimpArgs false
set_option linter.unreachableTactic false
set_option linter.unusedTactic false
set_option linter.unnecessarySeqFocus false

namespace Sys2Proof.Machine

variable {K : Kind → Bool} {Z : Zone → Bool}

theorem view_fenceCount (w : Work) (busy : Bool) (z_pkg : Z (.page .pkg) = true) :
    view K Z (Work.fenceCount w busy) = view K Z w := by
  unfold Work.fenceCount
  (try simp (maxDischargeDepth := 9) only [↓view_ite, ite_self, implies_true, id_eq, ↓view_count, zone_pgPKG, mod_pgPKG, z_pkg]) <;> (repeat' split) <;> first | rfl | simp (maxDischargeDepth := 9) only [↓view_ite, ite_self, implies_true, id_eq, ↓view_count, zone_pgPKG, mod_pgPKG, z_pkg]

theorem view_fabErr (w : Work) (fence : ℕ) (busy : Bool) (write : Bool) (off : ℕ) (z_host : Z (.page .host) = true) (z_pkg : Z (.page .pkg) = true) :
    view K Z (Work.fabErr w fence busy write off) = view K Z w := by
  unfold Work.fabErr
  (try simp (maxDischargeDepth := 9) only [↓view_ite, ite_self, implies_true, id_eq, ↓view_fenceCount, ↓view_wr, zone_pgHOST, mod_pgHOST, z_host, z_pkg]) <;> (repeat' split) <;> first | rfl | simp (maxDischargeDepth := 9) only [↓view_ite, ite_self, implies_true, id_eq, ↓view_fenceCount, ↓view_wr, zone_pgHOST, mod_pgHOST, z_host, z_pkg]

theorem view_discard (w : Work) (z_pkg : Z (.page .pkg) = true) :
    view K Z (Work.discard w) = view K Z w := by
  unfold Work.discard
  (try simp (maxDischargeDepth := 9) only [↓view_ite, ite_self, implies_true, id_eq, ↓view_count, zone_pgPKG, mod_pgPKG, z_pkg]) <;> (repeat' split) <;> first | rfl | simp (maxDischargeDepth := 9) only [↓view_ite, ite_self, implies_true, id_eq, ↓view_count, zone_pgPKG, mod_pgPKG, z_pkg]

/-- The throttled step itself, or the hold. -/
theorem view_throttle (w : Work) (c : Instr) (f : Work → Work) (hf : ∀ v : Work, view K Z (f v) = view K Z v) (h_held : K .held = true) :
    view K Z (Work.throttle w c f) = view K Z w := by
  unfold Work.throttle
  split
  · exact view_hold _ _ h_held
  · exact hf w

theorem view_reach (w : Work) (a : Nat) (f : Work → Work) (hf : ∀ v : Work, view K Z (f v) = view K Z v)
    (z_host : Z (.page .host) = true) (z_pkg : Z (.page .pkg) = true) :
    view K Z (Work.reach w a f) = view K Z w := by
  unfold Work.reach
  split
  · exact view_fabErr _ _ _ _ _ z_host z_pkg
  · exact hf w

theorem view_hostAct (w : Work) (c : Instr) (a : Nat) (f : Work → Work) (hf : ∀ v : Work, view K Z (f v) = view K Z v)
    (h_held : K .held = true) (z_host : Z (.page .host) = true) (z_pkg : Z (.page .pkg) = true) :
    view K Z (Work.hostAct w c a f) = view K Z w :=
  view_throttle _ _ _ (fun v => view_reach v a f hf z_host z_pkg) h_held

theorem view_hostGet (w : Work) (c : Instr) (a : Nat) (f : Work → Work) (hf : ∀ v : Work, view K Z (f v) = view K Z v)
    (h_held : K .held = true) (h_out : K .out = true) (z_host : Z (.page .host) = true) (z_pkg : Z (.page .pkg) = true) :
    view K Z (Work.hostGet w c a f) = view K Z w := by
  refine view_throttle _ _ _ (fun v => ?_) h_held
  split
  · rw [view_emit _ _ h_out, view_fabErr _ _ _ _ _ z_host z_pkg]
  · exact hf v

end Sys2Proof.Machine
end

