-- ==== Sys2Proof/Laws/ViewRecorder.lean ====
section
/-! SUPPORT. What each operation of Machine/Recorder.lean can write: the view without those kinds and zones is as it was. -/

set_option linter.unusedSimpArgs false
set_option linter.unreachableTactic false
set_option linter.unusedTactic false
set_option linter.unnecessarySeqFocus false

namespace Sys2Proof.Machine

variable {K : Kind → Bool} {Z : Zone → Bool}

theorem view_sealView (w : Work) (n : ℕ) (h_rgn : K .rgn = true) :
    view K Z (Work.sealView w n) = view K Z w := by
  unfold Work.sealView
  (try simp (maxDischargeDepth := 9) only [↓view_ite, ite_self, implies_true, id_eq, ↓view_modRg, h_rgn]) <;> (repeat' split) <;> first | rfl | simp (maxDischargeDepth := 9) only [↓view_ite, ite_self, implies_true, id_eq, ↓view_modRg, h_rgn]

theorem view_recIndex (w : Work) (k : ℕ) (i : ℕ) (b : ℤ) (h_bad : K .bad = true) (h_recd : K .recd = true) (h_sram : K .sram = true) (z_recorder : Z (.page .recorder) = true) :
    view K Z (Work.recIndex w k i b) = view K Z w := by
  unfold Work.recIndex
  (try simp (maxDischargeDepth := 9) only [↓view_ite, ite_self, implies_true, id_eq, ↓view_modRec, ↓view_wr, zone_pgREC, mod_pgREC, ↓view_sramPut, h_bad, h_recd, h_sram, z_recorder]) <;> (repeat' split) <;> first | rfl | simp (maxDischargeDepth := 9) only [↓view_ite, ite_self, implies_true, id_eq, ↓view_modRec, ↓view_wr, zone_pgREC, mod_pgREC, ↓view_sramPut, h_bad, h_recd, h_sram, z_recorder]

theorem view_recState (w : Work) (st : ℕ) (h_events : K .events = true) (z_recorder : Z (.page .recorder) = true) :
    view K Z (Work.recState w st) = view K Z w := by
  unfold Work.recState
  (try simp (maxDischargeDepth := 9) only [↓view_ite, ite_self, implies_true, id_eq, ↓view_when, ↓view_wr, zone_pgREC, mod_pgREC, ↓view_event, h_events, z_recorder]) <;> (repeat' split) <;> first | rfl | simp (maxDischargeDepth := 9) only [↓view_ite, ite_self, implies_true, id_eq, ↓view_when, ↓view_wr, zone_pgREC, mod_pgREC, ↓view_event, h_events, z_recorder]

theorem view_recArm (w : Work) (h_events : K .events = true) (h_recd : K .recd = true) (z_recorder : Z (.page .recorder) = true) :
    view K Z (Work.recArm w) = view K Z w := by
  unfold Work.recArm
  (try simp (maxDischargeDepth := 9) only [↓view_ite, ite_self, implies_true, id_eq, ↓view_recState, ↓view_wr, zone_pgREC, mod_pgREC, ↓view_modRec, h_events, h_recd, z_recorder]) <;> (repeat' split) <;> first | rfl | simp (maxDischargeDepth := 9) only [↓view_ite, ite_self, implies_true, id_eq, ↓view_recState, ↓view_wr, zone_pgREC, mod_pgREC, ↓view_modRec, h_events, h_recd, z_recorder]

theorem view_recFreeze (w : Work) (fc : ℕ) (h_bad : K .bad = true) (h_events : K .events = true) (h_recd : K .recd = true) (h_sram : K .sram = true) (z_recorder : Z (.page .recorder) = true) :
    view K Z (Work.recFreeze w fc) = view K Z w := by
  unfold Work.recFreeze
  (try simp (maxDischargeDepth := 9) only [↓view_ite, ite_self, implies_true, id_eq, ↓view_recState, ↓view_wr, zone_pgREC, mod_pgREC, ↓view_recIndex, h_bad, h_events, h_recd, h_sram, z_recorder]) <;> (repeat' split) <;> first | rfl | simp (maxDischargeDepth := 9) only [↓view_ite, ite_self, implies_true, id_eq, ↓view_recState, ↓view_wr, zone_pgREC, mod_pgREC, ↓view_recIndex, h_bad, h_events, h_recd, h_sram, z_recorder]

theorem view_recTrigger (w : Work) (k : ℕ) (host : Bool) (h_bad : K .bad = true) (h_events : K .events = true) (h_recd : K .recd = true) (h_sram : K .sram = true) (z_recorder : Z (.page .recorder) = true) :
    view K Z (Work.recTrigger w k host) = view K Z w := by
  unfold Work.recTrigger
  (try simp (maxDischargeDepth := 9) only [↓view_ite, ite_self, implies_true, id_eq, ↓view_when, ↓view_recIndex, ↓view_recState, ↓view_modRec, ↓view_stamp, zone_pgREC, mod_pgREC, ↓view_wr, ↓view_recFreeze, ↓view_count, h_bad, h_events, h_recd, h_sram, z_recorder]) <;> (repeat' split) <;> first | rfl | simp (maxDischargeDepth := 9) only [↓view_ite, ite_self, implies_true, id_eq, ↓view_when, ↓view_recIndex, ↓view_recState, ↓view_modRec, ↓view_stamp, zone_pgREC, mod_pgREC, ↓view_wr, ↓view_recFreeze, ↓view_count, h_bad, h_events, h_recd, h_sram, z_recorder]

theorem view_recSource (w : Work) (src : ℕ) (p : ℕ → Bool) (h_bad : K .bad = true) (h_events : K .events = true) (h_recd : K .recd = true) (h_sram : K .sram = true) (z_recorder : Z (.page .recorder) = true) :
    view K Z (Work.recSource w src p) = view K Z w := by
  unfold Work.recSource
  (try simp (maxDischargeDepth := 9) only [↓view_ite, ite_self, implies_true, id_eq, ↓view_recTrigger, h_bad, h_events, h_recd, h_sram, z_recorder]) <;> (repeat' split) <;> first | rfl | simp (maxDischargeDepth := 9) only [↓view_ite, ite_self, implies_true, id_eq, ↓view_recTrigger, h_bad, h_events, h_recd, h_sram, z_recorder]

theorem view_recCapture (w : Work) (b : ℤ) (h_bad : K .bad = true) (h_events : K .events = true) (h_flue : K .flue = true) (h_lines : K .lines = true) (h_out : K .out = true) (h_recd : K .recd = true) (h_sram : K .sram = true) (z_recorder : Z (.page .recorder) = true) :
    view K Z (Work.recCapture w b) = view K Z w := by
  unfold Work.recCapture
  (try simp (maxDischargeDepth := 9) only [↓view_ite, ite_self, implies_true, id_eq, ↓view_flt, zone_pgREC, mod_pgREC, ↓view_wr, ↓view_count, ↓view_modRec, ↓view_when, ↓view_recIndex, ↓view_recFreeze, h_bad, h_events, h_flue, h_lines, h_out, h_recd, h_sram, z_recorder]) <;> (repeat' split) <;> first | rfl | simp (maxDischargeDepth := 9) only [↓view_ite, ite_self, implies_true, id_eq, ↓view_flt, zone_pgREC, mod_pgREC, ↓view_wr, ↓view_count, ↓view_modRec, ↓view_when, ↓view_recIndex, ↓view_recFreeze, h_bad, h_events, h_flue, h_lines, h_out, h_recd, h_sram, z_recorder]

theorem view_recSeal (w : Work) (n : ℕ) (b : ℤ) (h_bad : K .bad = true) (h_events : K .events = true) (h_flue : K .flue = true) (h_lines : K .lines = true) (h_out : K .out = true) (h_recd : K .recd = true) (h_sram : K .sram = true) (z_recorder : Z (.page .recorder) = true) :
    view K Z (Work.recSeal w n b) = view K Z w := by
  unfold Work.recSeal
  (try simp (maxDischargeDepth := 9) only [↓view_ite, ite_self, implies_true, id_eq, ↓view_recCapture, ↓view_modRec, h_bad, h_events, h_flue, h_lines, h_out, h_recd, h_sram, z_recorder]) <;> (repeat' split) <;> first | rfl | simp (maxDischargeDepth := 9) only [↓view_ite, ite_self, implies_true, id_eq, ↓view_recCapture, ↓view_modRec, h_bad, h_events, h_flue, h_lines, h_out, h_recd, h_sram, z_recorder]

theorem view_recFenced (w : Work) (n : ℕ) (h_recd : K .recd = true) :
    view K Z (Work.recFenced w n) = view K Z w := by
  unfold Work.recFenced
  (try simp (maxDischargeDepth := 9) only [↓view_ite, ite_self, implies_true, id_eq, ↓view_modRec, h_recd]) <;> (repeat' split) <;> first | rfl | simp (maxDischargeDepth := 9) only [↓view_ite, ite_self, implies_true, id_eq, ↓view_modRec, h_recd]

theorem view_recRestart (w : Work) (h_events : K .events = true) (h_recd : K .recd = true) (z_recorder : Z (.page .recorder) = true) :
    view K Z (Work.recRestart w) = view K Z w := by
  unfold Work.recRestart
  (try simp (maxDischargeDepth := 9) only [↓view_ite, ite_self, implies_true, id_eq, ↓view_recArm, h_events, h_recd, z_recorder]) <;> (repeat' split) <;> first | rfl | simp (maxDischargeDepth := 9) only [↓view_ite, ite_self, implies_true, id_eq, ↓view_recArm, h_events, h_recd, z_recorder]

theorem view_recEnable (w : Work) (h_events : K .events = true) (h_recd : K .recd = true) (z_recorder : Z (.page .recorder) = true) :
    view K Z (Work.recEnable w) = view K Z w := by
  unfold Work.recEnable
  (try simp (maxDischargeDepth := 9) only [↓view_ite, ite_self, implies_true, id_eq, ↓view_badval, zone_pgREC, mod_pgREC, ↓view_wr, ↓view_recArm, h_events, h_recd, z_recorder]) <;> (repeat' split) <;> first | rfl | simp (maxDischargeDepth := 9) only [↓view_ite, ite_self, implies_true, id_eq, ↓view_badval, zone_pgREC, mod_pgREC, ↓view_wr, ↓view_recArm, h_events, h_recd, z_recorder]

theorem view_recDisable (w : Work) (h_events : K .events = true) (z_recorder : Z (.page .recorder) = true) :
    view K Z (Work.recDisable w) = view K Z w := by
  unfold Work.recDisable
  (try simp (maxDischargeDepth := 9) only [↓view_ite, ite_self, implies_true, id_eq, ↓view_wr, zone_pgREC, mod_pgREC, ↓view_recState, h_events, z_recorder]) <;> (repeat' split) <;> first | rfl | simp (maxDischargeDepth := 9) only [↓view_ite, ite_self, implies_true, id_eq, ↓view_wr, zone_pgREC, mod_pgREC, ↓view_recState, h_events, z_recorder]

theorem view_recRearm (w : Work) (h_events : K .events = true) (h_recd : K .recd = true) (z_recorder : Z (.page .recorder) = true) :
    view K Z (Work.recRearm w) = view K Z w := by
  unfold Work.recRearm
  (try simp (maxDischargeDepth := 9) only [↓view_ite, ite_self, implies_true, id_eq, ↓view_recArm, h_events, h_recd, z_recorder]) <;> (repeat' split) <;> first | rfl | simp (maxDischargeDepth := 9) only [↓view_ite, ite_self, implies_true, id_eq, ↓view_recArm, h_events, h_recd, z_recorder]

end Sys2Proof.Machine
end

