-- ==== Sys2Proof/Laws/ViewNet.lean ====
section
/-! SUPPORT. What each operation of Machine/Net.lean can write: the view without those kinds and zones is as it was. -/

set_option linter.unusedSimpArgs false
set_option linter.unreachableTactic false
set_option linter.unusedTactic false
set_option linter.unnecessarySeqFocus false

namespace Sys2Proof.Machine

variable {K : Kind → Bool} {Z : Zone → Bool}

theorem view_slEnq (w : Work) (p : ℕ) (k : Pkt) (bad : Bool) (h_flue : K .flue = true) (h_lines : K .lines = true) (h_out : K .out = true) (h_sl : K .sl = true) (z_sysn : Z (.page .sysn) = true) :
    view K Z (Work.slEnq w p k bad) = view K Z w := by
  unfold Work.slEnq
  (try simp (maxDischargeDepth := 9) only [↓view_ite, ite_self, implies_true, id_eq, ↓view_modSl, ↓view_flt, zone_pgSYSN, mod_pgSYSN, ↓view_count, h_flue, h_lines, h_out, h_sl, z_sysn]) <;> (repeat' split) <;> first | rfl | simp (maxDischargeDepth := 9) only [↓view_ite, ite_self, implies_true, id_eq, ↓view_modSl, ↓view_flt, zone_pgSYSN, mod_pgSYSN, ↓view_count, h_flue, h_lines, h_out, h_sl, z_sysn]

theorem view_deliver (w : Work) (port : Option ℕ) (k : Pkt) (at16 : ℤ) (h_net : K .net = true) :
    view K Z (Work.deliver w port k at16) = view K Z w := by
  unfold Work.deliver
  (try simp (maxDischargeDepth := 9) only [↓view_ite, ite_self, implies_true, id_eq, ↓view_modNet, h_net]) <;> (repeat' split) <;> first | rfl | simp (maxDischargeDepth := 9) only [↓view_ite, ite_self, implies_true, id_eq, ↓view_modNet, h_net]

theorem view_unicastRaw (w : Work) (k : Pkt) (bad : Bool) (h_flue : K .flue = true) (h_lines : K .lines = true) (h_net : K .net = true) (h_out : K .out = true) (h_sl : K .sl = true) (z_sysn : Z (.page .sysn) = true) :
    view K Z (Work.unicastRaw w k bad).1 = view K Z w := by
  unfold Work.unicastRaw
  (try simp (maxDischargeDepth := 9) only [↓view_ite, ite_self, implies_true, id_eq, ↓view_when, ↓view_deliver, ↓view_slEnq, ↓view_flt, zone_pgSYSN, mod_pgSYSN, ↓view_count, h_flue, h_lines, h_net, h_out, h_sl, z_sysn]) <;> (repeat' split) <;> first | rfl | simp (maxDischargeDepth := 9) only [↓view_ite, ite_self, implies_true, id_eq, ↓view_when, ↓view_deliver, ↓view_slEnq, ↓view_flt, zone_pgSYSN, mod_pgSYSN, ↓view_count, h_flue, h_lines, h_net, h_out, h_sl, z_sysn]

theorem view_unicast (w : Work) (k : Pkt) (bad : Bool) (h_flue : K .flue = true) (h_lines : K .lines = true) (h_net : K .net = true) (h_out : K .out = true) (h_sl : K .sl = true) (z_sysn : Z (.page .sysn) = true) :
    view K Z (Work.unicast w k bad) = view K Z w := by
  unfold Work.unicast
  (try simp (maxDischargeDepth := 9) only [↓view_ite, ite_self, implies_true, id_eq, ↓view_unicastRaw, h_flue, h_lines, h_net, h_out, h_sl, z_sysn]) <;> (repeat' split) <;> first | rfl | simp (maxDischargeDepth := 9) only [↓view_ite, ite_self, implies_true, id_eq, ↓view_unicastRaw, h_flue, h_lines, h_net, h_out, h_sl, z_sysn]

theorem view_tripMark (w : Work) (k : Pkt) (h_net : K .net = true) :
    view K Z (Work.tripMark w k) = view K Z w := by
  unfold Work.tripMark
  (try simp (maxDischargeDepth := 9) only [↓view_ite, ite_self, implies_true, id_eq, ↓view_modNet, h_net]) <;> (repeat' split) <;> first | rfl | simp (maxDischargeDepth := 9) only [↓view_ite, ite_self, implies_true, id_eq, ↓view_modNet, h_net]

theorem view_nextSeq (w : Work) (type : ℕ) (h_net : K .net = true) :
    view K Z (Work.nextSeq w type).1 = view K Z w := by
  unfold Work.nextSeq
  (try simp (maxDischargeDepth := 9) only [↓view_ite, ite_self, implies_true, id_eq, ↓view_modNet, h_net]) <;> (repeat' split) <;> first | rfl | simp (maxDischargeDepth := 9) only [↓view_ite, ite_self, implies_true, id_eq, ↓view_modNet, h_net]

theorem view_netSend (w : Work) (type : ℕ) (dst : ℕ) (payload : List Word) (h_flue : K .flue = true) (h_lines : K .lines = true) (h_net : K .net = true) (h_out : K .out = true) (h_sl : K .sl = true) (z_sysn : Z (.page .sysn) = true) :
    view K Z (Work.netSend w type dst payload) = view K Z w := by
  unfold Work.netSend
  (try simp (maxDischargeDepth := 9) only [↓view_ite, ite_self, implies_true, id_eq, ↓view_nextSeq, ↓view_unicast, ↓view_when, ↓view_each, ↓view_tripMark, ↓view_slEnq, ↓view_deliver, h_flue, h_lines, h_net, h_out, h_sl, z_sysn]) <;> (repeat' split) <;> first | rfl | simp (maxDischargeDepth := 9) only [↓view_ite, ite_self, implies_true, id_eq, ↓view_nextSeq, ↓view_unicast, ↓view_when, ↓view_each, ↓view_tripMark, ↓view_slEnq, ↓view_deliver, h_flue, h_lines, h_net, h_out, h_sl, z_sysn]

theorem view_tripSend (w : Work) (assert : Bool) (mask : ℕ) (h_flue : K .flue = true) (h_lines : K .lines = true) (h_net : K .net = true) (h_out : K .out = true) (h_sl : K .sl = true) (z_sysn : Z (.page .sysn) = true) :
    view K Z (Work.tripSend w assert mask) = view K Z w := by
  unfold Work.tripSend
  (try simp (maxDischargeDepth := 9) only [↓view_ite, ite_self, implies_true, id_eq, ↓view_netSend, h_flue, h_lines, h_net, h_out, h_sl, z_sysn]) <;> (repeat' split) <;> first | rfl | simp (maxDischargeDepth := 9) only [↓view_ite, ite_self, implies_true, id_eq, ↓view_netSend, h_flue, h_lines, h_net, h_out, h_sl, z_sysn]

theorem view_tripShow (w : Work) (h_flue : K .flue = true) (h_lines : K .lines = true) (h_net : K .net = true) (h_out : K .out = true) (h_sl : K .sl = true) (z_sysn : Z (.page .sysn) = true) :
    view K Z (Work.tripShow w) = view K Z w := by
  unfold Work.tripShow
  (try simp (maxDischargeDepth := 9) only [↓view_ite, ite_self, implies_true, id_eq, ↓view_tripSend, ↓view_wr, zone_pgSYSN, mod_pgSYSN, h_flue, h_lines, h_net, h_out, h_sl, z_sysn]) <;> (repeat' split) <;> first | rfl | simp (maxDischargeDepth := 9) only [↓view_ite, ite_self, implies_true, id_eq, ↓view_tripSend, ↓view_wr, zone_pgSYSN, mod_pgSYSN, h_flue, h_lines, h_net, h_out, h_sl, z_sysn]

end Sys2Proof.Machine
end

