-- ==== Sys2Proof/Laws/ViewSafe.lean ====
section
/-! SUPPORT. What each operation of Machine/Safe.lean can write: the view without those kinds and zones is as it was. -/

set_option linter.unusedSimpArgs false
set_option linter.unreachableTactic false
set_option linter.unusedTactic false
set_option linter.unnecessarySeqFocus false

namespace Sys2Proof.Machine

variable {K : Kind → Bool} {Z : Zone → Bool}

theorem view_cstat (w : Work) (o : ℕ) (f : Machine.Field) (v : ℕ) (z_clu : Z (.page .clu) = true) :
    view K Z (Work.cstat w o f v) = view K Z w := by
  unfold Work.cstat
  (try simp (maxDischargeDepth := 9) only [↓view_ite, ite_self, implies_true, id_eq, ↓view_each, ↓view_wr, zone_pgCLU, mod_pgCLU, z_clu]) <;> (repeat' split) <;> first | rfl | simp (maxDischargeDepth := 9) only [↓view_ite, ite_self, implies_true, id_eq, ↓view_each, ↓view_wr, zone_pgCLU, mod_pgCLU, z_clu]

theorem view_stopUnits (w : Work) (o : ℕ) (h_lane : K .lane = true) (h_unit : K .unit = true) :
    view K Z (Work.stopUnits w o) = view K Z w := by
  unfold Work.stopUnits
  (try simp (maxDischargeDepth := 9) only [↓view_ite, ite_self, implies_true, id_eq, ↓view_modLn, ↓view_each, ↓view_modUn, h_lane, h_unit]) <;> (repeat' split) <;> first | rfl | simp (maxDischargeDepth := 9) only [↓view_ite, ite_self, implies_true, id_eq, ↓view_modLn, ↓view_each, ↓view_modUn, h_lane, h_unit]

theorem view_safeAction (w : Work) (o : ℕ) (cause : ℕ) (h_lane : K .lane = true) (h_unit : K .unit = true) (z_clu : Z (.page .clu) = true) :
    view K Z (Work.safeAction w o cause) = view K Z w := by
  unfold Work.safeAction
  (try simp (maxDischargeDepth := 9) only [↓view_ite, ite_self, implies_true, id_eq, ↓view_count, zone_pgCLU, mod_pgCLU, ↓view_cstat, ↓view_each, ↓view_stopUnits, ↓view_modLn, h_lane, h_unit, z_clu]) <;> (repeat' split) <;> first | rfl | simp (maxDischargeDepth := 9) only [↓view_ite, ite_self, implies_true, id_eq, ↓view_count, zone_pgCLU, mod_pgCLU, ↓view_cstat, ↓view_each, ↓view_stopUnits, ↓view_modLn, h_lane, h_unit, z_clu]

theorem view_rgSource (w : Work) (o : ℕ) (cause : ℕ) (src : ℕ) (h_clu : K .clu = true) :
    view K Z (Work.rgSource w o cause src) = view K Z w := by
  unfold Work.rgSource
  (try simp (maxDischargeDepth := 9) only [↓view_ite, ite_self, implies_true, id_eq, ↓view_modCl, h_clu]) <;> (repeat' split) <;> first | rfl | simp (maxDischargeDepth := 9) only [↓view_ite, ite_self, implies_true, id_eq, ↓view_modCl, h_clu]

theorem view_forcedSafe (w : Work) (c : ℕ) (cause : ℕ) (src : ℕ) (h_clu : K .clu = true) (h_lane : K .lane = true) (h_unit : K .unit = true) (z_clu : Z (.page .clu) = true) :
    view K Z (Work.forcedSafe w c cause src) = view K Z w := by
  unfold Work.forcedSafe
  (try simp (maxDischargeDepth := 9) only [↓view_ite, ite_self, implies_true, id_eq, ↓view_count, zone_pgCLU, mod_pgCLU, ↓view_rgSource, ↓view_each, ↓view_modLn, ↓view_modCl, ↓view_safeAction, h_clu, h_lane, h_unit, z_clu]) <;> (repeat' split) <;> first | rfl | simp (maxDischargeDepth := 9) only [↓view_ite, ite_self, implies_true, id_eq, ↓view_count, zone_pgCLU, mod_pgCLU, ↓view_rgSource, ↓view_each, ↓view_modLn, ↓view_modCl, ↓view_safeAction, h_clu, h_lane, h_unit, z_clu]

theorem view_forcedSafeRg (w : Work) (n : ℕ) (cause : ℕ) (src : ℕ) (h_clu : K .clu = true) (h_lane : K .lane = true) (h_unit : K .unit = true) (z_clu : Z (.page .clu) = true) :
    view K Z (Work.forcedSafeRg w n cause src) = view K Z w := by
  unfold Work.forcedSafeRg
  (try simp (maxDischargeDepth := 9) only [↓view_ite, ite_self, implies_true, id_eq, ↓view_each, ↓view_forcedSafe, h_clu, h_lane, h_unit, z_clu]) <;> (repeat' split) <;> first | rfl | simp (maxDischargeDepth := 9) only [↓view_ite, ite_self, implies_true, id_eq, ↓view_each, ↓view_forcedSafe, h_clu, h_lane, h_unit, z_clu]

theorem view_protLatch (w : Work) (o : ℕ) (kind : ℕ) (idx : ℕ) (tripId : ℕ) (h_bad : K .bad = true) (h_clu : K .clu = true) (h_events : K .events = true) (h_flue : K .flue = true) (h_lane : K .lane = true) (h_lines : K .lines = true) (h_out : K .out = true) (h_recd : K .recd = true) (h_sram : K .sram = true) (h_unit : K .unit = true) (z_clu : Z (.page .clu) = true) (z_recorder : Z (.page .recorder) = true) :
    view K Z (Work.protLatch w o kind idx tripId) = view K Z w := by
  unfold Work.protLatch
  (try simp (maxDischargeDepth := 9) only [↓view_ite, ite_self, implies_true, id_eq, ↓view_forcedSafe, ↓view_when, ↓view_flt, zone_pgCLU, mod_pgCLU, ↓view_count, ↓view_wr, ↓view_recSource, ↓view_event, h_bad, h_clu, h_events, h_flue, h_lane, h_lines, h_out, h_recd, h_sram, h_unit, z_clu, z_recorder]) <;> (repeat' split) <;> first | rfl | simp (maxDischargeDepth := 9) only [↓view_ite, ite_self, implies_true, id_eq, ↓view_forcedSafe, ↓view_when, ↓view_flt, zone_pgCLU, mod_pgCLU, ↓view_count, ↓view_wr, ↓view_recSource, ↓view_event, h_bad, h_clu, h_events, h_flue, h_lane, h_lines, h_out, h_recd, h_sram, h_unit, z_clu, z_recorder]

theorem view_winShow (w : Work) (u : ℕ) (z_unit : Z (.page .unit) = true) :
    view K Z (Work.winShow w u) = view K Z w := by
  unfold Work.winShow
  (try simp (maxDischargeDepth := 9) only [↓view_ite, ite_self, implies_true, id_eq, ↓view_wr, zone_pgUNIT, mod_pgUNIT, z_unit]) <;> (repeat' split) <;> first | rfl | simp (maxDischargeDepth := 9) only [↓view_ite, ite_self, implies_true, id_eq, ↓view_wr, zone_pgUNIT, mod_pgUNIT, z_unit]

theorem view_countTrip (w : Work) (u : ℕ) (o : ℕ) (ts : ℤ) (h_clu : K .clu = true) (h_flue : K .flue = true) (h_lane : K .lane = true) (h_lines : K .lines = true) (h_out : K .out = true) (h_unit : K .unit = true) (z_clu : Z (.page .clu) = true) (z_unit : Z (.page .unit) = true) :
    view K Z (Work.countTrip w u o ts) = view K Z w := by
  unfold Work.countTrip
  (try simp (maxDischargeDepth := 9) only [↓view_ite, ite_self, implies_true, id_eq, ↓view_when, ↓view_winShow, ↓view_modUn, ↓view_flt, zone_pgUNIT, mod_pgUNIT, ↓view_wr, ↓view_count, ↓view_forcedSafe, zone_pgCLU, mod_pgCLU, h_clu, h_flue, h_lane, h_lines, h_out, h_unit, z_clu, z_unit]) <;> (repeat' split) <;> first | rfl | simp (maxDischargeDepth := 9) only [↓view_ite, ite_self, implies_true, id_eq, ↓view_when, ↓view_winShow, ↓view_modUn, ↓view_flt, zone_pgUNIT, mod_pgUNIT, ↓view_wr, ↓view_count, ↓view_forcedSafe, zone_pgCLU, mod_pgCLU, h_clu, h_flue, h_lane, h_lines, h_out, h_unit, z_clu, z_unit]

theorem view_protEvent (w : Work) (o : ℕ) (kind : ℕ) (idx : ℕ) (tripId : ℕ) (ts : ℤ) (link : Bool) (h_bad : K .bad = true) (h_clu : K .clu = true) (h_events : K .events = true) (h_flue : K .flue = true) (h_lane : K .lane = true) (h_lines : K .lines = true) (h_out : K .out = true) (h_recd : K .recd = true) (h_sram : K .sram = true) (h_unit : K .unit = true) (z_clu : Z (.page .clu) = true) (z_recorder : Z (.page .recorder) = true) (z_unit : Z (.page .unit) = true) :
    view K Z (Work.protEvent w o kind idx tripId ts link) = view K Z w := by
  unfold Work.protEvent
  (try simp (maxDischargeDepth := 9) only [↓view_ite, ite_self, implies_true, id_eq, ↓view_wr, zone_pgCLU, mod_pgCLU, ↓view_count, ↓view_protLatch, ↓view_countTrip, ↓view_flt, h_bad, h_clu, h_events, h_flue, h_lane, h_lines, h_out, h_recd, h_sram, h_unit, z_clu, z_recorder, z_unit]) <;> (repeat' split) <;> first | rfl | simp (maxDischargeDepth := 9) only [↓view_ite, ite_self, implies_true, id_eq, ↓view_wr, zone_pgCLU, mod_pgCLU, ↓view_count, ↓view_protLatch, ↓view_countTrip, ↓view_flt, h_bad, h_clu, h_events, h_flue, h_lane, h_lines, h_out, h_recd, h_sram, h_unit, z_clu, z_recorder, z_unit]

theorem view_pmodeUpdate (w : Work) (o : ℕ) (h_bad : K .bad = true) (h_clu : K .clu = true) (h_events : K .events = true) (h_flue : K .flue = true) (h_lane : K .lane = true) (h_lines : K .lines = true) (h_out : K .out = true) (h_recd : K .recd = true) (h_sram : K .sram = true) (h_unit : K .unit = true) (z_clu : Z (.page .clu) = true) (z_recorder : Z (.page .recorder) = true) (z_unit : Z (.page .unit) = true) :
    view K Z (Work.pmodeUpdate w o) = view K Z w := by
  unfold Work.pmodeUpdate
  (try simp (maxDischargeDepth := 9) only [↓view_ite, ite_self, implies_true, id_eq, ↓view_each, ↓view_wr, zone_pgCLU, mod_pgCLU, ↓view_protEvent, h_bad, h_clu, h_events, h_flue, h_lane, h_lines, h_out, h_recd, h_sram, h_unit, z_clu, z_recorder, z_unit]) <;> (repeat' split) <;> first | rfl | simp (maxDischargeDepth := 9) only [↓view_ite, ite_self, implies_true, id_eq, ↓view_each, ↓view_wr, zone_pgCLU, mod_pgCLU, ↓view_protEvent, h_bad, h_clu, h_events, h_flue, h_lane, h_lines, h_out, h_recd, h_sram, h_unit, z_clu, z_recorder, z_unit]

theorem view_protRescan (w : Work) (o : ℕ) (before : List (ℕ × ℕ)) (h_bad : K .bad = true) (h_clu : K .clu = true) (h_events : K .events = true) (h_flue : K .flue = true) (h_lane : K .lane = true) (h_lines : K .lines = true) (h_out : K .out = true) (h_recd : K .recd = true) (h_sram : K .sram = true) (h_unit : K .unit = true) (z_clu : Z (.page .clu) = true) (z_recorder : Z (.page .recorder) = true) (z_unit : Z (.page .unit) = true) :
    view K Z (Work.protRescan w o before) = view K Z w := by
  unfold Work.protRescan
  (try simp (maxDischargeDepth := 9) only [↓view_ite, ite_self, implies_true, id_eq, ↓view_each, ↓view_protEvent, h_bad, h_clu, h_events, h_flue, h_lane, h_lines, h_out, h_recd, h_sram, h_unit, z_clu, z_recorder, z_unit]) <;> (repeat' split) <;> first | rfl | simp (maxDischargeDepth := 9) only [↓view_ite, ite_self, implies_true, id_eq, ↓view_each, ↓view_protEvent, h_bad, h_clu, h_events, h_flue, h_lane, h_lines, h_out, h_recd, h_sram, h_unit, z_clu, z_recorder, z_unit]

theorem view_localEvent (w : Work) (kind : ℕ) (idx : ℕ) (sel : Work → ℕ → Bool) (h_bad : K .bad = true) (h_clu : K .clu = true) (h_events : K .events = true) (h_flue : K .flue = true) (h_lane : K .lane = true) (h_lines : K .lines = true) (h_out : K .out = true) (h_recd : K .recd = true) (h_sram : K .sram = true) (h_unit : K .unit = true) (z_clu : Z (.page .clu) = true) (z_recorder : Z (.page .recorder) = true) (z_unit : Z (.page .unit) = true) :
    view K Z (Work.localEvent w kind idx sel) = view K Z w := by
  unfold Work.localEvent
  (try simp (maxDischargeDepth := 9) only [↓view_ite, ite_self, implies_true, id_eq, ↓view_each, ↓view_when, ↓view_protEvent, h_bad, h_clu, h_events, h_flue, h_lane, h_lines, h_out, h_recd, h_sram, h_unit, z_clu, z_recorder, z_unit]) <;> (repeat' split) <;> first | rfl | simp (maxDischargeDepth := 9) only [↓view_ite, ite_self, implies_true, id_eq, ↓view_each, ↓view_when, ↓view_protEvent, h_bad, h_clu, h_events, h_flue, h_lane, h_lines, h_out, h_recd, h_sram, h_unit, z_clu, z_recorder, z_unit]

theorem view_setState (w : Work) (o : ℕ) (st : ℕ) (b : ℤ) (h_bad : K .bad = true) (h_clu : K .clu = true) (h_events : K .events = true) (h_flue : K .flue = true) (h_lane : K .lane = true) (h_lines : K .lines = true) (h_out : K .out = true) (h_recd : K .recd = true) (h_sram : K .sram = true) (h_unit : K .unit = true) (z_clu : Z (.page .clu) = true) (z_recorder : Z (.page .recorder) = true) (z_unit : Z (.page .unit) = true) :
    view K Z (Work.setState w o st b) = view K Z w := by
  unfold Work.setState
  (try simp (maxDischargeDepth := 9) only [↓view_ite, ite_self, implies_true, id_eq, ↓view_pmodeUpdate, ↓view_modCl, ↓view_when, ↓view_event, ↓view_stamp, zone_pgCLU, mod_pgCLU, ↓view_count, ↓view_cstat, ↓view_each, ↓view_modLn, ↓view_recSource, h_bad, h_clu, h_events, h_flue, h_lane, h_lines, h_out, h_recd, h_sram, h_unit, z_clu, z_recorder, z_unit]) <;> (repeat' split) <;> first | rfl | simp (maxDischargeDepth := 9) only [↓view_ite, ite_self, implies_true, id_eq, ↓view_pmodeUpdate, ↓view_modCl, ↓view_when, ↓view_event, ↓view_stamp, zone_pgCLU, mod_pgCLU, ↓view_count, ↓view_cstat, ↓view_each, ↓view_modLn, ↓view_recSource, h_bad, h_clu, h_events, h_flue, h_lane, h_lines, h_out, h_recd, h_sram, h_unit, z_clu, z_recorder, z_unit]

theorem view_laneLost (w : Work) (c : ℕ) (h_clu : K .clu = true) (h_flue : K .flue = true) (h_lane : K .lane = true) (h_lines : K .lines = true) (h_out : K .out = true) (h_unit : K .unit = true) (z_clu : Z (.page .clu) = true) :
    view K Z (Work.laneLost w c) = view K Z w := by
  unfold Work.laneLost
  (try simp (maxDischargeDepth := 9) only [↓view_ite, ite_self, implies_true, id_eq, ↓view_flt, zone_pgCLU, mod_pgCLU, ↓view_wr, ↓view_forcedSafe, h_clu, h_flue, h_lane, h_lines, h_out, h_unit, z_clu]) <;> (repeat' split) <;> first | rfl | simp (maxDischargeDepth := 9) only [↓view_ite, ite_self, implies_true, id_eq, ↓view_flt, zone_pgCLU, mod_pgCLU, ↓view_wr, ↓view_forcedSafe, h_clu, h_flue, h_lane, h_lines, h_out, h_unit, z_clu]

end Sys2Proof.Machine
end

