-- ==== Sys2Proof/Laws/ViewHearth.lean ====
section
/-! SUPPORT. What each operation of Machine/Hearth.lean can write: the view without those kinds and zones is as it was. -/

set_option linter.unusedSimpArgs false
set_option linter.unreachableTactic false
set_option linter.unusedTactic false
set_option linter.unnecessarySeqFocus false

namespace Sys2Proof.Machine

variable {K : Kind → Bool} {Z : Zone → Bool}

theorem view_chopSet (w : Work) (n : ℕ) (on : Bool) (h_out : K .out = true) (z_pkg : Z (.page .pkg) = true) :
    view K Z (Work.chopSet w n on) = view K Z w := by
  unfold Work.chopSet
  (try simp (maxDischargeDepth := 9) only [↓view_ite, ite_self, implies_true, id_eq, ↓view_emit, ↓view_wr, zone_pgPKG, mod_pgPKG, h_out, z_pkg]) <;> (repeat' split) <;> first | rfl | simp (maxDischargeDepth := 9) only [↓view_ite, ite_self, implies_true, id_eq, ↓view_emit, ↓view_wr, zone_pgPKG, mod_pgPKG, h_out, z_pkg]

theorem view_chopEval (w : Work) (n : ℕ) (retry : Bool) (h_out : K .out = true) (z_pkg : Z (.page .pkg) = true) :
    view K Z (Work.chopEval w n retry) = view K Z w := by
  unfold Work.chopEval
  (try simp (maxDischargeDepth := 9) only [↓view_ite, ite_self, implies_true, id_eq, ↓view_wr, zone_pgPKG, mod_pgPKG, ↓view_chopSet, h_out, z_pkg]) <;> (repeat' split) <;> first | rfl | simp (maxDischargeDepth := 9) only [↓view_ite, ite_self, implies_true, id_eq, ↓view_wr, zone_pgPKG, mod_pgPKG, ↓view_chopSet, h_out, z_pkg]

theorem view_chopEvalAll (w : Work) (h_out : K .out = true) (z_pkg : Z (.page .pkg) = true) :
    view K Z (Work.chopEvalAll w) = view K Z w := by
  unfold Work.chopEvalAll
  (try simp (maxDischargeDepth := 9) only [↓view_ite, ite_self, implies_true, id_eq, ↓view_each, ↓view_chopEval, h_out, z_pkg]) <;> (repeat' split) <;> first | rfl | simp (maxDischargeDepth := 9) only [↓view_ite, ite_self, implies_true, id_eq, ↓view_each, ↓view_chopEval, h_out, z_pkg]

theorem view_ash (w : Work) (r : AshRec) (h_events : K .events = true) (h_recd : K .recd = true) (z_hrt : Z (.page .hrt) = true) (z_hrt2 : Z (.page .hrt2) = true) :
    view K Z (Work.ash w r) = view K Z w := by
  unfold Work.ash
  dsimp only
  have he : ∀ (ds : List Word) (sq : Nat) (u : Work), ds.length = 6 →
      view K Z (u.each ds.zipIdx fun w e => w.put (pgHRT2 + 0x100 + 24 * ((sq - 1) % 64) + 4 * e.2) e.1) = view K Z u := by
    intro ds sq u hl
    refine view_each_mem _ _ _ fun v e he => ?_
    have hlt := List.snd_lt_of_mem_zipIdx he
    rw [Nat.add_assoc, Nat.add_assoc]
    exact view_put_page _ _ _ _ (by omega) mod_pgHRT2 (by rw [zone_pgHRT2]; exact z_hrt2)
  rw [view_when _ _ _ fun v => view_event _ _ _ _ h_events, view_modRec _ _ h_recd,
    view_wr _ _ _ _ _ mod_pgHRT (by rw [zone_pgHRT]; exact z_hrt), he _ _ _ rfl]

theorem view_chopHearth (w : Work) (h_chop : K .chop = true) (h_out : K .out = true) (z_pkg : Z (.page .pkg) = true) :
    view K Z (Work.chopHearth w) = view K Z w := by
  unfold Work.chopHearth
  (try simp (maxDischargeDepth := 9) only [↓view_ite, ite_self, implies_true, id_eq, ↓view_each, ↓view_chopEval, ↓view_modChop, ↓view_wr, zone_pgPKG, mod_pgPKG, h_chop, h_out, z_pkg]) <;> (repeat' split) <;> first | rfl | simp (maxDischargeDepth := 9) only [↓view_ite, ite_self, implies_true, id_eq, ↓view_each, ↓view_chopEval, ↓view_modChop, ↓view_wr, zone_pgPKG, mod_pgPKG, h_chop, h_out, z_pkg]

theorem view_pinTo (w : Work) (name : String) (old : Bool) (new : Bool) (h_out : K .out = true) :
    view K Z (Work.pinTo w name old new) = view K Z w := by
  unfold Work.pinTo
  (try simp (maxDischargeDepth := 9) only [↓view_ite, ite_self, implies_true, id_eq, ↓view_emit, h_out]) <;> (repeat' split) <;> first | rfl | simp (maxDischargeDepth := 9) only [↓view_ite, ite_self, implies_true, id_eq, ↓view_emit, h_out]

theorem view_hearthShow (w : Work) (h_chop : K .chop = true) (h_flue : K .flue = true) (h_hearth : K .hearth = true) (h_lane : K .lane = true) (h_lines : K .lines = true) (h_net : K .net = true) (h_out : K .out = true) (h_sl : K .sl = true) (z_hrt : Z (.page .hrt) = true) (z_hrt1 : Z (.page .hrt1) = true) (z_pkg : Z (.page .pkg) = true) (z_sysn : Z (.page .sysn) = true) :
    view K Z (Work.hearthShow w) = view K Z w := by
  unfold Work.hearthShow
  (try simp (maxDischargeDepth := 9) only [↓view_ite, ite_self, implies_true, id_eq, ↓view_tripShow, ↓view_chopHearth, ↓view_each, ↓view_wr, zone_pgHRT1, mod_pgHRT1, zone_pgHRT, mod_pgHRT, ↓view_pinTo, ↓view_modHearth, ↓view_modLn, h_chop, h_flue, h_hearth, h_lane, h_lines, h_net, h_out, h_sl, z_hrt, z_hrt1, z_pkg, z_sysn]) <;> (repeat' split) <;> first | rfl | simp (maxDischargeDepth := 9) only [↓view_ite, ite_self, implies_true, id_eq, ↓view_tripShow, ↓view_chopHearth, ↓view_each, ↓view_wr, zone_pgHRT1, mod_pgHRT1, zone_pgHRT, mod_pgHRT, ↓view_pinTo, ↓view_modHearth, ↓view_modLn, h_chop, h_flue, h_hearth, h_lane, h_lines, h_net, h_out, h_sl, z_hrt, z_hrt1, z_pkg, z_sysn]

theorem view_react (w : Work) (h : Held) (srclvl : ℕ) (page : ℕ) (ashKind : ℕ) (h_bad : K .bad = true) (h_chop : K .chop = true) (h_clu : K .clu = true) (h_events : K .events = true) (h_flue : K .flue = true) (h_hearth : K .hearth = true) (h_lane : K .lane = true) (h_lines : K .lines = true) (h_net : K .net = true) (h_out : K .out = true) (h_recd : K .recd = true) (h_sl : K .sl = true) (h_sram : K .sram = true) (h_unit : K .unit = true) (z_clu : Z (.page .clu) = true) (z_hrt : Z (.page .hrt) = true) (z_hrt1 : Z (.page .hrt1) = true) (z_hrt2 : Z (.page .hrt2) = true) (z_pkg : Z (.page .pkg) = true) (z_recorder : Z (.page .recorder) = true) (z_sysn : Z (.page .sysn) = true) :
    view K Z (Work.react w h srclvl page ashKind) = view K Z w := by
  unfold Work.react
  (try simp (maxDischargeDepth := 9) only [↓view_ite, ite_self, implies_true, id_eq, ↓view_recFreeze, ↓view_wr, zone_pgHRT, mod_pgHRT, ↓view_each, ↓view_when, ↓view_ash, ↓view_count, ↓view_hearthShow, ↓view_modHearth, ↓view_msix, ↓view_forcedSafeRg, ↓view_recSource, h_bad, h_chop, h_clu, h_events, h_flue, h_hearth, h_lane, h_lines, h_net, h_out, h_recd, h_sl, h_sram, h_unit, z_clu, z_hrt, z_hrt1, z_hrt2, z_pkg, z_recorder, z_sysn]) <;> (repeat' split) <;> first | rfl | simp (maxDischargeDepth := 9) only [↓view_ite, ite_self, implies_true, id_eq, ↓view_recFreeze, ↓view_wr, zone_pgHRT, mod_pgHRT, ↓view_each, ↓view_when, ↓view_ash, ↓view_count, ↓view_hearthShow, ↓view_modHearth, ↓view_msix, ↓view_forcedSafeRg, ↓view_recSource, h_bad, h_chop, h_clu, h_events, h_flue, h_hearth, h_lane, h_lines, h_net, h_out, h_recd, h_sl, h_sram, h_unit, z_clu, z_hrt, z_hrt1, z_hrt2, z_pkg, z_recorder, z_sysn]

theorem view_reactFixed (w : Work) (kind : ℕ) (level : ℕ) (srclvl : ℕ) (page : ℕ) (h_bad : K .bad = true) (h_chop : K .chop = true) (h_clu : K .clu = true) (h_events : K .events = true) (h_flue : K .flue = true) (h_hearth : K .hearth = true) (h_lane : K .lane = true) (h_lines : K .lines = true) (h_net : K .net = true) (h_out : K .out = true) (h_recd : K .recd = true) (h_sl : K .sl = true) (h_sram : K .sram = true) (h_unit : K .unit = true) (z_clu : Z (.page .clu) = true) (z_hrt : Z (.page .hrt) = true) (z_hrt1 : Z (.page .hrt1) = true) (z_hrt2 : Z (.page .hrt2) = true) (z_pkg : Z (.page .pkg) = true) (z_recorder : Z (.page .recorder) = true) (z_sysn : Z (.page .sysn) = true) :
    view K Z (Work.reactFixed w kind level srclvl page) = view K Z w := by
  unfold Work.reactFixed
  (try simp (maxDischargeDepth := 9) only [↓view_ite, ite_self, implies_true, id_eq, ↓view_react, h_bad, h_chop, h_clu, h_events, h_flue, h_hearth, h_lane, h_lines, h_net, h_out, h_recd, h_sl, h_sram, h_unit, z_clu, z_hrt, z_hrt1, z_hrt2, z_pkg, z_recorder, z_sysn]) <;> (repeat' split) <;> first | rfl | simp (maxDischargeDepth := 9) only [↓view_ite, ite_self, implies_true, id_eq, ↓view_react, h_bad, h_chop, h_clu, h_events, h_flue, h_hearth, h_lane, h_lines, h_net, h_out, h_recd, h_sl, h_sram, h_unit, z_clu, z_hrt, z_hrt1, z_hrt2, z_pkg, z_recorder, z_sysn]

theorem view_reactFatal (w : Work) (page : ℕ) (h_bad : K .bad = true) (h_chop : K .chop = true) (h_clu : K .clu = true) (h_events : K .events = true) (h_flue : K .flue = true) (h_hearth : K .hearth = true) (h_lane : K .lane = true) (h_lines : K .lines = true) (h_net : K .net = true) (h_out : K .out = true) (h_recd : K .recd = true) (h_sl : K .sl = true) (h_sram : K .sram = true) (h_unit : K .unit = true) (z_clu : Z (.page .clu) = true) (z_hrt : Z (.page .hrt) = true) (z_hrt1 : Z (.page .hrt1) = true) (z_hrt2 : Z (.page .hrt2) = true) (z_pkg : Z (.page .pkg) = true) (z_recorder : Z (.page .recorder) = true) (z_sysn : Z (.page .sysn) = true) :
    view K Z (Work.reactFatal w page) = view K Z w := by
  unfold Work.reactFatal
  (try simp (maxDischargeDepth := 9) only [↓view_ite, ite_self, implies_true, id_eq, ↓view_reactFixed, h_bad, h_chop, h_clu, h_events, h_flue, h_hearth, h_lane, h_lines, h_net, h_out, h_recd, h_sl, h_sram, h_unit, z_clu, z_hrt, z_hrt1, z_hrt2, z_pkg, z_recorder, z_sysn]) <;> (repeat' split) <;> first | rfl | simp (maxDischargeDepth := 9) only [↓view_ite, ite_self, implies_true, id_eq, ↓view_reactFixed, h_bad, h_chop, h_clu, h_events, h_flue, h_hearth, h_lane, h_lines, h_net, h_out, h_recd, h_sl, h_sram, h_unit, z_clu, z_hrt, z_hrt1, z_hrt2, z_pkg, z_recorder, z_sysn]

theorem view_hearthFatal (w : Work) (pg : ℕ) (bit : ℕ) (h_bad : K .bad = true) (h_chop : K .chop = true) (h_clu : K .clu = true) (h_events : K .events = true) (h_flue : K .flue = true) (h_hearth : K .hearth = true) (h_lane : K .lane = true) (h_lines : K .lines = true) (h_net : K .net = true) (h_out : K .out = true) (h_recd : K .recd = true) (h_sl : K .sl = true) (h_sram : K .sram = true) (h_unit : K .unit = true) (z_clu : Z (.page .clu) = true) (z_hrt : Z (.page .hrt) = true) (z_hrt1 : Z (.page .hrt1) = true) (z_hrt2 : Z (.page .hrt2) = true) (z_pkg : Z (.page .pkg) = true) (z_recorder : Z (.page .recorder) = true) (z_sysn : Z (.page .sysn) = true) (m_pg : pg % 0x1000 = 0) (z_pg : Z (zoneOf pg) = true) :
    view K Z (Work.hearthFatal w pg bit) = view K Z w := by
  unfold Work.hearthFatal
  (try simp (maxDischargeDepth := 9) only [↓view_ite, ite_self, implies_true, id_eq, ↓view_reactFatal, ↓view_fltTo, h_bad, h_chop, h_clu, h_events, h_flue, h_hearth, h_lane, h_lines, h_net, h_out, h_recd, h_sl, h_sram, h_unit, z_clu, z_hrt, z_hrt1, z_hrt2, z_pkg, z_recorder, z_sysn, m_pg, z_pg]) <;> (repeat' split) <;> first | rfl | simp (maxDischargeDepth := 9) only [↓view_ite, ite_self, implies_true, id_eq, ↓view_reactFatal, ↓view_fltTo, h_bad, h_chop, h_clu, h_events, h_flue, h_hearth, h_lane, h_lines, h_net, h_out, h_recd, h_sl, h_sram, h_unit, z_clu, z_hrt, z_hrt1, z_hrt2, z_pkg, z_recorder, z_sysn, m_pg, z_pg]

theorem view_release (w : Work) (plea : Bool) (h_chop : K .chop = true) (h_events : K .events = true) (h_flue : K .flue = true) (h_hearth : K .hearth = true) (h_lane : K .lane = true) (h_lines : K .lines = true) (h_net : K .net = true) (h_out : K .out = true) (h_recd : K .recd = true) (h_sl : K .sl = true) (z_hrt : Z (.page .hrt) = true) (z_hrt1 : Z (.page .hrt1) = true) (z_hrt2 : Z (.page .hrt2) = true) (z_pkg : Z (.page .pkg) = true) (z_sysn : Z (.page .sysn) = true) :
    view K Z (Work.release w plea) = view K Z w := by
  unfold Work.release
  (try simp (maxDischargeDepth := 9) only [↓view_ite, ite_self, implies_true, id_eq, ↓view_badval, zone_pgHRT, mod_pgHRT, ↓view_when, ↓view_each, ↓view_hearthShow, ↓view_modHearth, ↓view_wr, ↓view_ash, h_chop, h_events, h_flue, h_hearth, h_lane, h_lines, h_net, h_out, h_recd, h_sl, z_hrt, z_hrt1, z_hrt2, z_pkg, z_sysn]) <;> (repeat' split) <;> first | rfl | simp (maxDischargeDepth := 9) only [↓view_ite, ite_self, implies_true, id_eq, ↓view_badval, zone_pgHRT, mod_pgHRT, ↓view_when, ↓view_each, ↓view_hearthShow, ↓view_modHearth, ↓view_wr, ↓view_ash, h_chop, h_events, h_flue, h_hearth, h_lane, h_lines, h_net, h_out, h_recd, h_sl, z_hrt, z_hrt1, z_hrt2, z_pkg, z_sysn]

theorem view_plea (w : Work) (level : ℕ) (mask : ℕ) (h_bad : K .bad = true) (h_chop : K .chop = true) (h_clu : K .clu = true) (h_events : K .events = true) (h_flue : K .flue = true) (h_hearth : K .hearth = true) (h_lane : K .lane = true) (h_lines : K .lines = true) (h_net : K .net = true) (h_out : K .out = true) (h_recd : K .recd = true) (h_sl : K .sl = true) (h_sram : K .sram = true) (h_unit : K .unit = true) (z_clu : Z (.page .clu) = true) (z_hrt : Z (.page .hrt) = true) (z_hrt1 : Z (.page .hrt1) = true) (z_hrt2 : Z (.page .hrt2) = true) (z_pkg : Z (.page .pkg) = true) (z_recorder : Z (.page .recorder) = true) (z_sysn : Z (.page .sysn) = true) :
    view K Z (Work.plea w level mask) = view K Z w := by
  unfold Work.plea
  (try simp (maxDischargeDepth := 9) only [↓view_ite, ite_self, implies_true, id_eq, ↓view_react, ↓view_modHearth, ↓view_wr, zone_pgHRT, mod_pgHRT, ↓view_badval, h_bad, h_chop, h_clu, h_events, h_flue, h_hearth, h_lane, h_lines, h_net, h_out, h_recd, h_sl, h_sram, h_unit, z_clu, z_hrt, z_hrt1, z_hrt2, z_pkg, z_recorder, z_sysn]) <;> (repeat' split) <;> first | rfl | simp (maxDischargeDepth := 9) only [↓view_ite, ite_self, implies_true, id_eq, ↓view_react, ↓view_modHearth, ↓view_wr, zone_pgHRT, mod_pgHRT, ↓view_badval, h_bad, h_chop, h_clu, h_events, h_flue, h_hearth, h_lane, h_lines, h_net, h_out, h_recd, h_sl, h_sram, h_unit, z_clu, z_hrt, z_hrt1, z_hrt2, z_pkg, z_recorder, z_sysn]

theorem view_hearthReport (w : Work) (die : ℕ) (r : Report) (h_bad : K .bad = true) (h_chop : K .chop = true) (h_clu : K .clu = true) (h_events : K .events = true) (h_flue : K .flue = true) (h_hearth : K .hearth = true) (h_lane : K .lane = true) (h_lines : K .lines = true) (h_net : K .net = true) (h_out : K .out = true) (h_recd : K .recd = true) (h_sl : K .sl = true) (h_sram : K .sram = true) (h_unit : K .unit = true) (z_clu : Z (.page .clu) = true) (z_hrt : Z (.page .hrt) = true) (z_hrt1 : Z (.page .hrt1) = true) (z_hrt2 : Z (.page .hrt2) = true) (z_pkg : Z (.page .pkg) = true) (z_recorder : Z (.page .recorder) = true) (z_sysn : Z (.page .sysn) = true) :
    view K Z (Work.hearthReport w die r) = view K Z w := by
  unfold Work.hearthReport
  (try simp (maxDischargeDepth := 9) only [↓view_ite, ite_self, implies_true, id_eq, ↓view_reactFatal, ↓view_ash, ↓view_when, ↓view_modHearth, h_bad, h_chop, h_clu, h_events, h_flue, h_hearth, h_lane, h_lines, h_net, h_out, h_recd, h_sl, h_sram, h_unit, z_clu, z_hrt, z_hrt1, z_hrt2, z_pkg, z_recorder, z_sysn]) <;> (repeat' split) <;> first | rfl | simp (maxDischargeDepth := 9) only [↓view_ite, ite_self, implies_true, id_eq, ↓view_reactFatal, ↓view_ash, ↓view_when, ↓view_modHearth, h_bad, h_chop, h_clu, h_events, h_flue, h_hearth, h_lane, h_lines, h_net, h_out, h_recd, h_sl, h_sram, h_unit, z_clu, z_hrt, z_hrt1, z_hrt2, z_pkg, z_recorder, z_sysn]

theorem view_ucAnew (w : Work) (c : Coll) (h_hearth : K .hearth = true) :
    view K Z (Work.ucAnew w c) = view K Z w := by
  unfold Work.ucAnew
  (try simp (maxDischargeDepth := 9) only [↓view_ite, ite_self, implies_true, id_eq, ↓view_modHearth, h_hearth]) <;> (repeat' split) <;> first | rfl | simp (maxDischargeDepth := 9) only [↓view_ite, ite_self, implies_true, id_eq, ↓view_modHearth, h_hearth]

theorem zone_collAt (c : Coll) (x : Nat) (hx : x < 0x18) (z_clu : Z (.page .clu) = true) (z_hrt : Z (.page .hrt) = true)
    (z_pkg : Z (.page .pkg) = true) (z_rg : Z (.page .rg) = true) : Z (zoneOf (collAt c + x)) = true := by
  have go : ∀ (pg y : Nat) (k : PageKind), y < 0x300 → pg % 0x1000 = 0 → zoneOf pg = .page k → Z (.page k) = true →
      Z (zoneOf (pg + y + x)) = true := by
    intro pg y k hy hp hk hz
    rw [Nat.add_assoc, zoneOf_add _ _ hp (by omega), hk]
    exact hz
  cases c with
  | cluster c => rw [show collAt (.cluster c) = pgCLU c + 0x100 from rfl]; exact go (pgCLU c) 0x100 .clu (by omega) (mod_pgCLU _) (zone_pgCLU _) z_clu
  | region n => rw [show collAt (.region n) = pgRG n + 0x200 from rfl]; exact go (pgRG n) 0x200 .rg (by omega) (mod_pgRG _) (zone_pgRG _) z_rg
  | cd d => rw [show collAt (.cd d) = pgPKG + 0x200 + 0x18 * d from rfl, Nat.add_assoc pgPKG]; exact go pgPKG (0x200 + 0x18 * d) .pkg (by omega) mod_pgPKG zone_pgPKG z_pkg
  | hb => rw [show collAt .hb = pgPKG + 0x230 from rfl]; exact go pgPKG 0x230 .pkg (by omega) mod_pgPKG zone_pgPKG z_pkg
  | ht => rw [show collAt .ht = pgPKG + 0x248 from rfl]; exact go pgPKG 0x248 .pkg (by omega) mod_pgPKG zone_pgPKG z_pkg
  | package => rw [show collAt .package = pgPKG + 0x260 from rfl]; exact go pgPKG 0x260 .pkg (by omega) mod_pgPKG zone_pgPKG z_pkg
  | hearth => rw [show collAt .hearth = pgHRT from rfl, zoneOf_add _ _ mod_pgHRT (by omega), zone_pgHRT]; exact z_hrt

theorem view_collect (w : Work) (c : Coll) (child : Nat) (r : Report) (h_bad : K .bad = true) (h_events : K .events = true) (h_flue : K .flue = true) (h_hearth : K .hearth = true) (h_recd : K .recd = true) (h_sram : K .sram = true) (z_clu : Z (.page .clu) = true) (z_hrt : Z (.page .hrt) = true) (z_pkg : Z (.page .pkg) = true) (z_recorder : Z (.page .recorder) = true) (z_rg : Z (.page .rg) = true) :
    view K Z (Work.collect w c child r) = view K Z w := by
  have hw : ∀ (u : Work) (f : Field) (v i : Nat), f.at i < 0x18 → view K Z (u.wr (collAt c) f v i) = view K Z u :=
    fun u f v i h => view_put _ _ _ (zone_collAt c _ h z_clu z_hrt z_pkg z_rg)
  have hs : ∀ (u : Work) (f : Field) (b i : Nat), f.at i < 0x18 → view K Z (u.setBit (collAt c) f b i) = view K Z u := by
    intro u f b i h
    unfold Work.setBit
    split
    · rfl
    · exact hw _ _ _ _ h
  have hc : ∀ (u : Work) (f : Field) (n i : Nat), f.at i < 0x18 → view K Z (u.count (collAt c) f n i) = view K Z u :=
    fun u f n i h => hw _ _ _ _ h
  have h1 : COL_FSUM_FIRST.at 0 < 0x18 := by decide
  have h2 : COL_FSRC.at 0 < 0x18 := by decide
  have h3 : COL_FSUM_CE.at 0 < 0x18 := by decide
  have h4 : COL_FSUM_UC.at 0 < 0x18 := by decide
  have h5 : COL_FSUM_FATAL.at 0 < 0x18 := by decide
  have h6 : COL_CE_CNT.at 0 < 0x18 := by decide
  have h7 : COL_UC_CNT.at 0 < 0x18 := by decide
  have h8 : COL_FATAL_CNT.at 0 < 0x18 := by decide
  unfold Work.collect
  dsimp only
  have hu : ∀ u : Work, view K Z (u.ucAnew c) = view K Z u := fun u => view_ucAnew u c h_hearth
  cases r.cls <;> dsimp only <;> repeat' split
  all_goals simp (maxDischargeDepth := 9) only [↓view_setFlue, ↓view_when, ↓view_setEvents, ↓view_recSource, hu, h_bad, hw, hs, hc, h1, h2, h3, h4, h5, h6, h7, h8, h_events, h_flue, h_recd, h_sram, z_recorder, implies_true]

theorem view_eccLast (w : Work) (mem : ℕ) (word : ℕ) (ue : Bool) (z_pkg : Z (.page .pkg) = true) :
    view K Z (Work.eccLast w mem word ue) = view K Z w := by
  unfold Work.eccLast
  (try simp (maxDischargeDepth := 9) only [↓view_ite, ite_self, implies_true, id_eq, ↓view_count, zone_pgPKG, mod_pgPKG, ↓view_wr, z_pkg]) <;> (repeat' split) <;> first | rfl | simp (maxDischargeDepth := 9) only [↓view_ite, ite_self, implies_true, id_eq, ↓view_count, zone_pgPKG, mod_pgPKG, ↓view_wr, z_pkg]

theorem view_memErr (w : Work) (m : Mem) (word : ℕ) (e : Ecc) (h_bad : K .bad = true) (h_chop : K .chop = true) (h_clu : K .clu = true) (h_events : K .events = true) (h_flue : K .flue = true) (h_hearth : K .hearth = true) (h_lane : K .lane = true) (h_lines : K .lines = true) (h_net : K .net = true) (h_out : K .out = true) (h_recd : K .recd = true) (h_sl : K .sl = true) (h_sram : K .sram = true) (h_unit : K .unit = true) (z_clu : Z (.page .clu) = true) (z_hrt : Z (.page .hrt) = true) (z_hrt1 : Z (.page .hrt1) = true) (z_hrt2 : Z (.page .hrt2) = true) (z_pkg : Z (.page .pkg) = true) (z_recorder : Z (.page .recorder) = true) (z_rg : Z (.page .rg) = true) (z_sysn : Z (.page .sysn) = true) :
    view K Z (Work.memErr w m word e) = view K Z w := by
  unfold Work.memErr
  (try simp (maxDischargeDepth := 9) only [↓view_ite, ite_self, implies_true, id_eq, ↓view_flt, zone_pgRG, mod_pgRG, ↓view_eccLast, ↓view_forcedSafeRg, zone_pgPKG, mod_pgPKG, ↓view_markBad, ↓view_fltTo, zone_pgHRT, mod_pgHRT, ↓view_hearthFatal, h_bad, h_chop, h_clu, h_events, h_flue, h_hearth, h_lane, h_lines, h_net, h_out, h_recd, h_sl, h_sram, h_unit, z_clu, z_hrt, z_hrt1, z_hrt2, z_pkg, z_recorder, z_rg, z_sysn]) <;> (repeat' split) <;> first | rfl | simp (maxDischargeDepth := 9) only [↓view_ite, ite_self, implies_true, id_eq, ↓view_flt, zone_pgRG, mod_pgRG, ↓view_eccLast, ↓view_forcedSafeRg, zone_pgPKG, mod_pgPKG, ↓view_markBad, ↓view_fltTo, zone_pgHRT, mod_pgHRT, ↓view_hearthFatal, h_bad, h_chop, h_clu, h_events, h_flue, h_hearth, h_lane, h_lines, h_net, h_out, h_recd, h_sl, h_sram, h_unit, z_clu, z_hrt, z_hrt1, z_hrt2, z_pkg, z_recorder, z_rg, z_sysn]

theorem view_dramUse (w : Work) (a : ℕ) (n : ℕ) (h_bad : K .bad = true) (h_chop : K .chop = true) (h_clu : K .clu = true) (h_events : K .events = true) (h_flue : K .flue = true) (h_hearth : K .hearth = true) (h_lane : K .lane = true) (h_lines : K .lines = true) (h_net : K .net = true) (h_out : K .out = true) (h_recd : K .recd = true) (h_sl : K .sl = true) (h_sram : K .sram = true) (h_unit : K .unit = true) (z_clu : Z (.page .clu) = true) (z_hrt : Z (.page .hrt) = true) (z_hrt1 : Z (.page .hrt1) = true) (z_hrt2 : Z (.page .hrt2) = true) (z_pkg : Z (.page .pkg) = true) (z_recorder : Z (.page .recorder) = true) (z_rg : Z (.page .rg) = true) (z_sysn : Z (.page .sysn) = true) :
    view K Z (Work.dramUse w a n) = view K Z w := by
  unfold Work.dramUse
  (try simp (maxDischargeDepth := 9) only [↓view_ite, ite_self, implies_true, id_eq, ↓view_each, ↓view_memErr, h_bad, h_chop, h_clu, h_events, h_flue, h_hearth, h_lane, h_lines, h_net, h_out, h_recd, h_sl, h_sram, h_unit, z_clu, z_hrt, z_hrt1, z_hrt2, z_pkg, z_recorder, z_rg, z_sysn]) <;> (repeat' split) <;> first | rfl | simp (maxDischargeDepth := 9) only [↓view_ite, ite_self, implies_true, id_eq, ↓view_each, ↓view_memErr, h_bad, h_chop, h_clu, h_events, h_flue, h_hearth, h_lane, h_lines, h_net, h_out, h_recd, h_sl, h_sram, h_unit, z_clu, z_hrt, z_hrt1, z_hrt2, z_pkg, z_recorder, z_rg, z_sysn]

theorem view_rewriteChecks (w : Work) (h_bad : K .bad = true) (h_chop : K .chop = true) (h_clu : K .clu = true) (h_dram : K .dram = true) (h_events : K .events = true) (h_flue : K .flue = true) (h_hearth : K .hearth = true) (h_lane : K .lane = true) (h_lines : K .lines = true) (h_net : K .net = true) (h_out : K .out = true) (h_recd : K .recd = true) (h_sl : K .sl = true) (h_sram : K .sram = true) (h_unit : K .unit = true) (z_clu : Z (.page .clu) = true) (z_hrt : Z (.page .hrt) = true) (z_hrt1 : Z (.page .hrt1) = true) (z_hrt2 : Z (.page .hrt2) = true) (z_pkg : Z (.page .pkg) = true) (z_recorder : Z (.page .recorder) = true) (z_rg : Z (.page .rg) = true) (z_sysn : Z (.page .sysn) = true) :
    view K Z (Work.rewriteChecks w) = view K Z w := by
  unfold Work.rewriteChecks
  (try simp (maxDischargeDepth := 9) only [↓view_ite, ite_self, implies_true, id_eq, ↓view_each, ↓view_dramPut, ↓view_memErr, ↓view_sramPut, h_bad, h_chop, h_clu, h_dram, h_events, h_flue, h_hearth, h_lane, h_lines, h_net, h_out, h_recd, h_sl, h_sram, h_unit, z_clu, z_hrt, z_hrt1, z_hrt2, z_pkg, z_recorder, z_rg, z_sysn]) <;> (repeat' split) <;> first | rfl | simp (maxDischargeDepth := 9) only [↓view_ite, ite_self, implies_true, id_eq, ↓view_each, ↓view_dramPut, ↓view_memErr, ↓view_sramPut, h_bad, h_chop, h_clu, h_dram, h_events, h_flue, h_hearth, h_lane, h_lines, h_net, h_out, h_recd, h_sl, h_sram, h_unit, z_clu, z_hrt, z_hrt1, z_hrt2, z_pkg, z_recorder, z_rg, z_sysn]

end Sys2Proof.Machine
end

