-- ==== Sys2Proof/Laws/ViewCluster.lean ====
section
/-! SUPPORT. What each operation of Machine/Cluster.lean can write: the view without those kinds and zones is as it was. -/

set_option linter.unusedSimpArgs false
set_option linter.unreachableTactic false
set_option linter.unusedTactic false
set_option linter.unnecessarySeqFocus false

namespace Sys2Proof.Machine

variable {K : Kind → Bool} {Z : Zone → Bool}

theorem view_sendCmd (w : Work) (o : ℕ) (op : ℕ) (arg : BitVec 64) (h_lane : K .lane = true) :
    view K Z (Work.sendCmd w o op arg) = view K Z w := by
  unfold Work.sendCmd
  (try simp (maxDischargeDepth := 9) only [↓view_ite, ite_self, implies_true, id_eq, ↓view_modLn, h_lane]) <;> (repeat' split) <;> first | rfl | simp (maxDischargeDepth := 9) only [↓view_ite, ite_self, implies_true, id_eq, ↓view_modLn, h_lane]

theorem view_sendConfig (w : Work) (o : ℕ) (h_lane : K .lane = true) :
    view K Z (Work.sendConfig w o) = view K Z w := by
  unfold Work.sendConfig
  (try simp (maxDischargeDepth := 9) only [↓view_ite, ite_self, implies_true, id_eq, ↓view_modLn, h_lane]) <;> (repeat' split) <;> first | rfl | simp (maxDischargeDepth := 9) only [↓view_ite, ite_self, implies_true, id_eq, ↓view_modLn, h_lane]

theorem view_vlink (w : Work) (o : ℕ) (z_clu : Z (.page .clu) = true) :
    view K Z (Work.vlink w o).1 = view K Z w := by
  unfold Work.vlink
  (try simp (maxDischargeDepth := 9) only [↓view_ite, ite_self, implies_true, id_eq, ↓view_wr, zone_pgCLU, mod_pgCLU, z_clu]) <;> (repeat' split) <;> first | rfl | simp (maxDischargeDepth := 9) only [↓view_ite, ite_self, implies_true, id_eq, ↓view_wr, zone_pgCLU, mod_pgCLU, z_clu]

theorem view_refuse (w : Work) (o : ℕ) (cause : ℕ) (z_clu : Z (.page .clu) = true) :
    view K Z (Work.refuse w o cause) = view K Z w := by
  unfold Work.refuse
  (try simp (maxDischargeDepth := 9) only [↓view_ite, ite_self, implies_true, id_eq, ↓view_count, zone_pgCLU, mod_pgCLU, ↓view_wr, z_clu]) <;> (repeat' split) <;> first | rfl | simp (maxDischargeDepth := 9) only [↓view_ite, ite_self, implies_true, id_eq, ↓view_count, zone_pgCLU, mod_pgCLU, ↓view_wr, z_clu]

theorem view_dtShow (w : Work) (u : ℕ) (v : DtVal) (z_unit : Z (.page .unit) = true) :
    view K Z (Work.dtShow w u v) = view K Z w := by
  unfold Work.dtShow
  (try simp (maxDischargeDepth := 9) only [↓view_ite, ite_self, implies_true, id_eq, ↓view_wr, zone_pgUNIT, mod_pgUNIT, z_unit]) <;> (repeat' split) <;> first | rfl | simp (maxDischargeDepth := 9) only [↓view_ite, ite_self, implies_true, id_eq, ↓view_wr, zone_pgUNIT, mod_pgUNIT, z_unit]

theorem view_startUnit (w : Work) (u : ℕ) (h_unit : K .unit = true) (z_unit : Z (.page .unit) = true) :
    view K Z (Work.startUnit w u) = view K Z w := by
  unfold Work.startUnit
  (try simp (maxDischargeDepth := 9) only [↓view_ite, ite_self, implies_true, id_eq, ↓view_modUn, ↓view_dtShow, h_unit, z_unit]) <;> (repeat' split) <;> first | rfl | simp (maxDischargeDepth := 9) only [↓view_ite, ite_self, implies_true, id_eq, ↓view_modUn, ↓view_dtShow, h_unit, z_unit]

theorem view_toBypass (w : Work) (o : ℕ) (b : ℤ) (h_bad : K .bad = true) (h_clu : K .clu = true) (h_events : K .events = true) (h_flue : K .flue = true) (h_lane : K .lane = true) (h_lines : K .lines = true) (h_out : K .out = true) (h_recd : K .recd = true) (h_rgn : K .rgn = true) (h_sram : K .sram = true) (h_unit : K .unit = true) (z_clu : Z (.page .clu) = true) (z_recorder : Z (.page .recorder) = true) (z_unit : Z (.page .unit) = true) :
    view K Z (Work.toBypass w o b) = view K Z w := by
  unfold Work.toBypass
  (try simp (maxDischargeDepth := 9) only [↓view_ite, ite_self, implies_true, id_eq, ↓view_modRg, ↓view_sendCmd, ↓view_setState, h_bad, h_clu, h_events, h_flue, h_lane, h_lines, h_out, h_recd, h_rgn, h_sram, h_unit, z_clu, z_recorder, z_unit]) <;> (repeat' split) <;> first | rfl | simp (maxDischargeDepth := 9) only [↓view_ite, ite_self, implies_true, id_eq, ↓view_modRg, ↓view_sendCmd, ↓view_setState, h_bad, h_clu, h_events, h_flue, h_lane, h_lines, h_out, h_recd, h_rgn, h_sram, h_unit, z_clu, z_recorder, z_unit]

theorem view_cmdAct (w : Work) (o : ℕ) (code : ℕ) (b : ℤ) (h_bad : K .bad = true) (h_clu : K .clu = true) (h_events : K .events = true) (h_flue : K .flue = true) (h_lane : K .lane = true) (h_lines : K .lines = true) (h_out : K .out = true) (h_recd : K .recd = true) (h_rgn : K .rgn = true) (h_sram : K .sram = true) (h_unit : K .unit = true) (z_clu : Z (.page .clu) = true) (z_recorder : Z (.page .recorder) = true) (z_unit : Z (.page .unit) = true) :
    view K Z (Work.cmdAct w o code b) = view K Z w := by
  unfold Work.cmdAct
  (try simp (maxDischargeDepth := 9) only [↓view_ite, ite_self, implies_true, id_eq, ↓view_sendCmd, ↓view_setState, ↓view_vlink, ↓view_when, ↓view_toBypass, ↓view_modRg, ↓view_modCl, ↓view_cstat, ↓view_safeAction, h_bad, h_clu, h_events, h_flue, h_lane, h_lines, h_out, h_recd, h_rgn, h_sram, h_unit, z_clu, z_recorder, z_unit]) <;> (repeat' split) <;> first | rfl | simp (maxDischargeDepth := 9) only [↓view_ite, ite_self, implies_true, id_eq, ↓view_sendCmd, ↓view_setState, ↓view_vlink, ↓view_when, ↓view_toBypass, ↓view_modRg, ↓view_modCl, ↓view_cstat, ↓view_safeAction, h_bad, h_clu, h_events, h_flue, h_lane, h_lines, h_out, h_recd, h_rgn, h_sram, h_unit, z_clu, z_recorder, z_unit]

theorem view_cmdEnd (w : Work) (o : ℕ) (code : ℕ) (b : ℤ) (r : Option ℕ) (h_bad : K .bad = true) (h_clu : K .clu = true) (h_events : K .events = true) (h_flue : K .flue = true) (h_lane : K .lane = true) (h_lines : K .lines = true) (h_out : K .out = true) (h_recd : K .recd = true) (h_rgn : K .rgn = true) (h_sram : K .sram = true) (h_unit : K .unit = true) (z_clu : Z (.page .clu) = true) (z_recorder : Z (.page .recorder) = true) (z_unit : Z (.page .unit) = true) :
    view K Z (Work.cmdEnd w o code b r) = view K Z w := by
  unfold Work.cmdEnd
  (try simp (maxDischargeDepth := 9) only [↓view_ite, ite_self, implies_true, id_eq, ↓view_refuse, ↓view_vlink, ↓view_cmdAct, h_bad, h_clu, h_events, h_flue, h_lane, h_lines, h_out, h_recd, h_rgn, h_sram, h_unit, z_clu, z_recorder, z_unit]) <;> (repeat' split) <;> first | rfl | simp (maxDischargeDepth := 9) only [↓view_ite, ite_self, implies_true, id_eq, ↓view_refuse, ↓view_vlink, ↓view_cmdAct, h_bad, h_clu, h_events, h_flue, h_lane, h_lines, h_out, h_recd, h_rgn, h_sram, h_unit, z_clu, z_recorder, z_unit]

theorem view_evalCmd (w : Work) (o : ℕ) (code : ℕ) (b : ℤ) (h_bad : K .bad = true) (h_clu : K .clu = true) (h_events : K .events = true) (h_flue : K .flue = true) (h_lane : K .lane = true) (h_lines : K .lines = true) (h_out : K .out = true) (h_recd : K .recd = true) (h_rgn : K .rgn = true) (h_sram : K .sram = true) (h_unit : K .unit = true) (z_clu : Z (.page .clu) = true) (z_recorder : Z (.page .recorder) = true) (z_unit : Z (.page .unit) = true) :
    view K Z (Work.evalCmd w o code b) = view K Z w := by
  unfold Work.evalCmd
  (try simp (maxDischargeDepth := 9) only [↓view_ite, ite_self, implies_true, id_eq, ↓view_cmdEnd, ↓view_wr, zone_pgCLU, mod_pgCLU, h_bad, h_clu, h_events, h_flue, h_lane, h_lines, h_out, h_recd, h_rgn, h_sram, h_unit, z_clu, z_recorder, z_unit]) <;> (repeat' split) <;> first | rfl | simp (maxDischargeDepth := 9) only [↓view_ite, ite_self, implies_true, id_eq, ↓view_cmdEnd, ↓view_wr, zone_pgCLU, mod_pgCLU, h_bad, h_clu, h_events, h_flue, h_lane, h_lines, h_out, h_recd, h_rgn, h_sram, h_unit, z_clu, z_recorder, z_unit]

theorem view_clusterCmd (w : Work) (c : ℕ) (code : ℕ) (h_bad : K .bad = true) (h_clu : K .clu = true) (h_events : K .events = true) (h_flue : K .flue = true) (h_lane : K .lane = true) (h_lines : K .lines = true) (h_out : K .out = true) (h_recd : K .recd = true) (h_rgn : K .rgn = true) (h_sram : K .sram = true) (h_unit : K .unit = true) (z_clu : Z (.page .clu) = true) (z_recorder : Z (.page .recorder) = true) (z_unit : Z (.page .unit) = true) :
    view K Z (Work.clusterCmd w c code) = view K Z w := by
  unfold Work.clusterCmd
  (try simp (maxDischargeDepth := 9) only [↓view_ite, ite_self, implies_true, id_eq, ↓view_badval, zone_pgCLU, mod_pgCLU, ↓view_wr, ↓view_when, ↓view_evalCmd, h_bad, h_clu, h_events, h_flue, h_lane, h_lines, h_out, h_recd, h_rgn, h_sram, h_unit, z_clu, z_recorder, z_unit]) <;> (repeat' split) <;> first | rfl | simp (maxDischargeDepth := 9) only [↓view_ite, ite_self, implies_true, id_eq, ↓view_badval, zone_pgCLU, mod_pgCLU, ↓view_wr, ↓view_when, ↓view_evalCmd, h_bad, h_clu, h_events, h_flue, h_lane, h_lines, h_out, h_recd, h_rgn, h_sram, h_unit, z_clu, z_recorder, z_unit]

theorem view_pcTimeout (w : Work) (o : ℕ) (h_clu : K .clu = true) (h_flue : K .flue = true) (h_lane : K .lane = true) (h_lines : K .lines = true) (h_out : K .out = true) (h_unit : K .unit = true) (z_clu : Z (.page .clu) = true) :
    view K Z (Work.pcTimeout w o) = view K Z w := by
  unfold Work.pcTimeout
  (try simp (maxDischargeDepth := 9) only [↓view_ite, ite_self, implies_true, id_eq, ↓view_forcedSafe, ↓view_flt, zone_pgCLU, mod_pgCLU, ↓view_modCl, h_clu, h_flue, h_lane, h_lines, h_out, h_unit, z_clu]) <;> (repeat' split) <;> first | rfl | simp (maxDischargeDepth := 9) only [↓view_ite, ite_self, implies_true, id_eq, ↓view_forcedSafe, ↓view_flt, zone_pgCLU, mod_pgCLU, ↓view_modCl, h_clu, h_flue, h_lane, h_lines, h_out, h_unit, z_clu]

theorem view_clusterStep4 (w : Work) (o : ℕ) (b : ℤ) (h_bad : K .bad = true) (h_clu : K .clu = true) (h_events : K .events = true) (h_flue : K .flue = true) (h_lane : K .lane = true) (h_lines : K .lines = true) (h_out : K .out = true) (h_recd : K .recd = true) (h_rgn : K .rgn = true) (h_sram : K .sram = true) (h_unit : K .unit = true) (z_clu : Z (.page .clu) = true) (z_recorder : Z (.page .recorder) = true) (z_unit : Z (.page .unit) = true) :
    view K Z (Work.clusterStep4 w o b) = view K Z w := by
  unfold Work.clusterStep4
  (try simp (maxDischargeDepth := 9) only [↓view_ite, ite_self, implies_true, id_eq, ↓view_vlink, ↓view_sendCmd, ↓view_setState, ↓view_when, ↓view_pcTimeout, ↓view_evalCmd, ↓view_toBypass, h_bad, h_clu, h_events, h_flue, h_lane, h_lines, h_out, h_recd, h_rgn, h_sram, h_unit, z_clu, z_recorder, z_unit]) <;> (repeat' split) <;> first | rfl | simp (maxDischargeDepth := 9) only [↓view_ite, ite_self, implies_true, id_eq, ↓view_vlink, ↓view_sendCmd, ↓view_setState, ↓view_when, ↓view_pcTimeout, ↓view_evalCmd, ↓view_toBypass, h_bad, h_clu, h_events, h_flue, h_lane, h_lines, h_out, h_recd, h_rgn, h_sram, h_unit, z_clu, z_recorder, z_unit]

theorem view_recovStep (w : Work) (o : ℕ) (ok : Bool) (h_bad : K .bad = true) (h_clu : K .clu = true) (h_events : K .events = true) (h_flue : K .flue = true) (h_lane : K .lane = true) (h_lines : K .lines = true) (h_out : K .out = true) (h_recd : K .recd = true) (h_sram : K .sram = true) (h_unit : K .unit = true) (z_clu : Z (.page .clu) = true) (z_recorder : Z (.page .recorder) = true) (z_unit : Z (.page .unit) = true) :
    view K Z (Work.recovStep w o ok) = view K Z w := by
  unfold Work.recovStep
  (try simp (maxDischargeDepth := 9) only [↓view_ite, ite_self, implies_true, id_eq, ↓view_modCl, ↓view_pmodeUpdate, ↓view_cstat, h_bad, h_clu, h_events, h_flue, h_lane, h_lines, h_out, h_recd, h_sram, h_unit, z_clu, z_recorder, z_unit]) <;> (repeat' split) <;> first | rfl | simp (maxDischargeDepth := 9) only [↓view_ite, ite_self, implies_true, id_eq, ↓view_modCl, ↓view_pmodeUpdate, ↓view_cstat, h_bad, h_clu, h_events, h_flue, h_lane, h_lines, h_out, h_recd, h_sram, h_unit, z_clu, z_recorder, z_unit]

theorem view_lockStep (w : Work) (o : ℕ) (b : ℤ) (h_bad : K .bad = true) (h_clu : K .clu = true) (h_events : K .events = true) (h_flue : K .flue = true) (h_lane : K .lane = true) (h_lines : K .lines = true) (h_out : K .out = true) (h_recd : K .recd = true) (h_sram : K .sram = true) (h_unit : K .unit = true) (z_clu : Z (.page .clu) = true) (z_recorder : Z (.page .recorder) = true) (z_unit : Z (.page .unit) = true) :
    view K Z (Work.lockStep w o b) = view K Z w := by
  unfold Work.lockStep
  (try simp (maxDischargeDepth := 9) only [↓view_ite, ite_self, implies_true, id_eq, ↓view_setState, h_bad, h_clu, h_events, h_flue, h_lane, h_lines, h_out, h_recd, h_sram, h_unit, z_clu, z_recorder, z_unit]) <;> (repeat' split) <;> first | rfl | simp (maxDischargeDepth := 9) only [↓view_ite, ite_self, implies_true, id_eq, ↓view_setState, h_bad, h_clu, h_events, h_flue, h_lane, h_lines, h_out, h_recd, h_sram, h_unit, z_clu, z_recorder, z_unit]

theorem view_hostCmd (w : Work) (i : Instr) (c : Fin 48) (code : ℕ) (h_bad : K .bad = true) (h_clu : K .clu = true) (h_events : K .events = true) (h_flue : K .flue = true) (h_held : K .held = true) (h_lane : K .lane = true) (h_lines : K .lines = true) (h_out : K .out = true) (h_recd : K .recd = true) (h_rgn : K .rgn = true) (h_sram : K .sram = true) (h_unit : K .unit = true) (z_clu : Z (.page .clu) = true) (z_host : Z (.page .host) = true) (z_pkg : Z (.page .pkg) = true) (z_recorder : Z (.page .recorder) = true) (z_unit : Z (.page .unit) = true) :
    view K Z (Work.hostCmd w i c code) = view K Z w := by
  unfold Work.hostCmd
  (try simp (maxDischargeDepth := 9) only [↓view_ite, ite_self, implies_true, id_eq, ↓view_hostAct, ↓view_clusterCmd, h_bad, h_clu, h_events, h_flue, h_held, h_lane, h_lines, h_out, h_recd, h_rgn, h_sram, h_unit, z_clu, z_host, z_pkg, z_recorder, z_unit]) <;> (repeat' split) <;> first | rfl | simp (maxDischargeDepth := 9) only [↓view_ite, ite_self, implies_true, id_eq, ↓view_hostAct, ↓view_clusterCmd, h_bad, h_clu, h_events, h_flue, h_held, h_lane, h_lines, h_out, h_recd, h_rgn, h_sram, h_unit, z_clu, z_host, z_pkg, z_recorder, z_unit]

theorem view_stEnd (w : Work) (o : ℕ) (ok : Bool) (h_clu : K .clu = true) (h_flue : K .flue = true) (h_lines : K .lines = true) (h_out : K .out = true) (z_clu : Z (.page .clu) = true) :
    view K Z (Work.stEnd w o ok) = view K Z w := by
  unfold Work.stEnd
  (try simp (maxDischargeDepth := 9) only [↓view_ite, ite_self, implies_true, id_eq, ↓view_modCl, ↓view_wr, zone_pgCLU, mod_pgCLU, ↓view_flt, h_clu, h_flue, h_lines, h_out, z_clu]) <;> (repeat' split) <;> first | rfl | simp (maxDischargeDepth := 9) only [↓view_ite, ite_self, implies_true, id_eq, ↓view_modCl, ↓view_wr, zone_pgCLU, mod_pgCLU, ↓view_flt, h_clu, h_flue, h_lines, h_out, z_clu]

theorem view_stGo (w : Work) (c : ℕ) (h_clu : K .clu = true) (h_lane : K .lane = true) (z_clu : Z (.page .clu) = true) :
    view K Z (Work.stGo w c) = view K Z w := by
  unfold Work.stGo
  (try simp (maxDischargeDepth := 9) only [↓view_ite, ite_self, implies_true, id_eq, ↓view_modCl, ↓view_sendCmd, ↓view_wr, zone_pgCLU, mod_pgCLU, ↓view_badval, h_clu, h_lane, z_clu]) <;> (repeat' split) <;> first | rfl | simp (maxDischargeDepth := 9) only [↓view_ite, ite_self, implies_true, id_eq, ↓view_modCl, ↓view_sendCmd, ↓view_wr, zone_pgCLU, mod_pgCLU, ↓view_badval, h_clu, h_lane, z_clu]

theorem view_stReq (w : Work) (c : ℕ) (desat : ℕ) (vds : ℕ) (h_clu : K .clu = true) (h_lane : K .lane = true) (z_clu : Z (.page .clu) = true) :
    view K Z (Work.stReq w c desat vds) = view K Z w := by
  unfold Work.stReq
  (try simp (maxDischargeDepth := 9) only [↓view_ite, ite_self, implies_true, id_eq, ↓view_stGo, ↓view_unlocked, zone_pgCLU, mod_pgCLU, ↓view_wr, h_clu, h_lane, z_clu]) <;> (repeat' split) <;> first | rfl | simp (maxDischargeDepth := 9) only [↓view_ite, ite_self, implies_true, id_eq, ↓view_stGo, ↓view_unlocked, zone_pgCLU, mod_pgCLU, ↓view_wr, h_clu, h_lane, z_clu]

end Sys2Proof.Machine
end

