-- ==== Sys2Proof/Laws/ViewSlots.lean ====
section
/-! SUPPORT. What each operation of Machine/Slots.lean can write: the view without those kinds and zones is as it was. -/

set_option linter.unusedSimpArgs false
set_option linter.unreachableTactic false
set_option linter.unusedTactic false
set_option linter.unnecessarySeqFocus false

namespace Sys2Proof.Machine

variable {K : Kind → Bool} {Z : Zone → Bool}

theorem view_fileLate (w : Work) (n : ℕ) (k : ℕ) (v : Word) (shown : Bool) (z_window : Z .window = true) (z_abc : Z (.page .abc) = true) :
    view K Z (Work.fileLate w n k v shown) = view K Z w := by
  unfold Work.fileLate
  (try simp (maxDischargeDepth := 9) only [↓view_ite, ite_self, implies_true, id_eq, ↓view_put, zone_slotStatAddr, ↓view_count, zone_pgABC, mod_pgABC, zone_lateAddr, z_window, z_abc]) <;> (repeat' split) <;> first | rfl | simp (maxDischargeDepth := 9) only [↓view_ite, ite_self, implies_true, id_eq, ↓view_put, zone_slotStatAddr, ↓view_count, zone_pgABC, mod_pgABC, zone_lateAddr, z_window, z_abc]

theorem view_fileSlot (w : Work) (n : ℕ) (f : Filed) (b : ℤ) (h_rgn : K .rgn = true) (z_window : Z .window = true) (z_abc : Z (.page .abc) = true) (z_pkg : Z (.page .pkg) = true) :
    view K Z (Work.fileSlot w n f b) = view K Z w := by
  unfold Work.fileSlot
  (try simp (maxDischargeDepth := 9) only [↓view_ite, ite_self, implies_true, id_eq, ↓view_discard, ↓view_count, zone_pgABC, mod_pgABC, ↓view_modRg, ↓view_fileLate, h_rgn, z_window, z_abc, z_pkg]) <;> (repeat' split) <;> first | rfl | simp (maxDischargeDepth := 9) only [↓view_ite, ite_self, implies_true, id_eq, ↓view_discard, ↓view_count, zone_pgABC, mod_pgABC, ↓view_modRg, ↓view_fileLate, h_rgn, z_window, z_abc, z_pkg]

end Sys2Proof.Machine
end

