-- ==== Sys2Proof/Laws/ViewCarrier.lean ====
section
/-! SUPPORT. What each operation of Machine/Carrier.lean can write: the view without those kinds and zones is as it was. -/

set_option linter.unusedSimpArgs false
set_option linter.unreachableTactic false
set_option linter.unusedTactic false
set_option linter.unnecessarySeqFocus false

namespace Sys2Proof.Machine

variable {K : Kind → Bool} {Z : Zone → Bool}

theorem view_moveCarrier (w : Work) (u : ℕ) (b1 : ℤ) (b2 : ℤ) (h_unit : K .unit = true) (z_unit : Z (.page .unit) = true) :
    view K Z (Work.moveCarrier w u b1 b2) = view K Z w := by
  unfold Work.moveCarrier
  (try simp (maxDischargeDepth := 9) only [↓view_ite, ite_self, implies_true, id_eq, ↓view_modUn, ↓view_wr, zone_pgUNIT, mod_pgUNIT, ↓view_when, h_unit, z_unit]) <;> (repeat' split) <;> first | rfl | simp (maxDischargeDepth := 9) only [↓view_ite, ite_self, implies_true, id_eq, ↓view_modUn, ↓view_wr, zone_pgUNIT, mod_pgUNIT, ↓view_when, h_unit, z_unit]

theorem view_timed (w : Work) (o : ℕ) (x : Timed) (h_lane : K .lane = true) :
    view K Z (Work.timed w o x) = view K Z w := by
  unfold Work.timed
  (try simp (maxDischargeDepth := 9) only [↓view_ite, ite_self, implies_true, id_eq, ↓view_modLn, h_lane]) <;> (repeat' split) <;> first | rfl | simp (maxDischargeDepth := 9) only [↓view_ite, ite_self, implies_true, id_eq, ↓view_modLn, h_lane]

theorem view_planSamples (w : Work) (o : ℕ) (bs : List ℤ) (per : ℤ) (lo : ℤ) (hi : ℤ) (l : List Span) (h_clu : K .clu = true) (h_lane : K .lane = true) :
    view K Z (Work.planSamples w o bs per lo hi l) = view K Z w := by
  unfold Work.planSamples
  dsimp only
  split
  · refine (view_each _ _ _ fun v b => ?_).trans (view_modCl _ _ _ h_clu)
    split
    · split
      · simp (maxDischargeDepth := 9) only [↓view_when, ↓view_timed, ↓view_modCl, implies_true, h_clu, h_lane]
      · rfl
    · rfl
  · exact view_modCl _ _ _ h_clu

theorem view_planRegion (w : Work) (n : ℕ) (b1 : ℤ) (b2 : ℤ) (h_clu : K .clu = true) (h_lane : K .lane = true) :
    view K Z (Work.planRegion w n b1 b2) = view K Z w := by
  unfold Work.planRegion
  (try simp (maxDischargeDepth := 9) only [↓view_ite, ite_self, implies_true, id_eq, ↓view_each, ↓view_planSamples, h_clu, h_lane]) <;> (repeat' split) <;> first | rfl | simp (maxDischargeDepth := 9) only [↓view_ite, ite_self, implies_true, id_eq, ↓view_each, ↓view_planSamples, h_clu, h_lane]

theorem view_dropPlans (w : Work) (n : ℕ) (h_clu : K .clu = true) (h_lane : K .lane = true) :
    view K Z (Work.dropPlans w n) = view K Z w := by
  unfold Work.dropPlans
  (try simp (maxDischargeDepth := 9) only [↓view_ite, ite_self, implies_true, id_eq, ↓view_each, ↓view_modLn, ↓view_modCl, h_clu, h_lane]) <;> (repeat' split) <;> first | rfl | simp (maxDischargeDepth := 9) only [↓view_ite, ite_self, implies_true, id_eq, ↓view_each, ↓view_modLn, ↓view_modCl, h_clu, h_lane]

theorem view_restartCarriers (w : Work) (n : ℕ) (b : ℤ) (h_clu : K .clu = true) (h_lane : K .lane = true) (h_unit : K .unit = true) :
    view K Z (Work.restartCarriers w n b) = view K Z w := by
  unfold Work.restartCarriers
  (try simp (maxDischargeDepth := 9) only [↓view_ite, ite_self, implies_true, id_eq, ↓view_each, ↓view_dropPlans, ↓view_modUn, ↓view_planSamples, h_clu, h_lane, h_unit]) <;> (repeat' split) <;> first | rfl | simp (maxDischargeDepth := 9) only [↓view_ite, ite_self, implies_true, id_eq, ↓view_each, ↓view_dropPlans, ↓view_modUn, ↓view_planSamples, h_clu, h_lane, h_unit]

theorem view_spDrop (w : Work) (n : ℕ) (h_rgn : K .rgn = true) (z_sp : Z (.page .sp) = true) :
    view K Z (Work.spDrop w n) = view K Z w := by
  unfold Work.spDrop
  (try simp (maxDischargeDepth := 9) only [↓view_ite, ite_self, implies_true, id_eq, ↓view_modRg, ↓view_each, ↓view_wr, zone_pgSP, mod_pgSP, h_rgn, z_sp]) <;> (repeat' split) <;> first | rfl | simp (maxDischargeDepth := 9) only [↓view_ite, ite_self, implies_true, id_eq, ↓view_modRg, ↓view_each, ↓view_wr, zone_pgSP, mod_pgSP, h_rgn, z_sp]

theorem view_leaveCycle (w : Work) (n : ℕ) (h_clu : K .clu = true) (h_lane : K .lane = true) (h_rgn : K .rgn = true) (z_abc : Z (.page .abc) = true) (z_rg : Z (.page .rg) = true) (z_sp : Z (.page .sp) = true) :
    view K Z (Work.leaveCycle w n) = view K Z w := by
  unfold Work.leaveCycle
  (try simp (maxDischargeDepth := 9) only [↓view_ite, ite_self, implies_true, id_eq, ↓view_modRg, ↓view_dropPlans, ↓view_wr, zone_pgABC, mod_pgABC, zone_pgRG, mod_pgRG, ↓view_spDrop, h_clu, h_lane, h_rgn, z_abc, z_rg, z_sp]) <;> (repeat' split) <;> first | rfl | simp (maxDischargeDepth := 9) only [↓view_ite, ite_self, implies_true, id_eq, ↓view_modRg, ↓view_dropPlans, ↓view_wr, zone_pgABC, mod_pgABC, zone_pgRG, mod_pgRG, ↓view_spDrop, h_clu, h_lane, h_rgn, z_abc, z_rg, z_sp]

theorem view_awaitGrid (w : Work) (n : ℕ) (h_clu : K .clu = true) (h_lane : K .lane = true) (h_rgn : K .rgn = true) (h_unit : K .unit = true) :
    view K Z (Work.awaitGrid w n) = view K Z w := by
  unfold Work.awaitGrid
  (try simp (maxDischargeDepth := 9) only [↓view_ite, ite_self, implies_true, id_eq, ↓view_restartCarriers, ↓view_modRg, h_clu, h_lane, h_rgn, h_unit]) <;> (repeat' split) <;> first | rfl | simp (maxDischargeDepth := 9) only [↓view_ite, ite_self, implies_true, id_eq, ↓view_restartCarriers, ↓view_modRg, h_clu, h_lane, h_rgn, h_unit]

end Sys2Proof.Machine
end

