-- ==== Sys2Proof/Laws/ViewEdges.lean ====
section
/-! SUPPORT. What each operation of Machine/Edges.lean can write: the view without those kinds and zones is as it was. -/

set_option linter.unusedSimpArgs false
set_option linter.unreachableTactic false
set_option linter.unusedTactic false
set_option linter.unnecessarySeqFocus false

namespace Sys2Proof.Machine

variable {K : Kind → Bool} {Z : Zone → Bool}

theorem view_adapt (w : Work) (u : ℕ) (h_flue : K .flue = true) (h_lines : K .lines = true) (h_out : K .out = true) (h_unit : K .unit = true) (z_unit : Z (.page .unit) = true) :
    view K Z (Work.adapt w u) = view K Z w := by
  unfold Work.adapt
  (try simp (maxDischargeDepth := 9) only [↓view_ite, ite_self, implies_true, id_eq, ↓view_when, ↓view_dtShow, ↓view_modUn, ↓view_flt, zone_pgUNIT, mod_pgUNIT, ↓view_count, h_flue, h_lines, h_out, h_unit, z_unit]) <;> (repeat' split) <;> first | rfl | simp (maxDischargeDepth := 9) only [↓view_ite, ite_self, implies_true, id_eq, ↓view_when, ↓view_dtShow, ↓view_modUn, ↓view_flt, zone_pgUNIT, mod_pgUNIT, ↓view_count, h_flue, h_lines, h_out, h_unit, z_unit]

theorem view_restartPre (w : Work) (u : ℕ) (on : ℕ) (off : ℕ) (h_unit : K .unit = true) :
    view K Z (Work.restartPre w u on off) = view K Z w := by
  unfold Work.restartPre
  (try simp (maxDischargeDepth := 9) only [↓view_ite, ite_self, implies_true, id_eq, ↓view_modUn, h_unit]) <;> (repeat' split) <;> first | rfl | simp (maxDischargeDepth := 9) only [↓view_ite, ite_self, implies_true, id_eq, ↓view_modUn, h_unit]

theorem view_profTo (w : Work) (u : ℕ) (o : ℕ) (leg : ℕ) (due : ℤ) (word : ℕ) (h_lane : K .lane = true) (h_unit : K .unit = true) :
    view K Z (Work.profTo w u o leg due word) = view K Z w := by
  unfold Work.profTo
  (try simp (maxDischargeDepth := 9) only [↓view_ite, ite_self, implies_true, id_eq, ↓view_when, ↓view_modUn, ↓view_timed, h_lane, h_unit]) <;> (repeat' split) <;> first | rfl | simp (maxDischargeDepth := 9) only [↓view_ite, ite_self, implies_true, id_eq, ↓view_when, ↓view_modUn, ↓view_timed, h_lane, h_unit]

theorem view_emitEdges (w : Work) (u : ℕ) (o : ℕ) (leg : ℕ) (p : Shape) (l : List Edge) (h_lane : K .lane = true) (h_unit : K .unit = true) :
    view K Z (Work.emitEdges w u o leg p l) = view K Z w := by
  unfold Work.emitEdges
  (try simp (maxDischargeDepth := 9) only [↓view_ite, ite_self, implies_true, id_eq, ↓view_each, ↓view_modUn, ↓view_timed, ↓view_profTo, h_lane, h_unit]) <;> (repeat' split) <;> first | rfl | simp (maxDischargeDepth := 9) only [↓view_ite, ite_self, implies_true, id_eq, ↓view_each, ↓view_modUn, ↓view_timed, ↓view_profTo, h_lane, h_unit]

theorem view_ilkCompare (w : Work) (u : ℕ) (diff : ℕ) (h_flue : K .flue = true) (h_lines : K .lines = true) (h_out : K .out = true) (z_hrt : Z (.page .hrt) = true) (z_unit : Z (.page .unit) = true) :
    view K Z (Work.ilkCompare w u diff) = view K Z w := by
  unfold Work.ilkCompare
  (try simp (maxDischargeDepth := 9) only [↓view_ite, ite_self, implies_true, id_eq, ↓view_when, ↓view_injDone, zone_pgUNIT, mod_pgUNIT, ↓view_flt, ↓view_count, ↓view_wr, h_flue, h_lines, h_out, z_hrt, z_unit]) <;> (repeat' split) <;> first | rfl | simp (maxDischargeDepth := 9) only [↓view_ite, ite_self, implies_true, id_eq, ↓view_when, ↓view_injDone, zone_pgUNIT, mod_pgUNIT, ↓view_flt, ↓view_count, ↓view_wr, h_flue, h_lines, h_out, z_hrt, z_unit]

theorem view_shapeUnit (w : Work) (u : ℕ) (o : ℕ) (leg : ℕ) (b1 : ℤ) (b2 : ℤ) (ilk : ℕ) (h_flue : K .flue = true) (h_lane : K .lane = true) (h_lines : K .lines = true) (h_out : K .out = true) (h_unit : K .unit = true) (z_hrt : Z (.page .hrt) = true) (z_unit : Z (.page .unit) = true) :
    view K Z (Work.shapeUnit w u o leg b1 b2 ilk) = view K Z w := by
  unfold Work.shapeUnit
  (try simp (maxDischargeDepth := 9) only [↓view_ite, ite_self, implies_true, id_eq, ↓view_emitEdges, ↓view_when, ↓view_modUn, ↓view_count, zone_pgUNIT, mod_pgUNIT, ↓view_wr, ↓view_flt, ↓view_ilkCompare, h_flue, h_lane, h_lines, h_out, h_unit, z_hrt, z_unit]) <;> (repeat' split) <;> first | rfl | simp (maxDischargeDepth := 9) only [↓view_ite, ite_self, implies_true, id_eq, ↓view_emitEdges, ↓view_when, ↓view_modUn, ↓view_count, zone_pgUNIT, mod_pgUNIT, ↓view_wr, ↓view_flt, ↓view_ilkCompare, h_flue, h_lane, h_lines, h_out, h_unit, z_hrt, z_unit]

theorem view_adaptFirst (w : Work) (u : ℕ) (b1 : ℤ) (b2 : ℤ) (h_flue : K .flue = true) (h_lines : K .lines = true) (h_out : K .out = true) (h_unit : K .unit = true) (z_unit : Z (.page .unit) = true) :
    view K Z (Work.adaptFirst w u b1 b2) = view K Z w := by
  unfold Work.adaptFirst
  (try simp (maxDischargeDepth := 9) only [↓view_ite, ite_self, implies_true, id_eq, ↓view_each, ↓view_adapt, h_flue, h_lines, h_out, h_unit, z_unit]) <;> (repeat' split) <;> first | rfl | simp (maxDischargeDepth := 9) only [↓view_ite, ite_self, implies_true, id_eq, ↓view_each, ↓view_adapt, h_flue, h_lines, h_out, h_unit, z_unit]

theorem view_endUnit (w : Work) (u : ℕ) (b : ℤ) (h_lane : K .lane = true) (h_unit : K .unit = true) :
    view K Z (Work.endUnit w u b) = view K Z w := by
  unfold Work.endUnit
  (try simp (maxDischargeDepth := 9) only [↓view_ite, ite_self, implies_true, id_eq, ↓view_modUn, ↓view_when, ↓view_timed, ↓view_profTo, h_lane, h_unit]) <;> (repeat' split) <;> first | rfl | simp (maxDischargeDepth := 9) only [↓view_ite, ite_self, implies_true, id_eq, ↓view_modUn, ↓view_when, ↓view_timed, ↓view_profTo, h_lane, h_unit]

theorem view_resumeUnit (w : Work) (u : ℕ) (h_unit : K .unit = true) (z_unit : Z (.page .unit) = true) :
    view K Z (Work.resumeUnit w u) = view K Z w := by
  unfold Work.resumeUnit
  (try simp (maxDischargeDepth := 9) only [↓view_ite, ite_self, implies_true, id_eq, ↓view_modUn, ↓view_wr, zone_pgUNIT, mod_pgUNIT, h_unit, z_unit]) <;> (repeat' split) <;> first | rfl | simp (maxDischargeDepth := 9) only [↓view_ite, ite_self, implies_true, id_eq, ↓view_modUn, ↓view_wr, zone_pgUNIT, mod_pgUNIT, h_unit, z_unit]

theorem view_scheduleUnit (w : Work) (u : ℕ) (b1 : ℤ) (b2 : ℤ) (ilk : ℕ) (h_flue : K .flue = true) (h_lane : K .lane = true) (h_lines : K .lines = true) (h_out : K .out = true) (h_unit : K .unit = true) (z_hrt : Z (.page .hrt) = true) (z_unit : Z (.page .unit) = true) :
    view K Z (Work.scheduleUnit w u b1 b2 ilk) = view K Z w := by
  unfold Work.scheduleUnit
  dsimp only
  rw [view_moveCarrier _ _ _ _ h_unit z_unit]
  generalize hv : (if (w.un u).frozen = true then w.resumeUnit u else w) = v
  have e : view K Z v = view K Z w := by
    rw [← hv]; split
    · simp only [↓view_resumeUnit, h_flue, h_lane, h_lines, h_out, h_unit, z_hrt, z_unit]
    · rfl
  rw [← e]
  split
  · rfl
  · split
    · generalize hx : (if (v.un u).emit = true then v else v.startUnit u) = x
      have ex : view K Z x = view K Z v := by
        rw [← hx]; split
        · rfl
        · simp only [↓view_startUnit, h_flue, h_lane, h_lines, h_out, h_unit, z_hrt, z_unit]
      rw [← ex]
      generalize hy : (x.when (x.un u).fresh fun w => w.adaptFirst u b1 b2) = y
      have ey : view K Z y = view K Z x := by
        rw [← hy]; exact view_when _ _ _ fun a => by simp only [↓view_adaptFirst, h_flue, h_lane, h_lines, h_out, h_unit, z_hrt, z_unit]
      rw [← ey]
      split
      · simp only [↓view_shapeUnit, h_flue, h_lane, h_lines, h_out, h_unit, z_hrt, z_unit]
      · rfl
    · split
      · simp only [↓view_endUnit, h_flue, h_lane, h_lines, h_out, h_unit, z_hrt, z_unit]
      · rfl

theorem view_scheduleRegion (w : Work) (n : ℕ) (b1 : ℤ) (ilk : List (Fin 192 × BitVec 2)) (h_clu : K .clu = true) (h_flue : K .flue = true) (h_lane : K .lane = true) (h_lines : K .lines = true) (h_out : K .out = true) (h_unit : K .unit = true) (z_hrt : Z (.page .hrt) = true) (z_unit : Z (.page .unit) = true) :
    view K Z (Work.scheduleRegion w n b1 ilk) = view K Z w := by
  unfold Work.scheduleRegion
  (try simp (maxDischargeDepth := 9) only [↓view_ite, ite_self, implies_true, id_eq, ↓view_each, ↓view_planRegion, ↓view_scheduleUnit, h_clu, h_flue, h_lane, h_lines, h_out, h_unit, z_hrt, z_unit]) <;> (repeat' split) <;> first | rfl | simp (maxDischargeDepth := 9) only [↓view_ite, ite_self, implies_true, id_eq, ↓view_each, ↓view_planRegion, ↓view_scheduleUnit, h_clu, h_flue, h_lane, h_lines, h_out, h_unit, z_hrt, z_unit]

theorem view_hdCommit (w : Work) (u : ℕ) (h_unit : K .unit = true) (z_unit : Z (.page .unit) = true) :
    view K Z (Work.hdCommit w u) = view K Z w := by
  unfold Work.hdCommit
  (try simp (maxDischargeDepth := 9) only [↓view_ite, ite_self, implies_true, id_eq, ↓view_modUn, ↓view_wr, zone_pgUNIT, mod_pgUNIT, ↓view_when, h_unit, z_unit]) <;> (repeat' split) <;> first | rfl | simp (maxDischargeDepth := 9) only [↓view_ite, ite_self, implies_true, id_eq, ↓view_modUn, ↓view_wr, zone_pgUNIT, mod_pgUNIT, ↓view_when, h_unit, z_unit]

theorem view_hdLatch (w : Work) (u : ℕ) (h_unit : K .unit = true) (z_unit : Z (.page .unit) = true) :
    view K Z (Work.hdLatch w u) = view K Z w := by
  unfold Work.hdLatch
  (try simp (maxDischargeDepth := 9) only [↓view_ite, ite_self, implies_true, id_eq, ↓view_modUn, ↓view_wr, zone_pgUNIT, mod_pgUNIT, ↓view_when, h_unit, z_unit]) <;> (repeat' split) <;> first | rfl | simp (maxDischargeDepth := 9) only [↓view_ite, ite_self, implies_true, id_eq, ↓view_modUn, ↓view_wr, zone_pgUNIT, mod_pgUNIT, ↓view_when, h_unit, z_unit]

end Sys2Proof.Machine
end

