-- ==== Sys2Proof/Laws/ViewRoles.lean ====
section
/-! SUPPORT. What each operation of Machine/Roles.lean can write: the view without those kinds and zones is as it was. -/

set_option linter.unusedSimpArgs false
set_option linter.unreachableTactic false
set_option linter.unusedTactic false
set_option linter.unnecessarySeqFocus false

namespace Sys2Proof.Machine

variable {K : Kind → Bool} {Z : Zone → Bool}

theorem view_sendRole (w : Work) (h_lane : K .lane = true) :
    view K Z (Work.sendRole w) = view K Z w := by
  unfold Work.sendRole
  (try simp (maxDischargeDepth := 9) only [↓view_ite, ite_self, implies_true, id_eq, ↓view_each, ↓view_modLn, h_lane]) <;> (repeat' split) <;> first | rfl | simp (maxDischargeDepth := 9) only [↓view_ite, ite_self, implies_true, id_eq, ↓view_each, ↓view_modLn, h_lane]

theorem view_twinSend (w : Work) (type : ℕ) (n : ℕ) (cyc : ℕ) (ofs : ℕ) (payload : List Word) (h_out : K .out = true) :
    view K Z (Work.twinSend w type n cyc ofs payload) = view K Z w := by
  unfold Work.twinSend
  (try simp (maxDischargeDepth := 9) only [↓view_ite, ite_self, implies_true, id_eq, ↓view_emit, h_out]) <;> (repeat' split) <;> first | rfl | simp (maxDischargeDepth := 9) only [↓view_ite, ite_self, implies_true, id_eq, ↓view_emit, h_out]

theorem view_hello (w : Work) (h_out : K .out = true) :
    view K Z (Work.hello w) = view K Z w := by
  unfold Work.hello
  (try simp (maxDischargeDepth := 9) only [↓view_ite, ite_self, implies_true, id_eq, ↓view_twinSend, h_out]) <;> (repeat' split) <;> first | rfl | simp (maxDischargeDepth := 9) only [↓view_ite, ite_self, implies_true, id_eq, ↓view_twinSend, h_out]

theorem view_setRole (w : Work) (r : ℕ) (h_bad : K .bad = true) (h_chop : K .chop = true) (h_events : K .events = true) (h_flue : K .flue = true) (h_hearth : K .hearth = true) (h_lane : K .lane = true) (h_lines : K .lines = true) (h_net : K .net = true) (h_out : K .out = true) (h_recd : K .recd = true) (h_sl : K .sl = true) (h_sram : K .sram = true) (z_hrt : Z (.page .hrt) = true) (z_hrt1 : Z (.page .hrt1) = true) (z_pkg : Z (.page .pkg) = true) (z_recorder : Z (.page .recorder) = true) (z_sysn : Z (.page .sysn) = true) (z_twin : Z (.page .twin) = true) :
    view K Z (Work.setRole w r) = view K Z w := by
  unfold Work.setRole
  (try simp (maxDischargeDepth := 9) only [↓view_ite, ite_self, implies_true, id_eq, ↓view_chopEvalAll, ↓view_hearthShow, ↓view_hello, ↓view_sendRole, ↓view_when, ↓view_count, zone_pgTWIN, mod_pgTWIN, ↓view_wr, ↓view_recSource, ↓view_event, h_bad, h_chop, h_events, h_flue, h_hearth, h_lane, h_lines, h_net, h_out, h_recd, h_sl, h_sram, z_hrt, z_hrt1, z_pkg, z_recorder, z_sysn, z_twin]) <;> (repeat' split) <;> first | rfl | simp (maxDischargeDepth := 9) only [↓view_ite, ite_self, implies_true, id_eq, ↓view_chopEvalAll, ↓view_hearthShow, ↓view_hello, ↓view_sendRole, ↓view_when, ↓view_count, zone_pgTWIN, mod_pgTWIN, ↓view_wr, ↓view_recSource, ↓view_event, h_bad, h_chop, h_events, h_flue, h_hearth, h_lane, h_lines, h_net, h_out, h_recd, h_sl, h_sram, z_hrt, z_hrt1, z_pkg, z_recorder, z_sysn, z_twin]

theorem view_setEpoch (w : Work) (e : ℕ) (z_twin : Z (.page .twin) = true) :
    view K Z (Work.setEpoch w e) = view K Z w := by
  unfold Work.setEpoch
  (try simp (maxDischargeDepth := 9) only [↓view_ite, ite_self, implies_true, id_eq, ↓view_wr, zone_pgTWIN, mod_pgTWIN, z_twin]) <;> (repeat' split) <;> first | rfl | simp (maxDischargeDepth := 9) only [↓view_ite, ite_self, implies_true, id_eq, ↓view_wr, zone_pgTWIN, mod_pgTWIN, z_twin]

theorem view_stepDown (w : Work) (h_bad : K .bad = true) (h_chop : K .chop = true) (h_events : K .events = true) (h_flue : K .flue = true) (h_hearth : K .hearth = true) (h_lane : K .lane = true) (h_lines : K .lines = true) (h_net : K .net = true) (h_out : K .out = true) (h_recd : K .recd = true) (h_rgn : K .rgn = true) (h_sl : K .sl = true) (h_sram : K .sram = true) (h_twin : K .twin = true) (h_unit : K .unit = true) (z_hrt : Z (.page .hrt) = true) (z_hrt1 : Z (.page .hrt1) = true) (z_pkg : Z (.page .pkg) = true) (z_recorder : Z (.page .recorder) = true) (z_sysn : Z (.page .sysn) = true) (z_twin : Z (.page .twin) = true) :
    view K Z (Work.stepDown w) = view K Z w := by
  unfold Work.stepDown
  (try simp (maxDischargeDepth := 9) only [↓view_ite, ite_self, implies_true, id_eq, ↓view_stamp, zone_pgTWIN, mod_pgTWIN, ↓view_modTwin, ↓view_wr, ↓view_flt, ↓view_setRole, ↓view_each, ↓view_stopUnits, ↓view_modLn, ↓view_modTwinRg, ↓view_modRg, h_bad, h_chop, h_events, h_flue, h_hearth, h_lane, h_lines, h_net, h_out, h_recd, h_rgn, h_sl, h_sram, h_twin, h_unit, z_hrt, z_hrt1, z_pkg, z_recorder, z_sysn, z_twin]) <;> (repeat' split) <;> first | rfl | simp (maxDischargeDepth := 9) only [↓view_ite, ite_self, implies_true, id_eq, ↓view_stamp, zone_pgTWIN, mod_pgTWIN, ↓view_modTwin, ↓view_wr, ↓view_flt, ↓view_setRole, ↓view_each, ↓view_stopUnits, ↓view_modLn, ↓view_modTwinRg, ↓view_modRg, h_bad, h_chop, h_events, h_flue, h_hearth, h_lane, h_lines, h_net, h_out, h_recd, h_rgn, h_sl, h_sram, h_twin, h_unit, z_hrt, z_hrt1, z_pkg, z_recorder, z_sysn, z_twin]

theorem view_conflict (w : Work) (h_flue : K .flue = true) (h_lines : K .lines = true) (h_out : K .out = true) (z_twin : Z (.page .twin) = true) :
    view K Z (Work.conflict w) = view K Z w := by
  unfold Work.conflict
  (try simp (maxDischargeDepth := 9) only [↓view_ite, ite_self, implies_true, id_eq, ↓view_flt, zone_pgTWIN, mod_pgTWIN, ↓view_wr, h_flue, h_lines, h_out, z_twin]) <;> (repeat' split) <;> first | rfl | simp (maxDischargeDepth := 9) only [↓view_ite, ite_self, implies_true, id_eq, ↓view_flt, zone_pgTWIN, mod_pgTWIN, ↓view_wr, h_flue, h_lines, h_out, z_twin]

theorem view_twinShow (w : Work) (h_flue : K .flue = true) (h_lines : K .lines = true) (h_out : K .out = true) (z_twin : Z (.page .twin) = true) :
    view K Z (Work.twinShow w) = view K Z w := by
  unfold Work.twinShow
  (try simp (maxDischargeDepth := 9) only [↓view_ite, ite_self, implies_true, id_eq, ↓view_wr, zone_pgTWIN, mod_pgTWIN, ↓view_flt, h_flue, h_lines, h_out, z_twin]) <;> (repeat' split) <;> first | rfl | simp (maxDischargeDepth := 9) only [↓view_ite, ite_self, implies_true, id_eq, ↓view_wr, zone_pgTWIN, mod_pgTWIN, ↓view_flt, h_flue, h_lines, h_out, z_twin]

end Sys2Proof.Machine
end

