-- ==== Sys2Proof/Laws/ViewTraining.lean ====
section
/-! SUPPORT. What each operation of Machine/Training.lean can write: the view without those kinds and zones is as it was. -/

set_option linter.unusedSimpArgs false
set_option linter.unreachableTactic false
set_option linter.unusedTactic false
set_option linter.unnecessarySeqFocus false

namespace Sys2Proof.Machine

variable {K : Kind → Bool} {Z : Zone → Bool}

theorem lanePage_zone (l : LaneId) (z_clane : Z (.page .clane) = true) (z_sysn : Z (.page .sysn) = true) :
    Z (zoneOf (lanePage l).1) = true := by
  cases l with
  | cell c => rw [show (lanePage (.cell c)).1 = pgCLANE c from rfl, zone_pgCLANE]; exact z_clane
  | sys n => rw [show (lanePage (.sys n)).1 = pgSYSN from rfl, zone_pgSYSN]; exact z_sysn
  | twin n => rw [show (lanePage (.twin n)).1 = pgSYSN from rfl, zone_pgSYSN]; exact z_sysn

theorem lanePage_mod (l : LaneId) : (lanePage l).1 % 0x1000 = 0 := by
  cases l with
  | cell c => exact mod_pgCLANE c
  | sys n => exact mod_pgSYSN
  | twin n => exact mod_pgSYSN

theorem view_lwr (w : Work) (l : LaneId) (fc fs : Field) (v : Nat) (z_clane : Z (.page .clane) = true) (z_sysn : Z (.page .sysn) = true) :
    view K Z (w.lwr l fc fs v) = view K Z w := view_wr _ _ _ _ _ (lanePage_mod l) (lanePage_zone l z_clane z_sysn)

theorem view_lcount (w : Work) (l : LaneId) (fc fs : Field) (z_clane : Z (.page .clane) = true) (z_sysn : Z (.page .sysn) = true) :
    view K Z (w.lcount l fc fs) = view K Z w := view_count _ _ _ _ _ (lanePage_mod l) (lanePage_zone l z_clane z_sysn)

theorem view_laneEvent (w : Work) (c : ℕ) (old : ℕ) (st : ℕ) (h_events : K .events = true) :
    view K Z (Work.laneEvent w c old st) = view K Z w := by
  unfold Work.laneEvent
  (try simp (maxDischargeDepth := 9) only [↓view_ite, ite_self, implies_true, id_eq, ↓view_when, ↓view_event, h_events]) <;> (repeat' split) <;> first | rfl | simp (maxDischargeDepth := 9) only [↓view_ite, ite_self, implies_true, id_eq, ↓view_when, ↓view_event, h_events]

theorem view_laneSet (w : Work) (l : LaneId) (st : ℕ) (h_events : K .events = true) (z_clane : Z (.page .clane) = true) (z_sysn : Z (.page .sysn) = true) :
    view K Z (Work.laneSet w l st) = view K Z w := by
  unfold Work.laneSet
  (try simp (maxDischargeDepth := 9) only [↓view_ite, ite_self, implies_true, id_eq, ↓view_laneEvent, ↓view_lwr, h_events, z_clane, z_sysn]) <;> (repeat' split) <;> first | rfl | simp (maxDischargeDepth := 9) only [↓view_ite, ite_self, implies_true, id_eq, ↓view_laneEvent, ↓view_lwr, h_events, z_clane, z_sysn]

theorem view_laneShow (w : Work) (c : ℕ) (z_clu : Z (.page .clu) = true) :
    view K Z (Work.laneShow w c) = view K Z w := by
  unfold Work.laneShow
  (try simp (maxDischargeDepth := 9) only [↓view_ite, ite_self, implies_true, id_eq, ↓view_cstat, ↓view_wr, zone_pgCLU, mod_pgCLU, z_clu]) <;> (repeat' split) <;> first | rfl | simp (maxDischargeDepth := 9) only [↓view_ite, ite_self, implies_true, id_eq, ↓view_cstat, ↓view_wr, zone_pgCLU, mod_pgCLU, z_clu]

theorem view_ceForget (w : Work) (c : ℕ) (z_clane : Z (.page .clane) = true) :
    view K Z (Work.ceForget w c) = view K Z w := by
  unfold Work.ceForget
  dsimp only
  refine (view_each_mem _ _ _ fun v x hx => ?_).trans (view_each _ _ _ fun v x => ?_)
  · have hlt : ∀ y ∈ [CLANE_CE_EPOCH.off, CLANE_CE_TEMP_TCAP.off, CLANE_CE_HEALTH.off, CLANE_CE_ST_ST_SEQ.off,
        CLANE_CE_CNT0_BADFR.off, CLANE_CE_CNT1_ILK.off, CLANE_CE_CNT2_IGNORED.off, CLANE_CE_CAP_VER.off], y < 0x1000 := by
      decide
    exact view_put_page _ _ _ _ (hlt x hx) (mod_pgCLANE c) (by rw [zone_pgCLANE]; exact z_clane)
  · exact view_wr _ _ _ _ _ (mod_pgCLANE c) (by rw [zone_pgCLANE]; exact z_clane)

theorem view_eqLoad (w : Work) (l : LaneId) (z_clane : Z (.page .clane) = true) (z_sysn : Z (.page .sysn) = true) :
    view K Z (w.eqLoad l) = view K Z w := by
  unfold Work.eqLoad
  simp only [view_lwr, z_clane, z_sysn]

theorem view_masterPass (w : Work) (c : ℕ) (h_lane : K .lane = true) :
    view K Z (Work.masterPass w c) = view K Z w := by
  unfold Work.masterPass
  (try simp (maxDischargeDepth := 9) only [↓view_ite, ite_self, implies_true, id_eq, ↓view_when, ↓view_modLn, h_lane]) <;> (repeat' split) <;> first | rfl | simp (maxDischargeDepth := 9) only [↓view_ite, ite_self, implies_true, id_eq, ↓view_when, ↓view_modLn, h_lane]

theorem view_acquire (w : Work) (l : LaneId) (h_events : K .events = true) (h_hearth : K .hearth = true) (h_lane : K .lane = true) (h_sl : K .sl = true) (z_clane : Z (.page .clane) = true) (z_sysn : Z (.page .sysn) = true) :
    view K Z (Work.acquire w l) = view K Z w := by
  unfold Work.acquire
  (try simp (maxDischargeDepth := 9) only [↓view_ite, ite_self, implies_true, id_eq, ↓view_wr, zone_pgCLANE, mod_pgCLANE, ↓view_ceForget, ↓view_modLn, ↓view_when, ↓view_modHearth, ↓view_eqLoad, ↓view_lwr, ↓view_laneSet, ↓view_masterPass, ↓view_modSl, h_events, h_hearth, h_lane, h_sl, z_clane, z_sysn]) <;> (repeat' split) <;> first | rfl | simp (maxDischargeDepth := 9) only [↓view_ite, ite_self, implies_true, id_eq, ↓view_wr, zone_pgCLANE, mod_pgCLANE, ↓view_ceForget, ↓view_modLn, ↓view_when, ↓view_modHearth, ↓view_eqLoad, ↓view_lwr, ↓view_laneSet, ↓view_masterPass, ↓view_modSl, h_events, h_hearth, h_lane, h_sl, z_clane, z_sysn]

theorem view_linkDown (w : Work) (h_flue : K .flue = true) (h_lines : K .lines = true) (h_out : K .out = true) (h_twin : K .twin = true) (z_twin : Z (.page .twin) = true) :
    view K Z (Work.linkDown w) = view K Z w := by
  unfold Work.linkDown
  (try simp (maxDischargeDepth := 9) only [↓view_ite, ite_self, implies_true, id_eq, ↓view_twinShow, ↓view_flt, zone_pgTWIN, mod_pgTWIN, ↓view_modTwin, ↓view_wr, h_flue, h_lines, h_out, h_twin, z_twin]) <;> (repeat' split) <;> first | rfl | simp (maxDischargeDepth := 9) only [↓view_ite, ite_self, implies_true, id_eq, ↓view_twinShow, ↓view_flt, zone_pgTWIN, mod_pgTWIN, ↓view_modTwin, ↓view_wr, h_flue, h_lines, h_out, h_twin, z_twin]

theorem view_laneDown (w : Work) (l : LaneId) (cause : ℕ) (h_clu : K .clu = true) (h_events : K .events = true) (h_flue : K .flue = true) (h_lane : K .lane = true) (h_lines : K .lines = true) (h_out : K .out = true) (h_sl : K .sl = true) (h_twin : K .twin = true) (h_unit : K .unit = true) (z_clane : Z (.page .clane) = true) (z_clu : Z (.page .clu) = true) (z_sysn : Z (.page .sysn) = true) (z_twin : Z (.page .twin) = true) :
    view K Z (Work.laneDown w l cause) = view K Z w := by
  unfold Work.laneDown
  (try simp (maxDischargeDepth := 9) only [↓view_ite, ite_self, implies_true, id_eq, ↓view_masterPass, ↓view_modLn, ↓view_laneShow, ↓view_laneSet, ↓view_lwr, ↓view_laneLost, ↓view_flt, zone_pgCLANE, mod_pgCLANE, ↓view_stamp, ↓view_count, ↓view_modSl, zone_pgSYSN, mod_pgSYSN, ↓view_linkDown, h_clu, h_events, h_flue, h_lane, h_lines, h_out, h_sl, h_twin, h_unit, z_clane, z_clu, z_sysn, z_twin]) <;> (repeat' split) <;> first | rfl | simp (maxDischargeDepth := 9) only [↓view_ite, ite_self, implies_true, id_eq, ↓view_masterPass, ↓view_modLn, ↓view_laneShow, ↓view_laneSet, ↓view_lwr, ↓view_laneLost, ↓view_flt, zone_pgCLANE, mod_pgCLANE, ↓view_stamp, ↓view_count, ↓view_modSl, zone_pgSYSN, mod_pgSYSN, ↓view_linkDown, h_clu, h_events, h_flue, h_lane, h_lines, h_out, h_sl, h_twin, h_unit, z_clane, z_clu, z_sysn, z_twin]

theorem view_laneLoss (w : Work) (l : LaneId) (cause : ℕ) (h_clu : K .clu = true) (h_events : K .events = true) (h_flue : K .flue = true) (h_hearth : K .hearth = true) (h_lane : K .lane = true) (h_lines : K .lines = true) (h_out : K .out = true) (h_sl : K .sl = true) (h_twin : K .twin = true) (h_unit : K .unit = true) (z_clane : Z (.page .clane) = true) (z_clu : Z (.page .clu) = true) (z_sysn : Z (.page .sysn) = true) (z_twin : Z (.page .twin) = true) :
    view K Z (Work.laneLoss w l cause) = view K Z w := by
  unfold Work.laneLoss
  (try simp (maxDischargeDepth := 9) only [↓view_ite, ite_self, implies_true, id_eq, ↓view_acquire, ↓view_laneDown, h_clu, h_events, h_flue, h_hearth, h_lane, h_lines, h_out, h_sl, h_twin, h_unit, z_clane, z_clu, z_sysn, z_twin]) <;> (repeat' split) <;> first | rfl | simp (maxDischargeDepth := 9) only [↓view_ite, ite_self, implies_true, id_eq, ↓view_acquire, ↓view_laneDown, h_clu, h_events, h_flue, h_hearth, h_lane, h_lines, h_out, h_sl, h_twin, h_unit, z_clane, z_clu, z_sysn, z_twin]

theorem view_cellUp (w : Work) (c : ℕ) (h_events : K .events = true) (h_lane : K .lane = true) (z_clane : Z (.page .clane) = true) (z_clu : Z (.page .clu) = true) :
    view K Z (Work.cellUp w c) = view K Z w := by
  unfold Work.cellUp
  (try simp (maxDischargeDepth := 9) only [↓view_ite, ite_self, implies_true, id_eq, ↓view_modLn, ↓view_laneShow, ↓view_laneEvent, ↓view_wr, zone_pgCLANE, mod_pgCLANE, ↓view_sendConfig, h_events, h_lane, z_clane, z_clu]) <;> (repeat' split) <;> first | rfl | simp (maxDischargeDepth := 9) only [↓view_ite, ite_self, implies_true, id_eq, ↓view_modLn, ↓view_laneShow, ↓view_laneEvent, ↓view_wr, zone_pgCLANE, mod_pgCLANE, ↓view_sendConfig, h_events, h_lane, z_clane, z_clu]

theorem view_laneEnable (w : Work) (l : LaneId) (en : Bool) (h_events : K .events = true) (h_flue : K .flue = true) (h_hearth : K .hearth = true) (h_lane : K .lane = true) (h_lines : K .lines = true) (h_out : K .out = true) (h_sl : K .sl = true) (h_twin : K .twin = true) (z_clane : Z (.page .clane) = true) (z_clu : Z (.page .clu) = true) (z_sysn : Z (.page .sysn) = true) (z_twin : Z (.page .twin) = true) :
    view K Z (Work.laneEnable w l en) = view K Z w := by
  unfold Work.laneEnable
  (try simp (maxDischargeDepth := 9) only [↓view_ite, ite_self, implies_true, id_eq, ↓view_acquire, ↓view_modLn, ↓view_laneShow, ↓view_when, ↓view_lwr, ↓view_laneSet, ↓view_masterPass, ↓view_modSl, ↓view_linkDown, h_events, h_flue, h_hearth, h_lane, h_lines, h_out, h_sl, h_twin, z_clane, z_clu, z_sysn, z_twin]) <;> (repeat' split) <;> first | rfl | simp (maxDischargeDepth := 9) only [↓view_ite, ite_self, implies_true, id_eq, ↓view_acquire, ↓view_modLn, ↓view_laneShow, ↓view_when, ↓view_lwr, ↓view_laneSet, ↓view_masterPass, ↓view_modSl, ↓view_linkDown, h_events, h_flue, h_hearth, h_lane, h_lines, h_out, h_sl, h_twin, z_clane, z_clu, z_sysn, z_twin]

theorem view_cellRetrain (w : Work) (c : Fin 48) (h_clu : K .clu = true) (h_events : K .events = true) (h_flue : K .flue = true) (h_hearth : K .hearth = true) (h_lane : K .lane = true) (h_lines : K .lines = true) (h_out : K .out = true) (h_sl : K .sl = true) (h_twin : K .twin = true) (h_unit : K .unit = true) (z_clane : Z (.page .clane) = true) (z_clu : Z (.page .clu) = true) (z_sysn : Z (.page .sysn) = true) (z_twin : Z (.page .twin) = true) :
    view K Z (Work.cellRetrain w c) = view K Z w := by
  unfold Work.cellRetrain
  (try simp (maxDischargeDepth := 9) only [↓view_ite, ite_self, implies_true, id_eq, ↓view_laneDown, ↓view_badval, zone_pgCLANE, mod_pgCLANE, ↓view_acquire, h_clu, h_events, h_flue, h_hearth, h_lane, h_lines, h_out, h_sl, h_twin, h_unit, z_clane, z_clu, z_sysn, z_twin]) <;> (repeat' split) <;> first | rfl | simp (maxDischargeDepth := 9) only [↓view_ite, ite_self, implies_true, id_eq, ↓view_laneDown, ↓view_badval, zone_pgCLANE, mod_pgCLANE, ↓view_acquire, h_clu, h_events, h_flue, h_hearth, h_lane, h_lines, h_out, h_sl, h_twin, h_unit, z_clane, z_clu, z_sysn, z_twin]

theorem view_slRetrain (w : Work) (l : Fin 12) (h_clu : K .clu = true) (h_events : K .events = true) (h_flue : K .flue = true) (h_hearth : K .hearth = true) (h_lane : K .lane = true) (h_lines : K .lines = true) (h_out : K .out = true) (h_sl : K .sl = true) (h_twin : K .twin = true) (h_unit : K .unit = true) (z_clane : Z (.page .clane) = true) (z_clu : Z (.page .clu) = true) (z_sysn : Z (.page .sysn) = true) (z_twin : Z (.page .twin) = true) :
    view K Z (Work.slRetrain w l) = view K Z w := by
  unfold Work.slRetrain
  (try simp (maxDischargeDepth := 9) only [↓view_ite, ite_self, implies_true, id_eq, ↓view_laneDown, ↓view_acquire, h_clu, h_events, h_flue, h_hearth, h_lane, h_lines, h_out, h_sl, h_twin, h_unit, z_clane, z_clu, z_sysn, z_twin]) <;> (repeat' split) <;> first | rfl | simp (maxDischargeDepth := 9) only [↓view_ite, ite_self, implies_true, id_eq, ↓view_laneDown, ↓view_acquire, h_clu, h_events, h_flue, h_hearth, h_lane, h_lines, h_out, h_sl, h_twin, h_unit, z_clane, z_clu, z_sysn, z_twin]

theorem view_fomRst (w : Work) (l : LaneId) (z_clane : Z (.page .clane) = true) (z_sysn : Z (.page .sysn) = true) :
    view K Z (Work.fomRst w l) = view K Z w := by
  unfold Work.fomRst
  (try simp (maxDischargeDepth := 9) only [↓view_ite, ite_self, implies_true, id_eq, ↓view_lwr, z_clane, z_sysn]) <;> (repeat' split) <;> first | rfl | simp (maxDischargeDepth := 9) only [↓view_ite, ite_self, implies_true, id_eq, ↓view_lwr, z_clane, z_sysn]

theorem view_bufferError (w : Work) (l : LaneId) (h_clu : K .clu = true) (h_events : K .events = true) (h_flue : K .flue = true) (h_hearth : K .hearth = true) (h_lane : K .lane = true) (h_lines : K .lines = true) (h_out : K .out = true) (h_sl : K .sl = true) (h_twin : K .twin = true) (h_unit : K .unit = true) (z_clane : Z (.page .clane) = true) (z_clu : Z (.page .clu) = true) (z_sysn : Z (.page .sysn) = true) (z_twin : Z (.page .twin) = true) :
    view K Z (Work.bufferError w l) = view K Z w := by
  unfold Work.bufferError
  (try simp (maxDischargeDepth := 9) only [↓view_ite, ite_self, implies_true, id_eq, ↓view_laneLoss, ↓view_count, zone_pgCLANE, mod_pgCLANE, h_clu, h_events, h_flue, h_hearth, h_lane, h_lines, h_out, h_sl, h_twin, h_unit, z_clane, z_clu, z_sysn, z_twin]) <;> (repeat' split) <;> first | rfl | simp (maxDischargeDepth := 9) only [↓view_ite, ite_self, implies_true, id_eq, ↓view_laneLoss, ↓view_count, zone_pgCLANE, mod_pgCLANE, h_clu, h_events, h_flue, h_hearth, h_lane, h_lines, h_out, h_sl, h_twin, h_unit, z_clane, z_clu, z_sysn, z_twin]

theorem view_skipGap (w : Work) (c : Fin 48) (f : ℤ) (h_clu : K .clu = true) (h_events : K .events = true) (h_flue : K .flue = true) (h_hearth : K .hearth = true) (h_lane : K .lane = true) (h_lines : K .lines = true) (h_out : K .out = true) (h_sl : K .sl = true) (h_twin : K .twin = true) (h_unit : K .unit = true) (z_clane : Z (.page .clane) = true) (z_clu : Z (.page .clu) = true) (z_sysn : Z (.page .sysn) = true) (z_twin : Z (.page .twin) = true) :
    view K Z (Work.skipGap w c f) = view K Z w := by
  unfold Work.skipGap
  (try simp (maxDischargeDepth := 9) only [↓view_ite, ite_self, implies_true, id_eq, ↓view_bufferError, ↓view_wr, zone_pgCLANE, mod_pgCLANE, ↓view_count, h_clu, h_events, h_flue, h_hearth, h_lane, h_lines, h_out, h_sl, h_twin, h_unit, z_clane, z_clu, z_sysn, z_twin]) <;> (repeat' split) <;> first | rfl | simp (maxDischargeDepth := 9) only [↓view_ite, ite_self, implies_true, id_eq, ↓view_bufferError, ↓view_wr, zone_pgCLANE, mod_pgCLANE, ↓view_count, h_clu, h_events, h_flue, h_hearth, h_lane, h_lines, h_out, h_sl, h_twin, h_unit, z_clane, z_clu, z_sysn, z_twin]

theorem view_dataSymbol (w : Work) (l : LaneId) (z_clane : Z (.page .clane) = true) (z_sysn : Z (.page .sysn) = true) :
    view K Z (Work.dataSymbol w l) = view K Z w := by
  unfold Work.dataSymbol
  (try simp (maxDischargeDepth := 9) only [↓view_ite, ite_self, implies_true, id_eq, ↓view_lwr, z_clane, z_sysn]) <;> (repeat' split) <;> first | rfl | simp (maxDischargeDepth := 9) only [↓view_ite, ite_self, implies_true, id_eq, ↓view_lwr, z_clane, z_sysn]

theorem view_adaptMove (w : Work) (l : LaneId) (ctle : BitVec 4) (taps : Vector (BitVec 7) 3) (z_clane : Z (.page .clane) = true) (z_sysn : Z (.page .sysn) = true) :
    view K Z (Work.adaptMove w l ctle taps) = view K Z w := by
  unfold Work.adaptMove
  (try simp (maxDischargeDepth := 9) only [↓view_ite, ite_self, implies_true, id_eq, ↓view_lwr, z_clane, z_sysn]) <;> (repeat' split) <;> first | rfl | simp (maxDischargeDepth := 9) only [↓view_ite, ite_self, implies_true, id_eq, ↓view_lwr, z_clane, z_sysn]

end Sys2Proof.Machine
end

