-- ==== Sys2Proof/Laws/ViewLane.lean ====
section
/-! SUPPORT. What each operation of Machine/Lane.lean can write: the view without those kinds and zones is as it was. -/

set_option linter.unusedSimpArgs false
set_option linter.unreachableTactic false
set_option linter.unusedTactic false
set_option linter.unnecessarySeqFocus false

namespace Sys2Proof.Machine

variable {K : Kind → Bool} {Z : Zone → Bool}

theorem view_sendFrame (w : Work) (c : ℕ) (type : ℕ) (ws : List Quad) (skip : Bool) (h_lane : K .lane = true) (h_out : K .out = true) :
    view K Z (Work.sendFrame w c type ws skip) = view K Z w := by
  unfold Work.sendFrame
  (try simp (maxDischargeDepth := 9) only [↓view_ite, ite_self, implies_true, id_eq, ↓view_emit, ↓view_modLn, h_lane, h_out]) <;> (repeat' split) <;> first | rfl | simp (maxDischargeDepth := 9) only [↓view_ite, ite_self, implies_true, id_eq, ↓view_emit, ↓view_modLn, h_lane, h_out]

theorem view_startExch (w : Work) (c : ℕ) (h_lane : K .lane = true) :
    view K Z (Work.startExch w c) = view K Z w := by
  unfold Work.startExch
  (try simp (maxDischargeDepth := 9) only [↓view_ite, ite_self, implies_true, id_eq, ↓view_modLn, h_lane]) <;> (repeat' split) <;> first | rfl | simp (maxDischargeDepth := 9) only [↓view_ite, ite_self, implies_true, id_eq, ↓view_modLn, h_lane]

theorem view_masterMove (w : Work) (c : ℕ) (h_lane : K .lane = true) :
    view K Z (Work.masterMove w c) = view K Z w := by
  unfold Work.masterMove
  (try simp (maxDischargeDepth := 9) only [↓view_ite, ite_self, implies_true, id_eq, ↓view_when, ↓view_modLn, h_lane]) <;> (repeat' split) <;> first | rfl | simp (maxDischargeDepth := 9) only [↓view_ite, ite_self, implies_true, id_eq, ↓view_when, ↓view_modLn, h_lane]

theorem view_askTimeOfs (w : Work) (c : ℕ) (xid : ℕ) (h_lane : K .lane = true) :
    view K Z (Work.askTimeOfs w c xid) = view K Z w := by
  unfold Work.askTimeOfs
  (try simp (maxDischargeDepth := 9) only [↓view_ite, ite_self, implies_true, id_eq, ↓view_modLn, h_lane]) <;> (repeat' split) <;> first | rfl | simp (maxDischargeDepth := 9) only [↓view_ite, ite_self, implies_true, id_eq, ↓view_modLn, h_lane]

theorem view_badExch (w : Work) (c : ℕ) (h_flue : K .flue = true) (h_lane : K .lane = true) (h_lines : K .lines = true) (h_out : K .out = true) (z_clane : Z (.page .clane) = true) :
    view K Z (Work.badExch w c) = view K Z w := by
  unfold Work.badExch
  (try simp (maxDischargeDepth := 9) only [↓view_ite, ite_self, implies_true, id_eq, ↓view_flt, zone_pgCLANE, mod_pgCLANE, ↓view_modLn, h_flue, h_lane, h_lines, h_out, z_clane]) <;> (repeat' split) <;> first | rfl | simp (maxDischargeDepth := 9) only [↓view_ite, ite_self, implies_true, id_eq, ↓view_flt, zone_pgCLANE, mod_pgCLANE, ↓view_modLn, h_flue, h_lane, h_lines, h_out, z_clane]

theorem view_acceptExch (w : Work) (c : ℕ) (x : Exch) (rtt : ℚ) (turn : ℤ) (e : Echo) (h_lane : K .lane = true) (z_clane : Z (.page .clane) = true) :
    view K Z (Work.acceptExch w c x rtt turn e) = view K Z w := by
  unfold Work.acceptExch
  (try simp (maxDischargeDepth := 9) only [↓view_ite, ite_self, implies_true, id_eq, ↓view_askTimeOfs, ↓view_masterMove, ↓view_wr, zone_pgCLANE, mod_pgCLANE, ↓view_modLn, ↓view_when, h_lane, z_clane]) <;> (repeat' split) <;> first | rfl | simp (maxDischargeDepth := 9) only [↓view_ite, ite_self, implies_true, id_eq, ↓view_askTimeOfs, ↓view_masterMove, ↓view_wr, zone_pgCLANE, mod_pgCLANE, ↓view_modLn, ↓view_when, h_lane, z_clane]

theorem view_echo (w : Work) (c : ℕ) (e : Echo) (t4 : ℕ) (h_flue : K .flue = true) (h_lane : K .lane = true) (h_lines : K .lines = true) (h_out : K .out = true) (z_clane : Z (.page .clane) = true) :
    view K Z (Work.echo w c e t4) = view K Z w := by
  unfold Work.echo
  (try simp (maxDischargeDepth := 9) only [↓view_ite, ite_self, implies_true, id_eq, ↓view_modLn, ↓view_badExch, ↓view_count, zone_pgCLANE, mod_pgCLANE, ↓view_acceptExch, ↓view_when, ↓view_flt, ↓view_wr, h_flue, h_lane, h_lines, h_out, z_clane]) <;> (repeat' split) <;> first | rfl | simp (maxDischargeDepth := 9) only [↓view_ite, ite_self, implies_true, id_eq, ↓view_modLn, ↓view_badExch, ↓view_count, zone_pgCLANE, mod_pgCLANE, ↓view_acceptExch, ↓view_when, ↓view_flt, ↓view_wr, h_flue, h_lane, h_lines, h_out, z_clane]

theorem view_askReanchor (w : Work) (c : ℕ) (h_lane : K .lane = true) :
    view K Z (Work.askReanchor w c) = view K Z w := by
  unfold Work.askReanchor
  (try simp (maxDischargeDepth := 9) only [↓view_ite, ite_self, implies_true, id_eq, ↓view_askTimeOfs, h_lane]) <;> (repeat' split) <;> first | rfl | simp (maxDischargeDepth := 9) only [↓view_ite, ite_self, implies_true, id_eq, ↓view_askTimeOfs, h_lane]

theorem view_reanchorRate (w : Work) (q : ℚ) (h_lane : K .lane = true) :
    view K Z (Work.reanchorRate w q) = view K Z w := by
  unfold Work.reanchorRate
  (try simp (maxDischargeDepth := 9) only [↓view_ite, ite_self, implies_true, id_eq, ↓view_each, ↓view_askReanchor, ↓view_modLn, h_lane]) <;> (repeat' split) <;> first | rfl | simp (maxDischargeDepth := 9) only [↓view_ite, ite_self, implies_true, id_eq, ↓view_each, ↓view_askReanchor, ↓view_modLn, h_lane]

theorem view_reanchorStep (w : Work) (d : ℤ) (h_lane : K .lane = true) :
    view K Z (Work.reanchorStep w d) = view K Z w := by
  unfold Work.reanchorStep
  (try simp (maxDischargeDepth := 9) only [↓view_ite, ite_self, implies_true, id_eq, ↓view_each, ↓view_askReanchor, ↓view_modLn, h_lane]) <;> (repeat' split) <;> first | rfl | simp (maxDischargeDepth := 9) only [↓view_ite, ite_self, implies_true, id_eq, ↓view_each, ↓view_askReanchor, ↓view_modLn, h_lane]

theorem view_lanesHoldover (w : Work) (h_lane : K .lane = true) (z_clane : Z (.page .clane) = true) :
    view K Z (Work.lanesHoldover w) = view K Z w := by
  unfold Work.lanesHoldover
  (try simp (maxDischargeDepth := 9) only [↓view_ite, ite_self, implies_true, id_eq, ↓view_each, ↓view_wr, zone_pgCLANE, mod_pgCLANE, ↓view_modLn, h_lane, z_clane]) <;> (repeat' split) <;> first | rfl | simp (maxDischargeDepth := 9) only [↓view_ite, ite_self, implies_true, id_eq, ↓view_each, ↓view_wr, zone_pgCLANE, mod_pgCLANE, ↓view_modLn, h_lane, z_clane]

theorem view_edgeSent (w : Work) (t : ℤ) (u : ℕ) (e : EdgeW) (h_unit : K .unit = true) (z_unit : Z (.page .unit) = true) :
    view K Z (Work.edgeSent w t u e).1 = view K Z w := by
  unfold Work.edgeSent
  (try simp (maxDischargeDepth := 9) only [↓view_ite, ite_self, implies_true, id_eq, ↓view_count, zone_pgUNIT, mod_pgUNIT, ↓view_modUn, h_unit, z_unit]) <;> (repeat' split) <;> first | rfl | simp (maxDischargeDepth := 9) only [↓view_ite, ite_self, implies_true, id_eq, ↓view_count, zone_pgUNIT, mod_pgUNIT, ↓view_modUn, h_unit, z_unit]

theorem view_timedFrame (w : Work) (o : Nat) (t : Int) (q : Work × Nat × List Quad) (h_lane : K .lane = true) (h_unit : K .unit = true) (z_unit : Z (.page .unit) = true) (h : w.timedFrame o t = some q) :
    view K Z q.1 = view K Z w := by
  unfold Work.timedFrame at h
  dsimp only at h
  split at h
  · cases h
  · cases h
    rw [view_modLn _ _ _ h_lane]
    refine (view_foldl_pair _ _ _ fun x p => ?_).trans rfl
    exact view_edgeSent _ _ _ _ h_unit z_unit
  · cases h
    exact view_modLn _ _ _ h_lane
  · cases h
    exact view_modLn _ _ _ h_lane

theorem view_cmdFrame (w : Work) (o : Nat) (q : Work × Nat × List Quad) (h_lane : K .lane = true) (h_clu : K .clu = true) (z_clane : Z (.page .clane) = true) (h : w.cmdFrame o = some q) :
    view K Z q.1 = view K Z w := by
  unfold Work.cmdFrame at h
  dsimp only at h
  split at h
  · cases h
    exact view_modLn _ _ _ h_lane
  · cases h
    simp only [↓view_when, ↓view_modCl, ↓view_wr, ↓view_modLn, mod_pgCLANE, zone_pgCLANE, h_lane, h_clu, z_clane, implies_true]
  · cases h

theorem view_timeOfsFrame (w : Work) (c : ℕ) (h_events : K .events = true) (h_lane : K .lane = true) (z_clane : Z (.page .clane) = true) (z_clu : Z (.page .clu) = true) :
    view K Z (Work.timeOfsFrame w c).1 = view K Z w := by
  unfold Work.timeOfsFrame
  (try simp (maxDischargeDepth := 9) only [↓view_ite, ite_self, implies_true, id_eq, ↓view_when, ↓view_modLn, ↓view_wr, zone_pgCLANE, mod_pgCLANE, ↓view_cellUp, h_events, h_lane, z_clane, z_clu]) <;> (repeat' split) <;> first | rfl | simp (maxDischargeDepth := 9) only [↓view_ite, ite_self, implies_true, id_eq, ↓view_when, ↓view_modLn, ↓view_wr, zone_pgCLANE, mod_pgCLANE, ↓view_cellUp, h_events, h_lane, z_clane, z_clu]

theorem view_pingFrame (w : Work) (c : ℕ) (t : ℤ) (h_lane : K .lane = true) :
    view K Z (Work.pingFrame w c t).1 = view K Z w := by
  unfold Work.pingFrame
  (try simp (maxDischargeDepth := 9) only [↓view_ite, ite_self, implies_true, id_eq, ↓view_modLn, h_lane]) <;> (repeat' split) <;> first | rfl | simp (maxDischargeDepth := 9) only [↓view_ite, ite_self, implies_true, id_eq, ↓view_modLn, h_lane]

theorem view_mirrorTo (w : Work) (o : ℕ) (c : ℕ) (type : ℕ) (ws : List Quad) (h_lane : K .lane = true) :
    view K Z (Work.mirrorTo w o c type ws) = view K Z w := by
  unfold Work.mirrorTo
  (try simp (maxDischargeDepth := 9) only [↓view_ite, ite_self, implies_true, id_eq, ↓view_when, ↓view_modLn, h_lane]) <;> (repeat' split) <;> first | rfl | simp (maxDischargeDepth := 9) only [↓view_ite, ite_self, implies_true, id_eq, ↓view_when, ↓view_modLn, h_lane]

theorem view_class4 (w : Work) (c : Nat) (t : Int) (q : Work × Nat × List Quad) (h_clu : K .clu = true) (h_events : K .events = true) (h_lane : K .lane = true) (z_clane : Z (.page .clane) = true) (z_clu : Z (.page .clu) = true) (h : w.class4 c t = some q) :
    view K Z q.1 = view K Z w := by
  unfold Work.class4 at h
  dsimp only at h
  split at h
  · cases hc : w.cmdFrame (w.owner c) with
    | none => rw [hc] at h; cases h
    | some x =>
      rw [hc] at h
      cases h
      rw [view_mirrorTo _ _ _ _ _ h_lane]
      exact view_cmdFrame _ _ _ h_lane h_clu z_clane hc
  · cases hc : (w.ln c).takeMirror fun t => t == 6 with
    | none => rw [hc] at h; cases h
    | some x =>
      rw [hc] at h
      cases h
      exact view_modLn _ _ _ h_lane
  · cases h
    simp only [↓view_timeOfsFrame, h_clu, h_events, h_lane, z_clane, z_clu]
  · cases h
    simp only [↓view_pingFrame, h_clu, h_lane, z_clane, z_clu]
  · cases h

theorem view_class3 (w : Work) (c : Nat) (t : Int) (q : Work × Nat × List Quad) (h_lane : K .lane = true) (h_unit : K .unit = true) (z_unit : Z (.page .unit) = true) (h : w.class3 c t = some q) :
    view K Z q.1 = view K Z w := by
  unfold Work.class3 at h
  dsimp only at h
  split at h
  · cases h
  · split at h
    · cases h
      exact view_modLn _ _ _ h_lane
    · cases h
      exact view_modLn _ _ _ h_lane
    · split at h
      · cases hc : w.timedFrame (w.owner c) t with
        | none => rw [hc] at h; cases h
        | some x =>
          rw [hc] at h
          cases h
          have e := view_timedFrame _ _ _ _ h_lane h_unit z_unit hc
          simp only [↓view_when, ↓view_mirrorTo, ↓view_modLn, h_lane, implies_true, e]
      · cases h

theorem view_slotFrame (w : Work) (c : ℕ) (t : ℤ) (h_clu : K .clu = true) (h_events : K .events = true) (h_lane : K .lane = true) (h_unit : K .unit = true) (z_clane : Z (.page .clane) = true) (z_clu : Z (.page .clu) = true) (z_unit : Z (.page .unit) = true) :
    view K Z (Work.slotFrame w c t).1 = view K Z w := by
  unfold Work.slotFrame
  extract_lets o st l idle act safe due once v
  split
  · exact view_modLn _ _ _ h_lane
  · have e : view K Z v = view K Z w := view_modLn _ _ _ h_lane
    rw [← e]
    split
    · exact view_modLn _ _ _ h_lane
    · split
      · rename_i q hq
        split at hq
        · exact view_class3 v c t q h_lane h_unit z_unit hq
        · cases hq
      · split
        · rename_i q hq
          split at hq
          · exact view_class4 v c t q h_clu h_events h_lane z_clane z_clu hq
          · cases hq
        · rfl

theorem view_cmdDone (w : Work) (o : ℕ) (h_lane : K .lane = true) :
    view K Z (Work.cmdDone w o) = view K Z w := by
  unfold Work.cmdDone
  (try simp (maxDischargeDepth := 9) only [↓view_ite, ite_self, implies_true, id_eq, ↓view_modLn, h_lane]) <;> (repeat' split) <;> first | rfl | simp (maxDischargeDepth := 9) only [↓view_ite, ite_self, implies_true, id_eq, ↓view_modLn, h_lane]

end Sys2Proof.Machine
end

