-- ==== Sys2Proof/Laws/ViewTally.lean ====
section
/-! SUPPORT. What each operation of Machine/Tally.lean can write: the view without those kinds and zones is as it was. -/

set_option linter.unusedSimpArgs false
set_option linter.unreachableTactic false
set_option linter.unusedTactic false
set_option linter.unnecessarySeqFocus false

namespace Sys2Proof.Machine

variable {K : Kind → Bool} {Z : Zone → Bool}

theorem view_tallyCompare (w : Work) (d : ℕ) (h_flue : K .flue = true) (h_lines : K .lines = true) (h_out : K .out = true) (z_hrt : Z (.page .hrt) = true) (z_tally : Z (.page .tally) = true) :
    view K Z (Work.tallyCompare w d) = view K Z w := by
  unfold Work.tallyCompare
  (try simp (maxDischargeDepth := 9) only [↓view_ite, ite_self, implies_true, id_eq, ↓view_when, ↓view_injDone, zone_pgTALLY, mod_pgTALLY, ↓view_flt, h_flue, h_lines, h_out, z_hrt, z_tally]) <;> (repeat' split) <;> first | rfl | simp (maxDischargeDepth := 9) only [↓view_ite, ite_self, implies_true, id_eq, ↓view_when, ↓view_injDone, zone_pgTALLY, mod_pgTALLY, ↓view_flt, h_flue, h_lines, h_out, z_hrt, z_tally]

theorem view_readNow (w : Work) (z_tally : Z (.page .tally) = true) :
    view K Z (Work.readNow w).1 = view K Z w := by
  unfold Work.readNow
  (try simp (maxDischargeDepth := 9) only [↓view_ite, ite_self, implies_true, id_eq, ↓view_wr, zone_pgTALLY, mod_pgTALLY, z_tally]) <;> (repeat' split) <;> first | rfl | simp (maxDischargeDepth := 9) only [↓view_ite, ite_self, implies_true, id_eq, ↓view_wr, zone_pgTALLY, mod_pgTALLY, z_tally]

theorem view_toDrive (w : Work) (m : ℕ) (active : Bool) (h_out : K .out = true) :
    view K Z (Work.toDrive w m active) = view K Z w := by
  unfold Work.toDrive
  (try simp (maxDischargeDepth := 9) only [↓view_ite, ite_self, implies_true, id_eq, ↓view_emit, h_out]) <;> (repeat' split) <;> first | rfl | simp (maxDischargeDepth := 9) only [↓view_ite, ite_self, implies_true, id_eq, ↓view_emit, h_out]

theorem view_toFire (w : Work) (m : ℕ) (late : Bool) (h_out : K .out = true) (h_tout : K .tout = true) (z_tally : Z (.page .tally) = true) :
    view K Z (Work.toFire w m late) = view K Z w := by
  unfold Work.toFire
  (try simp (maxDischargeDepth := 9) only [↓view_ite, ite_self, implies_true, id_eq, ↓view_toDrive, ↓view_modTout, ↓view_when, ↓view_wr, zone_pgTALLY, mod_pgTALLY, h_out, h_tout, z_tally]) <;> (repeat' split) <;> first | rfl | simp (maxDischargeDepth := 9) only [↓view_ite, ite_self, implies_true, id_eq, ↓view_toDrive, ↓view_modTout, ↓view_when, ↓view_wr, zone_pgTALLY, mod_pgTALLY, h_out, h_tout, z_tally]

theorem view_toEnable (w : Work) (m : ℕ) (h_out : K .out = true) (h_tout : K .tout = true) (z_tally : Z (.page .tally) = true) :
    view K Z (Work.toEnable w m) = view K Z w := by
  unfold Work.toEnable
  (try simp (maxDischargeDepth := 9) only [↓view_ite, ite_self, implies_true, id_eq, ↓view_modTout, ↓view_toFire, h_out, h_tout, z_tally]) <;> (repeat' split) <;> first | rfl | simp (maxDischargeDepth := 9) only [↓view_ite, ite_self, implies_true, id_eq, ↓view_modTout, ↓view_toFire, h_out, h_tout, z_tally]

theorem view_toMoved (w : Work) (m : ℕ) (h_tout : K .tout = true) :
    view K Z (Work.toMoved w m) = view K Z w := by
  unfold Work.toMoved
  (try simp (maxDischargeDepth := 9) only [↓view_ite, ite_self, implies_true, id_eq, ↓view_modTout, h_tout]) <;> (repeat' split) <;> first | rfl | simp (maxDischargeDepth := 9) only [↓view_ite, ite_self, implies_true, id_eq, ↓view_modTout, h_tout]

theorem view_toDisable (w : Work) (m : ℕ) (h_tout : K .tout = true) :
    view K Z (Work.toDisable w m) = view K Z w := by
  unfold Work.toDisable
  (try simp (maxDischargeDepth := 9) only [↓view_ite, ite_self, implies_true, id_eq, ↓view_modTout, h_tout]) <;> (repeat' split) <;> first | rfl | simp (maxDischargeDepth := 9) only [↓view_ite, ite_self, implies_true, id_eq, ↓view_modTout, h_tout]

theorem view_cutCycle (w : Work) (n : ℕ) (h_clu : K .clu = true) (h_lane : K .lane = true) (h_rgn : K .rgn = true) (h_unit : K .unit = true) (z_abc : Z (.page .abc) = true) (z_rg : Z (.page .rg) = true) (z_sp : Z (.page .sp) = true) (z_tally : Z (.page .tally) = true) :
    view K Z (Work.cutCycle w n) = view K Z w := by
  unfold Work.cutCycle
  (try simp (maxDischargeDepth := 9) only [↓view_ite, ite_self, implies_true, id_eq, ↓view_wr, zone_pgTALLY, mod_pgTALLY, ↓view_leaveCycle, ↓view_awaitGrid, h_clu, h_lane, h_rgn, h_unit, z_abc, z_rg, z_sp, z_tally]) <;> (repeat' split) <;> first | rfl | simp (maxDischargeDepth := 9) only [↓view_ite, ite_self, implies_true, id_eq, ↓view_wr, zone_pgTALLY, mod_pgTALLY, ↓view_leaveCycle, ↓view_awaitGrid, h_clu, h_lane, h_rgn, h_unit, z_abc, z_rg, z_sp, z_tally]

theorem view_stepEffects (w : Work) (adj : Bool) (d : ℤ) (h_clu : K .clu = true) (h_lane : K .lane = true) (h_out : K .out = true) (h_rgn : K .rgn = true) (h_tout : K .tout = true) (h_unit : K .unit = true) (z_abc : Z (.page .abc) = true) (z_rg : Z (.page .rg) = true) (z_sp : Z (.page .sp) = true) (z_tally : Z (.page .tally) = true) :
    view K Z (Work.stepEffects w adj d) = view K Z w := by
  unfold Work.stepEffects
  (try simp (maxDischargeDepth := 9) only [↓view_ite, ite_self, implies_true, id_eq, ↓view_reanchorStep, ↓view_each, ↓view_when, ↓view_count, zone_pgTALLY, mod_pgTALLY, ↓view_wr, ↓view_cutCycle, ↓view_toFire, h_clu, h_lane, h_out, h_rgn, h_tout, h_unit, z_abc, z_rg, z_sp, z_tally]) <;> (repeat' split) <;> first | rfl | simp (maxDischargeDepth := 9) only [↓view_ite, ite_self, implies_true, id_eq, ↓view_reanchorStep, ↓view_each, ↓view_when, ↓view_count, zone_pgTALLY, mod_pgTALLY, ↓view_wr, ↓view_cutCycle, ↓view_toFire, h_clu, h_lane, h_out, h_rgn, h_tout, h_unit, z_abc, z_rg, z_sp, z_tally]

theorem view_enterHoldover (w : Work) (h_flue : K .flue = true) (h_lane : K .lane = true) (h_lines : K .lines = true) (h_out : K .out = true) (z_clane : Z (.page .clane) = true) (z_spll : Z (.page .spll) = true) (z_tally : Z (.page .tally) = true) :
    view K Z (Work.enterHoldover w) = view K Z w := by
  unfold Work.enterHoldover
  (try simp (maxDischargeDepth := 9) only [↓view_ite, ite_self, implies_true, id_eq, ↓view_lanesHoldover, ↓view_flt, zone_pgSPLL, mod_pgSPLL, ↓view_wr, zone_pgTALLY, mod_pgTALLY, h_flue, h_lane, h_lines, h_out, z_clane, z_spll, z_tally]) <;> (repeat' split) <;> first | rfl | simp (maxDischargeDepth := 9) only [↓view_ite, ite_self, implies_true, id_eq, ↓view_lanesHoldover, ↓view_flt, zone_pgSPLL, mod_pgSPLL, ↓view_wr, zone_pgTALLY, mod_pgTALLY, h_flue, h_lane, h_lines, h_out, z_clane, z_spll, z_tally]

theorem view_holdExpire (w : Work) (h_clu : K .clu = true) (h_flue : K .flue = true) (h_lane : K .lane = true) (h_lines : K .lines = true) (h_out : K .out = true) (h_unit : K .unit = true) (z_clu : Z (.page .clu) = true) (z_spll : Z (.page .spll) = true) :
    view K Z (Work.holdExpire w) = view K Z w := by
  unfold Work.holdExpire
  (try simp (maxDischargeDepth := 9) only [↓view_ite, ite_self, implies_true, id_eq, ↓view_each, ↓view_flt, zone_pgSPLL, mod_pgSPLL, ↓view_forcedSafe, ↓view_when, ↓view_modCl, h_clu, h_flue, h_lane, h_lines, h_out, h_unit, z_clu, z_spll]) <;> (repeat' split) <;> first | rfl | simp (maxDischargeDepth := 9) only [↓view_ite, ite_self, implies_true, id_eq, ↓view_each, ↓view_flt, zone_pgSPLL, mod_pgSPLL, ↓view_forcedSafe, ↓view_when, ↓view_modCl, h_clu, h_flue, h_lane, h_lines, h_out, h_unit, z_clu, z_spll]

theorem view_capture (w : Work) (k : ℕ) (falling : Bool) (sub : Option ℕ) (h_cap : K .cap = true) (z_tally : Z (.page .tally) = true) :
    view K Z (Work.capture w k falling sub) = view K Z w := by
  unfold Work.capture
  (try simp (maxDischargeDepth := 9) only [↓view_ite, ite_self, implies_true, id_eq, ↓view_wr, zone_pgTALLY, mod_pgTALLY, ↓view_setCap, h_cap, z_tally]) <;> (repeat' split) <;> first | rfl | simp (maxDischargeDepth := 9) only [↓view_ite, ite_self, implies_true, id_eq, ↓view_wr, zone_pgTALLY, mod_pgTALLY, ↓view_setCap, h_cap, z_tally]

theorem view_readCap (w : Work) (k : ℕ) (h_cap : K .cap = true) (z_tally : Z (.page .tally) = true) :
    view K Z (Work.readCap w k).1 = view K Z w := by
  unfold Work.readCap
  (try simp (maxDischargeDepth := 9) only [↓view_ite, ite_self, implies_true, id_eq, ↓view_wr, zone_pgTALLY, mod_pgTALLY, ↓view_setCap, h_cap, z_tally]) <;> (repeat' split) <;> first | rfl | simp (maxDischargeDepth := 9) only [↓view_ite, ite_self, implies_true, id_eq, ↓view_wr, zone_pgTALLY, mod_pgTALLY, ↓view_setCap, h_cap, z_tally]

theorem view_ptpShow (w : Work) (pg : ℕ) (d : ℕ) (e : Option PtpTs) (m_pg : pg % 0x1000 = 0) (z_pg : Z (zoneOf pg) = true) :
    view K Z (Work.ptpShow w pg d e).1 = view K Z w := by
  unfold Work.ptpShow
  split
  · exact view_put_page _ _ _ _ (Field.at_lt _ _) m_pg z_pg
  · dsimp only
    simp only [↓view_wr, m_pg, z_pg]
    exact view_put_page _ _ _ _ (Field.at_lt _ _) m_pg z_pg

theorem view_readRxKey (w : Work) (p : ℕ) (h_ethRx : K .ethRx = true) (z_eth : Z (.page .eth) = true) :
    view K Z (Work.readRxKey w p).1 = view K Z w := by
  unfold Work.readRxKey
  (try simp (maxDischargeDepth := 9) only [↓view_ite, ite_self, implies_true, id_eq, ↓view_ptpShow, zone_pgETH, mod_pgETH, ↓view_wr, ↓view_modEthRx, h_ethRx, z_eth]) <;> (repeat' split) <;> first | rfl | simp (maxDischargeDepth := 9) only [↓view_ite, ite_self, implies_true, id_eq, ↓view_ptpShow, zone_pgETH, mod_pgETH, ↓view_wr, ↓view_modEthRx, h_ethRx, z_eth]

theorem view_readTxKey (w : Work) (p : ℕ) (h_ethTx : K .ethTx = true) (z_eth : Z (.page .eth) = true) :
    view K Z (Work.readTxKey w p).1 = view K Z w := by
  unfold Work.readTxKey
  (try simp (maxDischargeDepth := 9) only [↓view_ite, ite_self, implies_true, id_eq, ↓view_ptpShow, zone_pgETH, mod_pgETH, ↓view_wr, ↓view_modEthTx, h_ethTx, z_eth]) <;> (repeat' split) <;> first | rfl | simp (maxDischargeDepth := 9) only [↓view_ite, ite_self, implies_true, id_eq, ↓view_ptpShow, zone_pgETH, mod_pgETH, ↓view_wr, ↓view_modEthTx, h_ethTx, z_eth]

end Sys2Proof.Machine
end

