-- ==== Sys2Proof/Laws/ViewAnalogue.lean ====
section
/-! SUPPORT. What each operation of Machine/Analogue.lean can write: the view without those kinds and zones is as it was. -/

set_option linter.unusedSimpArgs false
set_option linter.unreachableTactic false
set_option linter.unusedTactic false
set_option linter.unnecessarySeqFocus false

namespace Sys2Proof.Machine

variable {K : Kind → Bool} {Z : Zone → Bool}

theorem view_guardCheck (w : Work) (h_bad : K .bad = true) (h_chop : K .chop = true) (h_clu : K .clu = true) (h_events : K .events = true) (h_flue : K .flue = true) (h_hearth : K .hearth = true) (h_lane : K .lane = true) (h_lines : K .lines = true) (h_net : K .net = true) (h_out : K .out = true) (h_recd : K .recd = true) (h_sl : K .sl = true) (h_sram : K .sram = true) (h_unit : K .unit = true) (z_clu : Z (.page .clu) = true) (z_hrt : Z (.page .hrt) = true) (z_hrt1 : Z (.page .hrt1) = true) (z_hrt2 : Z (.page .hrt2) = true) (z_pkg : Z (.page .pkg) = true) (z_recorder : Z (.page .recorder) = true) (z_sysn : Z (.page .sysn) = true) :
    view K Z (Work.guardCheck w) = view K Z w := by
  unfold Work.guardCheck
  (try simp (maxDischargeDepth := 9) only [↓view_ite, ite_self, implies_true, id_eq, ↓view_reactFixed, ↓view_when, ↓view_flt, zone_pgHRT, mod_pgHRT, h_bad, h_chop, h_clu, h_events, h_flue, h_hearth, h_lane, h_lines, h_net, h_out, h_recd, h_sl, h_sram, h_unit, z_clu, z_hrt, z_hrt1, z_hrt2, z_pkg, z_recorder, z_sysn]) <;> (repeat' split) <;> first | rfl | simp (maxDischargeDepth := 9) only [↓view_ite, ite_self, implies_true, id_eq, ↓view_reactFixed, ↓view_when, ↓view_flt, zone_pgHRT, mod_pgHRT, h_bad, h_chop, h_clu, h_events, h_flue, h_hearth, h_lane, h_lines, h_net, h_out, h_recd, h_sl, h_sram, h_unit, z_clu, z_hrt, z_hrt1, z_hrt2, z_pkg, z_recorder, z_sysn]

theorem view_guardResult (w : Work) (code : ℕ) (orng : Bool) (urng : Bool) (h_bad : K .bad = true) (h_chop : K .chop = true) (h_clu : K .clu = true) (h_events : K .events = true) (h_flue : K .flue = true) (h_hearth : K .hearth = true) (h_lane : K .lane = true) (h_lines : K .lines = true) (h_net : K .net = true) (h_out : K .out = true) (h_recd : K .recd = true) (h_sl : K .sl = true) (h_sram : K .sram = true) (h_unit : K .unit = true) (z_clu : Z (.page .clu) = true) (z_hrt : Z (.page .hrt) = true) (z_hrt1 : Z (.page .hrt1) = true) (z_hrt2 : Z (.page .hrt2) = true) (z_pkg : Z (.page .pkg) = true) (z_recorder : Z (.page .recorder) = true) (z_sysn : Z (.page .sysn) = true) :
    view K Z (Work.guardResult w code orng urng) = view K Z w := by
  unfold Work.guardResult
  (try simp (maxDischargeDepth := 9) only [↓view_ite, ite_self, implies_true, id_eq, ↓view_guardCheck, ↓view_wr, zone_pgHRT, mod_pgHRT, h_bad, h_chop, h_clu, h_events, h_flue, h_hearth, h_lane, h_lines, h_net, h_out, h_recd, h_sl, h_sram, h_unit, z_clu, z_hrt, z_hrt1, z_hrt2, z_pkg, z_recorder, z_sysn]) <;> (repeat' split) <;> first | rfl | simp (maxDischargeDepth := 9) only [↓view_ite, ite_self, implies_true, id_eq, ↓view_guardCheck, ↓view_wr, zone_pgHRT, mod_pgHRT, h_bad, h_chop, h_clu, h_events, h_flue, h_hearth, h_lane, h_lines, h_net, h_out, h_recd, h_sl, h_sram, h_unit, z_clu, z_hrt, z_hrt1, z_hrt2, z_pkg, z_recorder, z_sysn]

theorem view_guardExpire (w : Work) (h_bad : K .bad = true) (h_chop : K .chop = true) (h_clu : K .clu = true) (h_events : K .events = true) (h_flue : K .flue = true) (h_hearth : K .hearth = true) (h_lane : K .lane = true) (h_lines : K .lines = true) (h_net : K .net = true) (h_out : K .out = true) (h_recd : K .recd = true) (h_sl : K .sl = true) (h_sram : K .sram = true) (h_unit : K .unit = true) (z_clu : Z (.page .clu) = true) (z_hrt : Z (.page .hrt) = true) (z_hrt1 : Z (.page .hrt1) = true) (z_hrt2 : Z (.page .hrt2) = true) (z_pkg : Z (.page .pkg) = true) (z_recorder : Z (.page .recorder) = true) (z_sysn : Z (.page .sysn) = true) :
    view K Z (Work.guardExpire w) = view K Z w := by
  unfold Work.guardExpire
  (try simp (maxDischargeDepth := 9) only [↓view_ite, ite_self, implies_true, id_eq, ↓view_guardCheck, ↓view_modHearth, h_bad, h_chop, h_clu, h_events, h_flue, h_hearth, h_lane, h_lines, h_net, h_out, h_recd, h_sl, h_sram, h_unit, z_clu, z_hrt, z_hrt1, z_hrt2, z_pkg, z_recorder, z_sysn]) <;> (repeat' split) <;> first | rfl | simp (maxDischargeDepth := 9) only [↓view_ite, ite_self, implies_true, id_eq, ↓view_guardCheck, ↓view_modHearth, h_bad, h_chop, h_clu, h_events, h_flue, h_hearth, h_lane, h_lines, h_net, h_out, h_recd, h_sl, h_sram, h_unit, z_clu, z_hrt, z_hrt1, z_hrt2, z_pkg, z_recorder, z_sysn]

theorem view_adcShow (w : Work) (a : ℕ) (z_ad : Z (.page .ad) = true) :
    view K Z (Work.adcShow w a) = view K Z w := by
  unfold Work.adcShow
  (try simp (maxDischargeDepth := 9) only [↓view_ite, ite_self, implies_true, id_eq, ↓view_wr, zone_pgAD, mod_pgAD, z_ad]) <;> (repeat' split) <;> first | rfl | simp (maxDischargeDepth := 9) only [↓view_ite, ite_self, implies_true, id_eq, ↓view_wr, zone_pgAD, mod_pgAD, z_ad]

theorem view_adcStart (w : Work) (a : ℕ) (r : AdcReq) (h_adc : K .adc = true) :
    view K Z (Work.adcStart w a r) = view K Z w := by
  unfold Work.adcStart
  (try simp (maxDischargeDepth := 9) only [↓view_ite, ite_self, implies_true, id_eq, ↓view_modAdc, h_adc]) <;> (repeat' split) <;> first | rfl | simp (maxDischargeDepth := 9) only [↓view_ite, ite_self, implies_true, id_eq, ↓view_modAdc, h_adc]

theorem view_adcNext (w : Work) (a : ℕ) (h_adc : K .adc = true) (z_ad : Z (.page .ad) = true) :
    view K Z (Work.adcNext w a) = view K Z w := by
  unfold Work.adcNext
  (try simp (maxDischargeDepth := 9) only [↓view_ite, ite_self, implies_true, id_eq, ↓view_adcShow, ↓view_adcStart, ↓view_modAdc, ↓view_wr, zone_pgAD, mod_pgAD, h_adc, z_ad]) <;> (repeat' split) <;> first | rfl | simp (maxDischargeDepth := 9) only [↓view_ite, ite_self, implies_true, id_eq, ↓view_adcShow, ↓view_adcStart, ↓view_modAdc, ↓view_wr, zone_pgAD, mod_pgAD, h_adc, z_ad]

theorem view_adcNormal (w : Work) (a : ℕ) (r : AdcReq) (h_adc : K .adc = true) (z_ad : Z (.page .ad) = true) :
    view K Z (Work.adcNormal w a r) = view K Z w := by
  unfold Work.adcNormal
  (try simp (maxDischargeDepth := 9) only [↓view_ite, ite_self, implies_true, id_eq, ↓view_count, zone_pgAD, mod_pgAD, ↓view_wr, ↓view_adcNext, ↓view_modAdc, h_adc, z_ad]) <;> (repeat' split) <;> first | rfl | simp (maxDischargeDepth := 9) only [↓view_ite, ite_self, implies_true, id_eq, ↓view_count, zone_pgAD, mod_pgAD, ↓view_wr, ↓view_adcNext, ↓view_modAdc, h_adc, z_ad]

theorem view_adcUrgent (w : Work) (a : ℕ) (h_adc : K .adc = true) (z_ad : Z (.page .ad) = true) :
    view K Z (Work.adcUrgent w a) = view K Z w := by
  unfold Work.adcUrgent
  (try simp (maxDischargeDepth := 9) only [↓view_ite, ite_self, implies_true, id_eq, ↓view_adcNext, ↓view_when, ↓view_count, zone_pgAD, mod_pgAD, ↓view_modAdc, ↓view_wr, h_adc, z_ad]) <;> (repeat' split) <;> first | rfl | simp (maxDischargeDepth := 9) only [↓view_ite, ite_self, implies_true, id_eq, ↓view_adcNext, ↓view_when, ↓view_count, zone_pgAD, mod_pgAD, ↓view_modAdc, ↓view_wr, h_adc, z_ad]

theorem view_adcUcmd (w : Work) (a : ℕ) (ch : ℕ) (h_adc : K .adc = true) (z_ad : Z (.page .ad) = true) :
    view K Z (Work.adcUcmd w a ch) = view K Z w := by
  unfold Work.adcUcmd
  (try simp (maxDischargeDepth := 9) only [↓view_ite, ite_self, implies_true, id_eq, ↓view_wr, zone_pgAD, mod_pgAD, ↓view_adcUrgent, ↓view_modAdc, h_adc, z_ad]) <;> (repeat' split) <;> first | rfl | simp (maxDischargeDepth := 9) only [↓view_ite, ite_self, implies_true, id_eq, ↓view_wr, zone_pgAD, mod_pgAD, ↓view_adcUrgent, ↓view_modAdc, h_adc, z_ad]

theorem view_adcCal (w : Work) (a : ℕ) (h_adc : K .adc = true) (z_ad : Z (.page .ad) = true) :
    view K Z (Work.adcCal w a) = view K Z w := by
  unfold Work.adcCal
  (try simp (maxDischargeDepth := 9) only [↓view_ite, ite_self, implies_true, id_eq, ↓view_adcNext, ↓view_wr, zone_pgAD, mod_pgAD, h_adc, z_ad]) <;> (repeat' split) <;> first | rfl | simp (maxDischargeDepth := 9) only [↓view_ite, ite_self, implies_true, id_eq, ↓view_adcNext, ↓view_wr, zone_pgAD, mod_pgAD, h_adc, z_ad]

theorem view_adcResult (w : Work) (a : ℕ) (r : AdcReq) (t : Time) (code : ℕ) (orng : Bool) (urng : Bool) (h_adc : K .adc = true) (h_bad : K .bad = true) (h_chop : K .chop = true) (h_clu : K .clu = true) (h_events : K .events = true) (h_flue : K .flue = true) (h_hearth : K .hearth = true) (h_lane : K .lane = true) (h_lines : K .lines = true) (h_net : K .net = true) (h_out : K .out = true) (h_recd : K .recd = true) (h_rgn : K .rgn = true) (h_sl : K .sl = true) (h_sram : K .sram = true) (h_unit : K .unit = true) (z_window : Z .window = true) (z_abc : Z (.page .abc) = true) (z_ad : Z (.page .ad) = true) (z_clu : Z (.page .clu) = true) (z_hrt : Z (.page .hrt) = true) (z_hrt1 : Z (.page .hrt1) = true) (z_hrt2 : Z (.page .hrt2) = true) (z_pkg : Z (.page .pkg) = true) (z_recorder : Z (.page .recorder) = true) (z_sysn : Z (.page .sysn) = true) :
    view K Z (Work.adcResult w a r t code orng urng) = view K Z w := by
  unfold Work.adcResult
  (try simp (maxDischargeDepth := 9) only [↓view_ite, ite_self, implies_true, id_eq, ↓view_modAdc, ↓view_wr, zone_pgAD, mod_pgAD, ↓view_when, ↓view_count, ↓view_fileSlot, ↓view_guardResult, h_adc, h_bad, h_chop, h_clu, h_events, h_flue, h_hearth, h_lane, h_lines, h_net, h_out, h_recd, h_rgn, h_sl, h_sram, h_unit, z_window, z_abc, z_ad, z_clu, z_hrt, z_hrt1, z_hrt2, z_pkg, z_recorder, z_sysn]) <;> (repeat' split) <;> first | rfl | simp (maxDischargeDepth := 9) only [↓view_ite, ite_self, implies_true, id_eq, ↓view_modAdc, ↓view_wr, zone_pgAD, mod_pgAD, ↓view_when, ↓view_count, ↓view_fileSlot, ↓view_guardResult, h_adc, h_bad, h_chop, h_clu, h_events, h_flue, h_hearth, h_lane, h_lines, h_net, h_out, h_recd, h_rgn, h_sl, h_sram, h_unit, z_window, z_abc, z_ad, z_clu, z_hrt, z_hrt1, z_hrt2, z_pkg, z_recorder, z_sysn]

theorem view_adcDropRegion (w : Work) (n : ℕ) (h_adc : K .adc = true) (z_ad : Z (.page .ad) = true) :
    view K Z (Work.adcDropRegion w n) = view K Z w := by
  unfold Work.adcDropRegion
  (try simp (maxDischargeDepth := 9) only [↓view_ite, ite_self, implies_true, id_eq, ↓view_each, ↓view_adcShow, ↓view_modAdc, h_adc, z_ad]) <;> (repeat' split) <;> first | rfl | simp (maxDischargeDepth := 9) only [↓view_ite, ite_self, implies_true, id_eq, ↓view_each, ↓view_adcShow, ↓view_modAdc, h_adc, z_ad]

theorem view_wcRise (w : Work) (k : ℕ) (upper : Bool) (h_bad : K .bad = true) (h_cap : K .cap = true) (h_clu : K .clu = true) (h_events : K .events = true) (h_flue : K .flue = true) (h_lane : K .lane = true) (h_lines : K .lines = true) (h_out : K .out = true) (h_recd : K .recd = true) (h_sram : K .sram = true) (h_unit : K .unit = true) (z_clu : Z (.page .clu) = true) (z_pkg : Z (.page .pkg) = true) (z_recorder : Z (.page .recorder) = true) (z_tally : Z (.page .tally) = true) (z_unit : Z (.page .unit) = true) (z_wc : Z (.page .wc) = true) :
    view K Z (Work.wcRise w k upper) = view K Z w := by
  unfold Work.wcRise
  (try simp (maxDischargeDepth := 9) only [↓view_ite, ite_self, implies_true, id_eq, ↓view_when, ↓view_each, ↓view_wr, zone_pgWC, mod_pgWC, ↓view_count, ↓view_msix, ↓view_recSource, ↓view_capture, ↓view_chopEval, ↓view_chopSet, ↓view_localEvent, h_bad, h_cap, h_clu, h_events, h_flue, h_lane, h_lines, h_out, h_recd, h_sram, h_unit, z_clu, z_pkg, z_recorder, z_tally, z_unit, z_wc]) <;> (repeat' split) <;> first | rfl | simp (maxDischargeDepth := 9) only [↓view_ite, ite_self, implies_true, id_eq, ↓view_when, ↓view_each, ↓view_wr, zone_pgWC, mod_pgWC, ↓view_count, ↓view_msix, ↓view_recSource, ↓view_capture, ↓view_chopEval, ↓view_chopSet, ↓view_localEvent, h_bad, h_cap, h_clu, h_events, h_flue, h_lane, h_lines, h_out, h_recd, h_sram, h_unit, z_clu, z_pkg, z_recorder, z_tally, z_unit, z_wc]

theorem view_wcOut (w : Work) (k : ℕ) (upper : Bool) (v : Bool) (h_bad : K .bad = true) (h_cap : K .cap = true) (h_clu : K .clu = true) (h_events : K .events = true) (h_flue : K .flue = true) (h_lane : K .lane = true) (h_lines : K .lines = true) (h_out : K .out = true) (h_recd : K .recd = true) (h_sram : K .sram = true) (h_unit : K .unit = true) (z_clu : Z (.page .clu) = true) (z_pkg : Z (.page .pkg) = true) (z_recorder : Z (.page .recorder) = true) (z_tally : Z (.page .tally) = true) (z_unit : Z (.page .unit) = true) (z_wc : Z (.page .wc) = true) :
    view K Z (Work.wcOut w k upper v) = view K Z w := by
  unfold Work.wcOut
  (try simp (maxDischargeDepth := 9) only [↓view_ite, ite_self, implies_true, id_eq, ↓view_wcRise, ↓view_wr, zone_pgWC, mod_pgWC, h_bad, h_cap, h_clu, h_events, h_flue, h_lane, h_lines, h_out, h_recd, h_sram, h_unit, z_clu, z_pkg, z_recorder, z_tally, z_unit, z_wc]) <;> (repeat' split) <;> first | rfl | simp (maxDischargeDepth := 9) only [↓view_ite, ite_self, implies_true, id_eq, ↓view_wcRise, ↓view_wr, zone_pgWC, mod_pgWC, h_bad, h_cap, h_clu, h_events, h_flue, h_lane, h_lines, h_out, h_recd, h_sram, h_unit, z_clu, z_pkg, z_recorder, z_tally, z_unit, z_wc]

theorem view_wcDecide (w : Work) (k : ℕ) (upper : Bool) (v : Bool) (h_bad : K .bad = true) (h_cap : K .cap = true) (h_clu : K .clu = true) (h_events : K .events = true) (h_flue : K .flue = true) (h_lane : K .lane = true) (h_lines : K .lines = true) (h_out : K .out = true) (h_recd : K .recd = true) (h_sram : K .sram = true) (h_unit : K .unit = true) (z_clu : Z (.page .clu) = true) (z_pkg : Z (.page .pkg) = true) (z_recorder : Z (.page .recorder) = true) (z_tally : Z (.page .tally) = true) (z_unit : Z (.page .unit) = true) (z_wc : Z (.page .wc) = true) :
    view K Z (Work.wcDecide w k upper v) = view K Z w := by
  unfold Work.wcDecide
  (try simp (maxDischargeDepth := 9) only [↓view_ite, ite_self, implies_true, id_eq, ↓view_wcOut, ↓view_wr, zone_pgWC, mod_pgWC, h_bad, h_cap, h_clu, h_events, h_flue, h_lane, h_lines, h_out, h_recd, h_sram, h_unit, z_clu, z_pkg, z_recorder, z_tally, z_unit, z_wc]) <;> (repeat' split) <;> first | rfl | simp (maxDischargeDepth := 9) only [↓view_ite, ite_self, implies_true, id_eq, ↓view_wcOut, ↓view_wr, zone_pgWC, mod_pgWC, h_bad, h_cap, h_clu, h_events, h_flue, h_lane, h_lines, h_out, h_recd, h_sram, h_unit, z_clu, z_pkg, z_recorder, z_tally, z_unit, z_wc]

theorem view_wcInput (w : Work) (k : ℕ) (v : ℚ) (h_bad : K .bad = true) (h_cap : K .cap = true) (h_clu : K .clu = true) (h_events : K .events = true) (h_flue : K .flue = true) (h_lane : K .lane = true) (h_lines : K .lines = true) (h_out : K .out = true) (h_recd : K .recd = true) (h_sram : K .sram = true) (h_unit : K .unit = true) (z_clu : Z (.page .clu) = true) (z_pkg : Z (.page .pkg) = true) (z_recorder : Z (.page .recorder) = true) (z_tally : Z (.page .tally) = true) (z_unit : Z (.page .unit) = true) (z_wc : Z (.page .wc) = true) :
    view K Z (Work.wcInput w k v) = view K Z w := by
  unfold Work.wcInput
  (try simp (maxDischargeDepth := 9) only [↓view_ite, ite_self, implies_true, id_eq, ↓view_wcDecide, h_bad, h_cap, h_clu, h_events, h_flue, h_lane, h_lines, h_out, h_recd, h_sram, h_unit, z_clu, z_pkg, z_recorder, z_tally, z_unit, z_wc]) <;> (repeat' split) <;> first | rfl | simp (maxDischargeDepth := 9) only [↓view_ite, ite_self, implies_true, id_eq, ↓view_wcDecide, h_bad, h_cap, h_clu, h_events, h_flue, h_lane, h_lines, h_out, h_recd, h_sram, h_unit, z_clu, z_pkg, z_recorder, z_tally, z_unit, z_wc]

theorem view_wcStart (w : Work) (k : ℕ) (h_bad : K .bad = true) (h_cap : K .cap = true) (h_clu : K .clu = true) (h_events : K .events = true) (h_flue : K .flue = true) (h_lane : K .lane = true) (h_lines : K .lines = true) (h_out : K .out = true) (h_recd : K .recd = true) (h_sram : K .sram = true) (h_unit : K .unit = true) (z_clu : Z (.page .clu) = true) (z_pkg : Z (.page .pkg) = true) (z_recorder : Z (.page .recorder) = true) (z_tally : Z (.page .tally) = true) (z_unit : Z (.page .unit) = true) (z_wc : Z (.page .wc) = true) :
    view K Z (Work.wcStart w k) = view K Z w := by
  unfold Work.wcStart
  (try simp (maxDischargeDepth := 9) only [↓view_ite, ite_self, implies_true, id_eq, ↓view_wcDecide, ↓view_wcOut, ↓view_wr, zone_pgWC, mod_pgWC, h_bad, h_cap, h_clu, h_events, h_flue, h_lane, h_lines, h_out, h_recd, h_sram, h_unit, z_clu, z_pkg, z_recorder, z_tally, z_unit, z_wc]) <;> (repeat' split) <;> first | rfl | simp (maxDischargeDepth := 9) only [↓view_ite, ite_self, implies_true, id_eq, ↓view_wcDecide, ↓view_wcOut, ↓view_wr, zone_pgWC, mod_pgWC, h_bad, h_cap, h_clu, h_events, h_flue, h_lane, h_lines, h_out, h_recd, h_sram, h_unit, z_clu, z_pkg, z_recorder, z_tally, z_unit, z_wc]

theorem view_wcOff (w : Work) (k : ℕ) (z_wc : Z (.page .wc) = true) :
    view K Z (Work.wcOff w k) = view K Z w := by
  unfold Work.wcOff
  (try simp (maxDischargeDepth := 9) only [↓view_ite, ite_self, implies_true, id_eq, ↓view_wr, zone_pgWC, mod_pgWC, z_wc]) <;> (repeat' split) <;> first | rfl | simp (maxDischargeDepth := 9) only [↓view_ite, ite_self, implies_true, id_eq, ↓view_wr, zone_pgWC, mod_pgWC, z_wc]

theorem view_wcBoundary (w : Work) (n : ℕ) (z_wc : Z (.page .wc) = true) :
    view K Z (Work.wcBoundary w n) = view K Z w := by
  unfold Work.wcBoundary
  (try simp (maxDischargeDepth := 9) only [↓view_ite, ite_self, implies_true, id_eq, ↓view_each, ↓view_wr, zone_pgWC, mod_pgWC, z_wc]) <;> (repeat' split) <;> first | rfl | simp (maxDischargeDepth := 9) only [↓view_ite, ite_self, implies_true, id_eq, ↓view_each, ↓view_wr, zone_pgWC, mod_pgWC, z_wc]

theorem view_wcTest (w : Work) (k : ℕ) (z_wc : Z (.page .wc) = true) :
    view K Z (Work.wcTest w k) = view K Z w := by
  unfold Work.wcTest
  (try simp (maxDischargeDepth := 9) only [↓view_ite, ite_self, implies_true, id_eq, ↓view_wr, zone_pgWC, mod_pgWC, z_wc]) <;> (repeat' split) <;> first | rfl | simp (maxDischargeDepth := 9) only [↓view_ite, ite_self, implies_true, id_eq, ↓view_wr, zone_pgWC, mod_pgWC, z_wc]

theorem view_readAdc (w : Work) (a : ℕ) (z_ad : Z (.page .ad) = true) :
    view K Z (Work.readAdc w a).1 = view K Z w := by
  unfold Work.readAdc
  (try simp (maxDischargeDepth := 9) only [↓view_ite, ite_self, implies_true, id_eq, ↓view_when, ↓view_wr, zone_pgAD, mod_pgAD, z_ad]) <;> (repeat' split) <;> first | rfl | simp (maxDischargeDepth := 9) only [↓view_ite, ite_self, implies_true, id_eq, ↓view_when, ↓view_wr, zone_pgAD, mod_pgAD, z_ad]

end Sys2Proof.Machine
end

