-- ==== Sys2Proof/Laws/ViewAbacus.lean ====
section
/-! SUPPORT. What each operation of Machine/Abacus.lean can write: the view without those kinds and zones is as it was. -/

set_option linter.unusedSimpArgs false
set_option linter.unreachableTactic false
set_option linter.unusedTactic false
set_option linter.unnecessarySeqFocus false

namespace Sys2Proof.Machine

variable {K : Kind → Bool} {Z : Zone → Bool}

theorem view_lastEv (w : Work) (n : ℕ) (kind : ℕ) (lane : ℕ) (s : ℕ) (z_abc : Z (.page .abc) = true) :
    view K Z (Work.lastEv w n kind lane s) = view K Z w := by
  unfold Work.lastEv
  (try simp (maxDischargeDepth := 9) only [↓view_ite, ite_self, implies_true, id_eq, ↓view_wr, zone_pgABC, mod_pgABC, z_abc]) <;> (repeat' split) <;> first | rfl | simp (maxDischargeDepth := 9) only [↓view_ite, ite_self, implies_true, id_eq, ↓view_wr, zone_pgABC, mod_pgABC, z_abc]

theorem view_scheduleQuiet (w : Work) (n : ℕ) (b : ℤ) (h_flue : K .flue = true) (h_lane : K .lane = true) (h_lines : K .lines = true) (h_out : K .out = true) (h_unit : K .unit = true) (z_hrt : Z (.page .hrt) = true) (z_unit : Z (.page .unit) = true) :
    view K Z (Work.scheduleQuiet w n b) = view K Z w := by
  unfold Work.scheduleQuiet
  (try simp (maxDischargeDepth := 9) only [↓view_ite, ite_self, implies_true, id_eq, ↓view_setLanes, ↓view_each, ↓view_scheduleUnit, h_flue, h_lane, h_lines, h_out, h_unit, z_hrt, z_unit]) <;> (repeat' split) <;> first | rfl | simp (maxDischargeDepth := 9) only [↓view_ite, ite_self, implies_true, id_eq, ↓view_setLanes, ↓view_each, ↓view_scheduleUnit, h_flue, h_lane, h_lines, h_out, h_unit, z_hrt, z_unit]

theorem view_reckonEnd (w : Work) (n : ℕ) (ok : Bool) (h_flue : K .flue = true) (h_lane : K .lane = true) (h_lines : K .lines = true) (h_out : K .out = true) (h_rgn : K .rgn = true) (h_unit : K .unit = true) (z_window : Z .window = true) (z_abc : Z (.page .abc) = true) (z_hrt : Z (.page .hrt) = true) (z_sp : Z (.page .sp) = true) (z_unit : Z (.page .unit) = true) :
    view K Z (Work.reckonEnd w n ok) = view K Z w := by
  unfold Work.reckonEnd
  (try simp (maxDischargeDepth := 9) only [↓view_ite, ite_self, implies_true, id_eq, ↓view_wr, zone_pgABC, mod_pgABC, ↓view_modRg, ↓view_scheduleQuiet, ↓view_each, ↓view_put, zone_stateWordAddr, zone_outSlotAddr, zone_pgSP, mod_pgSP, h_flue, h_lane, h_lines, h_out, h_rgn, h_unit, z_window, z_abc, z_hrt, z_sp, z_unit]) <;> (repeat' split) <;> first | rfl | simp (maxDischargeDepth := 9) only [↓view_ite, ite_self, implies_true, id_eq, ↓view_wr, zone_pgABC, mod_pgABC, ↓view_modRg, ↓view_scheduleQuiet, ↓view_each, ↓view_put, zone_stateWordAddr, zone_outSlotAddr, zone_pgSP, mod_pgSP, h_flue, h_lane, h_lines, h_out, h_rgn, h_unit, z_window, z_abc, z_hrt, z_sp, z_unit]

theorem view_reckonStart (w : Work) (n : ℕ) (h_flue : K .flue = true) (h_lane : K .lane = true) (h_lines : K .lines = true) (h_out : K .out = true) (h_rgn : K .rgn = true) (h_unit : K .unit = true) (z_window : Z .window = true) (z_abc : Z (.page .abc) = true) (z_hrt : Z (.page .hrt) = true) (z_sp : Z (.page .sp) = true) (z_unit : Z (.page .unit) = true) :
    view K Z (Work.reckonStart w n) = view K Z w := by
  unfold Work.reckonStart
  (try simp (maxDischargeDepth := 9) only [↓view_ite, ite_self, implies_true, id_eq, ↓view_wr, zone_pgABC, mod_pgABC, ↓view_modRg, ↓view_each, ↓view_reckonEnd, h_flue, h_lane, h_lines, h_out, h_rgn, h_unit, z_window, z_abc, z_hrt, z_sp, z_unit]) <;> (repeat' split) <;> first | rfl | simp (maxDischargeDepth := 9) only [↓view_ite, ite_self, implies_true, id_eq, ↓view_wr, zone_pgABC, mod_pgABC, ↓view_modRg, ↓view_each, ↓view_reckonEnd, h_flue, h_lane, h_lines, h_out, h_rgn, h_unit, z_window, z_abc, z_hrt, z_sp, z_unit]

theorem view_residueInj (w : Work) (n : ℕ) (bad : Option ℕ) (z_abc : Z (.page .abc) = true) (z_hrt : Z (.page .hrt) = true) :
    view K Z (Work.residueInj w n bad) = view K Z w := by
  unfold Work.residueInj
  (try simp (maxDischargeDepth := 9) only [↓view_ite, ite_self, implies_true, id_eq, ↓view_when, ↓view_injDone, zone_pgABC, mod_pgABC, z_abc, z_hrt]) <;> (repeat' split) <;> first | rfl | simp (maxDischargeDepth := 9) only [↓view_ite, ite_self, implies_true, id_eq, ↓view_when, ↓view_injDone, zone_pgABC, mod_pgABC, z_abc, z_hrt]

theorem view_secEcc (w : Work) (n : ℕ) (s : ℕ) (chk : ℕ) (e : Ecc) (h_bad : K .bad = true) (h_chop : K .chop = true) (h_clu : K .clu = true) (h_events : K .events = true) (h_flue : K .flue = true) (h_freeCtr : K .freeCtr = true) (h_hearth : K .hearth = true) (h_lane : K .lane = true) (h_lines : K .lines = true) (h_net : K .net = true) (h_out : K .out = true) (h_recd : K .recd = true) (h_sl : K .sl = true) (h_sram : K .sram = true) (h_unit : K .unit = true) (z_abc : Z (.page .abc) = true) (z_clu : Z (.page .clu) = true) (z_hrt : Z (.page .hrt) = true) (z_hrt1 : Z (.page .hrt1) = true) (z_hrt2 : Z (.page .hrt2) = true) (z_pkg : Z (.page .pkg) = true) (z_recorder : Z (.page .recorder) = true) (z_rg : Z (.page .rg) = true) (z_sysn : Z (.page .sysn) = true) :
    view K Z (Work.secEcc w n s chk e).1 = view K Z w := by
  unfold Work.secEcc
  extract_lets q x v
  have e1 : view K Z q.1 = view K Z w := view_injEcc _ _ _ _ (mod_pgABC n) (by rw [zone_pgABC]; exact z_abc) z_hrt
  rw [← e1]
  split
  · rfl
  · have e2 : view K Z v = view K Z q.1 := by
      show view K Z (Work.memErr _ _ _ _) = _
      simp only [↓view_memErr, ↓view_freshWord, h_bad, h_chop, h_clu, h_events, h_flue, h_freeCtr, h_hearth, h_lane, h_lines, h_net, h_out, h_recd, h_sl, h_sram, h_unit, z_abc, z_clu, z_hrt, z_hrt1, z_hrt2, z_pkg, z_recorder, z_rg, z_sysn]
      exact view_freshWord _ h_freeCtr
    rw [← e2]
    split
    · simp only [↓view_forcedSafeRg, ↓view_lastEv, ↓view_flt, mod_pgABC, zone_pgABC, h_bad, h_chop, h_clu, h_events, h_flue, h_freeCtr, h_hearth, h_lane, h_lines, h_net, h_out, h_recd, h_sl, h_sram, h_unit, z_abc, z_clu, z_hrt, z_hrt1, z_hrt2, z_pkg, z_recorder, z_rg, z_sysn]
    · rfl

theorem view_secStore (w : Work) (n : ℕ) (s : ℕ) (c : Sec) (r : SecRes) (h_flue : K .flue = true) (h_lane : K .lane = true) (h_lines : K .lines = true) (h_out : K .out = true) (h_rgn : K .rgn = true) (h_unit : K .unit = true) (z_window : Z .window = true) (z_abc : Z (.page .abc) = true) (z_hrt : Z (.page .hrt) = true) (z_sp : Z (.page .sp) = true) (z_unit : Z (.page .unit) = true) :
    view K Z (Work.secStore w n s c r) = view K Z w := by
  unfold Work.secStore
  (try simp (maxDischargeDepth := 9) only [↓view_ite, ite_self, implies_true, id_eq, ↓view_modRg, ↓view_when, ↓view_count, zone_pgABC, mod_pgABC, ↓view_lastEv, ↓view_reckonEnd, h_flue, h_lane, h_lines, h_out, h_rgn, h_unit, z_window, z_abc, z_hrt, z_sp, z_unit]) <;> (repeat' split) <;> first | rfl | simp (maxDischargeDepth := 9) only [↓view_ite, ite_self, implies_true, id_eq, ↓view_modRg, ↓view_when, ↓view_count, zone_pgABC, mod_pgABC, ↓view_lastEv, ↓view_reckonEnd, h_flue, h_lane, h_lines, h_out, h_rgn, h_unit, z_window, z_abc, z_hrt, z_sp, z_unit]

theorem view_residueErr (w : Work) (n : ℕ) (s : ℕ) (lane : ℕ) (z_abc : Z (.page .abc) = true) :
    view K Z (Work.residueErr w n s lane) = view K Z w := by
  unfold Work.residueErr
  (try simp (maxDischargeDepth := 9) only [↓view_ite, ite_self, implies_true, id_eq, ↓view_lastEv, ↓view_count, zone_pgABC, mod_pgABC, z_abc]) <;> (repeat' split) <;> first | rfl | simp (maxDischargeDepth := 9) only [↓view_ite, ite_self, implies_true, id_eq, ↓view_lastEv, ↓view_count, zone_pgABC, mod_pgABC, z_abc]

theorem view_secDo (w : Work) (n : ℕ) (s : ℕ) (c : Sec) (f : SectionFinding) (h_flue : K .flue = true) (h_freeCtr : K .freeCtr = true) (h_lane : K .lane = true) (h_lines : K .lines = true) (h_out : K .out = true) (h_rgn : K .rgn = true) (h_unit : K .unit = true) (z_window : Z .window = true) (z_abc : Z (.page .abc) = true) (z_hrt : Z (.page .hrt) = true) (z_sp : Z (.page .sp) = true) (z_unit : Z (.page .unit) = true) :
    view K Z (Work.secDo w n s c f) = view K Z w := by
  unfold Work.secDo
  extract_lets pg r v
  have e : view K Z v = view K Z w := by
    show view K Z (Work.useFree _ _) = _
    rw [view_useFree _ _ h_freeCtr]
    simp only [↓view_residueInj, h_flue, h_freeCtr, h_lane, h_lines, h_out, h_rgn, h_unit, z_window, z_abc, z_hrt, z_sp, z_unit]
  rw [← e]
  split
  · simp only [↓view_secStore, h_flue, h_freeCtr, h_lane, h_lines, h_out, h_rgn, h_unit, z_window, z_abc, z_hrt, z_sp, z_unit]
  · rename_i lane _
    extract_lets v2 again v3
    have e2 : view K Z v2 = view K Z v := by
      show view K Z (Work.residueErr _ _ _ _) = _
      simp only [↓view_residueErr, h_flue, h_freeCtr, h_lane, h_lines, h_out, h_rgn, h_unit, z_window, z_abc, z_hrt, z_sp, z_unit]
    have e3 : view K Z v3 = view K Z v := by
      show view K Z (Work.useFree _ _) = _
      rw [view_useFree _ _ h_freeCtr, e2]
    split
    · rw [← e2]
      simp only [↓view_reckonEnd, ↓view_flt, mod_pgABC, zone_pgABC, h_flue, h_freeCtr, h_lane, h_lines, h_out, h_rgn, h_unit, z_window, z_abc, z_hrt, z_sp, z_unit, pg]
    · rw [← e3]
      split <;> simp only [↓view_reckonEnd, ↓view_lastEv, ↓view_secStore, ↓view_modRg, ↓view_wr, ↓view_flt, mod_pgABC, zone_pgABC, h_flue, h_freeCtr, h_lane, h_lines, h_out, h_rgn, h_unit, z_window, z_abc, z_hrt, z_sp, z_unit, pg]

theorem view_section (w : Work) (n : ℕ) (f : SectionFinding) (h_bad : K .bad = true) (h_chop : K .chop = true) (h_clu : K .clu = true) (h_events : K .events = true) (h_flue : K .flue = true) (h_freeCtr : K .freeCtr = true) (h_hearth : K .hearth = true) (h_lane : K .lane = true) (h_lines : K .lines = true) (h_net : K .net = true) (h_out : K .out = true) (h_recd : K .recd = true) (h_rgn : K .rgn = true) (h_sl : K .sl = true) (h_sram : K .sram = true) (h_unit : K .unit = true) (z_window : Z .window = true) (z_abc : Z (.page .abc) = true) (z_clu : Z (.page .clu) = true) (z_hrt : Z (.page .hrt) = true) (z_hrt1 : Z (.page .hrt1) = true) (z_hrt2 : Z (.page .hrt2) = true) (z_pkg : Z (.page .pkg) = true) (z_recorder : Z (.page .recorder) = true) (z_rg : Z (.page .rg) = true) (z_sp : Z (.page .sp) = true) (z_sysn : Z (.page .sysn) = true) (z_unit : Z (.page .unit) = true) :
    view K Z (Work.section w n f) = view K Z w := by
  unfold Work.section
  extract_lets r s c q1 q2 q3
  have hs : ∀ (u : Work) (k : Nat) (y : Ecc), view K Z (u.secEcc n s k y).1 = view K Z u := fun u k y => by
    simp only [↓view_secEcc, h_bad, h_chop, h_clu, h_events, h_flue, h_freeCtr, h_hearth, h_lane, h_lines, h_net, h_out, h_recd, h_rgn, h_sl, h_sram, h_unit, z_window, z_abc, z_clu, z_hrt, z_hrt1, z_hrt2, z_pkg, z_recorder, z_rg, z_sp, z_sysn, z_unit]
  have e1 : view K Z q1.1 = view K Z w := hs _ _ _
  have e2 : view K Z q2.1 = view K Z w := by
    rw [← e1]
    show view K Z (if _ then _ else _ : Work × Bool).1 = _
    split
    · exact hs _ _ _
    · rfl
  have e3 : view K Z q3.1 = view K Z w := by
    rw [← e2]
    show view K Z (if _ then _ else _ : Work × Bool).1 = _
    split
    · exact hs _ _ _
    · rfl
  split
  · rfl
  · rw [← e3]
    split
    · simp only [↓view_reckonEnd, h_bad, h_chop, h_clu, h_events, h_flue, h_freeCtr, h_hearth, h_lane, h_lines, h_net, h_out, h_recd, h_rgn, h_sl, h_sram, h_unit, z_window, z_abc, z_clu, z_hrt, z_hrt1, z_hrt2, z_pkg, z_recorder, z_rg, z_sp, z_sysn, z_unit]
    · simp only [↓view_secDo, h_bad, h_chop, h_clu, h_events, h_flue, h_freeCtr, h_hearth, h_lane, h_lines, h_net, h_out, h_recd, h_rgn, h_sl, h_sram, h_unit, z_window, z_abc, z_clu, z_hrt, z_hrt1, z_hrt2, z_pkg, z_recorder, z_rg, z_sp, z_sysn, z_unit]

theorem view_hostSlot (w : Work) (n : ℕ) (k : ℕ) (v : Word) (h_rgn : K .rgn = true) (z_abc : Z (.page .abc) = true) :
    view K Z (Work.hostSlot w n k v) = view K Z w := by
  unfold Work.hostSlot
  (try simp (maxDischargeDepth := 9) only [↓view_ite, ite_self, implies_true, id_eq, ↓view_badval, zone_pgABC, mod_pgABC, ↓view_modRg, h_rgn, z_abc]) <;> (repeat' split) <;> first | rfl | simp (maxDischargeDepth := 9) only [↓view_ite, ite_self, implies_true, id_eq, ↓view_badval, zone_pgABC, mod_pgABC, ↓view_modRg, h_rgn, z_abc]

theorem view_hostState (w : Work) (n : ℕ) (x : ℕ) (v : Word) (z_window : Z .window = true) (z_abc : Z (.page .abc) = true) :
    view K Z (Work.hostState w n x v) = view K Z w := by
  unfold Work.hostState
  (try simp (maxDischargeDepth := 9) only [↓view_ite, ite_self, implies_true, id_eq, ↓view_badval, zone_pgABC, mod_pgABC, ↓view_put, zone_stateWordAddr, z_window, z_abc]) <;> (repeat' split) <;> first | rfl | simp (maxDischargeDepth := 9) only [↓view_ite, ite_self, implies_true, id_eq, ↓view_badval, zone_pgABC, mod_pgABC, ↓view_put, zone_stateWordAddr, z_window, z_abc]

end Sys2Proof.Machine
end

