-- ==== Sys2Proof/Laws/ViewFabric.lean ====
section
/-! SUPPORT. What each operation of Machine/Fabric.lean can write: the view without those kinds and zones is as it was. -/

set_option linter.unusedSimpArgs false
set_option linter.unreachableTactic false
set_option linter.unusedTactic false
set_option linter.unnecessarySeqFocus false

namespace Sys2Proof.Machine

variable {K : Kind → Bool} {Z : Zone → Bool}

theorem view_stall (w : Work) (site : StallSite) (ret : Bool) (kind : ℕ) (chan : ℕ) (h_bad : K .bad = true) (h_chop : K .chop = true) (h_clu : K .clu = true) (h_events : K .events = true) (h_flue : K .flue = true) (h_hearth : K .hearth = true) (h_lane : K .lane = true) (h_lines : K .lines = true) (h_net : K .net = true) (h_out : K .out = true) (h_recd : K .recd = true) (h_sl : K .sl = true) (h_sram : K .sram = true) (h_unit : K .unit = true) (z_clu : Z (.page .clu) = true) (z_hrt : Z (.page .hrt) = true) (z_hrt1 : Z (.page .hrt1) = true) (z_hrt2 : Z (.page .hrt2) = true) (z_pkg : Z (.page .pkg) = true) (z_recorder : Z (.page .recorder) = true) (z_rg : Z (.page .rg) = true) (z_sysn : Z (.page .sysn) = true) :
    view K Z (Work.stall w site ret kind chan) = view K Z w := by
  unfold Work.stall
  (try simp (maxDischargeDepth := 9) only [↓view_ite, ite_self, implies_true, id_eq, ↓view_hearthFatal, zone_pgHRT, mod_pgHRT, ↓view_laneShow, ↓view_flt, zone_pgCLU, mod_pgCLU, ↓view_when, ↓view_wr, zone_pgPKG, mod_pgPKG, ↓view_count, ↓view_setBit, ↓view_modHearth, ↓view_forcedSafe, ↓view_forcedSafeRg, zone_pgRG, mod_pgRG, ↓view_fltTo, h_bad, h_chop, h_clu, h_events, h_flue, h_hearth, h_lane, h_lines, h_net, h_out, h_recd, h_sl, h_sram, h_unit, z_clu, z_hrt, z_hrt1, z_hrt2, z_pkg, z_recorder, z_rg, z_sysn]) <;> (repeat' split) <;> first | rfl | simp (maxDischargeDepth := 9) only [↓view_ite, ite_self, implies_true, id_eq, ↓view_hearthFatal, zone_pgHRT, mod_pgHRT, ↓view_laneShow, ↓view_flt, zone_pgCLU, mod_pgCLU, ↓view_when, ↓view_wr, zone_pgPKG, mod_pgPKG, ↓view_count, ↓view_setBit, ↓view_modHearth, ↓view_forcedSafe, ↓view_forcedSafeRg, zone_pgRG, mod_pgRG, ↓view_fltTo, h_bad, h_chop, h_clu, h_events, h_flue, h_hearth, h_lane, h_lines, h_net, h_out, h_recd, h_sl, h_sram, h_unit, z_clu, z_hrt, z_hrt1, z_hrt2, z_pkg, z_recorder, z_rg, z_sysn]

theorem view_stallEnd (w : Work) (domains : List ℕ) (h_hearth : K .hearth = true) :
    view K Z (Work.stallEnd w domains) = view K Z w := by
  unfold Work.stallEnd
  (try simp (maxDischargeDepth := 9) only [↓view_ite, ite_self, implies_true, id_eq, ↓view_modHearth, h_hearth]) <;> (repeat' split) <;> first | rfl | simp (maxDischargeDepth := 9) only [↓view_ite, ite_self, implies_true, id_eq, ↓view_modHearth, h_hearth]

theorem view_fence (w : Work) (f : ℕ) (up : Bool) (z_pkg : Z (.page .pkg) = true) :
    view K Z (Work.fence w f up) = view K Z w := by
  unfold Work.fence
  (try simp (maxDischargeDepth := 9) only [↓view_ite, ite_self, implies_true, id_eq, ↓view_putBit, zone_pgPKG, mod_pgPKG, z_pkg]) <;> (repeat' split) <;> first | rfl | simp (maxDischargeDepth := 9) only [↓view_ite, ite_self, implies_true, id_eq, ↓view_putBit, zone_pgPKG, mod_pgPKG, z_pkg]

theorem view_zeroSlots (w : Work) (n : Nat) (h_rgn : K .rgn = true) (z_window : Z .window = true) :
    view K Z (w.zeroSlots n) = view K Z w := by
  unfold Work.zeroSlots
  refine (view_modRg _ _ _ h_rgn).trans (view_dropRegs _ _ fun a ha => ?_)
  simp only [Bool.and_eq_true, decide_eq_true_eq] at ha
  obtain ⟨x, rfl⟩ := Nat.exists_eq_add_of_le (show rgBase n ≤ a by omega)
  rw [zoneOf_window n x (by omega)]
  exact z_window

theorem view_twinRestart (w : Work) (n : ℕ) (h_twin : K .twin = true) :
    view K Z (Work.twinRestart w n) = view K Z w := by
  unfold Work.twinRestart
  (try simp (maxDischargeDepth := 9) only [↓view_ite, ite_self, implies_true, id_eq, ↓view_modTwinRg, h_twin]) <;> (repeat' split) <;> first | rfl | simp (maxDischargeDepth := 9) only [↓view_ite, ite_self, implies_true, id_eq, ↓view_modTwinRg, h_twin]

theorem view_fenceRegion (w : Work) (n : ℕ) (h_adc : K .adc = true) (h_clu : K .clu = true) (h_lane : K .lane = true) (h_recd : K .recd = true) (h_rgn : K .rgn = true) (h_twin : K .twin = true) (z_abc : Z (.page .abc) = true) (z_ad : Z (.page .ad) = true) (z_pkg : Z (.page .pkg) = true) (z_rg : Z (.page .rg) = true) (z_sp : Z (.page .sp) = true) :
    view K Z (Work.fenceRegion w n) = view K Z w := by
  unfold Work.fenceRegion
  (try simp (maxDischargeDepth := 9) only [↓view_ite, ite_self, implies_true, id_eq, ↓view_each, ↓view_twinRestart, ↓view_recFenced, ↓view_adcDropRegion, ↓view_leaveCycle, ↓view_fence, ↓view_modLn, h_adc, h_clu, h_lane, h_recd, h_rgn, h_twin, z_abc, z_ad, z_pkg, z_rg, z_sp]) <;> (repeat' split) <;> first | rfl | simp (maxDischargeDepth := 9) only [↓view_ite, ite_self, implies_true, id_eq, ↓view_each, ↓view_twinRestart, ↓view_recFenced, ↓view_adcDropRegion, ↓view_leaveCycle, ↓view_fence, ↓view_modLn, h_adc, h_clu, h_lane, h_recd, h_rgn, h_twin, z_abc, z_ad, z_pkg, z_rg, z_sp]

theorem view_unfenceRegion (w : Work) (n : ℕ) (h_events : K .events = true) (h_hearth : K .hearth = true) (h_lane : K .lane = true) (h_sl : K .sl = true) (z_clane : Z (.page .clane) = true) (z_clu : Z (.page .clu) = true) (z_pkg : Z (.page .pkg) = true) (z_sysn : Z (.page .sysn) = true) :
    view K Z (Work.unfenceRegion w n) = view K Z w := by
  unfold Work.unfenceRegion
  (try simp (maxDischargeDepth := 9) only [↓view_ite, ite_self, implies_true, id_eq, ↓view_each, ↓view_fence, ↓view_when, ↓view_acquire, ↓view_laneShow, h_events, h_hearth, h_lane, h_sl, z_clane, z_clu, z_pkg, z_sysn]) <;> (repeat' split) <;> first | rfl | simp (maxDischargeDepth := 9) only [↓view_ite, ite_self, implies_true, id_eq, ↓view_each, ↓view_fence, ↓view_when, ↓view_acquire, ↓view_laneShow, h_events, h_hearth, h_lane, h_sl, z_clane, z_clu, z_pkg, z_sysn]

theorem view_rejoin (w : Work) (n : ℕ) (h_clu : K .clu = true) (h_events : K .events = true) (h_hearth : K .hearth = true) (h_lane : K .lane = true) (h_rgn : K .rgn = true) (h_sl : K .sl = true) (h_unit : K .unit = true) (z_clane : Z (.page .clane) = true) (z_clu : Z (.page .clu) = true) (z_pkg : Z (.page .pkg) = true) (z_sysn : Z (.page .sysn) = true) :
    view K Z (Work.rejoin w n) = view K Z w := by
  unfold Work.rejoin
  (try simp (maxDischargeDepth := 9) only [↓view_ite, ite_self, implies_true, id_eq, ↓view_when, ↓view_unfenceRegion, ↓view_awaitGrid, h_clu, h_events, h_hearth, h_lane, h_rgn, h_sl, h_unit, z_clane, z_clu, z_pkg, z_sysn]) <;> (repeat' split) <;> first | rfl | simp (maxDischargeDepth := 9) only [↓view_ite, ite_self, implies_true, id_eq, ↓view_when, ↓view_unfenceRegion, ↓view_awaitGrid, h_clu, h_events, h_hearth, h_lane, h_rgn, h_sl, h_unit, z_clane, z_clu, z_pkg, z_sysn]

theorem view_frame (w : Work) (h_shut : K .shut = true) (z_pkg : Z (.page .pkg) = true) (z_spll : Z (.page .spll) = true) (z_twin : Z (.page .twin) = true) :
    view K Z (Work.frame w) = view K Z w := by
  unfold Work.frame
  (try simp (maxDischargeDepth := 9) only [↓view_ite, ite_self, implies_true, id_eq, ↓view_count, zone_pgTWIN, mod_pgTWIN, ↓view_each, ↓view_when, ↓view_wr, zone_pgPKG, mod_pgPKG, ↓view_setShut, zone_pgSPLL, mod_pgSPLL, h_shut, z_pkg, z_spll, z_twin]) <;> (repeat' split) <;> first | rfl | simp (maxDischargeDepth := 9) only [↓view_ite, ite_self, implies_true, id_eq, ↓view_count, zone_pgTWIN, mod_pgTWIN, ↓view_each, ↓view_when, ↓view_wr, zone_pgPKG, mod_pgPKG, ↓view_setShut, zone_pgSPLL, mod_pgSPLL, h_shut, z_pkg, z_spll, z_twin]

end Sys2Proof.Machine
end

