-- ==== Sys2Proof/Laws/ViewSelfTest.lean ====
section
/-! SUPPORT. What each operation of Machine/SelfTest.lean can write: the view without those kinds and zones is as it was. -/

set_option linter.unusedSimpArgs false
set_option linter.unreachableTactic false
set_option linter.unusedTactic false
set_option linter.unnecessarySeqFocus false

namespace Sys2Proof.Machine

variable {K : Kind → Bool} {Z : Zone → Bool}

theorem view_bistRefuse (w : Work) (cause : ℕ) (z_bist : Z (.page .bist) = true) :
    view K Z (Work.bistRefuse w cause) = view K Z w := by
  unfold Work.bistRefuse
  (try simp (maxDischargeDepth := 9) only [↓view_ite, ite_self, implies_true, id_eq, ↓view_wr, zone_pgBIST, mod_pgBIST, z_bist]) <;> (repeat' split) <;> first | rfl | simp (maxDischargeDepth := 9) only [↓view_ite, ite_self, implies_true, id_eq, ↓view_wr, zone_pgBIST, mod_pgBIST, z_bist]

theorem view_bistBegin (w : Work) (n : ℕ) (h_sec : K .sec = true) (z_bist : Z (.page .bist) = true) :
    view K Z (Work.bistBegin w n) = view K Z w := by
  unfold Work.bistBegin
  (try simp (maxDischargeDepth := 9) only [↓view_ite, ite_self, implies_true, id_eq, ↓view_modSec, ↓view_setBit, zone_pgBIST, mod_pgBIST, h_sec, z_bist]) <;> (repeat' split) <;> first | rfl | simp (maxDischargeDepth := 9) only [↓view_ite, ite_self, implies_true, id_eq, ↓view_modSec, ↓view_setBit, zone_pgBIST, mod_pgBIST, h_sec, z_bist]

theorem view_bistGo (w : Work) (rgs : ℕ) (h_sec : K .sec = true) (z_bist : Z (.page .bist) = true) :
    view K Z (Work.bistGo w rgs) = view K Z w := by
  unfold Work.bistGo
  refine view_each _ _ _ fun v x => ?_
  split
  · simp only [↓view_bistRefuse, h_sec, z_bist]
  · simp only [↓view_bistBegin, h_sec, z_bist]

theorem view_bistVerdict (w : Work) (n : ℕ) (v : ℕ) (h_sec : K .sec = true) (z_bist : Z (.page .bist) = true) :
    view K Z (Work.bistVerdict w n v) = view K Z w := by
  unfold Work.bistVerdict
  (try simp (maxDischargeDepth := 9) only [↓view_ite, ite_self, implies_true, id_eq, ↓view_wr, zone_pgBIST, mod_pgBIST, ↓view_modSec, ↓view_clrBit, h_sec, z_bist]) <;> (repeat' split) <;> first | rfl | simp (maxDischargeDepth := 9) only [↓view_ite, ite_self, implies_true, id_eq, ↓view_wr, zone_pgBIST, mod_pgBIST, ↓view_modSec, ↓view_clrBit, h_sec, z_bist]

theorem view_bistAbort (w : Work) (n : ℕ) (zero : Bool) (h_clu : K .clu = true) (h_events : K .events = true) (h_hearth : K .hearth = true) (h_lane : K .lane = true) (h_rgn : K .rgn = true) (h_sec : K .sec = true) (h_sl : K .sl = true) (h_unit : K .unit = true) (z_window : Z .window = true) (z_bist : Z (.page .bist) = true) (z_clane : Z (.page .clane) = true) (z_clu : Z (.page .clu) = true) (z_pkg : Z (.page .pkg) = true) (z_sysn : Z (.page .sysn) = true) :
    view K Z (Work.bistAbort w n zero) = view K Z w := by
  unfold Work.bistAbort
  (try simp (maxDischargeDepth := 9) only [↓view_ite, ite_self, implies_true, id_eq, ↓view_when, ↓view_bistVerdict, ↓view_zeroSlots, ↓view_rejoin, h_clu, h_events, h_hearth, h_lane, h_rgn, h_sec, h_sl, h_unit, z_window, z_bist, z_clane, z_clu, z_pkg, z_sysn]) <;> (repeat' split) <;> first | rfl | simp (maxDischargeDepth := 9) only [↓view_ite, ite_self, implies_true, id_eq, ↓view_when, ↓view_bistVerdict, ↓view_zeroSlots, ↓view_rejoin, h_clu, h_events, h_hearth, h_lane, h_rgn, h_sec, h_sl, h_unit, z_window, z_bist, z_clane, z_clu, z_pkg, z_sysn]

theorem view_bistDone (w : Work) (n : ℕ) (sig : ℕ) (sigOk : Bool) (bad : Option ℕ) (h_clu : K .clu = true) (h_ember : K .ember = true) (h_events : K .events = true) (h_flue : K .flue = true) (h_hearth : K .hearth = true) (h_lane : K .lane = true) (h_lines : K .lines = true) (h_out : K .out = true) (h_rgn : K .rgn = true) (h_sec : K .sec = true) (h_sl : K .sl = true) (h_unit : K .unit = true) (z_window : Z .window = true) (z_bist : Z (.page .bist) = true) (z_clane : Z (.page .clane) = true) (z_clu : Z (.page .clu) = true) (z_pkg : Z (.page .pkg) = true) (z_sysn : Z (.page .sysn) = true) :
    view K Z (Work.bistDone w n sig sigOk bad) = view K Z w := by
  unfold Work.bistDone
  (try simp (maxDischargeDepth := 9) only [↓view_ite, ite_self, implies_true, id_eq, ↓view_count, zone_pgBIST, mod_pgBIST, ↓view_wr, ↓view_bistVerdict, ↓view_zeroSlots, ↓view_rejoin, ↓view_modEmber, ↓view_flt, h_clu, h_ember, h_events, h_flue, h_hearth, h_lane, h_lines, h_out, h_rgn, h_sec, h_sl, h_unit, z_window, z_bist, z_clane, z_clu, z_pkg, z_sysn]) <;> (repeat' split) <;> first | rfl | simp (maxDischargeDepth := 9) only [↓view_ite, ite_self, implies_true, id_eq, ↓view_count, zone_pgBIST, mod_pgBIST, ↓view_wr, ↓view_bistVerdict, ↓view_zeroSlots, ↓view_rejoin, ↓view_modEmber, ↓view_flt, h_clu, h_ember, h_events, h_flue, h_hearth, h_lane, h_lines, h_out, h_rgn, h_sec, h_sl, h_unit, z_window, z_bist, z_clane, z_clu, z_pkg, z_sysn]

theorem view_umark (w : Work) (key : ℕ) (rgs : ℕ) (h_ember : K .ember = true) (h_kin : K .kin = true) (z_bist : Z (.page .bist) = true) :
    view K Z (Work.umark w key rgs) = view K Z w := by
  unfold Work.umark
  (try simp (maxDischargeDepth := 9) only [↓view_ite, ite_self, implies_true, id_eq, ↓view_when, ↓view_modEmber, ↓view_modKin, ↓view_badval, zone_pgBIST, mod_pgBIST, h_ember, h_kin, z_bist]) <;> (repeat' split) <;> first | rfl | simp (maxDischargeDepth := 9) only [↓view_ite, ite_self, implies_true, id_eq, ↓view_when, ↓view_modEmber, ↓view_modKin, ↓view_badval, zone_pgBIST, mod_pgBIST, h_ember, h_kin, z_bist]

theorem view_zero (w : Work) (cause : ℕ) (h_sec : K .sec = true) (z_sec : Z (.page .sec) = true) :
    view K Z (Work.zero w cause) = view K Z w := by
  unfold Work.zero
  (try simp (maxDischargeDepth := 9) only [↓view_ite, ite_self, implies_true, id_eq, ↓view_modSec, ↓view_wr, zone_pgSEC, mod_pgSEC, ↓view_each, h_sec, z_sec]) <;> (repeat' split) <;> first | rfl | simp (maxDischargeDepth := 9) only [↓view_ite, ite_self, implies_true, id_eq, ↓view_modSec, ↓view_wr, zone_pgSEC, mod_pgSEC, ↓view_each, h_sec, z_sec]

theorem view_keyProg (w : Work) (h_sec : K .sec = true) (z_sec : Z (.page .sec) = true) :
    view K Z (Work.keyProg w) = view K Z w := by
  unfold Work.keyProg
  (try simp (maxDischargeDepth := 9) only [↓view_ite, ite_self, implies_true, id_eq, ↓view_modSec, ↓view_badval, zone_pgSEC, mod_pgSEC, h_sec, z_sec]) <;> (repeat' split) <;> first | rfl | simp (maxDischargeDepth := 9) only [↓view_ite, ite_self, implies_true, id_eq, ↓view_modSec, ↓view_badval, zone_pgSEC, mod_pgSEC, h_sec, z_sec]

theorem view_keyDone (w : Work) (ok : Bool) (h_flue : K .flue = true) (h_lines : K .lines = true) (h_out : K .out = true) (h_sec : K .sec = true) (z_sec : Z (.page .sec) = true) :
    view K Z (Work.keyDone w ok) = view K Z w := by
  unfold Work.keyDone
  have hz : Z (zoneOf pgSEC) = true := by rw [zone_pgSEC]; exact z_sec
  split
  · extract_lets key w1 w2
    have e2 : view K Z w2 = view K Z w :=
      (view_each _ _ _ fun v i => view_wr _ _ _ _ _ mod_pgSEC hz).trans (view_modSec _ _ h_sec)
    rw [← e2]
    split
    · exact view_when _ _ _ fun v => view_put_page _ _ _ _ (by decide) mod_pgSEC hz
    · exact view_flt _ _ _ _ _ mod_pgSEC hz h_out h_flue h_lines
  · rfl

theorem view_lbist (w : Work) (hub : Bool) (h_bad : K .bad = true) (h_chop : K .chop = true) (h_clu : K .clu = true) (h_events : K .events = true) (h_flue : K .flue = true) (h_hearth : K .hearth = true) (h_lane : K .lane = true) (h_lines : K .lines = true) (h_net : K .net = true) (h_out : K .out = true) (h_recd : K .recd = true) (h_sec : K .sec = true) (h_sl : K .sl = true) (h_sram : K .sram = true) (h_unit : K .unit = true) (z_bist : Z (.page .bist) = true) (z_clu : Z (.page .clu) = true) (z_hrt : Z (.page .hrt) = true) (z_hrt1 : Z (.page .hrt1) = true) (z_hrt2 : Z (.page .hrt2) = true) (z_pkg : Z (.page .pkg) = true) (z_recorder : Z (.page .recorder) = true) (z_sec : Z (.page .sec) = true) (z_sysn : Z (.page .sysn) = true) :
    view K Z (Work.lbist w hub) = view K Z w := by
  unfold Work.lbist
  (try simp (maxDischargeDepth := 9) only [↓view_ite, ite_self, implies_true, id_eq, ↓view_wr, zone_pgBIST, mod_pgBIST, ↓view_fence, ↓view_reactFatal, ↓view_zero, h_bad, h_chop, h_clu, h_events, h_flue, h_hearth, h_lane, h_lines, h_net, h_out, h_recd, h_sec, h_sl, h_sram, h_unit, z_bist, z_clu, z_hrt, z_hrt1, z_hrt2, z_pkg, z_recorder, z_sec, z_sysn]) <;> (repeat' split) <;> first | rfl | simp (maxDischargeDepth := 9) only [↓view_ite, ite_self, implies_true, id_eq, ↓view_wr, zone_pgBIST, mod_pgBIST, ↓view_fence, ↓view_reactFatal, ↓view_zero, h_bad, h_chop, h_clu, h_events, h_flue, h_hearth, h_lane, h_lines, h_net, h_out, h_recd, h_sec, h_sl, h_sram, h_unit, z_bist, z_clu, z_hrt, z_hrt1, z_hrt2, z_pkg, z_recorder, z_sec, z_sysn]

theorem view_lbistGo (w : Work) (hub : Bool) (h_bad : K .bad = true) (h_chop : K .chop = true) (h_clu : K .clu = true) (h_events : K .events = true) (h_flue : K .flue = true) (h_hearth : K .hearth = true) (h_lane : K .lane = true) (h_lines : K .lines = true) (h_net : K .net = true) (h_out : K .out = true) (h_recd : K .recd = true) (h_sec : K .sec = true) (h_sl : K .sl = true) (h_sram : K .sram = true) (h_unit : K .unit = true) (z_bist : Z (.page .bist) = true) (z_clu : Z (.page .clu) = true) (z_hrt : Z (.page .hrt) = true) (z_hrt1 : Z (.page .hrt1) = true) (z_hrt2 : Z (.page .hrt2) = true) (z_pkg : Z (.page .pkg) = true) (z_recorder : Z (.page .recorder) = true) (z_sec : Z (.page .sec) = true) (z_sysn : Z (.page .sysn) = true) :
    view K Z (Work.lbistGo w hub) = view K Z w := by
  unfold Work.lbistGo
  (try simp (maxDischargeDepth := 9) only [↓view_ite, ite_self, implies_true, id_eq, ↓view_bistRefuse, ↓view_lbist, h_bad, h_chop, h_clu, h_events, h_flue, h_hearth, h_lane, h_lines, h_net, h_out, h_recd, h_sec, h_sl, h_sram, h_unit, z_bist, z_clu, z_hrt, z_hrt1, z_hrt2, z_pkg, z_recorder, z_sec, z_sysn]) <;> (repeat' split) <;> first | rfl | simp (maxDischargeDepth := 9) only [↓view_ite, ite_self, implies_true, id_eq, ↓view_bistRefuse, ↓view_lbist, h_bad, h_chop, h_clu, h_events, h_flue, h_hearth, h_lane, h_lines, h_net, h_out, h_recd, h_sec, h_sl, h_sram, h_unit, z_bist, z_clu, z_hrt, z_hrt1, z_hrt2, z_pkg, z_recorder, z_sec, z_sysn]

theorem view_lbistEnd (w : Work) (pass : Bool) (sig : ℕ) (h_flue : K .flue = true) (h_lines : K .lines = true) (h_out : K .out = true) (z_bist : Z (.page .bist) = true) :
    view K Z (Work.lbistEnd w pass sig) = view K Z w := by
  unfold Work.lbistEnd
  (try simp (maxDischargeDepth := 9) only [↓view_ite, ite_self, implies_true, id_eq, ↓view_wr, zone_pgBIST, mod_pgBIST, ↓view_flt, h_flue, h_lines, h_out, z_bist]) <;> (repeat' split) <;> first | rfl | simp (maxDischargeDepth := 9) only [↓view_ite, ite_self, implies_true, id_eq, ↓view_wr, zone_pgBIST, mod_pgBIST, ↓view_flt, h_flue, h_lines, h_out, z_bist]

theorem view_cstoreGo (w : Work) (s : ℕ) (h_sec : K .sec = true) (z_cstore : Z (.page .cstore) = true) :
    view K Z (Work.cstoreGo w s) = view K Z w := by
  unfold Work.cstoreGo
  (try simp (maxDischargeDepth := 9) only [↓view_ite, ite_self, implies_true, id_eq, ↓view_wr, zone_pgCSTORE, mod_pgCSTORE, ↓view_modSec, h_sec, z_cstore]) <;> (repeat' split) <;> first | rfl | simp (maxDischargeDepth := 9) only [↓view_ite, ite_self, implies_true, id_eq, ↓view_wr, zone_pgCSTORE, mod_pgCSTORE, ↓view_modSec, h_sec, z_cstore]

theorem view_cstoreDone (w : Work) (ok : Bool) (h_flue : K .flue = true) (h_lines : K .lines = true) (h_out : K .out = true) (h_sec : K .sec = true) (z_cstore : Z (.page .cstore) = true) :
    view K Z (Work.cstoreDone w ok) = view K Z w := by
  unfold Work.cstoreDone
  split
  · rfl
  · rename_i r hr
    extract_lets n e base hash w1 w2 w3 w4
    have he : e < 256 := rd_lt w pgCSTORE CSTORE_WSTAT_LOG_N 0
    have hz : Z (zoneOf pgCSTORE) = true := by rw [zone_pgCSTORE]; exact z_cstore
    have hput : ∀ (u : Work) (y : Nat) (d : Word), y < 0x1000 → view K Z (u.put (pgCSTORE + y) d) = view K Z u :=
      fun u y d hy => view_put_page _ _ _ _ hy mod_pgCSTORE hz
    have b0 : base = pgCSTORE + (0x200 + 12 * e) := Nat.add_assoc _ _ _
    have b1 : base + 4 = pgCSTORE + (0x200 + 12 * e + 4) := by rw [b0, Nat.add_assoc]
    have b2 : base + 8 = pgCSTORE + (0x200 + 12 * e + 8) := by rw [b0, Nat.add_assoc]
    have e1 : view K Z w1 = view K Z w := by
      show view K Z (w.put base _) = _
      rw [b0]; exact hput _ _ _ (by omega)
    have e2 : view K Z w2 = view K Z w := by
      show view K Z (((w1.put (base + 4) _).put (base + 8) _).wr pgCSTORE _ _) = _
      rw [view_wr _ _ _ _ _ mod_pgCSTORE hz, b1, b2, hput _ _ _ (by omega), hput _ _ _ (by omega), e1]
    have e4 : view K Z w4 = view K Z w := by
      show view K Z (((Work.modSec (Work.wr w2 _ _ _) _).wr pgCSTORE _ _).wr pgCSTORE _ _) = _
      rw [view_wr _ _ _ _ _ mod_pgCSTORE hz, view_wr _ _ _ _ _ mod_pgCSTORE hz, view_modSec _ _ h_sec,
        view_wr _ _ _ _ _ mod_pgCSTORE hz, e2]
    rw [← e4]
    split
    · rw [hput _ _ _ (Field.at_lt _ _), hput _ _ _ (Field.at_lt _ _)]
    · rw [view_flt _ _ _ _ _ mod_pgCSTORE hz h_out h_flue h_lines, view_wr _ _ _ _ _ mod_pgCSTORE hz]

end Sys2Proof.Machine
end

