-- ==== Sys2Proof/Laws/ViewHalt.lean ====
section
/-! SUPPORT. What each operation of Machine/Halt.lean can write: the view without those kinds and zones is as it was. -/

set_option linter.unusedSimpArgs false
set_option linter.unreachableTactic false
set_option linter.unusedTactic false
set_option linter.unnecessarySeqFocus false

namespace Sys2Proof.Machine

variable {K : Kind → Bool} {Z : Zone → Bool}

theorem view_voidAfter (w : Work) (f : ℤ) (h_lane : K .lane = true) (h_unit : K .unit = true) :
    view K Z (Work.voidAfter w f) = view K Z w := by
  unfold Work.voidAfter
  extract_lets v1 v2
  have e1 : view K Z v1 = view K Z w := view_each _ _ _ fun v c => view_each _ _ _ fun v leg => by
    split
    · exact view_modUn _ _ _ h_unit
    · rfl
  have e2 : view K Z v2 = view K Z v1 := view_each _ _ _ fun v c => view_modLn _ _ _ h_lane
  rw [← e1, ← e2]
  exact view_each _ _ _ fun v u => view_modUn _ _ _ h_unit

theorem view_freezeReq (w : Work) (h_hearth : K .hearth = true) (h_lane : K .lane = true) (h_unit : K .unit = true) :
    view K Z (Work.freezeReq w) = view K Z w := by
  unfold Work.freezeReq
  split
  · rfl
  · extract_lets f v
    have e : view K Z v = view K Z w := by
      show view K Z (Work.voidAfter _ _) = _
      simp only [↓view_voidAfter, ↓view_modHearth, h_hearth, h_lane, h_unit]
    rw [← e]
    refine view_each _ _ _ fun x u => ?_
    split
    · simp only [↓view_when, ↓view_timed, h_hearth, h_lane, h_unit, implies_true]
    · rfl

theorem view_thaw (w : Work) (h_hearth : K .hearth = true) (h_unit : K .unit = true) (z_hrt : Z (.page .hrt) = true) (z_pkg : Z (.page .pkg) = true) :
    view K Z (Work.thaw w) = view K Z w := by
  unfold Work.thaw
  (try simp (maxDischargeDepth := 9) only [↓view_ite, ite_self, implies_true, id_eq, ↓view_each, ↓view_modHearth, ↓view_wr, zone_pgHRT, mod_pgHRT, zone_pgPKG, mod_pgPKG, ↓view_modUn, h_hearth, h_unit, z_hrt, z_pkg]) <;> (repeat' split) <;> first | rfl | simp (maxDischargeDepth := 9) only [↓view_ite, ite_self, implies_true, id_eq, ↓view_each, ↓view_modHearth, ↓view_wr, zone_pgHRT, mod_pgHRT, zone_pgPKG, mod_pgPKG, ↓view_modUn, h_hearth, h_unit, z_hrt, z_pkg]

theorem view_thawIfFree (w : Work) (h_hearth : K .hearth = true) (h_unit : K .unit = true) (z_hrt : Z (.page .hrt) = true) (z_pkg : Z (.page .pkg) = true) :
    view K Z (Work.thawIfFree w) = view K Z w := by
  unfold Work.thawIfFree
  (try simp (maxDischargeDepth := 9) only [↓view_ite, ite_self, implies_true, id_eq, ↓view_thaw, h_hearth, h_unit, z_hrt, z_pkg]) <;> (repeat' split) <;> first | rfl | simp (maxDischargeDepth := 9) only [↓view_ite, ite_self, implies_true, id_eq, ↓view_thaw, h_hearth, h_unit, z_hrt, z_pkg]

theorem view_freezeAt (w : Work) (f : ℤ) (h_bad : K .bad = true) (h_chop : K .chop = true) (h_clu : K .clu = true) (h_events : K .events = true) (h_flue : K .flue = true) (h_hearth : K .hearth = true) (h_lane : K .lane = true) (h_lines : K .lines = true) (h_net : K .net = true) (h_out : K .out = true) (h_recd : K .recd = true) (h_sl : K .sl = true) (h_sram : K .sram = true) (h_unit : K .unit = true) (z_clu : Z (.page .clu) = true) (z_hrt : Z (.page .hrt) = true) (z_hrt1 : Z (.page .hrt1) = true) (z_hrt2 : Z (.page .hrt2) = true) (z_pkg : Z (.page .pkg) = true) (z_recorder : Z (.page .recorder) = true) (z_sysn : Z (.page .sysn) = true) (z_unit : Z (.page .unit) = true) :
    view K Z (Work.freezeAt w f) = view K Z w := by
  unfold Work.freezeAt
  (try simp (maxDischargeDepth := 9) only [↓view_ite, ite_self, implies_true, id_eq, ↓view_thawIfFree, ↓view_wr, zone_pgHRT, mod_pgHRT, ↓view_each, ↓view_stamp, zone_pgPKG, mod_pgPKG, ↓view_modHearth, ↓view_voidAfter, ↓view_modUn, zone_pgUNIT, mod_pgUNIT, ↓view_guardExpire, h_bad, h_chop, h_clu, h_events, h_flue, h_hearth, h_lane, h_lines, h_net, h_out, h_recd, h_sl, h_sram, h_unit, z_clu, z_hrt, z_hrt1, z_hrt2, z_pkg, z_recorder, z_sysn, z_unit]) <;> (repeat' split) <;> first | rfl | simp (maxDischargeDepth := 9) only [↓view_ite, ite_self, implies_true, id_eq, ↓view_thawIfFree, ↓view_wr, zone_pgHRT, mod_pgHRT, ↓view_each, ↓view_stamp, zone_pgPKG, mod_pgPKG, ↓view_modHearth, ↓view_voidAfter, ↓view_modUn, zone_pgUNIT, mod_pgUNIT, ↓view_guardExpire, h_bad, h_chop, h_clu, h_events, h_flue, h_hearth, h_lane, h_lines, h_net, h_out, h_recd, h_sl, h_sram, h_unit, z_clu, z_hrt, z_hrt1, z_hrt2, z_pkg, z_recorder, z_sysn, z_unit]

theorem view_tapSelect (w : Work) (ir : ℕ) (h_hearth : K .hearth = true) (h_sec : K .sec = true) (h_unit : K .unit = true) (z_hrt : Z (.page .hrt) = true) (z_pkg : Z (.page .pkg) = true) :
    view K Z (Work.tapSelect w ir) = view K Z w := by
  unfold Work.tapSelect
  (try simp (maxDischargeDepth := 9) only [↓view_ite, ite_self, implies_true, id_eq, ↓view_thawIfFree, ↓view_wr, zone_pgPKG, mod_pgPKG, ↓view_modSec, h_hearth, h_sec, h_unit, z_hrt, z_pkg]) <;> (repeat' split) <;> first | rfl | simp (maxDischargeDepth := 9) only [↓view_ite, ite_self, implies_true, id_eq, ↓view_thawIfFree, ↓view_wr, zone_pgPKG, mod_pgPKG, ↓view_modSec, h_hearth, h_sec, h_unit, z_hrt, z_pkg]

theorem view_tapStop (w : Work) (ir : ℕ) (h_bad : K .bad = true) (h_chop : K .chop = true) (h_clu : K .clu = true) (h_events : K .events = true) (h_flue : K .flue = true) (h_hearth : K .hearth = true) (h_lane : K .lane = true) (h_lines : K .lines = true) (h_net : K .net = true) (h_out : K .out = true) (h_recd : K .recd = true) (h_sec : K .sec = true) (h_sl : K .sl = true) (h_sram : K .sram = true) (h_unit : K .unit = true) (z_clu : Z (.page .clu) = true) (z_hrt : Z (.page .hrt) = true) (z_hrt1 : Z (.page .hrt1) = true) (z_hrt2 : Z (.page .hrt2) = true) (z_pkg : Z (.page .pkg) = true) (z_recorder : Z (.page .recorder) = true) (z_sysn : Z (.page .sysn) = true) :
    view K Z (Work.tapStop w ir) = view K Z w := by
  unfold Work.tapStop
  (try simp (maxDischargeDepth := 9) only [↓view_ite, ite_self, implies_true, id_eq, ↓view_reactFatal, ↓view_tapSelect, h_bad, h_chop, h_clu, h_events, h_flue, h_hearth, h_lane, h_lines, h_net, h_out, h_recd, h_sec, h_sl, h_sram, h_unit, z_clu, z_hrt, z_hrt1, z_hrt2, z_pkg, z_recorder, z_sysn]) <;> (repeat' split) <;> first | rfl | simp (maxDischargeDepth := 9) only [↓view_ite, ite_self, implies_true, id_eq, ↓view_reactFatal, ↓view_tapSelect, h_bad, h_chop, h_clu, h_events, h_flue, h_hearth, h_lane, h_lines, h_net, h_out, h_recd, h_sec, h_sl, h_sram, h_unit, z_clu, z_hrt, z_hrt1, z_hrt2, z_pkg, z_recorder, z_sysn]

end Sys2Proof.Machine
end

