-- ==== Sys2Proof/Laws/ViewSealed.lean ====
section
/-! SUPPORT. What each operation of Machine/Sealed.lean can write: the view without those kinds and zones is as it was. -/

set_option linter.unusedSimpArgs false
set_option linter.unreachableTactic false
set_option linter.unusedTactic false
set_option linter.unnecessarySeqFocus false

namespace Sys2Proof.Machine

variable {K : Kind → Bool} {Z : Zone → Bool}

theorem sealDwords_place (a : Nat) (h : a ∈ sealDwords) :
    (∃ x, x < 0x1000 ∧ a = pgHRT + x) ∨ ∃ x, x < 0x1000 ∧ a = pgHRT1 + x := by
  simp only [sealDwords, List.mem_append, List.mem_cons, List.not_mem_nil, or_false, List.mem_map] at h
  rcases h with (h | h | h | h) | ⟨i, hi, h⟩
  · exact .inl ⟨_, by decide, h⟩
  · exact .inl ⟨_, by decide, h⟩
  · exact .inl ⟨_, by decide, h⟩
  · exact .inl ⟨_, by decide, h⟩
  · have hlt : i < 64 := List.mem_range.mp hi
    exact .inr ⟨0x40 + 4 * i, by omega, by rw [← h, Nat.add_assoc]⟩

theorem view_sealLoad (w : Work) (l : List (Nat × Word)) (z_hrt : Z (.page .hrt) = true) (z_hrt1 : Z (.page .hrt1) = true) :
    view K Z (w.sealLoad l) = view K Z w := by
  unfold Work.sealLoad
  dsimp only
  rw [view_wr _ _ _ _ _ mod_pgHRT (by rw [zone_pgHRT]; exact z_hrt)]
  refine view_each_mem _ _ _ fun v e he => ?_
  have hm : e.1 ∈ sealDwords := by
    have := (List.mem_filter.mp he).2
    simpa using this
  rcases sealDwords_place e.1 hm with ⟨x, hx, h⟩ | ⟨x, hx, h⟩
  · rw [h]; exact view_put_page _ _ _ _ hx mod_pgHRT (by rw [zone_pgHRT]; exact z_hrt)
  · rw [h]; exact view_put_page _ _ _ _ hx mod_pgHRT1 (by rw [zone_pgHRT1]; exact z_hrt1)

theorem view_supdGo (w : Work) (img : ℕ) (z_hrt : Z (.page .hrt) = true) :
    view K Z (Work.supdGo w img) = view K Z w := by
  unfold Work.supdGo
  (try simp (maxDischargeDepth := 9) only [↓view_ite, ite_self, implies_true, id_eq, ↓view_badval, zone_pgHRT, mod_pgHRT, ↓view_wr, ↓view_unlocked, z_hrt]) <;> (repeat' split) <;> first | rfl | simp (maxDischargeDepth := 9) only [↓view_ite, ite_self, implies_true, id_eq, ↓view_badval, zone_pgHRT, mod_pgHRT, ↓view_wr, ↓view_unlocked, z_hrt]

theorem view_supdVerdict (w : Work) (bs : List Byte) (r : Option ℕ) (h_chop : K .chop = true) (h_events : K .events = true) (h_flue : K .flue = true) (h_hearth : K .hearth = true) (h_lane : K .lane = true) (h_lines : K .lines = true) (h_net : K .net = true) (h_out : K .out = true) (h_recd : K .recd = true) (h_sl : K .sl = true) (z_hrt : Z (.page .hrt) = true) (z_hrt1 : Z (.page .hrt1) = true) (z_hrt2 : Z (.page .hrt2) = true) (z_pkg : Z (.page .pkg) = true) (z_sysn : Z (.page .sysn) = true) :
    view K Z (Work.supdVerdict w bs r) = view K Z w := by
  unfold Work.supdVerdict
  (try simp (maxDischargeDepth := 9) only [↓view_ite, ite_self, implies_true, id_eq, ↓view_wr, zone_pgHRT, mod_pgHRT, ↓view_ash, ↓view_hearthShow, ↓view_count, ↓view_each, ↓view_sealLoad, ↓view_clrBit, zone_pgHRT1, mod_pgHRT1, h_chop, h_events, h_flue, h_hearth, h_lane, h_lines, h_net, h_out, h_recd, h_sl, z_hrt, z_hrt1, z_hrt2, z_pkg, z_sysn]) <;> (repeat' split) <;> first | rfl | simp (maxDischargeDepth := 9) only [↓view_ite, ite_self, implies_true, id_eq, ↓view_wr, zone_pgHRT, mod_pgHRT, ↓view_ash, ↓view_hearthShow, ↓view_count, ↓view_each, ↓view_sealLoad, ↓view_clrBit, zone_pgHRT1, mod_pgHRT1, h_chop, h_events, h_flue, h_hearth, h_lane, h_lines, h_net, h_out, h_recd, h_sl, z_hrt, z_hrt1, z_hrt2, z_pkg, z_sysn]

theorem view_supdEnd (w : Work) (h_bad : K .bad = true) (h_chop : K .chop = true) (h_clu : K .clu = true) (h_events : K .events = true) (h_flue : K .flue = true) (h_hearth : K .hearth = true) (h_lane : K .lane = true) (h_lines : K .lines = true) (h_net : K .net = true) (h_out : K .out = true) (h_recd : K .recd = true) (h_sl : K .sl = true) (h_sram : K .sram = true) (h_unit : K .unit = true) (z_clu : Z (.page .clu) = true) (z_hrt : Z (.page .hrt) = true) (z_hrt1 : Z (.page .hrt1) = true) (z_hrt2 : Z (.page .hrt2) = true) (z_pkg : Z (.page .pkg) = true) (z_recorder : Z (.page .recorder) = true) (z_rg : Z (.page .rg) = true) (z_sysn : Z (.page .sysn) = true) :
    view K Z (Work.supdEnd w) = view K Z w := by
  unfold Work.supdEnd
  (try simp (maxDischargeDepth := 9) only [↓view_ite, ite_self, implies_true, id_eq, ↓view_supdVerdict, ↓view_dramUse, ↓view_wr, zone_pgHRT, mod_pgHRT, h_bad, h_chop, h_clu, h_events, h_flue, h_hearth, h_lane, h_lines, h_net, h_out, h_recd, h_sl, h_sram, h_unit, z_clu, z_hrt, z_hrt1, z_hrt2, z_pkg, z_recorder, z_rg, z_sysn]) <;> (repeat' split) <;> first | rfl | simp (maxDischargeDepth := 9) only [↓view_ite, ite_self, implies_true, id_eq, ↓view_supdVerdict, ↓view_dramUse, ↓view_wr, zone_pgHRT, mod_pgHRT, h_bad, h_chop, h_clu, h_events, h_flue, h_hearth, h_lane, h_lines, h_net, h_out, h_recd, h_sl, h_sram, h_unit, z_clu, z_hrt, z_hrt1, z_hrt2, z_pkg, z_recorder, z_rg, z_sysn]

end Sys2Proof.Machine
end

