-- ==== Sys2Proof/Laws/ViewSetPoints.lean ====
section
/-! SUPPORT. What each operation of Machine/SetPoints.lean can write: the view without those kinds and zones is as it was. -/

set_option linter.unusedSimpArgs false
set_option linter.unreachableTactic false
set_option linter.unusedTactic false
set_option linter.unnecessarySeqFocus false

namespace Sys2Proof.Machine

variable {K : Kind → Bool} {Z : Zone → Bool}

theorem view_chWr (w : Work) (n : ℕ) (q : ℕ) (f : Machine.Field) (v : ℕ) (z_sp : Z (.page .sp) = true) :
    view K Z (Work.chWr w n q f v) = view K Z w := by
  unfold Work.chWr
  (try simp (maxDischargeDepth := 9) only [↓view_ite, ite_self, implies_true, id_eq, ↓view_wr, zone_pgSP, mod_pgSP, z_sp]) <;> (repeat' split) <;> first | rfl | simp (maxDischargeDepth := 9) only [↓view_ite, ite_self, implies_true, id_eq, ↓view_wr, zone_pgSP, mod_pgSP, z_sp]

theorem view_lpWr (w : Work) (n : ℕ) (m : ℕ) (f : Machine.Field) (v : ℕ) (z_sp : Z (.page .sp) = true) :
    view K Z (Work.lpWr w n m f v) = view K Z w := by
  unfold Work.lpWr
  (try simp (maxDischargeDepth := 9) only [↓view_ite, ite_self, implies_true, id_eq, ↓view_wr, zone_pgSP, mod_pgSP, z_sp]) <;> (repeat' split) <;> first | rfl | simp (maxDischargeDepth := 9) only [↓view_ite, ite_self, implies_true, id_eq, ↓view_wr, zone_pgSP, mod_pgSP, z_sp]

theorem view_modSp (w : Work) (n : ℕ) (q : ℕ) (f : SpGen → SpGen) (h_rgn : K .rgn = true) :
    view K Z (Work.modSp w n q f) = view K Z w := by
  unfold Work.modSp
  (try simp (maxDischargeDepth := 9) only [↓view_ite, ite_self, implies_true, id_eq, ↓view_modRg, h_rgn]) <;> (repeat' split) <;> first | rfl | simp (maxDischargeDepth := 9) only [↓view_ite, ite_self, implies_true, id_eq, ↓view_modRg, h_rgn]

theorem view_modLp (w : Work) (n : ℕ) (m : ℕ) (f : LoopSt → LoopSt) (h_rgn : K .rgn = true) :
    view K Z (Work.modLp w n m f) = view K Z w := by
  unfold Work.modLp
  (try simp (maxDischargeDepth := 9) only [↓view_ite, ite_self, implies_true, id_eq, ↓view_modRg, h_rgn]) <;> (repeat' split) <;> first | rfl | simp (maxDischargeDepth := 9) only [↓view_ite, ite_self, implies_true, id_eq, ↓view_modRg, h_rgn]

theorem view_spAdvance (w : Work) (n : ℕ) (h_rgn : K .rgn = true) (z_sp : Z (.page .sp) = true) :
    view K Z (Work.spAdvance w n) = view K Z w := by
  unfold Work.spAdvance
  (try simp (maxDischargeDepth := 9) only [↓view_ite, ite_self, implies_true, id_eq, ↓view_each, ↓view_chWr, ↓view_modRg, h_rgn, z_sp]) <;> (repeat' split) <;> first | rfl | simp (maxDischargeDepth := 9) only [↓view_ite, ite_self, implies_true, id_eq, ↓view_each, ↓view_chWr, ↓view_modRg, h_rgn, z_sp]

theorem view_spSeal (w : Work) (n : ℕ) (h_rgn : K .rgn = true) (z_sp : Z (.page .sp) = true) :
    view K Z (Work.spSeal w n) = view K Z w := by
  unfold Work.spSeal
  (try simp (maxDischargeDepth := 9) only [↓view_ite, ite_self, implies_true, id_eq, ↓view_modRg, ↓view_each, ↓view_when, ↓view_wr, zone_pgSP, mod_pgSP, ↓view_modSp, ↓view_count, h_rgn, z_sp]) <;> (repeat' split) <;> first | rfl | simp (maxDischargeDepth := 9) only [↓view_ite, ite_self, implies_true, id_eq, ↓view_modRg, ↓view_each, ↓view_when, ↓view_wr, zone_pgSP, mod_pgSP, ↓view_modSp, ↓view_count, h_rgn, z_sp]

theorem view_spRest (w : Work) (n : ℕ) (q : ℕ) (v : ℤ) (h_rgn : K .rgn = true) (z_sp : Z (.page .sp) = true) :
    view K Z (Work.spRest w n q v) = view K Z w := by
  unfold Work.spRest
  (try simp (maxDischargeDepth := 9) only [↓view_ite, ite_self, implies_true, id_eq, ↓view_chWr, ↓view_modSp, h_rgn, z_sp]) <;> (repeat' split) <;> first | rfl | simp (maxDischargeDepth := 9) only [↓view_ite, ite_self, implies_true, id_eq, ↓view_chWr, ↓view_modSp, h_rgn, z_sp]

theorem view_spInit (w : Work) (n : ℕ) (q : ℕ) (h_rgn : K .rgn = true) (z_sp : Z (.page .sp) = true) :
    view K Z (Work.spInit w n q) = view K Z w := by
  unfold Work.spInit
  (try simp (maxDischargeDepth := 9) only [↓view_ite, ite_self, implies_true, id_eq, ↓view_spRest, ↓view_chWr, ↓view_modSp, h_rgn, z_sp]) <;> (repeat' split) <;> first | rfl | simp (maxDischargeDepth := 9) only [↓view_ite, ite_self, implies_true, id_eq, ↓view_spRest, ↓view_chWr, ↓view_modSp, h_rgn, z_sp]

theorem view_spFallback (w : Work) (n : ℕ) (h_rgn : K .rgn = true) (z_sp : Z (.page .sp) = true) :
    view K Z (Work.spFallback w n) = view K Z w := by
  unfold Work.spFallback
  (try simp (maxDischargeDepth := 9) only [↓view_ite, ite_self, implies_true, id_eq, ↓view_modRg, ↓view_each, ↓view_chWr, h_rgn, z_sp]) <;> (repeat' split) <;> first | rfl | simp (maxDischargeDepth := 9) only [↓view_ite, ite_self, implies_true, id_eq, ↓view_modRg, ↓view_each, ↓view_chWr, h_rgn, z_sp]

theorem view_lpInit (w : Work) (n : ℕ) (m : ℕ) (h_rgn : K .rgn = true) (z_sp : Z (.page .sp) = true) :
    view K Z (Work.lpInit w n m) = view K Z w := by
  unfold Work.lpInit
  (try simp (maxDischargeDepth := 9) only [↓view_ite, ite_self, implies_true, id_eq, ↓view_lpWr, ↓view_modLp, h_rgn, z_sp]) <;> (repeat' split) <;> first | rfl | simp (maxDischargeDepth := 9) only [↓view_ite, ite_self, implies_true, id_eq, ↓view_lpWr, ↓view_modLp, h_rgn, z_sp]

theorem view_lpToManual (w : Work) (n : ℕ) (m : ℕ) (lost : Bool) (h_latched : K .latched = true) (z_sp : Z (.page .sp) = true) :
    view K Z (Work.lpToManual w n m lost) = view K Z w := by
  unfold Work.lpToManual
  extract_lets a kept v1 v2
  have e1 : view K Z v1 = view K Z w := by
    show view K Z (Work.latch _ _) = _
    simp only [↓view_latch, ↓view_lpWr, h_latched, z_sp]
  have e2 : view K Z v2 = view K Z v1 := view_when _ _ _ fun v => by
    show view K Z (v.put (pgSP n (m / 16) + SP_LP_LMAN.at (m % 16)) kept) = _
    exact view_put_page _ _ _ _ (Field.at_lt _ _) (mod_pgSP _ _) (by rw [zone_pgSP]; exact z_sp)
  rw [← e1, ← e2]
  exact view_when _ _ _ fun v => by simp only [↓view_lpWr, h_latched, z_sp]

theorem view_lpLatch (w : Work) (n : ℕ) (h_rgn : K .rgn = true) :
    view K Z (Work.lpLatch w n) = view K Z w := by
  unfold Work.lpLatch
  (try simp (maxDischargeDepth := 9) only [↓view_ite, ite_self, implies_true, id_eq, ↓view_each, ↓view_when, ↓view_modLp, ↓view_modRg, h_rgn]) <;> (repeat' split) <;> first | rfl | simp (maxDischargeDepth := 9) only [↓view_ite, ite_self, implies_true, id_eq, ↓view_each, ↓view_when, ↓view_modLp, ↓view_modRg, h_rgn]

theorem view_lpSeal (w : Work) (n : ℕ) (h_latched : K .latched = true) (h_rgn : K .rgn = true) (z_sp : Z (.page .sp) = true) :
    view K Z (Work.lpSeal w n) = view K Z w := by
  unfold Work.lpSeal
  (try simp (maxDischargeDepth := 9) only [↓view_ite, ite_self, implies_true, id_eq, ↓view_modRg, ↓view_each, ↓view_lpWr, ↓view_when, ↓view_count, zone_pgSP, mod_pgSP, ↓view_modLp, ↓view_lpToManual, h_latched, h_rgn, z_sp]) <;> (repeat' split) <;> first | rfl | simp (maxDischargeDepth := 9) only [↓view_ite, ite_self, implies_true, id_eq, ↓view_modRg, ↓view_each, ↓view_lpWr, ↓view_when, ↓view_count, zone_pgSP, mod_pgSP, ↓view_modLp, ↓view_lpToManual, h_latched, h_rgn, z_sp]

theorem view_spSwap (w : Work) (n : ℕ) (q : ℕ) (en : Bool) (tacc : ℕ) (tjerk : ℕ) (lpEn : Bool) (h_rgn : K .rgn = true) (z_sp : Z (.page .sp) = true) :
    view K Z (Work.spSwap w n q en tacc tjerk lpEn) = view K Z w := by
  unfold Work.spSwap
  (try simp (maxDischargeDepth := 9) only [↓view_ite, ite_self, implies_true, id_eq, ↓view_spRest, ↓view_spInit, ↓view_lpInit, ↓view_lpWr, h_rgn, z_sp]) <;> (repeat' split) <;> first | rfl | simp (maxDischargeDepth := 9) only [↓view_ite, ite_self, implies_true, id_eq, ↓view_spRest, ↓view_spInit, ↓view_lpInit, ↓view_lpWr, h_rgn, z_sp]

theorem view_fbSet (w : Work) (n : ℕ) (q : ℕ) (h_rgn : K .rgn = true) :
    view K Z (Work.fbSet w n q) = view K Z w := by
  unfold Work.fbSet
  (try simp (maxDischargeDepth := 9) only [↓view_ite, ite_self, implies_true, id_eq, ↓view_modRg, h_rgn]) <;> (repeat' split) <;> first | rfl | simp (maxDischargeDepth := 9) only [↓view_ite, ite_self, implies_true, id_eq, ↓view_modRg, h_rgn]

end Sys2Proof.Machine
end

