-- ==== Sys2Proof/Laws/ViewAccess.lean ====
section
/-! SUPPORT. What each operation of Machine/Access.lean can write: the view without those kinds and zones is as it was. -/

set_option linter.unusedSimpArgs false
set_option linter.unreachableTactic false
set_option linter.unusedTactic false
set_option linter.unnecessarySeqFocus false

namespace Sys2Proof.Machine

variable {K : Kind → Bool} {Z : Zone → Bool}

theorem view_sealClear (w : Work) (n : ℕ) (a : ℕ) (m : Word) (h_rgn : K .rgn = true) :
    view K Z (Work.sealClear w n a m) = view K Z w := by
  unfold Work.sealClear
  (try simp (maxDischargeDepth := 9) only [↓view_ite, ite_self, implies_true, id_eq, ↓view_modRg, h_rgn]) <;> (repeat' split) <;> first | rfl | simp (maxDischargeDepth := 9) only [↓view_ite, ite_self, implies_true, id_eq, ↓view_modRg, h_rgn]

theorem view_storeField (w : Work) (k : PageKind) (inst : ℕ) (pg : ℕ) (f : Machine.Field) (i : ℕ) (x : Word) (m_pg : pg % 0x1000 = 0) (z_pg : Z (zoneOf pg) = true) :
    view K Z (Work.storeField w k inst pg f i x) = view K Z w := by
  unfold Work.storeField
  split
  · exact view_put_page _ _ _ _ (f.at_lt i) m_pg z_pg
  · exact view_badval _ _ m_pg z_pg

theorem view_storeFields (w : Work) (k : PageKind) (inst : ℕ) (pg : ℕ) (l : List (Machine.Field × ℕ)) (x : Word) (m_pg : pg % 0x1000 = 0) (z_pg : Z (zoneOf pg) = true) :
    view K Z (Work.storeFields w k inst pg l x) = view K Z w := by
  unfold Work.storeFields
  (try simp (maxDischargeDepth := 9) only [↓view_ite, ite_self, implies_true, id_eq, ↓view_each, ↓view_storeField, m_pg, z_pg]) <;> (repeat' split) <;> first | rfl | simp (maxDischargeDepth := 9) only [↓view_ite, ite_self, implies_true, id_eq, ↓view_each, ↓view_storeField, m_pg, z_pg]

theorem view_claimDenied (w : Work) (pg : ℕ) (res : ℕ) (z_claim : Z (.page .claim) = true) (m_pg : pg % 0x1000 = 0) (z_pg : Z (zoneOf pg) = true) :
    view K Z (Work.claimDenied w pg res) = view K Z w := by
  unfold Work.claimDenied
  (try simp (maxDischargeDepth := 9) only [↓view_ite, ite_self, implies_true, id_eq, ↓view_wr, zone_pgCLAIM, mod_pgCLAIM, ↓view_count, z_claim, m_pg, z_pg]) <;> (repeat' split) <;> first | rfl | simp (maxDischargeDepth := 9) only [↓view_ite, ite_self, implies_true, id_eq, ↓view_wr, zone_pgCLAIM, mod_pgCLAIM, ↓view_count, z_claim, m_pg, z_pg]

theorem view_selWrite (w : Work) (f : Machine.Field) (i : ℕ) (en : Bool) (x : Word) (z_tally : Z (.page .tally) = true) :
    view K Z (Work.selWrite w f i en x) = view K Z w := by
  unfold Work.selWrite
  (try simp (maxDischargeDepth := 9) only [↓view_ite, ite_self, implies_true, id_eq, ↓view_badval, zone_pgTALLY, mod_pgTALLY, ↓view_storeField, z_tally]) <;> (repeat' split) <;> first | rfl | simp (maxDischargeDepth := 9) only [↓view_ite, ite_self, implies_true, id_eq, ↓view_badval, zone_pgTALLY, mod_pgTALLY, ↓view_storeField, z_tally]

theorem view_enWrite (w : Work) (f : Field) (i : Nat) (x : Word) (names : Work → List Nat) (rise fall : Work → Work)
    (z_claim : Z (.page .claim) = true) (z_tally : Z (.page .tally) = true) (hr : ∀ v, view K Z (rise v) = view K Z v)
    (hf : ∀ v, view K Z (fall v) = view K Z v) : view K Z (w.enWrite f i x names rise fall) = view K Z w := by
  have hz : Z (zoneOf pgTALLY) = true := by rw [zone_pgTALLY]; exact z_tally
  unfold Work.enWrite
  extract_lets new
  split
  · rfl
  · split
    · cases w.claimConflict pgTALLY (f.at i) (names w) with
      | some r => exact view_claimDenied _ _ _ z_claim mod_pgTALLY hz
      | none => exact (hr _).trans (view_wr _ _ _ _ _ mod_pgTALLY hz)
    · exact (hf _).trans (view_wr _ _ _ _ _ mod_pgTALLY hz)

theorem view_capWrite (w : Work) (k : ℕ) (x : Word) (z_claim : Z (.page .claim) = true) (z_tally : Z (.page .tally) = true) :
    view K Z (Work.capWrite w k x) = view K Z w := by
  unfold Work.capWrite
  (try simp (maxDischargeDepth := 9) only [↓view_ite, ite_self, implies_true, id_eq, ↓view_enWrite, ↓view_selWrite, ↓view_storeField, zone_pgTALLY, mod_pgTALLY, z_claim, z_tally]) <;> (repeat' split) <;> first | rfl | simp (maxDischargeDepth := 9) only [↓view_ite, ite_self, implies_true, id_eq, ↓view_enWrite, ↓view_selWrite, ↓view_storeField, zone_pgTALLY, mod_pgTALLY, z_claim, z_tally]

theorem view_toWrite (w : Work) (m : ℕ) (x : Word) (h_out : K .out = true) (h_tout : K .tout = true) (z_claim : Z (.page .claim) = true) (z_tally : Z (.page .tally) = true) :
    view K Z (Work.toWrite w m x) = view K Z w := by
  unfold Work.toWrite
  (try simp (maxDischargeDepth := 9) only [↓view_ite, ite_self, implies_true, id_eq, ↓view_enWrite, ↓view_selWrite, ↓view_storeField, zone_pgTALLY, mod_pgTALLY, ↓view_toEnable, ↓view_toDisable, h_out, h_tout, z_claim, z_tally]) <;> (repeat' split) <;> first | rfl | simp (maxDischargeDepth := 9) only [↓view_ite, ite_self, implies_true, id_eq, ↓view_enWrite, ↓view_selWrite, ↓view_storeField, zone_pgTALLY, mod_pgTALLY, ↓view_toEnable, ↓view_toDisable, h_out, h_tout, z_claim, z_tally]

theorem view_rwWrite (w : Work) (k : PageKind) (inst : ℕ) (pg : ℕ) (o : ℕ) (x : Word) (h_bad : K .bad = true) (h_chop : K .chop = true) (h_clu : K .clu = true) (h_events : K .events = true) (h_flue : K .flue = true) (h_hearth : K .hearth = true) (h_lane : K .lane = true) (h_lines : K .lines = true) (h_net : K .net = true) (h_out : K .out = true) (h_recd : K .recd = true) (h_sl : K .sl = true) (h_sram : K .sram = true) (h_tout : K .tout = true) (h_unit : K .unit = true) (z_claim : Z (.page .claim) = true) (z_clu : Z (.page .clu) = true) (z_hrt : Z (.page .hrt) = true) (z_hrt1 : Z (.page .hrt1) = true) (z_hrt2 : Z (.page .hrt2) = true) (z_pkg : Z (.page .pkg) = true) (z_recorder : Z (.page .recorder) = true) (z_sec : Z (.page .sec) = true) (z_sysn : Z (.page .sysn) = true) (z_tally : Z (.page .tally) = true) (m_pg : pg % 0x1000 = 0) (z_pg : Z (zoneOf pg) = true) :
    view K Z (Work.rwWrite w k inst pg o x) = view K Z w := by
  unfold Work.rwWrite
  (try simp (maxDischargeDepth := 9) only [↓view_ite, ite_self, implies_true, id_eq, ↓view_capWrite, ↓view_toWrite, ↓view_toMoved, ↓view_storeFields, ↓view_recEnable, ↓view_recDisable, ↓view_freezeReq, ↓view_thawIfFree, ↓view_when, ↓view_wr, ↓view_badval, zone_pgSEC, mod_pgSEC, ↓view_plea, h_bad, h_chop, h_clu, h_events, h_flue, h_hearth, h_lane, h_lines, h_net, h_out, h_recd, h_sl, h_sram, h_tout, h_unit, z_claim, z_clu, z_hrt, z_hrt1, z_hrt2, z_pkg, z_recorder, z_sec, z_sysn, z_tally, m_pg, z_pg]) <;> (repeat' split) <;> first | rfl | simp (maxDischargeDepth := 9) only [↓view_ite, ite_self, implies_true, id_eq, ↓view_capWrite, ↓view_toWrite, ↓view_toMoved, ↓view_storeFields, ↓view_recEnable, ↓view_recDisable, ↓view_freezeReq, ↓view_thawIfFree, ↓view_when, ↓view_wr, ↓view_badval, zone_pgSEC, mod_pgSEC, ↓view_plea, h_bad, h_chop, h_clu, h_events, h_flue, h_hearth, h_lane, h_lines, h_net, h_out, h_recd, h_sl, h_sram, h_tout, h_unit, z_claim, z_clu, z_hrt, z_hrt1, z_hrt2, z_pkg, z_recorder, z_sec, z_sysn, z_tally, m_pg, z_pg]

theorem view_liveWrite (w : Work) (k : PageKind) (inst : ℕ) (pg : ℕ) (o : ℕ) (x : Word) (h_rgn : K .rgn = true) (m_pg : pg % 0x1000 = 0) (z_pg : Z (zoneOf pg) = true) :
    view K Z (Work.liveWrite w k inst pg o x) = view K Z w := by
  unfold Work.liveWrite
  (try simp (maxDischargeDepth := 9) only [↓view_ite, ite_self, implies_true, id_eq, ↓view_modLp, ↓view_storeFields, h_rgn, m_pg, z_pg]) <;> (repeat' split) <;> first | rfl | simp (maxDischargeDepth := 9) only [↓view_ite, ite_self, implies_true, id_eq, ↓view_modLp, ↓view_storeFields, h_rgn, m_pg, z_pg]

theorem view_w1cAfter (w : Work) (k : PageKind) (inst : ℕ) (f : Machine.Field) (i : ℕ) (h_out : K .out = true) (h_rgn : K .rgn = true) (h_unit : K .unit = true) (z_emb : Z (.page .emb) = true) (z_pkg : Z (.page .pkg) = true) (z_unit : Z (.page .unit) = true) :
    view K Z (Work.w1cAfter w k inst f i) = view K Z w := by
  unfold Work.w1cAfter
  (try simp (maxDischargeDepth := 9) only [↓view_ite, ite_self, implies_true, id_eq, ↓view_when, ↓view_modRg, ↓view_sealClear, ↓view_wr, zone_pgUNIT, mod_pgUNIT, ↓view_modUn, ↓view_chopEval, zone_pgEMB, mod_pgEMB, h_out, h_rgn, h_unit, z_emb, z_pkg, z_unit]) <;> (repeat' split) <;> first | rfl | simp (maxDischargeDepth := 9) only [↓view_ite, ite_self, implies_true, id_eq, ↓view_when, ↓view_modRg, ↓view_sealClear, ↓view_wr, zone_pgUNIT, mod_pgUNIT, ↓view_modUn, ↓view_chopEval, zone_pgEMB, mod_pgEMB, h_out, h_rgn, h_unit, z_emb, z_pkg, z_unit]

theorem view_w1cField (w : Work) (k : PageKind) (inst : ℕ) (pg : ℕ) (f : Machine.Field) (i : ℕ) (x : Word) (h_out : K .out = true) (h_rgn : K .rgn = true) (h_unit : K .unit = true) (z_emb : Z (.page .emb) = true) (z_pkg : Z (.page .pkg) = true) (z_unit : Z (.page .unit) = true) (m_pg : pg % 0x1000 = 0) (z_pg : Z (zoneOf pg) = true) :
    view K Z (Work.w1cField w k inst pg f i x) = view K Z w := by
  unfold Work.w1cField
  (try simp (maxDischargeDepth := 9) only [↓view_ite, ite_self, implies_true, id_eq, ↓view_when, ↓view_wr, zone_pgPKG, mod_pgPKG, ↓view_badval, ↓view_sealClear, ↓view_w1cAfter, h_out, h_rgn, h_unit, z_emb, z_pkg, z_unit, m_pg, z_pg]) <;> (repeat' split) <;> first | rfl | simp (maxDischargeDepth := 9) only [↓view_ite, ite_self, implies_true, id_eq, ↓view_when, ↓view_wr, zone_pgPKG, mod_pgPKG, ↓view_badval, ↓view_sealClear, ↓view_w1cAfter, h_out, h_rgn, h_unit, z_emb, z_pkg, z_unit, m_pg, z_pg]

theorem view_clearWrite (w : Work) (k : PageKind) (inst : ℕ) (pg : ℕ) (o : ℕ) (x : Word) (h_out : K .out = true) (h_rgn : K .rgn = true) (h_unit : K .unit = true) (z_emb : Z (.page .emb) = true) (z_pkg : Z (.page .pkg) = true) (z_unit : Z (.page .unit) = true) (m_pg : pg % 0x1000 = 0) (z_pg : Z (zoneOf pg) = true) :
    view K Z (Work.clearWrite w k inst pg o x) = view K Z w := by
  unfold Work.clearWrite
  (try simp (maxDischargeDepth := 9) only [↓view_ite, ite_self, implies_true, id_eq, ↓view_each, ↓view_w1cField, ↓view_when, ↓view_wr, ↓view_sealClear, h_out, h_rgn, h_unit, z_emb, z_pkg, z_unit, m_pg, z_pg]) <;> (repeat' split) <;> first | rfl | simp (maxDischargeDepth := 9) only [↓view_ite, ite_self, implies_true, id_eq, ↓view_each, ↓view_w1cField, ↓view_when, ↓view_wr, ↓view_sealClear, h_out, h_rgn, h_unit, z_emb, z_pkg, z_unit, m_pg, z_pg]

theorem view_activeWrite (w : Work) (k : PageKind) (inst : ℕ) (pg : ℕ) (o : ℕ) (x : Word) (h_bad : K .bad = true) (h_chop : K .chop = true) (h_clu : K .clu = true) (h_events : K .events = true) (h_flue : K .flue = true) (h_hearth : K .hearth = true) (h_lane : K .lane = true) (h_lines : K .lines = true) (h_net : K .net = true) (h_out : K .out = true) (h_recd : K .recd = true) (h_rgn : K .rgn = true) (h_sl : K .sl = true) (h_sram : K .sram = true) (h_tout : K .tout = true) (h_unit : K .unit = true) (z_claim : Z (.page .claim) = true) (z_clu : Z (.page .clu) = true) (z_emb : Z (.page .emb) = true) (z_hrt : Z (.page .hrt) = true) (z_hrt1 : Z (.page .hrt1) = true) (z_hrt2 : Z (.page .hrt2) = true) (z_pkg : Z (.page .pkg) = true) (z_recorder : Z (.page .recorder) = true) (z_sec : Z (.page .sec) = true) (z_sysn : Z (.page .sysn) = true) (z_tally : Z (.page .tally) = true) (z_unit : Z (.page .unit) = true) (m_pg : pg % 0x1000 = 0) (z_pg : Z (zoneOf pg) = true) :
    view K Z (Work.activeWrite w k inst pg o x) = view K Z w := by
  unfold Work.activeWrite
  (try simp (maxDischargeDepth := 9) only [↓view_ite, ite_self, implies_true, id_eq, ↓view_wr, ↓view_liveWrite, ↓view_rwWrite, ↓view_clearWrite, h_bad, h_chop, h_clu, h_events, h_flue, h_hearth, h_lane, h_lines, h_net, h_out, h_recd, h_rgn, h_sl, h_sram, h_tout, h_unit, z_claim, z_clu, z_emb, z_hrt, z_hrt1, z_hrt2, z_pkg, z_recorder, z_sec, z_sysn, z_tally, z_unit, m_pg, z_pg]) <;> (repeat' split) <;> first | rfl | simp (maxDischargeDepth := 9) only [↓view_ite, ite_self, implies_true, id_eq, ↓view_wr, ↓view_liveWrite, ↓view_rwWrite, ↓view_clearWrite, h_bad, h_chop, h_clu, h_events, h_flue, h_hearth, h_lane, h_lines, h_net, h_out, h_recd, h_rgn, h_sl, h_sram, h_tout, h_unit, z_claim, z_clu, z_emb, z_hrt, z_hrt1, z_hrt2, z_pkg, z_recorder, z_sec, z_sysn, z_tally, z_unit, m_pg, z_pg]

theorem pageOf_zone (a : Nat) (k : PageKind) (i : Nat) (h : pageOf a = some (k, i)) :
    zoneOf (a / 0x1000 * 0x1000) = .page k := by
  have e : zoneOf a = .page k := by rw [zoneOf, h]
  have s : a = a / 0x1000 * 0x1000 + a % 0x1000 := by omega
  rw [s, zoneOf_add _ _ (by omega) (by omega)] at e
  exact e

/-- A page kind without RWS fields has none at any offset. -/
theorem accAt_nil (k : PageKind) (o : Nat) (acc : Acc) (h1 : (hdrFields.all fun f => !(f.acc == acc)) = true)
    (h2 : ((blockFields k).all fun f => !(f.acc == acc)) = true) : accAt k o acc = [] := by
  rw [accAt, List.filter_eq_nil_iff]
  intro e he
  rw [fieldsAt, List.mem_filterMap] at he
  obtain ⟨f, hf, he⟩ := he
  have hfe : e.1 = f := by
    cases hx : f.index? o with
    | none => rw [hx] at he; cases he
    | some i => rw [hx] at he; cases he; rfl
  have hno : (!(f.acc == acc)) = true := by
    split at hf
    · exact List.all_eq_true.mp h1 f hf
    · exact List.all_eq_true.mp h2 f hf
  rw [hfe]
  simpa using hno

theorem view_rwsStore (w : Work) (a : Nat) (x : Word) (put : Work → Nat → Word → Word → Work)
    (hput : ∀ u m y, view K Z (put u a m y) = view K Z u)
    (z_pkg : Z (.page .pkg) = true) (z_sysn : Z (.page .sysn) = true) (z_eq : Z (.page .eq) = true)
    (z_recorder : Z (.page .recorder) = true) (z_wc : Z (.page .wc) = true) (z_rg : Z (.page .rg) = true)
    (z_abc : Z (.page .abc) = true) (z_sp : Z (.page .sp) = true) (z_clu : Z (.page .clu) = true)
    (z_clane : Z (.page .clane) = true) (z_unit : Z (.page .unit) = true) :
    view K Z (w.rwsStore a x put).1 = view K Z w := by
  unfold Work.rwsStore
  split
  · exact hput _ _ _
  · split
    · rfl
    · rename_i k inst hk
      have hz := pageOf_zone a k inst hk
      by_cases hn : accAt k (a % 0x1000) .rws = []
      · rw [hn]; rfl
      · have hr : Z (zoneOf (a / 0x1000 * 0x1000)) = true := by
          rw [hz]
          cases k <;> first | assumption | exact absurd (accAt_nil _ _ _ (by decide) (by decide)) hn
        refine (view_foldl_pair (w, false) _ _ fun q e => ?_).trans rfl
        split
        · exact hput _ _ _
        · exact view_badval _ _ (by omega) hr

theorem view_shBits (w : Work) (a : ℕ) (m : Word) (x : Word) (h_shadow : K .shadow = true) :
    view K Z (Work.shBits w a m x) = view K Z w := by
  unfold Work.shBits
  (try simp (maxDischargeDepth := 9) only [↓view_ite, ite_self, implies_true, id_eq, ↓view_shPut, h_shadow]) <;> (repeat' split) <;> first | rfl | simp (maxDischargeDepth := 9) only [↓view_ite, ite_self, implies_true, id_eq, ↓view_shPut, h_shadow]

theorem view_bothBits (w : Work) (a : ℕ) (m : Word) (x : Word) (h_shadow : K .shadow = true) (m_a : a % 0x1000 = 0) (z_a : Z (zoneOf a) = true) :
    view K Z (Work.bothBits w a m x) = view K Z w := by
  unfold Work.bothBits
  (try simp (maxDischargeDepth := 9) only [↓view_ite, ite_self, implies_true, id_eq, ↓view_shBits, ↓view_put, h_shadow, m_a, z_a]) <;> (repeat' split) <;> first | rfl | simp (maxDischargeDepth := 9) only [↓view_ite, ite_self, implies_true, id_eq, ↓view_shBits, ↓view_put, h_shadow, m_a, z_a]

theorem view_shadowWrite (w : Work) (a pg : Nat) (x : Word) (h_shadow : K .shadow = true) (m_pg : pg % 0x1000 = 0)
    (z_at : Z (zoneOf pg) = true) (z_pkg : Z (.page .pkg) = true) (z_sysn : Z (.page .sysn) = true)
    (z_eq : Z (.page .eq) = true) (z_recorder : Z (.page .recorder) = true) (z_wc : Z (.page .wc) = true)
    (z_rg : Z (.page .rg) = true) (z_abc : Z (.page .abc) = true) (z_sp : Z (.page .sp) = true)
    (z_clu : Z (.page .clu) = true) (z_clane : Z (.page .clane) = true) (z_unit : Z (.page .unit) = true) :
    view K Z (w.shadowWrite a pg x).1 = view K Z w := by
  unfold Work.shadowWrite
  split
  · exact view_wr _ _ _ _ _ m_pg z_at
  · split
    · repeat' split
      all_goals first | rfl | exact view_wr _ _ _ _ _ m_pg z_at
    · dsimp only
      rw [view_when _ _ _ fun v => view_wr _ _ _ _ _ m_pg z_at]
      exact view_rwsStore _ _ _ _ (fun u m y => view_shPut _ _ _ h_shadow) z_pkg z_sysn z_eq z_recorder z_wc z_rg z_abc
        z_sp z_clu z_clane z_unit

end Sys2Proof.Machine
end

