-- ==== Sys2Proof/Laws/ViewCensus.lean ====
section
/-! SUPPORT. What each operation of Machine/Census.lean can write: the view without those kinds and zones is as it was. -/

set_option linter.unusedSimpArgs false
set_option linter.unreachableTactic false
set_option linter.unusedTactic false
set_option linter.unnecessarySeqFocus false

namespace Sys2Proof.Machine

variable {K : Kind → Bool} {Z : Zone → Bool}

theorem view_spreadRegion (w : Work) (n : ℕ) (z_clu : Z (.page .clu) = true) :
    view K Z (Work.spreadRegion w n) = view K Z w := by
  unfold Work.spreadRegion
  refine view_each _ _ _ fun v c => ?_
  dsimp only
  generalize v.spreadOf (v.owner c) = r
  cases r <;> simp only [↓view_wr, mod_pgCLU, zone_pgCLU, z_clu]

theorem view_masksApply (w : Work) (n : ℕ) (h_rgn : K .rgn = true) :
    view K Z (Work.masksApply w n) = view K Z w := by
  unfold Work.masksApply
  (try simp (maxDischargeDepth := 9) only [↓view_ite, ite_self, implies_true, id_eq, ↓view_modRg, h_rgn]) <;> (repeat' split) <;> first | rfl | simp (maxDischargeDepth := 9) only [↓view_ite, ite_self, implies_true, id_eq, ↓view_modRg, h_rgn]

theorem view_maskSend (w : Work) (sg : ℕ) (h_flue : K .flue = true) (h_lines : K .lines = true) (h_net : K .net = true) (h_out : K .out = true) (h_sl : K .sl = true) (z_sysn : Z (.page .sysn) = true) :
    view K Z (Work.maskSend w sg) = view K Z w := by
  unfold Work.maskSend
  (try simp (maxDischargeDepth := 9) only [↓view_ite, ite_self, implies_true, id_eq, ↓view_netSend, h_flue, h_lines, h_net, h_out, h_sl, z_sysn]) <;> (repeat' split) <;> first | rfl | simp (maxDischargeDepth := 9) only [↓view_ite, ite_self, implies_true, id_eq, ↓view_netSend, h_flue, h_lines, h_net, h_out, h_sl, z_sysn]

theorem view_censusBoundary (w : Work) (n : ℕ) (b : ℤ) (old : List (ℕ × ℕ × ℕ)) (h_flue : K .flue = true) (h_lines : K .lines = true) (h_net : K .net = true) (h_out : K .out = true) (h_rgn : K .rgn = true) (h_sl : K .sl = true) (z_clu : Z (.page .clu) = true) (z_sysn : Z (.page .sysn) = true) :
    view K Z (Work.censusBoundary w n b old) = view K Z w := by
  unfold Work.censusBoundary
  (try simp (maxDischargeDepth := 9) only [↓view_ite, ite_self, implies_true, id_eq, ↓view_each, ↓view_masksApply, ↓view_spreadRegion, ↓view_maskSend, h_flue, h_lines, h_net, h_out, h_rgn, h_sl, z_clu, z_sysn]) <;> (repeat' split) <;> first | rfl | simp (maxDischargeDepth := 9) only [↓view_ite, ite_self, implies_true, id_eq, ↓view_each, ↓view_masksApply, ↓view_spreadRegion, ↓view_maskSend, h_flue, h_lines, h_net, h_out, h_rgn, h_sl, z_clu, z_sysn]

end Sys2Proof.Machine
end

