-- ==== Sys2Proof/Laws/ViewEmber.lean ====
section
/-! SUPPORT. What each operation of Machine/Ember.lean can write: the view without those kinds and zones is as it was. -/

set_option linter.unusedSimpArgs false
set_option linter.unreachableTactic false
set_option linter.unusedTactic false
set_option linter.unnecessarySeqFocus false

namespace Sys2Proof.Machine

variable {K : Kind → Bool} {Z : Zone → Bool}

theorem view_wakeOut (w : Work) (level : Bool) (h_out : K .out = true) (z_emb : Z (.page .emb) = true) :
    view K Z (Work.wakeOut w level) = view K Z w := by
  unfold Work.wakeOut
  (try simp (maxDischargeDepth := 9) only [↓view_ite, ite_self, implies_true, id_eq, ↓view_emit, ↓view_wr, zone_pgEMB, mod_pgEMB, h_out, z_emb]) <;> (repeat' split) <;> first | rfl | simp (maxDischargeDepth := 9) only [↓view_ite, ite_self, implies_true, id_eq, ↓view_emit, ↓view_wr, zone_pgEMB, mod_pgEMB, h_out, z_emb]

theorem view_sleepStart (w : Work) (h_ember : K .ember = true) (z_emb : Z (.page .emb) = true) :
    view K Z (Work.sleepStart w) = view K Z w := by
  unfold Work.sleepStart
  (try simp (maxDischargeDepth := 9) only [↓view_ite, ite_self, implies_true, id_eq, ↓view_modEmber, ↓view_badval, zone_pgEMB, mod_pgEMB, h_ember, z_emb]) <;> (repeat' split) <;> first | rfl | simp (maxDischargeDepth := 9) only [↓view_ite, ite_self, implies_true, id_eq, ↓view_modEmber, ↓view_badval, zone_pgEMB, mod_pgEMB, h_ember, z_emb]

theorem view_wakeReq (w : Work) (ec : List ℕ) (alarm : Bool) (h_ember : K .ember = true) (h_out : K .out = true) (z_emb : Z (.page .emb) = true) :
    view K Z (Work.wakeReq w ec alarm) = view K Z w := by
  unfold Work.wakeReq
  (try simp (maxDischargeDepth := 9) only [↓view_ite, ite_self, implies_true, id_eq, ↓view_wakeOut, ↓view_count, zone_pgEMB, mod_pgEMB, ↓view_wr, ↓view_when, ↓view_modEmber, h_ember, h_out, z_emb]) <;> (repeat' split) <;> first | rfl | simp (maxDischargeDepth := 9) only [↓view_ite, ite_self, implies_true, id_eq, ↓view_wakeOut, ↓view_count, zone_pgEMB, mod_pgEMB, ↓view_wr, ↓view_when, ↓view_modEmber, h_ember, h_out, z_emb]

theorem view_emberWrites (w : Work) (h_bad : K .bad = true) (h_chop : K .chop = true) (h_clu : K .clu = true) (h_ember : K .ember = true) (h_events : K .events = true) (h_flue : K .flue = true) (h_hearth : K .hearth = true) (h_lane : K .lane = true) (h_lines : K .lines = true) (h_net : K .net = true) (h_out : K .out = true) (h_recd : K .recd = true) (h_rgn : K .rgn = true) (h_sl : K .sl = true) (h_sram : K .sram = true) (h_tout : K .tout = true) (h_unit : K .unit = true) (z_claim : Z (.page .claim) = true) (z_clu : Z (.page .clu) = true) (z_emb : Z (.page .emb) = true) (z_hrt : Z (.page .hrt) = true) (z_hrt1 : Z (.page .hrt1) = true) (z_hrt2 : Z (.page .hrt2) = true) (z_pkg : Z (.page .pkg) = true) (z_recorder : Z (.page .recorder) = true) (z_sec : Z (.page .sec) = true) (z_sysn : Z (.page .sysn) = true) (z_tally : Z (.page .tally) = true) (z_unit : Z (.page .unit) = true) :
    view K Z (Work.emberWrites w) = view K Z w := by
  unfold Work.emberWrites
  (try simp (maxDischargeDepth := 9) only [↓view_ite, ite_self, implies_true, id_eq, ↓view_each, ↓view_modEmber, ↓view_when, ↓view_activeWrite, zone_pgEMB, mod_pgEMB, ↓view_sleepStart, h_bad, h_chop, h_clu, h_ember, h_events, h_flue, h_hearth, h_lane, h_lines, h_net, h_out, h_recd, h_rgn, h_sl, h_sram, h_tout, h_unit, z_claim, z_clu, z_emb, z_hrt, z_hrt1, z_hrt2, z_pkg, z_recorder, z_sec, z_sysn, z_tally, z_unit]) <;> (repeat' split) <;> first | rfl | simp (maxDischargeDepth := 9) only [↓view_ite, ite_self, implies_true, id_eq, ↓view_each, ↓view_modEmber, ↓view_when, ↓view_activeWrite, zone_pgEMB, mod_pgEMB, ↓view_sleepStart, h_bad, h_chop, h_clu, h_ember, h_events, h_flue, h_hearth, h_lane, h_lines, h_net, h_out, h_recd, h_rgn, h_sl, h_sram, h_tout, h_unit, z_claim, z_clu, z_emb, z_hrt, z_hrt1, z_hrt2, z_pkg, z_recorder, z_sec, z_sysn, z_tally, z_unit]

theorem view_emberDecide (w : Work) (n : ℕ) (v : ℚ) (h_ember : K .ember = true) (z_emb : Z (.page .emb) = true) :
    view K Z (Work.emberDecide w n v) = view K Z w := by
  unfold Work.emberDecide
  (try simp (maxDischargeDepth := 9) only [↓view_ite, ite_self, implies_true, id_eq, ↓view_modEmber, ↓view_clrBit, zone_pgEMB, mod_pgEMB, ↓view_putBit, ↓view_setBit, h_ember, z_emb]) <;> (repeat' split) <;> first | rfl | simp (maxDischargeDepth := 9) only [↓view_ite, ite_self, implies_true, id_eq, ↓view_modEmber, ↓view_clrBit, zone_pgEMB, mod_pgEMB, ↓view_putBit, ↓view_setBit, h_ember, z_emb]

theorem view_emberQualify (w : Work) (n : ℕ) (h_ember : K .ember = true) (z_emb : Z (.page .emb) = true) :
    view K Z (Work.emberQualify w n).1 = view K Z w := by
  unfold Work.emberQualify
  (try simp (maxDischargeDepth := 9) only [↓view_ite, ite_self, implies_true, id_eq, ↓view_modEmber, ↓view_when, ↓view_count, zone_pgEMB, mod_pgEMB, ↓view_setBit, h_ember, z_emb]) <;> (repeat' split) <;> first | rfl | simp (maxDischargeDepth := 9) only [↓view_ite, ite_self, implies_true, id_eq, ↓view_modEmber, ↓view_when, ↓view_count, zone_pgEMB, mod_pgEMB, ↓view_setBit, h_ember, z_emb]

theorem view_emberTick (w : Work) (volts : List ℚ) (h_bad : K .bad = true) (h_chop : K .chop = true) (h_clu : K .clu = true) (h_ember : K .ember = true) (h_events : K .events = true) (h_flue : K .flue = true) (h_hearth : K .hearth = true) (h_lane : K .lane = true) (h_lines : K .lines = true) (h_net : K .net = true) (h_out : K .out = true) (h_recd : K .recd = true) (h_rgn : K .rgn = true) (h_sl : K .sl = true) (h_sram : K .sram = true) (h_tout : K .tout = true) (h_unit : K .unit = true) (z_claim : Z (.page .claim) = true) (z_clu : Z (.page .clu) = true) (z_emb : Z (.page .emb) = true) (z_hrt : Z (.page .hrt) = true) (z_hrt1 : Z (.page .hrt1) = true) (z_hrt2 : Z (.page .hrt2) = true) (z_pkg : Z (.page .pkg) = true) (z_recorder : Z (.page .recorder) = true) (z_sec : Z (.page .sec) = true) (z_sysn : Z (.page .sysn) = true) (z_tally : Z (.page .tally) = true) (z_unit : Z (.page .unit) = true) :
    view K Z (Work.emberTick w volts) = view K Z w := by
  unfold Work.emberTick
  extract_lets p v x r
  have e : view K Z x = view K Z w := by
    show view K Z (Work.emberWrites (Work.modEmber _ _)) = _
    simp only [↓view_emberWrites, ↓view_modEmber, h_bad, h_chop, h_clu, h_ember, h_events, h_flue, h_hearth, h_lane, h_lines, h_net, h_out, h_recd, h_rgn, h_sl, h_sram, h_tout, h_unit, z_claim, z_clu, z_emb, z_hrt, z_hrt1, z_hrt2, z_pkg, z_recorder, z_sec, z_sysn, z_tally, z_unit]
  have er : view K Z r.1 = view K Z w := by
    rw [← e]
    refine (view_foldl_pair (x, []) _ _ fun q n => ?_).trans rfl
    split
    · simp only [↓view_emberQualify, ↓view_emberDecide, h_bad, h_chop, h_clu, h_ember, h_events, h_flue, h_hearth, h_lane, h_lines, h_net, h_out, h_recd, h_rgn, h_sl, h_sram, h_tout, h_unit, z_claim, z_clu, z_emb, z_hrt, z_hrt1, z_hrt2, z_pkg, z_recorder, z_sec, z_sysn, z_tally, z_unit]
    · rfl
  rw [← er]
  simp only [↓view_wakeReq, h_bad, h_chop, h_clu, h_ember, h_events, h_flue, h_hearth, h_lane, h_lines, h_net, h_out, h_recd, h_rgn, h_sl, h_sram, h_tout, h_unit, z_claim, z_clu, z_emb, z_hrt, z_hrt1, z_hrt2, z_pkg, z_recorder, z_sec, z_sysn, z_tally, z_unit]

theorem view_emberAlarm (w : Work) (h_ember : K .ember = true) (h_out : K .out = true) (z_emb : Z (.page .emb) = true) :
    view K Z (Work.emberAlarm w) = view K Z w := by
  unfold Work.emberAlarm
  (try simp (maxDischargeDepth := 9) only [↓view_ite, ite_self, implies_true, id_eq, ↓view_wakeReq, ↓view_modEmber, h_ember, h_out, z_emb]) <;> (repeat' split) <;> first | rfl | simp (maxDischargeDepth := 9) only [↓view_ite, ite_self, implies_true, id_eq, ↓view_wakeReq, ↓view_modEmber, h_ember, h_out, z_emb]

theorem view_emberReset (w : Work) (h_ember : K .ember = true) (h_kin : K .kin = true) (h_out : K .out = true) (z_emb : Z (.page .emb) = true) :
    view K Z w.emberReset = view K Z w := by
  unfold Work.emberReset
  dsimp only
  rw [view_emit _ _ h_out, view_modKin _ _ h_kin, view_modEmber _ _ h_ember]
  refine view_dropRegs _ _ fun a ha => ?_
  have h : a / 0x1000 = 0x250 := by simpa [pgEMB] using ha
  have s : a = pgEMB + a % 0x1000 := by rw [pgEMB]; omega
  rw [s, zoneOf_add _ _ mod_pgEMB (by omega), zone_pgEMB]
  exact z_emb

theorem view_readEcnt (w : Work) (z_emb : Z (.page .emb) = true) :
    view K Z (Work.readEcnt w).1 = view K Z w := by
  unfold Work.readEcnt
  (try simp (maxDischargeDepth := 9) only [↓view_ite, ite_self, implies_true, id_eq, ↓view_wr, zone_pgEMB, mod_pgEMB, z_emb]) <;> (repeat' split) <;> first | rfl | simp (maxDischargeDepth := 9) only [↓view_ite, ite_self, implies_true, id_eq, ↓view_wr, zone_pgEMB, mod_pgEMB, z_emb]

end Sys2Proof.Machine
end

