-- ==== Sys2Proof/Laws/ViewQueues.lean ====
section
/-! SUPPORT. What each operation of Machine/Queues.lean can write: the view without those kinds and zones is as it was. -/

set_option linter.unusedSimpArgs false
set_option linter.unreachableTactic false
set_option linter.unusedTactic false
set_option linter.unnecessarySeqFocus false

namespace Sys2Proof.Machine

variable {K : Kind → Bool} {Z : Zone → Bool}

theorem view_qShow (w : Work) (q : ℕ) (h_out : K .out = true) (z_eq : Z (.page .eq) = true) :
    view K Z (Work.qShow w q) = view K Z w := by
  unfold Work.qShow
  (try simp (maxDischargeDepth := 9) only [↓view_ite, ite_self, implies_true, id_eq, ↓view_when, ↓view_wr, zone_pgEQ, mod_pgEQ, ↓view_msix, ↓view_count, h_out, z_eq]) <;> (repeat' split) <;> first | rfl | simp (maxDischargeDepth := 9) only [↓view_ite, ite_self, implies_true, id_eq, ↓view_when, ↓view_wr, zone_pgEQ, mod_pgEQ, ↓view_msix, ↓view_count, h_out, z_eq]

theorem view_qAppend (w : Work) (q : ℕ) (d : List Word) (h_bad : K .bad = true) (h_dram : K .dram = true) (h_eq : K .eq = true) (z_eq : Z (.page .eq) = true) :
    view K Z (Work.qAppend w q d) = view K Z w := by
  unfold Work.qAppend
  (try simp (maxDischargeDepth := 9) only [↓view_ite, ite_self, implies_true, id_eq, ↓view_count, zone_pgEQ, mod_pgEQ, ↓view_wr, ↓view_when, ↓view_modQ, ↓view_each, ↓view_dramPut, h_bad, h_dram, h_eq, z_eq]) <;> (repeat' split) <;> first | rfl | simp (maxDischargeDepth := 9) only [↓view_ite, ite_self, implies_true, id_eq, ↓view_count, zone_pgEQ, mod_pgEQ, ↓view_wr, ↓view_when, ↓view_modQ, ↓view_each, ↓view_dramPut, h_bad, h_dram, h_eq, z_eq]

theorem view_qCheck (w : Work) (q : ℕ) (mis : Bool) (h_flue : K .flue = true) (h_lines : K .lines = true) (h_out : K .out = true) (z_eq : Z (.page .eq) = true) (z_hrt : Z (.page .hrt) = true) :
    view K Z (Work.qCheck w q mis) = view K Z w := by
  unfold Work.qCheck
  (try simp (maxDischargeDepth := 9) only [↓view_ite, ite_self, implies_true, id_eq, ↓view_when, ↓view_injDone, zone_pgEQ, mod_pgEQ, ↓view_flt, ↓view_wr, h_flue, h_lines, h_out, z_eq, z_hrt]) <;> (repeat' split) <;> first | rfl | simp (maxDischargeDepth := 9) only [↓view_ite, ite_self, implies_true, id_eq, ↓view_when, ↓view_injDone, zone_pgEQ, mod_pgEQ, ↓view_flt, ↓view_wr, h_flue, h_lines, h_out, z_eq, z_hrt]

theorem view_qDrop (w : Work) (q : ℕ) (h_eq : K .eq = true) (z_eq : Z (.page .eq) = true) :
    view K Z (Work.qDrop w q) = view K Z w := by
  unfold Work.qDrop
  (try simp (maxDischargeDepth := 9) only [↓view_ite, ite_self, implies_true, id_eq, ↓view_count, zone_pgEQ, mod_pgEQ, ↓view_modQ, h_eq, z_eq]) <;> (repeat' split) <;> first | rfl | simp (maxDischargeDepth := 9) only [↓view_ite, ite_self, implies_true, id_eq, ↓view_count, zone_pgEQ, mod_pgEQ, ↓view_modQ, h_eq, z_eq]

theorem view_qWrite (w : Work) (q : ℕ) (d : List Word) (h_bad : K .bad = true) (h_dram : K .dram = true) (h_eq : K .eq = true) (h_flue : K .flue = true) (h_lines : K .lines = true) (h_out : K .out = true) (z_eq : Z (.page .eq) = true) :
    view K Z (Work.qWrite w q d) = view K Z w := by
  unfold Work.qWrite
  (try simp (maxDischargeDepth := 9) only [↓view_ite, ite_self, implies_true, id_eq, ↓view_qDrop, ↓view_qShow, ↓view_qAppend, ↓view_when, ↓view_modQ, ↓view_flt, zone_pgEQ, mod_pgEQ, ↓view_wr, h_bad, h_dram, h_eq, h_flue, h_lines, h_out, z_eq]) <;> (repeat' split) <;> first | rfl | simp (maxDischargeDepth := 9) only [↓view_ite, ite_self, implies_true, id_eq, ↓view_qDrop, ↓view_qShow, ↓view_qAppend, ↓view_when, ↓view_modQ, ↓view_flt, zone_pgEQ, mod_pgEQ, ↓view_wr, h_bad, h_dram, h_eq, h_flue, h_lines, h_out, z_eq]

theorem view_qReset (w : Work) (q : ℕ) (h_eq : K .eq = true) (h_out : K .out = true) (z_eq : Z (.page .eq) = true) :
    view K Z (Work.qReset w q) = view K Z w := by
  unfold Work.qReset
  (try simp (maxDischargeDepth := 9) only [↓view_ite, ite_self, implies_true, id_eq, ↓view_count, zone_pgEQ, mod_pgEQ, ↓view_qShow, ↓view_each, ↓view_modQ, ↓view_wr, h_eq, h_out, z_eq]) <;> (repeat' split) <;> first | rfl | simp (maxDischargeDepth := 9) only [↓view_ite, ite_self, implies_true, id_eq, ↓view_count, zone_pgEQ, mod_pgEQ, ↓view_qShow, ↓view_each, ↓view_modQ, ↓view_wr, h_eq, h_out, z_eq]

theorem view_qReleaseTo (w : Work) (q : ℕ) (p : ℕ) (h_eq : K .eq = true) (h_out : K .out = true) (z_eq : Z (.page .eq) = true) :
    view K Z (Work.qReleaseTo w q p) = view K Z w := by
  unfold Work.qReleaseTo
  (try simp (maxDischargeDepth := 9) only [↓view_ite, ite_self, implies_true, id_eq, ↓view_qShow, ↓view_wr, zone_pgEQ, mod_pgEQ, ↓view_modQ, ↓view_when, h_eq, h_out, z_eq]) <;> (repeat' split) <;> first | rfl | simp (maxDischargeDepth := 9) only [↓view_ite, ite_self, implies_true, id_eq, ↓view_qShow, ↓view_wr, zone_pgEQ, mod_pgEQ, ↓view_modQ, ↓view_when, h_eq, h_out, z_eq]

theorem view_qNext (w : Work) (q : ℕ) (h_eq : K .eq = true) (h_out : K .out = true) (z_eq : Z (.page .eq) = true) :
    view K Z (Work.qNext w q) = view K Z w := by
  unfold Work.qNext
  (try simp (maxDischargeDepth := 9) only [↓view_ite, ite_self, implies_true, id_eq, ↓view_badval, zone_pgEQ, mod_pgEQ, ↓view_wr, ↓view_qReleaseTo, ↓view_qShow, h_eq, h_out, z_eq]) <;> (repeat' split) <;> first | rfl | simp (maxDischargeDepth := 9) only [↓view_ite, ite_self, implies_true, id_eq, ↓view_badval, zone_pgEQ, mod_pgEQ, ↓view_wr, ↓view_qReleaseTo, ↓view_qShow, h_eq, h_out, z_eq]

theorem view_qRelease (w : Work) (q : ℕ) (h_eq : K .eq = true) (h_out : K .out = true) (z_eq : Z (.page .eq) = true) :
    view K Z (Work.qRelease w q) = view K Z w := by
  unfold Work.qRelease
  (try simp (maxDischargeDepth := 9) only [↓view_ite, ite_self, implies_true, id_eq, ↓view_qReleaseTo, ↓view_badval, zone_pgEQ, mod_pgEQ, h_eq, h_out, z_eq]) <;> (repeat' split) <;> first | rfl | simp (maxDischargeDepth := 9) only [↓view_ite, ite_self, implies_true, id_eq, ↓view_qReleaseTo, ↓view_badval, zone_pgEQ, mod_pgEQ, h_eq, h_out, z_eq]

theorem view_qMark (w : Work) (q : ℕ) (z_eq : Z (.page .eq) = true) :
    view K Z (Work.qMark w q) = view K Z w := by
  unfold Work.qMark
  (try simp (maxDischargeDepth := 9) only [↓view_ite, ite_self, implies_true, id_eq, ↓view_wr, zone_pgEQ, mod_pgEQ, z_eq]) <;> (repeat' split) <;> first | rfl | simp (maxDischargeDepth := 9) only [↓view_ite, ite_self, implies_true, id_eq, ↓view_wr, zone_pgEQ, mod_pgEQ, z_eq]

theorem view_qRewind (w : Work) (q : ℕ) (h_out : K .out = true) (z_eq : Z (.page .eq) = true) :
    view K Z (Work.qRewind w q) = view K Z w := by
  unfold Work.qRewind
  (try simp (maxDischargeDepth := 9) only [↓view_ite, ite_self, implies_true, id_eq, ↓view_qShow, ↓view_wr, zone_pgEQ, mod_pgEQ, h_out, z_eq]) <;> (repeat' split) <;> first | rfl | simp (maxDischargeDepth := 9) only [↓view_ite, ite_self, implies_true, id_eq, ↓view_qShow, ↓view_wr, zone_pgEQ, mod_pgEQ, h_out, z_eq]

theorem view_qCmd (w : Work) (c : Instr) (q : Nat) (f : Work → Work) (hf : ∀ v : Work, view K Z (f v) = view K Z v)
    (h_held : K .held = true) (z_host : Z (.page .host) = true) (z_pkg : Z (.page .pkg) = true) :
    view K Z (Work.qCmd w c q f) = view K Z w := view_hostAct _ _ _ _ hf h_held z_host z_pkg

theorem view_qPeakRst (w : Work) (q : ℕ) (z_eq : Z (.page .eq) = true) :
    view K Z (Work.qPeakRst w q) = view K Z w := by
  unfold Work.qPeakRst
  (try simp (maxDischargeDepth := 9) only [↓view_ite, ite_self, implies_true, id_eq, ↓view_wr, zone_pgEQ, mod_pgEQ, z_eq]) <;> (repeat' split) <;> first | rfl | simp (maxDischargeDepth := 9) only [↓view_ite, ite_self, implies_true, id_eq, ↓view_wr, zone_pgEQ, mod_pgEQ, z_eq]

theorem view_qPost (w : Work) (q : ℕ) (v : Word) (h_bad : K .bad = true) (h_dram : K .dram = true) (h_eq : K .eq = true) (h_flue : K .flue = true) (h_lines : K .lines = true) (h_out : K .out = true) (z_eq : Z (.page .eq) = true) :
    view K Z (Work.qPost w q v) = view K Z w := by
  unfold Work.qPost
  (try simp (maxDischargeDepth := 9) only [↓view_ite, ite_self, implies_true, id_eq, ↓view_qWrite, h_bad, h_dram, h_eq, h_flue, h_lines, h_out, z_eq]) <;> (repeat' split) <;> first | rfl | simp (maxDischargeDepth := 9) only [↓view_ite, ite_self, implies_true, id_eq, ↓view_qWrite, h_bad, h_dram, h_eq, h_flue, h_lines, h_out, z_eq]

end Sys2Proof.Machine
end

