-- ==== Sys2Proof/Laws/ViewSets.lean ====
section
/-! SUPPORT. What each operation of Machine/Sets.lean can write: the view without those kinds and zones is as it was. -/

set_option linter.unusedSimpArgs false
set_option linter.unreachableTactic false
set_option linter.unusedTactic false
set_option linter.unnecessarySeqFocus false

namespace Sys2Proof.Machine

variable {K : Kind → Bool} {Z : Zone → Bool}

theorem zone_high (a : Nat) (h : 0x1000000 ≤ a) (z_rg : Z (.page .rg) = true) (z_abc : Z (.page .abc) = true)
    (z_sp : Z (.page .sp) = true) (z_clu : Z (.page .clu) = true) (z_clane : Z (.page .clane) = true)
    (z_unit : Z (.page .unit) = true) (z_window : Z .window = true) : Z (zoneOf a) = true := by
  have h1 : ¬ a < 0x1000000 := by omega
  have e : ∀ x, pageOf a = x → Z (match x with
      | some (k, _) => Zone.page k
      | none => .window) = true := by
    intro x hx
    rw [pageOf, if_neg h1] at hx
    subst hx
    dsimp only
    split_ifs <;> assumption
  exact e _ rfl

/-- No page lies where an active window with RWS bits does. -/
theorem window_page (a : Nat) (k : PageKind) (i : Nat) (h : pageOf a = some (k, i)) :
    (∀ n, windowOf a ≠ some (.secActive n)) ∧ windowOf a ≠ some .pdirActive := by
  constructor
  · intro n hn
    have hr : ¬ a < 0x1000000 ∧ a < 0x2000000 ∧ 0x10000 ≤ (a - 0x1000000) % 0x400000 ∧ (a - 0x1000000) % 0x400000 < 0x20000 := by
      by_contra hc
      rw [windowOf] at hn
      dsimp only at hn
      by_cases h1 : a < 0x1000000
      · rw [if_pos h1] at hn
        by_cases h2 : 0x80000 ≤ a ∧ a < 0x82000
        · rw [if_pos h2] at hn; cases hn
        · rw [if_neg h2] at hn
          split at hn <;> cases hn
      · rw [if_neg h1] at hn
        by_cases h2 : a < 0x2000000
        · rw [if_pos h2] at hn
          have h3 : ¬ (0x10000 ≤ (a - 0x1000000) % 0x400000 ∧ (a - 0x1000000) % 0x400000 < 0x20000) := fun x => hc ⟨h1, h2, x⟩
          rw [if_neg h3] at hn
          repeat' split at hn
          all_goals cases hn
        · rw [if_neg h2] at hn; cases hn
    rw [pageOf] at h
    dsimp only at h
    rw [if_neg hr.1, if_pos hr.2.1, if_neg (by omega), if_neg (by omega), if_neg (by omega), if_neg (by omega),
      if_neg (by omega), if_neg (by omega)] at h
    cases h
  · intro hn
    have hr : 0x80000 ≤ a ∧ a < 0x82000 := by
      by_contra hc
      rw [windowOf] at hn
      dsimp only at hn
      rw [if_neg hc] at hn
      repeat' split at hn
      all_goals cases hn
    have hp : a / 0x1000 = 0x80 ∨ a / 0x1000 = 0x81 := by omega
    rw [pageOf] at h
    dsimp only at h
    rw [if_pos (by omega)] at h
    rcases hp with hp | hp
    · rw [hp] at h; cases h
    · rw [hp] at h; cases h

/-- A dword with RWS bits lies in a page with RWS fields, or in a window. -/
theorem rws_place (a : Nat) (h : rwsMask a ≠ 0) :
    zoneOf a = .window ∨ ∃ k, zoneOf a = .page k ∧ k.hasShadow = true := by
  cases hp : pageOf a with
  | none => exact .inl (by rw [zoneOf, hp])
  | some q =>
    obtain ⟨k, i⟩ := q
    refine .inr ⟨k, by rw [zoneOf, hp], ?_⟩
    by_contra hk
    rw [PageKind.hasShadow, Bool.not_eq_true, List.any_eq_false] at hk
    apply h
    have hw := window_page a k i hp
    have hm : rwsMask a = (if 0x40 ≤ a % 0x1000 ∧ a % 0x1000 < 0x800 then maskAt k (a % 0x1000) .rws else 0) := by
      rw [rwsMask]
      split
      · rename_i n hn; exact absurd hn (hw.1 n)
      · rename_i hn; exact absurd hn hw.2
      · rw [hp]
    rw [hm]
    split
    · rename_i ho
      have hnil : (fieldsAt k (a % 0x1000)).foldl (fun (m : Word) f => if f.1.acc = Acc.rws then m ||| f.1.mask else m) 0 = 0 := by
        have hall : ∀ e ∈ fieldsAt k (a % 0x1000), e.1.acc ≠ .rws := by
          intro e he
          rw [fieldsAt, if_neg (by omega), List.mem_filterMap] at he
          obtain ⟨f, hf, he⟩ := he
          have hfe : e.1 = f := by
            cases hx : f.index? (a % 0x1000) with
            | none => rw [hx] at he; cases he
            | some i => rw [hx] at he; cases he; rfl
          rw [hfe]
          simpa using hk f hf
        generalize fieldsAt k (a % 0x1000) = l at hall
        induction l with
        | nil => rfl
        | cons x l ih =>
          rw [List.foldl_cons, if_neg (hall x List.mem_cons_self)]
          exact ih fun e he => hall e (List.mem_cons_of_mem _ he)
      exact hnil
    · rfl

theorem view_exchange (w : Work) (p : Nat → Bool) (h_shadow : K .shadow = true)
    (hp : ∀ a, p a = true → rwsMask a ≠ 0 → Z (zoneOf a) = true) : view K Z (w.exchange p) = view K Z w := by
  unfold Work.exchange
  refine view_each_mem _ _ _ fun v a ha => ?_
  have hm := (List.mem_filter.mp ha).2
  rw [Bool.and_eq_true, bne_iff_ne] at hm
  dsimp only
  rw [view_shPut _ _ _ h_shadow, view_put _ _ _ (hp a hm.1 hm.2)]



theorem kind_of_ite {c : Prop} [Decidable c] {p q : Option (PageKind × Nat)} (P : PageKind → Bool)
    (h1 : (p.map fun e => P e.1).getD true = true) (h2 : (q.map fun e => P e.1).getD true = true) :
    ((if c then p else q).map fun e => P e.1).getD true = true := by
  split
  · exact h1
  · exact h2
/-- The kind of a page outside the region windows. -/
def lowKind : PageKind → Bool
  | .rg | .abc | .sp | .clu | .clane | .unit => false
  | _ => true
theorem low_kind (a : Nat) (h : a < 0x1000000) : ((pageOf a).map fun e => lowKind e.1).getD true = true := by
  rw [pageOf]
  dsimp only
  rw [if_pos h]
  repeat' (first | rfl | refine kind_of_ite lowKind ?_ ?_)
theorem low_zone (a : Nat) (k : PageKind) (h : a < 0x1000000) (hz : zoneOf a = .page k) : lowKind k = true := by
  have := low_kind a h
  rw [zoneOf] at hz
  split at hz
  · rename_i k' i hk
    rw [hk] at this
    cases hz
    exact this
  · cases hz

theorem view_cleanPages (w : Work) (p : Nat → Bool)
    (hp : ∀ a, p a = true → shadowPage a = true → Z (zoneOf a) = true) : view K Z (w.cleanPages p) = view K Z w := by
  unfold Work.cleanPages
  refine view_each_mem _ _ _ fun v a ha => ?_
  have hm := (List.mem_filter.mp ha).2
  rw [Bool.and_eq_true, Bool.and_eq_true, beq_iff_eq] at hm
  have e : zoneOf a = zoneOf (a - 0xC) := by
    have s : a = (a - 0xC) + 0xC := by omega
    conv_lhs => rw [s]
    exact zoneOf_add _ _ (by omega) (by decide)
  exact view_wr _ _ _ _ _ (by omega) (by rw [← e]; exact hp a hm.2 hm.1.2)

theorem view_copySets (w : Work) (h_shadow : K .shadow = true) :
    view K Z (Work.copySets w) = view K Z w := by
  unfold Work.copySets
  (try simp (maxDischargeDepth := 9) only [↓view_ite, ite_self, implies_true, id_eq, ↓view_each, ↓view_shPut, h_shadow]) <;> (repeat' split) <;> first | rfl | simp (maxDischargeDepth := 9) only [↓view_ite, ite_self, implies_true, id_eq, ↓view_each, ↓view_shPut, h_shadow]



theorem view_swapEvent (w : Work) (done : Bool) (h_events : K .events = true) :
    view K Z (Work.swapEvent w done) = view K Z w := by
  unfold Work.swapEvent
  (try simp (maxDischargeDepth := 9) only [↓view_ite, ite_self, implies_true, id_eq, ↓view_event, h_events]) <;> (repeat' split) <;> first | rfl | simp (maxDischargeDepth := 9) only [↓view_ite, ite_self, implies_true, id_eq, ↓view_event, h_events]

theorem view_swapReport (w : Work) (code : ℕ) (last : Bool) (h_flue : K .flue = true) (h_lines : K .lines = true) (h_net : K .net = true) (h_out : K .out = true) (h_sl : K .sl = true) (z_sysn : Z (.page .sysn) = true) :
    view K Z (Work.swapReport w code last) = view K Z w := by
  unfold Work.swapReport
  (try simp (maxDischargeDepth := 9) only [↓view_ite, ite_self, implies_true, id_eq, ↓view_when, ↓view_netSend, ↓view_modNet, h_flue, h_lines, h_net, h_out, h_sl, z_sysn]) <;> (repeat' split) <;> first | rfl | simp (maxDischargeDepth := 9) only [↓view_ite, ite_self, implies_true, id_eq, ↓view_when, ↓view_netSend, ↓view_modNet, h_flue, h_lines, h_net, h_out, h_sl, z_sysn]

theorem view_swapRefuse (w : Work) (cause : ℕ) (info : ℕ) (h_events : K .events = true) (h_flue : K .flue = true) (h_lines : K .lines = true) (h_net : K .net = true) (h_out : K .out = true) (h_sl : K .sl = true) (z_pkg : Z (.page .pkg) = true) (z_sysn : Z (.page .sysn) = true) :
    view K Z (Work.swapRefuse w cause info) = view K Z w := by
  unfold Work.swapRefuse
  (try simp (maxDischargeDepth := 9) only [↓view_ite, ite_self, implies_true, id_eq, ↓view_swapReport, ↓view_swapEvent, ↓view_count, zone_pgPKG, mod_pgPKG, ↓view_wr, ↓view_each, h_events, h_flue, h_lines, h_net, h_out, h_sl, z_pkg, z_sysn]) <;> (repeat' split) <;> first | rfl | simp (maxDischargeDepth := 9) only [↓view_ite, ite_self, implies_true, id_eq, ↓view_swapReport, ↓view_swapEvent, ↓view_count, zone_pgPKG, mod_pgPKG, ↓view_wr, ↓view_each, h_events, h_flue, h_lines, h_net, h_out, h_sl, z_pkg, z_sysn]

theorem view_swapArm (w : Work) (h_swap : K .swap = true) (z_abc : Z (.page .abc) = true) (z_pkg : Z (.page .pkg) = true) :
    view K Z (Work.swapArm w) = view K Z w := by
  unfold Work.swapArm
  (try simp (maxDischargeDepth := 9) only [↓view_ite, ite_self, implies_true, id_eq, ↓view_wr, zone_pgPKG, mod_pgPKG, ↓view_each, ↓view_modSwap, zone_pgABC, mod_pgABC, ↓view_badval, h_swap, z_abc, z_pkg]) <;> (repeat' split) <;> first | rfl | simp (maxDischargeDepth := 9) only [↓view_ite, ite_self, implies_true, id_eq, ↓view_wr, zone_pgPKG, mod_pgPKG, ↓view_each, ↓view_modSwap, zone_pgABC, mod_pgABC, ↓view_badval, h_swap, z_abc, z_pkg]

theorem view_swapDisarm (w : Work) (h_net : K .net = true) (z_pkg : Z (.page .pkg) = true) :
    view K Z (Work.swapDisarm w) = view K Z w := by
  unfold Work.swapDisarm
  (try simp (maxDischargeDepth := 9) only [↓view_ite, ite_self, implies_true, id_eq, ↓view_modNet, ↓view_wr, zone_pgPKG, mod_pgPKG, ↓view_badval, h_net, z_pkg]) <;> (repeat' split) <;> first | rfl | simp (maxDischargeDepth := 9) only [↓view_ite, ite_self, implies_true, id_eq, ↓view_modNet, ↓view_wr, zone_pgPKG, mod_pgPKG, ↓view_badval, h_net, z_pkg]

theorem view_setcopy (w : Work) (z_pkg : Z (.page .pkg) = true) :
    view K Z (Work.setcopy w) = view K Z w := by
  unfold Work.setcopy
  (try simp (maxDischargeDepth := 9) only [↓view_ite, ite_self, implies_true, id_eq, ↓view_badval, zone_pgPKG, mod_pgPKG, ↓view_wr, z_pkg]) <;> (repeat' split) <;> first | rfl | simp (maxDischargeDepth := 9) only [↓view_ite, ite_self, implies_true, id_eq, ↓view_badval, zone_pgPKG, mod_pgPKG, ↓view_wr, z_pkg]

theorem view_setCopyEnd (w : Work) (h_shadow : K .shadow = true) (z_abc : Z (.page .abc) = true) (z_clane : Z (.page .clane) = true) (z_clu : Z (.page .clu) = true) (z_eq : Z (.page .eq) = true) (z_pkg : Z (.page .pkg) = true) (z_recorder : Z (.page .recorder) = true) (z_rg : Z (.page .rg) = true) (z_sp : Z (.page .sp) = true) (z_sysn : Z (.page .sysn) = true) (z_unit : Z (.page .unit) = true) (z_wc : Z (.page .wc) = true) :
    view K Z w.setCopyEnd = view K Z w := by
  unfold Work.setCopyEnd
  split
  · rw [view_cleanPages]
    · simp only [↓view_wr, mod_pgPKG, zone_pgPKG, z_pkg]
      unfold Work.copySets
      exact view_each _ _ _ fun v a => view_shPut _ _ _ h_shadow
    · intro a _ ha
      rw [shadowPage] at ha
      split at ha
      · rename_i k i hk
        have hz : zoneOf a = .page k := by rw [zoneOf, hk]
        rw [hz]
        cases k <;> first | assumption | exact absurd ha (by decide)
      · cases ha
  · rfl

theorem view_checksVerdict (w : Work) (r : Option (ℕ × ℕ)) (h_events : K .events = true) (h_flue : K .flue = true) (h_lines : K .lines = true) (h_net : K .net = true) (h_out : K .out = true) (h_sl : K .sl = true) (h_swap : K .swap = true) (z_pkg : Z (.page .pkg) = true) (z_sysn : Z (.page .sysn) = true) :
    view K Z (Work.checksVerdict w r) = view K Z w := by
  unfold Work.checksVerdict
  split
  · simp only [↓view_swapRefuse, h_events, h_flue, h_lines, h_net, h_out, h_sl, h_swap, z_pkg, z_sysn]
  · simp only [↓view_swapReport, ↓view_modSwap, h_events, h_flue, h_lines, h_net, h_out, h_sl, h_swap, z_pkg, z_sysn]

theorem view_checksEnd (w : Work) (h_events : K .events = true) (h_flue : K .flue = true) (h_lines : K .lines = true) (h_net : K .net = true) (h_out : K .out = true) (h_sl : K .sl = true) (h_swap : K .swap = true) (z_abc : Z (.page .abc) = true) (z_pkg : Z (.page .pkg) = true) (z_sysn : Z (.page .sysn) = true) (z_twin : Z (.page .twin) = true) :
    view K Z (Work.checksEnd w) = view K Z w := by
  unfold Work.checksEnd
  (try simp (maxDischargeDepth := 9) only [↓view_ite, ite_self, implies_true, id_eq, ↓view_checksVerdict, ↓view_wr, zone_pgTWIN, mod_pgTWIN, ↓view_each, zone_pgPKG, mod_pgPKG, zone_pgABC, mod_pgABC, h_events, h_flue, h_lines, h_net, h_out, h_sl, h_swap, z_abc, z_pkg, z_sysn, z_twin]) <;> (repeat' split) <;> first | rfl | simp (maxDischargeDepth := 9) only [↓view_ite, ite_self, implies_true, id_eq, ↓view_checksVerdict, ↓view_wr, zone_pgTWIN, mod_pgTWIN, ↓view_each, zone_pgPKG, mod_pgPKG, zone_pgABC, mod_pgABC, h_events, h_flue, h_lines, h_net, h_out, h_sl, h_swap, z_abc, z_pkg, z_sysn, z_twin]

theorem view_rescan (w : Work) (l : List (ℕ × List (ℕ × ℕ))) (h_bad : K .bad = true) (h_clu : K .clu = true) (h_events : K .events = true) (h_flue : K .flue = true) (h_lane : K .lane = true) (h_lines : K .lines = true) (h_out : K .out = true) (h_recd : K .recd = true) (h_sram : K .sram = true) (h_unit : K .unit = true) (z_clu : Z (.page .clu) = true) (z_recorder : Z (.page .recorder) = true) (z_unit : Z (.page .unit) = true) :
    view K Z (Work.rescan w l) = view K Z w := by
  unfold Work.rescan
  (try simp (maxDischargeDepth := 9) only [↓view_ite, ite_self, implies_true, id_eq, ↓view_each, ↓view_protRescan, ↓view_pmodeUpdate, h_bad, h_clu, h_events, h_flue, h_lane, h_lines, h_out, h_recd, h_sram, h_unit, z_clu, z_recorder, z_unit]) <;> (repeat' split) <;> first | rfl | simp (maxDischargeDepth := 9) only [↓view_ite, ite_self, implies_true, id_eq, ↓view_each, ↓view_protRescan, ↓view_pmodeUpdate, h_bad, h_clu, h_events, h_flue, h_lane, h_lines, h_out, h_recd, h_sram, h_unit, z_clu, z_recorder, z_unit]

theorem view_exchangePackage (w : Work) (h_bad : K .bad = true) (h_cap : K .cap = true) (h_clu : K .clu = true) (h_eq : K .eq = true) (h_events : K .events = true) (h_flue : K .flue = true) (h_hearth : K .hearth = true) (h_lane : K .lane = true) (h_lines : K .lines = true) (h_net : K .net = true) (h_out : K .out = true) (h_recd : K .recd = true) (h_shadow : K .shadow = true) (h_sl : K .sl = true) (h_sram : K .sram = true) (h_twin : K .twin = true) (h_unit : K .unit = true) (z_window : Z .window = true) (z_clane : Z (.page .clane) = true) (z_clu : Z (.page .clu) = true) (z_eq : Z (.page .eq) = true) (z_pkg : Z (.page .pkg) = true) (z_recorder : Z (.page .recorder) = true) (z_sysn : Z (.page .sysn) = true) (z_tally : Z (.page .tally) = true) (z_twin : Z (.page .twin) = true) (z_unit : Z (.page .unit) = true) (z_wc : Z (.page .wc) = true) :
    view K Z (Work.exchangePackage w) = view K Z w := by
  unfold Work.exchangePackage
  extract_lets old src w1 w2 w3 w4 w5 w6
  have low : ∀ (a : Nat) (k : PageKind), inPackage a = true → zoneOf a = .page k → k.hasShadow = true → Z (zoneOf a) = true := by
    intro a k ha hk hs
    have h1 : a < 0x1000000 := by simpa [inPackage] using ha
    rw [hk]
    have hl := low_zone a k h1 hk
    cases k <;> first | assumption | exact absurd hs (by decide) | exact absurd hl (by decide)
  have e1 : view K Z w1 = view K Z w := by
    show view K Z ((w.exchange inPackage).cleanPages inPackage) = _
    rw [view_cleanPages, view_exchange _ _ h_shadow]
    · intro a hi ha
      rcases rws_place a ha with h | ⟨k, hk, hs⟩
      · rw [h]; exact z_window
      · exact low a k hi hk hs
    · intro a hi ha
      rw [shadowPage] at ha
      split at ha
      · rename_i k i hk
        exact low a k hi (by rw [zoneOf, hk]) ha
      · cases ha
  have e2 : view K Z w2 = view K Z w1 := view_each _ _ _ fun v k => by
    split
    · rfl
    · split
      · simp only [↓view_wcStart, h_bad, h_cap, h_clu, h_eq, h_events, h_flue, h_hearth, h_lane, h_lines, h_net, h_out, h_recd, h_shadow, h_sl, h_sram, h_twin, h_unit, z_window, z_clane, z_clu, z_eq, z_pkg, z_recorder, z_sysn, z_tally, z_twin, z_unit, z_wc]
      · simp only [↓view_wcOff, h_bad, h_cap, h_clu, h_eq, h_events, h_flue, h_hearth, h_lane, h_lines, h_net, h_out, h_recd, h_shadow, h_sl, h_sram, h_twin, h_unit, z_window, z_clane, z_clu, z_eq, z_pkg, z_recorder, z_sysn, z_tally, z_twin, z_unit, z_wc]
  have e3 : view K Z w3 = view K Z w2 := view_each _ _ _ fun v k => by
    exact view_when _ _ _ fun x => view_emit _ _ h_out
  have e4 : view K Z w4 = view K Z w3 := by
    show view K Z (Work.chopEvalAll _) = _
    simp only [↓view_chopEvalAll, h_bad, h_cap, h_clu, h_eq, h_events, h_flue, h_hearth, h_lane, h_lines, h_net, h_out, h_recd, h_shadow, h_sl, h_sram, h_twin, h_unit, z_window, z_clane, z_clu, z_eq, z_pkg, z_recorder, z_sysn, z_tally, z_twin, z_unit, z_wc]
  have e5 : view K Z w5 = view K Z w4 := view_each _ _ _ fun v q => by
    refine view_when _ _ _ fun x => ?_
    simp only [↓view_qReset, h_bad, h_cap, h_clu, h_eq, h_events, h_flue, h_hearth, h_lane, h_lines, h_net, h_out, h_recd, h_shadow, h_sl, h_sram, h_twin, h_unit, z_window, z_clane, z_clu, z_eq, z_pkg, z_recorder, z_sysn, z_tally, z_twin, z_unit, z_wc]
  have e6 : view K Z w6 = view K Z w5 := view_each _ _ _ fun v l => by
    simp only [↓view_laneEnable, h_bad, h_cap, h_clu, h_eq, h_events, h_flue, h_hearth, h_lane, h_lines, h_net, h_out, h_recd, h_shadow, h_sl, h_sram, h_twin, h_unit, z_window, z_clane, z_clu, z_eq, z_pkg, z_recorder, z_sysn, z_tally, z_twin, z_unit, z_wc]
  rw [← e1, ← e2, ← e3, ← e4, ← e5, ← e6]
  simp only [↓view_tripShow, ↓view_rescan, h_bad, h_cap, h_clu, h_eq, h_events, h_flue, h_hearth, h_lane, h_lines, h_net, h_out, h_recd, h_shadow, h_sl, h_sram, h_twin, h_unit, z_window, z_clane, z_clu, z_eq, z_pkg, z_recorder, z_sysn, z_tally, z_twin, z_unit, z_wc]

theorem view_swapFinish (w : Work) (h_events : K .events = true) (z_pkg : Z (.page .pkg) = true) :
    view K Z (Work.swapFinish w) = view K Z w := by
  unfold Work.swapFinish
  (try simp (maxDischargeDepth := 9) only [↓view_ite, ite_self, implies_true, id_eq, ↓view_swapEvent, ↓view_count, zone_pgPKG, mod_pgPKG, ↓view_wr, h_events, z_pkg]) <;> (repeat' split) <;> first | rfl | simp (maxDischargeDepth := 9) only [↓view_ite, ite_self, implies_true, id_eq, ↓view_swapEvent, ↓view_count, zone_pgPKG, mod_pgPKG, ↓view_wr, h_events, z_pkg]

theorem view_lanesFollow (w : Work) (n : ℕ) (h_events : K .events = true) (h_flue : K .flue = true) (h_hearth : K .hearth = true) (h_lane : K .lane = true) (h_lines : K .lines = true) (h_out : K .out = true) (h_sl : K .sl = true) (h_twin : K .twin = true) (z_clane : Z (.page .clane) = true) (z_clu : Z (.page .clu) = true) (z_sysn : Z (.page .sysn) = true) (z_twin : Z (.page .twin) = true) :
    view K Z (Work.lanesFollow w n) = view K Z w := by
  unfold Work.lanesFollow
  (try simp (maxDischargeDepth := 9) only [↓view_ite, ite_self, implies_true, id_eq, ↓view_each, ↓view_laneShow, ↓view_laneEnable, h_events, h_flue, h_hearth, h_lane, h_lines, h_out, h_sl, h_twin, z_clane, z_clu, z_sysn, z_twin]) <;> (repeat' split) <;> first | rfl | simp (maxDischargeDepth := 9) only [↓view_ite, ite_self, implies_true, id_eq, ↓view_each, ↓view_laneShow, ↓view_laneEnable, h_events, h_flue, h_hearth, h_lane, h_lines, h_out, h_sl, h_twin, z_clane, z_clu, z_sysn, z_twin]

theorem view_exchangeRegion (w : Work) (n : ℕ) (h_bad : K .bad = true) (h_clu : K .clu = true) (h_events : K .events = true) (h_flue : K .flue = true) (h_hearth : K .hearth = true) (h_lane : K .lane = true) (h_lines : K .lines = true) (h_out : K .out = true) (h_recd : K .recd = true) (h_rgn : K .rgn = true) (h_shadow : K .shadow = true) (h_sl : K .sl = true) (h_sram : K .sram = true) (h_twin : K .twin = true) (h_unit : K .unit = true) (z_window : Z .window = true) (z_abc : Z (.page .abc) = true) (z_clane : Z (.page .clane) = true) (z_clu : Z (.page .clu) = true) (z_pkg : Z (.page .pkg) = true) (z_recorder : Z (.page .recorder) = true) (z_rg : Z (.page .rg) = true) (z_sp : Z (.page .sp) = true) (z_sysn : Z (.page .sysn) = true) (z_twin : Z (.page .twin) = true) (z_unit : Z (.page .unit) = true) :
    view K Z (Work.exchangeRegion w n) = view K Z w := by
  unfold Work.exchangeRegion
  extract_lets old src w1 w2 w3 w4 w5 w6 w7
  have high : ∀ a : Nat, inRegion n a = true → Z (zoneOf a) = true := by
    intro a ha
    rw [inRegion, Bool.and_eq_true, decide_eq_true_eq, decide_eq_true_eq, rgBase] at ha
    exact zone_high a (by omega) z_rg z_abc z_sp z_clu z_clane z_unit z_window
  have e1 : view K Z w1 = view K Z w := by
    show view K Z ((w.exchange (inRegion n)).cleanPages (inRegion n)) = _
    rw [view_cleanPages _ _ fun a hi _ => high a hi, view_exchange _ _ h_shadow fun a hi _ => high a hi]
  have e2 : view K Z w2 = view K Z w1 := by
    show view K Z (Work.lanesFollow _ _) = _
    simp only [↓view_lanesFollow, h_bad, h_clu, h_events, h_flue, h_hearth, h_lane, h_lines, h_out, h_recd, h_rgn, h_shadow, h_sl, h_sram, h_twin, h_unit, z_window, z_abc, z_clane, z_clu, z_pkg, z_recorder, z_rg, z_sp, z_sysn, z_twin, z_unit]
  have e3 : view K Z w3 = view K Z w2 := view_each _ _ _ fun v q => by
    simp only [↓view_spSwap, h_bad, h_clu, h_events, h_flue, h_hearth, h_lane, h_lines, h_out, h_recd, h_rgn, h_shadow, h_sl, h_sram, h_twin, h_unit, z_window, z_abc, z_clane, z_clu, z_pkg, z_recorder, z_rg, z_sp, z_sysn, z_twin, z_unit]
  have e4 : view K Z w4 = view K Z w3 := view_each _ _ _ fun v i => by
    simp only [↓view_winShow, ↓view_restartPre, h_bad, h_clu, h_events, h_flue, h_hearth, h_lane, h_lines, h_out, h_recd, h_rgn, h_shadow, h_sl, h_sram, h_twin, h_unit, z_window, z_abc, z_clane, z_clu, z_pkg, z_recorder, z_rg, z_sp, z_sysn, z_twin, z_unit]
  have e5 : view K Z w5 = view K Z w4 := view_each _ _ _ fun v c => by
    refine view_when _ _ _ fun x => ?_
    simp only [↓view_sendConfig, h_bad, h_clu, h_events, h_flue, h_hearth, h_lane, h_lines, h_out, h_recd, h_rgn, h_shadow, h_sl, h_sram, h_twin, h_unit, z_window, z_abc, z_clane, z_clu, z_pkg, z_recorder, z_rg, z_sp, z_sysn, z_twin, z_unit]
  have e6 : view K Z w6 = view K Z w5 := by
    show view K Z (Work.rescan _ _) = _
    simp only [↓view_rescan, h_bad, h_clu, h_events, h_flue, h_hearth, h_lane, h_lines, h_out, h_recd, h_rgn, h_shadow, h_sl, h_sram, h_twin, h_unit, z_window, z_abc, z_clane, z_clu, z_pkg, z_recorder, z_rg, z_sp, z_sysn, z_twin, z_unit]
  have e7 : view K Z w7 = view K Z w6 := view_when _ _ _ fun x => by
    simp only [↓view_recRestart, h_bad, h_clu, h_events, h_flue, h_hearth, h_lane, h_lines, h_out, h_recd, h_rgn, h_shadow, h_sl, h_sram, h_twin, h_unit, z_window, z_abc, z_clane, z_clu, z_pkg, z_recorder, z_rg, z_sp, z_sysn, z_twin, z_unit]
  rw [← e1, ← e2, ← e3, ← e4, ← e5, ← e6, ← e7]
  simp only [↓view_swapFinish, ↓view_setBit, mod_pgPKG, zone_pgPKG, h_bad, h_clu, h_events, h_flue, h_hearth, h_lane, h_lines, h_out, h_recd, h_rgn, h_shadow, h_sl, h_sram, h_twin, h_unit, z_window, z_abc, z_clane, z_clu, z_pkg, z_recorder, z_rg, z_sp, z_sysn, z_twin, z_unit]

theorem view_swapCommit (w : Work) (h_bad : K .bad = true) (h_cap : K .cap = true) (h_clu : K .clu = true) (h_eq : K .eq = true) (h_events : K .events = true) (h_flue : K .flue = true) (h_hearth : K .hearth = true) (h_lane : K .lane = true) (h_lines : K .lines = true) (h_net : K .net = true) (h_out : K .out = true) (h_recd : K .recd = true) (h_rgn : K .rgn = true) (h_shadow : K .shadow = true) (h_sl : K .sl = true) (h_sram : K .sram = true) (h_twin : K .twin = true) (h_unit : K .unit = true) (z_window : Z .window = true) (z_abc : Z (.page .abc) = true) (z_clane : Z (.page .clane) = true) (z_clu : Z (.page .clu) = true) (z_eq : Z (.page .eq) = true) (z_pkg : Z (.page .pkg) = true) (z_recorder : Z (.page .recorder) = true) (z_rg : Z (.page .rg) = true) (z_sp : Z (.page .sp) = true) (z_sysn : Z (.page .sysn) = true) (z_tally : Z (.page .tally) = true) (z_twin : Z (.page .twin) = true) (z_unit : Z (.page .unit) = true) (z_wc : Z (.page .wc) = true) :
    view K Z (Work.swapCommit w) = view K Z w := by
  unfold Work.swapCommit
  (try simp (maxDischargeDepth := 9) only [↓view_ite, ite_self, implies_true, id_eq, ↓view_swapFinish, ↓view_each, ↓view_exchangePackage, ↓view_swapReport, ↓view_wr, zone_pgPKG, mod_pgPKG, ↓view_setBit, ↓view_exchangeRegion, h_bad, h_cap, h_clu, h_eq, h_events, h_flue, h_hearth, h_lane, h_lines, h_net, h_out, h_recd, h_rgn, h_shadow, h_sl, h_sram, h_twin, h_unit, z_window, z_abc, z_clane, z_clu, z_eq, z_pkg, z_recorder, z_rg, z_sp, z_sysn, z_tally, z_twin, z_unit, z_wc]) <;> (repeat' split) <;> first | rfl | simp (maxDischargeDepth := 9) only [↓view_ite, ite_self, implies_true, id_eq, ↓view_swapFinish, ↓view_each, ↓view_exchangePackage, ↓view_swapReport, ↓view_wr, zone_pgPKG, mod_pgPKG, ↓view_setBit, ↓view_exchangeRegion, h_bad, h_cap, h_clu, h_eq, h_events, h_flue, h_hearth, h_lane, h_lines, h_net, h_out, h_recd, h_rgn, h_shadow, h_sl, h_sram, h_twin, h_unit, z_window, z_abc, z_clane, z_clu, z_eq, z_pkg, z_recorder, z_rg, z_sp, z_sysn, z_tally, z_twin, z_unit, z_wc]

theorem view_swapVerdict (w : Work) (r : Option (ℕ × ℕ)) (h_bad : K .bad = true) (h_cap : K .cap = true) (h_clu : K .clu = true) (h_eq : K .eq = true) (h_events : K .events = true) (h_flue : K .flue = true) (h_hearth : K .hearth = true) (h_lane : K .lane = true) (h_lines : K .lines = true) (h_net : K .net = true) (h_out : K .out = true) (h_recd : K .recd = true) (h_rgn : K .rgn = true) (h_shadow : K .shadow = true) (h_sl : K .sl = true) (h_sram : K .sram = true) (h_twin : K .twin = true) (h_unit : K .unit = true) (z_window : Z .window = true) (z_abc : Z (.page .abc) = true) (z_clane : Z (.page .clane) = true) (z_clu : Z (.page .clu) = true) (z_eq : Z (.page .eq) = true) (z_pkg : Z (.page .pkg) = true) (z_recorder : Z (.page .recorder) = true) (z_rg : Z (.page .rg) = true) (z_sp : Z (.page .sp) = true) (z_sysn : Z (.page .sysn) = true) (z_tally : Z (.page .tally) = true) (z_twin : Z (.page .twin) = true) (z_unit : Z (.page .unit) = true) (z_wc : Z (.page .wc) = true) :
    view K Z (Work.swapVerdict w r) = view K Z w := by
  unfold Work.swapVerdict
  (try simp (maxDischargeDepth := 9) only [↓view_ite, ite_self, implies_true, id_eq, ↓view_swapRefuse, ↓view_swapCommit, h_bad, h_cap, h_clu, h_eq, h_events, h_flue, h_hearth, h_lane, h_lines, h_net, h_out, h_recd, h_rgn, h_shadow, h_sl, h_sram, h_twin, h_unit, z_window, z_abc, z_clane, z_clu, z_eq, z_pkg, z_recorder, z_rg, z_sp, z_sysn, z_tally, z_twin, z_unit, z_wc]) <;> (repeat' split) <;> first | rfl | simp (maxDischargeDepth := 9) only [↓view_ite, ite_self, implies_true, id_eq, ↓view_swapRefuse, ↓view_swapCommit, h_bad, h_cap, h_clu, h_eq, h_events, h_flue, h_hearth, h_lane, h_lines, h_net, h_out, h_recd, h_rgn, h_shadow, h_sl, h_sram, h_twin, h_unit, z_window, z_abc, z_clane, z_clu, z_eq, z_pkg, z_recorder, z_rg, z_sp, z_sysn, z_tally, z_twin, z_unit, z_wc]

theorem view_swapDecide (w : Work) (h_bad : K .bad = true) (h_cap : K .cap = true) (h_clu : K .clu = true) (h_eq : K .eq = true) (h_events : K .events = true) (h_flue : K .flue = true) (h_hearth : K .hearth = true) (h_lane : K .lane = true) (h_lines : K .lines = true) (h_net : K .net = true) (h_out : K .out = true) (h_recd : K .recd = true) (h_rgn : K .rgn = true) (h_shadow : K .shadow = true) (h_sl : K .sl = true) (h_sram : K .sram = true) (h_twin : K .twin = true) (h_unit : K .unit = true) (z_window : Z .window = true) (z_abc : Z (.page .abc) = true) (z_clane : Z (.page .clane) = true) (z_clu : Z (.page .clu) = true) (z_eq : Z (.page .eq) = true) (z_pkg : Z (.page .pkg) = true) (z_recorder : Z (.page .recorder) = true) (z_rg : Z (.page .rg) = true) (z_sp : Z (.page .sp) = true) (z_sysn : Z (.page .sysn) = true) (z_tally : Z (.page .tally) = true) (z_twin : Z (.page .twin) = true) (z_unit : Z (.page .unit) = true) (z_wc : Z (.page .wc) = true) :
    view K Z (Work.swapDecide w) = view K Z w := by
  unfold Work.swapDecide
  split
  · split
    · simp only [↓view_swapRefuse, h_bad, h_cap, h_clu, h_eq, h_events, h_flue, h_hearth, h_lane, h_lines, h_net, h_out, h_recd, h_rgn, h_shadow, h_sl, h_sram, h_twin, h_unit, z_window, z_abc, z_clane, z_clu, z_eq, z_pkg, z_recorder, z_rg, z_sp, z_sysn, z_tally, z_twin, z_unit, z_wc]
    · simp only [↓view_swapVerdict, h_bad, h_cap, h_clu, h_eq, h_events, h_flue, h_hearth, h_lane, h_lines, h_net, h_out, h_recd, h_rgn, h_shadow, h_sl, h_sram, h_twin, h_unit, z_window, z_abc, z_clane, z_clu, z_eq, z_pkg, z_recorder, z_rg, z_sp, z_sysn, z_tally, z_twin, z_unit, z_wc]
  · rfl

theorem view_crcPass (w : Work) (upset : Bool) (h_bad : K .bad = true) (h_chop : K .chop = true) (h_clu : K .clu = true) (h_events : K .events = true) (h_flue : K .flue = true) (h_hearth : K .hearth = true) (h_lane : K .lane = true) (h_lines : K .lines = true) (h_net : K .net = true) (h_out : K .out = true) (h_recd : K .recd = true) (h_sl : K .sl = true) (h_sram : K .sram = true) (h_unit : K .unit = true) (z_clu : Z (.page .clu) = true) (z_hrt : Z (.page .hrt) = true) (z_hrt1 : Z (.page .hrt1) = true) (z_hrt2 : Z (.page .hrt2) = true) (z_pkg : Z (.page .pkg) = true) (z_recorder : Z (.page .recorder) = true) (z_sysn : Z (.page .sysn) = true) :
    view K Z (Work.crcPass w upset) = view K Z w := by
  unfold Work.crcPass
  (try simp (maxDischargeDepth := 9) only [↓view_ite, ite_self, implies_true, id_eq, ↓view_reactFixed, ↓view_flt, zone_pgHRT, mod_pgHRT, h_bad, h_chop, h_clu, h_events, h_flue, h_hearth, h_lane, h_lines, h_net, h_out, h_recd, h_sl, h_sram, h_unit, z_clu, z_hrt, z_hrt1, z_hrt2, z_pkg, z_recorder, z_sysn]) <;> (repeat' split) <;> first | rfl | simp (maxDischargeDepth := 9) only [↓view_ite, ite_self, implies_true, id_eq, ↓view_reactFixed, ↓view_flt, zone_pgHRT, mod_pgHRT, h_bad, h_chop, h_clu, h_events, h_flue, h_hearth, h_lane, h_lines, h_net, h_out, h_recd, h_sl, h_sram, h_unit, z_clu, z_hrt, z_hrt1, z_hrt2, z_pkg, z_recorder, z_sysn]

end Sys2Proof.Machine
end

