-- ==== Sys2Proof/Laws/ViewTwin.lean ====
section
/-! SUPPORT. What each operation of Machine/Twin.lean can write: the view without those kinds and zones is as it was. -/

set_option linter.unusedSimpArgs false
set_option linter.unreachableTactic false
set_option linter.unusedTactic false
set_option linter.unnecessarySeqFocus false

namespace Sys2Proof.Machine

variable {K : Kind → Bool} {Z : Zone → Bool}

theorem view_ownHealth (w : Work) (h_freeCtr : K .freeCtr = true) :
    view K Z (Work.ownHealth w).1 = view K Z w := by
  unfold Work.ownHealth
  (try simp (maxDischargeDepth := 9) only [↓view_ite, ite_self, implies_true, id_eq, ↓view_freshWord, h_freeCtr]) <;> (repeat' split) <;> first | rfl | simp (maxDischargeDepth := 9) only [↓view_ite, ite_self, implies_true, id_eq, ↓view_freshWord, h_freeCtr]

theorem view_copyLast (w : Work) (n : ℕ) (cyc : ℕ) (z_twin : Z (.page .twin) = true) :
    view K Z (Work.copyLast w n cyc) = view K Z w := by
  unfold Work.copyLast
  exact view_put_page _ _ _ _ (by decide) mod_pgTWIN (by rw [zone_pgTWIN]; exact z_twin)

theorem view_twinSeal (w : Work) (n : ℕ) (b : ℤ) (h_out : K .out = true) (h_twin : K .twin = true) (z_twin : Z (.page .twin) = true) :
    view K Z (Work.twinSeal w n b) = view K Z w := by
  unfold Work.twinSeal
  (try simp (maxDischargeDepth := 9) only [↓view_ite, ite_self, implies_true, id_eq, ↓view_when, ↓view_modTwinRg, ↓view_count, zone_pgTWIN, mod_pgTWIN, ↓view_copyLast, ↓view_twinSend, ↓view_each, h_out, h_twin, z_twin]) <;> (repeat' split) <;> first | rfl | simp (maxDischargeDepth := 9) only [↓view_ite, ite_self, implies_true, id_eq, ↓view_when, ↓view_modTwinRg, ↓view_count, zone_pgTWIN, mod_pgTWIN, ↓view_copyLast, ↓view_twinSend, ↓view_each, h_out, h_twin, z_twin]

/-- Taking up a dword of the image leaves the view as it was. -/
def Kept.hides (K : Kind → Bool) (Z : Zone → Bool) (k : Kept) : Prop := ∀ w x, view K Z (k.put w x) = view K Z w

theorem hides_reg (a : Nat) (m : Word) (h : Z (zoneOf a) = true) : (Kept.reg a m).hides K Z := fun _ _ => view_put _ _ _ h

theorem hides_field (pg : Nat) (f : Field) (i : Nat) (m : Word) (hm : pg % 0x1000 = 0) (h : Z (zoneOf pg) = true) :
    (Kept.reg (pg + f.at i) m).hides K Z := hides_reg _ _ (by rw [zoneOf_field _ _ _ hm]; exact h)

theorem hides_off (pg x : Nat) (m : Word) (hm : pg % 0x1000 = 0) (hx : x < 0x1000) (h : Z (zoneOf pg) = true) :
    (Kept.reg (pg + x) m).hides K Z := hides_reg _ _ (by rw [zoneOf_add _ _ hm hx]; exact h)

theorem hides_fill : Kept.fill.hides K Z := fun _ _ => rfl

theorem hides_un (u : Nat) (get : LegUnit → Nat) (put : LegUnit → Nat → LegUnit) (h : K .unit = true) :
    (Kept.un u get put).hides K Z := fun _ _ => view_modUn _ _ _ h

theorem hides_unitKeep (u : Nat) (ref : Int) (h_unit : K .unit = true) (z_unit : Z (.page .unit) = true) :
    ∀ k ∈ unitKeep u ref, k.hides K Z := by
  intro k hk
  rw [unitKeep, List.mem_append] at hk
  rcases hk with hk | hk
  · dsimp only at hk
    rw [← zone_pgUNIT u] at z_unit
    simp only [List.mem_cons, List.not_mem_nil, or_false] at hk
    rcases hk with rfl | rfl | rfl | rfl | rfl | rfl | rfl | rfl | rfl | rfl | rfl | rfl
    case inr.inr.inr.inl =>
      intro w x
      dsimp only
      rw [view_modUn _ _ _ h_unit, view_wr _ _ _ _ _ (mod_pgUNIT _) z_unit]
      exact view_when _ _ _ fun v => view_count _ _ _ _ _ (mod_pgUNIT _) z_unit
    case inr.inr.inr.inr.inr.inr.inl => exact hides_off _ _ _ (mod_pgUNIT _) (by decide) z_unit
    all_goals exact hides_un _ _ _ h_unit
  · simp only [List.mem_map] at hk
    obtain ⟨i, _, rfl⟩ := hk
    exact hides_un _ _ _ h_unit

theorem hides_cluKeep (c : Nat) (h_clu : K .clu = true) (h_lane : K .lane = true) (z_clane : Z (.page .clane) = true)
    (z_clu : Z (.page .clu) = true) : ∀ k ∈ cluKeep c, k.hides K Z := by
  intro k hk
  rw [cluKeep] at hk
  dsimp only at hk
  rw [← zone_pgCLU c] at z_clu
  rw [← zone_pgCLANE c] at z_clane
  simp only [List.mem_cons, List.not_mem_nil, or_false] at hk
  rcases hk with rfl | rfl | rfl | rfl | rfl | rfl | rfl | rfl
  case inr.inr.inr.inr.inl => exact fun w x => view_modCl _ _ _ h_clu
  case inr.inr.inr.inr.inr.inl =>
    intro w x
    dsimp only
    rw [view_modLn _ _ _ h_lane, view_wr _ _ _ _ _ (mod_pgCLANE _) z_clane]
  all_goals exact hides_off _ _ _ (mod_pgCLU _) (by decide) z_clu

theorem hides_chKeep (n q : Nat) (z_sp : Z (.page .sp) = true) : ∀ k ∈ chKeep n q, k.hides K Z := by
  intro k hk
  rw [chKeep] at hk
  dsimp only at hk
  have z : Z (zoneOf (pgSP n (q / 16))) = true := by rw [zone_pgSP]; exact z_sp
  simp only [List.mem_cons, List.not_mem_nil, or_false] at hk
  rcases hk with rfl | rfl | rfl
  · exact hides_field _ _ _ _ (mod_pgSP _ _) z
  · exact fun w x => view_chWr _ _ _ _ _ z_sp
  · exact hides_field _ _ _ _ (mod_pgSP _ _) z

theorem hides_lpKeep (n m : Nat) (h_rgn : K .rgn = true) (z_sp : Z (.page .sp) = true) : ∀ k ∈ lpKeep n m, k.hides K Z := by
  intro k hk
  rw [lpKeep] at hk
  dsimp only at hk
  have z : Z (zoneOf (pgSP n (m / 16))) = true := by rw [zone_pgSP]; exact z_sp
  simp only [List.mem_cons, List.not_mem_nil, or_false] at hk
  subst hk
  intro w x
  dsimp only
  rw [view_modLp _ _ _ _ h_rgn, view_lpWr _ _ _ _ _ z_sp, view_lpWr _ _ _ _ _ z_sp,
    view_put _ _ _ (by rw [zoneOf_field _ _ _ (mod_pgSP _ _)]; exact z)]

theorem hides_keeps (w : Work) (n : Nat) (ref : Int) (h_clu : K .clu = true) (h_lane : K .lane = true) (h_rgn : K .rgn = true) (h_unit : K .unit = true) (z_window : Z .window = true) (z_abc : Z (.page .abc) = true) (z_clane : Z (.page .clane) = true) (z_clu : Z (.page .clu) = true) (z_pkg : Z (.page .pkg) = true) (z_rg : Z (.page .rg) = true) (z_sp : Z (.page .sp) = true) (z_twin : Z (.page .twin) = true) (z_unit : Z (.page .unit) = true) : ∀ k ∈ w.keeps n ref, k.hides K Z := by
  intro k hk
  unfold Work.keeps at hk
  simp only [List.mem_append] at hk
  rcases hk with (((((hk | hk) | hk) | hk) | hk) | hk) | hk
  · split at hk
    · simp only [List.mem_map, List.mem_cons] at hk
      obtain ⟨a, ha | ⟨i, hi, rfl⟩, rfl⟩ := hk
      · subst ha
        exact hides_off _ _ _ mod_pgTWIN (by decide) (by rw [zone_pgTWIN]; exact z_twin)
      · have hl : i < 31 := List.mem_range.mp hi
        rw [Kept.shown, Nat.add_assoc]
        exact hides_off _ _ _ mod_pgPKG (by omega) (by rw [zone_pgPKG]; exact z_pkg)
    · cases hk
  · split at hk
    · simp only [List.mem_append, List.mem_cons, List.mem_map, List.not_mem_nil, or_false] at hk
      rcases hk with ((((rfl | rfl) | ⟨i, hi, rfl⟩) | ⟨i, _, rfl⟩) | hk)
      · exact hides_off _ _ _ (mod_pgRG _) (by decide) (by rw [zone_pgRG]; exact z_rg)
      · exact hides_off _ _ _ (mod_pgABC _) (by decide) (by rw [zone_pgABC]; exact z_abc)
      · have hl : i < 6 := List.mem_range.mp hi
        rw [Kept.shown, Nat.add_assoc]
        exact hides_off _ _ _ (mod_pgRG _) (by omega) (by rw [zone_pgRG]; exact z_rg)
      · exact fun _ _ => rfl
      · rw [List.eq_of_mem_replicate hk]; exact hides_fill
    · cases hk
  · obtain ⟨c, _, hc⟩ := List.mem_flatMap.mp hk
    exact hides_cluKeep c h_clu h_lane z_clane z_clu k hc
  · obtain ⟨u, _, hu⟩ := List.mem_flatMap.mp hk
    exact hides_unitKeep u ref h_unit z_unit k hu
  · obtain ⟨x, _, rfl⟩ := List.mem_map.mp hk
    exact hides_reg _ _ (by rw [zone_stateWordAddr]; exact z_window)
  · obtain ⟨q, _, hq⟩ := List.mem_flatMap.mp hk
    exact hides_chKeep n q z_sp k hq
  · obtain ⟨m, _, hm⟩ := List.mem_flatMap.mp hk
    exact hides_lpKeep n m h_rgn z_sp k hm

theorem view_takeImage (w : Work) (n : Nat) (ref : Int) (img : ImgIn) (h_clu : K .clu = true) (h_lane : K .lane = true) (h_rgn : K .rgn = true) (h_twin : K .twin = true) (h_unit : K .unit = true) (z_window : Z .window = true) (z_abc : Z (.page .abc) = true) (z_clane : Z (.page .clane) = true) (z_clu : Z (.page .clu) = true) (z_pkg : Z (.page .pkg) = true) (z_rg : Z (.page .rg) = true) (z_sp : Z (.page .sp) = true) (z_twin : Z (.page .twin) = true) (z_unit : Z (.page .unit) = true) :
    view K Z (w.takeImage n ref img) = view K Z w := by
  unfold Work.takeImage
  extract_lets ks v1 v2
  have e2 : view K Z v2 = view K Z v1 := view_each _ _ _ fun v u => view_winShow _ _ z_unit
  rw [view_modTwinRg _ _ _ h_twin, e2]
  refine view_each_mem _ _ _ fun v k hk => ?_
  have hm : k.1 ∈ w.keeps n ref := (List.mem_zipIdx' hk).2 ▸ List.getElem_mem _
  have hh := hides_keeps (K := K) (Z := Z) w n ref h_clu h_lane h_rgn h_unit z_window z_abc z_clane z_clu z_pkg z_rg z_sp z_twin z_unit k.1 hm
  split
  · exact hh _ _
  · rfl

theorem view_twinCommit (w : Work) (n : ℕ) (b : ℤ) (h_clu : K .clu = true) (h_flue : K .flue = true) (h_lane : K .lane = true) (h_lines : K .lines = true) (h_out : K .out = true) (h_rgn : K .rgn = true) (h_twin : K .twin = true) (h_unit : K .unit = true) (z_window : Z .window = true) (z_abc : Z (.page .abc) = true) (z_clane : Z (.page .clane) = true) (z_clu : Z (.page .clu) = true) (z_pkg : Z (.page .pkg) = true) (z_rg : Z (.page .rg) = true) (z_sp : Z (.page .sp) = true) (z_twin : Z (.page .twin) = true) (z_unit : Z (.page .unit) = true) :
    view K Z (Work.twinCommit w n b) = view K Z w := by
  unfold Work.twinCommit
  (try simp (maxDischargeDepth := 9) only [↓view_ite, ite_self, implies_true, id_eq, ↓view_clrBit, zone_pgTWIN, mod_pgTWIN, ↓view_copyLast, ↓view_count, ↓view_modTwinRg, ↓view_takeImage, ↓view_flt, ↓view_setBit, h_clu, h_flue, h_lane, h_lines, h_out, h_rgn, h_twin, h_unit, z_window, z_abc, z_clane, z_clu, z_pkg, z_rg, z_sp, z_twin, z_unit]) <;> (repeat' split) <;> first | rfl | simp (maxDischargeDepth := 9) only [↓view_ite, ite_self, implies_true, id_eq, ↓view_clrBit, zone_pgTWIN, mod_pgTWIN, ↓view_copyLast, ↓view_count, ↓view_modTwinRg, ↓view_takeImage, ↓view_flt, ↓view_setBit, h_clu, h_flue, h_lane, h_lines, h_out, h_rgn, h_twin, h_unit, z_window, z_abc, z_clane, z_clu, z_pkg, z_rg, z_sp, z_twin, z_unit]

theorem view_twinRefuse (w : Work) (cause : ℕ) (z_twin : Z (.page .twin) = true) :
    view K Z (Work.twinRefuse w cause) = view K Z w := by
  unfold Work.twinRefuse
  (try simp (maxDischargeDepth := 9) only [↓view_ite, ite_self, implies_true, id_eq, ↓view_wr, zone_pgTWIN, mod_pgTWIN, z_twin]) <;> (repeat' split) <;> first | rfl | simp (maxDischargeDepth := 9) only [↓view_ite, ite_self, implies_true, id_eq, ↓view_wr, zone_pgTWIN, mod_pgTWIN, z_twin]

theorem view_takeover (w : Work) (ho : Option ℕ) (h_bad : K .bad = true) (h_chop : K .chop = true) (h_clu : K .clu = true) (h_events : K .events = true) (h_flue : K .flue = true) (h_hearth : K .hearth = true) (h_lane : K .lane = true) (h_lines : K .lines = true) (h_net : K .net = true) (h_out : K .out = true) (h_recd : K .recd = true) (h_rgn : K .rgn = true) (h_sec : K .sec = true) (h_sl : K .sl = true) (h_sram : K .sram = true) (h_twin : K .twin = true) (h_unit : K .unit = true) (z_window : Z .window = true) (z_bist : Z (.page .bist) = true) (z_clane : Z (.page .clane) = true) (z_clu : Z (.page .clu) = true) (z_hrt : Z (.page .hrt) = true) (z_hrt1 : Z (.page .hrt1) = true) (z_pkg : Z (.page .pkg) = true) (z_recorder : Z (.page .recorder) = true) (z_sysn : Z (.page .sysn) = true) (z_twin : Z (.page .twin) = true) :
    view K Z (Work.takeover w ho) = view K Z w := by
  unfold Work.takeover
  (try simp (maxDischargeDepth := 9) only [↓view_ite, ite_self, implies_true, id_eq, ↓view_twinShow, ↓view_each, ↓view_stamp, zone_pgTWIN, mod_pgTWIN, ↓view_setRole, ↓view_setEpoch, ↓view_wr, ↓view_when, ↓view_modTwin, ↓view_bistAbort, ↓view_modRg, ↓view_modLn, ↓view_sendConfig, h_bad, h_chop, h_clu, h_events, h_flue, h_hearth, h_lane, h_lines, h_net, h_out, h_recd, h_rgn, h_sec, h_sl, h_sram, h_twin, h_unit, z_window, z_bist, z_clane, z_clu, z_hrt, z_hrt1, z_pkg, z_recorder, z_sysn, z_twin]) <;> (repeat' split) <;> first | rfl | simp (maxDischargeDepth := 9) only [↓view_ite, ite_self, implies_true, id_eq, ↓view_twinShow, ↓view_each, ↓view_stamp, zone_pgTWIN, mod_pgTWIN, ↓view_setRole, ↓view_setEpoch, ↓view_wr, ↓view_when, ↓view_modTwin, ↓view_bistAbort, ↓view_modRg, ↓view_modLn, ↓view_sendConfig, h_bad, h_chop, h_clu, h_events, h_flue, h_hearth, h_lane, h_lines, h_net, h_out, h_recd, h_rgn, h_sec, h_sl, h_sram, h_twin, h_unit, z_window, z_bist, z_clane, z_clu, z_hrt, z_hrt1, z_pkg, z_recorder, z_sysn, z_twin]

theorem view_hoShow (w : Work) (z_twin : Z (.page .twin) = true) :
    view K Z (Work.hoShow w) = view K Z w := by
  unfold Work.hoShow
  (try simp (maxDischargeDepth := 9) only [↓view_ite, ite_self, implies_true, id_eq, ↓view_wr, zone_pgTWIN, mod_pgTWIN, z_twin]) <;> (repeat' split) <;> first | rfl | simp (maxDischargeDepth := 9) only [↓view_ite, ite_self, implies_true, id_eq, ↓view_wr, zone_pgTWIN, mod_pgTWIN, z_twin]

theorem view_closeGap (w : Work) (n : ℕ) (swap : Bool) (h_flue : K .flue = true) (h_lines : K .lines = true) (h_out : K .out = true) (h_rgn : K .rgn = true) (z_rg : Z (.page .rg) = true) (z_twin : Z (.page .twin) = true) :
    view K Z (Work.closeGap w n swap) = view K Z w := by
  unfold Work.closeGap
  (try simp (maxDischargeDepth := 9) only [↓view_ite, ite_self, implies_true, id_eq, ↓view_wr, zone_pgRG, mod_pgRG, ↓view_modRg, ↓view_when, zone_pgTWIN, mod_pgTWIN, ↓view_flt, h_flue, h_lines, h_out, h_rgn, z_rg, z_twin]) <;> (repeat' split) <;> first | rfl | simp (maxDischargeDepth := 9) only [↓view_ite, ite_self, implies_true, id_eq, ↓view_wr, zone_pgRG, mod_pgRG, ↓view_modRg, ↓view_when, zone_pgTWIN, mod_pgTWIN, ↓view_flt, h_flue, h_lines, h_out, h_rgn, z_rg, z_twin]

theorem zone_inSp (n a : Nat) (h : inSp n a = true) : zoneOf a = .page .sp := by
  rw [inSp, List.any_eq_true] at h
  obtain ⟨p, _, hp⟩ := h
  rw [beq_iff_eq] at hp
  have s : a = a / 0x1000 * 0x1000 + a % 0x1000 := by omega
  rw [s, zoneOf_add _ _ (by omega) (by omega), hp, zone_pgSP]

theorem view_activate (w : Work) (n : ℕ) (swap : Bool) (h_flue : K .flue = true) (h_lines : K .lines = true) (h_out : K .out = true) (h_rgn : K .rgn = true) (h_twin : K .twin = true) (h_unit : K .unit = true) (z_rg : Z (.page .rg) = true) (z_sp : Z (.page .sp) = true) (z_twin : Z (.page .twin) = true) :
    view K Z (Work.activate w n swap) = view K Z w := by
  unfold Work.activate
  extract_lets v1 v2 v3 v4 v5 v6
  have e1 : view K Z v1 = view K Z w := by
    show view K Z (if _ then _ else _) = _
    split
    · simp only [↓view_closeGap, h_flue, h_lines, h_out, h_rgn, h_twin, h_unit, z_rg, z_sp, z_twin]
    · rfl
  have e2 : view K Z v2 = view K Z v1 := view_each_mem _ _ _ fun v e he =>
    view_put _ _ _ (by rw [zone_inSp n e.1 (List.mem_filter.mp he).2]; exact z_sp)
  have e3 : view K Z v3 = view K Z v2 := view_modRg _ _ _ h_rgn
  have e4 : view K Z v4 = view K Z v3 := view_modTwinRg _ _ _ h_twin
  have e5 : view K Z v5 = view K Z v4 := view_each _ _ _ fun v q => by
    simp only [↓view_chWr, ↓view_spRest, h_flue, h_lines, h_out, h_rgn, h_twin, h_unit, z_rg, z_sp, z_twin]
  have e6 : view K Z v6 = view K Z v5 := view_each _ _ _ fun v q => view_modUn _ _ _ h_unit
  rw [view_hoShow _ z_twin, e6, e5, e4, e3, e2, e1]

theorem view_releasing (w : Work) (n : ℕ) (b : ℤ) (h_lane : K .lane = true) (h_rgn : K .rgn = true) (h_twin : K .twin = true) (h_unit : K .unit = true) (z_twin : Z (.page .twin) = true) :
    view K Z (Work.releasing w n b) = view K Z w := by
  unfold Work.releasing
  (try simp (maxDischargeDepth := 9) only [↓view_ite, ite_self, implies_true, id_eq, ↓view_hoShow, ↓view_modTwinRg, ↓view_modRg, ↓view_each, ↓view_stopUnits, h_lane, h_rgn, h_twin, h_unit, z_twin]) <;> (repeat' split) <;> first | rfl | simp (maxDischargeDepth := 9) only [↓view_ite, ite_self, implies_true, id_eq, ↓view_hoShow, ↓view_modTwinRg, ↓view_modRg, ↓view_each, ↓view_stopUnits, h_lane, h_rgn, h_twin, h_unit, z_twin]

theorem view_resumeClusters (w : Work) (n : ℕ) (te : ℤ) (h_clu : K .clu = true) (h_lane : K .lane = true) (h_rgn : K .rgn = true) (h_unit : K .unit = true) :
    view K Z (Work.resumeClusters w n te) = view K Z w := by
  unfold Work.resumeClusters
  (try simp (maxDischargeDepth := 9) only [↓view_ite, ite_self, implies_true, id_eq, ↓view_modRg, ↓view_each, ↓view_modCl, ↓view_modLn, ↓view_modUn, ↓view_timed, h_clu, h_lane, h_rgn, h_unit]) <;> (repeat' split) <;> first | rfl | simp (maxDischargeDepth := 9) only [↓view_ite, ite_self, implies_true, id_eq, ↓view_modRg, ↓view_each, ↓view_modCl, ↓view_modLn, ↓view_modUn, ↓view_timed, h_clu, h_lane, h_rgn, h_unit]

theorem view_rxEdge (w : Work) (since : ℕ) (h_flue : K .flue = true) (h_lines : K .lines = true) (h_out : K .out = true) (h_twin : K .twin = true) (z_twin : Z (.page .twin) = true) :
    view K Z (Work.rxEdge w since) = view K Z w := by
  unfold Work.rxEdge
  (try simp (maxDischargeDepth := 9) only [↓view_ite, ite_self, implies_true, id_eq, ↓view_modTwin, ↓view_twinShow, ↓view_when, ↓view_wr, zone_pgTWIN, mod_pgTWIN, h_flue, h_lines, h_out, h_twin, z_twin]) <;> (repeat' split) <;> first | rfl | simp (maxDischargeDepth := 9) only [↓view_ite, ite_self, implies_true, id_eq, ↓view_modTwin, ↓view_twinShow, ↓view_when, ↓view_wr, zone_pgTWIN, mod_pgTWIN, h_flue, h_lines, h_out, h_twin, z_twin]

theorem view_rxTimeout (w : Work) (h_bad : K .bad = true) (h_chop : K .chop = true) (h_clu : K .clu = true) (h_events : K .events = true) (h_flue : K .flue = true) (h_hearth : K .hearth = true) (h_lane : K .lane = true) (h_lines : K .lines = true) (h_net : K .net = true) (h_out : K .out = true) (h_recd : K .recd = true) (h_rgn : K .rgn = true) (h_sec : K .sec = true) (h_sl : K .sl = true) (h_sram : K .sram = true) (h_twin : K .twin = true) (h_unit : K .unit = true) (z_window : Z .window = true) (z_bist : Z (.page .bist) = true) (z_clane : Z (.page .clane) = true) (z_clu : Z (.page .clu) = true) (z_hrt : Z (.page .hrt) = true) (z_hrt1 : Z (.page .hrt1) = true) (z_pkg : Z (.page .pkg) = true) (z_recorder : Z (.page .recorder) = true) (z_sysn : Z (.page .sysn) = true) (z_twin : Z (.page .twin) = true) :
    view K Z (Work.rxTimeout w) = view K Z w := by
  unfold Work.rxTimeout
  (try simp (maxDischargeDepth := 9) only [↓view_ite, ite_self, implies_true, id_eq, ↓view_twinShow, ↓view_modTwin, ↓view_wr, zone_pgTWIN, mod_pgTWIN, ↓view_takeover, h_bad, h_chop, h_clu, h_events, h_flue, h_hearth, h_lane, h_lines, h_net, h_out, h_recd, h_rgn, h_sec, h_sl, h_sram, h_twin, h_unit, z_window, z_bist, z_clane, z_clu, z_hrt, z_hrt1, z_pkg, z_recorder, z_sysn, z_twin]) <;> (repeat' split) <;> first | rfl | simp (maxDischargeDepth := 9) only [↓view_ite, ite_self, implies_true, id_eq, ↓view_twinShow, ↓view_modTwin, ↓view_wr, zone_pgTWIN, mod_pgTWIN, ↓view_takeover, h_bad, h_chop, h_clu, h_events, h_flue, h_hearth, h_lane, h_lines, h_net, h_out, h_recd, h_rgn, h_sec, h_sl, h_sram, h_twin, h_unit, z_window, z_bist, z_clane, z_clu, z_hrt, z_hrt1, z_pkg, z_recorder, z_sysn, z_twin]

theorem view_take (w : Work) (force : Bool) (h_bad : K .bad = true) (h_chop : K .chop = true) (h_clu : K .clu = true) (h_events : K .events = true) (h_flue : K .flue = true) (h_hearth : K .hearth = true) (h_lane : K .lane = true) (h_lines : K .lines = true) (h_net : K .net = true) (h_out : K .out = true) (h_recd : K .recd = true) (h_rgn : K .rgn = true) (h_sec : K .sec = true) (h_sl : K .sl = true) (h_sram : K .sram = true) (h_twin : K .twin = true) (h_unit : K .unit = true) (z_window : Z .window = true) (z_bist : Z (.page .bist) = true) (z_clane : Z (.page .clane) = true) (z_clu : Z (.page .clu) = true) (z_hrt : Z (.page .hrt) = true) (z_hrt1 : Z (.page .hrt1) = true) (z_pkg : Z (.page .pkg) = true) (z_recorder : Z (.page .recorder) = true) (z_sysn : Z (.page .sysn) = true) (z_twin : Z (.page .twin) = true) :
    view K Z (Work.take w force) = view K Z w := by
  unfold Work.take
  (try simp (maxDischargeDepth := 9) only [↓view_ite, ite_self, implies_true, id_eq, ↓view_twinRefuse, ↓view_takeover, h_bad, h_chop, h_clu, h_events, h_flue, h_hearth, h_lane, h_lines, h_net, h_out, h_recd, h_rgn, h_sec, h_sl, h_sram, h_twin, h_unit, z_window, z_bist, z_clane, z_clu, z_hrt, z_hrt1, z_pkg, z_recorder, z_sysn, z_twin]) <;> (repeat' split) <;> first | rfl | simp (maxDischargeDepth := 9) only [↓view_ite, ite_self, implies_true, id_eq, ↓view_twinRefuse, ↓view_takeover, h_bad, h_chop, h_clu, h_events, h_flue, h_hearth, h_lane, h_lines, h_net, h_out, h_recd, h_rgn, h_sec, h_sl, h_sram, h_twin, h_unit, z_window, z_bist, z_clane, z_clu, z_hrt, z_hrt1, z_pkg, z_recorder, z_sysn, z_twin]

theorem view_handover (w : Work) (h_out : K .out = true) (h_twin : K .twin = true) (z_twin : Z (.page .twin) = true) :
    view K Z (Work.handover w) = view K Z w := by
  unfold Work.handover
  (try simp (maxDischargeDepth := 9) only [↓view_ite, ite_self, implies_true, id_eq, ↓view_twinRefuse, ↓view_modTwin, ↓view_twinSend, h_out, h_twin, z_twin]) <;> (repeat' split) <;> first | rfl | simp (maxDischargeDepth := 9) only [↓view_ite, ite_self, implies_true, id_eq, ↓view_twinRefuse, ↓view_modTwin, ↓view_twinSend, h_out, h_twin, z_twin]

theorem view_hoReq (w : Work) (d : Time) (e : ℕ) (h_out : K .out = true) (h_twin : K .twin = true) (z_twin : Z (.page .twin) = true) :
    view K Z (Work.hoReq w d e) = view K Z w := by
  unfold Work.hoReq
  (try simp (maxDischargeDepth := 9) only [↓view_ite, ite_self, implies_true, id_eq, ↓view_modTwin, ↓view_wr, zone_pgTWIN, mod_pgTWIN, ↓view_twinSend, h_out, h_twin, z_twin]) <;> (repeat' split) <;> first | rfl | simp (maxDischargeDepth := 9) only [↓view_ite, ite_self, implies_true, id_eq, ↓view_modTwin, ↓view_wr, zone_pgTWIN, mod_pgTWIN, ↓view_twinSend, h_out, h_twin, z_twin]

theorem view_hoFail (w : Work) (h_flue : K .flue = true) (h_lines : K .lines = true) (h_out : K .out = true) (h_twin : K .twin = true) (z_twin : Z (.page .twin) = true) :
    view K Z (Work.hoFail w) = view K Z w := by
  unfold Work.hoFail
  (try simp (maxDischargeDepth := 9) only [↓view_ite, ite_self, implies_true, id_eq, ↓view_flt, zone_pgTWIN, mod_pgTWIN, ↓view_twinRefuse, ↓view_modTwin, h_flue, h_lines, h_out, h_twin, z_twin]) <;> (repeat' split) <;> first | rfl | simp (maxDischargeDepth := 9) only [↓view_ite, ite_self, implies_true, id_eq, ↓view_flt, zone_pgTWIN, mod_pgTWIN, ↓view_twinRefuse, ↓view_modTwin, h_flue, h_lines, h_out, h_twin, z_twin]

theorem view_hoNow (w : Work) (h_bad : K .bad = true) (h_chop : K .chop = true) (h_clu : K .clu = true) (h_events : K .events = true) (h_flue : K .flue = true) (h_hearth : K .hearth = true) (h_lane : K .lane = true) (h_lines : K .lines = true) (h_net : K .net = true) (h_out : K .out = true) (h_recd : K .recd = true) (h_rgn : K .rgn = true) (h_sec : K .sec = true) (h_sl : K .sl = true) (h_sram : K .sram = true) (h_twin : K .twin = true) (h_unit : K .unit = true) (z_window : Z .window = true) (z_bist : Z (.page .bist) = true) (z_clane : Z (.page .clane) = true) (z_clu : Z (.page .clu) = true) (z_hrt : Z (.page .hrt) = true) (z_hrt1 : Z (.page .hrt1) = true) (z_pkg : Z (.page .pkg) = true) (z_recorder : Z (.page .recorder) = true) (z_sysn : Z (.page .sysn) = true) (z_twin : Z (.page .twin) = true) :
    view K Z (Work.hoNow w) = view K Z w := by
  unfold Work.hoNow
  (try simp (maxDischargeDepth := 9) only [↓view_ite, ite_self, implies_true, id_eq, ↓view_takeover, ↓view_twinShow, ↓view_hoShow, ↓view_setRole, ↓view_wr, zone_pgTWIN, mod_pgTWIN, ↓view_each, ↓view_modTwin, ↓view_modRg, h_bad, h_chop, h_clu, h_events, h_flue, h_hearth, h_lane, h_lines, h_net, h_out, h_recd, h_rgn, h_sec, h_sl, h_sram, h_twin, h_unit, z_window, z_bist, z_clane, z_clu, z_hrt, z_hrt1, z_pkg, z_recorder, z_sysn, z_twin]) <;> (repeat' split) <;> first | rfl | simp (maxDischargeDepth := 9) only [↓view_ite, ite_self, implies_true, id_eq, ↓view_takeover, ↓view_twinShow, ↓view_hoShow, ↓view_setRole, ↓view_wr, zone_pgTWIN, mod_pgTWIN, ↓view_each, ↓view_modTwin, ↓view_modRg, h_bad, h_chop, h_clu, h_events, h_flue, h_hearth, h_lane, h_lines, h_net, h_out, h_recd, h_rgn, h_sec, h_sl, h_sram, h_twin, h_unit, z_window, z_bist, z_clane, z_clu, z_hrt, z_hrt1, z_pkg, z_recorder, z_sysn, z_twin]

theorem view_resyncAll (w : Work) (h_twin : K .twin = true) :
    view K Z (Work.resyncAll w) = view K Z w := by
  unfold Work.resyncAll
  (try simp (maxDischargeDepth := 9) only [↓view_ite, ite_self, implies_true, id_eq, ↓view_each, ↓view_modTwinRg, h_twin]) <;> (repeat' split) <;> first | rfl | simp (maxDischargeDepth := 9) only [↓view_ite, ite_self, implies_true, id_eq, ↓view_each, ↓view_modTwinRg, h_twin]

theorem view_helloIn (w : Work) (pair : ℕ) (pkg : ℕ) (role : ℕ) (crc : ℕ) (e : ℕ) (h_bad : K .bad = true) (h_chop : K .chop = true) (h_events : K .events = true) (h_flue : K .flue = true) (h_hearth : K .hearth = true) (h_lane : K .lane = true) (h_lines : K .lines = true) (h_net : K .net = true) (h_out : K .out = true) (h_recd : K .recd = true) (h_rgn : K .rgn = true) (h_sl : K .sl = true) (h_sram : K .sram = true) (h_twin : K .twin = true) (h_unit : K .unit = true) (z_hrt : Z (.page .hrt) = true) (z_hrt1 : Z (.page .hrt1) = true) (z_pkg : Z (.page .pkg) = true) (z_recorder : Z (.page .recorder) = true) (z_sysn : Z (.page .sysn) = true) (z_twin : Z (.page .twin) = true) :
    view K Z (Work.helloIn w pair pkg role crc e) = view K Z w := by
  unfold Work.helloIn
  (try simp (maxDischargeDepth := 9) only [↓view_ite, ite_self, implies_true, id_eq, ↓view_twinShow, ↓view_wr, zone_pgTWIN, mod_pgTWIN, ↓view_hello, ↓view_resyncAll, ↓view_modTwin, ↓view_stepDown, ↓view_conflict, h_bad, h_chop, h_events, h_flue, h_hearth, h_lane, h_lines, h_net, h_out, h_recd, h_rgn, h_sl, h_sram, h_twin, h_unit, z_hrt, z_hrt1, z_pkg, z_recorder, z_sysn, z_twin]) <;> (repeat' split) <;> first | rfl | simp (maxDischargeDepth := 9) only [↓view_ite, ite_self, implies_true, id_eq, ↓view_twinShow, ↓view_wr, zone_pgTWIN, mod_pgTWIN, ↓view_hello, ↓view_resyncAll, ↓view_modTwin, ↓view_stepDown, ↓view_conflict, h_bad, h_chop, h_events, h_flue, h_hearth, h_lane, h_lines, h_net, h_out, h_recd, h_rgn, h_sl, h_sram, h_twin, h_unit, z_hrt, z_hrt1, z_pkg, z_recorder, z_sysn, z_twin]

theorem view_copyIn (w : Work) (n : ℕ) (cyc : ℕ) (ofs : ℕ) (ds : List Word) (h_twin : K .twin = true) (z_pkg : Z (.page .pkg) = true) :
    view K Z (Work.copyIn w n cyc ofs ds) = view K Z w := by
  unfold Work.copyIn
  (try simp (maxDischargeDepth := 9) only [↓view_ite, ite_self, implies_true, id_eq, ↓view_discard, ↓view_modTwinRg, h_twin, z_pkg]) <;> (repeat' split) <;> first | rfl | simp (maxDischargeDepth := 9) only [↓view_ite, ite_self, implies_true, id_eq, ↓view_discard, ↓view_modTwinRg, h_twin, z_pkg]

theorem view_copyEnd (w : Work) (n : ℕ) (cyc : ℕ) (len : ℕ) (digest : ℕ) (crc : ℕ) (h_flue : K .flue = true) (h_lines : K .lines = true) (h_out : K .out = true) (h_twin : K .twin = true) (z_hrt : Z (.page .hrt) = true) (z_pkg : Z (.page .pkg) = true) (z_twin : Z (.page .twin) = true) :
    view K Z (Work.copyEnd w n cyc len digest crc) = view K Z w := by
  unfold Work.copyEnd
  (try simp (maxDischargeDepth := 9) only [↓view_ite, ite_self, implies_true, id_eq, ↓view_discard, ↓view_twinShow, ↓view_modTwinRg, ↓view_when, ↓view_wr, zone_pgTWIN, mod_pgTWIN, ↓view_injDone, ↓view_flt, h_flue, h_lines, h_out, h_twin, z_hrt, z_pkg, z_twin]) <;> (repeat' split) <;> first | rfl | simp (maxDischargeDepth := 9) only [↓view_ite, ite_self, implies_true, id_eq, ↓view_discard, ↓view_twinShow, ↓view_modTwinRg, ↓view_when, ↓view_wr, zone_pgTWIN, mod_pgTWIN, ↓view_injDone, ↓view_flt, h_flue, h_lines, h_out, h_twin, z_hrt, z_pkg, z_twin]

theorem view_healthIn (w : Work) (h0 : Word) (h1 : Word) (h2 : Word) (h_flue : K .flue = true) (h_lines : K .lines = true) (h_out : K .out = true) (h_twin : K .twin = true) (z_twin : Z (.page .twin) = true) :
    view K Z (Work.healthIn w h0 h1 h2) = view K Z w := by
  have z1 : Z (zoneOf (pgTWIN + TWIN_HLTH0_READY.off)) = true := by
    rw [zoneOf_add _ _ mod_pgTWIN (by decide), zone_pgTWIN]; exact z_twin
  have z2 : Z (zoneOf (pgTWIN + TWIN_HLTH1_TMAX.off)) = true := by
    rw [zoneOf_add _ _ mod_pgTWIN (by decide), zone_pgTWIN]; exact z_twin
  have z3 : Z (zoneOf (pgTWIN + TWIN_HLTH2_RUN.off)) = true := by
    rw [zoneOf_add _ _ mod_pgTWIN (by decide), zone_pgTWIN]; exact z_twin
  unfold Work.healthIn
  split
  · rfl
  · dsimp only
    rw [view_twinShow _ h_flue h_lines h_out z_twin, view_modTwin _ _ h_twin,
      view_wr _ _ _ _ _ mod_pgTWIN (by rw [zone_pgTWIN]; exact z_twin), view_wr _ _ _ _ _ mod_pgTWIN (by rw [zone_pgTWIN]; exact z_twin),
      view_put _ _ _ z3, view_put _ _ _ z2, view_put _ _ _ z1]

end Sys2Proof.Machine
end

