-- ==== Sys2Proof/Laws/ViewRegion.lean ====
section
/-! SUPPORT. What each operation of Machine/Region.lean can write: the view without those kinds and zones is as it was. -/

set_option linter.unusedSimpArgs false
set_option linter.unreachableTactic false
set_option linter.unusedTactic false
set_option linter.unnecessarySeqFocus false

namespace Sys2Proof.Machine

variable {K : Kind → Bool} {Z : Zone → Bool}

theorem view_slotsUnfiled (w : Work) (n : Nat) (z_window : Z .window = true) :
    view K Z (w.slotsUnfiled n) = view K Z w := by
  unfold Work.slotsUnfiled
  refine view_each_mem _ _ _ fun v a ha => ?_
  have hm := (List.mem_filter.mp ha).2
  rw [Bool.and_eq_true, Bool.and_eq_true, decide_eq_true_eq, decide_eq_true_eq, slotStatAddr, lateAddr] at hm
  obtain ⟨x, rfl⟩ := Nat.exists_eq_add_of_le (show rgBase n ≤ a by omega)
  exact view_put _ _ _ (by rw [zoneOf_window n x (by omega)]; exact z_window)

theorem view_cycSet (w : Work) (n : ℕ) (h_clu : K .clu = true) (h_lane : K .lane = true) (h_rgn : K .rgn = true) (h_twin : K .twin = true) (h_unit : K .unit = true) (z_window : Z .window = true) (z_rg : Z (.page .rg) = true) :
    view K Z (Work.cycSet w n) = view K Z w := by
  unfold Work.cycSet
  (try simp (maxDischargeDepth := 9) only [↓view_ite, ite_self, implies_true, id_eq, ↓view_wr, zone_pgRG, mod_pgRG, ↓view_modRg, ↓view_awaitGrid, ↓view_when, ↓view_slotsUnfiled, ↓view_twinRestart, h_clu, h_lane, h_rgn, h_twin, h_unit, z_window, z_rg]) <;> (repeat' split) <;> first | rfl | simp (maxDischargeDepth := 9) only [↓view_ite, ite_self, implies_true, id_eq, ↓view_wr, zone_pgRG, mod_pgRG, ↓view_modRg, ↓view_awaitGrid, ↓view_when, ↓view_slotsUnfiled, ↓view_twinRestart, h_clu, h_lane, h_rgn, h_twin, h_unit, z_window, z_rg]

theorem view_cycClear (w : Work) (n : ℕ) (h_rgn : K .rgn = true) (z_rg : Z (.page .rg) = true) :
    view K Z (Work.cycClear w n) = view K Z w := by
  unfold Work.cycClear
  (try simp (maxDischargeDepth := 9) only [↓view_ite, ite_self, implies_true, id_eq, ↓view_wr, zone_pgRG, mod_pgRG, ↓view_modRg, h_rgn, z_rg]) <;> (repeat' split) <;> first | rfl | simp (maxDischargeDepth := 9) only [↓view_ite, ite_self, implies_true, id_eq, ↓view_wr, zone_pgRG, mod_pgRG, ↓view_modRg, h_rgn, z_rg]

theorem view_cycWrite (w : Work) (n : ℕ) (v : ℕ) (h_clu : K .clu = true) (h_lane : K .lane = true) (h_rgn : K .rgn = true) (h_twin : K .twin = true) (h_unit : K .unit = true) (z_window : Z .window = true) (z_rg : Z (.page .rg) = true) :
    view K Z (Work.cycWrite w n v) = view K Z w := by
  unfold Work.cycWrite
  (try simp (maxDischargeDepth := 9) only [↓view_ite, ite_self, implies_true, id_eq, ↓view_cycSet, ↓view_cycClear, h_clu, h_lane, h_rgn, h_twin, h_unit, z_window, z_rg]) <;> (repeat' split) <;> first | rfl | simp (maxDischargeDepth := 9) only [↓view_ite, ite_self, implies_true, id_eq, ↓view_cycSet, ↓view_cycClear, h_clu, h_lane, h_rgn, h_twin, h_unit, z_window, z_rg]

theorem view_slotTake (w : Work) (n : ℕ) (k : ℕ) (t0 : ℤ) (expected : Bool) (z_window : Z .window = true) (z_abc : Z (.page .abc) = true) :
    view K Z (Work.slotTake w n k t0 expected) = view K Z w := by
  unfold Work.slotTake
  (try simp (maxDischargeDepth := 9) only [↓view_ite, ite_self, implies_true, id_eq, ↓view_put, zone_slotStatAddr, zone_slotAddr, ↓view_when, ↓view_count, zone_pgABC, mod_pgABC, z_window, z_abc]) <;> (repeat' split) <;> first | rfl | simp (maxDischargeDepth := 9) only [↓view_ite, ite_self, implies_true, id_eq, ↓view_put, zone_slotStatAddr, zone_slotAddr, ↓view_when, ↓view_count, zone_pgABC, mod_pgABC, z_window, z_abc]

theorem view_slotFresh (w : Work) (n : ℕ) (k : ℕ) (v : Word) (ts : ℕ) (z_window : Z .window = true) :
    view K Z (Work.slotFresh w n k v ts) = view K Z w := by
  unfold Work.slotFresh
  (try simp (maxDischargeDepth := 9) only [↓view_ite, ite_self, implies_true, id_eq, ↓view_put, zone_slotStatAddr, zone_slotAddr, z_window]) <;> (repeat' split) <;> first | rfl | simp (maxDischargeDepth := 9) only [↓view_ite, ite_self, implies_true, id_eq, ↓view_put, zone_slotStatAddr, zone_slotAddr, z_window]

theorem view_inputTime (w : Work) (n : ℕ) (h_flue : K .flue = true) (h_lane : K .lane = true) (h_lines : K .lines = true) (h_out : K .out = true) (h_rgn : K .rgn = true) (h_twin : K .twin = true) (h_unit : K .unit = true) (z_window : Z .window = true) (z_abc : Z (.page .abc) = true) (z_hrt : Z (.page .hrt) = true) (z_rg : Z (.page .rg) = true) (z_sp : Z (.page .sp) = true) (z_unit : Z (.page .unit) = true) :
    view K Z (Work.inputTime w n) = view K Z w := by
  unfold Work.inputTime
  (try simp (maxDischargeDepth := 9) only [↓view_ite, ite_self, implies_true, id_eq, ↓view_modTwinRg, ↓view_modRg, ↓view_wr, zone_pgRG, mod_pgRG, ↓view_each, ↓view_slotTake, ↓view_slotFresh, ↓view_reckonStart, h_flue, h_lane, h_lines, h_out, h_rgn, h_twin, h_unit, z_window, z_abc, z_hrt, z_rg, z_sp, z_unit]) <;> (repeat' split) <;> first | rfl | simp (maxDischargeDepth := 9) only [↓view_ite, ite_self, implies_true, id_eq, ↓view_modTwinRg, ↓view_modRg, ↓view_wr, zone_pgRG, mod_pgRG, ↓view_each, ↓view_slotTake, ↓view_slotFresh, ↓view_reckonStart, h_flue, h_lane, h_lines, h_out, h_rgn, h_twin, h_unit, z_window, z_abc, z_hrt, z_rg, z_sp, z_unit]

theorem view_overrun (w : Work) (n : ℕ) (h_bad : K .bad = true) (h_clu : K .clu = true) (h_events : K .events = true) (h_flue : K .flue = true) (h_lane : K .lane = true) (h_lines : K .lines = true) (h_out : K .out = true) (h_recd : K .recd = true) (h_rgn : K .rgn = true) (h_sram : K .sram = true) (h_unit : K .unit = true) (z_abc : Z (.page .abc) = true) (z_clu : Z (.page .clu) = true) (z_recorder : Z (.page .recorder) = true) :
    view K Z (Work.overrun w n) = view K Z w := by
  unfold Work.overrun
  (try simp (maxDischargeDepth := 9) only [↓view_ite, ite_self, implies_true, id_eq, ↓view_modRg, ↓view_recSource, ↓view_wr, zone_pgABC, mod_pgABC, ↓view_count, ↓view_forcedSafeRg, ↓view_flt, h_bad, h_clu, h_events, h_flue, h_lane, h_lines, h_out, h_recd, h_rgn, h_sram, h_unit, z_abc, z_clu, z_recorder]) <;> (repeat' split) <;> first | rfl | simp (maxDischargeDepth := 9) only [↓view_ite, ite_self, implies_true, id_eq, ↓view_modRg, ↓view_recSource, ↓view_wr, zone_pgABC, mod_pgABC, ↓view_count, ↓view_forcedSafeRg, ↓view_flt, h_bad, h_clu, h_events, h_flue, h_lane, h_lines, h_out, h_recd, h_rgn, h_sram, h_unit, z_abc, z_clu, z_recorder]

theorem view_outputTime (w : Work) (n : ℕ) (ilk : List (Fin 192 × BitVec 2)) (h_bad : K .bad = true) (h_clu : K .clu = true) (h_events : K .events = true) (h_flue : K .flue = true) (h_lane : K .lane = true) (h_lines : K .lines = true) (h_out : K .out = true) (h_recd : K .recd = true) (h_rgn : K .rgn = true) (h_sram : K .sram = true) (h_unit : K .unit = true) (z_abc : Z (.page .abc) = true) (z_clu : Z (.page .clu) = true) (z_hrt : Z (.page .hrt) = true) (z_recorder : Z (.page .recorder) = true) (z_rg : Z (.page .rg) = true) (z_unit : Z (.page .unit) = true) :
    view K Z (Work.outputTime w n ilk) = view K Z w := by
  unfold Work.outputTime
  (try simp (maxDischargeDepth := 9) only [↓view_ite, ite_self, implies_true, id_eq, ↓view_each, ↓view_planRegion, ↓view_wr, zone_pgRG, mod_pgRG, ↓view_modRg, ↓view_moveCarrier, ↓view_scheduleRegion, ↓view_when, ↓view_overrun, ↓view_resumeClusters, h_bad, h_clu, h_events, h_flue, h_lane, h_lines, h_out, h_recd, h_rgn, h_sram, h_unit, z_abc, z_clu, z_hrt, z_recorder, z_rg, z_unit]) <;> (repeat' split) <;> first | rfl | simp (maxDischargeDepth := 9) only [↓view_ite, ite_self, implies_true, id_eq, ↓view_each, ↓view_planRegion, ↓view_wr, zone_pgRG, mod_pgRG, ↓view_modRg, ↓view_moveCarrier, ↓view_scheduleRegion, ↓view_when, ↓view_overrun, ↓view_resumeClusters, h_bad, h_clu, h_events, h_flue, h_lane, h_lines, h_out, h_recd, h_rgn, h_sram, h_unit, z_abc, z_clu, z_hrt, z_recorder, z_rg, z_unit]

theorem view_publish (w : Work) (n : ℕ) (h_flue : K .flue = true) (h_lines : K .lines = true) (h_net : K .net = true) (h_out : K .out = true) (h_sl : K .sl = true) (z_sysn : Z (.page .sysn) = true) :
    view K Z (Work.publish w n) = view K Z w := by
  unfold Work.publish
  (try simp (maxDischargeDepth := 9) only [↓view_ite, ite_self, implies_true, id_eq, ↓view_each, ↓view_netSend, h_flue, h_lines, h_net, h_out, h_sl, z_sysn]) <;> (repeat' split) <;> first | rfl | simp (maxDischargeDepth := 9) only [↓view_ite, ite_self, implies_true, id_eq, ↓view_each, ↓view_netSend, h_flue, h_lines, h_net, h_out, h_sl, z_sysn]

theorem view_lockAll (w : Work) (n : ℕ) (b : ℤ) (h_bad : K .bad = true) (h_clu : K .clu = true) (h_events : K .events = true) (h_flue : K .flue = true) (h_lane : K .lane = true) (h_lines : K .lines = true) (h_out : K .out = true) (h_recd : K .recd = true) (h_sram : K .sram = true) (h_unit : K .unit = true) (z_clu : Z (.page .clu) = true) (z_recorder : Z (.page .recorder) = true) (z_unit : Z (.page .unit) = true) :
    view K Z (Work.lockAll w n b) = view K Z w := by
  unfold Work.lockAll
  (try simp (maxDischargeDepth := 9) only [↓view_ite, ite_self, implies_true, id_eq, ↓view_each, ↓view_lockStep, h_bad, h_clu, h_events, h_flue, h_lane, h_lines, h_out, h_recd, h_sram, h_unit, z_clu, z_recorder, z_unit]) <;> (repeat' split) <;> first | rfl | simp (maxDischargeDepth := 9) only [↓view_ite, ite_self, implies_true, id_eq, ↓view_each, ↓view_lockStep, h_bad, h_clu, h_events, h_flue, h_lane, h_lines, h_out, h_recd, h_sram, h_unit, z_clu, z_recorder, z_unit]

theorem view_sealAbacus (w : Work) (n : ℕ) (ok : Bool) (h_latched : K .latched = true) (h_rgn : K .rgn = true) (z_window : Z .window = true) (z_abc : Z (.page .abc) = true) (z_sp : Z (.page .sp) = true) :
    view K Z (Work.sealAbacus w n ok) = view K Z w := by
  unfold Work.sealAbacus
  (try simp (maxDischargeDepth := 9) only [↓view_ite, ite_self, implies_true, id_eq, ↓view_wr, zone_pgABC, mod_pgABC, ↓view_lpSeal, ↓view_spSeal, ↓view_each, ↓view_put, zone_stateWordAddr, zone_outSlotAddr, ↓view_modRg, ↓view_spDrop, h_latched, h_rgn, z_window, z_abc, z_sp]) <;> (repeat' split) <;> first | rfl | simp (maxDischargeDepth := 9) only [↓view_ite, ite_self, implies_true, id_eq, ↓view_wr, zone_pgABC, mod_pgABC, ↓view_lpSeal, ↓view_spSeal, ↓view_each, ↓view_put, zone_stateWordAddr, zone_outSlotAddr, ↓view_modRg, ↓view_spDrop, h_latched, h_rgn, z_window, z_abc, z_sp]

theorem view_sealActive (w : Work) (n : ℕ) (b : ℤ) (h_bad : K .bad = true) (h_clu : K .clu = true) (h_events : K .events = true) (h_flue : K .flue = true) (h_lane : K .lane = true) (h_latched : K .latched = true) (h_lines : K .lines = true) (h_net : K .net = true) (h_out : K .out = true) (h_recd : K .recd = true) (h_rgn : K .rgn = true) (h_sl : K .sl = true) (h_sram : K .sram = true) (h_twin : K .twin = true) (h_unit : K .unit = true) (z_window : Z .window = true) (z_abc : Z (.page .abc) = true) (z_clu : Z (.page .clu) = true) (z_recorder : Z (.page .recorder) = true) (z_rg : Z (.page .rg) = true) (z_sp : Z (.page .sp) = true) (z_sysn : Z (.page .sysn) = true) (z_twin : Z (.page .twin) = true) (z_unit : Z (.page .unit) = true) :
    view K Z (Work.sealActive w n b) = view K Z w := by
  unfold Work.sealActive
  (try simp (maxDischargeDepth := 9) only [↓view_ite, ite_self, implies_true, id_eq, ↓view_when, ↓view_publish, ↓view_recSeal, ↓view_sealView, ↓view_wr, zone_pgRG, mod_pgRG, ↓view_each, ↓view_lockAll, ↓view_modRg, ↓view_sealAbacus, ↓view_recovStep, ↓view_twinSeal, h_bad, h_clu, h_events, h_flue, h_lane, h_latched, h_lines, h_net, h_out, h_recd, h_rgn, h_sl, h_sram, h_twin, h_unit, z_window, z_abc, z_clu, z_recorder, z_rg, z_sp, z_sysn, z_twin, z_unit]) <;> (repeat' split) <;> first | rfl | simp (maxDischargeDepth := 9) only [↓view_ite, ite_self, implies_true, id_eq, ↓view_when, ↓view_publish, ↓view_recSeal, ↓view_sealView, ↓view_wr, zone_pgRG, mod_pgRG, ↓view_each, ↓view_lockAll, ↓view_modRg, ↓view_sealAbacus, ↓view_recovStep, ↓view_twinSeal, h_bad, h_clu, h_events, h_flue, h_lane, h_latched, h_lines, h_net, h_out, h_recd, h_rgn, h_sl, h_sram, h_twin, h_unit, z_window, z_abc, z_clu, z_recorder, z_rg, z_sp, z_sysn, z_twin, z_unit]

theorem view_boundaryStep1 (w : Work) (n : ℕ) (b : ℤ) (swap : Bool) (h_bad : K .bad = true) (h_clu : K .clu = true) (h_events : K .events = true) (h_flue : K .flue = true) (h_lane : K .lane = true) (h_latched : K .latched = true) (h_lines : K .lines = true) (h_net : K .net = true) (h_out : K .out = true) (h_recd : K .recd = true) (h_rgn : K .rgn = true) (h_sl : K .sl = true) (h_sram : K .sram = true) (h_twin : K .twin = true) (h_unit : K .unit = true) (z_window : Z .window = true) (z_abc : Z (.page .abc) = true) (z_clane : Z (.page .clane) = true) (z_clu : Z (.page .clu) = true) (z_pkg : Z (.page .pkg) = true) (z_recorder : Z (.page .recorder) = true) (z_rg : Z (.page .rg) = true) (z_sp : Z (.page .sp) = true) (z_sysn : Z (.page .sysn) = true) (z_twin : Z (.page .twin) = true) (z_unit : Z (.page .unit) = true) :
    view K Z (Work.boundaryStep1 w n b swap) = view K Z w := by
  unfold Work.boundaryStep1
  (try simp (maxDischargeDepth := 9) only [↓view_ite, ite_self, implies_true, id_eq, ↓view_releasing, ↓view_when, ↓view_sealView, ↓view_twinCommit, ↓view_sealActive, ↓view_activate, ↓view_lockAll, h_bad, h_clu, h_events, h_flue, h_lane, h_latched, h_lines, h_net, h_out, h_recd, h_rgn, h_sl, h_sram, h_twin, h_unit, z_window, z_abc, z_clane, z_clu, z_pkg, z_recorder, z_rg, z_sp, z_sysn, z_twin, z_unit]) <;> (repeat' split) <;> first | rfl | simp (maxDischargeDepth := 9) only [↓view_ite, ite_self, implies_true, id_eq, ↓view_releasing, ↓view_when, ↓view_sealView, ↓view_twinCommit, ↓view_sealActive, ↓view_activate, ↓view_lockAll, h_bad, h_clu, h_events, h_flue, h_lane, h_latched, h_lines, h_net, h_out, h_recd, h_rgn, h_sl, h_sram, h_twin, h_unit, z_window, z_abc, z_clane, z_clu, z_pkg, z_recorder, z_rg, z_sp, z_sysn, z_twin, z_unit]

theorem view_latchLive (w : Work) (n : ℕ) (h_latched : K .latched = true) :
    view K Z (Work.latchLive w n) = view K Z w := by
  unfold Work.latchLive
  (try simp (maxDischargeDepth := 9) only [↓view_ite, ite_self, implies_true, id_eq, ↓view_each, ↓view_latch, h_latched]) <;> (repeat' split) <;> first | rfl | simp (maxDischargeDepth := 9) only [↓view_ite, ite_self, implies_true, id_eq, ↓view_each, ↓view_latch, h_latched]

theorem view_boundaryStep3 (w : Work) (n : ℕ) (h_latched : K .latched = true) (h_rgn : K .rgn = true) (h_unit : K .unit = true) (z_unit : Z (.page .unit) = true) (z_wc : Z (.page .wc) = true) :
    view K Z (Work.boundaryStep3 w n) = view K Z w := by
  unfold Work.boundaryStep3
  (try simp (maxDischargeDepth := 9) only [↓view_ite, ite_self, implies_true, id_eq, ↓view_wcBoundary, ↓view_latchLive, ↓view_each, ↓view_lpLatch, ↓view_hdLatch, h_latched, h_rgn, h_unit, z_unit, z_wc]) <;> (repeat' split) <;> first | rfl | simp (maxDischargeDepth := 9) only [↓view_ite, ite_self, implies_true, id_eq, ↓view_wcBoundary, ↓view_latchLive, ↓view_each, ↓view_lpLatch, ↓view_hdLatch, h_latched, h_rgn, h_unit, z_unit, z_wc]

theorem view_boundaryStep4 (w : Work) (n : ℕ) (b : ℤ) (old : List (ℕ × ℕ × ℕ)) (h_bad : K .bad = true) (h_clu : K .clu = true) (h_events : K .events = true) (h_flue : K .flue = true) (h_lane : K .lane = true) (h_lines : K .lines = true) (h_net : K .net = true) (h_out : K .out = true) (h_recd : K .recd = true) (h_rgn : K .rgn = true) (h_sl : K .sl = true) (h_sram : K .sram = true) (h_unit : K .unit = true) (z_clu : Z (.page .clu) = true) (z_recorder : Z (.page .recorder) = true) (z_sysn : Z (.page .sysn) = true) (z_unit : Z (.page .unit) = true) :
    view K Z (Work.boundaryStep4 w n b old) = view K Z w := by
  unfold Work.boundaryStep4
  (try simp (maxDischargeDepth := 9) only [↓view_ite, ite_self, implies_true, id_eq, ↓view_censusBoundary, ↓view_each, ↓view_clusterStep4, h_bad, h_clu, h_events, h_flue, h_lane, h_lines, h_net, h_out, h_recd, h_rgn, h_sl, h_sram, h_unit, z_clu, z_recorder, z_sysn, z_unit]) <;> (repeat' split) <;> first | rfl | simp (maxDischargeDepth := 9) only [↓view_ite, ite_self, implies_true, id_eq, ↓view_censusBoundary, ↓view_each, ↓view_clusterStep4, h_bad, h_clu, h_events, h_flue, h_lane, h_lines, h_net, h_out, h_recd, h_rgn, h_sl, h_sram, h_unit, z_clu, z_recorder, z_sysn, z_unit]

theorem view_boundaryStep5 (w : Work) (n : ℕ) (b : ℤ) (nb : ℤ) (h_rgn : K .rgn = true) (z_abc : Z (.page .abc) = true) (z_rg : Z (.page .rg) = true) (z_sp : Z (.page .sp) = true) :
    view K Z (Work.boundaryStep5 w n b nb) = view K Z w := by
  unfold Work.boundaryStep5
  (try simp (maxDischargeDepth := 9) only [↓view_ite, ite_self, implies_true, id_eq, ↓view_modRg, ↓view_wr, zone_pgABC, mod_pgABC, zone_pgRG, mod_pgRG, ↓view_stamp, ↓view_spAdvance, ↓view_spFallback, h_rgn, z_abc, z_rg, z_sp]) <;> (repeat' split) <;> first | rfl | simp (maxDischargeDepth := 9) only [↓view_ite, ite_self, implies_true, id_eq, ↓view_modRg, ↓view_wr, zone_pgABC, mod_pgABC, zone_pgRG, mod_pgRG, ↓view_stamp, ↓view_spAdvance, ↓view_spFallback, h_rgn, z_abc, z_rg, z_sp]

theorem view_boundary (w : Work) (n : ℕ) (h_bad : K .bad = true) (h_clu : K .clu = true) (h_events : K .events = true) (h_flue : K .flue = true) (h_hearth : K .hearth = true) (h_lane : K .lane = true) (h_latched : K .latched = true) (h_lines : K .lines = true) (h_net : K .net = true) (h_out : K .out = true) (h_recd : K .recd = true) (h_rgn : K .rgn = true) (h_shadow : K .shadow = true) (h_sl : K .sl = true) (h_sram : K .sram = true) (h_twin : K .twin = true) (h_unit : K .unit = true) (z_window : Z .window = true) (z_abc : Z (.page .abc) = true) (z_clane : Z (.page .clane) = true) (z_clu : Z (.page .clu) = true) (z_pkg : Z (.page .pkg) = true) (z_recorder : Z (.page .recorder) = true) (z_rg : Z (.page .rg) = true) (z_sp : Z (.page .sp) = true) (z_sysn : Z (.page .sysn) = true) (z_twin : Z (.page .twin) = true) (z_unit : Z (.page .unit) = true) (z_wc : Z (.page .wc) = true) :
    view K Z (Work.boundary w n) = view K Z w := by
  unfold Work.boundary
  (try simp (maxDischargeDepth := 9) only [↓view_ite, ite_self, implies_true, id_eq, ↓view_when, ↓view_leaveCycle, ↓view_boundaryStep4, ↓view_boundaryStep3, ↓view_boundaryStep1, ↓view_exchangeRegion, ↓view_wr, zone_pgRG, mod_pgRG, ↓view_boundaryStep5, ↓view_twinShow, h_bad, h_clu, h_events, h_flue, h_hearth, h_lane, h_latched, h_lines, h_net, h_out, h_recd, h_rgn, h_shadow, h_sl, h_sram, h_twin, h_unit, z_window, z_abc, z_clane, z_clu, z_pkg, z_recorder, z_rg, z_sp, z_sysn, z_twin, z_unit, z_wc]) <;> (repeat' split) <;> first | rfl | simp (maxDischargeDepth := 9) only [↓view_ite, ite_self, implies_true, id_eq, ↓view_when, ↓view_leaveCycle, ↓view_boundaryStep4, ↓view_boundaryStep3, ↓view_boundaryStep1, ↓view_exchangeRegion, ↓view_wr, zone_pgRG, mod_pgRG, ↓view_boundaryStep5, ↓view_twinShow, h_bad, h_clu, h_events, h_flue, h_hearth, h_lane, h_latched, h_lines, h_net, h_out, h_recd, h_rgn, h_shadow, h_sl, h_sram, h_twin, h_unit, z_window, z_abc, z_clane, z_clu, z_pkg, z_recorder, z_rg, z_sp, z_sysn, z_twin, z_unit, z_wc]

theorem view_readT0 (w : Work) (n : ℕ) (h_rgn : K .rgn = true) :
    view K Z (Work.readT0 w n).1 = view K Z w := by
  unfold Work.readT0
  (try simp (maxDischargeDepth := 9) only [↓view_ite, ite_self, implies_true, id_eq, ↓view_modRg, h_rgn]) <;> (repeat' split) <;> first | rfl | simp (maxDischargeDepth := 9) only [↓view_ite, ite_self, implies_true, id_eq, ↓view_modRg, h_rgn]

end Sys2Proof.Machine
end

