-- ==== Sys2Proof/Laws/ViewHostWrite.lean ====
section
/-! SUPPORT. What each operation of Machine/HostWrite.lean can write: the view without those kinds and zones is as it was. -/

set_option linter.unusedSimpArgs false
set_option linter.unreachableTactic false
set_option linter.unusedTactic false
set_option linter.unnecessarySeqFocus false

namespace Sys2Proof.Machine

variable {K : Kind → Bool} {Z : Zone → Bool}

theorem view_emberStage (w : Work) (a : ℕ) (x : Word) (h_ember : K .ember = true) (z_emb : Z (.page .emb) = true) :
    view K Z (Work.emberStage w a x) = view K Z w := by
  unfold Work.emberStage
  (try simp (maxDischargeDepth := 9) only [↓view_ite, ite_self, implies_true, id_eq, ↓view_modEmber, ↓view_when, ↓view_wr, zone_pgEMB, mod_pgEMB, h_ember, z_emb]) <;> (repeat' split) <;> first | rfl | simp (maxDischargeDepth := 9) only [↓view_ite, ite_self, implies_true, id_eq, ↓view_modEmber, ↓view_when, ↓view_wr, zone_pgEMB, mod_pgEMB, h_ember, z_emb]

end Sys2Proof.Machine
end

