-- ==== Sys2Proof/Laws/ViewThermal.lean ====
section
/-! SUPPORT. What each operation of Machine/Thermal.lean can write: the view without those kinds and zones is as it was. -/

set_option linter.unusedSimpArgs false
set_option linter.unreachableTactic false
set_option linter.unusedTactic false
set_option linter.unnecessarySeqFocus false

namespace Sys2Proof.Machine

variable {K : Kind → Bool} {Z : Zone → Bool}

theorem view_sensorBad (w : Work) (i : ℕ) (h_bad : K .bad = true) (h_chop : K .chop = true) (h_clu : K .clu = true) (h_events : K .events = true) (h_flue : K .flue = true) (h_hearth : K .hearth = true) (h_lane : K .lane = true) (h_lines : K .lines = true) (h_net : K .net = true) (h_out : K .out = true) (h_recd : K .recd = true) (h_sl : K .sl = true) (h_sram : K .sram = true) (h_unit : K .unit = true) (z_clu : Z (.page .clu) = true) (z_hrt : Z (.page .hrt) = true) (z_hrt1 : Z (.page .hrt1) = true) (z_hrt2 : Z (.page .hrt2) = true) (z_pkg : Z (.page .pkg) = true) (z_recorder : Z (.page .recorder) = true) (z_sysn : Z (.page .sysn) = true) (z_therm : Z (.page .therm) = true) :
    view K Z (Work.sensorBad w i) = view K Z w := by
  unfold Work.sensorBad
  (try simp (maxDischargeDepth := 9) only [↓view_ite, ite_self, implies_true, id_eq, ↓view_flt, zone_pgTHERM, mod_pgTHERM, ↓view_count, ↓view_clrBit, ↓view_hearthFatal, h_bad, h_chop, h_clu, h_events, h_flue, h_hearth, h_lane, h_lines, h_net, h_out, h_recd, h_sl, h_sram, h_unit, z_clu, z_hrt, z_hrt1, z_hrt2, z_pkg, z_recorder, z_sysn, z_therm]) <;> (repeat' split) <;> first | rfl | simp (maxDischargeDepth := 9) only [↓view_ite, ite_self, implies_true, id_eq, ↓view_flt, zone_pgTHERM, mod_pgTHERM, ↓view_count, ↓view_clrBit, ↓view_hearthFatal, h_bad, h_chop, h_clu, h_events, h_flue, h_hearth, h_lane, h_lines, h_net, h_out, h_recd, h_sl, h_sram, h_unit, z_clu, z_hrt, z_hrt1, z_hrt2, z_pkg, z_recorder, z_sysn, z_therm]

theorem view_sensorInject (w : Work) (grad : ℕ → ℤ) (z_hrt : Z (.page .hrt) = true) (z_therm : Z (.page .therm) = true) :
    view K Z (Work.sensorInject w grad) = view K Z w := by
  unfold Work.sensorInject
  (try simp (maxDischargeDepth := 9) only [↓view_ite, ite_self, implies_true, id_eq, ↓view_injDone, zone_pgTHERM, mod_pgTHERM, z_hrt, z_therm]) <;> (repeat' split) <;> first | rfl | simp (maxDischargeDepth := 9) only [↓view_ite, ite_self, implies_true, id_eq, ↓view_injDone, zone_pgTHERM, mod_pgTHERM, z_hrt, z_therm]

theorem view_crossCheck (w : Work) (grad : ℕ → ℤ) (h_bad : K .bad = true) (h_chop : K .chop = true) (h_clu : K .clu = true) (h_events : K .events = true) (h_flue : K .flue = true) (h_hearth : K .hearth = true) (h_lane : K .lane = true) (h_lines : K .lines = true) (h_net : K .net = true) (h_out : K .out = true) (h_recd : K .recd = true) (h_sl : K .sl = true) (h_sram : K .sram = true) (h_therm : K .therm = true) (h_unit : K .unit = true) (z_clu : Z (.page .clu) = true) (z_hrt : Z (.page .hrt) = true) (z_hrt1 : Z (.page .hrt1) = true) (z_hrt2 : Z (.page .hrt2) = true) (z_pkg : Z (.page .pkg) = true) (z_recorder : Z (.page .recorder) = true) (z_sysn : Z (.page .sysn) = true) (z_therm : Z (.page .therm) = true) :
    view K Z (Work.crossCheck w grad) = view K Z w := by
  unfold Work.crossCheck
  (try simp (maxDischargeDepth := 9) only [↓view_ite, ite_self, implies_true, id_eq, ↓view_each, ↓view_modTherm, ↓view_wr, zone_pgTHERM, mod_pgTHERM, ↓view_count, ↓view_sensorInject, ↓view_sensorBad, h_bad, h_chop, h_clu, h_events, h_flue, h_hearth, h_lane, h_lines, h_net, h_out, h_recd, h_sl, h_sram, h_therm, h_unit, z_clu, z_hrt, z_hrt1, z_hrt2, z_pkg, z_recorder, z_sysn, z_therm]) <;> (repeat' split) <;> first | rfl | simp (maxDischargeDepth := 9) only [↓view_ite, ite_self, implies_true, id_eq, ↓view_each, ↓view_modTherm, ↓view_wr, zone_pgTHERM, mod_pgTHERM, ↓view_count, ↓view_sensorInject, ↓view_sensorBad, h_bad, h_chop, h_clu, h_events, h_flue, h_hearth, h_lane, h_lines, h_net, h_out, h_recd, h_sl, h_sram, h_therm, h_unit, z_clu, z_hrt, z_hrt1, z_hrt2, z_pkg, z_recorder, z_sysn, z_therm]

theorem view_tempShow (w : Work) (h_therm : K .therm = true) (z_therm : Z (.page .therm) = true) :
    view K Z (Work.tempShow w) = view K Z w := by
  unfold Work.tempShow
  extract_lets a b
  have ha : view K Z a = view K Z w := by
    show view K Z (match w.hottest (upto 14) with
      | some t => ((w.modTherm fun k => { k with peak := some (max t (w.therm.peak.getD t)) }).wr pgTHERM THERM_TSTAT_TMAX
          (showTemp t)).wr pgTHERM THERM_PEAK (showTemp (max t (w.therm.peak.getD t)))
      | none => w) = _
    cases w.hottest (upto 14) <;> simp only [↓view_wr, ↓view_modTherm, mod_pgTHERM, zone_pgTHERM, h_therm, z_therm]
  have hb : view K Z b = view K Z a := by
    show view K Z (match ((a.goodOf (upto 14)).map a.temp).min? with
      | some t => a.wr pgTHERM THERM_TSTAT_TMIN (showTemp t)
      | none => a) = _
    cases ((a.goodOf (upto 14)).map a.temp).min? <;> simp only [↓view_wr, mod_pgTHERM, zone_pgTHERM, h_therm, z_therm]
  rw [← ha, ← hb]
  refine view_each _ _ _ fun v e => ?_
  cases v.hottest (dieSensors e.1) <;> simp only [↓view_wr, mod_pgTHERM, zone_pgTHERM, h_therm, z_therm]

theorem view_fastSample (w : Work) (h_therm : K .therm = true) (z_therm : Z (.page .therm) = true) :
    view K Z (Work.fastSample w) = view K Z w := by
  unfold Work.fastSample
  (try simp (maxDischargeDepth := 9) only [↓view_ite, ite_self, implies_true, id_eq, ↓view_modTherm, ↓view_count, zone_pgTHERM, mod_pgTHERM, ↓view_wr, h_therm, z_therm]) <;> (repeat' split) <;> first | rfl | simp (maxDischargeDepth := 9) only [↓view_ite, ite_self, implies_true, id_eq, ↓view_modTherm, ↓view_count, zone_pgTHERM, mod_pgTHERM, ↓view_wr, h_therm, z_therm]

theorem view_kFail (w : Work) (step : ℕ) (cause : ℕ) (z_pkg : Z (.page .pkg) = true) :
    view K Z (Work.kFail w step cause) = view K Z w := by
  unfold Work.kFail
  (try simp (maxDischargeDepth := 9) only [↓view_ite, ite_self, implies_true, id_eq, ↓view_wr, zone_pgPKG, mod_pgPKG, z_pkg]) <;> (repeat' split) <;> first | rfl | simp (maxDischargeDepth := 9) only [↓view_ite, ite_self, implies_true, id_eq, ↓view_wr, zone_pgPKG, mod_pgPKG, z_pkg]

theorem view_shutdownCheck (w : Work) (h_bad : K .bad = true) (h_chop : K .chop = true) (h_clu : K .clu = true) (h_events : K .events = true) (h_flue : K .flue = true) (h_hearth : K .hearth = true) (h_kin : K .kin = true) (h_lane : K .lane = true) (h_lines : K .lines = true) (h_net : K .net = true) (h_out : K .out = true) (h_recd : K .recd = true) (h_sl : K .sl = true) (h_sram : K .sram = true) (h_therm : K .therm = true) (h_unit : K .unit = true) (z_clu : Z (.page .clu) = true) (z_hrt : Z (.page .hrt) = true) (z_hrt1 : Z (.page .hrt1) = true) (z_hrt2 : Z (.page .hrt2) = true) (z_pkg : Z (.page .pkg) = true) (z_recorder : Z (.page .recorder) = true) (z_sysn : Z (.page .sysn) = true) (z_therm : Z (.page .therm) = true) :
    view K Z (Work.shutdownCheck w) = view K Z w := by
  unfold Work.shutdownCheck
  (try simp (maxDischargeDepth := 9) only [↓view_ite, ite_self, implies_true, id_eq, ↓view_modTherm, ↓view_modKin, ↓view_hearthFatal, zone_pgTHERM, mod_pgTHERM, ↓view_when, ↓view_kFail, h_bad, h_chop, h_clu, h_events, h_flue, h_hearth, h_kin, h_lane, h_lines, h_net, h_out, h_recd, h_sl, h_sram, h_therm, h_unit, z_clu, z_hrt, z_hrt1, z_hrt2, z_pkg, z_recorder, z_sysn, z_therm]) <;> (repeat' split) <;> first | rfl | simp (maxDischargeDepth := 9) only [↓view_ite, ite_self, implies_true, id_eq, ↓view_modTherm, ↓view_modKin, ↓view_hearthFatal, zone_pgTHERM, mod_pgTHERM, ↓view_when, ↓view_kFail, h_bad, h_chop, h_clu, h_events, h_flue, h_hearth, h_kin, h_lane, h_lines, h_net, h_out, h_recd, h_sl, h_sram, h_therm, h_unit, z_clu, z_hrt, z_hrt1, z_hrt2, z_pkg, z_recorder, z_sysn, z_therm]

theorem view_tempSample (w : Work) (t : ℕ → ℤ) (grad : ℕ → ℤ) (h_bad : K .bad = true) (h_chop : K .chop = true) (h_clu : K .clu = true) (h_events : K .events = true) (h_flue : K .flue = true) (h_hearth : K .hearth = true) (h_kin : K .kin = true) (h_lane : K .lane = true) (h_lines : K .lines = true) (h_net : K .net = true) (h_out : K .out = true) (h_recd : K .recd = true) (h_sl : K .sl = true) (h_sram : K .sram = true) (h_therm : K .therm = true) (h_unit : K .unit = true) (z_clu : Z (.page .clu) = true) (z_hrt : Z (.page .hrt) = true) (z_hrt1 : Z (.page .hrt1) = true) (z_hrt2 : Z (.page .hrt2) = true) (z_pkg : Z (.page .pkg) = true) (z_recorder : Z (.page .recorder) = true) (z_sysn : Z (.page .sysn) = true) (z_therm : Z (.page .therm) = true) :
    view K Z (Work.tempSample w t grad) = view K Z w := by
  unfold Work.tempSample
  (try simp (maxDischargeDepth := 9) only [↓view_ite, ite_self, implies_true, id_eq, ↓view_shutdownCheck, ↓view_wr, zone_pgTHERM, mod_pgTHERM, ↓view_fastSample, ↓view_tempShow, ↓view_crossCheck, ↓view_each, ↓view_sensorBad, h_bad, h_chop, h_clu, h_events, h_flue, h_hearth, h_kin, h_lane, h_lines, h_net, h_out, h_recd, h_sl, h_sram, h_therm, h_unit, z_clu, z_hrt, z_hrt1, z_hrt2, z_pkg, z_recorder, z_sysn, z_therm]) <;> (repeat' split) <;> first | rfl | simp (maxDischargeDepth := 9) only [↓view_ite, ite_self, implies_true, id_eq, ↓view_shutdownCheck, ↓view_wr, zone_pgTHERM, mod_pgTHERM, ↓view_fastSample, ↓view_tempShow, ↓view_crossCheck, ↓view_each, ↓view_sensorBad, h_bad, h_chop, h_clu, h_events, h_flue, h_hearth, h_kin, h_lane, h_lines, h_net, h_out, h_recd, h_sl, h_sram, h_therm, h_unit, z_clu, z_hrt, z_hrt1, z_hrt2, z_pkg, z_recorder, z_sysn, z_therm]

theorem view_peakReset (w : Work) (h_therm : K .therm = true) (z_therm : Z (.page .therm) = true) :
    view K Z (Work.peakReset w) = view K Z w := by
  unfold Work.peakReset
  (try simp (maxDischargeDepth := 9) only [↓view_ite, ite_self, implies_true, id_eq, ↓view_modTherm, ↓view_wr, zone_pgTHERM, mod_pgTHERM, h_therm, z_therm]) <;> (repeat' split) <;> first | rfl | simp (maxDischargeDepth := 9) only [↓view_ite, ite_self, implies_true, id_eq, ↓view_modTherm, ↓view_wr, zone_pgTHERM, mod_pgTHERM, h_therm, z_therm]

end Sys2Proof.Machine
end

