-- ==== Sys2Proof/Laws/ViewKindling.lean ====
section
/-! SUPPORT. What each operation of Machine/Kindling.lean can write: the view without those kinds and zones is as it was. -/

set_option linter.unusedSimpArgs false
set_option linter.unreachableTactic false
set_option linter.unusedTactic false
set_option linter.unnecessarySeqFocus false

namespace Sys2Proof.Machine

variable {K : Kind → Bool} {Z : Zone → Bool}

theorem view_regionRegs (w : Work) (n : Nat) (h_latched : K .latched = true) (z_abc : Z (.page .abc) = true) (z_clane : Z (.page .clane) = true) (z_clu : Z (.page .clu) = true) (z_rg : Z (.page .rg) = true) (z_sp : Z (.page .sp) = true) (z_unit : Z (.page .unit) = true) (z_window : Z .window = true) :
    view K Z (w.regionRegs n) = view K Z w := by
  unfold Work.regionRegs
  refine (view_dropLatched _ _ h_latched).trans (view_each_mem _ _ _ fun v a ha => ?_)
  have hm := (List.mem_filter.mp ha).2
  rw [inRegion, Bool.and_eq_true, decide_eq_true_eq, decide_eq_true_eq, rgBase] at hm
  exact view_put _ _ _ (zone_high a (by omega) z_rg z_abc z_sp z_clu z_clane z_unit z_window)

theorem view_regionResetStart (w : Work) (n : ℕ) (h_adc : K .adc = true) (h_chop : K .chop = true) (h_clu : K .clu = true) (h_events : K .events = true) (h_flue : K .flue = true) (h_hearth : K .hearth = true) (h_kin : K .kin = true) (h_lane : K .lane = true) (h_latched : K .latched = true) (h_lines : K .lines = true) (h_net : K .net = true) (h_out : K .out = true) (h_recd : K .recd = true) (h_rgn : K .rgn = true) (h_sec : K .sec = true) (h_sl : K .sl = true) (h_twin : K .twin = true) (h_unit : K .unit = true) (z_window : Z .window = true) (z_abc : Z (.page .abc) = true) (z_ad : Z (.page .ad) = true) (z_bist : Z (.page .bist) = true) (z_clane : Z (.page .clane) = true) (z_clu : Z (.page .clu) = true) (z_hrt : Z (.page .hrt) = true) (z_hrt1 : Z (.page .hrt1) = true) (z_pkg : Z (.page .pkg) = true) (z_rg : Z (.page .rg) = true) (z_sp : Z (.page .sp) = true) (z_sysn : Z (.page .sysn) = true) (z_unit : Z (.page .unit) = true) :
    view K Z (Work.regionResetStart w n) = view K Z w := by
  unfold Work.regionResetStart
  (try simp (maxDischargeDepth := 9) only [↓view_ite, ite_self, implies_true, id_eq, ↓view_hearthShow, ↓view_twinRestart, ↓view_fence, ↓view_each, ↓view_modRg, ↓view_modKin, ↓view_zeroSlots, ↓view_regionRegs, ↓view_fenceRegion, ↓view_bistAbort, ↓view_modLn, ↓view_modCl, ↓view_modUn, ↓view_wr, zone_pgCLU, mod_pgCLU, ↓view_lpInit, ↓view_spInit, h_adc, h_chop, h_clu, h_events, h_flue, h_hearth, h_kin, h_lane, h_latched, h_lines, h_net, h_out, h_recd, h_rgn, h_sec, h_sl, h_twin, h_unit, z_window, z_abc, z_ad, z_bist, z_clane, z_clu, z_hrt, z_hrt1, z_pkg, z_rg, z_sp, z_sysn, z_unit]) <;> (repeat' split) <;> first | rfl | simp (maxDischargeDepth := 9) only [↓view_ite, ite_self, implies_true, id_eq, ↓view_hearthShow, ↓view_twinRestart, ↓view_fence, ↓view_each, ↓view_modRg, ↓view_modKin, ↓view_zeroSlots, ↓view_regionRegs, ↓view_fenceRegion, ↓view_bistAbort, ↓view_modLn, ↓view_modCl, ↓view_modUn, ↓view_wr, zone_pgCLU, mod_pgCLU, ↓view_lpInit, ↓view_spInit, h_adc, h_chop, h_clu, h_events, h_flue, h_hearth, h_kin, h_lane, h_latched, h_lines, h_net, h_out, h_recd, h_rgn, h_sec, h_sl, h_twin, h_unit, z_window, z_abc, z_ad, z_bist, z_clane, z_clu, z_hrt, z_hrt1, z_pkg, z_rg, z_sp, z_sysn, z_unit]

theorem view_regionReset (w : Work) (rgs : ℕ) (h_adc : K .adc = true) (h_chop : K .chop = true) (h_clu : K .clu = true) (h_events : K .events = true) (h_flue : K .flue = true) (h_hearth : K .hearth = true) (h_kin : K .kin = true) (h_lane : K .lane = true) (h_latched : K .latched = true) (h_lines : K .lines = true) (h_net : K .net = true) (h_out : K .out = true) (h_recd : K .recd = true) (h_rgn : K .rgn = true) (h_sec : K .sec = true) (h_sl : K .sl = true) (h_twin : K .twin = true) (h_unit : K .unit = true) (z_window : Z .window = true) (z_abc : Z (.page .abc) = true) (z_ad : Z (.page .ad) = true) (z_bist : Z (.page .bist) = true) (z_clane : Z (.page .clane) = true) (z_clu : Z (.page .clu) = true) (z_hrt : Z (.page .hrt) = true) (z_hrt1 : Z (.page .hrt1) = true) (z_pkg : Z (.page .pkg) = true) (z_rg : Z (.page .rg) = true) (z_sp : Z (.page .sp) = true) (z_sysn : Z (.page .sysn) = true) (z_unit : Z (.page .unit) = true) :
    view K Z (Work.regionReset w rgs) = view K Z w := by
  unfold Work.regionReset
  (try simp (maxDischargeDepth := 9) only [↓view_ite, ite_self, implies_true, id_eq, ↓view_each, ↓view_badval, zone_pgRG, mod_pgRG, ↓view_regionResetStart, h_adc, h_chop, h_clu, h_events, h_flue, h_hearth, h_kin, h_lane, h_latched, h_lines, h_net, h_out, h_recd, h_rgn, h_sec, h_sl, h_twin, h_unit, z_window, z_abc, z_ad, z_bist, z_clane, z_clu, z_hrt, z_hrt1, z_pkg, z_rg, z_sp, z_sysn, z_unit]) <;> (repeat' split) <;> first | rfl | simp (maxDischargeDepth := 9) only [↓view_ite, ite_self, implies_true, id_eq, ↓view_each, ↓view_badval, zone_pgRG, mod_pgRG, ↓view_regionResetStart, h_adc, h_chop, h_clu, h_events, h_flue, h_hearth, h_kin, h_lane, h_latched, h_lines, h_net, h_out, h_recd, h_rgn, h_sec, h_sl, h_twin, h_unit, z_window, z_abc, z_ad, z_bist, z_clane, z_clu, z_hrt, z_hrt1, z_pkg, z_rg, z_sp, z_sysn, z_unit]

theorem view_dieReset (w : Work) (dies : ℕ) (h_adc : K .adc = true) (h_chop : K .chop = true) (h_clu : K .clu = true) (h_events : K .events = true) (h_flue : K .flue = true) (h_hearth : K .hearth = true) (h_kin : K .kin = true) (h_lane : K .lane = true) (h_latched : K .latched = true) (h_lines : K .lines = true) (h_net : K .net = true) (h_out : K .out = true) (h_recd : K .recd = true) (h_rgn : K .rgn = true) (h_sec : K .sec = true) (h_sl : K .sl = true) (h_therm : K .therm = true) (h_twin : K .twin = true) (h_unit : K .unit = true) (z_window : Z .window = true) (z_abc : Z (.page .abc) = true) (z_ad : Z (.page .ad) = true) (z_bist : Z (.page .bist) = true) (z_clane : Z (.page .clane) = true) (z_clu : Z (.page .clu) = true) (z_hrt : Z (.page .hrt) = true) (z_hrt1 : Z (.page .hrt1) = true) (z_pkg : Z (.page .pkg) = true) (z_rg : Z (.page .rg) = true) (z_sp : Z (.page .sp) = true) (z_sysn : Z (.page .sysn) = true) (z_unit : Z (.page .unit) = true) :
    view K Z (Work.dieReset w dies) = view K Z w := by
  unfold Work.dieReset
  refine view_each_mem _ _ _ fun x d hdm => ?_
  split
  · simp only [↓view_badval, mod_pgPKG, zone_pgPKG, h_adc, h_chop, h_clu, h_events, h_flue, h_hearth, h_kin, h_lane, h_latched, h_lines, h_net, h_out, h_recd, h_rgn, h_sec, h_sl, h_therm, h_twin, h_unit, z_window, z_abc, z_ad, z_bist, z_clane, z_clu, z_hrt, z_hrt1, z_pkg, z_rg, z_sp, z_sysn, z_unit]
  · extract_lets w1 here w2 w3
    have e1 : view K Z w1 = view K Z x := by
      show view K Z ((x.regionResetStart (2 * d)).regionResetStart (2 * d + 1)) = _
      simp only [↓view_regionResetStart, h_adc, h_chop, h_clu, h_events, h_flue, h_hearth, h_kin, h_lane, h_latched, h_lines, h_net, h_out, h_recd, h_rgn, h_sec, h_sl, h_therm, h_twin, h_unit, z_window, z_abc, z_ad, z_bist, z_clane, z_clu, z_hrt, z_hrt1, z_pkg, z_rg, z_sp, z_sysn, z_unit]
    have e2 : view K Z w2 = view K Z w1 := by
      show view K Z ((w1.dropRegs here).stallEnd _) = _
      rw [view_stallEnd _ _ h_hearth]
      refine view_dropRegs _ _ fun a ha => ?_
      rw [Bool.and_eq_true, decide_eq_true_eq, decide_eq_true_eq] at ha
      have hd : d < 2 := by
        have := (List.mem_filter.mp hdm).1
        exact List.mem_range.mp this
      rw [show a = pgPKG + (a - pgPKG) by omega, zoneOf_add _ _ mod_pgPKG (by omega), zone_pgPKG]
      exact z_pkg
    rw [← e1, ← e2]
    simp only [↓view_modKin, ↓view_fence, ↓view_modTherm, h_adc, h_chop, h_clu, h_events, h_flue, h_hearth, h_kin, h_lane, h_latched, h_lines, h_net, h_out, h_recd, h_rgn, h_sec, h_sl, h_therm, h_twin, h_unit, z_window, z_abc, z_ad, z_bist, z_clane, z_clu, z_hrt, z_hrt1, z_pkg, z_rg, z_sp, z_sysn, z_unit]
    exact view_modTherm _ _ h_therm

theorem view_regionResetEnd (w : Work) (n : ℕ) (h_bad : K .bad = true) (h_clu : K .clu = true) (h_events : K .events = true) (h_flue : K .flue = true) (h_hearth : K .hearth = true) (h_kin : K .kin = true) (h_lane : K .lane = true) (h_lines : K .lines = true) (h_out : K .out = true) (h_recd : K .recd = true) (h_rgn : K .rgn = true) (h_shadow : K .shadow = true) (h_sl : K .sl = true) (h_sram : K .sram = true) (h_twin : K .twin = true) (h_unit : K .unit = true) (z_window : Z .window = true) (z_abc : Z (.page .abc) = true) (z_clane : Z (.page .clane) = true) (z_clu : Z (.page .clu) = true) (z_pkg : Z (.page .pkg) = true) (z_recorder : Z (.page .recorder) = true) (z_rg : Z (.page .rg) = true) (z_sp : Z (.page .sp) = true) (z_sysn : Z (.page .sysn) = true) (z_twin : Z (.page .twin) = true) (z_unit : Z (.page .unit) = true) :
    view K Z (Work.regionResetEnd w n) = view K Z w := by
  unfold Work.regionResetEnd
  (try simp (maxDischargeDepth := 9) only [↓view_ite, ite_self, implies_true, id_eq, ↓view_twinShow, ↓view_when, ↓view_modRg, ↓view_stallEnd, ↓view_modKin, ↓view_exchangeRegion, ↓view_unfenceRegion, ↓view_fence, h_bad, h_clu, h_events, h_flue, h_hearth, h_kin, h_lane, h_lines, h_out, h_recd, h_rgn, h_shadow, h_sl, h_sram, h_twin, h_unit, z_window, z_abc, z_clane, z_clu, z_pkg, z_recorder, z_rg, z_sp, z_sysn, z_twin, z_unit]) <;> (repeat' split) <;> first | rfl | simp (maxDischargeDepth := 9) only [↓view_ite, ite_self, implies_true, id_eq, ↓view_twinShow, ↓view_when, ↓view_modRg, ↓view_stallEnd, ↓view_modKin, ↓view_exchangeRegion, ↓view_unfenceRegion, ↓view_fence, h_bad, h_clu, h_events, h_flue, h_hearth, h_kin, h_lane, h_lines, h_out, h_recd, h_rgn, h_shadow, h_sl, h_sram, h_twin, h_unit, z_window, z_abc, z_clane, z_clu, z_pkg, z_recorder, z_rg, z_sp, z_sysn, z_twin, z_unit]

theorem view_kindle (w : Work) (z_emb : Z (.page .emb) = true) :
    view K Z (Work.kindle w) = view K Z w := by
  unfold Work.kindle
  (try simp (maxDischargeDepth := 9) only [↓view_ite, ite_self, implies_true, id_eq, ↓view_wr, zone_pgEMB, mod_pgEMB, z_emb]) <;> (repeat' split) <;> first | rfl | simp (maxDischargeDepth := 9) only [↓view_ite, ite_self, implies_true, id_eq, ↓view_wr, zone_pgEMB, mod_pgEMB, z_emb]

theorem view_strapAt (w : Work) (strap : ℕ) (h_kin : K .kin = true) :
    view K Z (Work.strapAt w strap) = view K Z w := by
  unfold Work.strapAt
  (try simp (maxDischargeDepth := 9) only [↓view_ite, ite_self, implies_true, id_eq, ↓view_modKin, h_kin]) <;> (repeat' split) <;> first | rfl | simp (maxDischargeDepth := 9) only [↓view_ite, ite_self, implies_true, id_eq, ↓view_modKin, h_kin]

theorem view_selfCheck (w : Work) (ok : Bool) (h_chop : K .chop = true) (h_flue : K .flue = true) (h_hearth : K .hearth = true) (h_lane : K .lane = true) (h_lines : K .lines = true) (h_net : K .net = true) (h_out : K .out = true) (h_sl : K .sl = true) (z_hrt : Z (.page .hrt) = true) (z_hrt1 : Z (.page .hrt1) = true) (z_pkg : Z (.page .pkg) = true) (z_sysn : Z (.page .sysn) = true) :
    view K Z (Work.selfCheck w ok) = view K Z w := by
  unfold Work.selfCheck
  (try simp (maxDischargeDepth := 9) only [↓view_ite, ite_self, implies_true, id_eq, ↓view_hearthShow, ↓view_wr, zone_pgPKG, mod_pgPKG, ↓view_modHearth, ↓view_kFail, h_chop, h_flue, h_hearth, h_lane, h_lines, h_net, h_out, h_sl, z_hrt, z_hrt1, z_pkg, z_sysn]) <;> (repeat' split) <;> first | rfl | simp (maxDischargeDepth := 9) only [↓view_ite, ite_self, implies_true, id_eq, ↓view_hearthShow, ↓view_wr, zone_pgPKG, mod_pgPKG, ↓view_modHearth, ↓view_kFail, h_chop, h_flue, h_hearth, h_lane, h_lines, h_net, h_out, h_sl, z_hrt, z_hrt1, z_pkg, z_sysn]

theorem view_imageAccept (w : Work) (k : ℕ) (host : Bool) (h_kin : K .kin = true) (z_pkg : Z (.page .pkg) = true) :
    view K Z (Work.imageAccept w k host) = view K Z w := by
  unfold Work.imageAccept
  (try simp (maxDischargeDepth := 9) only [↓view_ite, ite_self, implies_true, id_eq, ↓view_modKin, ↓view_wr, zone_pgPKG, mod_pgPKG, h_kin, z_pkg]) <;> (repeat' split) <;> first | rfl | simp (maxDischargeDepth := 9) only [↓view_ite, ite_self, implies_true, id_eq, ↓view_modKin, ↓view_wr, zone_pgPKG, mod_pgPKG, h_kin, z_pkg]

theorem view_flashRead (w : Work) (img : Option (List Byte)) (h_bad : K .bad = true) (h_dram : K .dram = true) (h_kin : K .kin = true) (z_pkg : Z (.page .pkg) = true) :
    view K Z (Work.flashRead w img) = view K Z w := by
  unfold Work.flashRead
  (try simp (maxDischargeDepth := 9) only [↓view_ite, ite_self, implies_true, id_eq, ↓view_modKin, ↓view_kFail, ↓view_dramPut, ↓view_imageAccept, ↓view_wr, zone_pgPKG, mod_pgPKG, h_bad, h_dram, h_kin, z_pkg]) <;> (repeat' split) <;> first | rfl | simp (maxDischargeDepth := 9) only [↓view_ite, ite_self, implies_true, id_eq, ↓view_modKin, ↓view_kFail, ↓view_dramPut, ↓view_imageAccept, ↓view_wr, zone_pgPKG, mod_pgPKG, h_bad, h_dram, h_kin, z_pkg]

theorem view_imgGo (w : Work) (k : ℕ) (h_bad : K .bad = true) (h_chop : K .chop = true) (h_clu : K .clu = true) (h_events : K .events = true) (h_flue : K .flue = true) (h_hearth : K .hearth = true) (h_kin : K .kin = true) (h_lane : K .lane = true) (h_lines : K .lines = true) (h_net : K .net = true) (h_out : K .out = true) (h_recd : K .recd = true) (h_sl : K .sl = true) (h_sram : K .sram = true) (h_unit : K .unit = true) (z_clu : Z (.page .clu) = true) (z_hrt : Z (.page .hrt) = true) (z_hrt1 : Z (.page .hrt1) = true) (z_hrt2 : Z (.page .hrt2) = true) (z_pkg : Z (.page .pkg) = true) (z_recorder : Z (.page .recorder) = true) (z_rg : Z (.page .rg) = true) (z_sysn : Z (.page .sysn) = true) :
    view K Z (Work.imgGo w k) = view K Z w := by
  unfold Work.imgGo
  (try simp (maxDischargeDepth := 9) only [↓view_ite, ite_self, implies_true, id_eq, ↓view_unlocked, zone_pgPKG, mod_pgPKG, ↓view_wr, ↓view_dramUse, ↓view_imageAccept, ↓view_kFail, ↓view_badval, h_bad, h_chop, h_clu, h_events, h_flue, h_hearth, h_kin, h_lane, h_lines, h_net, h_out, h_recd, h_sl, h_sram, h_unit, z_clu, z_hrt, z_hrt1, z_hrt2, z_pkg, z_recorder, z_rg, z_sysn]) <;> (repeat' split) <;> first | rfl | simp (maxDischargeDepth := 9) only [↓view_ite, ite_self, implies_true, id_eq, ↓view_unlocked, zone_pgPKG, mod_pgPKG, ↓view_wr, ↓view_dramUse, ↓view_imageAccept, ↓view_kFail, ↓view_badval, h_bad, h_chop, h_clu, h_events, h_flue, h_hearth, h_kin, h_lane, h_lines, h_net, h_out, h_recd, h_sl, h_sram, h_unit, z_clu, z_hrt, z_hrt1, z_hrt2, z_pkg, z_recorder, z_rg, z_sysn]

theorem view_slotsRead (w : Work) (h_rgn : K .rgn = true) (h_twin : K .twin = true) (z_cstore : Z (.page .cstore) = true) (z_twin : Z (.page .twin) = true) :
    view K Z (Work.slotsRead w) = view K Z w := by
  unfold Work.slotsRead
  (try simp (maxDischargeDepth := 9) only [↓view_ite, ite_self, implies_true, id_eq, ↓view_when, ↓view_wr, zone_pgCSTORE, mod_pgCSTORE, zone_pgTWIN, mod_pgTWIN, ↓view_each, ↓view_twinRestart, ↓view_modRg, h_rgn, h_twin, z_cstore, z_twin]) <;> (repeat' split) <;> first | rfl | simp (maxDischargeDepth := 9) only [↓view_ite, ite_self, implies_true, id_eq, ↓view_when, ↓view_wr, zone_pgCSTORE, mod_pgCSTORE, zone_pgTWIN, mod_pgTWIN, ↓view_each, ↓view_twinRestart, ↓view_modRg, h_rgn, h_twin, z_cstore, z_twin]

theorem view_loadSealed (w : Work) (bs : List Byte) (h_chop : K .chop = true) (h_flue : K .flue = true) (h_hearth : K .hearth = true) (h_lane : K .lane = true) (h_lines : K .lines = true) (h_net : K .net = true) (h_out : K .out = true) (h_sl : K .sl = true) (z_hrt : Z (.page .hrt) = true) (z_hrt1 : Z (.page .hrt1) = true) (z_pkg : Z (.page .pkg) = true) (z_sysn : Z (.page .sysn) = true) :
    view K Z (Work.loadSealed w bs) = view K Z w := by
  unfold Work.loadSealed
  (try simp (maxDischargeDepth := 9) only [↓view_ite, ite_self, implies_true, id_eq, ↓view_hearthShow, ↓view_wr, zone_pgHRT, mod_pgHRT, ↓view_sealLoad, h_chop, h_flue, h_hearth, h_lane, h_lines, h_net, h_out, h_sl, z_hrt, z_hrt1, z_pkg, z_sysn]) <;> (repeat' split) <;> first | rfl | simp (maxDischargeDepth := 9) only [↓view_ite, ite_self, implies_true, id_eq, ↓view_hearthShow, ↓view_wr, zone_pgHRT, mod_pgHRT, ↓view_sealLoad, h_chop, h_flue, h_hearth, h_lane, h_lines, h_net, h_out, h_sl, z_hrt, z_hrt1, z_pkg, z_sysn]

theorem view_startPackage (w : Work) (h_bad : K .bad = true) (h_cap : K .cap = true) (h_clu : K .clu = true) (h_events : K .events = true) (h_flue : K .flue = true) (h_hearth : K .hearth = true) (h_lane : K .lane = true) (h_lines : K .lines = true) (h_net : K .net = true) (h_out : K .out = true) (h_recd : K .recd = true) (h_sl : K .sl = true) (h_sram : K .sram = true) (h_twin : K .twin = true) (h_unit : K .unit = true) (z_clane : Z (.page .clane) = true) (z_clu : Z (.page .clu) = true) (z_pkg : Z (.page .pkg) = true) (z_recorder : Z (.page .recorder) = true) (z_sysn : Z (.page .sysn) = true) (z_tally : Z (.page .tally) = true) (z_twin : Z (.page .twin) = true) (z_unit : Z (.page .unit) = true) (z_wc : Z (.page .wc) = true) :
    view K Z (Work.startPackage w) = view K Z w := by
  unfold Work.startPackage
  (try simp (maxDischargeDepth := 9) only [↓view_ite, ite_self, implies_true, id_eq, ↓view_tripShow, ↓view_each, ↓view_chopEvalAll, ↓view_wcStart, ↓view_laneEnable, h_bad, h_cap, h_clu, h_events, h_flue, h_hearth, h_lane, h_lines, h_net, h_out, h_recd, h_sl, h_sram, h_twin, h_unit, z_clane, z_clu, z_pkg, z_recorder, z_sysn, z_tally, z_twin, z_unit, z_wc]) <;> (repeat' split) <;> first | rfl | simp (maxDischargeDepth := 9) only [↓view_ite, ite_self, implies_true, id_eq, ↓view_tripShow, ↓view_each, ↓view_chopEvalAll, ↓view_wcStart, ↓view_laneEnable, h_bad, h_cap, h_clu, h_events, h_flue, h_hearth, h_lane, h_lines, h_net, h_out, h_recd, h_sl, h_sram, h_twin, h_unit, z_clane, z_clu, z_pkg, z_recorder, z_sysn, z_tally, z_twin, z_unit, z_wc]

theorem view_startRegion (w : Work) (n : ℕ) (h_events : K .events = true) (h_hearth : K .hearth = true) (h_lane : K .lane = true) (h_rgn : K .rgn = true) (h_sl : K .sl = true) (z_clane : Z (.page .clane) = true) (z_clu : Z (.page .clu) = true) (z_pkg : Z (.page .pkg) = true) (z_sp : Z (.page .sp) = true) (z_sysn : Z (.page .sysn) = true) :
    view K Z (Work.startRegion w n) = view K Z w := by
  unfold Work.startRegion
  (try simp (maxDischargeDepth := 9) only [↓view_ite, ite_self, implies_true, id_eq, ↓view_unfenceRegion, ↓view_each, ↓view_lpInit, ↓view_spInit, h_events, h_hearth, h_lane, h_rgn, h_sl, z_clane, z_clu, z_pkg, z_sp, z_sysn]) <;> (repeat' split) <;> first | rfl | simp (maxDischargeDepth := 9) only [↓view_ite, ite_self, implies_true, id_eq, ↓view_unfenceRegion, ↓view_each, ↓view_lpInit, ↓view_spInit, h_events, h_hearth, h_lane, h_rgn, h_sl, z_clane, z_clu, z_pkg, z_sp, z_sysn]

theorem view_discardSets (w : Work) (h_shadow : K .shadow = true) (z_abc : Z (.page .abc) = true) (z_clane : Z (.page .clane) = true) (z_clu : Z (.page .clu) = true) (z_eq : Z (.page .eq) = true) (z_pkg : Z (.page .pkg) = true) (z_recorder : Z (.page .recorder) = true) (z_rg : Z (.page .rg) = true) (z_sp : Z (.page .sp) = true) (z_sysn : Z (.page .sysn) = true) (z_unit : Z (.page .unit) = true) (z_wc : Z (.page .wc) = true) (z_window : Z .window = true) :
    view K Z w.discardSets = view K Z w := by
  unfold Work.discardSets
  refine (view_dropShadow _ _ h_shadow).trans (view_each_mem _ _ _ fun v a ha => ?_)
  have hm := (List.mem_filter.mp ha).2
  rw [bne_iff_ne] at hm
  refine view_put _ _ _ ?_
  rcases rws_place a hm with h | ⟨k, hk, hs⟩
  · rw [h]; exact z_window
  · rw [hk]
    cases k <;> first | assumption | exact absurd hs (by decide)

theorem view_kindled (w : Work) (z_pkg : Z (.page .pkg) = true) :
    view K Z (Work.kindled w) = view K Z w := by
  unfold Work.kindled
  (try simp (maxDischargeDepth := 9) only [↓view_ite, ite_self, implies_true, id_eq, ↓view_when, ↓view_wr, zone_pgPKG, mod_pgPKG, z_pkg]) <;> (repeat' split) <;> first | rfl | simp (maxDischargeDepth := 9) only [↓view_ite, ite_self, implies_true, id_eq, ↓view_when, ↓view_wr, zone_pgPKG, mod_pgPKG, z_pkg]

end Sys2Proof.Machine
end

