-- ==== Sys2Proof/Laws/ViewSysNet.lean ====
section
/-! SUPPORT. What each operation of Machine/SysNet.lean can write: the view without those kinds and zones is as it was. -/

set_option linter.unusedSimpArgs false
set_option linter.unreachableTactic false
set_option linter.unusedTactic false
set_option linter.unnecessarySeqFocus false

namespace Sys2Proof.Machine

variable {K : Kind → Bool} {Z : Zone → Bool}

theorem view_linkIn (w : Work) (l : Fin 12) (pkg : ℕ) (port : ℕ) (h_out : K .out = true) (h_sl : K .sl = true) (z_sysn : Z (.page .sysn) = true) :
    view K Z (Work.linkIn w l pkg port) = view K Z w := by
  unfold Work.linkIn
  (try simp (maxDischargeDepth := 9) only [↓view_ite, ite_self, implies_true, id_eq, ↓view_modSl, ↓view_when, ↓view_count, zone_pgSYSN, mod_pgSYSN, ↓view_wr, ↓view_hello, h_out, h_sl, z_sysn]) <;> (repeat' split) <;> first | rfl | simp (maxDischargeDepth := 9) only [↓view_ite, ite_self, implies_true, id_eq, ↓view_modSl, ↓view_when, ↓view_count, zone_pgSYSN, mod_pgSYSN, ↓view_wr, ↓view_hello, h_out, h_sl, z_sysn]

theorem view_linkSend (w : Work) (i : ℕ) (h_flue : K .flue = true) (h_lines : K .lines = true) (h_net : K .net = true) (h_out : K .out = true) (h_sl : K .sl = true) (z_sysn : Z (.page .sysn) = true) :
    view K Z (Work.linkSend w i) = view K Z w := by
  unfold Work.linkSend
  (try simp (maxDischargeDepth := 9) only [↓view_ite, ite_self, implies_true, id_eq, ↓view_slEnq, ↓view_nextSeq, ↓view_count, zone_pgSYSN, mod_pgSYSN, ↓view_twinSend, h_flue, h_lines, h_net, h_out, h_sl, z_sysn]) <;> (repeat' split) <;> first | rfl | simp (maxDischargeDepth := 9) only [↓view_ite, ite_self, implies_true, id_eq, ↓view_slEnq, ↓view_nextSeq, ↓view_count, zone_pgSYSN, mod_pgSYSN, ↓view_twinSend, h_flue, h_lines, h_net, h_out, h_sl, z_sysn]

theorem view_badPkt (w : Work) (port : ℕ) (fault : Bool) (h_flue : K .flue = true) (h_lines : K .lines = true) (h_out : K .out = true) (z_sysn : Z (.page .sysn) = true) :
    view K Z (Work.badPkt w port fault) = view K Z w := by
  unfold Work.badPkt
  (try simp (maxDischargeDepth := 9) only [↓view_ite, ite_self, implies_true, id_eq, ↓view_flt, zone_pgSYSN, mod_pgSYSN, ↓view_count, h_flue, h_lines, h_out, z_sysn]) <;> (repeat' split) <;> first | rfl | simp (maxDischargeDepth := 9) only [↓view_ite, ite_self, implies_true, id_eq, ↓view_flt, zone_pgSYSN, mod_pgSYSN, ↓view_count, h_flue, h_lines, h_out, z_sysn]

theorem view_forward (w : Work) (k : Pkt) (arr : ℕ) (h_flue : K .flue = true) (h_lines : K .lines = true) (h_net : K .net = true) (h_out : K .out = true) (h_sl : K .sl = true) (z_sysn : Z (.page .sysn) = true) :
    view K Z (Work.forward w k arr) = view K Z w := by
  unfold Work.forward
  (try simp (maxDischargeDepth := 9) only [↓view_ite, ite_self, implies_true, id_eq, ↓view_flt, zone_pgSYSN, mod_pgSYSN, ↓view_count, ↓view_unicast, ↓view_each, ↓view_when, ↓view_tripMark, ↓view_slEnq, h_flue, h_lines, h_net, h_out, h_sl, z_sysn]) <;> (repeat' split) <;> first | rfl | simp (maxDischargeDepth := 9) only [↓view_ite, ite_self, implies_true, id_eq, ↓view_flt, zone_pgSYSN, mod_pgSYSN, ↓view_count, ↓view_unicast, ↓view_each, ↓view_when, ↓view_tripMark, ↓view_slEnq, h_flue, h_lines, h_net, h_out, h_sl, z_sysn]

theorem view_forwardCut (w : Work) (k : Pkt) (arr : ℕ) (h_flue : K .flue = true) (h_lines : K .lines = true) (h_out : K .out = true) (h_sl : K .sl = true) (z_sysn : Z (.page .sysn) = true) :
    view K Z (Work.forwardCut w k arr) = view K Z w := by
  unfold Work.forwardCut
  (try simp (maxDischargeDepth := 9) only [↓view_ite, ite_self, implies_true, id_eq, ↓view_each, ↓view_slEnq, h_flue, h_lines, h_out, h_sl, z_sysn]) <;> (repeat' split) <;> first | rfl | simp (maxDischargeDepth := 9) only [↓view_ite, ite_self, implies_true, id_eq, ↓view_each, ↓view_slEnq, h_flue, h_lines, h_out, h_sl, z_sysn]

theorem view_goodPkt (w : Work) (arr : ℕ) (k : Pkt) (at16 : ℤ) (h_flue : K .flue = true) (h_lines : K .lines = true) (h_net : K .net = true) (h_out : K .out = true) (h_sl : K .sl = true) (z_sysn : Z (.page .sysn) = true) :
    view K Z (Work.goodPkt w arr k at16) = view K Z w := by
  unfold Work.goodPkt
  (try simp (maxDischargeDepth := 9) only [↓view_ite, ite_self, implies_true, id_eq, ↓view_forward, ↓view_when, ↓view_count, zone_pgSYSN, mod_pgSYSN, ↓view_deliver, h_flue, h_lines, h_net, h_out, h_sl, z_sysn]) <;> (repeat' split) <;> first | rfl | simp (maxDischargeDepth := 9) only [↓view_ite, ite_self, implies_true, id_eq, ↓view_forward, ↓view_when, ↓view_count, zone_pgSYSN, mod_pgSYSN, ↓view_deliver, h_flue, h_lines, h_net, h_out, h_sl, z_sysn]

theorem view_pktIn (w : Work) (port : Fin 8) (k : Pkt) (chk : PktCheck) (at16 : ℤ) (h_flue : K .flue = true) (h_lines : K .lines = true) (h_net : K .net = true) (h_out : K .out = true) (h_sl : K .sl = true) (z_hrt : Z (.page .hrt) = true) (z_sysn : Z (.page .sysn) = true) :
    view K Z (Work.pktIn w port k chk at16) = view K Z w := by
  unfold Work.pktIn
  (try simp (maxDischargeDepth := 9) only [↓view_ite, ite_self, implies_true, id_eq, ↓view_badPkt, ↓view_forwardCut, ↓view_when, ↓view_injDone, zone_pgSYSN, mod_pgSYSN, ↓view_linkIn, ↓view_goodPkt, h_flue, h_lines, h_net, h_out, h_sl, z_hrt, z_sysn]) <;> (repeat' split) <;> first | rfl | simp (maxDischargeDepth := 9) only [↓view_ite, ite_self, implies_true, id_eq, ↓view_badPkt, ↓view_forwardCut, ↓view_when, ↓view_injDone, zone_pgSYSN, mod_pgSYSN, ↓view_linkIn, ↓view_goodPkt, h_flue, h_lines, h_net, h_out, h_sl, z_hrt, z_sysn]

theorem view_pktLeave (w : Work) (p : ℕ) (k : Pkt) (t : ℤ) (h_net : K .net = true) :
    view K Z (Work.pktLeave w p k t).1 = view K Z w := by
  unfold Work.pktLeave
  (try simp (maxDischargeDepth := 9) only [↓view_ite, ite_self, implies_true, id_eq, ↓view_modNet, h_net]) <;> (repeat' split) <;> first | rfl | simp (maxDischargeDepth := 9) only [↓view_ite, ite_self, implies_true, id_eq, ↓view_modNet, h_net]

theorem view_pktLine (w : Work) (p : ℕ) (k : Pkt) (aborted : Bool) (h_freeCtr : K .freeCtr = true) :
    view K Z (Work.pktLine w p k aborted).1 = view K Z w := by
  unfold Work.pktLine
  (try simp (maxDischargeDepth := 9) only [↓view_ite, ite_self, implies_true, id_eq, ↓view_freshWord, h_freeCtr]) <;> (repeat' split) <;> first | rfl | simp (maxDischargeDepth := 9) only [↓view_ite, ite_self, implies_true, id_eq, ↓view_freshWord, h_freeCtr]

theorem view_pktOut (w : Work) (p : ℕ) (t : ℤ) (h_freeCtr : K .freeCtr = true) (h_net : K .net = true) (h_out : K .out = true) (h_sl : K .sl = true) (z_sysn : Z (.page .sysn) = true) :
    view K Z (Work.pktOut w p t) = view K Z w := by
  unfold Work.pktOut
  (try simp (maxDischargeDepth := 9) only [↓view_ite, ite_self, implies_true, id_eq, ↓view_emit, ↓view_pktLine, ↓view_count, zone_pgSYSN, mod_pgSYSN, ↓view_pktLeave, ↓view_modSl, h_freeCtr, h_net, h_out, h_sl, z_sysn]) <;> (repeat' split) <;> first | rfl | simp (maxDischargeDepth := 9) only [↓view_ite, ite_self, implies_true, id_eq, ↓view_emit, ↓view_pktLine, ↓view_count, zone_pgSYSN, mod_pgSYSN, ↓view_pktLeave, ↓view_modSl, h_freeCtr, h_net, h_out, h_sl, z_sysn]

theorem view_takeIn (w : Work) (type : Nat) (q : NetIn × Work) (h_net : K .net = true) (h : w.takeIn type = some q) :
    view K Z q.2 = view K Z w := by
  unfold Work.takeIn at h
  rw [Option.map_eq_some_iff] at h
  obtain ⟨i, _, rfl⟩ := h
  exact view_modNet _ _ h_net

theorem view_withIn (w : Work) (type : Nat) (f : Work → NetIn → Work) (h_net : K .net = true)
    (hf : ∀ v i, view K Z (f v i) = view K Z v) : view K Z (w.withIn type f) = view K Z w := by
  unfold Work.withIn
  split
  · rename_i i v h
    rw [hf, view_takeIn _ _ _ h_net h]
  · rfl

theorem view_tripCmd (w : Work) (set : ℕ) (clr : ℕ) (h_flue : K .flue = true) (h_lines : K .lines = true) (h_net : K .net = true) (h_out : K .out = true) (h_sl : K .sl = true) (z_sysn : Z (.page .sysn) = true) :
    view K Z (Work.tripCmd w set clr) = view K Z w := by
  unfold Work.tripCmd
  (try simp (maxDischargeDepth := 9) only [↓view_ite, ite_self, implies_true, id_eq, ↓view_tripShow, ↓view_modNet, h_flue, h_lines, h_net, h_out, h_sl, z_sysn]) <;> (repeat' split) <;> first | rfl | simp (maxDischargeDepth := 9) only [↓view_ite, ite_self, implies_true, id_eq, ↓view_tripShow, ↓view_modNet, h_flue, h_lines, h_net, h_out, h_sl, z_sysn]

theorem view_tripIn (w : Work) (i : NetIn) (z_sysn : Z (.page .sysn) = true) :
    view K Z (Work.tripIn w i) = view K Z w := by
  unfold Work.tripIn
  (try simp (maxDischargeDepth := 9) only [↓view_ite, ite_self, implies_true, id_eq, ↓view_wr, zone_pgSYSN, mod_pgSYSN, ↓view_count, z_sysn]) <;> (repeat' split) <;> first | rfl | simp (maxDischargeDepth := 9) only [↓view_ite, ite_self, implies_true, id_eq, ↓view_wr, zone_pgSYSN, mod_pgSYSN, ↓view_count, z_sysn]

theorem view_treqStart (w : Work) (h_flue : K .flue = true) (h_lines : K .lines = true) (h_net : K .net = true) (h_out : K .out = true) (h_sl : K .sl = true) (z_sysn : Z (.page .sysn) = true) :
    view K Z (Work.treqStart w) = view K Z w := by
  unfold Work.treqStart
  (try simp (maxDischargeDepth := 9) only [↓view_ite, ite_self, implies_true, id_eq, ↓view_when, ↓view_modNet, ↓view_wr, zone_pgSYSN, mod_pgSYSN, ↓view_flt, ↓view_slEnq, ↓view_nextSeq, h_flue, h_lines, h_net, h_out, h_sl, z_sysn]) <;> (repeat' split) <;> first | rfl | simp (maxDischargeDepth := 9) only [↓view_ite, ite_self, implies_true, id_eq, ↓view_when, ↓view_modNet, ↓view_wr, zone_pgSYSN, mod_pgSYSN, ↓view_flt, ↓view_slEnq, ↓view_nextSeq, h_flue, h_lines, h_net, h_out, h_sl, z_sysn]

theorem view_treqIn (w : Work) (i : NetIn) (h_flue : K .flue = true) (h_lines : K .lines = true) (h_out : K .out = true) (h_sl : K .sl = true) (z_sysn : Z (.page .sysn) = true) :
    view K Z (Work.treqIn w i) = view K Z w := by
  unfold Work.treqIn
  (try simp (maxDischargeDepth := 9) only [↓view_ite, ite_self, implies_true, id_eq, ↓view_slEnq, h_flue, h_lines, h_out, h_sl, z_sysn]) <;> (repeat' split) <;> first | rfl | simp (maxDischargeDepth := 9) only [↓view_ite, ite_self, implies_true, id_eq, ↓view_slEnq, h_flue, h_lines, h_out, h_sl, z_sysn]

theorem view_ttBad (w : Work) (h_flue : K .flue = true) (h_lines : K .lines = true) (h_net : K .net = true) (h_out : K .out = true) (z_sysn : Z (.page .sysn) = true) :
    view K Z (Work.ttBad w) = view K Z w := by
  unfold Work.ttBad
  (try simp (maxDischargeDepth := 9) only [↓view_ite, ite_self, implies_true, id_eq, ↓view_modNet, ↓view_flt, zone_pgSYSN, mod_pgSYSN, h_flue, h_lines, h_net, h_out, z_sysn]) <;> (repeat' split) <;> first | rfl | simp (maxDischargeDepth := 9) only [↓view_ite, ite_self, implies_true, id_eq, ↓view_modNet, ↓view_flt, zone_pgSYSN, mod_pgSYSN, h_flue, h_lines, h_net, h_out, z_sysn]

theorem view_trespIn (w : Work) (i : NetIn) (h_flue : K .flue = true) (h_lines : K .lines = true) (h_net : K .net = true) (h_out : K .out = true) (z_sysn : Z (.page .sysn) = true) :
    view K Z (Work.trespIn w i) = view K Z w := by
  unfold Work.trespIn
  (try simp (maxDischargeDepth := 9) only [↓view_ite, ite_self, implies_true, id_eq, ↓view_modNet, ↓view_ttBad, ↓view_count, zone_pgSYSN, mod_pgSYSN, ↓view_wr, h_flue, h_lines, h_net, h_out, z_sysn]) <;> (repeat' split) <;> first | rfl | simp (maxDischargeDepth := 9) only [↓view_ite, ite_self, implies_true, id_eq, ↓view_modNet, ↓view_ttBad, ↓view_count, zone_pgSYSN, mod_pgSYSN, ↓view_wr, h_flue, h_lines, h_net, h_out, z_sysn]

theorem view_treqLost (w : Work) (h_flue : K .flue = true) (h_lines : K .lines = true) (h_net : K .net = true) (h_out : K .out = true) (z_sysn : Z (.page .sysn) = true) :
    view K Z (Work.treqLost w) = view K Z w := by
  unfold Work.treqLost
  (try simp (maxDischargeDepth := 9) only [↓view_ite, ite_self, implies_true, id_eq, ↓view_ttBad, ↓view_count, zone_pgSYSN, mod_pgSYSN, ↓view_modNet, h_flue, h_lines, h_net, h_out, z_sysn]) <;> (repeat' split) <;> first | rfl | simp (maxDischargeDepth := 9) only [↓view_ite, ite_self, implies_true, id_eq, ↓view_ttBad, ↓view_count, zone_pgSYSN, mod_pgSYSN, ↓view_modNet, h_flue, h_lines, h_net, h_out, z_sysn]

theorem view_report (w : Work) (p : ℕ) (code : ℕ) (kind : ℕ) (h_flue : K .flue = true) (h_lines : K .lines = true) (h_net : K .net = true) (h_out : K .out = true) (h_sl : K .sl = true) (z_sysn : Z (.page .sysn) = true) :
    view K Z (Work.report w p code kind) = view K Z w := by
  unfold Work.report
  (try simp (maxDischargeDepth := 9) only [↓view_ite, ite_self, implies_true, id_eq, ↓view_netSend, h_flue, h_lines, h_net, h_out, h_sl, z_sysn]) <;> (repeat' split) <;> first | rfl | simp (maxDischargeDepth := 9) only [↓view_ite, ite_self, implies_true, id_eq, ↓view_netSend, h_flue, h_lines, h_net, h_out, h_sl, z_sysn]

theorem view_swapSend (w : Work) (h_flue : K .flue = true) (h_lines : K .lines = true) (h_net : K .net = true) (h_out : K .out = true) (h_sl : K .sl = true) (z_sysn : Z (.page .sysn) = true) :
    view K Z (Work.swapSend w) = view K Z w := by
  unfold Work.swapSend
  (try simp (maxDischargeDepth := 9) only [↓view_ite, ite_self, implies_true, id_eq, ↓view_netSend, h_flue, h_lines, h_net, h_out, h_sl, z_sysn]) <;> (repeat' split) <;> first | rfl | simp (maxDischargeDepth := 9) only [↓view_ite, ite_self, implies_true, id_eq, ↓view_netSend, h_flue, h_lines, h_net, h_out, h_sl, z_sysn]

theorem view_swapIn (w : Work) (i : NetIn) (h_flue : K .flue = true) (h_lines : K .lines = true) (h_net : K .net = true) (h_out : K .out = true) (h_sl : K .sl = true) (h_swap : K .swap = true) (z_abc : Z (.page .abc) = true) (z_pkg : Z (.page .pkg) = true) (z_sysn : Z (.page .sysn) = true) :
    view K Z (Work.swapIn w i) = view K Z w := by
  unfold Work.swapIn
  (try simp (maxDischargeDepth := 9) only [↓view_ite, ite_self, implies_true, id_eq, ↓view_report, ↓view_swapArm, ↓view_modNet, ↓view_wr, zone_pgPKG, mod_pgPKG, h_flue, h_lines, h_net, h_out, h_sl, h_swap, z_abc, z_pkg, z_sysn]) <;> (repeat' split) <;> first | rfl | simp (maxDischargeDepth := 9) only [↓view_ite, ite_self, implies_true, id_eq, ↓view_report, ↓view_swapArm, ↓view_modNet, ↓view_wr, zone_pgPKG, mod_pgPKG, h_flue, h_lines, h_net, h_out, h_sl, h_swap, z_abc, z_pkg, z_sysn]

theorem view_planSend (w : Work) (h_flue : K .flue = true) (h_lines : K .lines = true) (h_net : K .net = true) (h_out : K .out = true) (h_sl : K .sl = true) (z_sysn : Z (.page .sysn) = true) :
    view K Z (Work.planSend w) = view K Z w := by
  unfold Work.planSend
  (try simp (maxDischargeDepth := 9) only [↓view_ite, ite_self, implies_true, id_eq, ↓view_netSend, h_flue, h_lines, h_net, h_out, h_sl, z_sysn]) <;> (repeat' split) <;> first | rfl | simp (maxDischargeDepth := 9) only [↓view_ite, ite_self, implies_true, id_eq, ↓view_netSend, h_flue, h_lines, h_net, h_out, h_sl, z_sysn]

theorem view_planIn (w : Work) (i : NetIn) (h_flue : K .flue = true) (h_lines : K .lines = true) (h_net : K .net = true) (h_out : K .out = true) (h_sl : K .sl = true) (z_pkg : Z (.page .pkg) = true) (z_sysn : Z (.page .sysn) = true) :
    view K Z (Work.planIn w i) = view K Z w := by
  unfold Work.planIn
  (try simp (maxDischargeDepth := 9) only [↓view_ite, ite_self, implies_true, id_eq, ↓view_wr, zone_pgSYSN, mod_pgSYSN, ↓view_report, zone_pgPKG, mod_pgPKG, h_flue, h_lines, h_net, h_out, h_sl, z_pkg, z_sysn]) <;> (repeat' split) <;> first | rfl | simp (maxDischargeDepth := 9) only [↓view_ite, ite_self, implies_true, id_eq, ↓view_wr, zone_pgSYSN, mod_pgSYSN, ↓view_report, zone_pgPKG, mod_pgPKG, h_flue, h_lines, h_net, h_out, h_sl, z_pkg, z_sysn]

theorem view_reportIn (w : Work) (i : NetIn) (z_sysn : Z (.page .sysn) = true) :
    view K Z (Work.reportIn w i) = view K Z w := by
  unfold Work.reportIn
  (try simp (maxDischargeDepth := 9) only [↓view_ite, ite_self, implies_true, id_eq, ↓view_wr, zone_pgSYSN, mod_pgSYSN, ↓view_count, z_sysn]) <;> (repeat' split) <;> first | rfl | simp (maxDischargeDepth := 9) only [↓view_ite, ite_self, implies_true, id_eq, ↓view_wr, zone_pgSYSN, mod_pgSYSN, ↓view_count, z_sysn]

theorem view_maskIn (w : Work) (i : NetIn) (h_net : K .net = true) :
    view K Z (Work.maskIn w i) = view K Z w := by
  unfold Work.maskIn
  (try simp (maxDischargeDepth := 9) only [↓view_ite, ite_self, implies_true, id_eq, ↓view_modNet, h_net]) <;> (repeat' split) <;> first | rfl | simp (maxDischargeDepth := 9) only [↓view_ite, ite_self, implies_true, id_eq, ↓view_modNet, h_net]

theorem view_pointFile (w : Work) (n : ℕ) (j : ℕ) (v : Word) (tb : ℤ) (h_rgn : K .rgn = true) (z_window : Z .window = true) (z_abc : Z (.page .abc) = true) (z_pkg : Z (.page .pkg) = true) :
    view K Z (Work.pointFile w n j v tb) = view K Z w := by
  unfold Work.pointFile
  extract_lets r k age cur start q
  split
  · exact view_discard _ z_pkg
  · clear_value start
    cases start with
    | none => rfl
    | some b =>
      dsimp only
      split
      · exact view_fileLate _ _ _ _ _ z_window z_abc
      · split
        · exact view_count _ _ _ _ _ (mod_pgABC _) (by rw [zone_pgABC]; exact z_abc)
        · exact view_modRg _ _ _ h_rgn

theorem view_pointIn (w : Work) (i : NetIn) (h_rgn : K .rgn = true) (z_window : Z .window = true) (z_abc : Z (.page .abc) = true) (z_pkg : Z (.page .pkg) = true) :
    view K Z (Work.pointIn w i) = view K Z w := by
  unfold Work.pointIn
  (try simp (maxDischargeDepth := 9) only [↓view_ite, ite_self, implies_true, id_eq, ↓view_each, ↓view_pointFile, h_rgn, z_window, z_abc, z_pkg]) <;> (repeat' split) <;> first | rfl | simp (maxDischargeDepth := 9) only [↓view_ite, ite_self, implies_true, id_eq, ↓view_each, ↓view_pointFile, h_rgn, z_window, z_abc, z_pkg]

theorem view_raStart (w : Work) (h_flue : K .flue = true) (h_lines : K .lines = true) (h_net : K .net = true) (h_out : K .out = true) (h_sl : K .sl = true) (z_sysn : Z (.page .sysn) = true) :
    view K Z (Work.raStart w) = view K Z w := by
  unfold Work.raStart
  dsimp only
  split
  · exact view_badval _ _ mod_pgSYSN (by rw [zone_pgSYSN]; exact z_sysn)
  · rw [view_netSend _ _ _ _ h_flue h_lines h_net h_out h_sl z_sysn, view_modNet _ _ h_net,
      view_wr _ _ _ _ _ mod_pgSYSN (by rw [zone_pgSYSN]; exact z_sysn)]



/-- The page that flags a refused shadow write of a remote access. -/
theorem remote_zone (a act pg : Nat) (hr : remoteReach a = true) (hs : shadowOf a = some (act, pg))
    (z_abc : Z (.page .abc) = true) (z_clane : Z (.page .clane) = true) (z_clu : Z (.page .clu) = true)
    (z_eq : Z (.page .eq) = true) (z_pkg : Z (.page .pkg) = true) (z_recorder : Z (.page .recorder) = true)
    (z_rg : Z (.page .rg) = true) (z_sp : Z (.page .sp) = true) (z_unit : Z (.page .unit) = true) :
    pg % 0x1000 = 0 ∧ Z (zoneOf pg) = true := by
  rw [shadowOf] at hs
  split at hs
  · simp only [Option.some.injEq, Prod.mk.injEq] at hs
    obtain ⟨-, rfl⟩ := hs
    exact ⟨mod_pgABC _, by rw [zone_pgABC]; exact z_abc⟩
  · simp only [Option.some.injEq, Prod.mk.injEq] at hs
    obtain ⟨-, rfl⟩ := hs
    exact ⟨mod_pgPKG, by rw [zone_pgPKG]; exact z_pkg⟩
  · cases hs
  · rename_i hw
    rw [remoteReach, hw] at hr
    dsimp only at hr
    split at hs
    · rename_i k hk
      obtain ⟨k, i⟩ := k
      rw [hk] at hr
      split at hs
      · simp only [Option.some.injEq, Prod.mk.injEq] at hs
        obtain ⟨-, rfl⟩ := hs
        have hz : zoneOf (a / 0x1000 * 0x1000) = .page k := by
          rw [← zoneOf_add (a / 0x1000 * 0x1000) (a % 0x1000) (by omega) (by omega), Nat.div_add_mod', zoneOf, hk]
        refine ⟨by omega, ?_⟩
        rw [hz]
        have ho : k.remoteOk = true := by
          have := hr
          simp only [Bool.and_eq_true] at this
          exact this.1
        cases k <;> first | assumption | exact absurd ho (by decide)
      · cases hs
    · cases hs

theorem view_remote (w : Work) (src : ℕ) (a : ℕ) (write : Bool) (d : Word) (h_shadow : K .shadow = true) (z_abc : Z (.page .abc) = true) (z_clane : Z (.page .clane) = true) (z_clu : Z (.page .clu) = true) (z_eq : Z (.page .eq) = true) (z_pkg : Z (.page .pkg) = true) (z_recorder : Z (.page .recorder) = true) (z_rg : Z (.page .rg) = true) (z_sec : Z (.page .sec) = true) (z_sp : Z (.page .sp) = true) (z_sysn : Z (.page .sysn) = true) (z_unit : Z (.page .unit) = true) (z_wc : Z (.page .wc) = true) :
    view K Z (Work.remote w src a write d).1 = view K Z w := by
  unfold Work.remote
  dsimp only
  split
  · simp only [↓view_when, ↓view_count, mod_pgSYSN, zone_pgSYSN, mod_pgSEC, zone_pgSEC, h_shadow, z_abc, z_clane, z_clu, z_eq, z_pkg, z_recorder, z_rg, z_sec, z_sp, z_sysn, z_unit, z_wc, implies_true]
  · rename_i hc
    split
    · exact view_fenceCount _ _ z_pkg
    · split
      · simp only [↓view_count, mod_pgSEC, zone_pgSEC, h_shadow, z_abc, z_clane, z_clu, z_eq, z_pkg, z_recorder, z_rg, z_sec, z_sp, z_sysn, z_unit, z_wc]
      · rename_i act pg hs
        have hr : remoteReach a = true := by
          cases h : remoteReach a with
          | true => rfl
          | false => rw [h] at hc; simp at hc
        obtain ⟨hm, hz⟩ := remote_zone (Z := Z) a act pg hr hs z_abc z_clane z_clu z_eq z_pkg z_recorder z_rg z_sp z_unit
        split
        · dsimp only
          rw [view_shadowWrite _ _ _ _ h_shadow hm hz z_pkg z_sysn z_eq z_recorder z_wc z_rg z_abc z_sp z_clu z_clane z_unit,
            view_count _ _ _ _ _ mod_pgSEC (by rw [zone_pgSEC]; exact z_sec)]
        · exact view_count _ _ _ _ _ mod_pgSEC (by rw [zone_pgSEC]; exact z_sec)

theorem view_rreqIn (w : Work) (i : NetIn) (h_flue : K .flue = true) (h_lines : K .lines = true) (h_net : K .net = true) (h_out : K .out = true) (h_shadow : K .shadow = true) (h_sl : K .sl = true) (z_abc : Z (.page .abc) = true) (z_clane : Z (.page .clane) = true) (z_clu : Z (.page .clu) = true) (z_eq : Z (.page .eq) = true) (z_pkg : Z (.page .pkg) = true) (z_recorder : Z (.page .recorder) = true) (z_rg : Z (.page .rg) = true) (z_sec : Z (.page .sec) = true) (z_sp : Z (.page .sp) = true) (z_sysn : Z (.page .sysn) = true) (z_unit : Z (.page .unit) = true) (z_wc : Z (.page .wc) = true) :
    view K Z (Work.rreqIn w i) = view K Z w := by
  unfold Work.rreqIn
  (try simp (maxDischargeDepth := 9) only [↓view_ite, ite_self, implies_true, id_eq, ↓view_unicast, ↓view_remote, h_flue, h_lines, h_net, h_out, h_shadow, h_sl, z_abc, z_clane, z_clu, z_eq, z_pkg, z_recorder, z_rg, z_sec, z_sp, z_sysn, z_unit, z_wc]) <;> (repeat' split) <;> first | rfl | simp (maxDischargeDepth := 9) only [↓view_ite, ite_self, implies_true, id_eq, ↓view_unicast, ↓view_remote, h_flue, h_lines, h_net, h_out, h_shadow, h_sl, z_abc, z_clane, z_clu, z_eq, z_pkg, z_recorder, z_rg, z_sec, z_sp, z_sysn, z_unit, z_wc]

theorem view_raEnd (w : Work) (status : ℕ) (h_net : K .net = true) (z_sysn : Z (.page .sysn) = true) :
    view K Z (Work.raEnd w status) = view K Z w := by
  unfold Work.raEnd
  (try simp (maxDischargeDepth := 9) only [↓view_ite, ite_self, implies_true, id_eq, ↓view_modNet, ↓view_wr, zone_pgSYSN, mod_pgSYSN, h_net, z_sysn]) <;> (repeat' split) <;> first | rfl | simp (maxDischargeDepth := 9) only [↓view_ite, ite_self, implies_true, id_eq, ↓view_modNet, ↓view_wr, zone_pgSYSN, mod_pgSYSN, h_net, z_sysn]

theorem view_rrspIn (w : Work) (i : NetIn) (h_net : K .net = true) (z_sysn : Z (.page .sysn) = true) :
    view K Z (Work.rrspIn w i) = view K Z w := by
  unfold Work.rrspIn
  (try simp (maxDischargeDepth := 9) only [↓view_ite, ite_self, implies_true, id_eq, ↓view_raEnd, ↓view_when, ↓view_wr, zone_pgSYSN, mod_pgSYSN, h_net, z_sysn]) <;> (repeat' split) <;> first | rfl | simp (maxDischargeDepth := 9) only [↓view_ite, ite_self, implies_true, id_eq, ↓view_raEnd, ↓view_when, ↓view_wr, zone_pgSYSN, mod_pgSYSN, h_net, z_sysn]

end Sys2Proof.Machine
end

