-- ==== Sys2Proof/Laws/ViewHost.lean ====
section
/-! SUPPORT. What each operation of Machine/Host.lean can write: the view without those kinds and zones is as it was. -/

set_option linter.unusedSimpArgs false
set_option linter.unreachableTactic false
set_option linter.unusedTactic false
set_option linter.unnecessarySeqFocus false

namespace Sys2Proof.Machine

variable {K : Kind → Bool} {Z : Zone → Bool}

theorem view_accErr (w : Work) (flag : Machine.Field) (bar : ℕ) (off : ℕ) (z_host : Z (.page .host) = true) :
    view K Z (Work.accErr w flag bar off) = view K Z w := by
  unfold Work.accErr
  (try simp (maxDischargeDepth := 9) only [↓view_ite, ite_self, implies_true, id_eq, ↓view_wr, zone_pgHOST, mod_pgHOST, ↓view_when, z_host]) <;> (repeat' split) <;> first | rfl | simp (maxDischargeDepth := 9) only [↓view_ite, ite_self, implies_true, id_eq, ↓view_wr, zone_pgHOST, mod_pgHOST, ↓view_when, z_host]

theorem view_injWrite (w : Work) (k : PageKind) (inst : ℕ) (pg : ℕ) (x : Word) (h_bad : K .bad = true) (h_chop : K .chop = true) (h_clu : K .clu = true) (h_events : K .events = true) (h_flue : K .flue = true) (h_hearth : K .hearth = true) (h_lane : K .lane = true) (h_lines : K .lines = true) (h_net : K .net = true) (h_out : K .out = true) (h_recd : K .recd = true) (h_rgn : K .rgn = true) (h_sl : K .sl = true) (h_sram : K .sram = true) (h_tout : K .tout = true) (h_unit : K .unit = true) (z_claim : Z (.page .claim) = true) (z_clu : Z (.page .clu) = true) (z_emb : Z (.page .emb) = true) (z_hrt : Z (.page .hrt) = true) (z_hrt1 : Z (.page .hrt1) = true) (z_hrt2 : Z (.page .hrt2) = true) (z_pkg : Z (.page .pkg) = true) (z_recorder : Z (.page .recorder) = true) (z_sec : Z (.page .sec) = true) (z_sysn : Z (.page .sysn) = true) (z_tally : Z (.page .tally) = true) (z_unit : Z (.page .unit) = true) (m_pg : pg % 0x1000 = 0) (z_pg : Z (zoneOf pg) = true) :
    view K Z (Work.injWrite w k inst pg x) = view K Z w := by
  unfold Work.injWrite
  (try simp (maxDischargeDepth := 9) only [↓view_ite, ite_self, implies_true, id_eq, ↓view_when, ↓view_activeWrite, ↓view_wr, h_bad, h_chop, h_clu, h_events, h_flue, h_hearth, h_lane, h_lines, h_net, h_out, h_recd, h_rgn, h_sl, h_sram, h_tout, h_unit, z_claim, z_clu, z_emb, z_hrt, z_hrt1, z_hrt2, z_pkg, z_recorder, z_sec, z_sysn, z_tally, z_unit, m_pg, z_pg]) <;> (repeat' split) <;> first | rfl | simp (maxDischargeDepth := 9) only [↓view_ite, ite_self, implies_true, id_eq, ↓view_when, ↓view_activeWrite, ↓view_wr, h_bad, h_chop, h_clu, h_events, h_flue, h_hearth, h_lane, h_lines, h_net, h_out, h_recd, h_rgn, h_sl, h_sram, h_tout, h_unit, z_claim, z_clu, z_emb, z_hrt, z_hrt1, z_hrt2, z_pkg, z_recorder, z_sec, z_sysn, z_tally, z_unit, m_pg, z_pg]

theorem view_lockWrite (w : Work) (pg : ℕ) (x : Word) (m_pg : pg % 0x1000 = 0) (z_pg : Z (zoneOf pg) = true) :
    view K Z (Work.lockWrite w pg x) = view K Z w := by
  unfold Work.lockWrite
  (try simp (maxDischargeDepth := 9) only [↓view_ite, ite_self, implies_true, id_eq, ↓view_wr, ↓view_badval, m_pg, z_pg]) <;> (repeat' split) <;> first | rfl | simp (maxDischargeDepth := 9) only [↓view_ite, ite_self, implies_true, id_eq, ↓view_wr, ↓view_badval, m_pg, z_pg]

theorem view_swapWrite (w : Work) (x : Word) (h_net : K .net = true) (h_swap : K .swap = true) (z_abc : Z (.page .abc) = true) (z_pkg : Z (.page .pkg) = true) :
    view K Z (Work.swapWrite w x) = view K Z w := by
  unfold Work.swapWrite
  (try simp (maxDischargeDepth := 9) only [↓view_ite, ite_self, implies_true, id_eq, ↓view_swapArm, ↓view_swapDisarm, ↓view_setcopy, ↓view_badval, zone_pgPKG, mod_pgPKG, h_net, h_swap, z_abc, z_pkg]) <;> (repeat' split) <;> first | rfl | simp (maxDischargeDepth := 9) only [↓view_ite, ite_self, implies_true, id_eq, ↓view_swapArm, ↓view_swapDisarm, ↓view_setcopy, ↓view_badval, zone_pgPKG, mod_pgPKG, h_net, h_swap, z_abc, z_pkg]

theorem view_bctlWrite (w : Work) (x : Word) (h_bad : K .bad = true) (h_chop : K .chop = true) (h_clu : K .clu = true) (h_events : K .events = true) (h_flue : K .flue = true) (h_hearth : K .hearth = true) (h_lane : K .lane = true) (h_lines : K .lines = true) (h_net : K .net = true) (h_out : K .out = true) (h_recd : K .recd = true) (h_rgn : K .rgn = true) (h_sec : K .sec = true) (h_sl : K .sl = true) (h_sram : K .sram = true) (h_unit : K .unit = true) (z_window : Z .window = true) (z_bist : Z (.page .bist) = true) (z_clane : Z (.page .clane) = true) (z_clu : Z (.page .clu) = true) (z_hrt : Z (.page .hrt) = true) (z_hrt1 : Z (.page .hrt1) = true) (z_hrt2 : Z (.page .hrt2) = true) (z_pkg : Z (.page .pkg) = true) (z_recorder : Z (.page .recorder) = true) (z_sec : Z (.page .sec) = true) (z_sysn : Z (.page .sysn) = true) :
    view K Z (Work.bctlWrite w x) = view K Z w := by
  unfold Work.bctlWrite
  (try simp (maxDischargeDepth := 9) only [↓view_ite, ite_self, implies_true, id_eq, ↓view_when, ↓view_each, ↓view_bistAbort, ↓view_bistGo, ↓view_badval, zone_pgBIST, mod_pgBIST, ↓view_lbistGo, h_bad, h_chop, h_clu, h_events, h_flue, h_hearth, h_lane, h_lines, h_net, h_out, h_recd, h_rgn, h_sec, h_sl, h_sram, h_unit, z_window, z_bist, z_clane, z_clu, z_hrt, z_hrt1, z_hrt2, z_pkg, z_recorder, z_sec, z_sysn]) <;> (repeat' split) <;> first | rfl | simp (maxDischargeDepth := 9) only [↓view_ite, ite_self, implies_true, id_eq, ↓view_when, ↓view_each, ↓view_bistAbort, ↓view_bistGo, ↓view_badval, zone_pgBIST, mod_pgBIST, ↓view_lbistGo, h_bad, h_chop, h_clu, h_events, h_flue, h_hearth, h_lane, h_lines, h_net, h_out, h_recd, h_rgn, h_sec, h_sl, h_sram, h_unit, z_window, z_bist, z_clane, z_clu, z_hrt, z_hrt1, z_hrt2, z_pkg, z_recorder, z_sec, z_sysn]

theorem view_sctlWrite (w : Work) (x : Word) (h_sec : K .sec = true) (z_sec : Z (.page .sec) = true) :
    view K Z (Work.sctlWrite w x) = view K Z w := by
  unfold Work.sctlWrite
  (try simp (maxDischargeDepth := 9) only [↓view_ite, ite_self, implies_true, id_eq, ↓view_keyProg, ↓view_zero, ↓view_badval, zone_pgSEC, mod_pgSEC, h_sec, z_sec]) <;> (repeat' split) <;> first | rfl | simp (maxDischargeDepth := 9) only [↓view_ite, ite_self, implies_true, id_eq, ↓view_keyProg, ↓view_zero, ↓view_badval, zone_pgSEC, mod_pgSEC, h_sec, z_sec]

theorem view_qcmdWrite (w : Work) (q : ℕ) (x : Word) (h_eq : K .eq = true) (h_flue : K .flue = true) (h_lines : K .lines = true) (h_out : K .out = true) (z_eq : Z (.page .eq) = true) (z_hrt : Z (.page .hrt) = true) :
    view K Z (Work.qcmdWrite w q x) = view K Z w := by
  unfold Work.qcmdWrite
  (try simp (maxDischargeDepth := 9) only [↓view_ite, ite_self, implies_true, id_eq, ↓view_when, ↓view_qCheck, ↓view_qNext, ↓view_qRelease, ↓view_qMark, ↓view_qRewind, ↓view_qReset, ↓view_qPeakRst, h_eq, h_flue, h_lines, h_out, z_eq, z_hrt]) <;> (repeat' split) <;> first | rfl | simp (maxDischargeDepth := 9) only [↓view_ite, ite_self, implies_true, id_eq, ↓view_when, ↓view_qCheck, ↓view_qNext, ↓view_qRelease, ↓view_qMark, ↓view_qRewind, ↓view_qReset, ↓view_qPeakRst, h_eq, h_flue, h_lines, h_out, z_eq, z_hrt]

theorem view_cmdWrite (w : Work) (c : ℕ) (x : Word) (h_bad : K .bad = true) (h_clu : K .clu = true) (h_events : K .events = true) (h_flue : K .flue = true) (h_lane : K .lane = true) (h_lines : K .lines = true) (h_out : K .out = true) (h_recd : K .recd = true) (h_rgn : K .rgn = true) (h_sram : K .sram = true) (h_unit : K .unit = true) (z_clu : Z (.page .clu) = true) (z_recorder : Z (.page .recorder) = true) (z_unit : Z (.page .unit) = true) :
    view K Z (Work.cmdWrite w c x) = view K Z w := by
  unfold Work.cmdWrite
  (try simp (maxDischargeDepth := 9) only [↓view_ite, ite_self, implies_true, id_eq, ↓view_clusterCmd, ↓view_badval, zone_pgCLU, mod_pgCLU, h_bad, h_clu, h_events, h_flue, h_lane, h_lines, h_out, h_recd, h_rgn, h_sram, h_unit, z_clu, z_recorder, z_unit]) <;> (repeat' split) <;> first | rfl | simp (maxDischargeDepth := 9) only [↓view_ite, ite_self, implies_true, id_eq, ↓view_clusterCmd, ↓view_badval, zone_pgCLU, mod_pgCLU, h_bad, h_clu, h_events, h_flue, h_lane, h_lines, h_out, h_recd, h_rgn, h_sram, h_unit, z_clu, z_recorder, z_unit]



theorem view_readActs (w : Work) (k : PageKind) (inst o : Nat) (q : Work × Word) (h_cap : K .cap = true) (h_ethRx : K .ethRx = true) (h_ethTx : K .ethTx = true) (h_rgn : K .rgn = true) (z_ad : Z (.page .ad) = true) (z_emb : Z (.page .emb) = true) (z_eth : Z (.page .eth) = true) (z_tally : Z (.page .tally) = true)
    (h : w.readActs k inst o = some q) : view K Z q.1 = view K Z w := by
  cases k <;> (simp only [Work.readActs] at h)
  case tally =>
    split at h
    · cases h; simp only [↓view_readNow, h_cap, z_tally]
    · obtain ⟨i, _, rfl⟩ := Option.map_eq_some_iff.mp h
      simp only [↓view_readCap, h_cap, z_tally]
  case eth =>
    split at h
    · cases h; simp only [↓view_readRxKey, h_ethRx, z_eth]
    · split at h
      · cases h; simp only [↓view_readTxKey, h_ethTx, z_eth]
      · cases h
  case ad =>
    split at h
    · cases h; simp only [↓view_readAdc, z_ad]
    · cases h
  case emb =>
    split at h
    · cases h; simp only [↓view_readEcnt, z_emb]
    · cases h
  case rg =>
    split at h
    · cases h; simp only [↓view_readT0, h_rgn]
    · split at h
      · obtain ⟨i, _, rfl⟩ := Option.map_eq_some_iff.mp h
        exact view_modRg _ _ _ h_rgn
      · cases h
  all_goals cases h

theorem view_readWord (w : Work) (a : ℕ) (h_cap : K .cap = true) (h_ethRx : K .ethRx = true) (h_ethTx : K .ethTx = true) (h_rgn : K .rgn = true) (z_ad : Z (.page .ad) = true) (z_emb : Z (.page .emb) = true) (z_eth : Z (.page .eth) = true) (z_tally : Z (.page .tally) = true) :
    view K Z (Work.readWord w a).1 = view K Z w := by
  unfold Work.readWord
  split
  · rfl
  · split
    · rfl
    · extract_lets pg o
      (repeat' split) <;> first
        | rfl
        | (rename_i q hq; exact view_readActs _ _ _ _ _ h_cap h_ethRx h_ethTx h_rgn z_ad z_emb z_eth z_tally hq)

theorem view_bar0Read (w : Work) (a : ℕ) (wide : Bool) (h_cap : K .cap = true) (h_ethRx : K .ethRx = true) (h_ethTx : K .ethTx = true) (h_out : K .out = true) (h_rgn : K .rgn = true) (z_ad : Z (.page .ad) = true) (z_emb : Z (.page .emb) = true) (z_eth : Z (.page .eth) = true) (z_host : Z (.page .host) = true) (z_pkg : Z (.page .pkg) = true) (z_tally : Z (.page .tally) = true) :
    view K Z (Work.bar0Read w a wide) = view K Z w := by
  unfold Work.bar0Read
  extract_lets as zeros first
  split
  · rw [view_emit _ _ h_out, view_accErr _ _ _ _ z_host]
  · split
    · rw [view_emit _ _ h_out, view_fabErr _ _ _ _ _ z_host z_pkg]
    · rw [view_emit _ _ h_out]
      exact view_foldl_pair _ _ _ fun x a => view_readWord x.1 a h_cap h_ethRx h_ethTx h_rgn z_ad z_emb z_eth z_tally

theorem view_freeBytes (w : Work) (n : ℕ) (h_freeCtr : K .freeCtr = true) :
    view K Z (Work.freeBytes w n).1 = view K Z w := by
  unfold Work.freeBytes
  (try simp (maxDischargeDepth := 9) only [↓view_ite, ite_self, implies_true, id_eq, ↓view_useFree, h_freeCtr]) <;> (repeat' split) <;> first | rfl | simp (maxDischargeDepth := 9) only [↓view_ite, ite_self, implies_true, id_eq, ↓view_useFree, h_freeCtr]

theorem view_bar2Write (w : Work) (off : ℕ) (bs : List Byte) (h_bad : K .bad = true) (h_dram : K .dram = true) (h_freeCtr : K .freeCtr = true) (z_host : Z (.page .host) = true) (z_pkg : Z (.page .pkg) = true) :
    view K Z (Work.bar2Write w off bs) = view K Z w := by
  unfold Work.bar2Write
  (try simp (maxDischargeDepth := 9) only [↓view_ite, ite_self, implies_true, id_eq, ↓view_fabErr, ↓view_freshWord, ↓view_accErr, ↓view_dramPut, h_bad, h_dram, h_freeCtr, z_host, z_pkg]) <;> (repeat' split) <;> first | rfl | simp (maxDischargeDepth := 9) only [↓view_ite, ite_self, implies_true, id_eq, ↓view_fabErr, ↓view_freshWord, ↓view_accErr, ↓view_dramPut, h_bad, h_dram, h_freeCtr, z_host, z_pkg]

theorem view_bar2Read (w : Work) (off : ℕ) (len : ℕ) (ecc : Ecc) (h_bad : K .bad = true) (h_chop : K .chop = true) (h_clu : K .clu = true) (h_events : K .events = true) (h_flue : K .flue = true) (h_freeCtr : K .freeCtr = true) (h_hearth : K .hearth = true) (h_lane : K .lane = true) (h_lines : K .lines = true) (h_net : K .net = true) (h_out : K .out = true) (h_recd : K .recd = true) (h_sl : K .sl = true) (h_sram : K .sram = true) (h_unit : K .unit = true) (z_clu : Z (.page .clu) = true) (z_host : Z (.page .host) = true) (z_hrt : Z (.page .hrt) = true) (z_hrt1 : Z (.page .hrt1) = true) (z_hrt2 : Z (.page .hrt2) = true) (z_pkg : Z (.page .pkg) = true) (z_recorder : Z (.page .recorder) = true) (z_rg : Z (.page .rg) = true) (z_sysn : Z (.page .sysn) = true) :
    view K Z (Work.bar2Read w off len ecc) = view K Z w := by
  unfold Work.bar2Read
  (try simp (maxDischargeDepth := 9) only [↓view_ite, ite_self, implies_true, id_eq, ↓view_emit, ↓view_fabErr, ↓view_freshWord, ↓view_freeBytes, ↓view_accErr, ↓view_memErr, h_bad, h_chop, h_clu, h_events, h_flue, h_freeCtr, h_hearth, h_lane, h_lines, h_net, h_out, h_recd, h_sl, h_sram, h_unit, z_clu, z_host, z_hrt, z_hrt1, z_hrt2, z_pkg, z_recorder, z_rg, z_sysn]) <;> (repeat' split) <;> first | rfl | simp (maxDischargeDepth := 9) only [↓view_ite, ite_self, implies_true, id_eq, ↓view_emit, ↓view_fabErr, ↓view_freshWord, ↓view_freeBytes, ↓view_accErr, ↓view_memErr, h_bad, h_chop, h_clu, h_events, h_flue, h_freeCtr, h_hearth, h_lane, h_lines, h_net, h_out, h_recd, h_sl, h_sram, h_unit, z_clu, z_host, z_hrt, z_hrt1, z_hrt2, z_pkg, z_recorder, z_rg, z_sysn]

theorem view_sramBytes (w : Work) (off : ℕ) (len : ℕ) (h_freeCtr : K .freeCtr = true) :
    view K Z (Work.sramBytes w off len).1 = view K Z w := by
  unfold Work.sramBytes
  (try simp (maxDischargeDepth := 9) only [↓view_ite, ite_self, implies_true, id_eq, ↓view_useFree, h_freeCtr]) <;> (repeat' split) <;> first | rfl | simp (maxDischargeDepth := 9) only [↓view_ite, ite_self, implies_true, id_eq, ↓view_useFree, h_freeCtr]

theorem view_bar4Read (w : Work) (off : ℕ) (len : ℕ) (ecc : Ecc) (h_bad : K .bad = true) (h_chop : K .chop = true) (h_clu : K .clu = true) (h_events : K .events = true) (h_flue : K .flue = true) (h_freeCtr : K .freeCtr = true) (h_hearth : K .hearth = true) (h_lane : K .lane = true) (h_lines : K .lines = true) (h_net : K .net = true) (h_out : K .out = true) (h_recd : K .recd = true) (h_sl : K .sl = true) (h_sram : K .sram = true) (h_unit : K .unit = true) (z_clu : Z (.page .clu) = true) (z_host : Z (.page .host) = true) (z_hrt : Z (.page .hrt) = true) (z_hrt1 : Z (.page .hrt1) = true) (z_hrt2 : Z (.page .hrt2) = true) (z_pkg : Z (.page .pkg) = true) (z_recorder : Z (.page .recorder) = true) (z_rg : Z (.page .rg) = true) (z_sysn : Z (.page .sysn) = true) :
    view K Z (Work.bar4Read w off len ecc) = view K Z w := by
  unfold Work.bar4Read
  (try simp (maxDischargeDepth := 9) only [↓view_ite, ite_self, implies_true, id_eq, ↓view_emit, ↓view_fabErr, ↓view_freeBytes, ↓view_accErr, ↓view_memErr, ↓view_sramBytes, h_bad, h_chop, h_clu, h_events, h_flue, h_freeCtr, h_hearth, h_lane, h_lines, h_net, h_out, h_recd, h_sl, h_sram, h_unit, z_clu, z_host, z_hrt, z_hrt1, z_hrt2, z_pkg, z_recorder, z_rg, z_sysn]) <;> (repeat' split) <;> first | rfl | simp (maxDischargeDepth := 9) only [↓view_ite, ite_self, implies_true, id_eq, ↓view_emit, ↓view_fabErr, ↓view_freeBytes, ↓view_accErr, ↓view_memErr, ↓view_sramBytes, h_bad, h_chop, h_clu, h_events, h_flue, h_freeCtr, h_hearth, h_lane, h_lines, h_net, h_out, h_recd, h_sl, h_sram, h_unit, z_clu, z_host, z_hrt, z_hrt1, z_hrt2, z_pkg, z_recorder, z_rg, z_sysn]

end Sys2Proof.Machine
end

