-- ==== Sys2Proof/Laws/ViewUplink.lean ====
section
/-! SUPPORT. What each operation of Machine/Uplink.lean can write: the view without those kinds and zones is as it was. -/

set_option linter.unusedSimpArgs false
set_option linter.unreachableTactic false
set_option linter.unusedTactic false
set_option linter.unnecessarySeqFocus false

namespace Sys2Proof.Machine

variable {K : Kind → Bool} {Z : Zone → Bool}

theorem view_badFrame (w : Work) (c : ℕ) (h_flue : K .flue = true) (h_lane : K .lane = true) (h_lines : K .lines = true) (h_out : K .out = true) (z_clane : Z (.page .clane) = true) :
    view K Z (Work.badFrame w c) = view K Z w := by
  unfold Work.badFrame
  (try simp (maxDischargeDepth := 9) only [↓view_ite, ite_self, implies_true, id_eq, ↓view_modLn, ↓view_flt, zone_pgCLANE, mod_pgCLANE, ↓view_count, h_flue, h_lane, h_lines, h_out, z_clane]) <;> (repeat' split) <;> first | rfl | simp (maxDischargeDepth := 9) only [↓view_ite, ite_self, implies_true, id_eq, ↓view_modLn, ↓view_flt, zone_pgCLANE, mod_pgCLANE, ↓view_count, h_flue, h_lane, h_lines, h_out, z_clane]

theorem view_goodFrame (w : Work) (c : ℕ) (copy : Bool) (h_lane : K .lane = true) :
    view K Z (Work.goodFrame w c copy) = view K Z w := by
  unfold Work.goodFrame
  (try simp (maxDischargeDepth := 9) only [↓view_ite, ite_self, implies_true, id_eq, ↓view_modLn, ↓view_startExch, h_lane]) <;> (repeat' split) <;> first | rfl | simp (maxDischargeDepth := 9) only [↓view_ite, ite_self, implies_true, id_eq, ↓view_modLn, ↓view_startExch, h_lane]

theorem view_frameSymbols (w : Work) (c : Fin 48) (z_clane : Z (.page .clane) = true) (z_sysn : Z (.page .sysn) = true) :
    view K Z (Work.frameSymbols w c) = view K Z w := by
  unfold Work.frameSymbols
  (try simp (maxDischargeDepth := 9) only [↓view_ite, ite_self, implies_true, id_eq, ↓view_dataSymbol, z_clane, z_sysn]) <;> (repeat' split) <;> first | rfl | simp (maxDischargeDepth := 9) only [↓view_ite, ite_self, implies_true, id_eq, ↓view_dataSymbol, z_clane, z_sysn]

theorem view_receive (w : Work) (c : Fin 48) (syn : BitVec 16) (copy : Bool) (use : Work → Work)
    (hu : ∀ v, view K Z (use v) = view K Z v) (h_flue : K .flue = true)
    (h_lane : K .lane = true) (h_lines : K .lines = true) (h_out : K .out = true) (z_clane : Z (.page .clane) = true)
    (z_hrt : Z (.page .hrt) = true) (z_sysn : Z (.page .sysn) = true) :
    view K Z (w.receive c syn copy use) = view K Z w := by
  unfold Work.receive
  extract_lets v0 v1 seen v2
  have e0 : view K Z v0 = view K Z w := by
    show view K Z (Work.frameSymbols _ _) = _
    simp only [↓view_frameSymbols, h_lane, z_clane, z_sysn]
  rw [← e0]
  split
  · rfl
  · have e1 : view K Z v1 = view K Z v0 :=
      view_when _ _ _ fun v => view_injDone _ _ _ (mod_pgCLANE _) (by rw [zone_pgCLANE]; exact z_clane) z_hrt
    rw [← e1]
    split
    · rw [view_badFrame _ _ h_flue h_lane h_lines h_out z_clane]
    · split
      · rfl
      · have e2 : view K Z v2 = view K Z v1 := view_goodFrame _ _ _ h_lane
        split
        · exact e2
        · rw [hu, e2]

theorem view_receiveData (w : Work) (c : Fin 48) (syn : BitVec 16) (copy : Bool) (use : Work → Work)
    (hu : ∀ v, view K Z (use v) = view K Z v) (h_flue : K .flue = true)
    (h_lane : K .lane = true) (h_lines : K .lines = true) (h_out : K .out = true) (z_clane : Z (.page .clane) = true)
    (z_hrt : Z (.page .hrt) = true) (z_pkg : Z (.page .pkg) = true) (z_sysn : Z (.page .sysn) = true) :
    view K Z (w.receiveData c syn copy use) = view K Z w := by
  unfold Work.receiveData
  split
  · exact view_when _ _ _ fun v => view_discard _ z_pkg
  · exact view_receive _ _ _ _ _ hu h_flue h_lane h_lines h_out z_clane z_hrt z_sysn

theorem view_meas (w : Work) (c : ℕ) (m : Meas) (h_rgn : K .rgn = true) (z_window : Z .window = true) (z_abc : Z (.page .abc) = true) (z_clu : Z (.page .clu) = true) (z_pkg : Z (.page .pkg) = true) :
    view K Z (Work.meas w c m) = view K Z w := by
  unfold Work.meas
  (try simp (maxDischargeDepth := 9) only [↓view_ite, ite_self, implies_true, id_eq, ↓view_count, zone_pgCLU, mod_pgCLU, ↓view_each, ↓view_fileSlot, h_rgn, z_window, z_abc, z_clu, z_pkg]) <;> (repeat' split) <;> first | rfl | simp (maxDischargeDepth := 9) only [↓view_ite, ite_self, implies_true, id_eq, ↓view_count, zone_pgCLU, mod_pgCLU, ↓view_each, ↓view_fileSlot, h_rgn, z_window, z_abc, z_clu, z_pkg]

theorem view_transRep (w : Work) (c : ℕ) (r : TransRep) (h_unit : K .unit = true) (z_unit : Z (.page .unit) = true) :
    view K Z (Work.transRep w c r) = view K Z w := by
  unfold Work.transRep
  (try simp (maxDischargeDepth := 9) only [↓view_ite, ite_self, implies_true, id_eq, ↓view_modUn, ↓view_when, ↓view_wr, zone_pgUNIT, mod_pgUNIT, h_unit, z_unit]) <;> (repeat' split) <;> first | rfl | simp (maxDischargeDepth := 9) only [↓view_ite, ite_self, implies_true, id_eq, ↓view_modUn, ↓view_when, ↓view_wr, zone_pgUNIT, mod_pgUNIT, h_unit, z_unit]

theorem view_tripFlags (w : Work) (o : ℕ) (f : TripFlags) (z_clu : Z (.page .clu) = true) :
    view K Z (Work.tripFlags w o f) = view K Z w := by
  unfold Work.tripFlags
  (try simp (maxDischargeDepth := 9) only [↓view_ite, ite_self, implies_true, id_eq, ↓view_wr, zone_pgCLU, mod_pgCLU, z_clu]) <;> (repeat' split) <;> first | rfl | simp (maxDischargeDepth := 9) only [↓view_ite, ite_self, implies_true, id_eq, ↓view_wr, zone_pgCLU, mod_pgCLU, z_clu]

theorem view_trip (w : Work) (c : ℕ) (t : Trip) (h_bad : K .bad = true) (h_clu : K .clu = true) (h_events : K .events = true) (h_flue : K .flue = true) (h_lane : K .lane = true) (h_lines : K .lines = true) (h_out : K .out = true) (h_recd : K .recd = true) (h_sram : K .sram = true) (h_unit : K .unit = true) (z_clu : Z (.page .clu) = true) (z_recorder : Z (.page .recorder) = true) (z_unit : Z (.page .unit) = true) :
    view K Z (Work.trip w c t) = view K Z w := by
  unfold Work.trip
  (try simp (maxDischargeDepth := 9) only [↓view_ite, ite_self, implies_true, id_eq, ↓view_tripFlags, ↓view_protEvent, ↓view_modCl, h_bad, h_clu, h_events, h_flue, h_lane, h_lines, h_out, h_recd, h_sram, h_unit, z_clu, z_recorder, z_unit]) <;> (repeat' split) <;> first | rfl | simp (maxDischargeDepth := 9) only [↓view_ite, ite_self, implies_true, id_eq, ↓view_tripFlags, ↓view_protEvent, ↓view_modCl, h_bad, h_clu, h_events, h_flue, h_lane, h_lines, h_out, h_recd, h_sram, h_unit, z_clu, z_recorder, z_unit]

theorem view_stat0Regs (w : Work) (c : ℕ) (s : Stat0) (z_clane : Z (.page .clane) = true) :
    view K Z (Work.stat0Regs w c s) = view K Z w := by
  unfold Work.stat0Regs
  (try simp (maxDischargeDepth := 9) only [↓view_ite, ite_self, implies_true, id_eq, ↓view_wr, zone_pgCLANE, mod_pgCLANE, z_clane]) <;> (repeat' split) <;> first | rfl | simp (maxDischargeDepth := 9) only [↓view_ite, ite_self, implies_true, id_eq, ↓view_wr, zone_pgCLANE, mod_pgCLANE, z_clane]

theorem view_cmdAck (w : Work) (o : ℕ) (cack : ℕ) (h_clu : K .clu = true) (h_lane : K .lane = true) (h_unit : K .unit = true) :
    view K Z (Work.cmdAck w o cack) = view K Z w := by
  unfold Work.cmdAck
  (try simp (maxDischargeDepth := 9) only [↓view_ite, ite_self, implies_true, id_eq, ↓view_when, ↓view_cmdDone, ↓view_each, ↓view_modCl, ↓view_modUn, ↓view_sendCmd, h_clu, h_lane, h_unit]) <;> (repeat' split) <;> first | rfl | simp (maxDischargeDepth := 9) only [↓view_ite, ite_self, implies_true, id_eq, ↓view_when, ↓view_cmdDone, ↓view_each, ↓view_modCl, ↓view_modUn, ↓view_sendCmd, h_clu, h_lane, h_unit]

theorem view_stResult (w : Work) (o : ℕ) (s : Stat0) (h_clu : K .clu = true) (h_flue : K .flue = true) (h_lines : K .lines = true) (h_out : K .out = true) (z_clu : Z (.page .clu) = true) :
    view K Z (Work.stResult w o s) = view K Z w := by
  unfold Work.stResult
  (try simp (maxDischargeDepth := 9) only [↓view_ite, ite_self, implies_true, id_eq, ↓view_stEnd, h_clu, h_flue, h_lines, h_out, z_clu]) <;> (repeat' split) <;> first | rfl | simp (maxDischargeDepth := 9) only [↓view_ite, ite_self, implies_true, id_eq, ↓view_stEnd, h_clu, h_flue, h_lines, h_out, z_clu]

theorem view_statRole (w : Work) (c : ℕ) (s : Stat0) (h_bad : K .bad = true) (h_chop : K .chop = true) (h_events : K .events = true) (h_flue : K .flue = true) (h_hearth : K .hearth = true) (h_lane : K .lane = true) (h_lines : K .lines = true) (h_net : K .net = true) (h_out : K .out = true) (h_recd : K .recd = true) (h_rgn : K .rgn = true) (h_sl : K .sl = true) (h_sram : K .sram = true) (h_twin : K .twin = true) (h_unit : K .unit = true) (z_hrt : Z (.page .hrt) = true) (z_hrt1 : Z (.page .hrt1) = true) (z_pkg : Z (.page .pkg) = true) (z_recorder : Z (.page .recorder) = true) (z_sysn : Z (.page .sysn) = true) (z_twin : Z (.page .twin) = true) :
    view K Z (Work.statRole w c s) = view K Z w := by
  unfold Work.statRole
  (try simp (maxDischargeDepth := 9) only [↓view_ite, ite_self, implies_true, id_eq, ↓view_sendRole, ↓view_setEpoch, ↓view_modLn, ↓view_stepDown, h_bad, h_chop, h_events, h_flue, h_hearth, h_lane, h_lines, h_net, h_out, h_recd, h_rgn, h_sl, h_sram, h_twin, h_unit, z_hrt, z_hrt1, z_pkg, z_recorder, z_sysn, z_twin]) <;> (repeat' split) <;> first | rfl | simp (maxDischargeDepth := 9) only [↓view_ite, ite_self, implies_true, id_eq, ↓view_sendRole, ↓view_setEpoch, ↓view_modLn, ↓view_stepDown, h_bad, h_chop, h_events, h_flue, h_hearth, h_lane, h_lines, h_net, h_out, h_recd, h_rgn, h_sl, h_sram, h_twin, h_unit, z_hrt, z_hrt1, z_pkg, z_recorder, z_sysn, z_twin]

theorem view_stat (w : Work) (c : ℕ) (s : Stat) (h_bad : K .bad = true) (h_chop : K .chop = true) (h_clu : K .clu = true) (h_events : K .events = true) (h_flue : K .flue = true) (h_hearth : K .hearth = true) (h_lane : K .lane = true) (h_lines : K .lines = true) (h_net : K .net = true) (h_out : K .out = true) (h_recd : K .recd = true) (h_rgn : K .rgn = true) (h_sl : K .sl = true) (h_sram : K .sram = true) (h_twin : K .twin = true) (h_unit : K .unit = true) (z_clane : Z (.page .clane) = true) (z_clu : Z (.page .clu) = true) (z_hrt : Z (.page .hrt) = true) (z_hrt1 : Z (.page .hrt1) = true) (z_pkg : Z (.page .pkg) = true) (z_recorder : Z (.page .recorder) = true) (z_sysn : Z (.page .sysn) = true) (z_twin : Z (.page .twin) = true) :
    view K Z (Work.stat w c s) = view K Z w := by
  unfold Work.stat
  (try simp (maxDischargeDepth := 9) only [↓view_ite, ite_self, implies_true, id_eq, ↓view_statRole, ↓view_stResult, ↓view_cmdAck, ↓view_cstat, ↓view_modCl, ↓view_wr, zone_pgCLU, mod_pgCLU, ↓view_stat0Regs, zone_pgCLANE, mod_pgCLANE, h_bad, h_chop, h_clu, h_events, h_flue, h_hearth, h_lane, h_lines, h_net, h_out, h_recd, h_rgn, h_sl, h_sram, h_twin, h_unit, z_clane, z_clu, z_hrt, z_hrt1, z_pkg, z_recorder, z_sysn, z_twin]) <;> (repeat' split) <;> first | rfl | simp (maxDischargeDepth := 9) only [↓view_ite, ite_self, implies_true, id_eq, ↓view_statRole, ↓view_stResult, ↓view_cmdAck, ↓view_cstat, ↓view_modCl, ↓view_wr, zone_pgCLU, mod_pgCLU, ↓view_stat0Regs, zone_pgCLANE, mod_pgCLANE, h_bad, h_chop, h_clu, h_events, h_flue, h_hearth, h_lane, h_lines, h_net, h_out, h_recd, h_rgn, h_sl, h_sram, h_twin, h_unit, z_clane, z_clu, z_hrt, z_hrt1, z_pkg, z_recorder, z_sysn, z_twin]

end Sys2Proof.Machine
end

