-- ==== Sys2Proof/WellFormed.lean ====
section
/-! DEFINITION. Which commands a sender can carry: the bounds that the operand types do not already hold. `exec` gives
every command a meaning; these bounds say which of them stand for something that can reach the part. -/

namespace Sys2Proof

/-- A Tally time within its registers (R121). -/
def Time.wf (t : Time) : Bool := decide (t.s < 2 ^ 48) && decide (t.ns < 1000000000) && decide (t.fr < 2 ^ 32)

/-- A packet's payload holds at most 512 bytes (R460). -/
def Pkt.wf (p : Pkt) : Bool := decide (p.payload.length ≤ 128)

/-- The operands of a command lie in the ranges the spec gives them. -/
def Instr.wf : Instr → Bool
  | .registerWrite a _ _ => a.toNat % 4 == 0
  | .hostBar0Read a wide => a.toNat % (if wide then 8 else 4) == 0
  | .hostBar2Write off data => !data.isEmpty && decide (off.toNat + data.length ≤ 2 ^ 27)
  | .hostBar2Read off len _ => len != 0 && decide (off.toNat + len.toNat ≤ 2 ^ 27)
  | .hostBar4Read off len _ => len != 0 && decide (off.toNat + len.toNat ≤ 2 ^ 23)
  | .slPacketReceived _ p _ _ => p.wf
  | .hoReqReceived d _ | .hoAckReceived d | .hoNakReceived d => d.wf
  | .copyReceived _ _ _ data => decide (data.length ≤ 256)
  | _ => true

end Sys2Proof
end

