-- ==== Sys2Proof/Tests/Slice0.lean ====
section
/-! SUPPORT. The model's own tests: the checks of well-formedness, a few single steps with values the spec gives, and for
every statement with hypotheses a state and operands that meet them. -/

open Sys2Proof Sys2Proof.Machine

namespace Sys2Proof.Tests

/-- Registers written with the values given: page, field, element, value. -/
def regs (l : List (Nat × Field × Nat × Nat)) (w : Work) : Work := l.foldl (fun w e => w.wr e.1 e.2.1 e.2.2.2 e.2.2.1) w

/-- A state after Kindling, with no fence raised, these registers written, and `f` done behind the registers. -/
def st (l : List (Nat × Field × Nat × Nat)) (f : Work → Work := id) : State :=
  State.reset.onDev fun w =>
    f (regs ([(pgPKG, PKG_KSTAT_DONE, 0, 1), (pgPKG, PKG_KSTAT_STEP, 0, 12), (pgPKG, PKG_FENCE_STAT, 0, 0)] ++ l) w)

/-- The state with this Tally. -/
def tal (t : Tally) (s : State) : State := { s with tally := t }

/-- The Tally running, and its gates closed. -/
def running : Tally := { Tally.reset with running := true }
def gated : Tally := { running with pll := { running.pll with closed := true, lockDet := true } }

/-- What a command answers, or the state itself. -/
def after (c : Instr) (s : State) : State := match exec c s with | .next t => t | _ => s

/-! ### Well-formed commands: for each check a term that it refuses -/

theorem test_wf_write_aligned : (Instr.registerWrite 0x42 0xF 0).wf = false := by decide
theorem test_wf_read_aligned : (Instr.hostBar0Read 0x41 false).wf = false ∧ (Instr.hostBar0Read 0x44 true).wf = false := by decide
theorem test_wf_bar2_write : (Instr.hostBar2Write 0 []).wf = false ∧ (Instr.hostBar2Write 0x7FFFFFF [0, 0]).wf = false := by decide
theorem test_wf_bar2_read : (Instr.hostBar2Read 0 0 .ok).wf = false ∧ (Instr.hostBar2Read 0x7FFFFFF 2 .ok).wf = false := by decide
theorem test_wf_bar4_read : (Instr.hostBar4Read 0 0 .ok).wf = false ∧ (Instr.hostBar4Read 0x7FFFFF 2 .ok).wf = false := by decide
theorem test_wf_packet : (Instr.slPacketReceived 0 ⟨1, false, 0, 0, 0, 0, List.replicate 129 0⟩ .good 0).wf = false := by
  simp only [Instr.wf, Pkt.wf, List.length_replicate]; decide
theorem test_wf_times : (Instr.hoReqReceived ⟨2 ^ 48, 0, 0⟩ 0).wf = false ∧ (Instr.hoAckReceived ⟨0, 1000000000, 0⟩).wf = false ∧
    (Instr.hoNakReceived ⟨0, 0, 2 ^ 32⟩).wf = false := by decide
theorem test_wf_copy : (Instr.copyReceived 0 0 0 (List.replicate 257 0)).wf = false := by
  simp only [Instr.wf, List.length_replicate]; decide
theorem test_no_command_bits : decodeTableWord 32 0 = none := rfl

/-- The Hearth drives ROLE_TX low from reset on (R413: Kindling). -/
theorem test_role_tx_at_reset : Sys2Proof.Machine.State.reset.work.roleTx = some false := by decide

/-! ### The whole machine -/

theorem witness_StepTakesFrontCommand : State.reset.pending = [] := rfl
theorem witness_CommandsStayInScope : scopeOf (.sminRst 3) = some ⟨[.held], [.page .abc, .page .host, .page .pkg]⟩ := rfl
theorem witness_TallyStaysLegal : TallyLegal { State.reset with pending := [.tallyTick [] false] } ∧
    ∃ t, step { State.reset with pending := [.tallyTick [] false] } = .next t := ⟨by decide, _, rfl⟩
theorem witness_MemoryStaysCanonical : Memory.wf { State.reset with pending := [.hostBar4Write 0] } ∧
    ∃ t, step { State.reset with pending := [.hostBar4Write 0] } = .next t := ⟨by decide, _, rfl⟩

/-! ### The Tally and the system PLL -/

theorem witness_TickAddsIncrement : (tal running (st [])).tally.ticking = true ∧ TimeLegal (tal running (st [])).tally.a ∧
    (tal running (st [])).tally.b = (tal running (st [])).tally.a ∧ ¬ (tal running (st [])).on pgTALLY HDR_INJ_ARMED ∧
    (tal gated (st [])).tally.ticking = false := by decide

theorem witness_NowReadLatches :
    let s := tal { running with a := ⟨2 ^ 48 - 1, 999999999, 2 ^ 32 - 1⟩ } (st [])
    TimeLegal s.tally.a ∧ ∀ f ∈ [TALLY_NOW_NS, TALLY_NOW_S_LO, TALLY_NOW_S_HI, TALLY_NOW_FR], s.readable (pgTALLY + f.at 0) := by decide

theorem witness_IncrementStagedThenCommitted : ¬ (st []).on pgTALLY HDR_LOCK_LOCKED ∧
    0x7F5C28F6 ≤ (tal { running with staged := some 0x7F5C28F6 } (st [])).tally.staged.getD 0 ∧
    (tal { running with staged := some 0x80A3D70A } (st [])).tally.staged.getD 0 ≤ 0x80A3D70A ∧
    incLegal (2#4).toNat 0x7F5C28F5 = false ∧ incLegal (3#4).toNat 0x80000000 = false ∧ (st []).tally.incFrac < 2 ^ 32 ∧
    (st []).reaches (pgTALLY + TALLY_INC_FRAC.at 0) ∧ (st []).reaches (pgTALLY + TALLY_INC_NS.at 0) ∧
    (st []).readable (pgTALLY + TALLY_INC_FRAC.at 0) ∧
    (let s := st [(pgTALLY, HDR_LOCK_LOCKED, 0, 1)]
     s.on pgTALLY HDR_LOCK_LOCKED ∧ s.reaches (pgTALLY + TALLY_INC_FRAC.at 0) ∧ s.reaches (pgTALLY + TALLY_INC_NS.at 0)) := by decide

theorem witness_StepSetsTimeOrIsRefused :
    (let s := st [(pgTALLY, TALLY_STEP_NS, 0, 999999999)]
     ¬ s.on pgTALLY HDR_LOCK_LOCKED ∧ s.reaches (pgTALLY + TALLY_STEP_CTL_GO.at 0) ∧ s.stepFree ∧ s.rd pgTALLY TALLY_STEP_NS < 1000000000 ∧
     s.tally.b = s.tally.a ∧ 0 ≤ (units s.tally.a : Int) + s.work.rdS pgTALLY TALLY_STEP_ADJ * 2 ^ 32 + (s.rd pgTALLY TALLY_STEP_FR * 2 ^ 16 : Nat)) ∧
    (let s := st [(pgTALLY, TALLY_STEP_ADJ, 0, 0xFFFFFFFF)]
     (units s.tally.a : Int) + s.work.rdS pgTALLY TALLY_STEP_ADJ * 2 ^ 32 + (s.rd pgTALLY TALLY_STEP_FR * 2 ^ 16 : Nat) < 0) ∧
    ¬ (st [(pgCLU 47, CLU_CSTAT_STATE, 0, 5)]).stepFree := by decide

theorem witness_PllFollowsAndHoldsOver :
    (¬ (st []).on pgSPLL HDR_LOCK_LOCKED ∧ (st []).reaches (pgSPLL + SPLL_NOFS.at 0) ∧ (st []).tally.pll.target = none ∧ (toSigned 24 (53687#24).toNat).natAbs ≤ 53687 ∧ (st []).tally.pll.closed = false ∧
      (toSigned 24 (2684#24).toNat - (st []).tally.pll.settled).natAbs ≤ 2684 ∧
      2684 < (toSigned 24 (2685#24).toNat - (st []).tally.pll.settled).natAbs ∧ 53687 < (toSigned 24 (53688#24).toNat).natAbs) ∧
    (st [(pgSPLL, SPLL_STAT_SLEWING, 0, 1)]).on pgSPLL SPLL_STAT_SLEWING ∧
    (let s := tal gated (st [])
     s.tally.running = true ∧ s.tally.pll.closed = true ∧ TimeLegal s.tally.a ∧ ¬ s.on pgSPLL SPLL_STAT_HOLDOVER ∧
     s.tally.pll.lockDet = true ∧ ¬ s.on pgSPLL SPLL_STAT_LOCKED) ∧
    (let s := tal { gated with pll := { gated.pll with quiet := 7 } } (st [(pgSPLL, SPLL_STAT_HOLDOVER, 0, 1), (pgSPLL, SPLL_STAT_LOCKED, 0, 1), (pgSPLL, SPLL_SETTLE, 0, 7)])
     s.on pgSPLL SPLL_STAT_HOLDOVER ∧ s.tally.running = true ∧ s.tally.pll.closed = true ∧ TimeLegal s.tally.a ∧ s.tally.b = s.tally.a ∧
     ¬ s.on pgTALLY HDR_INJ_ARMED ∧ s.tally.pll.lockDet = true ∧ s.on pgSPLL SPLL_STAT_LOCKED ∧ s.tally.pll.target = none ∧
     s.rd pgSPLL SPLL_SETTLE ≤ s.tally.pll.quiet) ∧
    (let s := tal { gated with pll := { gated.pll with quiet := 6, target := some 1 } } (st [(pgSPLL, SPLL_SETTLE, 0, 7)])
     s.tally.pll.quiet < s.rd pgSPLL SPLL_SETTLE ∧ s.tally.pll.target ≠ none) := by decide

theorem witness_ClockFaultsRaised :
    (let s := tal running (st [])
     s.tally.ticking = true ∧ TimeLegal s.tally.a ∧ s.tally.b = s.tally.a ∧ ¬ s.on pgTALLY HDR_INJ_ARMED ∧
     (s.rd pgTALLY HDR_FLT_CAUSE).testBit 0 = false ∧ s.on pgPKG PKG_KSTAT_DONE) ∧
    (let s := tal gated (st [])
     s.tally.pll.closed = true ∧ (∀ c : Fin 48, s.rd (pgCLU c) CLU_CSTAT_STATE ≠ 1 ∧ s.rd (pgCLU c) CLU_CSTAT_STATE ≠ 3 ∧
       s.rd (pgCLU c) CLU_CSTAT_STATE ≠ 5) ∧ ¬ s.on pgSPLL HDR_FLTMASK_UC_MASK ∧ ¬ s.on pgSPLL HDR_INJ_ARMED) ∧
    (let s := tal gated (st [(pgCLU 47, CLU_CFG_TOPO, 0, 1), (pgCLU 47, CLU_CSTAT_STATE, 0, 5), (pgSPLL, HDR_INJ_ARMED, 0, 1)])
     s.tally.pll.closed = true ∧ s.serving 47 ∧ s.rd (pgCLU 47) CLU_CSTAT_STATE = 5 ∧ s.on pgSPLL HDR_INJ_ARMED ∧ s.rd pgSPLL HDR_INJ_CHK = 0) ∧
    (900 ≤ (900#11).toNat ∧ (1100#11).toNat ≤ 1100 ∧ (899#11).toNat < 900 ∧ 1100 < (1101#11).toNat) := by decide

theorem witness_TimesCapturedAndDriven : TimeLegal (st []).tally.a ∧ (st []).readable (pgTALLY + TALLY_CAP_NS_NS.at 0) ∧
    (let s := st [(pgTALLY, TALLY_CAP_CTL_EN, 31, 1), (pgTALLY, TALLY_CAP_CTL_EDGE, 31, 2)]
     s.on pgTALLY TALLY_CAP_CTL_EN 31 ∧ s.rd pgTALLY TALLY_CAP_CTL_EDGE 31 = 2 ∧ ¬ s.on pgTALLY TALLY_CAP_NS_FULL 31) ∧
    (let s := st [(pgTALLY, TALLY_CAP_CTL_EN, 0, 1), (pgTALLY, TALLY_CAP_CTL_EDGE, 0, 1), (pgTALLY, TALLY_CAP_NS_FULL, 0, 1)]
       (fun w => w.setCap 0 (some default))
     s.on pgTALLY TALLY_CAP_CTL_EN 0 ∧ s.rd pgTALLY TALLY_CAP_CTL_EDGE 0 = b2n true ∧ s.on pgTALLY TALLY_CAP_NS_FULL 0 ∧
     s.dev.cap[(0 : Fin 32)] = some default) ∧
    (let s := tal { running with a := ⟨2 ^ 32, 6, 0⟩ } (st [(pgTALLY, TALLY_TO_CTL_EN, 15, 1), (pgTALLY, TALLY_TO_CTL_MODE, 15, 1),
       (pgTALLY, TALLY_TO_NS, 15, 5), (pgTALLY, TALLY_TO_PER, 15, 1)] fun w => w.modTout 15 fun _ => ⟨some 1, false⟩)
     s.on pgTALLY TALLY_TO_CTL_EN 15 ∧ (vget s.dev.tout 15).next = some 1 ∧ s.dueAt 15 1 = t16 s.tally.a ∧
     s.rd pgTALLY TALLY_TO_CTL_MODE 15 = 1 ∧ s.on pgTALLY TALLY_TO_PER 15) ∧
    (let s := st [(pgTALLY, TALLY_TO_CTL_EN, 0, 1), (pgTALLY, TALLY_TO_CTL_MODE, 0, 3), (pgTALLY, TALLY_TO_NS, 0, 1)]
       fun w => w.modTout 0 fun _ => ⟨some 0, true⟩
     s.on pgTALLY TALLY_TO_CTL_EN 0 ∧ (vget s.dev.tout 0).next = some 0 ∧ t16 s.tally.a < s.dueAt 0 0 ∧
     s.rd pgTALLY TALLY_TO_CTL_MODE 0 ≠ 1 ∧ (vget s.dev.tout 0).on = true) := by decide


theorem witness_TimesCapturedAndDriven_ptp :
    (let s := st [(pgETH 1, ETH_PTP_CTL_ING_EN, 0, 1), (pgETH 1, ETH_PTP_CTL_L2, 0, 1), (pgETH 1, ETH_PTP_CTL_EGR_EN, 0, 1)]
       (fun w => w.modEthTx 1 fun _ => [⟨1, ⟨0, 999999999, 0⟩, false, 0⟩])
     s.on (pgETH 1) ETH_PTP_CTL_ING_EN ∧ s.work.ptpEvent 1 ⟨0, 3, 0, 0⟩ = true ∧ (vget s.dev.ethRx 1).length < 16 ∧
     s.on (pgETH 1) ETH_PTP_CTL_EGR_EN ∧ ¬ s.on (pgETH 1) ETH_PTP_CTL_ONESTEP ∧ (vget s.dev.ethTx 1).length < 16 ∧ vget s.dev.ethRx 1 = [] ∧
     vget s.dev.ethTx 1 = [⟨1, ⟨0, 999999999, 0⟩, false, 0⟩] ∧ s.readable (pgETH 1 + ETH_RX_KEY_VALID.at 0) ∧
     s.readable (pgETH 1 + ETH_TX_KEY_VALID.at 0)) ∧
    (let l : List PtpTs := List.replicate 16 ⟨1, ⟨0, 999999999, 0⟩, false, 0⟩
     let s := st [(pgETH 0, ETH_PTP_CTL_ONESTEP, 0, 1), (pgETH 0, ETH_PTP_CTL_IPV4, 0, 1), (pgETH 0, ETH_PTP_CTL_EGR_EN, 0, 1), (pgETH 0, ETH_PTP_CTL_ING_EN, 0, 1)]
       (fun w => (w.modEthRx 0 fun _ => l).modEthTx 0 fun _ => l)
     s.on (pgETH 0) ETH_PTP_CTL_EGR_EN ∧ s.on (pgETH 0) ETH_PTP_CTL_ONESTEP ∧ s.work.ptpEvent 0 ⟨1, 0, 0, 0⟩ = true ∧
     (⟨1, 1, 0, 0⟩ : PtpMsg).msgType ≠ 0 ∧ (⟨1, 0, 0, 0⟩ : PtpMsg).msgType = 0 ∧ (⟨1, 0, 0, 0⟩ : PtpMsg).transport ≠ 2 ∧
     s.on (pgETH 0) ETH_PTP_CTL_ING_EN ∧ s.work.ptpEvent 0 ⟨1, 1, 0, 0⟩ = true ∧ 16 ≤ (vget s.dev.ethTx 0).length ∧
     16 ≤ (vget s.dev.ethRx 0).length ∧ (vget s.dev.ethRx 0).tail.length < 16) := by decide

/-! ### Host accesses -/

theorem witness_StrayAccessesFlagged : (st []).dev.shut = false ∧ mapped (0x16000 / 4 * 4) = false ∧ mapped (0x1FFFFFF / 4 * 4) = false ∧ (0xE#4) ≠ 0xF := by decide

theorem witness_HeaderWritesByAccessCode :
    (pageOf 0x1000008 = some (.rg, 0) ∧ (st []).reaches (0x1000008 / 4 * 4) ∧ 0x1000008 % 0x1000 = 0x008 ∧
      ¬ (st []).on 0x1000000 HDR_LOCK_LOCKED) ∧
    (let s := st [(pgPKG, HDR_LOCK_LOCKED, 0, 1)]
     pageOf 0x14 = some (.pkg, 0) ∧ s.reaches 0x14 ∧ s.on pgPKG HDR_LOCK_LOCKED) ∧
    (pageOf 0x25083F = some (.emb, 0) ∧ (st []).reaches (0x25083F / 4 * 4) ∧ 0x800 ≤ 0x25083F % 0x1000 ∧ 0x25083F % 0x1000 < 0x840) ∧
    (pageOf (0x1 * 0x1000) = some (.tally, 0) ∧ (st []).reaches (0x1 * 0x1000 + 0x18) ∧ (st []).reaches (0x1 * 0x1000 + 0x1C) ∧
      PageKind.tally.hasInj ∧ injOk .tally 0 109 ∧ ¬ injOk .tally 0 110 ∧ ¬ (st []).on 0x1000 HDR_LOCK_LOCKED ∧
      (st [(0x1000, HDR_LOCK_LOCKED, 0, 1)]).on 0x1000 HDR_LOCK_LOCKED) ∧
    (pageOf 0x250000 = some (.emb, 0) ∧ ¬ PageKind.emb.hasInj) := by decide

theorem witness_ShadowAndCounterWrites :
    (let s := st []
     s.reaches 0x1020000 ∧ shadowOf 0x1020000 = some (0x1010000, pgABC 0) ∧ (windowOf 0x1010000).isSome ∧
     ¬ s.on pgPKG PKG_SWAP_STAT_ARMED ∧ ¬ s.on pgPKG PKG_SWAP_STAT_PENDING ∧ ¬ s.on pgPKG PKG_SWAP_STAT_COPY_BUSY) ∧
    (let s := st []
     let a := pgCLU 0 + CLU_CFG_TOPO.at 0
     s.reaches (a + 0x800) ∧ shadowOf (a + 0x800) = some (a, pgCLU 0) ∧ windowOf a = none ∧ pageOf a = some (.clu, 0) ∧
     ¬ s.on (pgCLU 0) HDR_LOCK_LOCKED ∧ (∀ e ∈ accAt .clu (a % 0x1000) .rws, s.work.valueOk .clu 0 e.1 e.2 0x10001 = true) ∧
     (∃ e ∈ accAt .clu (a % 0x1000) .rws, ¬ s.work.valueOk .clu 0 e.1 e.2 0xFFFFFFFF) ∧ rwsMask a ≠ 0) ∧
    (let s := st [(pgCLU 0, HDR_LOCK_LOCKED, 0, 1)]
     s.on (pgCLU 0) HDR_LOCK_LOCKED ∧ s.reaches (pgCLU 0 + CLU_CFG_TOPO.at 0 + 0x800) ∧
     accAt .clu ((pgCLU 0 + CLU_CFG_TOPO.at 0) % 0x1000) .rws ≠ []) ∧
    (windowOf 0x1010000 = some (.secActive 0) ∧ pageOf (pgCLU 0 + CLU_CFG_TOPO.at 0) = some (.clu, 0) ∧
      accAt .clu ((pgCLU 0 + CLU_CFG_TOPO.at 0) % 0x1000) .rws ≠ [] ∧
      ∀ e ∈ fieldsAt .clu ((pgCLU 0 + CLU_CFG_TOPO.at 0) % 0x1000), e.1.acc = .rws) ∧
    (st [(pgPKG, PKG_SWAP_STAT_COPY_BUSY, 0, 1)]).on pgPKG PKG_SWAP_STAT_COPY_BUSY ∧
    (let a := pgABC 3 + ABC_SAT_COUNT.at 0
     pageOf a = some (.abc, 3) ∧ PageKind.abc ≠ .emb ∧ a % 4 = 0 ∧ a % 0x1000 < 0x800 ∧ (st []).reaches a ∧
     accAt .abc (a % 0x1000) .cnt ≠ []) := by decide

theorem witness_Bar0ReadAnswers :
    ((st []).dev.shut = false ∧ pageOf 0x7FC = some (.pkg, 0) ∧ (st []).fenceAt 0x7FC false = none ∧ pageOf 0x40 = some (.pkg, 0) ∧ (st []).fenceAt 0x40 false = none) ∧
    (shadowOf 0x82000 = some (0x80000, pgPKG) ∧ (st []).fenceAt 0x82000 false = none) ∧
    ((windowOf 0x81FFF).isSome ∧ shadowOf (0x81FFF / 8 * 8) = none ∧ (st []).fenceAt (0x81FFF / 8 * 8) false = none) ∧
    (pageOf 0x1C0000C = some (.rg, 3) ∧ 0x1C0000C % 0x800 = 0xC ∧ (st []).fenceAt 0x1C0000C false = none) ∧
    ((st [(pgPKG, PKG_FENCE_STAT, 0, 8)]).fenceAt 0x1C00040 false = some (3, false) ∧ mapped 0x1C00040 = true ∧
      ¬ (st []).on pgHOST HOST_FAB_ERR_BUSY ∧ ¬ (st []).on pgHOST HOST_FAB_ERR_WITHDRAWN ∧
      (st [(pgHOST, HOST_FAB_ERR_BUSY, 0, 1)]).on pgHOST HOST_FAB_ERR_BUSY) := by decide

theorem witness_DataWindowsStoreAndAnswer :
    (let s := st [(pgEQ 0, EQ_QCFG_EN, 0, 1), (pgEQ 0, EQ_OVF_BASE, 0, 1), (pgEQ 0, EQ_OVF_SIZE, 0, 1)]
     s.dev.shut = false ∧ s.work.memGate .dram = none ∧ s.work.badIn 6 0 2 = false ∧ (∀ r ∈ s.work.protectedRanges, r.1 + r.2 ≤ 0xFFFF ∨ 0xFFFF + 1 ≤ r.1) ∧
     (∃ r ∈ s.work.protectedRanges, 0xFFFF < r.1 + r.2 ∧ r.1 < 0xFFFF + 2) ∧ ¬ s.on pgHRT HDR_INJ_ARMED) ∧
    (st []).work.memGate (bar4Mem 0x74C000).1 = none ∧ (st []).work.memGate (bar4Mem 0x7FFFFF).1 = none ∧ (st []).work.badIn 4 0x24C000 16 = false ∧
    ((st [] fun w => w.markBad 6 1).work.badIn 6 15 1 = true) ∧
    (st [(pgBIST, BIST_BSTAT_HUB_RUN, 0, 1)]).work.memGate .dram = some (6, true) := by decide

/-! ### The region cycle, the Abacus and the edges -/

theorem witness_CycleStartsAndStops :
    (¬ (st []).on (pgRG 3) HDR_LOCK_LOCKED ∧ (st []).reaches (pgRG 3 + RG_CYC_CTL.at 0) ∧ (st []).readable (pgRG 3 + RG_CYC_T0_NS.at 0) ∧
      (st []).readable (pgRG 3 + RG_CYC_T0_S.at 0) ∧ ¬ (st []).on (pgRG 3) RG_CYC_CTL ∧ ((st []).region 3).run = false) ∧
    ((st [] fun w => w.modRg 0 fun r => { r with run := true }).region 0).run = true ∧
    (let s := st [(pgRG 3, RG_CYC_CTL, 0, 1), (pgCLU 47, CLU_CSTAT_STATE, 0, 5)]
     s.on (pgRG 3) RG_CYC_CTL ∧ ∃ i : Fin 12, s.rd (pgCLU (12 * 3 + i)) CLU_CSTAT_STATE = 5) ∧
    (let s := st [(pgRG 0, RG_CYC_CTL, 0, 1), (pgCLU 12, CLU_CSTAT_STATE, 0, 3)]
     s.on (pgRG 0) RG_CYC_CTL ∧ ∀ i : Fin 12, s.rd (pgCLU (12 * 0 + i)) CLU_CSTAT_STATE ≠ 1 ∧ s.rd (pgCLU (12 * 0 + i)) CLU_CSTAT_STATE ≠ 3 ∧
       s.rd (pgCLU (12 * 0 + i)) CLU_CSTAT_STATE ≠ 5) ∧
    (let s := st [(pgRG 3, HDR_LOCK_LOCKED, 0, 1)]
     s.on (pgRG 3) HDR_LOCK_LOCKED ∧ s.reaches (pgRG 3 + RG_CYC_CTL.at 0)) := by decide

/-- A region that runs cycles in phase `ph`. -/
def cyc (n ph : Nat) (f : Region → Region) (l : List (Nat × Field × Nat × Nat) := []) : State :=
  st ([(pgRG n, RG_CYC_CTL, 0, 1), (pgRG n, RG_CYC_STAT_PHASE, 0, ph)] ++ l)
    fun w => w.modRg n fun r => f { r with run := true, nextB := some 1600000 }

theorem witness_BoundarySealsAndAdvances :
    (let s := cyc 3 3 (fun r => { r with tDone := some 1 }) [(pgRG 3, RG_CYC_COUNT, 0, 0xFFFFFFFE)]
     (s.region 3).nextB = some 1600000 ∧ (s.region 3).run = true ∧ (s.region 3).standby = false ∧
     (s.rd pgPKG PKG_FENCE_STAT).testBit 3 = false ∧ (s.region 3).stopPend = false ∧ (s.region 3).takeAt = none ∧
     (s.region 3).releaseAt = none ∧ s.work.swapNow 3 1600000 = false ∧ s.rd (pgRG 3) RG_CYC_COUNT + 1 < 2 ^ 32 ∧
     s.rd (pgRG 3) RG_CYC_STAT_PHASE = 3 ∧ (s.region 3).overrun = false ∧ (s.region 3).tDone.isSome) ∧
    (let s := cyc 0 3 (fun r => { r with overrun := true })
     (s.region 0).nextB = some 1600000 ∧ s.work.swapNow 0 1600000 = false ∧ (s.region 0).overrun = true ∧ (s.region 0).tDone = none) := by decide

theorem witness_InputDeadlineFilesSlots :
    let s := cyc 3 1 (fun r => { r with fillCur := [⟨95, 1, false, 0⟩] }) [(pgABC 3, ABC_PROG, 0, 1)]
    s.cycling 3 1 ∧ (s.region 3).catchUp = 0 ∧ s.rd (pgABC 3) ABC_PROG ≠ 0 ∧ (cyc 3 1 id).rd (pgABC 3) ABC_PROG = 0 ∧ canStale 95 ∧ (s.region 3).fillCur.find? (fun g => g.slot == 95) = some ⟨95, 1, false, 0⟩ := by decide

theorem witness_SectionsCompute :
    (let c : Sec := default
     c.shift ≤ 7 ∧ -8 ≤ c.shift ∧ c.limen = false ∧ c.sub = 0 ∧ c.b0 = 0) ∧
    (let s := cyc 3 2 (fun r => { r with reckon := true }) [(pgABC 3, ABC_PROG, 0, 1)]
     (s.region 3).reckon = true ∧ (s.rd pgPKG PKG_FENCE_STAT).testBit 3 = false ∧ (s.region 3).pc < s.rd (pgABC 3) ABC_PROG ∧
     ¬ s.on (pgABC 3) HDR_INJ_ARMED ∧ (s.region 3).catchUp = 0 ∧ (s.work.sect 3 (s.region 3).pc).defined (s.region 3).pc = true ∧
     s.rd (pgABC 3) ABC_PROG ≤ (s.region 3).pc + 1) := by decide

theorem witness_ResidueErrorsRetried :
    (let u : Upset := ⟨3, 0, 6, 0⟩
     u.step = 0 ∧ u.acc % 7 ≠ 0) ∧
    (let s := cyc 0 2 (fun r => { r with reckon := true }) [(pgABC 0, ABC_PROG, 0, 2)]
     let c := s.work.sect 0 0
     (s.region 0).reckon = true ∧ (s.rd pgPKG PKG_FENCE_STAT).testBit 0 = false ∧ (s.region 0).pc = 0 ∧ 0 < s.rd (pgABC 0) ABC_PROG ∧
     (s.region 0).catchUp = 0 ∧ ¬ s.on (pgABC 0) HDR_INJ_ARMED ∧ (s.region 0).resErrs = 0 ∧ c.defined 0 = true ∧
     (s.work.runSec 0 0 c [⟨3, 0, 6, 0⟩]).bad = some 3 ∧ (s.work.runSec 0 0 c []).bad = none) ∧
    ((cyc 0 2 (fun r => { r with reckon := true, resErrs := 1 }) []).region 0).resErrs ≠ 0 ∧
    (let s := cyc 0 2 (fun r => { r with reckon := true }) [(pgABC 0, ABC_PROG, 0, 2), (pgABC 0, HDR_INJ_ARMED, 0, 1), (pgABC 0, HDR_INJ_CHK, 0, 3)]
     s.on (pgABC 0) HDR_INJ_ARMED ∧ s.rd (pgABC 0) HDR_INJ_CHK ≤ 3 ∧ (s.work.runSec 0 0 (s.work.sect 0 0) []).bad = none ∧
     (s.work.runSec 0 0 (s.work.sect 0 0) [⟨3, 0, 6, 0⟩]).bad = some 3) := by decide +kernel

theorem witness_OutputDeadlineSchedulesOrOverruns :
    (let s := cyc 3 2 (fun r => { r with tDone := some 1 })
     s.cycling 3 2 ∧ (s.region 3).nextB.isSome ∧ (s.region 3).reckon = false ∧ (s.region 3).abandoned = false ∧
     (s.region 3).tDone.isSome ∧ (s.region 3).overrun = false) ∧
    (let s := cyc 0 2 (fun r => { r with reckon := true }) [(pgABC 0, ABC_OVR_CTL, 0, 1)]
     s.cycling 0 2 ∧ (s.region 0).reckon = true ∧ s.rd (pgABC 0) ABC_OVR_CTL ≤ min (s.rd (pgABC 0) ABC_RSTAT_OVR_RUN + 1) 15 ∧
     s.rd (pgABC 0) ABC_RSTAT_OVR_RUN < s.rd (pgABC 0) ABC_OVR_CTL ∧ ¬ s.on (pgABC 0) ABC_RSTAT_OVR_TRIP) := by decide

theorem witness_HostWritesToAbacus : ¬ (st []).on (pgRG 3) RG_CYC_CTL ∧ (cyc 3 1 id).on (pgRG 3) RG_CYC_CTL ∧
    (st []).reaches (stateWordAddr 3 2047) ∧ (st []).reaches (slotAddr 3 1023) ∧ (st []).reaches (pgABC 3 + ABC_ACTL.at 0) ∧
    (st []).reaches (pgSP 3 3 + SP_CH_CTL_FB_SET.at 15) ∧ (st []).reaches (pgUNIT 191 + UNIT_HD_CTL_COMMIT.at 0) ∧
    512 ≤ (512 : Fin 1024).val ∧ (511 : Fin 1024).val < 512 ∧
    (st [(pgUNIT 191, UNIT_ESTAT_HD_PENDING, 0, 1)]).on (pgUNIT 191) UNIT_ESTAT_HD_PENDING := by decide

theorem witness_EdgesGuarded :
    (let e : EdgeW := { (default : EdgeW) with due := 16000 }
     let s := st [(pgCLU 0, CLU_CFG_TOPO, 0, 1), (pgCLU 0, CLU_CSTAT_STATE, 0, 3)] fun w => w.modLn 0 fun k => { k with timed := [.edge 3 e] }
     s.serving (s.work.owner (3 / 4)) ∧ Timed.edge 3 e ∈ (s.work.ln (s.work.owner (3 / 4))).timed ∧ e.cancel = false ∧
     e.due ≤ t16 s.tally.a + 16000) ∧
    (let s := st [(pgUNIT 191, UNIT_DT_CTL_ADAPT, 0, 1), (pgUNIT 191, UNIT_DT_CTL_K, 0, 1)]
       fun w => w.modUn 191 fun k => { k with emit := true, repHL := some (400, false) }
     (s.work.un 191).emit = true ∧ (s.work.un 191).frozen = false ∧ s.on (pgUNIT 191) UNIT_DT_CTL_ADAPT ∧
     (s.work.un 191).repHL = some (400, false) ∧ (s.work.un 191).repLH = none ∧
     (((s.work.un 191).dtq.getLast?).getD (s.work.un 191).dt).sLH = false ∧ s.rd (pgUNIT 191) UNIT_DT_CTL_K ≤ (s.work.un 191).missLH + 1) ∧
    ¬ (st []).on (pgUNIT 0) UNIT_DT_CTL_ADAPT := by decide +kernel


/-! ### Sets, the fabric, the Flue, the Hearth, the freeze -/

theorem witness_SetsCopiedAndChecked :
    (let s := st []
     s.fenceAt (pgPKG + PKG_SWAP_SETCOPY.at 0) true = none ∧ ¬ s.on pgPKG PKG_SWAP_STAT_ARMED ∧ ¬ s.on pgPKG PKG_SWAP_STAT_PENDING ∧
     ¬ s.on pgPKG PKG_SWAP_STAT_COPY_BUSY ∧ s.on pgPKG PKG_KSTAT_DONE ∧ s.notHeld 2) ∧
    (st [(pgPKG, PKG_SWAP_STAT_COPY_BUSY, 0, 1)]).on pgPKG PKG_SWAP_STAT_COPY_BUSY ∧
    (st [(pgPKG, PKG_SWAP_STAT_PENDING, 0, 1)]).on pgPKG PKG_SWAP_STAT_PENDING ∧ ¬ (st [(pgPKG, PKG_KSTAT_DONE, 0, 0)]).on pgPKG PKG_KSTAT_DONE := by decide

theorem witness_SwapArmedCheckedAndDecided :
    ((st []).fenceAt (pgPKG + PKG_SWAP_ARM.at 0) true = none ∧ ¬ (st []).on pgPKG PKG_SWAP_STAT_ARMED ∧ ¬ (st []).on pgPKG PKG_SWAP_STAT_PENDING) ∧
    (let s := st [(pgPKG, PKG_SWAP_STAT_ARMED, 0, 1), (pgPKG, PKG_SWAP_STAT_CHECKING, 0, 1)]
     s.on pgPKG PKG_SWAP_STAT_ARMED ∧ s.dev.net.swapFrom = none ∧ s.on pgPKG PKG_SWAP_STAT_CHECKING ∧
     t16 s.tally.a < (st [(pgPKG, PKG_SWAP_TL, 0, 1)]).work.swapD ∧ (st []).work.swapD ≤ t16 s.tally.a) ∧
    (let s := st [(pgPKG, PKG_SWAP_STAT_ARMED, 0, 1)]
     s.on pgPKG PKG_SWAP_STAT_ARMED ∧ s.dev.net.swapFrom = none ∧ ¬ s.on pgPKG PKG_SWAP_STAT_CHECKING ∧
     s.work.checksLast s.work.preview = none ∧ s.rd pgPKG PKG_SWAP_STAT_RG_DONE = 0 ∧ ¬ s.work.marked 3 ∧
     (∀ n : Fin 4, ¬ s.on (pgRG n) RG_CYC_CTL) ∧ s.rd pgPKG PKG_SWAP_STAT_PENDING = 0) ∧
    (let s := st [(pgPKG, PKG_SWAP_STAT_ARMED, 0, 1), (pgRG 3, RG_CYC_CTL, 0, 1)]
     s.work.checksLast s.work.preview = none ∧ s.on (pgRG 3) RG_CYC_CTL ∧ ¬ s.work.marked 3) := by decide +kernel

theorem witness_StallsAndFences :
    (let s := st [(pgCLU 47, CLU_CFG_TOPO, 0, 1), (pgCLU 47, CLU_CSTAT_STATE, 0, 3)]
     s.serving 47 ∧ s.work.path2 47 = false ∧ (47 : Fin 48).val / 12 = 3 ∧ (47 : Fin 48).val / 24 = 1 ∧ s.notHeld 1) ∧
    (let s := st [(pgCLU 46, CLU_CFG_TOPO, 0, 3), (pgCLU 47, CLU_CFG_TOPO, 0, 3), (pgCLU 46, CLU_CFG_PATH2, 0, 1), (pgCLANE 46, CLANE_LSTAT_STATE, 0, 3)]
     s.work.path2 (s.work.owner 47) = true ∧ (46 : Nat) ≠ 47 ∧ s.work.owner 46 = s.work.owner 47 ∧ s.rd (pgCLANE 46) CLANE_LSTAT_STATE = 3 ∧
     s.work.pathStalled 46 = false) ∧
    (st [] fun w => w.modSec fun k => { k with drain := 8 }).dev.sec.drain.testBit 3 = true ∧
    max ((st [(pgPKG, PKG_DAMP_CTL, 0, 7)]).rd pgPKG PKG_DAMP_CTL) ((st []).rd pgTHERM THERM_TSTAT_TLEVEL) < 8 := by decide

theorem witness_StallsAndFences_host :
    (let s := st [(pgPKG, PKG_FENCE_STAT, 0, 8), (pgBIST, BIST_BSTAT_RUN, 0, 8)] fun w => w.modKin fun k => { k with porst := false }
     hostAt (.cycT0NsRead 3) = some (pgRG 3 + RG_CYC_T0_NS.at 0, false) ∧ isSwap (.cycT0NsRead 3) = false ∧ s.dev.shut = false ∧
     s.fenceAt (pgRG 3 + RG_CYC_T0_NS.at 0) false = some (3, true)) ∧
    (let s := st [(pgPKG, PKG_DAMP_CTL, 0, 7)] (·.setShut true)
     hostAt .pkgReset = some (pgPKG + PKG_RST_CTL_KEY.at 0, true) ∧ s.dev.shut = true ∧ s.dev.kin.thermalOff = false ∧ s.dev.kin.porst = false ∧
     isSwap .swapArm = true ∧ isSwap .pkgReset = false) := by decide

theorem witness_FlueCarriesReports :
    (let f : List InFlight := [⟨.cluster 47, 31, ⟨.uc, 5, 16, 0⟩⟩, ⟨.hearth, 6, ⟨.ce, 5, 16, 0⟩⟩]
     let s := st [] fun w => w.setFlue f
     (⟨.cluster 47, 31, ⟨.uc, 5, 16, 0⟩⟩ : InFlight) ∈ s.dev.flue ∧ s.work.collFenced (.cluster 47) = false ∧
     (⟨.hearth, 6, ⟨.ce, 5, 16, 0⟩⟩ : InFlight) ∈ s.dev.flue ∧ s.rd pgHRT HRT_ASH_SEQ + 1 < 2 ^ 32 ∧
     (st [(pgPKG, PKG_FENCE_STAT, 0, 8)] fun w => w.setFlue f).work.collFenced (.cluster 47) = true) ∧
    (let s := st [] fun w => w.setLines [⟨.fatal, 1, 16, 0⟩]
     (⟨.fatal, 1, 16, 0⟩ : Report) ∈ s.dev.lines ∧ s.notHeld 1) ∧
    ¬ (st [] fun w => w.modHearth fun h => { h with held := [⟨0, 0, 0xFF, 4, 0xF, 1⟩] }).notHeld 1 := by decide

theorem witness_HearthReactsAndChecks :
    (let s := st [(pgHRT1, HRT1_RT_A_COND, 31, 1), (pgCLU 47, CLU_CSTAT_STATE, 0, 3)]
     s.work.condHolds 31 = true ∧ s.work.rtAct 31 = false ∧ (∀ h ∈ s.dev.hearth.held, h.kind = 0 → h.entry ≠ 31) ∧
     (Held.covers ⟨1, 0, 31, 2, 8, 0⟩).testBit (47 / 12) = true ∧ s.serving 47 ∧ s.rd pgHRT HRT_PLEA_LEVEL ≠ 4 ∧ s.notHeld 4 ∧
     s.rd pgHRT HRT_PLEA_LEVEL ≤ (4#3).toNat ∧ s.rd pgHRT HRT_PLEA_RGMASK &&& (0xF#4).toNat = s.rd pgHRT HRT_PLEA_RGMASK ∧ 4 < (5#3).toNat ∧
     s.reaches (pgHRT + HRT_REL_GO.at 0) ∧ s.reaches (pgHRT + HRT_PLEA_LEVEL.at 0) ∧ ¬ s.on pgHRT HDR_LOCK_LOCKED ∧
     ¬ s.on pgHRT HDR_INJ_ARMED ∧ s.notHeld 1 ∧ (s.rd pgHRT HRT_SUPSTAT_NOW).testBit 6 = false ∧ (s.rd pgHRT HRT_SUPSTAT_NOW).testBit 7 = false) ∧
    (let s := st [(pgHRT1, HRT1_RT_ACT, 0, 2 ^ 31), (pgHRT, HRT_PLEA_LEVEL, 0, 4), (pgHRT, HRT_SUPSTAT_NOW, 0, 0x80), (pgHRT, HRT_HSTAT_ALIVE_RUN, 0, 1)]
     s.work.rtAct 31 = true ∧ s.rd pgHRT HRT_PLEA_LEVEL = 4 ∧ (3#3).toNat < s.rd pgHRT HRT_PLEA_LEVEL ∧
     (s.rd pgHRT HRT_SUPSTAT_NOW).testBit 7 = true ∧ s.on pgHRT HRT_HSTAT_ALIVE_RUN) ∧
    (let s := st [(pgHRT, HDR_LOCK_LOCKED, 0, 1), (pgHRT, HDR_INJ_ARMED, 0, 1)]
     s.on pgHRT HDR_LOCK_LOCKED ∧ s.on pgHRT HDR_INJ_ARMED ∧ s.rd pgHRT HDR_INJ_CHK = 0 ∧ ¬ s.on pgHRT HRT_HSTAT_ALIVE_RUN) := by decide

theorem witness_MemoryErrorsRecorded : Mem.dram ≠ .hearth ∧ Mem.region 3 ≠ .hearth ∧ (36 : Fin 48).val / 12 = (3 : Fin 4).val ∧
    (st [(pgCLU 36, CLU_CSTAT_STATE, 0, 3)]).serving 36 ∧ ¬ (st []).on pgHRT HDR_INJ_ARMED ∧ (st []).notHeld 1 := by decide

theorem witness_FreezeHoldsAndReleases :
    (let s := st []
     ¬ s.on pgPKG HDR_LOCK_LOCKED ∧ s.reaches (pgPKG + PKG_FRZ_CTL.at 0) ∧ ¬ s.on pgPKG PKG_FRZ_STAT_FROZEN ∧ s.dev.hearth.frz = none ∧
     0 < s.tally.inc) ∧
    (st [(pgPKG, PKG_FRZ_STAT_JTAG, 0, 1)]).on pgPKG PKG_FRZ_STAT_JTAG ∧
    (let s := st [(pgPKG, PKG_FRZ_CTL, 0, 1), (pgHRT, HRT_HGUARD_TIME, 0, 1)] fun w => w.modHearth fun h => { h with frz := some 32000 }
     s.dev.hearth.frz = some 32000 ∧ s.on pgPKG PKG_FRZ_CTL ∧ s.rd pgHRT HRT_HGUARD_TIME ≠ 0) ∧
    (let s := st [(pgPKG, PKG_FRZ_STAT_FROZEN, 0, 1), (pgHRT, HRT_HSTAT_HG_RUN, 0, 1), (pgHRT, HRT_HGUARD_AIN, 0, 63)]
     s.on pgPKG PKG_FRZ_STAT_FROZEN ∧ ¬ s.on pgPKG PKG_FRZ_STAT_JTAG ∧ s.on pgHRT HRT_HSTAT_HG_RUN ∧ s.dev.hearth.guardPast = false ∧
     ¬ s.on pgHRT HRT_HSTAT_DEEN ∧ s.notHeld 3 ∧ s.rd pgHRT HRT_HGUARD_AIN / 4 = 15 ∧ (s.work.ad 15).run = none ∧ ¬ s.on (pgAD 15) AD_ASTAT_CAL_RUN) ∧
    (let s := st [(pgHRT, HRT_HSTAT_HG_RUN, 0, 1), (pgHRT, HRT_HSTAT_DEEN, 0, 1)]
     s.on pgHRT HRT_HSTAT_HG_RUN ∧ s.dev.hearth.guardPast = false ∧ s.on pgHRT HRT_HSTAT_DEEN) := by decide

theorem witness_SealedUpdateChecked :
    ¬ (st []).on pgHRT HRT_SUPD_STAT_BUSY ∧ (st []).reaches (pgHRT + HRT_SUPD_CTL_GO.at 0) ∧ ¬ (st []).on pgHRT HDR_LOCK_LOCKED ∧
    (st [(pgHRT, HDR_LOCK_LOCKED, 0, 1)]).on pgHRT HDR_LOCK_LOCKED ∧
    (let s := st [(pgHRT, HRT_SUPD_STAT_BUSY, 0, 1), (pgCLU 0, CLU_CSTAT_STATE, 0, 2)]
     s.on pgHRT HRT_SUPD_STAT_BUSY ∧ s.work.supdFail (s.work.sealImage (s.rd pgHRT HRT_SUPD_CTL_IMG)) = some 1 ∧ ∀ e ∈ s.dev.bad, e.1 ≠ 6) := by decide

/-! ### ADCs, comparators, protection -/

theorem witness_AdcConverts :
    (let s := st [(pgRG 3, RG_APLAN_EN, 63, 1)] fun w => w.modRg 3 fun r => { r with run := true }
     let k := s.work.ad 15
     s.reaches (pgAD 15 + AD_NCMD_GO.at 0) ∧ s.reaches (pgAD 15 + AD_UCMD_GO.at 0) ∧ s.reaches (pgAD 15 + AD_ACTL.at 0) ∧
     s.readable (pgAD 15 + AD_DATA_CODE.at 0) ∧
     k.run = none ∧ k.uqHearth = none ∧ k.uqHost = none ∧ k.aborted = none ∧ k.nq = [] ∧ ¬ s.on (pgAD 15) AD_ASTAT_CAL_PEND ∧
     ¬ s.on (pgAD 15) AD_ASTAT_CAL_RUN ∧ (63 : Fin 64).val / 4 = 15 ∧ s.on (pgRG 3) RG_APLAN_EN 63 ∧ (s.region 3).run = true ∧
     (s.rd pgPKG PKG_FENCE_STAT).testBit 3 = false ∧ 0 ≤ toSigned 20 (s.rd (pgRG 3) RG_APLAN_OFS 63)) ∧
    (let r : AdcReq := ⟨3, .host, false⟩
     let s := st [(pgAD 0, AD_DATA_FULL, 0, 1)] fun w => w.modAdc 0 fun k => { k with run := some (r, ⟨0, 5, 0⟩), nq := [r, r, r] }
     let k := s.work.ad 0
     k.run = some (r, ⟨0, 5, 0⟩) ∧ k.run.isSome ∧ k.nq.length < 4 ∧ r.urgent = false ∧ k.uqHost = none ∧ k.uqHearth = none ∧
     ¬ s.on (pgAD 0) AD_ASTAT_CAL_RUN ∧ ¬ s.on (pgAD 0) AD_ASTAT_CAL_PEND ∧ r.src = .host ∧ r.ch < 4 ∧ s.on (pgAD 0) AD_DATA_FULL) ∧
    (let r : AdcReq := ⟨3, .host, false⟩
     let s := st [] fun w => w.modAdc 1 fun k => { k with run := some (r, ⟨0, 5, 0⟩), nq := [r, r, r, r], uqHost := some 0 }
     4 ≤ (s.work.ad 1).nq.length ∧ (s.work.ad 1).uqHost.isSome ∧ ¬ s.on (pgAD 1) AD_DATA_FULL) ∧
    (let r : AdcReq := ⟨3, .hearth, true⟩
     let s := st [(pgHRT, HRT_HSTAT_HG_RUN, 0, 1)] fun w => w.modAdc 3 fun k => { k with run := some (r, ⟨0, 5, 0⟩) }
     (s.work.ad 3).run = some (r, ⟨0, 5, 0⟩) ∧ r.src = .hearth ∧ s.on pgHRT HRT_HSTAT_HG_RUN ∧ s.work.hearth.guardPast = false ∧ r.urgent = true ∧
     (s.work.ad 3).uqHost = none ∧ ¬ s.on (pgAD 3) AD_ASTAT_CAL_RUN) ∧
    (let s := st [(pgAD 4, AD_ASTAT_CAL_RUN, 0, 1)]
     s.on (pgAD 4) AD_ASTAT_CAL_RUN ∧ (s.work.ad 4).run = none ∧ (s.work.ad 4).uqHost = none ∧ (s.work.ad 4).uqHearth = none ∧
     (s.work.ad 4).nq.length < 4 ∧ ¬ s.on (pgRG 0) RG_APLAN_EN 16) ∧
    (let s := st [(pgAD 2, AD_ASTAT_CAL_RUN, 0, 1)] fun w => w.modAdc 2 fun k => { k with run := some (⟨0, .host, false⟩, ⟨0, 5, 0⟩) }
     (s.work.ad 2).run.isSome ∧ (s.work.ad 2).uqHearth = none ∧ (s.work.ad 2).uqHost = none ∧ (s.work.ad 2).aborted = none ∧
     (s.work.ad 2).nq = [] ∧ ¬ s.on (pgAD 2) AD_ASTAT_CAL_PEND ∧ s.on (pgAD 2) AD_ASTAT_CAL_RUN) := by
  refine ⟨?_, ?_, ?_, ?_, ?_, ?_⟩ <;> decide +kernel

theorem witness_ComparatorsDecide :
    (let s := st [(pgWC 63, WC_WCFG_EN, 0, 1), (pgWC 63, WC_THR_THI, 0, 1000), (pgWC 63, WC_THR_TLO, 0, 900)]
     ¬ s.on (pgWC 63) WC_WST_STAT_RUN ∧ s.on (pgWC 63) WC_WCFG_EN ∧ ¬ s.on (pgWC 63) WC_WSTAT_SETTLING ∧ s.rd (pgWC 63) WC_WSTAT_H = 0 ∧
     s.reaches (pgWC 63 + WC_WST_CTL.at 0) ∧ ¬ s.on (pgWC 0) WC_WCFG_EN ∧ s.work.wcTestRefused 63 = false ∧ s.work.wcUntestable 63 true = false ∧ s.work.wcUntestable 63 false = false) ∧
    (let s := st [(pgWC 0, WC_WCFG_EN, 0, 1), (pgWC 0, WC_WSTAT_SETTLING, 0, 1), (pgWC 0, WC_WSTAT_L, 0, 1)]
     s.on (pgWC 0) WC_WCFG_EN ∧ s.on (pgWC 0) WC_WSTAT_SETTLING ∧ ¬ s.on (pgWC 0) WC_WST_STAT_RUN ∧ s.rd (pgWC 0) WC_WSTAT_L = 1 ∧
     s.rd (pgWC 0) WC_WSTAT_H = 0) ∧
    (let s := st [(pgWC 0, WC_WST_STAT_RUN, 0, 1)]
     s.work.wcTestRefused 0 = true ∧ s.on (pgWC 0) WC_WST_STAT_RUN) ∧
    (let s := st [(pgWC 0, WC_WST_STAT_RUN, 0, 1), (pgWC 0, WC_WSTAT_SETTLING, 0, 1), (pgWC 0, WC_THR_THI, 0, 0), (pgWC 0, WC_THR_TLO, 0, 0)]
     s.on (pgWC 0) WC_WST_STAT_RUN ∧ s.on (pgWC 0) WC_WSTAT_SETTLING ∧ s.work.wcVerdict 0 true 0 = none ∧ s.work.wcVerdict 0 false 0 = none) := by
  refine ⟨?_, ?_, ?_, ?_⟩ <;> decide +kernel

theorem witness_TripnAndChoppers :
    (let s := st [(pgPKG, PKG_TRIPN_CFG_EN, 7, 1), (pgPKG, PKG_TRIPN_STAT, 0, 1), (pgPKG, PKG_TRIPN_CFG_EN, 0, 1), (pgCLU 47, CLU_CFG_TOPO, 0, 1),
       (pgCLU 47, CLU_PCFG_TRIPN, 0, 0x80), (pgCLU 47, CLU_PSTAT_PMODE, 0, 2)]
     s.on pgPKG PKG_TRIPN_CFG_EN 7 ∧ (s.rd pgPKG PKG_TRIPN_STAT).testBit 7 = false ∧ s.on pgPKG PKG_TRIPN_CFG_EN 0 ∧
     (s.rd pgPKG PKG_TRIPN_STAT).testBit 0 = true ∧ s.work.owner 47 = 47 ∧ s.work.topo 47 ≠ 0 ∧ s.work.standsBy 47 = false ∧
     (s.rd (pgCLU 47) CLU_PCFG_TRIPN).testBit 7 = true ∧ s.rd (pgCLU 47) CLU_PSTAT_PMODE ≠ 0) ∧
    (let s := st [(pgPKG, PKG_CHOP_STAT_FB_ACT, 0, 1), (pgPKG, PKG_CHOP_STAT_ON, 7, 1), (pgPKG, PKG_CHOP_CFG_EN, 7, 1), (pgPKG, PKG_SUPMON_OV_EN, 0, 1)]
       fun w => w.modChop 7 fun c => { c with minOff := true }
     ¬ s.on pgPKG PKG_CHOP_STAT_FB_ACT 7 ∧ ¬ s.on pgPKG PKG_CHOP_STAT_HRT_CTL 7 ∧ s.on pgPKG PKG_CHOP_STAT_FB_ACT 0 ∧
     s.on pgPKG PKG_CHOP_STAT_ON 7 ∧ (s.work.chp 7).minOff = true ∧ s.on pgPKG PKG_CHOP_CFG_EN 7 ∧ s.on pgPKG PKG_SUPMON_OV_EN ∧
     ¬ s.on pgPKG PKG_CHOP_STAT_FB_LAT 7 ∧ s.rd pgTWIN TWIN_TSTAT_ROLE ≠ 1) := by decide


/-! ### Clusters and cell lanes -/

theorem witness_ClusterCommandsTakenOrRefused :
    (let s := st [(pgRG 3, RG_CYC_CTL, 0, 1), (pgCLU 47, CLU_CSTAT_PEND_CMD, 0, 9)]
     s.reaches (pgCLU 47 + CLU_CMD.at 0) ∧ s.work.owner 47 = 47 ∧ s.on (pgRG (47 / 12)) RG_CYC_CTL ∧ s.work.standsBy 47 = false ∧ s.on (pgCLU 47) CLU_CSTAT_PEND_CMD ∧
     s.rd (pgCLU 47) CLU_CFG_TOPO = 0) ∧
    (let s := st [(pgCLU 0, CLU_CFG_TOPO, 0, 1)]
     s.work.owner 0 = 0 ∧ ¬ s.on (pgRG (0 / 12)) RG_CYC_CTL ∧ ¬ s.on (pgCLU 0) CLU_CSTAT_PEND_CMD ∧ s.rd (pgCLU 0) CLU_CFG_TOPO ≠ 0 ∧
     s.work.role ≠ 1 ∧ s.work.standsBy 0 = false ∧ ¬ s.on pgHRT HRT_SUPD_STAT_BUSY ∧ ¬ s.on pgBIST BIST_BSTAT_HUB_RUN ∧
     ¬ s.on pgBIST BIST_BSTAT_HRT_RUN) ∧
    (let s := st [(pgCLU 0, CLU_CFG_TOPO, 0, 1)] fun w => w.modRg 0 fun r => { r with standby := true }
     s.work.owner 0 = 0 ∧ s.work.standsBy 0 = true ∧ s.rd (pgCLU 0) CLU_CFG_TOPO ≠ 0 ∧ ¬ s.on (pgCLU 0) CLU_CSTAT_PEND_CMD) ∧
    (st [(pgCLU 47, CLU_CFG_TOPO, 0, 3)]).work.owner 47 ≠ 47 := by decide

/-- A cluster that takes commands, in a region that runs cycles. -/
def com (n i : Nat) (l : List (Nat × Field × Nat × Nat)) : State :=
  cyc n 1 id ([(pgCLU i, CLU_CFG_TOPO, 0, 1), (pgCLANE i, CLANE_LSTAT_STATE, 0, 3)] ++ l)

/-- That cluster in state `x`, and more registers. -/
def comAt (x : Nat) (l : List (Nat × Field × Nat × Nat) := []) : State := com 3 47 ([(pgCLU 47, CLU_CSTAT_STATE, 0, x)] ++ l)

theorem witness_ClusterTransitions :
    (∀ x ∈ plainTransitions, (comAt x.1).commandable 47 x.2.1 ∧ (comAt x.1).rd (pgCLU 47) CLU_CSTAT_STATE = x.1) ∧
    ((comAt 0).work.owner 47 = 47 ∧ (comAt 0).commandable 47 1 ∧ (comAt 0).work.tempGate 47 = some 3) ∧
    (let s := (comAt 0 [(pgCLU 47, CLU_PC_TEMP_THI, 0, 100), (pgHRT, HRT_PC_LIM_THI_S, 3, 100)]).onDev fun w =>
       w.modCl 47 fun k => { k with tempAt := some 0 }
     s.commandable 47 1 ∧ s.rd (pgCLU 47) CLU_CSTAT_STATE = 0 ∧ s.work.tempGate 47 = none) ∧
    ((comAt 5).commandable 47 3 ∧ ((comAt 5 [(pgCLU 47, CLU_PC_CFG_VREADY, 0, 0)]).work.vlink 47).2 = true ∧
      ((comAt 5 [(pgCLU 47, CLU_PC_CFG_VREADY, 0, 1)]).work.vlink 47).2 = false) := by
  refine ⟨?_, ?_, ?_, ?_, ?_, ?_⟩ <;> decide +kernel

theorem witness_ClusterTransitions_refused :
    ((comAt 6 [(pgCLU 47, CLU_CSTAT_LOCK_CAUSE, 0, 4)]).unhindered 47 8 ∧
      (comAt 6 [(pgCLU 47, CLU_CSTAT_LOCK_CAUSE, 0, 4)]).work.causeActive 47 = false ∧
      (comAt 6 [(pgCLU 47, CLU_CSTAT_LOCK_CAUSE, 0, 4), (pgABC 3, ABC_RSTAT_OVR_TRIP, 0, 1)]).work.causeActive 47 = true) ∧
    (let s := comAt 2 [(pgCLANE 47, CLANE_LSTAT_STATE, 0, 4)]
     s.unhindered 47 2 ∧ s.work.laneUp 47 = false) ∧
    (comAt 0).unhindered 47 9 ∧ (∀ x ∈ plainTransitions, (x.1, x.2.1) ≠ (6, 9)) ∧ (6, 9) ∉ [(0, 1), (5, 3), (6, 8)] := by
  refine ⟨?_, ?_, ?_, ?_, ?_⟩ <;> decide +kernel

theorem witness_ClusterTimersAndTests :
    (let s := st [(pgCLU 47, CLU_CSTAT_STATE, 0, 1)] fun w => w.modCl 47 fun k => { k with pcTimer := true }
     s.serving 47 ∧ (s.work.cl 47).pcTimer = true ∧ s.rd (pgCLU 47) CLU_CSTAT_STATE = 1 ∧ s.work.boundaryDue 3 = false ∧ s.work.role ≠ 1) ∧
    (let s := (tal { running with a := ⟨0, 100000, 0⟩ } (cyc 3 3 id [(pgCLU 47, CLU_CSTAT_STATE, 0, 1)])).onDev fun w =>
       w.modCl 47 fun k => { k with pcTimer := true, pcExpired := true }
     s.serving 47 ∧ (s.work.cl 47).pcTimer = true ∧ s.work.boundaryDue (47 / 12) = true ∧ (s.work.cl 47).pcExpired = true ∧
     s.rd (pgCLU 47) CLU_CSTAT_STATE = 1 ∧ ¬ s.on (pgCLU 47) CLU_CSTAT_PEND_CMD) ∧
    (let s := st [(pgCLU 0, CLU_CSTAT_STATE, 0, 4)] fun w => w.modCl 0 fun k => { k with bypTimer := true }
     (s.work.cl 0).bypTimer = true ∧ s.rd (pgCLU 0) CLU_CSTAT_STATE = 4 ∧ ¬ s.on (pgCLU 0) CLU_CSTAT_BYPASSED) ∧
    (let s := st [(pgRG 3, RG_CGRP_EN, 3, 1), (pgRG 3, RG_CGRP_SGID, 3, 1023)] fun w => w.modNet fun n => { n with masks := [⟨9, 1023, 1, 1⟩] }
     s.on (pgRG 3) RG_CGRP_EN 3 ∧ ∃ m ∈ s.dev.net.masks, m.sgid = s.rd (pgRG 3) RG_CGRP_SGID 3) ∧
    (let s := st [(pgCLU 47, CLU_CSTAT_STATE, 0, 2), (pgCLANE 47, CLANE_LSTAT_STATE, 0, 3)]
     s.reaches (pgCLU 47 + CLU_ST_REQ_GO.at 0) ∧ s.work.owner 47 = 47 ∧ s.rd (pgCLU 47) CLU_CSTAT_STATE = 2 ∧ s.work.laneUp 47 = true ∧
     ¬ s.on (pgCLU 47) CLU_PSTAT_ST_BUSY) ∧
    (st [(pgTWIN, TWIN_TSTAT_ROLE, 0, 1)]).work.role = 1 ∧
    (st []).work.laneUp 47 = false ∧
    ((st [] fun w => w.modCl 0 fun k => { k with st := some (some 15, 0xFFF, 0) }).work.cl 0).st = some (some 15, 0xFFF, 0) := by decide

/-- A lane in a state of R278. -/
def lan (l : LaneId) (x : Nat) (more : List (Nat × Field × Nat × Nat) := []) : State :=
  st ([((lanePage l).1, laneFld l CLANE_LSTAT_STATE SL_SLSTAT_STATE, (lanePage l).2, x)] ++ more)

theorem witness_LanesTrainAndFall :
    (∀ l ∈ [LaneId.cell 47, .sys 7, .twin 3], ∀ x : Fin 5, (lan l x).lst l = x ∧ (lan l x).work.laneFenced l = false) ∧
    3 ≤ ((((lan (.cell 0) 3).onDev fun w => w.modLn 0 fun k => { k with cvs := [1, 2, 38] }).work.ln 0).cvs.filter fun d => decide (d + 1 < 40)).length ∧
    (lan (.cell 47) 4 [(pgCLANE 47, CLANE_CTL_AUTO_RT, 0, 1)]).lrd (.cell 47) CLANE_CTL_AUTO_RT SL_SLCTL_AUTO_RT = 1 ∧
    (let s := lan (.cell 47) 3 [(pgCLU 47, CLU_CSTAT_STATE, 0, 3), (pgCLU 47, CLU_CFG_TOPO, 0, 1)]
     s.lst (.cell 47) = 3 ∧ s.serving 47 ∧ s.laneAlone 47 ∧ s.reaches (pgCLANE 47 + CLANE_CMD_RETRAIN.at 0) ∧
     s.rd (pgCLU (s.work.owner 47)) CLU_CSTAT_STATE ∉ [0, 4, 6]) ∧
    (lan (.cell 0) 3).rd (pgCLU ((lan (.cell 0) 3).work.owner 0)) CLU_CSTAT_STATE ∈ [0, 4, 6] ∧
    (lan (.twin 3) 3).reaches (pgSYSN + SL_SLCMD_RETRAIN.at 11) ∧
    ((st [(pgPKG, PKG_FENCE_STAT, 0, 8)]).rd pgPKG PKG_FENCE_STAT).testBit (47 / 12) = true ∧
    lanePage (.twin 3) = (pgSYSN, 11) := by decide

theorem witness_LaneQualityFollows :
    (let s := lan (.cell 47) 3 [(pgCLANE 47, CLANE_CTL_ADAPT_EN, 0, 1), (pgCLANE 47, CLANE_EQ_DFE1, 0, 5)]
     s.rd (pgCLANE 47) CLANE_LSTAT_STATE ≠ 0 ∧ s.lst (.cell 47) = 3 ∧ s.dev.shut = false ∧ s.checking 47 ∧
     s.reaches (pgCLANE 47 + CLANE_CMD_FOM_RST.at 0) ∧ s.reaches (pgSYSN + SL_SLCMD_FOM_RST.at 11) ∧ s.work.laneFenced (.cell 47) = false ∧
     (8#8).toInt = 8 ∧ (0xF8#8).toInt = -8 ∧ 8 < (9#8).toInt ∧ (0xF7#8).toInt < -8 ∧ s.lrd (.cell 47) CLANE_CTL_ADAPT_EN SL_SLCTL_ADAPT_EN = 1 ∧
     (toSigned 7 (6#7).toNat - toSigned 7 (s.lrd (.cell 47) CLANE_EQ_DFE1 SL_EQ_DFE1)).natAbs ≤ 1 ∧
     s.lrd (.cell 47) CLANE_EQ_CTLE SL_EQ_CTLE = (BitVec.ofNat 4 (s.lrd (.cell 47) CLANE_EQ_CTLE SL_EQ_CTLE)).toNat ∧
     s.lrd (.cell 47) CLANE_EQ_DFE2 SL_EQ_DFE2 = (BitVec.ofNat 7 (s.lrd (.cell 47) CLANE_EQ_DFE2 SL_EQ_DFE2)).toNat ∧
     s.lrd (.cell 47) CLANE_EQ_DFE3 SL_EQ_DFE3 = (BitVec.ofNat 7 (s.lrd (.cell 47) CLANE_EQ_DFE3 SL_EQ_DFE3)).toNat ∧
     s.hearing 47 ∧ s.rd (pgCLANE 47) CLANE_LSTAT_STATE = 3 ∧ (2#8).toInt > 1 ∧ (0xFE#8).toInt < -1 ∧ (0xFF#8).toInt = -1 ∧ (1 : BitVec 16) ≠ 0) ∧
    (let s := lan (.sys 7) 1 [(pgSYSN, SL_SLCTL_ADAPT_EN, 7, 1), (pgSYSN, SL_SLFOM_ALARM, 7, 9)]
     1 ≤ s.lst (.sys 7) ∧ (toSigned 7 (4#7).toNat - toSigned 7 (s.lrd (.sys 7) CLANE_EQ_DFE1 SL_EQ_DFE1)).natAbs ≤ 4 ∧
     min 255 (128 * (14 : Rat) / 200).floor.toNat < s.lrd (.sys 7) CLANE_FOM_CFG_ALARM SL_SLFOM_ALARM ∧
     s.lrd (.sys 7) CLANE_FOM_CFG_ALARM SL_SLFOM_ALARM ≤ min 255 (128 * (15 : Rat) / 200).floor.toNat) ∧
    (let s := (lan (.cell 0) 2 [(pgCLANE 0, CLANE_CTL_ADAPT_EN, 0, 1)]).onDev fun w => (w.modLn 0 fun k => { k with good := 7, xidNext := 1 }).setShut true
     s.hearing 0 ∧ s.rd (pgCLANE 0) CLANE_LSTAT_STATE = 2 ∧ 7 ≤ (s.work.ln 0).good ∧ (s.work.ln 0).accepted = 0 ∧ (s.work.ln 0).exch = [] ∧
     (s.work.ln 0).xidNext = 1 ∧ s.dev.shut = true ∧ s.lrd (.cell 0) CLANE_CTL_ADAPT_EN SL_SLCTL_ADAPT_EN = 1) := by
  refine ⟨?_, ?_, ?_⟩ <;> decide +kernel

theorem witness_DownlinkFramesLeave :
    ((lan (.cell 47) 0).rd (pgCLANE 47) CLANE_LSTAT_STATE = 0 ∧ ((lan (.cell 47) 3 [(pgPKG, PKG_FENCE_STAT, 0, 8)]).rd pgPKG PKG_FENCE_STAT).testBit 3 = true) ∧
    (let e : EdgeW := { (default : EdgeW) with due := 256039, st := 1 }
     let s := (lan (.cell 47) 3 [(pgCLU 47, CLU_CFG_TOPO, 0, 1), (pgCLANE 47, CLANE_CTL_DUP, 0, 0)]).onDev fun w => w.modLn 47 fun k => { k with timed := [.edge 188 e] }
     let l := s.work.ln 47
     s.laneAlone 47 ∧ ¬ (s.on (pgCLU 47) CLU_CSTAT_SAFE_ACT ∧ l.safe.getD 0 = 0) ∧ l.hsafe ≠ some 0 ∧ l.safeOnce = none ∧ l.role = 0 ∧
     l.copy = none ∧ l.mirror = [] ∧ l.timed = [.edge 188 e] ∧ ¬ s.on (pgCLANE 47) CLANE_CTL_DUP ∧ e.cancel = false ∧
     e.due - (t16 s.tally.a + 39) ≤ 256000 ∧ 16000 ≤ e.due - (t16 s.tally.a + 39) ∧ s.work.unsettled 188 (t16 s.tally.a + 39) < 64) ∧
    (let s := lan (.cell 0) 4 [(pgCLU 0, CLU_CSTAT_SAFE_ACT, 0, 1)]
     s.laneAlone 0 ∧ s.rd (pgCLANE 0) CLANE_LSTAT_STATE = 4 ∧ s.on (pgCLU 0) CLU_CSTAT_SAFE_ACT ∧ (s.work.ln 0).safe.getD 0 = 0 ∧
     s.work.rgHeld.testBit (0 / 12) = false) ∧
    (let s := (lan (.cell 0) 2).onDev fun w => (w.modLn 0 fun k => { k with hsafe := some 0 }).modHearth fun h => { h with held := [⟨0, 0, 0xFF, 4, 0xF, 1⟩] }
     s.laneAlone 0 ∧ (s.work.ln 0).hsafe = some 0 ∧ s.work.rgHeld.testBit (0 / 12) = true) ∧
    (let s := (lan (.cell 0) 2).onDev fun w => w.modLn 0 fun k => { k with safeOnce := some 0 }
     s.laneAlone 0 ∧ ¬ s.on (pgCLU 0) CLU_CSTAT_SAFE_ACT ∧ (s.work.ln 0).hsafe = none ∧ (s.work.ln 0).safeOnce = some 0 ∧
     s.work.rgHeld.testBit (0 / 12) = false) ∧
    (let s := (lan (.cell 0) 3 [(pgTWIN, TWIN_TSTAT_ROLE, 0, 2)]).onDev fun w => w.modLn 0 fun k => { k with role := 1 }
     s.laneAlone 0 ∧ ¬ s.on (pgCLU 0) CLU_CSTAT_SAFE_ACT ∧ (s.work.ln 0).hsafe ≠ some 0 ∧ (s.work.ln 0).safeOnce = none ∧
     (s.work.ln 0).role ≠ 0 ∧ s.work.role = 2) ∧
    (let s := (lan (.cell 0) 3).onDev fun w => w.modLn 0 fun k => { k with copy := some (0x81, [0, 0, 0, 0]) }
     s.laneAlone 0 ∧ (s.work.ln 0).role = 0 ∧ (s.work.ln 0).copy = some (0x81, [0, 0, 0, 0])) := by
  refine ⟨?_, ?_, ?_, ?_, ?_, ?_, ?_⟩ <;> decide +kernel

theorem witness_DownlinkFramesLeave_requests :
    (let s := (lan (.cell 0) 3).onDev fun w => w.modLn 0 fun k => { k with p4 := [0], cmds := [⟨3, 0⟩] }
     s.laneAlone 0 ∧ (s.work.ln 0).timed = [] ∧ (s.work.ln 0).p4 = [0] ∧ (s.work.ln 0).cmdOut = none ∧ (s.work.ln 0).cmds = [⟨3, 0⟩] ∧
     s.work.drives 0 (t16 s.tally.a) = true) ∧
    (let x : Exch := ⟨255, none, 0, true, 0, 0, 0⟩
     let s := (lan (.cell 0) 2).onDev fun w => w.modLn 0 fun k => { k with p4 := [3], exch := [x] }
     s.laneAlone 0 ∧ s.rd (pgCLANE 0) CLANE_LSTAT_STATE = 2 ∧ (s.work.ln 0).timed = [] ∧ (s.work.ln 0).p4 = [3] ∧
     (s.work.ln 0).exch = [x] ∧ x.t1 = none) ∧
    (let s := (lan (.cell 0) 2).onDev fun w => w.modLn 0 fun k => { k with p4 := [2], timeOfs := some 255 }
     (s.work.ln 0).p4 = [2] ∧ (s.work.ln 0).timeOfs = some 255 ∧ s.work.pathStalled 0 = false) ∧
    (let s := (lan (.cell 0) 3).onDev fun w => w.modLn 0 fun k => { k with cmdOut := some (⟨3, 0⟩, 1, 8) }
     (s.work.ln 0).cmdOut = some (⟨3, 0⟩, 1, 8) ∧ (s.work.ln 0).timed = [] ∧ (s.work.ln 0).p4 = []) ∧
    (let s := (lan (.cell 0) 3).onDev fun w => (w.modLn 0 fun k => { k with cmdOut := some (⟨5, 0⟩, 1, 8) }).modCl 0 fun k => { k with st := some (some 1, 0, 0) }
     (s.work.ln 0).cmdOut = some (⟨5, 0⟩, 1, 8) ∧ (s.work.cl 0).st.isSome) := by decide

theorem witness_UplinkMessagesAct :
    (let s := (lan (.cell 47) 3 [(pgCLU 47, CLU_CFG_TOPO, 0, 1), (pgCLU 47, CLU_PSTAT_PMODE, 0, 2), (pgTWIN, TWIN_TSTAT_ROLE, 0, 2)]).onDev fun w =>
       (w.modLn 47 fun k => { k with claimAt := 1 }).modCl 47 fun k => { k with plans := [(1600000, 4001, 2 ^ 7)], tripId := some 0xFF }
     s.hearing 47 ∧ s.rd (pgCLANE 47) CLANE_LSTAT_STATE = 3 ∧ s.laneAlone 47 ∧ (s.work.ln 47).predGood = false ∧ s.rd (pgCLU 47) CLU_CFG_TOPO ≠ 3 ∧
     (∀ p ∈ (s.work.cl 47).plans, 4000 < (p.2.1 - nearT16 (t16 s.tally.a) (0#44).toNat).natAbs) ∧
     (s.work.cl 47).plans = [(1600000, 4001, 2 ^ 7)] ∧ nearT16 (t16 s.tally.a) (4001#44).toNat = 4001 ∧ (s.region (47 / 12)).t0 ≠ 1600000 ∧
     (s.region (47 / 12)).fillNext = [] ∧ s.work.legUnit 47 3 = some 191 ∧ (s.work.cl 47).tripId = some (0xFF#8).toNat ∧
     (s.work.cl 47).tripId ≠ some (1#8).toNat ∧ s.rd (pgCLU 47) CLU_PSTAT_PMODE = 2 ∧ s.work.role = 2 ∧ t16 s.tally.a < (s.work.ln 47).claimAt) ∧
    ((cyc 3 1 id).region 3).nextB = some 1600000 ∧ tripNamed ⟨1, 0, 11, 0, ⟨0, 0, 0, 0, 0⟩, ⟨0x800, 0, 0, 0, 0⟩⟩ = true ∧
    tripNamed ⟨1, 0, 11, 0, ⟨0, 0, 0, 0, 0⟩, ⟨0, 0, 0, 0, 0⟩⟩ = false ∧
    ((st [(pgPKG, PKG_FENCE_STAT, 0, 8)]).rd pgPKG PKG_FENCE_STAT).testBit (47 / 12) = true ∧
    ((lan (.cell 0) 3).onDev fun w => w.modLn 0 fun k => { k with predGood := true }).hearing 0 ∧
    ((lan (.cell 0) 3).onDev fun w => w.modLn 0 fun k => { k with cmdOut := some (⟨3, 0⟩, 1, 8) }).laneAlone 0 := by decide

theorem witness_TimeExchangesGiveOffset :
    let x : Exch := ⟨255, some 0, 0, true, 0, 0, 15⟩
    (let s := (lan (.cell 47) 3 [(pgCLU 47, CLU_CFG_TOPO, 0, 1)]).onDev fun w => w.modLn 47 fun k => { k with badRun := 3, exch := [x] }
     s.rd (pgCLANE 47) CLANE_LSTAT_STATE = 3 ∧ (s.work.ln 47).exch = [x] ∧ x.t1.isSome ∧ x.usable = true ∧ (s.work.ln 47).badRun = 3 ∧ s.hearing 47 ∧
     s.laneAlone 47 ∧ (s.work.ln 47).predGood = false ∧ ¬ s.on pgTALLY TALLY_STAT_HOLDOVER ∧ (255#8).toNat = x.xid ∧
     320000 < diff44 (320001#44).toNat (0#44).toNat ∧ diff44 (320000#44).toNat (0#44).toNat ≤ 320000 ∧ (s.work.ln 47).rtt = none ∧
     (s.work.ln 47).accepted = 0 ∧ (s.work.ln 47).holdRate = false) ∧
    (let s := (lan (.cell 47) 3 [(pgTALLY, TALLY_STAT_HOLDOVER, 0, 1)]).onDev fun w => w.modLn 47 fun k =>
       { k with rtt := some 1000000, rttRun := 4, accepted := 2, prev := some (5, 0), exch := [{ x with usable := false }], holdRate := true }
     s.on pgTALLY TALLY_STAT_HOLDOVER ∧ (s.work.ln 47).rtt = some 1000000 ∧ 4 ≤ (s.work.ln 47).rttRun ∧ 2 ≤ (s.work.ln 47).accepted ∧
     (s.work.ln 47).prev = some (5, 0) ∧ diff44 (0#44).toNat 5 ≠ 0 ∧ (s.work.ln 47).holdRate = true) := by decide


/-! ### Ember, Kindling, resets, temperature -/

theorem witness_EmberCountsSleepsAndWakes :
    let s := st [(pgEMB, EMB_EC_CFG_EN, 3, 1), (pgEMB, EMB_EC_CFG_QUAL, 3, 3), (pgEMB, EMB_EC_CFG_TAMPER, 3, 1), (pgEMB, EMB_EC_CFG_WAKE, 3, 1),
      (pgEMB, EMB_EC_CFG_THR, 3, 128), (pgEMB, EMB_EC_CFG_EN, 0, 1), (pgEMB, EMB_EC_CFG_QUAL, 0, 1), (pgEMB, EMB_PWR_ON, 0, 0),
      (pgEMB, EMB_ALARM_HI_EN, 0, 1)] fun w => w.modEmber fun e => { e with qual := #v[0, 0, 0, 3], seen := 8 }
    let v : Vector Rat 4 := #v[0, 0, 0, 1]
    (s.dev.ember.staged = [] ∧ s.on pgEMB EMB_EC_CFG_EN 3 ∧ (s.rd pgEMB EMB_EC_CFG_THR 3 : Rat) * (12 / 10) / 256 + 5 / 1000 < v[3] ∧
      true ≠ (s.rd pgEMB EMB_EC_CFG_POL 3 == 1)) ∧
    (s.dev.ember.qual[3] = s.rd pgEMB EMB_EC_CFG_QUAL 3 ∧ s.dev.ember.qual[3] ≠ 5 ∧ s.on pgEMB EMB_EC_CFG_TAMPER 3 ∧ s.on pgEMB EMB_EC_CFG_WAKE 3 ∧
      ¬ s.on pgEMB EMB_PWR_ON ∧ s.dev.ember.seen.testBit 3 = true ∧ s.dev.ember.seen.testBit 0 = false) ∧
    (s.on pgEMB EMB_EC_CFG_EN 0 ∧ s.dev.ember.qual[0] < s.rd pgEMB EMB_EC_CFG_QUAL 0 ∧ ¬ s.on pgEMB EMB_EC_CFG_EN 1 ∧
      -((5 : Rat) / 1000) ≤ v[0] ∧ v[0] ≤ 5 / 1000 ∧ s.on pgEMB EMB_ALARM_HI_EN) ∧
    (s.work.allIdle = true ∧ s.reaches (pgEMB + EMB_PWR_SLEEP.at 0) ∧ s.readable (pgEMB + EMB_ECNT_LO.at 0) ∧ ¬ s.on pgEMB HDR_LOCK_LOCKED) ∧
    (st [(pgCLU 47, CLU_CSTAT_STATE, 0, 2)]).work.allIdle = false ∧
    ((st [] fun w => w.modEmber fun e => { e with staged := [(pgEMB + EMB_ALARM_LO.at 0, 7)] }).dev.ember.staged = [(pgEMB + EMB_ALARM_LO.at 0, 7)] ∧
      (st [] fun w => w.modEmber fun e => { e with qual := #v[5, 0, 0, 0] }).dev.ember.qual[0] = 5) ∧
    (let s := st [(pgEMB, EMB_PWR_ON, 0, 1)] fun w => w.modEmber fun e => { e with sleep := true }
     s.dev.ember.sleep = true ∧ s.on pgEMB EMB_PWR_ON) := by
  refine ⟨?_, ?_, ?_, ?_, ?_, ?_, ?_⟩ <;> decide +kernel

/-- Kindling at a step. -/
def kin (step : Nat) (f : KinSt → KinSt) (l : List (Nat × Field × Nat × Nat) := []) : State :=
  st ([(pgPKG, PKG_KSTAT_DONE, 0, 0), (pgPKG, PKG_KSTAT_STEP, 0, step)] ++ l) fun w => w.modKin f

theorem witness_KindlingStepsFollow :
    ((kin 1 id).work.kindling = true ∧ (kin 3 id).rd pgPKG PKG_KSTAT_STEP ≤ 3 ∧ ¬ (kin 3 id).on pgPKG PKG_KSTAT_FAIL ∧
      ¬ (kin 1 id).on pgSPLL SPLL_STAT_LOCKED ∧ (kin 3 id [(pgSPLL, SPLL_STAT_LOCKED, 0, 1)]).on pgSPLL SPLL_STAT_LOCKED) ∧
    ((kin 4 id).kindlingAt 4 ∧ ¬ (kin 4 id).on pgSPLL SPLL_STAT_LOCKED ∧ (kin 4 id).dev.bad = [] ∧ (kin 12 id [(pgPKG, PKG_KSTAT_DONE, 0, 1)]).work.kindling = false) ∧
    ((kin 5 id).kindlingAt 5 ∧ (kin 5 id).dev.kin.perst = false ∧ (kin 5 fun k => { k with perst := true }).dev.kin.perst = true ∧
      (kin 6 id).kindlingAt 6 ∧ ((kin 6 id).onDev fun w => w.markBad 6 5).dev.bad = [(6, 5)]) ∧
    ((kin 7 id).kindlingAt 7 ∧ (kin 7 id).dev.kin.strap = 0 ∧ (kin 7 id).dev.kin.waitImg = false ∧
      (kin 7 fun k => { k with strap := 3 }).work.kindling = true ∧ (kin 7 fun k => { k with strap := 3 }).dev.kin.strap ≠ 0 ∧
      (kin 7 id).reaches (pgPKG + PKG_KCTL_IMG_GO.at 0) ∧ (kin 7 id [(pgPKG, HDR_LOCK_LOCKED, 0, 1)]).on pgPKG HDR_LOCK_LOCKED) ∧
    ((kin 8 fun k => { k with img := some 255 }).kindlingAt 8 ∧ (kin 8 fun k => { k with img := some 255 }).dev.kin.img = some 255 ∧
      (kin 11 id).kindlingAt 11) := by
  refine ⟨?_, ?_, ?_, ?_, ?_⟩ <;> decide +kernel

theorem witness_ResetsReturnToReset :
    (kin 12 fun k => { k with porst := true }).dev.kin.porst = true ∧ (st []).dev.kin.thermalOff = false ∧ (st []).dev.kin.porst = false ∧ (st []).reaches rstAddr ∧
    (kin 12 fun k => { k with shutdown := true }).dev.kin.shutdown = true ∧
    (kin 12 fun k => { k with thermalOff := true }).dev.kin.thermalOff = true ∧
    (∀ i : Fin 14, (kin 12 id).work.goodSensor i = true → (kin 12 id).work.temp i < 460) ∧
    (st []).dev.kin.resets.testBit 3 = false ∧
    (let s := st [(pgCLU 47, CLU_CSTAT_STATE, 0, 3)]
     s.work.role ≠ 1 ∧ (47 : Fin 48).val / 12 = 3 ∧ s.rd (pgCLU 47) CLU_CSTAT_STATE = 3) ∧
    (∀ c : Fin 48, (st []).rd (pgCLU c) CLU_CSTAT_STATE ≠ 3) ∧
    (let s := kin 12 fun k => { k with resets := 8 }
     s.dev.kin.resets = 2 ^ (3 : Fin 4).val ∧ s.dev.kin.dieResets = 0 ∧ s.dev.ember.marks.testBit 3 = false ∧ ¬ s.on pgPKG PKG_SWAP_STAT_PENDING) ∧
    (let s := st [(pgTWIN, TWIN_TSTAT_ROLE, 0, 1)]
     s.dev.kin.resets = 0 ∧ s.dev.kin.dieResets = 0 ∧ s.work.role = 1) := by decide

theorem witness_TemperaturesActed :
    (let s := st [(pgTHERM, THERM_SENS_GOOD, 0, 0x3FFF), (pgTHERM, THERM_TCFG_DSTEP, 0, 1), (pgTHERM, THERM_TCFG_DAMP_T, 0, 126)]
       fun w => w.modTherm fun t => { t with hot := .replicate 14 1 }
     ¬ s.on pgTHERM HDR_INJ_ARMED ∧ s.rd pgTHERM THERM_SENS_GOOD = 0x3FFF ∧ -240 ≤ (BitVec.ofInt 12 (-240)).toInt ∧ (507#12).toInt < 508 ∧
     s.dev.therm.dev[(0 : Fin 14)] < 3 ∧ s.reaches (pgTHERM + THERM_TCMD.at 0) ∧ s.rd pgTHERM THERM_TSTAT_TLEVEL ≤ 1 ∧ 4 * (s.rd pgTHERM THERM_TCFG_DAMP_T : Int) ≤ (507#12).toInt ∧ 0 < s.rd pgTHERM THERM_TCFG_DSTEP ∧
     520 ≤ (520#12).toInt ∧ (720#12).toInt ≤ 720 ∧ 580 ≤ (580#12).toInt ∧ (∃ i : Fin 14, 1 ≤ s.dev.therm.hot[i]) ∧
     s.dev.kin.shutdown = false ∧ s.dev.kin.thermalOff = false) ∧
    ¬ (kin 3 id).on pgPKG PKG_KSTAT_DONE ∧
    (let s := st [(pgTHERM, THERM_SENS_GOOD, 0, 0x3FFF)]
     s.work.goodSensor 13 = true) := by decide

/-! ### Twin packages -/

theorem witness_TakeoverAndHandover :
    (let s := st [(pgTWIN, TWIN_TSTAT_ROLE, 0, 1), (pgTWIN, TWIN_TSTAT_RRX, 0, 2), (pgTWIN, TWIN_TSTAT_ARMED, 0, 1), (pgTWIN, TWIN_TCFG_AUTO, 0, 1),
       (pgTWIN, TWIN_TSTAT_LINK_UP, 0, 1)] fun w => w.modTwin fun t => { t with rxEdges := 2, hoWait := some ⟨1, 0, 0⟩ }
     480 ≤ 480 ∧ s.reaches (pgTWIN + TWIN_TCMD_TAKE.at 0) ∧ s.reaches (pgTWIN + TWIN_TCMD_HANDOVER.at 0) ∧ 2 ≤ s.dev.twin.rxEdges ∧ s.rd pgTWIN TWIN_TSTAT_RRX = 2 ∧ s.work.role = 1 ∧ s.on pgTWIN TWIN_TSTAT_ARMED ∧ s.on pgTWIN TWIN_TCFG_AUTO ∧
     s.work.nextEpoch < 2 ^ 32 ∧ s.on pgTWIN TWIN_TSTAT_LINK_UP ∧ s.work.covers s.work.readyMask = true ∧ s.dev.twin.ho = none ∧
     s.dev.twin.hoWait = some ⟨1, 0, 0⟩ ∧ s.work.hoRefusal = some 2) ∧
    (let s := st [(pgTWIN, TWIN_TSTAT_ROLE, 0, 2), (pgTWIN, TWIN_TSTAT_LINK_UP, 0, 1)]
     s.work.role = 2 ∧ s.work.hoRefusal = none ∧ 480 < 481 ∧ s.dev.twin.rxEdges < 2) ∧
    (st []).work.role = 0 ∧
    (let s := st [(pgTWIN, TWIN_TSTAT_ROLE, 0, 1)] fun w => w.modTwin fun t => { t with ho := some (⟨1, 0, 0⟩, 7) }
     s.dev.twin.ho = some (⟨1, 0, 0⟩, 7) ∧ s.work.role = 1 ∧ max 7 s.work.nextEpoch < 2 ^ 32 ∧ s.rd pgTWIN TWIN_TSTAT_RRX ≠ 2) ∧
    (let s := st [(pgTWIN, TWIN_TSTAT_ROLE, 0, 2)] fun w => w.modTwin fun t => { t with ho := some (⟨1, 0, 0⟩, 7) }
     s.dev.twin.ho = some (⟨1, 0, 0⟩, 7) ∧ s.work.role = 2) := by decide

theorem witness_TwinLinkCarries :
    (let s := st ([(pgCSTORE, CSTORE_IDENT_ACT_PAIR, 0, 9), (pgTWIN, TWIN_TSTAT_LINK_UP, 0, 1), (pgTWIN, TWIN_TSTAT_ROLE, 0, 1),
       (pgTWIN, TWIN_TSTAT_HEALTH_OK, 0, 1)] ++ (List.range 4).map fun i => (pgSYSN, SL_SLSTAT_STATE, 8 + i, 3))
       fun w => (w.modTwinRg 2 fun r => { r with img := some ⟨5, [], none⟩ }).modRg 3 fun r => { r with standby := true }
     s.work.pairNo ≠ 0 ∧ (9#16).toNat = s.work.pairNo ∧ s.work.twinTrained = true ∧ s.work.role = 1 ∧ (8#16).toNat ≠ s.work.pairNo ∧
     s.on pgTWIN TWIN_TSTAT_LINK_UP ∧ s.on pgTWIN TWIN_TSTAT_HEALTH_OK ∧ (s.region 3).standby = true ∧
     (s.rd pgPKG PKG_FENCE_STAT).testBit 3 = false ∧ s.dev.twin.rg[(3 : Fin 4)].img = none ∧
     s.dev.twin.rg[(2 : Fin 4)].img = some ⟨5, [], none⟩ ∧ (5#32).toNat = 5 ∧ ¬ s.on pgTWIN HDR_INJ_ARMED) ∧
    (let s := cyc 0 1 id ([(pgCSTORE, CSTORE_IDENT_ACT_PAIR, 0, 9), (pgTWIN, TWIN_TSTAT_ROLE, 0, 2), (pgTWIN, TWIN_TSTAT_RRX, 0, 2),
       (pgTWIN, TWIN_TEPOCH, 0, 1)] ++ (List.range 4).map fun i => (pgSYSN, SL_SLSTAT_STATE, 8 + i, 3))
     s.work.pairNo ≠ 0 ∧ s.work.twinTrained = true ∧ s.work.role = 2 ∧ s.rd pgTWIN TWIN_EPOCH < (1#32).toNat ∧ s.rd pgTWIN TWIN_TSTAT_RRX = 2 ∧
     s.rd pgTWIN TWIN_EPOCH < s.rd pgTWIN TWIN_TEPOCH ∧ s.work.covers (s.rd pgTWIN TWIN_TSTAT_TREADY) = false) ∧
    (st []).rd pgTWIN TWIN_TEPOCH ≤ (st []).rd pgTWIN TWIN_EPOCH := by decide +kernel

/-! ### Event queues and the recorder -/

theorem witness_EventQueuesServe :
    (let e : Event := ⟨14, 6, [0]⟩
     let s := st [(pgEQ 7, EQ_QCFG_EN, 0, 1), (pgEQ 7, EQ_QCFG_CLASSMASK, 0, 0x4000)] fun w => w.setEvents [⟨1, 0, [0]⟩, e]
     (⟨1, 0, [0]⟩ : Event) ∈ s.dev.events ∧ (s.rd (pgEQ 7) EQ_QCFG_CLASSMASK).testBit 14 = true ∧ (s.rd (pgEQ 7) EQ_QCFG_CLASSMASK).testBit 1 = false ∧
     s.queueTakes 7 2 ∧ ¬ s.on (pgEQ 0) EQ_QCFG_EN) ∧
    (let s := st [(pgEQ 0, EQ_QCFG_EN, 0, 1), (pgEQ 0, EQ_QCFG_CLASSMASK, 0, 2)] fun w => w.setEvents [⟨1, 0, [0]⟩]
     (⟨1, 0, [0]⟩ : Event) ∈ s.dev.events ∧ (s.rd (pgEQ 0) EQ_QCFG_CLASSMASK).testBit 1 = true ∧
     s.queueTakes 0 ((s.work.packet ⟨1, 0, [0]⟩).length / 2)) ∧
    (let s := st [(pgEQ 7, EQ_QCFG_EN, 0, 1), (pgEQ 7, EQ_QSTAT_STOPPED, 0, 1)]
     s.on (pgEQ 7) EQ_QCFG_EN ∧ s.on (pgEQ 7) EQ_QSTAT_STOPPED ∧ ¬ s.on (pgEQ 7) HDR_INJ_ARMED) ∧
    (let s := st [(pgEQ 7, EQ_QCFG_EN, 0, 1), (pgEQ 7, EQ_WR, 0, 2047)]
     s.reaches (pgEQ 7 + EQ_POST.at 0) ∧ s.on (pgEQ 7) EQ_QCFG_EN ∧ ¬ s.on (pgEQ 7) EQ_QSTAT_STOPPED ∧ s.work.qCap 7 < s.work.qLevel 7 + 2) ∧
    (let s := st [(pgEQ 7, EQ_QCFG_EN, 0, 1), (pgEQ 7, EQ_WR, 0, 2044)] fun w => w.modQ 7 fun _ => ⟨[], 2044, 3, true⟩
     (s.queue 7).gap = true ∧ (s.queue 7).ovf = s.rd (pgEQ 7) EQ_WR ∧ s.work.qLevel 7 + 4 ≤ 2048 ∧ ¬ s.on (pgEQ 7) HDR_INJ_ARMED) ∧
    (let s := st [(pgEQ 7, EQ_QCFG_EN, 0, 1), (pgEQ 7, EQ_WR, 0, 2048), (pgEQ 7, EQ_OVF_SIZE, 0, 1)] fun w => w.modQ 7 fun _ => ⟨[], 2048, 0, false⟩
     (s.queue 7).gap = false ∧ s.work.qLevel 7 + 2 ≤ s.work.qCap 7 ∧ ¬ ((s.queue 7).ovf = s.rd (pgEQ 7) EQ_WR ∧ s.work.qLevel 7 + 2 ≤ 2048)) := by
  refine ⟨?_, ?_, ?_, ?_, ?_, ?_⟩ <;> decide +kernel

theorem witness_QueueCommandsAct :
    (let s := st [(pgEQ 7, EQ_WR, 0, 4), (pgEQ 7, EQ_RD, 0, 2), (pgEQ 7, EQ_REL_TO, 0, 2), (pgEQ 7, EQ_QSTAT_MARK_VALID, 0, 1)]
       fun w => w.modQ 7 fun _ => ⟨[(2, [1, 2, 3, 4])], 2, 0, false⟩
     s.reaches (pgEQ 7 + EQ_QCMD_NEXT.at 0) ∧ ¬ s.on (pgEQ 7) HDR_INJ_ARMED ∧ ¬ s.on (pgEQ 7) EQ_QSTAT_STOPPED ∧ s.work.qHead 7 = [1, 2, 3, 4] ∧
     posSub (s.rd (pgEQ 7) EQ_REL_TO) (s.rd (pgEQ 7) EQ_REL) ≤ posSub (s.rd (pgEQ 7) EQ_RD) (s.rd (pgEQ 7) EQ_REL) ∧
     s.on (pgEQ 7) EQ_QSTAT_MARK_VALID ∧ ¬ s.on (pgEQ 7) EQ_QSTAT_MARK_LOST ∧
     posSub (s.rd (pgEQ 7) EQ_MARK) (s.rd (pgEQ 7) EQ_REL) < posSub (s.rd (pgEQ 7) EQ_REL_TO) (s.rd (pgEQ 7) EQ_REL) ∧
     (s.queue 7).pkts = [(2, [1, 2, 3, 4])] ∧ (s.queue 7).ovf = 2 ∧ posSub ((2 + 4 / 2) % 2 ^ 32) (s.rd (pgEQ 7) EQ_REL) ≤ 2048) ∧
    (let s := st [(pgEQ 0, EQ_REL_TO, 0, 1)]
     s.rd (pgEQ 0) EQ_RD = s.rd (pgEQ 0) EQ_WR ∧ posSub (s.rd (pgEQ 0) EQ_RD) (s.rd (pgEQ 0) EQ_REL) < posSub (s.rd (pgEQ 0) EQ_REL_TO) (s.rd (pgEQ 0) EQ_REL) ∧
     ¬ s.on (pgEQ 0) EQ_QSTAT_MARK_VALID) := by decide

theorem witness_RecorderFollowsStates :
    (let r (x : Nat) (l : List (Nat × Field × Nat × Nat)) := st ([(pgREC, REC_RSTAT_STATE, 0, x)] ++ l)
     ¬ (r 0 []).on pgREC HDR_LOCK_LOCKED ∧ (r 0 []).reaches rctlAddr ∧ (r 0 [(pgREC, HDR_LOCK_LOCKED, 0, 1)]).on pgREC HDR_LOCK_LOCKED ∧ (r 0 [(pgREC, REC_RING_SIZE, 0, 1)]).rd pgREC REC_RING_SIZE ≠ 0 ∧ (r 0 []).rd pgREC REC_RING_SIZE = 0 ∧
     (r 3 []).rd pgREC REC_RSTAT_STATE = 3 ∧ (r 2 []).rd pgREC REC_RSTAT_STATE = 2) ∧
    (let s := st [(pgREC, REC_RSTAT_STATE, 0, 1), (pgREC, REC_RPOST, 0, 1), (pgREC, REC_TRG_CFG_SRC, 15, 5), (pgREC, REC_TRG_CFG_EN, 15, 1),
       (pgREC, REC_TRG_CFG_SEL, 15, 31)] fun w => w.modRec fun r => { r with staged := [(0x7FFFFFF, [1])], ash := [(1, [0, 0, 0, 0, 0, 0])] }
     s.rd pgREC REC_RSTAT_STATE = 1 ∧ s.rd pgREC REC_RPOST ≠ 0 ∧ s.rd pgREC REC_RCFG_DEC_POST = s.rd pgREC REC_RCFG_DEC ∧
     s.rd pgREC REC_TRG_CFG_SRC 15 = 5 ∧ s.on pgREC REC_TRG_CFG_EN 15 ∧ s.rd pgREC REC_TRG_CFG_SEL 15 % 32 = 31 ∧
     (∀ j : Fin 16, j < 15 → ¬ s.on pgREC REC_TRG_CFG_EN j) ∧ s.dev.recd.staged = [(0x7FFFFFF, [1])] ∧
     s.dev.recd.ash = [(1, [0, 0, 0, 0, 0, 0])] ∧ s.dev.shut = false) ∧
    (st [] (·.setShut true)).dev.shut = true := by decide


/-! ### The system network -/

/-- A packet from package 9 with a payload. -/
def pk (type dst : Nat) (payload : List Word) : Pkt := ⟨BitVec.ofNat 8 type, false, BitVec.ofNat 16 dst, 9, 12, 5, payload⟩

/-- A state in which that packet has been delivered by port 7. -/
def got (k : Pkt) (l : List (Nat × Field × Nat × Nat)) (f : NetSt → NetSt := id) : State :=
  st l fun w => w.modNet fun n => f { n with inbox := [⟨some 7, k, 100⟩] }

theorem witness_NetworkPacketsPass :
    (∀ x : Fin 5, (lan (.sys 7) x).rd pgSYSN SL_SLSTAT_STATE 7 = x) ∧ (lan (.twin 3) 3).rd pgSYSN SL_SLSTAT_STATE 11 = 3 ∧
    (let s := lan (.sys 7) 3 [(pgSYSN, SYSN_MGRP, 31, 2 ^ 31), (pgSYSN, SYSN_NCFG_FLOOD, 0, 0xFF), (pgSYSN, SYSN_ROUTE, 0, 0xFFFFFFF7),
       (pgSYSN, SL_SLCTL_ALT, 7, 15)]
     s.rd pgSYSN SL_SLSTAT_STATE 7 = 3 ∧ ¬ s.on pgSYSN HDR_INJ_ARMED ∧ PktCheck.aborted ≠ .good ∧ pktPrio 0x10 = some 1 ∧
     (s.rd pgSYSN SYSN_NCFG_FLOOD).testBit 7 = true ∧ (s.rd pgSYSN SYSN_MGRP (1023 / 32)).testBit (1023 % 32) = true ∧
     s.route 0 = some 7 ∧ s.route 1 = none ∧ (0, 5) ∉ s.dev.net.tripSeen ∧ (pk 0x10 0 (List.replicate 128 0)).payload.length ≤ 128) ∧
    (let a : OutPkt := ⟨4, pk 0x20 0x8000 [], false⟩
     let b : OutPkt := ⟨1, pk 0x10 0x8000 [], false⟩
     let s := (lan (.sys 7) 3).onDev fun w => w.modSl 7 fun k => { k with queue := [a, b, b] }
     s.waiting 7 = [a] ++ b :: [b] ∧ (∀ x ∈ [a], b.prio < x.prio) ∧ (∀ x ∈ [b], b.prio ≤ x.prio)) := by decide +kernel

theorem witness_TripsSpread :
    (st []).reaches (pgSYSN + SYSN_TRIP_CMD_SET.at 0) ∧ (st []).reaches (pgSYSN + SYSN_TRIP_CMD_CLR.at 0) ∧
    (st [(pgSYSN, SYSN_TRIP_STAT_TX, 0, 1)]).rd pgSYSN SYSN_TRIP_STAT_TX ≠ 0 ∧ (st []).rd pgSYSN SYSN_TRIP_STAT_TX = 0 ∧
    (let k := pk 0x10 0x8000 [0x80008000#32]
     let s := got k [(pgSYSN, SYSN_TRIP_MEMB, 0, 0x8000)]
     s.arrived 0x10 = some ⟨some 7, k, 100⟩ ∧ (k.payload.headD 0).msb = true ∧ (k.payload.headD 0).toNat % 2 ^ 16 &&& s.rd pgSYSN SYSN_TRIP_MEMB ≠ 0) ∧
    ((pk 0x10 0x8000 [1]).payload.headD 0).msb = false := by decide

theorem witness_NetworkTimeExchanged :
    (st [(pgSYSN, SYSN_NCFG_GM, 0, 1)]).on pgSYSN SYSN_NCFG_GM ∧
    (let s := lan (.sys 7) 3 [(pgSYSN, SYSN_NCFG_PARENT, 0, 15), (pgSYSN, SYSN_NCFG_PARENT2, 0, 7), (pgSYSN, SYSN_TSTAT_PARENT_UP, 0, 1)]
     ¬ s.on pgSYSN SYSN_NCFG_GM ∧ ¬ (s.rd pgSYSN SYSN_NCFG_PARENT < 8) ∧ s.rd pgSYSN SYSN_NCFG_PARENT2 = 7 ∧ s.rd pgSYSN SL_SLSTAT_STATE 7 = 3) ∧
    (let s := st [(pgSYSN, SYSN_NCFG_PARENT, 0, 0), (pgSYSN, SYSN_NCFG_PARENT2, 0, 1), (pgSYSN, SYSN_TSTAT_PARENT_UP, 0, 1)]
     s.rd pgSYSN SL_SLSTAT_STATE 0 ≠ 3 ∧ s.rd pgSYSN SL_SLSTAT_STATE 1 ≠ 3 ∧ s.on pgSYSN SYSN_TSTAT_PARENT_UP ∧ s.rd pgSYSN SYSN_NCFG_PARENT ≠ 15) ∧
    (got (pk 2 0xC000 []) []).arrived 2 = some ⟨some 7, pk 2 0xC000 [], 100⟩ := by decide +kernel

/-- The fourth exchange in a row to fail is under way, and its answer has been delivered. -/
def asked : State := got (pk 3 0xC000 [0, 0, 10, 0, 20]) [] fun n => { n with treq := [(7, 5, some 1, 0, false)], ttRun := 3 }

theorem witness_TimeAnswerTaken :
    asked.arrived 3 = some ⟨some 7, pk 3 0xC000 [0, 0, 10, 0, 20], 100⟩ ∧
    (asked.dev.net.treq.find? fun x => some x.1 == some 7 && x.2.1 == 5 && x.2.2.1.isSome) = some (7, 5, some 1, 0, false) ∧
    (asked.dev.net.treq.find? fun x => x.2.2.1.isSome) = some (7, 5, some 1, 0, false) ∧ (5#8).toNat = 5 ∧ asked.dev.net.ttRun = 3 := by
  refine ⟨?_, ?_, ?_, ?_, ?_⟩ <;> decide +kernel

theorem witness_TimeAnswerBounds : 0 ≤ stampDiff 20 10 ∧ 0 ≤ stampDiff 320010 10 ∧ stampDiff 320010 10 ≤ 320000 ∧
    ¬ stampDiff 320011 10 ≤ 320000 ∧ asked.rd pgTALLY TALLY_STAT_STEP_SEQ = 0 := by decide +kernel

theorem witness_SwapsPlansMasksAndPoints :
    (st []).fenceAt (pgSYSN + SYSN_SCMD_SWAP_GO.at 0) true = none ∧ (st []).reaches (pgSYSN + SYSN_SCMD_PLAN_GO.at 0) ∧
    (st []).reaches (pgSYSN + SYSN_SCMD_RPT_RST.at 0) ∧
    (let k := pk 0x11 0x8000 [0, 1, 0]
     let s := got k [(pgSYSN, SYSN_NCFG_SWAP_EN, 0, 1)]
     s.arrived 0x11 = some ⟨some 7, k, 100⟩ ∧ s.on pgSYSN SYSN_NCFG_SWAP_EN ∧ (100 : Int) + 24000000 ≤ t16 ⟨pay k 1, 0, 0⟩ ∧
     ¬ ((100 : Int) + 24000000 ≤ t16 ⟨0, 1500006, 0⟩) ∧ ¬ s.on pgPKG PKG_SWAP_STAT_ARMED ∧ ¬ s.on pgPKG PKG_SWAP_STAT_PENDING) ∧
    (let k := pk 0x12 0x8000 [1, 0, 1, 0]
     let s := got k [(pgSYSN, SYSN_NCFG_PLAN_EN, 0, 1)]
     s.arrived 0x12 = some ⟨some 7, k, 100⟩ ∧ s.on pgSYSN SYSN_NCFG_PLAN_EN ∧ (∀ n : Fin 4, ¬ s.on (pgRG n) RG_CYC_CTL)) ∧
    (¬ (st []).on pgSYSN SYSN_NCFG_SWAP_EN ∧ ¬ (st []).on pgSYSN SYSN_NCFG_PLAN_EN ∧ (cyc 3 1 id).on (pgRG 3) RG_CYC_CTL ∧
      (got (pk 0x14 0x8000 [0x80000000#32]) []).arrived 0x14 = some ⟨some 7, pk 0x14 0x8000 [0x80000000#32], 100⟩) ∧
    (let k := pk 0x13 0x8000 [1023, 1, 0, 0, 2 ^ 31, 1, 0, 0, 0]
     let s := got k [(pgRG 3, RG_CGRP_EN, 3, 1), (pgRG 3, RG_CGRP_SGID, 3, 1023)]
     s.arrived 0x13 = some ⟨some 7, k, 100⟩ ∧ k.src.toNat ≠ s.rd pgCSTORE CSTORE_IDENT_ACT_PKG ∧
     s.on (pgRG 3) RG_CGRP_EN 3 ∧ s.rd (pgRG 3) RG_CGRP_SGID 3 = pay k 0 % 1024) := by decide +kernel

theorem witness_PointTaken :
    let k := pk 0x20 0x8000 [0xFFFFF, 7, 0, 0]
    let s := (cyc 3 1 id [(pgABC 3, ABC_PSLOT_EN, 255, 1), (pgABC 3, ABC_PSLOT_POINT, 255, 0xFFFFF), (pgABC 3, ABC_PSLOT_MAXAGE, 255, 1)]).onDev
      fun w => w.modNet fun n => { n with inbox := [⟨some 7, k, 100⟩] }
    s.arrived 0x20 = some ⟨some 7, k, 100⟩ ∧ k.payload = [0xFFFFF, 7, 0, 0] ∧ s.on (pgABC 3) ABC_PSLOT_EN 255 ∧
    s.rd (pgABC 3) ABC_PSLOT_POINT 255 = (0xFFFFF#32).toNat % 2 ^ 20 ∧ s.cycling 3 1 ∧ (∀ f ∈ (s.region 3).fillCur, f.slot ≠ 256 + 255) ∧
    (s.region 3).t0 - (s.rd (pgABC 3) ABC_PSLOT_MAXAGE 255 + 1 : Nat) * s.work.period16 3 ≤ s.work.nearTime (0 % 2 ^ 30) 0 ∧
    ¬ s.on (pgABC 0) ABC_PSLOT_EN 255 := by decide +kernel

theorem witness_RemoteAccessServed :
    (st [(pgSYSN, SYSN_RA_STAT_BUSY, 0, 1)]).on pgSYSN SYSN_RA_STAT_BUSY ∧ (st []).reaches (pgSYSN + SYSN_SCMD_RA_GO.at 0) ∧
    (let s := lan (.sys 7) 3 [(pgSYSN, SYSN_ROUTE, 0, 0x77777777)]
     ¬ s.on pgSYSN SYSN_RA_STAT_BUSY ∧ s.route (s.rd pgSYSN SYSN_RA_PKG_PKG) ≠ none) ∧
    (let s := st [(pgSYSN, SYSN_RA_PKG_PKG, 0, 9), (pgSYSN, SYSN_ROUTE, 1, 0xFFFFFFFF)]
     s.rd pgSYSN SYSN_RA_PKG_PKG ≠ s.rd pgCSTORE CSTORE_IDENT_ACT_PKG ∧ s.route (s.rd pgSYSN SYSN_RA_PKG_PKG) = none) ∧
    (let k := pk 0x30 0 [BitVec.ofNat 32 (2 ^ 31 + 0x1020000), 1]
     let s := got k [(pgSYSN, SYSN_NCFG_REM_EN, 0, 1), (pgTALLY, TALLY_STAT_TIME_SET, 0, 1), (pgSEC, SEC_RGNT_EN, 3, 1), (pgSEC, SEC_RGNT_PKG, 3, 9),
       (pgSEC, SEC_RGNT_EXP, 3, 1)]
     s.arrived 0x30 = some ⟨some 7, k, 100⟩ ∧ k.src.toNat ≠ s.rd pgCSTORE CSTORE_IDENT_ACT_PKG ∧ s.on pgSYSN SYSN_NCFG_REM_EN ∧
     remoteReach 0x1020000 = true ∧ s.on pgTALLY TALLY_STAT_TIME_SET ∧ s.on pgSEC SEC_RGNT_EN 3 ∧ s.rd pgSEC SEC_RGNT_PKG 3 = k.src.toNat ∧
     s.tally.a.s % 2 ^ 32 < s.rd pgSEC SEC_RGNT_EXP 3 ∧ (pay k 0).testBit 31 = true ∧ pay k 0 % 2 ^ 25 / 4 * 4 = 0x1020000 ∧
     s.fenceAt 0x1020000 true = none ∧ s.fenceAt 0x1020000 false = none ∧ (shadowOf 0x1020000).isSome ∧
     (st [(pgPKG, PKG_FENCE_STAT, 0, 1)]).fenceAt 0x1020000 false = some (0, false)) ∧
    (let s := got (pk 0x31 0 [0, 7]) [] fun n => { n with ra := some (5, false) }
     s.arrived 0x31 = some ⟨some 7, pk 0x31 0 [0, 7], 100⟩ ∧ s.dev.net.ra = some (5, false) ∧ (pk 0x31 0 [0, 7]).seq.toNat = 5 ∧
     (pk 0x31 0 [0, 7]).seq.toNat ≠ 4) ∧ (st []).dev.net.ra = none := by decide +kernel

/-! ### Self-test, the TAP, the device key and the counted store -/

theorem witness_RegionBistRuns :
    (let s := st [(pgCLU 47, CLU_CSTAT_STATE, 0, 5), (pgCLU 0, CLU_CSTAT_STATE, 0, 4)]
     s.reaches (pgBIST + BIST_BCTL_GO.at 0) ∧ s.reaches (pgBIST + BIST_BCTL_ABORT.at 0) ∧ s.reaches (pgBIST + BIST_UMARK_KEY.at 0) ∧
     s.dev.shut = false ∧ (8#4).getLsbD 3 = true ∧ (8#4).getLsbD 2 = false ∧ (s.rd pgBIST BIST_BSTAT_RUN).testBit 3 = false ∧ s.work.role ≠ 1 ∧ (47 : Fin 48).val / 12 = 3 ∧
     s.rd (pgCLU 47) CLU_CSTAT_STATE ∈ [1, 2, 3, 5] ∧ (∀ c : Fin 12, s.rd (pgCLU c) CLU_CSTAT_STATE ∉ [1, 2, 3, 5]) ∧
     ¬ s.on pgPKG PKG_SWAP_STAT_ARMED ∧ ¬ s.on pgPKG PKG_SWAP_STAT_PENDING ∧ s.dev.kin.resets.testBit 0 = false ∧
     ¬ s.on pgBIST BIST_BSTAT_HUB_RUN ∧ ¬ s.on pgBIST BIST_BSTAT_HRT_RUN ∧ ¬ s.on pgBIST BIST_BSTAT_LEND) ∧
    (12#4).getLsbD 2 = true ∧ (st [(pgPKG, PKG_SWAP_STAT_ARMED, 0, 1)]).on pgPKG PKG_SWAP_STAT_ARMED ∧
    (kin 12 fun k => { k with resets := 8 }).dev.kin.resets.testBit 3 = true ∧ (st [(pgBIST, BIST_BSTAT_LEND, 0, 1)]).on pgBIST BIST_BSTAT_LEND ∧
    (let s := st [(pgBIST, BIST_BSTAT_RUN, 0, 8)]
     (s.rd pgBIST BIST_BSTAT_RUN).testBit 3 = true ∧ s.dev.sec.drain.testBit 3 = false ∧ s.dev.ember.marks.testBit 3 = false) ∧
    (let s := st [(pgTWIN, TWIN_TSTAT_ROLE, 0, 1), (pgTWIN, TWIN_TCFG_SBIST, 0, 1), (pgTWIN, TWIN_TSTAT_HEALTH_OK, 0, 1)]
     s.work.role = 1 ∧ s.on pgTWIN TWIN_TCFG_SBIST ∧ s.on pgTWIN TWIN_TSTAT_HEALTH_OK ∧ ¬ s.on pgBIST BIST_BSTAT_RUN ∧
     decide ((2 : Fin 4).val % 2 = 1) = s.dev.twin.bistTurn ∧ (s.rd pgPKG PKG_FENCE_STAT).testBit 2 = false) := by decide

theorem witness_LogicBistAndTap :
    (∀ c : Fin 48, (st []).rd (pgCLU c) CLU_CSTAT_STATE = 0) ∧ (st [(pgCLU 47, CLU_CSTAT_STATE, 0, 2)]).rd (pgCLU 47) CLU_CSTAT_STATE = 2 ∧
    (st [(pgTWIN, TWIN_TSTAT_ROLE, 0, 2)]).work.role = 2 ∧ (st []).work.role ≠ 2 ∧ (cyc 3 1 id).on (pgRG 3) RG_CYC_CTL ∧
    (∀ n : Fin 4, ¬ (st []).on (pgRG n) RG_CYC_CTL) ∧ (st []).reaches (pgBIST + BIST_BCTL_GO.at 0) ∧ 0 < (st []).tally.inc ∧ ¬ (st []).on pgBIST BIST_BSTAT_RUN ∧ (st []).notHeld 1 ∧
    (st [(pgBIST, BIST_BSTAT_HUB_RUN, 0, 1)]).on pgBIST BIST_BSTAT_HUB_RUN ∧
    (let s := st [(pgBIST, BIST_BSTAT_HRT_RUN, 0, 1)]
     ¬ s.on pgBIST BIST_BSTAT_HUB_RUN ∧ s.on pgBIST BIST_BSTAT_HRT_RUN) ∧
    (let s := st [(pgPKG, PKG_FRZ_STAT_FROZEN, 0, 1)] fun w => w.modSec fun k => { k with ir := 0x10 }
     s.dev.sec.ir = 0x10 ∧ s.on pgPKG PKG_FRZ_STAT_FROZEN ∧ ¬ s.on pgPKG PKG_FRZ_CTL) ∧
    ((st []).dev.sec.ir ≠ 0x10 ∧ ¬ (st []).on pgPKG PKG_FRZ_STAT_FROZEN ∧ (st []).dev.hearth.frz = none) := by decide

theorem witness_KeyAndCountedStore :
    (let s := st [(pgTHERM, THERM_TSTAT_WGATE, 0, 1)]
     s.reaches sctlAddr ∧ s.reaches (pgCSTORE + CSTORE_WCTL_GO.at 0) ∧ s.dev.sec.programmed = false ∧ s.dev.sec.progRun = false ∧ s.dev.sec.closed = false ∧ s.on pgTHERM THERM_TSTAT_WGATE ∧
     (∀ c : Fin 48, s.rd (pgCLU c) CLU_CSTAT_STATE = 0) ∧ s.rd pgCSTORE { CSTORE_WCNT1 with lo := 4 * (15 % 8), wid := 4 } < 8 ∧
     s.dev.sec.cellRun = none ∧ s.word (pgCSTORE + CSTORE_WDATA_HI.at 0) = 0 ∧ (s.word (pgCSTORE + CSTORE_WDATA_LO.at 0)).toNat < 1024) ∧
    ¬ (st []).on pgTHERM THERM_TSTAT_WGATE ∧
    (st [] fun w => w.modSec fun k => { k with progRun := true }).dev.sec.progRun = true ∧
    8 ≤ (st [(pgCSTORE, { CSTORE_WCNT1 with lo := 28, wid := 4 }, 0, 8)]).rd pgCSTORE { CSTORE_WCNT1 with lo := 28, wid := 4 } ∧
    ¬ ((st [(pgCSTORE, CSTORE_WDATA_LO, 0, 1024)]).word (pgCSTORE + CSTORE_WDATA_LO.at 0)).toNat < 1024 ∧
    (let s := st [] fun w => w.modSec fun k => { k with cellRun := some ⟨15, 1, 0, false, 0⟩ }
     s.dev.sec.cellRun = some ⟨15, 1, 0, false, 0⟩ ∧ (15 : Fin 16).val = 15 ∧ s.dev.sec.cellRun ≠ none) := by decide


/-! ### Witnesses that need the CRC of a set or an authentic image -/

theorem crc32Bit_lt (c : Nat) (h : c < 2 ^ 32) : crc32Bit c < 2 ^ 32 := by
  unfold crc32Bit
  split
  · exact Nat.xor_lt_two_pow (by omega) (by decide)
  · omega

theorem crc32Byte_lt (c : Nat) (b : Byte) (h : c < 2 ^ 32) : crc32Byte c b < 2 ^ 32 := by
  have h0 : c ^^^ b.toNat < 2 ^ 32 := Nat.xor_lt_two_pow h (Nat.lt_of_lt_of_le b.isLt (by decide))
  unfold crc32Byte
  generalize c ^^^ b.toNat = x at h0
  induction (List.range 8) generalizing x with
  | nil => exact h0
  | cons _ r ih => exact ih _ (crc32Bit_lt x h0)

theorem crc32_lt (bs : List Byte) : crc32 bs < 2 ^ 32 := by
  unfold crc32
  refine Nat.xor_lt_two_pow ?_ (by decide)
  suffices ∀ x, x < 2 ^ 32 → bs.foldl crc32Byte x < 2 ^ 32 from this _ (by decide)
  induction bs with
  | nil => exact fun x h => h
  | cons b r ih => exact fun x h => ih _ (crc32Byte_lt x b h)

/-- Kindling done, a swap armed and in its checks, SWAP_CRC at `x` and ACTIVE_CRC at `y`. -/
def crcs (x y : Word) : State :=
  { State.reset with dev := { Dev.reset with regs := [(80, 3), (84, x), (92, y), (708, 0x8C000000)] } }

theorem crcs_swap (x y : Word) : (crcs x y).rd pgPKG PKG_SWAP_CRC = x.toNat := by
  have h : (crcs x y).rd pgPKG PKG_SWAP_CRC = x.toNat / 2 ^ 0 % 2 ^ 32 := rfl
  rw [h]; omega

theorem crcs_active (x y : Word) : (crcs x y).rd pgPKG PKG_ACTIVE_CRC = y.toNat := by
  have h : (crcs x y).rd pgPKG PKG_ACTIVE_CRC = y.toNat / 2 ^ 0 % 2 ^ 32 := rfl
  rw [h]; omega

theorem setCrc_congr (f g : Nat → Word) (h : ∀ a, f a &&& rwsMask a = g a &&& rwsMask a) : setCrc f = setCrc g := by
  unfold setCrc
  simp only [h]

theorem crcs_kept (x y : Word) : (crcs x y).work.withKept = (crcs x y).work := by
  unfold Work.withKept
  exact if_pos (show (crcs x y).work.ember.marks = 0 from rfl)

theorem crcs_shadow (x y : Word) : (crcs x y).work.shadowCrc = (crcs 0 0).work.shadowCrc := by
  unfold Work.shadowCrc
  rw [crcs_kept, crcs_kept]
  exact congrArg setCrc (show (crcs x y).work.shWord = (crcs 0 0).work.shWord from rfl)

theorem shadowCrc_lt (w : Work) : w.shadowCrc < 2 ^ 32 := by unfold Work.shadowCrc setCrc; exact crc32_lt _
theorem activeCrc_lt (w : Work) : w.activeCrc < 2 ^ 32 := by unfold Work.activeCrc setCrc; exact crc32_lt _

theorem crcs_activeCrc (x y : Word) : (crcs x y).work.activeCrc = (crcs x 0).work.activeCrc := by
  have h (z : Word) : (crcs x z).work.activeCrc = setCrc fun a => (crcs x z).work.word a := by
    unfold Work.activeCrc
    refine congrArg setCrc (funext fun a => ?_)
    have m : ((upto 4).any fun n => (crcs x z).work.marked n && inRegion n a) = false := by
      have : ∀ n, (crcs x z).work.marked n = false := fun n => by
        show bitOf 0 n = false
        simp [bitOf]
      simp [this]
    rw [m]; rfl
  rw [h, h]
  refine setCrc_congr _ _ fun a => ?_
  by_cases ha : a = 92
  · subst ha
    have : rwsMask 92 = 0 := by decide
    simp [this]
  · have h (z : Word) : (crcs x z).work.word a =
        if a = 80 then 3 else if a = 84 then x else if a = 92 then z else if a = 708 then 0x8C000000 else resetWord a := rfl
    rw [h, h, if_neg ha, if_neg ha]

/-- A pass that finds the active set sound, and a swap whose CRC differs. -/
theorem witness_CrcsAgreeAndDiffer :
    (∃ s : State, s.on pgPKG PKG_KSTAT_DONE ∧ ¬ s.on pgPKG PKG_SWAP_STAT_PENDING ∧
      s.work.activeCrc = s.rd pgPKG PKG_ACTIVE_CRC) ∧
    (∃ s : State, s.on pgPKG PKG_SWAP_STAT_CHECKING ∧ s.dev.net.swapFrom = none ∧ s.work.shadowCrc ≠ s.rd pgPKG PKG_SWAP_CRC) := by
  constructor
  · have key (n : Nat) (hn : (crcs 0 0).work.activeCrc = n) (hl : n < 2 ^ 32) :
        (crcs 0 (BitVec.ofNat 32 n)).work.activeCrc = (crcs 0 (BitVec.ofNat 32 n)).rd pgPKG PKG_ACTIVE_CRC := by
      rw [crcs_active, crcs_activeCrc, hn, BitVec.toNat_ofNat, Nat.mod_eq_of_lt hl]
    exact ⟨_, by decide, by decide, key _ rfl (activeCrc_lt _)⟩
  · by_cases h : (crcs 0 0).work.shadowCrc = 0
    · refine ⟨crcs 1 0, by decide, rfl, ?_⟩
      rw [crcs_swap, crcs_shadow, h]; decide
    · refine ⟨crcs 0 0, by decide, rfl, ?_⟩
      rw [crcs_swap]; exact h

theorem crcs_word (x : Word) (a : Nat) (h : a ≠ 84) : (crcs x 0).work.word a = (crcs 0 0).work.word a := by
  have h (z : Word) : (crcs z 0).work.word a =
      if a = 80 then 3 else if a = 84 then z else if a = 92 then 0 else if a = 708 then 0x8C000000 else resetWord a := rfl
  rw [h, h, if_neg ‹a ≠ 84›, if_neg ‹a ≠ 84›]

theorem crcs_preview (x : Word) : (crcs x 0).work.preview = (crcs x 0).work := by
  have h : ((((crcs x 0).work.regs.map Prod.fst) ++ ((crcs x 0).work.shadow.map Prod.fst)).eraseDups.filter
      fun a => true && rwsMask a != 0) = [] := (by decide +kernel : ((([80, 84, 92, 708] : List Nat) ++ []).eraseDups.filter
        fun a => true && rwsMask a != 0) = [])
  unfold Work.preview Work.exchange
  rw [h]; rfl

theorem crcs_pdir (x : Word) : (crcs x 0).work.pdirBad = none := by
  have h (l : Nat) : (crcs x 0).work.pdir l = (crcs 0 0).work.pdir l := by
    unfold Work.pdir
    rw [crcs_word x (pdirAddr l 0) (by unfold pdirAddr; omega), crcs_word x (pdirAddr l 1) (by unfold pdirAddr; omega)]
  have k : (crcs 0 0).work.pdirBad = none := by decide +kernel
  rw [← k]
  unfold Work.pdirBad
  simp only [h]

theorem crcs_rd (x : Word) (p : Nat) (f : Field) (i : Nat) (h : 85 ≤ p) : (crcs x 0).work.rd p f i = (crcs 0 0).work.rd p f i := by
  unfold Work.rd
  rw [crcs_word x _ (by omega)]

theorem past_rg (n : Nat) : 85 ≤ pgRG n := by unfold pgRG rgBase; omega
theorem past_abc (n : Nat) : 85 ≤ pgABC n := by unfold pgABC rgBase; omega
theorem past_sp (n g : Nat) : 85 ≤ pgSP n g := by unfold pgSP rgBase; omega
theorem past_clu (c : Nat) : 85 ≤ pgCLU c := by unfold pgCLU rgBase; omega

theorem crcs_timing (x : Word) : ((upto 4).find? fun n => !(crcs x 0).work.timingOk n) = none := by
  have h (n : Nat) : (crcs x 0).work.timingOk n = (crcs 0 0).work.timingOk n := by
    unfold Work.timingOk
    simp only [Work.reckonTicks, Work.on, Work.rdS, crcs_rd x _ _ _ (past_rg _), crcs_rd x _ _ _ (past_clu _)]
    congr!
  simp only [h]
  decide +kernel


theorem crcs_noProgram : ∀ n : Fin 4, (crcs 0 0).work.rd (pgABC n) ABC_PROG = 0 := by decide +kernel
theorem crcs_noLoops : ∀ n : Fin 4, (upto 64).filter ((crcs 0 0).work.lpOn n) = [] := by decide +kernel
theorem crcs_fits : ∀ n : Fin 4, ((crcs 0 0).work.bound n : Int) ≤ (crcs 0 0).work.reckonTicks n := by decide +kernel

/-- A region with no section and no loop has a valid program. -/
theorem programOk_empty (w : Work) (n : Nat) (hp : w.rd (pgABC n) ABC_PROG = 0) (hl : (upto 64).filter (w.lpOn n) = [])
    (hb : (w.bound n : Int) ≤ w.reckonTicks n) : w.programOk n = true := by
  have h : w.program n = [] := by unfold Work.program; rw [hp]; rfl
  unfold Work.programOk Work.loopsOk
  simp [h, hp, hl, hb]

theorem crcs_programOk (x : Word) (n : Fin 4) : (crcs x 0).work.programOk n = true := by
  refine programOk_empty _ _ ((crcs_rd x _ _ _ (past_abc _)).trans (crcs_noProgram n)) ?_ ?_
  · rw [← crcs_noLoops n]
    refine List.filter_congr fun m _ => ?_
    unfold Work.lpOn Work.lpRd
    rw [crcs_rd x _ _ _ (past_sp _ _)]
  · have h := crcs_fits n
    unfold Work.bound Work.reckonTicks at h ⊢
    rw [crcs_rd x _ _ _ (past_abc _), crcs_rd x _ _ _ (past_rg _), crcs_rd x _ _ _ (past_rg _), crcs_rd x _ _ _ (past_rg _)]
    exact h

theorem crcs_programs (x : Word) : ((upto 4).find? fun n => !(crcs x 0).work.programOk n) = none := by
  refine List.find?_eq_none.2 fun n hn => ?_
  have hn : n < 4 := List.mem_range.1 hn
  rw [crcs_programOk x ⟨n, hn⟩]
  decide

set_option maxRecDepth 10000 in
theorem crcs_copy (x : Word) : (crcs x 0).work.copyOk = true := by cbv
set_option maxRecDepth 10000 in
theorem crcs_topology (x : Word) : (crcs x 0).work.topologyBad = none := by cbv
set_option maxRecDepth 10000 in
theorem crcs_dram (x : Word) : (crcs x 0).work.dramBad = none := by cbv
set_option maxRecDepth 10000 in
theorem crcs_claimClash (x : Word) : (crcs x 0).work.claimClash = none := by cbv


theorem crcs_checking (x : Word) : (crcs x 0).on pgPKG PKG_SWAP_STAT_CHECKING := by
  show (crcs x 0).work.rd pgPKG PKG_SWAP_STAT_CHECKING ≠ 0
  have : (crcs x 0).work.rd pgPKG PKG_SWAP_STAT_CHECKING = (crcs 0 0).work.rd pgPKG PKG_SWAP_STAT_CHECKING := by
    unfold Work.rd; rw [crcs_word x _ (by decide)]
  rw [this]; decide

theorem crcs_armed (x : Word) : (crcs x 0).on pgPKG PKG_SWAP_STAT_ARMED := by
  show (crcs x 0).work.rd pgPKG PKG_SWAP_STAT_ARMED ≠ 0
  have : (crcs x 0).work.rd pgPKG PKG_SWAP_STAT_ARMED = (crcs 0 0).work.rd pgPKG PKG_SWAP_STAT_ARMED := by
    unfold Work.rd; rw [crcs_word x _ (by decide)]
  rw [this]; decide

theorem crcs_calc (x : Word) (n p : Nat) (f : Field) (i : Nat) (h : p + f.at i ≠ 84) (h' : p + f.at i ≠ 88) :
    ((crcs x 0).work.wr pgPKG PKG_SWAP_CRC_CALC n).rd p f i = (crcs 0 0).work.rd p f i := by
  rw [rd_wr_ne _ _ _ _ _ _ _ _ (fun e => h' e)]
  unfold Work.rd
  rw [crcs_word x _ h]

theorem crcs_static (x : Word) (hn : (crcs x 0).work.shadowCrc = x.toNat) :
    ((crcs x 0).work.wr pgPKG PKG_SWAP_CRC_CALC (crcs x 0).work.shadowCrc).checksStatic (crcs x 0).work.preview = none := by
  have h1 : ((crcs x 0).work.wr pgPKG PKG_SWAP_CRC_CALC (crcs x 0).work.shadowCrc).rd pgPKG PKG_SWAP_CRC_CALC = x.toNat := by
    rw [rd_wr_same _ _ _ _ _ (by decide), hn]; exact Nat.mod_eq_of_lt x.isLt
  have h2 : ((crcs x 0).work.wr pgPKG PKG_SWAP_CRC_CALC (crcs x 0).work.shadowCrc).rd pgPKG PKG_SWAP_CRC = x.toNat := by
    rw [rd_wr_ne _ _ _ _ _ _ _ _ (by decide)]; exact crcs_swap x 0
  rw [crcs_preview]
  unfold Work.checksStatic
  simp only [h1, h2, crcs_programs, crcs_timing, crcs_copy, crcs_topology, crcs_dram, crcs_pdir,
    bne_self_eq_false, Bool.false_eq_true, if_false, Bool.not_true, Option.map_none]

theorem crcs_busy (x : Word) (n : Nat) : ((crcs x 0).work.wr pgPKG PKG_SWAP_CRC_CALC n).regionBusy = none := by
  unfold Work.regionBusy
  refine List.find?_eq_none.2 fun r hr => ?_
  unfold Work.rgFenced Work.bistRun
  rw [crcs_calc x n _ _ _ (by decide) (by decide), crcs_calc x n _ _ _ (by decide) (by decide)]
  have k : ∀ r : Fin 4, (bitOf ((crcs 0 0).work.rd pgPKG PKG_FENCE_STAT) r || bitOf ((crcs 0 0).work.rd pgBIST BIST_BSTAT_RUN) r) = false := by
    decide +kernel
  have z : bitOf (((crcs x 0).work.wr pgPKG PKG_SWAP_CRC_CALC n).kin.resets) r = false := by
    show bitOf 0 r = false
    simp [bitOf]
  have hr : r < 4 := List.mem_range.1 hr
  rw [k ⟨r, hr⟩, z]
  simp only [Bool.or_self, Bool.and_false, Bool.false_eq_true, not_false_eq_true]

theorem crcs_last (x : Word) (n : Nat) : ((crcs x 0).work.wr pgPKG PKG_SWAP_CRC_CALC n).checksLast (crcs x 0).work.preview = none := by
  have idle : ∀ c : Fin 48, (crcs 0 0).work.cstate c = 0 := by decide +kernel
  have h (c : Nat) (hc : c < 48) : ((crcs x 0).work.wr pgPKG PKG_SWAP_CRC_CALC n).cstate c = 0 := by
    have p : 89 ≤ pgCLU c := by unfold pgCLU rgBase; omega
    unfold Work.cstate
    rw [crcs_calc x n _ _ _ (by omega) (by omega)]
    exact idle ⟨c, hc⟩
  have hf (g : Nat → Bool) : ((upto 48).find? fun c => ((crcs x 0).work.wr pgPKG PKG_SWAP_CRC_CALC n).cstate c != 0 && g c) = none := by
    refine List.find?_eq_none.2 fun c hc => ?_
    rw [h c (List.mem_range.1 hc)]
    simp only [bne_self_eq_false, Bool.false_and, Bool.false_eq_true, not_false_eq_true]
  rw [crcs_preview]
  unfold Work.checksLast
  rw [hf, crcs_claimClash, crcs_busy]
  rfl

/-- A swap whose checks all pass. -/
theorem witness_SwapChecksPass : ∃ s : State, s.on pgPKG PKG_SWAP_STAT_CHECKING ∧ s.dev.net.swapFrom = none ∧ s.on pgPKG PKG_SWAP_STAT_ARMED ∧
    (s.work.wr pgPKG PKG_SWAP_CRC_CALC s.work.shadowCrc).checksStatic s.work.preview = none ∧
    (s.work.wr pgPKG PKG_SWAP_CRC_CALC s.work.shadowCrc).checksLast s.work.preview = none := by
  have key (n : Nat) (e : (crcs 0 0).work.shadowCrc = n) (hl : n < 2 ^ 32) :
      (crcs (BitVec.ofNat 32 n) 0).work.shadowCrc = (BitVec.ofNat 32 n).toNat := by
    rw [crcs_shadow, e, BitVec.toNat_ofNat, Nat.mod_eq_of_lt hl]
  exact ⟨_, crcs_checking _, rfl, crcs_armed _, crcs_static _ (key _ rfl (shadowCrc_lt _)), crcs_last _ _⟩

end Sys2Proof.Tests
end

section
/-! SUPPORT. What a run of device operations may alter: a relation between the device before and after that names the kinds
of state and the dwords written, with one rule per operation. A command's frame (`Changes`) is read off it. -/

namespace Sys2Proof.Machine

/-- From `w` to `v` nothing has changed but the kinds of state `ks` and the dwords of `l`. -/
structure Work.Alters (ks : List Kind) (l : List Nat) (w v : Work) : Prop where
  kinds : ∀ k, k ∉ ks → k.same w.toDev v.toDev
  words : w.Keeps l v

theorem Kind.same_refl (k : Kind) (d : Dev) : k.same d d := by cases k <;> rfl

theorem Kind.same_trans (k : Kind) {d e f : Dev} (h : k.same d e) (g : k.same e f) : k.same d f := by
  cases k <;> exact Eq.trans g h

/-- A register write changes no other kind of state. -/
theorem Kind.same_put (k : Kind) (w : Work) (a : Nat) (d : Word) : k.same w.toDev (w.put a d).toDev := by cases k <;> rfl

theorem Kind.same_shPut (k : Kind) (w : Work) (a : Nat) (d : Word) (h : k ≠ .shadow) : k.same w.toDev (w.shPut a d).toDev := by
  cases k
  case shadow => exact absurd rfl h
  all_goals rfl

theorem Kind.same_emit (k : Kind) (w : Work) (o : Out) (h : k ≠ .out) : k.same w.toDev (w.emit o).toDev := by
  cases k
  case out => exact absurd rfl h
  all_goals rfl

theorem Kind.same_modRg (k : Kind) (w : Work) (n : Nat) (f : Region → Region) (h : k ≠ .rgn) :
    k.same w.toDev (w.modRg n f).toDev := by
  cases k
  case rgn => exact absurd rfl h
  all_goals rfl

namespace Work.Alters

variable {ks : List Kind} {l : List Nat} {w v u : Work}

theorem refl : w.Alters ks l w := ⟨fun k _ => k.same_refl _, keeps_refl⟩

theorem trans (h : w.Alters ks l v) (g : v.Alters ks l u) : w.Alters ks l u :=
  ⟨fun k hk => k.same_trans (h.kinds k hk) (g.kinds k hk), keeps_trans h.words g.words⟩

theorem mono {ks' : List Kind} {l' : List Nat} (h : w.Alters ks l v) (hk : ks ⊆ ks') (hl : l ⊆ l') : w.Alters ks' l' v :=
  ⟨fun k hn => h.kinds k fun hm => hn (hk hm), fun a ha => h.words a fun hm => ha (hl hm)⟩

theorem put {a : Nat} {d : Word} (h : w.Alters ks l v) (ha : a ∈ l) : w.Alters ks l (v.put a d) :=
  ⟨fun k hk => k.same_trans (h.kinds k hk) (k.same_put ..), keeps_put h.words ha⟩

theorem wr {pg : Nat} {f : Field} {x i : Nat} (h : w.Alters ks l v) (ha : pg + f.at i ∈ l) : w.Alters ks l (v.wr pg f x i) :=
  h.put ha

theorem count {pg : Nat} {f : Field} {n i : Nat} (h : w.Alters ks l v) (ha : pg + f.at i ∈ l) :
    w.Alters ks l (v.count pg f n i) := h.put ha

theorem badval {pg : Nat} (h : w.Alters ks l v) (ha : pg + HDR_STAT_BADVAL.at 0 ∈ l) : w.Alters ks l (v.badval pg) := h.put ha

theorem shPut {a : Nat} {d : Word} (h : w.Alters ks l v) (hk : .shadow ∈ ks) : w.Alters ks l (v.shPut a d) :=
  ⟨fun k hn => k.same_trans (h.kinds k hn) (k.same_shPut _ _ _ (ne_of_mem_of_not_mem hk hn).symm), h.words⟩

theorem emit {o : Out} (h : w.Alters ks l v) (hk : .out ∈ ks) : w.Alters ks l (v.emit o) :=
  ⟨fun k hn => k.same_trans (h.kinds k hn) (k.same_emit _ _ (ne_of_mem_of_not_mem hk hn).symm), h.words⟩

theorem modRg {n : Nat} {f : Region → Region} (h : w.Alters ks l v) (hk : .rgn ∈ ks) : w.Alters ks l (v.modRg n f) :=
  ⟨fun k hn => k.same_trans (h.kinds k hn) (k.same_modRg _ _ _ (ne_of_mem_of_not_mem hk hn).symm), h.words⟩

theorem when {c : Bool} {f : Work → Work} (h : w.Alters ks l v) (hf : w.Alters ks l (f v)) : w.Alters ks l (v.when c f) := by
  unfold Work.when
  split
  · exact hf
  · exact h

/-- The frame of a command that changes the device alone. -/
theorem changes {s : State} {f : Work → Work} (h : s.work.Alters ks l (f s.work)) : Changes ks l s (s.onDev f) :=
  ⟨⟨rfl, rfl⟩, h.kinds, h.words⟩

end Work.Alters

/-- A device operation that is not called leaves the device as it is. -/
@[simp] theorem when_false (w : Work) (f : Work → Work) : w.when false f = w := rfl
@[simp] theorem when_true (w : Work) (f : Work → Work) : w.when true f = f w := rfl

end Sys2Proof.Machine
end

section
/-! SUPPORT. The BAR0 map: pages and windows do not meet, and a page is where its first dword is (R53 to R55). -/

namespace Sys2Proof.Machine

/-- Where the windows lie: the point directory's, and those of a region's window. -/
theorem windowOf_range {a : Nat} {w : Window} (h : windowOf a = some w) :
    (0x80 ≤ a / 0x1000 ∧ a / 0x1000 < 0x84) ∨
    (0x1000000 ≤ a ∧ a < 0x2000000 ∧ ((2 ≤ (a - 0x1000000) % 0x400000 / 0x1000 ∧ (a - 0x1000000) % 0x400000 / 0x1000 < 8) ∨
      (0x10 ≤ (a - 0x1000000) % 0x400000 / 0x1000 ∧ (a - 0x1000000) % 0x400000 / 0x1000 < 0x30))) := by
  unfold windowOf at h
  dsimp only at h
  split_ifs at h <;> omega

/-- A window holds no page. -/
theorem pageOf_of_window {a : Nat} {w : Window} (h : windowOf a = some w) : pageOf a = none := by
  rcases windowOf_range h with hp | ⟨h1, h2, h3⟩
  · have hlow : a < 0x1000000 := by omega
    have hpage : a / 0x1000 = 0x80 ∨ a / 0x1000 = 0x81 ∨ a / 0x1000 = 0x82 ∨ a / 0x1000 = 0x83 := by omega
    rw [pageOf]
    dsimp only
    rw [if_pos hlow]
    rcases hpage with hp | hp | hp | hp <;> rw [hp] <;> rfl
  · rw [pageOf]
    dsimp only
    rw [if_neg (by omega), if_pos h2, if_neg (by omega), if_neg (by omega), if_neg (by omega), if_neg (by omega),
      if_neg (by omega), if_neg (by omega)]

theorem windowOf_of_page {a : Nat} {q : PageKind × Nat} (h : pageOf a = some q) : windowOf a = none := by
  cases hw : windowOf a with
  | none => rfl
  | some w => rw [pageOf_of_window hw] at h; cases h

/-- Every offset of a page lies in it. -/
theorem pageOf_add (pg x : Nat) (hp : pg % 0x1000 = 0) (hx : x < 0x1000) : pageOf (pg + x) = pageOf pg := by
  have h1 : (pg + x) / 0x1000 = pg / 0x1000 := by omega
  have h2 : (pg + x < 0x1000000) = (pg < 0x1000000) := by simp only [eq_iff_iff]; omega
  have h3 : (pg + x < 0x2000000) = (pg < 0x2000000) := by simp only [eq_iff_iff]; omega
  by_cases hb : pg < 0x1000000
  · simp only [pageOf, h1, h2, hb, if_true]
  · have h4 : (pg + x - 0x1000000) / 0x400000 = (pg - 0x1000000) / 0x400000 := by omega
    have h5 : (pg + x - 0x1000000) % 0x400000 / 0x1000 = (pg - 0x1000000) % 0x400000 / 0x1000 := by omega
    simp only [pageOf, h1, h2, h3, h4, h5]

theorem page_add_offset (a : Nat) : a / 0x1000 * 0x1000 + a % 0x1000 = a := by omega

theorem pageOf_base (a : Nat) : pageOf (a / 0x1000 * 0x1000) = pageOf a := by
  rw [← pageOf_add (a / 0x1000 * 0x1000) (a % 0x1000) (by omega) (by omega), page_add_offset]

/-- A dword is where the byte that the host names lies. -/
theorem pageOf_dword (a : Nat) : pageOf (a / 4 * 4) = pageOf a := by
  rw [← pageOf_base (a / 4 * 4), ← pageOf_base a, show a / 4 * 4 / 0x1000 = a / 0x1000 by omega]

theorem mapped_of_page {a : Nat} {q : PageKind × Nat} (h : pageOf a = some q) : mapped a = true := by simp [mapped, h]

theorem mapped_of_window {a : Nat} {w : Window} (h : windowOf a = some w) : mapped a = true := by simp [mapped, h]

/-- What lies below a page's shadow view has no shadow twin (R66). -/
theorem shadowOf_of_page {a : Nat} {q : PageKind × Nat} (h : pageOf a = some q) (ho : a % 0x1000 < 0x840) : shadowOf a = none := by
  rw [shadowOf, windowOf_of_page h, h]
  exact if_neg (by omega)

/-- Only the shadow windows have an active twin (R67). -/
theorem shadowOf_of_window {a : Nat} {w : Window} (h : windowOf a = some w) (hs : ∀ n, w ≠ .secShadow n) (hp : w ≠ .pdirShadow) :
    shadowOf a = none := by
  rw [shadowOf, h]
  cases w
  case secShadow n => exact absurd rfl (hs n)
  case pdirShadow => exact absurd rfl hp
  all_goals rfl

/-- A shadow view or window is mapped. -/
theorem mapped_of_shadow {a : Nat} {q : Nat × Nat} (h : shadowOf a = some q) : mapped a = true := by
  unfold shadowOf at h
  cases hw : windowOf a with
  | some w => exact mapped_of_window hw
  | none =>
    cases hp : pageOf a with
    | some p => exact mapped_of_page hp
    | none => rw [hw, hp] at h; cases h

theorem windowOf_eq_secShadow_iff {a n : Nat} : windowOf a = some (.secShadow n) ↔
    0x1000000 ≤ a ∧ a < 0x2000000 ∧ 0x20000 ≤ (a - 0x1000000) % 0x400000 ∧ (a - 0x1000000) % 0x400000 < 0x30000 ∧
      n = (a - 0x1000000) / 0x400000 := by
  constructor
  · intro h
    unfold windowOf at h
    dsimp only at h
    split_ifs at h <;> simp only [Option.some.injEq, reduceCtorEq, Window.secShadow.injEq] at h
    omega
  · rintro ⟨h1, h2, h3, h4, rfl⟩
    rw [windowOf]
    dsimp only
    rw [if_neg (by omega), if_pos (by omega), if_neg (by omega), if_neg (by omega), if_neg (by omega), if_neg (by omega),
      if_neg (by omega), if_pos (by omega)]

theorem windowOf_eq_pdirShadow_iff {a : Nat} : windowOf a = some .pdirShadow ↔ 0x82000 ≤ a ∧ a < 0x84000 := by
  constructor
  · intro h
    unfold windowOf at h
    dsimp only at h
    split_ifs at h <;> simp only [Option.some.injEq, reduceCtorEq] at h
    assumption
  · intro h
    rw [windowOf, if_pos (by omega), if_neg (by omega), if_pos h]

/-- The active twin of a dword of the shadow section window lies in the active one (R67). -/
theorem windowOf_secActive {a n : Nat} (h : windowOf a = some (.secShadow n)) : windowOf (a - 0x10000) = some (.secActive n) := by
  obtain ⟨h1, h2, h3, h4, hn⟩ := windowOf_eq_secShadow_iff.1 h
  have hn : (a - 0x10000 - 0x1000000) / 0x400000 = n := by omega
  rw [windowOf]
  dsimp only
  rw [if_neg (by omega), if_pos (by omega), if_neg (by omega), if_neg (by omega), if_neg (by omega), if_neg (by omega),
    if_pos (by omega), hn]

theorem windowOf_pdirActive {a : Nat} (h : windowOf a = some .pdirShadow) : windowOf (a - 0x2000) = some .pdirActive := by
  obtain ⟨h1, h2⟩ := windowOf_eq_pdirShadow_iff.1 h
  rw [windowOf, if_pos (by omega), if_pos (by omega)]

/-- Every window begins and ends at a multiple of 8 bytes. -/
theorem windowOf_isSome_congr {a b : Nat} (h : a / 8 = b / 8) : (windowOf a).isSome = (windowOf b).isSome := by
  have e1 : (a < 0x1000000) = (b < 0x1000000) := by rw [eq_iff_iff]; omega
  have e2 : (a < 0x2000000) = (b < 0x2000000) := by rw [eq_iff_iff]; omega
  have e3 : (0x80000 ≤ a ∧ a < 0x82000) = (0x80000 ≤ b ∧ b < 0x82000) := by rw [eq_iff_iff]; omega
  have e4 : (0x82000 ≤ a ∧ a < 0x84000) = (0x82000 ≤ b ∧ b < 0x84000) := by rw [eq_iff_iff]; omega
  by_cases hlow : b < 0x1000000
  · simp only [windowOf, e1, e3, e4, hlow, if_true]
  · have e5 (lo hi : Nat) (hl : lo % 8 = 0) (hh : hi % 8 = 0) : (lo ≤ (a - 0x1000000) % 0x400000 ∧ (a - 0x1000000) % 0x400000 < hi) =
        (lo ≤ (b - 0x1000000) % 0x400000 ∧ (b - 0x1000000) % 0x400000 < hi) := by rw [eq_iff_iff]; omega
    have c1 := e5 0x2000 0x4000 (by decide) (by decide)
    have c2 := e5 0x4000 0x6000 (by decide) (by decide)
    have c3 := e5 0x6000 0x7000 (by decide) (by decide)
    have c4 := e5 0x7000 0x7800 (by decide) (by decide)
    have c5 := e5 0x10000 0x20000 (by decide) (by decide)
    have c6 := e5 0x20000 0x30000 (by decide) (by decide)
    simp only [windowOf, e1, e2, hlow, if_false, c1, c2, c3, c4, c5, c6]
    split_ifs <;> simp only [Option.isSome_some, Option.isSome_none]

/-- In a window, the two dwords of 8 bytes have a shadow twin both or neither. -/
theorem shadowOf_window_congr {a b : Nat} (h : a / 8 = b / 8) {w : Window} (hb : windowOf b = some w)
    (hs : shadowOf a = none) : shadowOf b = none := by
  refine shadowOf_of_window hb (fun n hn => ?_) fun hn => ?_
  · rw [hn, windowOf_eq_secShadow_iff] at hb
    have : windowOf a = some (.secShadow n) := windowOf_eq_secShadow_iff.2 (by omega)
    rw [shadowOf, this] at hs; cases hs
  · rw [hn, windowOf_eq_pdirShadow_iff] at hb
    have : windowOf a = some .pdirShadow := windowOf_eq_pdirShadow_iff.2 (by omega)
    rw [shadowOf, this] at hs; cases hs

/-- The shadow view of a page: its active twin lies in the same page, among the block registers (R66). -/
theorem shadowOf_page {a act pg : Nat} (h : shadowOf a = some (act, pg)) (hw : windowOf act = none) :
    pg = act / 0x1000 * 0x1000 ∧ 0x40 ≤ act % 0x1000 ∧ act % 0x1000 < 0x800 := by
  unfold shadowOf at h
  split at h
  next n hs =>
    obtain ⟨rfl, -⟩ := Prod.mk.inj (Option.some.inj h)
    rw [windowOf_secActive hs] at hw; cases hw
  next hs =>
    obtain ⟨rfl, -⟩ := Prod.mk.inj (Option.some.inj h)
    rw [windowOf_pdirActive hs] at hw; cases hw
  next => cases h
  next =>
    split at h
    · split_ifs at h
      obtain ⟨rfl, rfl⟩ := Prod.mk.inj (Option.some.inj h)
      omega
    · cases h

end Sys2Proof.Machine
end

section
/-! SUPPORT. Host reads of BAR0 (R47, R60, R66, R113 to R115): what a served read answers, one lemma per place it can lie, and
what a fence answers in the place of the block. -/

namespace Sys2Proof.Machine

/-! ### Past the Damper's gate -/

/-- With the gate open a throttled step is made now (R118). -/
theorem throttle_open (w : Work) (c : Instr) (f : Work → Work) (h : w.shut = false) : w.throttle c f = f w := by
  rw [Work.throttle, h]; rfl

theorem State.throttle_open (s : State) (c : Instr) (f : State → State) (h : s.dev.shut = false) : s.throttle c f = f s := by
  rw [State.throttle, Sys2Proof.Machine.work_shut, h]; rfl

/-- Two operations that agree on the device as the command sees it. -/
theorem onDev_congr {s : State} {f g : Work → Work} (h : f s.work = g s.work) : s.onDev f = s.onDev g := by
  rw [State.onDev, State.onDev, h]

/-- A BAR0 read with the gate open. -/
theorem runs_bar0Read {s : State} {addr : BitVec 25} {wide : Bool} {p : State → Prop} (h : s.dev.shut = false)
    (hp : p (s.onDev fun w => w.bar0Read (addr.toNat / 4 * 4) wide)) : Runs (.hostBar0Read addr wide) s p :=
  runs_of (t := s.onDev fun w => w.bar0Read (addr.toNat / 4 * 4) wide)
    (congrArg Host.Outcome.next (onDev_congr (throttle_open _ _ _ h))) hp

/-! ### What a served read returns -/

theorem readWord_shadow {w : Work} {a act pg : Nat} (h : shadowOf a = some (act, pg)) : w.readWord a = (w, w.shWord act &&& rwsMask act) := by
  rw [Work.readWord, h]; rfl

theorem readWord_window {w : Work} {a : Nat} (h : shadowOf a = none) {x : Window} (hw : windowOf a = some x) :
    w.readWord a = (w, w.word a) := by
  rw [Work.readWord, h, pageOf_of_window hw]

/-- A block register of the package page: no read acts on one, and none is derived. -/
theorem readWord_pkg {w : Work} {a : Nat} (hp : pageOf a = some (.pkg, 0)) (h1 : 0x40 ≤ a % 0x1000) (h2 : a % 0x1000 < 0x800) :
    w.readWord a = (w, w.word a &&& ~~~maskAt .pkg (a % 0x1000) .wo) := by
  have hin : inHeader a = false := by
    rw [inHeader, hp, decide_eq_false (show ¬ a % 0x1000 < 0x40 by omega), decide_eq_false (show ¬ 0x800 ≤ a % 0x1000 by omega)]; rfl
  rw [Work.readWord, shadowOf_of_page hp (by omega), hp]
  dsimp only
  rw [hin, if_neg Bool.false_ne_true, if_neg (by omega), if_neg (by omega),
    if_neg (by rw [show HDR_CLAIM_HELD.off = 0x20 from rfl]; omega), show w.readActs .pkg 0 (a % 0x1000) = none from rfl]
  dsimp only
  rw [show w.readDerived .pkg 0 (a / 0x1000 * 0x1000) (a % 0x1000) = w.word (a / 0x1000 * 0x1000 + a % 0x1000) from rfl,
    page_add_offset]

/-- STAT, of the header or of its mirror (R55, R60). -/
theorem readWord_stat {w : Work} {a : Nat} {q : PageKind × Nat} (hp : pageOf a = some q) (ho : a % 0x800 = 0xC) :
    w.readWord a = (w, w.readStat a) := by
  have hin : inHeader a = true := by
    have : a % 0x1000 = 0xC ∨ a % 0x1000 = 0x80C := by omega
    rcases this with h | h <;> rw [inHeader, hp, h] <;> rfl
  rw [Work.readWord, shadowOf_of_page hp (by omega), hp]
  dsimp only
  rw [hin, if_pos rfl, if_pos ho]

/-- A read of one dword that changes nothing. -/
theorem runs_bar0Read_dword {s : State} {addr : BitVec 25} {v : Word} (h : s.dev.shut = false) (hm : mapped (addr.toNat / 4 * 4) = true)
    (hg : s.fenceAt (addr.toNat / 4 * 4) false = none) (hr : s.work.readWord (addr.toNat / 4 * 4) = (s.work, v)) :
    Runs (.hostBar0Read addr false) s fun t => LastOut (.hostRead [v] false) s t ∧ Changes [.out] [] s t := by
  have e : s.work.bar0Read (addr.toNat / 4 * 4) false = s.work.emit (.hostRead [v] false) := by
    have hg : s.work.gate (addr.toNat / 4 * 4) false = none := hg
    simp only [Work.bar0Read, Bool.false_eq_true, if_false, List.headD_cons, hm, hg, Bool.not_true, List.foldl_cons, List.foldl_nil,
      hr, List.nil_append]
  refine runs_bar0Read h ?_
  rw [onDev_congr (g := fun w => w.emit (.hostRead [v] false)) e]
  exact ⟨rfl, (Work.Alters.refl.emit (by simp)).changes⟩

/-- A read of two dwords that changes nothing. -/
theorem runs_bar0Read_wide {s : State} {addr : BitVec 25} {v x : Word} (h : s.dev.shut = false) (hm : mapped (addr.toNat / 8 * 8) = true)
    (hg : s.fenceAt (addr.toNat / 8 * 8) false = none) (hr : s.work.readWord (addr.toNat / 8 * 8) = (s.work, v))
    (hr' : s.work.readWord (addr.toNat / 8 * 8 + 4) = (s.work, x)) :
    Runs (.hostBar0Read addr true) s fun t => LastOut (.hostRead [v, x] false) s t ∧ Changes [.out] [] s t := by
  have ha : addr.toNat / 4 * 4 / 8 * 8 = addr.toNat / 8 * 8 := by omega
  have e : s.work.bar0Read (addr.toNat / 4 * 4) true = s.work.emit (.hostRead [v, x] false) := by
    have hg : s.work.gate (addr.toNat / 8 * 8) false = none := hg
    simp only [Work.bar0Read, if_true, List.headD_cons, ha, hm, hg, Bool.not_true, Bool.false_eq_true, if_false, List.foldl_cons,
      List.foldl_nil, hr, hr', List.nil_append, List.cons_append]
  refine runs_bar0Read h ?_
  rw [onDev_congr (g := fun w => w.emit (.hostRead [v, x] false)) e]
  exact ⟨rfl, (Work.Alters.refl.emit (by simp)).changes⟩

/-! ### STAT as it reads -/

/-- A flag of STAT is the OR of the stored one and of the block's state. -/
def overlay (f : Field) (b : Bool) (v : Word) : Word := if b then f.set v 1 else v

theorem getLsbD_overlay (f : Field) (b : Bool) (v : Word) (j : Nat) (hw : f.wid = 1) (hj : j < 32) :
    (overlay f b v).getLsbD j = (v.getLsbD j || (b && decide (j = f.lo))) := by
  cases b
  · simp [overlay]
  · rw [overlay, if_pos rfl, Field.getLsbD_set, hw]
    by_cases h : j = f.lo
    · subst h; simp [hj]
    · rw [if_neg (by omega)]
      simp [hj, h]

/-- The W1C flags of STAT lie below the flags that the block's state gives. -/
theorem overlay_low (f : Field) (b : Bool) (v : Word) (hw : f.wid = 1) (hf : 4 ≤ f.lo) : overlay f b v &&& 0xF = v &&& 0xF := by
  apply BitVec.eq_of_getLsbD_eq
  intro j hj
  rw [BitVec.getLsbD_and, BitVec.getLsbD_and, getLsbD_overlay _ _ _ _ hw hj]
  by_cases h : j = f.lo
  · have : (0xF#32).getLsbD j = false := by
      rw [BitVec.getLsbD_ofNat, show (15 : Nat) = 2 ^ 4 - 1 from rfl, Nat.testBit_two_pow_sub_one]
      simp [show ¬ j < 4 by omega]
    simp [this]
  · simp [h]

/-- STAT of a page of region `n` (R60, R112, R515). -/
theorem readStat_region (w : Work) (a : Nat) (h : 0x1000000 ≤ a) :
    w.readStat a = overlay HDR_STAT_UNUSABLE (w.marked ((a - 0x1000000) / 0x400000))
      (overlay HDR_STAT_BUSY (w.bistRun ((a - 0x1000000) / 0x400000) || w.marked ((a - 0x1000000) / 0x400000))
        (overlay HDR_STAT_RESETTING (bitOf w.kin.resets ((a - 0x1000000) / 0x400000)) (w.word (a / 0x1000 * 0x1000 + 0xC)))) := by
  rw [Work.readStat]
  exact if_pos h

/-! ### What a fence answers -/

/-- The counter of the answers a fence gives (R116), and its flag of FAB_ERR (R115). -/
def fenceCounter (busy : Bool) : Field := if busy then PKG_BUSY_COUNT else PKG_WDRN_COUNT
def fenceFlag (busy : Bool) : Field := if busy then HOST_FAB_ERR_BUSY else HOST_FAB_ERR_WITHDRAWN

/-- An access is recorded in FAB_ERR (R115). -/
def Work.fabRecord (w : Work) (fence : Nat) (busy write : Bool) (off : Nat) : Work :=
  (((w.wr pgHOST HOST_FAB_ERR_WRITE (b2n write)).wr pgHOST HOST_FAB_ERR_FENCE fence).wr pgHOST HOST_FAB_ERR_OFFSET off).wr pgHOST
    (fenceFlag busy) 1

theorem fabErr_ne_fenceCounter (busy : Bool) : pgHOST + HOST_FAB_ERR_BUSY.at 0 ≠ pgPKG + (fenceCounter busy).at 0 := by
  cases busy <;> decide

theorem fenceFlag_at (busy : Bool) : (fenceFlag busy).at 0 = HOST_FAB_ERR_BUSY.at 0 := by cases busy <;> decide

theorem fenceFlag_high (busy : Bool) : 30 ≤ (fenceFlag busy).lo := by cases busy <;> decide

/-- FAB_ERR takes the first access since both its flags were clear. -/
theorem fabErr_eq (w : Work) (f off : Nat) (busy write : Bool) : w.fabErr f busy write off =
    if w.on pgHOST HOST_FAB_ERR_BUSY || w.on pgHOST HOST_FAB_ERR_WITHDRAWN then w.count pgPKG (fenceCounter busy)
    else (w.count pgPKG (fenceCounter busy)).fabRecord f busy write off := by
  have hb : (w.count pgPKG (fenceCounter busy)).on pgHOST HOST_FAB_ERR_BUSY = w.on pgHOST HOST_FAB_ERR_BUSY := by
    rw [Work.on, Work.on, Work.count, rd_wr_ne _ _ _ _ _ _ _ _ (fabErr_ne_fenceCounter busy)]
  have hw : (w.count pgPKG (fenceCounter busy)).on pgHOST HOST_FAB_ERR_WITHDRAWN = w.on pgHOST HOST_FAB_ERR_WITHDRAWN := by
    rw [Work.on, Work.on, Work.count,
      rd_wr_ne _ _ _ _ _ _ HOST_FAB_ERR_WITHDRAWN _ (by exact fabErr_ne_fenceCounter busy)]
  rw [← hb, ← hw]
  rfl

theorem fabRecord_alters (w : Work) (f off : Nat) (busy write : Bool) :
    w.Alters [] [pgHOST + HOST_FAB_ERR_BUSY.at 0] (w.fabRecord f busy write off) :=
  (((Work.Alters.refl.wr (by simp; decide)).wr (by simp; decide)).wr (by simp; decide)).wr (by simp [fenceFlag_at])

theorem fabErr_alters (w : Work) (f off : Nat) (busy write : Bool) :
    w.Alters [] [pgPKG + (fenceCounter busy).at 0, pgHOST + HOST_FAB_ERR_BUSY.at 0] (w.fabErr f busy write off) := by
  rw [fabErr_eq]
  split
  · exact Work.Alters.refl.count (by simp)
  · exact (Work.Alters.refl.count (by simp)).trans ((fabRecord_alters ..).mono (by simp) (by simp))

/-- Every fence answer is counted (R116). -/
theorem rd_fenceCounter_fabErr (w : Work) (f off : Nat) (busy write : Bool) : (w.fabErr f busy write off).rd pgPKG (fenceCounter busy) =
    min (w.rd pgPKG (fenceCounter busy) + 1) (fenceCounter busy).max := by
  have hc := rd_count w pgPKG (fenceCounter busy) 1 0 (by cases busy <;> decide)
  rw [fabErr_eq]
  split
  · exact hc
  · rw [rd_congr ((fabRecord_alters ..).words _ (by simpa using (fabErr_ne_fenceCounter busy).symm)), hc]

theorem fabRecord_fields (w : Work) (f off : Nat) (busy write : Bool) :
    (w.fabRecord f busy write off).rd pgHOST HOST_FAB_ERR_OFFSET = off % 2 ^ 25 ∧
    (w.fabRecord f busy write off).rd pgHOST HOST_FAB_ERR_WRITE = b2n write ∧
    (w.fabRecord f busy write off).rd pgHOST HOST_FAB_ERR_FENCE = f % 16 ∧
    (w.fabRecord f busy write off).rd pgHOST (fenceFlag busy) = 1 := by
  have hflag (g : Field) (hg : g.lo + g.wid ≤ 30) : (fenceFlag busy).lo + (fenceFlag busy).wid ≤ g.lo ∨ g.lo + g.wid ≤ (fenceFlag busy).lo :=
    .inr (hg.trans (fenceFlag_high busy))
  unfold Work.fabRecord
  refine ⟨?_, ?_, ?_, ?_⟩
  · rw [rd_wr_disj _ _ _ _ _ _ _ _ (hflag _ (by decide)), rd_wr_same _ _ _ _ _ (by decide)]; rfl
  · rw [rd_wr_disj _ _ _ _ _ _ _ _ (hflag _ (by decide)), rd_wr_disj _ _ _ _ _ _ _ _ (by decide),
      rd_wr_disj _ _ _ _ _ _ _ _ (by decide), rd_wr_same _ _ _ _ _ (by decide)]
    cases write <;> rfl
  · rw [rd_wr_disj _ _ _ _ _ _ _ _ (hflag _ (by decide)), rd_wr_disj _ _ _ _ _ _ _ _ (by decide), rd_wr_same _ _ _ _ _ (by decide)]
    rfl
  · rw [rd_wr_same _ _ _ _ _ (by cases busy <;> decide)]
    cases busy <;> rfl

/-- A command that does what `fabErr` does, and beside that writes only the kinds `ks`, ends as a fence answers it. -/
theorem fenceAnswered_of {s : State} {g : Work → Work} {ks : List Kind} {f off : Nat} {busy write : Bool}
    (h : (s.work.fabErr f busy write off).Alters ks [] (g s.work)) : FenceAnswered f busy write off ks s (s.onDev g) := by
  have hrd (pg : Nat) (x : Field) : (s.onDev g).rd pg x = (s.work.fabErr f busy write off).rd pg x :=
    rd_congr (h.words _ List.not_mem_nil)
  refine ⟨(hrd _ _).trans (rd_fenceCounter_fabErr ..), fun hb hw => ?_, fun hon => ?_, ?_⟩
  · rw [← State.on_work] at hb hw
    rw [hrd, hrd, hrd, hrd, fabErr_eq, if_neg (by simp [hb, hw])]
    exact fabRecord_fields ..
  · rw [← State.on_work, ← State.on_work, ← Bool.or_eq_true] at hon
    refine (h.words _ List.not_mem_nil).trans ?_
    rw [fabErr_eq, if_pos hon]
    exact word_count_ne _ _ _ _ _ _ (fabErr_ne_fenceCounter busy)
  · exact (((fabErr_alters ..).mono (by simp) (List.Subset.refl _)).trans (h.mono (List.Subset.refl _) (by simp))).changes

/-- A BAR0 read of one dword that a fence answers (R113, R114). -/
theorem runs_bar0Read_fenced {s : State} {addr : BitVec 25} {f : Nat} {busy : Bool} (h : s.dev.shut = false)
    (hm : mapped (addr.toNat / 4 * 4) = true) (hg : s.fenceAt (addr.toNat / 4 * 4) false = some (f, busy)) :
    Runs (.hostBar0Read addr false) s fun t =>
      LastOut (.hostRead [0] true) s t ∧ FenceAnswered f busy false (addr.toNat / 4 * 4) [.out] s t := by
  have e : s.work.bar0Read (addr.toNat / 4 * 4) false =
      (s.work.fabErr f busy false (addr.toNat / 4 * 4)).emit (.hostRead [0] true) := by
    have hg : s.work.gate (addr.toNat / 4 * 4) false = some (f, busy) := hg
    simp only [Work.bar0Read, Bool.false_eq_true, if_false, List.headD_cons, hm, hg, Bool.not_true, List.map_cons, List.map_nil]
  refine runs_bar0Read h ?_
  rw [onDev_congr (g := fun w => (w.fabErr f busy false (addr.toNat / 4 * 4)).emit (.hostRead [0] true)) e]
  refine ⟨?_, fenceAnswered_of (Work.Alters.refl.emit (by simp))⟩
  have hout : (s.work.fabErr f busy false (addr.toNat / 4 * 4)).out = s.dev.out := (fabErr_alters ..).kinds .out (by simp)
  rw [LastOut, ← hout]
  rfl

end Sys2Proof.Machine
end

section
/-! PROOF. Settles O17: what a host read of BAR0 answers. -/

namespace Sys2Proof.Machine

/-- Settles O17: each place of BAR0 has its read lemma, and a fence answers in the place of the block. -/
theorem bar0ReadAnswers : Obligations.Bar0ReadAnswers := by
  unfold Obligations.Bar0ReadAnswers
  intro s addr hs
  have hlt : addr.toNat / 4 * 4 / 0x1000 = addr.toNat / 0x1000 := by omega
  refine ⟨fun hp hg h1 h2 => ?_, fun act pg hsh hg => ?_, fun hw hsh hg => ?_, fun n hp h1 h2 ho hg => ?_, fun f busy hg hm => ?_⟩
  · -- a block register of the package page
    rw [← pageOf_dword] at hp
    have hr := readWord_pkg (w := s.work) hp (by omega) (by omega)
    rw [show addr.toNat / 4 * 4 % 0x1000 = addr.toNat / 4 * 4 by omega] at hr
    exact runs_bar0Read_dword hs (mapped_of_page hp) hg hr
  · exact runs_bar0Read_dword hs (mapped_of_shadow hsh) hg (readWord_shadow hsh)
  · -- two dwords of a window
    have h0 : addr.toNat / 8 * 8 / 8 = addr.toNat / 8 := by omega
    have h4 : (addr.toNat / 8 * 8 + 4) / 8 = addr.toNat / 8 := by omega
    obtain ⟨x, hx⟩ := Option.isSome_iff_exists.1 ((windowOf_isSome_congr h0).trans hw)
    obtain ⟨y, hy⟩ := Option.isSome_iff_exists.1 ((windowOf_isSome_congr h4).trans hw)
    have hsh' := shadowOf_window_congr (h0.trans h4.symm) hy hsh
    exact runs_bar0Read_wide hs (mapped_of_window hx) hg (readWord_window hsh hx) (readWord_window hsh' hy)
  · -- STAT of a region's page
    obtain ⟨q, hq⟩ := Option.isSome_iff_exists.1 hp
    have ha : addr.toNat / 4 * 4 = addr.toNat := by omega
    have hr := readWord_stat (w := s.work) hq ho
    rw [readStat_region _ _ (by omega), show (addr.toNat - 0x1000000) / 0x400000 = n by omega] at hr
    rw [← ha] at hq hg hr
    obtain ⟨t, ht, hout, hch⟩ := runs_bar0Read_dword hs (mapped_of_page hq) hg hr
    rw [ha] at hout
    refine ⟨t, ht, _, hout, hch, ?_, fun h => ?_, fun h => ?_, fun h => ?_⟩
    · rw [overlay_low _ _ _ rfl (by decide), overlay_low _ _ _ rfl (by decide), overlay_low _ _ _ rfl (by decide)]
      rfl
    all_goals
      rw [getLsbD_overlay _ _ _ _ rfl (by decide), getLsbD_overlay _ _ _ _ rfl (by decide), getLsbD_overlay _ _ _ _ rfl (by decide)]
    · rw [show bitOf s.work.kin.resets n = true from (bitOf_eq ..).trans h]; simp [HDR_STAT_RESETTING]
    · rw [show s.work.marked n = true from (bitOf_eq ..).trans h]; simp [HDR_STAT_UNUSABLE]
    · have hbusy : (s.work.bistRun n || s.work.marked n) = true := by
        rw [Work.bistRun, Work.marked, bitOf_eq, bitOf_eq, Bool.or_eq_true]
        exact h.symm
      rw [hbusy]; simp [HDR_STAT_BUSY]
  · exact runs_bar0Read_fenced hs hm hg

end Sys2Proof.Machine
end

section
/-! SUPPORT. The field tables: which element of a field an offset names, and which offsets hold no field of an access code. -/

namespace Sys2Proof.Machine

/-- An array field begins at its own offset. -/
theorem Field.index?_off (f : Field) : f.index? f.off = some 0 := by
  unfold Field.index?
  split
  · exact if_pos rfl
  next h =>
    rw [if_pos ⟨le_refl _, by simp, by simp; omega⟩]
    simp

theorem Field.ne_off_of_index? {f : Field} {o : Nat} (h : f.index? o = none) : o ≠ f.off := by
  rintro rfl
  rw [f.index?_off] at h
  cases h

/-- A field lies at or above its offset. -/
theorem Field.off_le_of_index? {f : Field} {o i : Nat} (h : f.index? o = some i) : f.off ≤ o := by
  unfold Field.index? at h
  split_ifs at h <;> omega

/-- The element that an offset names lies there. -/
theorem Field.at_of_index? {f : Field} {o i : Nat} (h : f.index? o = some i) (ho : o < 0x1000) : f.at i = o := by
  unfold Field.index? at h
  unfold Field.at
  split_ifs at h with h1 h2 h3
  · cases h
    rw [Nat.zero_mod, Nat.zero_mul, h2]
    omega
  · obtain ⟨hle, hmod, hlt⟩ := h3
    cases h
    rw [Nat.mod_eq_of_lt hlt, Nat.div_mul_cancel (Nat.dvd_of_mod_eq_zero hmod)]
    omega

theorem mem_fieldsAt {k : PageKind} {o : Nat} {e : Field × Nat} :
    e ∈ fieldsAt k o ↔ e.1 ∈ (if o < 0x40 then hdrFields else blockFields k) ∧ e.1.index? o = some e.2 := by
  rw [fieldsAt, List.mem_filterMap]
  constructor
  · rintro ⟨f, hf, he⟩
    obtain ⟨i, hi, rfl⟩ := Option.map_eq_some_iff.1 he
    exact ⟨hf, hi⟩
  · rintro ⟨hf, hi⟩
    exact ⟨e.1, hf, by rw [hi]; rfl⟩

theorem mem_accAt {k : PageKind} {o : Nat} {acc : Acc} {e : Field × Nat} : e ∈ accAt k o acc ↔ e ∈ fieldsAt k o ∧ e.1.acc = acc := by
  rw [accAt, List.mem_filter, beq_iff_eq]

theorem at_of_mem_accAt {k : PageKind} {o : Nat} {acc : Acc} {e : Field × Nat} (h : e ∈ accAt k o acc) (ho : o < 0x1000) :
    e.1.at e.2 = o := Field.at_of_index? (mem_fieldsAt.1 (mem_accAt.1 h).1).2 ho

/-- The block registers lie above the header (R55). -/
theorem blockFields_above (k : PageKind) : ∀ f ∈ blockFields k, 0x40 ≤ f.off := by cases k <;> decide +kernel

/-- Every field fits its dword. -/
theorem blockFields_fit (k : PageKind) : ∀ f ∈ blockFields k, f.lo + f.wid ≤ 32 := by cases k <;> decide +kernel

/-- The page has no block register of access code `acc` at offset `o`. -/
def NoField (k : PageKind) (o : Nat) (acc : Acc) : Prop := ∀ f ∈ blockFields k, f.acc = acc → f.index? o = none

theorem NoField.ne_off {k : PageKind} {o : Nat} {acc : Acc} (h : NoField k o acc) {f : Field} (hf : f ∈ blockFields k ∧ f.acc = acc) :
    o ≠ f.off := Field.ne_off_of_index? (h f hf.1 hf.2)

theorem noField_header (k : PageKind) {o : Nat} (acc : Acc) (ho : o < 0x40) : NoField k o acc := by
  intro f hf _
  cases hi : f.index? o with
  | none => rfl
  | some i =>
    have := blockFields_above k f hf
    have := Field.off_le_of_index? hi
    omega

theorem noField_of_fieldsAt {k : PageKind} {o : Nat} {acc : Acc} (ho : 0x40 ≤ o) (h : ∀ e ∈ fieldsAt k o, e.1.acc ≠ acc) :
    NoField k o acc := by
  intro f hf ha
  cases hi : f.index? o with
  | none => rfl
  | some i => exact absurd ha (h (f, i) (mem_fieldsAt.2 ⟨by rwa [if_neg (by omega)], hi⟩))

theorem accAt_of_noField {k : PageKind} {o : Nat} {acc : Acc} (h : NoField k o acc)
    (hh : o < 0x40 → ∀ f ∈ hdrFields, f.acc ≠ acc) : accAt k o acc = [] := by
  refine List.eq_nil_iff_forall_not_mem.2 fun e he => ?_
  obtain ⟨hm, ha⟩ := mem_accAt.1 he
  obtain ⟨hf, hi⟩ := mem_fieldsAt.1 hm
  split_ifs at hf with ho
  · exact hh ho _ hf ha
  · rw [h _ hf ha] at hi; cases hi

end Sys2Proof.Machine
end

section
/-! SUPPORT. Host writes of BAR0 (R47, R55, R60 to R67): the way of a write to its page, and what a write of a dword does where the
page gives none of its registers a behaviour of its own. -/

namespace Sys2Proof.Machine

/-! ### The way of a write -/

theorem runs_registerWrite {s : State} {addr : BitVec 25} {v : Word} {p : State → Prop} (h : s.dev.shut = false)
    (hp : p (s.hostWrite (addr.toNat / 4 * 4) v)) : Runs (.registerWrite addr 0xF v) s p := by
  refine runs_of (t := s.hostWrite (addr.toNat / 4 * 4) v) ?_ hp
  have hw : s.registerWrite (addr.toNat / 4 * 4) (0xF#4).toNat v = s.hostWrite (addr.toNat / 4 * 4) v := if_pos rfl
  show execRegisterWrite addr 0xF v s = _
  simp only [execRegisterWrite]
  rw [State.throttle_open _ _ _ h, ite_self]
  exact congrArg Host.Outcome.next hw

theorem runs_injArm {s : State} {page : BitVec 13} {chk : BitVec 4} {bit : BitVec 8} {p : State → Prop} (h : s.dev.shut = false)
    (hp : p (s.hostWrite (page.toNat * 0x1000 + 0x18) (w32 (0x1000 + bit.toNat * 16 + chk.toNat)))) :
    Runs (.injArm page chk bit) s p :=
  runs_of (congrArg Host.Outcome.next (State.throttle_open s _ _ h)) hp

theorem runs_pageLock {s : State} {page : BitVec 13} {key : BitVec 16} {p : State → Prop} (h : s.dev.shut = false)
    (hp : p (s.hostWrite (page.toNat * 0x1000 + 0x1C) (w32 (key.toNat * 2 ^ 16)))) : Runs (.pageLock page key) s p :=
  runs_of (congrArg Host.Outcome.next (State.throttle_open s _ _ h)) hp

section
variable {s : State} {a : Nat} (x : Word) (hg : s.fenceAt a true = none)
include hg

theorem hostWrite_shadow {act pg : Nat} (h : shadowOf a = some (act, pg)) :
    s.hostWrite a x = s.onDev fun w => (w.shadowWrite act pg x).1 := by
  have hg : s.work.gate a true = none := hg
  rw [State.hostWrite, mapped_of_shadow h, hg, h]
  rfl

theorem hostWrite_window {w : Window} (hw : windowOf a = some w) (h : shadowOf a = none) : s.hostWrite a x = s.hostStore a x := by
  have hg : s.work.gate a true = none := hg
  rw [State.hostWrite, mapped_of_window hw, hg, h, pageOf_of_window hw]
  rfl

theorem hostWrite_page {k : PageKind} {i : Nat} (hp : pageOf a = some (k, i)) (ho : a % 0x1000 < 0x800) :
    s.hostWrite a x = s.pageWrite k i a x := by
  have hg : s.work.gate a true = none := hg
  rw [State.hostWrite, mapped_of_page hp, hg, shadowOf_of_page hp (by omega), hp]
  dsimp only
  rw [decide_eq_false (show ¬ 0x800 ≤ a % 0x1000 by omega), Bool.and_false]
  rfl

/-- The mirror of a page's header ignores writes (R55). -/
theorem hostWrite_mirror {q : PageKind × Nat} (hp : pageOf a = some q) (h1 : 0x800 ≤ a % 0x1000) (h2 : a % 0x1000 < 0x840) :
    s.hostWrite a x = s := by
  have hg : s.work.gate a true = none := hg
  have hin : inHeader a = true := by
    rw [inHeader, hp, decide_eq_true h1, decide_eq_true h2, Bool.and_self, Bool.or_true]; rfl
  rw [State.hostWrite, mapped_of_page hp, hg, shadowOf_of_page hp h2, hp]
  dsimp only
  rw [hin, decide_eq_true h1]
  rfl
end

/-! ### Registers without a behaviour of their own -/

theorem each_nil {α : Type} (w : Work) (f : Work → α → Work) : w.each [] f = w := rfl

/-- RW fields are stored where none of the page's special registers is meant. -/
theorem rwWrite_plain (w : Work) {k : PageKind} {o : Nat} (inst pg : Nat) (x : Word) (h : NoField k o .rw) (h4 : o % 4 = 0) :
    w.rwWrite k inst pg o x = w.storeFields k inst pg (accAt k o .rw) x := by
  cases k
  case tally =>
    simp only [Work.rwWrite]
    rw [h TALLY_CAP_CTL_EN (by decide +kernel) rfl, h TALLY_TO_CTL_EN (by decide +kernel) rfl, h TALLY_TO_S (by decide +kernel) rfl,
      h TALLY_TO_NS (by decide +kernel) rfl]
    rfl
  case recorder => exact if_neg (h.ne_off (f := REC_RCTL_EN) (by decide +kernel))
  case pkg => exact if_neg (h.ne_off (f := PKG_FRZ_CTL) (by decide +kernel))
  case wc => exact if_neg fun hc => h.ne_off (f := WC_WMODE) (by decide +kernel) hc.1
  case hrt => exact if_neg (h.ne_off (f := HRT_PLEA_LEVEL) (by decide +kernel))
  case sec =>
    have h1 := h SEC_RGNT_EN (by decide +kernel) rfl
    have h2 := h SEC_RGNT_EXP (by decide +kernel) rfl
    have hr : ¬ (0x80 ≤ o ∧ o < 0xA0) := fun ⟨hlo, hhi⟩ => by
      have h8 : o % 8 = 0 ∨ o % 8 = 4 := by omega
      rcases h8 with h8 | h8
      · rw [Field.index?, if_neg (by decide), if_pos (by simp only [SEC_RGNT_EN]; omega)] at h1; cases h1
      · rw [Field.index?, if_neg (by decide), if_pos (by simp only [SEC_RGNT_EXP]; omega)] at h2; cases h2
    simp only [Work.rwWrite]
    rw [decide_eq_false hr, Bool.and_false]
    rfl
  all_goals rfl

theorem storeFields_nil (w : Work) (k : PageKind) (inst pg : Nat) (x : Word) : w.storeFields k inst pg [] x = w := rfl

theorem liveWrite_none (w : Work) {k : PageKind} {o : Nat} (inst pg : Nat) (x : Word) (h : NoField k o .live) :
    w.liveWrite k inst pg o x = w := by
  have hl : accAt k o .live = [] := accAt_of_noField h fun _ => by decide
  cases k
  case sp =>
    simp only [Work.liveWrite, hl, storeFields_nil]
    rw [h SP_LP_LMODE (by decide +kernel) rfl, h SP_LP_LMAN (by decide +kernel) rfl]
  all_goals simp only [Work.liveWrite, hl, storeFields_nil]

/-- A command's register is not the one at `o`. -/
theorem when_ne_off {w : Work} {k : PageKind} {o : Nat} {acc : Acc} (h : NoField k o acc) (f : Field) (hf : f ∈ blockFields k ∧ f.acc = acc)
    (b : Bool) (g : Work → Work) : w.when (o == f.off && b) g = w := by
  rw [beq_eq_false_iff_ne.2 (h.ne_off hf)]
  rfl

theorem slcmd_index?_at (l : Fin 12) : SL_SLCMD_RETRAIN.index? (SL_SLCMD_RETRAIN.at l.val) ≠ none := by revert l; decide

/-- Registers without a WO field take no command. -/
theorem woWrite_none (w : Work) {k : PageKind} {o : Nat} (inst pg : Nat) (x : Word) (h : NoField k o .wo) :
    w.woWrite k inst pg o x = w := by
  cases k <;> simp only [Work.woWrite]
  case pkg => rw [if_neg (h.ne_off (f := PKG_SWAP_ARM) (by decide +kernel)), when_ne_off h _ (by decide +kernel)]
  case hrt => rw [if_neg (h.ne_off (f := HRT_REL_GO) (by decide +kernel)), when_ne_off h _ (by decide +kernel)]
  case ad =>
    rw [if_neg (h.ne_off (f := AD_NCMD_GO) (by decide +kernel)), if_neg (h.ne_off (f := AD_UCMD_GO) (by decide +kernel)),
      when_ne_off h _ (by decide +kernel)]
  case wc => exact when_ne_off h _ (by decide +kernel) _ _
  case twin => exact if_neg (h.ne_off (f := TWIN_TCMD_TAKE) (by decide +kernel))
  case sysn =>
    rw [if_neg (h.ne_off (f := SYSN_TRIP_CMD_SET) (by decide +kernel)), if_neg (h.ne_off (f := SYSN_SCMD_PLAN_GO) (by decide +kernel))]
    have hnil : (List.finRange 12).filter (fun l => o == SL_SLCMD_RETRAIN.at l.val) = [] := by
      refine List.filter_eq_nil_iff.2 fun l _ hl => ?_
      have hi := h SL_SLCMD_RETRAIN (by decide +kernel) rfl
      rw [beq_iff_eq.1 hl] at hi
      exact slcmd_index?_at l hi
    rw [hnil]
    rfl
  case eq => rw [if_neg (h.ne_off (f := EQ_QCMD_NEXT) (by decide +kernel)), if_neg (h.ne_off (f := EQ_POST) (by decide +kernel))]
  case recorder => exact if_neg (h.ne_off (f := REC_RCTL_TRIG) (by decide +kernel))
  case therm => exact when_ne_off h _ (by decide +kernel) _ _
  case bist => rw [if_neg (h.ne_off (f := BIST_BCTL_GO) (by decide +kernel)), if_neg (h.ne_off (f := BIST_UMARK_KEY) (by decide +kernel))]
  case cstore => exact when_ne_off h _ (by decide +kernel) _ _
  case sec => rw [if_neg (h.ne_off (f := SEC_SCTL_KEY) (by decide +kernel)), h SEC_KEYW (by decide +kernel) rfl]; rfl
  case abc => exact when_ne_off h _ (by decide +kernel) _ _
  case sp => rw [h SP_CH_CTL_FB_SET (by decide +kernel) rfl]
  case clu => rw [if_neg (h.ne_off (f := CLU_CMD) (by decide +kernel)), when_ne_off h _ (by decide +kernel)]
  case clane => exact if_neg (h.ne_off (f := CLANE_CMD_RETRAIN) (by decide +kernel))
  case unit => exact when_ne_off h _ (by decide +kernel) _ _

/-- A write of a register without a behaviour of its own: the lock refuses its RW fields, and its W1C and CNT fields clear. -/
theorem activeWrite_plain (w : Work) {k : PageKind} {o : Nat} (inst pg : Nat) (x : Word) (hrw : NoField k o .rw)
    (hlive : NoField k o .live) (h4 : o % 4 = 0) (h18 : o ≠ 0x18) :
    w.activeWrite k inst pg o x = (if w.lockHolds k pg o then w.wr pg HDR_STAT_LOCK_WR 1
      else w.storeFields k inst pg (accAt k o .rw) x).clearWrite k inst pg o x := by
  rw [Work.activeWrite, if_neg fun h => h18 h.1]
  dsimp only
  rw [if_neg fun h => h18 h.2, rwWrite_plain _ _ _ _ hrw h4, liveWrite_none _ _ _ _ hlive]

theorem hostStore_plain (s : State) {a : Nat} {k : PageKind} {i : Nat} (x : Word) (hp : pageOf a = some (k, i))
    (hrw : NoField k (a % 0x1000) .rw) (he : k = .emb → a % 0x1000 < 0x40) :
    s.hostStore a x = s.onDev fun w => w.activeWrite k i (a / 0x1000 * 0x1000) (a % 0x1000) x := by
  rw [State.hostStore, windowOf_of_page hp, hp]
  cases k
  case tally =>
    exact (if_neg (hrw.ne_off (f := TALLY_INC_FRAC) (by decide +kernel))).trans
      (if_neg (hrw.ne_off (f := TALLY_INC_NS) (by decide +kernel)))
  case spll => exact if_neg (hrw.ne_off (f := SPLL_NOFS) (by decide +kernel))
  case rg => exact if_neg (hrw.ne_off (f := RG_CYC_CTL) (by decide +kernel))
  case emb => exact if_neg (Nat.not_le.2 (he rfl))
  all_goals rfl

theorem onDev_id (s : State) : (s.onDev fun w => w) = s := rfl

/-- A write of a page's register that commands nothing. -/
theorem pageWrite_plain (s : State) {a : Nat} {k : PageKind} {i : Nat} (x : Word) (hp : pageOf a = some (k, i))
    (hrw : NoField k (a % 0x1000) .rw) (hwo : NoField k (a % 0x1000) .wo) (he : k = .emb → a % 0x1000 < 0x40)
    (h18 : a % 0x1000 ≠ 0x18) (h1C : a % 0x1000 ≠ 0x1C) :
    s.pageWrite k i a x = s.onDev fun w => w.activeWrite k i (a / 0x1000 * 0x1000) (a % 0x1000) x := by
  rw [State.pageWrite]
  dsimp only
  rw [if_neg (show a % 0x1000 ≠ HDR_LOCK_KEY.off from h1C), if_neg (show a % 0x1000 ≠ HDR_INJ_ARM.off from h18),
    hostStore_plain _ _ hp hrw he, if_neg, if_neg]
  · rw [funext fun w => woWrite_none w i _ x hwo]
    exact onDev_id _
  · rintro ⟨rfl, ho, -⟩
    exact hwo.ne_off (f := TALLY_STEP_CTL_GO) (by decide +kernel) ho
  · rintro ⟨rfl, ho⟩
    exact hwo.ne_off (f := PKG_RST_CTL_KEY) (by decide +kernel) ho

/-! ### Stored fields -/

/-- A stored field takes its bits from the dword written. -/
theorem Field.getLsbD_merge (f : Field) (d x : Word) (j : Nat) :
    (f.merge d x).getLsbD j = if f.mask.getLsbD j then x.getLsbD j else d.getLsbD j := by
  rw [Field.merge, BitVec.getLsbD_or, BitVec.getLsbD_and, BitVec.getLsbD_and, BitVec.getLsbD_not]
  by_cases hj : j < 32
  · cases f.mask.getLsbD j <;> simp [hj]
  · simp [hj, BitVec.getLsbD_of_ge _ _ (Nat.le_of_not_lt hj)]

/-- Two dwords that agree on a field's bits. -/
theorem Field.get_congr (f : Field) {d e : Word} (h : ∀ j, f.lo ≤ j → j < f.lo + f.wid → d.getLsbD j = e.getLsbD j) : f.get d = f.get e := by
  apply Nat.eq_of_testBit_eq
  intro k
  rw [Field.testBit_get, Field.testBit_get]
  by_cases hk : k < f.wid
  · rw [h (f.lo + k) (by omega) (by omega)]
  · simp [hk]

theorem Field.mask_of_mem (f : Field) (j : Nat) (h1 : f.lo ≤ j) (h2 : j < f.lo + f.wid) (h3 : f.lo + f.wid ≤ 32) :
    f.mask.getLsbD j = true := by
  rw [Field.getLsbD_mask]
  simp [show j < 32 by omega, h1, show j - f.lo < f.wid by omega]

theorem Field.mask_of_not_mem (f : Field) (j : Nat) (h : j < f.lo ∨ f.lo + f.wid ≤ j) : f.mask.getLsbD j = false := by
  rw [Field.getLsbD_mask]
  rcases h with h | h
  · simp [show ¬ f.lo ≤ j by omega]
  · simp [show ¬ j - f.lo < f.wid by omega]

end Sys2Proof.Machine
end

section
/-! SUPPORT. The registers of the page header (R55 to R65): no page gives one of them a behaviour of its own, and SEAL keeps none
of them back (R29). -/

namespace Sys2Proof.Machine

/-! ### Clearing bits of a field -/

theorem Field.set_get (f : Field) (d : Word) : f.set d (f.get d) = d := by
  apply BitVec.eq_of_getLsbD_eq
  intro j hj
  rw [f.getLsbD_set, f.testBit_get]
  split_ifs with h
  · simp [hj, h.2, Nat.add_sub_cancel' h.1]
  · simp [hj]

/-- The bits of a field that a write names, taken away, are those bits of its dword. -/
theorem Field.set_clear (f : Field) (d x : Word) :
    f.set d (BitVec.ofNat f.wid (f.get d) &&& ~~~(BitVec.ofNat f.wid (f.get x &&& f.get d))).toNat = d &&& ~~~(x &&& f.mask) := by
  apply BitVec.eq_of_getLsbD_eq
  intro j hj
  rw [f.getLsbD_set, BitVec.getLsbD_and, BitVec.getLsbD_not, BitVec.getLsbD_and, f.getLsbD_mask, BitVec.testBit_toNat,
    BitVec.getLsbD_and, BitVec.getLsbD_not, BitVec.getLsbD_ofNat, BitVec.getLsbD_ofNat, Nat.testBit_and, f.testBit_get, f.testBit_get]
  by_cases h : f.lo ≤ j ∧ j - f.lo < f.wid
  · rw [if_pos h, Nat.add_sub_cancel' h.1]
    simp only [hj, h.1, h.2, decide_true, Bool.true_and, Bool.and_true]
    cases d.getLsbD j <;> cases x.getLsbD j <;> rfl
  · rw [if_neg h]
    have : (decide (f.lo ≤ j) && decide (j - f.lo < f.wid)) = false := by simpa using h
    simp [hj, this]

/-! ### No page tells a header field from the others -/

theorem header_ne {f g : Field} (hf : f.off < 0x40) (hg : 0x40 ≤ g.off) : (f == g) = false := by
  rw [beq_eq_false_iff_ne]
  rintro rfl
  omega

/-- Values of header fields are all defined but those of INJ (R10, R63). -/
theorem valueOk_header (w : Work) (k : PageKind) (inst : Nat) {f : Field} (i : Nat) (x : Word) (hf : f.off < 0x40) (hd : f.dom = .any) :
    w.valueOk k inst f i x =
      if f == HDR_INJ_CHK || f == HDR_INJ_BIT then injOk k (HDR_INJ_CHK.get x) (HDR_INJ_BIT.get x) else true := by
  have hn (g : Field) (hg : 0x40 ≤ g.off) : (f == g) = false := header_ne hf hg
  have hany : f.dom.ok f.wid (f.get x) = true := by rw [hd]; rfl
  simp only [Work.valueOk, hany, Bool.true_or, Bool.true_and]
  cases k
  case pkg =>
    simp only [hn PKG_SUPMON_UV_EN (by decide), hn PKG_SUPMON_OV_EN (by decide), hn PKG_E0_S_LO (by decide), hn PKG_E0_S_HI (by decide),
      hn PKG_E0_NS (by decide), Bool.or_false, Bool.false_eq_true, if_false, Bool.and_true]
  case claim => simp only [hn CLAIM_RES_SEL (by decide), Bool.false_eq_true, if_false, Bool.and_true]
  case tally => simp only [hn TALLY_TO_WID (by decide), Bool.false_eq_true, if_false, Bool.and_true]
  case recorder => simp only [hn REC_TRG_CFG_SRC (by decide), Bool.false_eq_true, if_false, Bool.and_true]
  case clu => simp only [hn CLU_SAFEPAT_PAT (by decide), hn CLU_PC_CFG_VREADY (by decide), Bool.false_eq_true, if_false, Bool.and_true]
  case clane => simp only [hn CLANE_CTL_EN (by decide), Bool.false_eq_true, if_false, Bool.and_true]
  all_goals simp only [Bool.and_true]

/-- Every flag of a page header may be cleared (R6). -/
theorem w1cAllowed_header (w : Work) (k : PageKind) (inst pg : Nat) {f : Field} (i m : Nat) (hf : f.off < 0x40) :
    w.w1cAllowed k inst pg f i m = (m, false) := by
  have hn (g : Field) (hg : 0x40 ≤ g.off) : (f == g) = false := header_ne hf hg
  cases k
  case pkg => simp only [Work.w1cAllowed, hn PKG_SG_STAT (by decide), hn PKG_CHOP_STAT_FB_LAT (by decide), Bool.false_eq_true, if_false]
  case tally => simp only [Work.w1cAllowed, hn TALLY_STAT_UNC_WIDE (by decide), Bool.false_eq_true, if_false]
  case abc => simp only [Work.w1cAllowed, hn ABC_RSTAT_OVR_TRIP (by decide), Bool.false_eq_true, if_false]
  case sp => simp only [Work.w1cAllowed, hn SP_CH_STAT_FB (by decide), Bool.false_eq_true, if_false]
  case clu => simp only [Work.w1cAllowed, hn CLU_PSTAT_FLATCH (by decide), Bool.false_eq_true, if_false]
  case unit => simp only [Work.w1cAllowed, hn UNIT_TSTAT_LATCHED (by decide), Bool.false_eq_true, if_false]
  case hrt => simp only [Work.w1cAllowed, hn HRT_SUPSTAT_SEEN (by decide), Bool.false_eq_true, if_false]
  case eq => simp only [Work.w1cAllowed, hn EQ_QSTAT_WM_X (by decide), Bool.false_eq_true, if_false]
  case wc => simp only [Work.w1cAllowed, hn WC_WSTAT_LAT_H (by decide), hn WC_WSTAT_LAT_L (by decide), Bool.false_eq_true, if_false]
  case emb => simp only [Work.w1cAllowed, hn EMB_ESTAT_XTAL_FAIL (by decide), hn EMB_EC_STAT_TAMP (by decide), Bool.false_eq_true, if_false]
  all_goals rfl

/-- The clear of a header flag does nothing besides. -/
theorem w1cAfter_header (w : Work) (k : PageKind) (inst : Nat) {f : Field} (i : Nat) (hf : f.off < 0x40) : w.w1cAfter k inst f i = w := by
  have hn (g : Field) (hg : 0x40 ≤ g.off) : (f == g) = false := header_ne hf hg
  cases k
  case abc => simp only [Work.w1cAfter, hn ABC_RSTAT_OVR_TRIP (by decide), when_false]
  case unit => simp only [Work.w1cAfter, hn UNIT_TSTAT_LATCHED (by decide), when_false]
  case pkg => simp only [Work.w1cAfter, hn PKG_CHOP_STAT_FB_LAT (by decide), when_false]
  case emb => simp only [Work.w1cAfter, hn EMB_ESTAT_XTAL_FAIL (by decide), when_false]
  all_goals rfl

/-! ### SEAL keeps back nothing of a header -/

theorem sealedUnit_above : ∀ f ∈ sealedUnit, 0x40 ≤ f.at 0 := by decide +kernel

theorem foldl_ite_none {α β : Type} (l : List α) (p : α → Prop) [DecidablePred p] (g : β → α → β) (b : β) (h : ∀ a ∈ l, ¬ p a) :
    l.foldl (fun m a => if p a then g m a else m) b = b := by
  induction l generalizing b with
  | nil => rfl
  | cons a l ih => rw [List.foldl_cons, if_neg (h a List.mem_cons_self), ih _ fun c hc => h c (List.mem_cons_of_mem _ hc)]

theorem sealedMask_header {a : Nat} (h : a % 0x1000 < 0x40) : sealedMask a = 0 := by
  unfold sealedMask
  split
  · exact foldl_ite_none _ _ _ _ fun f hf he => by have := sealedUnit_above f hf; omega
  · rfl

theorem vmod_self {α : Type} [Inhabited α] {n : Nat} (v : Vector α n) (i : Nat) (f : α → α) (h : ∀ x, f x = x) : vmod v i f = v := by
  rw [vmod, h]
  ext j hj
  rw [Vector.getElem_setIfInBounds]
  split_ifs with hij
  · subst hij
    simp [vget, hj]
  · rfl

theorem modRg_self (w : Work) (n : Nat) (f : Region → Region) (h : ∀ r, f r = r) : w.modRg n f = w := by
  rw [Work.modRg, vmod_self _ _ _ h]

theorem and_not_and_zero (d m : Word) : d &&& ~~~(m &&& 0) = d := by
  rw [show m &&& 0 = 0#32 from BitVec.and_zero, show ~~~(0#32) = BitVec.allOnes 32 from rfl, BitVec.and_allOnes]

/-- A dword that SEAL does not keep back needs no clearing of what it keeps. -/
theorem sealClear_none (w : Work) (n : Nat) {a : Nat} (m : Word) (h : sealedMask a = 0) : w.sealClear n a m = w := by
  refine modRg_self _ _ _ fun r => ?_
  have hid : (fun e : Nat × Word => if e.1 = a then (e.1, e.2 &&& ~~~(m &&& sealedMask a)) else e) = id := by
    funext e
    rw [h, and_not_and_zero]
    exact ite_self _
  rw [hid, List.map_id]

theorem unitShown_none (w : Work) (u : Nat) {a : Nat} (h : sealedMask a = 0) : w.unitShown u a = w.word a := by
  have hz (d e : Word) : d &&& ~~~0 ||| (e &&& 0) = d := by
    rw [show ~~~(0 : Word) = BitVec.allOnes 32 from rfl, BitVec.and_allOnes, show e &&& 0 = 0#32 from BitVec.and_zero, BitVec.or_zero]
  rw [Work.unitShown, h, hz]
  exact ite_self _

theorem shown_header (w : Work) (k : PageKind) (inst : Nat) {pg : Nat} {f : Field} {i : Nat} (h : (pg + f.at i) % 0x1000 < 0x40) :
    w.shown k inst pg f i = w.rd pg f i := by
  rw [Work.shown]
  split
  · rw [unitShown_none _ _ (sealedMask_header h)]; rfl
  · rfl

/-! ### Writes of header flags -/

/-- A write of a W1C field of a header clears the bits it names, and does nothing else. -/
theorem w1cField_header (w : Work) (k : PageKind) (inst : Nat) {pg : Nat} {f : Field} {i : Nat} (x : Word) (hf : f.off < 0x40)
    (ha : (pg + f.at i) % 0x1000 < 0x40) :
    w.Alters [] [pg + f.at i] (w.w1cField k inst pg f i x) ∧
      (w.w1cField k inst pg f i x).word (pg + f.at i) = w.word (pg + f.at i) &&& ~~~(x &&& f.mask) := by
  have hd : ¬ (k = .pkg ∧ f = PKG_DAMP_STAT_PEAK) := fun h => by
    have : PKG_DAMP_STAT_PEAK.off < 0x40 := h.2 ▸ hf
    exact absurd this (by decide)
  have hseal : (w.when (k == .unit) fun w => w.sealClear (inst / 48) (pg + f.at i) (x &&& f.mask)) = w := by
    rw [Work.when, sealClear_none _ _ _ (sealedMask_header ha), ite_self]
  have hclear := f.set_clear (w.word (pg + f.at i)) x
  have hkeep := f.set_get (w.word (pg + f.at i))
  rw [Work.w1cField]
  dsimp only
  rw [if_neg hd, w1cAllowed_header _ _ _ _ _ _ hf, shown_header _ _ _ ha, Bool.false_and, Bool.false_and, when_false, hseal]
  split_ifs with h
  · refine ⟨.refl, ?_⟩
    rw [← hclear]
    exact ((congrArg _ h).trans hkeep).symm
  · rw [w1cAfter_header _ _ _ _ hf]
    exact ⟨Work.Alters.refl.wr (by simp), (word_put_same ..).trans hclear⟩

/-- The bits of a list of fields. -/
def fieldsMask (l : List (Field × Nat)) : Word := l.foldr (fun e m => e.1.mask ||| m) 0

theorem each_w1cField_header (w : Work) (k : PageKind) (inst : Nat) {pg o : Nat} (x : Word) (l : List (Field × Nat)) (hpg : pg % 0x1000 = 0)
    (ho : o < 0x40) (hl : ∀ e ∈ l, e.1.off < 0x40 ∧ e.1.at e.2 = o) :
    w.Alters [] [pg + o] (w.each l fun w e => w.w1cField k inst pg e.1 e.2 x) ∧
      (w.each l fun w e => w.w1cField k inst pg e.1 e.2 x).word (pg + o) = w.word (pg + o) &&& ~~~(x &&& fieldsMask l) := by
  induction l generalizing w with
  | nil => exact ⟨.refl, (and_not_and_zero _ _).symm⟩
  | cons e l ih =>
    obtain ⟨hoff, hat⟩ := hl e List.mem_cons_self
    obtain ⟨h1, h2⟩ := w1cField_header w k inst (pg := pg) (f := e.1) (i := e.2) x hoff (by omega)
    obtain ⟨h3, h4⟩ := ih (w.w1cField k inst pg e.1 e.2 x) fun c hc => hl c (List.mem_cons_of_mem _ hc)
    rw [hat] at h1 h2
    refine ⟨h1.trans h3, h4.trans ?_⟩
    rw [h2, show fieldsMask (e :: l) = e.1.mask ||| fieldsMask l from rfl, BitVec.and_or_distrib_left, BitVec.not_or, BitVec.and_assoc]

/-- A write of a header register clears the W1C flags it names (R6, R60, R61). -/
theorem clearWrite_header (w : Work) (k : PageKind) (inst : Nat) {pg o : Nat} (x : Word) (hpg : pg % 0x1000 = 0) (ho : o < 0x40) :
    w.Alters [] [pg + o] (w.clearWrite k inst pg o x) ∧
      (w.clearWrite k inst pg o x).word (pg + o) = w.word (pg + o) &&& ~~~(x &&& fieldsMask (accAt k o .w1c)) := by
  have hcnt : accAt k o .cnt = [] := accAt_of_noField (noField_header k _ ho) fun _ => by decide
  rw [Work.clearWrite, hcnt, each_nil]
  refine each_w1cField_header _ _ _ _ _ hpg ho fun e he => ?_
  have hat := at_of_mem_accAt he (by omega)
  obtain ⟨-, hi⟩ := mem_fieldsAt.1 (mem_accAt.1 he).1
  exact ⟨lt_of_le_of_lt (Field.off_le_of_index? hi) ho, hat⟩

/-- A header register without W1C fields. -/
theorem clearWrite_none (w : Work) {k : PageKind} {o : Nat} (inst pg : Nat) (x : Word) (h1 : accAt k o .w1c = []) (h2 : accAt k o .cnt = []) :
    w.clearWrite k inst pg o x = w := by
  rw [Work.clearWrite, h1, h2]
  rfl

end Sys2Proof.Machine
end

section
/-! PROOF. Settles O15: what a host write of a header register does, by its access code, on every page. -/

namespace Sys2Proof.Machine

/-! ### Storing fields -/

theorem fieldsMask_of_mem {l : List (Field × Nat)} {e : Field × Nat} (he : e ∈ l) {j : Nat} (hj : e.1.mask.getLsbD j = true) :
    (fieldsMask l).getLsbD j = true := by
  induction l with
  | nil => cases he
  | cons c l ih =>
    rw [show fieldsMask (c :: l) = c.1.mask ||| fieldsMask l from rfl, BitVec.getLsbD_or, Bool.or_eq_true]
    rcases List.mem_cons.1 he with rfl | h
    · exact .inl hj
    · exact .inr (ih h)

/-- Fields whose values are defined are stored (R10): their bits come from the dword written, the others stay. -/
theorem storeFields_defined (w : Work) (k : PageKind) (inst : Nat) {pg o : Nat} (x : Word) (l : List (Field × Nat))
    (hl : ∀ e ∈ l, e.1.at e.2 = o ∧ ∀ v : Work, v.valueOk k inst e.1 e.2 x = true) :
    w.Alters [] [pg + o] (w.storeFields k inst pg l x) ∧ ∀ j, ((w.storeFields k inst pg l x).word (pg + o)).getLsbD j =
      if (fieldsMask l).getLsbD j then x.getLsbD j else (w.word (pg + o)).getLsbD j := by
  induction l generalizing w with
  | nil => exact ⟨.refl, fun j => by simp [fieldsMask, storeFields_nil]⟩
  | cons e l ih =>
    obtain ⟨hat, hok⟩ := hl e List.mem_cons_self
    have hstep : w.storeFields k inst pg (e :: l) x = (w.put (pg + o) (e.1.merge (w.word (pg + o)) x)).storeFields k inst pg l x := by
      rw [Work.storeFields, Work.each, List.foldl_cons, Work.storeField, if_pos (hok w), hat]
      rfl
    obtain ⟨h1, h2⟩ := ih (w.put (pg + o) (e.1.merge (w.word (pg + o)) x)) fun c hc => hl c (List.mem_cons_of_mem _ hc)
    rw [hstep]
    refine ⟨(Work.Alters.refl.put (by simp)).trans h1, fun j => ?_⟩
    rw [h2, word_put_same, e.1.getLsbD_merge, show fieldsMask (e :: l) = e.1.mask ||| fieldsMask l from rfl, BitVec.getLsbD_or]
    cases (fieldsMask l).getLsbD j <;> cases e.1.mask.getLsbD j <;> rfl

/-- A stored field reads what was written. -/
theorem rd_storeFields_defined {w : Work} {k : PageKind} {inst pg o : Nat} {x : Word} {l : List (Field × Nat)}
    (hl : ∀ e ∈ l, e.1.at e.2 = o ∧ ∀ v : Work, v.valueOk k inst e.1 e.2 x = true) {e : Field × Nat} (he : e ∈ l)
    (hfit : e.1.lo + e.1.wid ≤ 32) : (w.storeFields k inst pg l x).rd pg e.1 e.2 = e.1.get x := by
  rw [Work.rd, (hl e he).1]
  refine e.1.get_congr fun j h1 h2 => ?_
  rw [(storeFields_defined w k inst x l hl).2, if_pos (fieldsMask_of_mem he (e.1.mask_of_mem j h1 h2 hfit))]

/-! ### Writes of header registers -/

/-- A write of a header register but INJ and LOCK. -/
theorem hostWrite_header {s : State} {a : Nat} {k : PageKind} {i : Nat} (x : Word) (hg : s.fenceAt a true = none)
    (hp : pageOf a = some (k, i)) (ho : a % 0x1000 < 0x18) (h4 : a % 4 = 0) :
    s.hostWrite a x = s.onDev fun w => (if w.lockHolds k (a / 0x1000 * 0x1000) (a % 0x1000) then w.wr (a / 0x1000 * 0x1000) HDR_STAT_LOCK_WR 1
      else w.storeFields k i (a / 0x1000 * 0x1000) (accAt k (a % 0x1000) .rw) x).clearWrite k i (a / 0x1000 * 0x1000) (a % 0x1000) x := by
  have hn (acc : Acc) : NoField k (a % 0x1000) acc := noField_header k acc (by omega)
  rw [hostWrite_page x hg hp (by omega), pageWrite_plain s x hp (hn _) (hn _) (fun _ => by omega) (by omega) (by omega)]
  exact onDev_congr (activeWrite_plain _ _ _ _ (hn _) (hn _) (by omega) (by omega))

/-- CTL and FLTMASK: a register of RW fields alone, each defined for every value. -/
theorem headerRw_fields (k : PageKind) {o : Nat} (ho : o = 0x008 ∨ o = 0x014) : lockable k o = true ∧ accAt k o .w1c = [] ∧
    accAt k o .cnt = [] ∧ ∀ e ∈ accAt k o .rw, e.1.off < 0x40 ∧ e.1.dom = .any ∧ e.1 ≠ HDR_INJ_CHK ∧ e.1 ≠ HDR_INJ_BIT := by
  rcases ho with rfl | rfl <;>
    exact ⟨rfl, rfl, rfl, (by decide : ∀ e ∈ accAt .hrt2 _ .rw, e.1.off < 0x40 ∧ e.1.dom = .any ∧ e.1 ≠ HDR_INJ_CHK ∧ e.1 ≠ HDR_INJ_BIT)⟩

theorem headerRw_stored (k : PageKind) (inst : Nat) {o : Nat} (x : Word) (ho : o = 0x008 ∨ o = 0x014) :
    ∀ e ∈ accAt k o .rw, e.1.at e.2 = o ∧ ∀ v : Work, v.valueOk k inst e.1 e.2 x = true := by
  intro e he
  obtain ⟨hoff, hdom, h1, h2⟩ := (headerRw_fields k ho).2.2.2 e he
  refine ⟨at_of_mem_accAt he (by omega), fun v => ?_⟩
  rw [valueOk_header v k inst e.2 x hoff hdom, beq_eq_false_iff_ne.2 h1, beq_eq_false_iff_ne.2 h2]
  rfl

section
variable {s : State} {a : Nat} {k : PageKind} {i : Nat} (x : Word)

/-- R59, R62: an unlocked page takes the fields of CTL and FLTMASK. -/
theorem hostWrite_headerRw (hg : s.fenceAt a true = none) (hp : pageOf a = some (k, i)) (ho : a % 0x1000 = 0x008 ∨ a % 0x1000 = 0x014)
    (hl : ¬ s.on (a / 0x1000 * 0x1000) HDR_LOCK_LOCKED) : (∀ e ∈ accAt k (a % 0x1000) .rw, e.1.lo + e.1.wid ≤ 32 →
      (s.hostWrite a x).rd (a / 0x1000 * 0x1000) e.1 e.2 = e.1.get x) ∧
      OnlyDwords [a / 0x1000 * 0x1000 + a % 0x1000] s (s.hostWrite a x) := by
  obtain ⟨-, hw1c, hcnt, -⟩ := headerRw_fields k ho
  have hst := headerRw_stored k i x ho
  have hlock : s.work.lockHolds k (a / 0x1000 * 0x1000) (a % 0x1000) = false := by
    rw [Work.lockHolds, (State.not_on_work ..).mpr hl, Bool.false_and]
  rw [hostWrite_header x hg hp (by omega) (by omega), onDev_congr
    (g := fun w => w.storeFields k i (a / 0x1000 * 0x1000) (accAt k (a % 0x1000) .rw) x) (by
      rw [clearWrite_none _ _ _ _ hw1c hcnt, hlock]; rfl)]
  exact ⟨fun e he hfit => rd_storeFields_defined hst he hfit, (storeFields_defined s.work k i x _ hst).1.changes⟩

/-- R64: a locked page ignores a write of CTL and FLTMASK. -/
theorem hostWrite_headerRw_locked (hg : s.fenceAt a true = none) (hp : pageOf a = some (k, i))
    (ho : a % 0x1000 = 0x008 ∨ a % 0x1000 = 0x014) (hl : s.on (a / 0x1000 * 0x1000) HDR_LOCK_LOCKED) :
    (s.hostWrite a x).rd (a / 0x1000 * 0x1000) HDR_STAT_LOCK_WR = 1 ∧
      OnlyDwords [a / 0x1000 * 0x1000 + HDR_STAT_LOCK_WR.at 0] s (s.hostWrite a x) := by
  obtain ⟨hlk, hw1c, hcnt, -⟩ := headerRw_fields k ho
  have hlock : s.work.lockHolds k (a / 0x1000 * 0x1000) (a % 0x1000) = true := by
    rw [Work.lockHolds, (State.on_work ..).mpr hl, hlk, Bool.true_and]
  rw [hostWrite_header x hg hp (by omega) (by omega), onDev_congr (g := fun w => w.wr (a / 0x1000 * 0x1000) HDR_STAT_LOCK_WR 1) (by
      rw [clearWrite_none _ _ _ _ hw1c hcnt, hlock]; rfl)]
  exact ⟨rd_wr_same _ _ _ _ _ (by decide), (Work.Alters.refl.wr (by simp)).changes⟩

/-- R60, R61: a write of STAT or FLT clears the flags written 1, whether the page is locked or not. -/
theorem hostWrite_headerFlags (hg : s.fenceAt a true = none) (hp : pageOf a = some (k, i))
    (ho : a % 0x1000 = 0x00C ∨ a % 0x1000 = 0x010) :
    (s.hostWrite a x).word (a / 0x1000 * 0x1000 + a % 0x1000) = s.word (a / 0x1000 * 0x1000 + a % 0x1000) &&&
        ~~~(x &&& if a % 0x1000 = 0x00C then 0xF else 0xFFFF0003) ∧
      OnlyDwords [a / 0x1000 * 0x1000 + a % 0x1000] s (s.hostWrite a x) := by
  have hfacts : lockable k (a % 0x1000) = false ∧ accAt k (a % 0x1000) .rw = [] ∧
      fieldsMask (accAt k (a % 0x1000) .w1c) = if a % 0x1000 = 0x00C then 0xF else 0xFFFF0003 := by
    rcases ho with h | h <;> rw [h]
    · exact ⟨rfl, rfl, (by decide : fieldsMask (accAt .hrt2 0x00C .w1c) = 0xF)⟩
    · exact ⟨rfl, rfl, (by decide : fieldsMask (accAt .hrt2 0x010 .w1c) = 0xFFFF0003)⟩
  obtain ⟨hlk, hrw, hmask⟩ := hfacts
  rw [hostWrite_header x hg hp (by omega) (by omega), onDev_congr
    (g := fun w => w.clearWrite k i (a / 0x1000 * 0x1000) (a % 0x1000) x) (by
      rw [Work.lockHolds, hlk, Bool.and_false, hrw, storeFields_nil]; rfl), ← hmask]
  obtain ⟨h1, h2⟩ := clearWrite_header s.work k i (pg := a / 0x1000 * 0x1000) (o := a % 0x1000) x (by omega) (by omega)
  exact ⟨h2, h1.changes⟩

/-- R55 to R58: PID and CAPS ignore a write. -/
theorem hostWrite_headerRo (hg : s.fenceAt a true = none) (hp : pageOf a = some (k, i))
    (ho : a % 0x1000 = 0x000 ∨ a % 0x1000 = 0x004) : s.hostWrite a x = s := by
  have hfacts : lockable k (a % 0x1000) = false ∧ accAt k (a % 0x1000) .rw = [] ∧ accAt k (a % 0x1000) .w1c = [] ∧
      accAt k (a % 0x1000) .cnt = [] := by
    rcases ho with h | h <;> rw [h] <;> exact ⟨rfl, rfl, rfl, rfl⟩
  obtain ⟨hlk, hrw, hw1c, hcnt⟩ := hfacts
  rw [hostWrite_header x hg hp (by omega) (by omega), onDev_congr (g := fun w => w) (by
      rw [clearWrite_none _ _ _ _ hw1c hcnt, Work.lockHolds, hlk, Bool.and_false, hrw, storeFields_nil]; rfl)]
  exact onDev_id s
end

end Sys2Proof.Machine
end

section
/-! PROOF. Settles O15, its second part: INJ and LOCK (R63, R64), and the obligation. -/

namespace Sys2Proof.Machine

/-! ### The dword that INJ_ARM writes -/

/-- The dword of INJ that arms checker `chk`, bit `bit` (R63). -/
def injDword (chk : BitVec 4) (bit : BitVec 8) : Word := w32 (0x1000 + bit.toNat * 16 + chk.toNat)

theorem injDword_toNat (chk : BitVec 4) (bit : BitVec 8) : (injDword chk bit).toNat = 0x1000 + bit.toNat * 16 + chk.toNat := by
  rw [injDword, w32, BitVec.toNat_ofNat]
  omega

theorem injDword_fields (chk : BitVec 4) (bit : BitVec 8) : HDR_INJ_ARM.get (injDword chk bit) = 1 ∧
    HDR_INJ_CHK.get (injDword chk bit) = chk.toNat ∧ HDR_INJ_BIT.get (injDword chk bit) = bit.toNat := by
  simp only [Field.get, injDword_toNat, HDR_INJ_ARM, HDR_INJ_CHK, HDR_INJ_BIT]
  omega

/-- It names no flag. -/
theorem injDword_hit (chk : BitVec 4) (bit : BitVec 8) : injDword chk bit &&& fieldsMask [(HDR_INJ_HIT, 0)] = 0 := by
  have hlt : (injDword chk bit).toNat < 2 ^ 14 := by rw [injDword_toNat]; omega
  apply BitVec.eq_of_getLsbD_eq
  intro j _
  rw [BitVec.getLsbD_and, show (fieldsMask [(HDR_INJ_HIT, 0)]) = BitVec.twoPow 32 14 by decide, BitVec.getLsbD_twoPow]
  by_cases hj : j = 14
  · rw [hj, BitVec.getLsbD, Nat.testBit_lt_two_pow hlt]; rfl
  · simp [Ne.symm hj]

/-! ### INJ -/

/-- A write of INJ acts on the whole register. -/
theorem hostWrite_inj {s : State} {k : PageKind} {i pg : Nat} (x : Word) (hpg : pg % 0x1000 = 0) (hp : pageOf pg = some (k, i))
    (hg : s.fenceAt (pg + 0x18) true = none) : s.hostWrite (pg + 0x18) x = s.onDev fun w => w.injWrite k i pg x := by
  have ho : (pg + 0x18) % 0x1000 = 0x18 := by omega
  rw [hostWrite_page x hg ((pageOf_add pg 0x18 hpg (by decide)).trans hp) (by omega), State.pageWrite, ho,
    show (pg + 0x18) / 0x1000 * 0x1000 = pg by omega]
  rfl

/-- A page without INJ ignores a write of it. -/
theorem injWrite_none (w : Work) {k : PageKind} (inst pg : Nat) (x : Word) (hk : k.hasInj = false) : w.injWrite k inst pg x = w := by
  have hact : w.activeWrite k inst pg 0x18 x = w := by
    rw [Work.activeWrite, if_pos ⟨rfl, by simp [hk]⟩]
  rw [Work.injWrite, hact, hk]
  rfl

/-- R64: a locked page ignores a write of INJ. -/
theorem injWrite_locked (w : Work) {k : PageKind} (inst pg : Nat) (x : Word) (hk : k.hasInj = true) (hl : w.on pg HDR_LOCK_LOCKED = true) :
    w.injWrite k inst pg x = w.wr pg HDR_STAT_LOCK_WR 1 := by
  have hact : w.activeWrite k inst pg 0x18 x = w.wr pg HDR_STAT_LOCK_WR 1 := by
    rw [Work.activeWrite, if_neg fun h => h.2 hk, Work.lockHolds, hl, show lockable k 0x18 = true from rfl]
    rfl
  rw [Work.injWrite, hact, hl]
  simp

/-- R63: INJ takes its selection and arms; the state between is that of the stored fields. -/
theorem injWrite_open (w : Work) {k : PageKind} (inst pg : Nat) (x : Word) (hk : k.hasInj = true) (hl : w.on pg HDR_LOCK_LOCKED = false)
    (harm : HDR_INJ_ARM.get x = 1) : w.injWrite k inst pg x =
      ((w.storeFields k inst pg [(HDR_INJ_BIT, 0), (HDR_INJ_CHK, 0)] x).clearWrite k inst pg 0x18 x).wr pg HDR_INJ_ARMED 1 := by
  have hn (acc : Acc) : NoField k 0x18 acc := noField_header k acc (by decide)
  have hact : w.activeWrite k inst pg 0x18 x =
      (w.storeFields k inst pg [(HDR_INJ_BIT, 0), (HDR_INJ_CHK, 0)] x).clearWrite k inst pg 0x18 x := by
    rw [Work.activeWrite, if_neg fun h => h.2 hk, Work.lockHolds, hl, Bool.false_and, rwWrite_plain _ _ _ _ (hn _) rfl,
      liveWrite_none _ _ _ _ (hn _)]
    rfl
  rw [Work.injWrite, hact, hl, hk, harm]
  rfl

/-- Arming an injection after its selection `v`: HIT and the selection stay as `v` has them. -/
theorem injArmed (v : Work) (k : PageKind) (inst : Nat) {pg : Nat} (chk : BitVec 4) (bit : BitVec 8) (hpg : pg % 0x1000 = 0) :
    let t := (v.clearWrite k inst pg 0x18 (injDword chk bit)).wr pg HDR_INJ_ARMED 1
    v.Alters [] [pg + HDR_INJ_ARMED.at 0] t ∧ t.rd pg HDR_INJ_ARMED = 1 ∧ t.rd pg HDR_INJ_CHK = v.rd pg HDR_INJ_CHK ∧
      t.rd pg HDR_INJ_BIT = v.rd pg HDR_INJ_BIT ∧ t.rd pg HDR_INJ_HIT = v.rd pg HDR_INJ_HIT := by
  obtain ⟨h1, h2⟩ := clearWrite_header v k inst (pg := pg) (o := 0x18) (injDword chk bit) hpg (by decide)
  rw [show accAt k 0x18 .w1c = [(HDR_INJ_HIT, 0)] from rfl, injDword_hit, show ~~~(0 : Word) = BitVec.allOnes 32 from rfl,
    BitVec.and_allOnes] at h2
  have hrd (f : Field) (hf : f.at 0 = 0x18) : (v.clearWrite k inst pg 0x18 (injDword chk bit)).rd pg f = v.rd pg f :=
    rd_congr (by rw [hf]; exact h2)
  refine ⟨Work.Alters.wr h1 (by simp), rd_wr_same _ _ _ _ _ (by decide), ?_, ?_, ?_⟩
  all_goals rw [rd_wr_disj _ _ _ _ _ _ _ _ (by decide), hrd _ rfl]

theorem inj_valueOk (v : Work) (k : PageKind) (inst : Nat) (chk : BitVec 4) (bit : BitVec 8) {e : Field × Nat}
    (he : e ∈ [(HDR_INJ_BIT, 0), (HDR_INJ_CHK, 0)]) :
    v.valueOk k inst e.1 e.2 (injDword chk bit) = injOk k chk.toNat bit.toNat := by
  obtain ⟨-, hchk, hbit⟩ := injDword_fields chk bit
  have hfacts : e.1.off < 0x40 ∧ e.1.dom = .any ∧ (e.1 == HDR_INJ_CHK || e.1 == HDR_INJ_BIT) = true := by
    revert e; decide
  obtain ⟨hoff, hdom, hinj⟩ := hfacts
  rw [valueOk_header v k inst e.2 _ hoff hdom, hinj, if_pos rfl, hchk, hbit]

/-- A defined selection is taken (R63). -/
theorem inj_selected (w : Work) (k : PageKind) (inst pg : Nat) (chk : BitVec 4) (bit : BitVec 8) (h : injOk k chk.toNat bit.toNat = true) :
    let v := w.storeFields k inst pg [(HDR_INJ_BIT, 0), (HDR_INJ_CHK, 0)] (injDword chk bit)
    w.Alters [] [pg + HDR_INJ_ARMED.at 0] v ∧ v.rd pg HDR_INJ_CHK = chk.toNat ∧ v.rd pg HDR_INJ_BIT = bit.toNat ∧
      v.rd pg HDR_INJ_HIT = w.rd pg HDR_INJ_HIT := by
  obtain ⟨-, hchk, hbit⟩ := injDword_fields chk bit
  have hl : ∀ e ∈ [(HDR_INJ_BIT, 0), (HDR_INJ_CHK, 0)], e.1.at e.2 = 0x18 ∧
      ∀ v : Work, v.valueOk k inst e.1 e.2 (injDword chk bit) = true :=
    fun e he => ⟨by revert e; decide, fun v => (inj_valueOk v k inst chk bit he).trans h⟩
  obtain ⟨h1, h2⟩ := storeFields_defined w k inst (pg := pg) (injDword chk bit) _ hl
  refine ⟨h1, ?_, ?_, ?_⟩
  · exact (rd_storeFields_defined hl (e := (HDR_INJ_CHK, 0)) (by simp) (by decide)).trans hchk
  · exact (rd_storeFields_defined hl (e := (HDR_INJ_BIT, 0)) (by simp) (by decide)).trans hbit
  · refine HDR_INJ_HIT.get_congr fun j hj1 hj2 => (h2 j).trans (if_neg ?_)
    have hj : j = 14 := by simp only [HDR_INJ_HIT] at hj1 hj2; omega
    rw [hj]
    decide

/-- A selection that the block does not list is ignored with BADVAL (R10, R63). -/
theorem inj_refused (w : Work) (k : PageKind) (inst pg : Nat) (chk : BitVec 4) (bit : BitVec 8) (h : injOk k chk.toNat bit.toNat = false) :
    w.storeFields k inst pg [(HDR_INJ_BIT, 0), (HDR_INJ_CHK, 0)] (injDword chk bit) = (w.badval pg).badval pg := by
  have hno (v : Work) {e : Field × Nat} (he : e ∈ [(HDR_INJ_BIT, 0), (HDR_INJ_CHK, 0)]) :
      v.storeField k inst pg e.1 e.2 (injDword chk bit) = v.badval pg := by
    rw [Work.storeField, inj_valueOk v k inst chk bit he, h]
    rfl
  rw [Work.storeFields, Work.each, List.foldl_cons, List.foldl_cons, List.foldl_nil, hno _ (by simp), hno _ (by simp)]

section
variable {w : Work} {k : PageKind} (inst : Nat) {pg : Nat} (chk : BitVec 4) (bit : BitVec 8)

/-- R63: an open page's INJ takes a defined selection and arms. -/
theorem injWrite_selected (hpg : pg % 0x1000 = 0) (hk : k.hasInj = true) (hok : injOk k chk.toNat bit.toNat = true)
    (hl : w.on pg HDR_LOCK_LOCKED = false) :
    let t := w.injWrite k inst pg (injDword chk bit)
    t.rd pg HDR_INJ_ARMED = 1 ∧ t.rd pg HDR_INJ_CHK = chk.toNat ∧ t.rd pg HDR_INJ_BIT = bit.toNat ∧
      t.rd pg HDR_INJ_HIT = w.rd pg HDR_INJ_HIT ∧ w.Alters [] [pg + HDR_INJ_ARMED.at 0] t := by
  obtain ⟨h1, hchk, hbit, hhit⟩ := inj_selected w k inst pg chk bit hok
  obtain ⟨h2, harmed, hchk', hbit', hhit'⟩ :=
    injArmed (w.storeFields k inst pg [(HDR_INJ_BIT, 0), (HDR_INJ_CHK, 0)] (injDword chk bit)) k inst chk bit hpg
  rw [injWrite_open w inst pg _ hk hl (injDword_fields chk bit).1]
  exact ⟨harmed, hchk'.trans hchk, hbit'.trans hbit, hhit'.trans hhit, h1.trans h2⟩

/-- R10, R63: with an undefined selection it keeps the old one and arms (log entry 12). -/
theorem injWrite_refused (hpg : pg % 0x1000 = 0) (hk : k.hasInj = true) (hok : injOk k chk.toNat bit.toNat = false)
    (hl : w.on pg HDR_LOCK_LOCKED = false) :
    let t := w.injWrite k inst pg (injDword chk bit)
    t.rd pg HDR_INJ_ARMED = 1 ∧ t.rd pg HDR_INJ_CHK = w.rd pg HDR_INJ_CHK ∧ t.rd pg HDR_INJ_BIT = w.rd pg HDR_INJ_BIT ∧
      t.rd pg HDR_STAT_BADVAL = 1 ∧ w.Alters [] [pg + HDR_INJ_ARMED.at 0, pg + HDR_STAT_BADVAL.at 0] t := by
  have hne (f : Field) (hf : f.at 0 = 0x18) : pg + f.at 0 ≠ pg + HDR_STAT_BADVAL.at 0 := by
    rw [hf, show HDR_STAT_BADVAL.at 0 = 0xC from rfl]; omega
  have hkeep (f : Field) (hf : f.at 0 = 0x18) : ((w.badval pg).badval pg).rd pg f = w.rd pg f := by
    rw [Work.badval, Work.badval, rd_wr_ne _ _ _ _ _ _ _ _ (hne f hf), rd_wr_ne _ _ _ _ _ _ _ _ (hne f hf)]
  obtain ⟨h2, harmed, hchk, hbit, -⟩ := injArmed ((w.badval pg).badval pg) k inst chk bit hpg
  rw [injWrite_open w inst pg _ hk hl (injDword_fields chk bit).1, inj_refused w k inst pg chk bit hok]
  refine ⟨harmed, hchk.trans (hkeep _ rfl), hbit.trans (hkeep _ rfl), ?_, ?_⟩
  · rw [rd_congr (h2.words _ (by simpa using (hne HDR_INJ_ARMED rfl).symm))]
    exact rd_wr_same _ _ _ _ _ (by decide)
  · exact ((Work.Alters.refl.badval (by simp)).badval (by simp)).trans (h2.mono (by simp) (by simp))
end

/-! ### LOCK -/

/-- A write of LOCK. -/
theorem hostWrite_lock {s : State} {k : PageKind} {i pg : Nat} (x : Word) (hpg : pg % 0x1000 = 0) (hp : pageOf pg = some (k, i))
    (hg : s.fenceAt (pg + 0x1C) true = none) : s.hostWrite (pg + 0x1C) x = s.onDev fun w => w.lockWrite pg x := by
  have ho : (pg + 0x1C) % 0x1000 = 0x1C := by omega
  rw [hostWrite_page x hg ((pageOf_add pg 0x1C hpg (by decide)).trans hp) (by omega), State.pageWrite, ho,
    show (pg + 0x1C) / 0x1000 * 0x1000 = pg by omega]
  rfl

theorem lockKey_get (key : BitVec 16) : HDR_LOCK_KEY.get (w32 (key.toNat * 2 ^ 16)) = key.toNat := by
  simp only [Field.get, w32, BitVec.toNat_ofNat, HDR_LOCK_KEY]
  omega

/-- R64: the key locks the page; another is undefined (R10). -/
theorem lockWrite_key (w : Work) (pg : Nat) {key : BitVec 16} (h : key = 0x4C4B) :
    w.lockWrite pg (w32 (key.toNat * 2 ^ 16)) = w.wr pg HDR_LOCK_LOCKED 1 := by
  rw [h]; rfl

theorem lockWrite_other (w : Work) (pg : Nat) {key : BitVec 16} (h : key ≠ 0x4C4B) :
    w.lockWrite pg (w32 (key.toNat * 2 ^ 16)) = w.badval pg := by
  rw [Work.lockWrite, lockKey_get, if_neg (show key.toNat ≠ 0x4C4B from fun hk => h (BitVec.eq_of_toNat_eq hk))]

/-! ### The obligation -/

theorem accAt_ctl (k : PageKind) : accAt k 0x008 .rw = [(HDR_CTL_VEC, 0), (HDR_CTL_IRQ_EN, 0)] := rfl

theorem accAt_fltmask (k : PageKind) : accAt k 0x014 .rw = [(HDR_FLTMASK_UC_MASK, 0), (HDR_FLTMASK_CE_MASK, 0)] := rfl

/-- Settles O15: each header register by its access code, INJ and LOCK by their commands. -/
theorem headerWritesByAccessCode : Obligations.HeaderWritesByAccessCode := by
  unfold Obligations.HeaderWritesByAccessCode
  refine ⟨fun s addr v k i hp hr => ?_, fun s page k i hp => ⟨fun hr chk bit => ?_, fun hr key => ?_⟩⟩
  · obtain ⟨hshut, hg⟩ := hr
    rw [← pageOf_dword] at hp
    have haligned {o : Nat} (h : addr.toNat % 0x1000 = o) (h4 : o % 4 = 0) : addr.toNat / 4 * 4 = addr.toNat := by omega
    refine ⟨fun ho hl => ?_, fun ho hl => ?_, fun ho hl => ?_, fun ho => ?_, fun ho => ?_⟩
    all_goals refine runs_registerWrite hshut ?_
    · rw [haligned ho rfl] at hp hg ⊢
      obtain ⟨hrd, hch⟩ := hostWrite_headerRw v hg hp (.inl ho) hl
      rw [ho, accAt_ctl] at hrd
      exact ⟨hrd (HDR_CTL_VEC, 0) (by simp) (by decide), hrd (HDR_CTL_IRQ_EN, 0) (by simp) (by decide), hch⟩
    · rw [haligned ho rfl] at hp hg ⊢
      obtain ⟨hrd, hch⟩ := hostWrite_headerRw v hg hp (.inr ho) hl
      rw [ho, accAt_fltmask] at hrd
      exact ⟨hrd (HDR_FLTMASK_UC_MASK, 0) (by simp) (by decide), hrd (HDR_FLTMASK_CE_MASK, 0) (by simp) (by decide), hch⟩
    · rw [show addr.toNat / 4 * 4 = addr.toNat by omega] at hp hg ⊢
      exact hostWrite_headerRw_locked v hg hp ho hl
    · rw [show addr.toNat / 4 * 4 = addr.toNat by omega] at hp hg ⊢
      exact hostWrite_headerFlags v hg hp ho
    · have hsame : s.hostWrite (addr.toNat / 4 * 4) v = s := by
        rcases ho with ho | ho | ho
        · exact hostWrite_headerRo v hg hp (.inl (by omega))
        · exact hostWrite_headerRo v hg hp (.inr (by omega))
        · exact hostWrite_mirror v hg hp (by omega) (by omega)
      rw [hsame]
      exact Work.Alters.refl.changes (f := fun w => w)
  · have hpg : page.toNat * 0x1000 % 0x1000 = 0 := by omega
    have hrun {p : State → Prop} (h : p (s.onDev fun w => w.injWrite k i (page.toNat * 0x1000) (injDword chk bit))) :
        Runs (.injArm page chk bit) s p := runs_injArm hr.1 ((hostWrite_inj _ hpg hp hr.2).symm ▸ h)
    refine ⟨fun hk hok hl => hrun ?_, fun hk hok hl => hrun ?_, fun hk hl => hrun ?_, fun hk => hrun ?_⟩
    · obtain ⟨h1, h2, h3, h4, h5⟩ := injWrite_selected i chk bit hpg hk hok ((State.not_on_work ..).mpr hl)
      exact ⟨h1, h2, h3, h4, h5.changes⟩
    · obtain ⟨h1, h2, h3, h4, h5⟩ := injWrite_refused i chk bit hpg hk (Bool.not_eq_true _ ▸ hok) ((State.not_on_work ..).mpr hl)
      exact ⟨h1, h2, h3, h4, h5.changes⟩
    · rw [onDev_congr (g := fun w => w.wr (page.toNat * 0x1000) HDR_STAT_LOCK_WR 1) (injWrite_locked s.work i _ _ hk ((State.on_work ..).mpr hl))]
      exact ⟨rd_wr_same _ _ _ _ _ (by decide), (Work.Alters.refl.wr (by simp)).changes⟩
    · rw [onDev_congr (g := fun w => w) (injWrite_none s.work i _ _ (Bool.not_eq_true _ ▸ hk))]
      exact Work.Alters.refl.changes (f := fun w => w)
  · have hpg : page.toNat * 0x1000 % 0x1000 = 0 := by omega
    have hrun {p : State → Prop} (h : p (s.onDev fun w => w.lockWrite (page.toNat * 0x1000) (w32 (key.toNat * 2 ^ 16)))) :
        Runs (.pageLock page key) s p := runs_pageLock hr.1 ((hostWrite_lock _ hpg hp hr.2).symm ▸ h)
    refine ⟨fun hkey => hrun ?_, fun hkey => hrun ?_⟩
    · rw [onDev_congr (g := fun w => w.wr (page.toNat * 0x1000) HDR_LOCK_LOCKED 1) (lockWrite_key s.work _ hkey)]
      exact ⟨rd_wr_same _ _ _ _ _ (by decide), (Work.Alters.refl.wr (by simp)).changes⟩
    · rw [onDev_congr (g := fun w => w.badval (page.toNat * 0x1000)) (lockWrite_other s.work _ hkey)]
      exact ⟨rd_wr_same _ _ _ _ _ (by decide), (Work.Alters.refl.badval (by simp)).changes⟩

end Sys2Proof.Machine
end

section
/-! PROOF. Settles O11, its first part: the PLL follows NOFS, gates a larger change, settles and relocks (R133 to R137). -/

namespace Sys2Proof.Machine

/-! ### Rules of the PLL's operations -/

/-- A host write that reaches beyond the device, past the gate and every fence. -/
theorem hostAct_open {s : State} {c : Instr} {a : Nat} {f : State → State} (h : s.reaches a) : s.hostAct c a f = f s := by
  obtain ⟨hshut, hfence⟩ := h
  rw [State.hostAct, State.throttle_open _ _ _ hshut, show s.work.gate a true = none from hfence]

theorem runs_nofsWrite {s : State} {v : BitVec 24} {p : State → Prop} (h : s.reaches (pgSPLL + SPLL_NOFS.at 0)) (hp : p (s.nofs v.toNat)) :
    Runs (.nofsWrite v) s p :=
  runs_of (congrArg Host.Outcome.next (hostAct_open h)) hp

@[simp] theorem tally_closeGates (s : State) : s.closeGates.tally = s.tally.setPll { s.tally.pll with closed := true } := rfl
@[simp] theorem word_setPll (s : State) (p : Pll) (a : Nat) : (s.setPll p).word a = s.word a := State.word_setTally s _ a
@[simp] theorem word_closeGates (s : State) (a : Nat) : s.closeGates.word a = s.word a := word_setPll s _ a

/-- The verdict is the lock detector's alone in the PLL. -/
@[simp] theorem tally_lockVerdict (s : State) (v : Bool) : (s.lockVerdict v).tally = s.tally.setPll { s.tally.pll with lockDet := v } := by
  unfold State.lockVerdict
  split
  · next h => rw [← h]; rfl
  · rfl

/-- It writes no register. -/
@[simp] theorem word_lockVerdict (s : State) (v : Bool) (a : Nat) : (s.lockVerdict v).word a = s.word a := by
  unfold State.lockVerdict
  split
  · rfl
  · exact word_setPll s _ a

@[simp] theorem pending_lockVerdict (s : State) (v : Bool) : (s.lockVerdict v).pending = s.pending := by
  unfold State.lockVerdict
  split <;> rfl

/-- A new verdict is driven on LOCKF (R137). -/
theorem out_lockVerdict {s : State} {v : Bool} (h : s.tally.pll.lockDet = !v) :
    (s.lockVerdict v).dev.out = s.dev.out ++ [.pin "LOCKF" 0 v] := by
  rw [State.lockVerdict, if_neg (by rw [h]; simp)]
  rfl

/-- What settling does to the device: SLEWING clears, and the lanes take the new rate. -/
theorem view_settled (w : Work) (c : Bool) (q : Rat) :
    view (· == .lane) (fun _ => false) ((w.wr pgSPLL SPLL_STAT_SLEWING 0).when c fun w => w.reanchorRate q) =
      view (· == .lane) (fun _ => false) (w.wr pgSPLL SPLL_STAT_SLEWING 0) :=
  view_when _ _ _ fun v => view_reanchorRate v q rfl

/-- Settling is a change of the PLL, SLEWING cleared, and the lanes' rates. -/
theorem pllSettle_frame (s : State) (x : Int) :
    (s.pllSettle x).tally = s.tally.setPll { s.tally.pll with target := none, inUse := x, settled := x } ∧
      (s.pllSettle x).pending = s.pending ∧ (s.pllSettle x).dev.out = s.dev.out ∧
      (s.pllSettle x).rd pgSPLL SPLL_STAT_SLEWING = 0 ∧ DwordsKept [pgSPLL + SPLL_STAT_SLEWING.at 0] s (s.pllSettle x) := by
  rw [State.pllSettle]
  refine ⟨rfl, rfl, same_of_view (view_settled _ _ _) .out rfl, ?_, fun a ha => ?_⟩
  · rw [State.rd_onDev, rd_of_view (view_settled _ _ _) _ _ _ rfl rfl, rd_wr_same _ _ _ _ _ (by decide)]
    rfl
  · rw [State.word_onDev, word_of_view (view_settled _ _ _) _ rfl, word_wr_ne _ _ _ _ _ _ (by simpa using ha)]
    exact word_setPll s _ a

/-! ### The commands -/

section
variable {s : State} {v : BitVec 24}

/-- R10: a magnitude above 53,687 is refused. -/
theorem nofs_refused (hl : ¬ s.on pgSPLL HDR_LOCK_LOCKED) (hv : 53687 < (toSigned 24 v.toNat).natAbs) :
    s.nofs v.toNat = s.onDev fun w => w.badval pgSPLL := by
  rw [State.nofs]
  dsimp only
  rw [if_neg (by rwa [State.on_work]), if_pos hv]

/-- R134: a change within 10 ppm of the settled value is followed. -/
theorem nofs_followed (hl : ¬ s.on pgSPLL HDR_LOCK_LOCKED) (hv : (toSigned 24 v.toNat).natAbs ≤ 53687)
    (ht : s.tally.pll.target = none) (hd : (toSigned 24 v.toNat - s.tally.pll.settled).natAbs ≤ 2684) :
    s.nofs v.toNat = ((s.onDev fun w => w.wr pgSPLL SPLL_NOFS v.toNat).setPll { s.tally.pll with inUse := toSigned 24 v.toNat }).onDev
      fun w => w.wr pgSPLL SPLL_STAT_SLEWING 1 := by
  rw [State.nofs]
  dsimp only
  rw [if_neg (by rwa [State.on_work]), if_neg (by omega), ht, decide_eq_true hd]
  rfl

/-- R135: a larger one waits, and the gates close. -/
theorem nofs_gated (hl : ¬ s.on pgSPLL HDR_LOCK_LOCKED) (hv : (toSigned 24 v.toNat).natAbs ≤ 53687)
    (hd : 2684 < (toSigned 24 v.toNat - s.tally.pll.settled).natAbs) :
    s.nofs v.toNat = (((s.onDev fun w => w.wr pgSPLL SPLL_NOFS v.toNat).setPll
      { s.tally.pll with target := some (toSigned 24 v.toNat) }).lockVerdict false).closeGates.onDev
        fun w => w.wr pgSPLL SPLL_STAT_SLEWING 0 := by
  rw [State.nofs]
  dsimp only
  rw [if_neg (by rwa [State.on_work]), if_neg (by omega), decide_eq_false (by omega), Bool.and_false, if_neg Bool.false_ne_true]
end

/-- The registers that a NOFS write leaves: the value, and SLEWING as it follows. -/
theorem nofs_registers {s f : State} {v : BitVec 24} (b : Nat) (hf : ∀ a, f.word a = (s.work.wr pgSPLL SPLL_NOFS v.toNat).word a) :
    (f.onDev fun w => w.wr pgSPLL SPLL_STAT_SLEWING b).rd pgSPLL SPLL_NOFS = v.toNat ∧
      (f.onDev fun w => w.wr pgSPLL SPLL_STAT_SLEWING b).rd pgSPLL SPLL_STAT_SLEWING = b % 2 ∧
      DwordsKept [pgSPLL + SPLL_NOFS.at 0, pgSPLL + SPLL_STAT_SLEWING.at 0] s (f.onDev fun w => w.wr pgSPLL SPLL_STAT_SLEWING b) := by
  refine ⟨?_, rd_wr_same _ _ _ _ _ (by decide), ?_⟩
  · rw [State.rd_onDev, rd_wr_ne _ _ _ _ _ _ _ _ (by decide), rd_congr (v := s.work.wr pgSPLL SPLL_NOFS v.toNat) (hf _),
      rd_wr_same _ _ _ _ _ (by decide)]
    exact Nat.mod_eq_of_lt v.isLt
  · have hstored : s.work.Keeps [pgSPLL + SPLL_NOFS.at 0, pgSPLL + SPLL_STAT_SLEWING.at 0] f.work :=
      keeps_of_word (keeps_wr keeps_refl (by simp)) (funext hf)
    exact keeps_wr hstored (by simp)

/-- R134, R135: a NOFS write in range, with the gates open and no change waiting. -/
theorem runs_nofs_inRange {s : State} {v : BitVec 24} (hl : ¬ s.on pgSPLL HDR_LOCK_LOCKED) (hr : s.reaches (pgSPLL + SPLL_NOFS.at 0))
    (hv : (toSigned 24 v.toNat).natAbs ≤ 53687) (hc : s.tally.pll.closed = false) (ht : s.tally.pll.target = none) :
    Runs (.nofsWrite v) s fun t =>
      t.rd pgSPLL SPLL_NOFS = v.toNat ∧ t.tally.a = s.tally.a ∧ t.tally.pll.settled = s.tally.pll.settled ∧
      ((toSigned 24 v.toNat - s.tally.pll.settled).natAbs ≤ 2684 →
        t.tally.pll.inUse = toSigned 24 v.toNat ∧ t.tally.pll.closed = false ∧ t.rd pgSPLL SPLL_STAT_SLEWING = 1) ∧
      (2684 < (toSigned 24 v.toNat - s.tally.pll.settled).natAbs →
        t.tally.pll.target = some (toSigned 24 v.toNat) ∧ t.tally.pll.closed = true ∧ t.tally.pll.lockDet = false ∧
        t.tally.pll.inUse = s.tally.pll.inUse ∧ (s.tally.pll.lockDet = true → LastOut (.pin "LOCKF" 0 false) s t)) ∧
      DwordsKept [pgSPLL + SPLL_NOFS.at 0, pgSPLL + SPLL_STAT_SLEWING.at 0] s t ∧ t.pending = s.pending := by
  refine runs_nofsWrite hr ?_
  by_cases hd : (toSigned 24 v.toNat - s.tally.pll.settled).natAbs ≤ 2684
  · rw [nofs_followed hl hv ht hd]
    obtain ⟨hnofs, hslew, hkept⟩ := nofs_registers (v := v) 1 fun a =>
      word_setPll (s.onDev fun w => w.wr pgSPLL SPLL_NOFS v.toNat) { s.tally.pll with inUse := toSigned 24 v.toNat } a
    exact ⟨hnofs, rfl, rfl, fun _ => ⟨rfl, hc, hslew⟩, fun hn => absurd hd (by omega), hkept, rfl⟩
  · rw [nofs_gated hl hv (by omega)]
    generalize hp : ({ s.tally.pll with target := some (toSigned 24 v.toNat) } : Pll) = p
    generalize hf : (s.onDev fun w => w.wr pgSPLL SPLL_NOFS v.toNat).setPll p = f
    obtain ⟨hnofs, -, hkept⟩ := nofs_registers (s := s) (v := v) (f := (f.lockVerdict false).closeGates) 0 fun a => by
      rw [word_closeGates, word_lockVerdict, ← hf, word_setPll]; rfl
    have htally : f.tally = s.tally.setPll p := by rw [← hf]; rfl
    rw [State.tally_onDev, tally_closeGates, tally_lockVerdict, htally, ← hp]
    refine ⟨hnofs, rfl, rfl, fun hn => absurd hn hd, fun _ => ⟨rfl, rfl, rfl, rfl, fun hdet => ?_⟩, hkept, ?_⟩
    · have hout : (f.lockVerdict false).dev.out = f.dev.out ++ [.pin "LOCKF" 0 false] :=
        out_lockVerdict (by rw [htally, ← hp]; exact hdet)
      rw [← hf] at hout ⊢
      exact hout
    · exact (pending_lockVerdict f false).trans (by rw [← hf]; rfl)

/-- R134: the change that was followed has settled. -/
theorem runs_pllSettled {s : State} (hs : s.on pgSPLL SPLL_STAT_SLEWING) (hc : s.tally.pll.closed = false) :
    Runs .pllSettled s fun t =>
      t.tally = { s.tally with pll := { s.tally.pll with target := none, settled := s.tally.pll.inUse } } ∧
      t.rd pgSPLL SPLL_STAT_SLEWING = 0 ∧ DwordsKept [pgSPLL + SPLL_STAT_SLEWING.at 0] s t ∧ t.pending = s.pending := by
  obtain ⟨htally, hpend, -, hslew, hkept⟩ := pllSettle_frame s s.tally.pll.inUse
  exact runs_of (if_pos ⟨(State.on_work ..).mpr hs, by rw [hc]; decide⟩) ⟨htally, hslew, hkept, hpend⟩

/-- R135 to R137: the lock detector reports lock, and the change that waited is in force. -/
theorem runs_pllLockAcquired (s : State) : Runs .pllLockAcquired s fun t =>
    t.tally.pll.lockDet = true ∧ t.tally.pll.settled = s.tally.pll.target.getD s.tally.pll.inUse ∧
    t.tally.pll.inUse = s.tally.pll.target.getD s.tally.pll.inUse ∧ t.tally.pll.target = none ∧
    (s.tally.pll.lockDet = false → LastOut (.pin "LOCKF" 0 true) s t) ∧
    t.tally.a = s.tally.a ∧ t.rd pgSPLL SPLL_STAT_REF_OK = 1 ∧ t.rd pgSPLL SPLL_STAT_SLEWING = 0 ∧
    DwordsKept [pgSPLL + SPLL_STAT_REF_OK.at 0] s t ∧ t.pending = s.pending := by
  let x := s.tally.pll.target.getD s.tally.pll.inUse
  let x := s.tally.pll.target.getD s.tally.pll.inUse
  obtain ⟨htally, hpend, hout, hslew, hkept⟩ := pllSettle_frame (s.lockVerdict true) x
  rw [tally_lockVerdict] at htally
  refine runs_of (t := ((s.lockVerdict true).pllSettle x).onDev fun w => w.wr pgSPLL SPLL_STAT_REF_OK 1) rfl ?_
  rw [State.tally_onDev, htally]
  refine ⟨rfl, rfl, rfl, rfl, fun hdet => hout.trans (out_lockVerdict hdet), rfl, rd_wr_same _ _ _ _ _ (by decide), ?_, ?_,
    hpend.trans (pending_lockVerdict ..)⟩
  · exact (rd_wr_disj _ _ _ _ _ _ _ _ (by decide)).trans hslew
  · intro a ha
    rw [State.word_onDev, word_wr_ne _ _ _ _ _ _ (by simpa using ha), State.word_work, hkept a ha, word_lockVerdict]

end Sys2Proof.Machine
end

section
/-! PROOF. Settles O11, its second part: the gates close, holdover counts on REFCLK's edges, and the gates reopen (R138 to R142);
and the obligation. -/

namespace Sys2Proof.Machine

/-! ### The gates close -/

/-- R138, R140: LOCKED clears. -/
theorem runs_lockedClear (s : State) : Runs .lockedClear s fun t =>
    t.tally = { s.tally with pll := { s.tally.pll with closed := true } } ∧
    t.rd pgSPLL SPLL_STAT_LOCKED = 0 ∧ t.pending = s.pending ∧ DwordsKept [pgSPLL + SPLL_STAT_LOCKED.at 0] s t := by
  refine runs_of (t := s.closeGates.onDev fun w => w.wr pgSPLL SPLL_STAT_LOCKED 0) rfl ⟨rfl, rd_wr_same _ _ _ _ _ (by decide), rfl, ?_⟩
  intro a ha
  rw [State.word_onDev, word_wr_ne _ _ _ _ _ _ (by simpa using ha)]
  exact word_closeGates s a

/-- R139, R140, R142: a slip. -/
theorem runs_pllSlip (s : State) : Runs .pllSlip s fun t =>
    t.tally = { s.tally with pll := { s.tally.pll with closed := true, lockDet := false, quiet := 0 } } ∧
    t.rd pgSPLL SPLL_STAT_SLIP = 1 ∧ (s.tally.pll.lockDet = true → LastOut (.pin "LOCKF" 0 false) s t) ∧
    t.pending = s.pending ∧ DwordsKept [pgSPLL + SPLL_STAT_SLIP.at 0] s t := by
  let f := s.setPll { s.tally.pll with quiet := 0 }
  refine runs_of (t := (f.lockVerdict false).closeGates.onDev fun w => w.wr pgSPLL SPLL_STAT_SLIP 1) rfl
    ⟨?_, rd_wr_same _ _ _ _ _ (by decide), fun hdet => out_lockVerdict (s := f) hdet, pending_lockVerdict f false, ?_⟩
  · rw [State.tally_onDev, tally_closeGates, tally_lockVerdict]
    rfl
  · intro a ha
    rw [State.word_onDev, word_wr_ne _ _ _ _ _ _ (by simpa using ha), State.word_work, word_closeGates, word_lockVerdict]
    exact word_setPll s _ a

/-! ### Holdover -/

/-- The state of the gates and of the time's quality as holdover is entered (R140). -/
theorem rd_enterHoldover (w : Work) : w.enterHoldover.rd pgSPLL SPLL_STAT_HOLDOVER = 1 ∧
    w.enterHoldover.rd pgSPLL SPLL_STAT_GATED = 1 ∧ w.enterHoldover.rd pgTALLY TALLY_STAT_UNC_WIDE = 1 ∧
    w.enterHoldover.rd pgSPLL (clsField .ce) = 1 ∧ (w.enterHoldover.rd pgSPLL HDR_FLT_CAUSE).testBit 0 = true := by
  have hlanes (v : Work) (pg : Nat) (f : Field) (hp : pg % 0x1000 = 0) (hz : (zoneOf pg == .page .clane) = false) :
      v.lanesHoldover.rd pg f = v.rd pg f :=
    rd_of_view (K := (· == .lane)) (Z := (· == .page .clane)) (view_lanesHoldover v rfl rfl) pg f 0 hp hz
  rw [Work.enterHoldover]
  refine ⟨?_, ?_, ?_, ?_, ?_⟩
  all_goals rw [hlanes _ _ _ (by decide) (by decide)]
  · rw [rd_flt_ne _ _ _ _ _ _ _ _ (by decide), rd_wr_ne _ _ _ _ _ _ _ _ (by decide), rd_wr_ne _ _ _ _ _ _ _ _ (by decide),
      rd_wr_ne _ _ _ _ _ _ _ _ (by decide), rd_wr_disj _ _ _ _ _ _ _ _ (by decide), rd_wr_same _ _ _ _ _ (by decide)]
    rfl
  · rw [rd_flt_ne _ _ _ _ _ _ _ _ (by decide), rd_wr_ne _ _ _ _ _ _ _ _ (by decide), rd_wr_ne _ _ _ _ _ _ _ _ (by decide),
      rd_wr_ne _ _ _ _ _ _ _ _ (by decide), rd_wr_same _ _ _ _ _ (by decide)]
    rfl
  · rw [rd_flt_ne _ _ _ _ _ _ _ _ (by decide), rd_wr_disj _ _ _ _ _ _ _ _ (by decide), rd_wr_same _ _ _ _ _ (by decide)]
    rfl
  · exact rd_flt_class ..
  · rw [cause_flt _ _ _ _ _ _ (by decide) (by decide)]
    simp

@[simp] theorem tally_compareTally (s : State) (t : Tally) : (s.compareTally t).tally = t := rfl
@[simp] theorem pending_compareTally (s : State) (t : Tally) : (s.compareTally t).pending = s.pending := rfl

/-- With the gates closed an edge adds `d` ticks' worth, compares the counters, and enters holdover if it is the `first`. -/
theorem exec_holdoverRefclkEdge {s : State} {first : Bool} {d : Nat} (upset : List (Fin 110)) (hrun : s.tally.running = true)
    (hc : s.tally.pll.closed = true) (hfirst : s.work.on pgSPLL SPLL_STAT_HOLDOVER = !first)
    (hd : (if first then s.tally.hinc - s.tally.pll.sinceRef * s.tally.inc else s.tally.hinc) = d) :
    exec (.holdoverRefclkEdge upset) s = .next ((s.compareTally ((s.tally.advance d upset).elapse 16 0 true)).onDev fun w =>
      (w.when first Work.enterHoldover).wr pgSPLL SPLL_STAT_REF_OK 1) := by
  subst hd
  show execHoldoverRefclkEdge upset s = _
  rw [execHoldoverRefclkEdge, if_pos ⟨hrun, hc⟩, hfirst, Bool.not_not]

/-- The first edge after the gates closed enters holdover, less the ticks counted since the edge before (R140). -/
theorem runs_holdover_entered {s : State} (hrun : s.tally.running = true) (hc : s.tally.pll.closed = true)
    (hh : ¬ s.on pgSPLL SPLL_STAT_HOLDOVER) (upset : List (Fin 110)) : Runs (.holdoverRefclkEdge upset) s fun t =>
      units t.tally.a = (units s.tally.a + (s.tally.hinc - s.tally.pll.sinceRef * s.tally.inc)) % tallyPeriod ∧
      t.tally.pll.sinceRef = 0 ∧ t.rd pgSPLL SPLL_STAT_HOLDOVER = 1 ∧ t.rd pgSPLL SPLL_STAT_GATED = 1 ∧
      t.rd pgTALLY TALLY_STAT_UNC_WIDE = 1 ∧ t.flagged pgSPLL .ce 16 ∧ t.pending = s.pending := by
  have hexec := exec_holdoverRefclkEdge upset hrun hc (first := true) ((State.not_on_work ..).mpr hh) (if_pos rfl)
  generalize hT : (s.tally.advance (s.tally.hinc - s.tally.pll.sinceRef * s.tally.inc) upset).elapse 16 0 true = T at hexec
  refine runs_of hexec ?_
  have htally : (s.compareTally T).tally = T := tally_compareTally s T
  have hpend : (s.compareTally T).pending = s.pending := pending_compareTally s T
  generalize s.compareTally T = f at htally hpend
  obtain ⟨hhold, hgated, hwide, hce, hcause⟩ := rd_enterHoldover f.work
  have hkeep {pg : Nat} {g : Field} (h : pg + g.at 0 ≠ pgSPLL + SPLL_STAT_REF_OK.at 0 ∨
      (SPLL_STAT_REF_OK.lo + SPLL_STAT_REF_OK.wid ≤ g.lo ∨ g.lo + g.wid ≤ SPLL_STAT_REF_OK.lo)) :
      (f.onDev fun w => (w.when true Work.enterHoldover).wr pgSPLL SPLL_STAT_REF_OK 1).rd pg g = f.work.enterHoldover.rd pg g := by
    rw [State.rd_onDev, when_true]
    exact h.elim (rd_wr_ne _ _ _ _ _ _ _ _) (rd_wr_disj _ _ _ _ _ _ _ _)
  rw [State.tally_onDev, htally]
  refine ⟨?_, ?_, (hkeep (.inr (by decide))).trans hhold, (hkeep (.inr (by decide))).trans hgated,
    (hkeep (.inl (by decide))).trans hwide, ⟨(hkeep (.inl (by decide))).trans hce, ?_⟩, (State.pending_onDev ..).trans hpend⟩
  · rw [← hT, elapse_a, advance_a, timeAdd_units]
  · rw [← hT, elapse_sinceRef]
  · rw [hkeep (.inl (by decide))]
    exact hcause

/-- Equal counters with no injection armed: the comparison finds nothing (R125). -/
theorem tallyCompare_equal (w : Work) (h : w.on pgTALLY HDR_INJ_ARMED = false) : w.tallyCompare 0 = w := by
  rw [Work.tallyCompare, Work.armedFor, h]
  rfl

/-- A later edge adds HINC (R140). -/
theorem runs_holdover_edge {s : State} (hrun : s.tally.running = true) (hc : s.tally.pll.closed = true)
    (hh : s.on pgSPLL SPLL_STAT_HOLDOVER) (hb : s.tally.b = s.tally.a) (hinj : ¬ s.on pgTALLY HDR_INJ_ARMED) :
    Runs (.holdoverRefclkEdge []) s fun t =>
      units t.tally.a = (units s.tally.a + s.tally.hinc) % tallyPeriod ∧ t.tally.b = t.tally.a ∧
      t.tally.pll.sinceRef = 0 ∧ (∀ k : Kind, k.same s.dev t.dev) ∧ DwordsKept [pgSPLL + SPLL_STAT_REF_OK.at 0] s t ∧
      t.pending = s.pending := by
  generalize hT : (s.tally.advance s.tally.hinc []).elapse 16 0 true = T
  have ha : T.a = timeAdd s.tally.a s.tally.hinc := by rw [← hT, elapse_a, advance_a]
  have hTb : T.b = T.a := by
    rw [ha, ← hT, elapse_b, advance_b, hb, timeUpset_nil _ (timeAdd_legal ..)]
  have hcompare : s.compareTally T = s.setTally T := by
    have hequal : timeCode T.a ^^^ timeCode T.b = 0 := by rw [hTb, Nat.xor_self]
    have hoff : (s.setTally T).work.on pgTALLY HDR_INJ_ARMED = false :=
      (State.not_on_work ..).mpr (by rwa [State.on, State.rd_setTally])
    rw [State.compareTally, hequal, onDev_congr (g := fun w => w) (tallyCompare_equal _ hoff), onDev_id]
  have hexec := exec_holdoverRefclkEdge [] hrun hc (first := false) ((State.on_work ..).mpr hh) (if_neg Bool.false_ne_true)
  simp only [hT, hcompare, when_false] at hexec
  refine runs_of hexec ?_
  have hdev : (s.setTally T).dev = s.dev := State.dev_setTally s T
  have hword (a : Nat) : (s.setTally T).word a = s.word a := State.word_setTally s T a
  have htally : (s.setTally T).tally = T := State.tally_setTally s T
  have hpend : (s.setTally T).pending = s.pending := State.pending_setTally s T
  generalize s.setTally T = f at hdev hword htally hpend
  rw [State.tally_onDev, htally, State.dev_onDev]
  refine ⟨by rw [ha, timeAdd_units], hTb, by rw [← hT, elapse_sinceRef], fun k => hdev ▸ k.same_put f.work _ _, fun a hn => ?_,
    (State.pending_onDev ..).trans hpend⟩
  rw [State.word_onDev, word_wr_ne _ _ _ _ _ _ (by simpa using hn)]
  exact hword a

/-! ### The gates reopen -/

/-- R142: with lock, LOCKED, SETTLE periods without a slip and no change waiting, the gates reopen. -/
theorem runs_gatesReopen {s : State} (hc : s.tally.pll.closed = true) (hdet : s.tally.pll.lockDet = true)
    (hl : s.on pgSPLL SPLL_STAT_LOCKED) (ht : s.tally.pll.target = none) (hq : s.rd pgSPLL SPLL_SETTLE ≤ s.tally.pll.quiet) :
    Runs .gatesReopen s fun t =>
      t.tally.pll.closed = false ∧ t.tally.a = s.tally.a ∧ t.rd pgSPLL SPLL_STAT_HOLDOVER = 0 ∧
      t.rd pgSPLL SPLL_STAT_GATED = 0 ∧ t.rd pgTALLY TALLY_STAT_HOLDOVER = 0 ∧
      t.rd pgTALLY TALLY_STAT_UNC_WIDE = s.rd pgTALLY TALLY_STAT_UNC_WIDE ∧
      t.rd pgSPLL SPLL_RELOCK_COUNT = min (s.rd pgSPLL SPLL_RELOCK_COUNT + 1) SPLL_RELOCK_COUNT.max ∧
      (∀ k : Kind, k.same s.dev t.dev) ∧
      DwordsKept [pgSPLL + SPLL_STAT_HOLDOVER.at 0, pgSPLL + SPLL_RELOCK_COUNT.at 0, pgTALLY + TALLY_STAT_HOLDOVER.at 0] s t ∧
      t.pending = s.pending := by
  have hmay : s.mayReopen = true := by
    rw [State.mayReopen, hc, hdet, ht, (State.on_work ..).mpr hl, State.rd_work, decide_eq_true hq]
    rfl
  refine runs_of (if_pos hmay) ?_
  generalize hf : s.setPll { s.tally.pll with closed := false, sinceRef := 0 } = f
  have htally : f.tally = s.tally.setPll { s.tally.pll with closed := false, sinceRef := 0 } := by rw [← hf]; rfl
  have hword (a : Nat) : f.work.word a = s.word a := by rw [← hf]; exact word_setPll s _ a
  have hrd (pg : Nat) (g : Field) : f.work.rd pg g = s.rd pg g := rd_congr (hword _)
  have halters : f.work.Alters []
      [pgSPLL + SPLL_STAT_HOLDOVER.at 0, pgSPLL + SPLL_RELOCK_COUNT.at 0, pgTALLY + TALLY_STAT_HOLDOVER.at 0]
      ((((f.work.wr pgSPLL SPLL_STAT_HOLDOVER 0).wr pgSPLL SPLL_STAT_GATED 0).wr pgTALLY TALLY_STAT_HOLDOVER 0).count pgSPLL
        SPLL_RELOCK_COUNT) := .count (.wr (.wr (.wr .refl (by decide)) (by decide)) (by decide)) (by decide)
  simp only [State.tally_onDev, State.rd_onDev, State.pending_onDev, htally]
  refine ⟨rfl, rfl, ?_, ?_, ?_, ?_, ?_, fun k => ?_, fun a ha => (halters.words a ha).trans (hword a), ?_⟩
  · rw [Work.count, rd_wr_ne _ _ _ _ _ _ _ _ (by decide), rd_wr_ne _ _ _ _ _ _ _ _ (by decide),
      rd_wr_disj _ _ _ _ _ _ _ _ (by decide), rd_wr_same _ _ _ _ _ (by decide)]
    rfl
  · rw [Work.count, rd_wr_ne _ _ _ _ _ _ _ _ (by decide), rd_wr_ne _ _ _ _ _ _ _ _ (by decide), rd_wr_same _ _ _ _ _ (by decide)]
    rfl
  · rw [Work.count, rd_wr_ne _ _ _ _ _ _ _ _ (by decide), rd_wr_same _ _ _ _ _ (by decide)]
    rfl
  · rw [Work.count, rd_wr_ne _ _ _ _ _ _ _ _ (by decide), rd_wr_disj _ _ _ _ _ _ _ _ (by decide),
      rd_wr_ne _ _ _ _ _ _ _ _ (by decide), rd_wr_ne _ _ _ _ _ _ _ _ (by decide), hrd]
  · rw [rd_count _ _ _ _ _ (by decide), rd_wr_ne _ _ _ _ _ _ _ _ (by decide), rd_wr_ne _ _ _ _ _ _ _ _ (by decide),
      rd_wr_ne _ _ _ _ _ _ _ _ (by decide), hrd]
  · have hdev : f.dev = s.dev := by rw [← hf]; rfl
    exact hdev ▸ halters.kinds k (by simp)
  · rw [← hf]; rfl

/-- With one of the conditions unmet they stay as they are. -/
theorem runs_gatesReopen_not {s : State}
    (h : ¬ s.on pgSPLL SPLL_STAT_LOCKED ∨ s.tally.pll.quiet < s.rd pgSPLL SPLL_SETTLE ∨ s.tally.pll.target ≠ none) :
    Runs .gatesReopen s fun t => t = s := by
  refine runs_of (if_neg ?_) rfl
  rw [State.mayReopen]
  simp only [Bool.and_eq_true, decide_eq_true_eq, State.on_work, Option.isNone_iff_eq_none]
  rintro ⟨⟨⟨-, ht⟩, hl⟩, hq⟩
  rcases h with h | h | h
  · exact h hl
  · exact absurd hq (Nat.not_le.mpr h)
  · exact h ht

/-! ### The obligation -/

/-- Settles O11, command by command of the PLL. -/
theorem pllFollowsAndHoldsOver : Obligations.PllFollowsAndHoldsOver := by
  unfold Obligations.PllFollowsAndHoldsOver
  refine ⟨fun s => ⟨fun hl hr v => ⟨runs_nofs_inRange hl hr, fun hv => ?_⟩, runs_pllSettled, runs_pllLockAcquired s⟩,
    fun s => ⟨runs_lockedClear s, runs_pllSlip s, fun hrun hc _ hh => runs_holdover_entered hrun hc hh,
      fun hrun hc _ => runs_holdover_edge hrun hc, runs_gatesReopen, runs_gatesReopen_not⟩⟩
  refine runs_nofsWrite hr ?_
  rw [nofs_refused hl hv]
  exact ⟨rd_wr_same _ _ _ _ _ (by decide), (Work.Alters.refl.badval (by simp)).changes⟩

end Sys2Proof.Machine
end

section
/-! SUPPORT. The field tables again: fields that share a dword, and the bits that an access code names in it. -/

namespace Sys2Proof.Machine

/-- The element that an offset names is one of the array. -/
theorem Field.lt_of_index? {f : Field} {o i : Nat} (h : f.index? o = some i) : i < f.cnt + 1 := by
  unfold Field.index? at h
  split_ifs at h with h1 h2 h3
  · cases h; omega
  · obtain ⟨-, -, hlt⟩ := h3
    cases h; omega

/-- Two fields at different bits of a dword. -/
abbrev Field.Apart (f g : Field) : Prop := f.lo + f.wid ≤ g.lo ∨ g.lo + g.wid ≤ f.lo

theorem Field.Apart.mask {f g : Field} (h : f.Apart g) {j : Nat} (hf : f.mask.getLsbD j = true) : g.mask.getLsbD j = false := by
  rw [Field.getLsbD_mask] at hf
  simp only [Bool.and_eq_true, decide_eq_true_eq] at hf
  exact g.mask_of_not_mem j (by omega)

/-- No element of `f` lies in a dword of `g`: one ends before the other begins, they alternate in equal steps, or else element by
element. -/
def Field.avoids (f g : Field) : Bool :=
  Nat.blt (f.off + f.cnt * f.stride) g.off || Nat.blt (g.off + g.cnt * g.stride) f.off ||
    (Nat.beq f.stride g.stride && !Nat.beq (f.off % f.stride) (g.off % g.stride)) ||
    (List.range (f.cnt + 1)).all fun i => (g.index? (f.at i)).isNone

/-- An element lies within its array, a number of strides from its begin. -/
theorem Field.bounds_of_index? {f : Field} {o i : Nat} (h : f.index? o = some i) :
    o ≤ f.off + f.cnt * f.stride ∧ o % f.stride = f.off % f.stride := by
  have hle := Field.off_le_of_index? h
  unfold Field.index? at h
  split_ifs at h with h1 h2 h3
  · rw [h2]
    exact ⟨Nat.le_add_right .., rfl⟩
  · obtain ⟨-, hmod, hlt⟩ := h3
    have hdvd : f.stride ∣ o - f.off := Nat.dvd_of_mod_eq_zero hmod
    have hdist : o - f.off ≤ f.cnt * f.stride := by
      rw [← Nat.div_mul_cancel hdvd]
      exact Nat.mul_le_mul_right _ hlt.le
    exact ⟨by omega, ((Nat.modEq_iff_dvd' hle).2 hdvd).symm⟩

theorem Field.index?_of_avoids {f g : Field} (h : f.avoids g = true) {o i : Nat} (hf : f.index? o = some i) (ho : o < 0x1000) :
    g.index? o = none := by
  cases hg : g.index? o with
  | none => rfl
  | some j =>
    obtain ⟨hf1, hf2⟩ := Field.bounds_of_index? hf
    obtain ⟨hg1, hg2⟩ := Field.bounds_of_index? hg
    have hf0 := Field.off_le_of_index? hf
    have hg0 := Field.off_le_of_index? hg
    simp only [Field.avoids, Bool.or_eq_true, Bool.and_eq_true, Nat.blt_eq, Nat.beq_eq, Bool.not_eq_true'] at h
    rcases h with ((h | h) | ⟨h, hne⟩) | h
    · omega
    · omega
    · rw [h] at hf2 hne
      rw [← hf2, hg2, Nat.beq_refl] at hne
      cases hne
    · have hi := List.all_eq_true.1 h i (List.mem_range.2 (Field.lt_of_index? hf))
      rw [Field.at_of_index? hf ho, hg] at hi
      cases hi

/-- An element of a field's access code in the block's part of a page. -/
theorem mem_accAt_block {k : PageKind} {o : Nat} {acc : Acc} {e : Field × Nat} (h : e ∈ accAt k o acc) (ho : 0x40 ≤ o) :
    e.1 ∈ (blockFields k).filter (·.acc == acc) ∧ e.1.index? o = some e.2 := by
  obtain ⟨hf, ha⟩ := mem_accAt.1 h
  obtain ⟨hm, hi⟩ := mem_fieldsAt.1 hf
  rw [if_neg (by omega)] at hm
  exact ⟨List.mem_filter.2 ⟨hm, beq_iff_eq.2 ha⟩, hi⟩

/-- RWS fields of one dword have bits of their own (R66). -/
theorem rws_apart_table (k : PageKind) : ∀ f ∈ (blockFields k).filter (·.acc == .rws), ∀ g ∈ (blockFields k).filter (·.acc == .rws),
    f.Apart g ∨ f.avoids g = true ∨ f = g := by cases k <;> decide +kernel

/-- A register that counts holds counters alone, which reset to 0 (R7). -/
theorem cnt_alone_table (k : PageKind) : ∀ f ∈ (blockFields k).filter (·.acc == .cnt), f.reset = 0 ∧ ∀ g ∈ blockFields k,
    g.acc = .cnt ∨ f.avoids g = true := by cases k <;> decide +kernel

/-- Two RWS fields of a dword that share a bit are the same. -/
theorem eq_of_rws_mask {k : PageKind} {o : Nat} {d e : Field × Nat} {j : Nat} (hd : d ∈ accAt k o .rws) (he : e ∈ accAt k o .rws)
    (h1 : 0x40 ≤ o) (h2 : o < 0x1000) (hjd : d.1.mask.getLsbD j = true) (hje : e.1.mask.getLsbD j = true) : d = e := by
  obtain ⟨hdm, hdi⟩ := mem_accAt_block hd h1
  obtain ⟨hem, hei⟩ := mem_accAt_block he h1
  rcases rws_apart_table k d.1 hdm e.1 hem with h | h | h
  · rw [h.mask hjd] at hje; cases hje
  · rw [Field.index?_of_avoids h hdi h2] at hei; cases hei
  · rw [h, hei] at hdi
    exact Prod.ext h (Option.some.inj hdi).symm

/-- In a register that counts every field is a counter. -/
theorem acc_of_counters {k : PageKind} {o : Nat} (h1 : 0x40 ≤ o) (h2 : o < 0x1000) (hne : accAt k o .cnt ≠ []) :
    ∀ e ∈ fieldsAt k o, e.1.acc = .cnt ∧ e.1.reset = 0 := by
  obtain ⟨c, hc⟩ := List.exists_mem_of_ne_nil _ hne
  obtain ⟨hcm, hci⟩ := mem_accAt_block hc h1
  intro e he
  have hacc : e.1.acc = .cnt := by
    obtain ⟨hm, hi⟩ := mem_fieldsAt.1 he
    rw [if_neg (by omega)] at hm
    rcases (cnt_alone_table k c.1 hcm).2 e.1 hm with h | h
    · exact h
    · rw [Field.index?_of_avoids h hci h2] at hi; cases hi
  exact ⟨hacc, (cnt_alone_table k e.1 (mem_accAt_block (mem_accAt.2 ⟨he, hacc⟩) h1).1).1⟩

/-- The bits of an access code are those of its fields. -/
theorem getLsbD_maskAt (k : PageKind) (o : Nat) (acc : Acc) (j : Nat) :
    (maskAt k o acc).getLsbD j = true ↔ ∃ e ∈ accAt k o acc, e.1.mask.getLsbD j = true := by
  have hfold (l : List (Field × Nat)) (m : Word) :
      (l.foldl (fun m f => if f.1.acc = acc then m ||| f.1.mask else m) m).getLsbD j = true ↔
        m.getLsbD j = true ∨ ∃ e ∈ l, e.1.acc = acc ∧ e.1.mask.getLsbD j = true := by
    induction l generalizing m with
    | nil => simp
    | cons e l ih =>
      rw [List.foldl_cons, ih]
      split_ifs with h
      · simp [h, BitVec.getLsbD_or, or_assoc]
      · simp [h]
  rw [maskAt, hfold, show (0 : Word).getLsbD j = false from BitVec.getLsbD_zero]
  simp only [Bool.false_eq_true, false_or, mem_accAt, and_assoc]

end Sys2Proof.Machine
end

section
/-! PROOF. Settles O16, its first part: what a host write stores in the shadow set (R66, R67, R70). -/

namespace Sys2Proof.Machine

/-! ### The shadow set -/

theorem shWord_shPut_same (w : Work) (a : Nat) (d : Word) : (w.shPut a d).shWord a = d := cellsGet_put_same ..

theorem shWord_shPut_ne (w : Work) {a b : Nat} (d : Word) (h : b ≠ a) : (w.shPut a d).shWord b = w.shWord b :=
  cellsGet_put_ne _ _ _ _ _ h

theorem shWord_shBits_same (w : Work) (a : Nat) (m x : Word) : (w.shBits a m x).shWord a = w.shWord a &&& ~~~m ||| x &&& m :=
  shWord_shPut_same ..

theorem shWord_shBits_ne (w : Work) {a b : Nat} (m x : Word) (h : b ≠ a) : (w.shBits a m x).shWord b = w.shWord b :=
  shWord_shPut_ne _ _ h

@[simp] theorem shWord_wr (w : Work) (pg : Nat) (f : Field) (v i a : Nat) : (w.wr pg f v i).shWord a = w.shWord a := rfl

/-! ### Values that stay defined -/

/-- What a description calls defined depends on no STAT register of a page (R10). -/
theorem valueOk_congr {w v : Work} (k : PageKind) (inst : Nat) (f : Field) (i : Nat) (x : Word)
    (h : ∀ a, a % 0x1000 ≠ 0xC → v.word a = w.word a) : v.valueOk k inst f i x = w.valueOk k inst f i x := by
  have hrd {pg : Nat} (g : Field) (j : Nat) (hp : pg % 0x1000 = 0) (hg : g.at j ≠ 0xC) : v.rd pg g j = w.rd pg g j := by
    have : g.at j < 0x1000 := Nat.mod_lt _ (by decide)
    exact rd_congr (h _ (by omega))
  have hper : v.rd pgTALLY TALLY_TO_PER i = w.rd pgTALLY TALLY_TO_PER i :=
    hrd _ _ rfl (by simp only [Field.at, TALLY_TO_PER]; omega)
  have hcyc (n : Nat) : v.on (pgRG n) RG_CYC_CTL = w.on (pgRG n) RG_CYC_CTL := by
    rw [Work.on, Work.on, hrd _ _ (mod_pgRG n) (by decide)]
  have hen : v.on pgCSTORE CSTORE_CEIL_ACT_EN = w.on pgCSTORE CSTORE_CEIL_ACT_EN := by
    rw [Work.on, Work.on, hrd _ _ rfl (by decide)]
  have hmax : v.rdS pgCSTORE CSTORE_CEIL_ACT_VREADY_MAX = w.rdS pgCSTORE CSTORE_CEIL_ACT_VREADY_MAX := by
    rw [Work.rdS, Work.rdS, hrd _ _ rfl (by decide)]
  have hlane (c : Nat) : v.laneAllowed c = w.laneAllowed c := by
    rw [Work.laneAllowed, Work.laneAllowed, hrd _ _ rfl (by decide), hrd CSTORE_LANES_ACT_HI _ rfl (by decide)]
  simp only [Work.valueOk, hper, hcyc, hen, hmax, hlane]

/-! ### Storing RWS fields -/

/-- Store the bits of each field of `l` that `ok` passes in the shadow dword of `a`, and flag the others (R10). -/
def Work.shFields (w : Work) (ok : Field × Nat → Bool) (a pg : Nat) (l : List (Field × Nat)) (x : Word) : Work :=
  w.each l fun v e => if ok e then v.shBits a e.1.mask x else v.badval pg

section
variable {ok : Field × Nat → Bool} {a pg : Nat} {x : Word}

theorem shFields_cons (w : Work) (e : Field × Nat) (l : List (Field × Nat)) :
    w.shFields ok a pg (e :: l) x = (if ok e then w.shBits a e.1.mask x else w.badval pg).shFields ok a pg l x := rfl

theorem shFields_alters (w : Work) (l : List (Field × Nat)) :
    w.Alters [.shadow] [pg + HDR_STAT_BADVAL.at 0] (w.shFields ok a pg l x) := by
  induction l generalizing w with
  | nil => exact .refl
  | cons e l ih =>
    rw [shFields_cons]
    refine Work.Alters.trans ?_ (ih _)
    split
    · exact Work.Alters.refl.shPut (by simp)
    · exact Work.Alters.refl.badval (by simp)

theorem shWord_shFields_ne (w : Work) (l : List (Field × Nat)) {b : Nat} (h : b ≠ a) :
    (w.shFields ok a pg l x).shWord b = w.shWord b := by
  induction l generalizing w with
  | nil => rfl
  | cons e l ih =>
    rw [shFields_cons, ih]
    split
    · exact shWord_shBits_ne _ _ _ h
    · rfl

/-- The bits of the fields that pass come from the dword written; the others stay. -/
theorem getLsbD_shFields (w : Work) (l : List (Field × Nat)) (j : Nat) : ((w.shFields ok a pg l x).shWord a).getLsbD j =
    if ∃ e ∈ l, ok e = true ∧ e.1.mask.getLsbD j = true then x.getLsbD j else (w.shWord a).getLsbD j := by
  induction l generalizing w with
  | nil => simp [Work.shFields, each_nil]
  | cons e l ih =>
    rw [shFields_cons, ih]
    by_cases hl : ∃ c ∈ l, ok c = true ∧ c.1.mask.getLsbD j = true
    · rw [if_pos hl, if_pos (by obtain ⟨c, hc, h⟩ := hl; exact ⟨c, List.mem_cons_of_mem _ hc, h⟩)]
    · rw [if_neg hl]
      by_cases hok : ok e = true
      · rw [if_pos hok, shWord_shBits_same, show w.shWord a &&& ~~~e.1.mask ||| x &&& e.1.mask = e.1.merge (w.shWord a) x from rfl,
          Field.getLsbD_merge]
        by_cases hm : e.1.mask.getLsbD j = true
        · rw [if_pos hm, if_pos ⟨e, List.mem_cons_self, hok, hm⟩]
        · rw [if_neg hm, if_neg]
          rintro ⟨c, hc, h1, h2⟩
          rcases List.mem_cons.1 hc with rfl | hc
          · exact hm h2
          · exact hl ⟨c, hc, h1, h2⟩
      · rw [if_neg hok, if_neg, Work.badval, shWord_wr]
        rintro ⟨c, hc, h1, h2⟩
        rcases List.mem_cons.1 hc with rfl | hc
        · exact hok h1
        · exact hl ⟨c, hc, h1, h2⟩

theorem getLsbD_shFields_set (w : Work) {l : List (Field × Nat)} {e : Field × Nat} (he : e ∈ l) (hok : ok e = true) {j : Nat}
    (hj : e.1.mask.getLsbD j = true) : ((w.shFields ok a pg l x).shWord a).getLsbD j = x.getLsbD j :=
  (getLsbD_shFields w l j).trans (if_pos ⟨e, he, hok, hj⟩)

theorem getLsbD_shFields_stay (w : Work) {l : List (Field × Nat)} {j : Nat} (h : ∀ e ∈ l, e.1.mask.getLsbD j = true → ok e = false) :
    ((w.shFields ok a pg l x).shWord a).getLsbD j = (w.shWord a).getLsbD j :=
  (getLsbD_shFields w l j).trans (if_neg fun ⟨e, he, hok, hj⟩ => by rw [h e he hj] at hok; cases hok)

/-- Where every field passes, no flag is written. -/
theorem rd_shFields_pass (w : Work) (l : List (Field × Nat)) (h : ∀ e ∈ l, ok e = true) :
    (w.shFields ok a pg l x).rd pg HDR_STAT_BADVAL = w.rd pg HDR_STAT_BADVAL := by
  induction l generalizing w with
  | nil => rfl
  | cons e l ih =>
    rw [shFields_cons, if_pos (h e List.mem_cons_self), ih _ fun c hc => h c (List.mem_cons_of_mem _ hc)]
    rfl

/-- A field that does not pass sets BADVAL (R10). -/
theorem rd_shFields_badval (w : Work) (l : List (Field × Nat)) (h : (∃ e ∈ l, ok e = false) ∨ w.rd pg HDR_STAT_BADVAL = 1) :
    (w.shFields ok a pg l x).rd pg HDR_STAT_BADVAL = 1 := by
  induction l generalizing w with
  | nil => simpa [Work.shFields, each_nil] using h
  | cons e l ih =>
    rw [shFields_cons]
    apply ih
    cases hok : ok e with
    | false => exact .inr (rd_wr_same _ _ _ _ _ (by decide))
    | true =>
      refine h.imp (fun ⟨c, hc, hno⟩ => ?_) id
      rcases List.mem_cons.1 hc with rfl | hc
      · rw [hok] at hno; cases hno
      · exact ⟨c, hc, hno⟩
end

/-- The store of a page's RWS fields: which values pass is that of the device before it. -/
theorem rwsStore_page (w : Work) {a inst : Nat} {k : PageKind} (x : Word) (hw : windowOf a = none) (hp : pageOf a = some (k, inst)) :
    (w.rwsStore a x Work.shBits).1 =
      w.shFields (fun e => w.valueOk k inst e.1 e.2 x) a (a / 0x1000 * 0x1000) (accAt k (a % 0x1000) .rws) x := by
  have hfold (l : List (Field × Nat)) (v : Work) (b : Bool) (h : ∀ c, c % 0x1000 ≠ 0xC → v.word c = w.word c) :
      (l.foldl (fun q e => if q.1.valueOk k inst e.1 e.2 x then (q.1.shBits a e.1.mask x, q.2)
        else (q.1.badval (a / 0x1000 * 0x1000), true)) (v, b)).1 =
        v.shFields (fun e => w.valueOk k inst e.1 e.2 x) a (a / 0x1000 * 0x1000) l x := by
    induction l generalizing v b with
    | nil => rfl
    | cons e l ih =>
      rw [List.foldl_cons, shFields_cons, valueOk_congr k inst e.1 e.2 x h]
      split
      · exact ih _ _ h
      · refine ih _ _ fun c hc => ?_
        rw [Work.badval, word_wr_ne _ _ _ _ _ _ (by rw [show HDR_STAT_BADVAL.at 0 = 0xC from rfl]; omega)]
        exact h c hc
  rw [Work.rwsStore, hw, hp]
  exact hfold _ w false fun c _ => rfl

theorem rwsMask_page {a : Nat} {q : PageKind × Nat} (hw : windowOf a = none) (hp : pageOf a = some q) (h1 : 0x40 ≤ a % 0x1000)
    (h2 : a % 0x1000 < 0x800) : rwsMask a = maskAt q.1 (a % 0x1000) .rws := by
  rw [rwsMask, hw, hp]
  exact if_pos ⟨h1, h2⟩

/-! ### The cases of a write of the shadow set -/

theorem shadowWrite_frozen (w : Work) (act pg : Nat) (x : Word) (h : w.shadowFrozen = true) :
    (w.shadowWrite act pg x).1 = w.wr pg HDR_STAT_SHADOW_WR 1 := by
  rw [Work.shadowWrite, if_pos h]

theorem shadowWrite_window (w : Work) {act : Nat} (pg : Nat) (x : Word) (h : w.shadowFrozen = false) (hw : (windowOf act).isSome = true) :
    (w.shadowWrite act pg x).1 = w.shBits act (rwsMask act) x := by
  have hnone : (windowOf act).isNone = false := by rw [Option.isNone_eq_false_iff]; exact hw
  rw [Work.shadowWrite, h, hnone, Bool.false_and, Bool.false_and, if_neg Bool.false_ne_true, if_neg Bool.false_ne_true, Work.rwsStore,
    if_pos hw]
  rfl

theorem shadowWrite_locked (w : Work) {act i : Nat} {k : PageKind} (pg : Nat) (x : Word) (h : w.shadowFrozen = false)
    (hw : windowOf act = none) (hp : pageOf act = some (k, i)) (hl : w.on pg HDR_LOCK_LOCKED = true)
    (hne : accAt k (act % 0x1000) .rws ≠ []) : (w.shadowWrite act pg x).1 = w.wr pg HDR_STAT_LOCK_WR 1 := by
  have hlk : lockable k (act % 0x1000) = true := by
    rw [lockable, show (accAt k (act % 0x1000) .rws).isEmpty = false by simpa using hne]
    simp
  rw [Work.shadowWrite, h, hw, hl, hp]
  exact congrArg Prod.fst (if_pos hlk)

theorem shadowWrite_page (w : Work) {act i : Nat} {k : PageKind} (pg : Nat) (x : Word) (h : w.shadowFrozen = false)
    (hw : windowOf act = none) (hp : pageOf act = some (k, i)) (hl : w.on pg HDR_LOCK_LOCKED = false) :
    (w.shadowWrite act pg x).1 = (w.shFields (fun e => w.valueOk k i e.1 e.2 x) act (act / 0x1000 * 0x1000)
      (accAt k (act % 0x1000) .rws) x).when (rwsMask act != 0) fun w => w.wr pg HDR_STAT_SHADOW_DIRTY 1 := by
  rw [← rwsStore_page w x hw hp, Work.shadowWrite, h, hw, hl]
  rfl

/-! ### The obligation's first part -/

section
variable {s : State} {act pg : Nat} (x : Word)

/-- R70: while a swap is armed or pending or a set copy runs. -/
theorem onDev_shadowWrite_frozen (h : s.on pgPKG PKG_SWAP_STAT_ARMED ∨ s.on pgPKG PKG_SWAP_STAT_PENDING ∨ s.on pgPKG PKG_SWAP_STAT_COPY_BUSY) :
    (s.onDev fun w => (w.shadowWrite act pg x).1).rd pg HDR_STAT_SHADOW_WR = 1 ∧
      OnlyDwords [pg + HDR_STAT_SHADOW_WR.at 0] s (s.onDev fun w => (w.shadowWrite act pg x).1) := by
  have hf : s.work.shadowFrozen = true := by
    simp only [Work.shadowFrozen, Bool.or_eq_true, State.on_work]
    tauto
  rw [onDev_congr (g := fun w => w.wr pg HDR_STAT_SHADOW_WR 1) (shadowWrite_frozen s.work act pg x hf)]
  exact ⟨rd_wr_same _ _ _ _ _ (by decide), (Work.Alters.refl.wr (by simp)).changes⟩

/-- R67: a shadow window stores. -/
theorem onDev_shadowWrite_window (hf : s.work.shadowFrozen = false) (hw : (windowOf act).isSome = true) :
    let t := s.onDev fun w => (w.shadowWrite act pg x).1
    t.work.shWord act = (s.work.shWord act &&& ~~~rwsMask act) ||| (x &&& rwsMask act) ∧
      (∀ b, b ≠ act → t.work.shWord b = s.work.shWord b) ∧ Changes [.shadow] [] s t := by
  rw [onDev_congr (g := fun w => w.shBits act (rwsMask act) x) (shadowWrite_window s.work pg x hf hw)]
  exact ⟨shWord_shBits_same s.work act _ x, fun b hb => shWord_shBits_ne s.work _ x hb, (Work.Alters.refl.shPut (by simp)).changes⟩

/-- R64: a locked page ignores it. -/
theorem onDev_shadowWrite_locked {k : PageKind} {i : Nat} (hf : s.work.shadowFrozen = false) (hw : windowOf act = none)
    (hp : pageOf act = some (k, i)) (hl : s.on pg HDR_LOCK_LOCKED) (hne : accAt k (act % 0x1000) .rws ≠ []) :
    let t := s.onDev fun w => (w.shadowWrite act pg x).1
    t.rd pg HDR_STAT_LOCK_WR = 1 ∧ OnlyDwords [pg + HDR_STAT_LOCK_WR.at 0] s t := by
  rw [onDev_congr (g := fun w => w.wr pg HDR_STAT_LOCK_WR 1) (shadowWrite_locked s.work pg x hf hw hp ((State.on_work ..).mpr hl) hne)]
  exact ⟨rd_wr_same _ _ _ _ _ (by decide), (Work.Alters.refl.wr (by simp)).changes⟩

/-- R66: a shadow view stores the RWS fields whose values are defined, and flags the others (R10). -/
theorem onDev_shadowWrite_page {k : PageKind} {i : Nat} (hf : s.work.shadowFrozen = false) (hs : pg = act / 0x1000 * 0x1000)
    (h1 : 0x40 ≤ act % 0x1000) (h2 : act % 0x1000 < 0x800) (hw : windowOf act = none)
    (hp : pageOf act = some (k, i)) (hl : ¬ s.on pg HDR_LOCK_LOCKED) :
    let t := s.onDev fun w => (w.shadowWrite act pg x).1
    (∀ e ∈ accAt k (act % 0x1000) .rws, e.1.get (t.work.shWord act) =
      if s.work.valueOk k i e.1 e.2 x then e.1.get x else e.1.get (s.work.shWord act)) ∧
    ((∃ e ∈ accAt k (act % 0x1000) .rws, ¬ s.work.valueOk k i e.1 e.2 x) → t.rd pg HDR_STAT_BADVAL = 1) ∧
    ((∀ e ∈ accAt k (act % 0x1000) .rws, s.work.valueOk k i e.1 e.2 x) → t.rd pg HDR_STAT_BADVAL = s.rd pg HDR_STAT_BADVAL) ∧
    t.work.shWord act &&& ~~~rwsMask act = s.work.shWord act &&& ~~~rwsMask act ∧
    (∀ b, b ≠ act → t.work.shWord b = s.work.shWord b) ∧
    (rwsMask act ≠ 0 → t.rd pg HDR_STAT_SHADOW_DIRTY = 1) ∧ Changes [.shadow] [pg + HDR_STAT_SHADOW_DIRTY.at 0] s t := by
  generalize hv : s.work.shFields (fun e => s.work.valueOk k i e.1 e.2 x) act pg (accAt k (act % 0x1000) .rws) x = v
  have hwrite : (s.work.shadowWrite act pg x).1 = v.when (rwsMask act != 0) fun w => w.wr pg HDR_STAT_SHADOW_DIRTY 1 := by
    rw [shadowWrite_page s.work pg x hf hw hp ((State.not_on_work ..).mpr hl), ← hs, ← hv]
  have hsh (b : Nat) : (v.when (rwsMask act != 0) fun w => w.wr pg HDR_STAT_SHADOW_DIRTY 1).shWord b = v.shWord b := by
    unfold Work.when
    split <;> rfl
  have hbad : (v.when (rwsMask act != 0) fun w => w.wr pg HDR_STAT_SHADOW_DIRTY 1).rd pg HDR_STAT_BADVAL =
      v.rd pg HDR_STAT_BADVAL := by
    unfold Work.when
    split
    · exact rd_wr_disj _ _ _ _ _ _ _ _ (by decide)
    · rfl
  have halters : s.work.Alters [.shadow] [pg + HDR_STAT_SHADOW_DIRTY.at 0]
      (v.when (rwsMask act != 0) fun w => w.wr pg HDR_STAT_SHADOW_DIRTY 1) := by
    have hfields : s.work.Alters [.shadow] [pg + HDR_STAT_SHADOW_DIRTY.at 0] v := hv ▸ shFields_alters ..
    exact hfields.when (hfields.wr (by simp))
  rw [onDev_congr (g := fun _ => v.when (rwsMask act != 0) fun w => w.wr pg HDR_STAT_SHADOW_DIRTY 1) hwrite]
  refine ⟨fun e he => (congrArg e.1.get (hsh act)).trans ?_, fun hno => hbad.trans ?_, fun hall => hbad.trans ?_, ?_,
    fun b hb => (hsh b).trans ?_, fun hm => ?_, halters.changes⟩
  · have hfit := blockFields_fit k e.1 (List.mem_filter.1 (mem_accAt_block he h1).1).1
    have hmask (j : Nat) (hj1 : e.1.lo ≤ j) (hj2 : j < e.1.lo + e.1.wid) : e.1.mask.getLsbD j = true := e.1.mask_of_mem j hj1 hj2 hfit
    rw [← hv]
    split
    next hok => exact e.1.get_congr fun j hj1 hj2 => getLsbD_shFields_set _ he hok (hmask j hj1 hj2)
    next hok =>
      refine e.1.get_congr fun j hj1 hj2 => getLsbD_shFields_stay _ fun c hc hcm => ?_
      rw [eq_of_rws_mask hc he h1 (by omega) hcm (hmask j hj1 hj2)]
      exact Bool.not_eq_true _ ▸ hok
  · obtain ⟨e, he, hno⟩ := hno
    rw [← hv]
    exact rd_shFields_badval _ _ (.inl ⟨e, he, Bool.not_eq_true _ ▸ hno⟩)
  · rw [← hv]
    exact rd_shFields_pass _ _ hall
  · refine BitVec.eq_of_getLsbD_eq fun j _ => ?_
    rw [BitVec.getLsbD_and, BitVec.getLsbD_and, BitVec.getLsbD_not]
    by_cases hj : (rwsMask act).getLsbD j = true
    · simp [hj]
    · have hstay : (v.shWord act).getLsbD j = (s.work.shWord act).getLsbD j := by
        rw [← hv]
        refine getLsbD_shFields_stay _ fun c hc hcm => ?_
        rw [rwsMask_page hw hp h1 h2, getLsbD_maskAt] at hj
        exact absurd ⟨c, hc, hcm⟩ hj
      exact congrArg (· && _) ((congrArg (BitVec.getLsbD · j) (hsh act)).trans hstay)
  · rw [← hv]
    exact shWord_shFields_ne _ _ hb
  · rw [State.rd_onDev, Work.when, if_pos (by simpa using hm)]
    exact rd_wr_same _ _ _ _ _ (by decide)
end

end Sys2Proof.Machine
end

section
/-! PROOF. Settles O16, its second part: the active windows and the active view ignore a write of RWS bits (R66), and a write of
counters clears them, also in what a UNIT page shows of its sealed cycle (R6, R7, R29); and the obligation. -/

namespace Sys2Proof.Machine

/-! ### Registers of one access code -/

theorem accAt_nil_of_acc {k : PageKind} {o : Nat} {acc acc' : Acc} (h : ∀ e ∈ fieldsAt k o, e.1.acc = acc) (hne : acc ≠ acc') :
    accAt k o acc' = [] :=
  List.eq_nil_iff_forall_not_mem.2 fun e he => hne ((h e (mem_accAt.1 he).1).symm.trans (mem_accAt.1 he).2)

/-- A write of a register whose fields are all RWS, or all counters, and which no lock refuses. -/
theorem hostWrite_ofAcc {s : State} {a i : Nat} {k : PageKind} {acc : Acc} (x : Word) (hg : s.fenceAt a true = none)
    (hp : pageOf a = some (k, i)) (hk : k ≠ .emb) (h1 : 0x40 ≤ a % 0x1000) (h2 : a % 0x1000 < 0x800) (h4 : a % 4 = 0)
    (hacc : ∀ e ∈ fieldsAt k (a % 0x1000), e.1.acc = acc) (hne : acc = .rws ∨ acc = .cnt)
    (hl : s.work.lockHolds k (a / 0x1000 * 0x1000) (a % 0x1000) = false) :
    s.hostWrite a x = s.onDev fun w => w.clearWrite k i (a / 0x1000 * 0x1000) (a % 0x1000) x := by
  have hother {acc' : Acc} (h : acc' ≠ .rws ∧ acc' ≠ .cnt) : acc ≠ acc' := by
    rintro rfl
    exact hne.elim h.1 h.2
  have hno {acc' : Acc} (h : acc' ≠ .rws ∧ acc' ≠ .cnt) : NoField k (a % 0x1000) acc' :=
    noField_of_fieldsAt h1 fun e he => (hacc e he).trans_ne (hother h)
  rw [hostWrite_page x hg hp h2, pageWrite_plain s x hp (hno (by decide)) (hno (by decide)) (fun h => absurd h hk) (by omega) (by omega)]
  refine onDev_congr ?_
  rw [activeWrite_plain _ _ _ _ (hno (by decide)) (hno (by decide)) (by omega) (by omega), hl, accAt_nil_of_acc hacc (hother (by decide))]
  rfl

/-- R66: the active view ignores a write of a register of RWS bits. -/
theorem hostWrite_rws {s : State} {a i : Nat} {k : PageKind} (x : Word) (hg : s.fenceAt a true = none)
    (hp : pageOf a = some (k, i)) (hk : k ≠ .emb) (h1 : 0x40 ≤ a % 0x1000) (h2 : a % 0x1000 < 0x800) (h4 : a % 4 = 0)
    (hacc : ∀ e ∈ fieldsAt k (a % 0x1000), e.1.acc = .rws) (hl : ¬ s.on (a / 0x1000 * 0x1000) HDR_LOCK_LOCKED) :
    s.hostWrite a x = s := by
  rw [hostWrite_ofAcc x hg hp hk h1 h2 h4 hacc (.inl rfl) (by rw [Work.lockHolds, (State.not_on_work ..).mpr hl, Bool.false_and]),
    onDev_congr (g := fun w => w) (clearWrite_none _ _ _ _ (accAt_nil_of_acc hacc (by decide)) (accAt_nil_of_acc hacc (by decide)))]
  exact onDev_id s

/-- R66, R67: so do the active windows and the windows of the region's results. -/
theorem hostWrite_activeWindow {s : State} {a : Nat} {w : Window} (x : Word) (hg : s.fenceAt a true = none) (hw : windowOf a = some w)
    (h : (∃ n, w = .secActive n) ∨ (∃ n i, w = .outSlot n i) ∨ w = .pdirActive) : s.hostWrite a x = s := by
  have hshadow : shadowOf a = none := by
    refine shadowOf_of_window hw (fun n hn => ?_) fun hn => ?_ <;> rw [hn] at h <;> simp at h
  rw [hostWrite_window x hg hw hshadow, State.hostStore, hw]
  rcases h with ⟨n, rfl⟩ | ⟨n, i, rfl⟩ | rfl <;> rfl

/-! ### Counters -/

theorem Field.set_zero (f : Field) (d : Word) : f.set d 0 = d &&& ~~~f.mask := by
  rw [Field.set, Nat.zero_mod, Nat.zero_mul]
  exact BitVec.or_zero

/-- A register of counters resets to 0. -/
theorem resetWord_counters {a i : Nat} {k : PageKind} (hp : pageOf a = some (k, i)) (h1 : 0x40 ≤ a % 0x1000)
    (hne : accAt k (a % 0x1000) .cnt ≠ []) (hk : k = .unit) : resetWord a = 0 := by
  have hfold (l : List (Field × Nat)) (h : ∀ e ∈ l, e.1.reset = 0) : l.foldl (fun d f => f.1.set d f.1.reset) (0 : Word) = 0 := by
    induction l with
    | nil => rfl
    | cons e l ih =>
      rw [List.foldl_cons, h e List.mem_cons_self, Field.set_zero, show (0 : Word) &&& ~~~e.1.mask = 0 from BitVec.zero_and]
      exact ih fun c hc => h c (List.mem_cons_of_mem _ hc)
  have hspecial : specialReset k i (a % 0x1000) = none := by
    rw [specialReset, if_neg (by omega), if_neg (by omega), if_neg (by simp [hk]), if_neg (by simp [hk])]
  rw [resetWord, hp]
  dsimp only
  rw [hspecial]
  exact hfold _ fun e he => (acc_of_counters h1 (Nat.mod_lt _ (by decide)) hne e he).2

/-- Clearing bits of the entry at `a` of a sparse store that is 0 where it lists nothing. -/
theorem cellsGet_map_clear {d : Nat → Word} {a : Nat} (hd : d a = 0) (c : Word) (l : List (Nat × Word)) :
    cellsGet d (l.map fun e => if e.1 = a then (e.1, e.2 &&& c) else e) a = cellsGet d l a &&& c := by
  induction l with
  | nil => rw [List.map_nil, cellsGet, hd]; exact BitVec.zero_and.symm
  | cons e l ih =>
    rw [List.map_cons]
    by_cases h : e.1 = a
    · rw [if_pos h, cellsGet, cellsGet, if_pos h.symm, if_pos h.symm]
    · rw [if_neg h, cellsGet, cellsGet, if_neg (Ne.symm h), if_neg (Ne.symm h), ih]

/-- An element that was changed, or one outside the array. -/
theorem vget_vmod_same {α : Type} [Inhabited α] {n : Nat} (v : Vector α n) (i : Nat) (f : α → α) :
    vget (vmod v i f) i = f (vget v i) ∨ vget (vmod v i f) i = default ∧ vget v i = default := by
  by_cases h : i < n
  · left; simp [vget, vmod, h]
  · right; simp [vget, vmod, h]

/-- Bits cleared in the dword and in what its SEAL committed are cleared in what it shows (R29). -/
theorem unitShown_clear (w : Work) (u a : Nat) (m d : Word) (hr : resetWord a = 0) (hd : d = w.word a &&& ~~~m) :
    ((w.put a d).sealClear (u / 48) a m).unitShown u a = w.unitShown u a &&& ~~~m := by
  have hword : ((w.put a d).sealClear (u / 48) a m).word a = w.word a &&& ~~~m := (word_put_same ..).trans hd
  have hmix (x y z : Word) : x &&& ~~~m &&& ~~~z ||| y &&& ~~~(m &&& z) &&& z = (x &&& ~~~z ||| y &&& z) &&& ~~~m := by
    apply BitVec.eq_of_getLsbD_eq
    intro j hj
    simp only [BitVec.getLsbD_or, BitVec.getLsbD_and, BitVec.getLsbD_not, hj, decide_true, Bool.true_and]
    cases x.getLsbD j <;> cases y.getLsbD j <;> cases z.getLsbD j <;> cases m.getLsbD j <;> rfl
  rw [Work.unitShown, Work.unitShown, hword]
  rcases vget_vmod_same w.rgn (u / 48) fun r => { r with sealed := r.sealed.map fun e =>
      if e.1 = a then (e.1, e.2 &&& ~~~(m &&& sealedMask a)) else e } with h | ⟨h, h0⟩
  · have hrg : ((w.put a d).sealClear (u / 48) a m).rg (u / 48) = _ := h
    rw [hrg]
    dsimp only
    rw [cellsGet_map_clear hr, hmix, show vget w.rgn (u / 48) = w.rg (u / 48) from rfl]
    split_ifs <;> rfl
  · have hrg : ((w.put a d).sealClear (u / 48) a m).rg (u / 48) = default := h
    rw [hrg, show w.rg (u / 48) = default from h0]
    rfl

/-- The dword of a page at `a` as it reads. -/
def Work.shownWord (w : Work) (k : PageKind) (u a : Nat) : Word := if k = .unit then w.unitShown u a else w.word a

theorem shown_eq (w : Work) (k : PageKind) (u pg : Nat) (f : Field) (i : Nat) : w.shown k u pg f i = f.get (w.shownWord k u (pg + f.at i)) := by
  rw [Work.shown, Work.shownWord]
  split <;> rfl

/-- The clear of one counter (R6, R7). -/
def Work.clearCounter (w : Work) (k : PageKind) (u pg : Nat) (e : Field × Nat) : Work :=
  (w.wr pg e.1 0 e.2).when (k == .unit) fun w => w.sealClear (u / 48) (pg + e.1.at e.2) e.1.mask

theorem clearWrite_counters (w : Work) {k : PageKind} {o : Nat} (u pg : Nat) (x : Word) (h : accAt k o .w1c = []) :
    w.clearWrite k u pg o x = w.each (accAt k o .cnt) fun w e => w.clearCounter k u pg e := by
  rw [Work.clearWrite, h]
  rfl

/-- It clears the counter's bits, in the dword and in what it shows, and writes nothing else. -/
theorem clearCounter_word (w : Work) (k : PageKind) (u pg : Nat) (e : Field × Nat) (hr : k = .unit → resetWord (pg + e.1.at e.2) = 0) :
    (w.clearCounter k u pg e).word (pg + e.1.at e.2) = w.word (pg + e.1.at e.2) &&& ~~~e.1.mask ∧
      (w.clearCounter k u pg e).shownWord k u (pg + e.1.at e.2) = w.shownWord k u (pg + e.1.at e.2) &&& ~~~e.1.mask ∧
      w.Alters (if k = .unit then [.rgn] else []) [pg + e.1.at e.2] (w.clearCounter k u pg e) := by
  have hword : (w.wr pg e.1 0 e.2).word (pg + e.1.at e.2) = w.word (pg + e.1.at e.2) &&& ~~~e.1.mask :=
    (word_put_same ..).trans (e.1.set_zero _)
  by_cases hk : k = .unit
  · subst hk
    exact ⟨hword, unitShown_clear w u _ _ _ (hr rfl) (e.1.set_zero _), (Work.Alters.refl.wr (by simp)).modRg (by simp)⟩
  · rw [Work.clearCounter, beq_eq_false_iff_ne.2 hk, when_false, Work.shownWord, Work.shownWord, if_neg hk, if_neg hk, if_neg hk]
    exact ⟨hword, hword, Work.Alters.refl.wr (by simp)⟩

theorem each_clearCounter (w : Work) {k : PageKind} {u pg o : Nat} (l : List (Field × Nat)) (hl : ∀ e ∈ l, e.1.at e.2 = o)
    (hr : k = .unit → resetWord (pg + o) = 0) :
    (w.each l fun w e => w.clearCounter k u pg e).word (pg + o) = w.word (pg + o) &&& ~~~fieldsMask l ∧
      (w.each l fun w e => w.clearCounter k u pg e).shownWord k u (pg + o) = w.shownWord k u (pg + o) &&& ~~~fieldsMask l ∧
      w.Alters (if k = .unit then [.rgn] else []) [pg + o] (w.each l fun w e => w.clearCounter k u pg e) := by
  induction l generalizing w with
  | nil =>
    have hall (d : Word) : d = d &&& ~~~fieldsMask [] := BitVec.and_allOnes.symm
    exact ⟨hall _, hall _, .refl⟩
  | cons e l ih =>
    have hat := hl e List.mem_cons_self
    obtain ⟨h1, h2, h3⟩ := clearCounter_word w k u pg e (by rwa [hat])
    obtain ⟨h4, h5, h6⟩ := ih (w.clearCounter k u pg e) fun c hc => hl c (List.mem_cons_of_mem _ hc)
    rw [hat] at h1 h2 h3
    have hmask (d : Word) : d &&& ~~~e.1.mask &&& ~~~fieldsMask l = d &&& ~~~fieldsMask (e :: l) := by
      rw [show fieldsMask (e :: l) = e.1.mask ||| fieldsMask l from rfl, BitVec.not_or, BitVec.and_assoc]
    exact ⟨h4.trans (by rw [h1, hmask]), h5.trans (by rw [h2, hmask]), h3.trans h6⟩

/-- A field reads 0 in a dword without its bits. -/
theorem Field.get_clear (f : Field) (d m : Word) (h : ∀ j, f.mask.getLsbD j = true → m.getLsbD j = true) (hfit : f.lo + f.wid ≤ 32) :
    f.get (d &&& ~~~m) = 0 := by
  have hzero : f.get (0 : Word) = 0 := by rw [Field.get]; simp
  refine (f.get_congr fun j h1 h2 => ?_).trans hzero
  rw [BitVec.getLsbD_and, BitVec.getLsbD_not, h j (f.mask_of_mem j h1 h2 hfit), show (0 : Word).getLsbD j = false from BitVec.getLsbD_zero]
  simp

/-- R6, R7, R29: a write of a register of counters clears each of them, locked or not, and changes nothing else. -/
theorem hostWrite_counters {s : State} {a i : Nat} {k : PageKind} (x : Word) (hg : s.fenceAt a true = none)
    (hp : pageOf a = some (k, i)) (hk : k ≠ .emb) (h1 : 0x40 ≤ a % 0x1000) (h2 : a % 0x1000 < 0x800) (h4 : a % 4 = 0)
    (hne : accAt k (a % 0x1000) .cnt ≠ []) :
    (∀ e ∈ accAt k (a % 0x1000) .cnt, (s.hostWrite a x).rd (a / 0x1000 * 0x1000) e.1 e.2 = 0 ∧
      (s.hostWrite a x).work.shown k i (a / 0x1000 * 0x1000) e.1 e.2 = 0) ∧
    Changes (if k = .unit then [.rgn] else []) [a] s (s.hostWrite a x) := by
  have ho : a % 0x1000 < 0x1000 := Nat.mod_lt _ (by decide)
  have hacc : ∀ e ∈ fieldsAt k (a % 0x1000), e.1.acc = .cnt := fun e he => (acc_of_counters h1 ho hne e he).1
  have hlock : s.work.lockHolds k (a / 0x1000 * 0x1000) (a % 0x1000) = false := by
    rw [Work.lockHolds, lockable, accAt_nil_of_acc hacc (by decide), accAt_nil_of_acc hacc (by decide), accAt_nil_of_acc hacc (by decide),
      beq_eq_false_iff_ne.2 (by omega)]
    exact Bool.and_false _
  have hat (e : Field × Nat) (he : e ∈ accAt k (a % 0x1000) .cnt) : e.1.at e.2 = a % 0x1000 := at_of_mem_accAt he ho
  obtain ⟨hword, hshown, halters⟩ := each_clearCounter (u := i) (pg := a / 0x1000 * 0x1000) s.work _ hat fun hu => by
    rw [page_add_offset]; exact resetWord_counters hp h1 hne hu
  rw [page_add_offset] at hword hshown halters
  rw [hostWrite_ofAcc x hg hp hk h1 h2 h4 hacc (.inr rfl) hlock,
    onDev_congr (g := fun w => w.each (accAt k (a % 0x1000) .cnt) fun w e => w.clearCounter k i (a / 0x1000 * 0x1000) e)
      (clearWrite_counters s.work i _ x (accAt_nil_of_acc hacc (by decide)))]
  refine ⟨fun e he => ?_, halters.changes⟩
  have hfit := blockFields_fit k e.1 (List.mem_filter.1 (mem_accAt_block he h1).1).1
  have hclear (d : Word) : e.1.get (d &&& ~~~fieldsMask (accAt k (a % 0x1000) .cnt)) = 0 :=
    e.1.get_clear d _ (fun j hj => fieldsMask_of_mem he hj) hfit
  constructor
  · rw [State.rd_onDev, Work.rd, hat e he, page_add_offset, hword, hclear]
  · rw [shown_eq, hat e he, page_add_offset]
    exact (congrArg e.1.get hshown).trans (hclear _)

/-! ### The obligation -/

/-- Settles O16, the shadow set and the counters. -/
theorem shadowAndCounterWrites : Obligations.ShadowAndCounterWrites := by
  unfold Obligations.ShadowAndCounterWrites
  refine ⟨fun s addr v act pg h4 hr hsh => ?_, fun s addr v h4 hr => ?_⟩
  all_goals
    have haddr : addr.toNat / 4 * 4 = addr.toNat := by omega
    obtain ⟨hshut, hg⟩ := hr
  · have hrun {p : State → Prop} (h : p (s.onDev fun w => (w.shadowWrite act pg v).1)) : Runs (.registerWrite addr 0xF v) s p :=
      runs_registerWrite hshut (by rwa [haddr, hostWrite_shadow v hg hsh])
    refine ⟨fun ha hp hb => ?_, fun hf => hrun (onDev_shadowWrite_frozen v hf)⟩
    have hf : s.work.shadowFrozen = false := by
      rw [Work.shadowFrozen, (State.not_on_work ..).mpr ha, (State.not_on_work ..).mpr hp, (State.not_on_work ..).mpr hb]
      rfl
    refine ⟨fun hw => hrun (onDev_shadowWrite_window v hf hw), fun k i hw hpage hl => hrun ?_,
      fun k i hw hpage hl hne => hrun (onDev_shadowWrite_locked v hf hw hpage hl hne)⟩
    obtain ⟨hpg, h1, h2⟩ := shadowOf_page hsh hw
    exact onDev_shadowWrite_page v hf hpg h1 h2 hw hpage hl
  · have hrun {p : State → Prop} (h : p (s.hostWrite addr.toNat v)) : Runs (.registerWrite addr 0xF v) s p :=
      runs_registerWrite hshut (by rwa [haddr])
    have hsame (h : s.hostWrite addr.toNat v = s) : Runs (.registerWrite addr 0xF v) s fun t => OnlyDwords [] s t :=
      hrun (h.symm ▸ Work.Alters.refl.changes (f := fun w => w))
    refine ⟨fun n i hw => hsame ?_, fun k i hp hk h1 h2 => ⟨fun _ hacc hl => hsame (hostWrite_rws v hg hp hk h1 h2 h4 hacc hl),
      fun hne => hrun (hostWrite_counters v hg hp hk h1 h2 h4 hne)⟩⟩
    rcases hw with hw | hw | hw
    · exact hostWrite_activeWindow v hg hw (.inl ⟨n, rfl⟩)
    · exact hostWrite_activeWindow v hg hw (.inr (.inl ⟨n, i, rfl⟩))
    · exact hostWrite_activeWindow v hg hw (.inr (.inr rfl))

end Sys2Proof.Machine
end

section
-- One task at a time: the check bounds the memory of all of Lean's threads together.
set_option Elab.async false
set_option linter.all false

/-! SUPPORT. The rules by which a command is shown to stay in its scope: it works on the device alone, and its work leaves the view
that the scope gives as it was. -/

namespace Sys2Proof.Machine

/-- Command `c` completes in every state, and writes nothing outside its scope if it has one. -/
def InScope (c : Instr) : Prop :=
  ∀ (s : State) (f : Scope), scopeOf c = some f → Runs c s fun t => TimeKept s t ∧ Within f s t

/-- The commands that reach the whole device or its time base have none. -/
theorem InScope.of_none {c : Instr} (h : scopeOf c = none) : InScope c := fun _ _ hf => by rw [h] at hf; cases hf

/-- A command whose work on the device depends on the state beside it. -/
theorem InScope.of_state {c : Instr} {f : Scope} {g : State → Work → Work} (hf : scopeOf c = some f)
    (h : ∀ s, exec c s = nextDev s (g s))
    (hg : ∀ s w, view (fun k => decide (k ∈ f.kinds)) (fun z => decide (z ∈ f.zones)) (g s w) =
      view (fun k => decide (k ∈ f.kinds)) (fun z => decide (z ∈ f.zones)) w) : InScope c := fun s f' hf' => by
  obtain rfl := Option.some.inj (hf.symm.trans hf')
  exact runs_dev (h s) ⟨⟨rfl, rfl⟩, within_of_view f s (g s) (hg s)⟩

theorem InScope.of_view {c : Instr} {f : Scope} {g : Work → Work} (hf : scopeOf c = some f) (h : ∀ s, exec c s = nextDev s g)
    (hg : ∀ w, view (fun k => decide (k ∈ f.kinds)) (fun z => decide (z ∈ f.zones)) (g w) =
      view (fun k => decide (k ∈ f.kinds)) (fun z => decide (z ∈ f.zones)) w) : InScope c := .of_state hf h fun _ => hg

/-- A command that the host issues through the registers (R113 to R118). -/
theorem InScope.of_hostAct {c i : Instr} {f : Scope} {a : Nat} {g : Work → Work} (hf : scopeOf c = some f)
    (h : ∀ s, exec c s = nextDev s fun w => w.hostAct i a g)
    (hg : ∀ w, view (fun k => decide (k ∈ f.kinds)) (fun z => decide (z ∈ f.zones)) (g w) =
      view (fun k => decide (k ∈ f.kinds)) (fun z => decide (z ∈ f.zones)) w)
    (hheld : decide (Kind.held ∈ f.kinds) = true := by rfl) (hhost : decide (Zone.page .host ∈ f.zones) = true := by rfl)
    (hpkg : decide (Zone.page .pkg ∈ f.zones) = true := by rfl) : InScope c :=
  .of_view hf h fun _ => view_hostAct _ _ _ _ hg hheld hhost hpkg

/-- A read that the host issues through the registers and whose reading acts. -/
theorem InScope.of_hostGet {c i : Instr} {f : Scope} {a : Nat} {g : Work → Work × Word} (hf : scopeOf c = some f)
    (h : ∀ s, exec c s = nextDev s fun w => w.hostGet i a fun w => Work.answer (g w))
    (hg : ∀ w, view (fun k => decide (k ∈ f.kinds)) (fun z => decide (z ∈ f.zones)) (g w).1 =
      view (fun k => decide (k ∈ f.kinds)) (fun z => decide (z ∈ f.zones)) w)
    (hheld : decide (Kind.held ∈ f.kinds) = true := by rfl) (hout : decide (Kind.out ∈ f.kinds) = true := by rfl)
    (hhost : decide (Zone.page .host ∈ f.zones) = true := by rfl)
    (hpkg : decide (Zone.page .pkg ∈ f.zones) = true := by rfl) : InScope c :=
  .of_view hf h fun _ => view_hostGet _ _ _ _ (fun w => (view_emit _ _ hout).trans (hg w)) hheld hout hhost hpkg

variable {K : Kind → Bool} {Z : Zone → Bool}

/-- A page of a zone that the view leaves out. -/
theorem zone_in {pg : Nat} {k : PageKind} (hk : zoneOf pg = .page k) (hz : Z (.page k) = true) : Z (zoneOf pg) = true := hk ▸ hz

/-- A conditional step leaves the view as it was if both its ways do. -/
theorem view_cond {c : Prop} [Decidable c] {a b w : Work} (ha : view K Z a = view K Z w) (hb : view K Z b = view K Z w) :
    view K Z (if c then a else b) = view K Z w := by split <;> assumption

theorem view_wr_page {w : Work} {pg v i : Nat} {f : Field} {k : PageKind} (hp : pg % 0x1000 = 0) (hk : zoneOf pg = .page k)
    (hz : Z (.page k) = true) : view K Z (w.wr pg f v i) = view K Z w := view_wr _ _ _ _ _ hp (zone_in hk hz)

theorem view_count_page {w : Work} {pg n i : Nat} {f : Field} {k : PageKind} (hp : pg % 0x1000 = 0) (hk : zoneOf pg = .page k)
    (hz : Z (.page k) = true) : view K Z (w.count pg f n i) = view K Z w := view_count _ _ _ _ _ hp (zone_in hk hz)

theorem view_flt_page {w : Work} {pg bit : Nat} {cls : FaultClass} {info : Word} {k : PageKind} (hp : pg % 0x1000 = 0)
    (hk : zoneOf pg = .page k) (hz : Z (.page k) = true) (h1 : K .out = true) (h2 : K .flue = true) (h3 : K .lines = true) :
    view K Z (w.flt pg cls bit info) = view K Z w := view_flt _ _ _ _ _ hp (zone_in hk hz) h1 h2 h3

theorem view_unlocked_page {w : Work} {pg : Nat} {g : Work → Work} {k : PageKind} (hp : pg % 0x1000 = 0) (hk : zoneOf pg = .page k)
    (hz : Z (.page k) = true) (hg : ∀ v, view K Z (g v) = view K Z v) : view K Z (w.unlocked pg g) = view K Z w :=
  view_unlocked _ _ _ hp (zone_in hk hz) hg

end Sys2Proof.Machine
end

section
-- One task at a time: the check bounds the memory of all of Lean's threads together.
set_option Elab.async false
set_option linter.all false

/-! SUPPORT. The commands whose work on the device is more than one operation: each stays in its scope. -/

namespace Sys2Proof.Machine

/-! ### The package, its recorder and the Hearth -/

theorem inScope_recEnable : InScope .recEnable := .of_view rfl (fun _ => rfl) fun _ =>
  view_hostAct _ _ _ _ (fun _ => view_unlocked _ _ _ rfl rfl fun _ => by apply view_recEnable <;> rfl) rfl rfl rfl

theorem inScope_recDisable : InScope .recDisable := .of_view rfl (fun _ => rfl) fun _ =>
  view_hostAct _ _ _ _ (fun _ => view_unlocked _ _ _ rfl rfl fun _ => by apply view_recDisable <;> rfl) rfl rfl rfl

theorem inScope_recorderFrameWrite : InScope .recorderFrameWrite := .of_view rfl (fun _ => rfl) fun _ =>
  view_throttle _ _ _ (fun v => by
    split
    · rfl
    · rw [view_modRec, view_dramPut] <;> rfl) rfl

theorem inScope_ashCopy : InScope .ashCopy := .of_view rfl (fun _ => rfl) fun w => by
  dsimp only
  split
  · rfl
  · rw [view_modRec, view_wr, view_sramPut] <;> rfl

theorem inScope_flueReportArrive (dst child r) : InScope (.flueReportArrive dst child r) := .of_view rfl (fun _ => rfl) fun w => by
  refine view_cond (view_cond ?_ (view_cond ?_ ?_)) rfl
  · rw [view_discard, view_setFlue] <;> rfl
  · rw [view_hearthReport, view_setFlue] <;> rfl
  · rw [view_collect, view_setFlue] <;> rfl

theorem inScope_fatalLine (r) : InScope (.fatalLine r) := .of_view rfl (fun _ => rfl) fun _ =>
  view_cond (by rw [view_reactFatal, view_setLines] <;> rfl) rfl

theorem inScope_hearthConditionQualify (e) : InScope (.hearthConditionQualify e) := .of_view rfl (fun _ => rfl) fun w => by
  refine view_cond (view_cond ?_ ?_) rfl
  · rw [view_hearthShow, view_setBit] <;> rfl
  · rw [view_react, view_when, view_setBit]
    case hf => exact fun _ => view_flt _ _ _ _ _ rfl rfl rfl rfl rfl
    all_goals rfl

theorem inScope_hearthConditionCease (e) : InScope (.hearthConditionCease e) := .of_view rfl (fun _ => rfl) fun _ =>
  view_cond (by rw [view_hearthShow, view_clrBit] <;> rfl) rfl

theorem inScope_hearthPlea (level mask) : InScope (.hearthPlea level mask) := .of_view rfl (fun _ => rfl) fun _ =>
  view_hostAct _ _ _ _ (fun _ => view_unlocked _ _ _ rfl rfl fun _ => by apply view_plea <;> rfl) rfl rfl rfl

theorem inScope_hearthCopyMismatch (diff) : InScope (.hearthCopyMismatch diff) := .of_view rfl (fun _ => rfl) fun w => by
  refine view_cond (view_cond ?_ ?_) (view_cond rfl ?_)
  · exact view_injDone _ _ _ rfl rfl rfl
  · rw [view_hearthFatal, view_injDone] <;> rfl
  · apply view_hearthFatal <;> rfl

theorem inScope_aliveToggle : InScope .aliveToggle := .of_view rfl (fun _ => rfl) fun _ =>
  view_cond (by rw [view_emit, view_modHearth] <;> rfl) rfl

theorem inScope_supplyOutOfRange (rail) : InScope (.supplyOutOfRange rail) := .of_view rfl (fun _ => rfl) fun w => by
  refine view_cond ?_ (view_cond ?_ ?_)
  · exact view_when _ _ _ fun _ => view_injDone _ _ _ rfl rfl rfl
  · rw [view_react, view_flt, view_setBit, view_setBit, view_when]
    case hf => exact fun _ => view_injDone _ _ _ rfl rfl rfl
    all_goals rfl
  · rw [view_hearthFatal, view_when, view_setBit, view_setBit, view_when]
    case hf => exact fun _ => view_injDone _ _ _ rfl rfl rfl
    case hf => exact fun _ => view_modKin _ _ rfl
    all_goals rfl

theorem inScope_scrubAccess (m word ecc) : InScope (.scrubAccess m word ecc) := .of_view rfl (fun _ => rfl) fun w => by
  dsimp only
  rw [view_memErr]
  · split
    · exact view_injEcc _ _ _ _ rfl rfl rfl
    · rfl
  all_goals rfl

theorem inScope_haltGuardSample : InScope .haltGuardSample := .of_view rfl (fun _ => rfl) fun _ =>
  view_cond (by rw [view_adcUrgent, view_modAdc] <;> rfl) rfl

theorem inScope_haltGuardExpiry : InScope .haltGuardExpiry := .of_view rfl (fun _ => rfl) fun _ =>
  view_cond (by apply view_guardExpire <;> rfl) rfl

theorem inScope_freezeRequest : InScope .freezeRequest := .of_view rfl (fun _ => rfl) fun _ =>
  view_hostAct _ _ _ _ (fun _ => view_unlocked _ _ _ rfl rfl fun _ => by rw [view_freezeReq, view_wr] <;> rfl) rfl rfl rfl

theorem inScope_freezePoint : InScope .freezePoint := .of_view rfl (fun _ => rfl) fun w => by
  split
  · apply view_freezeAt <;> rfl
  · rfl

theorem inScope_freezeRelease : InScope .freezeRelease := .of_view rfl (fun _ => rfl) fun _ =>
  view_hostAct _ _ _ _ (fun _ => view_unlocked _ _ _ rfl rfl fun _ => by rw [view_thawIfFree, view_wr] <;> rfl) rfl rfl rfl

theorem inScope_supplyReturn (rail) : InScope (.supplyReturn rail) := .of_view rfl (fun _ => rfl) fun w => by
  refine view_cond (view_cond ?_ ?_) ?_
  · rw [view_each, view_hearthShow, view_clrBit, view_when]
    case hf => exact fun _ => view_injDone _ _ _ rfl rfl rfl
    case hf => exact fun _ _ => by apply view_wcStart <;> rfl
    all_goals rfl
  · rw [view_hearthShow, view_clrBit, view_when]
    case hf => exact fun _ => view_injDone _ _ _ rfl rfl rfl
    all_goals rfl
  · exact view_when _ _ _ fun _ => view_injDone _ _ _ rfl rfl rfl

theorem inScope_tapIdcode : InScope .tapIdcode := .of_view rfl (fun _ => rfl) fun w => by
  rw [view_emit, view_tapSelect] <;> rfl

theorem inScope_tapHalt : InScope .tapHalt := .of_view rfl (fun _ => rfl) fun w => by
  rw [view_freezeReq, view_wr, view_tapSelect] <;> rfl

theorem inScope_tapScanInt : InScope .tapScanInt := .of_view rfl (fun _ => rfl) fun w => by
  rw [view_wr, view_reactFatal, view_zero, view_tapSelect] <;> rfl

theorem inScope_tapLbistHub : InScope .tapLbistHub := .of_view rfl (fun _ => rfl) fun w => by
  rw [view_lbist, view_tapSelect] <;> rfl

theorem inScope_tapLbistHrt : InScope .tapLbistHrt := .of_view rfl (fun _ => rfl) fun w => by
  rw [view_lbist, view_tapSelect] <;> rfl

/-! ### Clocks, time stamps and the analogue inputs -/

theorem inScope_holdExpired : InScope .holdExpired :=
  .of_state (g := fun s => if s.tally.pll.closed then Work.holdExpire else id) rfl
    (fun s => by
      show (if s.tally.pll.closed then nextDev s Work.holdExpire else .next s) = _
      split <;> rfl)
    fun s w => by
      split
      · apply view_holdExpire <;> rfl
      · rfl

theorem inScope_refLost : InScope .refLost := .of_view rfl (fun _ => rfl) fun w => by
  rw [view_flt, view_wr] <;> rfl

theorem inScope_freqCheckWindow (count) : InScope (.freqCheckWindow count) := .of_view rfl (fun _ => rfl) fun w => by
  refine view_cond ?_ ?_
  · rw [view_flt, view_when, view_wr]
    case hf => exact fun _ => view_injDone _ _ _ rfl rfl rfl
    all_goals rfl
  · rw [view_when, view_wr]
    case hf => exact fun _ => view_injDone _ _ _ rfl rfl rfl
    all_goals rfl

theorem inScope_captureEdge (k falling sub) : InScope (.captureEdge k falling sub) := .of_view rfl (fun _ => rfl) fun _ =>
  view_cond (by apply view_capture <;> rfl) rfl

theorem inScope_timedOutputDue (m) : InScope (.timedOutputDue m) := .of_view rfl (fun _ => rfl) fun _ =>
  view_cond (by apply view_toFire <;> rfl) rfl

theorem inScope_timedOutputPulseEnd (m) : InScope (.timedOutputPulseEnd m) := .of_view rfl (fun _ => rfl) fun _ =>
  view_cond (by rw [view_toDrive, view_modTout] <;> rfl) rfl

theorem inScope_ptpRxTimestamp (p m sub) : InScope (.ptpRxTimestamp p m sub) := .of_view rfl (fun _ => rfl) fun _ =>
  view_cond (view_cond (view_wr_page (mod_pgETH _) (zone_pgETH _) rfl)
    ((view_wr_page (mod_pgETH _) (zone_pgETH _) rfl).trans (view_modEthRx _ _ _ rfl))) rfl

theorem inScope_ptpTxTimestamp (p m sub corr) : InScope (.ptpTxTimestamp p m sub corr) := .of_view rfl (fun _ => rfl) fun _ =>
  view_cond (view_emit _ _ rfl) (view_cond (view_cond (view_wr_page (mod_pgETH _) (zone_pgETH _) rfl)
    ((view_wr_page (mod_pgETH _) (zone_pgETH _) rfl).trans (view_modEthTx _ _ _ rfl))) rfl)

theorem inScope_adcPlanTrigger (n k) : InScope (.adcPlanTrigger n k) := .of_view rfl (fun _ => rfl) fun _ =>
  view_cond (by apply view_adcNormal <;> rfl) rfl

theorem inScope_adcCalComplete (a gain ofs atLimit) : InScope (.adcCalComplete a gain ofs atLimit) :=
  .of_view rfl (fun _ => rfl) fun w => view_cond (by
    rw [view_adcNext, view_when, view_wr_page (mod_pgAD _) (zone_pgAD _), view_wr_page (mod_pgAD _) (zone_pgAD _),
      view_wr_page (mod_pgAD _) (zone_pgAD _), view_wr_page (mod_pgAD _) (zone_pgAD _)]
    case hf => exact fun _ => view_flt_page (mod_pgAD _) (zone_pgAD _) rfl rfl rfl rfl
    all_goals rfl) rfl

theorem inScope_adcConversionComplete (a volts) : InScope (.adcConversionComplete a volts) := .of_view rfl (fun _ => rfl) fun w => by
  dsimp only
  split
  · rw [view_adcNext, view_adcResult, view_when, view_count_page (mod_pgAD _) (zone_pgAD _), view_modAdc]
    case hf => exact fun _ => view_count_page (mod_pgAD _) (zone_pgAD _) rfl
    all_goals rfl
  · rfl

theorem inScope_adcConvTimeout (a) : InScope (.adcConvTimeout a) := .of_view rfl (fun _ => rfl) fun _ =>
  view_cond (by rw [view_adcNext, view_flt_page (mod_pgAD _) (zone_pgAD _), view_modAdc] <;> rfl) rfl

theorem inScope_wcCrossing (k volts) : InScope (.wcCrossing k volts) := .of_view rfl (fun _ => rfl) fun _ =>
  view_cond (by rw [view_wcInput, view_setAin] <;> rfl) (view_setAin _ _ _ rfl)

theorem inScope_wcSettled (k volts) : InScope (.wcSettled k volts) := .of_view rfl (fun _ => rfl) fun w => by
  refine view_cond (view_cond ?_ ?_) (view_setAin _ _ _ rfl)
  · rw [view_wr_page (mod_pgWC _) (zone_pgWC _), view_setAin] <;> rfl
  · rw [view_wcInput, view_wr_page (mod_pgWC _) (zone_pgWC _), view_setAin] <;> rfl

theorem inScope_wcSelftestDone (k decH decL hReturned volts) : InScope (.wcSelftestDone k decH decL hReturned volts) :=
  .of_view rfl (fun _ => rfl) fun w => view_cond (by
    rw [view_wcInput, view_when, view_count_page (mod_pgWC _) (zone_pgWC _)]
    case hf =>
      intro v
      rw [view_flt_page (mod_pgWC _) (zone_pgWC _), view_count_page (mod_pgWC _) (zone_pgWC _)] <;> rfl
    · iterate 8 rw [view_wr_page (mod_pgWC _) (zone_pgWC _)]
      exact view_setAin _ _ _ rfl
      all_goals rfl
    all_goals rfl) (view_setAin _ _ _ rfl)

/-! ### Regions, clusters and units -/

theorem inScope_cycEnSet (n) : InScope (.cycEnSet n) := .of_view rfl (fun _ => rfl) fun _ =>
  view_hostAct _ _ _ _ (fun _ => view_unlocked_page (mod_pgRG _) (zone_pgRG _) rfl fun _ => by apply view_cycSet <;> rfl) rfl rfl rfl

theorem inScope_cycEnClear (n) : InScope (.cycEnClear n) := .of_view rfl (fun _ => rfl) fun _ =>
  view_hostAct _ _ _ _ (fun _ => view_unlocked_page (mod_pgRG _) (zone_pgRG _) rfl fun _ => by apply view_cycClear <;> rfl) rfl rfl rfl

theorem inScope_carrierPeriodStart (u) : InScope (.carrierPeriodStart u) := .of_view rfl (fun _ => rfl) fun _ =>
  view_cond (by apply view_adapt <;> rfl) rfl

theorem inScope_edgeWordLate (u) : InScope (.edgeWordLate u) := .of_view rfl (fun _ => rfl) fun _ =>
  view_cond (by rw [view_forcedSafe, view_flt_page (mod_pgUNIT _) (zone_pgUNIT _), view_modLn] <;> rfl) rfl

theorem inScope_bistFenceRaised (n) : InScope (.bistFenceRaised n) := .of_view rfl (fun _ => rfl) fun _ =>
  view_cond (by rw [view_modSec, view_fenceRegion] <;> rfl) rfl

theorem inScope_prechargeTimeout (c) : InScope (.prechargeTimeout c) := .of_view rfl (fun _ => rfl) fun _ =>
  view_cond (view_cond (view_modCl _ _ _ rfl) (by apply view_pcTimeout <;> rfl)) rfl

theorem inScope_bypassTimeout (c) : InScope (.bypassTimeout c) := .of_view rfl (fun _ => rfl) fun _ =>
  view_cond (by rw [view_flt_page (mod_pgCLU _) (zone_pgCLU _), view_modCl] <;> rfl) rfl

theorem inScope_censusMaskRepeat : InScope .censusMaskRepeat := .of_view rfl (fun _ => rfl) fun _ =>
  view_cond rfl (view_each _ _ _ fun _ _ => by apply view_maskSend <;> rfl)

theorem inScope_censusMaskAged (n g) : InScope (.censusMaskAged n g) := .of_view rfl (fun _ => rfl) fun _ =>
  view_cond (view_wr_page (mod_pgRG _) (zone_pgRG _) rfl) rfl

theorem inScope_ceSelftestTimeout (c) : InScope (.ceSelftestTimeout c) := .of_view rfl (fun _ => rfl) fun w => by
  dsimp only
  split
  · apply view_stEnd <;> rfl
  · rfl

theorem inScope_cmdResend (c) : InScope (.cmdResend c) := .of_view rfl (fun _ => rfl) fun w => by
  dsimp only
  split
  · rfl
  · refine view_cond (view_modLn _ _ _ rfl) (view_cond ?_ ?_)
    · rw [view_stEnd, view_cmdDone, view_flt_page (mod_pgCLANE _) (zone_pgCLANE _), view_count_page (mod_pgCLANE _) (zone_pgCLANE _)] <;> rfl
    · rw [view_cmdDone, view_flt_page (mod_pgCLANE _) (zone_pgCLANE _), view_count_page (mod_pgCLANE _) (zone_pgCLANE _)] <;> rfl

theorem inScope_tripnTransition (p active) : InScope (.tripnTransition p active) := .of_view rfl (fun _ => rfl) fun w => by
  refine view_cond (view_cond ?_ ?_) rfl
  · rw [view_localEvent, view_putBit] <;> rfl
  · rw [view_putBit] <;> rfl

theorem inScope_chopfbTransition (p active) : InScope (.chopfbTransition p active) := .of_view rfl (fun _ => rfl) fun w => by
  refine view_cond rfl (view_cond ?_ (view_wr _ _ _ _ _ rfl rfl))
  rw [view_when, view_flt, view_chopEval, view_wr, view_wr]
  case hf => exact fun _ => by apply view_localEvent <;> rfl
  all_goals rfl

theorem inScope_chopTmaxOnExpiry (p) : InScope (.chopTmaxOnExpiry p) := .of_view rfl (fun _ => rfl) fun _ =>
  view_cond (by rw [view_flt, view_chopEval, view_modChop, view_wr] <;> rfl) rfl

theorem inScope_chopTminOffExpiry (p) : InScope (.chopTminOffExpiry p) := .of_view rfl (fun _ => rfl) fun _ =>
  view_cond (by rw [view_chopEval, view_modChop] <;> rfl) rfl

/-! ### Lanes and their messages -/

theorem inScope_downlinkSlot (c sub) : InScope (.downlinkSlot c sub) := .of_view rfl (fun _ => rfl) fun _ =>
  view_cond rfl (by rw [view_sendFrame, view_slotFrame, view_modLn] <;> rfl)

theorem inScope_uplinkBadFrame (c) : InScope (.uplinkBadFrame c) := .of_view rfl (fun _ => rfl) fun w => by
  refine view_cond ?_ ?_
  · rw [view_badFrame, view_frameSymbols] <;> rfl
  · apply view_frameSymbols <;> rfl

theorem inScope_idleFrameReceived (c y copy) : InScope (.idleFrameReceived c y copy) := .of_view rfl (fun _ => rfl) fun _ =>
  view_receive _ _ _ _ _ (fun _ => rfl) rfl rfl rfl rfl rfl rfl rfl

theorem inScope_measReceived (c y copy m) : InScope (.measReceived c y copy m) := .of_view rfl (fun _ => rfl) fun _ =>
  view_receiveData _ _ _ _ _ (fun _ => by apply view_meas <;> rfl) rfl rfl rfl rfl rfl rfl rfl rfl

theorem inScope_transReceived (c y copy reps) : InScope (.transReceived c y copy reps) := .of_view rfl (fun _ => rfl) fun _ =>
  view_receiveData _ _ _ _ _ (fun _ => view_each _ _ _ fun _ _ => by apply view_transRep <;> rfl) rfl rfl rfl rfl rfl rfl rfl rfl

theorem inScope_tripReceived (c y copy x) : InScope (.tripReceived c y copy x) := .of_view rfl (fun _ => rfl) fun _ =>
  view_receiveData _ _ _ _ _ (fun _ => by apply view_trip <;> rfl) rfl rfl rfl rfl rfl rfl rfl rfl

theorem inScope_statReceived (c y copy st) : InScope (.statReceived c y copy st) := .of_view rfl (fun _ => rfl) fun _ =>
  view_receiveData _ _ _ _ _ (fun _ => by apply view_stat <;> rfl) rfl rfl rfl rfl rfl rfl rfl rfl

theorem inScope_timeechoReceived (c y copy e sub) : InScope (.timeechoReceived c y copy e sub) := .of_view rfl (fun _ => rfl) fun _ =>
  view_receiveData _ _ _ _ _ (fun _ => by apply view_echo <;> rfl) rfl rfl rfl rfl rfl rfl rfl rfl

theorem inScope_pingStart (c) : InScope (.pingStart c) := .of_view rfl (fun _ => rfl) fun _ =>
  view_cond (by apply view_startExch; rfl) rfl

theorem inScope_exchangeLost (c) : InScope (.exchangeLost c) := .of_view rfl (fun _ => rfl) fun w => by
  dsimp only
  split
  · refine view_cond ?_ (view_modLn _ _ _ rfl)
    rw [view_badExch, view_modLn, view_count_page (mod_pgCLANE _) (zone_pgCLANE _), view_modLn] <;> rfl
  · rfl

theorem inScope_roleRepeat (c) : InScope (.roleRepeat c) := .of_view rfl (fun _ => rfl) fun _ =>
  view_cond (view_modLn _ _ _ rfl) rfl

theorem inScope_skipGap (l fill) : InScope (.skipGap l fill) := .of_view rfl (fun _ => rfl) fun w => by
  refine view_cond rfl ?_
  cases l
  · apply view_skipGap <;> rfl
  · exact view_cond (by apply view_bufferError <;> rfl) rfl
  · exact view_cond (by apply view_bufferError <;> rfl) rfl

theorem inScope_commaAligned (l) : InScope (.commaAligned l) := .of_view rfl (fun _ => rfl) fun _ =>
  view_cond (by rw [view_lwr, view_lwr, view_laneSet] <;> rfl) rfl

theorem inScope_cdrLockLost (l) : InScope (.cdrLockLost l) := .of_view rfl (fun _ => rfl) fun w => by
  rw [view_laneLoss, view_lwr] <;> rfl

theorem inScope_codeViolation (l since) : InScope (.codeViolation l since) := .of_view rfl (fun _ => rfl) fun w => by
  refine view_cond rfl ?_
  cases l
  · refine view_cond ?_ ?_
    · rw [view_laneLoss, view_modLn, view_lcount] <;> rfl
    · rw [view_modLn, view_lcount] <;> rfl
  · refine view_cond ?_ ?_
    · rw [view_laneLoss, view_modSl, view_lcount] <;> rfl
    · rw [view_modSl, view_lcount] <;> rfl
  · refine view_cond ?_ ?_
    · rw [view_laneLoss, view_modSl, view_lcount] <;> rfl
    · rw [view_modSl, view_lcount] <;> rfl

theorem inScope_elasticBufferError (l) : InScope (.elasticBufferError l) := .of_view rfl (fun _ => rfl) fun _ =>
  view_cond rfl (by apply view_bufferError <;> rfl)

theorem inScope_acquireTimeout (l) : InScope (.acquireTimeout l) := .of_view rfl (fun _ => rfl) fun _ =>
  view_cond (by rw [view_eqLoad, view_lwr] <;> rfl) rfl

theorem inScope_syncTimeout (c) : InScope (.syncTimeout c) := .of_view rfl (fun _ => rfl) fun _ =>
  view_cond (by apply view_acquire <;> rfl) rfl

theorem inScope_laneRetryTimeout (l) : InScope (.laneRetryTimeout l) := .of_view rfl (fun _ => rfl) fun _ =>
  view_cond (by apply view_acquire <;> rfl) rfl

theorem inScope_adaptStep (l ctle taps) : InScope (.adaptStep l ctle taps) := .of_view rfl (fun _ => rfl) fun w => by
  rw [view_throttle, view_dataSymbol]
  case hf => exact fun _ => by apply view_adaptMove <;> rfl
  all_goals rfl

theorem inScope_adaptFreeze (l) : InScope (.adaptFreeze l) := .of_view rfl (fun _ => rfl) fun _ =>
  view_cond rfl (view_lwr _ _ _ _ _ rfl rfl)

theorem inScope_fomMeasure (l mv) : InScope (.fomMeasure l mv) := .of_view rfl (fun _ => rfl) fun w => by
  refine view_cond rfl (view_cond ?_ ?_)
  · rw [view_flt _ _ _ _ _ (lanePage_mod l) (lanePage_zone l ?_ ?_), view_lwr, view_lwr, view_dataSymbol] <;> rfl
  · rw [view_lwr, view_lwr, view_dataSymbol] <;> rfl

/-! ### The twin, the queues and the network -/

theorem inScope_hoAckReceived (d) : InScope (.hoAckReceived d) := .of_view rfl (fun _ => rfl) fun w => by
  dsimp only
  split
  · exact view_cond (by rw [view_modTwin, view_wr] <;> rfl) rfl
  · rfl

theorem inScope_hoNakReceived (d) : InScope (.hoNakReceived d) := .of_view rfl (fun _ => rfl) fun _ =>
  view_cond (by apply view_hoFail <;> rfl) rfl

theorem inScope_healthRepeat : InScope .healthRepeat := .of_view rfl (fun _ => rfl) fun _ =>
  view_cond (by rw [view_twinSend, view_ownHealth] <;> rfl) rfl

theorem inScope_twinReadyTimeout : InScope .twinReadyTimeout := .of_view rfl (fun _ => rfl) fun _ =>
  view_cond rfl (by rw [view_twinShow, view_modTwin] <;> rfl)

theorem inScope_twinConflictDetect : InScope .twinConflictDetect := .of_view rfl (fun _ => rfl) fun w => by
  refine view_cond ?_ rfl
  dsimp only
  split
  · rw [view_twinShow, view_stepDown, view_conflict] <;> rfl
  · rw [view_twinShow, view_conflict] <;> rfl

theorem inScope_healthAgeExpiry : InScope .healthAgeExpiry := .of_view rfl (fun _ => rfl) fun w => by
  rw [view_twinShow, view_wr] <;> rfl

theorem inScope_eventPost (e mis) : InScope (.eventPost e mis) := .of_view rfl (fun _ => rfl) fun w => by
  refine view_cond ?_ rfl
  rw [view_foldl, view_setEvents]
  · rfl
  · exact fun _ _ => view_cond (by rw [view_qWrite, view_qCheck] <;> rfl) rfl

theorem inScope_ovfMove (q mis) : InScope (.ovfMove q mis) := .of_view rfl (fun _ => rfl) fun w => by
  refine Eq.trans (b := view _ _ (w.qCheck q mis)) (view_cond rfl ?_) (by apply view_qCheck <;> rfl)
  split
  · exact view_cond (view_modQ _ _ _ rfl) rfl
  · rfl

theorem inScope_eqNext (q mis) : InScope (.eqNext q mis) := .of_view rfl (fun _ => rfl) fun _ =>
  view_qCmd _ _ _ _ (fun _ => by rw [view_qNext, view_qCheck] <;> rfl) rfl rfl rfl

theorem inScope_eqRelease (q mis) : InScope (.eqRelease q mis) := .of_view rfl (fun _ => rfl) fun _ =>
  view_qCmd _ _ _ _ (fun _ => by rw [view_qRelease, view_qCheck] <;> rfl) rfl rfl rfl

theorem inScope_eqMark (q mis) : InScope (.eqMark q mis) := .of_view rfl (fun _ => rfl) fun _ =>
  view_qCmd _ _ _ _ (fun _ => by rw [view_qMark, view_qCheck] <;> rfl) rfl rfl rfl

theorem inScope_eqRewind (q mis) : InScope (.eqRewind q mis) := .of_view rfl (fun _ => rfl) fun _ =>
  view_qCmd _ _ _ _ (fun _ => by rw [view_qRewind, view_qCheck] <;> rfl) rfl rfl rfl

theorem inScope_eqQreset (q) : InScope (.eqQreset q) := .of_view rfl (fun _ => rfl) fun _ =>
  view_qCmd _ _ _ _ (fun _ => by apply view_qReset <;> rfl) rfl rfl rfl

theorem inScope_eqPeakRst (q) : InScope (.eqPeakRst q) := .of_view rfl (fun _ => rfl) fun _ =>
  view_qCmd _ _ _ _ (fun _ => by rw [view_qPeakRst, view_qCheck] <;> rfl) rfl rfl rfl

theorem inScope_eqPost (q v mis) : InScope (.eqPost q v mis) := .of_view rfl (fun _ => rfl) fun _ =>
  view_hostAct _ _ _ _ (fun _ => by rw [view_qPost, view_qCheck] <;> rfl) rfl rfl rfl

theorem inScope_sysTripRepeat : InScope .sysTripRepeat := .of_view rfl (fun _ => rfl) fun _ =>
  view_cond (by apply view_tripSend <;> rfl) rfl

theorem inScope_raTimeout : InScope .raTimeout := .of_view rfl (fun _ => rfl) fun _ =>
  view_cond (by apply view_raEnd <;> rfl) rfl

/-! ### Kindling, the ember domain and the self-tests -/

theorem inScope_porstNRise (strap) : InScope (.porstNRise strap) :=
  .of_state (g := fun s w => if s.dev.kin.porst then ((w.modKin fun k => { k with porst := false }).strapAt strap.toNat).kindle else w)
    rfl
    (fun s => by
      show (if s.dev.kin.porst then _ else _) = _
      cases s.dev.kin.porst <;> rfl)
    fun s w => view_cond (by rw [view_kindle, view_strapAt, view_modKin] <;> rfl) rfl

theorem inScope_pciePerstFall : InScope .pciePerstFall := .of_view rfl (fun _ => rfl) fun w => by
  rw [view_modKin, view_dropRegs]
  · intro a ha
    have hbase : zoneOf a = zoneOf (a / 0x1000 * 0x1000) := by rw [zoneOf, zoneOf, pageOf_base]
    rw [hbase, beq_iff_eq.1 ha]
    rfl
  · rfl

theorem inScope_kindlingPllTimeout : InScope .kindlingPllTimeout := .of_view rfl (fun _ => rfl) fun _ =>
  view_cond (by apply view_kFail; rfl) rfl

theorem inScope_xtalStable : InScope .xtalStable := .of_view rfl (fun _ => rfl) fun w => by
  rw [view_when, view_wr]
  case hf => exact fun _ => view_wr _ _ _ _ _ rfl rfl
  all_goals rfl

theorem inScope_xtalFail : InScope .xtalFail := .of_view rfl (fun _ => rfl) fun w => by
  rw [view_wr, view_wr, view_wr] <;> rfl

theorem inScope_sleepDelayExpiry : InScope .sleepDelayExpiry := .of_view rfl (fun _ => rfl) fun _ =>
  view_cond (by rw [view_wakeOut, view_modEmber] <;> rfl) rfl

theorem inScope_bistAbort (rgs) : InScope (.bistAbort rgs) := .of_view rfl (fun _ => rfl) fun _ =>
  view_hostAct _ _ _ _ (fun _ => view_each _ _ _ fun _ _ => by apply view_bistAbort <;> rfl) rfl rfl rfl

theorem inScope_bistComplete (n sig sigOk bad) : InScope (.bistComplete n sig sigOk bad) := .of_view rfl (fun _ => rfl) fun _ =>
  view_throttle _ _ _ (fun _ => view_cond (by apply view_bistDone <;> rfl) rfl) rfl

theorem inScope_standbyBistStart : InScope .standbyBistStart := .of_view rfl (fun _ => rfl) fun w => by
  refine view_cond ?_ rfl
  rw [view_each, view_modTwin]
  · rfl
  · exact fun _ _ => by apply view_bistBegin <;> rfl

end Sys2Proof.Machine
end

section
-- One task at a time: the check bounds the memory of all of Lean's threads together.
set_option Elab.async false
set_option linter.all false

/-! PROOF. Settles O2: every command of a scope completes and stays in it. -/

namespace Sys2Proof.Machine

/-- Each command stays in its scope: those of one operation by what that operation can write, the others by their lemmas. -/
theorem inScope (c : Instr) : InScope c := by
  cases c
  case registerWrite | injArm | pageLock | damperGateOpen | tallyTick | incFracWrite | incNsCommit | tallyStep | nofsWrite |
      pllSettled | pllLockAcquired | lockedSet | lockedClear | pllSlip | holdoverRefclkEdge | gatesReopen | porstNFall |
      hearthSelfCheckDone | pcieLinkUp | dramTrained | imageLoad | pkgReset | thermalOffEntry | thermalRestart =>
    exact .of_none rfl
  case hostBar0Read => exact .of_view rfl (fun _ => rfl) fun _ => view_throttle _ _ _ (fun _ => by apply view_bar0Read <;> rfl) rfl
  case hostBar2Write => exact .of_view rfl (fun _ => rfl) fun _ => view_throttle _ _ _ (fun _ => by apply view_bar2Write <;> rfl) rfl
  case hostBar2Read => exact .of_view rfl (fun _ => rfl) fun _ => view_throttle _ _ _ (fun _ => by apply view_bar2Read <;> rfl) rfl
  case hostBar4Read => exact .of_view rfl (fun _ => rfl) fun _ => view_throttle _ _ _ (fun _ => by apply view_bar4Read <;> rfl) rfl
  case hostBar4Write => exact .of_view rfl (fun _ => rfl) fun _ => view_throttle _ _ _ (fun _ => by apply view_accErr; rfl) rfl
  case cycT0NsRead => exact .of_hostGet rfl (fun _ => rfl) fun _ => by apply view_readT0; rfl
  case cycEnSet => apply inScope_cycEnSet
  case cycEnClear => apply inScope_cycEnClear
  case boundary => exact .of_view rfl (fun _ => rfl) fun _ => by apply view_boundary <;> rfl
  case inputDeadline => exact .of_view rfl (fun _ => rfl) fun _ => by apply view_inputTime <;> rfl
  case abacusSection => exact .of_view rfl (fun _ => rfl) fun _ => by apply view_section <;> rfl
  case outputDeadline => exact .of_view rfl (fun _ => rfl) fun _ => by apply view_outputTime <;> rfl
  case carrierPeriodStart => apply inScope_carrierPeriodStart
  case edgeWordLate => apply inScope_edgeWordLate
  case hdCommit => exact .of_hostAct rfl (fun _ => rfl) fun _ => by apply view_hdCommit <;> rfl
  case sminRst => exact .of_hostAct rfl (fun _ => rfl) fun _ => view_wr_page (mod_pgABC _) (zone_pgABC _) rfl
  case hostSlotWrite => exact .of_hostAct rfl (fun _ => rfl) fun _ => by apply view_hostSlot <;> rfl
  case stateWordWrite => exact .of_hostAct rfl (fun _ => rfl) fun _ => by apply view_hostState <;> rfl
  case fbSet => exact .of_hostAct rfl (fun _ => rfl) fun _ => by apply view_fbSet; rfl
  case setcopy => exact .of_view rfl (fun _ => rfl) fun _ => view_reach _ _ _ (fun _ => by apply view_setcopy; rfl) rfl rfl
  case setCopyDone => exact .of_view rfl (fun _ => rfl) fun _ => by apply view_setCopyEnd <;> rfl
  case swapArm => exact .of_view rfl (fun _ => rfl) fun _ => view_reach _ _ _ (fun _ => by apply view_swapArm <;> rfl) rfl rfl
  case swapDisarm => exact .of_view rfl (fun _ => rfl) fun _ => view_reach _ _ _ (fun _ => by apply view_swapDisarm <;> rfl) rfl rfl
  case swapChecksComplete => exact .of_view rfl (fun _ => rfl) fun _ => by apply view_checksEnd <;> rfl
  case swapDecision => exact .of_view rfl (fun _ => rfl) fun _ => by apply view_swapDecide <;> rfl
  case crcPassComplete => exact .of_view rfl (fun _ => rfl) fun _ => by apply view_crcPass <;> rfl
  case stallGuardFire | handshakeProtocolError | dualRailCodeError =>
    exact .of_view rfl (fun _ => rfl) fun _ => by apply view_stall <;> rfl
  case bistFenceRaised => apply inScope_bistFenceRaised
  case damperFrameStart => exact .of_view rfl (fun _ => rfl) fun _ => by apply view_frame <;> rfl
  case tallyNowRead => exact .of_hostGet rfl (fun _ => rfl) fun _ => by apply view_readNow; rfl
  case holdExpired => exact inScope_holdExpired
  case refLost => exact inScope_refLost
  case freqCheckWindow => apply inScope_freqCheckWindow
  case captureEdge => apply inScope_captureEdge
  case captureRead => exact .of_hostGet rfl (fun _ => rfl) fun _ => by apply view_readCap <;> rfl
  case timedOutputDue => apply inScope_timedOutputDue
  case timedOutputPulseEnd => apply inScope_timedOutputPulseEnd
  case ptpRxTimestamp => apply inScope_ptpRxTimestamp
  case ptpTxTimestamp => apply inScope_ptpTxTimestamp
  case rxKeyRead => exact .of_hostGet rfl (fun _ => rfl) fun _ => by apply view_readRxKey <;> rfl
  case txKeyRead => exact .of_hostGet rfl (fun _ => rfl) fun _ => by apply view_readTxKey <;> rfl
  case cmdPrecharge | cmdRun | cmdStop | cmdOff | cmdTest | cmdBypass | cmdUnbypass | cmdClear | cmdLockout =>
    exact .of_view rfl (fun _ => rfl) fun _ => by apply view_hostCmd <;> rfl
  case prechargeTimeout => apply inScope_prechargeTimeout
  case bypassTimeout => apply inScope_bypassTimeout
  case censusMaskRepeat => exact inScope_censusMaskRepeat
  case censusMaskAged => apply inScope_censusMaskAged
  case adcPlanTrigger => apply inScope_adcPlanTrigger
  case stReqGo => exact .of_hostAct rfl (fun _ => rfl) fun _ => by apply view_stReq <;> rfl
  case ceSelftestTimeout => apply inScope_ceSelftestTimeout
  case downlinkSlot => apply inScope_downlinkSlot
  case uplinkBadFrame => apply inScope_uplinkBadFrame
  case idleFrameReceived => apply inScope_idleFrameReceived
  case measReceived => apply inScope_measReceived
  case transReceived => apply inScope_transReceived
  case tripReceived => apply inScope_tripReceived
  case statReceived => apply inScope_statReceived
  case timeechoReceived => apply inScope_timeechoReceived
  case pingStart => apply inScope_pingStart
  case exchangeLost => apply inScope_exchangeLost
  case skipGap => apply inScope_skipGap
  case commaAligned => apply inScope_commaAligned
  case cdrLockLost => apply inScope_cdrLockLost
  case codeViolation => apply inScope_codeViolation
  case noFrameTimeout | slNolinkTimeout => exact .of_view rfl (fun _ => rfl) fun _ => by apply view_laneLoss <;> rfl
  case elasticBufferError => apply inScope_elasticBufferError
  case acquireTimeout => apply inScope_acquireTimeout
  case syncTimeout => apply inScope_syncTimeout
  case laneRetryTimeout => apply inScope_laneRetryTimeout
  case laneRetrain => exact .of_hostAct rfl (fun _ => rfl) fun _ => by apply view_cellRetrain <;> rfl
  case laneFomRst => exact .of_hostAct rfl (fun _ => rfl) fun _ => by apply view_fomRst <;> rfl
  case adaptStep => apply inScope_adaptStep
  case adaptFreeze => apply inScope_adaptFreeze
  case fomMeasure => apply inScope_fomMeasure
  case cmdResend => apply inScope_cmdResend
  case roleRepeat => apply inScope_roleRepeat
  case adcNcmd => exact .of_hostAct rfl (fun _ => rfl) fun _ => by apply view_adcNormal <;> rfl
  case adcUcmd => exact .of_hostAct rfl (fun _ => rfl) fun _ => by apply view_adcUcmd <;> rfl
  case adcCal => exact .of_hostAct rfl (fun _ => rfl) fun _ => by apply view_adcCal <;> rfl
  case adcCalComplete => apply inScope_adcCalComplete
  case adcConversionComplete => apply inScope_adcConversionComplete
  case adcConvTimeout => apply inScope_adcConvTimeout
  case adcDataRead => exact .of_hostGet rfl (fun _ => rfl) fun _ => by apply view_readAdc; rfl
  case wcCrossing => apply inScope_wcCrossing
  case wcSettled => apply inScope_wcSettled
  case wcSelftestGo => exact .of_hostAct rfl (fun _ => rfl) fun _ => by apply view_wcTest; rfl
  case wcSelftestDone => apply inScope_wcSelftestDone
  case emberTick => exact .of_view rfl (fun _ => rfl) fun _ => by apply view_emberTick <;> rfl
  case tripnTransition => apply inScope_tripnTransition
  case chopfbTransition => apply inScope_chopfbTransition
  case chopTmaxOnExpiry => apply inScope_chopTmaxOnExpiry
  case chopTminOffExpiry => apply inScope_chopTminOffExpiry
  case flueReportArrive => apply inScope_flueReportArrive
  case fatalLine => apply inScope_fatalLine
  case hearthConditionQualify => apply inScope_hearthConditionQualify
  case hearthRel => exact .of_hostAct rfl (fun _ => rfl) fun _ => by apply view_release <;> rfl
  case hearthPlea => apply inScope_hearthPlea
  case hearthCopyMismatch => apply inScope_hearthCopyMismatch
  case aliveToggle => exact inScope_aliveToggle
  case supplyOutOfRange => apply inScope_supplyOutOfRange
  case scrubAccess => apply inScope_scrubAccess
  case haltGuardSample => exact inScope_haltGuardSample
  case haltGuardExpiry => exact inScope_haltGuardExpiry
  case sealedUpdateGo => exact .of_hostAct rfl (fun _ => rfl) fun _ => by apply view_supdGo; rfl
  case sealedUpdateDone => exact .of_view rfl (fun _ => rfl) fun _ => by apply view_supdEnd <;> rfl
  case freezeRequest => exact inScope_freezeRequest
  case freezePoint => exact inScope_freezePoint
  case freezeRelease => exact inScope_freezeRelease
  case roleRxEdge => exact .of_view rfl (fun _ => rfl) fun _ => by apply view_rxEdge <;> rfl
  case roleRxTimeout => exact .of_view rfl (fun _ => rfl) fun _ => by apply view_rxTimeout <;> rfl
  case twinTake => exact .of_hostAct rfl (fun _ => rfl) fun _ => by apply view_take <;> rfl
  case twinHandover => exact .of_hostAct rfl (fun _ => rfl) fun _ => by apply view_handover <;> rfl
  case hoReqReceived => exact .of_view rfl (fun _ => rfl) fun _ => by apply view_hoReq <;> rfl
  case hoAckReceived => apply inScope_hoAckReceived
  case hoNakReceived => apply inScope_hoNakReceived
  case hoAnswerTimeout => exact .of_view rfl (fun _ => rfl) fun _ => by apply view_hoFail <;> rfl
  case handoverTime => exact .of_view rfl (fun _ => rfl) fun _ => by apply view_hoNow <;> rfl
  case helloReceived => exact .of_view rfl (fun _ => rfl) fun _ => by apply view_helloIn <;> rfl
  case helloRepeat => exact .of_view rfl (fun _ => rfl) fun _ => by apply view_hello; rfl
  case twinLinkTimeout => exact .of_view rfl (fun _ => rfl) fun _ => by apply view_linkDown <;> rfl
  case copyReceived => exact .of_view rfl (fun _ => rfl) fun _ => by apply view_copyIn <;> rfl
  case copyEndReceived => exact .of_view rfl (fun _ => rfl) fun _ => by apply view_copyEnd <;> rfl
  case healthRepeat => exact inScope_healthRepeat
  case healthReceived => exact .of_view rfl (fun _ => rfl) fun _ => by apply view_healthIn <;> rfl
  case twinReadyTimeout => exact inScope_twinReadyTimeout
  case twinConflictDetect => exact inScope_twinConflictDetect
  case eventPost => apply inScope_eventPost
  case ovfMove => apply inScope_ovfMove
  case eqNext => apply inScope_eqNext
  case eqRelease => apply inScope_eqRelease
  case eqMark => apply inScope_eqMark
  case eqRewind => apply inScope_eqRewind
  case eqQreset => apply inScope_eqQreset
  case eqPeakRst => apply inScope_eqPeakRst
  case eqPost => apply inScope_eqPost
  case recorderFrameWrite => exact inScope_recorderFrameWrite
  case recEnable => exact inScope_recEnable
  case recDisable => exact inScope_recDisable
  case recStop => exact .of_hostAct rfl (fun _ => rfl) fun _ => by apply view_recFreeze <;> rfl
  case recRearm => exact .of_hostAct rfl (fun _ => rfl) fun _ => by apply view_recRearm <;> rfl
  case recTrig => exact .of_hostAct rfl (fun _ => rfl) fun _ => by apply view_recTrigger <;> rfl
  case ashCopy => exact inScope_ashCopy
  case slLinkReceived => exact .of_view rfl (fun _ => rfl) fun _ => by apply view_linkIn <;> rfl
  case slLinkRepeat => exact .of_view rfl (fun _ => rfl) fun _ => by apply view_linkSend <;> rfl
  case slRetrain => exact .of_hostAct rfl (fun _ => rfl) fun _ => by apply view_slRetrain <;> rfl
  case slFomRst => exact .of_hostAct rfl (fun _ => rfl) fun _ => by apply view_wr <;> rfl
  case slPacketReceived => exact .of_view rfl (fun _ => rfl) fun _ => by apply view_pktIn <;> rfl
  case slPacketTransmit => exact .of_view rfl (fun _ => rfl) fun _ => by apply view_pktOut <;> rfl
  case sysTripSet | sysTripClr => exact .of_hostAct rfl (fun _ => rfl) fun _ => by apply view_tripCmd <;> rfl
  case sysTripRepeat => exact inScope_sysTripRepeat
  case sysTripReceived => exact .of_view rfl (fun _ => rfl) fun _ => view_withIn _ _ _ rfl fun _ _ => by apply view_tripIn; rfl
  case sysTripTimeout => exact .of_view rfl (fun _ => rfl) fun _ => by apply view_clrBit <;> rfl
  case sysTreqStart => exact .of_view rfl (fun _ => rfl) fun _ => by apply view_treqStart <;> rfl
  case treqReceived => exact .of_view rfl (fun _ => rfl) fun _ => view_withIn _ _ _ rfl fun _ _ => by apply view_treqIn <;> rfl
  case trespReceived => exact .of_view rfl (fun _ => rfl) fun _ => view_withIn _ _ _ rfl fun _ _ => by apply view_trespIn <;> rfl
  case sysExchangeLost => exact .of_view rfl (fun _ => rfl) fun _ => by apply view_treqLost <;> rfl
  case swapGo => exact .of_view rfl (fun _ => rfl) fun _ => view_reach _ _ _ (fun _ => by apply view_swapSend <;> rfl) rfl rfl
  case swapPacketReceived => exact .of_view rfl (fun _ => rfl) fun _ => view_withIn _ _ _ rfl fun _ _ => by apply view_swapIn <;> rfl
  case planGo => exact .of_hostAct rfl (fun _ => rfl) fun _ => by apply view_planSend <;> rfl
  case planReceived => exact .of_view rfl (fun _ => rfl) fun _ => view_withIn _ _ _ rfl fun _ _ => by apply view_planIn <;> rfl
  case reportReceived => exact .of_view rfl (fun _ => rfl) fun _ => view_withIn _ _ _ rfl fun _ _ => by apply view_reportIn; rfl
  case rptRst => exact .of_hostAct rfl (fun _ => rfl) fun _ => by apply view_put; rfl
  case maskReceived => exact .of_view rfl (fun _ => rfl) fun _ => view_withIn _ _ _ rfl fun _ _ => by apply view_maskIn; rfl
  case pointReceived => exact .of_view rfl (fun _ => rfl) fun _ => view_withIn _ _ _ rfl fun _ _ => by apply view_pointIn <;> rfl
  case raGo => exact .of_hostAct rfl (fun _ => rfl) fun _ => by apply view_raStart <;> rfl
  case rreqReceived => exact .of_view rfl (fun _ => rfl) fun _ => view_withIn _ _ _ rfl fun _ _ => by apply view_rreqIn <;> rfl
  case rrspReceived => exact .of_view rfl (fun _ => rfl) fun _ => view_withIn _ _ _ rfl fun _ _ => by apply view_rrspIn <;> rfl
  case raTimeout => exact inScope_raTimeout
  case porstNRise => apply inScope_porstNRise
  case bootImageRead => exact .of_view rfl (fun _ => rfl) fun _ => by apply view_flashRead <;> rfl
  case kctlImgGo => exact .of_hostAct rfl (fun _ => rfl) fun _ => by apply view_imgGo <;> rfl
  case kindlingComplete => exact .of_view rfl (fun _ => rfl) fun _ => by apply view_kindled; rfl
  case dieReset => exact .of_hostAct rfl (fun _ => rfl) fun _ => by apply view_dieReset <;> rfl
  case regionReset => exact .of_hostAct rfl (fun _ => rfl) fun _ => by apply view_regionReset <;> rfl
  case regionResetDone => exact .of_view rfl (fun _ => rfl) fun _ => by apply view_regionResetEnd <;> rfl
  case pciePerstFall => exact inScope_pciePerstFall
  case pciePerstRise => exact .of_view rfl (fun _ => rfl) fun _ => by apply view_modKin; rfl
  case ecntRead => exact .of_hostGet rfl (fun _ => rfl) fun _ => by apply view_readEcnt; rfl
  case xtalStable => exact inScope_xtalStable
  case xtalFail => exact inScope_xtalFail
  case emberSleep => exact .of_hostAct rfl (fun _ => rfl) fun _ => by apply view_sleepStart <;> rfl
  case sleepDelayExpiry => exact inScope_sleepDelayExpiry
  case emberAlarm => exact .of_view rfl (fun _ => rfl) fun _ => by apply view_emberAlarm <;> rfl
  case tempSample => exact .of_view rfl (fun _ => rfl) fun _ => by apply view_tempSample <;> rfl
  case thermPeakRst => exact .of_hostAct rfl (fun _ => rfl) fun _ => by apply view_peakReset <;> rfl
  case bistStart => exact .of_hostAct rfl (fun _ => rfl) fun _ => by apply view_bistGo <;> rfl
  case bistAbort => apply inScope_bistAbort
  case bistComplete => apply inScope_bistComplete
  case standbyBistStart => exact inScope_standbyBistStart
  case umark => exact .of_hostAct rfl (fun _ => rfl) fun _ => by apply view_umark <;> rfl
  case lbistHubStart | lbistHrtStart => exact .of_hostAct rfl (fun _ => rfl) fun _ => by apply view_lbistGo <;> rfl
  case lbistComplete => exact .of_view rfl (fun _ => rfl) fun _ => view_throttle _ _ _ (fun _ => by apply view_lbistEnd <;> rfl) rfl
  case keyProg => exact .of_hostAct rfl (fun _ => rfl) fun _ => by apply view_keyProg <;> rfl
  case keyProgDone => exact .of_view rfl (fun _ => rfl) fun _ => by apply view_keyDone <;> rfl
  case zeroise => exact .of_hostAct rfl (fun _ => rfl) fun _ => by apply view_zero <;> rfl
  case cstoreWrite => exact .of_hostAct rfl (fun _ => rfl) fun _ => by apply view_cstoreGo <;> rfl
  case cstoreWriteDone => exact .of_view rfl (fun _ => rfl) fun _ => by apply view_cstoreDone <;> rfl
  case vembPowerOn => exact .of_view rfl (fun _ => rfl) fun _ => by apply view_emberReset <;> rfl
  case crystalResume => exact .of_view rfl (fun _ => rfl) fun _ => by apply view_wr <;> rfl
  case supplyReturn => apply inScope_supplyReturn
  case hearthConditionCease => apply inScope_hearthConditionCease
  case healthAgeExpiry => exact inScope_healthAgeExpiry
  case kindlingPllTimeout => exact inScope_kindlingPllTimeout
  case sensorReadingTimeout => exact .of_view rfl (fun _ => rfl) fun _ => by apply view_sensorBad <;> rfl
  case gpioRise => exact .of_view rfl (fun _ => rfl) fun _ => by apply view_recSource <;> rfl
  case tapExtest | tapClamp | tapHighz | tapExtestPulse | tapExtestTrain =>
    exact .of_view rfl (fun _ => rfl) fun _ => by apply view_tapStop <;> rfl
  case tapIdcode => exact inScope_tapIdcode
  case tapSamplePreload | tapBypass => exact .of_view rfl (fun _ => rfl) fun _ => by apply view_tapSelect <;> rfl
  case tapHalt => exact inScope_tapHalt
  case tapScanInt => exact inScope_tapScanInt
  case tapLbistHub => exact inScope_tapLbistHub
  case tapLbistHrt => exact inScope_tapLbistHrt

/-- Settles O2, command by command. -/
theorem commandsStayInScope : Obligations.CommandsStayInScope := by
  unfold Obligations.CommandsStayInScope
  exact inScope

end Sys2Proof.Machine
end

section
-- One task at a time: the check bounds the memory of all of Lean's threads together.
set_option Elab.async false
set_option linter.all false

/-! PROOF. What reset leaves in the registers: a register resets to what the table of its page's kind says, whichever page of the
kind it lies in, and reset lists no register but FENCE_STAT. -/

namespace Sys2Proof.Machine

/-- What the register table of a page kind gives the dword at page offset `o`. -/
def tableWord (k : PageKind) (o : Nat) : Word := (fieldsAt k o).foldl (fun d e => e.1.set d e.1.reset) 0

theorem pageOf_of_zone {pg : Nat} {k : PageKind} (hz : zoneOf pg = .page k) : ∃ i, pageOf pg = some (k, i) := by
  rw [zoneOf] at hz
  split at hz
  · next k' i h => exact ⟨i, by rw [h, Zone.page.inj hz]⟩
  · cases hz

/-- The HRT1 page alone has registers whose reset value its table words (R410). -/
theorem resetWord_table {pg o : Nat} {k : PageKind} (hz : zoneOf pg = .page k) (hp : pg % 0x1000 = 0) (hk : k ≠ .hrt1)
    (h0 : 0x40 ≤ o) (h1 : o < 0x1000) : resetWord (pg + o) = tableWord k o := by
  obtain ⟨i, hpage⟩ := pageOf_of_zone hz
  have hoff : (pg + o) % 0x1000 = o := by omega
  have hspecial : specialReset k i o = none := by
    rw [specialReset, if_neg (by omega), if_neg (by omega), if_neg (by simp [hk]), if_neg (by simp [hk])]
  rw [resetWord, pageOf_add pg o hp h1, hpage]
  dsimp only
  rw [hoff, hspecial]
  rfl

theorem word_reset {a : Nat} (h : a ≠ 0x90) : State.reset.word a = resetWord a := if_neg h

/-- Reset leaves a register at what the table of its page says. -/
theorem rd_reset {pg : Nat} {f : Field} {i v : Nat} {k : PageKind} (hz : zoneOf pg = .page k) (hp : pg % 0x1000 = 0)
    (hk : k ≠ .hrt1 ∧ 0x40 ≤ f.at i ∧ (k = .pkg → f.at i ≠ 0x90)) (hv : f.get (tableWord k (f.at i)) = v) :
    State.reset.rd pg f i = v := by
  obtain ⟨hk1, h0, hpkg⟩ := hk
  have hfence : pg + f.at i ≠ 0x90 := fun h => by
    have hz90 : zoneOf (pg + f.at i) = .page .pkg := by rw [h]; decide
    rw [zoneOf_field pg f i hp, hz] at hz90
    have hlt := f.at_lt i
    exact hpkg (Zone.page.inj hz90) (by omega)
  rw [show State.reset.rd pg f i = f.get (State.reset.word (pg + f.at i)) from rfl, word_reset hfence,
    resetWord_table hz hp hk1 h0 (f.at_lt i), hv]

theorem vget_replicate {α : Type} [Inhabited α] (n i : Nat) : vget (Vector.replicate n (default : α)) i = default := by
  rw [vget, Vector.toList_replicate, List.getD_eq_getElem?_getD, List.getElem?_replicate]
  split <;> rfl

theorem region_reset (n : Nat) : State.reset.region n = default := vget_replicate 4 n

theorem queue_reset (q : Nat) : State.reset.queue q = default := vget_replicate 8 q

/-- Settles O6: the tables give each register its value, and `Dev.reset` the rest. -/
theorem resetLeavesTheStatedValues : Obligations.ResetLeavesTheStatedValues := by
  unfold Obligations.ResetLeavesTheStatedValues
  have hpkg {f : Field} {v : Nat} := rd_reset (f := f) (i := 0) (v := v) zone_pgPKG mod_pgPKG
  have hsysn {f : Field} {i v : Nat} := rd_reset (f := f) (i := i) (v := v) zone_pgSYSN mod_pgSYSN
  refine ⟨rfl, rfl, rfl, rfl, rfl, hpkg (by decide) (by decide), hpkg (by decide) (by decide), hpkg (by decide) (by decide),
    hpkg (by decide) (by decide), hpkg (by decide) (by decide), hpkg (by decide) (by decide), ?tally, ?spll, ?regions, ?clusters,
    ?lanes, hsysn (by decide) (by decide), hsysn (by decide) (by decide), ?queues, ?twin, ?bist, ?sbCfg, ?sec, rfl, rfl, rfl, rfl⟩
  case tally => exact rd_reset zone_pgTALLY mod_pgTALLY (by decide) (by decide)
  case spll => exact rd_reset zone_pgSPLL mod_pgSPLL (by decide) (by decide)
  case regions =>
    exact fun n => ⟨rd_reset (zone_pgRG n) (mod_pgRG n) (by decide) (by decide),
      rd_reset (zone_pgRG n) (mod_pgRG n) (by decide) (by decide), by rw [region_reset]; rfl⟩
  case clusters =>
    exact fun c => ⟨rd_reset (zone_pgCLU c) (mod_pgCLU c) (by decide) (by decide),
      rd_reset (zone_pgCLU c) (mod_pgCLU c) (by decide) (by decide),
      rd_reset (zone_pgCLANE c) (mod_pgCLANE c) (by decide) (by decide)⟩
  case lanes =>
    have htable : ∀ i : Fin 12, (0x40 ≤ SL_SLSTAT_STATE.at i) ∧ SL_SLSTAT_STATE.get (tableWord .sysn (SL_SLSTAT_STATE.at i)) = 0 := by
      decide
    exact fun i => hsysn ⟨by decide, (htable i).1, nofun⟩ (htable i).2
  case queues =>
    exact fun q => ⟨rd_reset (zone_pgEQ q) (mod_pgEQ q) (by decide) (by decide),
      rd_reset (zone_pgEQ q) (mod_pgEQ q) (by decide) (by decide), by rw [queue_reset]; rfl⟩
  case twin => exact rd_reset zone_pgTWIN mod_pgTWIN (by decide) (by decide)
  case bist => exact rd_reset zone_pgBIST mod_pgBIST (by decide) (by decide)
  case sbCfg => exact rd_reset zone_pgBIST mod_pgBIST (by decide) (by decide)
  case sec =>
    have htable : ∀ g : Fin 4, (0x40 ≤ SEC_RGNT_EN.at g) ∧ SEC_RGNT_EN.get (tableWord .sec (SEC_RGNT_EN.at g)) = 0 := by decide
    exact fun g => rd_reset zone_pgSEC mod_pgSEC ⟨by decide, (htable g).1, nofun⟩ (htable g).2

end Sys2Proof.Machine
end

section
-- One task at a time: the check bounds the memory of all of Lean's threads together.
set_option Elab.async false
set_option linter.all false

/-! SUPPORT. The parts of the device that a region's cycle turns on: the registers of its RG and ABC pages and the windows, and the
timing of its `Region` record. What the operations of a cycle leave of them, beside what they write by their own words. -/

namespace Sys2Proof.Machine

/-! ### Operations done one after another -/

/-- A reflexive and transitive relation that each operation meets holds from first to last. -/
theorem each_relates {α : Type} {R : Work → Work → Prop} (hrefl : ∀ w, R w w) (htrans : ∀ {w v u}, R w v → R v u → R w u)
    {l : List α} {g : Work → α → Work} (hg : ∀ w, ∀ a ∈ l, R w (g w a)) (w : Work) : R w (w.each l g) := by
  unfold Work.each
  induction l generalizing w with
  | nil => exact hrefl w
  | cons a l ih => exact htrans (hg w a (List.mem_cons_self ..)) (ih (fun v b hb => hg v b (List.mem_cons_of_mem _ hb)) _)

/-- What no operation of the list changes. -/
theorem each_keeps {α β : Type} (p : Work → β) (w : Work) (l : List α) (g : Work → α → Work) (h : ∀ u a, p (g u a) = p u) :
    p (w.each l g) = p w :=
  each_relates (R := fun w v => p v = p w) (fun _ => rfl) (fun h g => g.trans h) (fun u a _ => h u a) w

/-! ### The registers of the cycle -/

def allKinds : Kind → Bool := fun _ => true

/-- Every zone but the RG and ABC pages, the windows and the package page. -/
def offCycle : Zone → Bool := fun z => decide (z ≠ .page .rg ∧ z ≠ .page .abc ∧ z ≠ .window ∧ z ≠ .page .pkg)

/-- `v` holds what `w` does in every register of the cycle. -/
abbrev SameRegs (w v : Work) : Prop := view allKinds offCycle v = view allKinds offCycle w

/-- Element `i` of `f` and element `j` of `g` share no bit of a page. -/
abbrev Field.Clear (f : Field) (i : Nat) (g : Field) (j : Nat) : Prop := f.at i ≠ g.at j ∨ f.Apart g

theorem rd_wr_clear (w : Work) (pg : Nat) {f : Field} {i : Nat} {g : Field} {j : Nat} (h : f.Clear i g j) (v : Nat) :
    (w.wr pg f v i).rd pg g j = w.rd pg g j := by
  rcases h with h | h
  · exact rd_wr_ne _ _ _ _ _ _ _ _ fun e => h (by omega)
  · exact rd_wr_disj _ _ _ _ _ _ _ _ h

theorem rd_count_clear (w : Work) (pg : Nat) {f : Field} {i : Nat} {g : Field} {j : Nat} (h : f.Clear i g j) (n : Nat) :
    (w.count pg f n i).rd pg g j = w.rd pg g j := rd_wr_clear w pg h _

/-! ### The region records -/

def allZones : Zone → Bool := fun _ => true

/-- Every kind of state but the region records. -/
def offRegions : Kind → Bool := fun k => decide (k ≠ .rgn)

@[simp] theorem State.region_onDev (s : State) (f : Work → Work) (n : Nat) : (s.onDev f).region n = (f s.work).rg n := rfl

theorem rgn_of_view {w v : Work} (h : view offRegions allZones v = view offRegions allZones w) : v.rgn = w.rgn :=
  same_of_view h .rgn rfl

theorem rg_congr {w v : Work} (h : v.rgn = w.rgn) (m : Nat) : v.rg m = w.rg m := by rw [Work.rg, h, Work.rg]

theorem rg_modRg_same (w : Work) (n : Fin 4) (f : Region → Region) : (w.modRg n f).rg n = f (w.rg n) := by
  simp [Work.rg, Work.modRg, vget, vmod]

@[simp] theorem rg_wr (w : Work) (pg : Nat) (f : Field) (v i m : Nat) : (w.wr pg f v i).rg m = w.rg m := by
  rw [Work.rg, wr_rgn, Work.rg]

theorem modRg_congr {w v : Work} (h : v.rgn = w.rgn) (n : Nat) (f : Region → Region) : (v.modRg n f).rgn = (w.modRg n f).rgn := by
  rw [modRg_rgn, h, modRg_rgn]

theorem rgn_each {α : Type} (w : Work) (l : List α) (f : Work → α → Work) (hf : ∀ v a, (f v a).rgn = v.rgn) :
    (w.each l f).rgn = w.rgn := each_keeps (fun u => u.rgn) w l f hf

/-- A takeover's clusters resume; the region only notes that they have. -/
theorem rgn_resumeClusters (w : Work) (n : Nat) (te : Int) :
    (w.resumeClusters n te).rgn = (w.modRg n fun r => { r with resume := false }).rgn := by
  refine modRg_congr (rgn_each _ _ _ fun v o => rgn_of_view ?_) n _
  rw [view_modCl _ _ _ rfl, view_modLn _ _ _ rfl]
  refine view_each _ _ _ fun u p => ?_
  rw [view_modUn _ _ _ rfl]
  dsimp only
  split
  · rw [view_modUn _ _ _ rfl, view_timed _ _ _ rfl, view_timed _ _ _ rfl]
  · rfl

end Sys2Proof.Machine
end

section
-- One task at a time: the check bounds the memory of all of Lean's threads together.
set_option Elab.async false
set_option linter.all false

/-! PROOF. Settles O24: the output deadline (R26, R31, R185, R186). -/

namespace Sys2Proof.Machine

/-- What an overrun leaves of the region's cycle. -/
def Region.overran (r : Region) : Region :=
  { r with overrun := true, reckon := false, catchUp := 0, pendState := [], pendOut := [], results := [] }

/-- OVR, OVR_COUNT and OVR_RUN of an overrun (R185). -/
def Work.overrunCounted (w : Work) (n : Nat) : Work :=
  ((w.wr (pgABC n) ABC_RSTAT_OVR 1).count (pgABC n) ABC_OVR_COUNT).wr (pgABC n) ABC_RSTAT_OVR_RUN
    (min (w.rd (pgABC n) ABC_RSTAT_OVR_RUN + 1) 15)

/-- OVR_TRIP and its fault (R186). -/
def Work.overrunTripped (w : Work) (n : Nat) : Work := (w.wr (pgABC n) ABC_RSTAT_OVR_TRIP 1).flt (pgABC n) .uc 17

theorem rd_overrunCounted (w : Work) (n : Nat) {f : Field} {i : Nat} (h1 : ABC_RSTAT_OVR.Clear 0 f i) (h2 : ABC_OVR_COUNT.Clear 0 f i)
    (h3 : ABC_RSTAT_OVR_RUN.Clear 0 f i) : (w.overrunCounted n).rd (pgABC n) f i = w.rd (pgABC n) f i := by
  rw [Work.overrunCounted, rd_wr_clear _ _ h3, rd_count_clear _ _ h2, rd_wr_clear _ _ h1]

/-- The device once an overrun is counted, with the recorder's trigger. -/
def Work.overrunSeen (w : Work) (n : Nat) : Work :=
  ((w.modRg n Region.overran).overrunCounted n).recSource 7 fun sel => sel % 4 == n

theorem overrunSeen_regs (w : Work) (n : Nat) : SameRegs ((w.modRg n Region.overran).overrunCounted n) (w.overrunSeen n) :=
  view_recSource _ _ _ rfl rfl rfl rfl rfl

theorem rd_overrunSeen (w : Work) (n : Nat) (f : Field) (i : Nat) :
    (w.overrunSeen n).rd (pgABC n) f i = ((w.modRg n Region.overran).overrunCounted n).rd (pgABC n) f i :=
  rd_of_view (overrunSeen_regs w n) _ f i (mod_pgABC n) (by rw [zone_pgABC]; rfl)

theorem overrun_eq (w : Work) (n : Nat) : w.overrun n =
    if w.rd (pgABC n) ABC_OVR_CTL ≤ min (w.rd (pgABC n) ABC_RSTAT_OVR_RUN + 1) 15 ∧
        (w.rd (pgABC n) ABC_RSTAT_OVR_RUN < w.rd (pgABC n) ABC_OVR_CTL ∨ ¬ (w.overrunSeen n).on (pgABC n) ABC_RSTAT_OVR_TRIP)
    then ((w.overrunSeen n).overrunTripped n).forcedSafeRg n 4 else w.overrunSeen n := rfl

/-- A field that an overrun counts in, or another but OVR_TRIP, reads what the count made of it. -/
theorem rd_overrun (w : Work) (n : Nat) {f : Field} (hf : ABC_RSTAT_OVR_TRIP.Clear 0 f 0) (h : f.at 0 ≠ 0x10) :
    (w.overrun n).rd (pgABC n) f = (w.overrunCounted n).rd (pgABC n) f := by
  have htrip : (((w.overrunSeen n).overrunTripped n).forcedSafeRg n 4).rd (pgABC n) f = (w.overrunSeen n).rd (pgABC n) f := by
    have hview : SameRegs ((w.overrunSeen n).overrunTripped n) (((w.overrunSeen n).overrunTripped n).forcedSafeRg n 4) :=
      view_forcedSafeRg _ _ _ _ rfl rfl rfl rfl
    rw [rd_of_view hview _ f 0 (mod_pgABC n) (by rw [zone_pgABC]; rfl), Work.overrunTripped, rd_flt_ne _ _ _ _ _ _ _ _ (by omega),
      rd_wr_clear _ _ hf]
  rw [overrun_eq]
  split
  · rw [htrip, rd_overrunSeen]; rfl
  · rw [rd_overrunSeen]; rfl

/-- The windows and the RG page keep their dwords. -/
theorem word_overrun (w : Work) (n : Nat) {a : Nat} (ha : offCycle (zoneOf a) = false) (hz : zoneOf a ≠ .page .abc) :
    (w.overrun n).word a = w.word a := by
  let Z : Zone → Bool := fun z => offCycle z || decide (z = .page .abc)
  have hview : view allKinds Z (w.overrun n) = view allKinds Z w :=
    view_overrun _ _ rfl rfl rfl rfl rfl rfl rfl rfl rfl rfl rfl rfl rfl rfl
  exact word_of_view hview a (by simp [Z, ha, hz])

/-- R186: the trip is flagged, and UC 17 with it. -/
theorem overrun_trips (w : Work) (n : Nat) (hlim : w.rd (pgABC n) ABC_OVR_CTL ≤ min (w.rd (pgABC n) ABC_RSTAT_OVR_RUN + 1) 15)
    (hnew : w.rd (pgABC n) ABC_RSTAT_OVR_RUN < w.rd (pgABC n) ABC_OVR_CTL ∨ w.rd (pgABC n) ABC_RSTAT_OVR_TRIP = 0) :
    (w.overrun n).rd (pgABC n) ABC_RSTAT_OVR_TRIP = 1 ∧ (w.overrun n).rd (pgABC n) HDR_FLT_UC = 1 ∧
      ((w.overrun n).rd (pgABC n) HDR_FLT_CAUSE).testBit 1 = true := by
  have hcond : w.rd (pgABC n) ABC_OVR_CTL ≤ min (w.rd (pgABC n) ABC_RSTAT_OVR_RUN + 1) 15 ∧
      (w.rd (pgABC n) ABC_RSTAT_OVR_RUN < w.rd (pgABC n) ABC_OVR_CTL ∨ ¬ (w.overrunSeen n).on (pgABC n) ABC_RSTAT_OVR_TRIP) := by
    refine ⟨hlim, hnew.imp_right fun h => ?_⟩
    rw [on_iff, rd_overrunSeen, rd_overrunCounted _ _ (by decide) (by decide) (by decide), rd_modRg, not_not]
    exact h
  have hview : SameRegs ((w.overrunSeen n).overrunTripped n) (((w.overrunSeen n).overrunTripped n).forcedSafeRg n 4) :=
    view_forcedSafeRg _ _ _ _ rfl rfl rfl rfl
  have hrd (f : Field) := rd_of_view hview (pgABC n) f 0 (mod_pgABC n) (by rw [zone_pgABC]; rfl)
  rw [overrun_eq, if_pos hcond, hrd, hrd, hrd, Work.overrunTripped]
  refine ⟨?_, rd_flt_class .., ?_⟩
  · rw [rd_flt_ne _ _ _ _ _ _ _ _ (by simp [Field.at, ABC_RSTAT_OVR_TRIP]), rd_wr_same _ _ _ _ _ (by decide)]
    rfl
  · rw [cause_flt _ _ _ _ _ _ (by decide) (by decide)]
    simp

theorem rgn_overrun (w : Work) (n : Nat) : (w.overrun n).rgn = (w.modRg n Region.overran).rgn := by
  have hseen : (w.overrunSeen n).rgn = (w.modRg n Region.overran).rgn := by
    refine rgn_of_view ?_
    rw [Work.overrunSeen, view_recSource _ _ _ rfl rfl rfl rfl rfl, Work.overrunCounted, view_wr _ _ _ _ _ (mod_pgABC n) rfl,
      view_count _ _ _ _ _ (mod_pgABC n) rfl, view_wr _ _ _ _ _ (mod_pgABC n) rfl]
  rw [overrun_eq]
  split
  · rw [← hseen]
    refine rgn_of_view ?_
    rw [view_forcedSafeRg _ _ _ _ rfl rfl rfl rfl, Work.overrunTripped, view_flt _ _ _ _ _ (mod_pgABC n) rfl rfl rfl rfl,
      view_wr _ _ _ _ _ (mod_pgABC n) rfl]
  · exact hseen

/-! ### The output deadline -/

/-- The cycle enters SCHEDULE. -/
def Work.deadlineReached (w : Work) (n : Nat) : Work :=
  (w.modRg n fun r => { r with tEnd := w.up }).wr (pgRG n) RG_CYC_STAT_PHASE 3

/-- What follows once the overrun is dealt with: clusters resume, and the edges of the next interval are scheduled. -/
def Work.deadlineEnd (w : Work) (n : Nat) (b : Int) (resume : Bool) (ilk : List (Fin 192 × BitVec 2)) : Work :=
  (w.when resume fun w => w.resumeClusters n b).scheduleRegion n b ilk

theorem outputTime_eq {w : Work} {n : Nat} {b : Int} (ilk : List (Fin 192 × BitVec 2)) (hb : (w.rg n).nextB = some b)
    (hrun : (w.rg n).run = true) (hphase : w.phase n = 2) (hfence : w.rgFenced n = false) (hact : (w.rg n).standby = false) :
    w.outputTime n ilk = (if (w.rg n).reckon || (w.rg n).abandoned || (w.rg n).tDone.isNone then (w.deadlineReached n).overrun n
      else w.deadlineReached n).deadlineEnd n b (w.rg n).resume ilk := by
  rw [Work.outputTime]
  simp only [hb, hrun, hphase, hfence, hact]
  rfl

theorem deadlineEnd_regs (w : Work) (n : Nat) (b : Int) (resume : Bool) (ilk : List (Fin 192 × BitVec 2)) :
    SameRegs w (w.deadlineEnd n b resume ilk) := by
  rw [SameRegs, Work.deadlineEnd, view_scheduleRegion _ _ _ _ rfl rfl rfl rfl rfl rfl rfl rfl]
  exact view_when _ _ _ fun v => view_resumeClusters _ _ _ rfl rfl rfl rfl

theorem rg_deadlineEnd (w : Work) (n : Fin 4) (b : Int) (resume : Bool) (ilk : List (Fin 192 × BitVec 2)) :
    ∃ x, (w.deadlineEnd n b resume ilk).rg n = { w.rg n with resume := x } := by
  have hsched := rg_congr (rgn_of_view (view_scheduleRegion (w.when resume fun w => w.resumeClusters n b) n b ilk
    rfl rfl rfl rfl rfl rfl rfl rfl)) n
  rw [Work.deadlineEnd, hsched]
  cases resume
  · exact ⟨(w.rg n).resume, rfl⟩
  · exact ⟨false, (rg_congr (rgn_resumeClusters w n b) n).trans (rg_modRg_same w n _)⟩

theorem rg_deadlineReached (w : Work) (n : Fin 4) : (w.deadlineReached n).rg n = { w.rg n with tEnd := w.up } := by
  rw [Work.deadlineReached, rg_wr, rg_modRg_same]

/-- The deadline of a cycle that has completed RECKON: SCHEDULE, and no overrun. -/
theorem rg_deadline_completed (w : Work) (n : Fin 4) (b : Int) (resume : Bool) (ilk : List (Fin 192 × BitVec 2)) :
    ∃ x, ((w.deadlineReached n).deadlineEnd n b resume ilk).rg n = { w.rg n with tEnd := w.up, resume := x } := by
  obtain ⟨x, hx⟩ := rg_deadlineEnd (w.deadlineReached n) n b resume ilk
  exact ⟨x, by rw [hx, rg_deadlineReached]⟩

/-- The deadline of one that has not: the results are discarded. -/
theorem rg_deadline_overrun (w : Work) (n : Fin 4) (b : Int) (resume : Bool) (ilk : List (Fin 192 × BitVec 2)) :
    ∃ x, (((w.deadlineReached n).overrun n).deadlineEnd n b resume ilk).rg n =
      { (w.rg n).overran with tEnd := w.up, resume := x } := by
  obtain ⟨x, hx⟩ := rg_deadlineEnd ((w.deadlineReached n).overrun n) n b resume ilk
  exact ⟨x, by rw [hx, rg_congr (rgn_overrun (w.deadlineReached n) n), rg_modRg_same, rg_deadlineReached]; rfl⟩

theorem word_deadlineReached (w : Work) (n : Nat) {a : Nat} (ha : zoneOf a ≠ .page .rg) :
    (w.deadlineReached n).word a = w.word a := by
  let Z : Zone → Bool := fun z => decide (z = .page .rg)
  have hview : view allKinds Z (w.deadlineReached n) = view allKinds Z w := by
    rw [Work.deadlineReached, view_wr _ _ _ _ _ (mod_pgRG n) (by rw [zone_pgRG]; rfl), view_modRg _ _ _ rfl]
  exact word_of_view hview a (by simp [Z, ha])

theorem rd_deadlineReached (w : Work) (n : Nat) {f : Field} {i : Nat} {pg : Nat} (hp : pg % 0x1000 = 0) (hz : zoneOf pg ≠ .page .rg) :
    (w.deadlineReached n).rd pg f i = w.rd pg f i := rd_congr (word_deadlineReached w n (by rwa [zoneOf_field _ _ _ hp]))

theorem phase_deadlineReached (w : Work) (n : Nat) : (w.deadlineReached n).rd (pgRG n) RG_CYC_STAT_PHASE = 3 := by
  rw [Work.deadlineReached, rd_wr_same _ _ _ _ _ (by decide)]
  rfl

/-- A register of the cycle, after the deadline. -/
theorem rd_deadlineEnd (w : Work) (n : Nat) (b : Int) (resume : Bool) (ilk : List (Fin 192 × BitVec 2)) {pg : Nat}
    (hp : pg % 0x1000 = 0) (hz : offCycle (zoneOf pg) = false) (f : Field) (i : Nat) :
    (w.deadlineEnd n b resume ilk).rd pg f i = w.rd pg f i := rd_of_view (deadlineEnd_regs w n b resume ilk) pg f i hp hz

theorem deadline_cycling {s : State} {v : Work} {n : Fin 4} {b : Int} {ilk : List (Fin 192 × BitVec 2)}
    (heq : s.work.outputTime n ilk = v.deadlineEnd n b (s.work.rg n).resume ilk) (hphase : v.rd (pgRG n) RG_CYC_STAT_PHASE = 3)
    (hfence : v.rd pgPKG PKG_FENCE_STAT = s.work.rd pgPKG PKG_FENCE_STAT) (hrun : (v.rg n).run = (s.region n).run)
    (hact : (v.rg n).standby = (s.region n).standby) (h : s.cycling n 2) : (s.onDev fun w => w.outputTime n ilk).cycling n 3 := by
  obtain ⟨hrun', hact', -, hfence'⟩ := h
  obtain ⟨x, hx⟩ := rg_deadlineEnd v n b (s.work.rg n).resume ilk
  rw [State.cycling, State.region_onDev, State.rd_onDev, State.rd_onDev, heq, hx, rd_deadlineEnd _ _ _ _ _ (mod_pgRG n) (by rw [zone_pgRG]; rfl),
    rd_deadlineEnd _ _ _ _ _ mod_pgPKG (by rw [zone_pgPKG]; rfl), hfence]
  exact ⟨hrun.trans hrun', hact.trans hact', hphase, hfence'⟩

/-- R26, R31: the output deadline of a cycle that has completed RECKON. -/
theorem outputDeadline_schedules {s : State} {n : Fin 4} {b : Int} (ilk : List (Fin 192 × BitVec 2)) (h : s.cycling n 2)
    (heq : s.work.outputTime n ilk = (s.work.deadlineReached n).deadlineEnd n b (s.work.rg n).resume ilk)
    (hover : (s.region n).overrun = false) : Runs (.outputDeadline n ilk) s fun t =>
      t.cycling n 3 ∧ (t.region n).overrun = false ∧ (t.region n).pendState = (s.region n).pendState ∧
      (t.region n).pendOut = (s.region n).pendOut ∧ t.rd (pgABC n) ABC_OVR_COUNT = s.rd (pgABC n) ABC_OVR_COUNT ∧ TimeKept s t := by
  have hreached := rg_deadlineReached s.work n
  obtain ⟨x, hx⟩ := rg_deadline_completed s.work n b (s.work.rg n).resume ilk
  refine runs_dev (f := fun w => w.outputTime n ilk) rfl ⟨deadline_cycling heq (phase_deadlineReached ..)
    (rd_deadlineReached _ _ mod_pgPKG (by simp)) (by rw [hreached]; rfl) (by rw [hreached]; rfl) h, ?_⟩
  rw [State.region_onDev, State.rd_onDev, heq, hx, rd_deadlineEnd _ _ _ _ _ (mod_pgABC n) (by rw [zone_pgABC]; rfl),
    rd_deadlineReached _ _ (mod_pgABC n) (by simp)]
  exact ⟨hover, rfl, rfl, rfl, rfl, rfl⟩

/-- R185, R186: the output deadline of one that has not. -/
theorem outputDeadline_overruns {s : State} {n : Fin 4} {b : Int} (ilk : List (Fin 192 × BitVec 2)) (h : s.cycling n 2)
    (heq : s.work.outputTime n ilk = ((s.work.deadlineReached n).overrun n).deadlineEnd n b (s.work.rg n).resume ilk) :
    Runs (.outputDeadline n ilk) s fun t =>
      let run := min (s.rd (pgABC n) ABC_RSTAT_OVR_RUN + 1) 15
      t.cycling n 3 ∧ (t.region n).overrun = true ∧ (t.region n).pendState = [] ∧ (t.region n).pendOut = [] ∧
      t.rd (pgABC n) ABC_RSTAT_OVR = 1 ∧ t.rd (pgABC n) ABC_OVR_COUNT = min (s.rd (pgABC n) ABC_OVR_COUNT + 1) ABC_OVR_COUNT.max ∧
      t.rd (pgABC n) ABC_RSTAT_OVR_RUN = run ∧
      (s.rd (pgABC n) ABC_OVR_CTL ≤ run → s.rd (pgABC n) ABC_RSTAT_OVR_RUN < s.rd (pgABC n) ABC_OVR_CTL ∨ ¬ s.on (pgABC n) ABC_RSTAT_OVR_TRIP →
        t.rd (pgABC n) ABC_RSTAT_OVR_TRIP = 1 ∧ t.flagged (pgABC n) .uc 17) ∧
      (∀ x : Fin 2048, t.word (stateWordAddr n x) = s.word (stateWordAddr n x)) ∧ TimeKept s t := by
  obtain ⟨x, hx⟩ := rg_deadline_overrun s.work n b (s.work.rg n).resume ilk
  have habc (f : Field) (i : Nat) : (s.work.deadlineReached n).rd (pgABC n) f i = s.rd (pgABC n) f i :=
    rd_deadlineReached _ _ (mod_pgABC n) (by simp)
  have hrg (f : Field) : ((s.work.deadlineReached n).overrun n).rd (pgRG n) f = (s.work.deadlineReached n).rd (pgRG n) f :=
    rd_congr (word_overrun _ n (by simp [offCycle]) (by simp))
  have hpkg : ((s.work.deadlineReached n).overrun n).rd pgPKG PKG_FENCE_STAT = (s.work.deadlineReached n).rd pgPKG PKG_FENCE_STAT :=
    rd_congr (word_overrun _ n (by simp [offCycle]) (by simp))
  have hover : ((s.work.deadlineReached n).overrun n).rg n = { (s.region n).overran with tEnd := s.work.up } := by
    rw [rg_congr (rgn_overrun _ n), rg_modRg_same, rg_deadlineReached]
    rfl
  have hend {pg : Nat} (hp : pg % 0x1000 = 0) (hz : offCycle (zoneOf pg) = false) (f : Field) :=
    rd_deadlineEnd ((s.work.deadlineReached n).overrun n) n b (s.work.rg n).resume ilk hp hz f 0
  have hcount {f : Field} (h1 : ABC_RSTAT_OVR_TRIP.Clear 0 f 0) (h2 : f.at 0 ≠ 0x10) :
      (s.onDev fun w => w.outputTime n ilk).rd (pgABC n) f = ((s.work.deadlineReached n).overrunCounted n).rd (pgABC n) f := by
    rw [State.rd_onDev, heq, hend (mod_pgABC n) (by simp [offCycle]), rd_overrun _ _ h1 h2]
  refine runs_dev (f := fun w => w.outputTime n ilk) rfl ⟨deadline_cycling heq ?_ ?_ ?_ ?_ h, ?_, ?_, ?_, ?_, ?_, ?_, ?_, ?_, rfl, rfl⟩
  · rw [hrg, phase_deadlineReached]
  · rw [hpkg, rd_deadlineReached _ _ mod_pgPKG (by simp)]
  · rw [hover]; rfl
  · rw [hover]; rfl
  · rw [State.region_onDev, heq, hx]; rfl
  · rw [State.region_onDev, heq, hx]; rfl
  · rw [State.region_onDev, heq, hx]; rfl
  · rw [hcount (by decide) (by decide), Work.overrunCounted, rd_wr_clear _ _ (by decide), rd_count_clear _ _ (by decide),
      rd_wr_same _ _ _ _ _ (by decide)]
    rfl
  · rw [hcount (by decide) (by decide), Work.overrunCounted, rd_wr_clear _ _ (by decide), rd_count _ _ _ _ _ (by decide),
      rd_wr_clear _ _ (by decide), habc]
  · rw [hcount (by decide) (by decide), Work.overrunCounted, rd_wr_same _ _ _ _ _ (by decide), habc]
    exact Nat.mod_eq_of_lt (Nat.lt_of_le_of_lt (Nat.min_le_right ..) (by decide))
  · intro hlim hnew
    obtain ⟨htrip, huc, hcause⟩ := overrun_trips (s.work.deadlineReached n) n (by rw [habc, habc]; exact hlim)
      (by rw [habc, habc, habc]; exact hnew.imp_right not_not.1)
    have habcEnd (f : Field) : (s.onDev fun w => w.outputTime n ilk).rd (pgABC n) f =
        ((s.work.deadlineReached n).overrun n).rd (pgABC n) f := by
      rw [State.rd_onDev, heq, hend (mod_pgABC n) (by simp [offCycle])]
    exact ⟨(habcEnd _).trans htrip, (habcEnd _).trans huc, by rw [habcEnd]; exact hcause⟩
  · intro x
    have hreached : (s.work.deadlineReached n).word (stateWordAddr n x) = s.word (stateWordAddr n x) :=
      word_deadlineReached _ _ (by simp)
    rw [State.word_onDev, heq, word_of_view (deadlineEnd_regs ..) _ (by simp [offCycle]),
      word_overrun _ _ (by simp [offCycle]) (by simp), hreached]

/-- Settles O24: a cycle that has completed RECKON, and one that has not. -/
theorem outputDeadlineSchedulesOrOverruns : Obligations.OutputDeadlineSchedulesOrOverruns := by
  unfold Obligations.OutputDeadlineSchedulesOrOverruns
  intro s n ilk hcyc hnext
  obtain ⟨b, hb⟩ := Option.isSome_iff_exists.1 hnext
  have heq := outputTime_eq ilk hb hcyc.1 hcyc.2.2.1 (by rw [Work.rgFenced, bitOf_eq]; exact hcyc.2.2.2) hcyc.2.1
  rw [← State.region] at heq
  refine ⟨fun hreckon haband hdone hover => ?_, fun hfail => ?_⟩
  · have hcompleted : ((s.region n).reckon || (s.region n).abandoned || (s.region n).tDone.isNone) = false := by
      simp [hreckon, haband, Option.isNone_eq_false_iff.2 hdone]
    rw [hcompleted, if_neg Bool.false_ne_true] at heq
    exact outputDeadline_schedules ilk hcyc heq hover
  · have hfailed : ((s.region n).reckon || (s.region n).abandoned || (s.region n).tDone.isNone) = true := by
      rcases hfail with h | h | h <;> simp [h]
    rw [if_pos hfailed] at heq
    exact outputDeadline_overruns ilk hcyc heq

end Sys2Proof.Machine
end

section
-- One task at a time: the check bounds the memory of all of Lean's threads together.
set_option Elab.async false
set_option linter.all false

/-! SUPPORT. Host commands that act on the device past the gate and every fence, and pages under LOCK (R64). -/

namespace Sys2Proof.Machine

variable {s : State} {c : Instr} {a : Nat} {g : Work → Work} {p : State → Prop}

theorem hostAct_reaches (i : Instr) (hr : s.reaches a) : (s.onDev fun w => w.hostAct i a g) = s.onDev g := by
  obtain ⟨hshut, hfence⟩ := hr
  refine onDev_congr ?_
  rw [Work.hostAct, throttle_open _ _ _ hshut, Work.reach, show s.work.gate a true = none from hfence]

theorem runs_hostAct {i : Instr} (h : exec c s = nextDev s fun w => w.hostAct i a g) (hr : s.reaches a) (hp : p (s.onDev g)) :
    Runs c s p := runs_dev h (by rwa [hostAct_reaches i hr])

theorem runs_hostGet {i : Instr} (h : exec c s = nextDev s fun w => w.hostGet i a g) (hr : s.readable a) (hp : p (s.onDev g)) :
    Runs c s p := by
  obtain ⟨hshut, hfence⟩ := hr
  have hget : (s.onDev fun w => w.hostGet i a g) = s.onDev g := onDev_congr <| by
    rw [Work.hostGet, throttle_open _ _ _ hshut, show s.work.gate a false = none from hfence]
  exact runs_dev h (by rwa [hget])

theorem unlocked_open {pg : Nat} (h : ¬ s.on pg HDR_LOCK_LOCKED) : (s.onDev fun w => w.unlocked pg g) = s.onDev g := by
  rw [← State.on_work] at h
  exact onDev_congr (if_neg h)

theorem unlocked_locked {pg : Nat} (h : s.on pg HDR_LOCK_LOCKED) :
    (s.onDev fun w => w.unlocked pg g) = s.onDev fun w => w.wr pg HDR_STAT_LOCK_WR 1 := by
  rw [← State.on_work] at h
  exact onDev_congr (if_pos h)

/-- R64: a locked page takes no write but LOCK_WR. -/
theorem locked_onlyLockWr {pg : Nat} (h : s.on pg HDR_LOCK_LOCKED) :
    (s.onDev fun w => w.unlocked pg g).rd pg HDR_STAT_LOCK_WR = 1 ∧
      OnlyDwords [pg + HDR_STAT_LOCK_WR.at 0] s (s.onDev fun w => w.unlocked pg g) := by
  rw [unlocked_locked h]
  exact ⟨by rw [State.rd_onDev, rd_wr_same _ _ _ _ _ (by decide)]; rfl, (Work.Alters.refl.wr (by simp)).changes⟩

end Sys2Proof.Machine
end

section
-- One task at a time: the check bounds the memory of all of Lean's threads together.
set_option Elab.async false
set_option linter.all false

/-! SUPPORT. The input slots when no value has been filed (R181), and the start of the region's cycles (R39). -/

namespace Sys2Proof.Machine

theorem cellsGet_unlisted {α : Type} (d : Nat → α) (a : Nat) (l : List (Nat × α)) (h : a ∉ l.map Prod.fst) : cellsGet d l a = d a := by
  induction l with
  | nil => rfl
  | cons e l ih =>
    rw [List.map_cons, List.mem_cons, not_or] at h
    rw [cellsGet, if_neg h.1, ih h.2]

/-- The windows read 0 where nothing is stored. -/
theorem resetWord_window {a : Nat} (h : zoneOf a = .window) : resetWord a = 0 := by
  rw [zoneOf] at h
  rw [resetWord]
  split at h
  · cases h
  · next hp => rw [hp]

/-- Bits cleared in each dword of a list. -/
theorem word_each_clear (w : Work) (m : Word) (l : List Nat) (b : Nat) :
    (w.each l fun w a => w.put a (w.word a &&& m)).word b = if b ∈ l then w.word b &&& m else w.word b := by
  unfold Work.each
  induction l generalizing w with
  | nil => rw [List.foldl_nil, if_neg List.not_mem_nil]
  | cons a l ih =>
    rw [List.foldl_cons, ih, word_put]
    by_cases hba : b = a
    · subst hba
      rw [if_pos rfl, if_pos List.mem_cons_self, BitVec.and_assoc, BitVec.and_self, ite_self]
    · simp only [hba, if_false, List.mem_cons, false_or]

/-- A status word of the region's input slots. -/
abbrev slotStatDword (n a : Nat) : Prop := (slotStatAddr n 0 ≤ a ∧ a < lateAddr n 0) ∧ a % 8 = 4

theorem slotStatAddr_stat (n k : Nat) : slotStatDword n (slotStatAddr n k) := by
  simp only [slotStatDword, slotStatAddr, lateAddr, rgBase]
  omega

theorem slotAddr_not_stat (n k : Nat) : ¬ slotStatDword n (slotAddr n k) := by
  simp only [slotStatDword, slotAddr, rgBase]
  omega

theorem slotDword_of_stat {n a : Nat} (h : slotStatDword n a) : slotDword n a := by
  simp only [slotStatDword, slotStatAddr, slotDword, slotAddr] at h ⊢
  omega

/-- VALID clears where a status word is stored; the other dwords stay. -/
theorem word_slotsUnfiled (w : Work) (n b : Nat) : (w.slotsUnfiled n).word b =
    if b ∈ w.regs.map Prod.fst ∧ slotStatDword n b then w.word b &&& 0x7FFFFFFF#32 else w.word b := by
  rw [Work.slotsUnfiled, word_each_clear]
  simp [List.mem_filter, slotStatDword, and_assoc]

theorem slotsUnfiled_valid (w : Work) (n k : Nat) : ((w.slotsUnfiled n).word (slotStatAddr n k)).toNat.testBit 31 = false := by
  rw [word_slotsUnfiled]
  split
  · rw [BitVec.testBit_toNat, BitVec.getLsbD_and]
    simp
  · next h =>
    have hun : slotStatAddr n k ∉ w.regs.map Prod.fst := fun hm => h ⟨hm, slotStatAddr_stat n k⟩
    rw [Work.word, cellsGet_unlisted _ _ _ hun, resetWord_window (zone_slotStatAddr n k)]
    rfl

theorem slotsUnfiled_ne (w : Work) {n b : Nat} (h : ¬ slotStatDword n b) : (w.slotsUnfiled n).word b = w.word b := by
  rw [word_slotsUnfiled, if_neg fun hb => h hb.2]

/-- The grid turns on the part's epoch and the region's period and offset alone. -/
theorem gridB_congr {w v : Work} {n : Nat} (he : ∀ f, v.rd pgPKG f = w.rd pgPKG f) (ho : v.rd (pgRG n) RG_CYC_OFS = w.rd (pgRG n) RG_CYC_OFS)
    (hp : v.rd (pgRG n) RG_CYC_PERIOD = w.rd (pgRG n) RG_CYC_PERIOD) (t : Int) : v.gridB n false t = w.gridB n false t := by
  simp only [Work.gridB, Work.epoch0, he, ho, hp, Bool.false_eq_true, if_false]

/-! ### CYC_EN -/

/-- What the start of the cycles does before the wait for the grid (R39, R41). -/
def Work.cycFresh (w : Work) (n : Nat) : Work :=
  (((((w.wr (pgRG n) RG_CYC_CTL 1).slotsUnfiled n).wr (pgRG n) RG_CYC_COUNT 0).when (w.rg n).standby fun w => w.twinRestart n).modRg n
    fun r => { r with tShown := none, sealT0 := none, seals := 0 })

theorem cycSet_start {w : Work} {n : Nat} (hctl : w.on (pgRG n) RG_CYC_CTL = false) (hrun : (w.rg n).run = false) :
    w.cycSet n = (w.cycFresh n).awaitGrid n := by
  rw [Work.cycSet]
  dsimp only
  rw [if_neg (by simp [hctl]), if_neg (by rw [rg_wr, hrun]; exact Bool.false_ne_true), rg_wr]
  rfl

/-- A stop that was pending is cancelled, and no more. -/
theorem cycSet_cancel {w : Work} {n : Nat} (hctl : w.on (pgRG n) RG_CYC_CTL = false) (hrun : (w.rg n).run = true) :
    w.cycSet n = (w.wr (pgRG n) RG_CYC_CTL 1).modRg n fun r => { r with stopPend := false } := by
  rw [Work.cycSet]
  dsimp only
  rw [if_neg (by simp [hctl]), if_pos (by rw [rg_wr, hrun])]

theorem word_cycFresh (w : Work) (n a : Nat) : (w.cycFresh n).word a =
    (((w.wr (pgRG n) RG_CYC_CTL 1).slotsUnfiled n).wr (pgRG n) RG_CYC_COUNT 0).word a := by
  rw [Work.cycFresh, word_modRg]
  exact word_of_view (K := allKinds) (Z := fun _ => false) (view_when _ _ _ fun v => view_twinRestart v n rfl) a rfl

theorem word_cycFresh_ne (w : Work) {n a : Nat} (h1 : ¬ slotStatDword n a) (h2 : a ≠ pgRG n + RG_CYC_CTL.at 0)
    (h3 : a ≠ pgRG n + RG_CYC_COUNT.at 0) : (w.cycFresh n).word a = w.word a := by
  rw [word_cycFresh, word_wr_ne _ _ _ _ _ _ h3, slotsUnfiled_ne _ h1, word_wr_ne _ _ _ _ _ _ h2]

theorem ne_of_zone {a b : Nat} (h : zoneOf a ≠ zoneOf b) : a ≠ b := fun e => h (congrArg zoneOf e)

/-- The region window's pages hold no slot. -/
theorem page_not_stat {pg : Nat} {k : PageKind} (f : Field) (i n : Nat) (hp : pg % 0x1000 = 0) (hz : zoneOf pg = .page k) :
    ¬ slotStatDword n (pg + f.at i) := by
  intro h
  have hw : zoneOf (pg + f.at i) = .window := by
    obtain ⟨⟨h1, h2⟩, -⟩ := h
    rw [slotStatAddr] at h1
    rw [lateAddr] at h2
    have hx := zoneOf_window n (pg + f.at i - rgBase n) (by omega)
    rwa [show rgBase n + (pg + f.at i - rgBase n) = pg + f.at i by omega] at hx
  rw [zoneOf_field _ _ _ hp, hz] at hw
  cases hw

theorem now_cycFresh (w : Work) (n : Nat) : (w.cycFresh n).now = w.now := by
  have hview : view allKinds allZones (w.cycFresh n) = view allKinds allZones w := by
    rw [Work.cycFresh, view_modRg _ _ _ rfl, view_when _ _ _ fun v => view_twinRestart v n rfl, view_wr _ _ _ _ _ (mod_pgRG n) rfl,
      view_slotsUnfiled _ _ rfl, view_wr _ _ _ _ _ (mod_pgRG n) rfl]
  exact congrArg View.now hview

theorem awaitGrid_words (w : Work) (n a : Nat) : (w.awaitGrid n).word a = w.word a :=
  word_of_view (K := allKinds) (Z := fun _ => false) (view_awaitGrid w n rfl rfl rfl rfl) a rfl

theorem rg_awaitGrid (w : Work) (n : Fin 4) : (w.awaitGrid n).rg n =
    { w.rg n with startPend := true, nextB := some (w.gridB n false (t16 w.now + 400 * tick16)) } := by
  rw [Work.awaitGrid, rg_congr (rgn_of_view (view_restartCarriers _ _ _ rfl rfl rfl)), rg_modRg_same]

/-- What the first boundary is waited for by does not turn on what the start has cleared. -/
theorem gridB_cycFresh (w : Work) (n : Nat) (t : Int) : (w.cycFresh n).gridB n false t = w.gridB n false t := by
  have hpage {pg : Nat} {k : PageKind} {f : Field} (hp : pg % 0x1000 = 0) (hz : zoneOf pg = .page k)
      (h : pg + f.at 0 ≠ pgRG n + RG_CYC_CTL.at 0 ∧ pg + f.at 0 ≠ pgRG n + RG_CYC_COUNT.at 0) : (w.cycFresh n).rd pg f = w.rd pg f :=
    rd_congr (word_cycFresh_ne w (page_not_stat f 0 n hp hz) h.1 h.2)
  have hpkg (f g : Field) : pgPKG + f.at 0 ≠ pgRG n + g.at 0 := fun e => by
    have hz := congrArg zoneOf e
    rw [zoneOf_field _ _ _ mod_pgPKG, zoneOf_field _ _ _ (mod_pgRG n), zone_pgPKG, zone_pgRG] at hz
    cases hz
  have hrg (f : Field) (h : f.at 0 ≠ RG_CYC_CTL.at 0 ∧ f.at 0 ≠ RG_CYC_COUNT.at 0) :=
    hpage (f := f) (mod_pgRG n) (zone_pgRG n) ⟨fun e => h.1 (by omega), fun e => h.2 (by omega)⟩
  exact gridB_congr (fun f => hpage mod_pgPKG zone_pgPKG ⟨hpkg _ _, hpkg _ _⟩) (hrg _ (by decide)) (hrg _ (by decide)) t

end Sys2Proof.Machine
end

section
-- One task at a time: the check bounds the memory of all of Lean's threads together.
set_option Elab.async false
set_option linter.all false

/-! PROOF. Settles O19: CYC_EN, and the reads of CYC_T0_NS and CYC_T0_S (R39, R43, R64). -/

namespace Sys2Proof.Machine

/-! ### Setting CYC_EN -/

section
variable {s : State} {n : Fin 4}

/-- Past gate, fence and lock, a set of CYC_EN acts. -/
theorem runs_cycEnSet {p : State → Prop} (hr : s.reaches (pgRG n + RG_CYC_CTL.at 0)) (hl : ¬ s.on (pgRG n) HDR_LOCK_LOCKED)
    (hp : p (s.onDev fun w => w.cycSet n)) : Runs (.cycEnSet n) s p :=
  runs_hostAct rfl hr (by rwa [unlocked_open hl])

theorem runs_cycEnClear {p : State → Prop} (hr : s.reaches (pgRG n + RG_CYC_CTL.at 0)) (hl : ¬ s.on (pgRG n) HDR_LOCK_LOCKED)
    (hp : p (s.onDev fun w => w.cycClear n)) : Runs (.cycEnClear n) s p :=
  runs_hostAct rfl hr (by rwa [unlocked_open hl])

theorem word_cycSet_start (hctl : s.work.on (pgRG n) RG_CYC_CTL = false) (hrun : (s.region n).run = false) (a : Nat) :
    (s.onDev fun w => w.cycSet n).word a = (s.work.cycFresh n).word a := by
  rw [State.word_onDev, cycSet_start hctl hrun, awaitGrid_words]

theorem kindsKept_cycSet : KindsKeptBut [.rgn, .unit, .clu, .lane, .twin] s (s.onDev fun w => w.cycSet n) := by
  let K : Kind → Bool := fun k => decide (k ∈ [Kind.rgn, .unit, .clu, .lane, .twin])
  refine ⟨⟨rfl, rfl⟩, fun k hk => ?_⟩
  exact same_of_view (K := K) (Z := allZones) (view_cycSet s.work n rfl rfl rfl rfl rfl rfl rfl) k (decide_eq_false hk)

/-- R39, R41: a region that does not cycle awaits the grid. -/
theorem cycEnSet_starts (hr : s.reaches (pgRG n + RG_CYC_CTL.at 0)) (hl : ¬ s.on (pgRG n) HDR_LOCK_LOCKED)
    (hctl : ¬ s.on (pgRG n) RG_CYC_CTL) (hrun : (s.region n).run = false) : Runs (.cycEnSet n) s fun t =>
      t.rd (pgRG n) RG_CYC_CTL = 1 ∧ t.rd (pgRG n) RG_CYC_COUNT = 0 ∧ (t.region n).startPend = true ∧
      (t.region n).nextB = some (s.work.gridB n false (t16 s.tally.a + 400 * tick16)) ∧
      (∀ k : Fin 1024, (t.word (slotStatAddr n k)).toNat.testBit 31 = false ∧ t.word (slotAddr n k) = s.word (slotAddr n k)) ∧
      DwordsKeptBut (fun a => slotDword n a ∨ a = pgRG n + RG_CYC_CTL.at 0 ∨ a = pgRG n + RG_CYC_COUNT.at 0) s t ∧
      KindsKeptBut [.rgn, .unit, .clu, .lane, .twin] s t := by
  rw [← State.not_on_work] at hctl
  have hword (a : Nat) := word_cycSet_start hctl hrun a
  have hrg {f : Field} : (s.onDev fun w => w.cycSet n).rd (pgRG n) f = (s.work.cycFresh n).rd (pgRG n) f := rd_congr (hword _)
  have hnext : (s.onDev fun w => w.cycSet n).region n = { (s.work.cycFresh n).rg n with
      startPend := true, nextB := some (s.work.gridB n false (t16 s.tally.a + 400 * tick16)) } := by
    rw [State.region_onDev, cycSet_start hctl hrun, rg_awaitGrid, gridB_cycFresh]
    rw [now_cycFresh]
    rfl
  refine runs_cycEnSet hr hl ⟨?_, ?_, by rw [hnext], by rw [hnext], fun k => ⟨?_, ?_⟩, fun a ha => ?_, kindsKept_cycSet⟩
  · rw [hrg, rd_congr (word_cycFresh ..), rd_wr_clear _ _ (by decide),
      rd_congr (slotsUnfiled_ne _ (page_not_stat _ _ n (mod_pgRG n) (zone_pgRG n))), rd_wr_same _ _ _ _ _ (by decide)]
    rfl
  · rw [hrg, rd_congr (word_cycFresh ..), rd_wr_same _ _ _ _ _ (by decide)]
    rfl
  · rw [hword, word_cycFresh, word_wr_ne _ _ _ _ _ _ (ne_of_zone (by simp))]
    exact slotsUnfiled_valid _ n k
  · rw [hword]
    exact word_cycFresh_ne _ (slotAddr_not_stat n k) (ne_of_zone (by simp)) (ne_of_zone (by simp))
  · rw [not_or, not_or] at ha
    rw [hword]
    exact word_cycFresh_ne _ (fun h => ha.1 (slotDword_of_stat h)) ha.2.1 ha.2.2

/-- R39: a pending stop is cancelled. -/
theorem cycEnSet_cancels (hr : s.reaches (pgRG n + RG_CYC_CTL.at 0)) (hl : ¬ s.on (pgRG n) HDR_LOCK_LOCKED)
    (hctl : ¬ s.on (pgRG n) RG_CYC_CTL) (hrun : (s.region n).run = true) : Runs (.cycEnSet n) s fun t =>
      t.rd (pgRG n) RG_CYC_CTL = 1 ∧ t.region n = { s.region n with stopPend := false } ∧
      Changes [.rgn] [pgRG n + RG_CYC_CTL.at 0] s t := by
  rw [← State.not_on_work] at hctl
  refine runs_cycEnSet hr hl ?_
  rw [onDev_congr (g := fun w => (w.wr (pgRG n) RG_CYC_CTL 1).modRg n fun r => { r with stopPend := false }) (cycSet_cancel hctl hrun)]
  refine ⟨?_, ?_, ((Work.Alters.refl.wr (by simp)).modRg (by simp)).changes⟩
  · rw [State.rd_onDev, rd_modRg, rd_wr_same _ _ _ _ _ (by decide)]
    rfl
  · rw [State.region_onDev, rg_modRg_same, rg_wr]
    rfl

/-- R39: writing the value that stands. -/
theorem cycEnSet_stands (hr : s.reaches (pgRG n + RG_CYC_CTL.at 0)) (hl : ¬ s.on (pgRG n) HDR_LOCK_LOCKED)
    (hctl : s.on (pgRG n) RG_CYC_CTL) : Runs (.cycEnSet n) s fun t => t = s := by
  rw [← State.on_work] at hctl
  exact runs_cycEnSet hr hl (onDev_congr (g := fun w => w) (if_pos hctl))

/-! ### Clearing CYC_EN -/

theorem cycEnClear_stands (hr : s.reaches (pgRG n + RG_CYC_CTL.at 0)) (hl : ¬ s.on (pgRG n) HDR_LOCK_LOCKED)
    (hctl : ¬ s.on (pgRG n) RG_CYC_CTL) : Runs (.cycEnClear n) s fun t => t = s := by
  rw [← State.not_on_work] at hctl
  exact runs_cycEnClear hr hl (onDev_congr (g := fun w => w) (if_pos (by simp [hctl])))

/-- A cluster of the region is in PRECHARGE, RUN or TEST. -/
def State.clusterBusy (s : State) (c : Nat) : Prop :=
  s.rd (pgCLU c) CLU_CSTAT_STATE = 1 ∨ s.rd (pgCLU c) CLU_CSTAT_STATE = 3 ∨ s.rd (pgCLU c) CLU_CSTAT_STATE = 5

theorem any_busy (s : State) (n : Nat) :
    ((clustersOf n).any fun c => s.work.cstate c == 1 || s.work.cstate c == 3 || s.work.cstate c == 5) = true ↔
      ∃ i : Fin 12, s.clusterBusy (12 * n + i) := by
  have hst (c : Nat) : s.work.cstate c = s.rd (pgCLU c) CLU_CSTAT_STATE := rfl
  simp only [List.any_eq_true, clustersOf, upto, List.mem_map, List.mem_range, exists_exists_and_eq_and, Bool.or_eq_true, beq_iff_eq,
    hst, or_assoc, State.clusterBusy, Fin.exists_iff, exists_prop]

/-- R39: refused while a cluster of the region is in PRECHARGE, RUN or TEST. -/
theorem cycEnClear_refused (hr : s.reaches (pgRG n + RG_CYC_CTL.at 0)) (hl : ¬ s.on (pgRG n) HDR_LOCK_LOCKED)
    (hctl : s.on (pgRG n) RG_CYC_CTL) (hbusy : ∃ i : Fin 12, s.clusterBusy (12 * n + i)) : Runs (.cycEnClear n) s fun t =>
      t.rd (pgRG n) RG_CYC_STAT_EN_REFUSED = 1 ∧ OnlyDwords [pgRG n + RG_CYC_STAT_EN_REFUSED.at 0] s t := by
  rw [← State.on_work] at hctl
  have heq : s.work.cycClear n = s.work.wr (pgRG n) RG_CYC_STAT_EN_REFUSED 1 := by
    rw [Work.cycClear]
    dsimp only
    rw [if_neg (by simp [hctl]), if_pos ((any_busy s n).2 hbusy)]
  refine runs_cycEnClear hr hl ?_
  rw [onDev_congr (g := fun w => w.wr (pgRG n) RG_CYC_STAT_EN_REFUSED 1) heq]
  exact ⟨by rw [State.rd_onDev, rd_wr_same _ _ _ _ _ (by decide)]; rfl, (Work.Alters.refl.wr (by simp)).changes⟩

/-- R39: the cycles stop after the running one, or at once before the first. -/
theorem cycEnClear_stops (hr : s.reaches (pgRG n + RG_CYC_CTL.at 0)) (hl : ¬ s.on (pgRG n) HDR_LOCK_LOCKED)
    (hctl : s.on (pgRG n) RG_CYC_CTL) (hfree : ¬ ∃ i : Fin 12, s.clusterBusy (12 * n + i)) : Runs (.cycEnClear n) s fun t =>
      t.rd (pgRG n) RG_CYC_CTL = 0 ∧ ((s.region n).run = true → t.region n = { s.region n with stopPend := true }) ∧
      ((s.region n).run = false → t.region n = { s.region n with startPend := false, nextB := none }) ∧
      Changes [.rgn] [pgRG n + RG_CYC_CTL.at 0] s t := by
  rw [← State.on_work] at hctl
  let stop (r : Region) : Region := if r.run then { r with stopPend := true } else { r with startPend := false, nextB := none }
  have heq : s.work.cycClear n = (s.work.wr (pgRG n) RG_CYC_CTL 0).modRg n stop := by
    rw [Work.cycClear]
    dsimp only
    rw [if_neg (by simp [hctl]), if_neg fun h => hfree ((any_busy s n).1 h)]
  have hregion : (s.onDev fun w => (w.wr (pgRG n) RG_CYC_CTL 0).modRg n stop).region n = stop (s.region n) := by
    rw [State.region_onDev, rg_modRg_same, rg_wr]
    rfl
  refine runs_cycEnClear hr hl ?_
  rw [onDev_congr (g := fun w => (w.wr (pgRG n) RG_CYC_CTL 0).modRg n stop) heq]
  refine ⟨?_, fun h => ?_, fun h => ?_, ((Work.Alters.refl.wr (by simp)).modRg (by simp)).changes⟩
  · rw [State.rd_onDev, rd_modRg, rd_wr_same _ _ _ _ _ (by decide)]
    rfl
  · rw [hregion]; exact if_pos h
  · rw [hregion]; exact if_neg (by simp [h])

end

/-! ### The boundary's time (R43) -/

section
variable {s : State} {n : Fin 4}

theorem cycT0NsRead_latches (hr : s.readable (pgRG n + RG_CYC_T0_NS.at 0)) : Runs (.cycT0NsRead n) s fun t =>
    LastOut (.hostRead [s.word (pgRG n + RG_CYC_T0_NS.at 0)] false) s t ∧
    t.region n = { s.region n with t0Latch := some (s.word (pgRG n + RG_CYC_T0_S.at 0)) } ∧ Changes [.rgn, .out] [] s t := by
  refine runs_hostGet rfl hr ⟨rfl, ?_, ((Work.Alters.refl.modRg (by simp)).emit (by simp)).changes⟩
  exact rg_modRg_same s.work n _

theorem pageOf_pgRG (n : Fin 4) : pageOf (pgRG n) = some (.rg, n.val) := by revert n; decide

/-- The seconds that a read of CYC_T0_S answers, and the latch that it ends. -/
theorem readWord_t0S (w : Work) (n : Fin 4) : w.readWord (pgRG n + RG_CYC_T0_S.at 0) =
    match (w.rg n).t0Latch with
    | some x => (w.modRg n fun r => { r with t0Latch := none }, x)
    | none => (w, w.word (pgRG n + RG_CYC_T0_S.at 0)) := by
  have hpage : pageOf (pgRG n + RG_CYC_T0_S.at 0) = some (.rg, n.val) := by
    rw [pageOf_add _ _ (mod_pgRG n) (Field.at_lt ..), pageOf_pgRG]
  have hoff : (pgRG n + RG_CYC_T0_S.at 0) % 0x1000 = RG_CYC_T0_S.off := by
    rw [Nat.add_mod, mod_pgRG]
    rfl
  have hbase : (pgRG n + RG_CYC_T0_S.at 0) / 0x1000 * 0x1000 = pgRG n := by
    have := mod_pgRG n
    have := Field.at_lt RG_CYC_T0_S 0
    omega
  have hin : inHeader (pgRG n + RG_CYC_T0_S.at 0) = false := by rw [inHeader, hpage, hoff]; rfl
  have hacts : w.readActs .rg n RG_CYC_T0_S.off =
      (w.rg n).t0Latch.map fun x => (w.modRg n fun r => { r with t0Latch := none }, x) := rfl
  have hplain : w.readDerived .rg n (pgRG n) RG_CYC_T0_S.off &&& ~~~(maskAt .rg RG_CYC_T0_S.off .wo) =
      w.word (pgRG n + RG_CYC_T0_S.at 0) := by
    rw [show maskAt .rg RG_CYC_T0_S.off .wo = 0 by decide]
    exact BitVec.and_allOnes
  rw [Work.readWord, shadowOf_of_page hpage (by rw [hoff]; decide), hpage]
  dsimp only
  rw [hin, if_neg Bool.false_ne_true, hoff, hbase, if_neg (by decide), if_neg (by decide), if_neg (by decide), hacts, hplain]
  cases (w.rg n).t0Latch <;> rfl

/-- A served read of one dword, whether it acts or not. -/
theorem bar0Read_served {w : Work} {a : Nat} (hm : mapped a = true) (hg : w.gate a false = none) :
    w.bar0Read a false = (w.readWord a).1.emit (.hostRead [(w.readWord a).2] false) := by
  simp only [Work.bar0Read, Bool.false_eq_true, if_false, List.headD_cons, hm, hg, Bool.not_true, List.foldl_cons, List.foldl_nil,
    List.nil_append]

theorem t0S_addr (n : Fin 4) :
    (BitVec.ofNat 25 (pgRG n + RG_CYC_T0_S.at 0)).toNat / 4 * 4 = pgRG n + RG_CYC_T0_S.at 0 := by revert n; decide

theorem t0SRead_answers (hr : s.readable (pgRG n + RG_CYC_T0_S.at 0)) :
    Runs (.hostBar0Read (BitVec.ofNat 25 (pgRG n + RG_CYC_T0_S.at 0)) false) s fun t =>
      LastOut (.hostRead [(s.region n).t0Latch.getD (s.word (pgRG n + RG_CYC_T0_S.at 0))] false) s t ∧
      (t.region n).t0Latch = none ∧ Changes [.rgn, .out] [] s t := by
  obtain ⟨hshut, hfence⟩ := hr
  have hm : mapped (pgRG n + RG_CYC_T0_S.at 0) = true :=
    mapped_of_page ((pageOf_add _ _ (mod_pgRG n) (Field.at_lt ..)).trans (pageOf_pgRG n))
  have hread := bar0Read_served (w := s.work) hm hfence
  refine runs_bar0Read hshut ?_
  rw [t0S_addr]
  rw [readWord_t0S] at hread
  cases hlatch : (s.work.rg n).t0Latch with
  | some x =>
    rw [hlatch] at hread
    rw [onDev_congr (g := fun w => (w.modRg n fun r => { r with t0Latch := none }).emit (.hostRead [x] false)) hread]
    refine ⟨?_, congrArg Region.t0Latch (rg_modRg_same s.work n _), ((Work.Alters.refl.modRg (by simp)).emit (by simp)).changes⟩
    rw [State.region, hlatch]
    rfl
  | none =>
    rw [hlatch] at hread
    rw [onDev_congr (g := fun w => w.emit (.hostRead [s.word (pgRG n + RG_CYC_T0_S.at 0)] false)) hread]
    refine ⟨?_, hlatch, (Work.Alters.refl.emit (by simp)).changes⟩
    rw [State.region, hlatch]
    rfl

end

/-- Settles O19: the set, the clear and the reads, case by case. -/
theorem cycleStartsAndStops : Obligations.CycleStartsAndStops := by
  unfold Obligations.CycleStartsAndStops
  refine ⟨fun s n hr => ⟨fun hl => ⟨cycEnSet_starts hr hl, cycEnSet_cancels hr hl, cycEnSet_stands hr hl, cycEnClear_stands hr hl,
    fun hctl hbusy => cycEnClear_refused hr hl hctl hbusy, fun hctl hfree => cycEnClear_stops hr hl hctl ?_⟩, fun hl c hc => ?_⟩,
    fun s n => ⟨cycT0NsRead_latches, t0SRead_answers⟩⟩
  · rintro ⟨i, h⟩
    obtain ⟨h1, h3, h5⟩ := hfree i
    exact h.elim h1 (Or.rec h3 h5)
  · rw [List.mem_cons, List.mem_singleton] at hc
    rcases hc with rfl | rfl
    · exact runs_hostAct rfl hr (locked_onlyLockWr hl)
    · exact runs_hostAct rfl hr (locked_onlyLockWr hl)

end Sys2Proof.Machine
end

section
-- One task at a time: the check bounds the memory of all of Lean's threads together.
set_option Elab.async false
set_option linter.all false

/-! SUPPORT. What a command of a cluster shows: its state, the pending command, the transitions counted and stamped, RECOV, and the
two timers. Protection events and forced safe actions leave them as they are (R248, R359). -/

namespace Sys2Proof.Machine

/-- Fields with no bit in common stay apart on whichever pages they are. -/
theorem rd_wr_aligned (w : Work) {pg qg : Nat} {f g : Field} {i j : Nat} (hp : pg % 0x1000 = 0) (hq : qg % 0x1000 = 0)
    (h : f.Clear i g j) (v : Nat) : (w.wr pg f v i).rd qg g j = w.rd qg g j := by
  rcases h with h | h
  · have hf := f.at_lt i
    have hg := g.at_lt j
    exact rd_wr_ne _ _ _ _ _ _ _ _ (by omega)
  · exact rd_wr_disj _ _ _ _ _ _ _ _ h

/-- What a transition writes of a cluster page. -/
def commandFields : List Field := [CLU_CSTAT_STATE, CLU_CSTAT_PEND_CMD, CLU_CSTAT_RECOV, CLU_TRANS_COUNT, CLU_STATE_T_NS]

/-- `f` shares no bit with what a transition writes. -/
abbrev Field.OffCommand (f : Field) : Prop := ∀ g ∈ commandFields, f.Clear 0 g 0

/-- Every cluster shows the same state, pending command, transitions and timers. -/
structure Work.SameCommand (w v : Work) : Prop where
  fields : ∀ f ∈ commandFields, ∀ o, v.rd (pgCLU o) f = w.rd (pgCLU o) f
  timers : ∀ o, (v.cl o).pcTimer = (w.cl o).pcTimer ∧ (v.cl o).bypTimer = (w.cl o).bypTimer

/-- Every kind of state but the cluster records, and every zone but the cluster pages. -/
def offClusters : Kind → Bool := fun k => decide (k ≠ .clu)
def offCluPages : Zone → Bool := fun z => decide (z ≠ .page .clu)

/-- No kind of state, and the cluster pages alone. -/
def noKinds : Kind → Bool := fun _ => false
def cluPages : Zone → Bool := fun z => decide (z = .page .clu)

theorem clu_of_view {w v : Work} {Z : Zone → Bool} (h : view offClusters Z v = view offClusters Z w) (o : Nat) : v.cl o = w.cl o := by
  rw [Work.cl, show v.clu = w.clu from same_of_view h .clu rfl, Work.cl]

namespace Work.SameCommand

variable {w v u : Work}

theorem refl (w : Work) : w.SameCommand w := ⟨fun _ _ _ => rfl, fun _ => ⟨rfl, rfl⟩⟩

theorem trans (h : w.SameCommand v) (g : v.SameCommand u) : w.SameCommand u :=
  ⟨fun f hf o => (g.fields f hf o).trans (h.fields f hf o),
   fun o => ⟨(g.timers o).1.trans (h.timers o).1, (g.timers o).2.trans (h.timers o).2⟩⟩

/-- An operation that writes neither a cluster record nor a cluster page. -/
theorem other (h : w.SameCommand v) (hview : view offClusters offCluPages u = view offClusters offCluPages v) : w.SameCommand u :=
  h.trans ⟨fun f _ o => rd_of_view hview _ f 0 (mod_pgCLU o) (by rw [zone_pgCLU]; rfl), fun o => by
    rw [clu_of_view hview o]; exact ⟨rfl, rfl⟩⟩

theorem wr (h : w.SameCommand v) {c : Nat} {f : Field} {x : Nat} (hf : f.OffCommand) : w.SameCommand (v.wr (pgCLU c) f x) :=
  h.trans ⟨fun g hg o => rd_wr_aligned v (mod_pgCLU c) (mod_pgCLU o) (hf g hg) x, fun o => by
    rw [clu_of_view (Z := allZones) (view_wr v _ f x 0 (mod_pgCLU c) rfl) o]; exact ⟨rfl, rfl⟩⟩

theorem count (h : w.SameCommand v) {c : Nat} {f : Field} {n : Nat} (hf : f.OffCommand) : w.SameCommand (v.count (pgCLU c) f n) :=
  h.wr hf

theorem flt (h : w.SameCommand v) {c : Nat} {cls : FaultClass} {bit : Nat} {info : Word} :
    w.SameCommand (v.flt (pgCLU c) cls bit info) := by
  refine h.trans ⟨fun g hg o => rd_flt_ne _ _ _ _ _ _ _ _ ?_, fun o => ?_⟩
  · have hoff : g.at 0 ≠ 0x10 := by revert g; decide
    have hlt := g.at_lt 0
    have hc := mod_pgCLU c
    have ho := mod_pgCLU o
    omega
  · rw [clu_of_view (Z := allZones) (view_flt v _ cls bit info (mod_pgCLU c) rfl rfl rfl rfl) o]
    exact ⟨rfl, rfl⟩

theorem each {α : Type} (h : w.SameCommand v) {l : List α} {g : Work → α → Work} (hg : ∀ (u : Work) (a : α), u.SameCommand (g u a)) :
    w.SameCommand (v.each l g) :=
  h.trans (each_relates refl trans (fun x a _ => hg x a) v)

theorem cstat (h : w.SameCommand v) {o : Nat} {f : Field} {x : Nat} (hf : f.OffCommand) : w.SameCommand (v.cstat o f x) :=
  h.each fun u _ => (refl u).wr hf

theorem modCl (h : w.SameCommand v) {c : Nat} {f : Cluster → Cluster}
    (hf : ∀ k, (f k).pcTimer = k.pcTimer ∧ (f k).bypTimer = k.bypTimer) : w.SameCommand (v.modCl c f) := by
  refine h.trans ⟨fun g _ o => rd_modCl .., fun o => ?_⟩
  by_cases hc : o = c
  · subst hc
    rcases vget_vmod_same v.clu o f with hk | ⟨hk, hd⟩
    · rw [show (v.modCl o f).cl o = f (v.cl o) from hk]
      exact hf _
    · rw [show (v.modCl o f).cl o = default from hk, show v.cl o = default from hd]
      exact ⟨rfl, rfl⟩
  · have hk : (v.modCl c f).cl o = v.cl o := by simp [Work.cl, Work.modCl, vget, vmod, Ne.symm hc]
    rw [hk]
    exact ⟨rfl, rfl⟩

theorem ite (c : Prop) [Decidable c] (h1 : w.SameCommand v) (h2 : w.SameCommand u) : w.SameCommand (if c then v else u) := by
  split
  · exact h1
  · exact h2

/-! ### The forced safe action and protection events -/

theorem safeAction (h : w.SameCommand v) (o cause : Nat) : w.SameCommand (v.safeAction o cause) := by
  have hsend : w.SameCommand ((v.stopUnits o).each ((v.stopUnits o).lanesOf o) fun w l => w.modLn l fun k => { k with safe := some 0 }) :=
    h.other (by rw [view_each _ _ _ fun u l => view_modLn u l _ rfl, view_stopUnits _ _ rfl rfl])
  exact ((hsend.cstat (by decide)).cstat (by decide)).count (by decide)

theorem rgSource (h : w.SameCommand v) (o cause src : Nat) : w.SameCommand (v.rgSource o cause src) :=
  .ite _ (h.modCl fun _ => ⟨rfl, rfl⟩) h

theorem forcedSafe (h : w.SameCommand v) (c cause src : Nat) : w.SameCommand (v.forcedSafe c cause src) := by
  have hsend : w.SameCommand (v.each (v.lanesOf (v.owner c)) fun w l => w.modLn l fun k => { k with safeOnce := some cause }) :=
    h.other (view_each _ _ _ fun u l => view_modLn u l _ rfl)
  unfold Work.forcedSafe
  refine ite _ (h.count (by decide)) (ite _ (h.rgSource ..) (ite _ hsend (rgSource (modCl (h.safeAction ..) ?_) ..)))
  exact fun k => ⟨rfl, rfl⟩

theorem when (h : w.SameCommand v) {c : Bool} {g : Work → Work} (hg : v.SameCommand (g v)) : w.SameCommand (v.when c g) := by
  unfold Work.when
  exact .ite _ (h.trans hg) h

theorem protLatch (h : w.SameCommand v) (o kind idx tripId : Nat) : w.SameCommand (v.protLatch o kind idx tripId) := by
  let fresh := !v.on (pgCLU o) CLU_PSTAT_FLATCH
  let kinded := v.when fresh fun w => (w.wr (pgCLU o) CLU_PSTAT_FKIND kind).wr (pgCLU o) CLU_PSTAT_FIDX idx
  let latched := ((kinded.wr (pgCLU o) CLU_PSTAT_FLATCH 1).count (pgCLU o) CLU_FLATCH_COUNT).flt (pgCLU o) .uc 24
  have hkinded : w.SameCommand kinded := h.when (((refl v).wr (by decide)).wr (by decide))
  have hlatched : w.SameCommand latched := ((hkinded.wr (by decide)).count (by decide)).flt
  refine forcedSafe (hlatched.when ?_) ..
  refine other (refl _) ?_
  rw [view_recSource _ _ _ rfl rfl rfl rfl rfl, view_event _ _ _ _ rfl]

/-- A write of a unit page. -/
theorem wrUnit (h : w.SameCommand v) {n : Nat} {f : Field} {x : Nat} : w.SameCommand (v.wr (pgUNIT n) f x) :=
  h.other (view_wr _ _ _ _ _ (mod_pgUNIT n) (by rw [zone_pgUNIT]; rfl))

theorem fltUnit (h : w.SameCommand v) {n : Nat} {cls : FaultClass} {bit : Nat} : w.SameCommand (v.flt (pgUNIT n) cls bit) :=
  h.other (view_flt _ _ _ _ _ (mod_pgUNIT n) (by rw [zone_pgUNIT]; rfl) rfl rfl rfl)

theorem countTrip (h : w.SameCommand v) (n o : Nat) (ts : Int) : w.SameCommand (v.countTrip n o ts) := by
  let stamped := ((v.count (pgUNIT n) UNIT_TRIP_COUNT).wr (pgUNIT n) UNIT_TRIP_T_NS (timeOf16 ts).ns).flt (pgUNIT n) .ce 19
  let seen := (stamped.modUn n fun k => { k with trips := (ts :: k.trips).take 16 }).winShow n
  have hseen : w.SameCommand seen := wrUnit (other (fltUnit (wrUnit (wrUnit h))) (view_modUn _ n _ rfl))
  have hplaced {p q : Bool} : w.SameCommand ((seen.when p fun w => w.wr (pgUNIT n) UNIT_TSTAT_DT 1).when q fun w =>
      w.wr (pgUNIT n) UNIT_TSTAT_OFFST 1) := (hseen.when (wrUnit (refl _))).when (wrUnit (refl _))
  unfold Work.countTrip
  exact ite _ (forcedSafe (wr (fltUnit (wrUnit (wrUnit hplaced))) (by decide)) ..) hplaced

theorem protEvent (h : w.SameCommand v) (o kind idx tripId : Nat) (ts : Int) (link : Bool) :
    w.SameCommand (v.protEvent o kind idx tripId ts link) := by
  have hlast := (((h.count (c := o) (f := CLU_TRIP_COUNT) (n := 1) (by decide)).wr (c := o) (f := CLU_TLAST_TRIP_ID) (x := tripId)
    (by decide)).wr (c := o) (f := CLU_TLAST_KIND) (x := kind) (by decide)).wr (c := o) (f := CLU_TLAST_INDEX) (x := idx) (by decide)
  have hns := hlast.wr (c := o) (f := CLU_TLAST_NS) (x := (timeOf16 ts).ns) (by decide)
  refine .ite _ (hns.protLatch ..) (.ite _ ?_ hns.flt)
  split
  · exact hns.countTrip ..
  · exact hns.flt

/-- R358: a change of mode shows no other state of the cluster. -/
theorem pmodeUpdate (h : w.SameCommand v) (o : Nat) : w.SameCommand (v.pmodeUpdate o) :=
  .ite _ h ((h.wr (by decide)).each fun u _ => (refl u).protEvent ..)

end Work.SameCommand

end Sys2Proof.Machine
end

section
-- One task at a time: the check bounds the memory of all of Lean's threads together.
set_option Elab.async false
set_option linter.all false

/-! SUPPORT. The transitions of a cluster (R247), what a command's evaluation reads (R246), and what a refusal writes. -/

namespace Sys2Proof.Machine

/-! ### A transition -/

theorem rd_cstat_clear (w : Work) (o x : Nat) {f g : Field} (v : Nat) (h : f.Clear 0 g 0) :
    (w.cstat o f v).rd (pgCLU x) g = w.rd (pgCLU x) g :=
  each_keeps (fun u => u.rd (pgCLU x) g) _ _ _ fun u c => rd_wr_aligned u (mod_pgCLU c) (mod_pgCLU x) h v

theorem rd_cstat_same (w : Work) (o : Nat) {f : Field} (v : Nat) (h : f.lo + f.wid ≤ 32) :
    (w.cstat o f v).rd (pgCLU o) f = v % 2 ^ f.wid := by
  have hown : (w.wr (pgCLU o) f v).rd (pgCLU o) f = v % 2 ^ f.wid := rd_wr_same _ _ _ _ _ h
  unfold Work.cstat Work.members Work.each
  split
  · by_cases hp : pgCLU o + f.at 0 = pgCLU (o + 1) + f.at 0
    · rw [List.foldl_cons, List.foldl_cons, List.foldl_nil, show pgCLU (o + 1) = pgCLU o by omega]
      exact rd_wr_same _ _ _ _ _ h
    · rw [List.foldl_cons, List.foldl_cons, List.foldl_nil, rd_wr_ne _ _ _ _ _ _ _ _ hp, hown]
  · exact hown

/-- The registers that name the new state, count the transition and stamp it. -/
def Work.stateShown (w : Work) (o st : Nat) (b : Int) : Work :=
  ((w.cstat o CLU_CSTAT_STATE st).count (pgCLU o) CLU_TRANS_COUNT).stamp (pgCLU o) CLU_STATE_T_NS CLU_STATE_T_S (timeOf16 b)

theorem timeOf16_ns_lt (b : Int) : (timeOf16 b).ns < 1000000000 := Nat.mod_lt _ (by decide)

theorem rd_stateShown (w : Work) (o st : Nat) (b : Int) :
    (w.stateShown o st b).rd (pgCLU o) CLU_CSTAT_STATE = st % 8 ∧
    (w.stateShown o st b).rd (pgCLU o) CLU_CSTAT_PEND_CMD = w.rd (pgCLU o) CLU_CSTAT_PEND_CMD ∧
    (w.stateShown o st b).rd (pgCLU o) CLU_CSTAT_RECOV = w.rd (pgCLU o) CLU_CSTAT_RECOV ∧
    (w.stateShown o st b).rd (pgCLU o) CLU_TRANS_COUNT = min (w.rd (pgCLU o) CLU_TRANS_COUNT + 1) CLU_TRANS_COUNT.max ∧
    (w.stateShown o st b).rd (pgCLU o) CLU_STATE_T_NS = (timeOf16 b).ns := by
  have hstat {f : Field} (h1 : CLU_STATE_T_S.Clear 0 f 0) (h2 : CLU_STATE_T_NS.Clear 0 f 0) (h3 : CLU_TRANS_COUNT.Clear 0 f 0) :
      (w.stateShown o st b).rd (pgCLU o) f = (w.cstat o CLU_CSTAT_STATE st).rd (pgCLU o) f := by
    rw [Work.stateShown, Work.stamp, rd_wr_clear _ _ h1, rd_wr_clear _ _ h2, rd_count_clear _ _ h3]
  refine ⟨?_, ?_, ?_, ?_, ?_⟩
  · rw [hstat (by decide) (by decide) (by decide), rd_cstat_same _ _ _ (by decide)]
    rfl
  · rw [hstat (by decide) (by decide) (by decide), rd_cstat_clear _ _ _ _ (by decide)]
  · rw [hstat (by decide) (by decide) (by decide), rd_cstat_clear _ _ _ _ (by decide)]
  · rw [Work.stateShown, Work.stamp, rd_wr_clear _ _ (by decide), rd_wr_clear _ _ (by decide), rd_count _ _ _ _ _ (by decide),
      rd_cstat_clear _ _ _ _ (by decide)]
  · rw [Work.stateShown, Work.stamp, rd_wr_clear _ _ (by decide), rd_wr_same _ _ _ _ _ (by decide)]
    exact Nat.mod_eq_of_lt (Nat.lt_of_lt_of_le (timeOf16_ns_lt b) (by decide))

/-- The event of the transition, and the end of the safe action that a state left behind (R248). -/
def Work.stateLeft (w : Work) (o old st : Nat) : Work :=
  (w.event 2 (pgCLU o) [old * 2 ^ 24 + st * 2 ^ 16 + w.rd (pgCLU o) CLU_CSTAT_LOCK_CAUSE * 2 ^ 8]).when (old == 6) fun w =>
    ((w.cstat o CLU_CSTAT_SAFE_ACT 0).modCl o fun k => { k with rgSrc := 0 }).each (w.lanesOf o)
      fun w l => w.modLn l fun k => { k with safe := none }

theorem stateLeft_same (w : Work) (o old st : Nat) : w.SameCommand (w.stateLeft o old st) := by
  let posted := w.event 2 (pgCLU o) [old * 2 ^ 24 + st * 2 ^ 16 + w.rd (pgCLU o) CLU_CSTAT_LOCK_CAUSE * 2 ^ 8]
  let ended := (posted.cstat o CLU_CSTAT_SAFE_ACT 0).modCl o fun k => { k with rgSrc := 0 }
  have hended : posted.SameCommand ended := ((Work.SameCommand.refl posted).cstat (by decide)).modCl fun k => ⟨rfl, rfl⟩
  refine .when (.other (.refl w) (view_event _ _ _ _ rfl)) (hended.other ?_)
  exact view_each _ _ _ fun u l => view_modLn u l _ rfl

/-- RECOV ends with LOCKOUT, which the recorder may see (R250, R455). -/
def Work.lockoutShown (w : Work) (o st : Nat) : Work :=
  w.when (st == 6) fun w => (w.cstat o CLU_CSTAT_RECOV 0).recSource 1 fun sel => bitOf sel 6 || sel % 64 == o

theorem rd_lockoutShown (w : Work) (o st : Nat) {f : Field} (h : st = 6 → CLU_CSTAT_RECOV.Clear 0 f 0) :
    (w.lockoutShown o st).rd (pgCLU o) f = w.rd (pgCLU o) f := by
  unfold Work.lockoutShown Work.when
  split
  · next hst =>
    rw [rd_of_view (K := allKinds) (Z := offCluPages) (view_recSource _ _ _ rfl rfl rfl rfl rfl) _ f 0 (mod_pgCLU o)
      (by rw [zone_pgCLU]; rfl), rd_cstat_clear _ _ _ _ (h (beq_iff_eq.1 hst))]
  · rfl

/-- The timers that the new state runs. -/
def Cluster.timed (k : Cluster) (st : Nat) : Cluster :=
  { k with pcTimer := st == 1, pcExpired := false, bypTimer := st == 4, safePend := k.safePend && st != 6 && st != 4 }

theorem cl_modCl_same (w : Work) (o : Fin 48) (f : Cluster → Cluster) : (w.modCl o f).cl o = f (w.cl o) := by
  simp [Work.cl, Work.modCl, vget, vmod]

theorem setState_eq (w : Work) (o st : Nat) (b : Int) : w.setState o st b =
    ((((w.stateShown o st b).stateLeft o (w.cstate o) st).lockoutShown o st).modCl o fun k => k.timed st).pmodeUpdate o := rfl

/-- R247: a transition shows the new state, counts and stamps it, and runs the new state's timers. -/
theorem setState_shows (w : Work) (o : Fin 48) {st : Nat} (b : Int) (hst : st < 8) :
    let v := w.setState o st b
    v.rd (pgCLU o) CLU_CSTAT_STATE = st ∧ v.rd (pgCLU o) CLU_CSTAT_PEND_CMD = w.rd (pgCLU o) CLU_CSTAT_PEND_CMD ∧
    v.rd (pgCLU o) CLU_TRANS_COUNT = min (w.rd (pgCLU o) CLU_TRANS_COUNT + 1) CLU_TRANS_COUNT.max ∧
    v.rd (pgCLU o) CLU_STATE_T_NS = (timeOf16 b).ns ∧ (v.cl o).pcTimer = (st == 1) ∧ (v.cl o).bypTimer = (st == 4) ∧
    (st ≠ 6 → v.rd (pgCLU o) CLU_CSTAT_RECOV = w.rd (pgCLU o) CLU_CSTAT_RECOV) := by
  let left := (w.stateShown o st b).stateLeft o (w.cstate o) st
  let timed := (left.lockoutShown o st).modCl o fun k => k.timed st
  obtain ⟨hstate, hpend, hrecov, hcount, hstamp⟩ := rd_stateShown w o st b
  have hleft := stateLeft_same (w.stateShown o st b) o (w.cstate o) st
  have hmode := Work.SameCommand.pmodeUpdate (.refl timed) o
  have hfield {f : Field} (hf : f ∈ commandFields) (h : st = 6 → CLU_CSTAT_RECOV.Clear 0 f 0) :
      (w.setState o st b).rd (pgCLU o) f = (w.stateShown o st b).rd (pgCLU o) f := by
    rw [setState_eq, hmode.fields f hf, rd_modCl, rd_lockoutShown _ _ _ h, hleft.fields f hf]
  have htimed : timed.cl o = ((left.lockoutShown o st).cl o).timed st := cl_modCl_same ..
  refine ⟨?_, ?_, ?_, ?_, ?_, ?_, fun h6 => ?_⟩
  · rw [hfield (by decide) (fun _ => by decide), hstate, Nat.mod_eq_of_lt hst]
  · rw [hfield (by decide) (fun _ => by decide), hpend]
  · rw [hfield (by decide) (fun _ => by decide), hcount]
  · rw [hfield (by decide) (fun _ => by decide), hstamp]
  · rw [setState_eq, (hmode.timers o).1, htimed]
    rfl
  · rw [setState_eq, (hmode.timers o).2, htimed]
    rfl
  · rw [hfield (by decide) (absurd · h6), hrecov]

/-! ### What the evaluation of a command reads -/

/-- The fields of cluster pages that a command's evaluation reads. -/
def gateFields : List Field :=
  [CLU_CFG_TOPO, CLU_CFG_PATH2, CLU_CSTAT_STATE, CLU_CSTAT_LOCK_CAUSE, CLU_PSTAT_ST_BUSY, CLU_PSTAT_FLATCH, CLU_PC_TEMP_TLO,
   CLU_PC_TEMP_THI, CLU_PC_TEMP_NOSENS, CLU_PC_STAT_TCAP, CLU_PC_CFG_VSEL, CLU_PC_CFG_VREADY, HDR_FLT_CAUSE]

/-- What a command's evaluation reads of the lane, the link voltage and the registers is the same in both. -/
structure Work.SameGate (w v : Work) : Prop where
  clu : ∀ f ∈ gateFields, ∀ o, v.rd (pgCLU o) f = w.rd (pgCLU o) f
  other : ∀ pg f i, pg % 0x1000 = 0 → zoneOf pg ≠ .page .clu → v.rd pg f i = w.rd pg f i
  window : ∀ a, zoneOf a = .window → v.word a = w.word a
  hearth : v.hearth = w.hearth

namespace Work.SameGate

variable {w v u : Work}

theorem refl (w : Work) : w.SameGate w := ⟨fun _ _ _ => rfl, fun _ _ _ _ _ => rfl, fun _ _ => rfl, rfl⟩

theorem trans (h : w.SameGate v) (g : v.SameGate u) : w.SameGate u :=
  ⟨fun f hf o => (g.clu f hf o).trans (h.clu f hf o), fun pg f i hp hz => (g.other pg f i hp hz).trans (h.other pg f i hp hz),
   fun a ha => (g.window a ha).trans (h.window a ha), g.hearth.trans h.hearth⟩

/-- A write of a cluster field that the evaluation does not read. -/
theorem wr (h : w.SameGate v) {c : Nat} {f : Field} {x : Nat} (hf : ∀ g ∈ gateFields, f.Clear 0 g 0) : w.SameGate (v.wr (pgCLU c) f x) := by
  have hview : view noKinds cluPages (v.wr (pgCLU c) f x) = view noKinds cluPages v :=
    view_wr _ _ _ _ _ (mod_pgCLU c) (by rw [zone_pgCLU]; rfl)
  exact h.trans ⟨fun g hg o => rd_wr_aligned v (mod_pgCLU c) (mod_pgCLU o) (hf g hg) x,
    fun pg g i hp hz => rd_of_view hview pg g i hp (decide_eq_false hz),
    fun a ha => word_of_view hview a (by rw [ha]; rfl), same_of_view hview .hearth rfl⟩

theorem modCl (h : w.SameGate v) {c : Nat} {f : Cluster → Cluster} : w.SameGate (v.modCl c f) :=
  h.trans ⟨fun _ _ _ => rfl, fun _ _ _ _ _ => rfl, fun _ _ => rfl, rfl⟩

theorem each {α : Type} (h : w.SameGate v) {l : List α} {g : Work → α → Work} (hg : ∀ (u : Work) (a : α), u.SameGate (g u a)) :
    w.SameGate (v.each l g) :=
  h.trans (each_relates refl trans (fun x a _ => hg x a) v)

theorem cstat (h : w.SameGate v) {o : Nat} {f : Field} {x : Nat} (hf : ∀ g ∈ gateFields, f.Clear 0 g 0) : w.SameGate (v.cstat o f x) :=
  h.each fun u _ => (refl u).wr hf

/-! #### The conditions of R246 to R252 -/

theorem topo (h : w.SameGate v) (o : Nat) : v.topo o = w.topo o := h.clu _ (by decide) o

theorem cstate (h : w.SameGate v) (o : Nat) : v.cstate o = w.cstate o := h.clu _ (by decide) o

theorem laneUp (h : w.SameGate v) (o : Nat) : v.laneUp o = w.laneUp o := by
  have hpath : v.on (pgCLU o) CLU_CFG_PATH2 = w.on (pgCLU o) CLU_CFG_PATH2 := by rw [Work.on, h.clu _ (by decide), Work.on]
  have hlane (l : Nat) : v.laneState l = w.laneState l := h.other _ _ _ (mod_pgCLANE l) (by simp)
  have hlanes : v.lanesOf o = w.lanesOf o := by rw [Work.lanesOf, Work.path2, h.topo, hpath, ← Work.path2, ← Work.lanesOf]
  simp only [Work.laneUp, hlanes, hlane, Work.pathStalled, h.hearth]

theorem vlink (h : w.SameGate v) (o : Nat) : (v.vlink o).2 = (w.vlink o).2 := by
  have hsel : v.rd (pgCLU o) CLU_PC_CFG_VSEL = w.rd (pgCLU o) CLU_PC_CFG_VSEL := h.clu _ (by decide) o
  have hready : v.rdS (pgCLU o) CLU_PC_CFG_VREADY = w.rdS (pgCLU o) CLU_PC_CFG_VREADY := by
    rw [Work.rdS, h.clu _ (by decide), Work.rdS]
  have hslot (k : Nat) : v.measSlot o k = w.measSlot o k := by
    rw [Work.measSlot, h.window _ (zone_slotAddr ..), h.window _ (zone_slotStatAddr ..), ← Work.measSlot]
  rw [Work.vlink, hsel, hslot, hready]
  rfl

theorem tempGate (h : w.SameGate v) (o : Nat) (hcl : v.cl o = w.cl o) (hup : v.up = w.up) : v.tempGate o = w.tempGate o := by
  have hclu {f : Field} (hf : f ∈ gateFields) : v.rdS (pgCLU o) f = w.rdS (pgCLU o) f := by rw [Work.rdS, h.clu f hf, Work.rdS]
  have hhrt (f : Field) : v.rdS pgHRT f = w.rdS pgHRT f := by rw [Work.rdS, h.other _ _ _ mod_pgHRT (by simp), Work.rdS]
  have hsens : v.on (pgCLU o) CLU_PC_TEMP_NOSENS = w.on (pgCLU o) CLU_PC_TEMP_NOSENS := by rw [Work.on, h.clu _ (by decide), Work.on]
  simp only [Work.tempGate, hclu (f := CLU_PC_TEMP_TLO) (by decide), hclu (f := CLU_PC_TEMP_THI) (by decide),
    hclu (f := CLU_PC_STAT_TCAP) (by decide), hhrt, hsens, hcl, hup]

theorem ulatch (h : w.SameGate v) (o : Nat) : v.ulatch o = w.ulatch o := by
  have hunit (u : Nat) : v.on (pgUNIT u) UNIT_TSTAT_LATCHED = w.on (pgUNIT u) UNIT_TSTAT_LATCHED := by
    rw [Work.on, h.other _ _ _ (mod_pgUNIT u) (by simp), Work.on]
  simp only [Work.ulatch, Work.legs, Work.legUnit, h.topo, hunit]

theorem causeActive (h : w.SameGate v) (o : Nat) (hcl : v.cl o = w.cl o) : v.causeActive o = w.causeActive o := by
  have hclu {f : Field} (hf : f ∈ gateFields) : v.rd (pgCLU o) f = w.rd (pgCLU o) f := h.clu f hf o
  have hflatch : v.on (pgCLU o) CLU_PSTAT_FLATCH = w.on (pgCLU o) CLU_PSTAT_FLATCH := by rw [Work.on, hclu (by decide), Work.on]
  have habc (n : Nat) (f : Field) : v.rd (pgABC n) f = w.rd (pgABC n) f := h.other _ _ _ (mod_pgABC n) (by simp)
  have hrg (n : Nat) (f : Field) : v.rd (pgRG n) f = w.rd (pgRG n) f := h.other _ _ _ (mod_pgRG n) (by simp)
  have hspll (f : Field) : v.rd pgSPLL f = w.rd pgSPLL f := h.other _ _ _ mod_pgSPLL (by simp)
  have hpkg (f : Field) : v.rd pgPKG f = w.rd pgPKG f := h.other _ _ _ mod_pgPKG (by simp)
  have hheld : v.rgHeld = w.rgHeld := by simp only [Work.rgHeld, h.hearth]
  simp only [Work.causeActive, Work.on, hclu (f := CLU_CSTAT_LOCK_CAUSE) (by decide), hclu (f := HDR_FLT_CAUSE) (by decide),
    hclu (f := CLU_PSTAT_FLATCH) (by decide), habc, hrg, hspll, hpkg, h.laneUp, h.ulatch, hcl, hheld]

/-- Whether a command is refused, and why, turns on these alone. -/
theorem cmdRefusal (h : w.SameGate v) (o code : Nat) (hcl : v.cl o = w.cl o) (hup : v.up = w.up) (hrgn : v.rgn = w.rgn) :
    v.cmdRefusal o code = w.cmdRefusal o code := by
  have hrole : v.role = w.role := h.other _ _ _ mod_pgTWIN (by simp)
  have hbist (f : Field) : v.rd pgBIST f = w.rd pgBIST f := h.other _ _ _ mod_pgBIST (by simp)
  have hhrt (f : Field) : v.rd pgHRT f = w.rd pgHRT f := h.other _ _ _ mod_pgHRT (by simp)
  have hpkg (f : Field) : v.rd pgPKG f = w.rd pgPKG f := h.other _ _ _ mod_pgPKG (by simp)
  have hrg (n : Nat) (f : Field) : v.rd (pgRG n) f = w.rd (pgRG n) f := h.other _ _ _ (mod_pgRG n) (by simp)
  have hruns : v.regionRuns (o / 12) = w.regionRuns (o / 12) := by
    simp only [Work.regionRuns, Work.rgFenced, Work.on, hrg, hpkg]
  have hfenced : v.rgFenced (o / 12) = w.rgFenced (o / 12) := by rw [Work.rgFenced, hpkg, ← Work.rgFenced]
  have hstands : v.standsBy o = w.standsBy o := by rw [Work.standsBy, rg_congr hrgn, ← Work.standsBy]
  have hbusy : v.on (pgCLU o) CLU_PSTAT_ST_BUSY = w.on (pgCLU o) CLU_PSTAT_ST_BUSY := by rw [Work.on, h.clu _ (by decide), Work.on]
  have hidle : (v.on pgHRT HRT_SUPD_STAT_BUSY || v.on pgBIST BIST_BSTAT_HUB_RUN || v.on pgBIST BIST_BSTAT_HRT_RUN) =
      (w.on pgHRT HRT_SUPD_STAT_BUSY || w.on pgBIST BIST_BSTAT_HUB_RUN || w.on pgBIST BIST_BSTAT_HRT_RUN) := by
    simp only [Work.on, hhrt, hbist]
  rw [Work.cmdRefusal, h.topo, h.cstate, hrole, hstands, hidle, hruns, hfenced, hbusy, h.laneUp, h.tempGate o hcl hup, h.vlink, h.causeActive o hcl]
  rfl

end Work.SameGate

end Sys2Proof.Machine
end

section
-- One task at a time: the check bounds the memory of all of Lean's threads together.
set_option Elab.async false
set_option linter.all false

/-! PROOF. Settles O38: the evaluation of a cluster's commands (R245 to R252). -/

namespace Sys2Proof.Machine

/-! ### Refusals -/

/-- PEND_CMD and CMD_LOST are none of the evaluation's business. -/
theorem sameGate_pend (w : Work) (o x : Nat) : w.SameGate (w.wr (pgCLU o) CLU_CSTAT_PEND_CMD x) := (Work.SameGate.refl w).wr (by decide)

theorem cmdRefusal_pend (w : Work) (o x code : Nat) : (w.wr (pgCLU o) CLU_CSTAT_PEND_CMD x).cmdRefusal o code = w.cmdRefusal o code := by
  refine (sameGate_pend w o x).cmdRefusal o code ?_ (wr_up ..) (wr_rgn ..)
  exact clu_of_view (Z := allZones) (view_wr w _ _ x 0 (mod_pgCLU o) rfl) o

theorem evalCmd_eq (w : Work) (o code : Nat) (b : Int) :
    w.evalCmd o code b = (w.wr (pgCLU o) CLU_CSTAT_PEND_CMD 0).cmdEnd o code b (w.cmdRefusal o code) := by
  rw [Work.evalCmd, cmdRefusal_pend]

/-- A refused command writes CSTAT and counts, but for the link voltage that a STOP has compared (R252). -/
theorem evalCmd_refused {w : Work} {o code r : Nat} (b : Int) (h : w.cmdRefusal o code = some r) :
    w.evalCmd o code b = (if code = 3 ∧ w.cstate o = 5 ∧ r = 6 then ((w.wr (pgCLU o) CLU_CSTAT_PEND_CMD 0).vlink o).1
      else w.wr (pgCLU o) CLU_CSTAT_PEND_CMD 0).refuse o r := by
  rw [evalCmd_eq, h, Work.cmdEnd, (sameGate_pend w o 0).cstate]

theorem vlink_fst (w : Work) (o : Nat) :
    (w.vlink o).1 = w.wr (pgCLU o) CLU_PC_STAT_VLINK ((w.measSlot o (w.rd (pgCLU o) CLU_PC_CFG_VSEL)).1.toNat / 2 ^ 16) := rfl

theorem refuse_shows (w : Work) (o : Nat) {r : Nat} (hr : r < 16) :
    (w.refuse o r).rd (pgCLU o) CLU_CSTAT_STATE = w.rd (pgCLU o) CLU_CSTAT_STATE ∧ (w.refuse o r).rd (pgCLU o) CLU_CSTAT_REFUSED = 1 ∧
    (w.refuse o r).rd (pgCLU o) CLU_CSTAT_REF_CAUSE = r ∧
    (w.refuse o r).rd (pgCLU o) CLU_CSTAT_PEND_CMD = w.rd (pgCLU o) CLU_CSTAT_PEND_CMD ∧
    (w.refuse o r).rd (pgCLU o) CLU_REFUSE_COUNT = min (w.rd (pgCLU o) CLU_REFUSE_COUNT + 1) CLU_REFUSE_COUNT.max := by
  refine ⟨?_, ?_, ?_, ?_, ?_⟩ <;> rw [Work.refuse]
  · rw [rd_count_clear _ _ (by decide), rd_wr_clear _ _ (by decide), rd_wr_clear _ _ (by decide)]
  · rw [rd_count_clear _ _ (by decide), rd_wr_clear _ _ (by decide), rd_wr_same _ _ _ _ _ (by decide)]
    rfl
  · rw [rd_count_clear _ _ (by decide), rd_wr_same _ _ _ _ _ (by decide)]
    exact Nat.mod_eq_of_lt hr
  · rw [rd_count_clear _ _ (by decide), rd_wr_clear _ _ (by decide), rd_wr_clear _ _ (by decide)]
  · rw [rd_count _ _ _ _ _ (by decide), rd_wr_clear _ _ (by decide), rd_wr_clear _ _ (by decide)]

/-- So, on the cluster's page, it is a refusal with the pending command gone. -/
theorem evalCmd_refused_base {w : Work} {o code r : Nat} (b : Int) (h : w.cmdRefusal o code = some r) :
    ∃ v : Work, w.evalCmd o code b = v.refuse o r ∧ ∀ f : Field, CLU_PC_STAT_VLINK.Clear 0 f 0 →
      v.rd (pgCLU o) f = (w.wr (pgCLU o) CLU_CSTAT_PEND_CMD 0).rd (pgCLU o) f := by
  refine ⟨_, evalCmd_refused b h, fun f hf => ?_⟩
  split
  · rw [vlink_fst, rd_wr_clear _ _ hf]
  · rfl

theorem evalCmd_refused_shows {w : Work} {o code r : Nat} (b : Int) (h : w.cmdRefusal o code = some r) (hr : r < 16) :
    let t := w.evalCmd o code b
    t.rd (pgCLU o) CLU_CSTAT_STATE = w.rd (pgCLU o) CLU_CSTAT_STATE ∧ t.rd (pgCLU o) CLU_CSTAT_REFUSED = 1 ∧
    t.rd (pgCLU o) CLU_CSTAT_REF_CAUSE = r ∧ t.rd (pgCLU o) CLU_CSTAT_PEND_CMD = 0 ∧
    t.rd (pgCLU o) CLU_REFUSE_COUNT = min (w.rd (pgCLU o) CLU_REFUSE_COUNT + 1) CLU_REFUSE_COUNT.max := by
  obtain ⟨v, heq, hv⟩ := evalCmd_refused_base b h
  obtain ⟨hstate, hrefused, hcause, hpend, hcount⟩ := refuse_shows v o hr
  rw [hv _ (by decide), rd_wr_clear _ _ (by decide)] at hstate hcount
  rw [hv _ (by decide), rd_wr_same _ _ _ _ _ (by decide)] at hpend
  rw [heq]
  exact ⟨hstate, hrefused, hcause, hpend, hcount⟩

/-- What a refused command leaves behind is what R246 shows of a refusal. -/
theorem refusedWith_evalCmd {s : State} {c code r : Nat} (b : Int) (h : s.work.cmdRefusal c code = some r) (hr : r < 16) :
    RefusedWith c r s (s.onDev fun w => w.evalCmd c code b) := by
  rw [RefusedWith, State.rd_onDev, State.rd_onDev, State.rd_onDev, State.rd_onDev, State.rd_onDev]
  exact evalCmd_refused_shows b h hr

/-- Past a topology, the package's role, fences and tests, what decides is the state, the lane and the command's own condition. -/
theorem cmdRefusal_unhindered {s : State} {c code : Nat} (h : s.unhindered c code) : s.work.cmdRefusal c code =
    if !cmdAdmitted (s.work.cstate c) code then some 1
    else if (code == 6 || code == 7 || code == 2 || (s.work.cstate c == 0 && (code == 1 || code == 5))) && !s.work.laneUp c then some 4
    else if code = 1 ∧ (s.work.tempGate c).isSome then s.work.tempGate c
    else if code = 3 ∧ s.work.cstate c = 5 ∧ ¬ (s.work.vlink c).2 then some 6
    else if code = 8 ∧ s.work.causeActive c then some 5 else none := by
  obtain ⟨-, htopo, hrole, hstands, hfence, hrun, hupd, hhub, hhrt⟩ := h
  have hfenced : s.work.rgFenced (c / 12) = false := by rw [Work.rgFenced, bitOf_eq]; exact hfence
  rw [← State.not_on_work] at hupd hhub hhrt
  have hruns : (code == 1 || code == 2 || code == 5) = true →
      s.work.regionRuns (c / 12) = true ∧ s.work.on (pgCLU c) CLU_PSTAT_ST_BUSY = false := by
    intro hc
    obtain ⟨hctl, hbusy⟩ := hrun (by simpa [or_assoc] using hc)
    rw [← State.on_work] at hctl
    rw [← State.not_on_work] at hbusy
    exact ⟨by rw [Work.regionRuns, hctl, hfenced]; rfl, hbusy⟩
  rw [Work.cmdRefusal]
  rw [if_neg (show ¬ s.work.topo c = 0 from htopo), if_neg (by simp [hrole, hstands]), if_neg (by simp [hupd, hhub, hhrt]),
    if_neg (by cases hc : (code == 1 || code == 2 || code == 5) <;> simp [hc, hruns]), if_neg (by simp [hfenced]),
    if_neg (by cases hc : (code == 1 || code == 2 || code == 5) <;> simp [hc, hruns])]

/-! ### Transitions -/

/-- Cluster `c` has taken a command into state `x` at boundary time `b`. -/
def MovedTo (s : State) (c : Fin 48) (b : Int) (x : Nat) (t : State) : Prop :=
  t.rd (pgCLU c) CLU_CSTAT_STATE = x ∧ t.rd (pgCLU c) CLU_CSTAT_PEND_CMD = 0 ∧
  t.rd (pgCLU c) CLU_TRANS_COUNT = min (s.rd (pgCLU c) CLU_TRANS_COUNT + 1) CLU_TRANS_COUNT.max ∧
  t.rd (pgCLU c) CLU_STATE_T_NS = (timeOf16 b).ns ∧ (t.work.cl c).pcTimer = (x == 1) ∧ (t.work.cl c).bypTimer = (x == 4)

/-- `u` is a transition of a device in which nothing was counted or pending that was not in `w`, with whatever else `u` has done. -/
structure Work.Moves (w : Work) (o x : Nat) (b : Int) (u : Work) : Prop where
  moved : ∃ v : Work, (∀ f ∈ [CLU_CSTAT_PEND_CMD, CLU_TRANS_COUNT], v.rd (pgCLU o) f = w.rd (pgCLU o) f) ∧
    (v.setState o x b).SameCommand u

theorem Work.Moves.setState {w v : Work} (h : w.SameCommand v) (o x : Nat) (b : Int) : w.Moves o x b (v.setState o x b) :=
  ⟨v, fun f hf => h.fields f (by revert f; decide) o, .refl _⟩

/-- A message to the cell end and a mark on the region show no other state. -/
theorem Work.Moves.other {w u y : Work} {o x : Nat} {b : Int} (h : w.Moves o x b u)
    (hview : view offClusters offCluPages y = view offClusters offCluPages u) : w.Moves o x b y := by
  obtain ⟨v, hv, hu⟩ := h.moved
  exact ⟨v, hv, hu.other hview⟩

theorem Work.Moves.sendCmd {w u : Work} {o x : Nat} {b : Int} (h : w.Moves o x b u) (op : Nat) : w.Moves o x b (u.sendCmd o op) :=
  h.other (view_modLn _ _ _ rfl)

theorem Work.Moves.modRg {w u : Work} {o x n : Nat} {b : Int} {f : Region → Region} (h : w.Moves o x b u) : w.Moves o x b (u.modRg n f) :=
  h.other (view_modRg _ _ _ rfl)

/-- The state that each command but CLEAR leads to (R247). -/
def commandTargets : List (Nat × Nat) := [(1, 1), (2, 3), (3, 2), (4, 0), (5, 5), (6, 4), (7, 0), (9, 6)]

theorem cmdAct_moves (w : Work) (o : Nat) (b : Int) : ∀ x ∈ commandTargets, w.Moves o x.2 b (w.cmdAct o x.1 b) := by
  have h := Work.SameCommand.refl w
  have hvlink : w.SameCommand (w.vlink o).1 := by
    rw [vlink_fst]
    exact h.wr (by decide)
  have hoff : w.SameCommand (w.when (w.cstate o == 1) fun w => w.sendCmd o 2) := h.when (.other (.refl _) (view_modLn _ _ _ rfl))
  simp only [commandTargets, List.forall_mem_cons, List.not_mem_nil, false_imp_iff, implies_true, and_true]
  refine ⟨?precharge, ?run, ?stop, ?off, ?test, ?bypass, ?unbypass, ?lockout⟩
  case precharge => exact (Work.Moves.setState h ..).sendCmd ..
  case run => exact .setState h ..
  case stop => exact .setState (.ite _ hvlink h) ..
  case off => exact .setState hoff ..
  case test => exact .setState h ..
  case bypass => exact ((Work.Moves.setState h ..).sendCmd ..).modRg
  case unbypass => exact (Work.Moves.setState h ..).sendCmd ..
  case lockout =>
    rw [show w.cmdAct o 9 b = if (w.cl o).safePend then w.setState o 6 b else (w.safeAction o 1).setState o 6 b from rfl]
    split
    · exact .setState h ..
    · exact .setState (h.safeAction o 1) ..

theorem State.cl_onDev (s : State) (f : Work → Work) (c : Nat) : (s.onDev f).work.cl c = (f s.work).cl c := rfl

/-- A command that is not refused moves the cluster. -/
theorem movedTo_of_moves {s : State} {c : Fin 48} {b : Int} {code x : Nat} (hx : x < 8) (hnone : s.work.cmdRefusal c code = none)
    (h : (s.work.wr (pgCLU c) CLU_CSTAT_PEND_CMD 0).Moves c x b ((s.work.wr (pgCLU c) CLU_CSTAT_PEND_CMD 0).cmdAct c code b)) :
    MovedTo s c b x (s.onDev fun w => w.evalCmd c code b) := by
  have heq : s.work.evalCmd c code b = (s.work.wr (pgCLU c) CLU_CSTAT_PEND_CMD 0).cmdAct c code b := by rw [evalCmd_eq, hnone, Work.cmdEnd]
  rw [← heq] at h
  obtain ⟨v, hv, hu⟩ := h.moved
  obtain ⟨hstate, hpend, hcount, hstamp, hpc, hbyp, -⟩ := setState_shows v c b hx
  rw [MovedTo, State.rd_onDev, State.rd_onDev, State.rd_onDev, State.rd_onDev, State.cl_onDev, hu.fields _ (by decide), hu.fields _ (by decide),
    hu.fields _ (by decide), hu.fields _ (by decide), (hu.timers c).1, (hu.timers c).2, hstate, hpend, hcount, hstamp, hpc, hbyp,
    hv _ (by decide), hv _ (by decide), rd_wr_same _ _ _ _ _ (by decide), rd_wr_clear _ _ (by decide), State.rd_work]
  exact ⟨rfl, rfl, rfl, rfl, rfl, rfl⟩

/-- R250: RECOV, and the cycles that it stands for. -/
def Work.recovSet (w : Work) (o : Nat) : Work :=
  (w.cstat o CLU_CSTAT_RECOV 1).modCl o fun k => { k with recovLeft := w.rd (pgCLU o) CLU_CFG_RECOV_CYC }

theorem cmdAct_clear (w : Work) (o : Nat) (b : Int) : w.cmdAct o 8 b =
    ((((w.recovSet o).vlink o).1.setState o (if (w.recovSet o).laneUp o && ((w.recovSet o).vlink o).2 then 2 else 0) b).sendCmd o 6).modRg
      (o / 12) fun r => { r with fbRec := true } := rfl

theorem sameGate_recovSet (w : Work) (o : Nat) : w.SameGate (w.recovSet o) := ((Work.SameGate.refl w).cstat (by decide)).modCl

theorem rd_recovSet {w : Work} {o : Nat} {f : Field} (h : CLU_CSTAT_RECOV.Clear 0 f 0) (h2 : CLU_PC_STAT_VLINK.Clear 0 f 0) :
    ((w.recovSet o).vlink o).1.rd (pgCLU o) f = w.rd (pgCLU o) f := by
  rw [vlink_fst, rd_wr_clear _ _ h2, Work.recovSet, rd_modCl, rd_cstat_clear _ _ _ _ h]

/-- R247, R250: CLEAR of a cause no longer active gives READY or OFF by the lane and the link voltage, with RECOV set. -/
theorem clear_moves {s : State} {c : Fin 48} (b : Int) (hnone : s.work.cmdRefusal c 8 = none) :
    MovedTo s c b (if s.work.laneUp c && (s.work.vlink c).2 then 2 else 0) (s.onDev fun w => w.evalCmd c 8 b) ∧
      (s.onDev fun w => w.evalCmd c 8 b).rd (pgCLU c) CLU_CSTAT_RECOV = 1 := by
  let w := s.work.wr (pgCLU c) CLU_CSTAT_PEND_CMD 0
  have hgate : s.work.SameGate (w.recovSet c) := (sameGate_pend s.work c 0).trans (sameGate_recovSet _ _)
  have hact := cmdAct_clear w c b
  rw [hgate.laneUp, hgate.vlink] at hact
  generalize hx : (if s.work.laneUp c && (s.work.vlink c).2 then 2 else 0) = x at hact ⊢
  have hx2 : x = 2 ∨ x = 0 := by rw [← hx]; split <;> simp
  have hmoves : w.Moves c x b (w.cmdAct c 8 b) := by
    rw [hact]
    refine .modRg (.sendCmd ⟨((w.recovSet c).vlink c).1, fun f hf => rd_recovSet ?_ ?_, .refl _⟩ 6)
    · revert f; decide
    · revert f; decide
  refine ⟨movedTo_of_moves (by omega) hnone hmoves, ?_⟩
  have heq : s.work.evalCmd c 8 b = w.cmdAct c 8 b := by rw [evalCmd_eq, hnone, Work.cmdEnd]
  have hpost : (((w.recovSet c).vlink c).1.setState c x b).SameCommand (w.cmdAct c 8 b) := by
    rw [hact]
    exact ((Work.SameCommand.refl _).other (view_modLn _ _ _ rfl)).other (view_modRg _ _ _ rfl)
  obtain ⟨-, -, -, -, -, -, hrecov⟩ := setState_shows ((w.recovSet c).vlink c).1 c b (show x < 8 by omega)
  rw [State.rd_onDev, heq, hpost.fields _ (by decide), hrecov (by omega), vlink_fst, rd_wr_clear _ _ (by decide), Work.recovSet, rd_modCl,
    rd_cstat_same _ _ _ (by decide)]
  rfl

/-! ### The table of R247 -/

/-- What the table lists is admitted, and no command needs more for it than the lane but those of R251 and R252. -/
theorem plainTransitions_admitted : ∀ x ∈ plainTransitions, cmdAdmitted x.1 x.2.1 = true ∧ (x.2.1, x.2.2) ∈ commandTargets ∧
    x.2.1 ≠ 1 ∧ ¬ (x.2.1 = 3 ∧ x.1 = 5) ∧ x.2.1 ≠ 8 ∧ x.2.2 < 8 := by decide

theorem admitted_table : ∀ st : Fin 7, ∀ code : Fin 10, 1 ≤ code.val → cmdAdmitted st code = true →
    (∃ x ∈ plainTransitions, (x.1, x.2.1) = (st.val, code.val)) ∨ (st.val, code.val) ∈ [(0, 1), (5, 3), (6, 8)] := by decide

section
variable {s : State} {c : Fin 48} {code : Nat}

/-- An admitted command with its lane and its own condition is not refused. -/
theorem cmdRefusal_none (h : s.commandable c code) (hadm : cmdAdmitted (s.work.cstate c) code = true)
    (h1 : code = 1 → s.work.tempGate c = none) (h3 : code = 3 → s.work.cstate c = 5 → (s.work.vlink c).2 = true)
    (h8 : code = 8 → s.work.causeActive c = false) : s.work.cmdRefusal c code = none := by
  rw [cmdRefusal_unhindered h.1, if_neg (by simp [hadm]), if_neg (by simp [h.2]), if_neg fun hc => ?_, if_neg fun hc => ?_,
    if_neg fun hc => ?_]
  · rw [h8 hc.1] at hc
    exact Bool.false_ne_true hc.2
  · exact hc.2.2 (h3 hc.1 hc.2.1)
  · rw [h1 hc.1] at hc
    exact Bool.false_ne_true hc.2

theorem cmdRefusal_lane (h : s.unhindered c code) (hadm : cmdAdmitted (s.work.cstate c) code = true) (hlane : s.work.laneUp c = false)
    (hneeds : (code == 6 || code == 7 || code == 2 || (s.work.cstate c == 0 && (code == 1 || code == 5))) = true) :
    s.work.cmdRefusal c code = some 4 := by
  rw [cmdRefusal_unhindered h, if_neg (by simp [hadm]), if_pos (by rw [hneeds, hlane]; rfl)]

theorem cmdRefusal_temp {r : Nat} (h : s.commandable c 1) (hst : s.work.cstate c = 0) (ht : s.work.tempGate c = some r) :
    s.work.cmdRefusal c 1 = some r := by
  rw [cmdRefusal_unhindered h.1, hst, if_neg (by decide), if_neg (by simp [h.2]), if_pos ⟨rfl, by rw [ht]; rfl⟩, ht]

theorem cmdRefusal_vlink (h : s.commandable c 3) (hst : s.work.cstate c = 5) (hv : (s.work.vlink c).2 = false) :
    s.work.cmdRefusal c 3 = some 6 := by
  rw [cmdRefusal_unhindered h.1, hst, if_neg (by decide), if_neg (by simp), if_neg (by simp), if_pos ⟨rfl, rfl, by simp [hv]⟩]

theorem cmdRefusal_cause (h : s.unhindered c 8) (hst : s.work.cstate c = 6) (hcause : s.work.causeActive c = true) :
    s.work.cmdRefusal c 8 = some 5 := by
  rw [cmdRefusal_unhindered h, hst, if_neg (by decide), if_neg (by simp), if_neg (by simp), if_neg (by simp),
    if_pos ⟨rfl, hcause⟩]

/-- CLEAR asks for no lane. -/
theorem cmdRefusal_clear (h : s.unhindered c 8) (hst : s.work.cstate c = 6) (hcause : s.work.causeActive c = false) :
    s.work.cmdRefusal c 8 = none := by
  rw [cmdRefusal_unhindered h, hst, if_neg (by decide), if_neg (by simp), if_neg (by simp), if_neg (by simp),
    if_neg (by simp [hcause])]

theorem cmdRefusal_unlisted (h : s.unhindered c code) (hadm : cmdAdmitted (s.work.cstate c) code = false) :
    s.work.cmdRefusal c code = some 1 := by
  rw [cmdRefusal_unhindered h, if_pos (by simp [hadm])]

theorem cmdRefusal_topo (h : s.rd (pgCLU c) CLU_CFG_TOPO = 0) : s.work.cmdRefusal c code = some 8 := by
  rw [Work.cmdRefusal]
  exact if_pos h

/-- The temperature gate refuses with its own two causes. -/
theorem tempGate_lt {w : Work} {o r : Nat} (h : w.tempGate o = some r) : r < 16 := by
  unfold Work.tempGate at h
  dsimp only at h
  (repeat' split at h) <;> cases h <;> decide

end

section
variable {s : State} {c : Fin 48} (b : Int)

theorem plain_moves {x : Nat × Nat × Nat} (hx : x ∈ plainTransitions) (h : s.commandable c x.2.1) (hst : s.work.cstate c = x.1) :
    MovedTo s c b x.2.2 (s.onDev fun w => w.evalCmd c x.2.1 b) := by
  obtain ⟨hadm, htgt, h1, h3, h8, hlt⟩ := plainTransitions_admitted x hx
  refine movedTo_of_moves hlt ?_ (cmdAct_moves _ _ _ _ htgt)
  exact cmdRefusal_none h (by rw [hst, hadm]) (absurd · h1) (fun h3' h5 => absurd ⟨h3', hst.symm.trans h5⟩ h3) (absurd · h8)

theorem lane_refused {x : Nat × Nat} (hx : x ∈ [(0, 1), (0, 5), (0, 6), (1, 6), (2, 2), (2, 6), (3, 6), (4, 7), (5, 6), (6, 6)])
    (hlane : s.work.laneUp c = false) (h : s.unhindered c x.2) (hst : s.work.cstate c = x.1) :
    RefusedWith c 4 s (s.onDev fun w => w.evalCmd c x.2 b) := by
  have htable : ∀ y ∈ [(0, 1), (0, 5), (0, 6), (1, 6), (2, 2), (2, 6), (3, 6), (4, 7), (5, 6), (6, 6)], cmdAdmitted y.1 y.2 = true ∧
    (y.2 == 6 || y.2 == 7 || y.2 == 2 || (y.1 == 0 && (y.2 == 1 || y.2 == 5))) = true := by decide
  obtain ⟨hadm, hneeds⟩ := htable x hx
  rw [← hst] at hadm hneeds
  exact refusedWith_evalCmd b (cmdRefusal_lane h hadm hlane hneeds) (by decide)

theorem unlisted_refused (code : Fin 10) (hst : s.work.cstate c ≤ 6) (hcode : 1 ≤ code.val) (h : s.unhindered c code)
    (hplain : ∀ x ∈ plainTransitions, (x.1, x.2.1) ≠ (s.work.cstate c, code.val))
    (hspecial : (s.work.cstate c, code.val) ∉ [(0, 1), (5, 3), (6, 8)]) :
    RefusedWith c 1 s (s.onDev fun w => w.evalCmd c code b) := by
  refine refusedWith_evalCmd b (cmdRefusal_unlisted h ?_) (by decide)
  rw [Bool.eq_false_iff]
  intro hadm
  rcases admitted_table ⟨s.work.cstate c, by omega⟩ code hcode hadm with ⟨x, hx, he⟩ | he
  · exact hplain x hx he
  · exact hspecial he

end

/-! ### The host's write -/

section
variable {s : State} {c : Fin 48}

/-- Past gate and fence, the write of CMD. -/
theorem runs_hostCmd {x : Instr × Nat} (hx : x ∈ clusterCommands c) (hr : s.reaches (pgCLU c + CLU_CMD.at 0)) {p : State → Prop}
    (hp : p (s.onDev fun w => w.clusterCmd c x.2)) : Runs x.1 s p := by
  have hexec : ∀ y ∈ clusterCommands c, exec y.1 s = nextDev s fun w => w.hostCmd y.1 c y.2 := by
    simp only [clusterCommands, List.forall_mem_cons, List.not_mem_nil, false_imp_iff, implies_true, and_true]
    exact ⟨rfl, rfl, rfl, rfl, rfl, rfl, rfl, rfl, rfl⟩
  exact runs_hostAct (hexec x hx) hr hp

/-- The command as pending, with CMD_LOST if it replaces another (R245). -/
def Work.cmdPended (w : Work) (c code : Nat) : Work :=
  (w.when (w.on (pgCLU c) CLU_CSTAT_PEND_CMD) fun w => w.wr (pgCLU c) CLU_CSTAT_CMD_LOST 1).wr (pgCLU c) CLU_CSTAT_PEND_CMD code

theorem cmdPended_alters (w : Work) (c code : Nat) : w.Alters [] [pgCLU c + CLU_CSTAT_STATE.at 0] (w.cmdPended c code) :=
  (Work.Alters.refl.when (Work.Alters.refl.wr (by simp [Field.at, CLU_CSTAT_CMD_LOST, CLU_CSTAT_STATE]))).wr
    (by simp [Field.at, CLU_CSTAT_PEND_CMD, CLU_CSTAT_STATE])

theorem sameGate_cmdPended (w : Work) (c code : Nat) : w.SameGate (w.cmdPended c code) := by
  unfold Work.cmdPended Work.when
  split
  · exact ((Work.SameGate.refl w).wr (by decide)).wr (by decide)
  · exact (Work.SameGate.refl w).wr (by decide)

/-- It writes nothing but the cluster's page. -/
theorem view_cmdPended (w : Work) (c code : Nat) : view noKinds cluPages (w.cmdPended c code) = view noKinds cluPages w := by
  have hz : cluPages (zoneOf (pgCLU c)) = true := by simp [cluPages]
  rw [Work.cmdPended, view_wr _ _ _ _ _ (mod_pgCLU c) hz]
  exact view_when _ _ _ fun v => view_wr _ _ _ _ _ (mod_pgCLU c) hz

/-- R245: the command waits for the boundary, or is evaluated at once. -/
theorem clusterCmd_owned {w : Work} {c : Nat} (code : Nat) (hown : w.owner c = c) : w.clusterCmd c code =
    if w.on (pgRG (c / 12)) RG_CYC_CTL && !w.standsBy c then w.cmdPended c code
    else (w.cmdPended c code).evalCmd c code (t16 w.now) := by
  have hview := view_cmdPended w c code
  have hctl : (w.cmdPended c code).on (pgRG (c / 12)) RG_CYC_CTL = w.on (pgRG (c / 12)) RG_CYC_CTL := by
    rw [Work.on, (sameGate_cmdPended w c code).other _ _ _ (mod_pgRG _) (by simp), Work.on]
  have hstands : (w.cmdPended c code).standsBy c = w.standsBy c := by
    rw [Work.standsBy, rg_congr (same_of_view hview .rgn rfl), Work.standsBy]
  have hnow : (w.cmdPended c code).now = w.now := congrArg View.now hview
  rw [← hctl, ← hstands, ← hnow, Work.clusterCmd, if_neg (not_not.2 hown)]
  rfl

theorem rd_cmdPended {w : Work} {c code : Nat} {f : Field} (h1 : CLU_CSTAT_PEND_CMD.Clear 0 f 0) (h2 : CLU_CSTAT_CMD_LOST.Clear 0 f 0) :
    (w.cmdPended c code).rd (pgCLU c) f = w.rd (pgCLU c) f := by
  rw [Work.cmdPended, rd_wr_clear _ _ h1]
  unfold Work.when
  split
  · exact rd_wr_clear _ _ h2 _
  · rfl

theorem rd_cmdPended_lost (w : Work) (c code : Nat) : (w.cmdPended c code).rd (pgCLU c) CLU_CSTAT_CMD_LOST =
    if w.on (pgCLU c) CLU_CSTAT_PEND_CMD then 1 else w.rd (pgCLU c) CLU_CSTAT_CMD_LOST := by
  rw [Work.cmdPended, rd_wr_clear _ _ (by decide)]
  unfold Work.when
  split
  · rw [rd_wr_same _ _ _ _ _ (by decide)]
    rfl
  · rfl

/-- R245: the command is held as pending. -/
theorem clusterCmd_pends {code : Nat} (hcode : code < 16) (hown : s.work.owner c = c) (hcyc : s.on (pgRG (c / 12)) RG_CYC_CTL)
    (hstands : s.work.standsBy c = false) :
    let t := s.onDev fun w => w.clusterCmd c code
    t.rd (pgCLU c) CLU_CSTAT_PEND_CMD = code ∧ t.rd (pgCLU c) CLU_CSTAT_STATE = s.rd (pgCLU c) CLU_CSTAT_STATE ∧
    (s.on (pgCLU c) CLU_CSTAT_PEND_CMD → t.rd (pgCLU c) CLU_CSTAT_CMD_LOST = 1) ∧
    (¬ s.on (pgCLU c) CLU_CSTAT_PEND_CMD → t.rd (pgCLU c) CLU_CSTAT_CMD_LOST = s.rd (pgCLU c) CLU_CSTAT_CMD_LOST) ∧
    OnlyDwords [pgCLU c + CLU_CSTAT_STATE.at 0] s t := by
  rw [← State.on_work] at hcyc
  have heq : s.work.clusterCmd c code = s.work.cmdPended c code := by
    rw [clusterCmd_owned code hown, if_pos (by rw [hcyc, hstands]; rfl)]
  rw [onDev_congr (g := fun w => w.cmdPended c code) heq]
  refine ⟨?_, rd_cmdPended (by decide) (by decide), fun h => ?_, fun h => ?_, (cmdPended_alters ..).changes⟩
  · rw [State.rd_onDev, Work.cmdPended, rd_wr_same _ _ _ _ _ (by decide)]
    exact Nat.mod_eq_of_lt hcode
  · rw [← State.on_work] at h
    rw [State.rd_onDev, rd_cmdPended_lost, if_pos h]
  · rw [← State.on_work] at h
    rw [State.rd_onDev, rd_cmdPended_lost, if_neg h, State.rd_work]

/-- R245: the command is evaluated at once. -/
theorem clusterCmd_atOnce (code : Nat) (hown : s.work.owner c = c) (h : ¬ s.on (pgRG (c / 12)) RG_CYC_CTL ∨ s.work.standsBy c = true) :
    (s.onDev fun w => w.clusterCmd c code) = s.onDev fun w => (w.cmdPended c code).evalCmd c code (t16 w.now) := by
  refine onDev_congr ?_
  rw [clusterCmd_owned code hown, if_neg]
  rw [← State.on_work] at h
  rcases h with h | h <;> simp [h]

theorem refuse_alters (w : Work) (o r : Nat) : w.Alters [] [pgCLU o + CLU_CSTAT_STATE.at 0, pgCLU o + CLU_REFUSE_COUNT.at 0] (w.refuse o r) :=
  ((Work.Alters.refl.wr (by simp [Field.at, CLU_CSTAT_REFUSED, CLU_CSTAT_STATE])).wr
    (by simp [Field.at, CLU_CSTAT_REF_CAUSE, CLU_CSTAT_STATE])).count (by simp)

/-- A command that is refused at once writes CSTAT and counts. -/
theorem clusterCmd_refused {code r : Nat} (hown : s.work.owner c = c) (h : ¬ s.on (pgRG (c / 12)) RG_CYC_CTL ∨ s.work.standsBy c = true)
    (hrefused : s.work.cmdRefusal c code = some r) (hr : r < 16) (h6 : r ≠ 6) :
    RefusedWith c r s (s.onDev fun w => w.clusterCmd c code) ∧
      OnlyDwords [pgCLU c + CLU_CSTAT_STATE.at 0, pgCLU c + CLU_REFUSE_COUNT.at 0] s (s.onDev fun w => w.clusterCmd c code) := by
  have hview := view_cmdPended s.work c code
  have hpended : (s.work.cmdPended c code).cmdRefusal c code = some r := by
    rw [(sameGate_cmdPended ..).cmdRefusal, hrefused]
    · rw [Work.cl, show (s.work.cmdPended c code).clu = s.work.clu from same_of_view hview .clu rfl, Work.cl]
    · exact congrArg View.up hview
    · exact same_of_view hview .rgn rfl
  have heq := evalCmd_refused (t16 s.work.now) hpended
  rw [if_neg fun h => h6 h.2.2] at heq
  obtain ⟨hstate, hflag, hcause, hpend, hcount⟩ := evalCmd_refused_shows (t16 s.work.now) hpended hr
  rw [rd_cmdPended (by decide) (by decide), State.rd_work] at hstate hcount
  rw [clusterCmd_atOnce code hown h]
  refine ⟨?_, ?_⟩
  · rw [RefusedWith, State.rd_onDev, State.rd_onDev, State.rd_onDev, State.rd_onDev, State.rd_onDev]
    exact ⟨hstate, hflag, hcause, hpend, hcount⟩
  · have hpendAlters := (cmdPended_alters s.work c code).wr (pg := pgCLU c) (f := CLU_CSTAT_PEND_CMD) (x := 0) (i := 0)
      (by simp [Field.at, CLU_CSTAT_PEND_CMD, CLU_CSTAT_STATE])
    refine Work.Alters.changes (f := fun w => (w.cmdPended c code).evalCmd c code (t16 w.now)) ?_
    rw [heq]
    exact (hpendAlters.mono (by simp) (by simp)).trans (refuse_alters ..)

/-- Without cycles the commands that need them are refused with REGION. -/
theorem cmdRefusal_region {code : Nat} (hcyc : ¬ s.on (pgRG (c / 12)) RG_CYC_CTL) (htopo : s.rd (pgCLU c) CLU_CFG_TOPO ≠ 0)
    (hrole : s.work.role ≠ 1) (hstands : s.work.standsBy c = false) (hupd : ¬ s.on pgHRT HRT_SUPD_STAT_BUSY)
    (hhub : ¬ s.on pgBIST BIST_BSTAT_HUB_RUN) (hhrt : ¬ s.on pgBIST BIST_BSTAT_HRT_RUN) (hcode : code ∈ [1, 2, 5]) :
    s.work.cmdRefusal c code = some 7 := by
  rw [← State.not_on_work] at hcyc hupd hhub hhrt
  have hruns : s.work.regionRuns (c / 12) = false := by rw [Work.regionRuns, hcyc]; rfl
  rw [Work.cmdRefusal, if_neg (show ¬ s.work.topo c = 0 from htopo), if_neg (by simp [hrole, hstands]), if_neg (by simp [hupd, hhub, hhrt]),
    if_pos]
  simpa [hruns, or_assoc] using hcode

/-- In a standby region every command is refused with ILLEGAL (R420). -/
theorem cmdRefusal_standby {code : Nat} (htopo : s.rd (pgCLU c) CLU_CFG_TOPO ≠ 0) (hstands : s.work.standsBy c = true) :
    s.work.cmdRefusal c code = some 1 := by
  rw [Work.cmdRefusal, if_neg (show ¬ s.work.topo c = 0 from htopo), if_pos (.inr hstands)]

/-- R20: the odd cluster of a pair takes none. -/
theorem clusterCmd_odd (code : Nat) (hown : s.work.owner c ≠ c) :
    (s.onDev fun w => w.clusterCmd c code) = s.onDev fun w => w.badval (pgCLU c) := onDev_congr (if_pos hown)

end

/-- Settles O38: what the host's write does, and what its evaluation does. -/
theorem clusterCommandsTakenOrRefused : Obligations.ClusterCommandsTakenOrRefused := by
  unfold Obligations.ClusterCommandsTakenOrRefused
  refine ⟨fun s c hr x hx => ?_, fun s c b hown => ?_⟩
  · have hcode : ∀ y ∈ clusterCommands c, y.2 < 16 := by simp [clusterCommands]
    refine ⟨fun hown hcyc hstands => runs_hostCmd hx hr (clusterCmd_pends (hcode x hx) hown hcyc hstands),
      fun hown h hpend => runs_hostCmd hx hr ?_, fun hown hcyc htopo hrole hstands hupd hhub hhrt hx2 => runs_hostCmd hx hr ?_,
      fun hown htopo hstands => runs_hostCmd hx hr ?_, fun hown => runs_hostCmd hx hr ?_⟩
    · rw [← State.on_work, Bool.not_eq_true] at hpend
      rw [clusterCmd_atOnce x.2 hown h]
      refine onDev_congr ?_
      rw [Work.cmdPended, hpend, when_false]
    · exact clusterCmd_refused hown (.inl hcyc) (cmdRefusal_region hcyc htopo hrole hstands hupd hhub hhrt hx2) (by decide) (by decide)
    · exact clusterCmd_refused hown (.inr hstands) (cmdRefusal_standby htopo hstands) (by decide) (by decide)
    · rw [clusterCmd_odd x.2 hown]
      exact ⟨by rw [State.rd_onDev, Work.badval, rd_wr_same _ _ _ _ _ (by decide)]; rfl, (Work.Alters.refl.badval (by simp)).changes⟩
  · refine ⟨fun h code hcode => refusedWith_evalCmd b (cmdRefusal_topo h) (by decide), fun x hx h hst => plain_moves b hx h hst,
      fun h hst ht => ?_, fun h hst r ht => ?_, fun h hst hv => ?_, fun h hst hv => ?_, fun h hst hcause => ?_, fun h hst hcause => ?_,
      fun hlane x hx h hst => lane_refused b hx hlane h hst, fun hst code hcode h hplain hspecial => unlisted_refused b code hst hcode h hplain hspecial⟩
    · exact movedTo_of_moves (by decide) (cmdRefusal_none h (by rw [show s.work.cstate c = 0 from hst]; rfl) (fun _ => ht) nofun nofun)
        (cmdAct_moves _ _ _ (1, 1) (by decide))
    · exact refusedWith_evalCmd b (cmdRefusal_temp h hst ht) (tempGate_lt ht)
    · exact movedTo_of_moves (by decide) (cmdRefusal_none h (by rw [show s.work.cstate c = 5 from hst]; rfl) nofun (fun _ _ => hv) nofun)
        (cmdAct_moves _ _ _ (3, 2) (by decide))
    · exact refusedWith_evalCmd b (cmdRefusal_vlink h hst hv) (by decide)
    · exact refusedWith_evalCmd b (cmdRefusal_cause h hst hcause) (by decide)
    · exact clear_moves b (cmdRefusal_clear h hst hcause)

end Sys2Proof.Machine
end

section
-- One task at a time: the check bounds the memory of all of Lean's threads together.
set_option Elab.async false
set_option linter.all false

/-! SUPPORT. The timing of a region: what the operations of a boundary leave of its record while set-points, loops, fall-back events,
masks and seals move on. -/

namespace Sys2Proof.Machine

/-- A region's place in its cycle and in its role, and the values filed for it; all else blank. -/
def Region.timing (r : Region) : Region :=
  { (default : Region) with
    run := r.run, standby := r.standby, takeAt := r.takeAt, releaseAt := r.releaseAt, fillCur := r.fillCur, fillNext := r.fillNext
    t0 := r.t0, nextB := r.nextB }

/-- Every region keeps its timing. -/
structure Work.SameTiming (w v : Work) : Prop where
  timing : ∀ m, (v.rg m).timing = (w.rg m).timing

namespace Work.SameTiming

variable {w v u : Work}

theorem refl (w : Work) : w.SameTiming w := ⟨fun _ => rfl⟩

theorem trans (h : w.SameTiming v) (g : v.SameTiming u) : w.SameTiming u :=
  ⟨fun m => (g.timing m).trans (h.timing m)⟩

/-- An operation that writes no region record. -/
theorem other (h : w.SameTiming v) (hview : view offRegions allZones u = view offRegions allZones v) : w.SameTiming u :=
  h.trans ⟨fun m => by rw [rg_congr (rgn_of_view hview)]⟩

theorem modRg (h : w.SameTiming v) {n : Nat} {f : Region → Region} (hf : ∀ r, (f r).timing = r.timing) : w.SameTiming (v.modRg n f) := by
  refine h.trans ⟨fun m => ?_⟩
  by_cases hm : m = n
  · subst hm
    rcases vget_vmod_same v.rgn m f with hr | ⟨hr, hd⟩
    · rw [show (v.modRg m f).rg m = f (v.rg m) from hr, hf]
    · rw [show (v.modRg m f).rg m = default from hr, show v.rg m = default from hd]
  · have hr : (v.modRg n f).rg m = v.rg m := by simp [Work.rg, Work.modRg, vget, vmod, Ne.symm hm]
    rw [hr]

theorem each {α : Type} (h : w.SameTiming v) {l : List α} {g : Work → α → Work} (hg : ∀ (x : Work) (a : α), x.SameTiming (g x a)) :
    w.SameTiming (v.each l g) :=
  h.trans (each_relates refl trans (fun x a _ => hg x a) v)

theorem when (h : w.SameTiming v) {c : Bool} {g : Work → Work} (hg : v.SameTiming (g v)) : w.SameTiming (v.when c g) := by
  unfold Work.when
  split
  · exact h.trans hg
  · exact h

theorem wr (h : w.SameTiming v) {pg : Nat} {f : Field} {x i : Nat} (hp : pg % 0x1000 = 0) : w.SameTiming (v.wr pg f x i) :=
  h.other (view_wr _ _ _ _ _ hp rfl)

theorem put (h : w.SameTiming v) {a : Nat} {d : Word} : w.SameTiming (v.put a d) := h.other (view_put _ _ _ rfl)

/-! ### Set-points and loops -/

theorem chWr (h : w.SameTiming v) {n q : Nat} {f : Field} {x : Nat} : w.SameTiming (v.chWr n q f x) := h.wr (mod_pgSP ..)

theorem lpWr (h : w.SameTiming v) {n m : Nat} {f : Field} {x : Nat} : w.SameTiming (v.lpWr n m f x) := h.wr (mod_pgSP ..)

theorem spAdvance (h : w.SameTiming v) (n : Nat) : w.SameTiming (v.spAdvance n) := by
  refine each h fun x q => ?_
  refine chWr (modRg (refl x) ?_)
  exact fun _ => rfl

theorem spFallback (h : w.SameTiming v) (n : Nat) : w.SameTiming (v.spFallback n) :=
  (h.each fun x _ => (refl x).chWr).modRg fun _ => rfl

theorem spDrop (h : w.SameTiming v) (n : Nat) : w.SameTiming (v.spDrop n) :=
  (h.each fun x _ => (refl x).wr (mod_pgSP ..)).modRg fun _ => rfl

theorem spSeal (h : w.SameTiming v) (n : Nat) : w.SameTiming (v.spSeal n) := by
  refine (h.each fun x e => ?_).modRg fun _ => rfl
  have hp : pgSP n (e.1 / 16) % 0x1000 = 0 := mod_pgSP ..
  have hgen : x.SameTiming (x.modSp n e.1 fun _ => e.2.gen) := (refl x).modRg fun _ => rfl
  refine when (when (when ((hgen.wr hp).wr hp) ?_) ?_) ?_
  · exact (refl _).wr hp
  · exact (refl _).wr hp
  · exact (refl _).wr hp

theorem lpToManual (h : w.SameTiming v) (n m : Nat) (lost : Bool) : w.SameTiming (v.lpToManual n m lost) := by
  unfold Work.lpToManual
  refine when (when (other h.lpWr (view_latch _ _ rfl)) ?_) ?_
  · exact (refl _).put
  · exact (refl _).lpWr

theorem lpSeal (h : w.SameTiming v) (n : Nat) : w.SameTiming (v.lpSeal n) := by
  refine modRg (each (each h fun x m => (refl x).lpWr) fun x e => ?_) fun _ => rfl
  have hmode : x.SameTiming (x.modLp n e.1 fun k => { k with auto := !(vget (x.rg n).lp e.1).auto, req := none }) :=
    (refl x).modRg fun _ => rfl
  refine when (when (wr (lpWr (lpWr hmode)) (mod_pgSP ..)) ?_) ?_
  · exact (refl _).lpToManual ..
  · exact (refl _).lpWr

theorem lpLatch (h : w.SameTiming v) (n : Nat) : w.SameTiming (v.lpLatch n) := by
  refine each (each h fun x m => ?_) fun x m => ?_
  · refine when (modRg (refl x) ?_) (modRg (refl _) ?_)
    · exact fun _ => rfl
    · exact fun _ => rfl
  · dsimp only
    split
    · exact (refl x).modRg fun _ => rfl
    · exact refl x

theorem sealView (h : w.SameTiming v) (n : Nat) : w.SameTiming (v.sealView n) := h.modRg fun _ => rfl

/-! ### Clusters and the census -/

theorem setState (h : w.SameTiming v) (o st : Nat) (b : Int) : w.SameTiming (v.setState o st b) :=
  h.other (view_setState _ _ _ _ rfl rfl rfl rfl rfl rfl rfl rfl rfl rfl rfl rfl rfl)

theorem sendCmd (h : w.SameTiming v) (o op : Nat) : w.SameTiming (v.sendCmd o op) := h.other (view_sendCmd _ _ _ _ rfl)

theorem toBypass (h : w.SameTiming v) (o : Nat) (b : Int) : w.SameTiming (v.toBypass o b) :=
  ((h.setState ..).sendCmd ..).modRg fun _ => rfl

theorem vlink (h : w.SameTiming v) (o : Nat) : w.SameTiming (v.vlink o).1 := h.wr (mod_pgCLU o)

theorem cstat (h : w.SameTiming v) {o : Nat} {f : Field} {x : Nat} : w.SameTiming (v.cstat o f x) := h.other (view_cstat _ _ _ _ rfl)

theorem modCl (h : w.SameTiming v) {o : Nat} {f : Cluster → Cluster} : w.SameTiming (v.modCl o f) := h.other (view_modCl _ _ _ rfl)

theorem ite (c : Prop) [Decidable c] (h1 : w.SameTiming v) (h2 : w.SameTiming u) : w.SameTiming (if c then v else u) := by
  split
  · exact h1
  · exact h2

theorem cmdAct (h : w.SameTiming v) (o code : Nat) (b : Int) : w.SameTiming (v.cmdAct o code b) := by
  unfold Work.cmdAct
  dsimp only
  split
  · exact (h.setState ..).sendCmd ..
  · exact h.setState ..
  · exact (ite _ (h.vlink o) h).setState ..
  · exact (h.when ((refl v).sendCmd ..)).setState ..
  · exact h.setState ..
  · exact h.toBypass ..
  · exact (h.setState ..).sendCmd ..
  · exact ((((h.cstat.modCl).vlink o).setState ..).sendCmd ..).modRg fun _ => rfl
  · exact ite _ (h.setState ..) ((h.other (view_safeAction _ _ _ rfl rfl rfl)).setState ..)

theorem evalCmd (h : w.SameTiming v) (o code : Nat) (b : Int) : w.SameTiming (v.evalCmd o code b) := by
  have hpend : w.SameTiming (v.wr (pgCLU o) CLU_CSTAT_PEND_CMD 0) := h.wr (mod_pgCLU o)
  rw [evalCmd_eq]
  cases v.cmdRefusal o code with
  | some cause => exact (ite _ (hpend.vlink o) hpend).other (view_refuse _ _ _ rfl)
  | none => exact hpend.cmdAct ..

theorem pcTimeout (h : w.SameTiming v) (o : Nat) : w.SameTiming (v.pcTimeout o) :=
  h.other (view_pcTimeout _ _ rfl rfl rfl rfl rfl rfl rfl)

theorem clusterStep4 (h : w.SameTiming v) (o : Nat) (b : Int) : w.SameTiming (v.clusterStep4 o b) := by
  have hvolt := h.vlink o
  have hpc : w.SameTiming (if v.cstate o = 1 then
      if (v.vlink o).2 then ((v.vlink o).1.setState o 2 b).sendCmd o 2 else (v.vlink o).1.when (v.cl o).pcExpired fun w => w.pcTimeout o
      else v) :=
    ite _ (ite _ ((hvolt.setState ..).sendCmd ..) (hvolt.when ((refl _).pcTimeout o))) h
  have hcmd (code : Nat) := ite (code = 0) hpc (hpc.evalCmd o code b)
  exact ite _ ((hcmd _).toBypass o b) (hcmd _)

theorem censusBoundary (h : w.SameTiming v) (n : Nat) (b : Int) (old : List (Nat × Nat × Nat)) : w.SameTiming (v.censusBoundary n b old) := by
  have hmasks : w.SameTiming (v.masksApply n) := h.modRg fun _ => rfl
  have hspread := hmasks.each (l := (upto 4).filter fun m => m == n || (((v.masksApply n).rg m).run && ((v.masksApply n).rg m).t0 == b))
    (g := fun w m => w.spreadRegion m) fun x m => (refl x).other (view_spreadRegion _ _ rfl)
  exact ite _ hspread (hspread.each fun x e => (refl x).other (view_maskSend _ _ rfl rfl rfl rfl rfl rfl))

theorem sealAbacus (h : w.SameTiming v) (n : Nat) (ok : Bool) : w.SameTiming (v.sealAbacus n ok) := by
  have hp : pgABC n % 0x1000 = 0 := mod_pgABC n
  refine wr (wr (wr (wr ?_ hp) hp) hp) hp
  split
  · exact ((((h.each fun x e => (refl x).put).each fun x e => (refl x).put).spSeal n).lpSeal n).wr hp
  · exact (h.spDrop n).modRg fun _ => rfl

theorem boundaryStep3 (h : w.SameTiming v) (n : Nat) : w.SameTiming (v.boundaryStep3 n) := by
  have hlive : w.SameTiming ((v.latchLive n).wcBoundary n) :=
    (h.other (view_latchLive _ _ rfl)).other (view_wcBoundary _ _ rfl)
  exact ite _ hlive ((hlive.lpLatch n).each fun x i => (refl x).other (view_hdLatch _ _ rfl rfl))

theorem boundaryStep4 (h : w.SameTiming v) (n : Nat) (b : Int) (old : List (Nat × Nat × Nat)) : w.SameTiming (v.boundaryStep4 n b old) :=
  (ite _ h (h.each fun x c => (refl x).clusterStep4 c b)).censusBoundary n b old

end Work.SameTiming

end Sys2Proof.Machine
end

section
-- One task at a time: the check bounds the memory of all of Lean's threads together.
set_option Elab.async false
set_option linter.all false

/-! PROOF. Settles O20: the boundary of a cycling region (R29 to R32, R43, R185). -/

namespace Sys2Proof.Machine

/-! ### SEAL -/

/-- Dwords put one after another: the last for an address stands. -/
theorem word_each_put (w : Work) (l : List (Nat × Word)) (addr : Nat → Nat) (a : Nat) :
    (w.each l fun w e => w.put (addr e.1) e.2).word a =
      (((l.filter fun e => addr e.1 == a).getLast?).map Prod.snd).getD (w.word a) := by
  unfold Work.each
  induction l using List.reverseRecOn with
  | nil => rfl
  | append_singleton l e ih =>
    rw [List.foldl_append, List.foldl_cons, List.foldl_nil, word_put, List.filter_append]
    by_cases h : a = addr e.1
    · simp [h]
    · simp [h, Ne.symm h, ih]

/-- The running cycle of region `n` has completed (R185). -/
def Work.completed (w : Work) (n : Nat) : Bool := w.phase n == 3 && !(w.rg n).overrun && (w.rg n).tDone.isSome

/-- SEAL of the states, outputs, set-points and loops, noted in the region. -/
def Work.sealValues (w : Work) (n : Nat) : Work :=
  (w.sealAbacus n (w.completed n)).modRg n fun r => { r with
    sealT0 := if w.completed n then some r.t0 else r.sealT0, seals := r.seals + 1 }

/-- What the clusters take at SEAL. -/
def Work.sealClusters (w : Work) (n : Nat) (b : Int) : Work :=
  ((w.sealValues n).lockAll n b).each ((clustersOf n).filter fun c => (w.sealValues n).owner c == c) fun v c =>
    v.recovStep c (w.completed n)

/-- CYC_COUNT counts the boundary. -/
def Work.cycleCounted (w : Work) (n : Nat) : Work := w.wr (pgRG n) RG_CYC_COUNT ((w.rd (pgRG n) RG_CYC_COUNT + 1) % 2 ^ 32)

/-- Step 1 of the boundary of a region that stays active. -/
def Work.sealed (w : Work) (n : Nat) (b : Int) : Work :=
  (w.sealActive n b).when (!((w.sealActive n b).rg n).standby) fun v => v.lockAll n b

theorem sealActive_eq (w : Work) (n : Nat) (b : Int) : ∃ c, w.sealActive n b =
    ((((((w.sealClusters n b).cycleCounted n).sealView n).recSeal n b).publish n).when c fun v => v.twinSeal n b) := ⟨_, rfl⟩

theorem sealClusters_regs (w : Work) (n : Nat) (b : Int) : SameRegs (w.sealAbacus n (w.completed n)) (w.sealClusters n b) := by
  rw [SameRegs, Work.sealClusters, view_each _ _ _ fun v c => view_recovStep _ _ _ rfl rfl rfl rfl rfl rfl rfl rfl rfl rfl rfl rfl rfl,
    view_lockAll _ _ _ rfl rfl rfl rfl rfl rfl rfl rfl rfl rfl rfl rfl rfl]
  exact view_modRg _ _ _ rfl

theorem sealed_regs (w : Work) (n : Nat) (b : Int) : SameRegs ((w.sealClusters n b).cycleCounted n) (w.sealed n b) := by
  obtain ⟨c, hc⟩ := sealActive_eq w n b
  rw [SameRegs, Work.sealed, view_when _ _ _ fun v => view_lockAll _ _ _ rfl rfl rfl rfl rfl rfl rfl rfl rfl rfl rfl rfl rfl, hc,
    view_when _ _ _ fun v => view_twinSeal _ _ _ rfl rfl rfl, view_publish _ _ rfl rfl rfl rfl rfl rfl,
    view_recSeal _ _ _ rfl rfl rfl rfl rfl rfl rfl rfl]
  exact view_sealView _ _ rfl

theorem sealActive_timing (w : Work) (n : Nat) (b : Int) : w.SameTiming (w.sealActive n b) := by
  have hvalues : w.SameTiming (w.sealValues n) := ((Work.SameTiming.refl w).sealAbacus ..).modRg fun _ => rfl
  have hlock := hvalues.other (view_lockAll _ n b rfl rfl rfl rfl rfl rfl rfl rfl rfl rfl rfl rfl rfl)
  have hclusters : w.SameTiming (w.sealClusters n b) := hlock.each fun x c =>
    (Work.SameTiming.refl x).other (view_recovStep _ _ _ rfl rfl rfl rfl rfl rfl rfl rfl rfl rfl rfl rfl rfl)
  have hcount : w.SameTiming ((w.sealClusters n b).cycleCounted n) := hclusters.wr (mod_pgRG n)
  have hpub := ((hcount.sealView n).other (view_recSeal _ n b rfl rfl rfl rfl rfl rfl rfl rfl)).other (view_publish _ n rfl rfl rfl rfl rfl rfl)
  obtain ⟨c, hc⟩ := sealActive_eq w n b
  rw [hc]
  exact hpub.when ((Work.SameTiming.refl _).other (view_twinSeal _ _ _ rfl rfl rfl))

theorem sealed_timing (w : Work) (n : Nat) (b : Int) : w.SameTiming (w.sealed n b) :=
  (sealActive_timing w n b).when ((Work.SameTiming.refl _).other (view_lockAll _ _ _ rfl rfl rfl rfl rfl rfl rfl rfl rfl rfl rfl rfl rfl))

/-! #### The registers after SEAL -/

theorem word_sealed (w : Work) (n : Nat) (b : Int) {a : Nat} (ha : offCycle (zoneOf a) = false) (hz : zoneOf a ≠ .page .rg) :
    (w.sealed n b).word a = (w.sealAbacus n (w.completed n)).word a := by
  have hcount : ((w.sealClusters n b).cycleCounted n).word a = (w.sealClusters n b).word a :=
    word_wr_ne _ _ _ _ _ _ fun e => hz (by rw [e, zoneOf_field _ _ _ (mod_pgRG n), zone_pgRG])
  rw [word_of_view (sealed_regs w n b) a ha, hcount, word_of_view (sealClusters_regs w n b) a ha]

theorem word_sealAbacus_rg (w : Work) (n : Nat) (ok : Bool) {a : Nat} (ha : zoneOf a = .page .rg) : (w.sealAbacus n ok).word a = w.word a := by
  let Z : Zone → Bool := fun z => decide (z ≠ .page .rg)
  have hview : view allKinds Z (w.sealAbacus n ok) = view allKinds Z w := view_sealAbacus _ _ _ rfl rfl rfl rfl rfl
  exact word_of_view hview a (by simp [Z, ha])

theorem rd_sealClusters_rg (w : Work) (n : Nat) (b : Int) (f : Field) : (w.sealClusters n b).rd (pgRG n) f = w.rd (pgRG n) f := by
  rw [rd_of_view (sealClusters_regs w n b) _ f 0 (mod_pgRG n) (by rw [zone_pgRG]; rfl)]
  exact rd_congr (word_sealAbacus_rg _ _ _ (by rw [zoneOf_field _ _ _ (mod_pgRG n), zone_pgRG]))

theorem rd_sealed_count (w : Work) (n : Nat) (b : Int) :
    (w.sealed n b).rd (pgRG n) RG_CYC_COUNT = (w.rd (pgRG n) RG_CYC_COUNT + 1) % 2 ^ 32 := by
  rw [rd_of_view (sealed_regs w n b) _ _ 0 (mod_pgRG n) (by rw [zone_pgRG]; rfl), Work.cycleCounted, rd_wr_same _ _ _ _ _ (by decide),
    rd_sealClusters_rg]
  exact Nat.mod_eq_of_lt (Nat.mod_lt _ (by decide))

theorem period_sealed (w : Work) (n : Nat) (b : Int) : (w.sealed n b).period16 n = w.period16 n := by
  rw [Work.period16, rd_of_view (sealed_regs w n b) _ _ 0 (mod_pgRG n) (by rw [zone_pgRG]; rfl), Work.cycleCounted,
    rd_wr_clear _ _ (by decide), rd_sealClusters_rg, Work.period16]

/-- The windows after a SEAL. -/
theorem word_sealAbacus_completed (w : Work) (n : Nat) {a : Nat} (ha : zoneOf a = .window) : (w.sealAbacus n true).word a =
    ((w.each (w.rg n).pendState fun w e => w.put (stateWordAddr n e.1) e.2).each (w.rg n).pendOut fun w e =>
      w.put (outSlotAddr n e.1) e.2).word a := by
  let Z : Zone → Bool := fun z => decide (z ≠ .window)
  have hp : pgABC n % 0x1000 = 0 := mod_pgABC n
  have hz : Z (zoneOf (pgABC n)) = true := by rw [zone_pgABC]; rfl
  refine word_of_view (K := allKinds) (Z := Z) ?_ a (by simp [Z, ha])
  rw [Work.sealAbacus, if_pos rfl, view_wr _ _ _ _ _ hp hz, view_wr _ _ _ _ _ hp hz, view_wr _ _ _ _ _ hp hz, view_wr _ _ _ _ _ hp hz,
    view_wr _ _ _ _ _ hp hz, view_lpSeal _ _ rfl rfl rfl]
  exact view_spSeal _ _ rfl rfl

/-- The windows where no cycle has completed. -/
theorem word_sealAbacus_dropped (w : Work) (n : Nat) {a : Nat} (ha : zoneOf a = .window) : (w.sealAbacus n false).word a = w.word a := by
  let Z : Zone → Bool := fun z => decide (z ≠ .window)
  have hp : pgABC n % 0x1000 = 0 := mod_pgABC n
  have hz : Z (zoneOf (pgABC n)) = true := by rw [zone_pgABC]; rfl
  refine word_of_view (K := allKinds) (Z := Z) ?_ a (by simp [Z, ha])
  rw [Work.sealAbacus, if_neg Bool.false_ne_true, view_wr _ _ _ _ _ hp hz, view_wr _ _ _ _ _ hp hz, view_wr _ _ _ _ _ hp hz,
    view_wr _ _ _ _ _ hp hz, view_modRg _ _ _ rfl]
  exact view_spDrop _ _ rfl rfl

theorem rd_sealAbacus_slackOvr (w : Work) (n : Nat) (ok : Bool) : (w.sealAbacus n ok).rd (pgABC n) ABC_SLACK_OVR = b2n (!ok) := by
  rw [Work.sealAbacus, rd_wr_clear _ _ (by decide), rd_wr_clear _ _ (by decide), rd_wr_same _ _ _ _ _ (by decide)]
  cases ok <;> rfl

theorem rd_sealAbacus_ovrRun (w : Work) (n : Nat) : (w.sealAbacus n true).rd (pgABC n) ABC_RSTAT_OVR_RUN = 0 := by
  rw [Work.sealAbacus, rd_wr_clear _ _ (by decide), rd_wr_clear _ _ (by decide), rd_wr_clear _ _ (by decide), rd_wr_clear _ _ (by decide),
    if_pos rfl, rd_wr_same _ _ _ _ _ (by decide)]
  rfl

theorem stateWordAddr_eq_iff (n e : Nat) (x : Fin 2048) : stateWordAddr n e = stateWordAddr n x ↔ e % 2048 = x := by
  simp only [stateWordAddr]
  omega

theorem outSlotAddr_eq_iff (n e : Nat) (o : Fin 512) : outSlotAddr n e = outSlotAddr n o ↔ e % 512 = o := by
  simp only [outSlotAddr]
  omega

theorem stateWordAddr_ne_outSlotAddr (n e o : Nat) : stateWordAddr n e ≠ outSlotAddr n o := by
  simp only [stateWordAddr, outSlotAddr]
  omega

/-- R185: a state word takes its last pending value. -/
theorem word_sealAbacus_state (w : Work) (n : Nat) (x : Fin 2048) : (w.sealAbacus n true).word (stateWordAddr n x) =
    (((((w.rg n).pendState.filter fun e => e.1 % 2048 == x.val).getLast?).map Prod.snd).getD (w.word (stateWordAddr n x))) := by
  have hnone : ((w.rg n).pendOut.filter fun e => outSlotAddr n e.1 == stateWordAddr n x) = [] :=
    List.filter_eq_nil_iff.2 fun e _ => by simp [Ne.symm (stateWordAddr_ne_outSlotAddr n x e.1)]
  rw [word_sealAbacus_completed w n (zone_stateWordAddr n x), word_each_put, hnone, word_each_put]
  simp only [List.getLast?_nil, Option.map_none, Option.getD_none, beq_eq_decide, stateWordAddr_eq_iff]

/-- R185: an output slot takes its last pending value. -/
theorem word_sealAbacus_out (w : Work) (n : Nat) (o : Fin 512) : (w.sealAbacus n true).word (outSlotAddr n o) =
    (((((w.rg n).pendOut.filter fun e => e.1 % 512 == o.val).getLast?).map Prod.snd).getD (w.word (outSlotAddr n o))) := by
  have hnone : ((w.rg n).pendState.filter fun e => stateWordAddr n e.1 == outSlotAddr n o) = [] :=
    List.filter_eq_nil_iff.2 fun e _ => by simp [stateWordAddr_ne_outSlotAddr n e.1 o]
  rw [word_sealAbacus_completed w n (zone_outSlotAddr n o), word_each_put, word_each_put, hnone]
  simp only [List.getLast?_nil, Option.map_none, Option.getD_none, beq_eq_decide, outSlotAddr_eq_iff]

/-! ### The boundary -/

/-- The registers of the next cycle (R32). -/
def Work.cycleShown (w : Work) (n : Nat) (b : Int) : Work :=
  (((w.stamp (pgRG n) RG_CYC_T0_NS RG_CYC_T0_S (timeOf16 b)).wr (pgRG n) RG_CYC_STAT_PHASE 1).wr (pgABC n) ABC_RSTAT_DONE 0)

/-- A region that enters its next cycle (R32). -/
def Region.entered (r : Region) (b nb : Int) : Region :=
  { r with
    run := true, startPend := false, t0 := b, nextB := some nb, reckon := false, abandoned := false, overrun := false
    tDone := none, pc := 0, results := [], resErrs := 0, pendState := [], pendOut := [], fillCur := r.fillNext, fillNext := [] }

/-- The next cycle, before the channels advance. -/
def Work.cycleEntered (w : Work) (n : Nat) (b nb : Int) : Work := (w.cycleShown n b).modRg n fun r => r.entered b nb

theorem boundaryStep5_regs (w : Work) (n : Nat) (b nb : Int) : SameRegs (w.cycleShown n b) (w.boundaryStep5 n b nb) := by
  have hentered : SameRegs (w.cycleShown n b) (w.cycleEntered n b nb) := view_modRg _ _ _ rfl
  have hgo : SameRegs (w.cycleEntered n b nb) (((w.cycleEntered n b nb).spFallback n).spAdvance n) :=
    (view_spAdvance _ _ rfl rfl).trans (view_spFallback _ _ rfl rfl)
  change SameRegs _ (if ((w.cycleEntered n b nb).rg n).standby then w.cycleEntered n b nb
    else ((w.cycleEntered n b nb).spFallback n).spAdvance n)
  split
  · exact hentered
  · exact hgo.trans hentered

theorem boundaryStep5_timing (w : Work) (n : Nat) (b nb : Int) : (w.cycleEntered n b nb).SameTiming (w.boundaryStep5 n b nb) :=
  .ite _ (.refl _) (((Work.SameTiming.refl _).spFallback n).spAdvance n)

/-- A write to a page of another kind. -/
theorem rd_wr_otherZone (w : Work) {pg qg : Nat} (f g : Field) (v i j : Nat) (hp : pg % 0x1000 = 0) (hq : qg % 0x1000 = 0)
    (hz : zoneOf qg ≠ zoneOf pg) : (w.wr pg f v i).rd qg g j = w.rd qg g j :=
  rd_wr_ne _ _ _ _ _ _ _ _ (ne_of_zone (by rwa [zoneOf_field _ _ _ hq, zoneOf_field _ _ _ hp]))

theorem abc_ne_rg (n m : Nat) : zoneOf (pgABC n) ≠ zoneOf (pgRG m) := by simp

/-- T0 and the phase that the RG page shows. -/
theorem rd_cycleShown_rg (w : Work) (n : Nat) (b : Int) :
    (w.cycleShown n b).rd (pgRG n) RG_CYC_STAT_PHASE = 1 ∧ (w.cycleShown n b).rd (pgRG n) RG_CYC_T0_NS = (timeOf16 b).ns ∧
      (w.cycleShown n b).rd (pgRG n) RG_CYC_T0_S = (timeOf16 b).s % 2 ^ 32 ∧
      (w.cycleShown n b).rd (pgRG n) RG_CYC_COUNT = w.rd (pgRG n) RG_CYC_COUNT := by
  have hdone (v : Work) (f : Field) : (v.wr (pgABC n) ABC_RSTAT_DONE 0).rd (pgRG n) f = v.rd (pgRG n) f :=
    rd_wr_otherZone _ _ _ _ _ _ (mod_pgABC n) (mod_pgRG n) (abc_ne_rg n n).symm
  have hns := timeOf16_ns_lt b
  simp only [Work.cycleShown, hdone]
  refine ⟨?_, ?_, ?_, ?_⟩
  · rw [rd_wr_same _ _ _ _ _ (by decide)]; rfl
  · rw [rd_wr_clear _ _ (by decide), Work.stamp, rd_wr_clear _ _ (by decide), rd_wr_same _ _ _ _ _ (by decide)]
    exact Nat.mod_eq_of_lt (by simp only [RG_CYC_T0_NS]; omega)
  · rw [rd_wr_clear _ _ (by decide), Work.stamp, rd_wr_same _ _ _ _ _ (by decide)]
    rfl
  · rw [rd_wr_clear _ _ (by decide), Work.stamp, rd_wr_clear _ _ (by decide), rd_wr_clear _ _ (by decide)]

/-- The RG page's writes leave the registers of the ABC page; of those, DONE clears. -/
theorem rd_cycleShown_abc (w : Work) (n : Nat) (b : Int) :
    (w.cycleShown n b).rd (pgABC n) ABC_RSTAT_DONE = 0 ∧
      ∀ f : Field, ABC_RSTAT_DONE.Clear 0 f 0 → (w.cycleShown n b).rd (pgABC n) f = w.rd (pgABC n) f := by
  have hrg (v : Work) (f g : Field) (x : Nat) : (v.wr (pgRG n) g x).rd (pgABC n) f = v.rd (pgABC n) f :=
    rd_wr_otherZone _ _ _ _ _ _ (mod_pgRG n) (mod_pgABC n) (abc_ne_rg n n)
  refine ⟨?_, fun f hf => ?_⟩
  · rw [Work.cycleShown, rd_wr_same _ _ _ _ _ (by decide)]; rfl
  · rw [Work.cycleShown, rd_wr_clear _ _ hf, hrg, Work.stamp, hrg, hrg]

theorem word_cycleShown (w : Work) (n : Nat) (b : Int) {a : Nat} (ha : zoneOf a = .window) : (w.cycleShown n b).word a = w.word a := by
  let Z : Zone → Bool := fun z => decide (z ≠ .window)
  refine word_of_view (K := allKinds) (Z := Z) ?_ a (by simp [Z, ha])
  rw [Work.cycleShown, view_wr _ _ _ _ _ (mod_pgABC n) (by rw [zone_pgABC]; rfl), view_wr _ _ _ _ _ (mod_pgRG n) (by rw [zone_pgRG]; rfl)]
  exact view_stamp _ _ _ _ _ (mod_pgRG n) (by rw [zone_pgRG]; rfl)

/-- Steps 3 and 4. -/
def Work.boundaryMid (w : Work) (n : Nat) (b : Int) (old : List (Nat × Nat × Nat)) : Work := (w.boundaryStep3 n).boundaryStep4 n b old

theorem boundaryMid_regs (w : Work) (n : Nat) (b : Int) (old : List (Nat × Nat × Nat)) : SameRegs w (w.boundaryMid n b old) :=
  (view_boundaryStep4 _ _ _ _ rfl rfl rfl rfl rfl rfl rfl rfl rfl rfl rfl rfl rfl rfl rfl rfl rfl).trans
    (view_boundaryStep3 _ _ rfl rfl rfl rfl rfl)

theorem boundaryMid_timing (w : Work) (n : Nat) (b : Int) (old : List (Nat × Nat × Nat)) : w.SameTiming (w.boundaryMid n b old) :=
  ((Work.SameTiming.refl w).boundaryStep3 n).boundaryStep4 n b old

/-- The device after the boundary at `b`, but for what the twin shows. -/
def Work.boundaryCore (w : Work) (n : Nat) (b : Int) : Work :=
  ((w.sealed n b).boundaryMid n b w.spreadAll).boundaryStep5 n b (b + w.period16 n)

/-- The boundary of a cycling region with no swap, stop or change of role due. -/
structure Work.PlainBoundary (w : Work) (n : Nat) (b : Int) : Prop where
  due : (w.rg n).nextB = some b
  run : (w.rg n).run = true
  active : (w.rg n).standby = false
  unfenced : w.rgFenced n = false
  stays : (w.rg n).stopPend = false
  noTake : (w.rg n).takeAt = none
  noRelease : (w.rg n).releaseAt = none
  noSwap : w.swapNow n b = false

section
variable {w : Work} {n : Nat} {b : Int}

theorem boundaryStep1_plain (h : w.PlainBoundary n b) : w.boundaryStep1 n b false = w.sealed n b := by
  have htake : ((w.sealActive n b).rg n).takeAt = none :=
    (congrArg Region.takeAt ((sealActive_timing w n b).timing n)).trans h.noTake
  have hrelease : ((w.sealed n b).rg n).releaseAt = none :=
    (congrArg Region.releaseAt ((sealed_timing w n b).timing n)).trans h.noRelease
  have hnone : (w.sealed n b).releasing n b = w.sealed n b := by rw [Work.releasing, hrelease]
  rw [Work.boundaryStep1]
  simp only [h.active, h.run, htake, if_true, Bool.false_eq_true, if_false]
  exact hnone

theorem boundary_plain (h : w.PlainBoundary n b) : ∃ c, w.boundary n = (w.boundaryCore n b).when c Work.twinShow := by
  refine ⟨(w.boundaryCore n b).role != 0, ?_⟩
  rw [Work.boundary]
  simp only [h.due, h.run, h.unfenced, h.noSwap, h.stays, boundaryStep1_plain h, Bool.true_or, Bool.not_true, Bool.or_false, Bool.false_and,
    Bool.false_eq_true, if_false, Work.when, period_sealed]
  rfl

theorem boundary_regs (h : w.PlainBoundary n b) :
    SameRegs (((w.sealed n b).boundaryMid n b w.spreadAll).cycleShown n b) (w.boundary n) := by
  obtain ⟨c, hc⟩ := boundary_plain h
  rw [hc, SameRegs, view_when _ _ _ fun v => view_twinShow _ rfl rfl rfl rfl]
  exact boundaryStep5_regs ..

/-- The record of the region that enters its next cycle. -/
theorem rg_boundary {n : Fin 4} (h : w.PlainBoundary n b) :
    ((w.boundary n).rg n).timing = ((w.rg n).entered b (b + w.period16 n)).timing := by
  obtain ⟨c, hc⟩ := boundary_plain h
  have hshow : (w.boundaryCore n b).SameTiming (w.boundary n) := by
    rw [hc]
    exact (Work.SameTiming.refl _).when ((Work.SameTiming.refl _).other (view_twinShow _ rfl rfl rfl rfl))
  have hmid := ((sealed_timing w n b).trans (boundaryMid_timing (w.sealed n b) n b w.spreadAll)).timing n
  have hshown : ((((w.sealed n b).boundaryMid n b w.spreadAll).cycleShown n b).rg n).timing = (w.rg n).timing := by
    rw [← hmid]
    simp only [Work.cycleShown, Work.stamp, rg_wr]
  have hentered (r r' : Region) (hr : r.timing = r'.timing) (nb : Int) : (r.entered b nb).timing = (r'.entered b nb).timing := by
    simp only [Region.timing, Region.mk.injEq, true_and, and_true] at hr
    simp [Region.timing, Region.entered, hr]
  rw [((boundaryStep5_timing _ n b _).trans hshow).timing n, Work.cycleEntered, rg_modRg_same]
  exact hentered _ _ hshown _

/-- A register of the RG or ABC page before the next cycle enters. -/
theorem rd_boundaryMid_sealed (w : Work) (n : Nat) (b : Int) (old : List (Nat × Nat × Nat)) {pg : Nat} (hp : pg % 0x1000 = 0)
    (hz : offCycle (zoneOf pg) = false) (f : Field) : ((w.sealed n b).boundaryMid n b old).rd pg f = (w.sealed n b).rd pg f :=
  rd_of_view (boundaryMid_regs ..) pg f 0 hp hz

/-- A window after the boundary holds what SEAL left. -/
theorem word_boundary (h : w.PlainBoundary n b) {a : Nat} (ha : zoneOf a = .window) :
    (w.boundary n).word a = (w.sealAbacus n (w.completed n)).word a := by
  have hoff : offCycle (zoneOf a) = false := by rw [ha]; rfl
  rw [word_of_view (boundary_regs h) a hoff, word_cycleShown _ _ _ ha, word_of_view (boundaryMid_regs ..) a hoff,
    word_sealed _ _ _ hoff (by simp [ha])]

/-- An ABC register that the next cycle's entry leaves. -/
theorem rd_boundary_abc (h : w.PlainBoundary n b) {f : Field} (hf : ABC_RSTAT_DONE.Clear 0 f 0) :
    (w.boundary n).rd (pgABC n) f = (w.sealAbacus n (w.completed n)).rd (pgABC n) f := by
  have hz : offCycle (zoneOf (pgABC n)) = false := by rw [zone_pgABC]; rfl
  rw [rd_of_view (boundary_regs h) _ f 0 (mod_pgABC n) hz, (rd_cycleShown_abc _ n b).2 f hf, rd_boundaryMid_sealed _ _ _ _ (mod_pgABC n) hz]
  exact rd_congr (word_sealed _ _ _ (by rw [zoneOf_field _ _ _ (mod_pgABC n)]; exact hz) (by rw [zoneOf_field _ _ _ (mod_pgABC n)]; simp))

end

/-- Settles O20: step 1 seals the completed cycle, steps 3 and 4 leave the registers of the cycle, step 5 enters the next. -/
theorem boundarySealsAndAdvances : Obligations.BoundarySealsAndAdvances := by
  intro s n b hdue hrun hact hfence hstop htake hrelease hswap
  have h : s.work.PlainBoundary n b :=
    ⟨hdue, hrun, hact, (bitOf_eq _ _).trans hfence, hstop, htake, hrelease, hswap⟩
  have hrg := rg_boundary h
  have hregs := boundary_regs h
  have hzRG : offCycle (zoneOf (pgRG n)) = false := by rw [zone_pgRG]; rfl
  have hzABC : offCycle (zoneOf (pgABC n)) = false := by rw [zone_pgABC]; rfl
  have hrdRG (f : Field) := rd_of_view hregs (pgRG n) f 0 (mod_pgRG n) hzRG
  obtain ⟨hphase, hns, hs, hcount⟩ := rd_cycleShown_rg ((s.work.sealed n b).boundaryMid n b s.work.spreadAll) n b
  refine runs_dev (f := fun w => w.boundary n) rfl ⟨?_, ?_, ?_, ?_, ?_, ?_, ?_, ?_, ?_, fun hph hov hdone => ?_, fun hnot => ?_, rfl, rfl⟩
  · exact (hrdRG _).trans hphase
  · exact congrArg Region.t0 hrg
  · exact congrArg Region.nextB hrg
  · exact (hrdRG _).trans hns
  · exact (hrdRG _).trans hs
  · exact ((hrdRG _).trans hcount).trans ((rd_boundaryMid_sealed _ _ _ _ (mod_pgRG n) hzRG _).trans (rd_sealed_count ..))
  · exact congrArg Region.fillCur hrg
  · exact congrArg Region.fillNext hrg
  · exact (rd_of_view hregs (pgABC n) _ 0 (mod_pgABC n) hzABC).trans (rd_cycleShown_abc ..).1
  · have hok : s.work.completed n = true := by
      rw [Work.completed, Bool.and_eq_true, Bool.and_eq_true]
      exact ⟨⟨beq_iff_eq.2 hph, by rw [Bool.not_eq_true']; exact hov⟩, hdone⟩
    refine ⟨fun x => ?_, fun o => ?_, ?_, ?_⟩
    · exact (word_boundary h (zone_stateWordAddr n x)).trans (by rw [hok]; exact word_sealAbacus_state s.work n x)
    · exact (word_boundary h (zone_outSlotAddr n o)).trans (by rw [hok]; exact word_sealAbacus_out s.work n o)
    · exact (rd_boundary_abc h (by decide)).trans (by rw [hok]; exact rd_sealAbacus_ovrRun ..)
    · exact (rd_boundary_abc h (by decide)).trans (by rw [hok]; exact rd_sealAbacus_slackOvr ..)
  · have hok : s.work.completed n = false := by
      rw [Work.completed]
      rcases hnot with hph | hov | hdone
      · rw [show (s.work.phase n == 3) = false from beq_eq_false_iff_ne.2 hph]; rfl
      · rw [show (s.work.rg n).overrun = true from hov]; simp
      · rw [show (s.work.rg n).tDone = none from hdone]; simp
    refine ⟨fun x => ?_, fun o => ?_, ?_⟩
    · exact (word_boundary h (zone_stateWordAddr n x)).trans (by rw [hok]; exact word_sealAbacus_dropped s.work n (zone_stateWordAddr n x))
    · exact (word_boundary h (zone_outSlotAddr n o)).trans (by rw [hok]; exact word_sealAbacus_dropped s.work n (zone_outSlotAddr n o))
    · exact (rd_boundary_abc h (by decide)).trans (by rw [hok]; exact rd_sealAbacus_slackOvr ..)

end Sys2Proof.Machine
end

section
-- One task at a time: the check bounds the memory of all of Lean's threads together.
set_option Elab.async false
set_option linter.all false

/-! PROOF. Settles the package's part of O47: the resets of the whole package (R490, R506, R507) and of the HOST page (R556). -/

namespace Sys2Proof.Machine

/-! ### The device after a package reset -/

/-- The dword of LOG_N, of which a package reset keeps the field alone. -/
def logN : Nat := pgCSTORE + CSTORE_WSTAT_LOG_N.at 0

theorem word_reset_fence : State.reset.word 0x90 = 0xF := by decide

/-- A register after a package reset: kept, or at its reset value. -/
theorem cellsGet_pkgDev (w : Work) (cause : Nat) {a : Nat} (ha : a ≠ logN) : cellsGet resetWord (w.pkgDev cause).regs a =
    if keptRegs (cause == 1) (cause == 3) a then w.word a else State.reset.word a := by
  have hregs : (w.pkgDev cause).regs = cellsPut resetWord (cellsPut resetWord
      (cellsDrop (fun a => !keptRegs (cause == 1) (cause == 3) a) w.regs) logN (w.word logN &&& CSTORE_WSTAT_LOG_N.mask)) 0x90 0xF := rfl
  rw [hregs, cellsGet_put]
  split
  · next h =>
    have hkept : ∀ p q : Bool, keptRegs p q 0x90 = false := by decide
    rw [h, hkept, word_reset_fence]
    rfl
  · next h =>
    rw [cellsGet_put_ne _ _ _ _ _ ha, cellsGet_drop, word_reset h]
    cases keptRegs (cause == 1) (cause == 3) a <;> rfl

theorem Field.get_and_mask_logN (d : Word) : CSTORE_WSTAT_LOG_N.get (d &&& CSTORE_WSTAT_LOG_N.mask) = CSTORE_WSTAT_LOG_N.get d := by
  have hmask : CSTORE_WSTAT_LOG_N.mask = 0xFF#32 := by decide
  rw [hmask]
  simp only [Field.get, CSTORE_WSTAT_LOG_N, BitVec.toNat_and, BitVec.toNat_ofNat, pow_zero, Nat.div_one]
  exact (congrArg (· % 2 ^ 8) (Nat.and_two_pow_sub_one_eq_mod d.toNat 8)).trans (Nat.mod_mod _ _)

/-- The state in which a package reset of cause `cause` finds Kindling. -/
def State.resetBase (s : State) (cause : Nat) : State := { s with tally := Tally.reset, dev := s.work.pkgDev cause }

theorem word_resetBase (s : State) (cause : Nat) {a : Nat} (ha : a ≠ logN) : (s.resetBase cause).word a =
    if keptRegs (cause == 1) (cause == 3) a then s.word a else State.reset.word a := cellsGet_pkgDev s.work cause ha

theorem rd_resetBase_logN (s : State) (cause : Nat) :
    (s.resetBase cause).rd pgCSTORE CSTORE_WSTAT_LOG_N = s.rd pgCSTORE CSTORE_WSTAT_LOG_N := by
  have hword : (s.resetBase cause).word logN = s.word logN &&& CSTORE_WSTAT_LOG_N.mask := by
    have hregs : (s.resetBase cause).dev.regs = cellsPut resetWord (cellsPut resetWord
      (cellsDrop (fun a => !keptRegs (cause == 1) (cause == 3) a) s.work.regs) logN (s.work.word logN &&& CSTORE_WSTAT_LOG_N.mask)) 0x90 0xF := rfl
    rw [show (s.resetBase cause).word logN = cellsGet resetWord (s.resetBase cause).dev.regs logN from rfl, hregs,
      cellsGet_put_ne _ _ _ _ _ (by decide), cellsGet_put_same]
    rfl
  exact (congrArg CSTORE_WSTAT_LOG_N.get hword).trans (Field.get_and_mask_logN _)

/-- What a package reset stores over, or keeps (R438, R490). -/
def ResetStored (s t : State) : Prop :=
  (s.dev.kin.retLost = false → t.dev.dram = s.dev.dram ∧ t.dev.sram = s.dev.sram) ∧
  (s.dev.kin.retLost = true → t.dev.dram = [] ∧ t.dev.sram = []) ∧ t.dev.ember = s.dev.ember ∧ t.dev.held = [] ∧
  t.rd pgCSTORE CSTORE_WSTAT_LOG_N = s.rd pgCSTORE CSTORE_WSTAT_LOG_N

section
variable {s t : State} {cause : Nat} {l : List Nat}

theorem resetStored_of_changes (h : Changes [.kin] l (s.resetBase cause) t) (hl : logN ∉ l) : ResetStored s t := by
  obtain ⟨-, hkinds, hwords⟩ := h
  have hdram : t.dev.dram = if !s.dev.kin.retLost then s.dev.dram else [] := hkinds .dram (by simp)
  have hsram : t.dev.sram = if !s.dev.kin.retLost then s.dev.sram else [] := hkinds .sram (by simp)
  refine ⟨fun h => ?_, fun h => ?_, hkinds .ember (by simp), hkinds .held (by simp), ?_⟩
  · rw [hdram, hsram, h]; exact ⟨rfl, rfl⟩
  · rw [hdram, hsram, h]; exact ⟨rfl, rfl⟩
  · exact (congrArg CSTORE_WSTAT_LOG_N.get (hwords logN hl)).trans (rd_resetBase_logN s cause)

theorem resetBut_of_changes {l' : List Nat} (h : Changes [.kin] l (s.resetBase cause) t) (hl : l ⊆ l') (hlog : logN ∈ l') :
    ResetBut (keptRegs (cause == 1) (cause == 3)) l' s t := by
  intro a ha
  obtain ⟨-, -, hwords⟩ := h
  have hne : a ≠ logN := fun e => ha (by rw [e]; exact hlog)
  rw [hwords a fun hmem => ha (hl hmem), word_resetBase s cause hne]

theorem lastOut_of_changes (h : Changes [.kin] l (s.resetBase cause) t) : LastOut .outputsReset s t := h.2.1 .out (by simp)

end

theorem Changes.trans {s t u : State} {ks : List Kind} {l : List Nat} (h : Changes ks l s t) (g : Changes ks l t u) : Changes ks l s u := by
  obtain ⟨⟨htally, hpending⟩, hkinds, hwords⟩ := h
  obtain ⟨⟨htally', hpending'⟩, hkinds', hwords'⟩ := g
  exact ⟨⟨htally'.trans htally, hpending'.trans hpending⟩, fun k hk => k.same_trans (hkinds k hk) (hkinds' k hk),
    fun a ha => (hwords' a ha).trans (hwords a ha)⟩

/-- A change of the reset machine's own state. -/
theorem Work.Alters.modKin {ks : List Kind} {l : List Nat} {w v : Work} {f : KinSt → KinSt} (h : w.Alters ks l v) (hk : .kin ∈ ks) :
    w.Alters ks l (v.modKin f) := by
  refine ⟨fun k hk' => k.same_trans (h.kinds k hk') ?_, h.words⟩
  cases k
  case kin => exact absurd hk hk'
  all_goals rfl

/-- KSTAT names the cause and the step (R490). -/
theorem pkgReset_changes (s : State) (cause step : Nat) : Changes [.kin] [kstat] (s.resetBase cause) (s.pkgReset cause step) :=
  Work.Alters.changes (s := s.resetBase cause) (f := fun w => (w.wr pgPKG PKG_KSTAT_CAUSE cause).wr pgPKG PKG_KSTAT_STEP step)
    ((Work.Alters.refl.wr (by decide)).wr (by decide))

theorem pkgReset_shows (s : State) {cause step : Nat} (hc : cause < 16) (hs : step < 16) :
    (s.pkgReset cause step).rd pgPKG PKG_KSTAT_CAUSE = cause ∧ (s.pkgReset cause step).rd pgPKG PKG_KSTAT_STEP = step := by
  constructor
  · refine (rd_wr_clear ((s.resetBase cause).work.wr pgPKG PKG_KSTAT_CAUSE cause) pgPKG (f := PKG_KSTAT_STEP) (i := 0) (by decide) step).trans ?_
    rw [rd_wr_same _ _ _ _ _ (by decide)]
    exact Nat.mod_eq_of_lt hc
  · refine (rd_wr_same ((s.resetBase cause).work.wr pgPKG PKG_KSTAT_CAUSE cause) pgPKG PKG_KSTAT_STEP step 0 (by decide)).trans ?_
    exact Nat.mod_eq_of_lt hs

theorem kindle_changes (s : State) : Changes [.kin] [pgEMB + EMB_KECNT.at 0] s (s.onDev Work.kindle) :=
  Work.Alters.changes (Work.Alters.refl.wr (by simp))

theorem kindle_shows (s : State) : (s.onDev Work.kindle).rd pgEMB EMB_KECNT = s.dev.ember.ecnt % 2 ^ 32 :=
  rd_wr_same s.work pgEMB EMB_KECNT _ 0 (by decide)

theorem Changes.mono {s t : State} {ks : List Kind} {l l' : List Nat} (h : Changes ks l s t) (hl : l ⊆ l') : Changes ks l' s t :=
  ⟨h.1, h.2.1, fun a ha => h.2.2 a fun hmem => ha (hl hmem)⟩

/-- A package reset that goes on to step 1 at once (R495). -/
theorem pkgReset_kindle_changes (s : State) (cause step : Nat) :
    Changes [.kin] [kstat, pgEMB + EMB_KECNT.at 0] (s.resetBase cause) ((s.pkgReset cause step).onDev Work.kindle) :=
  ((pkgReset_changes s cause step).mono (by simp)).trans ((kindle_changes _).mono (by simp))

theorem rd_kindle_kstat (s : State) {f : Field} (hf : pgPKG + f.at 0 = kstat) : (s.onDev Work.kindle).rd pgPKG f = s.rd pgPKG f :=
  congrArg f.get ((kindle_changes s).2.2 (pgPKG + f.at 0) (by rw [hf]; decide))

/-! ### The package resets -/

/-- PORST_N resets the part and holds it (R481). -/
theorem porstNFall_resets (s : State) : Runs .porstNFall s fun t => t.tally = Tally.reset ∧ t.dev.kin.porst = true ∧
    t.rd pgPKG PKG_KSTAT_CAUSE = 1 ∧ t.rd pgPKG PKG_KSTAT_STEP = 1 ∧ LastOut .outputsReset s t ∧ ResetStored s t ∧
    ResetBut (keptRegs true false) [kstat, logN] s t ∧ t.pending = s.pending := by
  have hheld : Changes [.kin] [kstat] (s.pkgReset 1 1) ((s.pkgReset 1 1).onDev fun w => w.modKin fun k => { k with porst := true }) :=
    Work.Alters.changes (Work.Alters.refl.modKin (by simp))
  have h := (pkgReset_changes s 1 1).trans hheld
  obtain ⟨hcause, hstep⟩ := pkgReset_shows s (cause := 1) (step := 1) (by decide) (by decide)
  exact runs_of rfl ⟨h.1.1, rfl, hcause, hstep, lastOut_of_changes h, resetStored_of_changes h (by decide),
    resetBut_of_changes (cause := 1) h (by simp) (by simp), h.1.2⟩

/-- The strap is sampled, and KECNT takes the Ember's count (R482, R495). -/
theorem porstNRise_kindles (s : State) (strap : BitVec 2) (h : s.dev.kin.porst = true) : Runs (.porstNRise strap) s fun t =>
    t.dev.kin.porst = false ∧ t.dev.kin.strap = strap.toNat ∧ t.rd pgEMB EMB_KECNT = s.dev.ember.ecnt % 2 ^ 32 ∧
    Changes [.kin] [pgEMB + EMB_KECNT.at 0] s t := by
  refine runs_dev (f := fun w => ((w.modKin fun k => { k with porst := false }).strapAt strap.toNat).kindle) (if_pos h) ⟨rfl, rfl, ?_, ?_⟩
  · exact rd_wr_same ((s.work.modKin fun k => { k with porst := false }).strapAt strap.toNat) pgEMB EMB_KECNT _ 0 (by decide)
  · exact Work.Alters.changes (((Work.Alters.refl.modKin (by simp)).modKin (by simp)).wr (by simp))

/-- The host's package reset (R490, R491). -/
theorem pkgReset_resets (s : State) (hoff : s.dev.kin.thermalOff = false) (hporst : s.dev.kin.porst = false) (hr : s.reaches rstAddr) :
    Runs .pkgReset s fun t => t.tally = Tally.reset ∧ t.rd pgPKG PKG_KSTAT_CAUSE = 2 ∧ t.rd pgPKG PKG_KSTAT_STEP = 1 ∧
      t.rd pgEMB EMB_KECNT = s.dev.ember.ecnt % 2 ^ 32 ∧ LastOut .outputsReset s t ∧ ResetStored s t ∧
      ResetBut (keptRegs false false) [kstat, logN, pgEMB + EMB_KECNT.at 0] s t ∧ t.pending = s.pending := by
  have h := pkgReset_kindle_changes s 2 1
  obtain ⟨hcause, hstep⟩ := pkgReset_shows s (cause := 2) (step := 1) (by decide) (by decide)
  have hexec : exec .pkgReset s = .next ((s.pkgReset 2 1).onDev Work.kindle) := by
    refine (if_neg (by simp [hoff, hporst])).trans (congrArg Host.Outcome.next ?_)
    exact hostAct_open hr
  exact runs_of hexec ⟨h.1.1, (rd_kindle_kstat _ (f := PKG_KSTAT_CAUSE) rfl).trans hcause, (rd_kindle_kstat _ (f := PKG_KSTAT_STEP) rfl).trans hstep,
    (kindle_shows _).trans rfl, lastOut_of_changes h, resetStored_of_changes h (by decide),
    resetBut_of_changes (cause := 2) h (by simp) (by simp), h.1.2⟩

/-- Nothing reaches the part in THERMAL_OFF or under PORST_N (R491). -/
theorem pkgReset_ignored (s : State) (h : s.dev.kin.thermalOff = true ∨ s.dev.kin.porst = true) : Runs .pkgReset s fun t => t = s :=
  runs_of (if_pos (by simpa using h)) rfl

/-- The part restarts once it has cooled (R507). -/
theorem thermalRestart_resets (s : State) (hoff : s.dev.kin.thermalOff = true)
    (hcool : ∀ i : Fin 14, s.work.goodSensor i = true → s.work.temp i < 460) : Runs .thermalRestart s fun t =>
      t.dev.kin.thermalOff = false ∧ t.rd pgPKG PKG_KSTAT_CAUSE = 3 ∧ ResetStored s t ∧
      ResetBut (keptRegs false true) [kstat, logN, pgEMB + EMB_KECNT.at 0] s t := by
  have h := pkgReset_kindle_changes s 3 2
  have hall : (s.work.goodOf (upto 14)).all (fun i => decide (s.work.temp i < 460)) = true := by
    rw [List.all_eq_true]
    intro i hi
    obtain ⟨hi, hgood⟩ := List.mem_filter.1 hi
    exact decide_eq_true (hcool ⟨i, by simpa [upto] using hi⟩ hgood)
  have hcond : (s.work.kin.thermalOff && (s.work.goodOf (upto 14)).all fun i => decide (s.work.temp i < 460)) = true := by
    rw [hall, show s.work.kin.thermalOff = true from hoff]; rfl
  have hcause := (pkgReset_shows s (cause := 3) (step := 2) (by decide) (by decide)).1
  exact runs_of (if_pos hcond) ⟨rfl, (rd_kindle_kstat _ (f := PKG_KSTAT_CAUSE) rfl).trans hcause,
    resetStored_of_changes h (by decide), resetBut_of_changes (cause := 3) h (by simp) (by simp)⟩

/-! ### THERMAL_OFF -/

theorem cellsGet_foldl_put {l : List (Nat × Word)} {r : List (Nat × Word)} {a : Nat} (h : ∀ e ∈ l, e.1 ≠ a) :
    cellsGet resetWord (l.foldl (fun r e => cellsPut resetWord r e.1 e.2) r) a = cellsGet resetWord r a := by
  induction l generalizing r with
  | nil => rfl
  | cons e l ih =>
    rw [List.foldl_cons, ih fun e' he' => h e' (List.mem_cons_of_mem _ he'),
      cellsGet_put_ne _ _ _ _ _ (Ne.symm (h e (List.mem_cons_self ..)))]

/-- The device is held in package reset, but for the Hearth and the sensors (R506). -/
theorem thermalOffEntry_resets (s : State) (h : s.dev.kin.shutdown = true) : Runs .thermalOffEntry s fun t =>
    t.tally = Tally.reset ∧ t.dev.kin.thermalOff = true ∧ t.dev.hearth = s.dev.hearth ∧ t.dev.therm = s.dev.therm ∧
    LastOut .outputsReset s t ∧ t.rd pgEMB EMB_THOFF_COUNT = min (s.rd pgEMB EMB_THOFF_COUNT + 1) EMB_THOFF_COUNT.max := by
  refine runs_of (if_pos h) ⟨rfl, rfl, rfl, rfl, rfl, ?_⟩
  refine (rd_count _ _ _ _ _ (by decide)).trans (congrArg (fun x => min (x + 1) EMB_THOFF_COUNT.max) (congrArg EMB_THOFF_COUNT.get ?_))
  refine (cellsGet_foldl_put fun e he hea => ?_).trans ((cellsGet_pkgDev s.work 3 (by decide)).trans (if_pos (by decide)))
  obtain ⟨-, hz⟩ := List.mem_filter.1 he
  rw [hea] at hz
  exact absurd hz (by decide)

/-! ### PCIE_PERST_N -/

/-- The HOST page resets with the endpoint (R556). -/
theorem pciePerstFall_resets (s : State) : Runs .pciePerstFall s fun t => t.dev.kin.perst = true ∧ t.dev.kin.link = false ∧
    ResetBut (fun a => a / 0x1000 != pgHOST / 0x1000) [] s t ∧ KindsKeptBut [.kin] s t := by
  refine runs_dev (f := fun w => (w.dropRegs fun a => a / 0x1000 == pgHOST / 0x1000).modKin fun k => { k with perst := true, link := false })
    rfl ⟨rfl, rfl, fun a _ => ?_, ⟨rfl, rfl⟩, fun k hk => ?_⟩
  · refine (cellsGet_drop resetWord (fun a => a / 0x1000 == pgHOST / 0x1000) s.dev.regs a).trans ?_
    by_cases ha : a / 0x1000 = pgHOST / 0x1000
    · have hne : a ≠ 0x90 := fun e => by rw [e] at ha; exact absurd ha (by decide)
      simp [ha, word_reset hne]
    · simp [ha]
      rfl
  · cases k
    case kin => exact absurd (List.mem_singleton.2 rfl) hk
    all_goals rfl

theorem pciePerstRise_frees (s : State) : Runs .pciePerstRise s fun t => t.dev.kin.perst = false ∧ Changes [.kin] [] s t :=
  runs_dev (f := fun w => w.modKin fun k => { k with perst := false }) rfl
    ⟨rfl, Work.Alters.changes (Work.Alters.refl.modKin (by simp))⟩

end Sys2Proof.Machine
end

section
-- One task at a time: the check bounds the memory of all of Lean's threads together.
set_option Elab.async false
set_option linter.all false

/-! SUPPORT. The configuration and the fences: what a reset of a region leaves of the RWS fields of the region windows (R75) and of
FENCE_STAT. -/

namespace Sys2Proof.Machine

/-! ### Dwords without RWS bits -/

/-- The RWS bits of a register are those that its page's table lists. -/
theorem rwsMask_table {pg o : Nat} {k : PageKind} (hp : pg % 0x1000 = 0) (hz : zoneOf pg = .page k) (ho : 0x40 ≤ o ∧ o < 0x800) :
    rwsMask (pg + o) = maskAt k o .rws := by
  obtain ⟨i, hpage⟩ := pageOf_of_zone hz
  have hpage' : pageOf (pg + o) = some (k, i) := (pageOf_add pg o hp (by omega)).trans hpage
  have hoff : (pg + o) % 0x1000 = o := by omega
  rw [rwsMask_page (windowOf_of_page hpage') hpage' (by omega) (by omega), hoff]

/-- The data windows that R184 names hold no configuration. -/
theorem rwsMask_data {n a : Nat} (h0 : rgBase n + 0x2000 ≤ a) (h1 : a < rgBase n + 0x7800) : rwsMask a = 0 := by
  have hbase : rgBase n = 0x1000000 + n % 4 * 0x400000 := rfl
  have hw : ∃ x, windowOf a = some x ∧ (∀ m, x ≠ .secActive m) ∧ x ≠ .pdirActive := by
    unfold windowOf
    rw [if_neg (by omega), if_pos (by omega)]
    dsimp only
    split_ifs
    any_goals omega
    all_goals exact ⟨_, rfl, by simp, by simp⟩
  obtain ⟨x, hx, hsec, hpdir⟩ := hw
  unfold rwsMask
  rw [hx, pageOf_of_window hx]
  split
  · next m h => exact absurd (Option.some.inj h) (hsec m)
  · next h => exact absurd (Option.some.inj h) hpdir
  · rfl

/-- A field whose bits a mask covers reads what the masked dword holds. -/
theorem Field.get_masked {f : Field} {d e m : Word} (hm : f.mask &&& m = f.mask) (h : d &&& m = e &&& m) (hfit : f.lo + f.wid ≤ 32) :
    f.get d = f.get e := by
  refine Field.get_congr f fun j h1 h2 => ?_
  have hf := f.mask_of_mem j h1 h2 hfit
  have hbit : m.getLsbD j = true := by simpa [hf] using congrArg (fun x : Word => x.getLsbD j) hm
  simpa [hbit] using congrArg (fun x : Word => x.getLsbD j) h

theorem word_dropRegs (w : Work) (p : Nat → Bool) (a : Nat) : (w.dropRegs p).word a = if p a then resetWord a else w.word a :=
  cellsGet_drop resetWord p w.regs a

/-! ### What stays configured and fenced -/

/-- The BAR0 offset of FENCE_STAT. -/
def fenceAddr : Nat := pgPKG + PKG_FENCE_STAT.at 0

/-- The RWS fields of the region windows stand, and so do the fences but those of `l`. -/
structure Work.KeepsConfig (l : List Nat) (w v : Work) : Prop where
  rws : ∀ a, 0x1000000 ≤ a → v.word a &&& rwsMask a = w.word a &&& rwsMask a
  fences : ∀ k, k ∉ l → (v.rd pgPKG PKG_FENCE_STAT).testBit k = (w.rd pgPKG PKG_FENCE_STAT).testBit k

/-- Every zone but the region windows and the package page. -/
def offConfig : Zone → Bool := fun z =>
  !decide (z ∈ [.window, .page .pkg, .page .rg, .page .abc, .page .sp, .page .clu, .page .clane, .page .unit])

theorem offConfig_region {a : Nat} (h : 0x1000000 ≤ a) : offConfig (zoneOf a) = false := by
  have hin := zone_high (Z := fun z => !offConfig z) a h rfl rfl rfl rfl rfl rfl rfl
  simpa using hin

/-- The enabled lanes of region `n` enter ACQUIRE, and its clusters show their lanes (R492). -/
def Work.lanesStart (w : Work) (n : Nat) : Work :=
  (w.each ((List.finRange 48).filter fun c => c.val / 12 == n) fun w c => w.when (w.cellEn c.val) fun w => w.acquire (.cell c)).each
    (clustersOf n) Work.laneShow

theorem unfenceRegion_eq (w : Work) (n : Nat) : w.unfenceRegion n = (w.fence n false).lanesStart n := rfl

namespace Work.KeepsConfig

variable {l : List Nat} {w v u : Work}

theorem refl (w : Work) : w.KeepsConfig l w := ⟨fun _ _ => rfl, fun _ _ => rfl⟩

theorem trans (h : w.KeepsConfig l v) (g : v.KeepsConfig l u) : w.KeepsConfig l u :=
  ⟨fun a ha => (g.rws a ha).trans (h.rws a ha), fun k hk => (g.fences k hk).trans (h.fences k hk)⟩

theorem mono {l' : List Nat} (h : w.KeepsConfig l v) (hl : l ⊆ l') : w.KeepsConfig l' v :=
  ⟨h.rws, fun k hk => h.fences k fun hmem => hk (hl hmem)⟩

/-- An operation on other pages and on other kinds of state. -/
theorem other (h : w.KeepsConfig l v) (hview : view allKinds offConfig u = view allKinds offConfig v) : w.KeepsConfig l u :=
  h.trans ⟨fun a ha => by rw [word_of_view hview a (offConfig_region ha)],
    fun k _ => by rw [rd_of_view hview pgPKG _ 0 mod_pgPKG (by rw [zone_pgPKG]; rfl)]⟩

/-- A dword that keeps its RWS bits. -/
theorem put (h : w.KeepsConfig l v) {a : Nat} {d : Word} (ha : a ≠ fenceAddr) (hd : d &&& rwsMask a = v.word a &&& rwsMask a) :
    w.KeepsConfig l (v.put a d) := by
  refine h.trans ⟨fun b _ => ?_, fun k _ => congrArg (Nat.testBit · k) (rd_congr (word_put_ne _ _ _ _ (Ne.symm ha)))⟩
  rw [word_put]
  split
  · next hb => rw [hb, hd]
  · rfl

/-- A dword without RWS bits. -/
theorem put_plain (h : w.KeepsConfig l v) {a : Nat} {d : Word} (ha : a ≠ fenceAddr) (hm : rwsMask a = 0) : w.KeepsConfig l (v.put a d) :=
  h.put ha (by simp [hm])

/-- A register of a region's page without RWS bits. -/
theorem putPage (h : w.KeepsConfig l v) {pg o : Nat} {d : Word} {k : PageKind} (hp : pg % 0x1000 = 0) (hz : zoneOf pg = .page k)
    (hk : k ≠ .pkg) (ho : 0x40 ≤ o ∧ o < 0x800) (hm : maskAt k o .rws = 0) : w.KeepsConfig l (v.put (pg + o) d) := by
  have hzone : zoneOf (pg + o) = .page k := by rw [zoneOf_add _ _ hp (by omega), hz]
  refine h.put_plain (fun e => hk ?_) ((rwsMask_table hp hz ho).trans hm)
  have hfence : zoneOf fenceAddr = .page .pkg := by decide
  rw [e, hfence] at hzone
  exact (Zone.page.inj hzone).symm

theorem wr (h : w.KeepsConfig l v) {pg : Nat} {f : Field} {x i : Nat} {k : PageKind} (hp : pg % 0x1000 = 0) (hz : zoneOf pg = .page k)
    (hk : k ≠ .pkg) (hf : (0x40 ≤ f.at i ∧ f.at i < 0x800) ∧ maskAt k (f.at i) .rws = 0) : w.KeepsConfig l (v.wr pg f x i) :=
  h.putPage hp hz hk hf.1 hf.2

/-- A register of the package page but FENCE_STAT. -/
theorem wrPkg (h : w.KeepsConfig l v) {f : Field} {x i : Nat} (hf : f.at i ≠ PKG_FENCE_STAT.at 0) : w.KeepsConfig l (v.wr pgPKG f x i) := by
  have hne : pgPKG + f.at i ≠ fenceAddr := fun e => hf (by unfold fenceAddr at e; omega)
  refine h.trans ⟨fun a ha => ?_, fun k _ => congrArg (Nat.testBit · k) (rd_congr (word_wr_ne _ _ _ _ _ _ (Ne.symm hne)))⟩
  have hlt := f.at_lt i
  have hpkg : pgPKG = 0 := rfl
  rw [word_wr_ne _ _ _ _ _ _ (by omega)]

/-- A fence of `l`. -/
theorem fence (h : w.KeepsConfig l v) {n : Nat} {up : Bool} (hn : n ∈ l) (hlt : n < 8) : w.KeepsConfig l (v.fence n up) := by
  refine h.trans ⟨fun a ha => ?_, fun k hk => ?_⟩
  · have hpkg : pgPKG + PKG_FENCE_STAT.at 0 = 0x90 := rfl
    rw [Work.fence, word_putBit_ne _ _ _ _ _ _ _ (by omega)]
  · have hkn : k ≠ n := fun e => hk (by rw [e]; exact hn)
    cases up
    · exact (testBit_clrBit _ _ _ _ _ _ (by decide)).trans (by simp [hkn])
    · exact (testBit_setBit _ _ _ _ _ _ (by decide) hlt).trans (by simp [hkn])

theorem ite (c : Prop) [Decidable c] (h1 : w.KeepsConfig l v) (h2 : w.KeepsConfig l u) : w.KeepsConfig l (if c then v else u) := by
  split
  · exact h1
  · exact h2

theorem when (h : w.KeepsConfig l v) {c : Bool} {g : Work → Work} (hg : ∀ x, Work.KeepsConfig l x (g x)) : w.KeepsConfig l (v.when c g) := by
  unfold Work.when
  split
  · exact h.trans (hg v)
  · exact h

theorem each {α : Type} (h : w.KeepsConfig l v) {xs : List α} {g : Work → α → Work} (hg : ∀ (x : Work), ∀ a ∈ xs, x.KeepsConfig l (g x a)) :
    w.KeepsConfig l (v.each xs g) :=
  h.trans (each_relates refl trans hg v)

/-- An RWS field of a region's page reads the same. -/
theorem rd (h : w.KeepsConfig l v) {pg : Nat} {f : Field} {i : Nat} (ha : 0x1000000 ≤ pg) (hm : f.mask &&& rwsMask (pg + f.at i) = f.mask)
    (hfit : f.lo + f.wid ≤ 32) : v.rd pg f i = w.rd pg f i := Field.get_masked hm (h.rws _ (by omega)) hfit

/-! ### The operations of a reset -/

theorem zeroSlots (h : w.KeepsConfig l v) (n : Nat) : w.KeepsConfig l (v.zeroSlots n) := by
  refine other (h.trans ⟨fun a _ => ?_, fun k _ => congrArg (Nat.testBit · k) (rd_congr ?_)⟩) (view_modRg _ _ _ rfl)
  · rw [word_dropRegs]
    split
    · next hp =>
      rw [Bool.and_eq_true, decide_eq_true_eq, decide_eq_true_eq] at hp
      simp [rwsMask_data hp.1 hp.2]
    · rfl
  · have hbase : rgBase n = 0x1000000 + n % 4 * 0x400000 := rfl
    have hfence : pgPKG + PKG_FENCE_STAT.at 0 = 0x90 := rfl
    rw [word_dropRegs, if_neg]
    simp only [Bool.and_eq_true, decide_eq_true_eq]
    omega

theorem wrClane (h : w.KeepsConfig l v) {c : Nat} {f : Field} {x : Nat} (hf : (0x40 ≤ f.at 0 ∧ f.at 0 < 0x800) ∧ maskAt .clane (f.at 0) .rws = 0) :
    w.KeepsConfig l (v.wr (pgCLANE c) f x) := h.wr (mod_pgCLANE c) (zone_pgCLANE c) (by decide) hf

theorem wrClu (h : w.KeepsConfig l v) {c : Nat} {f : Field} {x : Nat} (hf : (0x40 ≤ f.at 0 ∧ f.at 0 < 0x800) ∧ maskAt .clu (f.at 0) .rws = 0) :
    w.KeepsConfig l (v.wr (pgCLU c) f x) := h.wr (mod_pgCLU c) (zone_pgCLU c) (by decide) hf

theorem wrSp (h : w.KeepsConfig l v) {n q i : Nat} {f : Field} {x : Nat}
    (hf : ∀ j : Fin 16, (0x40 ≤ f.at j ∧ f.at j < 0x800) ∧ maskAt .sp (f.at j) .rws = 0) : w.KeepsConfig l (v.wr (pgSP n q) f x (i % 16)) :=
  h.wr (mod_pgSP ..) (zone_pgSP ..) (by decide) (hf ⟨i % 16, by omega⟩)

theorem laneShow (h : w.KeepsConfig l v) (c : Nat) : w.KeepsConfig l (v.laneShow c) := by
  have hup : w.KeepsConfig l (v.cstat (v.owner c) CLU_CSTAT_LANE_UP (b2n (v.laneUp (v.owner c)))) :=
    h.each fun x c _ => (refl x).wrClu (by decide)
  exact ite _ (hup.wrClu (by decide)) hup

theorem ceForget (h : w.KeepsConfig l v) (c : Nat) : w.KeepsConfig l (v.ceForget c) := by
  have hfields : ∀ f ∈ [CLANE_CE_STAT_MODE, CLANE_CE_STAT_FOLLOW, CLANE_CE_STAT_FOLLOWS_US, CLANE_CE_STAT_CONFLICT, CLANE_CE_STAT_CFG_OK,
    CLANE_CE_STAT_CNAK, CLANE_CE_STAT_CACK, CLANE_CE_STAT_FPKG], (0x40 ≤ f.at 0 ∧ f.at 0 < 0x800) ∧ maskAt .clane (f.at 0) .rws = 0 := by decide
  have hwords : ∀ o ∈ [CLANE_CE_EPOCH.off, CLANE_CE_TEMP_TCAP.off, CLANE_CE_HEALTH.off, CLANE_CE_ST_ST_SEQ.off, CLANE_CE_CNT0_BADFR.off,
    CLANE_CE_CNT1_ILK.off, CLANE_CE_CNT2_IGNORED.off, CLANE_CE_CAP_VER.off], (0x40 ≤ o ∧ o < 0x800) ∧ maskAt .clane o .rws = 0 := by decide
  exact (h.each fun x f hf => (refl x).wrClane (hfields f hf)).each fun x o ho =>
    (refl x).putPage (mod_pgCLANE c) (zone_pgCLANE c) (by decide) (hwords o ho).1 (hwords o ho).2

theorem laneSet (h : w.KeepsConfig l v) (c : Fin 48) (st : Nat) : w.KeepsConfig l (v.laneSet (.cell c) st) := by
  have hset : w.KeepsConfig l (v.wr (pgCLANE c) CLANE_LSTAT_STATE st) := h.wrClane (by decide)
  exact hset.other (view_laneEvent _ _ _ _ rfl)

theorem acquire (h : w.KeepsConfig l v) (c : Fin 48) : w.KeepsConfig l (v.acquire (.cell c)) := by
  have hset := h.laneSet c 1
  have haligned := hset.wrClane (c := c) (f := CLANE_LSTAT_ALIGNED) (x := 0) (by decide)
  have heq : w.KeepsConfig l (((v.laneSet (.cell c) 1).wr (pgCLANE c) CLANE_LSTAT_ALIGNED 0).eqLoad (.cell c)) :=
    (((haligned.wrClane (f := CLANE_EQ_CTLE) (by decide)).wrClane (f := CLANE_EQ_DFE1) (by decide)).wrClane
      (f := CLANE_EQ_DFE2) (by decide)).wrClane (f := CLANE_EQ_DFE3) (by decide)
  refine wrClane (ceForget (other ?_ (view_modLn _ _ _ rfl)) c) (by decide)
  exact (heq.other (view_modHearth _ _ rfl)).when fun x => (refl x).other (view_when _ _ _ fun y => view_modLn _ _ _ rfl)

theorem lanesStart (h : w.KeepsConfig l v) (n : Nat) : w.KeepsConfig l (v.lanesStart n) :=
  (h.each fun x c _ => (refl x).when fun y => (refl y).acquire c).each fun x c _ => (refl x).laneShow c

theorem unfenceRegion (h : w.KeepsConfig l v) {n : Nat} (hn : n ∈ l) (hlt : n < 8) : w.KeepsConfig l (v.unfenceRegion n) :=
  (h.fence hn hlt).lanesStart n

theorem bistAbort (h : w.KeepsConfig l v) {n : Nat} (zero : Bool) (hn : n ∈ l) (hlt : n < 8) : w.KeepsConfig l (v.bistAbort n zero) := by
  have hrejoin (x : Work) : x.KeepsConfig l (x.rejoin n) :=
    ((refl x).unfenceRegion hn hlt).when fun y => (refl y).other (view_awaitGrid _ _ rfl rfl rfl rfl)
  have hverdict := h.other (view_bistVerdict v n 3 rfl rfl)
  exact ite _ ((hverdict.when fun x => (refl x).zeroSlots n).when hrejoin) h

theorem spDrop (h : w.KeepsConfig l v) (n : Nat) : w.KeepsConfig l (v.spDrop n) :=
  (h.each fun x e _ => (refl x).wrSp (by decide)).other (view_modRg _ _ _ rfl)

theorem leaveCycle (h : w.KeepsConfig l v) (n : Nat) : w.KeepsConfig l (v.leaveCycle n) := by
  have hphase := (h.spDrop n).wr (pg := pgRG n) (f := RG_CYC_STAT_PHASE) (x := 0) (i := 0) (mod_pgRG n) (zone_pgRG n) (by decide) (by decide)
  have hdone := hphase.wr (pg := pgABC n) (f := ABC_RSTAT_DONE) (x := 0) (i := 0) (mod_pgABC n) (zone_pgABC n) (by decide) (by decide)
  exact (hdone.other (view_dropPlans _ _ rfl rfl)).other (view_modRg _ _ _ rfl)

theorem fenceRegion (h : w.KeepsConfig l v) {n : Nat} (hn : n ∈ l) (hlt : n < 8) : w.KeepsConfig l (v.fenceRegion n) := by
  have hleave := (h.fence (up := true) hn hlt).leaveCycle n
  have htwin := ((hleave.other (view_adcDropRegion _ n rfl rfl)).other (view_recFenced _ n rfl)).other (view_twinRestart _ n rfl)
  exact htwin.each fun x c _ => (refl x).other (view_modLn _ _ _ rfl)

theorem regionRegs (h : w.KeepsConfig l v) (n : Nat) : w.KeepsConfig l (v.regionRegs n) := by
  refine (h.each fun x a ha => (refl x).put ?_ ?_).other (view_dropLatched _ _ rfl)
  · have hin := (List.mem_filter.1 ha).2
    have hbase : rgBase n = 0x1000000 + n % 4 * 0x400000 := rfl
    have hfence : fenceAddr = 0x90 := rfl
    rw [inRegion, Bool.and_eq_true, decide_eq_true_eq, decide_eq_true_eq] at hin
    omega
  · ext j hj
    simp only [BitVec.getElem_and, BitVec.getElem_or, BitVec.getElem_not]
    cases (rwsMask a)[j] <;> simp

theorem spInit (h : w.KeepsConfig l v) (n q : Nat) : w.KeepsConfig l (v.spInit n q) := by
  have hmod (g : SpGen → SpGen) : w.KeepsConfig l (v.modSp n q g) := h.other (view_modRg _ _ _ rfl)
  refine ite _ ?_ ?_
  · exact (((hmod _).wrSp (by decide)).wrSp (by decide)).wrSp (by decide)
  · exact (((hmod _).wrSp (by decide)).wrSp (by decide)).wrSp (by decide)

theorem lpInit (h : w.KeepsConfig l v) (n m : Nat) : w.KeepsConfig l (v.lpInit n m) :=
  (h.other (view_modRg v n _ rfl)).wrSp (by decide)

theorem chopSet (h : w.KeepsConfig l v) {n : Nat} (hn : n < 8) (on : Bool) : w.KeepsConfig l (v.chopSet n on) := by
  have hat : ∀ j : Fin 8, PKG_CHOP_STAT_ON.at j ≠ PKG_FENCE_STAT.at 0 := by decide
  exact ite _ h ((h.wrPkg (hat ⟨n, hn⟩)).other (view_emit _ _ rfl))

theorem chopEval (h : w.KeepsConfig l v) {n : Nat} (hn : n < 8) (retry : Bool) : w.KeepsConfig l (v.chopEval n retry) := by
  have hat : ∀ j : Fin 8, PKG_CHOP_STAT_HELD.at j ≠ PKG_FENCE_STAT.at 0 := by decide
  have hheld (x : Nat) : w.KeepsConfig l (v.wr pgPKG PKG_CHOP_STAT_HELD x n) := h.wrPkg (hat ⟨n, hn⟩)
  exact ite _ ((hheld _).chopSet hn _) (ite _ ((hheld _).chopSet hn _) (ite _ ((hheld _).chopSet hn _) (hheld _)))

theorem chopHearth (h : w.KeepsConfig l v) : w.KeepsConfig l v.chopHearth := by
  have hat : ∀ j : Fin 8, PKG_CHOP_STAT_HRT_CTL.at j ≠ PKG_FENCE_STAT.at 0 := by decide
  refine h.each fun x n hn => ?_
  have hn : n < 8 := List.mem_range.1 hn
  have hctl (y : Nat) (g : ChopSt → ChopSt) : x.KeepsConfig l ((x.wr pgPKG PKG_CHOP_STAT_HRT_CTL y n).modChop n g) :=
    ((refl x).wrPkg (hat ⟨n, hn⟩)).other (view_modChop _ _ _ rfl)
  exact ite _ ((hctl _ _).chopEval hn _) (hctl _ _)

theorem hearthShow (h : w.KeepsConfig l v) : w.KeepsConfig l v.hearthShow := by
  have hpins (x : Work) (g : HearthSt → HearthSt) (c : Bool) (a b : Bool) :
      x.KeepsConfig l (if c then x else (x.pinTo "ALIVE" a b).modHearth g) :=
    ite _ (refl x) (((refl x).other (view_pinTo _ _ _ _ rfl)).other (view_modHearth _ _ rfl))
  have hwr {x y : Work} (hx : x.KeepsConfig l y) (f : Field) (d : Nat) : x.KeepsConfig l (y.wr pgHRT f d) :=
    hx.other (view_wr _ _ _ _ _ mod_pgHRT (by rw [zone_pgHRT]; rfl))
  refine other (chopHearth (each (other (hwr (hwr (hwr (hwr (hwr (hwr ((other h (view_pinTo _ _ _ _ rfl)).trans (hpins _ _ _ _ _)) _ _) _ _) _ _) _ _) _ _) _ _)
    (view_wr _ _ _ _ _ mod_pgHRT1 (by rw [zone_pgHRT1]; rfl))) fun x c _ => ?_)) (view_tripShow _ rfl rfl rfl rfl rfl rfl)
  exact (refl x).other (view_modLn _ _ _ rfl)

end Work.KeepsConfig

end Sys2Proof.Machine
end

section
-- One task at a time: the check bounds the memory of all of Lean's threads together.
set_option Elab.async false
set_option linter.all false

/-! PROOF. Settles the regions' part of O47: region and die resets (R15, R16, R75, R107, R492, R509). -/

namespace Sys2Proof.Machine

/-! ### The reset machine's state -/

theorem kin_of_view {K : Kind → Bool} {Z : Zone → Bool} {w v : Work} (h : view K Z v = view K Z w) (hk : K .kin = false) : v.kin = w.kin :=
  same_of_view h .kin hk

theorem shadow_of_view {K : Kind → Bool} {Z : Zone → Bool} {w v : Work} (h : view K Z v = view K Z w) (hk : K .shadow = false) :
    v.shadow = w.shadow := same_of_view h .shadow hk

theorem kin_modKin (w : Work) (f : KinSt → KinSt) : (w.modKin f).kin = f w.kin := rfl

theorem State.kin_onDev (s : State) (f : Work → Work) : (s.onDev f).dev.kin = (f s.work).kin := rfl

theorem timeKept_onDev (s : State) (f : Work → Work) : TimeKept s (s.onDev f) := ⟨rfl, rfl⟩

theorem Region.run_timing (r : Region) : r.timing.run = r.run := rfl

theorem each_singleton {α : Type} (w : Work) (a : α) (f : Work → α → Work) : w.each [a] f = f w a := rfl

/-! ### The parts of a region reset -/

/-- The device once the registers and the data of region `n` are at their reset state. -/
def Work.resetRegs (w : Work) (n : Nat) : Work := (((w.bistAbort n true).fenceRegion n).regionRegs n).zeroSlots n

/-- The records of region `n` blank, but for its role. -/
def Work.resetRecord (w : Work) (n : Nat) : Work := w.modRg n fun _ => { (default : Region) with standby := w.role == 1 }

/-- The clusters, lanes and units of region `n` blank, but for the claim's time. -/
def Work.resetClusters (w : Work) (n : Nat) : Work :=
  w.each (clustersOf n) fun w c =>
    ((w.modCl c fun _ => default).modLn c fun l => { (default : Lane) with claimAt := l.claimAt }).each (unitsOf c) fun w u =>
      w.modUn u fun _ => .reset

/-- The device once everything of region `n` is at its reset state. -/
def Work.resetCleared (w : Work) (n : Nat) : Work :=
  (((w.resetRegs n).modKin fun k => { k with resets := k.resets ||| 2 ^ n }).resetRecord n).resetClusters n

/-- The clusters of `l` show BYPASS again, and their element as `closed` says (R254). -/
def Work.bypassShown (w : Work) (l : List Nat) (closed : Nat → Nat) : Work :=
  w.each (l.map fun c => (c, closed c)) fun w e => (w.wr (pgCLU e.1) CLU_CSTAT_STATE 4).wr (pgCLU e.1) CLU_CSTAT_BYPASSED e.2

/-- The clusters of region `n` in BYPASS. -/
def Work.inBypass (w : Work) (n : Nat) : List Nat := (clustersOf n).filter fun c => w.cstate c == 4

/-- The set-points and loops start again. -/
def Work.spRestart (w : Work) (n : Nat) : Work := w.each (upto 64) fun w q => (w.spInit n q).lpInit n q

/-- The device before the fence and the Hearth show the reset. -/
def Work.resetMade (w : Work) (n : Nat) : Work :=
  ((w.resetCleared n).bypassShown (w.inBypass n) fun c => w.rd (pgCLU c) CLU_CSTAT_BYPASSED).spRestart n

theorem regionResetStart_eq (w : Work) (n : Nat) :
    w.regionResetStart n = (((w.resetMade n).fence n true).twinRestart n).hearthShow := rfl

/-! ### What a reset leaves -/

section
variable {K : Kind → Bool} {Z : Zone → Bool}

theorem view_resetClusters (w : Work) (n : Nat) (hclu : K .clu = true) (hlane : K .lane = true) (hunit : K .unit = true) :
    view K Z (w.resetClusters n) = view K Z w :=
  view_each _ _ _ fun x c => by
    rw [view_each _ _ _ fun y u => view_modUn y u _ hunit, view_modLn _ _ _ hlane, view_modCl _ _ _ hclu]

theorem view_spRestart (w : Work) (n : Nat) (hrgn : K .rgn = true) (zsp : Z (.page .sp) = true) :
    view K Z (w.spRestart n) = view K Z w :=
  view_each _ _ _ fun _ _ => (view_lpInit _ _ _ hrgn zsp).trans (view_spInit _ _ _ hrgn zsp)

theorem view_bypassShown (w : Work) (l : List Nat) (closed : Nat → Nat) (zclu : Z (.page .clu) = true) :
    view K Z (w.bypassShown l closed) = view K Z w :=
  view_each _ _ _ fun _ _ => (view_wr _ _ _ _ _ (mod_pgCLU _) (by rwa [zone_pgCLU])).trans (view_wr _ _ _ _ _ (mod_pgCLU _) (by rwa [zone_pgCLU]))

/-- Once the clusters are shown, only the set-points, the fence, the twin and the Hearth follow. -/
theorem view_resetEnd (w : Work) (n : Nat) (hchop : K .chop = true) (hflue : K .flue = true) (hhearth : K .hearth = true)
    (hlane : K .lane = true) (hlines : K .lines = true) (hnet : K .net = true) (hout : K .out = true) (hsl : K .sl = true)
    (htwin : K .twin = true) (hrgn : K .rgn = true) (zhrt : Z (.page .hrt) = true) (zhrt1 : Z (.page .hrt1) = true)
    (zpkg : Z (.page .pkg) = true) (zsysn : Z (.page .sysn) = true) (zsp : Z (.page .sp) = true) : view K Z (w.regionResetStart n) =
      view K Z ((w.resetCleared n).bypassShown (w.inBypass n) fun c => w.rd (pgCLU c) CLU_CSTAT_BYPASSED) := by
  rw [regionResetStart_eq, view_hearthShow _ hchop hflue hhearth hlane hlines hnet hout hsl zhrt zhrt1 zpkg zsysn,
    view_twinRestart _ _ htwin, view_fence _ _ _ zpkg, Work.resetMade, view_spRestart _ _ hrgn zsp]

end

namespace Work.KeepsConfig

variable {l : List Nat} {w v : Work} {n : Nat}

theorem resetMade (h : w.KeepsConfig l v) (hn : n ∈ l) (hlt : n < 8) : w.KeepsConfig l (v.resetMade n) := by
  have hregs : w.KeepsConfig l (v.resetRegs n) := (((h.bistAbort true hn hlt).fenceRegion hn hlt).regionRegs n).zeroSlots n
  have hcleared : w.KeepsConfig l (v.resetCleared n) :=
    ((hregs.other (view_modKin _ _ rfl)).other (view_modRg _ _ _ rfl)).other (view_resetClusters _ n rfl rfl rfl)
  have hbypass := hcleared.each (xs := (v.inBypass n).map fun c => (c, v.rd (pgCLU c) CLU_CSTAT_BYPASSED))
    (g := fun w e => (w.wr (pgCLU e.1) CLU_CSTAT_STATE 4).wr (pgCLU e.1) CLU_CSTAT_BYPASSED e.2)
    fun x e _ => ((refl x).wrClu (by decide)).wrClu (by decide)
  exact hbypass.each fun x q _ => ((refl x).spInit n q).lpInit n q

theorem regionResetStart (h : w.KeepsConfig l v) (hn : n ∈ l) (hlt : n < 8) : w.KeepsConfig l (v.regionResetStart n) :=
  (((h.resetMade hn hlt).fence hn hlt).other (view_twinRestart _ _ rfl)).hearthShow

end Work.KeepsConfig

theorem testBit_fence_up (w : Work) {n : Nat} (hlt : n < 8) : ((w.fence n true).rd pgPKG PKG_FENCE_STAT).testBit n = true :=
  (testBit_setBit _ _ _ _ _ _ (by decide) hlt).trans (by simp)

/-- The fence stands raised once the reset has started. -/
theorem fence_regionResetStart (w : Work) {n : Nat} (hlt : n < 8) :
    ((w.regionResetStart n).rd pgPKG PKG_FENCE_STAT).testBit n = true := by
  have hshow : Work.KeepsConfig [] ((w.resetMade n).fence n true) (w.regionResetStart n) :=
    ((Work.KeepsConfig.refl _).other (view_twinRestart _ n rfl)).hearthShow
  rw [hshow.fences n (by simp)]
  exact testBit_fence_up _ hlt

/-- The reset runs; nothing else of the reset machine changes. -/
theorem kin_regionResetStart (w : Work) (n : Nat) :
    (w.regionResetStart n).kin = { w.kin with resets := w.kin.resets ||| 2 ^ n } := by
  let K : Kind → Bool := fun k => decide (k ≠ .kin)
  have hregs : view K allZones (w.resetRegs n) = view K allZones w := by
    rw [Work.resetRegs, view_zeroSlots _ _ rfl rfl, view_regionRegs _ _ rfl rfl rfl rfl rfl rfl rfl rfl,
      view_fenceRegion _ _ rfl rfl rfl rfl rfl rfl rfl rfl rfl rfl rfl]
    exact view_bistAbort _ _ _ rfl rfl rfl rfl rfl rfl rfl rfl rfl rfl rfl rfl rfl rfl
  have hcleared : view K allZones (w.resetCleared n) =
      view K allZones ((w.resetRegs n).modKin fun k => { k with resets := k.resets ||| 2 ^ n }) := by
    rw [Work.resetCleared, view_resetClusters _ _ rfl rfl rfl]
    exact view_modRg _ _ _ rfl
  have hend : view K allZones (w.regionResetStart n) = view K allZones (w.resetCleared n) :=
    (view_resetEnd _ _ rfl rfl rfl rfl rfl rfl rfl rfl rfl rfl rfl rfl rfl rfl rfl).trans (view_bypassShown _ _ _ rfl)
  rw [kin_of_view (hend.trans hcleared) rfl, kin_modKin, kin_of_view hregs rfl]

theorem shadow_regionResetStart (w : Work) (n : Nat) : (w.regionResetStart n).shadow = w.shadow := by
  let K : Kind → Bool := fun k => decide (k ≠ .shadow)
  have hview : view K allZones (w.regionResetStart n) = view K allZones w :=
    view_regionResetStart _ _ rfl rfl rfl rfl rfl rfl rfl rfl rfl rfl rfl rfl rfl rfl rfl rfl rfl rfl rfl rfl rfl rfl rfl rfl rfl rfl rfl rfl rfl rfl rfl
  exact shadow_of_view hview rfl

/-! #### The region's record -/

theorem Work.SameTiming.spRestart {w v : Work} (h : w.SameTiming v) (n : Nat) : w.SameTiming (v.spRestart n) := by
  refine h.each fun x q => ?_
  have hmod (g : SpGen → SpGen) : x.SameTiming (x.modSp n q g) := (Work.SameTiming.refl x).modRg fun _ => rfl
  have hsp : x.SameTiming (x.spInit n q) := .ite _ (hmod _).chWr.chWr.chWr (hmod _).chWr.chWr.chWr
  refine Work.SameTiming.lpWr (hsp.modRg ?_)
  exact fun _ => rfl

/-- A region under reset runs no cycle. -/
theorem run_regionResetStart (w : Work) (n : Fin 4) : ((w.regionResetStart n).rg n).run = false := by
  obtain ⟨v, hv⟩ : ∃ v, v = (w.resetRegs n).modKin fun k => { k with resets := k.resets ||| 2 ^ n.val } := ⟨_, rfl⟩
  have hcleared : (v.resetRecord n).SameTiming (w.resetCleared n) := by
    rw [Work.resetCleared, ← hv]
    exact (Work.SameTiming.refl _).other (view_resetClusters _ _ rfl rfl rfl)
  have hbypass := hcleared.other (view_bypassShown (w.resetCleared n) (w.inBypass n) (fun c => w.rd (pgCLU c) CLU_CSTAT_BYPASSED) rfl)
  have hmade : (v.resetRecord n).SameTiming (w.regionResetStart n) := (hbypass.spRestart n).other <| by
    rw [regionResetStart_eq, view_hearthShow _ rfl rfl rfl rfl rfl rfl rfl rfl rfl rfl rfl rfl, view_twinRestart _ _ rfl, view_fence _ _ _ rfl,
      Work.resetMade]
  have hrec : ((v.resetRecord n).rg n).run = false := by rw [Work.resetRecord, rg_modRg_same]; rfl
  rw [← Region.run_timing, hmade.timing n, Region.run_timing, hrec]

/-! #### The region's registers -/

/-- The registers without RWS fields, listed or not, return to their reset values. -/
theorem word_each_reset (w : Work) (l : List Nat) {a : Nat} (hm : rwsMask a = 0) :
    (w.each l fun w a => w.put a ((resetWord a &&& ~~~(rwsMask a)) ||| (w.word a &&& rwsMask a))).word a =
      if a ∈ l then resetWord a else w.word a := by
  unfold Work.each
  induction l generalizing w with
  | nil => rfl
  | cons b l ih =>
    rw [List.foldl_cons, ih, word_put]
    by_cases hb : a = b
    · subst hb
      have hmerge (d e : Word) : d &&& ~~~(0#32) ||| e &&& 0#32 = d := by
        rw [BitVec.not_zero, BitVec.and_allOnes, BitVec.and_zero, BitVec.or_zero]
      simp only [if_true, show rwsMask a = 0#32 from hm, hmerge, List.mem_cons, true_or, ite_self]
    · simp [hb]

theorem word_regionRegs (w : Work) {n a : Nat} (hin : inRegion n a = true) (hm : rwsMask a = 0) : (w.regionRegs n).word a = resetWord a := by
  have hdrop (v : Work) : (v.dropLatched (inRegion n)).word a = v.word a := rfl
  rw [Work.regionRegs, hdrop, word_each_reset _ _ hm]
  split
  · rfl
  · next h =>
    refine cellsGet_unlisted resetWord a w.regs fun hmem => h (List.mem_filter.2 ⟨hmem, hin⟩)

/-- A register of the region's pages, but its configuration, is at its reset value. -/
theorem rd_resetCleared (w : Work) {n pg : Nat} {f : Field} {k : PageKind} (hp : pg % 0x1000 = 0) (hz : zoneOf pg = .page k)
    (hk : k ≠ .hrt1) (hin : inRegion n (pg + f.at 0) = true) (hf : (0x40 ≤ f.at 0 ∧ f.at 0 < 0x800) ∧ maskAt k (f.at 0) .rws = 0) :
    (w.resetCleared n).rd pg f = f.get (tableWord k (f.at 0)) := by
  let Z : Zone → Bool := fun z => decide (z = .window)
  have hview : view allKinds Z (w.resetCleared n) = view allKinds Z (((w.bistAbort n true).fenceRegion n).regionRegs n) := by
    rw [Work.resetCleared, view_resetClusters _ _ rfl rfl rfl, Work.resetRecord, view_modRg _ _ _ rfl, view_modKin _ _ rfl, Work.resetRegs,
      view_zeroSlots _ _ rfl rfl]
  rw [rd_of_view hview _ f 0 hp (by rw [hz]; rfl)]
  exact congrArg f.get ((word_regionRegs _ hin ((rwsMask_table hp hz hf.1).trans hf.2)).trans
    (resetWord_table hz hp hk hf.1.1 (f.at_lt 0)))

theorem rd_wr_otherCluster (w : Work) {c d : Nat} (f g : Field) (x : Nat) (hc : c < 48) (hd : d < 48) (h : c ≠ d) :
    (w.wr (pgCLU d) f x).rd (pgCLU c) g = w.rd (pgCLU c) g := by
  refine rd_wr_ne _ _ _ _ _ _ _ _ ?_
  have hf := f.at_lt 0
  have hg := g.at_lt 0
  simp only [pgCLU, rgBase]
  omega

/-- A cluster of the list shows BYPASS and its element; the others stand. -/
theorem rd_bypassShown (w : Work) {l : List Nat} {closed : Nat → Nat} {c : Nat} (hc : c < 48)
    (hl : ∀ d ∈ l, d < 48 ∧ closed d < 2 ^ CLU_CSTAT_BYPASSED.wid) :
    (c ∈ l → (w.bypassShown l closed).rd (pgCLU c) CLU_CSTAT_STATE = 4 ∧ (w.bypassShown l closed).rd (pgCLU c) CLU_CSTAT_BYPASSED = closed c) ∧
    (c ∉ l → ∀ f : Field, (w.bypassShown l closed).rd (pgCLU c) f = w.rd (pgCLU c) f) := by
  unfold Work.bypassShown Work.each
  induction l generalizing w with
  | nil => exact ⟨nofun, fun _ _ => rfl⟩
  | cons d l ih =>
    rw [List.map_cons, List.foldl_cons]
    obtain ⟨hmem, hnot⟩ := ih ((w.wr (pgCLU d) CLU_CSTAT_STATE 4).wr (pgCLU d) CLU_CSTAT_BYPASSED (closed d))
      fun e he => hl e (List.mem_cons_of_mem _ he)
    obtain ⟨hd, hfit⟩ := hl d (List.mem_cons_self ..)
    refine ⟨fun h => ?_, fun h f => ?_⟩
    · by_cases hcl : c ∈ l
      · exact hmem hcl
      · obtain rfl : c = d := (List.mem_cons.1 h).resolve_right hcl
        rw [hnot hcl, hnot hcl, rd_wr_clear _ _ (by decide), rd_wr_same _ _ _ _ _ (by decide), rd_wr_same _ _ _ _ _ (by decide)]
        exact ⟨rfl, Nat.mod_eq_of_lt hfit⟩
    · rw [List.mem_cons, not_or] at h
      rw [hnot h.2, rd_wr_otherCluster _ _ _ _ hc hd h.1, rd_wr_otherCluster _ _ _ _ hc hd h.1]

/-- The RG and CLU pages, once the bypassed clusters show, stand to the end of the reset's start. -/
theorem rd_regionResetStart (w : Work) (n : Nat) {pg : Nat} (f : Field) (hp : pg % 0x1000 = 0)
    (hz : zoneOf pg = .page .rg ∨ zoneOf pg = .page .clu) : (w.regionResetStart n).rd pg f =
      ((w.resetCleared n).bypassShown (w.inBypass n) fun c => w.rd (pgCLU c) CLU_CSTAT_BYPASSED).rd pg f := by
  let Z : Zone → Bool := fun z => decide (z ≠ .page .rg ∧ z ≠ .page .clu)
  refine rd_of_view (K := allKinds) (Z := Z) (view_resetEnd _ _ rfl rfl rfl rfl rfl rfl rfl rfl rfl rfl rfl rfl rfl rfl rfl) pg f 0 hp ?_
  rcases hz with hz | hz <;> rw [hz] <;> rfl

theorem mem_clustersOf {n c : Nat} : c ∈ clustersOf n ↔ c / 12 = n := by
  simp only [clustersOf, upto, List.mem_map, List.mem_range]
  exact ⟨fun ⟨i, hi, h⟩ => by omega, fun h => ⟨c % 12, by omega, by omega⟩⟩

theorem inRegion_pgCLU {n c o : Nat} (h : c / 12 = n) (ho : o < 0x1000) : inRegion n (pgCLU c + o) = true := by
  subst h
  rw [inRegion, Bool.and_eq_true, decide_eq_true_eq, decide_eq_true_eq, pgCLU]
  omega

/-- CYC_EN is 0 once the reset has started. -/
theorem cycCtl_regionResetStart (w : Work) (n : Nat) : (w.regionResetStart n).rd (pgRG n) RG_CYC_CTL = 0 := by
  rw [rd_regionResetStart _ _ _ (mod_pgRG n) (.inl (zone_pgRG n))]
  let Z : Zone → Bool := fun z => decide (z = .page .clu)
  have hin : inRegion n (pgRG n + RG_CYC_CTL.at 0) = true := by
    have hlt := RG_CYC_CTL.at_lt 0
    rw [inRegion, Bool.and_eq_true, decide_eq_true_eq, decide_eq_true_eq, pgRG]
    omega
  rw [rd_of_view (K := allKinds) (Z := Z) (view_bypassShown _ _ _ rfl) _ _ 0 (mod_pgRG n) (by rw [zone_pgRG]; rfl),
    rd_resetCleared w (mod_pgRG n) (zone_pgRG n) (by decide) hin (by decide)]
  decide

/-- Clusters in BYPASS stay there with the report of their element; the others are in OFF (R254, R492). -/
theorem clusters_regionResetStart (w : Work) {n c : Nat} (hc : c < 48) (h : c / 12 = n) :
    (w.rd (pgCLU c) CLU_CSTAT_STATE = 4 → (w.regionResetStart n).rd (pgCLU c) CLU_CSTAT_STATE = 4 ∧
      (w.regionResetStart n).rd (pgCLU c) CLU_CSTAT_BYPASSED = w.rd (pgCLU c) CLU_CSTAT_BYPASSED) ∧
    (w.rd (pgCLU c) CLU_CSTAT_STATE ≠ 4 → (w.regionResetStart n).rd (pgCLU c) CLU_CSTAT_STATE = 0) := by
  have hl : ∀ d ∈ w.inBypass n, d < 48 ∧ w.rd (pgCLU d) CLU_CSTAT_BYPASSED < 2 ^ CLU_CSTAT_BYPASSED.wid := fun d hd => by
    have := mem_clustersOf.1 (List.mem_filter.1 hd).1
    exact ⟨by omega, Field.get_lt _ _⟩
  obtain ⟨hmem, hnot⟩ := rd_bypassShown (w.resetCleared n) hc hl
  have hrd (f : Field) := rd_regionResetStart w n f (mod_pgCLU c) (.inr (zone_pgCLU c))
  refine ⟨fun h4 => ?_, fun h4 => ?_⟩
  · rw [hrd, hrd]
    exact hmem (List.mem_filter.2 ⟨mem_clustersOf.2 h, beq_iff_eq.2 h4⟩)
  · have hout : c ∉ w.inBypass n := fun hin => h4 (beq_iff_eq.1 (List.mem_filter.1 hin).2)
    rw [hrd, hnot hout, rd_resetCleared w (mod_pgCLU c) (zone_pgCLU c) (by decide) (inRegion_pgCLU h (Field.at_lt _ _)) (by decide)]
    decide

/-! ### The commands -/

/-- A cluster of region `n` runs, in the active package (R15). -/
def State.regionBusy (s : State) (n : Nat) : Prop :=
  s.work.role ≠ 1 ∧ ∃ c : Fin 48, c.val / 12 = n ∧ s.rd (pgCLU c) CLU_CSTAT_STATE = 3

theorem resetRefused_iff (s : State) {n : Nat} (hn : n < 4) : s.work.resetRefused n = true ↔ s.regionBusy n := by
  rw [Work.resetRefused, Bool.and_eq_true, bne_iff_ne, List.any_eq_true, State.regionBusy]
  refine and_congr_right fun _ => ⟨fun ⟨c, hc, h3⟩ => ?_, fun ⟨c, hc, h3⟩ => ⟨c, mem_clustersOf.2 hc, beq_iff_eq.2 h3⟩⟩
  have hc := mem_clustersOf.1 hc
  exact ⟨⟨c, by omega⟩, hc, beq_iff_eq.1 h3⟩

/-- The one bit of a mask with one bit, among those that are not taken. -/
theorem filter_oneBit {m n r : Nat} (hn : n < m) (h : r.testBit n = false) :
    ((upto m).filter fun k => bitOf (2 ^ n) k && !bitOf r k) = [n] := by
  have hfilter : ((upto m).filter fun k => bitOf (2 ^ n) k && !bitOf r k) = (upto m).filter fun k => k == n := by
    refine List.filter_congr fun k _ => ?_
    rw [bitOf_eq, bitOf_eq, Nat.testBit_two_pow]
    by_cases hk : n = k
    · subst hk; simp [h]
    · simp [hk, Ne.symm hk]
  rw [hfilter, List.filter_beq, upto, List.count_eq_one_of_mem List.nodup_range (List.mem_range.2 hn)]
  rfl

theorem regionReset_one (w : Work) (n : Fin 4) (h : w.kin.resets.testBit n = false) :
    w.regionReset (1 <<< n.val : BitVec 4).toNat = if w.resetRefused n then w.badval (pgRG n) else w.regionResetStart n := by
  have hbit : ∀ n : Fin 4, (1 <<< n.val : BitVec 4).toNat = 2 ^ n.val := by decide
  rw [Work.regionReset, hbit, filter_oneBit n.isLt h, each_singleton]

variable {s : State}

theorem regionReset_refused {n : Fin 4} (hr : s.reaches rstAddr) (h : s.dev.kin.resets.testBit n = false) (hbusy : s.regionBusy n) :
    Runs (.regionReset (1 <<< n.val)) s fun t =>
      t.rd (pgRG n) HDR_STAT_BADVAL = 1 ∧ OnlyDwords [pgRG n + HDR_STAT_BADVAL.at 0] s t := by
  have heq : (s.onDev fun w => w.regionReset (1 <<< n.val : BitVec 4).toNat) = s.onDev fun w => w.badval (pgRG n) :=
    onDev_congr (g := fun w => w.badval (pgRG n)) <| by rw [regionReset_one _ n h, if_pos ((resetRefused_iff s n.isLt).2 hbusy)]
  refine runs_hostAct rfl hr ?_
  rw [heq]
  exact ⟨rd_wr_same _ _ _ _ _ (by decide), (Work.Alters.refl.badval (by simp)).changes⟩

/-- R15, R75, R107, R492: what the start of a reset of region `n` leaves. -/
def RegionResetStarted (n : Nat) (s t : State) : Prop :=
  (t.rd pgPKG PKG_FENCE_STAT).testBit n = true ∧ t.dev.kin.resets.testBit n = true ∧ t.rd (pgRG n) RG_CYC_CTL = 0 ∧
  (t.region n).run = false ∧
  (∀ c : Fin 48, c.val / 12 = n →
    (s.rd (pgCLU c) CLU_CSTAT_STATE = 4 → t.rd (pgCLU c) CLU_CSTAT_STATE = 4 ∧
      t.rd (pgCLU c) CLU_CSTAT_BYPASSED = s.rd (pgCLU c) CLU_CSTAT_BYPASSED) ∧
    (s.rd (pgCLU c) CLU_CSTAT_STATE ≠ 4 → t.rd (pgCLU c) CLU_CSTAT_STATE = 0)) ∧
  (∀ a, inRegion n a = true → t.word a &&& rwsMask a = s.word a &&& rwsMask a) ∧ t.dev.shadow = s.dev.shadow ∧ TimeKept s t

theorem regionResetStarted_onDev {f : Work → Work} (n : Fin 4) (hf : f s.work = s.work.regionResetStart n) :
    RegionResetStarted n s (s.onDev f) := by
  have hlt : n.val < 8 := by omega
  have hfence := fence_regionResetStart s.work hlt
  have hkin := congrArg (fun k : KinSt => k.resets.testBit n) (kin_regionResetStart s.work n)
  have hctl := cycCtl_regionResetStart s.work n
  have hrun := run_regionResetStart s.work n
  have hclu (c : Fin 48) (hc : c.val / 12 = n) := clusters_regionResetStart s.work c.isLt hc
  have hkeep := (Work.KeepsConfig.refl s.work).regionResetStart (List.mem_singleton.2 rfl) hlt
  have hshadow := shadow_regionResetStart s.work n
  rw [← hf] at hfence hkin hctl hrun hkeep hshadow
  simp only [← hf] at hclu
  refine ⟨hfence, hkin.trans (by simp), hctl, hrun, hclu, fun a ha => hkeep.rws a ?_, hshadow, timeKept_onDev ..⟩
  rw [inRegion, Bool.and_eq_true, decide_eq_true_eq, decide_eq_true_eq, rgBase] at ha
  omega

theorem regionReset_starts {n : Fin 4} (hr : s.reaches rstAddr) (h : s.dev.kin.resets.testBit n = false) (hfree : ¬ s.regionBusy n) :
    Runs (.regionReset (1 <<< n.val)) s (RegionResetStarted n s) := by
  have hstart : s.work.resetRefused n = false := by
    rw [← Bool.not_eq_true, resetRefused_iff s n.isLt]; exact hfree
  exact runs_hostAct rfl hr (regionResetStarted_onDev n (by rw [regionReset_one _ n h, if_neg (by simp [hstart])]))

/-! ### Die resets -/

/-- The circuits of die `d` beside its regions. -/
def Work.dieCleared (w : Work) (d : Nat) : Work :=
  ((w.dropRegs fun a => decide (pgPKG + 0x200 + 0x18 * d ≤ a) && decide (a < pgPKG + 0x218 + 0x18 * d)).stallEnd
    [2 * d, 2 * d + 1, 4 + d]).modTherm fun t => { t with
      dev := Vector.ofFn fun i => if (dieSensors d).contains i.val then 0 else vget t.dev i.val
      hot := Vector.ofFn fun i => if (dieSensors d).contains i.val then 0 else vget t.hot i.val }

/-- A reset of die `d` starts. -/
def Work.dieResetStart (w : Work) (d : Nat) : Work :=
  ((((w.regionResetStart (2 * d)).regionResetStart (2 * d + 1)).dieCleared d).fence (4 + d) true).modKin fun k =>
    { k with dieResets := k.dieResets ||| 2 ^ d }

theorem dieReset_one (w : Work) (d : Fin 2) (h : w.kin.dieResets = 0) : w.dieReset (1 <<< d.val : BitVec 2).toNat =
    if w.resetRefused (2 * d) || w.resetRefused (2 * d + 1) then w.badval pgPKG else w.dieResetStart d := by
  have hbit : ∀ d : Fin 2, (1 <<< d.val : BitVec 2).toNat = 2 ^ d.val := by decide
  rw [Work.dieReset, hbit, h, filter_oneBit d.isLt (Nat.zero_testBit _), each_singleton]
  rfl

theorem view_dieCleared {K : Kind → Bool} {Z : Zone → Bool} (w : Work) (d : Nat) (hhearth : K .hearth = true) (htherm : K .therm = true)
    (hz : ∀ z, Z z = true) : view K Z (w.dieCleared d) = view K Z w := by
  rw [Work.dieCleared, view_modTherm _ _ htherm, view_stallEnd _ _ hhearth]
  exact view_dropRegs _ _ fun _ _ => hz _

theorem dieCleared_config (w : Work) (d : Fin 2) : Work.KeepsConfig [] w (w.dieCleared d) := by
  have hpkg : pgPKG = 0 := rfl
  have hfence : pgPKG + PKG_FENCE_STAT.at 0 = 0x90 := rfl
  have hdrop : Work.KeepsConfig [] w (w.dropRegs fun a => decide (pgPKG + 0x200 + 0x18 * d ≤ a) && decide (a < pgPKG + 0x218 + 0x18 * d)) := by
    refine ⟨fun a ha => ?_, fun k _ => congrArg (Nat.testBit · k) (rd_congr ?_)⟩
    · rw [word_dropRegs, if_neg]
      simp only [Bool.and_eq_true, decide_eq_true_eq]
      omega
    · rw [word_dropRegs, if_neg]
      simp only [Bool.and_eq_true, decide_eq_true_eq]
      omega
  exact (hdrop.other (view_stallEnd _ _ rfl)).other (view_modTherm _ _ rfl)

theorem dieReset_refused {d : Fin 2} (hr : s.reaches rstAddr) (h : s.dev.kin.dieResets = 0)
    (hbusy : s.regionBusy (2 * d.val) ∨ s.regionBusy (2 * d.val + 1)) : Runs (.dieReset (1 <<< d.val)) s fun t =>
      t.rd pgPKG HDR_STAT_BADVAL = 1 ∧ OnlyDwords [pgPKG + HDR_STAT_BADVAL.at 0] s t := by
  have heq : (s.onDev fun w => w.dieReset (1 <<< d.val : BitVec 2).toNat) = s.onDev fun w => w.badval pgPKG :=
    onDev_congr (g := fun w => w.badval pgPKG) <| by
      rw [dieReset_one _ d h, if_pos]
      rw [Bool.or_eq_true, resetRefused_iff s (by omega), resetRefused_iff s (by omega)]
      exact hbusy
  refine runs_hostAct rfl hr ?_
  rw [heq]
  exact ⟨rd_wr_same _ _ _ _ _ (by decide), (Work.Alters.refl.badval (by simp)).changes⟩

theorem kin_dieResetStart (w : Work) (d : Nat) : (w.dieResetStart d).kin =
    { w.kin with resets := w.kin.resets ||| 2 ^ (2 * d) ||| 2 ^ (2 * d + 1), dieResets := w.kin.dieResets ||| 2 ^ d } := by
  have hview : view (fun k => decide (k ≠ .kin)) allZones
      ((((w.regionResetStart (2 * d)).regionResetStart (2 * d + 1)).dieCleared d).fence (4 + d) true) =
      view (fun k => decide (k ≠ .kin)) allZones ((w.regionResetStart (2 * d)).regionResetStart (2 * d + 1)) :=
    (view_fence _ _ _ rfl).trans (view_dieCleared _ _ rfl rfl fun _ => rfl)
  rw [Work.dieResetStart, kin_modKin, kin_of_view hview rfl, kin_regionResetStart, kin_regionResetStart]

theorem shadow_dieResetStart (w : Work) (d : Nat) : (w.dieResetStart d).shadow = w.shadow := by
  have hview : view (fun k => decide (k ≠ .shadow)) allZones (w.dieResetStart d) =
      view (fun k => decide (k ≠ .shadow)) allZones ((w.regionResetStart (2 * d)).regionResetStart (2 * d + 1)) :=
    (view_modKin _ _ rfl).trans ((view_fence _ _ _ rfl).trans (view_dieCleared _ _ rfl rfl fun _ => rfl))
  rw [shadow_of_view hview rfl, shadow_regionResetStart, shadow_regionResetStart]

/-- The fences of the die and of both its regions are up. -/
theorem fences_dieResetStart (w : Work) (d : Fin 2) : ∀ f ∈ [2 * d.val, 2 * d.val + 1, 4 + d.val],
    ((w.dieResetStart d).rd pgPKG PKG_FENCE_STAT).testBit f = true := by
  have hd := d.isLt
  let v := (w.regionResetStart (2 * d)).regionResetStart (2 * d + 1)
  have hdie : Work.KeepsConfig [4 + d.val] v (w.dieResetStart d) :=
    (((dieCleared_config v d).mono (List.nil_subset _)).fence (n := 4 + d.val) (up := true) (List.mem_singleton.2 rfl) (by omega)).other
      (view_modKin _ _ rfl)
  have hsecond : Work.KeepsConfig [2 * d.val + 1] (w.regionResetStart (2 * d)) v :=
    (Work.KeepsConfig.refl _).regionResetStart (List.mem_singleton.2 rfl) (by omega)
  intro f hf
  simp only [List.mem_cons, List.not_mem_nil, or_false] at hf
  rcases hf with rfl | rfl | rfl
  · rw [hdie.fences _ (by rw [List.mem_singleton]; omega), hsecond.fences _ (by rw [List.mem_singleton]; omega)]
    exact fence_regionResetStart w (by omega)
  · rw [hdie.fences _ (by rw [List.mem_singleton]; omega)]
    exact fence_regionResetStart _ (by omega)
  · have hkin : Work.KeepsConfig [] ((v.dieCleared d).fence (4 + d.val) true) (w.dieResetStart d) :=
      (Work.KeepsConfig.refl _).other (view_modKin _ _ rfl)
    rw [hkin.fences _ (by simp)]
    exact testBit_fence_up _ (by omega)

/-- R16: what the start of a reset of die `d` leaves. -/
def DieResetStarted (d : Nat) (s t : State) : Prop :=
  t.dev.kin.dieResets = 2 ^ d ∧ t.dev.kin.resets = 3 * 4 ^ d ∧
  (∀ f ∈ [2 * d, 2 * d + 1, 4 + d], (t.rd pgPKG PKG_FENCE_STAT).testBit f = true) ∧ t.dev.shadow = s.dev.shadow ∧ TimeKept s t

theorem dieResetStarted_onDev {f : Work → Work} (d : Fin 2) (hf : f s.work = s.work.dieResetStart d) (hreg : s.dev.kin.resets = 0)
    (h : s.dev.kin.dieResets = 0) : DieResetStarted d s (s.onDev f) := by
  have hnum : ∀ d : Fin 2, 0 ||| 2 ^ d.val = 2 ^ d.val ∧ 0 ||| 2 ^ (2 * d.val) ||| 2 ^ (2 * d.val + 1) = 3 * 4 ^ d.val := by decide
  have hkin := kin_dieResetStart s.work d
  have hfences := fences_dieResetStart s.work d
  have hshadow := shadow_dieResetStart s.work d
  rw [← hf] at hkin hfences hshadow
  refine ⟨?_, ?_, hfences, hshadow, timeKept_onDev ..⟩
  · rw [State.kin_onDev, hkin]
    exact (congrArg (· ||| 2 ^ d.val) h).trans (hnum d).1
  · rw [State.kin_onDev, hkin]
    exact (congrArg (· ||| 2 ^ (2 * d.val) ||| 2 ^ (2 * d.val + 1)) hreg).trans (hnum d).2

theorem dieReset_starts {d : Fin 2} (hr : s.reaches rstAddr) (hreg : s.dev.kin.resets = 0) (h : s.dev.kin.dieResets = 0)
    (hfree : ¬ (s.regionBusy (2 * d.val) ∨ s.regionBusy (2 * d.val + 1))) : Runs (.dieReset (1 <<< d.val)) s (DieResetStarted d s) := by
  refine runs_hostAct rfl hr (dieResetStarted_onDev d ?_ hreg h)
  rw [dieReset_one _ d h, if_neg]
  rw [Bool.or_eq_true, resetRefused_iff s (by omega), resetRefused_iff s (by omega)]
  exact hfree

end Sys2Proof.Machine
end

section
-- One task at a time: the check bounds the memory of all of Lean's threads together.
set_option Elab.async false
set_option linter.all false

/-! PROOF. Settles O47: the end of a region reset (R107, R492), and the whole of the statement. -/

namespace Sys2Proof.Machine

/-! ### The lanes that start training -/

/-- Every cell lane is in the state it was in. -/
structure Work.SameStates (w v : Work) : Prop where
  state : ∀ d : Fin 48, v.rd (pgCLANE d) CLANE_LSTAT_STATE = w.rd (pgCLANE d) CLANE_LSTAT_STATE

/-- Every zone but the cell lanes' pages. -/
def offLanes : Zone → Bool := fun z => decide (z ≠ .page .clane)

namespace Work.SameStates

variable {w v u : Work}

theorem refl (w : Work) : w.SameStates w := ⟨fun _ => rfl⟩

theorem trans (h : w.SameStates v) (g : v.SameStates u) : w.SameStates u := ⟨fun d => (g.state d).trans (h.state d)⟩

theorem other (h : w.SameStates v) (hview : view allKinds offLanes u = view allKinds offLanes v) : w.SameStates u :=
  h.trans ⟨fun d => rd_of_view hview _ _ 0 (mod_pgCLANE d) (by rw [zone_pgCLANE]; rfl)⟩

theorem wr (h : w.SameStates v) {c x : Nat} {f : Field} (hf : f.Clear 0 CLANE_LSTAT_STATE 0) : w.SameStates (v.wr (pgCLANE c) f x) :=
  h.trans ⟨fun d => rd_wr_aligned _ (mod_pgCLANE c) (mod_pgCLANE d) hf x⟩

theorem put (h : w.SameStates v) {c o : Nat} {x : Word} (ho : o < 0x1000 ∧ o ≠ CLANE_LSTAT_STATE.at 0) :
    w.SameStates (v.put (pgCLANE c + o) x) := by
  refine h.trans ⟨fun d => rd_congr (word_put_ne _ _ _ _ ?_)⟩
  have hc := mod_pgCLANE c
  have hd := mod_pgCLANE d
  have hlt := CLANE_LSTAT_STATE.at_lt 0
  omega

theorem each {α : Type} (h : w.SameStates v) {xs : List α} {g : Work → α → Work} (hg : ∀ (x : Work), ∀ a ∈ xs, x.SameStates (g x a)) :
    w.SameStates (v.each xs g) :=
  h.trans (each_relates refl trans hg v)

theorem ceForget (h : w.SameStates v) (c : Nat) : w.SameStates (v.ceForget c) := by
  have hfields : ∀ f ∈ [CLANE_CE_STAT_MODE, CLANE_CE_STAT_FOLLOW, CLANE_CE_STAT_FOLLOWS_US, CLANE_CE_STAT_CONFLICT, CLANE_CE_STAT_CFG_OK,
    CLANE_CE_STAT_CNAK, CLANE_CE_STAT_CACK, CLANE_CE_STAT_FPKG], f.Clear 0 CLANE_LSTAT_STATE 0 := by decide
  have hwords : ∀ o ∈ [CLANE_CE_EPOCH.off, CLANE_CE_TEMP_TCAP.off, CLANE_CE_HEALTH.off, CLANE_CE_ST_ST_SEQ.off, CLANE_CE_CNT0_BADFR.off,
    CLANE_CE_CNT1_ILK.off, CLANE_CE_CNT2_IGNORED.off, CLANE_CE_CAP_VER.off], o < 0x1000 ∧ o ≠ CLANE_LSTAT_STATE.at 0 := by decide
  exact (h.each fun x f hf => (refl x).wr (hfields f hf)).each fun x o ho => (refl x).put (hwords o ho)

end Work.SameStates

/-- Entry to ACQUIRE writes no other lane state than its own. -/
theorem acquire_states (w : Work) (c : Fin 48) : (w.wr (pgCLANE c) CLANE_LSTAT_STATE 1).SameStates (w.acquire (.cell c)) := by
  have hset : (w.wr (pgCLANE c) CLANE_LSTAT_STATE 1).SameStates (w.laneSet (.cell c) 1) :=
    (Work.SameStates.refl _).other (view_laneEvent _ _ _ _ rfl)
  have heq : (w.wr (pgCLANE c) CLANE_LSTAT_STATE 1).SameStates
      (((w.laneSet (.cell c) 1).wr (pgCLANE c) CLANE_LSTAT_ALIGNED 0).eqLoad (.cell c)) :=
    ((((hset.wr (by decide)).wr (f := CLANE_EQ_CTLE) (by decide)).wr (f := CLANE_EQ_DFE1) (by decide)).wr
      (f := CLANE_EQ_DFE2) (by decide)).wr (f := CLANE_EQ_DFE3) (by decide)
  refine Work.SameStates.wr (Work.SameStates.ceForget (Work.SameStates.other ?_ (view_modLn _ _ _ rfl)) c) (by decide)
  exact (heq.other (view_modHearth _ _ rfl)).other (view_when _ _ _ fun x => view_when _ _ _ fun y => view_modLn _ _ _ rfl)

theorem state_acquire_same (w : Work) (c : Fin 48) : (w.acquire (.cell c)).rd (pgCLANE c) CLANE_LSTAT_STATE = 1 := by
  rw [(acquire_states w c).state c, rd_wr_same _ _ _ _ _ (by decide)]
  rfl

theorem state_acquire_ne (w : Work) {c d : Fin 48} (h : d ≠ c) :
    (w.acquire (.cell c)).rd (pgCLANE d) CLANE_LSTAT_STATE = w.rd (pgCLANE d) CLANE_LSTAT_STATE := by
  rw [(acquire_states w c).state d]
  refine rd_wr_ne _ _ _ _ _ _ _ _ ?_
  have hne : d.val ≠ c.val := fun e => h (Fin.ext e)
  have hlt := CLANE_LSTAT_STATE.at_lt 0
  simp only [pgCLANE, rgBase]
  omega

/-- A lane's enable is configuration. -/
theorem Work.KeepsConfig.cellEn {l : List Nat} {w v : Work} (h : w.KeepsConfig l v) (c : Fin 48) : v.cellEn c = w.cellEn c := by
  have hen : ∀ c : Nat, CLANE_CTL_EN.mask &&& rwsMask (pgCLANE c + CLANE_CTL_EN.at 0) = CLANE_CTL_EN.mask := fun c => by
    rw [rwsMask_table (mod_pgCLANE c) (zone_pgCLANE c) (by decide)]
    decide
  have hclu (f : Field) (hf : (0x40 ≤ f.at 0 ∧ f.at 0 < 0x800) ∧ f.mask &&& maskAt .clu (f.at 0) .rws = f.mask ∧ f.lo + f.wid ≤ 32) (o : Nat) :
      v.rd (pgCLU o) f = w.rd (pgCLU o) f :=
    h.rd (by simp only [pgCLU, rgBase]; omega) (by rw [rwsMask_table (mod_pgCLU o) (zone_pgCLU o) hf.1, hf.2.1]) hf.2.2
  have htopo (o : Nat) : v.topo o = w.topo o := hclu _ (by decide) o
  have howner : v.owner c = w.owner c := by rw [Work.owner, htopo, Work.owner]
  have hpath : v.path2 (w.owner c) = w.path2 (w.owner c) := by rw [Work.path2, htopo, Work.on, hclu _ (by decide), Work.path2, Work.on]
  rw [Work.cellEn, howner, hpath, Work.on, h.rd (by simp only [pgCLANE, rgBase]; omega) (hen c) (by decide), Work.cellEn, Work.on]

/-- Every enabled lane of the list is in ACQUIRE. -/
theorem state_acquireEach (w : Work) (l : List (Fin 48)) {c : Fin 48} (hen : w.cellEn c = true) :
    (c ∈ l → (w.each l fun w c => w.when (w.cellEn c.val) fun w => w.acquire (.cell c)).rd (pgCLANE c) CLANE_LSTAT_STATE = 1) ∧
    (w.rd (pgCLANE c) CLANE_LSTAT_STATE = 1 →
      (w.each l fun w c => w.when (w.cellEn c.val) fun w => w.acquire (.cell c)).rd (pgCLANE c) CLANE_LSTAT_STATE = 1) := by
  unfold Work.each
  induction l generalizing w with
  | nil => exact ⟨nofun, id⟩
  | cons d l ih =>
    rw [List.foldl_cons]
    have hconf : Work.KeepsConfig [] w (w.when (w.cellEn d) fun w => w.acquire (.cell d)) :=
      (Work.KeepsConfig.refl w).when fun x => (Work.KeepsConfig.refl x).acquire d
    obtain ⟨hmem, hstays⟩ := ih (w.when (w.cellEn d) fun w => w.acquire (.cell d)) ((hconf.cellEn c).trans hen)
    have hsame : (w.when (w.cellEn c) fun w => w.acquire (.cell c)).rd (pgCLANE c) CLANE_LSTAT_STATE = 1 := by
      rw [Work.when, hen, if_pos rfl, state_acquire_same]
    refine ⟨fun h => ?_, fun h1 => hstays ?_⟩
    · rcases List.mem_cons.1 h with rfl | h
      · exact hstays hsame
      · exact hmem h
    · by_cases hcd : c = d
      · subst hcd; exact hsame
      · unfold Work.when
        split
        · rw [state_acquire_ne w hcd, h1]
        · exact h1

/-! ### The end of a region reset -/

/-- The reset of region `n` is over: its fence falls and its lanes train. -/
def Work.resetOver (w : Work) (n : Nat) : Work :=
  ((w.modKin fun k => { k with resets := k.resets - 2 ^ n }).stallEnd [n]).unfenceRegion n

theorem testBit_fence_down (w : Work) (n : Nat) : ((w.fence n false).rd pgPKG PKG_FENCE_STAT).testBit n = false :=
  (testBit_clrBit _ _ _ _ _ _ (by decide)).trans (by simp)

theorem kin_resetOver (w : Work) (n : Nat) : (w.resetOver n).kin = { w.kin with resets := w.kin.resets - 2 ^ n } := by
  let K : Kind → Bool := fun k => decide (k ≠ .kin)
  have hview : view K allZones (w.resetOver n) = view K allZones (w.modKin fun k => { k with resets := k.resets - 2 ^ n }) :=
    (view_unfenceRegion _ _ rfl rfl rfl rfl rfl rfl rfl rfl).trans (view_stallEnd _ _ rfl)
  rw [kin_of_view hview rfl, kin_modKin]

/-- With no swap due, no mark and no die reset, the reset ends so. -/
theorem regionResetEnd_eq {w : Work} {n : Nat} (hreset : w.kin.resets = 2 ^ n) (hdie : w.kin.dieResets = 0)
    (hmark : w.ember.marks.testBit n = false) (hswap : w.on pgPKG PKG_SWAP_STAT_PENDING = false) :
    w.regionResetEnd n = ((w.resetOver n).modRg n fun r => { r with fbRec := true }).twinShow := by
  obtain ⟨v, hv⟩ : ∃ v, v = (w.modKin fun k => { k with resets := k.resets - 2 ^ n }).stallEnd [n] := ⟨_, rfl⟩
  have hbit : bitOf w.kin.resets n = true := by rw [bitOf_eq, hreset, Nat.testBit_two_pow_self]
  have hpend : v.on pgPKG PKG_SWAP_STAT_PENDING = false := by rw [hv]; exact hswap
  have hunmarked : v.marked n = false := by rw [hv]; exact (bitOf_eq _ _).trans hmark
  have hover : v.unfenceRegion n = w.resetOver n := by rw [hv, Work.resetOver]
  have hnodie : ((w.resetOver n).modRg n fun r => { r with fbRec := true }).kin.dieResets = 0 := by
    rw [kin_of_view (K := fun k => decide (k ≠ .kin)) (Z := allZones) (view_modRg _ _ _ rfl) rfl, kin_resetOver]
    exact hdie
  unfold Work.regionResetEnd
  rw [if_pos hbit]
  simp only [← hv, hpend, hunmarked, Bool.false_and, Bool.not_false, Work.when, Bool.false_eq_true, if_false, if_true, hover, hnodie,
    bitOf_eq, Nat.zero_testBit]

theorem fence_resetOver (w : Work) (n : Nat) : ((w.resetOver n).rd pgPKG PKG_FENCE_STAT).testBit n = false := by
  have hlanes := (Work.KeepsConfig.refl (l := []) (((w.modKin fun k => { k with resets := k.resets - 2 ^ n }).stallEnd [n]).fence n false)).lanesStart n
  rw [Work.resetOver, unfenceRegion_eq, hlanes.fences n (by simp)]
  exact testBit_fence_down _ n

/-- R492: the enabled lanes are in ACQUIRE once the fence falls. -/
theorem lanes_resetOver (w : Work) {n : Nat} (hn : n < 4) {c : Fin 48} (hc : c.val / 12 = n) (hen : w.cellEn c = true) :
    (w.resetOver n).rd (pgCLANE c) CLANE_LSTAT_STATE = 1 := by
  have hconf : Work.KeepsConfig [n] w (((w.modKin fun k => { k with resets := k.resets - 2 ^ n }).stallEnd [n]).fence n false) :=
    (((Work.KeepsConfig.refl w).other (view_modKin _ _ rfl)).other (view_stallEnd _ _ rfl)).fence (List.mem_singleton.2 rfl) (by omega)
  have hmem : c ∈ (List.finRange 48).filter fun c => c.val / 12 == n := List.mem_filter.2 ⟨List.mem_finRange c, beq_iff_eq.2 hc⟩
  rw [Work.resetOver, unfenceRegion_eq, Work.lanesStart,
    rd_of_view (K := allKinds) (Z := offLanes) (view_each _ _ _ fun x d => view_laneShow _ _ rfl) _ _ 0 (mod_pgCLANE c) (by rw [zone_pgCLANE]; rfl)]
  exact (state_acquireEach _ _ ((hconf.cellEn c).trans hen)).1 hmem

/-- What the end of a region reset leaves. -/
def RegionResetEnded (n : Nat) (s t : State) : Prop :=
  (t.rd pgPKG PKG_FENCE_STAT).testBit n = false ∧ t.dev.kin.resets = 0 ∧
  (∀ c : Fin 48, c.val / 12 = n → s.work.cellEn c = true → t.rd (pgCLANE c) CLANE_LSTAT_STATE = 1)

theorem regionResetEnded_onDev {s : State} {f : Work → Work} {n : Nat} (hn : n < 4)
    (hf : f s.work = ((s.work.resetOver n).modRg n fun r => { r with fbRec := true }).twinShow) (hreset : s.dev.kin.resets = 2 ^ n) :
    RegionResetEnded n s (s.onDev f) := by
  have hview : view (fun k => decide (k ≠ .kin)) (fun z => decide (z ≠ .page .pkg ∧ z ≠ .page .clane)) (f s.work) =
      view (fun k => decide (k ≠ .kin)) (fun z => decide (z ≠ .page .pkg ∧ z ≠ .page .clane)) (s.work.resetOver n) := by
    rw [hf, view_twinShow _ rfl rfl rfl rfl]
    exact view_modRg _ _ _ rfl
  have hkin : (f s.work).kin = { s.work.kin with resets := s.work.kin.resets - 2 ^ n } := (kin_of_view hview rfl).trans (kin_resetOver ..)
  refine ⟨?_, ?_, fun c hc hen => ?_⟩
  · rw [State.rd_onDev, rd_of_view hview _ _ 0 mod_pgPKG (by rw [zone_pgPKG]; rfl), fence_resetOver]
  · rw [State.kin_onDev, hkin]
    exact Nat.sub_eq_zero_of_le (Nat.le_of_eq hreset)
  · rw [State.rd_onDev, rd_of_view hview _ _ 0 (mod_pgCLANE c) (by rw [zone_pgCLANE]; rfl)]
    exact lanes_resetOver _ hn hc hen

theorem regionResetDone_ends {s : State} {n : Fin 4} (hreset : s.dev.kin.resets = 2 ^ n.val) (hdie : s.dev.kin.dieResets = 0)
    (hmark : s.dev.ember.marks.testBit n = false) (hswap : ¬ s.on pgPKG PKG_SWAP_STAT_PENDING) :
    Runs (.regionResetDone n) s (RegionResetEnded n s) :=
  runs_dev (f := fun w => w.regionResetEnd n) rfl
    (regionResetEnded_onDev n.isLt (regionResetEnd_eq hreset hdie hmark (by rw [State.not_on_work]; exact hswap)) hreset)

/-! ### The statement -/

/-- Settles O47: the package's resets, those of regions and dies, and those of the HOST page. -/
theorem resetsReturnToReset : Obligations.ResetsReturnToReset := by
  intro s
  refine ⟨porstNFall_resets s, porstNRise_kindles s, pkgReset_resets s, pkgReset_ignored s, thermalOffEntry_resets s, thermalRestart_resets s,
    fun hr => ⟨fun n h => ⟨regionReset_refused hr h, regionReset_starts hr h⟩,
      fun d hreg h => ⟨dieReset_refused hr h, dieReset_starts hr hreg h⟩⟩,
    fun n => regionResetDone_ends, pciePerstFall_resets s, pciePerstRise_frees s⟩

end Sys2Proof.Machine
end

section
-- One task at a time: the check bounds the memory of all of Lean's threads together.
set_option Elab.async false
set_option linter.all false

/-! SUPPORT. The canonical form of the memories (log entry 4): the operations that write neither the DRAM nor the hub SRAM leave it as
it was, and one rule per way of combining operations. -/

namespace Sys2Proof.Machine

/-- The DRAM and the published hub SRAM that a command works on are in their canonical form. -/
def Work.MemWf (w : Work) : Prop := cellsWf byte0 w.dram = true ∧ cellsWf byte0 w.sram = true

/-- The kinds of state that are no memory. -/
def notMemory (k : Kind) : Bool := decide (k ≠ .dram ∧ k ≠ .sram)

variable {w v : Work}

/-- An operation that writes no memory leaves the canonical form as it was. -/
theorem memWf_of_view (h : view notMemory (fun _ => true) v = view notMemory (fun _ => true) w) : v.MemWf ↔ w.MemWf := by
  have hd : v.dram = w.dram := Option.some.inj (congrArg View.dram h)
  have hs : v.sram = w.sram := Option.some.inj (congrArg View.sram h)
  rw [Work.MemWf, Work.MemWf, hd, hs]


/-! ### Operations that write no memory -/

@[simp] theorem memWf_hearthShow : w.hearthShow.MemWf ↔ w.MemWf := memWf_of_view (by apply view_hearthShow <;> rfl)
@[simp] theorem memWf_stat0Regs (c : Nat) (s : Stat0) : (w.stat0Regs c s).MemWf ↔ w.MemWf :=
  memWf_of_view (by apply view_stat0Regs <;> rfl)
@[simp] theorem memWf_recDisable : w.recDisable.MemWf ↔ w.MemWf := memWf_of_view (by apply view_recDisable <;> rfl)
@[simp] theorem memWf_swapWrite (x : Word) : (w.swapWrite x).MemWf ↔ w.MemWf := memWf_of_view (by apply view_swapWrite <;> rfl)
@[simp] theorem memWf_spSwap (n q : Nat) (en : Bool) (tacc tjerk : Nat) (lpEn : Bool) : (w.spSwap n q en tacc tjerk lpEn).MemWf ↔ w.MemWf :=
  memWf_of_view (by apply view_spSwap <;> rfl)
@[simp] theorem memWf_forcedSafeRg (n cause src : Nat) : (w.forcedSafeRg n cause src).MemWf ↔ w.MemWf :=
  memWf_of_view (by apply view_forcedSafeRg <;> rfl)
@[simp] theorem memWf_lanesFollow (n : Nat) : (w.lanesFollow n).MemWf ↔ w.MemWf := memWf_of_view (by apply view_lanesFollow <;> rfl)
@[simp] theorem memWf_ash (r : AshRec) : (w.ash r).MemWf ↔ w.MemWf := memWf_of_view (by apply view_ash <;> rfl)
@[simp] theorem memWf_twinCommit (n : Nat) (b : Int) : (w.twinCommit n b).MemWf ↔ w.MemWf :=
  memWf_of_view (by apply view_twinCommit <;> rfl)
@[simp] theorem memWf_modKin (f : KinSt → KinSt) : (w.modKin f).MemWf ↔ w.MemWf := memWf_of_view (by apply view_modKin <;> rfl)
@[simp] theorem memWf_swapSend : w.swapSend.MemWf ↔ w.MemWf := memWf_of_view (by apply view_swapSend <;> rfl)
@[simp] theorem memWf_slotsRead : w.slotsRead.MemWf ↔ w.MemWf := memWf_of_view (by apply view_slotsRead <;> rfl)
@[simp] theorem memWf_lastEv (n kind lane s : Nat) : (w.lastEv n kind lane s).MemWf ↔ w.MemWf :=
  memWf_of_view (by apply view_lastEv <;> rfl)
@[simp] theorem memWf_chopEvalAll : w.chopEvalAll.MemWf ↔ w.MemWf := memWf_of_view (by apply view_chopEvalAll <;> rfl)
@[simp] theorem memWf_boundaryStep5 (n : Nat) (b nb : Int) : (w.boundaryStep5 n b nb).MemWf ↔ w.MemWf :=
  memWf_of_view (by apply view_boundaryStep5 <;> rfl)
@[simp] theorem memWf_stResult (o : Nat) (s : Stat0) : (w.stResult o s).MemWf ↔ w.MemWf := memWf_of_view (by apply view_stResult <;> rfl)
@[simp] theorem memWf_accErr (flag : Field) (bar off : Nat) : (w.accErr flag bar off).MemWf ↔ w.MemWf :=
  memWf_of_view (by apply view_accErr <;> rfl)
@[simp] theorem memWf_emit (o : Out) : (w.emit o).MemWf ↔ w.MemWf := memWf_of_view (by apply view_emit <;> rfl)
@[simp] theorem memWf_refuse (o cause : Nat) : (w.refuse o cause).MemWf ↔ w.MemWf := memWf_of_view (by apply view_refuse <;> rfl)
@[simp] theorem memWf_emberDecide (n : Nat) (v : Rat) : (w.emberDecide n v).MemWf ↔ w.MemWf :=
  memWf_of_view (by apply view_emberDecide <;> rfl)
@[simp] theorem memWf_moveCarrier (u : Nat) (b1 b2 : Int) : (w.moveCarrier u b1 b2).MemWf ↔ w.MemWf :=
  memWf_of_view (by apply view_moveCarrier <;> rfl)
@[simp] theorem memWf_twinRefuse (cause : Nat) : (w.twinRefuse cause).MemWf ↔ w.MemWf := memWf_of_view (by apply view_twinRefuse <;> rfl)
@[simp] theorem memWf_handover : w.handover.MemWf ↔ w.MemWf := memWf_of_view (by apply view_handover <;> rfl)
@[simp] theorem memWf_pcTimeout (o : Nat) : (w.pcTimeout o).MemWf ↔ w.MemWf := memWf_of_view (by apply view_pcTimeout <;> rfl)
@[simp] theorem memWf_modAdc (a : Nat) (f : Adc → Adc) : (w.modAdc a f).MemWf ↔ w.MemWf := memWf_of_view (by apply view_modAdc <;> rfl)
@[simp] theorem memWf_freshWord : w.freshWord.1.MemWf ↔ w.MemWf := memWf_of_view (by apply view_freshWord <;> rfl)
@[simp] theorem memWf_hostSlot (n k : Nat) (v : Word) : (w.hostSlot n k v).MemWf ↔ w.MemWf :=
  memWf_of_view (by apply view_hostSlot <;> rfl)
@[simp] theorem memWf_sleepStart : w.sleepStart.MemWf ↔ w.MemWf := memWf_of_view (by apply view_sleepStart <;> rfl)
@[simp] theorem memWf_voidAfter (f : Int) : (w.voidAfter f).MemWf ↔ w.MemWf := memWf_of_view (by apply view_voidAfter <;> rfl)
@[simp] theorem memWf_adcCal (a : Nat) : (w.adcCal a).MemWf ↔ w.MemWf := memWf_of_view (by apply view_adcCal <;> rfl)
@[simp] theorem memWf_peakReset : w.peakReset.MemWf ↔ w.MemWf := memWf_of_view (by apply view_peakReset <;> rfl)
@[simp] theorem memWf_supdGo (img : Nat) : (w.supdGo img).MemWf ↔ w.MemWf := memWf_of_view (by apply view_supdGo <;> rfl)
@[simp] theorem memWf_fbSet (n q : Nat) : (w.fbSet n q).MemWf ↔ w.MemWf := memWf_of_view (by apply view_fbSet <;> rfl)
@[simp] theorem memWf_sramBytes (off len : Nat) : (w.sramBytes off len).1.MemWf ↔ w.MemWf :=
  memWf_of_view (by apply view_sramBytes <;> rfl)
@[simp] theorem memWf_releasing (n : Nat) (b : Int) : (w.releasing n b).MemWf ↔ w.MemWf := memWf_of_view (by apply view_releasing <;> rfl)
@[simp] theorem memWf_stGo (c : Nat) : (w.stGo c).MemWf ↔ w.MemWf := memWf_of_view (by apply view_stGo <;> rfl)
@[simp] theorem memWf_planSend : w.planSend.MemWf ↔ w.MemWf := memWf_of_view (by apply view_planSend <;> rfl)
@[simp] theorem memWf_forcedSafe (c cause src : Nat) : (w.forcedSafe c cause src).MemWf ↔ w.MemWf :=
  memWf_of_view (by apply view_forcedSafe <;> rfl)
@[simp] theorem memWf_swapRefuse (cause info : Nat) : (w.swapRefuse cause info).MemWf ↔ w.MemWf :=
  memWf_of_view (by apply view_swapRefuse <;> rfl)
@[simp] theorem memWf_qDrop (q : Nat) : (w.qDrop q).MemWf ↔ w.MemWf := memWf_of_view (by apply view_qDrop <;> rfl)
@[simp] theorem memWf_cstat (o : Nat) (f : Field) (v : Nat) : (w.cstat o f v).MemWf ↔ w.MemWf :=
  memWf_of_view (by apply view_cstat <;> rfl)
@[simp] theorem memWf_startRegion (n : Nat) : (w.startRegion n).MemWf ↔ w.MemWf := memWf_of_view (by apply view_startRegion <;> rfl)
@[simp] theorem memWf_bistGo (rgs : Nat) : (w.bistGo rgs).MemWf ↔ w.MemWf := memWf_of_view (by apply view_bistGo <;> rfl)
@[simp] theorem memWf_swapFinish : w.swapFinish.MemWf ↔ w.MemWf := memWf_of_view (by apply view_swapFinish <;> rfl)
@[simp] theorem memWf_modHearth (f : HearthSt → HearthSt) : (w.modHearth f).MemWf ↔ w.MemWf :=
  memWf_of_view (by apply view_modHearth <;> rfl)
@[simp] theorem memWf_eccLast (mem word : Nat) (ue : Bool) : (w.eccLast mem word ue).MemWf ↔ w.MemWf :=
  memWf_of_view (by apply view_eccLast <;> rfl)
@[simp] theorem memWf_recEnable : w.recEnable.MemWf ↔ w.MemWf := memWf_of_view (by apply view_recEnable <;> rfl)
@[simp] theorem memWf_winShow (u : Nat) : (w.winShow u).MemWf ↔ w.MemWf := memWf_of_view (by apply view_winShow <;> rfl)
@[simp] theorem memWf_setLines (l : List Report) : (w.setLines l).MemWf ↔ w.MemWf := memWf_of_view (by apply view_setLines <;> rfl)
@[simp] theorem memWf_modTherm (f : ThermSt → ThermSt) : (w.modTherm f).MemWf ↔ w.MemWf := memWf_of_view (by apply view_modTherm <;> rfl)
@[simp] theorem memWf_adcNormal (a : Nat) (r : AdcReq) : (w.adcNormal a r).MemWf ↔ w.MemWf :=
  memWf_of_view (by apply view_adcNormal <;> rfl)
@[simp] theorem memWf_dropHeld : w.dropHeld.MemWf ↔ w.MemWf := memWf_of_view (by apply view_dropHeld <;> rfl)
@[simp] theorem memWf_kFail (step cause : Nat) : (w.kFail step cause).MemWf ↔ w.MemWf := memWf_of_view (by apply view_kFail <;> rfl)
@[simp] theorem memWf_emberStage (a : Nat) (x : Word) : (w.emberStage a x).MemWf ↔ w.MemWf :=
  memWf_of_view (by apply view_emberStage <;> rfl)
@[simp] theorem memWf_event (cls pg : Nat) (payload : List Nat) : (w.event cls pg payload).MemWf ↔ w.MemWf :=
  memWf_of_view (by apply view_event <;> rfl)
@[simp] theorem memWf_twinShow : w.twinShow.MemWf ↔ w.MemWf := memWf_of_view (by apply view_twinShow <;> rfl)
@[simp] theorem memWf_imageAccept (k : Nat) (host : Bool) : (w.imageAccept k host).MemWf ↔ w.MemWf :=
  memWf_of_view (by apply view_imageAccept <;> rfl)
@[simp] theorem memWf_supdVerdict (bs : List Byte) (r : Option Nat) : (w.supdVerdict bs r).MemWf ↔ w.MemWf :=
  memWf_of_view (by apply view_supdVerdict <;> rfl)
@[simp] theorem memWf_bistRefuse (cause : Nat) : (w.bistRefuse cause).MemWf ↔ w.MemWf := memWf_of_view (by apply view_bistRefuse <;> rfl)
@[simp] theorem memWf_wcTest (k : Nat) : (w.wcTest k).MemWf ↔ w.MemWf := memWf_of_view (by apply view_wcTest <;> rfl)
@[simp] theorem memWf_qShow (q : Nat) : (w.qShow q).MemWf ↔ w.MemWf := memWf_of_view (by apply view_qShow <;> rfl)
@[simp] theorem memWf_release (plea : Bool) : (w.release plea).MemWf ↔ w.MemWf := memWf_of_view (by apply view_release <;> rfl)
@[simp] theorem memWf_setAin (k : Nat) (v : Rat) : (w.setAin k v).MemWf ↔ w.MemWf := memWf_of_view (by apply view_setAin <;> rfl)
@[simp] theorem memWf_msix (v : Nat) : (w.msix v).MemWf ↔ w.MemWf := memWf_of_view (by apply view_msix <;> rfl)
@[simp] theorem memWf_sealView (n : Nat) : (w.sealView n).MemWf ↔ w.MemWf := memWf_of_view (by apply view_sealView <;> rfl)
@[simp] theorem memWf_stallEnd (domains : List Nat) : (w.stallEnd domains).MemWf ↔ w.MemWf :=
  memWf_of_view (by apply view_stallEnd <;> rfl)
@[simp] theorem memWf_modTwinRg (n : Nat) (f : TwinRg → TwinRg) : (w.modTwinRg n f).MemWf ↔ w.MemWf :=
  memWf_of_view (by apply view_modTwinRg <;> rfl)
@[simp] theorem memWf_recState (st : Nat) : (w.recState st).MemWf ↔ w.MemWf := memWf_of_view (by apply view_recState <;> rfl)
@[simp] theorem memWf_modCl (c : Nat) (f : Cluster → Cluster) : (w.modCl c f).MemWf ↔ w.MemWf :=
  memWf_of_view (by apply view_modCl <;> rfl)
@[simp] theorem memWf_resyncAll : w.resyncAll.MemWf ↔ w.MemWf := memWf_of_view (by apply view_resyncAll <;> rfl)
@[simp] theorem memWf_sendRole : w.sendRole.MemWf ↔ w.MemWf := memWf_of_view (by apply view_sendRole <;> rfl)
@[simp] theorem memWf_setEpoch (e : Nat) : (w.setEpoch e).MemWf ↔ w.MemWf := memWf_of_view (by apply view_setEpoch <;> rfl)
@[simp] theorem memWf_setEvents (l : List Event) : (w.setEvents l).MemWf ↔ w.MemWf := memWf_of_view (by apply view_setEvents <;> rfl)
@[simp] theorem memWf_cmdAck (o cack : Nat) : (w.cmdAck o cack).MemWf ↔ w.MemWf := memWf_of_view (by apply view_cmdAck <;> rfl)
@[simp] theorem memWf_planRegion (n : Nat) (b1 b2 : Int) : (w.planRegion n b1 b2).MemWf ↔ w.MemWf :=
  memWf_of_view (by apply view_planRegion <;> rfl)
@[simp] theorem memWf_vlink (o : Nat) : (w.vlink o).1.MemWf ↔ w.MemWf := memWf_of_view (by apply view_vlink <;> rfl)
@[simp] theorem memWf_zeroSlots (n : Nat) : (w.zeroSlots n).MemWf ↔ w.MemWf := memWf_of_view (by apply view_zeroSlots <;> rfl)
@[simp] theorem memWf_qReset (q : Nat) : (w.qReset q).MemWf ↔ w.MemWf := memWf_of_view (by apply view_qReset <;> rfl)
@[simp] theorem memWf_fabErr (fence : Nat) (busy write : Bool) (off : Nat) : (w.fabErr fence busy write off).MemWf ↔ w.MemWf :=
  memWf_of_view (by apply view_fabErr <;> rfl)
@[simp] theorem memWf_qcmdWrite (q : Nat) (x : Word) : (w.qcmdWrite q x).MemWf ↔ w.MemWf :=
  memWf_of_view (by apply view_qcmdWrite <;> rfl)
@[simp] theorem memWf_twinSeal (n : Nat) (b : Int) : (w.twinSeal n b).MemWf ↔ w.MemWf := memWf_of_view (by apply view_twinSeal <;> rfl)
@[simp] theorem memWf_laneEnable (l : LaneId) (en : Bool) : (w.laneEnable l en).MemWf ↔ w.MemWf :=
  memWf_of_view (by apply view_laneEnable <;> rfl)
@[simp] theorem memWf_sendCmd (o op : Nat) (arg : BitVec 64) : (w.sendCmd o op arg).MemWf ↔ w.MemWf :=
  memWf_of_view (by apply view_sendCmd <;> rfl)
@[simp] theorem memWf_modRec (f : RecSt → RecSt) : (w.modRec f).MemWf ↔ w.MemWf := memWf_of_view (by apply view_modRec <;> rfl)
@[simp] theorem memWf_resumeClusters (n : Nat) (te : Int) : (w.resumeClusters n te).MemWf ↔ w.MemWf :=
  memWf_of_view (by apply view_resumeClusters <;> rfl)
@[simp] theorem memWf_modTwin (f : TwinSt → TwinSt) : (w.modTwin f).MemWf ↔ w.MemWf := memWf_of_view (by apply view_modTwin <;> rfl)
@[simp] theorem memWf_countTrip (u o : Nat) (ts : Int) : (w.countTrip u o ts).MemWf ↔ w.MemWf :=
  memWf_of_view (by apply view_countTrip <;> rfl)
@[simp] theorem memWf_zero (cause : Nat) : (w.zero cause).MemWf ↔ w.MemWf := memWf_of_view (by apply view_zero <;> rfl)
@[simp] theorem memWf_discardSets : w.discardSets.MemWf ↔ w.MemWf := memWf_of_view (by apply view_discardSets <;> rfl)
@[simp] theorem memWf_reckonEnd (n : Nat) (ok : Bool) : (w.reckonEnd n ok).MemWf ↔ w.MemWf :=
  memWf_of_view (by apply view_reckonEnd <;> rfl)
@[simp] theorem memWf_hostState (n x : Nat) (v : Word) : (w.hostState n x v).MemWf ↔ w.MemWf :=
  memWf_of_view (by apply view_hostState <;> rfl)
@[simp] theorem memWf_umark (key rgs : Nat) : (w.umark key rgs).MemWf ↔ w.MemWf := memWf_of_view (by apply view_umark <;> rfl)
@[simp] theorem memWf_modLn (c : Nat) (f : Lane → Lane) : (w.modLn c f).MemWf ↔ w.MemWf := memWf_of_view (by apply view_modLn <;> rfl)
@[simp] theorem memWf_hello : w.hello.MemWf ↔ w.MemWf := memWf_of_view (by apply view_hello <;> rfl)
@[simp] theorem memWf_loadSealed (bs : List Byte) : (w.loadSealed bs).MemWf ↔ w.MemWf := memWf_of_view (by apply view_loadSealed <;> rfl)
@[simp] theorem memWf_modRg (n : Nat) (f : Region → Region) : (w.modRg n f).MemWf ↔ w.MemWf := memWf_of_view (by apply view_modRg <;> rfl)
@[simp] theorem memWf_fence (f : Nat) (up : Bool) : (w.fence f up).MemWf ↔ w.MemWf := memWf_of_view (by apply view_fence <;> rfl)
@[simp] theorem memWf_modQ (q : Nat) (f : EqQ → EqQ) : (w.modQ q f).MemWf ↔ w.MemWf := memWf_of_view (by apply view_modQ <;> rfl)
@[simp] theorem memWf_recRestart : w.recRestart.MemWf ↔ w.MemWf := memWf_of_view (by apply view_recRestart <;> rfl)
@[simp] theorem memWf_selfCheck (ok : Bool) : (w.selfCheck ok).MemWf ↔ w.MemWf := memWf_of_view (by apply view_selfCheck <;> rfl)
@[simp] theorem memWf_toMoved (m : Nat) : (w.toMoved m).MemWf ↔ w.MemWf := memWf_of_view (by apply view_toMoved <;> rfl)
@[simp] theorem memWf_modEmber (f : EmberSt → EmberSt) : (w.modEmber f).MemWf ↔ w.MemWf := memWf_of_view (by apply view_modEmber <;> rfl)
@[simp] theorem memWf_emberQualify (n : Nat) : (w.emberQualify n).1.MemWf ↔ w.MemWf := memWf_of_view (by apply view_emberQualify <;> rfl)
@[simp] theorem memWf_qCheck (q : Nat) (mis : Bool) : (w.qCheck q mis).MemWf ↔ w.MemWf := memWf_of_view (by apply view_qCheck <;> rfl)
@[simp] theorem memWf_freeBytes (n : Nat) : (w.freeBytes n).1.MemWf ↔ w.MemWf := memWf_of_view (by apply view_freeBytes <;> rfl)
@[simp] theorem memWf_setShut (b : Bool) : (w.setShut b).MemWf ↔ w.MemWf := memWf_of_view (by apply view_setShut <;> rfl)
@[simp] theorem memWf_unfenceRegion (n : Nat) : (w.unfenceRegion n).MemWf ↔ w.MemWf := memWf_of_view (by apply view_unfenceRegion <;> rfl)
@[simp] theorem memWf_markBad (m k : Nat) : (w.markBad m k).MemWf ↔ w.MemWf := memWf_of_view (by apply view_markBad <;> rfl)
@[simp] theorem memWf_censusBoundary (n : Nat) (b : Int) (old : List (Nat × Nat × Nat)) : (w.censusBoundary n b old).MemWf ↔ w.MemWf :=
  memWf_of_view (by apply view_censusBoundary <;> rfl)
@[simp] theorem memWf_cycWrite (n v : Nat) : (w.cycWrite n v).MemWf ↔ w.MemWf := memWf_of_view (by apply view_cycWrite <;> rfl)
@[simp] theorem memWf_sealAbacus (n : Nat) (ok : Bool) : (w.sealAbacus n ok).MemWf ↔ w.MemWf :=
  memWf_of_view (by apply view_sealAbacus <;> rfl)
@[simp] theorem memWf_activate (n : Nat) (swap : Bool) : (w.activate n swap).MemWf ↔ w.MemWf :=
  memWf_of_view (by apply view_activate <;> rfl)
@[simp] theorem memWf_swapReport (code : Nat) (last : Bool) : (w.swapReport code last).MemWf ↔ w.MemWf :=
  memWf_of_view (by apply view_swapReport <;> rfl)
@[simp] theorem memWf_slRetrain (l : Fin 12) : (w.slRetrain l).MemWf ↔ w.MemWf := memWf_of_view (by apply view_slRetrain <;> rfl)
@[simp] theorem memWf_scheduleRegion (n : Nat) (b1 : Int) (ilk : List (Fin 192 × BitVec 2)) : (w.scheduleRegion n b1 ilk).MemWf ↔ w.MemWf :=
  memWf_of_view (by apply view_scheduleRegion <;> rfl)
@[simp] theorem memWf_raStart : w.raStart.MemWf ↔ w.MemWf := memWf_of_view (by apply view_raStart <;> rfl)
@[simp] theorem memWf_conflict : w.conflict.MemWf ↔ w.MemWf := memWf_of_view (by apply view_conflict <;> rfl)
@[simp] theorem memWf_sensorInject (grad : Nat → Int) : (w.sensorInject grad).MemWf ↔ w.MemWf :=
  memWf_of_view (by apply view_sensorInject <;> rfl)
@[simp] theorem memWf_fomRst (l : LaneId) : (w.fomRst l).MemWf ↔ w.MemWf := memWf_of_view (by apply view_fomRst <;> rfl)
@[simp] theorem memWf_freezeReq : w.freezeReq.MemWf ↔ w.MemWf := memWf_of_view (by apply view_freezeReq <;> rfl)
@[simp] theorem memWf_cstoreGo (s : Nat) : (w.cstoreGo s).MemWf ↔ w.MemWf := memWf_of_view (by apply view_cstoreGo <;> rfl)
@[simp] theorem memWf_ucAnew (c : Coll) : (w.ucAnew c).MemWf ↔ w.MemWf := memWf_of_view (by apply view_ucAnew <;> rfl)
@[simp] theorem memWf_tempShow : w.tempShow.MemWf ↔ w.MemWf := memWf_of_view (by apply view_tempShow <;> rfl)
@[simp] theorem memWf_bistAbort (n : Nat) (zero : Bool) : (w.bistAbort n zero).MemWf ↔ w.MemWf :=
  memWf_of_view (by apply view_bistAbort <;> rfl)
@[simp] theorem memWf_thawIfFree : w.thawIfFree.MemWf ↔ w.MemWf := memWf_of_view (by apply view_thawIfFree <;> rfl)
@[simp] theorem memWf_hdCommit (u : Nat) : (w.hdCommit u).MemWf ↔ w.MemWf := memWf_of_view (by apply view_hdCommit <;> rfl)
@[simp] theorem memWf_setFlue (l : List InFlight) : (w.setFlue l).MemWf ↔ w.MemWf := memWf_of_view (by apply view_setFlue <;> rfl)
@[simp] theorem memWf_chopEval (n : Nat) (retry : Bool) : (w.chopEval n retry).MemWf ↔ w.MemWf :=
  memWf_of_view (by apply view_chopEval <;> rfl)
@[simp] theorem memWf_fileSlot (n : Nat) (f : Filed) (b : Int) : (w.fileSlot n f b).MemWf ↔ w.MemWf :=
  memWf_of_view (by apply view_fileSlot <;> rfl)
@[simp] theorem memWf_chopSet (n : Nat) (on : Bool) : (w.chopSet n on).MemWf ↔ w.MemWf := memWf_of_view (by apply view_chopSet <;> rfl)
@[simp] theorem memWf_wcOff (k : Nat) : (w.wcOff k).MemWf ↔ w.MemWf := memWf_of_view (by apply view_wcOff <;> rfl)
@[simp] theorem memWf_publish (n : Nat) : (w.publish n).MemWf ↔ w.MemWf := memWf_of_view (by apply view_publish <;> rfl)
@[simp] theorem memWf_toWrite (m : Nat) (x : Word) : (w.toWrite m x).MemWf ↔ w.MemWf := memWf_of_view (by apply view_toWrite <;> rfl)
@[simp] theorem memWf_laneShow (c : Nat) : (w.laneShow c).MemWf ↔ w.MemWf := memWf_of_view (by apply view_laneShow <;> rfl)
@[simp] theorem memWf_tripShow : w.tripShow.MemWf ↔ w.MemWf := memWf_of_view (by apply view_tripShow <;> rfl)
@[simp] theorem memWf_capWrite (k : Nat) (x : Word) : (w.capWrite k x).MemWf ↔ w.MemWf := memWf_of_view (by apply view_capWrite <;> rfl)
@[simp] theorem memWf_sctlWrite (x : Word) : (w.sctlWrite x).MemWf ↔ w.MemWf := memWf_of_view (by apply view_sctlWrite <;> rfl)
@[simp] theorem memWf_tripCmd (set clr : Nat) : (w.tripCmd set clr).MemWf ↔ w.MemWf := memWf_of_view (by apply view_tripCmd <;> rfl)
@[simp] theorem memWf_adcUcmd (a ch : Nat) : (w.adcUcmd a ch).MemWf ↔ w.MemWf := memWf_of_view (by apply view_adcUcmd <;> rfl)
@[simp] theorem memWf_tapSelect (ir : Nat) : (w.tapSelect ir).MemWf ↔ w.MemWf := memWf_of_view (by apply view_tapSelect <;> rfl)
@[simp] theorem memWf_tripFlags (o : Nat) (f : TripFlags) : (w.tripFlags o f).MemWf ↔ w.MemWf :=
  memWf_of_view (by apply view_tripFlags <;> rfl)
@[simp] theorem memWf_capture (k : Nat) (falling : Bool) (sub : Option Nat) : (w.capture k falling sub).MemWf ↔ w.MemWf :=
  memWf_of_view (by apply view_capture <;> rfl)
@[simp] theorem memWf_restartPre (u on off : Nat) : (w.restartPre u on off).MemWf ↔ w.MemWf :=
  memWf_of_view (by apply view_restartPre <;> rfl)
@[simp] theorem memWf_cellRetrain (c : Fin 48) : (w.cellRetrain c).MemWf ↔ w.MemWf := memWf_of_view (by apply view_cellRetrain <;> rfl)
@[simp] theorem memWf_discard : w.discard.MemWf ↔ w.MemWf := memWf_of_view (by apply view_discard <;> rfl)
@[simp] theorem memWf_safeAction (o cause : Nat) : (w.safeAction o cause).MemWf ↔ w.MemWf :=
  memWf_of_view (by apply view_safeAction <;> rfl)
@[simp] theorem memWf_secDo (n s : Nat) (c : Sec) (f : SectionFinding) : (w.secDo n s c f).MemWf ↔ w.MemWf :=
  memWf_of_view (by apply view_secDo <;> rfl)
@[simp] theorem memWf_sendConfig (o : Nat) : (w.sendConfig o).MemWf ↔ w.MemWf := memWf_of_view (by apply view_sendConfig <;> rfl)
@[simp] theorem memWf_fastSample : w.fastSample.MemWf ↔ w.MemWf := memWf_of_view (by apply view_fastSample <;> rfl)
@[simp] theorem memWf_stopUnits (o : Nat) : (w.stopUnits o).MemWf ↔ w.MemWf := memWf_of_view (by apply view_stopUnits <;> rfl)
@[simp] theorem memWf_modUn (u : Nat) (f : LegUnit → LegUnit) : (w.modUn u f).MemWf ↔ w.MemWf :=
  memWf_of_view (by apply view_modUn <;> rfl)
@[simp] theorem memWf_boundaryStep3 (n : Nat) : (w.boundaryStep3 n).MemWf ↔ w.MemWf := memWf_of_view (by apply view_boundaryStep3 <;> rfl)
@[simp] theorem memWf_wakeReq (ec : List Nat) (alarm : Bool) : (w.wakeReq ec alarm).MemWf ↔ w.MemWf :=
  memWf_of_view (by apply view_wakeReq <;> rfl)
@[simp] theorem memWf_hoShow : w.hoShow.MemWf ↔ w.MemWf := memWf_of_view (by apply view_hoShow <;> rfl)
@[simp] theorem memWf_leaveCycle (n : Nat) : (w.leaveCycle n).MemWf ↔ w.MemWf := memWf_of_view (by apply view_leaveCycle <;> rfl)
@[simp] theorem memWf_adcNext (a : Nat) : (w.adcNext a).MemWf ↔ w.MemWf := memWf_of_view (by apply view_adcNext <;> rfl)
@[simp] theorem memWf_recRearm : w.recRearm.MemWf ↔ w.MemWf := memWf_of_view (by apply view_recRearm <;> rfl)

/-! ### Combining operations -/

@[simp] theorem memWf_when {c : Bool} {f : Work → Work} (h : w.MemWf) (hf : w.MemWf → (f w).MemWf) : (w.when c f).MemWf := by
  unfold Work.when
  split
  · exact hf h
  · exact h

@[simp] theorem memWf_ite {c : Prop} [Decidable c] (hw : w.MemWf) (hv : v.MemWf) : (if c then w else v).MemWf := by
  split <;> assumption

@[simp] theorem memWf_each {α : Type} {l : List α} {f : Work → α → Work} (h : w.MemWf)
    (hf : ∀ v a, v.MemWf → (f v a).MemWf) : (w.each l f).MemWf := by
  unfold Work.each
  induction l generalizing w with
  | nil => exact h
  | cons a l ih => exact ih (hf w a h)

@[simp] theorem memWf_unlocked {pg : Nat} {f : Work → Work} (h : w.MemWf) (hf : ∀ v, v.MemWf → (f v).MemWf) :
    (w.unlocked pg f).MemWf := by
  unfold Work.unlocked
  split
  · exact h
  · exact hf w h

/-! ### Registers and faults -/

@[simp] theorem memWf_put (a : Nat) (d : Word) : (w.put a d).MemWf ↔ w.MemWf := Iff.rfl
@[simp] theorem memWf_wr (pg : Nat) (f : Field) (x i : Nat) : (w.wr pg f x i).MemWf ↔ w.MemWf := Iff.rfl
@[simp] theorem memWf_count (pg : Nat) (f : Field) (n i : Nat) : (w.count pg f n i).MemWf ↔ w.MemWf := Iff.rfl
@[simp] theorem memWf_badval (pg : Nat) : (w.badval pg).MemWf ↔ w.MemWf := Iff.rfl
@[simp] theorem memWf_stamp (pg : Nat) (f g : Field) (t : Time) : (w.stamp pg f g t).MemWf ↔ w.MemWf := Iff.rfl
@[simp] theorem memWf_setBit (pg : Nat) (f : Field) (b i : Nat) : (w.setBit pg f b i).MemWf ↔ w.MemWf := by
  unfold Work.setBit; split <;> exact Iff.rfl
@[simp] theorem memWf_clrBit (pg : Nat) (f : Field) (b i : Nat) : (w.clrBit pg f b i).MemWf ↔ w.MemWf := by
  unfold Work.clrBit; split <;> exact Iff.rfl
@[simp] theorem memWf_putBit (pg : Nat) (f : Field) (b : Nat) (x : Bool) (i : Nat) : (w.putBit pg f b x i).MemWf ↔ w.MemWf := by
  unfold Work.putBit; split <;> simp
@[simp] theorem memWf_bothBits (a : Nat) (m x : Word) : (w.bothBits a m x).MemWf ↔ w.MemWf := Iff.rfl
@[simp] theorem memWf_shBits (a : Nat) (m x : Word) : (w.shBits a m x).MemWf ↔ w.MemWf := Iff.rfl
@[simp] theorem memWf_lockWrite (pg : Nat) (x : Word) : (w.lockWrite pg x).MemWf ↔ w.MemWf := by
  unfold Work.lockWrite; split <;> exact Iff.rfl
@[simp] theorem memWf_injDone (pg : Nat) (hit : Bool) : (w.injDone pg hit).MemWf ↔ w.MemWf := by
  unfold Work.injDone; split <;> exact Iff.rfl
@[simp] theorem memWf_injEcc (pg chk : Nat) (e : Ecc) : (w.injEcc pg chk e).1.MemWf ↔ w.MemWf := by
  unfold Work.injEcc; split
  · cases e <;> simp
  · rfl

@[simp] theorem memWf_fltTo (pg : Nat) (cls : FaultClass) (bit : Nat) (dst : Option (Coll × Nat)) (info : Word) (h : w.MemWf) :
    (w.fltTo pg cls bit dst info).MemWf := by
  unfold Work.fltTo
  cases dst <;> simp (maxDischargeDepth := 9) [h]

@[simp] theorem memWf_flt (pg : Nat) (cls : FaultClass) (bit : Nat) (info : Word) (h : w.MemWf) : (w.flt pg cls bit info).MemWf :=
  memWf_fltTo _ _ _ _ _ h

/-! ### Writes of the host -/

theorem memWf_storeField (k : PageKind) (inst pg : Nat) (f : Field) (i : Nat) (x : Word) :
    (w.storeField k inst pg f i x).MemWf ↔ w.MemWf := by unfold Work.storeField; split <;> simp

@[simp] theorem memWf_storeFields (k : PageKind) (inst pg : Nat) (l : List (Field × Nat)) (x : Word) (h : w.MemWf) :
    (w.storeFields k inst pg l x).MemWf := memWf_each h fun _ _ => (memWf_storeField ..).2

@[simp] theorem memWf_modLp (n q : Nat) (f : LoopSt → LoopSt) : (w.modLp n q f).MemWf ↔ w.MemWf := Iff.rfl

@[simp] theorem memWf_liveWrite (k : PageKind) (inst pg o : Nat) (x : Word) (h : w.MemWf) : (w.liveWrite k inst pg o x).MemWf := by
  unfold Work.liveWrite
  cases k with
  | sp => dsimp only; split <;> simp [h]
  | _ => simp [h]

@[simp] theorem memWf_sealClear (n a : Nat) (m : Word) : (w.sealClear n a m).MemWf ↔ w.MemWf := Iff.rfl

@[simp] theorem memWf_w1cAfter (k : PageKind) (inst : Nat) (f : Field) (i : Nat) (h : w.MemWf) : (w.w1cAfter k inst f i).MemWf := by
  unfold Work.w1cAfter
  cases k <;> simp [h]

@[simp] theorem memWf_w1cField (k : PageKind) (inst pg : Nat) (f : Field) (i : Nat) (x : Word) (h : w.MemWf) :
    (w.w1cField k inst pg f i x).MemWf := by
  unfold Work.w1cField
  split <;> simp (maxDischargeDepth := 9) [h]

@[simp] theorem memWf_clearWrite (k : PageKind) (inst pg o : Nat) (x : Word) (h : w.MemWf) : (w.clearWrite k inst pg o x).MemWf := by
  unfold Work.clearWrite
  exact memWf_each (memWf_each h fun _ _ hv => memWf_w1cField _ _ _ _ _ _ hv) fun _ _ hv => memWf_when hv fun hv => hv

/-- What stores the bits of one mask leaves the memories as they are, and so does the store of a whole register. -/
theorem memWf_rwsStore (a : Nat) (x : Word) (put : Work → Nat → Word → Word → Work) (h : w.MemWf)
    (hput : ∀ v a m y, v.MemWf → (put v a m y).MemWf) : (w.rwsStore a x put).1.MemWf := by
  unfold Work.rwsStore
  split
  · exact hput w a _ x h
  split
  · exact h
  rename_i k inst _
  generalize accAt k (a % 0x1000) .rws = l
  have key : ∀ q : Work × Bool, q.1.MemWf → (l.foldl (fun q e =>
      if q.1.valueOk k inst e.1 e.2 x then (put q.1 a e.1.mask x, q.2) else (q.1.badval (a / 0x1000 * 0x1000), true)) q).1.MemWf := by
    induction l with
    | nil => exact fun q hq => hq
    | cons e l ih =>
      intro q hq
      rw [List.foldl_cons]
      apply ih
      split
      · exact hput _ a _ x hq
      · exact hq
  exact key (w, false) h

@[simp] theorem memWf_shadowWrite (a pg : Nat) (x : Word) (h : w.MemWf) : (w.shadowWrite a pg x).1.MemWf := by
  unfold Work.shadowWrite
  split
  · exact h
  split
  · repeat' split
    all_goals exact h
  · exact memWf_when (memWf_rwsStore _ _ _ h fun _ _ _ _ hv => hv) fun hv => hv

@[simp] theorem memWf_exchange (p : Nat → Bool) (h : w.MemWf) : (w.exchange p).MemWf := memWf_each h fun _ _ h => h

@[simp] theorem memWf_cleanPages (p : Nat → Bool) (h : w.MemWf) : (w.cleanPages p).MemWf := memWf_each h fun _ _ h => h


end Sys2Proof.Machine
end

section
-- One task at a time: the check bounds the memory of all of Lean's threads together.
set_option Elab.async false
set_option linter.all false

/-! SUPPORT. The operations from which a store of the DRAM or of the hub SRAM is reached: each keeps the canonical form of the memories.
They reach it through the recorder's index, the Ash copies, the queues' overflow, the boot flash, the rewriting of check bits and BAR2. -/

namespace Sys2Proof.Machine

variable {w : Work}

/-! ### The stores -/

@[simp] theorem memWf_dramPut (a : Nat) (bs : List Byte) (h : w.MemWf) : (w.dramPut a bs).MemWf := ⟨dramPut_wf w a bs h.1, h.2⟩
@[simp] theorem memWf_sramPut (a : Nat) (ds : List Word) (h : w.MemWf) : (w.sramPut a ds).MemWf := ⟨h.1, sramPut_wf w a ds h.2⟩

/-! ### Host commands -/

theorem memWf_throttle {i : Instr} {f : Work → Work} (h : w.MemWf) (hf : ∀ v, v.MemWf → (f v).MemWf) : (w.throttle i f).MemWf := by
  unfold Work.throttle
  split
  · exact h
  · exact hf w h

theorem memWf_hostAct {i : Instr} {a : Nat} {f : Work → Work} (h : w.MemWf) (hf : ∀ v, v.MemWf → (f v).MemWf) :
    (w.hostAct i a f).MemWf := by
  refine memWf_throttle h fun v hv => ?_
  unfold Work.reach
  split
  · simpa using hv
  · exact hf v hv

/-- A fold that carries another value beside the device. -/
theorem memWf_foldl_fst {α β : Type} {f : Work × β → α → Work × β} (hf : ∀ q a, q.1.MemWf → (f q a).1.MemWf) (l : List α) {q : Work × β}
    (hq : q.1.MemWf) : (l.foldl f q).1.MemWf := by
  induction l generalizing q with
  | nil => exact hq
  | cons a l ih => exact ih (hf q a hq)

/-! ### Operations that reach a store -/

@[simp] theorem memWf_recIndex (k i : Nat) (b : Int) (h : w.MemWf) : (w.recIndex k i b).MemWf := by
  unfold Work.recIndex
  simp [h]

@[simp] theorem memWf_bar2Write (off : Nat) (bs : List Byte) (h : w.MemWf) : (w.bar2Write off bs).MemWf := by
  unfold Work.bar2Write
  split <;> simp [h]

@[simp] theorem memWf_qAppend (q : Nat) (d : List Word) (h : w.MemWf) : (w.qAppend q d).MemWf := by
  unfold Work.qAppend
  simp (maxDischargeDepth := 9) +contextual [h]

@[simp] theorem memWf_flashRead (img : Option (List Byte)) (h : w.MemWf) : (w.flashRead img).MemWf := by
  unfold Work.flashRead
  dsimp only
  (repeat' split) <;> simp [h]

@[simp] theorem memWf_qWrite (q : Nat) (d : List Word) (h : w.MemWf) : (w.qWrite q d).MemWf := by
  unfold Work.qWrite
  simp (maxDischargeDepth := 9) [h]

@[simp] theorem memWf_qPost (q : Nat) (v : Word) (h : w.MemWf) : (w.qPost q v).MemWf := by
  unfold Work.qPost
  simp [h]

@[simp] theorem memWf_recFreeze (fc : Nat) (h : w.MemWf) : (w.recFreeze fc).MemWf := by
  unfold Work.recFreeze
  simp [h]

@[simp] theorem memWf_recCapture (b : Int) (h : w.MemWf) : (w.recCapture b).MemWf := by
  unfold Work.recCapture
  dsimp only
  (repeat' split) <;> simp (maxDischargeDepth := 9) [h]

@[simp] theorem memWf_recTrigger (k : Nat) (host : Bool) (h : w.MemWf) : (w.recTrigger k host).MemWf := by
  unfold Work.recTrigger
  simp (maxDischargeDepth := 9) [h]

@[simp] theorem memWf_recSeal (n : Nat) (b : Int) (h : w.MemWf) : (w.recSeal n b).MemWf := by
  unfold Work.recSeal
  simp (maxDischargeDepth := 9) [h]

@[simp] theorem memWf_recSource (src : Nat) (p : Nat → Bool) (h : w.MemWf) : (w.recSource src p).MemWf := by
  unfold Work.recSource
  split <;> simp [h]

@[simp] theorem memWf_overrun (n : Nat) (h : w.MemWf) : (w.overrun n).MemWf := by
  unfold Work.overrun
  simp (maxDischargeDepth := 9) [h]

@[simp] theorem memWf_react (r : Held) (srclvl page ashKind : Nat) (h : w.MemWf) : (w.react r srclvl page ashKind).MemWf := by
  unfold Work.react
  simp (maxDischargeDepth := 9) [h]

@[simp] theorem memWf_reactFixed (kind level srclvl page : Nat) (h : w.MemWf) : (w.reactFixed kind level srclvl page).MemWf := by
  unfold Work.reactFixed
  simp [h]

@[simp] theorem memWf_outputTime (n : Nat) (ilk : List (Fin 192 × BitVec 2)) (h : w.MemWf) : (w.outputTime n ilk).MemWf := by
  unfold Work.outputTime
  dsimp only
  (repeat' split) <;> simp [h]

@[simp] theorem memWf_collect (c : Coll) (child : Nat) (r : Report) (h : w.MemWf) : (w.collect c child r).MemWf := by
  unfold Work.collect
  dsimp only
  (repeat' split) <;> simp (maxDischargeDepth := 9) [h]

@[simp] theorem memWf_crcPass (upset : Bool) (h : w.MemWf) : (w.crcPass upset).MemWf := by
  unfold Work.crcPass
  simp (maxDischargeDepth := 9) [h]

@[simp] theorem memWf_setRole (r : Nat) (h : w.MemWf) : (w.setRole r).MemWf := by
  unfold Work.setRole
  simp [h]

@[simp] theorem memWf_reactFatal (page : Nat) (h : w.MemWf) : (w.reactFatal page).MemWf := by
  unfold Work.reactFatal
  simp [h]

@[simp] theorem memWf_tapStop (ir : Nat) (h : w.MemWf) : (w.tapStop ir).MemWf := by
  unfold Work.tapStop
  simp [h]

@[simp] theorem memWf_protLatch (o kind idx tripId : Nat) (h : w.MemWf) : (w.protLatch o kind idx tripId).MemWf := by
  unfold Work.protLatch
  simp (maxDischargeDepth := 9) [h]

@[simp] theorem memWf_guardCheck (h : w.MemWf) : w.guardCheck.MemWf := by
  unfold Work.guardCheck
  simp (maxDischargeDepth := 9) [h]

@[simp] theorem memWf_plea (level mask : Nat) (h : w.MemWf) : (w.plea level mask).MemWf := by
  unfold Work.plea
  simp [h]

@[simp] theorem memWf_guardExpire (h : w.MemWf) : w.guardExpire.MemWf := by
  unfold Work.guardExpire
  simp [h]

@[simp] theorem memWf_lbist (hub : Bool) (h : w.MemWf) : (w.lbist hub).MemWf := by
  unfold Work.lbist
  simp [h]

@[simp] theorem memWf_stepDown (h : w.MemWf) : w.stepDown.MemWf := by
  unfold Work.stepDown
  simp (maxDischargeDepth := 9) [h]

@[simp] theorem memWf_lbistGo (hub : Bool) (h : w.MemWf) : (w.lbistGo hub).MemWf := by
  unfold Work.lbistGo
  split <;> simp [h]

@[simp] theorem memWf_freezeAt (f : Int) (h : w.MemWf) : (w.freezeAt f).MemWf := by
  unfold Work.freezeAt
  simp (maxDischargeDepth := 9) [h]

@[simp] theorem memWf_bctlWrite (x : Word) (h : w.MemWf) : (w.bctlWrite x).MemWf := by
  unfold Work.bctlWrite
  simp (maxDischargeDepth := 9) [h]

@[simp] theorem memWf_rwWrite (k : PageKind) (inst pg o : Nat) (x : Word) (h : w.MemWf) : (w.rwWrite k inst pg o x).MemWf := by
  unfold Work.rwWrite
  dsimp only
  (repeat' split) <;> simp [h]

@[simp] theorem memWf_guardResult (code : Nat) (orng urng : Bool) (h : w.MemWf) : (w.guardResult code orng urng).MemWf := by
  unfold Work.guardResult
  simp [h]

@[simp] theorem memWf_hearthFatal (pg bit : Nat) (h : w.MemWf) : (w.hearthFatal pg bit).MemWf := by
  unfold Work.hearthFatal
  simp [h]

@[simp] theorem memWf_protEvent (o kind idx tripId : Nat) (ts : Int) (link : Bool)
    (h : w.MemWf) : (w.protEvent o kind idx tripId ts link).MemWf := by
  unfold Work.protEvent
  dsimp only
  (repeat' split) <;> simp [h]

@[simp] theorem memWf_statRole (c : Nat) (s : Stat0) (h : w.MemWf) : (w.statRole c s).MemWf := by
  unfold Work.statRole
  dsimp only
  split
  · split <;> simp [h]
  · split
    · split <;> simp [h]
    · exact h

@[simp] theorem memWf_stall (site : StallSite) (ret : Bool) (kind chan : Nat) (h : w.MemWf) : (w.stall site ret kind chan).MemWf := by
  unfold Work.stall
  dsimp only
  (repeat' split) <;> simp (maxDischargeDepth := 9) [h]

@[simp] theorem memWf_takeover (ho : Option Nat) (h : w.MemWf) : (w.takeover ho).MemWf := by
  unfold Work.takeover
  simp (maxDischargeDepth := 9) +contextual [h]

@[simp] theorem memWf_helloIn (pair pkg role crc e : Nat) (h : w.MemWf) : (w.helloIn pair pkg role crc e).MemWf := by
  unfold Work.helloIn
  simp (maxDischargeDepth := 9) [h]

@[simp] theorem memWf_adcResult (a : Nat) (r : AdcReq) (t : Time) (code : Nat) (orng urng : Bool)
    (h : w.MemWf) : (w.adcResult a r t code orng urng).MemWf := by
  unfold Work.adcResult
  split <;> simp [h]

@[simp] theorem memWf_rxTimeout (h : w.MemWf) : w.rxTimeout.MemWf := by
  unfold Work.rxTimeout
  simp [h]

@[simp] theorem memWf_shutdownCheck (h : w.MemWf) : w.shutdownCheck.MemWf := by
  unfold Work.shutdownCheck
  refine memWf_ite ((memWf_modKin _).2 (memWf_hearthFatal _ _ (memWf_when ?_ fun hv => (memWf_kFail _ _).2 hv))) ?_ <;> exact (memWf_modTherm _).2 h

@[simp] theorem memWf_localEvent (kind idx : Nat) (sel : Work → Nat → Bool) (h : w.MemWf) : (w.localEvent kind idx sel).MemWf := by
  unfold Work.localEvent
  simp (maxDischargeDepth := 9) +contextual [h]

@[simp] theorem memWf_stat (c : Nat) (s : Stat) (h : w.MemWf) : (w.stat c s).MemWf := by
  unfold Work.stat
  split <;> simp (maxDischargeDepth := 9) [h]

@[simp] theorem memWf_hearthReport (die : Nat) (r : Report) (h : w.MemWf) : (w.hearthReport die r).MemWf := by
  unfold Work.hearthReport
  split <;> simp [h]

@[simp] theorem memWf_memErr (m : Mem) (word : Nat) (e : Ecc) (h : w.MemWf) : (w.memErr m word e).MemWf := by
  unfold Work.memErr
  split <;> simp [h]

@[simp] theorem memWf_take (force : Bool) (h : w.MemWf) : (w.take force).MemWf := by
  unfold Work.take
  simp (maxDischargeDepth := 9) [h]

@[simp] theorem memWf_pmodeUpdate (o : Nat) (h : w.MemWf) : (w.pmodeUpdate o).MemWf := by
  unfold Work.pmodeUpdate
  simp (maxDischargeDepth := 9) +contextual [h]

@[simp] theorem memWf_sensorBad (i : Nat) (h : w.MemWf) : (w.sensorBad i).MemWf := by
  unfold Work.sensorBad
  dsimp only
  (repeat' split) <;> simp [h]

@[simp] theorem memWf_dramUse (a n : Nat) (h : w.MemWf) : (w.dramUse a n).MemWf := by
  unfold Work.dramUse
  simp +contextual [h]

@[simp] theorem memWf_recovStep (o : Nat) (ok : Bool) (h : w.MemWf) : (w.recovStep o ok).MemWf := by
  unfold Work.recovStep
  simp (maxDischargeDepth := 9) [h]

@[simp] theorem memWf_activeWrite (k : PageKind) (inst pg o : Nat) (x : Word) (h : w.MemWf) : (w.activeWrite k inst pg o x).MemWf := by
  unfold Work.activeWrite
  simp (maxDischargeDepth := 9) [h]

@[simp] theorem memWf_bar2Read (off len : Nat) (ecc : Ecc) (h : w.MemWf) : (w.bar2Read off len ecc).MemWf := by
  unfold Work.bar2Read
  split <;> simp [h]

@[simp] theorem memWf_protRescan (o : Nat) (before : List (Nat × Nat)) (h : w.MemWf) : (w.protRescan o before).MemWf := by
  unfold Work.protRescan
  simp +contextual [h]

@[simp] theorem memWf_crossCheck (grad : Nat → Int) (h : w.MemWf) : (w.crossCheck grad).MemWf := by
  unfold Work.crossCheck
  simp +contextual [h]

@[simp] theorem memWf_trip (c : Nat) (t : Trip) (h : w.MemWf) : (w.trip c t).MemWf := by
  have hflags : (w.tripFlags (w.owner c) t.active).MemWf := (memWf_tripFlags _ _).2 h
  unfold Work.trip
  exact memWf_ite hflags (memWf_ite (memWf_protEvent _ _ _ _ _ _ ((memWf_modCl _ _).2 hflags)) ((memWf_modCl _ _).2 hflags))

@[simp] theorem memWf_emberWrites (h : w.MemWf) : w.emberWrites.MemWf := by
  unfold Work.emberWrites
  simp (maxDischargeDepth := 9) +contextual [h]

@[simp] theorem memWf_supdEnd (h : w.MemWf) : w.supdEnd.MemWf := by
  unfold Work.supdEnd
  simp [h]

@[simp] theorem memWf_bar4Read (off len : Nat) (ecc : Ecc) (h : w.MemWf) : (w.bar4Read off len ecc).MemWf := by
  unfold Work.bar4Read
  dsimp only
  (repeat' split) <;> simp [h]

@[simp] theorem memWf_rescan (l : List (Nat × List (Nat × Nat))) (h : w.MemWf) : (w.rescan l).MemWf := by
  unfold Work.rescan
  simp (maxDischargeDepth := 9) +contextual [h]

@[simp] theorem memWf_secEcc (n s chk : Nat) (e : Ecc) (h : w.MemWf) : (w.secEcc n s chk e).1.MemWf := by
  unfold Work.secEcc
  dsimp only
  (repeat' split) <;> simp [h]

@[simp] theorem memWf_injWrite (k : PageKind) (inst pg : Nat) (x : Word) (h : w.MemWf) : (w.injWrite k inst pg x).MemWf := by
  unfold Work.injWrite
  simp [h]

@[simp] theorem memWf_exchangeRegion (n : Nat) (h : w.MemWf) : (w.exchangeRegion n).MemWf := by
  unfold Work.exchangeRegion
  simp (maxDischargeDepth := 9) +contextual [h]

@[simp] theorem memWf_regionResetEnd (n : Nat) (h : w.MemWf) : (w.regionResetEnd n).MemWf := by
  unfold Work.regionResetEnd
  simp (maxDischargeDepth := 9) [h]

@[simp] theorem memWf_section (n : Nat) (f : SectionFinding) (h : w.MemWf) : (w.section n f).MemWf := by
  unfold Work.section
  dsimp only
  (repeat' split) <;> simp (maxDischargeDepth := 9) [h]

@[simp] theorem memWf_imgGo (k : Nat) (h : w.MemWf) : (w.imgGo k).MemWf := by
  unfold Work.imgGo
  dsimp only
  (repeat' split) <;> simp [h]

@[simp] theorem memWf_emberTick (volts : List Rat) (h : w.MemWf) : (w.emberTick volts).MemWf := by
  unfold Work.emberTick
  refine (memWf_wakeReq _ _).2 (memWf_foldl_fst ?_ _ (by simp [h]))
  intro q n hq
  split
  · simpa using hq
  · exact hq

@[simp] theorem memWf_rewriteChecks (h : w.MemWf) : w.rewriteChecks.MemWf := by
  unfold Work.rewriteChecks
  simp (maxDischargeDepth := 9) +contextual [h]

@[simp] theorem memWf_wcRise (k : Nat) (upper : Bool) (h : w.MemWf) : (w.wcRise k upper).MemWf := by
  unfold Work.wcRise
  simp (maxDischargeDepth := 9) +contextual [h]

@[simp] theorem memWf_wcOut (k : Nat) (upper v : Bool) (h : w.MemWf) : (w.wcOut k upper v).MemWf := by
  unfold Work.wcOut
  simp (maxDischargeDepth := 9) [h]

@[simp] theorem memWf_setState (o st : Nat) (b : Int) (h : w.MemWf) : (w.setState o st b).MemWf := by
  unfold Work.setState
  simp (maxDischargeDepth := 9) [h]

@[simp] theorem memWf_lockStep (o : Nat) (b : Int) (h : w.MemWf) : (w.lockStep o b).MemWf := by
  unfold Work.lockStep
  simp [h]

@[simp] theorem memWf_lockAll (n : Nat) (b : Int) (h : w.MemWf) : (w.lockAll n b).MemWf := by
  unfold Work.lockAll
  simp +contextual [h]

@[simp] theorem memWf_hoNow (h : w.MemWf) : w.hoNow.MemWf := by
  unfold Work.hoNow
  split <;> simp (maxDischargeDepth := 9) [h]

@[simp] theorem memWf_wcDecide (k : Nat) (upper v : Bool) (h : w.MemWf) : (w.wcDecide k upper v).MemWf := by
  unfold Work.wcDecide
  simp [h]

@[simp] theorem memWf_toBypass (o : Nat) (b : Int) (h : w.MemWf) : (w.toBypass o b).MemWf := by
  unfold Work.toBypass
  simp [h]

@[simp] theorem memWf_wcInput (k : Nat) (v : Rat) (h : w.MemWf) : (w.wcInput k v).MemWf := by
  unfold Work.wcInput
  dsimp only
  (repeat' split) <;> simp [h]

@[simp] theorem memWf_tempSample (t grad : Nat → Int) (h : w.MemWf) : (w.tempSample t grad).MemWf := by
  unfold Work.tempSample
  dsimp only
  (repeat' split) <;> simp (maxDischargeDepth := 9) +contextual [h]

@[simp] theorem memWf_sealActive (n : Nat) (b : Int) (h : w.MemWf) : (w.sealActive n b).MemWf := by
  unfold Work.sealActive
  simp (maxDischargeDepth := 9) +contextual [h]

@[simp] theorem memWf_boundaryStep1 (n : Nat) (b : Int) (swap : Bool) (h : w.MemWf) : (w.boundaryStep1 n b swap).MemWf := by
  unfold Work.boundaryStep1
  dsimp only
  (repeat' split) <;> simp (maxDischargeDepth := 9) [h]

@[simp] theorem memWf_wcStart (k : Nat) (h : w.MemWf) : (w.wcStart k).MemWf := by
  unfold Work.wcStart
  dsimp only
  (repeat' split) <;> simp [h]

@[simp] theorem memWf_startPackage (h : w.MemWf) : w.startPackage.MemWf := by
  unfold Work.startPackage
  simp (maxDischargeDepth := 9) +contextual [h]

@[simp] theorem memWf_cmdAct (o code : Nat) (b : Int) (h : w.MemWf) : (w.cmdAct o code b).MemWf := by
  unfold Work.cmdAct
  split <;> simp [h]

@[simp] theorem memWf_exchangePackage (h : w.MemWf) : w.exchangePackage.MemWf := by
  unfold Work.exchangePackage
  simp (maxDischargeDepth := 9) +contextual [h]

@[simp] theorem memWf_cmdEnd (o code : Nat) (b : Int) (r : Option Nat) (h : w.MemWf) : (w.cmdEnd o code b r).MemWf := by
  unfold Work.cmdEnd
  split <;> simp [h]

@[simp] theorem memWf_swapCommit (h : w.MemWf) : w.swapCommit.MemWf := by
  unfold Work.swapCommit
  simp (maxDischargeDepth := 9) +contextual [h]

@[simp] theorem memWf_evalCmd (o code : Nat) (b : Int) (h : w.MemWf) : (w.evalCmd o code b).MemWf := by
  unfold Work.evalCmd
  simp [h]

@[simp] theorem memWf_swapVerdict (r : Option (Nat × Nat)) (h : w.MemWf) : (w.swapVerdict r).MemWf := by
  unfold Work.swapVerdict
  split <;> simp [h]

@[simp] theorem memWf_clusterCmd (c code : Nat) (h : w.MemWf) : (w.clusterCmd c code).MemWf := by
  unfold Work.clusterCmd
  dsimp only
  refine memWf_ite ((memWf_badval _).2 h) (memWf_ite ?_ (memWf_evalCmd _ _ _ ?_)) <;>
    exact (memWf_wr _ _ _ _).2 (memWf_when h fun hv => (memWf_wr _ _ _ _).2 hv)

@[simp] theorem memWf_swapDecide (h : w.MemWf) : w.swapDecide.MemWf := by
  unfold Work.swapDecide
  split <;> simp [h]

@[simp] theorem memWf_cmdWrite (c : Nat) (x : Word) (h : w.MemWf) : (w.cmdWrite c x).MemWf := by
  unfold Work.cmdWrite
  exact memWf_ite (memWf_clusterCmd _ _ h) (by simp [h])

@[simp] theorem memWf_hostCmd (i : Instr) (c : Fin 48) (code : Nat) (h : w.MemWf) : (w.hostCmd i c code).MemWf := by
  unfold Work.hostCmd
  exact memWf_hostAct h fun _ hv => memWf_clusterCmd _ _ hv

@[simp] theorem memWf_woWrite (k : PageKind) (inst pg o : Nat) (x : Word) (h : w.MemWf) : (w.woWrite k inst pg o x).MemWf := by
  unfold Work.woWrite
  dsimp only
  (repeat' split) <;> simp (maxDischargeDepth := 9) +contextual [h]

@[simp] theorem memWf_clusterStep4 (o : Nat) (b : Int) (h : w.MemWf) : (w.clusterStep4 o b).MemWf := by
  unfold Work.clusterStep4
  simp (maxDischargeDepth := 9) [h]

@[simp] theorem memWf_boundaryStep4 (n : Nat) (b : Int) (old : List (Nat × Nat × Nat)) (h : w.MemWf) : (w.boundaryStep4 n b old).MemWf := by
  unfold Work.boundaryStep4
  split <;> simp +contextual [h]

@[simp] theorem memWf_boundary (n : Nat) (h : w.MemWf) : (w.boundary n).MemWf := by
  unfold Work.boundary
  dsimp only
  split
  · exact h
  · refine memWf_ite h (memWf_when ?_ fun hv => memWf_twinShow.2 hv)
    have hswap {n : Nat} {b : Int} {swap : Bool} : ((w.boundaryStep1 n b swap).when swap fun w => w.exchangeRegion n).MemWf :=
      memWf_when (memWf_boundaryStep1 _ _ _ h) fun hv => memWf_exchangeRegion _ hv
    refine memWf_ite ((memWf_leaveCycle _).2 ?_) ((memWf_boundaryStep5 _ _ _).2 ?_) <;>
      exact memWf_boundaryStep4 _ _ _ ((memWf_boundaryStep3 _).2 (memWf_when hswap fun hv => (memWf_wr _ _ _ _).2 hv))

end Sys2Proof.Machine
end

section
-- One task at a time: the check bounds the memory of all of Lean's threads together.
set_option Elab.async false
set_option linter.all false

/-! PROOF. Settles O4 and O5: no step takes the memories out of their canonical form. A command with a scope that names no memory keeps
them (O2); the others are shown to reach them only through the stores. -/

namespace Sys2Proof.Machine

variable {w : Work}

/-! ### The whole state -/

@[simp] theorem memWf_dieReset (dies : Nat) : (w.dieReset dies).MemWf ↔ w.MemWf := memWf_of_view (by apply view_dieReset <;> rfl)
@[simp] theorem memWf_regionReset (rgs : Nat) : (w.regionReset rgs).MemWf ↔ w.MemWf := memWf_of_view (by apply view_regionReset <;> rfl)
@[simp] theorem memWf_tallyCompare (x : Nat) : (w.tallyCompare x).MemWf ↔ w.MemWf := memWf_of_view (by apply view_tallyCompare <;> rfl)
@[simp] theorem memWf_reanchorRate (x : Rat) : (w.reanchorRate x).MemWf ↔ w.MemWf := memWf_of_view (by apply view_reanchorRate <;> rfl)
@[simp] theorem memWf_stepEffects (adj : Bool) (d : Int) : (w.stepEffects adj d).MemWf ↔ w.MemWf := memWf_of_view (by apply view_stepEffects <;> rfl)
@[simp] theorem memWf_enterHoldover : w.enterHoldover.MemWf ↔ w.MemWf := memWf_of_view (by apply view_enterHoldover <;> rfl)
@[simp] theorem memWf_kindle : w.kindle.MemWf ↔ w.MemWf := Iff.rfl

/-- The memories of a state are in their canonical form. -/
def State.MemWf (s : State) : Prop := Memory.wf s

section
variable {s : State}

theorem State.memWf_iff : s.MemWf ↔ Memory.wf s := Iff.rfl

@[simp] theorem stateMemWf_onDev (f : Work → Work) : (s.onDev f).MemWf ↔ (f s.work).MemWf := Iff.rfl
@[simp] theorem stateMemWf_setTally (t : Tally) : (s.setTally t).MemWf ↔ s.MemWf := Iff.rfl
@[simp] theorem stateMemWf_setPll (p : Pll) : (s.setPll p).MemWf ↔ s.MemWf := Iff.rfl
@[simp] theorem stateMemWf_closeGates : s.closeGates.MemWf ↔ s.MemWf := Iff.rfl
@[simp] theorem work_memWf_iff : s.work.MemWf ↔ s.MemWf := Iff.rfl

@[simp] theorem stateMemWf_lockVerdict (v : Bool) : (s.lockVerdict v).MemWf ↔ s.MemWf := by unfold State.lockVerdict; split <;> exact Iff.rfl

@[simp] theorem stateMemWf_compareTally (t : Tally) (h : s.MemWf) : (s.compareTally t).MemWf := by
  unfold State.compareTally; simp [h]

@[simp] theorem stateMemWf_pllSettle (x : Int) (h : s.MemWf) : (s.pllSettle x).MemWf := by unfold State.pllSettle; simp [h]

theorem stateMemWf_throttle {c : Instr} {f : State → State} (h : s.MemWf) (hf : (f s).MemWf) : (s.throttle c f).MemWf := by
  unfold State.throttle
  split
  · exact h
  · exact hf

theorem stateMemWf_hostAct {c : Instr} {a : Nat} {f : State → State} (h : s.MemWf) (hf : (f s).MemWf) : (s.hostAct c a f).MemWf := by
  refine stateMemWf_throttle h ?_
  split
  · simpa using h
  · exact hf

/-! #### Host writes -/

@[simp] theorem stateMemWf_incFrac (v : Nat) (h : s.MemWf) : (s.incFrac v).MemWf := by unfold State.incFrac; split <;> simp [h]

@[simp] theorem stateMemWf_incCommit (v : Nat) (h : s.MemWf) : (s.incCommit v).MemWf := by
  unfold State.incCommit
  dsimp only
  split
  · simp [h]
  · split <;> simp [h]

@[simp] theorem stateMemWf_nofs (v : Nat) (h : s.MemWf) : (s.nofs v).MemWf := by
  unfold State.nofs
  dsimp only
  repeat' split
  all_goals simp [h]

@[simp] theorem stateMemWf_stepTally (adj : Bool) (h : s.MemWf) : (s.stepTally adj).MemWf := by
  unfold State.stepTally
  dsimp only
  repeat' split
  all_goals simp [h]

theorem stateMemWf_hostStore (a : Nat) (x : Word) (h : s.MemWf) : (s.hostStore a x).MemWf := by
  unfold State.hostStore
  dsimp only
  repeat' split
  all_goals simp [h]

/-! #### Resets -/

theorem memWf_pkgDev (cause : Nat) (h : w.MemWf) : cellsWf byte0 (w.pkgDev cause).dram = true ∧ cellsWf byte0 (w.pkgDev cause).sram = true := by
  obtain ⟨hd, hs⟩ := h
  unfold Work.pkgDev
  dsimp only
  split
  · exact ⟨hd, hs⟩
  · exact ⟨rfl, rfl⟩

@[simp] theorem stateMemWf_pkgReset (cause step : Nat) (h : s.MemWf) : (s.pkgReset cause step).MemWf := memWf_pkgDev cause h

@[simp] theorem stateMemWf_thermalOff (h : s.MemWf) : s.thermalOff.MemWf := memWf_pkgDev 3 h

theorem stateMemWf_rstWrite (x : Word) (h : s.MemWf) : (s.rstWrite x).MemWf := by
  unfold State.rstWrite
  dsimp only
  split
  · simp [h]
  split
  · simp [h]
  · simp [h]

theorem stateMemWf_pageWrite (k : PageKind) (inst a : Nat) (x : Word) (h : s.MemWf) : (s.pageWrite k inst a x).MemWf := by
  have hstore := stateMemWf_hostStore a x h
  unfold State.pageWrite
  dsimp only
  split
  · simp [h]
  split
  · simp [h]
  split
  · exact stateMemWf_rstWrite x hstore
  split
  · exact stateMemWf_stepTally _ hstore
  · exact memWf_woWrite _ _ _ _ _ hstore

theorem stateMemWf_hostWrite (a : Nat) (x : Word) (h : s.MemWf) : (s.hostWrite a x).MemWf := by
  unfold State.hostWrite
  split
  · simp [h]
  split
  · simp [h]
  split
  · simp [h]
  split
  · split
    · exact h
    · exact stateMemWf_pageWrite _ _ _ _ h
  · exact stateMemWf_hostStore a x h

theorem stateMemWf_registerWrite (a be : Nat) (x : Word) (h : s.MemWf) : (s.registerWrite a be x).MemWf := by
  unfold State.registerWrite
  split
  · exact stateMemWf_hostWrite a x h
  · dsimp only
    split <;> simp [h]

/-! #### Kindling -/

@[simp] theorem stateMemWf_kAdvance (h : s.MemWf) : s.kAdvance.MemWf := by
  unfold State.kAdvance
  dsimp only
  repeat' split
  all_goals simp [h]

theorem stateMemWf_applyRecord (e : Nat × Word) (h : s.MemWf) : (s.applyRecord e).MemWf := by
  unfold State.applyRecord
  split
  · exact memWf_rwsStore _ _ _ h fun _ _ _ _ hv => hv
  dsimp only
  split
  · split
    · exact h
    · exact stateMemWf_hostStore _ _ h
  · exact stateMemWf_hostStore _ _ h

@[simp] theorem stateMemWf_records (l : List (Nat × Word)) (h : s.MemWf) : (l.foldl State.applyRecord s).MemWf := by
  induction l generalizing s with
  | nil => exact h
  | cons e l ih => exact ih (stateMemWf_applyRecord e h)

theorem stateMemWf_imageLoad (k : Nat) (h : s.MemWf) : (s.imageLoad k).MemWf := by
  have hread : (s.onDev fun w => (w.loadSealed (s.work.bootImage k)).slotsRead).MemWf := memWf_slotsRead.2 ((memWf_loadSealed _).2 h)
  have hzero {l : List (Nat × Word)} : ((l.foldl State.applyRecord (s.onDev fun w => (w.loadSealed (s.work.bootImage k)).slotsRead)).onDev
      fun w => w.each (upto 4) fun w n => w.zeroSlots n).MemWf :=
    (stateMemWf_onDev _).2 (memWf_each (work_memWf_iff.2 (stateMemWf_records _ hread)) fun _ _ hv => (memWf_zeroSlots _).2 hv)
  unfold State.imageLoad
  refine (stateMemWf_onDev _).2 (memWf_ite ((memWf_wr _ _ _ _).2 (memWf_each (memWf_startPackage ((memWf_wr _ _ _ _).2 (memWf_cleanPages _ ?_)))
    fun _ _ hv => (memWf_startRegion _).2 hv)) ((memWf_modKin _).2 ((memWf_wr _ _ _ _).2 ((memWf_kFail _ _).2 (memWf_discardSets.2 ?_))))) <;>
    exact (memWf_modKin _).2 (work_memWf_iff.2 (stateMemWf_records _ hzero))

end

/-! ### Commands -/

/-- What a command answers has its memories in canonical form. -/
def KeepsMem (o : Host.Outcome State Fault Refusal) : Prop := ∀ t, o = .next t → t.MemWf

section
variable {s : State}

@[simp] theorem keepsMem_next : KeepsMem (.next s) ↔ s.MemWf := ⟨fun h => h s rfl, fun h t ht => by cases ht; exact h⟩

@[simp] theorem keepsMem_nextDev (f : Work → Work) : KeepsMem (nextDev s f) ↔ (f s.work).MemWf := keepsMem_next

/-- A command with a scope that names no memory. -/
theorem keepsMem_of_scope {c : Instr} {f : Scope} (hf : scopeOf c = some f) (hd : Kind.dram ∉ f.kinds) (hs : Kind.sram ∉ f.kinds)
    (h : s.MemWf) : KeepsMem (exec c s) := by
  intro t ht
  obtain ⟨u, hu, -, hkinds, -⟩ := commandsStayInScope c s f hf
  obtain rfl : u = t := Host.Outcome.next.inj (hu.symm.trans ht)
  have hdram : u.dev.dram = s.dev.dram := hkinds .dram hd
  have hsram : u.dev.sram = s.dev.sram := hkinds .sram hs
  rw [State.MemWf, Memory.wf, hdram, hsram]
  exact h

end

/-! #### What needs a word of its own -/

@[simp] theorem memWf_receiveData {c : Fin 48} {syn : BitVec 16} {copy : Bool} {use : Work → Work} (h : w.MemWf)
    (hu : ∀ v, v.MemWf → (use v).MemWf) : (w.receiveData c syn copy use).MemWf := by
  have hsym : (w.frameSymbols c).MemWf := (memWf_of_view (by apply view_frameSymbols <;> rfl)).2 h
  have hbad : ∀ v : Work, v.MemWf → (v.badFrame c.val).MemWf := fun v => (memWf_of_view (by apply view_badFrame <;> rfl)).2
  have hgood : ∀ v : Work, v.MemWf → (v.goodFrame c.val copy).MemWf := fun v => (memWf_of_view (by apply view_goodFrame <;> rfl)).2
  unfold Work.receiveData
  split
  · simp [h]
  unfold Work.receive
  dsimp only
  repeat' split
  all_goals simp (maxDischargeDepth := 9) [hsym, hbad, hgood, hu]

section
variable {s : State}

theorem keepsMem_of_dev {c : Instr} {f : Work → Work} (h : s.MemWf) (hc : exec c s = nextDev s f) (hf : s.work.MemWf → (f s.work).MemWf) :
    KeepsMem (exec c s) := hc ▸ (keepsMem_nextDev f).2 (hf h)

theorem keepsMem_registerWrite (addr : BitVec 25) (be : BitVec 4) (x : Word) (h : s.MemWf) : KeepsMem (exec (.registerWrite addr be x) s) := by
  have hwrite := stateMemWf_registerWrite (addr.toNat / 4 * 4) be.toNat x h
  change KeepsMem (execRegisterWrite _ _ _ _)
  unfold execRegisterWrite
  dsimp only
  split
  · exact keepsMem_next.2 hwrite
  · exact keepsMem_next.2 (stateMemWf_throttle h hwrite)

theorem keepsMem_eventPost (e : Event) (mis : List (Fin 8)) (h : s.MemWf) : KeepsMem (exec (.eventPost e mis) s) := by
  refine keepsMem_of_dev h rfl fun h => ?_
  split
  · refine memWf_each (l := upto 8) (by simpa using h) fun v q hv => ?_
    split
    · simp [hv]
    · exact hv
  · exact h

theorem keepsMem_pkgReset (h : s.MemWf) : KeepsMem (exec .pkgReset s) := by
  change KeepsMem (execPkgReset _)
  unfold execPkgReset
  split
  · exact keepsMem_next.2 h
  · exact keepsMem_next.2 (stateMemWf_hostAct h (by simp [h]))

/-- Every command but the opening of the gate, which passes on the commands that it has held. -/
theorem exec_keepsMem_of_ne {c : Instr} (hc : c ≠ .damperGateOpen) (h : s.MemWf) : KeepsMem (exec c s) := by
  cases c with
  | damperGateOpen => exact absurd rfl hc
  | registerWrite addr be x => exact keepsMem_registerWrite addr be x h
  | injArm => exact keepsMem_next.2 (stateMemWf_throttle h (stateMemWf_hostWrite _ _ h))
  | pageLock => exact keepsMem_next.2 (stateMemWf_throttle h (stateMemWf_hostWrite _ _ h))
  | hostBar2Write | hostBar2Read | hostBar4Read => exact keepsMem_of_dev h rfl fun h => memWf_throttle h fun v hv => by simp [hv]
  | tripReceived c syn copy t => exact keepsMem_of_dev h rfl fun h => memWf_receiveData h fun v hv => memWf_trip _ _ hv
  | statReceived c syn copy t => exact keepsMem_of_dev h rfl fun h => memWf_receiveData h fun v hv => memWf_stat _ _ hv
  | eventPost e mis => exact keepsMem_eventPost e mis h
  | pkgReset => exact keepsMem_pkgReset h
  | incFracWrite | incNsCommit | tallyStep | nofsWrite => exact keepsMem_next.2 (stateMemWf_hostAct h (by simp [h]))
  | hearthPlea => exact keepsMem_of_dev h rfl fun h => memWf_hostAct h fun v hv => memWf_unlocked hv fun u hu => memWf_plea _ _ hu
  | twinTake | eqPost | recStop | recTrig | lbistHubStart | lbistHrtStart =>
    exact keepsMem_of_dev h rfl fun h => memWf_hostAct h fun v hv => by simp [hv]
  | kctlImgGo => exact keepsMem_of_dev h rfl fun h => memWf_hostAct h fun v hv => memWf_imgGo _ hv
  | cmdPrecharge | cmdRun | cmdStop | cmdOff | cmdTest | cmdBypass | cmdUnbypass | cmdClear | cmdLockout =>
    exact keepsMem_of_dev h rfl fun h => memWf_hostCmd _ _ _ h
  | boundary | abacusSection | outputDeadline | swapDecision | crcPassComplete | stallGuardFire | handshakeProtocolError | dualRailCodeError | wcCrossing
  | wcSettled | wcSelftestDone | emberTick | tripnTransition | chopfbTransition | fatalLine | hearthConditionQualify
  | hearthCopyMismatch | supplyOutOfRange | haltGuardExpiry | sealedUpdateDone | roleRxTimeout | handoverTime | helloReceived
  | twinConflictDetect | bootImageRead | regionResetDone | tempSample | sensorReadingTimeout | gpioRise | tapExtest | tapClamp
  | tapHighz | tapExtestPulse | tapExtestTrain | tapScanInt | tapLbistHub | tapLbistHrt =>
    exact keepsMem_of_dev h rfl fun h => by simp (maxDischargeDepth := 9) [h]
  | flueReportArrive dst child r =>
    exact keepsMem_of_dev h rfl fun h => memWf_ite (memWf_ite (memWf_discard.2 ((memWf_setFlue _).2 h))
      (memWf_ite (memWf_hearthReport _ _ ((memWf_setFlue _).2 h)) (memWf_collect _ _ _ ((memWf_setFlue _).2 h)))) h
  | supplyReturn => exact keepsMem_of_dev h rfl fun h => by simp (maxDischargeDepth := 9) +contextual [h]
  | adcConversionComplete => exact keepsMem_of_dev h rfl fun h => by dsimp only; split <;> simp [h]
  | freezePoint | ashCopy | scrubAccess => exact keepsMem_of_dev h rfl fun h => by split <;> simp [h]
  | recorderFrameWrite => exact keepsMem_of_dev h rfl fun h => memWf_throttle h fun v hv => by split <;> simp [hv]
  | pllLockAcquired | lockedSet | lockedClear | pllSlip | porstNFall | hearthSelfCheckDone => exact keepsMem_next.2 (by simp [h])
  | tallyTick upset ref => change KeepsMem (execTallyTick _ _ _); unfold execTallyTick; split <;> simp [h]
  | pllSettled => change KeepsMem (execPllSettled _); unfold execPllSettled; split <;> simp [h]
  | holdoverRefclkEdge upset => change KeepsMem (execHoldoverRefclkEdge _ _); unfold execHoldoverRefclkEdge; dsimp only; split <;> simp [h]
  | gatesReopen => change KeepsMem (execGatesReopen _); unfold execGatesReopen; split <;> simp [h]
  | thermalOffEntry => change KeepsMem (execThermalOffEntry _); unfold execThermalOffEntry; split <;> simp [h]
  | thermalRestart => change KeepsMem (execThermalRestart _); unfold execThermalRestart; dsimp only; split <;> simp [h]
  | pcieLinkUp => change KeepsMem (execPcieLinkUp _); unfold execPcieLinkUp; split <;> simp [h]
  | dramTrained ok =>
    change KeepsMem (execDramTrained _ _)
    unfold execDramTrained
    dsimp only
    repeat' split
    all_goals simp [h]
  | imageLoad =>
    change KeepsMem (execImageLoad _)
    unfold execImageLoad
    repeat' split
    all_goals simp [h, stateMemWf_imageLoad]
  | _ => exact keepsMem_of_scope rfl (by decide) (by decide) h

/-- What the gate has held passes as the command itself, or is no throttled command. -/
theorem execHeld_eq (c : Instr) (s : State) : execHeld c s = exec c s ∨ execHeld c s = .next s := by
  cases c with
  | registerWrite | hostBar2Write | hostBar2Read | hostBar4Read | hostBar4Write | injArm | pageLock | cycT0NsRead | cycEnSet | cycEnClear | hdCommit
  | sminRst | hostSlotWrite | stateWordWrite | fbSet | tallyNowRead | incFracWrite | incNsCommit | tallyStep | nofsWrite | captureRead | rxKeyRead
  | txKeyRead | cmdPrecharge | cmdRun | cmdStop | cmdOff | cmdTest | cmdBypass | cmdUnbypass | cmdClear | cmdLockout | stReqGo | laneRetrain
  | laneFomRst | adaptStep | adcNcmd | adcUcmd | adcCal | adcDataRead | wcSelftestGo | hearthRel | hearthPlea | sealedUpdateGo | freezeRequest
  | freezeRelease | twinTake | twinHandover | eqNext | eqRelease | eqMark | eqRewind | eqQreset | eqPeakRst | eqPost | recorderFrameWrite | recEnable
  | recDisable | recStop | recRearm | recTrig | slRetrain | slFomRst | sysTripSet | sysTripClr | planGo | rptRst | raGo | kctlImgGo | pkgReset
  | dieReset | regionReset | ecntRead | emberSleep | thermPeakRst | bistStart | bistAbort | bistComplete | umark | lbistHubStart | lbistHrtStart
  | lbistComplete | keyProg | zeroise | cstoreWrite | hostBar0Read => exact .inl rfl
  | _ => exact .inr rfl

theorem stateMemWf_pass (c : Instr) (h : s.MemWf) : (s.pass c).MemWf := by
  have hheld : KeepsMem (execHeld c s) := by
    by_cases hc : c = .damperGateOpen
    · subst hc
      exact keepsMem_next.2 h
    · rcases execHeld_eq c s with he | he <;> rw [he]
      · exact exec_keepsMem_of_ne hc h
      · exact keepsMem_next.2 h
  unfold State.pass
  split
  · exact hheld _ ‹_›
  · exact h

theorem stateMemWf_passes (l : List Instr) (h : s.MemWf) : (l.foldl State.pass s).MemWf := by
  induction l generalizing s with
  | nil => exact h
  | cons c l ih => exact ih (stateMemWf_pass c h)

theorem stateMemWf_gateOpen (h : s.MemWf) : s.gateOpen.MemWf := stateMemWf_passes _ ((stateMemWf_onDev _).2 h)

theorem exec_keepsMem (c : Instr) (h : s.MemWf) : KeepsMem (exec c s) := by
  by_cases hc : c = .damperGateOpen
  · subst hc
    exact keepsMem_next.2 (stateMemWf_gateOpen h)
  · exact exec_keepsMem_of_ne hc h

end

/-- Settles O4: every store of the DRAM and of the hub SRAM keeps the canonical form, and no command writes them otherwise. -/
theorem memoryStaysCanonical : Obligations.MemoryStaysCanonical := by
  intro s t hs hstep
  unfold step at hstep
  split at hstep
  · cases hstep
    exact hs
  · rename_i c rest _
    exact exec_keepsMem (s := { s with pending := rest }) c hs t hstep

/-- Settles O5. -/
theorem invariantsHoldAtReset : Obligations.InvariantsHoldAtReset :=
  ⟨⟨by decide, by decide⟩, reset_memory_wf⟩

end Sys2Proof.Machine
end

section
-- One task at a time: the check bounds the memory of all of Lean's threads together.
set_option Elab.async false
set_option linter.all false

/-! SUPPORT. Accesses flagged in HOST.ACC_ERR (R51, R52): what a flagged access writes, and what ACC_ADDR records. -/

namespace Sys2Proof.Machine

/-- The offset that ACC_ADDR records, where an access is the first one flagged (R52). -/
def Work.accRecord (w : Work) (bar off : Nat) : Work := (w.wr pgHOST HOST_ACC_ADDR_BAR bar).wr pgHOST HOST_ACC_ADDR_OFFSET off

/-- A flag of ACC_ERR: one bit of its dword. -/
def IsAccFlag (f : Field) : Prop := f.at 0 = HOST_ACC_ERR_UNMAPPED.at 0 ∧ f.wid = 1 ∧ f.lo < 32

theorem accClear_iff (s : State) : (s.work.rd pgHOST { HOST_ACC_ERR_UNMAPPED with wid := 5 } == 0) = true ↔ s.accClear := by
  rw [beq_iff_eq]
  show (s.word (pgHOST + HOST_ACC_ERR_UNMAPPED.at 0)).toNat / 1 % 32 = 0 ↔ _
  rw [Nat.div_one]

theorem accErr_clear {s : State} {u : Work} (f : Field) (bar off : Nat)
    (he : u.word (pgHOST + HOST_ACC_ERR_UNMAPPED.at 0) = s.word (pgHOST + HOST_ACC_ERR_UNMAPPED.at 0)) (h : s.accClear) :
    u.accErr f bar off = (u.accRecord bar off).wr pgHOST f 1 := by
  have hrd : u.rd pgHOST { HOST_ACC_ERR_UNMAPPED with wid := 5 } = s.work.rd pgHOST { HOST_ACC_ERR_UNMAPPED with wid := 5 } := rd_congr he
  rw [Work.accErr, hrd, (accClear_iff s).2 h]
  rfl

theorem accErr_notClear {s : State} {u : Work} (f : Field) (bar off : Nat)
    (he : u.word (pgHOST + HOST_ACC_ERR_UNMAPPED.at 0) = s.word (pgHOST + HOST_ACC_ERR_UNMAPPED.at 0)) (h : ¬ s.accClear) :
    u.accErr f bar off = u.wr pgHOST f 1 := by
  have hrd : u.rd pgHOST { HOST_ACC_ERR_UNMAPPED with wid := 5 } = s.work.rd pgHOST { HOST_ACC_ERR_UNMAPPED with wid := 5 } := rd_congr he
  rw [Work.accErr, hrd, Bool.eq_false_iff.2 fun hc => h ((accClear_iff s).1 hc)]
  rfl

theorem accErr_alters {w : Work} {f : Field} (hf : IsAccFlag f) (bar off : Nat) : w.Alters [] accDwords (w.accErr f bar off) := by
  have hflag : pgHOST + f.at 0 ∈ accDwords := by rw [hf.1]; exact List.mem_cons_self
  exact (Work.Alters.refl.when ((Work.Alters.refl.wr (by decide)).wr (by decide))).wr hflag

theorem accErr_addr_ne {f : Field} (hf : IsAccFlag f) : pgHOST + HOST_ACC_ADDR_BAR.at 0 ≠ pgHOST + f.at 0 := by
  rw [hf.1]; decide

/-- A command that comes to `accErr` after what leaves ACC_ERR and ACC_ADDR flags the access. -/
theorem accFlagged_after {s : State} {u : Work} {g : Work → Work} {f : Field} {bar off : Nat} (hf : IsAccFlag f) (hbar : bar < 4)
    (hoff : off < 2 ^ 27) (he : u.word (pgHOST + HOST_ACC_ERR_UNMAPPED.at 0) = s.word (pgHOST + HOST_ACC_ERR_UNMAPPED.at 0))
    (ha : u.word (pgHOST + HOST_ACC_ADDR_BAR.at 0) = s.word (pgHOST + HOST_ACC_ADDR_BAR.at 0))
    (hword : ∀ a, (g s.work).word a = (u.accErr f bar off).word a) : AccFlagged f bar off s (s.onDev g) := by
  have hrd (pg : Nat) (x : Field) : (s.onDev g).rd pg x = (u.accErr f bar off).rd pg x := rd_congr (hword _)
  obtain ⟨-, hwid, hlo⟩ := id hf
  refine ⟨?_, fun hc => ?_, fun hc => ?_⟩
  · rw [hrd, Work.accErr, rd_wr_same _ _ _ _ _ (by omega), hwid]
    rfl
  · rw [hrd, hrd, accErr_clear f bar off he hc, rd_wr_ne _ _ _ _ _ _ _ _ (accErr_addr_ne hf),
      rd_wr_ne _ _ _ _ _ _ HOST_ACC_ADDR_OFFSET _ (accErr_addr_ne hf), Work.accRecord, rd_wr_disj _ _ _ _ _ _ _ _ (by decide),
      rd_wr_same _ _ _ _ _ (by decide), rd_wr_same _ _ _ _ _ (by decide)]
    exact ⟨Nat.mod_eq_of_lt hbar, Nat.mod_eq_of_lt hoff⟩
  · refine (hword _).trans ?_
    rw [accErr_notClear f bar off he hc]
    exact (word_wr_ne _ _ _ _ _ _ (accErr_addr_ne hf)).trans ha

/-- A command that does what `accErr` does, and beside that writes only the kinds `ks`, flags the access and nothing else. -/
theorem accFlagged_of {s : State} {g : Work → Work} {ks : List Kind} {f : Field} {bar off : Nat} (hf : IsAccFlag f) (hbar : bar < 4)
    (hoff : off < 2 ^ 27) (h : (s.work.accErr f bar off).Alters ks [] (g s.work)) :
    AccFlagged f bar off s (s.onDev g) ∧ Changes ks accDwords s (s.onDev g) :=
  ⟨accFlagged_after hf hbar hoff rfl rfl fun a => h.words a List.not_mem_nil,
    (((accErr_alters hf bar off).mono (by simp) (List.Subset.refl _)).trans (h.mono (List.Subset.refl _) (by simp))).changes⟩

/-- A flagged access stays flagged where its flag and ACC_ADDR stay. -/
theorem AccFlagged.congr {s t u : State} {f : Field} {bar off : Nat} (h : AccFlagged f bar off s t)
    (hf : u.rd pgHOST f = t.rd pgHOST f) (ha : u.word (pgHOST + HOST_ACC_ADDR_BAR.at 0) = t.word (pgHOST + HOST_ACC_ADDR_BAR.at 0)) :
    AccFlagged f bar off s u := by
  have hrd (g : Field) (hg : g.at 0 = HOST_ACC_ADDR_BAR.at 0) : u.rd pgHOST g = t.rd pgHOST g := rd_congr (by rw [hg]; exact ha)
  obtain ⟨hflag, hclear, hnot⟩ := h
  refine ⟨hf.trans hflag, fun hc => ?_, fun hc => ha.trans (hnot hc)⟩
  rw [hrd HOST_ACC_ADDR_BAR rfl, hrd HOST_ACC_ADDR_OFFSET rfl]
  exact hclear hc

/-- A flag that shows is no clear ACC_ERR. -/
theorem not_accClear_of_partial {s : State} (h : s.rd pgHOST HOST_ACC_ERR_PARTIAL = 1) : ¬ s.accClear := by
  have h : (s.word (pgHOST + HOST_ACC_ERR_UNMAPPED.at 0)).toNat / 2 % 2 = 1 := h
  intro hc
  have hc : (s.word (pgHOST + HOST_ACC_ERR_UNMAPPED.at 0)).toNat % 32 = 0 := hc
  omega

end Sys2Proof.Machine
end

section
-- One task at a time: the check bounds the memory of all of Lean's threads together.
set_option Elab.async false
set_option linter.all false

/-! PROOF. Settles O14: accesses outside the map, of BAR4 by a write, and with partial byte enables. -/

namespace Sys2Proof.Machine

theorem isAccFlag_unmapped : IsAccFlag HOST_ACC_ERR_UNMAPPED := ⟨rfl, rfl, by decide⟩
theorem isAccFlag_partial : IsAccFlag HOST_ACC_ERR_PARTIAL := ⟨rfl, rfl, by decide⟩
theorem isAccFlag_bar4Wr : IsAccFlag HOST_ACC_ERR_BAR4_WR := ⟨rfl, rfl, by decide⟩

variable {s : State}

/-- R48: a read outside every page and window answers zeros. -/
theorem bar0Read_unmapped {w : Work} {addr : BitVec 25} {wide : Bool}
    (h : mapped (if wide then addr.toNat / 8 * 8 else addr.toNat / 4 * 4) = false) :
    w.bar0Read (addr.toNat / 4 * 4) wide =
      (w.accErr HOST_ACC_ERR_UNMAPPED 0 (if wide then addr.toNat / 8 * 8 else addr.toNat / 4 * 4)).emit
        (.hostRead (if wide then [0, 0] else [0]) false) := by
  have ha : addr.toNat / 4 * 4 / 8 * 8 = addr.toNat / 8 * 8 := by omega
  cases wide with
  | false => simp only [Work.bar0Read, Bool.false_eq_true, if_false, List.headD_cons] at h ⊢; rw [h]; rfl
  | true => simp only [Work.bar0Read, if_true, List.headD_cons, ha] at h ⊢; rw [h]; rfl

theorem runs_unmappedRead (hs : s.dev.shut = false) (addr : BitVec 25) (wide : Bool)
    (h : ¬ mapped (if wide then addr.toNat / 8 * 8 else addr.toNat / 4 * 4)) :
    Runs (.hostBar0Read addr wide) s fun t =>
      LastOut (.hostRead (if wide then [0, 0] else [0]) false) s t ∧
      AccFlagged HOST_ACC_ERR_UNMAPPED 0 (if wide then addr.toNat / 8 * 8 else addr.toNat / 4 * 4) s t ∧
      Changes [.out] accDwords s t := by
  have haddr := addr.isLt
  generalize ho : (if wide then addr.toNat / 8 * 8 else addr.toNat / 4 * 4) = off at h ⊢
  have hoff : off < 2 ^ 27 := by split at ho <;> omega
  have hm : mapped (if wide then addr.toNat / 8 * 8 else addr.toNat / 4 * 4) = false := by rw [ho]; exact Bool.eq_false_iff.2 h
  refine runs_bar0Read hs ?_
  rw [onDev_congr (g := fun w => (w.accErr HOST_ACC_ERR_UNMAPPED 0 off).emit (.hostRead (if wide then [0, 0] else [0]) false))
    (by rw [bar0Read_unmapped hm, ho])]
  refine ⟨?_, accFlagged_of isAccFlag_unmapped (by decide) hoff (Work.Alters.refl.emit (by simp))⟩
  have hout : (s.work.accErr HOST_ACC_ERR_UNMAPPED 0 off).out = s.dev.out := (accErr_alters isAccFlag_unmapped 0 off).kinds .out (by simp)
  rw [LastOut, ← hout]
  rfl

theorem runs_unmappedWrite (hs : s.dev.shut = false) (addr : BitVec 25) (v : Word) (h : ¬ mapped (addr.toNat / 4 * 4)) :
    Runs (.registerWrite addr 0xF v) s fun t =>
      AccFlagged HOST_ACC_ERR_UNMAPPED 0 (addr.toNat / 4 * 4) s t ∧ OnlyDwords accDwords s t := by
  refine runs_registerWrite hs ?_
  rw [State.hostWrite, if_pos (by simpa using h)]
  exact accFlagged_of isAccFlag_unmapped (by decide) (by omega) Work.Alters.refl

/-- R47: a write with partial byte enables is dropped, wherever it goes. -/
theorem runs_partialWrite (hs : s.dev.shut = false) (addr : BitVec 25) (be : BitVec 4) (v : Word) (hbe : be ≠ 0xF) :
    Runs (.registerWrite addr be v) s fun t =>
      AccFlagged HOST_ACC_ERR_PARTIAL 0 (addr.toNat / 4 * 4) s t ∧
      (¬ mapped (addr.toNat / 4 * 4) → t.rd pgHOST HOST_ACC_ERR_UNMAPPED = 1) ∧ OnlyDwords accDwords s t := by
  set a := addr.toNat / 4 * 4 with ha
  set u := s.onDev fun w => w.accErr HOST_ACC_ERR_PARTIAL 0 a with hu
  have hexec : exec (.registerWrite addr be v) s =
      .next (if mapped a then u else u.onDev fun w => w.accErr HOST_ACC_ERR_UNMAPPED 0 a) := by
    have hreg : s.registerWrite a be.toNat v = if mapped a then u else u.onDev fun w => w.accErr HOST_ACC_ERR_UNMAPPED 0 a :=
      if_neg fun h => hbe (BitVec.eq_of_toNat_eq h)
    show execRegisterWrite addr be v s = _
    simp only [execRegisterWrite]
    rw [State.throttle_open _ _ _ hs, ite_self, hreg]
  obtain ⟨hflag, hchange⟩ : AccFlagged HOST_ACC_ERR_PARTIAL 0 a s u ∧ Changes [] accDwords s u :=
    accFlagged_of isAccFlag_partial (by decide) (by omega) Work.Alters.refl
  refine runs_of hexec ?_
  split
  next hm => exact ⟨hflag, fun hn => absurd hm hn, hchange⟩
  next hm =>
    rw [onDev_congr (g := fun w => w.wr pgHOST HOST_ACC_ERR_UNMAPPED 1)
      (accErr_notClear HOST_ACC_ERR_UNMAPPED 0 a rfl (not_accClear_of_partial hflag.1))]
    refine ⟨hflag.congr (rd_wr_disj _ _ _ _ _ _ _ _ (by decide)) (word_wr_ne _ _ _ _ _ _ (by decide)),
      fun _ => rd_wr_same _ _ _ _ _ (by decide), ?_⟩
    exact (((accErr_alters isAccFlag_partial 0 a).wr (by decide)) : s.work.Alters [] accDwords _).changes (f := fun w =>
      (w.accErr HOST_ACC_ERR_PARTIAL 0 a).wr pgHOST HOST_ACC_ERR_UNMAPPED 1)

theorem runs_bar4Write (hs : s.dev.shut = false) (off : BitVec 23) : Runs (.hostBar4Write off) s fun t =>
    AccFlagged HOST_ACC_ERR_BAR4_WR 2 off.toNat s t ∧ OnlyDwords accDwords s t := by
  refine runs_dev rfl ?_
  rw [onDev_congr (g := fun w => w.accErr HOST_ACC_ERR_BAR4_WR 2 off.toNat) (throttle_open _ _ _ hs)]
  exact accFlagged_of isAccFlag_bar4Wr (by decide) (by omega) Work.Alters.refl

/-- Settles O14: each stray access comes to one use of ACC_ERR. -/
theorem strayAccessesFlagged : Obligations.StrayAccessesFlagged := fun _ hs =>
  ⟨runs_unmappedRead hs, runs_unmappedWrite hs, runs_partialWrite hs, runs_bar4Write hs⟩

end Sys2Proof.Machine
end

section
-- One task at a time: the check bounds the memory of all of Lean's threads together.
set_option Elab.async false
set_option linter.all false

/-! SUPPORT. The data windows (R49 to R51): memory errors as a read meets them (R388), the completions of BAR2 and BAR4, and what a
fence answers in the place of a memory (R113, R114). -/

namespace Sys2Proof.Machine

/-! ### Faults that stay flagged -/

/-- A raised fault stays flagged while FLT of its page stays (R61). -/
theorem flagged_of_flt {s : State} {g : Work → Work} {v : Work} {pg bit : Nat} {cls : FaultClass} {info : Word} (h16 : 16 ≤ bit) (h32 : bit < 32)
    (h : (g s.work).word (pg + 0x010) = (v.flt pg cls bit info).word (pg + 0x010)) : (s.onDev g).flagged pg cls bit := by
  have hcls : (clsField cls).at 0 = 0x010 := by cases cls <;> rfl
  constructor
  · rw [State.rd_onDev, rd_congr (v := v.flt pg cls bit info) (by rw [hcls]; exact h)]
    exact rd_flt_class ..
  · rw [State.rd_onDev, rd_congr (v := v.flt pg cls bit info) (f := HDR_FLT_CAUSE) h, cause_flt _ _ _ _ _ _ h32 h16]
    simp

/-! ### Errors of the DRAM -/

/-- What an error of the DRAM may write beside the PKG page. -/
def dramErrKinds (k : Kind) : Bool := decide (k ∈ [Kind.bad, .flue, .lines, .out])

theorem view_memErr_dram (w : Work) (k : Nat) (e : Ecc) :
    view dramErrKinds (fun z => decide (z = .page .pkg)) (w.memErr .dram k e) =
      view dramErrKinds (fun z => decide (z = .page .pkg)) w := by
  have hecc (v : Work) (ue : Bool) : view dramErrKinds (fun z => decide (z = .page .pkg)) (v.eccLast 6 k ue) =
      view dramErrKinds (fun z => decide (z = .page .pkg)) v := view_eccLast _ _ _ _ rfl
  cases e
  · rfl
  · exact (view_flt _ _ _ _ _ rfl rfl rfl rfl rfl).trans (hecc w false)
  · exact (view_markBad _ _ _ rfl).trans ((view_flt _ _ _ _ _ rfl rfl rfl rfl rfl).trans (hecc w true))

theorem dram_memErr_dram (w : Work) (k : Nat) (e : Ecc) : (w.memErr .dram k e).dram = w.dram := same_of_view (view_memErr_dram w k e) .dram rfl

theorem word_memErr_dram (w : Work) (k : Nat) (e : Ecc) {a : Nat} (h : zoneOf a ≠ .page .pkg) :
    (w.memErr .dram k e).word a = w.word a := word_of_view (view_memErr_dram w k e) a (decide_eq_false h)

/-! ### Completions of BAR2 -/

variable {s : State}

theorem runs_bar2Read {off : BitVec 27} {len : BitVec 12} {ecc : Ecc} {p : State → Prop} (h : s.dev.shut = false)
    (hp : p (s.onDev fun w => w.bar2Read off.toNat len.toNat ecc)) : Runs (.hostBar2Read off len ecc) s p :=
  runs_dev (f := fun w => w.throttle (.hostBar2Read off len ecc) fun w => w.bar2Read off.toNat len.toNat ecc) rfl
    (by rwa [onDev_congr (g := fun w => w.bar2Read off.toNat len.toNat ecc) (throttle_open _ _ _ h)])

theorem runs_bar2Write {off : BitVec 27} {bs : List Byte} {p : State → Prop} (h : s.dev.shut = false)
    (hp : p (s.onDev fun w => w.bar2Write off.toNat bs)) : Runs (.hostBar2Write off bs) s p :=
  runs_dev (f := fun w => w.throttle (.hostBar2Write off bs) fun w => w.bar2Write off.toNat bs) rfl
    (by rwa [onDev_congr (g := fun w => w.bar2Write off.toNat bs) (throttle_open _ _ _ h)])

theorem runs_bar4Read {off : BitVec 23} {len : BitVec 12} {ecc : Ecc} {p : State → Prop} (h : s.dev.shut = false)
    (hp : p (s.onDev fun w => w.bar4Read off.toNat len.toNat ecc)) : Runs (.hostBar4Read off len ecc) s p :=
  runs_dev (f := fun w => w.throttle (.hostBar4Read off len ecc) fun w => w.bar4Read off.toNat len.toNat ecc) rfl
    (by rwa [onDev_congr (g := fun w => w.bar4Read off.toNat len.toNat ecc) (throttle_open _ _ _ h)])

/-- A poisoned completion of `len` free bytes (R51). -/
def Work.poisoned (w : Work) (bar off len : Nat) : Work :=
  let q := (w.accErr HOST_ACC_ERR_POISONED bar off).freeBytes len
  q.1.emit (.hostBytes q.2 true)

theorem isAccFlag_poisoned : IsAccFlag HOST_ACC_ERR_POISONED := ⟨rfl, rfl, by decide⟩

/-- A poisoned completion has as many bytes as asked for. -/
theorem poisoned_out (w : Work) (bar off len : Nat) :
    match (w.poisoned bar off len).out.getLast? with | some (.hostBytes bs true) => bs.length = len | _ => False := by
  have hlast : (w.poisoned bar off len).out.getLast? =
      some (.hostBytes ((w.accErr HOST_ACC_ERR_POISONED bar off).freeBytes len).2 true) := List.getLast?_concat
  rw [hlast]
  simp [Work.freeBytes, upto]

theorem alters_useFree {w : Work} (n : Nat) : w.Alters [.freeCtr] [] (w.useFree n) := by
  refine ⟨fun k hk => ?_, fun _ _ => rfl⟩
  cases k
  case freeCtr => exact absurd List.mem_cons_self hk
  all_goals rfl

/-- A poisoned completion flags its access, and writes no other register. -/
theorem alters_poisoned {w : Work} (bar off len : Nat) :
    (w.accErr HOST_ACC_ERR_POISONED bar off).Alters [.freeCtr, .out] [] (w.poisoned bar off len) :=
  ((alters_useFree len).mono (by simp) (List.Subset.refl _)).emit (by simp)

theorem memErr_ok (w : Work) (m : Mem) (k : Nat) : w.memErr m k .ok = w := by cases m <;> rfl

/-- The hub SRAM lies from BAR4 offset 0x500000 on (R49). -/
theorem bar4Mem_hub {off : Nat} (h : (bar4Mem off).1 = .hub) : (bar4Mem off).2 = 0x500000 := by
  unfold bar4Mem at h ⊢
  split_ifs at h ⊢
  rfl

/-- What a BAR4 read completes with: as many bytes as asked for, those of the published areas as stored. -/
theorem sramRead_out (w : Work) (off len : Nat) :
    match ((w.useFree len).emit (.hostBytes (w.sramBytes off len).2 false)).out.getLast? with
    | some (.hostBytes bs false) => bs.length = len ∧ ∀ i b, bs[i]? = some b → published (off + i) → b = cellsGet byte0 w.sram (off + i)
    | _ => False := by
  have hlast : ((w.useFree len).emit (.hostBytes (w.sramBytes off len).2 false)).out.getLast? =
      some (.hostBytes (w.sramBytes off len).2 false) := List.getLast?_concat
  have hlen : (w.sramBytes off len).2.length = len := by simp [Work.sramBytes, upto]
  rw [hlast]
  refine ⟨hlen, fun i b hb hp => ?_⟩
  have hi : i < len := hlen ▸ (List.getElem?_eq_some_iff.1 hb).1
  simpa [Work.sramBytes, upto, hi, hp] using hb.symm

theorem bar2Read_good {w : Work} {off len : Nat} {ecc : Ecc} (hg : w.memGate .dram = none) (hl : off + len ≤ 2 ^ 27)
    (hbad : w.badIn 6 off len = false) (he : ecc ≠ .double) :
    w.bar2Read off len ecc = (w.memErr .dram (off / 8) ecc).emit (.hostBytes ((w.memErr .dram (off / 8) ecc).dramBytes off len) false) := by
  have hlen : min len (2 ^ 27 - off) = len := by omega
  simp only [Work.bar2Read, hg, hlen, Work.eccUse, hbad, Bool.false_eq_true, if_false, he]

theorem bar2Read_bad {w : Work} {off len : Nat} {ecc : Ecc} (hg : w.memGate .dram = none) (hl : off + len ≤ 2 ^ 27)
    (he : ecc = .double ∨ w.badIn 6 off len = true) :
    w.bar2Read off len ecc = (w.memErr .dram (off / 8) .double).poisoned 1 off len := by
  have hlen : min len (2 ^ 27 - off) = len := by omega
  have hecc : w.eccUse 6 off len ecc = .double := by
    rcases he with rfl | hb
    · exact ite_self _
    · exact if_pos hb
  simp only [Work.bar2Read, hg, hlen, hecc, if_true, Work.poisoned]

end Sys2Proof.Machine
end

section
-- One task at a time: the check bounds the memory of all of Lean's threads together.
set_option Elab.async false
set_option linter.all false

/-! PROOF. Settles O18: the data windows. -/

namespace Sys2Proof.Machine

variable {s : State}

/-! ### BAR2 -/

theorem isAccFlag_protected : IsAccFlag HOST_ACC_ERR_PROTECTED := ⟨rfl, rfl, by decide⟩

theorem protected_any {w : Work} {off n : Nat} :
    (w.protectedRanges.any fun r => decide (off < r.1 + r.2) && decide (r.1 < off + n)) = true ↔
      ∃ r ∈ w.protectedRanges, off < r.1 + r.2 ∧ r.1 < off + n := by simp [List.any_eq_true]

theorem take_whole {off : Nat} {bs : List Byte} (h : off + bs.length ≤ 2 ^ 27) : bs.take (2 ^ 27 - off) = bs :=
  List.take_of_length_le (by omega)

theorem bar2Write_stores (hs : s.dev.shut = false) (hg : s.work.memGate .dram = none) (off : BitVec 27) (bs : List Byte)
    (hl : off.toNat + bs.length ≤ 2 ^ 27)
    (hfree : ∀ r ∈ s.work.protectedRanges, r.1 + r.2 ≤ off.toNat ∨ off.toNat + bs.length ≤ r.1) :
    Runs (.hostBar2Write off bs) s fun t =>
      (∀ i b, bs[i]? = some b → t.dramByte (off.toNat + i) = b) ∧
      (∀ a, a < off.toNat ∨ off.toNat + bs.length ≤ a → t.dramByte a = s.dramByte a) ∧ Changes [.dram, .bad] [] s t := by
  have hnot : ¬ (s.work.protectedRanges.any fun r => decide (off.toNat < r.1 + r.2) && decide (r.1 < off.toNat + bs.length)) = true := by
    rw [protected_any]
    rintro ⟨r, hr, h1, h2⟩
    have := hfree r hr
    omega
  refine runs_bar2Write hs ?_
  rw [onDev_congr (g := fun w => w.dramPut off.toNat bs)
    (by simp only [Work.bar2Write, hg, take_whole hl]; exact if_neg hnot)]
  have hbyte (a : Nat) : (s.onDev fun w => w.dramPut off.toNat bs).dramByte a =
      if off.toNat ≤ a ∧ a < off.toNat + bs.length then bs.getD (a - off.toNat) 0 else s.dramByte a := dramPut_byte _ _ _ _
  refine ⟨fun i b hb => ?_, fun a ha => ?_, ⟨rfl, rfl⟩, fun k hk => ?_, fun _ _ => rfl⟩
  · have hi : i < bs.length := (List.getElem?_eq_some_iff.1 hb).1
    rw [hbyte, if_pos (by omega), Nat.add_sub_cancel_left, List.getD_eq_getElem?_getD, hb]
    rfl
  · rw [hbyte, if_neg (by omega)]
  · exact same_of_view (K := fun k => decide (k ∈ [Kind.dram, .bad])) (Z := fun _ => true) (view_dramPut s.work off.toNat bs rfl rfl) k (decide_eq_false hk)

theorem bar2Write_protected (hs : s.dev.shut = false) (hg : s.work.memGate .dram = none) (off : BitVec 27) (bs : List Byte)
    (hl : off.toNat + bs.length ≤ 2 ^ 27) (r : Nat × Nat) (hr : r ∈ s.work.protectedRanges) (h1 : off.toNat < r.1 + r.2)
    (h2 : r.1 < off.toNat + bs.length) :
    Runs (.hostBar2Write off bs) s fun t => AccFlagged HOST_ACC_ERR_PROTECTED 1 off.toNat s t ∧ OnlyDwords accDwords s t := by
  refine runs_bar2Write hs ?_
  rw [onDev_congr (g := fun w => w.accErr HOST_ACC_ERR_PROTECTED 1 off.toNat)
    (by simp only [Work.bar2Write, hg, take_whole hl]; exact if_pos (protected_any.2 ⟨r, hr, h1, h2⟩))]
  exact accFlagged_of isAccFlag_protected (by decide) off.isLt Work.Alters.refl

theorem bar2Read_answers (hs : s.dev.shut = false) (hg : s.work.memGate .dram = none) (off : BitVec 27) (len : BitVec 12)
    (hl : off.toNat + len.toNat ≤ 2 ^ 27) (hbad : s.work.badIn 6 off.toNat len.toNat = false) :
    Runs (.hostBar2Read off len .ok) s fun t =>
      LastOut (.hostBytes ((List.range len.toNat).map fun i => s.dramByte (off.toNat + i)) false) s t ∧ Changes [.out] [] s t := by
  refine runs_bar2Read hs ?_
  rw [onDev_congr (g := fun w => w.emit (.hostBytes (s.work.dramBytes off.toNat len.toNat) false)) (bar2Read_good hg hl hbad (by decide))]
  exact ⟨rfl, (Work.Alters.refl.emit (by simp)).changes⟩

theorem bar2Read_corrects (hs : s.dev.shut = false) (hg : s.work.memGate .dram = none) (off : BitVec 27) (len : BitVec 12)
    (hl : off.toNat + len.toNat ≤ 2 ^ 27) (hbad : s.work.badIn 6 off.toNat len.toNat = false) :
    Runs (.hostBar2Read off len .single) s fun t =>
      t.dev.out.getLast? = some (.hostBytes ((List.range len.toNat).map fun i => s.dramByte (off.toNat + i)) false) ∧
      t.flagged pgPKG .ce 21 ∧ t.dev.dram = s.dev.dram ∧ TimeKept s t := by
  refine runs_bar2Read hs ?_
  have hdram := dram_memErr_dram s.work (off.toNat / 8) .single
  rw [onDev_congr (g := fun w => (w.memErr .dram (off.toNat / 8) .single).emit
    (.hostBytes ((w.memErr .dram (off.toNat / 8) .single).dramBytes off.toNat len.toNat) false)) (bar2Read_good hg hl hbad (by decide))]
  refine ⟨?_, flagged_of_flt (v := s.work.eccLast 6 (off.toNat / 8) false) (info := 0) (by decide) (by decide) rfl, hdram, ⟨rfl, rfl⟩⟩
  refine List.getLast?_concat.trans ?_
  rw [Work.dramBytes, hdram]
  rfl

theorem bar2Read_poisoned (hs : s.dev.shut = false) (hg : s.work.memGate .dram = none) (off : BitVec 27) (len : BitVec 12) (ecc : Ecc)
    (hl : off.toNat + len.toNat ≤ 2 ^ 27) (he : ecc = .double ∨ s.work.badIn 6 off.toNat len.toNat = true) :
    Runs (.hostBar2Read off len ecc) s fun t =>
      AccFlagged HOST_ACC_ERR_POISONED 1 off.toNat s t ∧ t.flagged pgPKG .uc 22 ∧ t.dev.dram = s.dev.dram ∧ TimeKept s t ∧
      (match t.dev.out.getLast? with | some (.hostBytes bs true) => bs.length = len.toNat | _ => False) := by
  refine runs_bar2Read hs ?_
  rw [onDev_congr (g := fun w => (w.memErr .dram (off.toNat / 8) .double).poisoned 1 off.toNat len.toNat) (bar2Read_bad hg hl he)]
  set u := s.work.memErr .dram (off.toNat / 8) .double
  have hwords (a : Nat) : (u.poisoned 1 off.toNat len.toNat).word a = (u.accErr HOST_ACC_ERR_POISONED 1 off.toNat).word a :=
    (alters_poisoned ..).words a List.not_mem_nil
  have hflt : (u.poisoned 1 off.toNat len.toNat).word (pgPKG + 0x010) = u.word (pgPKG + 0x010) :=
    (hwords _).trans ((accErr_alters isAccFlag_poisoned 1 off.toNat).words _ (by decide))
  exact ⟨accFlagged_after isAccFlag_poisoned (by decide) off.isLt (word_memErr_dram _ _ _ (by decide))
      (word_memErr_dram _ _ _ (by decide)) hwords,
    flagged_of_flt (v := s.work.eccLast 6 (off.toNat / 8) true) (info := 0) (by decide) (by decide) hflt,
    ((accErr_alters isAccFlag_poisoned 1 off.toNat).kinds .dram (by simp)).trans (dram_memErr_dram s.work (off.toNat / 8) .double),
    ⟨rfl, rfl⟩, poisoned_out ..⟩

/-! ### What a fence answers (R113, R114) -/

/-- A BAR2 access that a fence answers uses a free word, and is counted and recorded. -/
theorem alters_fenced (w : Work) (f off : Nat) (busy write : Bool) :
    w.Alters [.freeCtr] [pgPKG + (fenceCounter busy).at 0, pgHOST + HOST_FAB_ERR_BUSY.at 0] ((w.useFree 1).fabErr f busy write off) :=
  ((alters_useFree 1).mono (List.Subset.refl _) (by simp)).trans ((fabErr_alters ..).mono (by simp) (List.Subset.refl _))

theorem runs_bar2Write_fenced (hs : s.dev.shut = false) {f : Nat} {busy : Bool} (hg : s.work.memGate .dram = some (f, busy))
    (off : BitVec 27) (bs : List Byte) : Runs (.hostBar2Write off bs) s fun t =>
      t.rd pgPKG (fenceCounter busy) = min (s.rd pgPKG (fenceCounter busy) + 1) (fenceCounter busy).max ∧
      Changes [.freeCtr] [pgPKG + (fenceCounter busy).at 0, pgHOST + HOST_FAB_ERR_BUSY.at 0] s t := by
  refine runs_bar2Write hs ?_
  rw [onDev_congr (g := fun w => (w.useFree 1).fabErr f busy true w.freshWord.2.toNat) (by simp only [Work.bar2Write, hg]; rfl)]
  exact ⟨rd_fenceCounter_fabErr .., (alters_fenced ..).changes⟩

theorem runs_bar2Read_fenced (hs : s.dev.shut = false) {f : Nat} {busy : Bool} (hg : s.work.memGate .dram = some (f, busy))
    (off : BitVec 27) (len : BitVec 12) (ecc : Ecc) (hl : off.toNat + len.toNat ≤ 2 ^ 27) : Runs (.hostBar2Read off len ecc) s fun t =>
      LastOut (.hostBytes (List.replicate len.toNat 0) true) s t ∧
      t.rd pgPKG (fenceCounter busy) = min (s.rd pgPKG (fenceCounter busy) + 1) (fenceCounter busy).max ∧
      Changes [.freeCtr, .out] [pgPKG + (fenceCounter busy).at 0, pgHOST + HOST_FAB_ERR_BUSY.at 0] s t := by
  have hlen : min len.toNat (2 ^ 27 - off.toNat) = len.toNat := by omega
  refine runs_bar2Read hs ?_
  rw [onDev_congr (g := fun w => ((w.useFree 1).fabErr f busy false w.freshWord.2.toNat).emit
    (.hostBytes (List.replicate len.toNat 0) true)) (by simp only [Work.bar2Read, hg, hlen]; rfl)]
  have hout := (fabErr_alters (s.work.useFree 1) f s.work.freshWord.2.toNat busy false).kinds .out (by simp)
  refine ⟨?_, rd_fenceCounter_fabErr .., Work.Alters.changes (.emit ((alters_fenced ..).mono (by simp) (List.Subset.refl _)) (by simp))⟩
  exact congrArg (· ++ [Out.hostBytes (List.replicate len.toNat 0) true]) hout

/-! ### BAR4 -/

variable {off : BitVec 23} {len : BitVec 12}

theorem runs_bar4Read_ok (hs : s.dev.shut = false) (hl : off.toNat + len.toNat ≤ 2 ^ 23)
    (hg : s.work.memGate (bar4Mem off.toNat).1 = none)
    (hbad : (bar4Mem off.toNat).1 = .hub → s.work.badIn 4 (off.toNat - 0x500000) len.toNat = false) :
    Runs (.hostBar4Read off len .ok) s fun t =>
      (match t.dev.out.getLast? with
        | some (.hostBytes bs false) => bs.length = len.toNat ∧
            ∀ i b, bs[i]? = some b → published (off.toNat + i) → b = s.sramByte (off.toNat + i)
        | _ => False) ∧
      Changes [.out, .freeCtr] [] s t := by
  have hlen : min len.toNat (2 ^ 23 - off.toNat) = len.toNat := by omega
  have hecc : (if (bar4Mem off.toNat).1 = .hub then s.work.eccUse 4 (off.toNat - (bar4Mem off.toNat).2) len.toNat .ok else .ok) = .ok := by
    split
    next hhub =>
      rw [Work.eccUse, bar4Mem_hub hhub, hbad hhub]
      rfl
    next => rfl
  refine runs_bar4Read hs ?_
  rw [onDev_congr (g := fun w => (w.useFree len.toNat).emit (.hostBytes (w.sramBytes off.toNat len.toNat).2 false))
    (by simp only [Work.bar4Read, hg, hlen, hecc, memErr_ok]; rfl)]
  exact ⟨sramRead_out .., Work.Alters.changes (.emit ((alters_useFree _).mono (by simp) (List.Subset.refl _)) (by simp))⟩

theorem runs_bar4Read_double (hs : s.dev.shut = false) (hl : off.toNat + len.toNat ≤ 2 ^ 23)
    (hg : s.work.memGate (bar4Mem off.toNat).1 = none) : Runs (.hostBar4Read off len .double) s fun t =>
      t.rd pgHOST HOST_ACC_ERR_POISONED = 1 ∧ TimeKept s t ∧
      (match t.dev.out.getLast? with | some (.hostBytes bs true) => bs.length = len.toNat | _ => False) := by
  have hlen : min len.toNat (2 ^ 23 - off.toNat) = len.toNat := by omega
  have hecc : (if (bar4Mem off.toNat).1 = .hub then s.work.eccUse 4 (off.toNat - (bar4Mem off.toNat).2) len.toNat .double else .double) =
      .double := by rw [Work.eccUse, ite_self, ite_self]
  refine runs_bar4Read hs ?_
  rw [onDev_congr (g := fun w => (w.memErr (bar4Mem off.toNat).1 ((off.toNat - (bar4Mem off.toNat).2) / 4) .double).poisoned 2 off.toNat
    len.toNat) (by simp only [Work.bar4Read, hg, hlen, hecc, if_true, Work.poisoned])]
  exact ⟨rd_wr_same _ _ _ _ _ (by decide), ⟨rfl, rfl⟩, poisoned_out ..⟩

theorem runs_bar4Read_fenced (hs : s.dev.shut = false) (hl : off.toNat + len.toNat ≤ 2 ^ 23) (f : Nat) (busy : Bool) (ecc : Ecc)
    (hg : s.work.memGate (bar4Mem off.toNat).1 = some (f, busy)) : Runs (.hostBar4Read off len ecc) s fun t =>
      LastOut (.hostBytes (List.replicate len.toNat 0) true) s t := by
  have hlen : min len.toNat (2 ^ 23 - off.toNat) = len.toNat := by omega
  refine runs_bar4Read hs ?_
  rw [onDev_congr (g := fun w => (w.fabErr f busy false off.toNat).emit (.hostBytes (List.replicate len.toNat 0) true))
    (by simp only [Work.bar4Read, hg, hlen])]
  exact congrArg (· ++ [Out.hostBytes (List.replicate len.toNat 0) true]) ((fabErr_alters ..).kinds .out (by simp))

/-- Settles O18: each access is one store, one completion, or one flag of ACC_ERR; log entries 175 (a write that meets a protected range is
dropped whole) and 71 (each use of a word marked bad reports it again) are the model's choices. -/
theorem dataWindowsStoreAndAnswer : Obligations.DataWindowsStoreAndAnswer := by
  refine ⟨fun s hs => ⟨fun hg => ⟨fun off bs hl => ⟨bar2Write_stores hs hg off bs hl, bar2Write_protected hs hg off bs hl⟩,
    fun off len ecc hl => ⟨fun hbad he => ?_, fun hbad he => ?_, bar2Read_poisoned hs hg off len ecc hl⟩⟩,
    fun f busy hg off bs len ecc => ⟨runs_bar2Write_fenced hs hg off bs, runs_bar2Read_fenced hs hg off len ecc⟩⟩,
    fun s off len hs hl => ⟨runs_bar4Read_ok hs hl, runs_bar4Read_double hs hl, runs_bar4Read_fenced hs hl⟩⟩
  · exact he ▸ bar2Read_answers hs hg off len hl hbad
  · exact he ▸ bar2Read_corrects hs hg off len hl hbad

end Sys2Proof.Machine
end

section
-- One task at a time: the check bounds the memory of all of Lean's threads together.
set_option Elab.async false
set_option linter.all false

/-! SUPPORT. The recorder (R450 to R457): what its changes of state and index entries write, and which registers a frame is made of. -/

namespace Sys2Proof.Machine

/-- What writes no register leaves the frame as it is, so far as the kinds of state go. -/
theorem Work.Alters.through {ks : List Kind} {l : List Nat} {w v u : Work} (h : w.Alters ks l v)
    (hv : view (fun k => decide (k ∈ ks)) (fun _ => false) u = view (fun k => decide (k ∈ ks)) (fun _ => false) v) : w.Alters ks l u :=
  ⟨fun k hk => k.same_trans (h.kinds k hk) (same_of_view hv k (decide_eq_false hk)), fun a ha => (word_of_view hv a rfl).trans (h.words a ha)⟩

namespace Work.Alters

variable {ks : List Kind} {l : List Nat} {w v : Work}

theorem modRec {f : RecSt → RecSt} (h : w.Alters ks l v) (hk : .recd ∈ ks) : w.Alters ks l (v.modRec f) :=
  h.through (view_modRec _ _ (decide_eq_true hk))

theorem event {cls pg : Nat} {p : List Nat} (h : w.Alters ks l v) (hk : .events ∈ ks) : w.Alters ks l (v.event cls pg p) :=
  h.through (view_event _ _ _ _ (decide_eq_true hk))

theorem sramPut {a : Nat} {ds : List Word} (h : w.Alters ks l v) (hk : .sram ∈ ks) (hb : .bad ∈ ks) : w.Alters ks l (v.sramPut a ds) :=
  h.through (view_sramPut _ _ _ (decide_eq_true hk) (decide_eq_true hb))

theorem dramPut {a : Nat} {bs : List Byte} (h : w.Alters ks l v) (hk : .dram ∈ ks) (hb : .bad ∈ ks) : w.Alters ks l (v.dramPut a bs) :=
  h.through (view_dramPut _ _ _ (decide_eq_true hk) (decide_eq_true hb))

theorem recState {st : Nat} (h : w.Alters ks l v) (hk : .events ∈ ks) (hl : pgREC + REC_RSTAT_STATE.at 0 ∈ l) :
    w.Alters ks l (v.recState st) := by
  unfold Work.recState
  exact (h.wr hl).when ((h.wr hl).event hk)

theorem recIndex {k i : Nat} {b : Int} (h : w.Alters ks l v) (hr : .recd ∈ ks) (hs : .sram ∈ ks) (hb : .bad ∈ ks)
    (hl : pgREC + REC_IDX_SEQ.at 0 ∈ l) : w.Alters ks l (v.recIndex k i b) := by
  unfold Work.recIndex
  exact ((h.sramPut hs hb).wr hl).modRec hr

end Work.Alters

variable {w : Work}

/-! ### Changes of state and index entries -/

theorem rd_modRec (f : RecSt → RecSt) (pg : Nat) (g : Field) : (w.modRec f).rd pg g = w.rd pg g := rfl

theorem modRec_wr (f : RecSt → RecSt) (pg : Nat) (g : Field) (x : Nat) : (w.modRec f).wr pg g x = (w.wr pg g x).modRec f := rfl

theorem rd_recState (st pg : Nat) (g : Field) : (w.recState st).rd pg g = (w.wr pgREC REC_RSTAT_STATE st).rd pg g := by
  unfold Work.recState Work.when
  dsimp only
  split <;> rfl

theorem recd_recState (st : Nat) : (w.recState st).recd = w.recd := by
  unfold Work.recState Work.when
  dsimp only
  split <;> rfl

/-- A change of recorder state is an event of class 8 (R454). -/
theorem events_recState {st : Nat} (h : w.rd pgREC REC_RSTAT_STATE ≠ st) :
    ∃ e, e.cls = 8 ∧ (w.recState st).events = w.events ++ [e] := by
  rw [Work.recState, bne_iff_ne.2 h]
  exact ⟨_, rfl, rfl⟩

theorem rd_recIndex (k i : Nat) (b : Int) (pg : Nat) (g : Field) :
    (w.recIndex k i b).rd pg g = (w.wr pgREC REC_IDX_SEQ (w.rd pgREC REC_IDX_SEQ + 1)).rd pg g := rfl

theorem rd_recIndex_other {k i : Nat} {b : Int} {g : Field}
    (h : REC_IDX_SEQ.Clear 0 g 0) :
    (w.recIndex k i b).rd pgREC g = w.rd pgREC g := rd_wr_clear _ _ h _

/-- Each index entry takes the next number (R452). -/
theorem rd_recIndex_seq (k i : Nat) (b : Int) :
    (w.recIndex k i b).rd pgREC REC_IDX_SEQ = (w.rd pgREC REC_IDX_SEQ + 1) % 2 ^ 32 := rd_wr_same _ _ _ _ _ (by decide)

/-! ### Frames -/

theorem fitFrame_length (l : List (List Byte)) (n : Nat) : (fitFrame l n).1.length ≤ n := by
  induction l generalizing n with
  | nil => exact Nat.zero_le _
  | cons v r ih =>
    have hr := ih (n - v.length)
    unfold fitFrame
    split
    · simp only [List.length_append]
      omega
    · exact Nat.zero_le _

/-- A frame has at most 16,384 bytes (R450), so FSIZE holds its size. -/
theorem recFrame_length : w.recFrame.1.length ≤ 16384 := by
  have h := fitFrame_length ((upto 32).flatMap w.recDesc) 16384
  simp only [Work.recFrame, List.length_append, List.length_replicate, up8]
  omega

theorem rgBase_ge (n : Nat) : 0x1000000 ≤ rgBase n := Nat.le_add_right _ _

/-- A frame is made of the descriptors, the regions' windows and what their SEALs fixed. -/
theorem recFrame_congr {v : Work} (hup : v.up = w.up) (hrgn : v.rgn = w.rgn) (hw : ∀ a, pgREC + 0x100 ≤ a → v.word a = w.word a) :
    v.recFrame = w.recFrame := by
  have hval (k n i : Nat) : v.recValue k n i = w.recValue k n i := by
    have hb := rgBase_ge n
    have hout : v.word (outSlotAddr n i) = w.word (outSlotAddr n i) := hw _ (by unfold outSlotAddr pgREC; omega)
    have hstate : v.word (stateWordAddr n i) = w.word (stateWordAddr n i) := hw _ (by unfold stateWordAddr pgREC; omega)
    unfold Work.recValue Work.rg
    rw [hup, hrgn, hout, hstate]
  have hdesc : v.recDesc = w.recDesc := by
    funext d
    have hrd (f : Field) (hf : f.off = 0x100 ∧ f.stride = 4 ∧ f.cnt = 32) : v.rd pgREC f d = w.rd pgREC f d := rd_congr (hw _ (by
      rw [Field.at, hf.1, hf.2.1, hf.2.2]
      omega))
    unfold Work.recDesc Work.on
    simp only [hval, hrd REC_DESC_EN (by decide), hrd REC_DESC_COUNT (by decide), hrd REC_DESC_KIND (by decide), hrd REC_DESC_RG (by decide),
      hrd REC_DESC_START (by decide), hrd REC_DESC_W16 (by decide)]
  rw [Work.recFrame, Work.recFrame, hdesc]

end Sys2Proof.Machine
end

section
-- One task at a time: the check bounds the memory of all of Lean's threads together.
set_option Elab.async false
set_option linter.all false

/-! PROOF. Settles O52: the recorder's states, triggers, frames and copies. -/

namespace Sys2Proof.Machine

variable {s : State} {w : Work}

/-! ### Arming (R454) -/

/-- What arming leaves for the change of state: frame numbering at 0 and the frame's size. -/
def Work.recReady (w : Work) : Work :=
  let v := ((w.modRec fun r => { r with seals := 0, start := true, gap := false, drops := 0 }).wr pgREC REC_WFRAME 0).wr pgREC REC_RSTAT_WRAPPED 0
  v.wr pgREC REC_FSIZE w.recFrame.1.length

theorem recArm_eq (w : Work) : w.recArm = w.recReady.recState 1 := by
  have hframe : (((w.modRec fun r => { r with seals := 0, start := true, gap := false, drops := 0 }).wr pgREC REC_WFRAME 0).wr pgREC
      REC_RSTAT_WRAPPED 0).recFrame = w.recFrame := recFrame_congr rfl rfl fun a ha => by
    rw [word_wr_ne _ _ _ _ _ _ (by rintro rfl; revert ha; decide), word_wr_ne _ _ _ _ _ _ (by rintro rfl; revert ha; decide)]
    rfl
  rw [Work.recReady, ← hframe]
  rfl

/-- The recorder stands in ARMED with frame numbering at 0, and nothing else but RCTL has changed (R454). -/
def Armed (s t : State) : Prop :=
  t.rd pgREC REC_RSTAT_STATE = 1 ∧ t.rd pgREC REC_WFRAME = 0 ∧ t.rd pgREC REC_RSTAT_WRAPPED = 0 ∧
  t.dev.recd.start = true ∧ t.rd pgREC REC_FSIZE = s.work.recFrame.1.length ∧ (∃ e, e.cls = 8 ∧ t.dev.events = s.dev.events ++ [e]) ∧
  Changes [.recd, .events] [pgREC + REC_RSTAT_STATE.at 0, pgREC + REC_WFRAME.at 0, pgREC + REC_FSIZE.at 0, pgREC + REC_RCTL_EN.at 0] s t

theorem recReady_state : w.recReady.rd pgREC REC_RSTAT_STATE = w.rd pgREC REC_RSTAT_STATE := by
  unfold Work.recReady
  rw [rd_wr_clear _ _ (by decide), rd_wr_clear _ _ (by decide), rd_wr_clear _ _ (by decide)]
  rfl

theorem recArm_rd (g : Field) : w.recArm.rd pgREC g = (w.recReady.wr pgREC REC_RSTAT_STATE 1).rd pgREC g := by
  rw [recArm_eq, rd_recState]

theorem recArm_alters {ks : List Kind} {l : List Nat} {v : Work} (h : v.Alters ks l w) (hr : .recd ∈ ks) (he : .events ∈ ks)
    (hl : [pgREC + REC_RSTAT_STATE.at 0, pgREC + REC_WFRAME.at 0, pgREC + REC_FSIZE.at 0] ⊆ l) : v.Alters ks l w.recArm := by
  rw [recArm_eq]
  exact ((((h.modRec hr).wr (hl (by decide))).wr (hl (by decide))).wr (hl (by decide))).recState he (hl (by decide))

theorem armed_of {g : Work → Work} {v : Work} (hg : g s.work = v.recArm) (hst : v.rd pgREC REC_RSTAT_STATE ≠ 1)
    (hframe : v.recFrame = s.work.recFrame) (hev : v.events = s.dev.events)
    (hv : s.work.Alters [] [pgREC + REC_RCTL_EN.at 0] v) : Armed s (s.onDev g) := by
  have hrd (f : Field) : (s.onDev g).rd pgREC f = (v.recReady.wr pgREC REC_RSTAT_STATE 1).rd pgREC f := by
    rw [State.rd_onDev, hg, recArm_rd]
  obtain ⟨e, hcls, he⟩ := events_recState (w := v.recReady) (st := 1) (by rwa [recReady_state])
  refine ⟨?_, ?_, ?_, ?_, ?_, ⟨e, hcls, ?_⟩, ?_⟩
  · rw [hrd, rd_wr_same _ _ _ _ _ (by decide)]
    rfl
  · rw [hrd, rd_wr_clear _ _ (by decide), Work.recReady, rd_wr_clear _ _ (by decide), rd_wr_clear _ _ (by decide), rd_wr_same _ _ _ _ _ (by decide)]
    rfl
  · rw [hrd, rd_wr_clear _ _ (by decide), Work.recReady, rd_wr_clear _ _ (by decide), rd_wr_same _ _ _ _ _ (by decide)]
    rfl
  · show (g s.work).recd.start = true
    rw [hg, recArm_eq, recd_recState]
    rfl
  · have hlen := recFrame_length (w := v)
    rw [hrd, rd_wr_clear _ _ (by decide), Work.recReady, rd_wr_same _ _ _ _ _ (by decide), ← hframe]
    exact Nat.mod_eq_of_lt (by rw [show REC_FSIZE.wid = 15 from rfl]; omega)
  · show (g s.work).events = _
    rw [hg, recArm_eq, he, ← hev]
    rfl
  · refine Work.Alters.changes ?_
    rw [hg]
    exact recArm_alters (hv.mono (by simp) (by decide)) (by decide) (by decide) (by decide)

/-! ### Freezing and triggers -/

theorem recFreeze_eq {fc : Nat} (h : w.rd pgREC REC_RSTAT_STATE = 1 ∨ w.rd pgREC REC_RSTAT_STATE = 2) : w.recFreeze fc =
    ((w.recIndex 6 (w.rd pgREC REC_WFRAME - 1) w.recT0).wr pgREC REC_RSTAT_FCAUSE fc).recState 3 := if_pos h

/-- What a freeze with cause `fc` makes of `w`: FROZEN, a FREEZE entry and an event (R454). -/
structure Work.Frozen (w : Work) (fc : Nat) (v : Work) : Prop where
  state : v.rd pgREC REC_RSTAT_STATE = 3
  cause : v.rd pgREC REC_RSTAT_FCAUSE = fc % 4
  seq : v.rd pgREC REC_IDX_SEQ = (w.rd pgREC REC_IDX_SEQ + 1) % 2 ^ 32
  other : ∀ g ∈ [REC_RSTAT_TLINE, REC_RSTAT_TRG_HOST, REC_TFRAME, REC_TRG_T_NS], v.rd pgREC g = w.rd pgREC g
  postLeft : v.recd.postLeft = w.recd.postLeft
  event : ∃ e, e.cls = 8 ∧ v.events = w.events ++ [e]
  alters : w.Alters [.recd, .events, .sram, .bad] [pgREC + REC_RSTAT_STATE.at 0, pgREC + REC_IDX_SEQ.at 0] v

theorem recFreeze_frozen {fc : Nat} (h : w.rd pgREC REC_RSTAT_STATE = 1 ∨ w.rd pgREC REC_RSTAT_STATE = 2) : w.Frozen fc (w.recFreeze fc) := by
  rw [recFreeze_eq h]
  set v := w.recIndex 6 (w.rd pgREC REC_WFRAME - 1) w.recT0 with hv
  have hst : (v.wr pgREC REC_RSTAT_FCAUSE fc).rd pgREC REC_RSTAT_STATE ≠ 3 := by
    rw [rd_wr_clear _ _ (by decide), hv, rd_recIndex_other (by decide)]
    omega
  refine ⟨?_, ?_, ?_, fun g hg => ?_, ?_, events_recState hst, ?_⟩
  · rw [rd_recState, rd_wr_same _ _ _ _ _ (by decide)]
    rfl
  · rw [rd_recState, rd_wr_clear _ _ (by decide), rd_wr_same _ _ _ _ _ (by decide)]
    rfl
  · rw [rd_recState, rd_wr_clear _ _ (by decide), rd_wr_clear _ _ (by decide)]
    exact rd_recIndex_seq ..
  · have hapart : ∀ g ∈ [REC_RSTAT_TLINE, REC_RSTAT_TRG_HOST, REC_TFRAME, REC_TRG_T_NS], ∀ f ∈ [REC_RSTAT_STATE, REC_RSTAT_FCAUSE, REC_IDX_SEQ],
        f.Clear 0 g 0 := by decide
    rw [rd_recState, rd_wr_clear _ _ (hapart g hg _ (by decide)), rd_wr_clear _ _ (hapart g hg _ (by decide)), hv, rd_recIndex_other (hapart g hg _ (by decide))]
  · rw [recd_recState]
    rfl
  · exact ((Work.Alters.refl.recIndex (by decide) (by decide) (by decide) (by decide)).wr (by decide)).recState (by decide) (by decide)

/-- What a trigger writes before the change of state: the line, the frame and the time (R454, R455). -/
def Work.recStamp (w : Work) (line : Nat) (host : Bool) : Work :=
  let v := (w.wr pgREC REC_RSTAT_TLINE line).wr pgREC REC_RSTAT_TRG_HOST (b2n host)
  (v.wr pgREC REC_TFRAME (v.rd pgREC REC_WFRAME)).stamp pgREC REC_TRG_T_NS REC_TRG_T_S v.now

/-- A trigger starts to count the post-trigger part (R455). -/
def Work.recMark (w : Work) (line : Nat) (host : Bool) : Work :=
  (w.recStamp line host).modRec fun r => { r with postLeft := (w.recStamp line host).rd pgREC REC_RPOST, seals := 0 }

/-- A trigger up to the change of state to POST. -/
def Work.recPost (w : Work) (line : Nat) (host : Bool) : Work := (w.recMark line host).recState 2

/-- What a trigger by `line`, or by the host, makes of `w`, with `n` index entries so far. -/
structure Work.Fired (w : Work) (line : Nat) (host : Bool) (n : Nat) (v : Work) : Prop where
  state : v.rd pgREC REC_RSTAT_STATE = 2
  host : v.rd pgREC REC_RSTAT_TRG_HOST = b2n host
  line : v.rd pgREC REC_RSTAT_TLINE = line
  frame : v.rd pgREC REC_TFRAME = w.rd pgREC REC_WFRAME
  time : v.rd pgREC REC_TRG_T_NS = w.now.ns % 2 ^ REC_TRG_T_NS.wid
  seq : v.rd pgREC REC_IDX_SEQ = (w.rd pgREC REC_IDX_SEQ + n) % 2 ^ 32
  postLeft : v.recd.postLeft = w.rd pgREC REC_RPOST
  event : ∃ e, e.cls = 8 ∧ v.events = w.events ++ [e]
  alters : w.Alters [.recd, .events, .sram, .bad] [pgREC + REC_RSTAT_STATE.at 0, pgREC + REC_TFRAME.at 0, pgREC + REC_TRG_T_NS.at 0,
    pgREC + REC_TRG_T_S.at 0, pgREC + REC_IDX_SEQ.at 0] v

theorem recStamp_rd {line : Nat} {host : Bool} {g : Field}
    (h : ∀ f ∈ [REC_RSTAT_TLINE, REC_RSTAT_TRG_HOST, REC_TFRAME, REC_TRG_T_NS, REC_TRG_T_S],
      f.Clear 0 g 0) : (w.recStamp line host).rd pgREC g = w.rd pgREC g := by
  unfold Work.recStamp Work.stamp
  rw [rd_wr_clear _ _ (h _ (by decide)), rd_wr_clear _ _ (h _ (by decide)), rd_wr_clear _ _ (h _ (by decide)), rd_wr_clear _ _ (h _ (by decide)),
    rd_wr_clear _ _ (h _ (by decide))]

theorem recPost_rd (line : Nat) (host : Bool) (g : Field) :
    (w.recPost line host).rd pgREC g = ((w.recStamp line host).wr pgREC REC_RSTAT_STATE 2).rd pgREC g := by
  rw [Work.recPost, rd_recState, Work.recMark, modRec_wr, rd_modRec]

theorem recPost_fired {line : Nat} {host : Bool} (hst : w.rd pgREC REC_RSTAT_STATE = 1) (hline : line < 16) :
    w.Fired line host 0 (w.recPost line host) := by
  refine ⟨?_, ?_, ?_, ?_, ?_, ?_, ?_, ?_, ?_⟩
  · rw [recPost_rd, rd_wr_same _ _ _ _ _ (by decide)]
    rfl
  · rw [recPost_rd, rd_wr_clear _ _ (by decide), Work.recStamp, Work.stamp, rd_wr_clear _ _ (by decide), rd_wr_clear _ _ (by decide),
      rd_wr_clear _ _ (by decide), rd_wr_same _ _ _ _ _ (by decide)]
    cases host <;> rfl
  · rw [recPost_rd, rd_wr_clear _ _ (by decide), Work.recStamp, Work.stamp, rd_wr_clear _ _ (by decide), rd_wr_clear _ _ (by decide),
      rd_wr_clear _ _ (by decide), rd_wr_clear _ _ (by decide), rd_wr_same _ _ _ _ _ (by decide)]
    exact Nat.mod_eq_of_lt hline
  · rw [recPost_rd, rd_wr_clear _ _ (by decide), Work.recStamp, Work.stamp, rd_wr_clear _ _ (by decide), rd_wr_clear _ _ (by decide),
      rd_wr_same _ _ _ _ _ (by decide), rd_wr_clear _ _ (by decide), rd_wr_clear _ _ (by decide)]
    exact Nat.mod_eq_of_lt (lt_of_lt_of_eq (rd_lt w pgREC REC_WFRAME 0) (congrArg (2 ^ ·) rfl))
  · rw [recPost_rd, rd_wr_clear _ _ (by decide), Work.recStamp, Work.stamp, rd_wr_clear _ _ (by decide), rd_wr_same _ _ _ _ _ (by decide)]
    rfl
  · rw [recPost_rd, rd_wr_clear _ _ (by decide), recStamp_rd (by decide), Nat.add_zero]
    exact (Nat.mod_eq_of_lt (lt_of_lt_of_eq (rd_lt w pgREC REC_IDX_SEQ 0) (congrArg (2 ^ ·) rfl))).symm
  · rw [Work.recPost, recd_recState]
    exact recStamp_rd (by decide)
  · refine events_recState (w := w.recMark line host) ?_
    rw [Work.recMark, rd_modRec, recStamp_rd (by decide), hst]
    decide
  · exact ((((((Work.Alters.refl.wr (by decide)).wr (by decide)).wr (by decide)).wr (by decide)).wr (by decide)).modRec (by decide)).recState
      (by decide) (by decide)

/-- One more index entry, and nothing else of the trigger changes. -/
theorem Work.Fired.recIndex {line n : Nat} {host : Bool} {v : Work} (h : w.Fired line host n v) (k i : Nat) (b : Int) :
    w.Fired line host (n + 1) (v.recIndex k i b) := by
  refine ⟨?_, ?_, ?_, ?_, ?_, ?_, h.postLeft, h.event, h.alters.recIndex (by decide) (by decide) (by decide) (by decide)⟩
  · rw [rd_recIndex_other (by decide), h.state]
  · rw [rd_recIndex_other (by decide), h.host]
  · rw [rd_recIndex_other (by decide), h.line]
  · rw [rd_recIndex_other (by decide), h.frame]
  · rw [rd_recIndex_other (by decide), h.time]
  · rw [rd_recIndex_seq, h.seq, Nat.mod_add_mod, Nat.add_assoc]

/-- A change of decimation gets its own index entry (R452). -/
def Work.recDecimate (w : Work) (change : Bool) : Work := w.when change fun w => w.recIndex 5 (w.rd pgREC REC_WFRAME) w.recT0

theorem recTrigger_armed {k : Nat} {host : Bool} (hst : w.rd pgREC REC_RSTAT_STATE = 1) :
    let v := w.recMark (if host then 0 else k) host
    let u := ((v.recState 2).recIndex 4 (v.rd pgREC REC_WFRAME) v.recT0).recDecimate (w.rd pgREC REC_RCFG_DEC_POST != w.rd pgREC REC_RCFG_DEC)
    w.recTrigger k host = u.when (u.recd.postLeft == 0) fun w => w.recFreeze 1 := by
  have hpost : (w.recStamp (if host then 0 else k) host).rd pgREC REC_RCFG_DEC_POST = w.rd pgREC REC_RCFG_DEC_POST := recStamp_rd (by decide)
  have hdec : (w.recStamp (if host then 0 else k) host).rd pgREC REC_RCFG_DEC = w.rd pgREC REC_RCFG_DEC := recStamp_rd (by decide)
  rw [← hpost, ← hdec]
  unfold Work.recTrigger Work.recDecimate Work.recMark Work.recStamp
  exact if_pos hst

theorem decimate_fired {line n : Nat} {host : Bool} {v : Work} (h : w.Fired line host n v) (c : Bool) :
    w.Fired line host (n + b2n c) (v.recDecimate c) := by
  cases c
  · exact h
  · exact h.recIndex ..

/-- A trigger from ARMED: POST, and on to FROZEN where the post-trigger part is empty (R454). -/
theorem recTrigger_fired {k : Nat} {host : Bool} (hst : w.rd pgREC REC_RSTAT_STATE = 1) (hk : k < 16) :
    ∃ u, w.Fired (if host then 0 else k) host (1 + b2n (w.rd pgREC REC_RCFG_DEC_POST != w.rd pgREC REC_RCFG_DEC)) u ∧
      w.recTrigger k host = u.when (u.recd.postLeft == 0) fun w => w.recFreeze 1 := by
  have hline : (if host then 0 else k) < 16 := by split <;> omega
  exact ⟨_, decimate_fired ((recPost_fired hst hline).recIndex ..) _, recTrigger_armed hst⟩

/-- The index entries of a trigger beyond the first: one of a change of decimation, one of a freeze (R452). -/
def State.moreEntries (s : State) : Nat :=
  (if s.rd pgREC REC_RCFG_DEC_POST = s.rd pgREC REC_RCFG_DEC then 0 else 1) + if s.rd pgREC REC_RPOST = 0 then 1 else 0

/-- The statement's words for a trigger from ARMED. -/
def Triggered (s : State) (host : Bool) (line : Nat) (t : State) : Prop :=
  t.rd pgREC REC_RSTAT_STATE = (if s.rd pgREC REC_RPOST = 0 then 3 else 2) ∧ (s.rd pgREC REC_RPOST = 0 → t.rd pgREC REC_RSTAT_FCAUSE = 1) ∧
  t.rd pgREC REC_RSTAT_TRG_HOST = b2n host ∧ t.rd pgREC REC_RSTAT_TLINE = line ∧
  t.rd pgREC REC_TFRAME = s.rd pgREC REC_WFRAME ∧ t.rd pgREC REC_TRG_T_NS = s.tally.a.ns % 2 ^ REC_TRG_T_NS.wid ∧
  t.rd pgREC REC_IDX_SEQ = (s.rd pgREC REC_IDX_SEQ + 1 + s.moreEntries) % 2 ^ 32 ∧ t.dev.recd.postLeft = s.rd pgREC REC_RPOST ∧
  (∃ l : List Event, t.dev.events = s.dev.events ++ l ∧ l ≠ [] ∧ ∀ e ∈ l, e.cls = 8) ∧
  Changes [.recd, .events, .sram, .bad] [pgREC + REC_RSTAT_STATE.at 0, pgREC + REC_TFRAME.at 0, pgREC + REC_TRG_T_NS.at 0,
    pgREC + REC_TRG_T_S.at 0, pgREC + REC_IDX_SEQ.at 0] s t

theorem triggered_of {k : Nat} {host : Bool} {g : Work → Work} (hg : g s.work = s.work.recTrigger k host) (hk : k < 16)
    (hst : s.rd pgREC REC_RSTAT_STATE = 1) : Triggered s host (if host then 0 else k) (s.onDev g) := by
  obtain ⟨u, hfired, hu⟩ := recTrigger_fired (host := host) (w := s.work) hst hk
  rw [hu] at hg
  have hmore : b2n (s.work.rd pgREC REC_RCFG_DEC_POST != s.work.rd pgREC REC_RCFG_DEC) =
      if s.rd pgREC REC_RCFG_DEC_POST = s.rd pgREC REC_RCFG_DEC then 0 else 1 := by
    by_cases hd : s.work.rd pgREC REC_RCFG_DEC_POST = s.work.rd pgREC REC_RCFG_DEC
    · rw [← State.rd_work, ← State.rd_work, if_pos hd, bne_eq_false_iff_eq.2 hd]
      rfl
    · rw [← State.rd_work, ← State.rd_work, if_neg hd, bne_iff_ne.2 hd]
      rfl
  have hrd (f : Field) : (s.onDev g).rd pgREC f = (g s.work).rd pgREC f := rfl
  have hrecd : (s.onDev g).dev.recd = (g s.work).recd := rfl
  have hevents : (s.onDev g).dev.events = (g s.work).events := rfl
  obtain ⟨e, hcls, he⟩ := hfired.event
  have hleft := hfired.postLeft
  have hseq := hfired.seq
  rw [hmore] at hseq
  by_cases hends : s.rd pgREC REC_RPOST = 0
  · have hfreeze := recFreeze_frozen (fc := 1) (.inr hfired.state)
    obtain ⟨e', hcls', he'⟩ := hfreeze.event
    rw [beq_iff_eq.2 (hleft.trans hends), when_true] at hg
    have hother := hfreeze.other
    refine ⟨?_, fun _ => ?_, ?_, ?_, ?_, ?_, ?_, ?_, ⟨[e, e'], ?_, by simp, by simp [hcls, hcls']⟩, ?_⟩
    · rw [hrd, hg, hfreeze.state, if_pos hends]
    · rw [hrd, hg, hfreeze.cause]
    · rw [hrd, hg, hother _ (by decide), hfired.host]
    · rw [hrd, hg, hother _ (by decide), hfired.line]
    · rw [hrd, hg, hother _ (by decide), hfired.frame]
      rfl
    · rw [hrd, hg, hother _ (by decide), hfired.time]
      rfl
    · rw [hrd, hg, hfreeze.seq, hseq, State.moreEntries, if_pos hends, Nat.mod_add_mod, State.rd_work]
      congr 1
      omega
    · rw [hrecd, hg, hfreeze.postLeft, hleft]
      rfl
    · rw [hevents, hg, he', he, List.append_assoc]
      rfl
    · refine Work.Alters.changes ?_
      rw [hg]
      exact hfired.alters.trans (hfreeze.alters.mono (List.Subset.refl _) (by decide))
  · rw [beq_eq_false_iff_ne.2 (fun h => hends (hleft.symm.trans h)), when_false] at hg
    refine ⟨?_, fun h => absurd h hends, ?_, ?_, ?_, ?_, ?_, ?_, ⟨[e], ?_, by simp, by simp [hcls]⟩, ?_⟩
    · rw [hrd, hg, hfired.state, if_neg hends]
    · rw [hrd, hg, hfired.host]
    · rw [hrd, hg, hfired.line]
    · rw [hrd, hg, hfired.frame]
      rfl
    · rw [hrd, hg, hfired.time]
      rfl
    · rw [hrd, hg, hseq, State.moreEntries, if_neg hends, State.rd_work]
      congr 1
      omega
    · rw [hrecd, hg, hleft]
      rfl
    · rw [hevents, hg, he]
      rfl
    · refine Work.Alters.changes ?_
      rw [hg]
      exact hfired.alters

/-! ### Commands -/

theorem recTrigger_late (h : w.rd pgREC REC_RSTAT_STATE = 2 ∨ w.rd pgREC REC_RSTAT_STATE = 3) :
    w.recTrigger 0 true = w.count pgREC REC_TRGLATE_COUNT := by
  rw [Work.recTrigger, if_neg (by omega), if_neg (by simp), if_pos h]

theorem recTrigger_off {k : Nat} {host : Bool} (h : w.rd pgREC REC_RSTAT_STATE = 0) : w.recTrigger k host = w := by
  rw [Work.recTrigger, if_neg (by omega), if_neg (by omega), if_neg (by omega)]

/-- A device operation that does nothing leaves the state. -/
theorem onDev_self {g : Work → Work} (h : g s.work = s.work) : s.onDev g = s := by rw [State.onDev, h]; rfl

theorem recEnable_none (h : s.rd pgREC REC_RING_SIZE = 0) : (s.onDev Work.recEnable) = s.onDev fun w => w.badval pgREC :=
  onDev_congr (if_pos h)

theorem recEnable_arms (hr : s.rd pgREC REC_RING_SIZE ≠ 0) (hst : s.rd pgREC REC_RSTAT_STATE = 0) :
    s.work.recEnable = (s.work.wr pgREC REC_RCTL_EN 1).recArm := by
  have h0 : (s.work.wr pgREC REC_RCTL_EN 1).rd pgREC REC_RSTAT_STATE = 0 := (rd_wr_clear _ _ (by decide) _).trans hst
  unfold Work.recEnable
  exact (if_neg hr).trans (if_pos h0)

theorem recEnable_on (hr : s.rd pgREC REC_RING_SIZE ≠ 0) (hst : s.rd pgREC REC_RSTAT_STATE ≠ 0) :
    s.work.recEnable = s.work.wr pgREC REC_RCTL_EN 1 := by
  have h0 : (s.work.wr pgREC REC_RCTL_EN 1).rd pgREC REC_RSTAT_STATE ≠ 0 := fun h => hst ((rd_wr_clear _ _ (by decide) _).symm.trans h)
  unfold Work.recEnable
  exact (if_neg hr).trans (if_neg h0)

theorem recEnable_armed (hr : s.rd pgREC REC_RING_SIZE ≠ 0) (hst : s.rd pgREC REC_RSTAT_STATE = 0) :
    (s.onDev Work.recEnable).rd pgREC REC_RCTL_EN = 1 ∧ Armed s (s.onDev Work.recEnable) := by
  have hst' : (s.work.wr pgREC REC_RCTL_EN 1).rd pgREC REC_RSTAT_STATE ≠ 1 := by rw [rd_wr_clear _ _ (by decide), State.rd_work]; omega
  refine ⟨?_, armed_of (recEnable_arms hr hst) hst' (recFrame_congr rfl rfl fun a ha => word_wr_ne _ _ _ _ _ _
    (by rintro rfl; revert ha; decide)) rfl (Work.Alters.refl.wr (by decide))⟩
  rw [State.rd_onDev, recEnable_arms hr hst, recArm_rd, rd_wr_clear _ _ (by decide), Work.recReady, rd_wr_clear _ _ (by decide),
    rd_wr_clear _ _ (by decide), rd_wr_clear _ _ (by decide), rd_modRec, rd_wr_same _ _ _ _ _ (by decide)]
  rfl

theorem recDisable_off (hst : s.rd pgREC REC_RSTAT_STATE = 0) : s.work.recDisable = s.work.wr pgREC REC_RCTL_EN 0 := by
  have h0 : (s.work.wr pgREC REC_RCTL_EN 0).rd pgREC REC_RSTAT_STATE = 0 := (rd_wr_clear _ _ (by decide) _).trans hst
  exact if_pos h0

theorem recDisable_on (hst : s.rd pgREC REC_RSTAT_STATE ≠ 0) : s.work.recDisable = (s.work.wr pgREC REC_RCTL_EN 0).recState 0 := by
  have h0 : (s.work.wr pgREC REC_RCTL_EN 0).rd pgREC REC_RSTAT_STATE ≠ 0 := fun h => hst ((rd_wr_clear _ _ (by decide) _).symm.trans h)
  exact if_neg h0

theorem recDisable_stops (hst : s.rd pgREC REC_RSTAT_STATE ≠ 0) :
    (s.onDev Work.recDisable).rd pgREC REC_RCTL_EN = 0 ∧ (s.onDev Work.recDisable).rd pgREC REC_RSTAT_STATE = 0 ∧
    (∃ e, e.cls = 8 ∧ (s.onDev Work.recDisable).dev.events = s.dev.events ++ [e]) ∧
    Changes [.events] [rctlAddr, pgREC + REC_RSTAT_STATE.at 0] s (s.onDev Work.recDisable) := by
  have hst' : (s.work.wr pgREC REC_RCTL_EN 0).rd pgREC REC_RSTAT_STATE ≠ 0 := fun h => hst ((rd_wr_clear _ _ (by decide) _).symm.trans h)
  obtain ⟨e, hcls, he⟩ := events_recState hst'
  refine ⟨?_, ?_, ⟨e, hcls, ?_⟩, Work.Alters.changes ?_⟩
  · rw [State.rd_onDev, recDisable_on hst, rd_recState, rd_wr_clear _ _ (by decide), rd_wr_same _ _ _ _ _ (by decide)]
    rfl
  · rw [State.rd_onDev, recDisable_on hst, rd_recState, rd_wr_same _ _ _ _ _ (by decide)]
    rfl
  · show s.work.recDisable.events = _
    rw [recDisable_on hst, he]
    rfl
  · rw [recDisable_on hst]
    exact (Work.Alters.refl.wr (by decide)).recState (by decide) (by decide)

/-- R454: STOP in ARMED or POST. -/
theorem recStop_frozen (hst : s.rd pgREC REC_RSTAT_STATE = 1 ∨ s.rd pgREC REC_RSTAT_STATE = 2) :
    let t := s.onDev fun w => w.recFreeze 2
    t.rd pgREC REC_RSTAT_STATE = 3 ∧ t.rd pgREC REC_RSTAT_FCAUSE = 2 ∧ t.rd pgREC REC_IDX_SEQ = (s.rd pgREC REC_IDX_SEQ + 1) % 2 ^ 32 ∧
    (∃ e, e.cls = 8 ∧ t.dev.events = s.dev.events ++ [e]) ∧
    Changes [.recd, .events, .sram, .bad] [pgREC + REC_RSTAT_STATE.at 0, pgREC + REC_IDX_SEQ.at 0] s t := by
  have h := recFreeze_frozen (w := s.work) (fc := 2) hst
  exact ⟨h.state, h.cause, h.seq, h.event, h.alters.changes⟩

theorem recFreeze_idle {fc : Nat} (h : w.rd pgREC REC_RSTAT_STATE = 0 ∨ w.rd pgREC REC_RSTAT_STATE = 3) : w.recFreeze fc = w :=
  if_neg (by omega)

/-- R454 to R457: the commands of RCTL, where the write reaches the page. -/
theorem rctl_commands (hr : s.reaches rctlAddr) :
    let st := s.rd pgREC REC_RSTAT_STATE
    (st = 1 ∨ st = 2 → Runs .recStop s fun t => t.rd pgREC REC_RSTAT_STATE = 3 ∧ t.rd pgREC REC_RSTAT_FCAUSE = 2 ∧
      t.rd pgREC REC_IDX_SEQ = (s.rd pgREC REC_IDX_SEQ + 1) % 2 ^ 32 ∧ (∃ e, e.cls = 8 ∧ t.dev.events = s.dev.events ++ [e]) ∧
      Changes [.recd, .events, .sram, .bad] [pgREC + REC_RSTAT_STATE.at 0, pgREC + REC_IDX_SEQ.at 0] s t) ∧
    (st = 0 ∨ st = 3 → Runs .recStop s fun t => t = s) ∧
    (st = 3 → Runs .recRearm s (Armed s)) ∧ (st ≠ 3 → Runs .recRearm s fun t => t = s) ∧
    (st = 1 → Runs .recTrig s (Triggered s true 0)) ∧
    (st = 2 ∨ st = 3 → Runs .recTrig s fun t => t.rd pgREC REC_TRGLATE_COUNT = min (s.rd pgREC REC_TRGLATE_COUNT + 1) REC_TRGLATE_COUNT.max ∧
      OnlyDwords [pgREC + REC_TRGLATE_COUNT.at 0] s t) ∧
    (st = 0 → Runs .recTrig s fun t => t = s) := by
  refine ⟨fun h => runs_hostAct rfl hr (recStop_frozen h), fun h => runs_hostAct rfl hr (onDev_self (recFreeze_idle h)),
    fun h => runs_hostAct rfl hr ?_, fun h => runs_hostAct rfl hr (onDev_self (if_neg h)),
    fun h => runs_hostAct rfl hr (triggered_of (k := 0) (host := true) rfl (by decide) h), fun h => runs_hostAct rfl hr ?_,
    fun h => runs_hostAct rfl hr (onDev_self (recTrigger_off h))⟩
  · have h1 : s.work.rd pgREC REC_RSTAT_STATE ≠ 1 := by rw [State.rd_work, h]; decide
    exact armed_of (if_pos h) h1 rfl rfl Work.Alters.refl
  · rw [onDev_congr (g := fun w => w.count pgREC REC_TRGLATE_COUNT) (recTrigger_late h)]
    exact ⟨rd_count _ _ _ _ _ (by decide), (Work.Alters.refl.count (by decide)).changes⟩

/-- R454, R456, R64: writes of RCTL.EN. -/
theorem rctl_enable (hr : s.reaches rctlAddr) (hl : ¬ s.on pgREC HDR_LOCK_LOCKED) :
    let st := s.rd pgREC REC_RSTAT_STATE
    (s.rd pgREC REC_RING_SIZE ≠ 0 → st = 0 → Runs .recEnable s fun t => t.rd pgREC REC_RCTL_EN = 1 ∧ Armed s t) ∧
    (s.rd pgREC REC_RING_SIZE ≠ 0 → st ≠ 0 → Runs .recEnable s fun t => t.rd pgREC REC_RCTL_EN = 1 ∧ OnlyDwords [rctlAddr] s t) ∧
    (s.rd pgREC REC_RING_SIZE = 0 → Runs .recEnable s fun t => t.rd pgREC HDR_STAT_BADVAL = 1 ∧ OnlyDwords [pgREC + HDR_STAT_BADVAL.at 0] s t) ∧
    (st ≠ 0 → Runs .recDisable s fun t => t.rd pgREC REC_RCTL_EN = 0 ∧ t.rd pgREC REC_RSTAT_STATE = 0 ∧
      (∃ e, e.cls = 8 ∧ t.dev.events = s.dev.events ++ [e]) ∧ Changes [.events] [rctlAddr, pgREC + REC_RSTAT_STATE.at 0] s t) ∧
    (st = 0 → Runs .recDisable s fun t => t.rd pgREC REC_RCTL_EN = 0 ∧ OnlyDwords [rctlAddr] s t) := by
  refine ⟨fun hring hst => runs_hostAct rfl hr ?_, fun hring hst => runs_hostAct rfl hr ?_, fun hring => runs_hostAct rfl hr ?_,
    fun hst => runs_hostAct rfl hr ?_, fun hst => runs_hostAct rfl hr ?_⟩ <;> rw [unlocked_open hl]
  · exact recEnable_armed hring hst
  · rw [onDev_congr (g := fun w => w.wr pgREC REC_RCTL_EN 1) (recEnable_on hring hst)]
    exact ⟨rd_wr_same _ _ _ _ _ (by decide), (Work.Alters.refl.wr (by decide)).changes⟩
  · rw [recEnable_none hring]
    exact ⟨rd_wr_same _ _ _ _ _ (by decide), (Work.Alters.refl.badval (by decide)).changes⟩
  · exact recDisable_stops hst
  · rw [onDev_congr (g := fun w => w.wr pgREC REC_RCTL_EN 0) (recDisable_off hst)]
    exact ⟨rd_wr_same _ _ _ _ _ (by decide), (Work.Alters.refl.wr (by decide)).changes⟩

/-! ### Rising pins (R455) -/

/-- Line `l` fires on a rise of pin `k`. -/
def Fires (s : State) (k : Fin 32) (l : Fin 16) : Prop :=
  s.on pgREC REC_TRG_CFG_EN l ∧ s.rd pgREC REC_TRG_CFG_SRC l = 5 ∧ s.rd pgREC REC_TRG_CFG_SEL l % 32 = k

/-- The model's test of a line of source 5. -/
def Work.firesAt (w : Work) (k : Fin 32) (l : Nat) : Bool :=
  w.on pgREC REC_TRG_CFG_EN l && w.rd pgREC REC_TRG_CFG_SRC l == 5 && (w.rd pgREC REC_TRG_CFG_SEL l % 32 == k.val)

theorem firesAt_iff (k : Fin 32) (l : Fin 16) : s.work.firesAt k l = true ↔ Fires s k l := by
  rw [Work.firesAt, Bool.and_eq_true, Bool.and_eq_true, beq_iff_eq, beq_iff_eq, State.on_work, and_assoc]
  rfl

theorem recSource_some {k : Fin 32} {l : Nat} (h : (upto 16).find? (s.work.firesAt k) = some l) :
    (s.work.recSource 5 fun sel => sel % 32 == k.val) = s.work.recTrigger l false := by
  unfold Work.firesAt at h
  unfold Work.recSource
  rw [h]

theorem recSource_none {k : Fin 32} (h : (upto 16).find? (s.work.firesAt k) = none) :
    (s.work.recSource 5 fun sel => sel % 32 == k.val) = s.work := by
  unfold Work.firesAt at h
  unfold Work.recSource
  rw [h]

/-- The lowest line that fires is the trigger. -/
theorem find_firesAt {k : Fin 32} {l : Fin 16} (h : Fires s k l) (hlow : ∀ j : Fin 16, j < l → ¬ Fires s k j) :
    (upto 16).find? (s.work.firesAt k) = some l.val := by
  rw [upto, List.find?_range_eq_some]
  refine ⟨(firesAt_iff k l).2 h, List.mem_range.2 l.isLt, fun j hj => ?_⟩
  have hn := hlow ⟨j, hj.trans l.isLt⟩ hj
  rw [← firesAt_iff] at hn
  simpa using hn

theorem gpioRise_fires {k : Fin 32} {l : Fin 16} (h : Fires s k l) (hlow : ∀ j : Fin 16, j < l → ¬ Fires s k j)
    (hst : s.rd pgREC REC_RSTAT_STATE = 1) : Runs (.gpioRise k) s (Triggered s false l) :=
  runs_dev rfl (triggered_of (host := false) (recSource_some (find_firesAt h hlow)) l.isLt hst)

theorem gpioRise_idle {k : Fin 32} (h : ∀ l : Fin 16, ¬ Fires s k l) : Runs (.gpioRise k) s fun t => t = s := by
  refine runs_dev rfl (onDev_self (recSource_none ?_))
  rw [List.find?_eq_none]
  exact fun j hj hf => h ⟨j, List.mem_range.1 hj⟩ ((firesAt_iff k ⟨j, List.mem_range.1 hj⟩).1 hf)

/-! ### Frames and copies (R117, R451, R453) -/

theorem frameWrite_stores {a : Nat} {bs : List Byte} {r : List (Nat × List Byte)} (hst : s.dev.recd.staged = (a, bs) :: r)
    (hs : s.dev.shut = false) : Runs .recorderFrameWrite s fun t =>
      t.dev.recd.staged = r ∧ (∀ i, i < bs.length → t.dramByte (a + i) = bs.getD i 0) ∧
      (∀ x, x < a ∨ a + bs.length ≤ x → t.dramByte x = s.dramByte x) ∧ Changes [.recd, .dram, .bad] [] s t := by
  have hst : s.work.recd.staged = (a, bs) :: r := hst
  refine runs_dev rfl ?_
  rw [onDev_congr (g := fun w => (w.dramPut a bs).modRec fun k => { k with staged := r })
    ((throttle_open _ _ _ hs).trans (by rw [hst]))]
  have hbyte (x : Nat) : (s.onDev fun w => (w.dramPut a bs).modRec fun k => { k with staged := r }).dramByte x =
      if a ≤ x ∧ x < a + bs.length then bs.getD (x - a) 0 else s.dramByte x := dramPut_byte _ _ _ _
  refine ⟨rfl, fun i hi => ?_, fun x hx => ?_, ((Work.Alters.refl.dramPut (by decide) (by decide)).modRec (by decide)).changes⟩
  · rw [hbyte, if_pos (by omega), Nat.add_sub_cancel_left]
  · rw [hbyte, if_neg (by omega)]

/-- A throttled request waits at the closed gate (R104). -/
theorem throttle_shut {c : Instr} {f : Work → Work} (h : w.shut = true) : w.throttle c f = w.hold c := if_pos h

theorem frameWrite_held (hs : s.dev.shut = true) : Runs .recorderFrameWrite s fun t =>
    t.dev.held = s.dev.held ++ [.recorderFrameWrite] ∧ Changes [.held] [] s t := by
  refine runs_dev rfl ?_
  rw [onDev_congr (g := fun w => w.hold .recorderFrameWrite) (throttle_shut hs)]
  exact ⟨rfl, (Work.Alters.refl.through (view_hold _ _ rfl)).changes⟩

theorem frameWrite_none (hst : s.dev.recd.staged = []) (hs : s.dev.shut = false) : Runs .recorderFrameWrite s fun t => t = s := by
  have hst : s.work.recd.staged = [] := hst
  exact runs_dev rfl (onDev_self ((throttle_open _ _ _ hs).trans (by rw [hst])))

/-- A dword is four bytes of the SRAM. -/
theorem flatMap_wordBytes_length (ds : List Word) : (ds.flatMap wordBytes).length = 4 * ds.length := by
  rw [List.length_flatMap]
  simp [wordBytes, Nat.mul_comm]

theorem ashCopy_copies {sq : Nat} {ds : List Word} {r : List (Nat × List Word)} (hash : s.dev.recd.ash = (sq, ds) :: r) (hds : ds.length = 6) :
    Runs .ashCopy s fun t =>
      t.dev.recd.ash = r ∧ t.rd pgREC REC_ASH_COPY = sq % 2 ^ 32 ∧
      (∀ x, x < 0x748000 + 32 * ((sq - 1) % 512) ∨ 0x748020 + 32 * ((sq - 1) % 512) ≤ x → t.sramByte x = s.sramByte x) ∧
      (∀ i, i < 24 → t.sramByte (0x748000 + 32 * ((sq - 1) % 512) + i) = (ds.flatMap wordBytes).getD i 0) ∧
      Changes [.recd, .sram, .bad] [pgREC + REC_ASH_COPY.at 0] s t := by
  have hash : s.work.recd.ash = (sq, ds) :: r := hash
  have hlen : ((ds ++ [0, 0]).flatMap wordBytes).length = 32 := by rw [flatMap_wordBytes_length, List.length_append, hds]; rfl
  have hlen' : (ds.flatMap wordBytes).length = 24 := by rw [flatMap_wordBytes_length, hds]
  generalize hat : 0x748000 + 32 * ((sq - 1) % 512) = at₀
  refine runs_dev rfl ?_
  rw [onDev_congr (g := fun w => ((w.sramPut at₀ (ds ++ [0, 0])).wr pgREC REC_ASH_COPY sq).modRec fun k => { k with ash := r })
    (by dsimp only; rw [hash, ← hat])]
  have hbyte (x : Nat) : (s.onDev fun w => ((w.sramPut at₀ (ds ++ [0, 0])).wr pgREC REC_ASH_COPY sq).modRec
      fun k => { k with ash := r }).sramByte x =
      if at₀ ≤ x ∧ x < at₀ + ((ds ++ [0, 0]).flatMap wordBytes).length then ((ds ++ [0, 0]).flatMap wordBytes).getD (x - at₀) 0
      else s.sramByte x := sramPut_byte _ _ _ _
  refine ⟨rfl, rd_wr_same _ _ _ _ _ (by decide), fun x hx => ?_, fun i hi => ?_,
    (((Work.Alters.refl.sramPut (by decide) (by decide)).wr (by decide)).modRec (by decide)).changes⟩
  · rw [hbyte, hlen, if_neg (by omega)]
  · rw [hbyte, hlen, if_pos (by omega), Nat.add_sub_cancel_left, List.flatMap_append, List.getD_append _ _ _ _ (by omega)]

theorem ashCopy_none (hash : s.dev.recd.ash = []) : Runs .ashCopy s fun t => t = s := by
  have hash : s.work.recd.ash = [] := hash
  exact runs_dev rfl (onDev_self (by dsimp only; rw [hash]))

/-- Settles O52, command by command. -/
theorem recorderFollowsStates : Obligations.RecorderFollowsStates := fun s =>
  ⟨fun hr => ⟨fun hl => rctl_enable hr hl, fun hl x hx => by
      rcases List.mem_pair.1 hx with rfl | rfl
      · exact runs_hostAct rfl hr (locked_onlyLockWr hl)
      · exact runs_hostAct rfl hr (locked_onlyLockWr hl), rctl_commands hr⟩,
    fun _ => ⟨fun _ h hlow hst => gpioRise_fires h hlow hst, gpioRise_idle⟩,
    fun _ _ _ hst => ⟨frameWrite_stores hst, frameWrite_held⟩, frameWrite_none, fun _ _ _ => ashCopy_copies, ashCopy_none⟩

end Sys2Proof.Machine
end

section
-- One task at a time: the check bounds the memory of all of Lean's threads together.
set_option Elab.async false
set_option linter.all false

/-! SUPPORT. What a reaction of the Hearth writes in its own pages (R389 to R396, R402): the held reactions, HSTAT, REACT_COUNT, the next
Ash record, and at level 4 FLT.FATAL. -/

namespace Sys2Proof.Machine

variable {w v u : Work}

/-- Every kind of state but the Hearth's, and every zone but its pages HRT and HRT1. -/
def offHearth : Kind → Bool := fun k => decide (k ≠ .hearth)
def offHrtPages : Zone → Bool := fun z => decide (z ≠ .page .hrt) && decide (z ≠ .page .hrt1)

/-- The Hearth's state and its pages HRT and HRT1 stand. -/
structure Work.SameHearth (w v : Work) : Prop where
  hearth : v.hearth = w.hearth
  words : ∀ a, zoneOf a = .page .hrt ∨ zoneOf a = .page .hrt1 → v.word a = w.word a

namespace Work.SameHearth

theorem refl (w : Work) : w.SameHearth w := ⟨rfl, fun _ _ => rfl⟩

theorem trans (h : w.SameHearth v) (g : v.SameHearth u) : w.SameHearth u :=
  ⟨g.hearth.trans h.hearth, fun a ha => (g.words a ha).trans (h.words a ha)⟩

theorem of_view (h : view offHearth offHrtPages v = view offHearth offHrtPages w) : w.SameHearth v :=
  ⟨same_of_view h .hearth rfl, fun a ha => word_of_view h a (by rcases ha with ha | ha <;> rw [ha] <;> rfl)⟩

theorem hrt (h : w.SameHearth v) (f : Field) : v.rd pgHRT f = w.rd pgHRT f :=
  rd_congr (h.words _ (.inl (by rw [zoneOf_field _ _ _ mod_pgHRT, zone_pgHRT])))

theorem hrt1 (h : w.SameHearth v) (f : Field) : v.rd pgHRT1 f = w.rd pgHRT1 f :=
  rd_congr (h.words _ (.inr (by rw [zoneOf_field _ _ _ mod_pgHRT1, zone_pgHRT1])))

/-- The same write on both sides. -/
theorem wr (h : w.SameHearth v) (f : Field) (x : Nat) : (w.wr pgHRT f x).SameHearth (v.wr pgHRT f x) := by
  refine ⟨h.hearth, fun a ha => ?_⟩
  have hat := h.words (pgHRT + f.at 0) (.inl (by rw [zoneOf_field _ _ _ mod_pgHRT, zone_pgHRT]))
  rw [Work.wr, Work.wr, word_put, word_put, hat, h.words a ha]

end Work.SameHearth

/-! ### HSTAT and the pins -/

/-- SAFE_OUT_N is driven: the self-check has not passed, or a reaction of level 3 or 4 is held (R394, R396). -/
def Work.safeOut (w : Work) : Bool := !w.hearth.checked || w.hearth.held.any fun h => decide (3 ≤ h.level)

/-- ALIVE runs (R396). -/
def Work.aliveRun (w : Work) : Bool :=
  w.hearth.checked && w.on pgHRT HRT_HSTAT_TABLE_OK && !w.hearth.held.any fun h => decide (4 ≤ h.level)

/-- The two pins follow what the Hearth holds. -/
def Work.pinsShow (w : Work) : Work :=
  let v := w.pinTo "SAFE_OUT_N" (!w.on pgHRT HRT_HSTAT_SAFE_OUT) (!w.safeOut)
  if w.aliveRun then v else (v.pinTo "ALIVE" v.hearth.alive false).modHearth fun k => { k with alive := false }

/-- FCOND as HSTAT shows it. -/
def fcondOf (held : List Held) : Nat :=
  match held with
  | [] => 0
  | h :: _ => if h.kind = 0 then h.cond else 0xFF

/-- HSTAT follows what the Hearth holds. -/
def Work.hstatShow (w : Work) : Work :=
  let v := w.pinsShow
  let b := v.rgHeld != 0 && v.role != 1
  let v := (v.wr pgHRT HRT_HSTAT_SAFE_OUT (b2n w.safeOut)).wr pgHRT HRT_HSTAT_ALIVE_RUN (b2n w.aliveRun)
  let v := ((v.wr pgHRT HRT_HSTAT_FCOND (fcondOf w.hearth.held)).wr pgHRT HRT_HSTAT_RGHELD w.pinsShow.rgHeld).wr pgHRT HRT_HSTAT_BCAST (b2n b)
  v.wr pgHRT HRT_HSTAT_LEVEL v.effLevel

theorem pinsShow_held (w : Work) : w.pinsShow.hearth.held = w.hearth.held := by
  have hpin (u : Work) (n : String) (a b : Bool) : (u.pinTo n a b).hearth = u.hearth := by
    unfold Work.pinTo
    split <;> rfl
  unfold Work.pinsShow
  dsimp only
  split
  · exact congrArg HearthSt.held (hpin ..)
  · show ((w.pinTo "SAFE_OUT_N" _ _).pinTo "ALIVE" _ false).hearth.held = _
    rw [hpin, hpin]

theorem rd_pinsShow (w : Work) (pg : Nat) (f : Field) : w.pinsShow.rd pg f = w.rd pg f := by
  have hpin (u : Work) (n : String) (a b : Bool) : (u.pinTo n a b).rd pg f = u.rd pg f := by
    unfold Work.pinTo
    split <;> rfl
  unfold Work.pinsShow
  dsimp only
  split
  · exact hpin ..
  · exact (hpin ..).trans (hpin ..)

/-- RT_HELD as HRT1 shows it. -/
def rtHeld (held : List Held) : Nat :=
  (upto 32).foldl (fun m e => if held.any fun h => h.kind == 0 && h.entry == e then m + 2 ^ e else m) 0

/-- What `hearthShow` adds to HSTAT touches no other register of HRT and, of HRT1, only RT_HELD. -/
theorem hearthShow_tail (w : Work) : (w.hstatShow.wr pgHRT1 HRT1_RT_HELD (rtHeld w.hearth.held)).SameHearth w.hearthShow := by
  refine .of_view ?_
  unfold Work.hearthShow
  dsimp only
  rw [view_tripShow _ rfl rfl rfl rfl rfl rfl, view_chopHearth _ rfl rfl rfl, view_each _ _ _ fun v l => view_modLn _ _ _ rfl]
  rfl

theorem hearthShow_held (w : Work) : w.hearthShow.hearth.held = w.hearth.held :=
  (congrArg HearthSt.held (hearthShow_tail w).hearth).trans (pinsShow_held w)

theorem rd_hearthShow (w : Work) (f : Field) : w.hearthShow.rd pgHRT f = w.hstatShow.rd pgHRT f := by
  have hne : pgHRT + f.at 0 ≠ pgHRT1 + HRT1_RT_HELD.at 0 := by
    have := f.at_lt 0
    unfold pgHRT pgHRT1
    omega
  rw [(hearthShow_tail w).hrt, rd_wr_ne _ _ _ _ _ _ _ _ hne]

/-- A register of HRT beside HSTAT. -/
theorem rd_hearthShow_other {f : Field} (h : f.at 0 ≠ HRT_HSTAT_LEVEL.at 0) : w.hearthShow.rd pgHRT f = w.rd pgHRT f := by
  have hne (g : Field) (hg : g.at 0 = HRT_HSTAT_LEVEL.at 0) : g.Clear 0 f 0 := .inl fun e => h (e.symm.trans hg)
  rw [rd_hearthShow, Work.hstatShow, rd_wr_clear _ _ (hne HRT_HSTAT_LEVEL rfl), rd_wr_clear _ _ (hne HRT_HSTAT_BCAST rfl),
    rd_wr_clear _ _ (hne HRT_HSTAT_RGHELD rfl), rd_wr_clear _ _ (hne HRT_HSTAT_FCOND rfl), rd_wr_clear _ _ (hne HRT_HSTAT_ALIVE_RUN rfl),
    rd_wr_clear _ _ (hne HRT_HSTAT_SAFE_OUT rfl), rd_pinsShow]

theorem rd_hearthShow_safeOut (w : Work) : w.hearthShow.rd pgHRT HRT_HSTAT_SAFE_OUT = b2n w.safeOut := by
  rw [rd_hearthShow, Work.hstatShow, rd_wr_clear _ _ (by decide), rd_wr_clear _ _ (by decide), rd_wr_clear _ _ (by decide), rd_wr_clear _ _ (by decide),
    rd_wr_clear _ _ (by decide), rd_wr_same _ _ _ _ _ (by decide)]
  cases w.safeOut <;> rfl

theorem rd_hearthShow_aliveRun (w : Work) : w.hearthShow.rd pgHRT HRT_HSTAT_ALIVE_RUN = b2n w.aliveRun := by
  rw [rd_hearthShow, Work.hstatShow, rd_wr_clear _ _ (by decide), rd_wr_clear _ _ (by decide), rd_wr_clear _ _ (by decide), rd_wr_clear _ _ (by decide),
    rd_wr_same _ _ _ _ _ (by decide)]
  cases w.aliveRun <;> rfl

theorem rd_wr_hrt_act (f : Field) (x : Nat) : (w.wr pgHRT f x).rd pgHRT1 HRT1_RT_ACT = w.rd pgHRT1 HRT1_RT_ACT := by
  have := f.at_lt 0
  have : HRT1_RT_ACT.at 0 < 0x1000 := HRT1_RT_ACT.at_lt 0
  exact rd_wr_ne _ _ _ _ _ _ _ _ (by unfold pgHRT pgHRT1; omega)

/-- RT_ACT is none of what the Hearth shows. -/
theorem rtAct_hearthShow (w : Work) : w.hearthShow.rd pgHRT1 HRT1_RT_ACT = w.rd pgHRT1 HRT1_RT_ACT := by
  rw [(hearthShow_tail w).hrt1, rd_wr_clear _ _ (by decide), Work.hstatShow, rd_wr_hrt_act, rd_wr_hrt_act, rd_wr_hrt_act, rd_wr_hrt_act,
    rd_wr_hrt_act, rd_wr_hrt_act, rd_pinsShow]

/-! ### Ash records (R402) -/

/-- The next Ash sequence number. -/
def nextSeq (n : Nat) : Nat := if n + 1 = 2 ^ 32 then 1 else n + 1

theorem nextSeq_lt {n : Nat} (h : n < 2 ^ 32) : nextSeq n < 2 ^ 32 := by
  unfold nextSeq
  split <;> omega

/-- An Ash record takes the next number and touches no other register of HRT and HRT1. -/
theorem ash_same (w : Work) (r : AshRec) : (w.wr pgHRT HRT_ASH_SEQ (nextSeq (w.rd pgHRT HRT_ASH_SEQ))).SameHearth (w.ash r) := by
  have hputs (x : Work) (ds : List Word) (sq : Nat) (hl : ds.length = 6) :
      x.SameHearth (x.each ds.zipIdx fun w e => w.put (pgHRT2 + 0x100 + 24 * ((sq - 1) % 64) + 4 * e.2) e.1) := .of_view <| by
    refine view_each_mem _ _ _ fun y e he => ?_
    have hlt := List.snd_lt_of_mem_zipIdx he
    rw [Nat.add_assoc, Nat.add_assoc]
    exact view_put_page _ _ _ _ (by omega) mod_pgHRT2 (by rw [zone_pgHRT2]; rfl)
  have hpost (x : Work) (f : RecSt → RecSt) (c : Bool) (l : List Nat) :
      x.SameHearth ((x.modRec f).when c fun w => w.event 7 pgHRT l) := .of_view <| by
    rw [view_when _ _ _ fun v => view_event _ _ _ _ rfl, view_modRec _ _ rfl]
  unfold Work.ash
  exact ((hputs w _ _ rfl).wr ..).trans (hpost ..)

theorem rd_ash_seq (w : Work) (r : AshRec) : (w.ash r).rd pgHRT HRT_ASH_SEQ = nextSeq (w.rd pgHRT HRT_ASH_SEQ) := by
  rw [(ash_same w r).hrt, rd_wr_same _ _ _ _ _ (by decide)]
  exact Nat.mod_eq_of_lt (nextSeq_lt (rd_lt w pgHRT HRT_ASH_SEQ 0))

theorem rd_ash_clear {r : AshRec} {f : Field} (h : HRT_ASH_SEQ.Clear 0 f 0) : (w.ash r).rd pgHRT f = w.rd pgHRT f := by
  rw [(ash_same w r).hrt, rd_wr_clear _ _ h]

theorem ash_hearth (w : Work) (r : AshRec) : (w.ash r).hearth = w.hearth := (ash_same w r).hearth

theorem rtAct_ash (w : Work) (r : AshRec) : (w.ash r).rd pgHRT1 HRT1_RT_ACT = w.rd pgHRT1 HRT1_RT_ACT := by
  rw [(ash_same w r).hrt1, rd_wr_hrt_act]

/-! ### Reactions (R389, R392) -/

/-- The reaction joins the held ones from level 2 on. -/
def Work.reactHold (w : Work) (h : Held) : Work :=
  w.when (decide (2 ≤ h.level)) fun w => w.modHearth fun k => { k with held := k.held ++ [h] }

/-- The record of a reaction's start. -/
def reactRec (h : Held) (srclvl page kind : Nat) : AshRec :=
  ⟨kind, 0, srclvl, page, if kind = 4 then h.cond else 0, if kind = 4 then h.idx else 0, h.entry, 0⟩

/-- A reaction as far as it writes the Hearth's own pages, but for FLT.FATAL. -/
def Work.reactShown (w : Work) (h : Held) (r : AshRec) : Work := ((w.reactHold h).hearthShow.count pgHRT HRT_REACT_COUNT).ash r

/-- The alert and the forced safe actions of a reaction. -/
def Work.reactForce (w : Work) (h : Held) : Work :=
  (w.when (decide (1 ≤ h.level) && w.on pgHRT HRT_ALERT_EN) fun w => w.msix (w.rd pgHRT HRT_ALERT_VEC)).each
    ((upto 4).filter fun n => bitOf h.covers n) fun w n => w.forcedSafeRg n 9

theorem react_eq (w : Work) (h : Held) (srclvl page kind : Nat) :
    let v := (w.reactShown h (reactRec h srclvl page kind)).reactForce h
    w.react h srclvl page kind =
      if 4 ≤ h.level then (v.wr pgHRT HDR_FLT_FATAL 1).recFreeze 3
      else if w.rd pgHRT HRT_HSTAT_LEVEL < v.rd pgHRT HRT_HSTAT_LEVEL then
        v.recSource 3 fun sel => decide (w.rd pgHRT HRT_HSTAT_LEVEL < sel % 8) && decide (sel % 8 ≤ v.rd pgHRT HRT_HSTAT_LEVEL)
      else v := rfl

theorem reactForce_same (w : Work) (h : Held) : w.SameHearth (w.reactForce h) := .of_view <| by
  rw [Work.reactForce, view_each _ _ _ fun v n => view_forcedSafeRg _ _ _ _ rfl rfl rfl rfl, view_when _ _ _ fun v => view_msix _ _ rfl]

theorem recFreeze_same (w : Work) (fc : Nat) : w.SameHearth (w.recFreeze fc) := .of_view (view_recFreeze _ _ rfl rfl rfl rfl rfl)

theorem recSource_same (w : Work) (src : Nat) (p : Nat → Bool) : w.SameHearth (w.recSource src p) :=
  .of_view (view_recSource _ _ _ rfl rfl rfl rfl rfl)

variable {h : Held} {srclvl page kind : Nat}

/-- At level 4 FLT.FATAL is set, below it nothing more is written. -/
theorem react_same : (if 4 ≤ h.level then (w.reactShown h (reactRec h srclvl page kind)).wr pgHRT HDR_FLT_FATAL 1
    else w.reactShown h (reactRec h srclvl page kind)).SameHearth (w.react h srclvl page kind) := by
  have hforce := reactForce_same (w.reactShown h (reactRec h srclvl page kind)) h
  rw [react_eq]
  split
  · exact (hforce.wr ..).trans (recFreeze_same ..)
  · split
    · exact hforce.trans (recSource_same ..)
    · exact hforce

theorem rd_react {f : Field} (hf : HDR_FLT_FATAL.Clear 0 f 0) :
    (w.react h srclvl page kind).rd pgHRT f = (w.reactShown h (reactRec h srclvl page kind)).rd pgHRT f := by
  rw [react_same.hrt]
  split
  · exact rd_wr_clear _ _ hf _
  · rfl

theorem rd_react_fatal (h4 : 4 ≤ h.level) : (w.react h srclvl page kind).rd pgHRT HDR_FLT_FATAL = 1 := by
  rw [react_same.hrt, if_pos h4, rd_wr_same _ _ _ _ _ (by decide)]
  rfl

theorem rd_reactHold (pg : Nat) (f : Field) : (w.reactHold h).rd pg f = w.rd pg f := by
  unfold Work.reactHold Work.when
  split <;> rfl

theorem held_reactHold : (w.reactHold h).hearth.held = w.hearth.held ++ if 2 ≤ h.level then [h] else [] := by
  unfold Work.reactHold Work.when
  by_cases h2 : 2 ≤ h.level
  · rw [if_pos h2, decide_eq_true h2]
    rfl
  · rw [if_neg h2, decide_eq_false h2]
    exact (List.append_nil _).symm

theorem react_held : (w.react h srclvl page kind).hearth.held = w.hearth.held ++ if 2 ≤ h.level then [h] else [] := by
  have hshown : (w.reactShown h (reactRec h srclvl page kind)).hearth.held = (w.reactHold h).hearthShow.hearth.held :=
    congrArg HearthSt.held (ash_hearth ..)
  rw [← held_reactHold, ← hearthShow_held (w.reactHold h), ← hshown, react_same.hearth]
  split <;> rfl

theorem rtAct_react : (w.react h srclvl page kind).rd pgHRT1 HRT1_RT_ACT = w.rd pgHRT1 HRT1_RT_ACT := by
  have hshown : (w.reactShown h (reactRec h srclvl page kind)).rd pgHRT1 HRT1_RT_ACT = w.rd pgHRT1 HRT1_RT_ACT := by
    rw [Work.reactShown, rtAct_ash, Work.count, rd_wr_hrt_act, rtAct_hearthShow, rd_reactHold]
  rw [react_same.hrt1, ← hshown]
  split
  · exact rd_wr_hrt_act ..
  · rfl

/-- A register of HRT that no reaction writes. -/
theorem rd_react_other {f : Field} (h1 : f.at 0 ≠ HRT_HSTAT_LEVEL.at 0) (h2 : HRT_REACT_COUNT.Clear 0 f 0) (h3 : HRT_ASH_SEQ.Clear 0 f 0)
    (h4 : HDR_FLT_FATAL.Clear 0 f 0) : (w.react h srclvl page kind).rd pgHRT f = w.rd pgHRT f := by
  rw [rd_react h4, Work.reactShown, rd_ash_clear h3, rd_count_clear _ _ h2, rd_hearthShow_other h1, rd_reactHold]

/-- The reaction is held, so SAFE_OUT_N is driven from level 3 and ALIVE stops at level 4. -/
theorem held_any_reactHold {n : Nat} (h2 : 2 ≤ n) (hn : n ≤ h.level) :
    ((w.reactHold h).hearth.held.any fun k => decide (n ≤ k.level)) = true := by
  rw [held_reactHold, if_pos (h2.trans hn), List.any_append]
  simp [hn]

theorem rd_react_safeOut (h3 : 3 ≤ h.level) : (w.react h srclvl page kind).rd pgHRT HRT_HSTAT_SAFE_OUT = 1 := by
  rw [rd_react (by decide), Work.reactShown, rd_ash_clear (by decide), rd_count_clear _ _ (by decide), rd_hearthShow_safeOut, Work.safeOut,
    held_any_reactHold (by decide) h3, Bool.or_true]
  rfl

theorem rd_react_aliveRun (h4 : 4 ≤ h.level) : (w.react h srclvl page kind).rd pgHRT HRT_HSTAT_ALIVE_RUN = 0 := by
  rw [rd_react (by decide), Work.reactShown, rd_ash_clear (by decide), rd_count_clear _ _ (by decide), rd_hearthShow_aliveRun, Work.aliveRun,
    held_any_reactHold (by decide) h4, Bool.not_true, Bool.and_false]
  rfl

theorem rd_react_count : (w.react h srclvl page kind).rd pgHRT HRT_REACT_COUNT = min (w.rd pgHRT HRT_REACT_COUNT + 1) HRT_REACT_COUNT.max := by
  rw [rd_react (by decide), Work.reactShown, rd_ash_clear (by decide), rd_count _ _ _ _ _ (by decide), rd_hearthShow_other (by decide), rd_reactHold]

theorem rd_react_seq : (w.react h srclvl page kind).rd pgHRT HRT_ASH_SEQ = nextSeq (w.rd pgHRT HRT_ASH_SEQ) := by
  rw [rd_react (by decide), Work.reactShown, rd_ash_seq, rd_count_clear _ _ (by decide), rd_hearthShow_other (by decide), rd_reactHold]

/-- A command that ends in a reaction, with what it did before standing clear of the Hearth's registers. -/
theorem reacted_of {s : State} {g : Work → Work} (hg : g s.work = w.react h srclvl page kind) (hheld : w.hearth.held = s.dev.hearth.held)
    (hcount : w.rd pgHRT HRT_REACT_COUNT = s.rd pgHRT HRT_REACT_COUNT) (hseq : w.rd pgHRT HRT_ASH_SEQ = s.rd pgHRT HRT_ASH_SEQ) :
    Reacted h s (s.onDev g) := by
  have hrd (f : Field) : (s.onDev g).rd pgHRT f = (w.react h srclvl page kind).rd pgHRT f := by rw [State.rd_onDev, hg]
  refine ⟨?_, ?_, ?_, fun h3 => ?_, fun h4 => ⟨?_, ?_⟩⟩
  · show (g s.work).hearth.held = _
    rw [hg, react_held, hheld]
  · rw [hrd, rd_react_count, hcount]
  · rw [hrd, rd_react_seq, hseq, nextSeq]
  · rw [hrd, rd_react_safeOut h3]
  · rw [hrd, rd_react_aliveRun h4]
  · rw [hrd, rd_react_fatal h4]

/-! ### Faults of the Hearth's own page -/

/-- A fault sent to another collector writes the same registers. -/
theorem word_fltTo (w : Work) (pg bit : Nat) (cls : FaultClass) (dst : Option (Coll × Nat)) (info : Word) (a : Nat) :
    (w.fltTo pg cls bit dst info).word a = (w.flt pg cls bit info).word a := by
  have hregs (d : Option (Coll × Nat)) : (w.fltTo pg cls bit d info).word a =
      ((w.wr pg (clsField cls) 1).setBit pg HDR_FLT_CAUSE (bit - 16)).word a := by
    unfold Work.fltTo Work.when
    dsimp only
    generalize (w.wr pg (clsField cls) 1).setBit pg HDR_FLT_CAUSE (bit - 16) = v
    (repeat' split) <;> rfl
  rw [hregs, Work.flt, hregs]

theorem fltTo_hearth (w : Work) (bit : Nat) (cls : FaultClass) (dst : Option (Coll × Nat)) (info : Word) :
    (w.fltTo pgHRT cls bit dst info).hearth = w.hearth :=
  same_of_view (K := offHearth) (Z := allZones) (view_fltTo _ _ _ _ _ _ mod_pgHRT rfl rfl rfl rfl) .hearth rfl

/-- A fault of HRT leaves what a reaction reads. -/
theorem rd_fltTo_other {bit : Nat} {cls : FaultClass} {dst : Option (Coll × Nat)} {info : Word} {f : Field} (h : f.at 0 ≠ 0x010) :
    (w.fltTo pgHRT cls bit dst info).rd pgHRT f = w.rd pgHRT f :=
  rd_congr ((word_fltTo ..).trans (word_flt_ne _ _ _ _ _ _ fun e => h (Nat.add_left_cancel e)))

/-! ### Fixed reactions (R390) -/

theorem reactFixed_eq {level : Nat} (hn : ∀ k ∈ w.hearth.held, k.kind ≠ kind) :
    w.reactFixed kind level srclvl page = w.react ⟨0, 0, 0xFF, level, 0xF, kind⟩ srclvl page 4 := by
  unfold Work.reactFixed
  refine if_neg ?_
  simpa using hn

theorem reacted_fixed {s : State} {g : Work → Work} {level : Nat} (hg : g s.work = w.reactFixed kind level srclvl page)
    (hn : s.notHeld kind) (hheld : w.hearth.held = s.dev.hearth.held)
    (hcount : w.rd pgHRT HRT_REACT_COUNT = s.rd pgHRT HRT_REACT_COUNT) (hseq : w.rd pgHRT HRT_ASH_SEQ = s.rd pgHRT HRT_ASH_SEQ) :
    Reacted ⟨0, 0, 0xFF, level, 0xF, kind⟩ s (s.onDev g) := by
  rw [reactFixed_eq (by rwa [hheld])] at hg
  exact reacted_of hg hheld hcount hseq

/-- A fault below FATAL stays flagged through a fixed reaction. -/
theorem flagged_react {s : State} {g : Work → Work} {bit : Nat} {cls : FaultClass} {u : Work} (h16 : 16 ≤ bit) (h32 : bit < 32)
    (hc : cls ≠ .fatal) (hg : g s.work = (u.flt pgHRT cls bit).react h srclvl page kind) : (s.onDev g).flagged pgHRT cls bit := by
  have hrd {f : Field} (h1 : f.at 0 = 0x010) (hf : HDR_FLT_FATAL.Clear 0 f 0) : (s.onDev g).rd pgHRT f = (u.flt pgHRT cls bit).rd pgHRT f := by
    rw [State.rd_onDev, hg, rd_react_other (by rw [h1]; decide) (.inl (by rw [h1]; decide)) (.inl (by rw [h1]; decide)) hf]
  constructor
  · rw [hrd (by cases cls <;> rfl) (by revert hc; cases cls <;> decide)]
    exact rd_flt_class ..
  · rw [hrd rfl (by decide), cause_flt _ _ _ _ _ _ h32 h16]
    simp

/-- R390: a FATAL on the Hearth's own circuits, with no fixed reaction held. -/
theorem hearthFatal_reacts {s : State} {g : Work → Work} {bit : Nat} {u : Work} (h16 : 16 ≤ bit) (h32 : bit < 32)
    (hg : g s.work = u.hearthFatal pgHRT bit) (hn : s.notHeld 1) (hheld : u.hearth.held = s.dev.hearth.held)
    (hcount : u.rd pgHRT HRT_REACT_COUNT = s.rd pgHRT HRT_REACT_COUNT) (hseq : u.rd pgHRT HRT_ASH_SEQ = s.rd pgHRT HRT_ASH_SEQ) :
    (s.onDev g).flagged pgHRT .fatal bit ∧ Reacted ⟨0, 0, 0xFF, 4, 0xF, 1⟩ s (s.onDev g) := by
  have hheld' : (u.fltTo pgHRT .fatal bit (hearthColl pgHRT bit)).hearth.held = s.dev.hearth.held := by rw [fltTo_hearth, hheld]
  have hr : Reacted ⟨0, 0, 0xFF, 4, 0xF, 1⟩ s (s.onDev g) := reacted_fixed hg hn hheld' ((rd_fltTo_other (by decide)).trans hcount)
    ((rd_fltTo_other (by decide)).trans hseq)
  have hreact : g s.work = (u.fltTo pgHRT .fatal bit (hearthColl pgHRT bit)).react ⟨0, 0, 0xFF, 4, 0xF, 1⟩ (srcLevel (pgHRT / 0x1000))
      (pgHRT / 0x1000) 4 := hg.trans (reactFixed_eq (by rwa [hheld']))
  refine ⟨⟨?_, ?_⟩, hr⟩
  · rw [State.rd_onDev, hreact]
    exact rd_react_fatal (by decide)
  · rw [State.rd_onDev, hreact, rd_react_other (by decide) (by decide) (by decide) (by decide), rd_congr (word_fltTo ..), cause_flt _ _ _ _ _ _ h32 h16]
    simp

end Sys2Proof.Machine
end

section
-- One task at a time: the check bounds the memory of all of Lean's threads together.
set_option Elab.async false
set_option linter.all false

/-! SUPPORT. Copying and cleaning the configuration sets (R60, R68, R69). -/

namespace Sys2Proof.Machine

variable {w : Work}

theorem merge_masked (x y m : Word) : ((x &&& ~~~m) ||| (y &&& m)) &&& m = y &&& m := by
  apply BitVec.eq_of_getElem_eq
  intro j hj
  simp only [BitVec.getElem_and, BitVec.getElem_or, BitVec.getElem_not]
  cases m[j] <;> simp

theorem shWord_shPut (w : Work) (a : Nat) (d : Word) (b : Nat) : (w.shPut a d).shWord b = if b = a then d else w.shWord b :=
  cellsGet_put resetWord w.shadow a d b

/-- The shadow set holds the active set at `b`. -/
def Work.Copied (w : Work) (b : Nat) : Prop := w.shWord b &&& rwsMask b = w.word b &&& rwsMask b

/-- The shadow dword at `a` takes the active one's RWS bits. -/
def Work.copyWord (w : Work) (a : Nat) : Work := w.shPut a ((w.shWord a &&& ~~~(rwsMask a)) ||| (w.word a &&& rwsMask a))

theorem copyWord_copied (w : Work) (a b : Nat) (h : a = b ∨ w.Copied b) : (w.copyWord a).Copied b := by
  unfold Work.Copied
  rw [Work.copyWord, shWord_shPut]
  split
  · next e =>
    subst e
    exact merge_masked ..
  · next e => exact h.resolve_left fun e' => e e'.symm

theorem each_copyWord (w : Work) (l : List Nat) (b : Nat) (h : b ∈ l ∨ w.Copied b) : (w.each l Work.copyWord).Copied b := by
  unfold Work.each
  induction l generalizing w with
  | nil => exact h.resolve_left List.not_mem_nil
  | cons a l ih =>
    refine ih (w.copyWord a) ?_
    rcases h with h | h
    · rcases List.mem_cons.1 h with rfl | h
      · exact .inr (copyWord_copied w _ _ (.inl rfl))
      · exact .inl h
    · exact .inr (copyWord_copied w _ _ (.inr h))

/-- A set copy leaves the two sets equal (R69). -/
theorem copySets_copied (w : Work) (b : Nat) : w.copySets.Copied b := by
  refine each_copyWord w _ b ?_
  by_cases hm : rwsMask b = 0
  · exact .inr (by simp [Work.Copied, hm])
  by_cases hk : b ∈ w.regs.map Prod.fst ++ w.shadow.map Prod.fst
  · exact .inl (List.mem_filter.2 ⟨List.mem_eraseDups.2 hk, bne_iff_ne.2 hm⟩)
  · rw [List.mem_append, not_or] at hk
    refine .inr ?_
    rw [Work.Copied, Work.shWord, Work.word, cellsGet_unlisted _ _ _ hk.1, cellsGet_unlisted _ _ _ hk.2]

/-! ### SHADOW_DIRTY (R60) -/

/-- SHADOW_DIRTY of the page whose STAT is at `a` clears. -/
def Work.cleanAt (w : Work) (a : Nat) : Work := w.wr (a - 0xC) HDR_STAT_SHADOW_DIRTY 0

theorem word_cleanAt {a b : Nat} (ha : a % 0x1000 = 0xC) (h : b ≠ a) : (w.cleanAt a).word b = w.word b := by
  have hat : HDR_STAT_SHADOW_DIRTY.at 0 = 0xC := rfl
  exact word_wr_ne _ _ _ _ _ _ (by omega)

/-- A page shows no write of its shadow set. -/
def Work.Clean (w : Work) (pg : Nat) : Prop := w.rd pg HDR_STAT_SHADOW_DIRTY = 0

theorem cleanAt_clean {a pg : Nat} (ha : a % 0x1000 = 0xC) (h : a = pg + 0xC ∨ w.Clean pg) : (w.cleanAt a).Clean pg := by
  have hat : HDR_STAT_SHADOW_DIRTY.at 0 = 0xC := rfl
  by_cases e : a = pg + 0xC
  · subst e
    exact rd_wr_same _ _ _ _ _ (by decide)
  · exact (rd_congr (word_cleanAt ha (by omega))).trans (h.resolve_left e)

theorem each_cleanAt {l : List Nat} (hl : ∀ a ∈ l, a % 0x1000 = 0xC) {pg : Nat} (h : pg + 0xC ∈ l ∨ w.Clean pg) :
    (w.each l Work.cleanAt).Clean pg := by
  unfold Work.each
  induction l generalizing w with
  | nil => exact h.resolve_left List.not_mem_nil
  | cons a l ih =>
    refine ih (w := w.cleanAt a) (fun b hb => hl b (List.mem_cons_of_mem _ hb)) ?_
    rcases h with h | h
    · rcases List.mem_cons.1 h with rfl | h
      · exact .inr (cleanAt_clean (hl _ List.mem_cons_self) (.inl rfl))
      · exact .inl h
    · exact .inr (cleanAt_clean (hl _ List.mem_cons_self) (.inr h))

/-- Pages reset clean. -/
theorem resetWord_clean {pg : Nat} (hp : pg % 0x1000 = 0) (hs : shadowPage pg = true) : HDR_STAT_SHADOW_DIRTY.get (resetWord (pg + 0xC)) = 0 := by
  have hoff : (pg + 0xC) % 0x1000 = 0xC := by omega
  unfold shadowPage at hs
  split at hs
  · next k i hk =>
    have hspecial : specialReset k i 0xC = none := by simp [specialReset]
    rw [resetWord, pageOf_add pg _ hp (by decide), hk]
    dsimp only
    rw [hoff, hspecial]
    show HDR_STAT_SHADOW_DIRTY.get ((hdrFields.filterMap fun f => (f.index? 0xC).map fun i => (f, i)).foldl (fun d f => f.1.set d f.1.reset) 0) = 0
    decide
  · exact absurd hs (by decide)

theorem cleanPages_eq (w : Work) (p : Nat → Bool) : w.cleanPages p =
    w.each ((w.regs.map Prod.fst).filter fun a => a % 0x1000 == 0xC && shadowPage a && p a) Work.cleanAt := rfl

theorem cleanPages_keys {p : Nat → Bool} {a : Nat} (h : a ∈ (w.regs.map Prod.fst).filter fun a => a % 0x1000 == 0xC && shadowPage a && p a) :
    a % 0x1000 = 0xC := by
  have := (List.mem_filter.1 h).2
  rw [Bool.and_eq_true, Bool.and_eq_true, beq_iff_eq] at this
  exact this.1.1

theorem word_cleanPages {p : Nat → Bool} {b : Nat} (h : b % 0x1000 ≠ 0xC) : (w.cleanPages p).word b = w.word b := by
  rw [cleanPages_eq]
  refine each_relates (R := fun x y => y.word b = x.word b) (fun _ => rfl) (fun h g => g.trans h) (fun x a ha => ?_) w
  exact word_cleanAt (cleanPages_keys ha) fun e => h (e ▸ cleanPages_keys ha)

/-- Every page with a shadow set is clean after a clean of all (R60, R69). -/
theorem cleanPages_clean {pg : Nat} (hp : pg % 0x1000 = 0) (hs : shadowPage pg = true) : (w.cleanPages fun _ => true).Clean pg := by
  have hs' : shadowPage (pg + 0xC) = true := by rw [shadowPage, pageOf_add pg _ hp (by decide), ← shadowPage, hs]
  rw [cleanPages_eq]
  refine each_cleanAt (fun a ha => cleanPages_keys ha) ?_
  by_cases hk : pg + 0xC ∈ w.regs.map Prod.fst
  · refine .inl (List.mem_filter.2 ⟨hk, ?_⟩)
    rw [hs', Bool.and_true, Bool.and_true, beq_iff_eq]
    omega
  · refine .inr ?_
    show HDR_STAT_SHADOW_DIRTY.get (cellsGet resetWord w.regs (pg + 0xC)) = 0
    rw [cellsGet_unlisted _ _ _ hk]
    exact resetWord_clean hp hs

end Sys2Proof.Machine
end

section
-- One task at a time: the check bounds the memory of all of Lean's threads together.
set_option Elab.async false
set_option linter.all false

/-! PROOF. Settles O27: SETCOPY, its end, and the configuration CRC. -/

namespace Sys2Proof.Machine

variable {s : State}

/-- A command that no gate holds, and that no fence answers (R113, R117). -/
theorem runs_reach {c : Instr} {a : Nat} {g : Work → Work} {p : State → Prop} (h : exec c s = nextDev s fun w => w.reach a g)
    (hf : s.fenceAt a true = none) (hp : p (s.onDev g)) : Runs c s p := by
  refine runs_dev h ?_
  rw [onDev_congr (g := g) (by rw [Work.reach, show s.work.gate a true = none from hf])]
  exact hp

theorem shadowFrozen_iff : s.work.shadowFrozen = true ↔
    s.on pgPKG PKG_SWAP_STAT_ARMED ∨ s.on pgPKG PKG_SWAP_STAT_PENDING ∨ s.on pgPKG PKG_SWAP_STAT_COPY_BUSY := by
  rw [Work.shadowFrozen, Bool.or_eq_true, Bool.or_eq_true, State.on_work, State.on_work, State.on_work, or_assoc]

theorem setcopy_starts (hf : s.fenceAt (pgPKG + PKG_SWAP_SETCOPY.at 0) true = none) (h1 : ¬ s.on pgPKG PKG_SWAP_STAT_ARMED)
    (h2 : ¬ s.on pgPKG PKG_SWAP_STAT_PENDING) (h3 : ¬ s.on pgPKG PKG_SWAP_STAT_COPY_BUSY) : Runs .setcopy s fun t =>
      t.rd pgPKG PKG_SWAP_STAT_COPY_BUSY = 1 ∧ OnlyDwords [pgPKG + PKG_SWAP_STAT_COPY_BUSY.at 0] s t := by
  have hfree : ¬ s.work.shadowFrozen = true := by
    rw [shadowFrozen_iff]
    exact fun h => h.elim h1 fun h => h.elim h2 h3
  refine runs_reach rfl hf ?_
  rw [onDev_congr (g := fun w => w.wr pgPKG PKG_SWAP_STAT_COPY_BUSY 1) (if_neg hfree)]
  exact ⟨rd_wr_same _ _ _ _ _ (by decide), (Work.Alters.refl.wr (by decide)).changes⟩

theorem setcopy_ignored (hf : s.fenceAt (pgPKG + PKG_SWAP_SETCOPY.at 0) true = none)
    (h : s.on pgPKG PKG_SWAP_STAT_ARMED ∨ s.on pgPKG PKG_SWAP_STAT_PENDING ∨ s.on pgPKG PKG_SWAP_STAT_COPY_BUSY) : Runs .setcopy s fun t =>
      t.rd pgPKG HDR_STAT_BADVAL = 1 ∧ OnlyDwords [pgPKG + HDR_STAT_BADVAL.at 0] s t := by
  refine runs_reach rfl hf ?_
  have hset : s.work.setcopy = s.work.badval pgPKG := if_pos (shadowFrozen_iff.2 h)
  rw [onDev_congr (g := fun w => w.badval pgPKG) hset]
  exact ⟨rd_wr_same _ _ _ _ _ (by decide), (Work.Alters.refl.badval (by decide)).changes⟩

/-- What the end of a copy leaves for the pages' SHADOW_DIRTY. -/
def Work.copyShown (w : Work) : Work := (w.copySets.wr pgPKG PKG_SWAP_STAT_COPY_BUSY 0).wr pgPKG PKG_SWAP_STAT_COPY_DONE 1

theorem setCopyEnd_eq (h : s.on pgPKG PKG_SWAP_STAT_COPY_BUSY) : s.work.setCopyEnd = s.work.copyShown.cleanPages fun _ => true := by
  rw [← State.on_work] at h
  exact if_pos h

theorem word_copySets (w : Work) (a : Nat) : w.copySets.word a = w.word a :=
  word_of_view (K := fun k => decide (k = .shadow)) (Z := fun _ => false) (view_copySets w rfl) a rfl

theorem setCopyDone_ends (h : s.on pgPKG PKG_SWAP_STAT_COPY_BUSY) : Runs .setCopyDone s fun t =>
    (∀ a, t.work.shWord a &&& rwsMask a = s.word a &&& rwsMask a) ∧
    t.rd pgPKG PKG_SWAP_STAT_COPY_DONE = 1 ∧ t.rd pgPKG PKG_SWAP_STAT_COPY_BUSY = 0 ∧
    (∀ p, shadowPage (p * 0x1000) → t.rd (p * 0x1000) HDR_STAT_SHADOW_DIRTY = 0) ∧ KindsKeptBut [.shadow] s t ∧
    DwordsKeptBut (fun a => a % 0x1000 = 0xC ∨ a = pgPKG + PKG_SWAP_STAT_COPY_BUSY.at 0) s t := by
  refine runs_dev rfl ?_
  rw [onDev_congr (g := fun w => w.copyShown.cleanPages fun _ => true) (setCopyEnd_eq h)]
  have hshadow : (s.work.copyShown.cleanPages fun _ => true).shadow = s.work.copySets.shadow :=
    same_of_view (K := noKinds) (Z := allZones) (view_cleanPages _ _ fun _ _ _ => rfl) .shadow rfl
  have hstat (f : Field) (hf : f.at 0 = 0x50) : (s.onDev fun w => w.copyShown.cleanPages fun _ => true).rd pgPKG f =
      s.work.copyShown.rd pgPKG f := rd_congr (word_cleanPages (by rw [hf]; decide))
  have hkinds : view (fun k => decide (k = .shadow)) allZones (s.work.copyShown.cleanPages fun _ => true) =
      view (fun k => decide (k = .shadow)) allZones s.work := by
    rw [view_cleanPages _ _ fun _ _ _ => rfl, Work.copyShown, view_wr _ _ _ _ _ mod_pgPKG rfl, view_wr _ _ _ _ _ mod_pgPKG rfl, view_copySets _ rfl]
  refine ⟨fun a => ?_, ?_, ?_, fun p hp => cleanPages_clean (Nat.mul_mod_left ..) hp, ⟨⟨rfl, rfl⟩, fun k hk => ?_⟩, fun a ha => ?_⟩
  · have hcopied := copySets_copied s.work a
    rw [Work.Copied, word_copySets] at hcopied
    refine Eq.trans ?_ hcopied
    exact congrArg (fun l => cellsGet resetWord l a &&& rwsMask a) hshadow
  · rw [hstat _ rfl, Work.copyShown, rd_wr_same _ _ _ _ _ (by decide)]
    rfl
  · rw [hstat _ rfl, Work.copyShown, rd_wr_clear _ _ (by decide), rd_wr_same _ _ _ _ _ (by decide)]
    rfl
  · exact same_of_view hkinds k (decide_eq_false fun e => hk (e ▸ List.mem_cons_self))
  · rw [not_or] at ha
    refine (word_cleanPages ha.1).trans ?_
    have hdone : a ≠ pgPKG + PKG_SWAP_STAT_COPY_DONE.at 0 := ha.2
    rw [Work.copyShown, word_wr_ne _ _ _ _ _ _ hdone, word_wr_ne _ _ _ _ _ _ ha.2, word_copySets]
    rfl

/-! ### The configuration CRC (R77, R390) -/

theorem crcPass_idle {upset : Bool} (h : ¬ s.on pgPKG PKG_KSTAT_DONE ∨ s.on pgPKG PKG_SWAP_STAT_PENDING) :
    Runs (.crcPassComplete upset) s fun t => t = s := by
  refine runs_dev rfl (onDev_self (if_pos ?_))
  rw [Bool.or_eq_true, Bool.not_eq_true', ← Bool.not_eq_true, State.on_work, State.on_work]
  exact h

theorem crcPass_runs {upset : Bool} (hdone : s.on pgPKG PKG_KSTAT_DONE) (hpend : ¬ s.on pgPKG PKG_SWAP_STAT_PENDING) :
    s.work.crcPass upset = if upset || s.work.activeCrc != s.work.rd pgPKG PKG_ACTIVE_CRC then
      (s.work.flt pgHRT .uc 18).reactFixed 2 3 6 (pgHRT / 0x1000) else s.work := by
  refine if_neg ?_
  rw [Bool.or_eq_true, Bool.not_eq_true', ← Bool.not_eq_true, State.on_work, State.on_work]
  exact fun h => h.elim (fun h => h hdone) hpend

theorem crcPass_agrees (hdone : s.on pgPKG PKG_KSTAT_DONE) (hpend : ¬ s.on pgPKG PKG_SWAP_STAT_PENDING)
    (h : s.work.activeCrc = s.rd pgPKG PKG_ACTIVE_CRC) : Runs (.crcPassComplete false) s fun t => t = s :=
  runs_dev rfl (onDev_self ((crcPass_runs hdone hpend).trans (if_neg (by simpa [State.rd_work] using h))))

theorem crcPass_differs {upset : Bool} (hdone : s.on pgPKG PKG_KSTAT_DONE) (hpend : ¬ s.on pgPKG PKG_SWAP_STAT_PENDING)
    (h : upset = true ∨ s.work.activeCrc ≠ s.rd pgPKG PKG_ACTIVE_CRC) (hn : s.notHeld 2) : Runs (.crcPassComplete upset) s fun t =>
      t.flagged pgHRT .uc 18 ∧ Reacted ⟨0, 0, 0xFF, 3, 0xF, 2⟩ s t ∧ TimeKept s t := by
  have hpass : s.work.crcPass upset = (s.work.flt pgHRT .uc 18).reactFixed 2 3 6 (pgHRT / 0x1000) := by
    refine (crcPass_runs hdone hpend).trans (if_pos ?_)
    rw [Bool.or_eq_true, bne_iff_ne]
    exact h
  have hheld : (s.work.flt pgHRT .uc 18).hearth.held = s.dev.hearth.held := congrArg HearthSt.held (fltTo_hearth ..)
  exact runs_dev rfl ⟨flagged_react (by decide) (by decide) (by decide) (hpass.trans (reactFixed_eq (by rwa [hheld]))),
    reacted_fixed hpass hn hheld (rd_fltTo_other (by decide)) (rd_fltTo_other (by decide)), ⟨rfl, rfl⟩⟩

/-- Settles O27. -/
theorem setsCopiedAndChecked : Obligations.SetsCopiedAndChecked :=
  ⟨fun _ hf => ⟨setcopy_starts hf, setcopy_ignored hf⟩, fun _ => setCopyDone_ends,
    fun _ _ => ⟨fun hdone hpend => ⟨crcPass_agrees hdone hpend, crcPass_differs hdone hpend⟩, crcPass_idle⟩⟩

end Sys2Proof.Machine
end

section
-- One task at a time: the check bounds the memory of all of Lean's threads together.
set_option Elab.async false
set_option linter.all false

/-! SUPPORT. The forced safe actions of a reaction (R248, R389): every serving cluster of the regions it covers takes one. -/

namespace Sys2Proof.Machine

variable {w v : Work} {c : Nat}

/-- Cluster `c` runs its own state machine in the active region, in service and with no forced safe action under way. -/
def Work.Serves (w : Work) (c : Nat) : Prop :=
  w.owner c = c ∧ w.standsBy c = false ∧ inService (w.cstate c) = true ∧ (w.cl c).safePend = false

/-- The Hearth's forced safe action is under way in cluster `c` (R248, R389). -/
def Work.SafeHeld (w : Work) (c : Nat) : Prop := (w.cl c).safePend = true ∧ w.rd (pgCLU c) CLU_CSTAT_LOCK_CAUSE = 9

/-- One or the other: what the forced safe actions of a reaction keep. -/
def Work.SafeOrServes (w : Work) (c : Nat) : Prop := w.SafeHeld c ∨ w.Serves c

/-- Every kind of state but the cluster and region records. -/
def offCluRgn : Kind → Bool := fun k => decide (k ≠ .clu) && decide (k ≠ .rgn)

theorem serves_of_view (h : view offCluRgn offCluPages v = view offCluRgn offCluPages w) (hs : w.Serves c) : v.Serves c := by
  have hrd (f : Field) : v.rd (pgCLU c) f = w.rd (pgCLU c) f := rd_of_view h _ f 0 (mod_pgCLU c) (by rw [zone_pgCLU]; rfl)
  have hclu : v.clu = w.clu := same_of_view h .clu rfl
  have hrgn : v.rgn = w.rgn := same_of_view h .rgn rfl
  unfold Work.Serves Work.owner Work.topo Work.standsBy Work.cstate Work.cl Work.rg at hs ⊢
  rw [hrd, hrd, hclu, hrgn]
  exact hs

theorem safeHeld_of_view (h : view offCluRgn offCluPages v = view offCluRgn offCluPages w) (hs : w.SafeHeld c) : v.SafeHeld c := by
  have hclu : v.clu = w.clu := same_of_view h .clu rfl
  unfold Work.SafeHeld Work.cl at hs ⊢
  rw [rd_of_view h _ _ 0 (mod_pgCLU c) (by rw [zone_pgCLU]; rfl), hclu]
  exact hs

theorem safeOrServes_of_view (h : view offCluRgn offCluPages v = view offCluRgn offCluPages w) (hs : w.SafeOrServes c) : v.SafeOrServes c :=
  hs.imp (safeHeld_of_view h) (serves_of_view h)

/-! ### One forced safe action -/

theorem cl_wr (w : Work) (pg : Nat) (f : Field) (x d : Nat) : (w.wr pg f x).cl d = w.cl d := by rw [Work.cl, wr_clu, Work.cl]

theorem standsBy_wr (w : Work) (pg : Nat) (f : Field) (x d : Nat) : (w.wr pg f x).standsBy d = w.standsBy d := by
  rw [Work.standsBy, Work.rg, wr_rgn, Work.standsBy, Work.rg]

/-- A write of a cluster page beside the topology and the state. -/
theorem Work.Serves.wr (h : w.Serves c) {d : Nat} {f : Field} {x : Nat} (ht : f.Clear 0 CLU_CFG_TOPO 0) (hs : f.Clear 0 CLU_CSTAT_STATE 0) :
    (w.wr (pgCLU d) f x).Serves c := by
  have htopo := rd_wr_aligned w (mod_pgCLU d) (mod_pgCLU c) ht x
  have hstate := rd_wr_aligned w (mod_pgCLU d) (mod_pgCLU c) hs x
  obtain ⟨ho, hstands, hservice, hpend⟩ := h
  refine ⟨?_, ?_, ?_, ?_⟩
  · rw [Work.owner, Work.topo, htopo, ← Work.topo, ← Work.owner, ho]
  · rw [standsBy_wr, hstands]
  · rw [Work.cstate, hstate, ← Work.cstate, hservice]
  · rw [cl_wr, hpend]

theorem Work.SafeHeld.wr (h : w.SafeHeld c) {d : Nat} {f : Field} {x : Nat} (hf : f.Clear 0 CLU_CSTAT_LOCK_CAUSE 0) :
    (w.wr (pgCLU d) f x).SafeHeld c := ⟨by rw [cl_wr, h.1], (rd_wr_aligned w (mod_pgCLU d) (mod_pgCLU c) hf x).trans h.2⟩

/-- The cause of the Hearth, written to whichever cluster. -/
theorem Work.SafeHeld.cause (h : w.SafeHeld c) (d : Nat) : (w.wr (pgCLU d) CLU_CSTAT_LOCK_CAUSE 9).SafeHeld c := by
  refine ⟨by rw [cl_wr, h.1], ?_⟩
  by_cases hp : pgCLU c = pgCLU d
  · rw [hp, rd_wr_same _ _ _ _ _ (by decide)]
    rfl
  · have hd := mod_pgCLU d
    have hc := mod_pgCLU c
    rw [rd_wr_ne _ _ _ _ _ _ _ _ (by omega), h.2]

theorem cl_modCl_ne {o : Nat} (hne : o ≠ c) (f : Cluster → Cluster) : (w.modCl o f).cl c = w.cl c := by
  simp [Work.cl, Work.modCl, vget, vmod, hne]

theorem Work.Serves.modCl (h : w.Serves c) {o : Nat} (hne : o ≠ c) (f : Cluster → Cluster) : (w.modCl o f).Serves c := by
  obtain ⟨ho, hstands, hservice, hpend⟩ := h
  refine ⟨?_, ?_, ?_, ?_⟩
  · rw [Work.owner, Work.topo, rd_modCl, ← Work.topo, ← Work.owner, ho]
  · rw [Work.standsBy, Work.rg, modCl_rgn, ← Work.rg, ← Work.standsBy, hstands]
  · rw [Work.cstate, rd_modCl, ← Work.cstate, hservice]
  · rw [cl_modCl_ne hne, hpend]

theorem Work.SafeHeld.modCl (h : w.SafeHeld c) {o : Nat} (hne : o ≠ c) (f : Cluster → Cluster) : (w.modCl o f).SafeHeld c :=
  ⟨by rw [cl_modCl_ne hne, h.1], (rd_modCl ..).trans h.2⟩

/-- A claim on cluster `c` that the parts of a forced safe action of the Hearth keep. -/
structure SafeClosed (c : Nat) (P : Work → Prop) : Prop where
  act : ∀ w d, P w → P (w.wr (pgCLU d) CLU_CSTAT_SAFE_ACT 1)
  cause : ∀ w d, P w → P (w.wr (pgCLU d) CLU_CSTAT_LOCK_CAUSE 9)
  count : ∀ w d, P w → P (w.count (pgCLU d) CLU_LOCK_COUNT)
  other : ∀ w v, view offCluRgn offCluPages v = view offCluRgn offCluPages w → P w → P v
  pend : ∀ w o f, o ≠ c → P w → P (w.modCl o f)
  begun : ∀ w, w.SafeHeld c → P w

theorem safeHeld_closed (c : Nat) : SafeClosed c (·.SafeHeld c) :=
  ⟨fun _ _ h => h.wr (by decide), fun _ d h => h.cause d, fun _ _ h => h.wr (by decide), fun _ _ hv h => safeHeld_of_view hv h,
    fun _ _ f hne h => h.modCl hne f, fun _ h => h⟩

theorem safeOrServes_closed (c : Nat) : SafeClosed c (·.SafeOrServes c) :=
  ⟨fun _ _ h => h.imp (·.wr (by decide)) (·.wr (by decide) (by decide)), fun _ d h => h.imp (·.cause d) (·.wr (by decide) (by decide)),
    fun _ _ h => h.imp (·.wr (by decide)) (·.wr (by decide) (by decide)), fun _ _ hv h => safeOrServes_of_view hv h,
    fun _ _ f hne h => h.imp (·.modCl hne f) (·.modCl hne f), fun _ h => .inl h⟩

/-- What one step keeps, a run of such steps keeps. -/
theorem each_closed {α : Type} {P : Work → Prop} {l : List α} {f : Work → α → Work} (hf : ∀ v a, P v → P (f v a)) (h : P w) :
    P (w.each l f) :=
  each_relates (R := fun x y => P x → P y) (fun _ h => h) (fun h g k => g (h k)) (fun x a _ => hf x a) w h

theorem SafeClosed.safeAction {P : Work → Prop} (hP : SafeClosed c P) (h : P w) (o : Nat) : P (w.safeAction o 9) := by
  have hview : view offCluRgn offCluPages ((w.stopUnits o).each ((w.stopUnits o).lanesOf o) fun w l => w.modLn l fun k => { k with safe := some 0 }) =
      view offCluRgn offCluPages w := by rw [view_each _ _ _ fun u l => view_modLn u l _ rfl, view_stopUnits _ _ rfl rfl]
  exact hP.count _ _ (each_closed (fun v d => hP.cause v d) (each_closed (fun v d => hP.act v d) (hP.other _ _ hview h)))

theorem rd_safeAction_cause (w : Work) (o : Nat) : (w.safeAction o 9).rd (pgCLU o) CLU_CSTAT_LOCK_CAUSE = 9 := by
  unfold Work.safeAction
  dsimp only
  rw [rd_count_clear _ _ (by decide), rd_cstat_same _ _ _ (by decide)]
  rfl

theorem safeAction_begins (w : Work) (c : Fin 48) :
    ((w.safeAction c 9).modCl c fun k => { k with safePend := true, rgSrc := 0 }).SafeHeld c :=
  ⟨by rw [cl_modCl_same], (rd_modCl ..).trans (rd_safeAction_cause w c)⟩

theorem forcedSafe_eq (w : Work) (a : Nat) : w.forcedSafe a 9 =
    if w.standsBy (w.owner a) then w.count (pgCLU (w.owner a)) CLU_LOCK_COUNT
    else if w.cstate (w.owner a) = 6 ∨ (w.cl (w.owner a)).safePend then w
    else if w.cstate (w.owner a) = 0 ∨ w.cstate (w.owner a) = 4 then
      w.each (w.lanesOf (w.owner a)) fun w l => w.modLn l fun k => { k with safeOnce := some 9 }
    else (w.safeAction (w.owner a) 9).modCl (w.owner a) fun k => { k with safePend := true, rgSrc := 0 } := rfl

theorem SafeClosed.forcedSafe {c : Fin 48} {P : Work → Prop} (hP : SafeClosed c P) (h : P w) (a : Nat) : P (w.forcedSafe a 9) := by
  rw [forcedSafe_eq]
  split
  · exact hP.count _ _ h
  split
  · exact h
  split
  · exact hP.other _ _ (view_each _ _ _ fun u l => view_modLn u l _ rfl) h
  · by_cases ho : w.owner a = c
    · rw [ho]
      exact hP.begun _ (safeAction_begins w c)
    · exact hP.pend _ _ _ ho (hP.safeAction h _)

/-- A serving cluster's own request begins the action. -/
theorem forcedSafe_own {c : Fin 48} (h : w.Serves c) : (w.forcedSafe c 9).SafeHeld c := by
  obtain ⟨ho, hstands, hservice, hpend⟩ := h
  have hst : w.cstate c ≠ 6 ∧ w.cstate c ≠ 0 ∧ w.cstate c ≠ 4 :=
    ⟨fun e => by rw [e] at hservice; exact absurd hservice (by decide), fun e => by rw [e] at hservice; exact absurd hservice (by decide),
      fun e => by rw [e] at hservice; exact absurd hservice (by decide)⟩
  rw [forcedSafe_eq, ho, hstands, if_neg (by decide), if_neg (by simp [hst.1, hpend]), if_neg (by simp [hst.2])]
  exact safeAction_begins w c

/-! ### All of a reaction -/

/-- A run of requests in which the one at `a` begins the action of `c`. -/
theorem each_begins {α : Type} {c : Fin 48} {l : List α} {f : Work → α → Work} {a : α} (ha : a ∈ l)
    (hserve : ∀ v x, v.SafeOrServes c → (f v x).SafeOrServes c) (hheld : ∀ v x, v.SafeHeld c → (f v x).SafeHeld c)
    (hown : ∀ v, v.SafeOrServes c → (f v a).SafeHeld c) (h : w.SafeOrServes c) : (w.each l f).SafeHeld c := by
  unfold Work.each
  induction l generalizing w with
  | nil => exact absurd ha List.not_mem_nil
  | cons b l ih =>
    rw [List.foldl_cons]
    rcases List.mem_cons.1 ha with rfl | ha
    · exact each_closed (P := (·.SafeHeld c)) hheld (hown _ h)
    · exact ih ha (hserve _ _ h)

theorem SafeClosed.forcedSafeRg {c : Fin 48} {P : Work → Prop} (hP : SafeClosed c P) (h : P w) (n : Nat) : P (w.forcedSafeRg n 9) :=
  each_closed (fun v a hv => hP.forcedSafe hv a) h

/-- The request to a region reaches its serving clusters. -/
theorem forcedSafeRg_begins {c : Fin 48} (h : w.SafeOrServes c) : (w.forcedSafeRg (c.val / 12) 9).SafeHeld c := by
  rcases h with h | h
  · exact (safeHeld_closed c).forcedSafeRg h _
  · have hmem : c.val ∈ (clustersOf (c.val / 12)).filter fun x => w.owner x == x := by
      refine List.mem_filter.2 ⟨List.mem_map.2 ⟨c.val % 12, List.mem_range.2 (Nat.mod_lt _ (by decide)), by omega⟩, ?_⟩
      rw [h.1]
      exact beq_self_eq_true _
    refine each_begins hmem (fun v x hv => (safeOrServes_closed c).forcedSafe hv x) (fun v x hv => (safeHeld_closed c).forcedSafe hv x) (fun v hv => ?_) (.inr h)
    exact hv.elim (fun hs => (safeHeld_closed c).forcedSafe hs _) forcedSafe_own

theorem view_reactShown (w : Work) (h : Held) (r : AshRec) : view offCluRgn offCluPages (w.reactShown h r) = view offCluRgn offCluPages w := by
  rw [Work.reactShown, view_ash _ _ rfl rfl rfl rfl, view_count _ _ _ _ _ mod_pgHRT (by rw [zone_pgHRT]; rfl),
    view_hearthShow _ rfl rfl rfl rfl rfl rfl rfl rfl rfl rfl rfl rfl, Work.reactHold, view_when _ _ _ fun v => view_modHearth _ _ rfl]

/-- A serving cluster of a covered region takes the forced safe action (R248, R389). -/
theorem react_begins {c : Fin 48} {h : Held} {srclvl page kind : Nat} (hs : w.Serves c) (hcov : h.covers.testBit (c.val / 12) = true) :
    (w.react h srclvl page kind).SafeHeld c := by
  have hmem : c.val / 12 ∈ (upto 4).filter fun n => bitOf h.covers n :=
    List.mem_filter.2 ⟨List.mem_range.2 (by omega), by rw [bitOf_eq, hcov]⟩
  have halert (v : Work) (b : Bool) (x : Work → Nat) : view offCluRgn offCluPages (v.when b fun w => w.msix (x w)) = view offCluRgn offCluPages v :=
    view_when _ _ _ fun u => view_msix _ _ rfl
  have hforce : ((w.reactShown h (reactRec h srclvl page kind)).reactForce h).SafeHeld c :=
    each_begins hmem (fun v n hv => (safeOrServes_closed c).forcedSafeRg hv n) (fun v n hv => (safeHeld_closed c).forcedSafeRg hv n)
      (fun v hv => forcedSafeRg_begins hv)
      (safeOrServes_of_view ((halert _ _ _).trans (view_reactShown ..)) (.inr hs))
  rw [react_eq]
  split
  · refine safeHeld_of_view ?_ hforce
    rw [view_recFreeze _ _ rfl rfl rfl rfl rfl, view_wr _ _ _ _ _ mod_pgHRT (by rw [zone_pgHRT]; rfl)]
  · split
    · exact safeHeld_of_view (view_recSource _ _ _ rfl rfl rfl rfl rfl) hforce
    · exact hforce

end Sys2Proof.Machine
end

section
-- One task at a time: the check bounds the memory of all of Lean's threads together.
set_option Elab.async false
set_option linter.all false

/-! PROOF. Settles O31: conditions, releases, PLEA, and the Hearth's own checks. -/

namespace Sys2Proof.Machine

variable {s : State}

/-! ### Conditions (R391, R392, R410) -/

/-- The reaction that entry `e` calls for. -/
def Work.entryHeld (w : Work) (e : Nat) : Held :=
  ⟨w.rd pgHRT1 HRT1_RT_A_COND e, w.rd pgHRT1 HRT1_RT_A_IDX e, e, w.rd pgHRT1 HRT1_RT_A_LEVEL e, w.rd pgHRT1 HRT1_RT_A_RGMASK e, 0⟩

/-- The entry is active, and a condition of its own kind has raised CE 20. -/
def Work.qualified (w : Work) (e : Nat) : Work :=
  (w.setBit pgHRT1 HRT1_RT_ACT e).when (w.rd pgHRT1 HRT1_RT_A_COND e == 1) fun w => w.flt pgHRT .ce 20

theorem entry_apart (e : Fin 32) : ∀ f ∈ [HRT1_RT_A_COND, HRT1_RT_A_IDX, HRT1_RT_A_LEVEL, HRT1_RT_A_RGMASK], f.at e ≠ HRT1_RT_ACT.at 0 := by
  revert e
  decide

theorem rd_setBit_entry {w : Work} (e : Fin 32) {f : Field} (hf : f ∈ [HRT1_RT_A_COND, HRT1_RT_A_IDX, HRT1_RT_A_LEVEL, HRT1_RT_A_RGMASK]) :
    (w.setBit pgHRT1 HRT1_RT_ACT e).rd pgHRT1 f e = w.rd pgHRT1 f e :=
  rd_congr (word_setBit_ne _ _ _ _ _ _ fun h => entry_apart e f hf (Nat.add_left_cancel h))

theorem rd_hrt1_flt (w : Work) (cls : FaultClass) (bit : Nat) (f : Field) (i : Nat) : (w.flt pgHRT cls bit).rd pgHRT1 f i = w.rd pgHRT1 f i :=
  rd_flt_ne _ _ _ _ _ _ _ _ (by unfold pgHRT pgHRT1; omega)

theorem rd_hrt1_qualified (w : Work) (e : Nat) (f : Field) (i : Nat) :
    (w.qualified e).rd pgHRT1 f i = (w.setBit pgHRT1 HRT1_RT_ACT e).rd pgHRT1 f i := by
  unfold Work.qualified Work.when
  split
  · exact rd_hrt1_flt ..
  · rfl

theorem rd_qualified_entry {w : Work} (e : Fin 32) {f : Field} (hf : f ∈ [HRT1_RT_A_COND, HRT1_RT_A_IDX, HRT1_RT_A_LEVEL, HRT1_RT_A_RGMASK]) :
    (w.qualified e).rd pgHRT1 f e = w.rd pgHRT1 f e := by rw [rd_hrt1_qualified, rd_setBit_entry e hf]

theorem setBit_hearth (w : Work) (pg : Nat) (f : Field) (b : Nat) : (w.setBit pg f b).hearth = w.hearth := by
  unfold Work.setBit
  split <;> rfl

theorem qualified_hearth (w : Work) (e : Nat) : (w.qualified e).hearth = w.hearth := by
  unfold Work.qualified Work.when
  split
  · exact (fltTo_hearth ..).trans (setBit_hearth ..)
  · exact setBit_hearth ..

/-- A register of HRT beside FLT. -/
theorem rd_hrt_qualified (w : Work) (e : Nat) {f : Field} (hf : f.at 0 ≠ 0x010) : (w.qualified e).rd pgHRT f = w.rd pgHRT f := by
  have hset : (w.setBit pgHRT1 HRT1_RT_ACT e).rd pgHRT f = w.rd pgHRT f := by
    have hlt := f.at_lt 0
    have hat : HRT1_RT_ACT.at 0 = 0x200 := rfl
    exact rd_congr (word_setBit_ne _ _ _ _ _ _ (by unfold pgHRT pgHRT1; omega))
  unfold Work.qualified Work.when
  split
  · exact (rd_fltTo_other hf).trans hset
  · exact hset

theorem qualify_eq {e : Fin 32} (hc : s.work.condHolds e = true) (hact : s.work.rtAct e = false)
    (hn : ∀ h ∈ s.dev.hearth.held, h.kind = 0 → h.entry ≠ e.val) :
    exec (.hearthConditionQualify e) s = nextDev s fun w => (w.qualified e).react (w.entryHeld e) 6 (pgHRT / 0x1000) 4 := by
  have hany : ((s.work.setBit pgHRT1 HRT1_RT_ACT e).hearth.held.any fun h => h.kind == 0 && h.entry == e.val) = false := by
    rw [setBit_hearth]
    simpa using hn
  refine congrArg Host.Outcome.next (onDev_congr ?_)
  dsimp only
  rw [hc, hact, hany, rd_setBit_entry e (by decide)]
  show (s.work.qualified e).react ⟨s.work.rd pgHRT1 HRT1_RT_A_COND e, (s.work.qualified e).rd pgHRT1 HRT1_RT_A_IDX e, e.val,
    (s.work.qualified e).rd pgHRT1 HRT1_RT_A_LEVEL e, (s.work.qualified e).rd pgHRT1 HRT1_RT_A_RGMASK e, 0⟩ 6 (pgHRT / 0x1000) 4 = _
  rw [rd_qualified_entry e (by decide), rd_qualified_entry e (by decide), rd_qualified_entry e (by decide)]
  rfl

theorem qualify_reacts (e : Fin 32) (hc : s.work.condHolds e = true) (hact : s.work.rtAct e = false)
    (hn : ∀ h ∈ s.dev.hearth.held, h.kind = 0 → h.entry ≠ e.val) : Runs (.hearthConditionQualify e) s fun t =>
      Reacted (s.work.entryHeld e) s t ∧ (t.rd pgHRT1 HRT1_RT_ACT).testBit e = true ∧
      (∀ c : Fin 48, (s.work.entryHeld e).covers.testBit (c / 12) = true → s.serving c →
        (t.work.cl c).safePend = true ∧ t.rd (pgCLU c) CLU_CSTAT_LOCK_CAUSE = 9) ∧ TimeKept s t := by
  refine runs_dev (qualify_eq hc hact hn) ⟨reacted_of rfl (congrArg HearthSt.held (qualified_hearth ..)) (rd_hrt_qualified _ _ (by decide))
    (rd_hrt_qualified _ _ (by decide)), ?_, fun c hcov hs => ?_, ⟨rfl, rfl⟩⟩
  · rw [State.rd_onDev, rtAct_react, rd_hrt1_qualified, testBit_setBit _ _ _ _ _ _ (by decide) e.isLt]
    simp
  · have hview : view offCluRgn offCluPages (s.work.qualified e) = view offCluRgn offCluPages s.work := by
      rw [Work.qualified, view_when _ _ _ fun v => view_flt _ _ _ _ _ mod_pgHRT (by rw [zone_pgHRT]; rfl) rfl rfl rfl,
        view_setBit _ _ _ _ _ mod_pgHRT1 (by rw [zone_pgHRT1]; rfl)]
    exact react_begins (serves_of_view hview hs) hcov

theorem cease_ends (e : Fin 32) (h : s.work.rtAct e = true) : Runs (.hearthConditionCease e) s fun t =>
    (t.rd pgHRT1 HRT1_RT_ACT).testBit e = false ∧ t.dev.hearth.held = s.dev.hearth.held ∧ TimeKept s t := by
  have hexec : exec (.hearthConditionCease e) s = nextDev s fun w => (w.clrBit pgHRT1 HRT1_RT_ACT e).hearthShow :=
    congrArg Host.Outcome.next (onDev_congr (if_pos h))
  refine runs_dev hexec ?_
  have hheld : (s.work.clrBit pgHRT1 HRT1_RT_ACT e).hearth = s.work.hearth := by
    unfold Work.clrBit
    split <;> rfl
  refine ⟨?_, (hearthShow_held _).trans (congrArg HearthSt.held hheld), ⟨rfl, rfl⟩⟩
  rw [State.rd_onDev, rtAct_hearthShow, testBit_clrBit _ _ _ _ _ _ (by decide)]
  simp

/-! ### REL (R393, R394) -/

/-- REL releases the reaction: PLEA's where its bit says so, another where it stands no more. -/
def Work.gone (w : Work) (plea : Bool) (h : Held) : Bool := if h.kind = 4 then plea else !w.heldStands h

/-- What REL makes of PLEA. -/
def Work.pleaGone (w : Work) (plea : Bool) : Work := w.when plea fun w => (w.wr pgHRT HRT_PLEA_LEVEL 0).wr pgHRT HRT_PLEA_RGMASK 0

/-- What REL shows, before its Ash records. -/
def Work.relShown (w : Work) (plea : Bool) : Work :=
  ((w.pleaGone plea).modHearth fun k => { k with held := k.held.filter fun h => !(w.hearth.held.filter (w.gone plea)).contains h }).hearthShow

/-- REL writes Ash records after what it shows, and BADVAL where a reaction is left. -/
theorem release_eq {w : Work} {plea : Bool} (h : ¬ (plea = true ∧ w.rd pgHRT HRT_PLEA_LEVEL = 4)) :
    ∃ v : Work, w.release plea = v.when (!v.hearth.held.isEmpty) (fun w => w.badval pgHRT) ∧ v.hearth = (w.relShown plea).hearth ∧
      ∀ f, HRT_ASH_SEQ.Clear 0 f 0 → v.rd pgHRT f = (w.relShown plea).rd pgHRT f := by
  have hash (x : Work) (l : List Held) (r : Held → AshRec) : (x.each l fun w h => w.ash (r h)).hearth = x.hearth ∧
      ∀ f, HRT_ASH_SEQ.Clear 0 f 0 → (x.each l fun w h => w.ash (r h)).rd pgHRT f = x.rd pgHRT f :=
    ⟨each_keeps (·.hearth) _ _ _ fun u a => ash_hearth .., fun f hf => each_keeps (·.rd pgHRT f) _ _ _ fun u a => rd_ash_clear hf⟩
  have hone (x : Work) (b : Bool) (r : AshRec) : (x.when b fun w => w.ash r).hearth = x.hearth ∧
      ∀ f, HRT_ASH_SEQ.Clear 0 f 0 → (x.when b fun w => w.ash r).rd pgHRT f = x.rd pgHRT f := by
    cases b
    · exact ⟨rfl, fun _ _ => rfl⟩
    · exact ⟨ash_hearth .., fun f hf => rd_ash_clear hf⟩
  unfold Work.release
  rw [if_neg h]
  exact ⟨_, rfl, (hone ..).1.trans (hash ..).1, fun f hf => ((hone ..).2 f hf).trans ((hash ..).2 f hf)⟩

theorem relShown_held (w : Work) (plea : Bool) :
    (w.relShown plea).hearth.held = w.hearth.held.filter fun h => !(w.hearth.held.filter (w.gone plea)).contains h := by
  have hplea : (w.pleaGone plea).hearth = w.hearth := by cases plea <;> rfl
  unfold Work.relShown
  rw [hearthShow_held]
  exact congrArg (fun k : HearthSt => k.held.filter _) hplea

theorem mem_relShown (w : Work) (plea : Bool) (h : Held) :
    h ∈ (w.relShown plea).hearth.held ↔ h ∈ w.hearth.held ∧ if h.kind = 4 then plea = false else w.heldStands h = true := by
  have hgone : w.gone plea h = false ↔ if h.kind = 4 then plea = false else w.heldStands h = true := by
    unfold Work.gone
    split
    · rfl
    · simp
  rw [relShown_held, List.mem_filter, ← hgone]
  refine and_congr_right fun hm => ?_
  simp [hm]

theorem rd_relShown (w : Work) (plea : Bool) {f : Field} (hf : f.at 0 ≠ HRT_HSTAT_LEVEL.at 0) :
    (w.relShown plea).rd pgHRT f = (w.pleaGone plea).rd pgHRT f := by
  unfold Work.relShown
  rw [rd_hearthShow_other hf]
  rfl

theorem rel_releases (hr : s.reaches (pgHRT + HRT_REL_GO.at 0)) (plea : Bool) (hp : plea = true → s.rd pgHRT HRT_PLEA_LEVEL ≠ 4) :
    Runs (.hearthRel plea) s fun t =>
      (plea = true → t.rd pgHRT HRT_PLEA_LEVEL = 0 ∧ t.rd pgHRT HRT_PLEA_RGMASK = 0) ∧
      (plea = false → t.rd pgHRT HRT_PLEA_LEVEL = s.rd pgHRT HRT_PLEA_LEVEL ∧ t.rd pgHRT HRT_PLEA_RGMASK = s.rd pgHRT HRT_PLEA_RGMASK) ∧
      (∀ h, h ∈ t.dev.hearth.held ↔ h ∈ s.dev.hearth.held ∧ if h.kind = 4 then plea = false else s.work.heldStands h = true) ∧
      (∀ h ∈ s.dev.hearth.held, 4 ≤ h.level → h.kind ≠ 4 → h ∈ t.dev.hearth.held) ∧
      (t.dev.hearth.held ≠ [] → t.rd pgHRT HDR_STAT_BADVAL = 1) ∧ TimeKept s t := by
  obtain ⟨v, hv, hhearth, hrd⟩ := release_eq (w := s.work) (plea := plea) fun h => hp h.1 h.2
  have hheld : (s.work.release plea).hearth.held = (s.work.relShown plea).hearth.held := by
    rw [hv, ← hhearth]
    unfold Work.when
    split <;> rfl
  have hmem (h : Held) : h ∈ (s.work.release plea).hearth.held ↔
      h ∈ s.dev.hearth.held ∧ if h.kind = 4 then plea = false else s.work.heldStands h = true := by
    rw [hheld]
    exact mem_relShown ..
  have hplea (f : Field) (h1 : HDR_STAT_BADVAL.Clear 0 f 0) (h2 : HRT_ASH_SEQ.Clear 0 f 0) (h3 : f.at 0 ≠ HRT_HSTAT_LEVEL.at 0) :
      (s.work.release plea).rd pgHRT f = (s.work.pleaGone plea).rd pgHRT f := by
    rw [hv, ← rd_relShown _ _ h3, ← hrd f h2]
    unfold Work.when
    split
    · exact rd_wr_clear _ _ h1 _
    · rfl
  have hlevel := hplea HRT_PLEA_LEVEL (by decide) (by decide) (by decide)
  have hmask := hplea HRT_PLEA_RGMASK (by decide) (by decide) (by decide)
  refine runs_hostAct rfl hr ⟨fun h => ?_, fun h => ?_, hmem, fun h hm h4 hk => (hmem h).2 ⟨hm, ?_⟩, fun hne => ?_, ⟨rfl, rfl⟩⟩
  · subst h
    refine ⟨hlevel.trans ?_, hmask.trans ?_⟩
    · exact (rd_wr_clear _ _ (by decide) _).trans (rd_wr_same _ _ _ _ _ (by decide))
    · exact rd_wr_same _ _ _ _ _ (by decide)
  · subst h
    exact ⟨hlevel, hmask⟩
  · rw [if_neg hk]
    exact if_pos h4
  · have hv' : v.hearth.held ≠ [] := by rw [hhearth, ← hheld]; exact hne
    have hcond : (!v.hearth.held.isEmpty) = true := by simpa using hv'
    rw [State.rd_onDev, hv, hcond]
    exact rd_wr_same _ _ _ _ _ (by decide)

theorem rel_ignored (hr : s.reaches (pgHRT + HRT_REL_GO.at 0)) (h : s.rd pgHRT HRT_PLEA_LEVEL = 4) : Runs (.hearthRel true) s fun t =>
    t.rd pgHRT HDR_STAT_BADVAL = 1 ∧ OnlyDwords [pgHRT + HDR_STAT_BADVAL.at 0] s t := by
  refine runs_hostAct rfl hr ?_
  have hrel : s.work.release true = s.work.badval pgHRT := if_pos ⟨rfl, h⟩
  rw [onDev_congr (g := fun w => w.badval pgHRT) hrel]
  exact ⟨rd_wr_same _ _ _ _ _ (by decide), (Work.Alters.refl.badval (by decide)).changes⟩

/-! ### PLEA (R394) -/

/-- PLEA's level and regions, as its reaction finds them. -/
def Work.pleaTaken (w : Work) (level mask : Nat) : Work :=
  ((w.wr pgHRT HRT_PLEA_LEVEL level).wr pgHRT HRT_PLEA_RGMASK mask).modHearth fun k => { k with held := k.held.filter fun h => h.kind != 4 }

theorem pleaTaken_held (hn : s.notHeld 4) (level mask : Nat) : (s.work.pleaTaken level mask).hearth.held = s.dev.hearth.held :=
  List.filter_eq_self.2 fun h hm => bne_iff_ne.2 (hn h hm)

theorem rd_pleaTaken {w : Work} {level mask : Nat} {f : Field} (h : f.at 0 ≠ HRT_PLEA_LEVEL.at 0) :
    (w.pleaTaken level mask).rd pgHRT f = w.rd pgHRT f := by
  have h1 : HRT_PLEA_LEVEL.Clear 0 f 0 := .inl (Ne.symm h)
  have h2 : HRT_PLEA_RGMASK.Clear 0 f 0 := .inl (Ne.symm h)
  exact (rd_wr_clear _ _ h2 _).trans (rd_wr_clear _ _ h1 _)

theorem plea_taken (hr : s.reaches (pgHRT + HRT_PLEA_LEVEL.at 0)) (level : BitVec 3) (mask : BitVec 4) (hl : ¬ s.on pgHRT HDR_LOCK_LOCKED)
    (hn : s.notHeld 4) (h4 : level.toNat ≤ 4) (hold : s.rd pgHRT HRT_PLEA_LEVEL ≤ level.toNat)
    (hmask : s.rd pgHRT HRT_PLEA_RGMASK &&& mask.toNat = s.rd pgHRT HRT_PLEA_RGMASK) : Runs (.hearthPlea level mask) s fun t =>
      t.rd pgHRT HRT_PLEA_LEVEL = level.toNat ∧ t.rd pgHRT HRT_PLEA_RGMASK = mask.toNat ∧
      Reacted ⟨0, 0, 0xFF, level.toNat, mask.toNat, 4⟩ s t ∧ TimeKept s t := by
  have hplea : s.work.plea level.toNat mask.toNat = (s.work.pleaTaken level.toNat mask.toNat).react
      ⟨0, 0, 0xFF, level.toNat, mask.toNat, 4⟩ 0 (pgHRT / 0x1000) 6 := if_pos ⟨h4, hold, hmask⟩
  refine runs_hostAct rfl hr ?_
  rw [unlocked_open hl]
  refine ⟨?_, ?_, reacted_of hplea (pleaTaken_held hn _ _) (rd_pleaTaken (by decide)) (rd_pleaTaken (by decide)), ⟨rfl, rfl⟩⟩
  · rw [State.rd_onDev, hplea, rd_react_other (by decide) (by decide) (by decide) (by decide)]
    exact ((rd_wr_clear _ _ (by decide) _).trans (rd_wr_same _ _ _ _ _ (by decide))).trans (Nat.mod_eq_of_lt level.isLt)
  · rw [State.rd_onDev, hplea, rd_react_other (by decide) (by decide) (by decide) (by decide)]
    exact (rd_wr_same _ _ _ _ _ (by decide)).trans (Nat.mod_eq_of_lt mask.isLt)

theorem plea_ignored (hr : s.reaches (pgHRT + HRT_PLEA_LEVEL.at 0)) (level : BitVec 3) (mask : BitVec 4) (hl : ¬ s.on pgHRT HDR_LOCK_LOCKED)
    (h : 4 < level.toNat ∨ level.toNat < s.rd pgHRT HRT_PLEA_LEVEL ∨
      s.rd pgHRT HRT_PLEA_RGMASK &&& mask.toNat ≠ s.rd pgHRT HRT_PLEA_RGMASK) : Runs (.hearthPlea level mask) s fun t =>
      t.rd pgHRT HDR_STAT_BADVAL = 1 ∧ OnlyDwords [pgHRT + HDR_STAT_BADVAL.at 0] s t := by
  have hplea : s.work.plea level.toNat mask.toNat = s.work.badval pgHRT := by
    refine if_neg ?_
    rintro ⟨h1, h2, h3⟩
    rcases h with h | h | h
    · omega
    · exact absurd h2 (Nat.not_le_of_lt h)
    · exact h h3
  refine runs_hostAct rfl hr ?_
  rw [unlocked_open hl, onDev_congr (g := fun w => w.badval pgHRT) hplea]
  exact ⟨rd_wr_same _ _ _ _ _ (by decide), (Work.Alters.refl.badval (by decide)).changes⟩

/-! ### The Hearth's own checks (R390, R396, R397, R401) -/

theorem not_armedFor (h : ¬ s.on pgHRT HDR_INJ_ARMED) (chk : Nat) : s.work.armedFor pgHRT chk = false := by
  rw [← State.on_work, Bool.not_eq_true] at h
  rw [Work.armedFor, h, Bool.false_and]

theorem copies_inject (ha : s.on pgHRT HDR_INJ_ARMED) (hc : s.rd pgHRT HDR_INJ_CHK = 0) : Runs (.hearthCopyMismatch 0) s fun t =>
    t.rd pgHRT HDR_INJ_HIT = 1 ∧ t.rd pgHRT HDR_INJ_ARMED = 0 ∧ OnlyDwords [pgHRT + HDR_INJ_ARMED.at 0] s t := by
  have harmed : s.work.armedFor pgHRT 0 = true := by
    rw [← State.on_work] at ha
    rw [Work.armedFor, ha, State.rd_work, hc]
    rfl
  have hexec : exec (.hearthCopyMismatch 0) s = nextDev s fun w => (w.wr pgHRT HDR_INJ_ARMED 0).wr pgHRT HDR_INJ_HIT 1 :=
    congrArg Host.Outcome.next (onDev_congr (if_pos harmed))
  exact runs_dev hexec ⟨rd_wr_same _ _ _ _ _ (by decide), (rd_wr_clear _ _ (by decide) _).trans (rd_wr_same _ _ _ _ _ (by decide)),
    ((Work.Alters.refl.wr (by decide)).wr (by decide)).changes⟩

theorem copies_equal (ha : ¬ s.on pgHRT HDR_INJ_ARMED) : Runs (.hearthCopyMismatch 0) s fun t => t = s :=
  runs_dev rfl (onDev_self (if_neg (by rw [not_armedFor ha]; decide)))

theorem copies_differ (ha : ¬ s.on pgHRT HDR_INJ_ARMED) (diff : BitVec 32) (hd : diff ≠ 0) (hn : s.notHeld 1) :
    Runs (.hearthCopyMismatch diff) s fun t => t.flagged pgHRT .fatal 17 ∧ Reacted ⟨0, 0, 0xFF, 4, 0xF, 1⟩ s t ∧ TimeKept s t := by
  have hexec : exec (.hearthCopyMismatch diff) s = nextDev s fun w => w.hearthFatal pgHRT 17 :=
    congrArg Host.Outcome.next (onDev_congr ((if_neg (by rw [not_armedFor ha]; decide)).trans (if_neg hd)))
  obtain ⟨hflag, hreact⟩ := hearthFatal_reacts (s := s) (g := fun w => w.hearthFatal pgHRT 17) (by decide) (by decide) rfl hn rfl rfl rfl
  exact runs_dev hexec ⟨hflag, hreact, ⟨rfl, rfl⟩⟩

theorem alive_toggles (h : s.on pgHRT HRT_HSTAT_ALIVE_RUN) : Runs .aliveToggle s fun t =>
    t.dev.hearth.alive = !s.dev.hearth.alive ∧ LastOut (.pin "ALIVE" 0 (!s.dev.hearth.alive)) s t ∧ Changes [.hearth, .out] [] s t := by
  rw [← State.on_work] at h
  have hexec : exec .aliveToggle s = nextDev s fun w => (w.modHearth fun k => { k with alive := !k.alive }).emit (.pin "ALIVE" 0 (!w.hearth.alive)) :=
    congrArg Host.Outcome.next (onDev_congr (if_pos h))
  exact runs_dev hexec ⟨rfl, rfl, ((Work.Alters.refl.through (view_modHearth _ _ rfl)).emit (by decide)).changes⟩

theorem alive_stands (h : ¬ s.on pgHRT HRT_HSTAT_ALIVE_RUN) : Runs .aliveToggle s fun t => t = s := by
  rw [← State.on_work] at h
  exact runs_dev rfl (onDev_self (if_neg h))

end Sys2Proof.Machine
end

section
-- One task at a time: the check bounds the memory of all of Lean's threads together.
set_option Elab.async false
set_option linter.all false

/-! PROOF. Settles O31, its last part: the supply supervisor's verdicts (R397, R401). -/

namespace Sys2Proof.Machine

variable {s : State} {w : Work} {f : Field}

theorem rd_setBit_clear {g : Field} {b : Nat} (h : g.Clear 0 f 0) : (w.setBit pgHRT g b).rd pgHRT f = w.rd pgHRT f := by
  unfold Work.setBit
  split
  · rfl
  · exact rd_wr_clear _ _ h _

theorem rd_clrBit_clear {g : Field} {b : Nat} (h : g.Clear 0 f 0) : (w.clrBit pgHRT g b).rd pgHRT f = w.rd pgHRT f := by
  unfold Work.clrBit
  split
  · exact rd_wr_clear _ _ h _
  · rfl

theorem clrBit_hearth (w : Work) (pg : Nat) (f : Field) (b : Nat) : (w.clrBit pg f b).hearth = w.hearth := by
  unfold Work.clrBit
  split <;> rfl

/-- The rail reads out of range, now and as seen. -/
def Work.railOut (w : Work) (rail : Nat) : Work := (w.setBit pgHRT HRT_SUPSTAT_NOW rail).setBit pgHRT HRT_SUPSTAT_SEEN rail

theorem railOut_hearth (w : Work) (rail : Nat) : (w.railOut rail).hearth = w.hearth := (setBit_hearth ..).trans (setBit_hearth ..)

theorem railOut_now (w : Work) (rail : Fin 8) : ((w.railOut rail).rd pgHRT HRT_SUPSTAT_NOW).testBit rail = true := by
  rw [Work.railOut, rd_setBit_clear (by decide), testBit_setBit _ _ _ _ _ _ (by decide) rail.isLt]
  simp

theorem railOut_seen (w : Work) (rail : Fin 8) : ((w.railOut rail).rd pgHRT HRT_SUPSTAT_SEEN).testBit rail = true := by
  rw [Work.railOut, testBit_setBit _ _ _ _ _ _ (by decide) rail.isLt]
  simp

theorem rd_railOut_other (w : Work) (rail : Nat) (h1 : HRT_SUPSTAT_NOW.Clear 0 f 0) (h2 : HRT_SUPSTAT_SEEN.Clear 0 f 0) :
    (w.railOut rail).rd pgHRT f = w.rd pgHRT f := by rw [Work.railOut, rd_setBit_clear h2, rd_setBit_clear h1]

/-- The retained memory is lost with VCORE or VRET. -/
def Work.railLost (w : Work) (rail : Nat) : Work := w.when (rail == 0 || rail == 4) fun w => w.modKin fun k => { k with retLost := true }

theorem rd_railLost (w : Work) (rail pg : Nat) (f : Field) : (w.railLost rail).rd pg f = w.rd pg f := by
  unfold Work.railLost Work.when
  split <;> rfl

theorem railLost_hearth (w : Work) (rail : Nat) : (w.railLost rail).hearth = w.hearth := by
  unfold Work.railLost Work.when
  split <;> rfl

/-- A register of HRT that neither FLT nor a reaction holds, through the fixed reaction of level 4. -/
theorem rd_hearthFatal_other {bit : Nat} (hn : ∀ k ∈ w.hearth.held, k.kind ≠ 1) (h0 : f.at 0 ≠ 0x010) (h1 : f.at 0 ≠ HRT_HSTAT_LEVEL.at 0)
    (h2 : HRT_REACT_COUNT.Clear 0 f 0) (h3 : HRT_ASH_SEQ.Clear 0 f 0) (h4 : HDR_FLT_FATAL.Clear 0 f 0) :
    (w.hearthFatal pgHRT bit).rd pgHRT f = w.rd pgHRT f := by
  have hreact : w.hearthFatal pgHRT bit = (w.fltTo pgHRT .fatal bit (hearthColl pgHRT bit)).react ⟨0, 0, 0xFF, 4, 0xF, 1⟩
      (srcLevel (pgHRT / 0x1000)) (pgHRT / 0x1000) 4 := reactFixed_eq (by rwa [fltTo_hearth])
  rw [hreact, rd_react_other h1 h2 h3 h4, rd_fltTo_other h0]

/-- With no injection armed and the rail in range, the supervisor's verdict is marked first. -/
theorem supplyOut_exec (ha : ¬ s.on pgHRT HDR_INJ_ARMED) (rail : Fin 8) (h : (s.rd pgHRT HRT_SUPSTAT_NOW).testBit rail = false) :
    exec (.supplyOutOfRange rail) s = nextDev s fun w =>
      if rail.val = 7 then ((w.railOut rail).flt pgHRT .ce 16).react ⟨0, 0, 0xFF, 1, 0, 5⟩ 6 (pgHRT / 0x1000) 4
      else ((w.railOut rail).railLost rail).hearthFatal pgHRT 16 := by
  refine congrArg Host.Outcome.next (onDev_congr ?_)
  dsimp only
  rw [not_armedFor ha, Bool.false_and]
  exact if_neg (by rw [bitOf_eq]; exact Bool.eq_false_iff.1 h)

theorem supply_fatal (ha : ¬ s.on pgHRT HDR_INJ_ARMED) (rail : Fin 8) (h7 : rail ≠ 7) (h : (s.rd pgHRT HRT_SUPSTAT_NOW).testBit rail = false)
    (hn : s.notHeld 1) : Runs (.supplyOutOfRange rail) s fun t =>
      (t.rd pgHRT HRT_SUPSTAT_NOW).testBit rail = true ∧ (t.rd pgHRT HRT_SUPSTAT_SEEN).testBit rail = true ∧
      t.flagged pgHRT .fatal 16 ∧ Reacted ⟨0, 0, 0xFF, 4, 0xF, 1⟩ s t ∧ TimeKept s t := by
  have hv : rail.val ≠ 7 := fun e => h7 (Fin.ext e)
  have hexec : exec (.supplyOutOfRange rail) s = nextDev s fun w => ((w.railOut rail).railLost rail).hearthFatal pgHRT 16 :=
    (supplyOut_exec ha rail h).trans (congrArg Host.Outcome.next (onDev_congr (if_neg hv)))
  have hhearth : ((s.work.railOut rail).railLost rail).hearth = s.work.hearth := (railLost_hearth ..).trans (railOut_hearth ..)
  have hrd (f : Field) (h1 : HRT_SUPSTAT_NOW.Clear 0 f 0) (h2 : HRT_SUPSTAT_SEEN.Clear 0 f 0) :
      ((s.work.railOut rail).railLost rail).rd pgHRT f = s.work.rd pgHRT f := (rd_railLost ..).trans (rd_railOut_other _ _ h1 h2)
  have hheld : ∀ k ∈ ((s.work.railOut rail).railLost rail).hearth.held, k.kind ≠ 1 := by
    rw [hhearth]
    exact hn
  obtain ⟨hflag, hreact⟩ := hearthFatal_reacts (s := s) (g := fun w => ((w.railOut rail).railLost rail).hearthFatal pgHRT 16) (bit := 16)
    (by decide) (by decide) rfl hn (congrArg HearthSt.held hhearth) (hrd _ (by decide) (by decide)) (hrd _ (by decide) (by decide))
  refine runs_dev hexec ⟨?_, ?_, hflag, hreact, ⟨rfl, rfl⟩⟩
  · rw [State.rd_onDev, rd_hearthFatal_other hheld (by decide) (by decide) (by decide) (by decide) (by decide), rd_railLost]
    exact railOut_now ..
  · rw [State.rd_onDev, rd_hearthFatal_other hheld (by decide) (by decide) (by decide) (by decide) (by decide), rd_railLost]
    exact railOut_seen ..

/-- VEMB is supervised too, and corrected by a reaction of level 1. -/
theorem supply_ember (ha : ¬ s.on pgHRT HDR_INJ_ARMED) (h : (s.rd pgHRT HRT_SUPSTAT_NOW).testBit 7 = false) :
    Runs (.supplyOutOfRange 7) s fun t => (t.rd pgHRT HRT_SUPSTAT_NOW).testBit 7 = true ∧ t.flagged pgHRT .ce 16 ∧
      Reacted ⟨0, 0, 0xFF, 1, 0, 5⟩ s t ∧ TimeKept s t := by
  have hexec : exec (.supplyOutOfRange 7) s = nextDev s fun w =>
      ((w.railOut 7).flt pgHRT .ce 16).react ⟨0, 0, 0xFF, 1, 0, 5⟩ 6 (pgHRT / 0x1000) 4 := supplyOut_exec ha 7 h
  have hrd (f : Field) (h0 : f.at 0 ≠ 0x010) (h1 : HRT_SUPSTAT_NOW.Clear 0 f 0) (h2 : HRT_SUPSTAT_SEEN.Clear 0 f 0) :
      ((s.work.railOut 7).flt pgHRT .ce 16).rd pgHRT f = s.work.rd pgHRT f := (rd_fltTo_other h0).trans (rd_railOut_other _ _ h1 h2)
  refine runs_dev hexec ⟨?_, flagged_react (by decide) (by decide) (by decide) rfl, reacted_of rfl
    (congrArg HearthSt.held ((fltTo_hearth ..).trans (railOut_hearth ..))) (hrd _ (by decide) (by decide) (by decide))
    (hrd _ (by decide) (by decide) (by decide)), ⟨rfl, rfl⟩⟩
  rw [State.rd_onDev, rd_react_other (by decide) (by decide) (by decide) (by decide)]
  exact (congrArg (Nat.testBit · 7) (rd_fltTo_other (by decide))).trans (railOut_now s.work 7)

/-- With VANA the comparators restart; the Hearth's state and pages stand. -/
theorem wcRestart_same (w : Work) : w.SameHearth (w.each (upto 64) Work.wcStart) := .of_view <|
  view_each _ _ _ fun _ _ => view_wcStart _ _ rfl rfl rfl rfl rfl rfl rfl rfl rfl rfl rfl rfl rfl rfl rfl rfl rfl

theorem supply_returns (ha : ¬ s.on pgHRT HDR_INJ_ARMED) (rail : Fin 8) (h : (s.rd pgHRT HRT_SUPSTAT_NOW).testBit rail = true) :
    Runs (.supplyReturn rail) s fun t =>
      (t.rd pgHRT HRT_SUPSTAT_NOW).testBit rail = false ∧ t.rd pgHRT HRT_SUPSTAT_SEEN = s.rd pgHRT HRT_SUPSTAT_SEEN ∧
      t.dev.hearth.held = s.dev.hearth.held ∧ TimeKept s t := by
  have hexec : exec (.supplyReturn rail) s = nextDev s fun w =>
      let v := (w.clrBit pgHRT HRT_SUPSTAT_NOW rail).hearthShow
      if rail.val = 6 then v.each (upto 64) Work.wcStart else v := by
    refine congrArg Host.Outcome.next (onDev_congr ?_)
    dsimp only
    rw [not_armedFor ha, Bool.false_and]
    exact if_pos ((bitOf_eq ..).trans h)
  have hsame : (s.work.clrBit pgHRT HRT_SUPSTAT_NOW rail).hearthShow.SameHearth
      (if rail.val = 6 then (s.work.clrBit pgHRT HRT_SUPSTAT_NOW rail).hearthShow.each (upto 64) Work.wcStart
        else (s.work.clrBit pgHRT HRT_SUPSTAT_NOW rail).hearthShow) := by
    split
    · exact wcRestart_same _
    · exact .refl _
  refine runs_dev hexec ⟨?_, ?_, ?_, ⟨rfl, rfl⟩⟩
  · rw [State.rd_onDev, hsame.hrt, rd_hearthShow_other (by decide), testBit_clrBit _ _ _ _ _ _ (by decide)]
    simp
  · rw [State.rd_onDev, hsame.hrt, rd_hearthShow_other (by decide), rd_clrBit_clear (by decide), State.rd_work]
  · exact (congrArg HearthSt.held hsame.hearth).trans ((hearthShow_held _).trans (congrArg HearthSt.held (clrBit_hearth ..)))

theorem plea_locked (hr : s.reaches (pgHRT + HRT_PLEA_LEVEL.at 0)) (level : BitVec 3) (mask : BitVec 4) (hl : s.on pgHRT HDR_LOCK_LOCKED) :
    Runs (.hearthPlea level mask) s fun t => t.rd pgHRT HDR_STAT_LOCK_WR = 1 ∧ OnlyDwords [pgHRT + HDR_STAT_LOCK_WR.at 0] s t :=
  runs_hostAct rfl hr (locked_onlyLockWr hl)

/-- Settles O31: a reaction's registers are read off what it shows of the Hearth, and the forced safe action of a serving cluster is kept
by every later step of the reaction. That PLEA writes one Ash record is the model's choice (log entry 43). -/
theorem hearthReactsAndChecks : Obligations.HearthReactsAndChecks := by
  unfold Obligations.HearthReactsAndChecks
  refine ⟨fun s => ⟨qualify_reacts, cease_ends, fun hr => ⟨rel_releases hr, rel_ignored hr⟩, fun hr level mask =>
    ⟨plea_taken hr level mask, plea_ignored hr level mask, plea_locked hr level mask⟩⟩, fun s => ⟨copies_inject, alive_toggles, alive_stands⟩,
    fun s ha => ⟨copies_differ ha, copies_equal ha, supply_fatal ha, supply_ember ha, supply_returns ha⟩⟩

end Sys2Proof.Machine
end

section
-- One task at a time: the check bounds the memory of all of Lean's threads together.
set_option Elab.async false
set_option linter.all false

/-! SUPPORT. The exchange of the sets (R68, R73): what it does to a dword and to its shadow, and what the rest of a swap leaves of the
two sets and of the package page's swap registers. -/

namespace Sys2Proof.Machine

variable {w v u : Work}

theorem nodup_eraseDups_nat : ∀ l : List Nat, l.eraseDups.Nodup
  | [] => List.nodup_nil
  | a :: l => by
    rw [List.eraseDups_cons, List.nodup_cons]
    refine ⟨fun h => ?_, nodup_eraseDups_nat _⟩
    simpa using (List.mem_filter.1 (List.mem_eraseDups.1 h)).2
  termination_by l => l.length
  decreasing_by exact Nat.lt_succ_of_le (List.length_filter_le ..)

/-- The RWS bits of `y` in place of those of `x`. -/
def swapBits (a : Nat) (x y : Word) : Word := (x &&& ~~~rwsMask a) ||| (y &&& rwsMask a)

theorem swapBits_rws (a : Nat) (x y : Word) : swapBits a x y &&& rwsMask a = y &&& rwsMask a := merge_masked ..

theorem swapBits_self (a : Nat) (x : Word) : swapBits a x x = x := by
  rw [swapBits, ← BitVec.and_or_distrib_left, BitVec.or_comm, BitVec.or_not_self, BitVec.and_allOnes]

theorem swapBits_plain {a : Nat} (h : rwsMask a = 0) (x y : Word) : swapBits a x y = x := by
  rw [swapBits, h, show (0 : Word) = 0#32 from rfl, BitVec.and_zero, BitVec.or_zero, BitVec.not_zero, BitVec.and_allOnes]

/-- One dword of the exchange. -/
def Work.swapWord (w : Work) (a : Nat) : Work :=
  (w.put a (swapBits a (w.word a) (w.shWord a))).shPut a (swapBits a (w.shWord a) (w.word a))

theorem word_swapWord (w : Work) (a b : Nat) : (w.swapWord a).word b = if b = a then swapBits a (w.word a) (w.shWord a) else w.word b := by
  show ((w.put a _).word b) = _
  rw [word_put]

theorem shWord_swapWord (w : Work) (a b : Nat) :
    (w.swapWord a).shWord b = if b = a then swapBits a (w.shWord a) (w.word a) else w.shWord b := by
  rw [Work.swapWord, shWord_shPut]
  rfl

theorem each_swapWord {l : List Nat} (hl : l.Nodup) (w : Work) (b : Nat) :
    (w.each l Work.swapWord).word b = (if b ∈ l then swapBits b (w.word b) (w.shWord b) else w.word b) ∧
    (w.each l Work.swapWord).shWord b = if b ∈ l then swapBits b (w.shWord b) (w.word b) else w.shWord b := by
  unfold Work.each
  induction l generalizing w with
  | nil => exact ⟨rfl, rfl⟩
  | cons a l ih =>
    obtain ⟨hal, hl⟩ := List.nodup_cons.1 hl
    obtain ⟨hword, hsh⟩ := ih hl (w.swapWord a)
    rw [List.foldl_cons, hword, hsh, word_swapWord, shWord_swapWord]
    by_cases hb : b = a
    · subst hb
      simp [hal]
    · simp [hb]

/-- The two sets change places in the dwords that satisfy `p`. -/
theorem exchange_words (w : Work) (p : Nat → Bool) (b : Nat) :
    (w.exchange p).word b = (if p b then swapBits b (w.word b) (w.shWord b) else w.word b) ∧
    (w.exchange p).shWord b = if p b then swapBits b (w.shWord b) (w.word b) else w.shWord b := by
  obtain ⟨hword, hsh⟩ := each_swapWord ((nodup_eraseDups_nat (w.regs.map Prod.fst ++ w.shadow.map Prod.fst)).filter fun a => p a && rwsMask a != 0) w b
  have hmem : b ∈ (w.regs.map Prod.fst ++ w.shadow.map Prod.fst).eraseDups.filter (fun a => p a && rwsMask a != 0) ↔
      (b ∈ w.regs.map Prod.fst ∨ b ∈ w.shadow.map Prod.fst) ∧ p b = true ∧ rwsMask b ≠ 0 := by
    rw [List.mem_filter, List.mem_eraseDups, List.mem_append, Bool.and_eq_true, bne_iff_ne]
  have hequal (h : ¬ (b ∈ w.regs.map Prod.fst ∨ b ∈ w.shadow.map Prod.fst)) : w.shWord b = w.word b := by
    rw [not_or] at h
    rw [Work.shWord, Work.word, cellsGet_unlisted _ _ _ h.1, cellsGet_unlisted _ _ _ h.2]
  have hpart (x y : Word) (hxy : ¬ (b ∈ w.regs.map Prod.fst ∨ b ∈ w.shadow.map Prod.fst) → y = x) (l : List Nat)
      (hl : b ∈ l ↔ (b ∈ w.regs.map Prod.fst ∨ b ∈ w.shadow.map Prod.fst) ∧ p b = true ∧ rwsMask b ≠ 0) :
      (if b ∈ l then swapBits b x y else x) = if p b then swapBits b x y else x := by
    by_cases hin : b ∈ l
    · rw [if_pos hin, if_pos (hl.1 hin).2.1]
    · rw [if_neg hin]
      split
      · next hp =>
        by_cases hm : rwsMask b = 0
        · rw [swapBits_plain hm]
        · rw [hxy fun hk => hin (hl.2 ⟨hk, hp, hm⟩), swapBits_self]
      · rfl
  exact ⟨hword.trans (hpart _ _ hequal _ hmem), hsh.trans (hpart _ _ (fun h => (hequal h).symm) _ hmem)⟩

/-! ### What the rest of a swap leaves -/

/-- Every kind of state but the shadow set, and every zone but the package page and the windows. -/
def offShadow : Kind → Bool := fun k => decide (k ≠ .shadow)
def offSets : Zone → Bool := fun z => decide (z ≠ .page .pkg) && decide (z ≠ .window)

/-- The shadow set stands, and so do the windows and the package page below the choppers' registers. -/
structure Work.SetsStand (w v : Work) : Prop where
  shadow : v.shadow = w.shadow
  windows : ∀ a, zoneOf a = .window → v.word a = w.word a
  head : ∀ a, a < 0x140 → v.word a = w.word a

theorem zone_pkgHead {a : Nat} (h : a < 0x1000) : zoneOf a = .page .pkg := by
  have hz := zoneOf_add pgPKG a mod_pgPKG h
  rw [zone_pgPKG] at hz
  rwa [show pgPKG + a = a from Nat.zero_add a] at hz

namespace Work.SetsStand

theorem refl (w : Work) : w.SetsStand w := ⟨rfl, fun _ _ => rfl, fun _ _ => rfl⟩

theorem trans (h : w.SetsStand v) (g : v.SetsStand u) : w.SetsStand u :=
  ⟨g.shadow.trans h.shadow, fun a ha => (g.windows a ha).trans (h.windows a ha), fun a ha => (g.head a ha).trans (h.head a ha)⟩

/-- An operation on other pages and other kinds of state. -/
theorem other (h : w.SetsStand v) (hview : view offShadow offSets u = view offShadow offSets v) : w.SetsStand u :=
  h.trans ⟨same_of_view hview .shadow rfl, fun a ha => word_of_view hview a (by rw [ha]; rfl),
    fun a ha => word_of_view hview a (by rw [zone_pkgHead (by omega)]; rfl)⟩

theorem each {α : Type} {l : List α} {f : Work → α → Work} (h : w.SetsStand v) (hf : ∀ u a, w.SetsStand u → w.SetsStand (f u a)) :
    w.SetsStand (v.each l f) := each_closed (P := w.SetsStand) hf h

/-- A register of the package page from the choppers' on. -/
theorem wrPkg (h : w.SetsStand v) {f : Field} {x i : Nat} (hf : 0x140 ≤ f.at i) : w.SetsStand (v.wr pgPKG f x i) := by
  have hlt := f.at_lt i
  have hpkg : pgPKG = 0 := rfl
  refine h.trans ⟨rfl, fun a ha => word_wr_ne _ _ _ _ _ _ fun e => ?_, fun a ha => word_wr_ne _ _ _ _ _ _ (by omega)⟩
  rw [e, zoneOf_field _ _ _ mod_pgPKG, zone_pgPKG] at ha
  exact absurd ha (by decide)

theorem chopStat_at (n : Nat) : 0x140 ≤ PKG_CHOP_STAT_ON.at n := by
  show 0x140 ≤ (0x148 + n % 8 * 0x10) % 0x1000
  omega

theorem chopSet (h : w.SetsStand v) (n : Nat) (on : Bool) : w.SetsStand (v.chopSet n on) := by
  unfold Work.chopSet
  split
  · exact h
  · exact (h.wrPkg (chopStat_at n)).other (view_emit _ _ rfl)

theorem chopEval (h : w.SetsStand v) (n : Nat) (retry : Bool) : w.SetsStand (v.chopEval n retry) := by
  have hheld : w.SetsStand (v.wr pgPKG PKG_CHOP_STAT_HELD (b2n (v.chopHeld n)) n) := h.wrPkg (chopStat_at n)
  unfold Work.chopEval
  dsimp only
  split
  · exact hheld.chopSet ..
  split
  · exact hheld.chopSet ..
  split
  · exact hheld.chopSet ..
  · exact hheld

theorem wcRise (h : w.SetsStand v) (k : Nat) (upper : Bool) : w.SetsStand (v.wcRise k upper) := by
  unfold Work.wcRise
  dsimp only
  refine SetsStand.other (SetsStand.each (h.other ?_) fun u n hu => ?_) (view_when _ _ _ fun u => ?_)
  · rw [view_when _ _ _ fun u => view_capture _ _ _ _ rfl rfl, view_when _ _ _ fun u => view_recSource _ _ _ rfl rfl rfl rfl rfl,
      view_when _ _ _ fun u => view_msix _ _ rfl, view_wr _ _ _ _ _ (mod_pgWC k) (by rw [zone_pgWC]; rfl),
      view_count _ _ _ _ _ (mod_pgWC k) (by rw [zone_pgWC]; rfl)]
  · split
    · exact hu.chopEval ..
    split
    · exact hu
    · exact hu.chopSet ..
  · rw [view_localEvent _ _ _ _ rfl rfl rfl rfl rfl rfl rfl rfl rfl rfl rfl rfl rfl, view_localEvent _ _ _ _ rfl rfl rfl rfl rfl rfl rfl rfl rfl rfl rfl rfl rfl]

theorem wrWc (h : w.SetsStand v) (k : Nat) (f : Field) (x : Nat) : w.SetsStand (v.wr (pgWC k) f x) :=
  h.other (view_wr _ _ _ _ _ (mod_pgWC k) (by rw [zone_pgWC]; rfl))

theorem wcOut (h : w.SetsStand v) (k : Nat) (upper b : Bool) : w.SetsStand (v.wcOut k upper b) := by
  unfold Work.wcOut
  dsimp only
  generalize (if upper = true then WC_WSTAT_H else WC_WSTAT_L) = f
  split
  · exact h
  split
  · exact (h.wrWc ..).wcRise ..
  · exact h.wrWc ..

/-- The verdict of one side of a comparator that starts (R344). -/
theorem wcSide (h : w.SetsStand v) (k : Nat) (upper : Bool) : w.SetsStand (match v.wcVerdict k upper (v.ain.toList.getD k 0) with
    | some b => v.wcDecide k upper b
    | none => (v.wr (pgWC k) (if upper then WC_WSTAT_UNDET_H else WC_WSTAT_UNDET_L) 1).wcOut k upper
        (v.on (pgWC k) (if upper then WC_WCFG_PU_H else WC_WCFG_PU_L))) := by
  split
  · exact (h.wrWc ..).wcOut ..
  · exact (h.wrWc ..).wcOut ..

theorem wcStart (h : w.SetsStand v) (k : Nat) : w.SetsStand (v.wcStart k) := by
  unfold Work.wcStart
  dsimp only
  split
  · exact (h.wcSide k true).wcSide k false
  · exact h

end Work.SetsStand

/-- The exchange of the package's sets, without what follows from it in those pages. -/
def Work.packageSets (w : Work) : Work := (w.exchange inPackage).cleanPages inPackage

theorem exchangePackage_follows (w : Work) : w.packageSets.SetsStand w.exchangePackage := by
  unfold Work.exchangePackage
  extract_lets old src w1 w2 w3 w4 w5 w6
  have h2 : w.packageSets.SetsStand w2 := (Work.SetsStand.refl w1).each fun u k hu => by
    split
    · exact hu
    split
    · exact hu.wcStart k
    · exact hu.other (view_wcOff _ _ rfl)
  have h3 : w.packageSets.SetsStand w3 := h2.each fun u n hu => hu.other (view_when _ _ _ fun x => view_emit _ _ rfl)
  have h4 : w.packageSets.SetsStand w4 := h3.each fun u n hu => hu.chopEval ..
  have h5 : w.packageSets.SetsStand w5 := h4.each fun u q hu => hu.other (view_when _ _ _ fun x => view_qReset _ _ rfl rfl rfl)
  have h6 : w.packageSets.SetsStand w6 := h5.each fun u l hu => hu.other (view_laneEnable _ _ _ rfl rfl rfl rfl rfl rfl rfl rfl rfl rfl rfl rfl)
  exact h6.other ((view_tripShow _ rfl rfl rfl rfl rfl rfl).trans (view_rescan _ _ rfl rfl rfl rfl rfl rfl rfl rfl rfl rfl rfl rfl rfl))

/-- The exchange of region `n`'s sets, without what follows from it. -/
def Work.regionSets (w : Work) (n : Nat) : Work := (w.exchange (inRegion n)).cleanPages (inRegion n)

/-- What follows in region `n` stands clear of the sets, and then the region is marked done. -/
theorem exchangeRegion_follows (w : Work) (n : Nat) : ∃ v, (w.regionSets n).SetsStand v ∧
    w.exchangeRegion n = (v.setBit pgPKG PKG_SWAP_STAT_RG_DONE n).swapFinish := by
  unfold Work.exchangeRegion
  extract_lets old src w1 w2 w3 w4 w5 w6 w7
  refine ⟨w7, ?_, rfl⟩
  have h2 : (w.regionSets n).SetsStand w2 := (Work.SetsStand.refl w1).other (view_lanesFollow _ _ rfl rfl rfl rfl rfl rfl rfl rfl rfl rfl rfl rfl)
  have h3 : (w.regionSets n).SetsStand w3 := h2.each fun u q hu => hu.other (view_spSwap _ _ _ _ _ _ _ rfl rfl)
  have h4 : (w.regionSets n).SetsStand w4 := h3.each fun u i hu =>
    hu.other ((view_winShow _ _ rfl).trans (view_restartPre _ _ _ _ rfl))
  have h5 : (w.regionSets n).SetsStand w5 := h4.each fun u c hu => hu.other (view_when _ _ _ fun x => view_sendConfig _ _ rfl)
  have h6 : (w.regionSets n).SetsStand w6 := h5.other (view_rescan _ _ rfl rfl rfl rfl rfl rfl rfl rfl rfl rfl rfl rfl rfl)
  exact h6.other (view_when _ _ _ fun x => view_recRestart _ rfl rfl rfl)

end Sys2Proof.Machine
end

section
-- One task at a time: the check bounds the memory of all of Lean's threads together.
set_option Elab.async false
set_option linter.all false

/-! PROOF. Settles O28, its first parts: arming, the checks' end, and refusals. -/

namespace Sys2Proof.Machine

variable {s : State} {w v : Work}

/-- What one step of a run sets and every step keeps. -/
theorem each_sets {α : Type} {P : Work → Prop} {l : List α} {f : Work → α → Work} {a : α} (ha : a ∈ l) (hset : ∀ v, P (f v a))
    (hkeep : ∀ v b, P v → P (f v b)) (w : Work) : P (w.each l f) := by
  unfold Work.each
  induction l generalizing w with
  | nil => exact absurd ha List.not_mem_nil
  | cons b l ih =>
    rw [List.foldl_cons]
    rcases List.mem_cons.1 ha with rfl | ha
    · exact each_closed (P := P) hkeep (hset w)
    · exact ih ha _

/-! ### ARM and DISARM (R71, R78) -/

theorem canArm_iff : s.work.canArm = true ↔ ¬ s.on pgPKG PKG_SWAP_STAT_ARMED ∧ ¬ s.on pgPKG PKG_SWAP_STAT_PENDING := by
  rw [Work.canArm, Bool.and_eq_true, Bool.not_eq_true', Bool.not_eq_true', ← Bool.not_eq_true, ← Bool.not_eq_true, State.on_work, State.on_work]

/-- ARM notes D and makes the bounds of an earlier ARM invalid (R71, R189). -/
def Work.armNoted (w : Work) : Work :=
  (w.modSwap fun s => { s with d := if t16 w.now < w.swapD then some w.swapD else none }).each (upto 4) fun w n => w.wr (pgABC n) ABC_BOUND_NEXT_VALID 0

/-- ARM accepted. -/
def Work.armTaken (w : Work) : Work :=
  ((w.armNoted.wr pgPKG PKG_SWAP_STAT_RG_DONE 0).wr pgPKG PKG_SWAP_STAT_ARMED 1).wr pgPKG PKG_SWAP_STAT_CHECKING 1

theorem armNoted_valid (w : Work) (n : Fin 4) : w.armNoted.rd (pgABC n) ABC_BOUND_NEXT_VALID = 0 := by
  refine each_sets (P := fun v => v.rd (pgABC n) ABC_BOUND_NEXT_VALID = 0) (List.mem_range.2 n.isLt)
    (fun v => rd_wr_same _ _ _ _ _ (by decide)) (fun v m hv => ?_) _
  by_cases hp : pgABC n = pgABC m
  · rw [hp, rd_wr_same _ _ _ _ _ (by decide)]
    rfl
  · rw [rd_wr_ne _ _ _ _ _ _ _ _ (by omega), hv]

theorem rd_wrPkg_region {pg : Nat} {f g : Field} {x : Nat} (hp : 0x1000000 ≤ pg) : (w.wr pgPKG f x).rd pg g = w.rd pg g := by
  have hlt := f.at_lt 0
  exact rd_wr_ne _ _ _ _ _ _ _ _ (by rw [show pgPKG = 0 from rfl]; omega)

theorem armNoted_alters {l : List Nat} (hl : ∀ n < 4, pgABC n + ABC_BOUND_NEXT_VALID.at 0 ∈ l) : w.Alters [.swap] l w.armNoted := by
  refine each_relates (R := (·.Alters [.swap] l ·)) (fun _ => .refl) (fun h g => h.trans g) (fun v n hn => Work.Alters.refl.wr (hl n (List.mem_range.1 hn))) _
    |> fun h => Work.Alters.trans ?_ h
  exact Work.Alters.refl.through (view_modSwap _ _ rfl)

theorem armTaken_swap (w : Work) : w.armTaken.swap.d = if t16 w.now < w.swapD then some w.swapD else none := by
  have hview : view noKinds allZones w.armTaken = view noKinds allZones (w.modSwap fun s => { s with d := if t16 w.now < w.swapD then some w.swapD else none }) := by
    rw [Work.armTaken, view_wr _ _ _ _ _ mod_pgPKG rfl, view_wr _ _ _ _ _ mod_pgPKG rfl, view_wr _ _ _ _ _ mod_pgPKG rfl, Work.armNoted,
      view_each _ _ _ fun v n => view_wr _ _ _ _ _ (mod_pgABC n) rfl]
  have hswap : w.armTaken.swap = (w.modSwap fun s => { s with d := if t16 w.now < w.swapD then some w.swapD else none }).swap :=
    same_of_view hview .swap rfl
  rw [hswap, modSwap_swap]

theorem swapArm_arms (hf : s.fenceAt (pgPKG + PKG_SWAP_ARM.at 0) true = none) (h1 : ¬ s.on pgPKG PKG_SWAP_STAT_ARMED)
    (h2 : ¬ s.on pgPKG PKG_SWAP_STAT_PENDING) : Runs .swapArm s fun t =>
      t.rd pgPKG PKG_SWAP_STAT_ARMED = 1 ∧ t.rd pgPKG PKG_SWAP_STAT_CHECKING = 1 ∧ t.rd pgPKG PKG_SWAP_STAT_RG_DONE = 0 ∧
      (t16 s.tally.a < s.work.swapD → t.dev.swap.d = some s.work.swapD) ∧ (s.work.swapD ≤ t16 s.tally.a → t.dev.swap.d = none) ∧
      (∀ n : Fin 4, t.rd (pgABC n) ABC_BOUND_NEXT_VALID = 0) ∧
      Changes [.swap] ((pgPKG + PKG_SWAP_STAT_ARMED.at 0) :: (List.range 4).map fun n => pgABC n + ABC_BOUND_NEXT_VALID.at 0) s t := by
  have harm : s.work.swapArm = s.work.armTaken := if_pos (canArm_iff.2 ⟨h1, h2⟩)
  refine runs_reach rfl hf ?_
  rw [onDev_congr (g := Work.armTaken) harm]
  have hd : (s.onDev Work.armTaken).dev.swap.d = if t16 s.tally.a < s.work.swapD then some s.work.swapD else none := armTaken_swap s.work
  refine ⟨?_, rd_wr_same _ _ _ _ _ (by decide), ?_, fun h => hd.trans (if_pos h), fun h => hd.trans (if_neg (Int.not_lt.2 h)), fun n => ?_, ?_⟩
  · exact (rd_wr_clear _ _ (by decide) _).trans (rd_wr_same _ _ _ _ _ (by decide))
  · exact (rd_wr_clear _ _ (by decide) _).trans ((rd_wr_clear _ _ (by decide) _).trans (rd_wr_same _ _ _ _ _ (by decide)))
  · have hp : 0x1000000 ≤ pgABC n := by unfold pgABC rgBase; omega
    rw [State.rd_onDev, Work.armTaken, rd_wrPkg_region hp, rd_wrPkg_region hp, rd_wrPkg_region hp, armNoted_valid]
  · refine Work.Alters.changes (Work.Alters.wr (Work.Alters.wr (Work.Alters.wr (armNoted_alters fun n hn => ?_) (.head _)) (.head _)) (.head _))
    exact List.mem_cons_of_mem _ (List.mem_map.2 ⟨n, List.mem_range.2 hn, rfl⟩)

theorem swapArm_ignored (hf : s.fenceAt (pgPKG + PKG_SWAP_ARM.at 0) true = none)
    (h : s.on pgPKG PKG_SWAP_STAT_ARMED ∨ s.on pgPKG PKG_SWAP_STAT_PENDING) : Runs .swapArm s fun t =>
      t.rd pgPKG HDR_STAT_BADVAL = 1 ∧ OnlyDwords [pgPKG + HDR_STAT_BADVAL.at 0] s t := by
  have harm : s.work.swapArm = s.work.badval pgPKG := if_neg fun hc => h.elim (canArm_iff.1 hc).1 (canArm_iff.1 hc).2
  refine runs_reach rfl hf ?_
  rw [onDev_congr (g := fun w => w.badval pgPKG) harm]
  exact ⟨rd_wr_same _ _ _ _ _ (by decide), (Work.Alters.refl.badval (by decide)).changes⟩

/-- An armed swap abandoned. -/
def Work.disarmed (w : Work) : Work :=
  ((w.wr pgPKG PKG_SWAP_STAT_ARMED 0).wr pgPKG PKG_SWAP_STAT_CHECKING 0).modNet fun n => { n with swapFrom := none }

/-- DISARM needs no open gate of its own: PKG stands unfenced wherever SWAP_ARM's write does. -/
theorem swapDisarm_takes (hf : s.fenceAt (pgPKG + PKG_SWAP_ARM.at 0) true = none) (h : s.on pgPKG PKG_SWAP_STAT_ARMED) : Runs .swapDisarm s fun t =>
    t.rd pgPKG PKG_SWAP_STAT_ARMED = 0 ∧ t.rd pgPKG PKG_SWAP_STAT_CHECKING = 0 ∧ Changes [.net] [pgPKG + PKG_SWAP_STAT_ARMED.at 0] s t := by
  rw [← State.on_work] at h
  have harm : s.work.swapDisarm = s.work.disarmed := if_pos h
  refine runs_reach rfl hf ?_
  rw [onDev_congr (g := Work.disarmed) harm]
  refine ⟨(rd_wr_clear _ _ (by decide) _).trans (rd_wr_same _ _ _ _ _ (by decide)), rd_wr_same _ _ _ _ _ (by decide), ?_⟩
  have halters : s.work.Alters [.net] [pgPKG + PKG_SWAP_STAT_ARMED.at 0] s.work.disarmed :=
    ((Work.Alters.refl.wr (by decide)).wr (by decide)).through (view_modNet _ _ rfl)
  exact halters.changes

theorem swapDisarm_ignored (hf : s.fenceAt (pgPKG + PKG_SWAP_ARM.at 0) true = none) (h : ¬ s.on pgPKG PKG_SWAP_STAT_ARMED) : Runs .swapDisarm s fun t =>
    t.rd pgPKG HDR_STAT_BADVAL = 1 ∧ OnlyDwords [pgPKG + HDR_STAT_BADVAL.at 0] s t := by
  rw [← State.on_work] at h
  have harm : s.work.swapDisarm = s.work.badval pgPKG := if_neg h
  refine runs_reach rfl hf ?_
  rw [onDev_congr (g := fun w => w.badval pgPKG) harm]
  exact ⟨rd_wr_same _ _ _ _ _ (by decide), (Work.Alters.refl.badval (by decide)).changes⟩

/-! ### A refusal (R72) -/

/-- What a refusal shows, before it counts. -/
def Work.refused (w : Work) (cause info : Nat) : Work :=
  (((((w.wr pgPKG PKG_SWAP_STAT_ARMED 0).wr pgPKG PKG_SWAP_STAT_CHECKING 0).wr pgPKG PKG_SWAP_STAT_SWAP_ERR 1).wr pgPKG PKG_SWAP_STAT_ERR_CAUSE cause).wr pgPKG
    PKG_SWAP_STAT_ERR_INFO info)

theorem swapReport_none {code : Nat} {last : Bool} (h : w.net.swapFrom = none) : w.swapReport code last = w := by
  unfold Work.swapReport
  rw [h]

/-- A refusal of a swap that came over the host alone. -/
theorem swapRefuse_eq {cause info : Nat} (h : w.net.swapFrom = none) :
    w.swapRefuse cause info = ((w.refused cause info).count pgPKG PKG_SWAP_REFUSED).swapEvent false := by
  have hview : view (fun k => decide (k = .events)) allZones (((w.refused cause info).count pgPKG PKG_SWAP_REFUSED).swapEvent false) =
      view (fun k => decide (k = .events)) allZones w := by
    rw [view_swapEvent _ _ rfl, view_count _ _ _ _ _ mod_pgPKG rfl, Work.refused, view_wr _ _ _ _ _ mod_pgPKG rfl, view_wr _ _ _ _ _ mod_pgPKG rfl,
      view_wr _ _ _ _ _ mod_pgPKG rfl, view_wr _ _ _ _ _ mod_pgPKG rfl, view_wr _ _ _ _ _ mod_pgPKG rfl]
  have hnet : (((w.refused cause info).count pgPKG PKG_SWAP_REFUSED).swapEvent false).net = w.net := same_of_view hview .net rfl
  show (((w.refused cause info).count pgPKG PKG_SWAP_REFUSED).swapEvent false).swapReport cause true = _
  exact swapReport_none (by rw [hnet, h])

theorem rd_swapEvent (w : Work) (done : Bool) (pg : Nat) (f : Field) : (w.swapEvent done).rd pg f = w.rd pg f := rfl

/-- A register through a refusal. -/
theorem rd_swapRefuse {cause info : Nat} (h : w.net.swapFrom = none) {f : Field} (hf : PKG_SWAP_REFUSED.Clear 0 f 0) :
    (w.swapRefuse cause info).rd pgPKG f = (w.refused cause info).rd pgPKG f := by
  rw [swapRefuse_eq h, rd_swapEvent, rd_count_clear _ _ hf]

theorem swapRefuse_shows {cause info : Nat} (h : w.net.swapFrom = none) (hc : cause < 2 ^ 8) (hi : info < 2 ^ 8) :
    (w.swapRefuse cause info).rd pgPKG PKG_SWAP_STAT_SWAP_ERR = 1 ∧ (w.swapRefuse cause info).rd pgPKG PKG_SWAP_STAT_ERR_CAUSE = cause ∧
    (w.swapRefuse cause info).rd pgPKG PKG_SWAP_STAT_ERR_INFO = info ∧ (w.swapRefuse cause info).rd pgPKG PKG_SWAP_STAT_ARMED = 0 ∧
    (w.swapRefuse cause info).rd pgPKG PKG_SWAP_STAT_CHECKING = 0 ∧
    (w.swapRefuse cause info).rd pgPKG PKG_SWAP_REFUSED = min (w.rd pgPKG PKG_SWAP_REFUSED + 1) PKG_SWAP_REFUSED.max := by
  refine ⟨?_, ?_, ?_, ?_, ?_, ?_⟩
  · rw [rd_swapRefuse h (by decide), Work.refused, rd_wr_clear _ _ (by decide), rd_wr_clear _ _ (by decide), rd_wr_same _ _ _ _ _ (by decide)]
    rfl
  · rw [rd_swapRefuse h (by decide), Work.refused, rd_wr_clear _ _ (by decide), rd_wr_same _ _ _ _ _ (by decide)]
    exact Nat.mod_eq_of_lt (lt_of_lt_of_eq hc (congrArg (2 ^ ·) rfl))
  · rw [rd_swapRefuse h (by decide), Work.refused, rd_wr_same _ _ _ _ _ (by decide)]
    exact Nat.mod_eq_of_lt (lt_of_lt_of_eq hi (congrArg (2 ^ ·) rfl))
  · rw [rd_swapRefuse h (by decide), Work.refused, rd_wr_clear _ _ (by decide), rd_wr_clear _ _ (by decide), rd_wr_clear _ _ (by decide),
      rd_wr_clear _ _ (by decide), rd_wr_same _ _ _ _ _ (by decide)]
    rfl
  · rw [rd_swapRefuse h (by decide), Work.refused, rd_wr_clear _ _ (by decide), rd_wr_clear _ _ (by decide), rd_wr_clear _ _ (by decide),
      rd_wr_same _ _ _ _ _ (by decide)]
    rfl
  · have hcount : ((w.refused cause info).count pgPKG PKG_SWAP_REFUSED).rd pgPKG PKG_SWAP_REFUSED =
        min ((w.refused cause info).rd pgPKG PKG_SWAP_REFUSED + 1) PKG_SWAP_REFUSED.max := rd_count _ _ _ _ _ (by decide)
    have hkept : (w.refused cause info).rd pgPKG PKG_SWAP_REFUSED = w.rd pgPKG PKG_SWAP_REFUSED := by
      rw [Work.refused, rd_wr_clear _ _ (by decide), rd_wr_clear _ _ (by decide), rd_wr_clear _ _ (by decide), rd_wr_clear _ _ (by decide),
        rd_wr_clear _ _ (by decide)]
    rw [swapRefuse_eq h, rd_swapEvent, hcount, hkept]

theorem swapRefuse_alters {cause info : Nat} (h : w.net.swapFrom = none) :
    w.Alters [.events] [pgPKG + PKG_SWAP_STAT_ARMED.at 0, pgPKG + PKG_SWAP_REFUSED.at 0] (w.swapRefuse cause info) := by
  rw [swapRefuse_eq h, Work.refused]
  exact ((((((Work.Alters.refl.wr (by decide)).wr (by decide)).wr (by decide)).wr (by decide)).wr (by decide)).count (by decide)).event (by decide)

/-- A refusal files one event. -/
theorem swapRefuse_event {cause info : Nat} (h : w.net.swapFrom = none) : ∃ e, (w.swapRefuse cause info).events = w.events ++ [e] := by
  have hview : view noKinds allZones ((w.refused cause info).count pgPKG PKG_SWAP_REFUSED) = view noKinds allZones w := by
    rw [view_count _ _ _ _ _ mod_pgPKG rfl, Work.refused, view_wr _ _ _ _ _ mod_pgPKG rfl, view_wr _ _ _ _ _ mod_pgPKG rfl,
      view_wr _ _ _ _ _ mod_pgPKG rfl, view_wr _ _ _ _ _ mod_pgPKG rfl, view_wr _ _ _ _ _ mod_pgPKG rfl]
  have hfile (v : Work) : ∃ e, (v.swapEvent false).events = v.events ++ [e] := ⟨_, rfl⟩
  obtain ⟨e, he⟩ := hfile ((w.refused cause info).count pgPKG PKG_SWAP_REFUSED)
  have hkept : ((w.refused cause info).count pgPKG PKG_SWAP_REFUSED).events = w.events := same_of_view hview .events rfl
  rw [hkept] at he
  exact ⟨e, by rw [swapRefuse_eq h, he]⟩

/-- A flag that is on reads 1. -/
theorem rd_flag_of_on {pg : Nat} {f : Field} (hf : f.wid = 1) (h : s.on pg f) : s.rd pg f = 1 := by
  have hlt : s.work.rd pg f < 2 ^ f.wid := rd_lt s.work pg f 0
  rw [← State.on_work, on_iff] at h
  rw [hf] at hlt
  rw [← State.rd_work]
  omega

/-! ### The end of the checks (R71, R72, R76) -/

theorem crc32Bit_lt {c : Nat} (h : c < 2 ^ 32) : crc32Bit c < 2 ^ 32 := by
  unfold crc32Bit
  split
  · exact Nat.xor_lt_two_pow (by omega) (by decide)
  · omega

/-- A run of steps that keep a bound keeps it. -/
theorem foldl_lt {α : Type} {n : Nat} {f : Nat → α → Nat} (hf : ∀ c a, c < n → f c a < n) (l : List α) {c : Nat} (h : c < n) : l.foldl f c < n := by
  induction l generalizing c with
  | nil => exact h
  | cons a l ih => exact ih (hf c a h)

theorem crc32Byte_lt (c : Nat) (b : Byte) (h : c < 2 ^ 32) : crc32Byte c b < 2 ^ 32 := by
  unfold crc32Byte
  refine foldl_lt (fun c _ hc => crc32Bit_lt hc) _ (Nat.xor_lt_two_pow h ?_)
  have := b.isLt
  omega

theorem crc32_lt (bs : List Byte) : crc32 bs < 2 ^ 32 := by
  unfold crc32
  exact Nat.xor_lt_two_pow (foldl_lt crc32Byte_lt bs (by omega)) (by omega)

theorem checksVerdict_none (w : Work) :
    w.checksVerdict none = (w.modSwap fun x => { x with d := some (x.d.getD (t16 w.now + tick16)) }).swapReport 0 false := rfl

theorem checksVerdict_some (w : Work) (cause info : Nat) : w.checksVerdict (some (cause, info)) = w.swapRefuse cause info := rfl

/-- What the end of the checks shows before its verdict. -/
def Work.checksShown (w : Work) : Work :=
  (((w.wr pgPKG PKG_SWAP_STAT_CHECKING 0).wr pgPKG PKG_SWAP_CRC_CALC w.shadowCrc).each (upto 4) fun x n =>
    (x.wr (pgABC n) ABC_BOUND_NEXT_VALID 1).wr (pgABC n) ABC_BOUND_NEXT_TICKS (w.preview.bound n)).wr pgTWIN TWIN_LOAD_NEXT w.preview.copyLoad

theorem checksEnd_eq (h : s.on pgPKG PKG_SWAP_STAT_CHECKING) : s.work.checksEnd =
    s.work.checksShown.checksVerdict ((s.work.checksShown.checksStatic s.work.preview).or (s.work.checksShown.checksLast s.work.preview)) := by
  rw [← State.on_work] at h
  exact if_pos h

/-- Every zone but the pages that the checks' end writes. -/
def offChecks : Zone → Bool := fun z => decide (z ∈ [.page .pkg, .page .abc, .page .twin])

theorem view_checksShown (w : Work) : view noKinds offChecks w.checksShown = view noKinds offChecks w := by
  rw [Work.checksShown, view_wr _ _ _ _ _ mod_pgTWIN (by rw [zone_pgTWIN]; rfl), view_each _ _ _ fun v n =>
    (view_wr _ _ _ _ _ (mod_pgABC n) (by rw [zone_pgABC]; rfl)).trans (view_wr _ _ _ _ _ (mod_pgABC n) (by rw [zone_pgABC]; rfl)),
    view_wr _ _ _ _ _ mod_pgPKG (by rw [zone_pgPKG]; rfl), view_wr _ _ _ _ _ mod_pgPKG (by rw [zone_pgPKG]; rfl)]

/-- Every zone but the pages of the region's bounds and the twin's. -/
def offBounds : Zone → Bool := fun z => decide (z ∈ [.page .abc, .page .twin])

theorem rd_checksShown (w : Work) (f : Field) :
    w.checksShown.rd pgPKG f = ((w.wr pgPKG PKG_SWAP_STAT_CHECKING 0).wr pgPKG PKG_SWAP_CRC_CALC w.shadowCrc).rd pgPKG f := by
  have hview : view noKinds offBounds w.checksShown =
      view noKinds offBounds ((w.wr pgPKG PKG_SWAP_STAT_CHECKING 0).wr pgPKG PKG_SWAP_CRC_CALC w.shadowCrc) := by
    rw [Work.checksShown, view_wr _ _ _ _ _ mod_pgTWIN (by rw [zone_pgTWIN]; rfl), view_each _ _ _ fun v n =>
      (view_wr _ _ _ _ _ (mod_pgABC n) (by rw [zone_pgABC]; rfl)).trans (view_wr _ _ _ _ _ (mod_pgABC n) (by rw [zone_pgABC]; rfl))]
  exact rd_of_view hview pgPKG f 0 mod_pgPKG (by rw [zone_pgPKG]; rfl)

theorem rd_checksShown_crc (w : Work) : w.checksShown.rd pgPKG PKG_SWAP_CRC_CALC = w.shadowCrc := by
  rw [rd_checksShown, rd_wr_same _ _ _ _ _ (by decide)]
  exact Nat.mod_eq_of_lt (crc32_lt _)

theorem rd_checksShown_other (w : Work) {f : Field} (h1 : PKG_SWAP_STAT_CHECKING.Clear 0 f 0) (h2 : PKG_SWAP_CRC_CALC.Clear 0 f 0) :
    w.checksShown.rd pgPKG f = w.rd pgPKG f := by
  rw [rd_checksShown, rd_wr_clear _ _ h2, rd_wr_clear _ _ h1]

theorem checksShown_net (w : Work) : w.checksShown.net = w.net := same_of_view (view_checksShown w) .net rfl

/-- The first check compares the two CRCs (R72). -/
theorem checksStatic_crc {u : Work} (h : w.rd pgPKG PKG_SWAP_CRC_CALC ≠ w.rd pgPKG PKG_SWAP_CRC) : w.checksStatic u = some (1, 0xFF) :=
  if_pos (bne_iff_ne.2 h)

theorem checksStatic_congr {u : Work} (h1 : v.rd pgPKG PKG_SWAP_CRC_CALC = w.rd pgPKG PKG_SWAP_CRC_CALC)
    (h2 : v.rd pgPKG PKG_SWAP_CRC = w.rd pgPKG PKG_SWAP_CRC) : v.checksStatic u = w.checksStatic u := by
  unfold Work.checksStatic
  rw [h1, h2]

/-- The last checks read the clusters, the lanes' enables, and what keeps a region busy. -/
theorem checksLast_congr {u : Work} (h : view noKinds offChecks v = view noKinds offChecks w)
    (hf : v.rd pgPKG PKG_FENCE_STAT = w.rd pgPKG PKG_FENCE_STAT) : v.checksLast u = w.checksLast u := by
  have hclu (c : Nat) (f : Field) : v.rd (pgCLU c) f = w.rd (pgCLU c) f := rd_of_view h _ f 0 (mod_pgCLU c) (by rw [zone_pgCLU]; rfl)
  have hlane (c : Nat) : v.on (pgCLANE c) CLANE_CTL_EN = w.on (pgCLANE c) CLANE_CTL_EN :=
    congrArg (· != 0) (rd_of_view h _ CLANE_CTL_EN 0 (mod_pgCLANE c) (by rw [zone_pgCLANE]; rfl))
  have hbist : v.rd pgBIST BIST_BSTAT_RUN = w.rd pgBIST BIST_BSTAT_RUN := rd_of_view h _ _ 0 mod_pgBIST (by rw [zone_pgBIST]; rfl)
  have hkin : v.kin = w.kin := same_of_view h .kin rfl
  have hember : v.ember = w.ember := same_of_view h .ember rfl
  have hbusy : v.regionBusy = w.regionBusy := by
    unfold Work.regionBusy Work.marked Work.rgFenced Work.bistRun
    rw [hf, hbist, hkin, hember]
  have htest : (fun c => v.cstate c != 0 && (v.topo c != u.topo c || v.on (pgCLANE c) CLANE_CTL_EN != u.on (pgCLANE c) CLANE_CTL_EN)) =
      fun c => w.cstate c != 0 && (w.topo c != u.topo c || w.on (pgCLANE c) CLANE_CTL_EN != u.on (pgCLANE c) CLANE_CTL_EN) := by
    funext c
    simp only [Work.cstate, Work.topo, hclu, hlane]
  unfold Work.checksLast
  rw [htest, hbusy]

theorem now_of_view {K : Kind → Bool} {Z : Zone → Bool} (h : view K Z v = view K Z w) : v.now = w.now := congrArg View.now h

theorem checks_differ (hc : s.on pgPKG PKG_SWAP_STAT_CHECKING) (hnet : s.dev.net.swapFrom = none) (h : s.work.shadowCrc ≠ s.rd pgPKG PKG_SWAP_CRC) :
    Runs .swapChecksComplete s fun t =>
      t.rd pgPKG PKG_SWAP_CRC_CALC = s.work.shadowCrc ∧ t.rd pgPKG PKG_SWAP_STAT_SWAP_ERR = 1 ∧
      t.rd pgPKG PKG_SWAP_STAT_ERR_CAUSE = 1 ∧ t.rd pgPKG PKG_SWAP_STAT_ERR_INFO = 0xFF ∧
      t.rd pgPKG PKG_SWAP_STAT_ARMED = 0 ∧ t.rd pgPKG PKG_SWAP_STAT_CHECKING = 0 ∧
      t.rd pgPKG PKG_SWAP_REFUSED = min (s.rd pgPKG PKG_SWAP_REFUSED + 1) PKG_SWAP_REFUSED.max ∧
      t.dev.events.length = s.dev.events.length + 1 ∧ KindsKeptBut [.events] s t := by
  have hsh : s.work.checksShown.net.swapFrom = none := (congrArg (·.swapFrom) (checksShown_net s.work)).trans hnet
  have hfail : s.work.checksShown.checksStatic s.work.preview = some (1, 0xFF) :=
    checksStatic_crc (by rw [rd_checksShown_crc, rd_checksShown_other _ (by decide) (by decide)]; exact h)
  have hend : s.work.checksEnd = s.work.checksShown.swapRefuse 1 0xFF := by
    rw [checksEnd_eq hc, hfail, Option.some_or, checksVerdict_some]
  obtain ⟨herr, hcause, hinfo, harmed, hchecking, hcount⟩ := swapRefuse_shows hsh (by decide : 1 < 2 ^ 8) (by decide : 0xFF < 2 ^ 8)
  refine runs_dev rfl ?_
  rw [onDev_congr (g := fun w => w.checksShown.swapRefuse 1 0xFF) hend]
  have hview : view noKinds allZones s.work.checksShown = view noKinds allZones s.work := by
    rw [Work.checksShown, view_wr _ _ _ _ _ mod_pgTWIN rfl, view_each _ _ _ fun v n =>
      (view_wr _ _ _ _ _ (mod_pgABC n) rfl).trans (view_wr _ _ _ _ _ (mod_pgABC n) rfl),
      view_wr _ _ _ _ _ mod_pgPKG rfl, view_wr _ _ _ _ _ mod_pgPKG rfl]
  refine ⟨?_, herr, hcause, hinfo, harmed, hchecking, hcount.trans ?_, ?_, ⟨rfl, rfl⟩, fun k hk => ?_⟩
  · rw [State.rd_onDev, rd_swapRefuse hsh (by decide), Work.refused, rd_wr_clear _ _ (by decide), rd_wr_clear _ _ (by decide),
      rd_wr_clear _ _ (by decide), rd_wr_clear _ _ (by decide), rd_wr_clear _ _ (by decide), rd_checksShown_crc]
  · rw [rd_checksShown_other _ (by decide) (by decide)]
    rfl
  · obtain ⟨e, he⟩ := swapRefuse_event (cause := 1) (info := 0xFF) hsh
    have hkept : s.work.checksShown.events = s.dev.events := same_of_view hview .events rfl
    have hev : (s.onDev fun w => w.checksShown.swapRefuse 1 0xFF).dev.events = s.dev.events ++ [e] := he.trans (congrArg (· ++ [e]) hkept)
    rw [hev, List.length_append]
    rfl
  · exact Kind.same_trans k (same_of_view hview k rfl) ((swapRefuse_alters hsh).kinds k hk)

/-- Every check passed: the swap stays armed, for D or the next tick. -/
def Work.checksPassed (w : Work) : Work := w.checksShown.modSwap fun x => { x with d := some (x.d.getD (t16 w.checksShown.now + tick16)) }

theorem checks_pass (hc : s.on pgPKG PKG_SWAP_STAT_CHECKING) (hnet : s.dev.net.swapFrom = none)
    (h1 : (s.work.wr pgPKG PKG_SWAP_CRC_CALC s.work.shadowCrc).checksStatic s.work.preview = none)
    (h2 : (s.work.wr pgPKG PKG_SWAP_CRC_CALC s.work.shadowCrc).checksLast s.work.preview = none) (ha : s.on pgPKG PKG_SWAP_STAT_ARMED) :
    Runs .swapChecksComplete s fun t =>
      t.rd pgPKG PKG_SWAP_CRC_CALC = s.work.shadowCrc ∧ t.rd pgPKG PKG_SWAP_STAT_ARMED = 1 ∧
      t.rd pgPKG PKG_SWAP_STAT_CHECKING = 0 ∧ t.dev.swap.d = some (s.dev.swap.d.getD (t16 s.tally.a + tick16)) ∧ KindsKeptBut [.swap] s t := by
  have hsh : s.work.checksShown.net.swapFrom = none := (congrArg (·.swapFrom) (checksShown_net s.work)).trans hnet
  have hstatic : s.work.checksShown.checksStatic s.work.preview = none := by
    rw [← h1]
    refine checksStatic_congr ?_ ?_
    · rw [rd_checksShown_crc, rd_wr_same _ _ _ _ _ (by decide)]
      exact (Nat.mod_eq_of_lt (crc32_lt _)).symm
    · rw [rd_checksShown_other _ (by decide) (by decide), rd_wr_clear _ _ (by decide)]
  have hlast : s.work.checksShown.checksLast s.work.preview = none := by
    rw [← h2]
    refine checksLast_congr ?_ ?_
    · rw [view_checksShown, view_wr _ _ _ _ _ mod_pgPKG (by rw [zone_pgPKG]; rfl)]
    · rw [rd_checksShown_other _ (by decide) (by decide), rd_wr_clear _ _ (by decide)]
  have hend : s.work.checksEnd = s.work.checksPassed := by
    rw [checksEnd_eq hc, hstatic, hlast, Option.none_or, checksVerdict_none, Work.checksPassed]
    exact swapReport_none (by rw [modSwap_net, hsh])
  have hview : view noKinds allZones s.work.checksShown = view noKinds allZones s.work := by
    rw [Work.checksShown, view_wr _ _ _ _ _ mod_pgTWIN rfl, view_each _ _ _ fun v n =>
      (view_wr _ _ _ _ _ (mod_pgABC n) rfl).trans (view_wr _ _ _ _ _ (mod_pgABC n) rfl),
      view_wr _ _ _ _ _ mod_pgPKG rfl, view_wr _ _ _ _ _ mod_pgPKG rfl]
  have hnow : s.work.checksShown.now = s.tally.a := now_of_view hview
  refine runs_dev rfl ?_
  rw [onDev_congr (g := Work.checksPassed) hend]
  refine ⟨?_, ?_, ?_, ?_, ⟨rfl, rfl⟩, fun k hk => ?_⟩
  · rw [State.rd_onDev, Work.checksPassed, rd_modSwap, rd_checksShown_crc]
  · rw [State.rd_onDev, Work.checksPassed, rd_modSwap, rd_checksShown_other _ (by decide) (by decide), State.rd_work]
    exact rd_flag_of_on rfl ha
  · rw [State.rd_onDev, Work.checksPassed, rd_modSwap, rd_checksShown, rd_wr_clear _ _ (by decide), rd_wr_same _ _ _ _ _ (by decide)]
    rfl
  · have hswap : s.work.checksShown.swap = s.dev.swap := same_of_view hview .swap rfl
    show some (s.work.checksShown.swap.d.getD (t16 s.work.checksShown.now + tick16)) = _
    rw [hswap, hnow]
  · have hpassed : view (fun k => decide (k = .swap)) allZones s.work.checksPassed = view (fun k => decide (k = .swap)) allZones s.work.checksShown :=
      view_modSwap _ _ rfl
    exact Kind.same_trans k (same_of_view hview k rfl) (same_of_view hpassed k (decide_eq_false fun e => hk (e ▸ List.mem_cons_self)))

end Sys2Proof.Machine
end

section
-- One task at a time: the check bounds the memory of all of Lean's threads together.
set_option Elab.async false
set_option linter.all false

/-! PROOF. Settles O28, its last part: the decision at D, refused or committed (R71 to R74, R87). -/

namespace Sys2Proof.Machine

variable {s : State} {w v : Work}

/-! ### The exchange of one part -/

/-- Every zone but the windows. -/
def offWindow : Zone → Bool := fun z => decide (z ≠ .window)

/-- A clean of pages leaves the windows, and every dword but STAT. -/
theorem cleanPages_window (w : Work) (p : Nat → Bool) {a : Nat} (ha : zoneOf a = .window) : (w.cleanPages p).word a = w.word a := by
  refine word_of_view (K := noKinds) (Z := offWindow) (view_cleanPages _ _ fun b _ hb => ?_) a (by rw [ha]; rfl)
  unfold shadowPage at hb
  split at hb
  · next k i hk =>
    rw [zoneOf, hk]
    rfl
  · exact absurd hb (by decide)

theorem cleanPages_shadow (w : Work) (p : Nat → Bool) (a : Nat) : (w.cleanPages p).shWord a = w.shWord a :=
  congrArg (cellsGet resetWord · a) (same_of_view (K := noKinds) (Z := allZones) (view_cleanPages _ _ fun _ _ _ => rfl) .shadow rfl)

/-- The two sets of the dwords that satisfy `p` after their exchange and a clean. -/
theorem exchanged_window (w : Work) (p : Nat → Bool) {a : Nat} (ha : zoneOf a = .window) :
    ((w.exchange p).cleanPages p).word a = if p a then swapBits a (w.word a) (w.shWord a) else w.word a :=
  (cleanPages_window _ _ ha).trans (exchange_words w p a).1

theorem exchanged_shadow (w : Work) (p : Nat → Bool) (a : Nat) :
    ((w.exchange p).cleanPages p).shWord a = if p a then swapBits a (w.shWord a) (w.word a) else w.shWord a :=
  (cleanPages_shadow _ _ _).trans (exchange_words w p a).2

/-- A dword without RWS bits. -/
theorem exchanged_plain (w : Work) (p : Nat → Bool) {a : Nat} (hm : rwsMask a = 0) (ha : a % 0x1000 ≠ 0xC) :
    ((w.exchange p).cleanPages p).word a = w.word a := by
  rw [word_cleanPages ha, (exchange_words w p a).1, swapBits_plain hm, ite_self]

theorem Work.SetsStand.shWord (h : w.SetsStand v) (a : Nat) : v.shWord a = w.shWord a := congrArg (cellsGet resetWord · a) h.shadow

/-- A register of the package page below the choppers'. -/
theorem Work.SetsStand.rd (h : w.SetsStand v) {f : Field} (hf : f.at 0 < 0x140) : v.rd pgPKG f = w.rd pgPKG f :=
  rd_congr (h.head _ (by rw [show pgPKG = 0 from rfl]; omega))

/-- SWAP_STAT and ACTIVE_CRC are in no set. -/
def swapShown : List Field := [PKG_SWAP_STAT_ARMED, PKG_SWAP_STAT_PENDING, PKG_SWAP_STAT_DONE, PKG_SWAP_STAT_ACTIVE_ID, PKG_SWAP_STAT_RG_DONE, PKG_ACTIVE_CRC]

theorem rd_exchanged (w : Work) (p : Nat → Bool) {f : Field} (hf : f ∈ swapShown) : ((w.exchange p).cleanPages p).rd pgPKG f = w.rd pgPKG f := by
  have hplain : ∀ g ∈ swapShown, rwsMask (pgPKG + g.at 0) = 0 ∧ (pgPKG + g.at 0) % 0x1000 ≠ 0xC := by decide
  exact rd_congr (exchanged_plain w p (hplain f hf).1 (hplain f hf).2)

theorem swapShown_head {f : Field} (hf : f ∈ swapShown) : f.at 0 < 0x140 := by
  revert f
  decide

/-! ### The package's exchange -/

theorem rd_exchangePackage (w : Work) {f : Field} (hf : f ∈ swapShown) : w.exchangePackage.rd pgPKG f = w.rd pgPKG f :=
  ((exchangePackage_follows w).rd (swapShown_head hf)).trans (rd_exchanged w inPackage hf)

theorem word_exchangePackage (w : Work) {a : Nat} (ha : zoneOf a = .window) :
    w.exchangePackage.word a = if inPackage a then swapBits a (w.word a) (w.shWord a) else w.word a :=
  ((exchangePackage_follows w).windows a ha).trans (exchanged_window w inPackage ha)

theorem shWord_exchangePackage (w : Work) (a : Nat) :
    w.exchangePackage.shWord a = if inPackage a then swapBits a (w.shWord a) (w.word a) else w.shWord a :=
  ((exchangePackage_follows w).shWord a).trans (exchanged_shadow w inPackage a)

/-- Every kind of state but Ember's, and every zone but the region pages. -/
def offEmber : Kind → Bool := fun k => decide (k ≠ .ember)
def offRegionPage : Zone → Bool := fun z => decide (z ≠ .page .rg)

theorem view_exchangePackage_rg (w : Work) : view offEmber offRegionPage w.exchangePackage = view offEmber offRegionPage w :=
  view_exchangePackage w rfl rfl rfl rfl rfl rfl rfl rfl rfl rfl rfl rfl rfl rfl rfl rfl rfl rfl rfl rfl rfl rfl rfl rfl rfl rfl rfl rfl

/-! ### A region's exchange -/

/-- A swap under way, or completed. -/
def Work.Concluding (w : Work) : Prop := w.rd pgPKG PKG_SWAP_STAT_PENDING = 1 ∨ w.rd pgPKG PKG_SWAP_STAT_PENDING = 0 ∧ w.rd pgPKG PKG_SWAP_STAT_DONE = 1

/-- The swap registers at its end. -/
def Work.finished (w : Work) : Work := (((w.wr pgPKG PKG_SWAP_STAT_PENDING 0).wr pgPKG PKG_SWAP_STAT_DONE 1).count pgPKG PKG_SWAP_COUNT).swapEvent true

theorem swapFinish_cases (w : Work) : w.swapFinish = w.finished ∧ w.rd pgPKG PKG_SWAP_STAT_RG_DONE = 0xF ∨
    w.swapFinish = w ∧ ¬ (w.on pgPKG PKG_SWAP_STAT_PENDING = true ∧ w.rd pgPKG PKG_SWAP_STAT_RG_DONE = 0xF) := by
  by_cases h : w.on pgPKG PKG_SWAP_STAT_PENDING = true ∧ w.rd pgPKG PKG_SWAP_STAT_RG_DONE = 0xF
  · exact .inl ⟨if_pos h, h.2⟩
  · exact .inr ⟨if_neg h, h⟩

theorem rd_finished (w : Work) {f : Field} (h1 : PKG_SWAP_STAT_PENDING.Clear 0 f 0) (h2 : PKG_SWAP_STAT_DONE.Clear 0 f 0)
    (h3 : PKG_SWAP_COUNT.Clear 0 f 0) : w.finished.rd pgPKG f = w.rd pgPKG f := by
  rw [Work.finished, rd_swapEvent, rd_count_clear _ _ h3, rd_wr_clear _ _ h2, rd_wr_clear _ _ h1]

theorem finished_concludes (w : Work) : w.finished.rd pgPKG PKG_SWAP_STAT_PENDING = 0 ∧ w.finished.rd pgPKG PKG_SWAP_STAT_DONE = 1 := by
  constructor
  · rw [Work.finished, rd_swapEvent, rd_count_clear _ _ (by decide), rd_wr_clear _ _ (by decide), rd_wr_same _ _ _ _ _ (by decide)]
    rfl
  · rw [Work.finished, rd_swapEvent, rd_count_clear _ _ (by decide), rd_wr_same _ _ _ _ _ (by decide)]
    rfl

/-- What a completion leaves of the swap registers. -/
theorem rd_swapFinish (w : Work) {f : Field} (h1 : PKG_SWAP_STAT_PENDING.Clear 0 f 0) (h2 : PKG_SWAP_STAT_DONE.Clear 0 f 0)
    (h3 : PKG_SWAP_COUNT.Clear 0 f 0) : w.swapFinish.rd pgPKG f = w.rd pgPKG f := by
  rcases swapFinish_cases w with ⟨h, -⟩ | ⟨h, -⟩ <;> rw [h]
  exact rd_finished w h1 h2 h3

theorem Work.Concluding.finish (h : w.Concluding) : w.swapFinish.Concluding := by
  rcases swapFinish_cases w with ⟨hf, -⟩ | ⟨hf, -⟩ <;> rw [hf]
  · exact .inr (finished_concludes w)
  · exact h

/-- With every region done the swap completes. -/
theorem Work.Concluding.done (h : w.Concluding) (hd : w.rd pgPKG PKG_SWAP_STAT_RG_DONE = 0xF) :
    w.swapFinish.rd pgPKG PKG_SWAP_STAT_PENDING = 0 ∧ w.swapFinish.rd pgPKG PKG_SWAP_STAT_DONE = 1 := by
  rcases swapFinish_cases w with ⟨hf, -⟩ | ⟨hf, hn⟩ <;> rw [hf]
  · exact finished_concludes w
  · refine h.resolve_left fun hp => hn ⟨?_, hd⟩
    rw [on_iff, hp]
    decide

/-- With a region still to exchange it does not. -/
theorem swapFinish_waits {n : Nat} (h : n < 4) (hn : (w.rd pgPKG PKG_SWAP_STAT_RG_DONE).testBit n = false) : w.swapFinish = w := by
  rcases swapFinish_cases w with ⟨-, hd⟩ | ⟨hf, -⟩
  · rw [hd, show (0xF : Nat) = 2 ^ 4 - 1 from rfl, Nat.testBit_two_pow_sub_one, decide_eq_true h] at hn
    exact absurd hn (by decide)
  · exact hf

theorem rd_setDone {n : Nat} {f : Field} (hf : PKG_SWAP_STAT_RG_DONE.Clear 0 f 0) : (w.setBit pgPKG PKG_SWAP_STAT_RG_DONE n).rd pgPKG f = w.rd pgPKG f := by
  unfold Work.setBit
  split
  · rfl
  · exact rd_wr_clear _ _ hf _

theorem rd_regionSets {n : Nat} (h : (w.regionSets n).SetsStand v) {f : Field} (hf : f ∈ swapShown) : v.rd pgPKG f = w.rd pgPKG f :=
  (h.rd (swapShown_head hf)).trans (rd_exchanged w (inRegion n) hf)

/-- Region `n` shows that it is done. -/
theorem testBit_exchangeRegion (w : Work) {n : Nat} (hn : n < 4) (k : Nat) : ((w.exchangeRegion n).rd pgPKG PKG_SWAP_STAT_RG_DONE).testBit k =
    ((w.rd pgPKG PKG_SWAP_STAT_RG_DONE).testBit k || decide (k = n)) := by
  obtain ⟨v, hv, hx⟩ := exchangeRegion_follows w n
  rw [hx, rd_swapFinish _ (by decide) (by decide) (by decide), testBit_setBit _ _ _ _ _ _ (by decide) hn, rd_regionSets hv (by decide)]

/-- ARMED, ACTIVE_ID and ACTIVE_CRC stand. -/
theorem rd_exchangeRegion (w : Work) (n : Nat) {f : Field} (hf : f ∈ [PKG_SWAP_STAT_ARMED, PKG_SWAP_STAT_ACTIVE_ID, PKG_ACTIVE_CRC]) :
    (w.exchangeRegion n).rd pgPKG f = w.rd pgPKG f := by
  have hclear : ∀ g ∈ [PKG_SWAP_STAT_ARMED, PKG_SWAP_STAT_ACTIVE_ID, PKG_ACTIVE_CRC], PKG_SWAP_STAT_PENDING.Clear 0 g 0 ∧ PKG_SWAP_STAT_DONE.Clear 0 g 0 ∧
      PKG_SWAP_COUNT.Clear 0 g 0 ∧ PKG_SWAP_STAT_RG_DONE.Clear 0 g 0 ∧ g ∈ swapShown := by decide
  obtain ⟨h1, h2, h3, h4, hshown⟩ := hclear f hf
  obtain ⟨v, hv, hx⟩ := exchangeRegion_follows w n
  rw [hx, rd_swapFinish _ h1 h2 h3, rd_setDone h4, rd_regionSets hv hshown]

theorem Work.Concluding.exchangeRegion (h : w.Concluding) (n : Nat) : (w.exchangeRegion n).Concluding := by
  obtain ⟨v, hv, hx⟩ := exchangeRegion_follows w n
  rw [hx]
  refine Work.Concluding.finish ?_
  unfold Work.Concluding
  rw [rd_setDone (by decide), rd_setDone (by decide), rd_regionSets hv (by decide), rd_regionSets hv (by decide)]
  exact h

/-- PENDING stays while another region has still to exchange. -/
theorem pending_exchangeRegion (w : Work) {n k : Nat} (hk : k < 4) (hn : n < 4) (hne : k ≠ n) (hd : (w.rd pgPKG PKG_SWAP_STAT_RG_DONE).testBit k = false) :
    (w.exchangeRegion n).rd pgPKG PKG_SWAP_STAT_PENDING = w.rd pgPKG PKG_SWAP_STAT_PENDING := by
  obtain ⟨v, hv, hx⟩ := exchangeRegion_follows w n
  have hbit : ((v.setBit pgPKG PKG_SWAP_STAT_RG_DONE n).rd pgPKG PKG_SWAP_STAT_RG_DONE).testBit k = false := by
    rw [testBit_setBit _ _ _ _ _ _ (by decide) hn, rd_regionSets hv (by decide), hd, decide_eq_false hne]
    rfl
  rw [hx, swapFinish_waits hk hbit, rd_setDone (by decide), rd_regionSets hv (by decide)]

/-- The event and the registers at a completion leave the sets. -/
theorem swapFinish_sets (w : Work) : w.swapFinish.shadow = w.shadow ∧ ∀ a, zoneOf a = .window → w.swapFinish.word a = w.word a :=
  have hview : view (fun k => decide (k = .events)) offWindow w.swapFinish = view (fun k => decide (k = .events)) offWindow w := view_swapFinish _ rfl rfl
  ⟨same_of_view hview .shadow rfl, fun a ha => word_of_view hview a (by rw [ha]; rfl)⟩

theorem setDone_sets (w : Work) (n : Nat) : (w.setBit pgPKG PKG_SWAP_STAT_RG_DONE n).shadow = w.shadow ∧
    ∀ a, zoneOf a = .window → (w.setBit pgPKG PKG_SWAP_STAT_RG_DONE n).word a = w.word a :=
  have hview : view noKinds offWindow (w.setBit pgPKG PKG_SWAP_STAT_RG_DONE n) = view noKinds offWindow w := view_setBit _ _ _ _ _ mod_pgPKG (by rw [zone_pgPKG]; rfl)
  ⟨same_of_view hview .shadow rfl, fun a ha => word_of_view hview a (by rw [ha]; rfl)⟩

theorem word_exchangeRegion (w : Work) (n : Nat) {a : Nat} (ha : zoneOf a = .window) :
    (w.exchangeRegion n).word a = if inRegion n a then swapBits a (w.word a) (w.shWord a) else w.word a := by
  obtain ⟨v, hv, hx⟩ := exchangeRegion_follows w n
  rw [hx, (swapFinish_sets _).2 a ha, (setDone_sets v n).2 a ha, hv.windows a ha]
  exact exchanged_window w (inRegion n) ha

theorem shWord_exchangeRegion (w : Work) (n a : Nat) :
    (w.exchangeRegion n).shWord a = if inRegion n a then swapBits a (w.shWord a) (w.word a) else w.shWord a := by
  obtain ⟨v, hv, hx⟩ := exchangeRegion_follows w n
  rw [hx, Work.shWord, (swapFinish_sets _).1, (setDone_sets v n).1, ← Work.shWord, hv.shWord]
  exact exchanged_shadow w (inRegion n) a

/-! ### A run of regions -/

theorem testBit_each {f : Work → Nat → Work} {l : List Nat} (hf : ∀ v, ∀ n ∈ l, ∀ k, ((f v n).rd pgPKG PKG_SWAP_STAT_RG_DONE).testBit k =
    ((v.rd pgPKG PKG_SWAP_STAT_RG_DONE).testBit k || decide (k = n))) (w : Work) (k : Nat) :
    ((w.each l f).rd pgPKG PKG_SWAP_STAT_RG_DONE).testBit k = ((w.rd pgPKG PKG_SWAP_STAT_RG_DONE).testBit k || decide (k ∈ l)) := by
  unfold Work.each
  induction l generalizing w with
  | nil => simp
  | cons n l ih =>
    rw [List.foldl_cons, ih fun v m hm => hf v m (List.mem_cons_of_mem _ hm), hf w n List.mem_cons_self]
    simp [Bool.or_assoc]

/-- A region that is not in the run keeps its sections, and one that is has them exchanged. -/
theorem each_exchangeRegion {l : List Nat} (hl : l.Nodup) {n a : Nat} (ha : zoneOf a = .window) (hin : ∀ m ∈ l, inRegion m a = decide (m = n)) (w : Work) :
    (w.each l Work.exchangeRegion).word a = if n ∈ l then swapBits a (w.word a) (w.shWord a) else w.word a := by
  unfold Work.each
  induction l generalizing w with
  | nil => rfl
  | cons m l ih =>
    obtain ⟨hml, hl⟩ := List.nodup_cons.1 hl
    rw [List.foldl_cons, ih hl (fun k hk => hin k (List.mem_cons_of_mem _ hk)), word_exchangeRegion _ _ ha, shWord_exchangeRegion, hin m List.mem_cons_self]
    by_cases hm : m = n
    · subst hm
      simp [hml]
    · simp [hm, Ne.symm hm]

/-- The windows outside the regions stand, and their shadow too. -/
theorem each_exchangeRegion_low {l : List Nat} {a : Nat} (ha : zoneOf a = .window) (hin : ∀ m, inRegion m a = false) (w : Work) :
    (w.each l Work.exchangeRegion).word a = w.word a ∧ (w.each l Work.exchangeRegion).shWord a = w.shWord a :=
  ⟨each_keeps (·.word a) _ _ _ fun v n => by rw [word_exchangeRegion _ _ ha, hin]; rfl,
    each_keeps (·.shWord a) _ _ _ fun v n => by rw [shWord_exchangeRegion, hin]; rfl⟩

end Sys2Proof.Machine
end

section
-- One task at a time: the check bounds the memory of all of Lean's threads together.
set_option Elab.async false
set_option linter.all false

/-! PROOF. Settles O28. -/

namespace Sys2Proof.Machine

variable {s : State} {w : Work}

/-! ### Where the entries of the sets lie -/

theorem zone_pdirAddr (l h : Nat) : zoneOf (pdirAddr l h) = .window := by
  have h1 : pdirAddr l h < 0x1000000 := by unfold pdirAddr; omega
  have h2 : 0x80000 ≤ pdirAddr l h ∧ pdirAddr l h < 0x82000 := by unfold pdirAddr; omega
  have hw : windowOf (pdirAddr l h) = some .pdirActive := by rw [windowOf, if_pos h1, if_pos h2]
  rw [zoneOf, pageOf_of_window hw]

theorem pdirAddr_package (l h : Nat) : inPackage (pdirAddr l h) = true := decide_eq_true (by unfold pdirAddr; omega)

theorem pdirAddr_region (l h m : Nat) : inRegion m (pdirAddr l h) = false := by
  rw [inRegion, decide_eq_false (by unfold rgBase pdirAddr; omega), Bool.false_and]

theorem secAddr_package (n k j : Nat) : inPackage (secAddr n k j) = false := decide_eq_false (by unfold secAddr rgBase; omega)

theorem secAddr_region {n m : Nat} (hn : n < 4) (hm : m < 4) (k j : Nat) : inRegion m (secAddr n k j) = decide (m = n) := by
  rw [inRegion, ← Bool.decide_and]
  refine decide_eq_decide.2 ⟨fun h => ?_, fun h => ?_⟩
  · unfold secAddr rgBase at h
    omega
  · unfold secAddr rgBase
    omega

/-! ### The commit (R73) -/

/-- The registers at the commit, before the exchange. -/
def Work.swapBegun (w : Work) : Work := (w.wr pgPKG PKG_SWAP_STAT_ARMED 0).wr pgPKG PKG_SWAP_STAT_PENDING 1
def Work.idToggled (w : Work) : Work := w.wr pgPKG PKG_SWAP_STAT_ACTIVE_ID (1 - w.rd pgPKG PKG_SWAP_STAT_ACTIVE_ID)
def Work.crcTaken (w : Work) : Work := w.wr pgPKG PKG_ACTIVE_CRC (w.rd pgPKG PKG_SWAP_CRC)
def Work.commitShown (w : Work) : Work := w.swapBegun.idToggled.crcTaken

/-- The marked regions need no exchange (R516). -/
def Work.marksDone (w : Work) : Work := w.each ((upto 4).filter w.marked) fun w n => w.setBit pgPKG PKG_SWAP_STAT_RG_DONE n

/-- The package's part of the commit. -/
def Work.packageDone (w : Work) : Work := w.commitShown.exchangePackage.marksDone

/-- The regions that exchange at D. -/
def Work.atD (w : Work) : List Nat := (upto 4).filter fun n => !w.marked n && !w.on (pgRG n) RG_CYC_CTL

/-- All of the commit but its completion. -/
def Work.exchangedAtD (w : Work) : Work := w.packageDone.each w.packageDone.atD Work.exchangeRegion

theorem view_wrPkg {K : Kind → Bool} {Z : Zone → Bool} (hz : Z (.page .pkg) = true) (w : Work) (f : Field) (x : Nat) :
    view K Z (w.wr pgPKG f x) = view K Z w := view_wr _ _ _ _ _ mod_pgPKG (by rw [zone_pgPKG, hz])

theorem view_commitShown {K : Kind → Bool} {Z : Zone → Bool} (hz : Z (.page .pkg) = true) (w : Work) : view K Z w.commitShown = view K Z w := by
  rw [Work.commitShown, Work.crcTaken, view_wrPkg hz, Work.idToggled, view_wrPkg hz, Work.swapBegun, view_wrPkg hz, view_wrPkg hz]

theorem view_marksDone {K : Kind → Bool} {Z : Zone → Bool} (hz : Z (.page .pkg) = true) (w : Work) : view K Z w.marksDone = view K Z w := by
  rw [Work.marksDone, view_each _ _ _ fun v n => view_setBit _ _ _ _ _ mod_pgPKG (by rw [zone_pgPKG, hz])]

theorem swapCommit_eq (h : w.net.swapFrom = none) : w.swapCommit = w.exchangedAtD.swapFinish := by
  have hnet : w.commitShown.net = w.net := same_of_view (K := noKinds) (Z := allZones) (view_commitShown rfl w) .net rfl
  have hreport : w.commitShown.swapReport 0x80 true = w.commitShown := swapReport_none (by rw [hnet, h])
  have hcommit : w.swapCommit = ((w.commitShown.swapReport 0x80 true).exchangePackage.marksDone.each
      (w.commitShown.swapReport 0x80 true).exchangePackage.marksDone.atD Work.exchangeRegion).swapFinish := rfl
  rw [hcommit, hreport, Work.exchangedAtD, Work.packageDone]

/-! ### The package's part -/

theorem view_packageDone (w : Work) : view offEmber offRegionPage w.packageDone = view offEmber offRegionPage w := by
  rw [Work.packageDone, view_marksDone rfl, view_exchangePackage_rg, view_commitShown rfl]

theorem marked_packageDone (w : Work) (n : Nat) : w.packageDone.marked n = w.marked n :=
  congrArg (fun e : EmberSt => bitOf e.marks n) (same_of_view (view_packageDone w) .ember rfl)

theorem atD_packageDone (w : Work) : w.packageDone.atD = w.atD := by
  have hon (n : Nat) : w.packageDone.on (pgRG n) RG_CYC_CTL = w.on (pgRG n) RG_CYC_CTL :=
    congrArg (· != 0) (rd_of_view (view_packageDone w) _ RG_CYC_CTL 0 (mod_pgRG n) (by rw [zone_pgRG]; rfl))
  refine List.filter_congr fun n _ => ?_
  rw [marked_packageDone, hon]

theorem rd_marksDone (w : Work) {f : Field} (hf : PKG_SWAP_STAT_RG_DONE.Clear 0 f 0) : w.marksDone.rd pgPKG f = w.rd pgPKG f :=
  each_keeps (·.rd pgPKG f) _ _ _ fun v n => rd_setDone hf

theorem rd_packageDone (w : Work) {f : Field} (hf : f ∈ swapShown) (hd : PKG_SWAP_STAT_RG_DONE.Clear 0 f 0) :
    w.packageDone.rd pgPKG f = w.commitShown.rd pgPKG f := by
  rw [Work.packageDone, rd_marksDone _ hd, rd_exchangePackage _ hf]

theorem testBit_packageDone (w : Work) (k : Nat) : (w.packageDone.rd pgPKG PKG_SWAP_STAT_RG_DONE).testBit k =
    ((w.rd pgPKG PKG_SWAP_STAT_RG_DONE).testBit k || decide (k < 4 ∧ w.marked k = true)) := by
  have hmarked : w.commitShown.exchangePackage.marked = w.marked := by
    have hview : view offEmber offRegionPage w.commitShown.exchangePackage = view offEmber offRegionPage w := by
      rw [view_exchangePackage_rg, view_commitShown rfl]
    funext n
    exact congrArg (fun e : EmberSt => bitOf e.marks n) (same_of_view hview .ember rfl)
  have hshown : w.commitShown.rd pgPKG PKG_SWAP_STAT_RG_DONE = w.rd pgPKG PKG_SWAP_STAT_RG_DONE := by
    rw [Work.commitShown, Work.crcTaken, rd_wr_clear _ _ (by decide), Work.idToggled, rd_wr_clear _ _ (by decide), Work.swapBegun,
      rd_wr_clear _ _ (by decide), rd_wr_clear _ _ (by decide)]
  have hset : ∀ v : Work, ∀ n ∈ (upto 4).filter w.marked, ∀ k, ((v.setBit pgPKG PKG_SWAP_STAT_RG_DONE n).rd pgPKG PKG_SWAP_STAT_RG_DONE).testBit k =
      ((v.rd pgPKG PKG_SWAP_STAT_RG_DONE).testBit k || decide (k = n)) := fun v n hn k =>
    testBit_setBit _ _ _ _ _ _ (by decide) (List.mem_range.1 (List.mem_filter.1 hn).1)
  have hmem : k ∈ (upto 4).filter w.marked ↔ k < 4 ∧ w.marked k = true := by rw [List.mem_filter, upto, List.mem_range]
  rw [Work.packageDone, Work.marksDone, hmarked, testBit_each hset, rd_exchangePackage _ (by decide), hshown, decide_eq_decide.2 hmem]

theorem word_packageDone (w : Work) {a : Nat} (ha : zoneOf a = .window) :
    w.packageDone.word a = (if inPackage a then swapBits a (w.word a) (w.shWord a) else w.word a) ∧
    w.packageDone.shWord a = if inPackage a then swapBits a (w.shWord a) (w.word a) else w.shWord a := by
  have hmarks : view noKinds offWindow w.commitShown.exchangePackage.marksDone = view noKinds offWindow w.commitShown.exchangePackage := view_marksDone rfl _
  have hshown : view noKinds offWindow w.commitShown = view noKinds offWindow w := view_commitShown rfl w
  have hz : offWindow (zoneOf a) = false := by rw [ha]; rfl
  have hword : w.commitShown.word a = w.word a := word_of_view hshown a hz
  have hsh : w.commitShown.shWord a = w.shWord a := congrArg (cellsGet resetWord · a) (same_of_view hshown .shadow rfl)
  constructor
  · rw [Work.packageDone, word_of_view hmarks a hz, word_exchangePackage _ ha, hword, hsh]
  · rw [Work.packageDone, Work.shWord, same_of_view hmarks .shadow rfl, ← Work.shWord, shWord_exchangePackage, hword, hsh]

/-! ### The regions' part -/

theorem mem_atD {n : Nat} : n ∈ w.atD ↔ n < 4 ∧ w.marked n = false ∧ w.on (pgRG n) RG_CYC_CTL = false := by
  rw [Work.atD, List.mem_filter, upto, List.mem_range, Bool.and_eq_true, Bool.not_eq_true', Bool.not_eq_true']

theorem atD_nodup (w : Work) : w.atD.Nodup := List.Nodup.filter _ List.nodup_range

theorem exchangedAtD_eq (w : Work) : w.exchangedAtD = w.packageDone.each w.atD Work.exchangeRegion := by
  rw [Work.exchangedAtD, atD_packageDone]

theorem rd_exchangedAtD (w : Work) {f : Field} (hf : f ∈ [PKG_SWAP_STAT_ARMED, PKG_SWAP_STAT_ACTIVE_ID, PKG_ACTIVE_CRC]) :
    w.exchangedAtD.rd pgPKG f = w.commitShown.rd pgPKG f := by
  have hclear : ∀ g ∈ [PKG_SWAP_STAT_ARMED, PKG_SWAP_STAT_ACTIVE_ID, PKG_ACTIVE_CRC], g ∈ swapShown ∧ PKG_SWAP_STAT_RG_DONE.Clear 0 g 0 := by decide
  rw [Work.exchangedAtD, ← rd_packageDone w (hclear f hf).1 (hclear f hf).2]
  exact each_keeps (·.rd pgPKG f) _ _ _ fun v n => rd_exchangeRegion v n hf

theorem testBit_exchangedAtD (w : Work) (k : Nat) : (w.exchangedAtD.rd pgPKG PKG_SWAP_STAT_RG_DONE).testBit k =
    ((w.rd pgPKG PKG_SWAP_STAT_RG_DONE).testBit k || decide (k < 4 ∧ w.marked k = true) || decide (k ∈ w.atD)) := by
  rw [exchangedAtD_eq, testBit_each fun v n hn k => testBit_exchangeRegion v (mem_atD.1 hn).1 k, testBit_packageDone]

/-- A section before the completion. -/
theorem sec_exchangedAtD (w : Work) (n : Fin 4) (k j : Nat) : w.exchangedAtD.word (secAddr n k j) =
    if n.val ∈ w.atD then swapBits (secAddr n k j) (w.word (secAddr n k j)) (w.shWord (secAddr n k j)) else w.word (secAddr n k j) := by
  obtain ⟨hword, hsh⟩ := word_packageDone w (zone_secAddr n k j)
  rw [secAddr_package] at hword hsh
  rw [exchangedAtD_eq, each_exchangeRegion (atD_nodup w) (n := n) (zone_secAddr n k j) fun m hm => secAddr_region n.isLt (mem_atD.1 hm).1 k j, hword, hsh]
  rfl

/-- An entry of the point directory before the completion. -/
theorem pdir_exchangedAtD (w : Work) (l h : Nat) : w.exchangedAtD.word (pdirAddr l h) = swapBits (pdirAddr l h) (w.word (pdirAddr l h)) (w.shWord (pdirAddr l h)) ∧
    w.exchangedAtD.shWord (pdirAddr l h) = swapBits (pdirAddr l h) (w.shWord (pdirAddr l h)) (w.word (pdirAddr l h)) := by
  obtain ⟨hword, hsh⟩ := word_packageDone w (zone_pdirAddr l h)
  obtain ⟨hkeep, hkeepSh⟩ := each_exchangeRegion_low (l := w.atD) (zone_pdirAddr l h) (pdirAddr_region l h) w.packageDone
  rw [pdirAddr_package] at hword hsh
  rw [exchangedAtD_eq, hkeep, hkeepSh, hword, hsh]
  exact ⟨rfl, rfl⟩

theorem commitShown_pending (w : Work) : w.commitShown.rd pgPKG PKG_SWAP_STAT_PENDING = 1 := by
  rw [Work.commitShown, Work.crcTaken, rd_wr_clear _ _ (by decide), Work.idToggled, rd_wr_clear _ _ (by decide), Work.swapBegun,
    rd_wr_same _ _ _ _ _ (by decide)]
  rfl

theorem packageDone_pending (w : Work) : w.packageDone.rd pgPKG PKG_SWAP_STAT_PENDING = 1 :=
  (rd_packageDone w (by decide) (by decide)).trans (commitShown_pending w)

theorem exchangedAtD_concluding (w : Work) : w.exchangedAtD.Concluding :=
  each_closed (P := Work.Concluding) (fun _ n h => h.exchangeRegion n) (.inl (packageDone_pending w))

/-- PENDING stays while a region that cycles has still to exchange. -/
theorem exchangedAtD_waits (w : Work) {n : Nat} (hn : n < 4) (hd : (w.rd pgPKG PKG_SWAP_STAT_RG_DONE).testBit n = false)
    (hm : w.marked n = false) (hl : n ∉ w.atD) : w.exchangedAtD.swapFinish.rd pgPKG PKG_SWAP_STAT_PENDING = 1 := by
  have hbit : (w.exchangedAtD.rd pgPKG PKG_SWAP_STAT_RG_DONE).testBit n = false := by
    rw [testBit_exchangedAtD, hd, decide_eq_false hl, decide_eq_false (by simp [hm])]
    rfl
  have hbegin : (w.packageDone.rd pgPKG PKG_SWAP_STAT_RG_DONE).testBit n = false := by
    rw [testBit_packageDone, hd, decide_eq_false (by simp [hm])]
    rfl
  rw [swapFinish_waits hn hbit, exchangedAtD_eq]
  refine (each_relates (R := fun x y => (x.rd pgPKG PKG_SWAP_STAT_RG_DONE).testBit n = false →
    (y.rd pgPKG PKG_SWAP_STAT_RG_DONE).testBit n = false ∧ y.rd pgPKG PKG_SWAP_STAT_PENDING = 1 ∨ x.rd pgPKG PKG_SWAP_STAT_PENDING ≠ 1)
    ?_ ?_ ?_ w.packageDone hbegin).elim (·.2) fun h => absurd (packageDone_pending w) h
  · intro x hx
    by_cases hp : x.rd pgPKG PKG_SWAP_STAT_PENDING = 1
    · exact .inl ⟨hx, hp⟩
    · exact .inr hp
  · intro x y z hxy hyz hx
    rcases hxy hx with ⟨hy, hp⟩ | hp
    · exact .inl ((hyz hy).resolve_right fun h => h hp)
    · exact .inr hp
  · intro x m hmem hx
    have hne : n ≠ m := fun e => hl (e ▸ hmem)
    have hlt := (mem_atD.1 hmem).1
    by_cases hp : x.rd pgPKG PKG_SWAP_STAT_PENDING = 1
    · refine .inl ⟨?_, (pending_exchangeRegion x hn hlt hne hx).trans hp⟩
      rw [testBit_exchangeRegion x hlt, hx, decide_eq_false hne]
      rfl
    · exact .inr hp

/-- With no region cycling, every region is done. -/
theorem exchangedAtD_all (w : Work) (h : ∀ n : Fin 4, w.on (pgRG n) RG_CYC_CTL = false) : w.exchangedAtD.rd pgPKG PKG_SWAP_STAT_RG_DONE = 0xF := by
  have hfull : ∀ x < 16, (∀ k < 4, x.testBit k = true) → x = 0xF := by decide
  refine hfull _ (rd_lt w.exchangedAtD pgPKG PKG_SWAP_STAT_RG_DONE 0) fun k hk => ?_
  rw [testBit_exchangedAtD]
  by_cases hm : w.marked k = true
  · rw [decide_eq_true ⟨hk, hm⟩, Bool.or_true, Bool.true_or]
  · rw [decide_eq_true (mem_atD.2 ⟨hk, Bool.not_eq_true _ ▸ hm, h ⟨k, hk⟩⟩), Bool.or_true]

/-! ### The decision -/

theorem swapDecide_checking (ha : s.on pgPKG PKG_SWAP_STAT_ARMED) (hc : s.on pgPKG PKG_SWAP_STAT_CHECKING) : s.work.swapDecide = s.work.swapRefuse 11 0xFF := by
  rw [← State.on_work] at ha hc
  exact (if_pos ha).trans (if_pos hc)

theorem decision_refused (ha : s.on pgPKG PKG_SWAP_STAT_ARMED) (hnet : s.dev.net.swapFrom = none) (hc : s.on pgPKG PKG_SWAP_STAT_CHECKING) :
    Runs .swapDecision s fun t =>
      t.rd pgPKG PKG_SWAP_STAT_SWAP_ERR = 1 ∧ t.rd pgPKG PKG_SWAP_STAT_ERR_CAUSE = 0x0B ∧ t.rd pgPKG PKG_SWAP_STAT_ARMED = 0 ∧
      t.rd pgPKG PKG_SWAP_REFUSED = min (s.rd pgPKG PKG_SWAP_REFUSED + 1) PKG_SWAP_REFUSED.max ∧
      Changes [.events] [pgPKG + PKG_SWAP_STAT_ARMED.at 0, pgPKG + PKG_SWAP_REFUSED.at 0] s t := by
  obtain ⟨herr, hcause, -, harmed, -, hcount⟩ := swapRefuse_shows (w := s.work) hnet (by decide : 11 < 2 ^ 8) (by decide : 0xFF < 2 ^ 8)
  have hdecide := swapDecide_checking ha hc
  refine runs_dev rfl ?_
  rw [onDev_congr (g := fun w => w.swapRefuse 11 0xFF) hdecide]
  exact ⟨herr, hcause, harmed, hcount, (swapRefuse_alters (w := s.work) hnet).changes⟩

theorem swapDecide_commits (ha : s.on pgPKG PKG_SWAP_STAT_ARMED) (hnet : s.dev.net.swapFrom = none) (hc : ¬ s.on pgPKG PKG_SWAP_STAT_CHECKING)
    (h : s.work.checksLast s.work.preview = none) : s.work.swapDecide = s.work.exchangedAtD.swapFinish := by
  rw [← State.on_work] at ha hc
  have hverdict : s.work.swapVerdict none = s.work.swapCommit := rfl
  refine ((if_pos ha).trans (if_neg hc)).trans ?_
  rw [h, hverdict, swapCommit_eq hnet]

theorem decision_commits (ha : s.on pgPKG PKG_SWAP_STAT_ARMED) (hnet : s.dev.net.swapFrom = none) (hc : ¬ s.on pgPKG PKG_SWAP_STAT_CHECKING)
    (h : s.work.checksLast s.work.preview = none) : Runs .swapDecision s fun t =>
      t.rd pgPKG PKG_SWAP_STAT_ACTIVE_ID = 1 - s.rd pgPKG PKG_SWAP_STAT_ACTIVE_ID ∧
      t.rd pgPKG PKG_ACTIVE_CRC = s.rd pgPKG PKG_SWAP_CRC ∧ t.rd pgPKG PKG_SWAP_STAT_ARMED = 0 ∧
      (∀ (l : Fin 1024) (h : Fin 2), t.word (pdirAddr l h) &&& rwsMask (pdirAddr l h) = s.work.shWord (pdirAddr l h) &&& rwsMask (pdirAddr l h) ∧
        t.work.shWord (pdirAddr l h) &&& rwsMask (pdirAddr l h) = s.word (pdirAddr l h) &&& rwsMask (pdirAddr l h)) ∧
      (s.rd pgPKG PKG_SWAP_STAT_RG_DONE = 0 → ∀ n : Fin 4, ¬ s.work.marked n → ∀ (k : Fin 1024) (j : Fin 16),
        (s.on (pgRG n) RG_CYC_CTL → t.word (secAddr n k j) = s.word (secAddr n k j)) ∧
        (¬ s.on (pgRG n) RG_CYC_CTL → t.word (secAddr n k j) &&& rwsMask (secAddr n k j) = s.work.shWord (secAddr n k j) &&& rwsMask (secAddr n k j))) ∧
      (s.rd pgPKG PKG_SWAP_STAT_RG_DONE = 0 → (∃ n : Fin 4, s.on (pgRG n) RG_CYC_CTL ∧ ¬ s.work.marked n) →
        t.rd pgPKG PKG_SWAP_STAT_PENDING = 1) ∧
      ((∀ n : Fin 4, ¬ s.on (pgRG n) RG_CYC_CTL) → s.rd pgPKG PKG_SWAP_STAT_PENDING = 0 → t.rd pgPKG PKG_SWAP_STAT_PENDING = 0 ∧
        t.rd pgPKG PKG_SWAP_STAT_DONE = 1 ∧ t.rd pgPKG PKG_SWAP_STAT_RG_DONE = 0xF) ∧ TimeKept s t := by
  have hdecide := swapDecide_commits ha hnet hc h
  refine runs_dev rfl ?_
  rw [onDev_congr (g := fun w => w.exchangedAtD.swapFinish) hdecide]
  have hword {a : Nat} (hz : zoneOf a = .window) : (s.onDev fun w => w.exchangedAtD.swapFinish).word a = s.work.exchangedAtD.word a :=
    (swapFinish_sets _).2 a hz
  refine ⟨?_, ?_, ?_, fun l i => ⟨?_, ?_⟩, fun _ n hm k j => ⟨fun hon => ?_, fun hoff => ?_⟩, fun hd => ?_, fun hoff _ => ⟨?_, ?_, ?_⟩, ⟨rfl, rfl⟩⟩
  · rw [State.rd_onDev, rd_swapFinish _ (by decide) (by decide) (by decide), rd_exchangedAtD _ (by decide), Work.commitShown, Work.crcTaken,
      rd_wr_clear _ _ (by decide), Work.idToggled, rd_wr_same _ _ _ _ _ (by decide), Work.swapBegun, rd_wr_clear _ _ (by decide),
      rd_wr_clear _ _ (by decide), State.rd_work]
    exact Nat.mod_eq_of_lt (Nat.lt_of_le_of_lt (Nat.sub_le 1 _) (by decide))
  · rw [State.rd_onDev, rd_swapFinish _ (by decide) (by decide) (by decide), rd_exchangedAtD _ (by decide), Work.commitShown, Work.crcTaken,
      rd_wr_same _ _ _ _ _ (by decide), Work.idToggled, rd_wr_clear _ _ (by decide), Work.swapBegun, rd_wr_clear _ _ (by decide),
      rd_wr_clear _ _ (by decide), State.rd_work]
    exact Nat.mod_eq_of_lt (rd_lt s.work pgPKG PKG_SWAP_CRC 0)
  · rw [State.rd_onDev, rd_swapFinish _ (by decide) (by decide) (by decide), rd_exchangedAtD _ (by decide), Work.commitShown, Work.crcTaken,
      rd_wr_clear _ _ (by decide), Work.idToggled, rd_wr_clear _ _ (by decide), Work.swapBegun, rd_wr_clear _ _ (by decide),
      rd_wr_same _ _ _ _ _ (by decide)]
    rfl
  · rw [hword (zone_pdirAddr l i), (pdir_exchangedAtD s.work l i).1, swapBits_rws]
  · have hsh : s.work.exchangedAtD.swapFinish.shWord (pdirAddr l i) = s.work.exchangedAtD.shWord (pdirAddr l i) :=
      congrArg (cellsGet resetWord · (pdirAddr l i)) (swapFinish_sets _).1
    show s.work.exchangedAtD.swapFinish.shWord (pdirAddr l i) &&& _ = s.work.word (pdirAddr l i) &&& _
    rw [hsh, (pdir_exchangedAtD s.work l i).2, swapBits_rws]
  · rw [← State.on_work] at hon
    rw [hword (zone_secAddr n k j), sec_exchangedAtD, if_neg fun hmem => ?_]
    · rfl
    · rw [(mem_atD.1 hmem).2.2] at hon
      exact absurd hon (by decide)
  · rw [← State.on_work, Bool.not_eq_true] at hoff
    rw [Bool.not_eq_true] at hm
    rw [hword (zone_secAddr n k j), sec_exchangedAtD, if_pos (mem_atD.2 ⟨n.isLt, hm, hoff⟩), swapBits_rws]
  · rintro ⟨n, hon, hm⟩
    rw [← State.on_work] at hon
    rw [Bool.not_eq_true] at hm
    refine exchangedAtD_waits s.work n.isLt (by rw [State.rd_work, hd]; exact Nat.zero_testBit _) hm fun hmem => ?_
    rw [(mem_atD.1 hmem).2.2] at hon
    exact absurd hon (by decide)
  all_goals
    have hall : s.work.exchangedAtD.rd pgPKG PKG_SWAP_STAT_RG_DONE = 0xF := exchangedAtD_all _ fun n => by
      rw [← Bool.not_eq_true, State.on_work]
      exact hoff n
  · exact ((exchangedAtD_concluding s.work).done hall).1
  · exact ((exchangedAtD_concluding s.work).done hall).2
  · rw [State.rd_onDev, rd_swapFinish _ (by decide) (by decide) (by decide), hall]

/-- Settles O28: the exchange of a dword is an exchange of its RWS bits, and what follows from it in the package and in each region stands
clear of the sets and of the swap registers. DISARM with nothing armed is the model's choice (log entry 58). -/
theorem swapArmedCheckedAndDecided : Obligations.SwapArmedCheckedAndDecided :=
  ⟨fun _ hf => ⟨swapArm_arms hf, swapArm_ignored hf, swapDisarm_takes hf, swapDisarm_ignored hf⟩,
    fun _ hc hnet => ⟨checks_differ hc hnet, checks_pass hc hnet⟩,
    fun _ ha hnet => ⟨decision_refused ha hnet, decision_commits ha hnet⟩⟩

end Sys2Proof.Machine
end

section
-- One task at a time: the check bounds the memory of all of Lean's threads together.
set_option Elab.async false
set_option linter.all false

/-! SUPPORT. The sealed dwords (R403, R409) and what the end of a sealed update leaves of them, of the Hearth's other registers, and of
the package page. -/

namespace Sys2Proof.Machine

variable {w v u : Work}

/-! ### Sealed dwords -/

/-- No register of the package page is sealed. -/
theorem sealMask_pkg {a : Nat} (h : zoneOf a = .page .pkg) : sealMask a = 0 := by
  have hnone : ∀ f ∈ hdrFields ++ blockFields .pkg, f.acc ≠ .seal := by decide +kernel
  obtain ⟨i, hp⟩ := pageOf_of_zone h
  unfold sealMask
  rw [hp]
  refine BitVec.eq_of_getLsbD_eq fun j _ => ?_
  rw [show (0 : Word).getLsbD j = false from BitVec.getLsbD_zero, Bool.eq_false_iff]
  intro hj
  obtain ⟨e, he, -⟩ := (getLsbD_maskAt _ _ _ _).1 hj
  obtain ⟨hin, hacc⟩ := mem_accAt.1 he
  have hm := (mem_fieldsAt.1 hin).1
  refine hnone e.1 (List.mem_append.2 ?_) hacc
  split at hm
  · exact .inl hm
  · exact .inr hm

theorem sealDwords_zone : ∀ a ∈ sealDwords, zoneOf a = .page .hrt ∨ zoneOf a = .page .hrt1 := by decide

/-- The registers that the end of an update writes beside the sealed dwords. -/
def updRegs : List Nat := [pgHRT + HRT_HSTAT_LEVEL.at 0, pgHRT + HRT_SUPD_STAT_BUSY.at 0, pgHRT + HRT_SUPD_COUNT.at 0, pgHRT + HRT_TABLE_CRC.at 0,
  pgHRT + HRT_ASH_SEQ.at 0, pgHRT1 + HRT1_RT_ACT.at 0, pgHRT1 + HRT1_RT_HELD.at 0]

theorem sealDwords_apart : ∀ a ∈ sealDwords, a ∉ updRegs := by decide

theorem sealDwords_nodup : sealDwords.Nodup := by
  have htable : (List.range 64).map (fun i => pgHRT1 + 0x40 + 4 * i) |>.Nodup := List.Nodup.map (fun i j h => by simpa using h) List.nodup_range
  refine List.Nodup.append (by decide) htable fun a h1 h2 => ?_
  obtain ⟨i, -, rfl⟩ := List.mem_map.1 h2
  simp only [List.mem_cons, List.not_mem_nil, or_false, pgHRT, pgHRT1] at h1
  omega

/-- The sealed dwords stand. -/
def Work.SealStands (w v : Work) : Prop := ∀ a ∈ sealDwords, v.word a = w.word a

namespace Work.SealStands

theorem refl (w : Work) : w.SealStands w := fun _ _ => rfl

theorem trans (h : w.SealStands v) (g : v.SealStands u) : w.SealStands u := fun a ha => (g a ha).trans (h a ha)

theorem wr (h : w.SealStands v) {pg : Nat} {f : Field} {x : Nat} (hf : pg + f.at 0 ∈ updRegs) : w.SealStands (v.wr pg f x) :=
  h.trans fun a ha => word_wr_ne _ _ _ _ _ _ fun e => sealDwords_apart a ha (e ▸ hf)

theorem clrBit (h : w.SealStands v) {pg : Nat} {f : Field} {b : Nat} (hf : pg + f.at 0 ∈ updRegs) : w.SealStands (v.clrBit pg f b) :=
  h.trans fun a ha => word_clrBit_ne _ _ _ _ _ _ fun e => sealDwords_apart a ha (e ▸ hf)

theorem same (h : w.SealStands v) (g : v.SameHearth u) : w.SealStands u := h.trans fun a ha => g.words a (sealDwords_zone a ha)

theorem hearthShow (h : w.SealStands v) : w.SealStands v.hearthShow := by
  have hpins : w.SealStands v.pinsShow := h.trans fun a _ => by
    have hpin (u : Work) (n : String) (x y : Bool) : (u.pinTo n x y).word a = u.word a := by
      unfold Work.pinTo
      split <;> rfl
    unfold Work.pinsShow
    dsimp only
    split
    · exact hpin ..
    · exact (hpin ..).trans (hpin ..)
  exact SealStands.same (SealStands.wr ((((((hpins.wr (by decide)).wr (by decide)).wr (by decide)).wr (by decide)).wr (by decide)).wr (by decide)) (by decide))
    (hearthShow_tail v)

theorem ash (h : w.SealStands v) (r : AshRec) : w.SealStands (v.ash r) := (h.wr (by decide)).same (ash_same v r)

theorem tableCrc (h : w.SealStands v) : v.tableCrc = w.tableCrc := by
  unfold Work.tableCrc
  refine congrArg crc32 (List.flatMap_congr fun a ha => ?_)
  rw [h a ha]

end Work.SealStands

/-! ### Loading the records (R405, R409) -/

/-- The sealed bits at `e` take the record's. -/
def Work.loadWord (w : Work) (e : Nat × Word) : Work := w.put e.1 ((w.word e.1 &&& ~~~(sealMask e.1)) ||| (e.2 &&& sealMask e.1))

theorem word_loadWord_ne {e : Nat × Word} {a : Nat} (h : a ≠ e.1) : (w.loadWord e).word a = w.word a := word_put_ne _ _ _ _ h

theorem loadWord_seal (w : Work) (e : Nat × Word) : (w.loadWord e).word e.1 &&& sealMask e.1 = e.2 &&& sealMask e.1 := by
  rw [Work.loadWord, word_put, if_pos rfl, merge_masked]

theorem each_loadWord_ne {l : List (Nat × Word)} {a : Nat} (h : a ∉ l.map Prod.fst) (w : Work) : (w.each l Work.loadWord).word a = w.word a :=
  each_relates (R := fun x y => y.word a = x.word a) (fun _ => rfl) (fun h g => g.trans h)
    (fun x e he => word_loadWord_ne fun hae => h (List.mem_map.2 ⟨e, he, hae.symm⟩)) w

/-- Each record of a list without repetitions gives its dword. -/
theorem each_loadWord {l : List (Nat × Word)} (hl : (l.map Prod.fst).Nodup) {e : Nat × Word} (he : e ∈ l) (w : Work) :
    (w.each l Work.loadWord).word e.1 &&& sealMask e.1 = e.2 &&& sealMask e.1 := by
  induction l generalizing w with
  | nil => exact absurd he List.not_mem_nil
  | cons d l ih =>
    obtain ⟨hd, hl⟩ := List.nodup_cons.1 hl
    rcases List.mem_cons.1 he with rfl | he
    · exact (congrArg (· &&& sealMask e.1) (each_loadWord_ne hd (w.loadWord e))).trans (loadWord_seal w e)
    · exact ih hl he (w.loadWord d)

/-- A table in the right format names every sealed dword once, and nothing else (R405). -/
theorem sealFormat_records {q : List (Nat × Word) × Bool} (h : sealFormat q = true) :
    (q.1.map Prod.fst).Nodup ∧ (∀ e ∈ q.1, e.1 ∈ sealDwords) ∧ ∀ e ∈ q.1, e.2 &&& sealMask e.1 = e.2 := by
  rw [sealFormat, Bool.and_eq_true, Bool.and_eq_true, Bool.and_eq_true, beq_iff_eq, List.all_eq_true, List.all_eq_true] at h
  obtain ⟨⟨⟨-, hlen⟩, hall⟩, hbits⟩ := h
  have hsub : sealDwords ⊆ q.1.map Prod.fst := fun a ha => by
    obtain ⟨e, he, hea⟩ := List.any_eq_true.1 (hall a ha)
    exact List.mem_map.2 ⟨e, he, beq_iff_eq.1 hea⟩
  have hperm : sealDwords.Perm (q.1.map Prod.fst) :=
    (List.subperm_of_subset sealDwords_nodup hsub).perm_of_length_le (by rw [List.length_map, hlen])
  refine ⟨hperm.nodup_iff.1 sealDwords_nodup, fun e he => hperm.mem_iff.2 (List.mem_map.2 ⟨e, he, rfl⟩), fun e he => ?_⟩
  have hclear : e.2 &&& ~~~(sealMask e.1) = 0 := beq_iff_eq.1 (hbits e he)
  calc e.2 &&& sealMask e.1 = (e.2 &&& sealMask e.1) ||| (e.2 &&& ~~~(sealMask e.1)) := by rw [hclear]; exact (BitVec.or_zero).symm
    _ = e.2 := by rw [← BitVec.and_or_distrib_left, BitVec.or_not_self, BitVec.and_allOnes]

/-- The table takes the records. -/
def Work.tableLoaded (w : Work) (l : List (Nat × Word)) : Work := w.each (l.filter fun e => sealDwords.contains e.1) Work.loadWord

theorem tableLoaded_other (w : Work) (l : List (Nat × Word)) {a : Nat} (ha : a ∉ sealDwords) : (w.tableLoaded l).word a = w.word a := by
  refine each_loadWord_ne (fun h => ha ?_) w
  obtain ⟨e, he, rfl⟩ := List.mem_map.1 h
  exact List.contains_iff_mem.1 (List.mem_filter.1 he).2

/-- The Hearth's pages HRT and HRT1. -/
def onHrtPages : Zone → Bool := fun z => decide (z ∈ [.page .hrt, .page .hrt1])

theorem view_tableLoaded (w : Work) (l : List (Nat × Word)) : view noKinds onHrtPages (w.tableLoaded l) = view noKinds onHrtPages w := by
  refine view_each_mem _ _ _ fun v e he => view_put _ _ _ ?_
  rcases sealDwords_zone e.1 (List.contains_iff_mem.1 (List.mem_filter.1 he).2) with h | h <;> rw [h] <;> rfl

/-- The records of a sound table stand in it. -/
theorem tableLoaded_seal {q : List (Nat × Word) × Bool} (h : sealFormat q = true) (w : Work) :
    ∀ e ∈ q.1, (w.tableLoaded q.1).word e.1 &&& sealMask e.1 = e.2 := by
  obtain ⟨hnodup, hin, hbits⟩ := sealFormat_records h
  have hfilter : (q.1.filter fun e => sealDwords.contains e.1) = q.1 := List.filter_eq_self.2 fun e he => List.contains_iff_mem.2 (hin e he)
  intro e he
  rw [Work.tableLoaded, hfilter, each_loadWord hnodup he, hbits e he]

end Sys2Proof.Machine
end

section
-- One task at a time: the check bounds the memory of all of Lean's threads together.
set_option Elab.async false
set_option linter.all false

/-! PROOF. Settles O34: the sealed update. -/

namespace Sys2Proof.Machine

variable {s : State} {w v : Work}

/-! ### Its start (R404) -/

theorem rd_imgTaken (img : BitVec 8) (w : Work) :
    ((w.wr pgHRT HRT_SUPD_CTL_IMG img.toNat).wr pgHRT HRT_SUPD_STAT_BUSY 1).rd pgHRT HRT_SUPD_CTL_IMG = img.toNat := by
  rw [rd_wr_clear _ _ (by decide), rd_wr_same _ _ _ _ _ (by decide)]
  exact Nat.mod_eq_of_lt img.isLt

theorem supdGo_idle (h : ¬ s.on pgHRT HRT_SUPD_STAT_BUSY) (img : Nat) :
    s.work.supdGo img = (s.work.unlocked pgHRT fun w => w.wr pgHRT HRT_SUPD_CTL_IMG img).wr pgHRT HRT_SUPD_STAT_BUSY 1 := by
  rw [← State.on_work] at h
  exact if_neg h

theorem supd_starts (hr : s.reaches (pgHRT + HRT_SUPD_CTL_GO.at 0)) (img : BitVec 8) (hb : ¬ s.on pgHRT HRT_SUPD_STAT_BUSY)
    (hl : ¬ s.on pgHRT HDR_LOCK_LOCKED) : Runs (.sealedUpdateGo img) s fun t =>
      t.rd pgHRT HRT_SUPD_CTL_IMG = img.toNat ∧ t.rd pgHRT HRT_SUPD_STAT_BUSY = 1 ∧
      OnlyDwords [pgHRT + HRT_SUPD_CTL_IMG.at 0, pgHRT + HRT_SUPD_STAT_BUSY.at 0] s t := by
  rw [← State.on_work] at hl
  have hopen : (s.work.unlocked pgHRT fun w => w.wr pgHRT HRT_SUPD_CTL_IMG img.toNat) = s.work.wr pgHRT HRT_SUPD_CTL_IMG img.toNat := if_neg hl
  have hgo : s.work.supdGo img.toNat = (s.work.wr pgHRT HRT_SUPD_CTL_IMG img.toNat).wr pgHRT HRT_SUPD_STAT_BUSY 1 := by rw [supdGo_idle hb, hopen]
  refine runs_hostAct rfl hr ?_
  rw [onDev_congr (g := fun w => (w.wr pgHRT HRT_SUPD_CTL_IMG img.toNat).wr pgHRT HRT_SUPD_STAT_BUSY 1) hgo]
  exact ⟨rd_imgTaken img s.work, rd_wr_same _ _ _ _ _ (by decide), ((Work.Alters.refl.wr (by decide)).wr (by decide)).changes⟩

theorem supd_locked (hr : s.reaches (pgHRT + HRT_SUPD_CTL_GO.at 0)) (img : BitVec 8) (hb : ¬ s.on pgHRT HRT_SUPD_STAT_BUSY)
    (hl : s.on pgHRT HDR_LOCK_LOCKED) : Runs (.sealedUpdateGo img) s fun t =>
      t.rd pgHRT HDR_STAT_LOCK_WR = 1 ∧ t.rd pgHRT HRT_SUPD_STAT_BUSY = 1 ∧
      OnlyDwords [pgHRT + HDR_STAT_LOCK_WR.at 0, pgHRT + HRT_SUPD_STAT_BUSY.at 0] s t := by
  rw [← State.on_work] at hl
  have hshut : (s.work.unlocked pgHRT fun w => w.wr pgHRT HRT_SUPD_CTL_IMG img.toNat) = s.work.wr pgHRT HDR_STAT_LOCK_WR 1 := if_pos hl
  have hgo : s.work.supdGo img.toNat = (s.work.wr pgHRT HDR_STAT_LOCK_WR 1).wr pgHRT HRT_SUPD_STAT_BUSY 1 := by rw [supdGo_idle hb, hshut]
  refine runs_hostAct rfl hr ?_
  rw [onDev_congr (g := fun w => (w.wr pgHRT HDR_STAT_LOCK_WR 1).wr pgHRT HRT_SUPD_STAT_BUSY 1) hgo]
  exact ⟨(rd_wr_clear _ _ (by decide) _).trans (rd_wr_same _ _ _ _ _ (by decide)), rd_wr_same _ _ _ _ _ (by decide),
    ((Work.Alters.refl.wr (by decide)).wr (by decide)).changes⟩

theorem supd_busy (hr : s.reaches (pgHRT + HRT_SUPD_CTL_GO.at 0)) (img : BitVec 8) (hb : s.on pgHRT HRT_SUPD_STAT_BUSY) :
    Runs (.sealedUpdateGo img) s fun t => t.rd pgHRT HDR_STAT_BADVAL = 1 ∧ OnlyDwords [pgHRT + HDR_STAT_BADVAL.at 0] s t := by
  rw [← State.on_work] at hb
  have hgo : s.work.supdGo img.toNat = s.work.badval pgHRT := if_pos hb
  refine runs_hostAct rfl hr ?_
  rw [onDev_congr (g := fun w => w.badval pgHRT) hgo]
  exact ⟨rd_wr_same _ _ _ _ _ (by decide), (Work.Alters.refl.badval (by decide)).changes⟩

/-! ### The reading of the image (R388) -/

/-- The image of the update under way. -/
def Work.supdImage (w : Work) : List Byte := w.sealImage (w.rd pgHRT HRT_SUPD_CTL_IMG)

/-- The update is over, and its image has been read. -/
def Work.imageRead (w : Work) : Work := (w.wr pgHRT HRT_SUPD_STAT_BUSY 0).dramUse (blockAt (w.rd pgHRT HRT_SUPD_CTL_IMG)) w.supdImage.length

theorem view_dramUse_dram (w : Work) (a n : Nat) : view dramErrKinds (fun z => decide (z = .page .pkg)) (w.dramUse a n) =
    view dramErrKinds (fun z => decide (z = .page .pkg)) w := view_each _ _ _ fun _ e => view_memErr_dram _ e.2 .double

theorem word_imageRead (w : Work) {a : Nat} (h1 : zoneOf a ≠ .page .pkg) (h2 : a ≠ pgHRT + HRT_SUPD_STAT_BUSY.at 0) : w.imageRead.word a = w.word a :=
  (word_of_view (view_dramUse_dram _ _ _) a (decide_eq_false h1)).trans (word_wr_ne _ _ _ _ _ _ h2)

theorem rd_imageRead (w : Work) (f : Field) : w.imageRead.rd pgHRT f = (w.wr pgHRT HRT_SUPD_STAT_BUSY 0).rd pgHRT f :=
  rd_of_view (view_dramUse_dram _ _ _) pgHRT f 0 mod_pgHRT (by rw [zone_pgHRT]; rfl)

theorem imageRead_kinds (w : Work) (k : Kind) (hk : dramErrKinds k = false) : k.same w.toDev w.imageRead.toDev :=
  same_of_view (view_dramUse_dram (w.wr pgHRT HRT_SUPD_STAT_BUSY 0) _ _) k hk

/-- The checks of R405 read none of what the reading writes. -/
theorem supdFail_imageRead (w : Work) (bs : List Byte) : w.imageRead.supdFail bs = w.supdFail bs := by
  have hother (pg : Nat) (hp : pg % 0x1000 = 0) (h1 : zoneOf pg ≠ .page .pkg) (h2 : zoneOf pg ≠ .page .hrt) (f : Field) :
      w.imageRead.rd pg f = w.rd pg f := by
    have hz := zoneOf_field pg f 0 hp
    refine rd_congr (word_imageRead w (by rw [hz]; exact h1) fun e => h2 ?_)
    rw [← hz, e, zoneOf_field _ _ _ mod_pgHRT, zone_pgHRT]
  have hclu (c : Nat) : w.imageRead.cstate c = w.cstate c := hother _ (mod_pgCLU c) (by rw [zone_pgCLU]; decide) (by rw [zone_pgCLU]; decide) _
  have hpkg : w.imageRead.pkgNo = w.pkgNo := hother _ mod_pgCSTORE (by rw [zone_pgCSTORE]; decide) (by rw [zone_pgCSTORE]; decide) _
  have hsec : w.imageRead.sec = w.sec := imageRead_kinds w .sec rfl
  have hidle : w.imageRead.allIdle = w.allIdle := by
    unfold Work.allIdle
    simp only [hclu]
  unfold Work.supdFail Work.keyOpen Work.sealAuth
  rw [hidle, hsec, hpkg]

theorem supdEnd_eq (h : s.on pgHRT HRT_SUPD_STAT_BUSY) :
    s.work.supdEnd = s.work.imageRead.supdVerdict s.work.supdImage (s.work.supdFail s.work.supdImage) := by
  rw [← State.on_work] at h
  have himg : (s.work.wr pgHRT HRT_SUPD_STAT_BUSY 0).rd pgHRT HRT_SUPD_CTL_IMG = s.work.rd pgHRT HRT_SUPD_CTL_IMG := rd_wr_clear _ _ (by decide) _
  have hend : s.work.supdEnd =
      ((s.work.wr pgHRT HRT_SUPD_STAT_BUSY 0).dramUse (blockAt ((s.work.wr pgHRT HRT_SUPD_STAT_BUSY 0).rd pgHRT HRT_SUPD_CTL_IMG))
        (s.work.sealImage ((s.work.wr pgHRT HRT_SUPD_STAT_BUSY 0).rd pgHRT HRT_SUPD_CTL_IMG)).length).supdVerdict
      (s.work.sealImage ((s.work.wr pgHRT HRT_SUPD_STAT_BUSY 0).rd pgHRT HRT_SUPD_CTL_IMG))
      (((s.work.wr pgHRT HRT_SUPD_STAT_BUSY 0).dramUse (blockAt ((s.work.wr pgHRT HRT_SUPD_STAT_BUSY 0).rd pgHRT HRT_SUPD_CTL_IMG))
        (s.work.sealImage ((s.work.wr pgHRT HRT_SUPD_STAT_BUSY 0).rd pgHRT HRT_SUPD_CTL_IMG)).length).supdFail
        (s.work.sealImage ((s.work.wr pgHRT HRT_SUPD_STAT_BUSY 0).rd pgHRT HRT_SUPD_CTL_IMG))) := if_pos h
  rw [hend, himg]
  exact congrArg (s.work.imageRead.supdVerdict s.work.supdImage) (supdFail_imageRead ..)

/-! ### A refused image -/

/-- The refusal of an image, with its cause. -/
def Work.imageRefused (w : Work) (cause : Nat) : Work := (w.imageRead.wr pgHRT HRT_SUPD_STAT_ERR 1).wr pgHRT HRT_SUPD_STAT_ERR_CAUSE cause

theorem imageRefused_seal (w : Work) (cause : Nat) {a : Nat} (ha : sealMask a ≠ 0) : (w.imageRefused cause).word a = w.word a := by
  have hstat : sealMask (pgHRT + HRT_SUPD_STAT_BUSY.at 0) = 0 := by decide
  have hne : a ≠ pgHRT + HRT_SUPD_STAT_BUSY.at 0 := fun e => ha (e ▸ hstat)
  have herr : a ≠ pgHRT + HRT_SUPD_STAT_ERR.at 0 := hne
  have hcause : a ≠ pgHRT + HRT_SUPD_STAT_ERR_CAUSE.at 0 := hne
  rw [Work.imageRefused, word_wr_ne _ _ _ _ _ _ hcause, word_wr_ne _ _ _ _ _ _ herr, word_imageRead _ (fun e => ha (sealMask_pkg e)) hne]

/-- With no bad word in the DRAM its reading writes nothing. -/
theorem imageRead_sound (h : ∀ e ∈ w.bad, e.1 ≠ 6) : w.imageRead = w.wr pgHRT HRT_SUPD_STAT_BUSY 0 := by
  have hbad : (w.wr pgHRT HRT_SUPD_STAT_BUSY 0).bad = w.bad := rfl
  have hnone (p q : Nat × Nat → Bool) : (w.bad.filter fun e => e.1 == 6 && p e && q e) = [] := List.filter_eq_nil_iff.2 fun e he => by simp [h e he]
  rw [Work.imageRead, Work.dramUse, hbad, hnone]
  rfl

theorem supd_refused (hb : s.on pgHRT HRT_SUPD_STAT_BUSY) (cause : Nat) (hc : cause < 16)
    (hf : s.work.supdFail s.work.supdImage = some cause) : Runs .sealedUpdateDone s fun t =>
      t.rd pgHRT HRT_SUPD_STAT_BUSY = 0 ∧ t.rd pgHRT HRT_SUPD_STAT_ERR = 1 ∧ t.rd pgHRT HRT_SUPD_STAT_ERR_CAUSE = cause ∧
      (∀ a, sealMask a ≠ 0 → t.word a = s.word a) ∧
      ((∀ e ∈ s.dev.bad, e.1 ≠ 6) → OnlyDwords [pgHRT + HRT_SUPD_STAT_BUSY.at 0] s t) := by
  have hverdict (v : Work) (bs : List Byte) : v.supdVerdict bs (some cause) = (v.wr pgHRT HRT_SUPD_STAT_ERR 1).wr pgHRT HRT_SUPD_STAT_ERR_CAUSE cause := rfl
  have hend : s.work.supdEnd = s.work.imageRefused cause := by rw [supdEnd_eq hb, hf, hverdict, Work.imageRefused]
  refine runs_dev rfl ?_
  rw [onDev_congr (g := fun w => w.imageRefused cause) hend]
  refine ⟨?_, ?_, ?_, fun a ha => imageRefused_seal s.work cause ha, fun hs => ?_⟩
  · rw [State.rd_onDev, Work.imageRefused, rd_wr_clear _ _ (by decide), rd_wr_clear _ _ (by decide), rd_imageRead, rd_wr_same _ _ _ _ _ (by decide)]
    rfl
  · rw [State.rd_onDev, Work.imageRefused, rd_wr_clear _ _ (by decide), rd_wr_same _ _ _ _ _ (by decide)]
    rfl
  · rw [State.rd_onDev, Work.imageRefused, rd_wr_same _ _ _ _ _ (by decide)]
    exact Nat.mod_eq_of_lt (Nat.lt_trans hc (by decide))
  · have halters : s.work.Alters [] [pgHRT + HRT_SUPD_STAT_BUSY.at 0] (s.work.imageRefused cause) := by
      rw [Work.imageRefused, imageRead_sound hs]
      exact ((Work.Alters.refl.wr (by decide)).wr (by decide)).wr (by decide)
    exact halters.changes

/-! ### An image that passes -/

/-- The table as loaded, with its CRC. -/
def Work.tableSealed (w : Work) (l : List (Nat × Word)) : Work := (w.tableLoaded l).wr pgHRT HRT_TABLE_CRC (w.tableLoaded l).tableCrc

/-- The entry `e` of the table. -/
def Work.entryWords (w : Work) (e : Nat) : Word × Word := (w.word (pgHRT1 + 0x40 + 8 * e), w.word (pgHRT1 + 0x44 + 8 * e))

/-- The conditions of the changed entries are judged anew. -/
def Work.judgedAnew (w : Work) (old : List (Word × Word)) : Work :=
  w.each ((upto 32).filter fun e => old.getD e (0, 0) != w.entryWords e) fun w e => w.clrBit pgHRT1 HRT1_RT_ACT e

/-- The table's entries judged, and the update shown as done. -/
def Work.updateDone (w : Work) (l : List (Nat × Word)) : Work :=
  ((w.tableSealed l).judgedAnew ((upto 32).map w.entryWords)).wr pgHRT HRT_SUPD_STAT_DONE 1

/-- The update counts. -/
def Work.updated (w : Work) (l : List (Nat × Word)) : Work := (w.updateDone l).count pgHRT HRT_SUPD_COUNT

theorem supdVerdict_none (w : Work) (bs : List Byte) : ∃ r, w.supdVerdict bs none = (w.updated (sealRecords bs).1).hearthShow.ash r := ⟨_, rfl⟩

/-- A register of HRT through the end of an update. -/
theorem rd_updateDone (w : Work) (l : List (Nat × Word)) {f : Field} (h0 : pgHRT + f.at 0 ∉ sealDwords) (h1 : HRT_TABLE_CRC.Clear 0 f 0)
    (h2 : HRT_SUPD_STAT_DONE.Clear 0 f 0) : (w.updateDone l).rd pgHRT f = w.rd pgHRT f := by
  have hclr (v : Work) (b : Nat) : (v.clrBit pgHRT1 HRT1_RT_ACT b).rd pgHRT f = v.rd pgHRT f := by
    have hlt := f.at_lt 0
    have hact : HRT1_RT_ACT.at 0 = 0x200 := rfl
    exact rd_congr (word_clrBit_ne _ _ _ _ _ _ (by unfold pgHRT pgHRT1; omega))
  rw [Work.updateDone, rd_wr_clear _ _ h2, Work.judgedAnew, each_keeps (·.rd pgHRT f) _ _ _ fun v e => hclr v e, Work.tableSealed, rd_wr_clear _ _ h1]
  exact rd_congr (tableLoaded_other w l h0)

theorem rd_updated (w : Work) (l : List (Nat × Word)) {f : Field} (h0 : pgHRT + f.at 0 ∉ sealDwords) (h1 : HRT_TABLE_CRC.Clear 0 f 0)
    (h2 : HRT_SUPD_STAT_DONE.Clear 0 f 0) (h3 : HRT_SUPD_COUNT.Clear 0 f 0) : (w.updated l).rd pgHRT f = w.rd pgHRT f := by
  rw [Work.updated, rd_count_clear _ _ h3, rd_updateDone _ _ h0 h1 h2]

/-- The sealed dwords are those of the records. -/
theorem updated_seal (w : Work) (l : List (Nat × Word)) : (w.tableLoaded l).SealStands (w.updated l) := by
  have hsealed : (w.tableLoaded l).SealStands (w.tableSealed l) := (Work.SealStands.refl _).wr (by decide)
  have hjudged : (w.tableLoaded l).SealStands ((w.tableSealed l).judgedAnew ((upto 32).map w.entryWords)) :=
    each_closed (P := (w.tableLoaded l).SealStands) (fun v e hv => hv.clrBit (by decide)) hsealed
  exact (hjudged.wr (by decide)).wr (by decide)

theorem view_updated (w : Work) (l : List (Nat × Word)) : view noKinds onHrtPages (w.updated l) = view noKinds onHrtPages w := by
  have hz : onHrtPages (zoneOf pgHRT) = true := by rw [zone_pgHRT]; rfl
  rw [Work.updated, view_count _ _ _ _ _ mod_pgHRT hz, Work.updateDone, view_wr _ _ _ _ _ mod_pgHRT hz, Work.judgedAnew,
    view_each _ _ _ fun v e => view_clrBit _ _ _ _ _ mod_pgHRT1 (by rw [zone_pgHRT1]; rfl), Work.tableSealed, view_wr _ _ _ _ _ mod_pgHRT hz, view_tableLoaded]

theorem supdFail_none {bs : List Byte} (h : w.supdFail bs = none) : sealFormat (sealRecords bs) = true := by
  unfold Work.supdFail at h
  split_ifs at h with _ _ _ hf
  simpa using hf

/-- TABLE_CRC before the Hearth shows anything. -/
theorem updated_crc (w : Work) (l : List (Nat × Word)) : (w.updated l).rd pgHRT HRT_TABLE_CRC = (w.tableLoaded l).tableCrc := by
  have hclr (v : Work) (b : Nat) : (v.clrBit pgHRT1 HRT1_RT_ACT b).rd pgHRT HRT_TABLE_CRC = v.rd pgHRT HRT_TABLE_CRC :=
    rd_congr (word_clrBit_ne _ _ _ _ _ _ (by decide))
  rw [Work.updated, rd_count_clear _ _ (by decide), Work.updateDone, rd_wr_clear _ _ (by decide), Work.judgedAnew,
    each_keeps (·.rd pgHRT HRT_TABLE_CRC) _ _ _ fun v e => hclr v e, Work.tableSealed, rd_wr_same _ _ _ _ _ (by decide)]
  exact Nat.mod_eq_of_lt (crc32_lt _)

theorem supd_loads (hb : s.on pgHRT HRT_SUPD_STAT_BUSY) (hf : s.work.supdFail s.work.supdImage = none) : Runs .sealedUpdateDone s fun t =>
    t.rd pgHRT HRT_SUPD_STAT_BUSY = 0 ∧ t.rd pgHRT HRT_SUPD_STAT_DONE = 1 ∧
    t.rd pgHRT HRT_SUPD_COUNT = min (s.rd pgHRT HRT_SUPD_COUNT + 1) HRT_SUPD_COUNT.max ∧
    (∀ e ∈ (sealRecords s.work.supdImage).1, t.word e.1 &&& sealMask e.1 = e.2) ∧
    t.rd pgHRT HRT_TABLE_CRC = t.work.tableCrc ∧ t.dev.hearth.held = s.dev.hearth.held ∧
    t.rd pgHRT HRT_ASH_SEQ = (if s.rd pgHRT HRT_ASH_SEQ + 1 = 2 ^ 32 then 1 else s.rd pgHRT HRT_ASH_SEQ + 1) ∧ TimeKept s t := by
  obtain ⟨r, hr⟩ := supdVerdict_none s.work.imageRead s.work.supdImage
  have hend : s.work.supdEnd = (s.work.imageRead.updated (sealRecords s.work.supdImage).1).hearthShow.ash r := by rw [supdEnd_eq hb, hf, hr]
  have hseal : (s.work.imageRead.tableLoaded (sealRecords s.work.supdImage).1).SealStands
      ((s.work.imageRead.updated (sealRecords s.work.supdImage).1).hearthShow.ash r) :=
    (Work.SealStands.hearthShow (updated_seal _ _)).ash r
  have hheld : (s.work.imageRead.updated (sealRecords s.work.supdImage).1).hearth.held = s.dev.hearth.held := by
    have hupd : (s.work.imageRead.updated (sealRecords s.work.supdImage).1).hearth = s.work.imageRead.hearth := same_of_view (view_updated ..) .hearth rfl
    have hread : s.work.imageRead.hearth = s.work.hearth := imageRead_kinds s.work .hearth rfl
    rw [hupd, hread]
    rfl
  refine runs_dev rfl ?_
  rw [onDev_congr (g := fun w => (w.imageRead.updated (sealRecords w.supdImage).1).hearthShow.ash r) hend]
  refine ⟨?_, ?_, ?_, fun e he => ?_, ?_, ?_, ?_, ⟨rfl, rfl⟩⟩
  · rw [State.rd_onDev, rd_ash_clear (by decide), rd_hearthShow_other (by decide), rd_updated _ _ (by decide) (by decide) (by decide) (by decide), rd_imageRead,
      rd_wr_same _ _ _ _ _ (by decide)]
    rfl
  · rw [State.rd_onDev, rd_ash_clear (by decide), rd_hearthShow_other (by decide), Work.updated, rd_count_clear _ _ (by decide), Work.updateDone,
      rd_wr_same _ _ _ _ _ (by decide)]
    rfl
  · rw [State.rd_onDev, rd_ash_clear (by decide), rd_hearthShow_other (by decide), Work.updated, rd_count _ _ _ _ _ (by decide),
      rd_updateDone _ _ (by decide) (by decide) (by decide), rd_imageRead, rd_wr_clear _ _ (by decide), State.rd_work]
  · have hin := (sealFormat_records (supdFail_none hf)).2.1 e he
    have hword : (s.onDev fun w => (w.imageRead.updated (sealRecords w.supdImage).1).hearthShow.ash r).word e.1 =
        (s.work.imageRead.tableLoaded (sealRecords s.work.supdImage).1).word e.1 := hseal e.1 hin
    rw [hword, tableLoaded_seal (supdFail_none hf) _ e he]
  · have hcrc : (s.onDev fun w => (w.imageRead.updated (sealRecords w.supdImage).1).hearthShow.ash r).work.tableCrc =
        (s.work.imageRead.tableLoaded (sealRecords s.work.supdImage).1).tableCrc := hseal.tableCrc
    rw [hcrc, State.rd_onDev, rd_ash_clear (by decide), rd_hearthShow_other (by decide), updated_crc]
  · show ((s.work.imageRead.updated (sealRecords s.work.supdImage).1).hearthShow.ash r).hearth.held = _
    rw [ash_hearth, hearthShow_held, hheld]
  · rw [State.rd_onDev, rd_ash_seq, rd_hearthShow_other (by decide), rd_updated _ _ (by decide) (by decide) (by decide) (by decide), rd_imageRead,
      rd_wr_clear _ _ (by decide), State.rd_work, nextSeq]

/-! ### Bad words of the image (R388) -/

theorem hearthShow_parts (w : Work) : ∃ g : Nat → Lane → Lane, w.hearthShow =
    ((w.hstatShow.wr pgHRT1 HRT1_RT_HELD (rtHeld w.hearth.held)).each (upto 48) fun v c => v.modLn c (g c)).chopHearth.tripShow := ⟨_, rfl⟩

theorem view_pinsShow (w : Work) : view offShadow offSets w.pinsShow = view offShadow offSets w := by
  have hpin (u : Work) (n : String) (x y : Bool) : view offShadow offSets (u.pinTo n x y) = view offShadow offSets u := by
    unfold Work.pinTo
    split
    · rfl
    · exact view_emit _ _ rfl
  unfold Work.pinsShow
  dsimp only
  split
  · exact hpin ..
  · exact (view_modHearth _ _ rfl).trans ((hpin ..).trans (hpin ..))

theorem Work.SetsStand.chopHearth (h : w.SetsStand v) : w.SetsStand v.chopHearth := by
  refine h.each fun u n hu => ?_
  have hset (f : ChopSt → ChopSt) (x : Nat) : w.SetsStand ((u.wr pgPKG PKG_CHOP_STAT_HRT_CTL x n).modChop n f) :=
    (hu.wrPkg (f := PKG_CHOP_STAT_HRT_CTL) (Work.SetsStand.chopStat_at n)).other (view_modChop _ _ _ rfl)
  dsimp only
  split
  · exact (hset _ _).chopEval ..
  · exact hset ..

/-- What the Hearth shows stands clear of the package page below the choppers' registers. -/
theorem Work.SetsStand.hearthShow (h : w.SetsStand v) : w.SetsStand v.hearthShow := by
  obtain ⟨g, hg⟩ := hearthShow_parts v
  have hz : offSets (zoneOf pgHRT) = true := by rw [zone_pgHRT]; rfl
  rw [hg]
  refine Work.SetsStand.other (Work.SetsStand.chopHearth (h.other ?_)) (view_tripShow _ rfl rfl rfl rfl rfl rfl)
  rw [view_each _ _ _ fun u c => view_modLn u c _ rfl, view_wr _ _ _ _ _ mod_pgHRT1 (by rw [zone_pgHRT1]; rfl), Work.hstatShow,
    view_wr _ _ _ _ _ mod_pgHRT hz, view_wr _ _ _ _ _ mod_pgHRT hz, view_wr _ _ _ _ _ mod_pgHRT hz, view_wr _ _ _ _ _ mod_pgHRT hz,
    view_wr _ _ _ _ _ mod_pgHRT hz, view_wr _ _ _ _ _ mod_pgHRT hz, view_pinsShow]

/-- The fault of an uncorrectable error of the DRAM stands. -/
def Work.DramFlagged (w : Work) : Prop := w.rd pgPKG HDR_FLT_UC = 1 ∧ (w.rd pgPKG HDR_FLT_CAUSE).testBit (22 - 16) = true

theorem memErr_flags (w : Work) (k : Nat) : (w.memErr .dram k .double).DramFlagged := by
  have hword : (w.memErr .dram k .double).word (pgPKG + 0x010) = ((w.eccLast 6 k true).flt pgPKG .uc 22).word (pgPKG + 0x010) := rfl
  constructor
  · rw [rd_congr (v := (w.eccLast 6 k true).flt pgPKG .uc 22) hword]
    exact rd_flt_class _ _ .uc _ _
  · rw [rd_congr (v := (w.eccLast 6 k true).flt pgPKG .uc 22) hword, cause_flt _ _ _ _ _ _ (by decide) (by decide)]
    simp

/-- A bad word of the image is reported. -/
theorem imageRead_flags {e : Nat × Nat} (he : e ∈ w.bad) (h6 : e.1 = 6) (h1 : blockAt (w.rd pgHRT HRT_SUPD_CTL_IMG) < 8 * e.2 + 8)
    (h2 : 8 * e.2 < blockAt (w.rd pgHRT HRT_SUPD_CTL_IMG) + w.supdImage.length) : w.imageRead.DramFlagged := by
  refine each_sets (a := e) (List.mem_filter.2 ⟨he, ?_⟩) (fun v => memErr_flags v _) (fun v d _ => memErr_flags v _) _
  rw [h6, decide_eq_true h2, decide_eq_true h1]
  rfl

theorem Work.DramFlagged.stands (h : w.DramFlagged) (hv : w.SetsStand v) : v.DramFlagged := by
  unfold Work.DramFlagged at h ⊢
  rw [hv.rd (by decide), hv.rd (by decide)]
  exact h

theorem updated_sets (w : Work) (l : List (Nat × Word)) : w.SetsStand (w.updated l) := by
  have hview := view_updated w l
  exact ⟨same_of_view hview .shadow rfl, fun a ha => word_of_view hview a (by rw [ha]; rfl),
    fun a ha => word_of_view hview a (by rw [zone_pkgHead (by omega)]; rfl)⟩

/-- The verdict leaves the report standing. -/
theorem verdict_sets (w : Work) (bs : List Byte) (r : Option Nat) : w.SetsStand (w.supdVerdict bs r) := by
  have hz : offSets (zoneOf pgHRT) = true := by rw [zone_pgHRT]; rfl
  cases r with
  | none =>
    obtain ⟨r, hr⟩ := supdVerdict_none w bs
    rw [hr]
    exact (updated_sets w _).hearthShow.other (view_ash _ _ rfl rfl rfl rfl)
  | some c => exact (Work.SetsStand.refl w).other ((view_wr _ _ _ _ _ mod_pgHRT hz).trans (view_wr _ _ _ _ _ mod_pgHRT hz))

theorem supd_reports (e : Nat × Nat) (he : e ∈ s.dev.bad) (h6 : e.1 = 6) (h1 : blockAt (s.rd pgHRT HRT_SUPD_CTL_IMG) < 8 * e.2 + 8)
    (h2 : 8 * e.2 < blockAt (s.rd pgHRT HRT_SUPD_CTL_IMG) + (s.work.sealImage (s.rd pgHRT HRT_SUPD_CTL_IMG)).length)
    (hb : s.on pgHRT HRT_SUPD_STAT_BUSY) : Runs .sealedUpdateDone s fun t => t.flagged pgPKG .uc 22 ∧ TimeKept s t := by
  have hflags : s.work.supdEnd.DramFlagged := by
    rw [supdEnd_eq hb]
    exact (imageRead_flags (w := s.work) he h6 h1 h2).stands (verdict_sets ..)
  exact runs_dev rfl ⟨hflags, ⟨rfl, rfl⟩⟩

theorem supd_idle (h : ¬ s.on pgHRT HRT_SUPD_STAT_BUSY) : Runs .sealedUpdateDone s fun t => t = s := by
  rw [← State.on_work] at h
  exact runs_dev rfl (onDev_self (if_neg h))

/-- Settles O34: a table in the right format names every sealed dword once, and what follows its loading touches none of them. That the
end of an update reports the bad words of its image, and judges the checks then, is the model's choice (log entries 72 and 136). -/
theorem sealedUpdateChecked : Obligations.SealedUpdateChecked :=
  fun _ => ⟨fun hr img => ⟨supd_starts hr img, supd_locked hr img, supd_busy hr img⟩, supd_refused, supd_loads, supd_reports, supd_idle⟩

end Sys2Proof.Machine
end

section
-- One task at a time: the check bounds the memory of all of Lean's threads together.
set_option Elab.async false
set_option linter.all false

/-! SUPPORT. A fault below FATAL, a forced safe action of a cluster in service (R248), and the timer of pre-charge (R252). -/

namespace Sys2Proof.Machine

variable {w v u : Work}

/-! ### A fault below FATAL -/

/-- It writes FLT of its page, and otherwise only reports and interrupts. -/
theorem view_flt_soft {K : Kind → Bool} {Z : Zone → Bool} {pg bit : Nat} {cls : FaultClass} {info : Word} (hc : cls ≠ .fatal) (hp : pg % 0x1000 = 0)
    (hz : Z (zoneOf pg) = true) (h1 : K .out = true) (h2 : K .flue = true) : view K Z (w.flt pg cls bit info) = view K Z w := by
  have hregs : view K Z ((w.wr pg (clsField cls) 1).setBit pg HDR_FLT_CAUSE (bit - 16)) = view K Z w := by
    rw [view_setBit _ _ _ _ _ hp hz, view_wr _ _ _ _ _ hp hz]
  unfold Work.flt Work.fltTo
  dsimp only
  rw [if_neg hc]
  split
  · split
    · rw [view_when _ _ _ fun x => view_msix _ _ h1, hregs]
    · rw [view_setFlue _ _ h2, view_when _ _ _ fun x => view_msix _ _ h1, hregs]
  · rw [view_when _ _ _ fun x => view_msix _ _ h1, hregs]

theorem Work.Alters.flt {ks : List Kind} {l : List Nat} {pg bit : Nat} {cls : FaultClass} {info : Word} (h : w.Alters ks l v) (hc : cls ≠ .fatal)
    (hp : pg % 0x1000 = 0) (h1 : .out ∈ ks) (h2 : .flue ∈ ks) (hl : pg + HDR_FLT_CAUSE.at 0 ∈ l) : w.Alters ks l (v.flt pg cls bit info) :=
  ⟨fun k hk => k.same_trans (h.kinds k hk) (same_of_view (K := fun k => decide (k ∈ ks)) (Z := allZones)
      (view_flt_soft hc hp rfl (decide_eq_true h1) (decide_eq_true h2)) k (decide_eq_false hk)),
    keeps_flt h.words hl⟩

/-! ### The units and the lane of a cluster that stops -/

theorem un_modUn_stop (v : Work) (i : Nat) (t : Int) : ((v.modUn i fun u => u.stop t).un i).emit = false := by
  rcases vget_vmod_same v.unit i (fun u => u.stop t) with h | ⟨h, -⟩
  · rw [show (v.modUn i fun u => u.stop t).un i = (v.un i).stop t from h]
    rfl
  · rw [show (v.modUn i fun u => u.stop t).un i = default from h]
    rfl

theorem un_modUn_ne {i j : Nat} (h : i ≠ j) (f : LegUnit → LegUnit) : (w.modUn i f).un j = w.un j := by
  simp [Work.un, Work.modUn, vget, vmod, h]

/-- A stopped unit stays stopped while others stop. -/
theorem un_modUn_off {i j : Nat} (t : Int) (h : (w.un j).emit = false) : ((w.modUn i fun u => u.stop t).un j).emit = false := by
  by_cases hij : i = j
  · rw [← hij]
    exact un_modUn_stop ..
  · rw [un_modUn_ne hij, h]

theorem un_of_view {K : Kind → Bool} {Z : Zone → Bool} (h : view K Z v = view K Z w) (hk : K .unit = false) (i : Nat) : v.un i = w.un i := by
  rw [Work.un, show v.unit = w.unit from same_of_view h .unit hk, Work.un]

theorem ln_of_view {K : Kind → Bool} {Z : Zone → Bool} (h : view K Z v = view K Z w) (hk : K .lane = false) (i : Nat) : v.ln i = w.ln i := by
  rw [Work.ln, show v.lane = w.lane from same_of_view h .lane hk, Work.ln]

/-- Every kind of state but the units. -/
def offUnits : Kind → Bool := fun k => decide (k ≠ .unit)

theorem stopUnits_off {o : Nat} {p : Nat × Nat} (hp : p ∈ w.legs o) : ((w.stopUnits o).un p.2).emit = false := by
  unfold Work.stopUnits
  dsimp only
  rw [un_of_view (K := offUnits) (Z := allZones) (view_modLn _ _ _ rfl) rfl]
  exact each_sets (P := fun v => (v.un p.2).emit = false) hp (fun v => un_modUn_stop v _ _) (fun v q hv => un_modUn_off _ hv) w

theorem ln_modLn_same (w : Work) (o : Fin 48) (f : Lane → Lane) : (w.modLn o f).ln o = f (w.ln o) := by simp [Work.ln, Work.modLn, vget, vmod]

theorem ln_modLn_ne {i j : Nat} (h : i ≠ j) (f : Lane → Lane) : (w.modLn i f).ln j = w.ln j := by simp [Work.ln, Work.modLn, vget, vmod, h]

/-! ### The safe action (R248) -/

/-- SAFE goes out on the cluster's lanes. -/
def Work.safeSent (w : Work) (o : Nat) : Work := (w.stopUnits o).each ((w.stopUnits o).lanesOf o) fun w l => w.modLn l fun k => { k with safe := some 0 }

theorem safeAction_eq (w : Work) (o cause : Nat) : w.safeAction o cause =
    (((w.safeSent o).cstat o CLU_CSTAT_SAFE_ACT 1).cstat o CLU_CSTAT_LOCK_CAUSE cause).count (pgCLU o) CLU_LOCK_COUNT := rfl

theorem safeSent_ln (w : Work) (o : Fin 48) : ((w.safeSent o).ln o).safe = some 0 := by
  have hset (v : Work) : ((v.modLn o fun k => { k with safe := some 0 }).ln o).safe = some 0 := by rw [ln_modLn_same]
  have hmem : o.val ∈ (w.stopUnits o).lanesOf o := by
    unfold Work.lanesOf
    split
    · exact List.mem_cons_self
    · exact List.mem_singleton.2 rfl
  refine each_sets (P := fun v => (v.ln o).safe = some 0) hmem hset (fun v i hv => ?_) _
  by_cases hi : i = o.val
  · rw [hi]
    exact hset v
  · rw [ln_modLn_ne hi, hv]

theorem safeSent_un (w : Work) (o i : Nat) : (w.safeSent o).un i = (w.stopUnits o).un i :=
  un_of_view (K := offUnits) (Z := allZones) (view_each _ _ _ fun v l => view_modLn v l _ rfl) rfl i

theorem rd_safeSent (w : Work) (o pg : Nat) (f : Field) : (w.safeSent o).rd pg f = w.rd pg f := by
  have hview : view allKinds (fun _ => false) (w.safeSent o) = view allKinds (fun _ => false) w := by
    rw [Work.safeSent, view_each _ _ _ fun v l => view_modLn v l _ rfl, view_stopUnits _ _ rfl rfl]
  exact rd_congr (word_of_view hview _ rfl)

/-- The registers alone follow what is sent. -/
theorem view_safeAction_regs (w : Work) (o cause : Nat) : view noKinds cluPages (w.safeAction o cause) = view noKinds cluPages (w.safeSent o) := by
  rw [safeAction_eq, view_count _ _ _ _ _ (mod_pgCLU o) (by rw [zone_pgCLU]; rfl), view_cstat _ _ _ _ rfl, view_cstat _ _ _ _ rfl]

/-- The forced safe action as a cluster in service takes it. -/
def Work.forcedNow (w : Work) (o cause : Nat) : Work := (w.safeAction o cause).modCl o fun k => { k with safePend := true, rgSrc := 0 }

theorem forcedSafe_serving {c : Fin 48} {cause : Nat} (h : w.Serves c) (h5 : cause ≠ 5) : w.forcedSafe c cause = w.forcedNow c cause := by
  obtain ⟨ho, hstands, hservice, hpend⟩ := h
  have hst : ∀ x, inService x = true → x ≠ 6 ∧ x ≠ 0 ∧ x ≠ 4 := by
    rintro x hx
    refine ⟨?_, ?_, ?_⟩ <;> (rintro rfl; exact absurd hx (by decide))
  obtain ⟨h6, h0, h4⟩ := hst _ hservice
  unfold Work.forcedSafe
  dsimp only
  rw [ho, hstands, if_neg (by decide), if_neg (by simp [h6, hpend]), if_neg (by simp [h0, h4])]
  exact if_neg h5

theorem un_modCl (w : Work) (o i : Nat) (f : Cluster → Cluster) : (w.modCl o f).un i = w.un i := rfl
theorem ln_modCl (w : Work) (o i : Nat) (f : Cluster → Cluster) : (w.modCl o f).ln i = w.ln i := rfl

theorem forcedNow_shows (w : Work) (c : Fin 48) {cause : Nat} (hc : cause < 2 ^ 4) :
    (w.forcedNow c cause).rd (pgCLU c) CLU_CSTAT_SAFE_ACT = 1 ∧ (w.forcedNow c cause).rd (pgCLU c) CLU_CSTAT_LOCK_CAUSE = cause ∧
    (w.forcedNow c cause).rd (pgCLU c) CLU_LOCK_COUNT = min (w.rd (pgCLU c) CLU_LOCK_COUNT + 1) CLU_LOCK_COUNT.max ∧
    ((w.forcedNow c cause).cl c).safePend = true ∧ (∀ p ∈ w.legs c, ((w.forcedNow c cause).un p.2).emit = false) ∧
    ((w.forcedNow c cause).ln c).safe = some 0 := by
  have hrd (f : Field) : (w.forcedNow c cause).rd (pgCLU c) f = (w.safeAction c cause).rd (pgCLU c) f := by rw [Work.forcedNow, rd_modCl]
  have hregs := view_safeAction_regs w c cause
  have hun (i : Nat) : (w.forcedNow c cause).un i = (w.safeSent c).un i := by rw [Work.forcedNow, un_modCl, un_of_view hregs rfl]
  have hln : (w.forcedNow c cause).ln c = (w.safeSent c).ln c := by rw [Work.forcedNow, ln_modCl, ln_of_view hregs rfl]
  refine ⟨?_, ?_, ?_, ?_, fun p hp => ?_, ?_⟩
  · rw [hrd, safeAction_eq, rd_count_clear _ _ (by decide), rd_cstat_clear _ _ _ _ (by decide), rd_cstat_same _ _ _ (by decide)]
    rfl
  · rw [hrd, safeAction_eq, rd_count_clear _ _ (by decide), rd_cstat_same _ _ _ (by decide)]
    exact Nat.mod_eq_of_lt (lt_of_lt_of_eq hc (congrArg (2 ^ ·) rfl))
  · rw [hrd, safeAction_eq, rd_count _ _ _ _ _ (by decide), rd_cstat_clear _ _ _ _ (by decide), rd_cstat_clear _ _ _ _ (by decide), rd_safeSent]
  · rw [Work.forcedNow, cl_modCl_same]
  · rw [hun, safeSent_un, stopUnits_off hp]
  · rw [hln, safeSent_ln]

/-- FLT of a cluster's page is none of it. -/
theorem word_forcedNow_flt (w : Work) (c d : Nat) (cause : Nat) : (w.forcedNow c cause).word (pgCLU d + 0x010) = w.word (pgCLU d + 0x010) := by
  have hview : view allKinds (fun _ => false) (w.safeSent c) = view allKinds (fun _ => false) w := by
    rw [Work.safeSent, view_each _ _ _ fun v l => view_modLn v l _ rfl, view_stopUnits _ _ rfl rfl]
  have hd := mod_pgCLU d
  have hcstat (v : Work) (f : Field) (x : Nat) (hf : f.at 0 = 0x48) : (v.cstat c f x).word (pgCLU d + 0x010) = v.word (pgCLU d + 0x010) :=
    each_keeps (·.word (pgCLU d + 0x010)) _ _ _ fun u e => word_wr_ne _ _ _ _ _ _ (by have := mod_pgCLU e; omega)
  have hcount : CLU_LOCK_COUNT.at 0 = 0x74 := rfl
  have hc := mod_pgCLU c
  rw [Work.forcedNow, word_modCl, safeAction_eq, word_count_ne _ _ _ _ _ _ (by omega), hcstat _ _ _ rfl, hcstat _ _ _ rfl, word_of_view hview _ rfl]

/-! ### The timer of pre-charge (R252) -/

/-- The timer has run out, and its fault is raised. -/
def Work.pcFault (w : Work) (o : Nat) : Work := (w.modCl o fun k => { k with pcTimer := false, pcExpired := false }).flt (pgCLU o) .uc 18

theorem Work.Serves.pcFault {c : Fin 48} (h : w.Serves c) : (w.pcFault c).Serves c := by
  obtain ⟨ho, hstands, hservice, hpend⟩ := h
  have hsame : (w.modCl c fun k => { k with pcTimer := false, pcExpired := false }).SameCommand (w.pcFault c) := (Work.SameCommand.refl _).flt
  have hview : view (fun k => decide (k ∈ [Kind.out, .flue])) allZones (w.pcFault c) =
      view (fun k => decide (k ∈ [Kind.out, .flue])) allZones (w.modCl c fun k => { k with pcTimer := false, pcExpired := false }) :=
    view_flt_soft (by decide) (mod_pgCLU c) rfl rfl rfl
  have hclu : (w.pcFault c).cl c = (w.modCl c fun k => { k with pcTimer := false, pcExpired := false }).cl c :=
    congrArg (vget · c.val) (same_of_view hview .clu rfl)
  have hrgn : (w.pcFault c).rgn = w.rgn := same_of_view hview .rgn rfl
  have htopo : (w.pcFault c).topo c = w.topo c := by
    have hat : CLU_CFG_TOPO.at 0 = 0x40 := rfl
    exact (rd_flt_ne _ _ _ _ _ _ _ _ (by omega)).trans (rd_modCl ..)
  have hstate : (w.pcFault c).cstate c = w.cstate c := (hsame.fields _ (by decide) c).trans (rd_modCl ..)
  refine ⟨?_, ?_, ?_, ?_⟩
  · rw [Work.owner, htopo, ← Work.owner, ho]
  · rw [Work.standsBy, Work.rg, hrgn, ← Work.rg, ← Work.standsBy, hstands]
  · rw [hstate, hservice]
  · rw [hclu, cl_modCl_same, hpend]

theorem legs_pcFault (w : Work) (c : Fin 48) : (w.pcFault c).legs c = w.legs c := by
  have htopo : (w.pcFault c).topo c = w.topo c := by
    have hat : CLU_CFG_TOPO.at 0 = 0x40 := rfl
    exact (rd_flt_ne _ _ _ _ _ _ _ _ (by omega)).trans (rd_modCl ..)
  unfold Work.legs Work.legUnit
  rw [htopo]

theorem pcTimeout_serving {c : Fin 48} (h : w.Serves c) : w.pcTimeout c = (w.pcFault c).forcedNow c 7 := forcedSafe_serving h.pcFault (by decide)

/-- R252: the timer raises UC 18 and the forced safe action with cause 7, from any device that shows the cluster as `s` does. -/
theorem pcTimeout_forces {s : State} {g : Work → Work} {c : Fin 48} (h : w.Serves c) (hg : g s.work = w.pcTimeout c)
    (hlegs : w.legs c = s.work.legs c) (hcount : w.rd (pgCLU c) CLU_LOCK_COUNT = s.rd (pgCLU c) CLU_LOCK_COUNT) :
    (s.onDev g).flagged (pgCLU c) .uc 18 ∧ ForcedSafe c 7 s (s.onDev g) := by
  have hg' : g s.work = (w.pcFault c).forcedNow c 7 := hg.trans (pcTimeout_serving h)
  obtain ⟨hact, hcause, hlock, hpend, hoff, hsafe⟩ := forcedNow_shows (w.pcFault c) c (by decide : 7 < 2 ^ 4)
  have hkept : (w.pcFault c).rd (pgCLU c) CLU_LOCK_COUNT = s.rd (pgCLU c) CLU_LOCK_COUNT := by
    have hat : CLU_LOCK_COUNT.at 0 = 0x74 := rfl
    rw [← hcount]
    exact (rd_flt_ne _ _ _ _ _ _ _ _ (by omega)).trans (rd_modCl ..)
  rw [legs_pcFault, hlegs] at hoff
  rw [hkept] at hlock
  refine ⟨flagged_of_flt (v := w.modCl c fun k => { k with pcTimer := false, pcExpired := false }) (info := 0) (by decide) (by decide) ?_, ?_⟩
  · rw [hg', word_forcedNow_flt, Work.pcFault]
  · unfold ForcedSafe
    have hun (i : Nat) : (s.onDev g).work.un i = (g s.work).un i := rfl
    have hln : (s.onDev g).work.ln c = (g s.work).ln c := rfl
    simp only [State.rd_onDev, State.cl_onDev, hun, hln, hg']
    exact ⟨hact, hcause, hlock, hpend, hoff, hsafe⟩

end Sys2Proof.Machine
end

section
-- One task at a time: the check bounds the memory of all of Lean's threads together.
set_option Elab.async false
set_option linter.all false

/-! PROOF. Settles O39: the timers of a cluster, the census, and the self-test of a cell end. -/

namespace Sys2Proof.Machine

variable {s : State} {w v : Work} {c : Fin 48}

/-! ### Pre-charge (R252, R263) -/

theorem cstate_of (x : Nat) (h : s.rd (pgCLU c) CLU_CSTAT_STATE = x) : s.work.cstate c = x := h

theorem precharge_times_out (hs : s.serving c) (ht : (s.work.cl c).pcTimer = true) (hst : s.rd (pgCLU c) CLU_CSTAT_STATE = 1)
    (hb : s.work.boundaryDue (c / 12) = false) : Runs (.prechargeTimeout c) s fun t => t.flagged (pgCLU c) .uc 18 ∧ ForcedSafe c 7 s t ∧ TimeKept s t := by
  have hexec : exec (.prechargeTimeout c) s = nextDev s fun w => w.pcTimeout c :=
    congrArg Host.Outcome.next (onDev_congr ((if_pos ⟨ht, cstate_of 1 hst⟩).trans (if_neg (by rw [hb]; decide))))
  obtain ⟨hflag, hforce⟩ := pcTimeout_forces (w := s.work) (g := fun w => w.pcTimeout c) hs rfl rfl rfl
  exact runs_dev hexec ⟨hflag, hforce, timeKept_onDev ..⟩

theorem precharge_waits (ht : (s.work.cl c).pcTimer = true) (hst : s.rd (pgCLU c) CLU_CSTAT_STATE = 1) (hb : s.work.boundaryDue (c / 12) = true) :
    Runs (.prechargeTimeout c) s fun t => (t.work.cl c).pcExpired = true ∧ t.rd (pgCLU c) CLU_CSTAT_STATE = 1 ∧ Changes [.clu] [] s t := by
  have hexec : exec (.prechargeTimeout c) s = nextDev s fun w => w.modCl c fun k => { k with pcExpired := true } :=
    congrArg Host.Outcome.next (onDev_congr ((if_pos ⟨ht, cstate_of 1 hst⟩).trans (if_pos hb)))
  refine runs_dev hexec ⟨?_, (rd_modCl ..).trans hst, (Work.Alters.refl.through (view_modCl _ _ _ rfl)).changes⟩
  exact congrArg Cluster.pcExpired (cl_modCl_same s.work c _)

theorem precharge_idle (h : (s.work.cl c).pcTimer = false ∨ s.rd (pgCLU c) CLU_CSTAT_STATE ≠ 1) : Runs (.prechargeTimeout c) s fun t => t = s := by
  refine runs_dev rfl (onDev_self (if_neg ?_))
  rintro ⟨ht, hst⟩
  rcases h with h | h
  · rw [h] at ht
    exact absurd ht (by decide)
  · exact h hst

/-! ### The boundary compares first (R263) -/

/-- The link voltage as measured stands in PC_STAT. -/
def Work.vlinkShown (w : Work) (o : Nat) : Work := (w.vlink o).1

theorem vlinkShown_eq (w : Work) (o : Nat) : ∃ m, w.vlinkShown o = w.wr (pgCLU o) CLU_PC_STAT_VLINK m := ⟨_, rfl⟩

theorem vlinkShown_same (w : Work) (o : Nat) : w.SameCommand (w.vlinkShown o) := by
  obtain ⟨m, hm⟩ := vlinkShown_eq w o
  rw [hm]
  exact (Work.SameCommand.refl w).wr (by decide)

/-- Pre-charge at a boundary: done, or timed out. -/
def Work.prechargeStep (w : Work) (o : Nat) (b : Int) : Work :=
  if (w.vlink o).2 then ((w.vlinkShown o).setState o 2 b).sendCmd o 2 else (w.vlinkShown o).when (w.cl o).pcExpired fun w => w.pcTimeout o

/-- With no command pending and no lockout, the step is that of pre-charge alone. -/
theorem clusterStep4_precharge {o : Nat} {b : Int} (hst : w.cstate o = 1) (hp : (w.prechargeStep o b).rd (pgCLU o) CLU_CSTAT_PEND_CMD = 0)
    (h6 : (w.prechargeStep o b).cstate o ≠ 6) : w.clusterStep4 o b = w.prechargeStep o b := by
  have hstep : w.clusterStep4 o b =
      (let u := if w.cstate o = 1 then w.prechargeStep o b else w
       let code := u.rd (pgCLU o) CLU_CSTAT_PEND_CMD
       let u := if code = 0 then u else u.evalCmd o code b
       let cause := u.rd (pgCLU o) CLU_CSTAT_LOCK_CAUSE
       if u.cstate o = 6 ∧ u.on (pgCLU o) CLU_BYP_CFG_AUTO ∧ 1 ≤ cause ∧ bitOf (u.rd (pgCLU o) CLU_BYP_CFG_AMASK) (cause - 1) ∧ u.laneUp o then
         u.toBypass o b
       else u) := rfl
  rw [hstep]
  dsimp only
  rw [if_pos hst, if_pos hp, if_neg fun h => h6 h.1]

theorem rd_pend_zero (h : ¬ s.on (pgCLU c) CLU_CSTAT_PEND_CMD) : s.work.rd (pgCLU c) CLU_CSTAT_PEND_CMD = 0 := by
  rw [← State.on_work, on_iff, not_not] at h
  exact h

/-- Reached: the cluster is READY. -/
theorem boundary_reached {b : Int} (hst : s.rd (pgCLU c) CLU_CSTAT_STATE = 1) (hp : ¬ s.on (pgCLU c) CLU_CSTAT_PEND_CMD) (hv : (s.work.vlink c).2 = true) :
    (s.onDev fun w => w.clusterStep4 c b).rd (pgCLU c) CLU_CSTAT_STATE = 2 := by
  obtain ⟨hstate, hpend, -⟩ := setState_shows (s.work.vlinkShown c) c b (by decide : 2 < 8)
  have hready : s.work.prechargeStep c b = ((s.work.vlinkShown c).setState c 2 b).sendCmd c 2 := if_pos hv
  have hrd (f : Field) : (s.work.prechargeStep c b).rd (pgCLU c) f = ((s.work.vlinkShown c).setState c 2 b).rd (pgCLU c) f := by
    rw [hready]
    exact rd_modLn ..
  have hquiet : ((s.work.vlinkShown c).setState c 2 b).rd (pgCLU c) CLU_CSTAT_PEND_CMD = 0 := by
    rw [hpend, (vlinkShown_same s.work c).fields _ (by decide), rd_pend_zero hp]
  have hstep : s.work.clusterStep4 c b = s.work.prechargeStep c b :=
    clusterStep4_precharge (cstate_of 1 hst) (by rw [hrd, hquiet]) (by rw [Work.cstate, hrd, hstate]; decide)
  rw [State.rd_onDev, hstep, hrd, hstate]

/-- Not reached: the timer has its effect. -/
theorem boundary_times_out {b : Int} (hs : s.serving c) (hst : s.rd (pgCLU c) CLU_CSTAT_STATE = 1) (hp : ¬ s.on (pgCLU c) CLU_CSTAT_PEND_CMD)
    (hx : (s.work.cl c).pcExpired = true) (hv : (s.work.vlink c).2 = false) :
    (s.onDev fun w => w.clusterStep4 c b).flagged (pgCLU c) .uc 18 ∧ ForcedSafe c 7 s (s.onDev fun w => w.clusterStep4 c b) := by
  have hserve : s.work.Serves c := hs
  obtain ⟨m, hm⟩ := vlinkShown_eq s.work c
  have hout : s.work.prechargeStep c b = (s.work.vlinkShown c).pcTimeout c := by
    rw [Work.prechargeStep, hv, hx, if_neg (by decide), Work.when, if_pos rfl]
  have hsame : ((s.work.vlinkShown c).modCl c fun k => { k with pcTimer := false, pcExpired := false }).SameCommand ((s.work.vlinkShown c).pcTimeout c) :=
    Work.SameCommand.forcedSafe (Work.SameCommand.flt (.refl _)) _ _ _
  have hfield {f : Field} (hf : f ∈ commandFields) : (s.work.prechargeStep c b).rd (pgCLU c) f = s.work.rd (pgCLU c) f := by
    rw [hout, hsame.fields f hf, rd_modCl, (vlinkShown_same s.work c).fields f hf]
  have hstep : s.work.clusterStep4 c b = (s.work.vlinkShown c).pcTimeout c := by
    rw [← hout]
    exact clusterStep4_precharge (cstate_of 1 hst) (by rw [hfield (by decide), rd_pend_zero hp])
      (by rw [Work.cstate, hfield (by decide), State.rd_work, hst]; decide)
  have htopo : (s.work.vlinkShown c).topo c = s.work.topo c := by
    rw [hm]
    exact rd_wr_clear _ _ (by decide) _
  refine pcTimeout_forces (w := s.work.vlinkShown c) ?_ hstep ?_ ?_
  · rw [hm]
    exact hserve.wr (by decide) (by decide)
  · unfold Work.legs Work.legUnit
    rw [htopo]
  · rw [hm, rd_wr_clear _ _ (by decide), State.rd_work]

/-! ### The bypass timer (R254) -/

theorem bypass_times_out (ht : (s.work.cl c).bypTimer = true) (hst : s.rd (pgCLU c) CLU_CSTAT_STATE = 4) (hb : ¬ s.on (pgCLU c) CLU_CSTAT_BYPASSED) :
    Runs (.bypassTimeout c) s fun t => t.flagged (pgCLU c) .uc 19 ∧ t.rd (pgCLU c) CLU_CSTAT_STATE = 4 ∧
      Changes [.clu, .flue, .out] [pgCLU c + HDR_FLT_CAUSE.at 0] s t := by
  rw [← State.on_work] at hb
  have hexec : exec (.bypassTimeout c) s = nextDev s fun w => (w.modCl c fun k => { k with bypTimer := false }).flt (pgCLU c) .uc 19 :=
    congrArg Host.Outcome.next (onDev_congr (if_pos ⟨ht, cstate_of 4 hst, hb⟩))
  refine runs_dev hexec ⟨flagged_of_flt (by decide) (by decide) rfl, ?_, ?_⟩
  · have hat : CLU_CSTAT_STATE.at 0 = 0x48 := rfl
    rw [State.rd_onDev, rd_flt_ne _ _ _ _ _ _ _ _ (by omega), rd_modCl, State.rd_work, hst]
  · have halters : s.work.Alters [.clu, .flue, .out] [pgCLU c + HDR_FLT_CAUSE.at 0]
        ((s.work.modCl c fun k => { k with bypTimer := false }).flt (pgCLU c) .uc 19) :=
      (Work.Alters.refl.through (view_modCl _ _ _ rfl)).flt (by decide) (mod_pgCLU c) (by decide) (by decide) List.mem_cons_self
    exact halters.changes

/-! ### The census (R257) -/

theorem census_ages (n g : Fin 4) (hen : s.on (pgRG n) RG_CGRP_EN g) (hm : ∃ m ∈ s.dev.net.masks, m.sgid = s.rd (pgRG n) RG_CGRP_SGID g) :
    Runs (.censusMaskAged n g) s fun t => t.rd (pgRG n) RG_CGRP_AGED g = 1 ∧ OnlyDwords [pgRG n + RG_CGRP_AGED.at g] s t := by
  obtain ⟨m, hmem, hsg⟩ := hm
  have hany : (s.work.net.masks.any fun m => m.sgid == s.work.rd (pgRG n) RG_CGRP_SGID g) = true := List.any_eq_true.2 ⟨m, hmem, beq_iff_eq.2 hsg⟩
  rw [← State.on_work] at hen
  have hexec : exec (.censusMaskAged n g) s = nextDev s fun w => w.wr (pgRG n) RG_CGRP_AGED 1 g := by
    refine congrArg Host.Outcome.next (onDev_congr ?_)
    dsimp only
    rw [hen, hany]
    rfl
  exact runs_dev hexec ⟨rd_wr_same _ _ _ _ _ (by decide), (Work.Alters.refl.wr List.mem_cons_self).changes⟩

/-- The registers of SYSN that a dropped packet counts in. -/
def dropDwords : List Nat := [pgSYSN + SYSN_PKT_DROP_COUNT.at 0, pgSYSN + HDR_FLT_CAUSE.at 0]

theorem Work.Alters.slEnq (h : w.Alters [.net, .sl, .flue, .out] dropDwords v) (p : Nat) (k : Pkt) (bad : Bool) :
    w.Alters [.net, .sl, .flue, .out] dropDwords (v.slEnq p k bad) := by
  unfold Work.slEnq
  split
  · exact h
  · split
    · exact h.through (view_modSl _ _ _ rfl)
    · exact (h.count (by decide)).flt (by decide) mod_pgSYSN (by decide) (by decide) (by decide)

/-- A MASK goes to every package: it floods, and this package keeps a copy. -/
theorem Work.Alters.maskSend (h : w.Alters [.net, .sl, .flue, .out] dropDwords v) (sg : Nat) :
    w.Alters [.net, .sl, .flue, .out] dropDwords (v.maskSend sg) := by
  have hkind (u : Work) (sq : Nat) (l : List Word) : pktKind (u.mkPkt 0x13 0x8000 sq l) = 2 :=
    show (BitVec.ofNat 16 0x8000).toNat / 2 ^ 14 = 2 by decide
  have hseq : w.Alters [.net, .sl, .flue, .out] dropDwords (v.nextSeq 0x13).1 := h.through (view_nextSeq _ _ rfl)
  unfold Work.maskSend Work.netSend
  dsimp only
  rw [hkind, if_neg (by decide)]
  refine Work.Alters.when (each_closed (P := w.Alters [.net, .sl, .flue, .out] dropDwords) (fun u p hu => hu.slEnq ..) hseq) ?_
  exact Work.Alters.through (each_closed (P := w.Alters [.net, .sl, .flue, .out] dropDwords) (fun u p hu => hu.slEnq ..) hseq) (view_modNet _ _ rfl)

theorem census_repeats (h : s.work.role ≠ 1) : Runs .censusMaskRepeat s fun t =>
    t = s.onDev (fun w => w.each w.spreadGroups fun w sg => w.maskSend sg) ∧
    Changes [.net, .sl, .flue, .out] [pgSYSN + SYSN_PKT_DROP_COUNT.at 0, pgSYSN + HDR_FLT_CAUSE.at 0] s t := by
  have hexec : exec .censusMaskRepeat s = nextDev s fun w => w.each w.spreadGroups fun w sg => w.maskSend sg :=
    congrArg Host.Outcome.next (onDev_congr (if_neg h))
  have halters : s.work.Alters [.net, .sl, .flue, .out] dropDwords (s.work.each s.work.spreadGroups fun w sg => w.maskSend sg) :=
    each_closed (P := s.work.Alters [.net, .sl, .flue, .out] dropDwords) (fun u sg hu => hu.maskSend sg) .refl
  exact runs_dev hexec ⟨rfl, halters.changes⟩

theorem census_standby (h : s.work.role = 1) : Runs .censusMaskRepeat s fun t => t = s := runs_dev rfl (onDev_self (if_pos h))

end Sys2Proof.Machine
end

section
-- One task at a time: the check bounds the memory of all of Lean's threads together.
set_option Elab.async false
set_option linter.all false

/-! PROOF. Settles O39, its last part: the self-test of a cell end (R373). -/

namespace Sys2Proof.Machine

variable {s : State} {w v : Work} {c : Fin 48}

/-! ### The masks in ST_REQ -/

/-- What GO makes of the masks that it carries (R64, R373). -/
def Work.masksTaken (w : Work) (c desat vds : Nat) : Work :=
  w.unlocked (pgCLU c) fun w => (w.wr (pgCLU c) CLU_ST_REQ_DESAT desat).wr (pgCLU c) CLU_ST_REQ_VDS vds

/-- The masks as ST_REQ holds them: taken, or kept on a locked page. -/
structure MasksIn (s : State) (c : Nat) (desat vds : Nat) (v : Work) : Prop where
  taken : ¬ s.on (pgCLU c) HDR_LOCK_LOCKED → v.rd (pgCLU c) CLU_ST_REQ_DESAT = desat ∧ v.rd (pgCLU c) CLU_ST_REQ_VDS = vds
  kept : s.on (pgCLU c) HDR_LOCK_LOCKED → v.rd (pgCLU c) CLU_ST_REQ_DESAT = s.rd (pgCLU c) CLU_ST_REQ_DESAT ∧
    v.rd (pgCLU c) CLU_ST_REQ_VDS = s.rd (pgCLU c) CLU_ST_REQ_VDS ∧ v.rd (pgCLU c) HDR_STAT_LOCK_WR = 1

theorem masksTaken_open (h : ¬ s.on (pgCLU c) HDR_LOCK_LOCKED) (desat vds : Nat) :
    s.work.masksTaken c desat vds = (s.work.wr (pgCLU c) CLU_ST_REQ_DESAT desat).wr (pgCLU c) CLU_ST_REQ_VDS vds := by
  rw [← State.on_work] at h
  exact if_neg h

theorem masksTaken_locked (h : s.on (pgCLU c) HDR_LOCK_LOCKED) (desat vds : Nat) :
    s.work.masksTaken c desat vds = s.work.wr (pgCLU c) HDR_STAT_LOCK_WR 1 := by
  rw [← State.on_work] at h
  exact if_pos h

theorem masksTaken_in (desat vds : BitVec 12) : MasksIn s c desat.toNat vds.toNat (s.work.masksTaken c desat.toNat vds.toNat) := by
  constructor
  · intro h
    rw [masksTaken_open h]
    exact ⟨((rd_wr_clear _ _ (by decide) _).trans (rd_wr_same _ _ _ _ _ (by decide))).trans (Nat.mod_eq_of_lt desat.isLt),
      (rd_wr_same _ _ _ _ _ (by decide)).trans (Nat.mod_eq_of_lt vds.isLt)⟩
  · intro h
    rw [masksTaken_locked h]
    exact ⟨rd_wr_clear _ _ (by decide) _, rd_wr_clear _ _ (by decide) _, rd_wr_same _ _ _ _ _ (by decide)⟩

theorem MasksIn.of_rd {desat vds : Nat} (h : MasksIn s c desat vds w)
    (hrd : ∀ f ∈ [CLU_ST_REQ_DESAT, CLU_ST_REQ_VDS, HDR_STAT_LOCK_WR], v.rd (pgCLU c) f = w.rd (pgCLU c) f) : MasksIn s c desat vds v :=
  ⟨fun hl => by rw [hrd _ (by decide), hrd _ (by decide)]; exact h.taken hl,
    fun hl => by rw [hrd _ (by decide), hrd _ (by decide), hrd _ (by decide)]; exact h.kept hl⟩

/-- The conditions of a self-test do not turn on the masks. -/
theorem masksTaken_gate (w : Work) (c desat vds : Nat) : w.SameGate (w.masksTaken c desat vds) := by
  unfold Work.masksTaken Work.unlocked
  split
  · exact (Work.SameGate.refl w).wr (by decide)
  · exact ((Work.SameGate.refl w).wr (by decide)).wr (by decide)

theorem masksTaken_owner (w : Work) (c desat vds : Nat) : (w.masksTaken c desat vds).owner c = w.owner c := by
  rw [Work.owner, (masksTaken_gate w c desat vds).topo, ← Work.owner]

theorem masksTaken_alters {l : List Nat} (h1 : pgCLU c + CLU_ST_REQ_DESAT.at 0 ∈ l) (h2 : pgCLU c + HDR_STAT_LOCK_WR.at 0 ∈ l) (desat vds : Nat) :
    w.Alters [] l (w.masksTaken c desat vds) := by
  unfold Work.masksTaken Work.unlocked
  split
  · exact Work.Alters.refl.wr h2
  · exact (Work.Alters.refl.wr h1).wr h1

/-! ### A self-test taken -/

theorem owner_lt (w : Work) (c : Fin 48) : w.owner c < 48 := by
  unfold Work.owner
  split <;> omega

/-- The self-test goes to the cell end. -/
def Work.stTaken (w : Work) (o desat vds : Nat) : Work :=
  ((w.wr (pgCLU o) CLU_PSTAT_ST_BUSY 1).sendCmd o 5 (BitVec.ofNat 64 (desat * 2 ^ 52 + vds * 2 ^ 40))).modCl o
    fun k => { k with st := some (none, desat, vds) }

theorem rd_stTaken (w : Work) (o desat vds pg : Nat) (f : Field) :
    (w.stTaken o desat vds).rd pg f = (w.wr (pgCLU o) CLU_PSTAT_ST_BUSY 1).rd pg f := by
  rw [Work.stTaken, rd_modCl, Work.sendCmd, rd_modLn]

theorem nextCmd_cmds (l : Lane) : l.nextCmd.cmds = l.cmds := by
  unfold Lane.nextCmd Lane.ask
  split
  · split <;> rfl
  · rfl

theorem cmds_stTaken (w : Work) (o : Fin 48) (desat vds : Nat) :
    ∃ arg, ((w.stTaken o desat vds).ln o).cmds = (w.ln o).cmds ++ [⟨5, arg⟩] := by
  have hwr : (w.wr (pgCLU o) CLU_PSTAT_ST_BUSY 1).ln o = w.ln o :=
    congrArg (vget · o.val) (same_of_view (K := noKinds) (Z := allZones) (view_wr _ _ _ _ _ (mod_pgCLU o) rfl) .lane rfl)
  refine ⟨BitVec.ofNat 64 (desat * 2 ^ 52 + vds * 2 ^ 40), ?_⟩
  rw [Work.stTaken, ln_modCl, Work.sendCmd, ln_modLn_same, nextCmd_cmds, hwr]

/-- The conditions under which GO is taken (R373). -/
def Work.StReady (w : Work) (o : Nat) : Prop := (w.cstate o = 0 ∨ w.cstate o = 2) ∧ w.laneUp o = true ∧ w.on (pgCLU o) CLU_PSTAT_ST_BUSY = false

theorem Work.SameGate.stReady (h : w.SameGate v) (o : Nat) : v.StReady o ↔ w.StReady o := by
  have hbusy : v.on (pgCLU o) CLU_PSTAT_ST_BUSY = w.on (pgCLU o) CLU_PSTAT_ST_BUSY := by rw [Work.on, h.clu _ (by decide), Work.on]
  rw [Work.StReady, h.cstate, h.laneUp, hbusy, ← Work.StReady]

theorem stGo_ready {o : Nat} (ho : w.owner c = o) (h : w.StReady o) :
    w.stGo c = w.stTaken o (w.rd (pgCLU c) CLU_ST_REQ_DESAT) (w.rd (pgCLU c) CLU_ST_REQ_VDS) := by
  subst ho
  exact if_pos ⟨h.1, h.2.1, Bool.eq_false_iff.1 h.2.2⟩

theorem stGo_unready {o : Nat} (ho : w.owner c = o) (h : ¬ w.StReady o) : w.stGo c = w.badval (pgCLU c) := by
  subst ho
  exact if_neg fun hc => h ⟨hc.1, hc.2.1, Bool.eq_false_iff.2 hc.2.2⟩

theorem stReq_eq (w : Work) (c desat vds : Nat) : w.stReq c desat vds = (w.masksTaken c desat vds).stGo c := rfl

/-- The three dwords that a taken GO may write. -/
def stDwords (c o : Nat) : List Nat := [pgCLU c + CLU_ST_REQ_DESAT.at 0, pgCLU o + CLU_PSTAT_ST_BUSY.at 0, pgCLU c + HDR_STAT_LOCK_WR.at 0]

theorem selftest_taken (hr : s.reaches (pgCLU c + CLU_ST_REQ_GO.at 0)) (desat vds : BitVec 12) {o : Nat} (ho : s.work.owner c = o) (h : s.work.StReady o) :
    Runs (.stReqGo c desat vds) s fun t => MasksIn s c desat.toNat vds.toNat t.work ∧ t.rd (pgCLU o) CLU_PSTAT_ST_BUSY = 1 ∧
      (t.work.cl o).st = some (none, t.rd (pgCLU c) CLU_ST_REQ_DESAT, t.rd (pgCLU c) CLU_ST_REQ_VDS) ∧
      (t.work.ln o).cmds.length = (s.work.ln o).cmds.length + 1 ∧ ((t.work.ln o).cmds.getLast?.map (·.op)) = some 5 ∧
      Changes [.clu, .lane] (stDwords c o) s t := by
  let x := s.work.masksTaken c desat.toNat vds.toNat
  have hlt : o < 48 := ho ▸ owner_lt s.work c
  have hreq : s.work.stReq c desat.toNat vds.toNat = x.stTaken o (x.rd (pgCLU c) CLU_ST_REQ_DESAT) (x.rd (pgCLU c) CLU_ST_REQ_VDS) := by
    rw [stReq_eq]
    exact stGo_ready ((masksTaken_owner ..).trans ho) (((masksTaken_gate ..).stReady o).2 h)
  have hrd (f : Field) (hf : CLU_PSTAT_ST_BUSY.Clear 0 f 0) : (s.work.stReq c desat.toNat vds.toNat).rd (pgCLU c) f = x.rd (pgCLU c) f := by
    rw [hreq, rd_stTaken, rd_wr_aligned _ (mod_pgCLU o) (mod_pgCLU c) hf]
  have hln : x.ln o = s.work.ln o := congrArg (vget · o) ((masksTaken_alters (l := stDwords c o) (by simp [stDwords]) (by simp [stDwords]) _ _).kinds .lane List.not_mem_nil)
  obtain ⟨arg, hcmds⟩ := cmds_stTaken x ⟨o, hlt⟩ (x.rd (pgCLU c) CLU_ST_REQ_DESAT) (x.rd (pgCLU c) CLU_ST_REQ_VDS)
  have hcmds' : ((s.work.stReq c desat.toNat vds.toNat).ln o).cmds = (s.work.ln o).cmds ++ [⟨5, arg⟩] := by
    rw [hreq, ← hln]
    exact hcmds
  refine runs_hostAct rfl hr ⟨(masksTaken_in desat vds).of_rd fun f hf => hrd f (by revert f; decide), ?_, ?_, ?_, ?_, ?_⟩
  · rw [State.rd_onDev, hreq, rd_stTaken, rd_wr_same _ _ _ _ _ (by decide)]
    rfl
  · rw [State.rd_onDev, State.rd_onDev, hrd _ (by decide), hrd _ (by decide)]
    show ((s.work.stReq c desat.toNat vds.toNat).cl o).st = _
    rw [hreq, Work.stTaken]
    exact congrArg Cluster.st (cl_modCl_same _ ⟨o, hlt⟩ _)
  · show ((s.work.stReq c desat.toNat vds.toNat).ln o).cmds.length = _
    rw [hcmds', List.length_append]
    rfl
  · show ((s.work.stReq c desat.toNat vds.toNat).ln o).cmds.getLast?.map (·.op) = _
    rw [hcmds', List.getLast?_concat]
    rfl
  · refine Work.Alters.changes ?_
    rw [hreq, Work.stTaken, Work.sendCmd]
    refine Work.Alters.through (Work.Alters.through (Work.Alters.wr ?_ (by simp [stDwords])) (view_modLn _ _ _ rfl)) (view_modCl _ _ _ rfl)
    exact (masksTaken_alters (by simp [stDwords]) (by simp [stDwords]) _ _).mono (List.nil_subset _) (List.Subset.refl _)

theorem selftest_refused (hr : s.reaches (pgCLU c + CLU_ST_REQ_GO.at 0)) (desat vds : BitVec 12) {o : Nat} (ho : s.work.owner c = o)
    (h : ¬ s.work.StReady o) : Runs (.stReqGo c desat vds) s fun t => MasksIn s c desat.toNat vds.toNat t.work ∧ t.rd (pgCLU c) HDR_STAT_BADVAL = 1 ∧
      OnlyDwords [pgCLU c + CLU_ST_REQ_DESAT.at 0, pgCLU c + HDR_STAT_BADVAL.at 0] s t := by
  have hreq : s.work.stReq c desat.toNat vds.toNat = (s.work.masksTaken c desat.toNat vds.toNat).badval (pgCLU c) := by
    rw [stReq_eq]
    exact stGo_unready ((masksTaken_owner ..).trans ho) fun hx => h (((masksTaken_gate ..).stReady o).1 hx)
  have hclear : ∀ f ∈ [CLU_ST_REQ_DESAT, CLU_ST_REQ_VDS, HDR_STAT_LOCK_WR], HDR_STAT_BADVAL.Clear 0 f 0 := by decide
  refine runs_hostAct rfl hr ⟨(masksTaken_in desat vds).of_rd fun f hf => ?_, ?_, ?_⟩
  · show (s.work.stReq c desat.toNat vds.toNat).rd _ f = _
    rw [hreq]
    exact rd_wr_clear _ _ (hclear f hf) _
  · rw [State.rd_onDev, hreq]
    exact rd_wr_same _ _ _ _ _ (by decide)
  · refine Work.Alters.changes ?_
    rw [hreq]
    have hstat : pgCLU c + HDR_STAT_BADVAL.at 0 ∈ [pgCLU c + CLU_ST_REQ_DESAT.at 0, pgCLU c + HDR_STAT_BADVAL.at 0] :=
      List.mem_cons_of_mem _ List.mem_cons_self
    exact (masksTaken_alters List.mem_cons_self hstat _ _).badval hstat

/-! ### A self-test without an answer -/

theorem cl_flt_soft (w : Work) (c d : Nat) : (w.flt (pgCLU c) .uc 25).cl d = w.cl d := by
  have hview : view (fun k => decide (k ∈ [Kind.out, .flue])) allZones (w.flt (pgCLU c) .uc 25) = view (fun k => decide (k ∈ [Kind.out, .flue])) allZones w :=
    view_flt_soft (by decide) (mod_pgCLU c) rfl rfl rfl
  exact congrArg (vget · d) (same_of_view hview .clu rfl)

/-- The self-test has failed, before its fault. -/
def Work.stFailed (w : Work) (c : Nat) : Work :=
  ((w.wr (pgCLU c) CLU_PSTAT_ST_BUSY 0).modCl c fun k => { k with st := none }).wr (pgCLU c) CLU_PSTAT_ST_FAIL 1

theorem stEnd_failed (w : Work) (c : Nat) : w.stEnd c false = (w.stFailed c).flt (pgCLU c) .uc 25 := by
  unfold Work.stEnd
  exact if_neg (by decide)

theorem stFailed_alters : w.Alters [.clu, .flue, .out] [pgCLU c + CLU_PSTAT_ST_BUSY.at 0, pgCLU c + HDR_FLT_CAUSE.at 0] (w.stFailed c) := by
  have hbusy : w.Alters [.clu, .flue, .out] [pgCLU c + CLU_PSTAT_ST_BUSY.at 0, pgCLU c + HDR_FLT_CAUSE.at 0] (w.wr (pgCLU c) CLU_PSTAT_ST_BUSY 0) :=
    Work.Alters.refl.wr List.mem_cons_self
  have hidle := hbusy.through (u := (w.wr (pgCLU c) CLU_PSTAT_ST_BUSY 0).modCl c fun k => { k with st := none }) (view_modCl _ _ _ rfl)
  exact hidle.wr List.mem_cons_self

theorem selftest_times_out (cseq desat vds : Nat) (h : (s.work.cl c).st = some (some cseq, desat, vds)) : Runs (.ceSelftestTimeout c) s fun t =>
    t.rd (pgCLU c) CLU_PSTAT_ST_BUSY = 0 ∧ t.rd (pgCLU c) CLU_PSTAT_ST_FAIL = 1 ∧ (t.work.cl c).st = none ∧ t.flagged (pgCLU c) .uc 25 ∧
    Changes [.clu, .flue, .out] [pgCLU c + CLU_PSTAT_ST_BUSY.at 0, pgCLU c + HDR_FLT_CAUSE.at 0] s t := by
  have hexec : exec (.ceSelftestTimeout c) s = nextDev s fun w => (w.stFailed c).flt (pgCLU c) .uc 25 := by
    refine congrArg Host.Outcome.next (onDev_congr ?_)
    rw [h]
    exact stEnd_failed ..
  have hat : CLU_PSTAT_ST_BUSY.at 0 = 0xC8 := rfl
  have hfail : CLU_PSTAT_ST_FAIL.at 0 = 0xC8 := rfl
  refine runs_dev hexec ⟨?_, ?_, ?_, flagged_of_flt (by decide) (by decide) rfl, ?_⟩
  · rw [State.rd_onDev, rd_flt_ne _ _ _ _ _ _ _ _ (by omega), Work.stFailed, rd_wr_clear _ _ (by decide), rd_modCl, rd_wr_same _ _ _ _ _ (by decide)]
    rfl
  · rw [State.rd_onDev, rd_flt_ne _ _ _ _ _ _ _ _ (by omega), Work.stFailed, rd_wr_same _ _ _ _ _ (by decide)]
    rfl
  · have hcl : ((s.work.stFailed c).flt (pgCLU c) .uc 25).cl c = { s.work.cl c with st := none } := by
      rw [cl_flt_soft, Work.stFailed, cl_wr, cl_modCl_same, cl_wr]
    rw [State.cl_onDev, hcl]
  · exact Work.Alters.changes (f := fun w => (w.stFailed c).flt (pgCLU c) .uc 25) (stFailed_alters.flt (cls := .uc) (by decide) (mod_pgCLU c) (by decide) (by decide)
      (List.mem_cons_of_mem _ List.mem_cons_self))

theorem stReady_iff {o : Nat} : s.work.StReady o ↔
    (s.rd (pgCLU o) CLU_CSTAT_STATE = 0 ∨ s.rd (pgCLU o) CLU_CSTAT_STATE = 2) ∧ s.work.laneUp o = true ∧ ¬ s.on (pgCLU o) CLU_PSTAT_ST_BUSY := by
  rw [Work.StReady, State.not_on_work, Work.cstate, State.rd_work]

/-- Settles O39: a cluster in service takes the forced safe action at once, and a boundary that finds the link voltage short gives the
timer its effect. That the boundary due is run before the timer is the model's choice (log entry 144). -/
theorem clusterTimersAndTests : Obligations.ClusterTimersAndTests := by
  intro s c
  refine ⟨fun hs ht hst => ⟨precharge_times_out hs ht hst, precharge_waits ht hst⟩, precharge_idle,
    fun b hs hst hp hx => ⟨boundary_reached hst hp, boundary_times_out hs hst hp hx⟩, bypass_times_out, census_ages, census_repeats, census_standby,
    fun desat vds hr => ⟨fun hok => ?_, fun hno => ?_⟩, selftest_times_out⟩
  · obtain ⟨t, hexec, hmasks, hrest⟩ := selftest_taken hr desat vds rfl (stReady_iff.2 hok)
    exact ⟨t, hexec, ⟨hmasks.taken, hmasks.kept⟩, hrest⟩
  · obtain ⟨t, hexec, hmasks, hrest⟩ := selftest_refused hr desat vds rfl (mt stReady_iff.1 hno)
    exact ⟨t, hexec, ⟨hmasks.taken, hmasks.kept⟩, hrest⟩

end Sys2Proof.Machine
end
